-- ==== Sys2Proof/Word.lean ====
section
/-!
DEFINITION. The widths the manual counts in and the plainest arithmetic over them: saturating and bounded counts,
a Bool as a one-bit number, and packing fields into a 32-bit register value (R8, R9, R13).
-/
namespace Sys2Proof

/-- One byte of DRAM (R9). -/
abbrev Byte := BitVec 8

/-- One register of the window: 32 bits, little-endian, bit 0 least significant (R9). -/
abbrev Word := BitVec 32

/-- A flag as the number a register field shows. -/
def b2n (b : Bool) : Nat := if b then 1 else 0

/-- The largest value of a field of `w` bits. -/
def fieldMax (w : Nat) : Nat := 2 ^ w - 1

/-- A counter of `w` bits that saturates. -/
def satAdd (w a b : Nat) : Nat := min (fieldMax w) (a + b)

/-- The bits `[lo+w-1:lo]` of a value. -/
def bits (v lo w : Nat) : Nat := v / 2 ^ lo % 2 ^ w

/-- Bit `n` of a value, as a flag. -/
def bitAt (v n : Nat) : Bool := v.testBit n

/-- The value of a register whose fields are given as (lowest bit, width, value). -/
def pack : List (Nat × Nat × Nat) → Nat
  | [] => 0
  | (lo, w, v) :: fs => v % 2 ^ w * 2 ^ lo + pack fs

/-- Division rounded up. -/
def ceilDiv (a b : Nat) : Nat := if b = 0 then 0 else (a + b - 1) / b

end Sys2Proof
end

