-- ==== Sys2Proof/Machine/Kinds.lean ====
section
/-!
DEFINITION. The closed sets of names the commands and the state share: device states (R14), heads and ports (R4, R529),
save triggers (R38, R127), block resets (R380) and the reset kinds (R548).
-/
namespace Sys2Proof

/-- The two CXL host ports (R2, row 1). -/
inductive Head where
  | a | b
  deriving DecidableEq, Repr

/-- Whoever reaches a register: one of the heads or the Rake Port (R529). -/
inductive Port where
  | headA | headB | rake
  deriving DecidableEq, Repr

/-- The device states of R14. -/
inductive DevState where
  | off | boot | unarmed | armed | harvest | salvage | sealed | reflood | recovery | halt
  deriving DecidableEq, Repr

/-- Why the device is in HALT (R15): each kind leaves HALT on events of its own. -/
inductive HaltKind where
  | none | thermal | fault | vabs
  deriving DecidableEq, Repr

/-- The save triggers of R127, in the order of R38's TRIGGER codes. -/
inductive Trigger where
  | pfail | vmain | thermal | go | harvestNow
  deriving DecidableEq, Repr

/-- The blocks the source table of R380 names for a block reset. -/
inductive FltBlock where
  | device | dramEngine | nandEngine | saveEngine | mailboxEngine | staging | panhouse | headA | headB | tally | none
  deriving DecidableEq, Repr

/-- What an event source reports (R366): one occurrence, a condition that begins, or a condition that ends. -/
inductive SrcEdge where
  | occurrence | rises | falls
  deriving DecidableEq, Repr

/-- The code of R14. -/
def DevState.code : DevState → Nat
  | .off => 0 | .boot => 1 | .unarmed => 2 | .armed => 3 | .harvest => 4
  | .salvage => 5 | .sealed => 6 | .reflood => 7 | .recovery => 8 | .halt => 9

/-- The TRIGGER code of GOV_LAST_SAVE (R44). -/
def Trigger.code : Trigger → Nat
  | .pfail => 1 | .vmain => 2 | .thermal => 3 | .go => 4 | .harvestNow => 5

/-- The port a head's own accesses come through. -/
def Head.port : Head → Port
  | .a => .headA | .b => .headB

/-- The other head. -/
def Head.other : Head → Head
  | .a => .b | .b => .a

/-- Head A is 0 and Head B is 1 wherever a number stands for a head. -/
def Head.code : Head → Nat
  | .a => 0 | .b => 1

/-- One value for each head. -/
structure PerHead (α : Type) where
  a : α
  b : α
  deriving DecidableEq, Repr

def PerHead.get {α : Type} (p : PerHead α) : Head → α
  | .a => p.a | .b => p.b

def PerHead.set {α : Type} (p : PerHead α) (h : Head) (v : α) : PerHead α :=
  match h with
  | .a => { p with a := v }
  | .b => { p with b := v }

/-- One value for each port. -/
structure PerPort (α : Type) where
  headA : α
  headB : α
  rake  : α
  deriving DecidableEq, Repr

def PerPort.get {α : Type} (p : PerPort α) : Port → α
  | .headA => p.headA | .headB => p.headB | .rake => p.rake

def PerPort.set {α : Type} (p : PerPort α) (q : Port) (v : α) : PerPort α :=
  match q with
  | .headA => { p with headA := v }
  | .headB => { p with headB := v }
  | .rake => { p with rake := v }

/-- A sparse table: keys strictly rising, no entry equal to the table's default. -/
abbrev Tbl (α : Type) := List (Nat × α)

/-- A set of numbers, strictly rising. -/
abbrev NSet := List Nat

end Sys2Proof
end

