-- ==== Sys2Proof/Machine/BlocksA.lean ====
section
/-!
DEFINITION. State of the Persistence Contract and governor outputs (chapter 01), the Fault Collector (chapter 13) and
Tally (chapter 14). Every field's default is its value in State.reset.
-/
namespace Sys2Proof.Machine

/-- The device as a whole: R14's state, the domains of R544 and where a start stands. [log 5: DESIGN CHOICE] -/
structure Dev where
  /-- the state of R14; a fresh machine has VAON in range and a start before it -/
  st : DevState := .boot
  halt : HaltKind := .none
  /-- a start is due: its boot ROM has not run yet (R427, R544) -/
  startDue : Bool := true
  /-- the main domain is released from reset (R544) -/
  mainUp : Bool := true
  /-- host-ready has been reached in this start (R167, R374) -/
  hostReady : Bool := false
  /-- AON time of host-ready, or of the end of the boot order -/
  readyUs : Nat := 0
  /-- AON time in microseconds since the always-on domain came up; runs in every state but OFF -/
  aonUs : Nat := 0
  /-- AON time at which the current start began -/
  startUs : Nat := 0
  /-- trigger code of the save that ended in SEALED or in HALT under R61 (R15); 0 for none -/
  savedBy : Nat := 0
  /-- main power has failed since a planned save began (R15, R159) -/
  cycled : Bool := false
  /-- power-good has held, and the restart condition of R356 has been met, since SEALED or HALT (R15) -/
  pgOk : Bool := false
  coolOk : Bool := false
  /-- the retained settings have been loaded in this start (step B7) -/
  loaded : Bool := false
  deriving DecidableEq, Repr

/-- The save outcome of R38 and R42 as GOV_LAST_SAVE reports it. -/
structure LastSave where
  outcome : Nat := 0
  planned : Bool := false
  trigger : Nat := 0
  armedAtTrigger : Bool := false
  deriving DecidableEq, Repr

/-- The arming conditions as GOV_ARM_COND shows them (R23, R44). -/
structure ArmCond where
  layoutOk : Bool := false
  storeOk : Bool := false
  freeOk : Bool := false
  energyOk : Bool := false
  ceilOk : Bool := false
  groupOk : Bool := false
  deriving DecidableEq, Repr

/-- Governor status (R44). -/
structure Gov where
  cond : ArmCond := {}
  /-- HOLDOFF_DONE: the conditions have held for the holdoff -/
  holdoffDone : Bool := false
  /-- consecutive governor ticks at which every condition has held (R25) -/
  heldTicks : Nat := 0
  lastDisarm : Nat := 0
  accessHeld : Bool := true
  pdom : Bool := false
  backpressure : Bool := false
  wearOver : Bool := false
  armGen : BitVec 16 := 0
  backlog : Nat := 0
  bsup : Nat := 0
  bceil : Nat := 0
  euse : Nat := 0
  eneed : Nat := 0
  released : Bool := false
  /-- Dirty Shutdown Count, retained (R41) -/
  dsc : Nat := 0
  lastSave : LastSave := {}
  /-- GOV_LOST, retained (R39) -/
  lost : Nat := 0
  deriving DecidableEq, Repr

/-- A source's configuration (R368): what the layout may set. -/
structure SrcCfg where
  base : Nat
  severe : Nat
  n : Nat
  w : Nat
  wUnit : Nat
  err : Bool
  deriving DecidableEq, Repr

/-- A source's counter and window (R367) and its total since start. -/
structure SrcCount where
  window : Nat := 0
  total : Nat := 0
  deriving DecidableEq, Repr

/-- The first-source latch (R376). -/
structure FltFirst where
  source : Nat := 0
  cls : Nat := 0
  level : Nat := 0
  state : Nat := 0
  severe : Bool := false
  deferred : Bool := false
  overflow : Bool := false
  valid : Bool := false
  deriving DecidableEq, Repr

/-- An event its class has not yet had acknowledged (R371). -/
structure Unack where
  cls : Nat
  level : Nat
  src : Nat
  deriving DecidableEq, Repr

/-- The Fault Collector (R364 to R382). -/
structure Flt where
  clearRefused : Bool := false
  trap : Bool := false
  /-- a level-2 event arrived while the trap handler runs (R381) -/
  trapAgain : Bool := false
  first : FltFirst := {}
  unack : List Unack := []
  /-- an interrupt of a level-1 event is before the supervisor (R369) -/
  supIrq : Bool := false
  /-- FLT_WIRE.LINE, and the lines masked now, and the groups with a mismatch -/
  wireLine : Nat := 0
  masked : NSet := []
  wireGroups : NSet := []
  haltSource : Nat := 0
  haltPreReady : Bool := false
  haltCause : Nat := 0
  sticky : NSet := []
  live : NSet := []
  severe : NSet := []
  deferred : NSet := []
  /-- block resets running now (R373) -/
  resetting : List FltBlock := []
  counts : Tbl SrcCount := []
  /-- configuration in force where it differs from the source table (R368) -/
  cfg : Tbl SrcCfg := []
  deriving DecidableEq, Repr

/-- A trigger waiting in the FIFO: the values captured at arrival (R389), and the DRAM channel a class-4 source passes. -/
structure TlyTrig where
  code : Nat
  level : Nat
  state : Nat
  arg : Nat
  deriving DecidableEq, Repr

/-- A Tally record (R383). -/
structure TlyRec where
  seq : Nat
  persist : Bool
  fallback : Bool
  list : Nat
  lost : Nat
  words : List Nat
  trig : Nat
  level : Nat
  state : Nat
  deriving DecidableEq, Repr

/-- The compact form of a record in TLY_GASP (R398, R400). -/
structure TlyGasp where
  seq : Nat := 0
  trig : Nat := 0
  level : Nat := 0
  state : Nat := 0
  deriving DecidableEq, Repr

/-- Tally (R383 to R400). -/
structure Tly where
  ready : Bool := false
  fallback : Bool := false
  fifo : List TlyTrig := []
  /-- source 0xE1's event waits for the next record, which is its own (R390) -/
  overflowDue : Option TlyTrig := none
  /-- a trigger has been dropped since the FIFO was last empty (R390) -/
  dropped : Bool := false
  /-- triggers lost before the next record -/
  lostCount : Nat := 0
  lostTotal : Nat := 0
  /-- slot to record, newest start's and older ones that survive (R392) -/
  ring : Tbl TlyRec := []
  /-- the ring's control block passes its check (R392) -/
  ringUsable : Bool := false
  nextSeq : Nat := 0x100000
  /-- SEQ base of the JOURNAL reservation word (R393) -/
  reserved : Nat := 0x100000
  mirrorQ : List TlyRec := []
  mirrored : Nat := 0
  mirrorDropped : Nat := 0
  gasp : List TlyGasp := []
  /-- H of the last clear, retained (R396, R397) -/
  cleared : Nat := 0
  /-- AON time of each port's last accepted TLY_SOFT write (R391) -/
  softAt : PerPort (Option Nat) := ⟨none, none, none⟩
  deriving DecidableEq, Repr

end Sys2Proof.Machine
end

