-- ==== Sys2Proof/Machine/BlocksB.lean ====
section
/-!
DEFINITION. State of the Salinometer (chapter 02), the Salinity Map (chapter 03) and the Evaporator with the governor's
parameters (chapter 04), and the part of the layout those chapters read.
-/
namespace Sys2Proof.Machine

/-- A point of OCV_TABLE (R559): state of charge in parts per billion, millivolts per cell, anchorable. -/
structure OcvPoint where
  s : Nat
  mv : Nat
  anchorable : Bool
  deriving DecidableEq, Repr

/-- A source thermistor's parameters (R48, R50): Beta in kelvin and the resistance at 25 °C in ohms. -/
structure Thermistor where
  beta : Nat
  ohm25 : Nat
  deriving DecidableEq, Repr

/-- The backup source profile (R50). Millivolts per cell, millijoules, microohms, milliwatts; temperatures in 1/16 °C;
factors in thousandths. -/
structure Profile where
  kind : Nat
  ident : Nat
  series : Nat
  vCeil : Nat
  vFloor : Nat
  vAbs : Nat
  ocv : List OcvPoint
  cNom : Nat
  eNom : Nat
  esrNom : Nat
  pSave : Nat
  derate : List (Int × Nat)
  chargeMv : Nat
  chargeMa : Nat
  chargeTmin : Int
  chargeTmax : Int
  learnDays : Nat
  learnDepth : Nat
  learnTmin : Int
  learnTmax : Int
  learnRestS : Nat
  ntc0 : Option Thermistor
  ntc1 : Option Thermistor
  plausLo : Nat
  plausHi : Nat
  deriving DecidableEq, Repr

/-- The role of a PMBus target (R63). -/
inductive PmbRole where
  | charger | converter | monitor
  deriving DecidableEq, Repr

/-- An entry of the layout's PMBus list (R63). -/
structure PmbTarget where
  address : Nat
  role : PmbRole
  pec : Bool
  deriving DecidableEq, Repr

/-- The governor parameters of R110 with the policy of R34 and the holdoff of R25. -/
structure GovParams where
  kInit : Nat
  /-- converter input millivolts and efficiency in thousandths, rising -/
  eff : List (Nat × Nat)
  eFixed : Nat
  eCkpt : Nat
  bMaxGib : Nat
  bGuardGib : Nat
  bMinGib : Nat
  cap0 : Nat
  cap1 : Nat
  wLife : Nat
  yLife : Nat
  pauseMax : Nat
  allowUnarmed : Bool
  holdoffMs : Nat
  deriving DecidableEq, Repr

/-- A PMBus target as the master last saw it (R63, R64). -/
structure PmbState where
  present : Bool := false
  /-- no transaction has succeeded for 1 s (R64) -/
  absent : Bool := false
  /-- VOUT_MODE, read once after the start; the charge voltage (mV) and current limit (mA) sent to the charger (R63) -/
  voutMode : Option Nat := none
  voutCommand : Option Nat := none
  iLimit : Option Nat := none
  /-- the four readings decoded, in thousandths: V, V, A, °C (R63) -/
  milli : List Int := []
  fault : Bool := false
  vin : Nat := 0
  vout : Nat := 0
  iout : Nat := 0
  temp : Nat := 0
  /-- CLEAR_FAULTS has been sent for the fault now latched, and how often it has been sent since start (R63) -/
  cleared : Bool := false
  clears : Nat := 0
  deriving DecidableEq, Repr

/-- Gain and offset of one sense channel (R71). -/
structure AdcCal where
  gain : Nat
  offset : Int
  deriving DecidableEq, Repr

/-- The sealed calibration (R71). -/
structure SealCal where
  vbk : AdcCal
  ibk : AdcCal
  vmain : AdcCal
  ntc0 : AdcCal
  ntc1 : AdcCal
  ratioVbk : Nat
  ratioVmain : Nat
  shuntNohm : Nat
  uvMv : Nat
  pgMv : Nat
  pgMs : Nat
  deriving DecidableEq, Repr

/-- The set of the Salt Flat 512 card (chapter 02), unity gain: the part value State.reset carries. [log 7: DESIGN CHOICE] -/
def SealCal.reference : SealCal :=
  { vbk := ⟨0x8000, 0⟩, ibk := ⟨0x8000, 0⟩, vmain := ⟨0x8000, 0⟩, ntc0 := ⟨0x8000, 0⟩, ntc1 := ⟨0x8000, 0⟩,
    ratioVbk := 8000, ratioVmain := 12000, shuntNohm := 1000000, uvMv := 10800, pgMv := 11400, pgMs := 100 }

/-- The running learning cycle (R66 to R69). -/
structure LearnRun where
  /-- 0 idle, 1 to 7 for L1 to L7 -/
  step : Nat := 0
  eAtStart : Nat := 0
  eDraw : Nat := 0
  /-- energy drawn in the discharge, microjoules -/
  drawnUj : Nat := 0
  /-- charge drawn from L2 to L5, microcoulombs -/
  chargeUc : Nat := 0
  /-- relaxed open-circuit pack voltage at L2 and L5, mV, and the charge states they anchor -/
  ocvL2 : Nat := 0
  vBefore : Nat := 0
  esrMeasured : Nat := 0
  /-- lowest-thermistor temperature summed over L4's samples, and their number -/
  tSum : Int := 0
  tCount : Nat := 0
  capResult : Nat := 0
  capSkipped : Bool := false
  startUs : Nat := 0
  minMv : Nat := 0
  peakMa : Nat := 0
  tLow : Int := 0
  tHigh : Int := 0
  deriving DecidableEq, Repr

/-- The body of a Salinometer record (R74), with its signing state (R75). -/
structure SalRec where
  typ : Nat
  format : Nat
  seq : Nat
  breaks : Nat
  kind : Nat
  ident : Nat
  eStart : Nat
  drawn : Nat
  ticks : Nat
  minMv : Nat
  peak : Nat
  tLow : Int
  tHigh : Int
  capResult : Nat
  esrResult : Nat
  aonS : Nat
  cause : Nat
  digest : BitVec 256
  mac : BitVec 128
  /-- it reports a reset of the learned values (R54) -/
  reportsReset : Bool
  signed : Bool
  deriving DecidableEq, Repr

/-- The Salinometer (R45 to R77). -/
structure Sal where
  valid : Bool := false
  invalidCause : Nat := 0
  holdArm : Bool := false
  holdEn : Bool := false
  callOad : Bool := false
  charging : Bool := false
  chargeDone : Bool := false
  /-- SEAL_N is low -/
  sealStrap : Bool := false
  /-- charge of the last sample, microcoulombs: one governor tick's (R492) -/
  tickChargeUc : Int := 0
  /-- SAL_EUSE: the published value, and the AON time it was published at (R24) -/
  euse : Nat := 0
  euseAtUs : Nat := 0
  /-- the value computed by R51 before projection (R67) -/
  euseComputed : Nat := 0
  etrig : Nat := 0
  econs : Nat := 0
  /-- terminal energy since the last trigger, microjoules (R51, R60) -/
  accUj : Nat := 0
  /-- charge drawn since the last trigger, microcoulombs (R113) -/
  saveChargeUc : Nat := 0
  vbkMv : Nat := 0
  ibkMa : Int := 0
  vmainMv : Nat := 0
  /-- the domain key of R465, while the domain has its supply (R47) -/
  domainKey : Option (BitVec 256) := none
  /-- AON seconds of every supply period before this one (R74) -/
  aonPriorS : Nat := 0
  /-- a publication has read the thermistors since the reset: SAL_TBK is 0 before it (R77) -/
  ntcRead : Bool := false
  /-- thermistor readings in 1/16 °C; none while broken or disabled -/
  ntc0 : Option Int := none
  ntc1 : Option Int := none
  adcFail : Bool := false
  /-- learned C_E in mJ and ESR in microohms, retained (R53) -/
  capacity : Nat := 0
  esr : Nat := 0
  /-- the values were recorded under this KIND and identifier; none before any layout (R54) -/
  learnedUnder : Option (Nat × Nat) := none
  /-- a first cycle has completed on this source (R53) -/
  learnedOnce : Bool := false
  /-- state of charge, parts per billion (R55, R561) -/
  soc : Nat := 0
  /-- the pack has rested for the profile rest time since charge or discharge (R55, R66) -/
  rested : Bool := false
  /-- the next start follows OFF or SEALED: it re-anchors the state of charge (R55) -/
  reanchor : Bool := true
  /-- the pack stayed below V_PLAUS for 1 s (R54) -/
  packRemoved : Bool := false
  /-- power-good has held since the last start (R66) -/
  pgSinceStart : Bool := true
  learn : LearnRun := {}
  lastResult : Nat := 0
  deferrals : Nat := 0
  /-- AON time of the last completed cycle or new source, microseconds (R66, SAL_LEARN.AON_HOURS) -/
  learnRefUs : Nat := 0
  aonHours : Nat := 0
  /-- a first cycle is due without waiting for the interval (R54) -/
  learnDue : Bool := false
  /-- the next learning record reports a reset of the learned values (R54) -/
  reportReset : Bool := false
  /-- seal-break steps used, from the fuses (R73) -/
  breaksUsed : Nat := 0
  sealOpen : Bool := false
  lastClose : Nat := 0
  cal : SealCal := SealCal.reference
  staged : SealCal := SealCal.reference
  glitches : Nat := 0
  unarmedPf : Nat := 0
  pmb : Tbl PmbState := []
  recSeq : Nat := 0
  /-- a record body waiting to be written at the next start (R76) -/
  owed : List SalRec := []
  /-- the running save's record fields: AON start, extremes (R74) -/
  saveStartUs : Nat := 0
  saveMinMv : Nat := 0
  savePeakMa : Nat := 0
  saveTLow : Int := 0
  saveTHigh : Int := 0
  deriving DecidableEq, Repr

/-- Where a stored record begins (R81). -/
structure HmLoc where
  channel : Nat := 0
  ce : Nat := 0
  lun : Nat := 0
  block : Nat := 0
  page : Nat := 0
  slot : Nat := 0
  deriving DecidableEq, Repr

/-- STATE of a Harvest Map entry (R81). -/
inductive HmState where
  | zero | stored | lost
  deriving DecidableEq, Repr

/-- A Harvest Map entry (R81); the all-zero entry is ZERO. -/
structure HmEntry where
  state : HmState := .zero
  loc : HmLoc := {}
  length : Nat := 0
  raw : Bool := false
  deriving DecidableEq, Repr

/-- A Region Summary Table entry (R94). -/
structure RstEntry where
  dirty : Nat := 0
  epoch : Nat := 0
  restored : Bool := false
  hot : Bool := false
  lost : Bool := false
  zero : Bool := false
  deriving DecidableEq, Repr

/-- What a CLAIM is answered (R83); a CLAIM that finds the table full waits (R86), one whose line is being filled is queued. -/
inductive ClaimAnswer where
  | clean | busy | grant | waiting
  deriving DecidableEq, Repr

/-- An operation of the ordering point (R83). -/
inductive MapOp where
  | mark (g : Nat)
  | claim (g : Nat)
  | abandon (g : Nat)
  deriving DecidableEq, Repr

/-- A ledger cache entry (R90): most recently used first in the list. A pending fill holds its operations in order (R89). -/
structure LcEntry where
  region : Nat
  line : Nat
  dirty : Bool
  filling : Bool
  waiting : List MapOp
  /-- when its fill was asked for (R307) -/
  us : Nat := 0
  deriving DecidableEq, Repr

/-- Layout values of MAP_CFG and R92. -/
structure MapParams where
  epochMs : Nat
  hotEpochs : Nat
  auditS : Nat
  dirtyCap : Nat
  deriving DecidableEq, Repr

/-- The Salinity Map (R78 to R101). -/
structure SMap where
  ready : Bool := false
  epoch : Nat := 0
  advances : Nat := 0
  /-- the DRAM ledger: region to its 512-bit line (R80, R93) -/
  lines : Tbl Nat := []
  cache : List LcEntry := []
  /-- least recently changed first: regions whose entry is dirty (R92) -/
  changed : List Nat := []
  /-- operations stalled because 256 fills are outstanding or a set has no free way (R90, R91) -/
  stalled : List MapOp := []
  rst : Tbl RstEntry := []
  /-- the entry of every in-use region not listed in rst -/
  rstBase : RstEntry := {}
  /-- MAP_DIRTY_TOTAL: ledger bits set, summed from the RST (R93) -/
  total : Nat := 0
  inflight : NSet := []
  peak : Nat := 0
  claimWait : List Nat := []
  lastAnswer : Option ClaimAnswer := none
  hmap : Tbl HmEntry := []
  hits : Nat := 0
  misses : Nat := 0
  passes : Nat := 0
  /-- regions audited since the last pass ended, a bit each (R99) -/
  audited : Nat := 0
  repairs : Nat := 0
  lastCause : Nat := 0
  repairRegion : Nat := 0
  rstSel : PerPort Nat := ⟨0, 0, 0⟩
  deriving DecidableEq, Repr

/-- Where a granule stands on the drain path (R105); one that waits for a staging buffer has left Panhouse (R229). -/
inductive DrainStep where
  | claimed | reading | waiting | staged
  deriving DecidableEq, Repr

/-- A granule on the drain path, in order of its claim. -/
structure DrainItem where
  granule : Nat
  step : DrainStep
  /-- when its read was issued (R307) -/
  us : Nat := 0
  deriving DecidableEq, Repr

/-- What a program is for (R118, R120): the drain or a map segment, raking, or something else. -/
inductive ByteUse where
  | drain | rake | other
  deriving DecidableEq, Repr

/-- Bytes moved in a governor tick, by what the rate registers count: drain reads, drain and map-segment programs, all programs,
raking, NAND reads, compression, decompression, restore from NAND, restore into DRAM. -/
structure TickBytes where
  drainRead : Nat := 0
  drainProg : Nat := 0
  prog : Nat := 0
  rake : Nat := 0
  nandRead : Nat := 0
  comp : Nat := 0
  decomp : Nat := 0
  restNand : Nat := 0
  restDram : Nat := 0
  deriving DecidableEq, Repr

/-- The layout values a learned k_out stands under (R112). -/
structure KBasis where
  kInit : Nat
  eff : List (Nat × Nat)
  profile : Profile
  geometry : Nat
  deriving DecidableEq, Repr

/-- The Evaporator and the governor's parameters in force (R102 to R126). -/
structure Drn where
  band : Nat := 0
  urgency : Nat := 0
  hotOk : Bool := false
  refBmax : Bool := false
  wearHold : Bool := false
  throttled : Bool := false
  /-- B_e3 and B_wh of the last tick, granules -/
  bbp : Nat := 0
  bwh : Nat := 0
  /-- terminal coefficient k, mJ per GiB (R111) -/
  k : Nat := 0
  /-- learned k_out in thousandths of a mJ per GiB, and what it was learned under (R112) -/
  kOutMilli : Nat := 0
  kBasis : Option KBasis := none
  lastM : Nat := 0
  saves : Nat := 0
  eta : Nat := 0
  eFixed : Nat := 0
  eCkpt : Nat := 0
  /-- A_day in GiB, and the bucket in bytes (R119) -/
  aDay : Nat := 0
  bucket : Int := 0
  /-- W_used, overrun and their committed copies, bytes -/
  wUsed : Nat := 0
  overrun : Nat := 0
  /-- overrun since the last hourly commit (R120) -/
  hourOverrun : Nat := 0
  /-- bytes moved since the last tick, and in the last four ticks, newest first (the 1 ms of the rate registers) -/
  tick : TickBytes := {}
  hist : List TickBytes := []
  dLife : Nat := 0
  dElapsed : Nat := 0
  /-- bytes programmed in a save, and AON days passed while nothing runs, that the next start adds to W_used and D_elapsed (R118, R119) -/
  owedBytes : Nat := 0
  owedDays : Nat := 0
  paused : Bool := false
  lastPauseEnd : Nat := 0
  oldestAge : Nat := 0
  /-- region in work (R104) -/
  work : Option Nat := none
  path : List DrainItem := []
  committed : Nat := 0
  abProgram : Nat := 0
  abOther : Nat := 0
  hotHeld : Nat := 0
  rateRead : Nat := 0
  rateProgram : Nat := 0
  /-- Harvest Map lines changed and not yet in a segment, oldest first (R109) -/
  delta : List Nat := []
  deriving DecidableEq, Repr

end Sys2Proof.Machine
end

