-- ==== Sys2Proof/Machine/BlocksC.lean ====
section
/-!
DEFINITION. State of Harvest (chapter 05), Reflood (chapter 06), Crystal Beds (chapter 07) and Panhouse (chapter 08), and the
part of the layout those chapters read.
-/
namespace Sys2Proof.Machine

/-- A granule's content: (offset, byte) for its nonzero bytes, offsets rising (R3, R234). -/
abbrev GranuleBytes := List Host.Cell

/-- A granule record (R201) as Crystal Beds stores it. The payload is held as the plaintext it decrypts to (R237). -/
structure GranRec where
  granule : Nat
  slot : Nat
  length : Nat
  raw : Bool
  fast : Bool
  tag : Nat
  body : GranuleBytes
  /-- integrity tag (R238) -/
  itag : BitVec 128 := 0
  /-- false once the granule was abandoned after this copy was staged (R87) -/
  live : Bool := true
  /-- where raking read it from; none for a drained granule (R217) -/
  src : Option HmLoc := none
  deriving DecidableEq, Repr

/-- A Harvest Map line in a segment or a map delta: line number and its eight entries (R145, R207). -/
structure MapLine where
  line : Nat
  entries : List HmEntry
  deriving DecidableEq, Repr

/-- What a store page holds, by the descriptor's KIND (R200). -/
inductive PageKind where
  | data | mapSegment | checkpoint | parity | blockTable | update
  deriving DecidableEq, Repr

/-- A store page, being filled, being programmed or programmed (R199, R200): its descriptor's fields and what its slots hold. -/
structure StorePage where
  rowSeq : Nat
  channel : Nat
  /-- PAGE of the descriptor -/
  stripe : Nat
  kind : PageKind
  tag : Nat
  recs : List GranRec
  lines : List MapLine
  /-- slots in use, the descriptor's slot 0 included -/
  used : Nat
  /-- its last record goes on in the next page in fill order (R201) -/
  spills : Bool
  /-- no more records enter it: it is full, timed out or closed (R105) -/
  closed : Bool
  geometry : Nat := 0
  lane : Nat := 0
  parityCh : Nat := 0
  rowMask : Nat := 0
  eraseCount : Nat := 0
  contSlots : Nat := 0
  firstSlot : Nat := 0
  /-- FLAGS bits 0 to 2: no record begins or continues, UNPROTECTED, row closed at this stripe -/
  padding : Bool := false
  unprotected : Bool := false
  lastStripe : Bool := false
  stripeMask : Nat := 0
  /-- a parity page: what it is the XOR of, by channel (R202) -/
  covers : List (Nat × List GranRec × List MapLine) := []
  /-- a block-table page: its entries that are not 0, by their place in the table (R209) -/
  table : List (Nat × Nat) := []
  /-- its data is on its die and its staging buffer is free (R229) -/
  sent : Bool := false
  /-- what its bytes count as (R118, R120) -/
  use : ByteUse := .drain
  deriving DecidableEq, Repr

/-- Zero map segments (R212) that fill a row from its first page on: lines `first` to `first + lines - 1`, every entry ZERO. -/
structure ZeroRun where
  tag : Nat
  geometry : Nat
  first : Nat
  lines : Nat
  /-- pages of the run, in fill order, that are lost (R204) -/
  lost : NSet := []
  deriving DecidableEq, Repr

/-- Classes of rows (R206). -/
inductive RowClass where
  | data | rake | map
  deriving DecidableEq, Repr

/-- States of a row, as its blocks' states show them (R205). -/
inductive RowState where
  | opened | full | raking | spent
  deriving DecidableEq, Repr

/-- A bed row (R199). -/
structure BedRow where
  seq : Nat
  lane : Nat
  cls : RowClass
  /-- channel and block on it, channels rising -/
  blocks : List (Nat × Nat)
  state : RowState
  /-- data pages taken so far in fill order (R199) -/
  cursor : Nat
  /-- stripes whose parity is programmed (R202) -/
  parityDone : NSet
  /-- queued for raking: 1 rebuild, 2 ladder or patrol, 3 UNPROTECTED, 4 wear levelling; 0 not queued (R219) -/
  queued : Nat
  /-- stripes whose parity carries the UNPROTECTED flag (R203) -/
  unprot : NSet := []
  /-- zero map segments the row begins with (R212) -/
  zeros : Option ZeroRun := none
  /-- pages whose program failed in a save, which the parity accumulators still hold (R203) -/
  accum : List StorePage := []
  deriving DecidableEq, Repr

/-- States of a store block (R205). -/
inductive BlkState where
  | blank | erased | inUse | spent | ckpt | ckptErased | update | retired
  deriving DecidableEq, Repr

/-- A store block: state, erase count, an erase running, a failed program, and for a CKPT block the SAVE_SEQ of the checkpoint it holds
content of (R205, R209, R210, R225). -/
structure Blk where
  state : BlkState := .blank
  erases : Nat := 0
  erasing : Bool := false
  failed : Bool := false
  holds : Nat := 0
  deriving DecidableEq, Repr

/-- A NAND channel (R226, R232). -/
structure BedChan where
  active : Bool := false
  excluded : Bool := false
  cause : Nat := 0
  trained : Bool := false
  present : NSet := []
  retired : NSet := []
  /-- hard-decode iterations and ladder steps beyond the first of the last 65,536 codewords, newest first -/
  decodes : List (Nat × Nat) := []
  rebuilds : Nat := 0
  progFail : Nat := 0
  eraseFail : Nat := 0
  blocksRetired : Nat := 0
  factoryBad : Nat := 0
  /-- times of the last 4,096 programs and reads, 0.1 microseconds, newest first -/
  progTimes : List Nat := []
  readTimes : List Nat := []
  zqCount : Nat := 0
  /-- dies with a program or erase failure: die, block, AON hour (R226) -/
  dieFails : List (Nat × Nat × Nat) := []
  deriving DecidableEq, Repr

/-- The save record (R148). -/
structure SaveRecord where
  outcome : Nat
  trigger : Nat
  flags : Nat
  saveSeq : Nat
  salSeq : Nat
  etrig : Nat
  eFirst : Nat
  eM1 : Nat
  eM2 : Nat
  eM3 : Nat
  eTail : Nat
  backlog : Nat
  saved : Nat
  unsaved : Nat
  bytes : Nat
  chargeMc : Nat
  dataUs : Nat
  mask : Nat
  epoch : Nat
  salvage : Nat
  unit : Nat
  /-- SHA-384 digests of the map delta, RST image and residual ledger sections -/
  deltaDigest : BitVec 384
  rstDigest : BitVec 384
  residualDigest : BitVec 384
  layoutDigest : BitVec 384
  fwVersion : Nat
  nDelta : Nat
  nRst : Nat
  nResidual : Nat
  tFirstUs : Nat
  prevSeq : Nat
  locA : HmLoc
  locB : HmLoc
  /-- ECDSA P-384 signature by the identity key -/
  signature : BitVec 768
  deriving DecidableEq, Repr

/-- A sealed or attempted checkpoint (R145): its sections, and which copies are on the media and valid (R150). -/
structure Ckpt where
  hdr : SaveRecord
  delta : List MapLine
  rst : Tbl RstEntry
  rstBase : RstEntry
  residual : List (Nat × Nat)
  geometry : Nat
  copyA : Bool
  copyB : Bool
  /-- section directories of the copies (R145): first page and page count of map delta, RST image and residual ledger -/
  dirA : List (HmLoc × Nat) := []
  dirB : List (HmLoc × Nat) := []
  /-- H4 has read a header page back with its signature intact: the checkpoint is sealed (R150) -/
  isSealed : Bool := false
  deriving DecidableEq, Repr

/-- A map segment entry in the store (R170, R207): its page's tag, row, page number and channel. -/
structure SegLine where
  tag : Nat
  rowSeq : Nat
  page : Nat
  channel : Nat
  content : MapLine
  deriving DecidableEq, Repr

/-- The NAND population and die profile (R196, R197), with the store values of R218 and R224 (SPARE_MIN 0: not set). Times in 0.1 microseconds;
ITER_WARN and RETRY_WARN in thousandths. -/
structure NandParams where
  dies : Nat
  planes : Nat
  planePage : Nat
  spare : Nat
  pages : Nat
  blocks : Nat
  minGood : Nat
  luns : Nat
  mode : Nat
  rate : Nat
  maxRate : Nat
  /-- the command prefix, or SET FEATURES address and value, that selects pSLC operation -/
  pslcEntry : List Nat
  tReadTyp : Nat
  tReadMax : Nat
  tProgTyp : Nat
  tProgMax : Nat
  tEraseTyp : Nat
  tEraseMax : Nat
  tSuspendMax : Nat
  tSoftMax : Nat
  pslcPe : Nat
  iterWarn : Nat
  retryWarn : Nat
  relocate : Nat
  /-- soft-bit read command and its reference offsets -/
  softCmd : List Nat
  /-- read-retry entries, each its SET FEATURES writes -/
  retry : List (List (Nat × Nat))
  ident : Nat
  rakeBg : Nat
  spareMinGib : Nat
  updateBlocks : Nat
  deriving DecidableEq, Repr

/-- Crystal Beds (R194 to R232). -/
structure Bed where
  chans : Tbl BedChan := []
  /-- key of channel, die and block -/
  blocks : Tbl Blk := []
  rows : List BedRow := []
  /-- pages being filled or programmed, oldest first -/
  staged : List StorePage := []
  /-- pages on the media -/
  pages : List StorePage := []
  /-- records that have left Panhouse and wait for a staging buffer or a row, with their lane, oldest first (R229) -/
  stageQ : List (Nat × GranRec) := []
  nextRowSeq : Nat := 1
  /-- lane from which the next rake or map row is sought (R206) -/
  nextLane : Nat := 0
  ckpts : List Ckpt := []
  /-- the store holds map segments or checkpoints of another geometry and none of this one (R212) -/
  foreign : Bool := false
  blank : Bool := true
  mismatch : Bool := false
  censusFailed : Bool := false
  startErasesDone : Bool := false
  storeReady : Bool := false
  health : Nat := 0
  failCause : Nat := 0
  storeCeil : Nat := 0
  erasedRows : Nat := 0
  need : Nat := 0
  freeOk : Bool := false
  ckptReady : Bool := false
  rowsAvail : Nat := 0
  rakeLevel : Nat := 0
  rakeActive : Bool := false
  rakeStopped : Bool := false
  iterWarn : Bool := false
  retryWarn : Bool := false
  spareLow : Bool := false
  rateRake : Nat := 0
  rateProgram : Nat := 0
  rateRead : Nat := 0
  lostPages : Nat := 0
  unprotected : Nat := 0
  censusMs : Nat := 0
  eraseMs : Nat := 0
  /-- erases since the last block-table write (R209) -/
  sinceTable : Nat := 0
  blockTables : Nat := 0
  /-- KIND 0x0006 pages in the update partition (R230) -/
  updatePages : Nat := 0
  /-- patrol passes -/
  patrolled : Nat := 0
  deriving DecidableEq, Repr

/-- A save in progress or the last one read back (R130 to R161). -/
structure Hrv where
  phase : Nat := 0
  m1 : Bool := false
  m2 : Bool := false
  m3Point : Bool := false
  m3 : Bool := false
  salvage : Bool := false
  shed : Nat := 0
  thermalEnd : Bool := false
  /-- a SALVAGE code ends the data phase at once (R152) -/
  endNow : Bool := false
  energyInvalid : Bool := false
  supplyReturned : Bool := false
  phyForced : Bool := false
  copies : Nat := 0
  salvageCause : Nat := 0
  /-- layout values -/
  m1Frac : Nat := 128
  m2Frac : Nat := 192
  floorMj : Nat := 0
  leadMj : Nat := 0
  saveSeq : Nat := 0
  /-- SAVE_SEQ the next save will carry, the segment tag (R139, R170) -/
  nextSeq : Nat := 1
  prevSealed : Nat := 0
  eT : Nat := 0
  pM1 : Nat := 0
  pM2 : Nat := 0
  pM3 : Nat := 0
  allowance : Nat := 0
  eSalv : Nat := 0
  eFirst : Nat := 0
  firstSent : Bool := false
  eM1 : Nat := 0
  eM2 : Nat := 0
  eM3 : Nat := 0
  eTail : Nat := 0
  eEnd : Nat := 0
  backlog : Nat := 0
  saved : Nat := 0
  unsaved : Nat := 0
  bytes : Nat := 0
  chargeFirst : Nat := 0
  chargeMc : Nat := 0
  dataUs : Nat := 0
  ckptUs : Nat := 0
  /-- AON time of the M3 instant -/
  m3Us : Nat := 0
  tFirstUs : Nat := 0
  mask : Nat := 0
  second : Nat := 0
  deferred : Nat := 0
  abandoned : Nat := 0
  /-- triggers that belong to this save, and AON time of t0 -/
  triggers : List Trigger := []
  trigger : Nat := 0
  planned : Bool := false
  armedAtTrigger : Bool := false
  t0Us : Nat := 0
  /-- granules abandoned under R136 in this save -/
  poisoned : NSet := []
  /-- the granule the running pass claims next (R135) -/
  claimPoint : Nat := 0
  /-- save engines still running (R152 code 0x03) -/
  engines : NSet := [0, 1]
  lockstep : Bool := false
  /-- GO has been sent for a trigger that came in a local save (R157) -/
  goSent : Bool := false
  sanitized : Bool := false
  bothOnOne : Bool := false
  awaitShare : Bool := false
  /-- a header page has been read back with its signature intact (R150) -/
  isSealed : Bool := false
  failed : Bool := false
  excluded : NSet := []
  deriving DecidableEq, Repr

/-- Kinds of start (R162). -/
inductive RestoreKind where
  | none | saved | reload | init
  deriving DecidableEq, Repr

/-- A bit per granule: a common value and the granules that differ from it (R173). -/
structure GranBits where
  base : Bool := true
  exc : NSet := []
  deriving DecidableEq, Repr

/-- A host request that waits at the gate (R179): a read, or a write with its lines. -/
structure HostReq where
  head : Head
  isWrite : Bool
  dpa : Nat
  data : List Byte
  poison : Bool
  tag : Nat
  /-- a Clear Poison that waits for its granule -/
  mbox : Bool := false
  deriving DecidableEq, Repr

/-- An entry of the fetch table (R179). -/
structure Fetch where
  granule : Nat
  waiting : List HostReq
  /-- the location its read holds (R176, R216) -/
  loc : Option HmLoc := none
  deriving DecidableEq, Repr

/-- Reflood (R162 to R193). -/
structure Fld where
  step : Nat := 0
  kind : RestoreKind := .none
  unlockWait : Bool := false
  fullTrain : Bool := false
  copyB : Bool := false
  prevCkpt : Bool := false
  ordered : Bool := false
  deferredAct : Bool := false
  locatorScan : Bool := false
  seq : Nat := 0
  /-- SAVE_SEQ the restore marker will close (R163) -/
  closesSeq : Nat := 0
  readyMs : Nat := 0
  doneCs : Nat := 0
  restored : GranBits := {}
  restoring : Bool := false
  lost : NSet := []
  /-- lost granules under rewrite and their lines that hold the poison encoding, written last first (R187) -/
  tracker : List (Nat × List Nat) := []
  /-- restore-bitmap lines on chip, by region, used last first (R174) -/
  gateCache : List Nat := []
  /-- the reloaded EPOCHs: the common one, and the regions that differ (R172, R175) -/
  epochBase : Nat := 0
  epochs : Tbl Nat := []
  fetches : List Fetch := []
  admission : List HostReq := []
  dfCount : Nat := 0
  /-- times of the last 1,024 fetches, microseconds, newest first -/
  dfUs : List Nat := []
  dfMax : Nat := 0
  dfPeak : Nat := 0
  parity : Nat := 0
  unreadable : Nat := 0
  rateNand : Nat := 0
  rateDram : Nat := 0
  unlockFails : Nat := 0
  unlockDone : Bool := false
  /-- the save-outcome event is due at host-ready (R42, R284) -/
  outcomeDue : Bool := false
  f4Ended : Bool := false
  deriving DecidableEq, Repr

/-- A media key blob pair in KEYS (R242): its plain fields, the key set it decrypts to, and the U of R243 it is wrapped under. -/
structure KeyBlob where
  gen : Nat
  wrap : Nat
  secret : Bool
  u : BitVec 256
  kx : BitVec 512
  km : BitVec 256
  deriving DecidableEq, Repr

/-- Panhouse (R233 to R253). -/
structure Pip where
  keyLoaded : Bool := false
  /-- the key registers: K_X and K_M (R242) -/
  kx : BitVec 512 := 0
  km : BitVec 256 := 0
  fast : Bool := false
  compress : Bool := false
  gen : Nat := 0
  wrap : Nat := 0
  secretSet : Bool := false
  /-- blob pairs in KEYS not zeroed, newest first -/
  blobs : List KeyBlob := []
  /-- LENGTH of the last 65,536 records written, newest first (PIP_RATIO) -/
  lens : List Nat := []
  rateC : Nat := 0
  rateD : Nat := 0
  failTag : Nat := 0
  failHeader : Nat := 0
  errors : Nat := 0
  lastError : Nat := 0
  sanStep : Nat := 0
  sanResumed : Bool := false
  sanCount : Nat := 0
  /-- the device was unlocked when the sanitize was accepted (R247, S4) -/
  sanUnlocked : Bool := false
  /-- head that asked for the sanitize -/
  sanHead : Option Head := none
  deriving DecidableEq, Repr

end Sys2Proof.Machine
end

