-- ==== Sys2Proof/Machine/BlocksD.lean ====
section
/-!
DEFINITION. State of the heads and the Sluicekeeper (chapter 09), Brine Pond (chapter 10), DRAM training (chapter 11) and
Thermal Guard (chapter 12), and the part of the layout those chapters read.
-/
namespace Sys2Proof.Machine

/-- An HDM decoder (R260): host base, length, DPA base, interleave ways and granularity, and this head's position among the
interleaved targets. -/
structure Decoder where
  hpaBase : Nat
  size : Nat
  dpaBase : Nat
  ways : Nat
  gran : Nat
  position : Nat
  deriving DecidableEq, Repr

/-- The five event logs (R282). -/
inductive EvLog where
  | info | warning | failure | fatal | dynCap
  deriving DecidableEq, Repr

/-- What an event record carries (R284, R267, R299). -/
inductive EvBody where
  | chapen (typ cause head state object genBefore genAfter armGen value : Nat)
  | generalMedia (dpa : Nat)
  | addCapacity (pan gen : Nat)
  | releaseCapacity (pan gen : Nat)
  deriving DecidableEq, Repr

/-- An event record with its timestamp (R285). -/
structure EvRec where
  handle : Nat
  stamp : Nat
  body : EvBody
  deriving DecidableEq, Repr

/-- One event log of a head: at most 64 records, and the overflow fields (R285). -/
structure EvLogState where
  recs : List EvRec := []
  overflow : Nat := 0
  firstStamp : Nat := 0
  lastStamp : Nat := 0
  deriving DecidableEq, Repr

/-- R288's suppression of one kind on one head: the AON second of the last recorded one and the count since. -/
structure Suppress where
  second : Option Nat := none
  count : Nat := 0
  deriving DecidableEq, Repr

/-- A posted write a head has completed and Brine Pond has not committed (R18, R132). -/
structure Posted where
  head : Head
  dpa : Nat
  data : List Byte
  poison : Bool
  /-- a partial write's merge read is uncorrectable (R301) -/
  mergeBad : Bool := false
  /-- when it arrived (R307) -/
  us : Nat := 0
  deriving DecidableEq, Repr

/-- A head's background command (R280, Sanitize): opcode, percentage, return code. -/
structure BgOp where
  opcode : Nat := 0
  percent : Nat := 0
  code : Nat := 0
  running : Bool := false
  deriving DecidableEq, Repr

/-- One head (R254 to R290). -/
structure HeadSt where
  inReset : Bool := true
  /-- PHY powered down from H2 of a save (R130, R256) -/
  phyOff : Bool := false
  up : Bool := false
  down : Bool := true
  grace : Bool := false
  rate : Nat := 0
  width : Nat := 0
  ide : Bool := false
  downs : Nat := 0
  /-- AON time at which the link went down (R272, R275) -/
  downUs : Nat := 0
  /-- committed HDM decoders by number 0 to 3 (R260) -/
  decoders : Tbl (Option Decoder) := []
  cmdMajor : Nat := 2
  cmdMinor : Nat := 0
  violMem : Nat := 0
  violReg : Nat := 0
  violMbox : Nat := 0
  stale : Nat := 0
  staleLast : Nat := 0
  /-- kinds 1 to 6 of R286, and 0 for ROLE_STALE -/
  suppress : Tbl Suppress := []
  info : EvLogState := {}
  warning : EvLogState := {}
  failure : EvLogState := {}
  fatal : EvLogState := {}
  dynCap : EvLogState := {}
  nextHandle : Nat := 1
  evPolicy : List Nat := [0, 0, 0, 0, 0]
  /-- Set Timestamp's value and the AON time it was set at (R285) -/
  stampBase : Option (Nat × Nat) := none
  alertCfg : List Nat := []
  shutdownState : Nat := 0
  /-- MSI-X vectors raised (R254, R369) -/
  msix : NSet := []
  bg : BgOp := {}
  poisonOverflow : Option Nat := none
  creditsHeld : Bool := false
  /-- write requests the host may still send on credits already returned (R28, R29) -/
  credits : Nat := 2048
  deriving DecidableEq, Repr

/-- A CXL.mem response (R35, R174, R287): data, poison, or a write completion. -/
inductive MemResp where
  | data (tag : Nat) (bytes : List Byte)
  | poison (tag : Nat)
  | done (tag : Nat)
  | flushed
  deriving DecidableEq, Repr

/-- Pan states (R262). -/
inductive PanState where
  | unassigned | headA | headB | sharedRead | shared
  deriving DecidableEq, Repr

/-- A head's access to a pan (R262). -/
inductive Access where
  | none | read | write
  deriving DecidableEq, Repr

/-- A pan's entry: the retained state and generation, and for each head what it may do now, whether an extent waits for its
acceptance, and whether a loss waits for its release (R267). -/
structure Pan where
  state : PanState := .unassigned
  gen : Nat := 0
  acc : PerHead Access := ⟨.none, .none⟩
  /-- an Add Capacity event is unanswered -/
  offered : PerHead Bool := ⟨false, false⟩
  /-- a Release Capacity event is unanswered since this AON time -/
  losing : PerHead (Option Nat) := ⟨none, none⟩
  /-- a loss had not taken effect at the last stop: Release Capacity is raised again when the head links (R289) -/
  owed : PerHead Bool := ⟨false, false⟩
  deriving DecidableEq, Repr

/-- Holder of a semaphore cell (R269). -/
inductive CellState where
  | free | heldA | heldB
  deriving DecidableEq, Repr

/-- A semaphore cell (R269, R271). -/
structure Cell where
  state : CellState := .free
  /-- PRI: true when Head B wins the next tie -/
  priB : Bool := false
  gen : BitVec 16 := 0
  deriving DecidableEq, Repr

/-- SEM_RESULT of one port (R270). -/
structure SemResult where
  code : Nat := 0
  cell : Nat := 0
  gen : BitVec 16 := 0
  deriving DecidableEq, Repr

/-- The semaphore (R269 to R273). -/
structure Sem where
  cells : Tbl Cell := []
  result : PerPort SemResult := ⟨{}, {}, {}⟩
  graceMs : Nat := 2000
  forced : Nat := 0
  lastCell : Nat := 0
  lastHead : Bool := false
  deriving DecidableEq, Repr

/-- DRAM population and controller values of the layout (R292, R293, R305, R306, R312, R314, R317). -/
structure DramParams where
  channels : Nat
  ranks : Nat
  stack : Nat
  density32 : Bool
  chanGib : Nat
  ways : Nat
  grainLog : Nat
  hash0 : Nat
  hash1 : Nat
  hash2 : Nat
  /-- timing fields of each set -/
  timing : Tbl (List Nat) := []
  headClosed : Bool
  panAttr : Tbl Nat
  qos : List Nat
  scrubHours : Nat
  sets : NSet
  idleMs : Nat
  deriving DecidableEq, Repr

/-- A request at a channel (R301, R306, R307): its line, its requester, when it arrived, and whether it is a ledger cache fill. -/
structure ColReq where
  line : Nat
  rq : Nat
  us : Nat
  fill : Bool := false
  deriving DecidableEq, Repr

/-- A DRAM channel (R321). -/
structure DmcChan where
  failed : Bool := false
  failCause : Nat := 0
  selfRefresh : Bool := false
  idleRefresh : Bool := false
  set : Nat := 0
  ce : Nat := 0
  ue : Nat := 0
  poisonReads : Nat := 0
  errSub : Nat := 0
  errRank : Nat := 0
  errCid : Nat := 0
  errBg : Nat := 0
  errBa : Nat := 0
  errCol : Nat := 0
  errDevice : Nat := 15
  errUe : Bool := false
  errRow : Nat := 0
  bwRead : Nat := 0
  bwWrite : Nat := 0
  refRate : Nat := 0
  refreshes : Nat := 0
  latMax : Nat := 0
  /-- head read latencies of the last 65,536 reads, newest first, ns -/
  lats : List Nat := []
  /-- bytes read and written since the last tick, and in the last four ticks -/
  tickRd : Nat := 0
  tickWr : Nat := 0
  hist : List (Nat × Nat) := []
  /-- lines in the write queue, oldest first (R301) -/
  writeQ : List ColReq := []
  batches : Nat := 0
  /-- open row of each bank, and when it was last used (R304) -/
  openRows : Tbl (Option (Nat × Nat)) := []
  /-- row hits in a row that went before a waiting level-3 request, column slots since the Evaporator's last, and the head served last
  (R308, R309) -/
  hits : Nat := 0
  skipped : Nat := 0
  lastB : Bool := false
  /-- refresh intervals of each bank postponed and pulled in (R311) -/
  late : Tbl Nat := []
  early : Tbl Nat := []
  deriving DecidableEq, Repr

/-- Brine Pond (R291 to R321). -/
structure Dmc where
  chans : Tbl DmcChan := []
  /-- marked device of each channel and subchannel rank, retained: key channel × 8 + k (R298) -/
  marks : Tbl Nat := []
  /-- population the marks were made under -/
  marksFor : Option (Nat × Nat × Nat × Nat) := none
  /-- valid training results loaded (R314, R326) -/
  trained : NSet := []
  current : Nat := 0
  changing : Bool := false
  target : Nat := 0
  pending : Option Nat := none
  changes : Nat := 0
  refused : Nat := 0
  posted : List Posted := []
  postedLimitKib : Nat := 5120
  postedHeld : Bool := false
  /-- corrected errors on host reads since start (R283) -/
  hostCe : Nat := 0
  scrubLine : Nat := 0
  scrubPasses : Nat := 0
  /-- corrected write-backs due (R300) -/
  writeBacks : NSet := []
  l3Count : Tbl Nat := []
  /-- page attribute of each pan where it is not DEFAULT (R305) -/
  panAttr : Tbl Nat := []
  powered : Bool := false
  deriving DecidableEq, Repr

/-- A training record (R327): steps, fingerprint, bytes 0x010 to 0x7AF and the worst margins, and the conditions R330 tests. -/
structure TrnRec where
  steps : Nat := 0
  fingerprint : Nat := 0
  values : List Nat := []
  margins : Nat := 0
  exists_ : Bool := false
  hottest : Int := 0
  invalidated : Bool := false
  deriving DecidableEq, Repr

/-- Training state of one channel (R340). -/
structure TrnChan where
  /-- cause and result of each set 0 to 3 -/
  cause : Tbl Nat := []
  result : Tbl Nat := []
  /-- RCD identification and mode registers of the channel's devices, read at T1 (R328) -/
  ident : List Nat := []
  /-- worst margins of each set, as TRN_CH_MARGIN encodes them -/
  margins : Tbl Nat := []
  failStep : Nat := 0
  failSet : Nat := 0
  failRank : Nat := 0
  failSub : Nat := 0
  retries : Nat := 0
  failedSets : NSet := []
  adjusts : Nat := 0
  driftMax : Nat := 0
  outOfRange : Bool := false
  cmpErrors : Nat := 0
  cmpLane : Nat := 0x3F
  cmpSub : Nat := 0
  /-- sets still to train in this session, next first; steps done of the first, and failures of its present step -/
  queue : List Nat := []
  mask : Nat := 0
  tries : Nat := 0
  /-- sets whose record this session resumes from: partial at its start, or committed in it (R331) -/
  fresh : NSet := []
  /-- accumulated adjustment of each device, 1/128 UI (R334) -/
  adjusted : Tbl Int := []
  deriving DecidableEq, Repr

/-- DRAM training (R322 to R340). -/
structure Trn where
  activity : Nat := 0
  set : Nat := 0
  step : Nat := 0
  fullNext : Bool := false
  /-- AON time at which this start's session began -/
  startUs : Nat := 0
  sessionMs : Nat := 0
  chans : Tbl TrnChan := []
  /-- records in SETTINGS: key channel × 4 + set -/
  recs : Tbl TrnRec := []
  deriving DecidableEq, Repr

/-- Thresholds of one input, °C (R344). -/
structure ThmThresh where
  warn : Nat := 95
  throttle : Nat := 100
  shut : Nat := 112
  shutSave : Nat := 120
  deriving DecidableEq, Repr

/-- A remote diode's parameters (R341): ideality factor in 1/10,000 and series resistance in milliohms. -/
structure DiodeParams where
  ideality : Nat := 10000
  seriesMilliohm : Nat := 0
  deriving DecidableEq, Repr

/-- Thermal values of the layout (R341, R342, R344): the remote diodes (12 to 19) and thermistors (20 to 23) enabled, their parameters,
thresholds and RESTART. -/
structure ThermParams where
  enable : NSet
  diodes : Tbl DiodeParams := []
  ntcs : Tbl Thermistor := []
  thresh : Tbl ThmThresh
  restartC : Nat
  deriving DecidableEq, Repr

/-- The inputs sampled (R342): every on-die sensor, and the diodes and thermistors the layout enables. -/
def ThermParams.inputs (t : ThermParams) : NSet := (List.range 24).filter fun n => n < 12 || t.enable.contains n

/-- One conversion of an input (R343): a measured value in 1/16 °C, or a conversion that fails, an open or a short. -/
inductive ThmReading where
  | measured (t : Int)
  | invalid
  deriving DecidableEq, Repr

/-- One thermal input (R341 to R343, R363). -/
structure ThmInput where
  /-- last reading, 1/16 °C; none before the first sample -/
  temp : Option Int := none
  broken : Bool := false
  clamped : Bool := false
  badRun : Nat := 0
  goodRun : Nat := 0
  peak : Option Int := none
  deriving DecidableEq, Repr

/-- THM_LAST_STOP (R355, R363). -/
structure ThmStop where
  cause : Nat := 0
  input : Nat := 0
  state : Nat := 0
  temp : Int := 0
  deriving DecidableEq, Repr

/-- Thermal Guard (R341 to R363). -/
structure Thm where
  inputs : Tbl ThmInput := []
  enable : NSet := [0, 1, 2, 3, 4, 5, 6, 7, 8, 9, 10, 11]
  thresh : Tbl ThmThresh := []
  restartC : Nat := 90
  calDerated : Bool := false
  calibValid : Bool := false
  /-- inputs that have reached WARN and THROTTLE and not yet left (R345) -/
  warned : NSet := []
  throttledBy : NSet := []
  level : Nat := 0
  step : Nat := 0
  fast : Bool := false
  trip : Bool := false
  headCap : Nat := 0
  hottest : Int := 0
  hottestInput : Nat := 0
  throttles : Nat := 0
  saves : Nat := 0
  halts : Nat := 0
  breaks : Nat := 0
  lastStop : ThmStop := {}
  restartS : Nat := 0
  /-- the restart timer runs (R356) -/
  restartRun : Bool := false
  /-- an enabled reading was at or above SHUT at the last sample -/
  shut : Bool := false
  oscTrim : Nat := 0x80
  bgTrim : Nat := 0x80
  /-- eight points of each table from CALIB: S0 reading, trim code (R360) -/
  oscTable : List (Int × Nat) := []
  bgTable : List (Int × Nat) := []
  /-- the last save was started by trigger 3 (R356) -/
  thermalSave : Bool := false
  deriving DecidableEq, Repr

end Sys2Proof.Machine
end

