-- ==== Sys2Proof/Machine/BlocksE.lean ====
section
/-!
DEFINITION. State of the JOURNAL, the Salt Cellar (chapter 15), start, settings and update (chapter 16), Keyhouse (chapter 17),
the Brine Line (chapter 18), the side ports (chapter 19), pins and boundary scan (chapter 21), the layout as one value, and the
answers the ports hold.
-/
namespace Sys2Proof.Machine

/-- A JOURNAL record (R40, R139, R148, R151, R163, R165, R225, R393, R395, R474). [log 12: DESIGN CHOICE] -/
inductive JRec where
  | openImage (isClosed : Bool)
  | saveStart (seq trigger : Nat) (armed : Bool)
  | restore (seq : Nat)
  | locator (seq : Nat) (a b : HmLoc)
  | saveRec (r : SaveRecord) (lms : Bool)
  | salRec (r : SalRec)
  | storeInit (geometry : Nat)
  | tallyBase (base : Nat)
  | tallyRec (r : TlyRec)
  | retirement (channel die block cause count : Nat)
  deriving DecidableEq, Repr

/-- One word of the array (R402): its data and the program count 2 once-programmed, 0 twice-programmed; an erased word is not
listed and reads all ones. -/
structure CelWord where
  data : BitVec 128
  count : Nat
  deriving DecidableEq, Repr

/-- A sector's status record (R403). -/
structure CelSector where
  erases : Nat := 0
  flag : Bool := false
  retired : Bool := false
  /-- the spare sector its address reaches -/
  spare : Option Nat := none
  /-- a spare that holds a retired sector's content -/
  holds : Bool := false
  advised : Bool := false
  /-- it has failed verify with no spare left (R422) -/
  worn : Bool := false
  deriving DecidableEq, Repr

/-- Who asks the array controller (R404, R405). -/
inductive CelUser where
  | bootRom | firmware | harvest | salinometer | keyhouse
  deriving DecidableEq, Repr

/-- A request of the array's queue (R409). -/
inductive CelReq where
  | program (user : CelUser) (sector word : Nat) (data : BitVec 128)
  | erase (user : CelUser) (sector : Nat)
  deriving DecidableEq, Repr

/-- What the array is doing (R409, R410, R424). -/
inductive CelOp where
  | idle
  | programming (user : CelUser) (sector word : Nat) (data : BitVec 128)
  | erasing (user : CelUser) (sector : Nat)
  deriving DecidableEq, Repr

/-- The answer of a Salt Cellar request (R424), with the data of a read. -/
inductive CelAnswer where
  | none | ok | queued | running | waits | notErased | prot | refused | flagged | verifyFail | readFail
  | data (d : BitVec 128)
  deriving DecidableEq, Repr

/-- A calibration set (R439): its generation, and the oscillator and bandgap tables of R360, eight points of S0 reading in 1/16 °C and trim
code each. -/
structure CalibSet where
  gen : Nat := 0
  osc : List (Int × Nat) := []
  bg : List (Int × Nat) := []
  deriving DecidableEq, Repr

/-- The Salt Cellar (R401 to R424). -/
structure Cel where
  headerOk : Bool := true
  /-- key of sector and word; erased words are not listed -/
  words : Tbl CelWord := []
  sectors : Tbl CelSector := []
  op : CelOp := .idle
  queue : List CelReq := []
  eraseLock : Bool := false
  answer : CelAnswer := .none
  programs : Nat := 0
  erases : Nat := 0
  lastCode : Nat := 0
  lastSector : Nat := 0
  lastWord : Nat := 0
  failCount : Nat := 0
  plus1 : Nat := 0
  minus1 : Nat := 0
  plus2 : Nat := 0
  minus2 : Nat := 0
  /-- steps of the last 4,096 programs and of the last 64 erases, newest first (R418, R424) -/
  progSteps : List Nat := []
  eraseSteps : List Nat := []
  countAdv : Bool := false
  stepAdv : Bool := false
  lastRetired : Nat := 0
  found : Nat := 0
  firstFound : Nat := 0
  reerased : Bool := false
  stalls : Nat := 0
  stallUs : Nat := 0
  /-- sectors retired at the next start: failed between H0 and SEALED (R421) -/
  retireOwed : NSet := []
  /-- the read cache (R415): up to 1,024 lines, each four words, by sector × 256 + word / 4 -/
  lines : NSet := []
  sectSel : PerPort Nat := ⟨0, 0, 0⟩
  /-- the two copies in CALIB, which apply at the next start (R439) -/
  calib0 : CalibSet := {}
  calib1 : CalibSet := {}
  deriving DecidableEq, Repr

/-- The values of the fields marked Retained (R432), as a settings copy carries them (R434). -/
structure Retained where
  dsc : Nat := 0
  lastSave : LastSave := {}
  lost : Nat := 0
  capacity : Nat := 0
  esr : Nat := 0
  learnedUnder : Option (Nat × Nat) := none
  learnedOnce : Bool := false
  lastResult : Nat := 0
  aonHours : Nat := 0
  lastClose : Nat := 0
  glitches : Nat := 0
  unarmedPf : Nat := 0
  recSeq : Nat := 0
  k : Option Nat := none
  kBasis : Option KBasis := none
  lastM : Nat := 0
  saves : Nat := 0
  wUsed : Nat := 0
  overrun : Nat := 0
  dElapsed : Nat := 0
  sanCount : Nat := 0
  cellGens : Tbl (BitVec 16) := []
  semForced : Nat := 0
  pans : Option (Tbl Pan) := none
  marks : Tbl Nat := []
  marksFor : Option (Nat × Nat × Nat × Nat) := none
  fullNext : Bool := false
  thmSaves : Nat := 0
  thmHalts : Nat := 0
  lastStop : ThmStop := {}
  tlyCleared : Nat := 0
  deriving DecidableEq, Repr

/-- A settings copy in an area (R433 to R435). -/
structure SettingsCopy where
  /-- owning slot: true for SLOT_B -/
  slot : Bool
  schema : Nat
  /-- sequence of its base: the newer copy has the higher one -/
  age : Nat
  released : Bool := false
  readable : Bool := true
  factory : Bool := false
  /-- words into the area, counted on past its end: where its latest base begins, and the write point (R437) -/
  base : Nat := 0
  next : Nat := 0
  vals : Retained
  deriving DecidableEq, Repr

/-- The states of the update record (R444). -/
inductive UpdState where
  | empty | receiving | received | verified | scheduled | activating | trial | confirmed | failed
  deriving DecidableEq, Repr

/-- The live marker (R445); MSEQ and CHECK are the format's. -/
structure UpdMarker where
  state : UpdState := .empty
  tslot : Bool := false
  cslot : Bool := false
  trialBoot : Nat := 0
  failStage : Nat := 0
  failCode : Nat := 0
  deferred : Bool := false
  cascade : Bool := false
  recovery : Bool := false
  fallback : Bool := false
  tver : Nat := 0
  tsvn : Nat := 0
  mseq : Nat := 0
  deriving DecidableEq, Repr

/-- An entry of an image's section table (R440). -/
structure ImageSection where
  target : Nat
  offset : Nat
  length : Nat
  load : Nat
  deriving DecidableEq, Repr

/-- An image as a slot or a bundle holds it: its header (R440), its length, and whether it passes checks 4 to 6 of R443, which only the
image's bytes and Gorhal's keys decide. -/
structure Image where
  typ : Nat := 0x0501
  format : Nat := 2
  version : Nat
  svn : Nat
  device : Nat
  revisions : Nat
  settingsMax : Nat
  settingsMin : Nat
  layoutMajor : Nat
  length : Nat
  bodyLen : Nat
  sigLen : Nat
  sections : List ImageSection := []
  /-- the body's IV; the key block's wrap IV and wrapped content key (R440, R441) -/
  iv : BitVec 96 := 0
  wrapIv : BitVec 96 := 0
  wrapped : BitVec 256 := 0
  sigOk : Bool
  keyOk : Bool
  tagOk : Bool
  rootSet : Nat
  deriving DecidableEq, Repr

/-- Check 1 of R443: TYPE, FORMAT 2, lengths and section table consistent, and the image fits the slot (R440). -/
def Image.formatOk (i : Image) : Bool :=
  i.typ = 0x0501 && i.format = 2 && i.bodyLen % 64 = 0 && i.sigLen ≤ 8192 && i.length = 0x280 + i.bodyLen + i.sigLen && i.length ≤ 0x800000
    && i.sections.length ≤ 8 && i.sections.all fun x => 1 ≤ x.target && x.target ≤ 7 && x.offset + x.length ≤ i.bodyLen

/-- Start, settings and update (R425 to R462). -/
structure Upd where
  marker : UpdMarker := {}
  /-- UPDREC as a ring (R446): words programmed since manufacture, and sectors erased since -/
  recNext : Nat := 1
  recOld : Nat := 0
  slotA : Option Image := none
  slotB : Option Image := none
  /-- slot that booted: true for SLOT_B -/
  running : Bool := false
  runVer : Nat := 0
  runSvn : Nat := 0
  /-- a download in progress: announced length and bytes so far (R448) -/
  announced : Nat := 0
  announcedVer : Nat := 0
  received : Nat := 0
  erasing : Bool := false
  confirmMin : Nat := 10
  cause : Nat := 0
  wdCount : Nat := 0
  recoveryCause : Nat := 0
  bootMs : Nat := 0
  /-- this start performed a handover (R452) -/
  handover : Bool := false
  /-- the pending-save test at this start (R428) -/
  pendingSave : Bool := false
  schema : Nat := 0
  area : Nat := 0
  migrated : Bool := false
  cold : Bool := false
  factoryDone : Bool := false
  skipped : Nat := 0
  /-- from H0 until SEALED no settings word is written (R437) -/
  settingsHeld : Bool := false
  area0 : Option SettingsCopy := none
  area1 : Option SettingsCopy := none
  /-- the trial image could not read its settings or layout and refuses to arm (R458) -/
  refuseArm : Bool := false
  /-- the boot order has ended in this start (R427) -/
  bootDone : Bool := false
  /-- SAVE_SEQ of the last save whose outcome a start has read (R453) -/
  countedSeq : Nat := 0
  deriving DecidableEq, Repr

/-- A nonce outstanding (R478). -/
structure Nonce where
  value : BitVec 128
  issuedUs : Nat
  deriving DecidableEq, Repr

/-- A head's SPDM responder (R480). -/
structure Spdm where
  version : Bool := false
  capabilities : Bool := false
  algorithms : Bool := false
  /-- 0 none, 1 handshake after KEY_EXCHANGE, 2 established after FINISH -/
  session : Nat := 0
  sessionId : BitVec 32 := 0
  keyGen : Nat := 0
  heartbeats : Nat := 0
  /-- bytes of a chunked request received, and of a chunked response still to send -/
  chunkIn : List Nat := []
  chunkOut : List Nat := []
  /-- IDE keys have been set (R254, R480) -/
  ideKeys : Bool := false
  deriving DecidableEq, Repr

/-- Kinds of nonce (R396, R477, R514). -/
inductive NonceKind where
  | tallyClear | seal | factory | calibration | transfer
  deriving DecidableEq, Repr

/-- An owner key record (R475): its GEN, the ECDSA P-384 public key in SEC1 uncompressed form and the LMS public key. -/
structure OwnerRec where
  gen : Nat
  ecdsa : BitVec 776
  lms : BitVec 448
  deriving DecidableEq, Repr

/-- The image a slot holds. -/
def Upd.slot (u : Upd) (b : Bool) : Option Image := if b then u.slotB else u.slotA

/-- Keyhouse (R463 to R484). -/
structure Key where
  /-- DEVICE_SECRET, fused at manufacture: a part's own value (R463) -/
  secret : BitVec 256 := 0
  rbgOk : Bool := false
  revoked : NSet := []
  antiRollback : Nat := 0
  provLock : Bool := true
  owner : Option OwnerRec := none
  /-- GEN of the keys that layouts are still verified under until the next start, once ownership has been transferred (R476) -/
  layoutGen : Option Nat := none
  lmsQ : Nat := 0
  lmsRes : Nat := 0
  /-- words programmed in the LMSSTATE ring, counted on past its end, and its oldest sector, likewise (R473) -/
  lmsNext : Nat := 0
  lmsOld : Nat := 0
  /-- key sector in use, 0 or 1, and its words programmed (R467, R468) -/
  keySector : Nat := 0
  keyUsed : Nat := 0
  exhausted : Bool := false
  pendingLms : Bool := false
  /-- a reservation has failed in this start (R474) -/
  lmsFail : Bool := false
  ecdsaSigs : Nat := 0
  lmsSigs : Nat := 0
  failCount : Nat := 0
  lastFail : Nat := 0
  /-- nonces outstanding, by kind and port -/
  nonces : List (NonceKind × Port × Nonce) := []
  /-- a certificate chain copy has a correct CRC (R483) -/
  certOk : Bool := true
  /-- sanitize-start word without a sanitize-end word in KEYS (R247) -/
  sanOpen : Bool := false
  spdm : PerHead Spdm := ⟨{}, {}⟩
  identity : BitVec 384 := 0
  deriving DecidableEq, Repr

/-- A cascade unit as the master and the members see it (R492, R498, R507). -/
structure BrlUnit where
  present : Bool := false
  localOk : Bool := false
  state : Nat := 0
  eNeed : Nat := 0
  chargeUc : Int := 0
  backlog : Nat := 0
  /-- marker reported at B2: SCHEDULED version, pending-save test, state (R503) -/
  marker : Option (Nat × Nat × Bool × Nat) := none
  /-- bytes of the bundle the unit has acknowledged, and its status (R505) -/
  acked : Nat := 0
  stageState : Nat := 0
  identity : BitVec 384 := 0
  deriving DecidableEq, Repr

/-- A Brine Line port (R489, R490, R507). -/
structure BrlPort where
  up : Bool := false
  mismatch : Nat := 0
  crcErrors : Nat := 0
  downs : Nat := 0
  /-- HELLO of the neighbour has been accepted, and the identity digest it carried (R490) -/
  hello : Bool := false
  identity : BitVec 384 := 0
  deriving DecidableEq, Repr

/-- The Brine Line frames a unit sends (R492), newest last, as the ring takes them. -/
inductive BrlFrame where
  | hello
  | join (gen : BitVec 16) (units : Nat) (digests : List (BitVec 384))
  | status (state : Nat) (localOk : Nat) (eNeed : Nat) (chargeUc : Int) (backlog : Nat)
  | arm (armed whole : Bool) (unitBits eUse : Nat) (chargeUc : Int) (tick : Nat)
  | trig (cause : Nat)
  | go (cause origin event : Nat)
  | share (unit eT event : Nat)
  | marker (word pendingSave devState : Nat)
  | idle
  | start (codes : List Nat)
  | sched (cancel : Bool) (version : Nat)
  | stage (offset seq len : Nat)
  | stageAck (bytes status : Nat)
  deriving DecidableEq, Repr

/-- An entry of a bundle (R504): the unit it is for, where its image lies, the image's VERSION, and 40 bytes of the unit's identity digest. -/
structure BundleEntry where
  unit : Nat
  offset : Nat
  length : Nat
  version : Nat
  identity : BitVec 320
  deriving DecidableEq, Repr

/-- A bundle's header (R504). -/
structure BundleHeader where
  typ : Nat := 0x0502
  format : Nat := 1
  groupId : Nat
  entries : List BundleEntry
  deriving DecidableEq, Repr

/-- The Brine Line (R485 to R507). -/
structure Brl where
  role : Nat := 0
  index : Nat := 0
  minor : Nat := 0
  whole : Bool := false
  groupArmed : Bool := false
  fallback : Bool := false
  groupStart : Bool := false
  gen : BitVec 16 := 0
  event : Nat := 0
  port0 : BrlPort := {}
  port1 : BrlPort := {}
  eGroup : Nat := 0
  /-- AON time of the last ARM frame (R499) -/
  armUs : Nat := 0
  units : Tbl BrlUnit := []
  joined : Bool := false
  stageState : Nat := 0
  stageTotal : Nat := 0
  stageDone : Nat := 0
  stageSeq : Nat := 0
  /-- whole MiB this unit has acknowledged (R505) -/
  stageAcked : Nat := 0
  stageEntries : Nat := 0
  /-- the bundle's entry for this unit, once complete -/
  bundle : Option Image := none
  stale : Nat := 0
  breaks : Nat := 0
  ignored : Nat := 0
  absorbed : Nat := 0
  /-- EVENT of the last GO acted on under this GEN (R493, R501) -/
  goSeen : Option Nat := none
  /-- R288's suppression for frames rejected under R494 -/
  suppress : Suppress := {}
  /-- E_group latched at the master's H0, R501 -/
  eLatched : Nat := 0
  /-- the unit waits at B2 for its group (R503) -/
  waitB2 : Bool := false
  startCode : Option Nat := none
  /-- frames sent by the last command -/
  sent : List BrlFrame := []
  deriving DecidableEq, Repr

/-- What a response carries: bytes, register words, records, or a value the Keyhouse makes. -/
inductive Payload where
  | empty
  | bytes (bs : List Nat)
  | words (ws : List Nat)
  | nonce (n : BitVec 128)
  | blob (n : BitVec 512)
  | events (overflow firstStamp lastStamp : Nat) (rs : List EvRec)
  | poison (overflow : Option Nat) (ranges : List (Nat × Nat))
  | journal (rs : List JRec)
  | pairs (ps : List (Nat × Nat))
  deriving DecidableEq, Repr

/-- A mailbox completion (R279): CXL return code, Chapen status of a vendor command, payload. -/
structure MboxReply where
  opcode : Nat
  code : Nat
  status : Option Nat
  payload : Payload
  deriving DecidableEq, Repr

/-- A DOE answer: SPDM or CDAT (R254, R480). -/
inductive DoeReply where
  | spdm (request : Nat) (ok : Bool) (payload : Payload)
  | cdat (entries : List Nat)
  deriving DecidableEq, Repr

/-- A Rake Port response frame (R511). -/
structure RakeFrame where
  op : Nat
  tag : Nat
  status : Nat
  payload : Payload
  deriving DecidableEq, Repr

/-- The Rake Port, telemetry, PMBus and GPIO (R508 to R524). -/
structure Svc where
  negotiated : Bool := false
  major : Nat := 0
  minor : Nat := 0
  /-- the response frame that waits: READY is set (R509) -/
  response : Option RakeFrame := none
  /-- the device state has changed since the last READ_STATUS; a start is such a change (R509) -/
  event : Bool := true
  frameErr : Bool := false
  /-- what the last instruction clocked out: a status byte, or a frame -/
  statusByte : Nat := 0
  frameOut : Option RakeFrame := none
  frames : Nat := 0
  errors : Nat := 0
  denied : Nat := 0
  i3c : Bool := false
  dynAddr : Nat := 0
  staticAddr : Nat := 0x4C
  i3cEvents : Nat := 0
  i3cAnswer : Payload := .empty
  page : List Nat := []
  reads : Nat := 0
  pecErr : Nat := 0
  nacks : Nat := 0
  recoveries : Nat := 0
  /-- function and inversion of each pin, from B6 (R522) -/
  gpioFunc : Tbl Nat := []
  gpioInvert : NSet := []
  gpioIn : Nat := 0
  gpioOut : Nat := 0
  /-- levels held from H0 (R522) -/
  gpioHeld : Option Nat := none
  deriving DecidableEq, Repr

/-- Pins and boundary scan (R541, R549, R551, R555), and the straps' levels. -/
structure Pins where
  /-- RECOVER_N as sampled at B1 -/
  recover : Bool := false
  rstLatched : Bool := false
  /-- the always-on domain runs on its RC oscillator (R551) -/
  rcClock : Bool := false
  errLow : Bool := false
  /-- current JTAG instruction; IDCODE after a TAP reset -/
  jtag : Nat := 0x01
  /-- what the data register selected has captured: the identification register, the boundary register, or 0 in bypass -/
  jtagData : Nat := 0x1481696F
  /-- update latches of the boundary register, as one number -/
  boundary : Nat := 0
  /-- EXTEST or CLAMP drives the boundary pins; HIGHZ floats them -/
  scanDrives : Bool := false
  scanFloats : Bool := false
  /-- power-good inputs as last reported: PFAIL_N high and the main supply present -/
  mainPower : Bool := true
  deriving DecidableEq, Repr

/-- The layout's cascade section (R487). -/
structure Cascade where
  groupId : Nat
  units : Nat
  shared : Bool
  shares : List Nat
  unitPSave : List Nat
  aloneFrac : Nat
  deriving DecidableEq, Repr

/-- A layout, with what verification must know of its signatures (R479, R427 step B6). -/
structure Layout where
  schema : Nat
  /-- GEN of the owner record whose keys signed it -/
  signedBy : Nat
  digest : BitVec 384
  profile : Profile
  pmbus : List PmbTarget
  pmbusKhz : Nat
  gov : GovParams
  map : MapParams
  m1Frac : Nat
  m2Frac : Nat
  nand : NandParams
  compress : Bool
  dram : DramParams
  pans : Tbl PanState
  graceMs : Nat
  therm : ThermParams
  fltCfg : Tbl SrcCfg
  tlyMap : Tbl Nat
  tlyLists : Tbl (List Nat)
  confirmMin : Nat
  cascade : Option Cascade
  gpio : Tbl Nat
  gpioInvert : NSet
  smbus : Nat
  deriving DecidableEq, Repr

/-- The LAYOUT partition (R280, R431): the copy in force, the staged one for the next start, and a staging in progress: the head
that began it and bytes so far. -/
structure Lay where
  inForce : Option Layout := none
  committed : Option Layout := none
  stagedHead : Option Head := none
  stagedBytes : Nat := 0
  deriving DecidableEq, Repr

/-- What each interface last answered. -/
structure Replies where
  mbox : PerHead (Option MboxReply) := ⟨none, none⟩
  mem : PerHead (List MemResp) := ⟨[], []⟩
  doe : PerHead (Option DoeReply) := ⟨none, none⟩
  /-- the head's last HDM decoder commit failed (R260) -/
  decoderError : PerHead Bool := ⟨false, false⟩
  deriving DecidableEq, Repr

end Sys2Proof.Machine
end

