-- ==== Sys2Proof/Syntax.lean ====
section
/-!
DEFINITION. The commands: one constructor for each row of spec/opcode_table.json, and the types of their operands. The table
gives the rows no fields; an operand is what the command brings from outside the device: who sent it and its arguments, and
what a pin, a sensor, a memory device or a verification shows at that instant.
-/
namespace Sys2Proof
open Sys2Proof.Machine

/-- What a DRAM read of a line decodes to (R296): clean, or an error of a device position, 15 where it is not confined to one. -/
inductive DramRead where
  | clean
  | corrected (device : Nat)
  | uncorrected (device : Nat)
  /-- the line's own read is clean, the gate's read of its restore-bitmap line is uncorrectable (R174, R299) -/
  | bitmap (device : Nat)
  deriving DecidableEq, Repr

/-- The outcome of a training step's attempt (R324, R325, R327): whether it passed, where it failed, the comparator's last window,
the record's bytes 0x010 to 0x7AF with what the step found, T6's worst margins, one word for each rank as TRN_CH_MARGIN encodes them, and whether the Salt Cellar
took the record. -/
structure TrainResult where
  ok : Bool
  failRank : Nat
  failSub : Nat
  errors : Nat
  firstLane : Nat
  values : List Nat
  margins : Nat
  committed : Bool
  deriving DecidableEq, Repr

/-- What the DRAM engines find at a start (R328, R330, R331): each channel's RCD identification and its ranks' manufacturer and revision mode
registers; by channel × 4 + set the records whose CRC fails or whose FORMAT cannot be read, and the margins the fast verify finds, one
word for each rank. -/
structure DramEnv where
  rcd : Tbl (List Nat)
  modeRegs : Tbl (List Nat)
  crcBad : NSet
  formatBad : NSet
  margins : Tbl Nat
  deriving DecidableEq, Repr

/-- A token as it arrives (R477): its nonce, the identity digest it names, the GEN of the owner keys that signed it, whether each signature
verifies with those keys, and its type field: the seal-break count it carries, or whether the digest it carries is that of what comes with it. -/
structure Token where
  nonce : BitVec 128
  identity : BitVec 384
  signedBy : Nat
  ecdsaOk : Bool
  lmsOk : Bool
  count : Nat
  digestOk : Bool
  deriving DecidableEq, Repr

/-- Why an open seal closes as ABANDONED (R73). -/
inductive SealLoss where
  | strap | timeLimit | saveTrigger | reset
  deriving DecidableEq, Repr

/-- What an operation of the Salinity Map finds that it cannot trust (R100): a Harvest Map entry comes as the 64 bits read. -/
inductive MapDamage where
  | none | lineUncorrectable | cacheUncorrectable | mapLine (line : Nat) | mapEntry (granule word : Nat) | rstUncorrectable
  deriving DecidableEq, Repr

/-- A granule an operation of the Salinity Map is for, and what it finds on its way. -/
structure MapTouch where
  granule : Nat
  damage : MapDamage
  deriving DecidableEq, Repr

/-- Where the read ladder of R222 ends for a codeword. -/
inductive LadderEnd where
  | first (iterations : Nat) | retry (steps iterations : Nat) | soft (iterations : Nat) | rebuilt | unreadable
  deriving DecidableEq, Repr

/-- What the record check of R240 finds on a page that decodes: nothing wrong, a header failure (steps 1 to 3), or a tag failure. -/
inductive RecordCheck where
  | ok | header | tag
  deriving DecidableEq, Repr

/-- How the read of a granule's record ends (R182): decoded, rebuilt from row parity, or unreadable. -/
inductive FetchEnd where
  | readable | rebuilt | unreadable
  deriving DecidableEq, Repr

/-- What a rake move copies (R217). -/
inductive RakeItem where
  | granule (g : Nat)
  | line (n : Nat)
  deriving DecidableEq, Repr

/-- How a due refresh is served (R311). -/
inductive RefreshHow where
  | issued | postponed | pulledIn
  deriving DecidableEq, Repr

/-- A same-bank refresh that falls due: its rank, its bank address, and how it is served (R311). -/
structure RefreshDue where
  rank : Nat
  bank : Nat
  how : RefreshHow
  deriving DecidableEq, Repr

/-- What a HELLO tells of its sender beside versions and group (R490, R495). -/
structure HelloPeer where
  role : Nat
  identity : BitVec 384
  deriving DecidableEq, Repr

/-- What a STAGE frame's bytes spell (R505): the bundle's header with its first bytes; whether its digest verifies with these. -/
structure StageSpells where
  header : Option BundleHeader
  complete : Bool
  deriving DecidableEq, Repr

/-- A pan state change asked for by Set Pan Roles (R264, R280). -/
structure PanChange where
  pan : Nat
  state : Nat
  gen : Nat
  deriving DecidableEq, Repr

/-- What a PMBus target answers to STATUS_WORD and the telemetry reads (R63): its latched fault, whether the condition behind it still
holds, charge complete, its VOUT_MODE, and the four readings: READ_VOUT in Linear16, the others in Linear11. -/
structure PmbReading where
  fault : Bool
  condition : Bool
  chargeDone : Bool
  voutMode : Nat
  vin : Nat
  vout : Nat
  iout : Nat
  temp : Nat
  deriving DecidableEq, Repr

/-- A Stage Layout chunk (R280). -/
structure LayoutChunk where
  offset : Nat
  length : Nat
  final : Bool
  /-- the layout the whole image spells, with its verification, on a FINAL chunk -/
  layout : Option Layout
  sigOk : Bool
  valid : Bool
  deriving DecidableEq, Repr

/-- What a bad Rake Port frame was (R512). -/
inductive RakeError where
  | early | badSync | badCrc | busyNow
  deriving DecidableEq, Repr

/-- What a start finds outside the state (R427): pins, three conversions of the thermal inputs, what reads valid in the Salt Cellar and
Tally, what the DRAM session and the census find, and the time its steps take. -/
structure StartEnv where
  recoverLow : Bool
  /-- CASC_ROLE as sampled at B1 (R485) -/
  role : Nat
  conversions : List (List (Nat × ThmReading))
  headerOk : Bool
  /-- the two reads of a fuse differ (R463) -/
  fuseBad : Bool
  /-- a copy of the calibration set in CALIB does not read valid (R439) -/
  calib0Bad : Bool
  calib1Bad : Bool
  rbgOk : Bool
  /-- a certificate chain copy has a correct CRC (R483) -/
  certOk : Bool
  /-- a slot's bytes no longer read as they were written -/
  slotABad : Bool
  slotBBad : Bool
  /-- both LAYOUT copies fail their signatures or layout verification (R431) -/
  layoutBad : Bool
  area0Bad : Bool
  area1Bad : Bool
  /-- settings words skipped, for their CRC or as unreadable; whether one of them read as READ_FAIL; and the FIELDs left with no valid
  word (R435) -/
  skipped : Nat
  settingsFail : Bool := false
  fieldsLost : List Nat := []
  /-- Tally's control block passes its check (R392); a ring in fall-back tests good (R398) -/
  tallyOk : Bool
  ringTestOk : Bool
  /-- pack voltage at the sense pin -/
  vbkUv : Nat
  /-- start instant to the end of B8, census and start erases -/
  bootUs : Nat
  censusUs : Nat
  eraseUs : Nat
  dram : DramEnv
  /-- NAND channels that fail training, dies that do not answer (channel × 16 + die), factory bad-block marks, by channel, die, block -/
  untrained : NSet
  deadDies : NSet
  factoryBad : List (Nat × Nat × Nat)
  /-- the census cannot read the store's descriptors (R227) -/
  censusBad : Bool
  /-- blocks whose erase fails at this start: (channel × 16 + die) × 32768 + block (R213, R225) -/
  eraseFails : NSet
  /-- checkpoint copies that fail a digest: SAVE_SEQ, and whether copy B (R192) -/
  badCopies : List (Nat × Bool)
  deriving DecidableEq, Repr

/-- The commands (spec/opcode_table.json). -/
inductive Instr where
  /-- VAON_RISE (R15): VAON enters its operating range, and the device leaves OFF for a power-on start, or for RECOVERY if RECOVER_N is low. -/
  | vaonRise (recoverLow : Bool)
  /-- VAON_FALL (R15): VAON falls below its operating range, and the device enters OFF from any other state. -/
  | vaonFall
  /-- MAIN_DOMAIN_RELEASE (R544): Every main rail has been in tolerance for 1 ms, so the supervisors release the main domain and a pending start begins. -/
  | mainDomainRelease
  /-- MAIN_RAIL_FAIL (R545): A main rail stays below 92% of nominal for more than 5 µs; this causes a chip reset, or a fault HALT during HARVEST or SALVAGE. -/
  | mainRailFail
  /-- START (R427): A start runs boot steps B1 to B11, deciding slot, layout, settings, restore kind and DRAM session, through restore or store initialisation. -/
  | startDevice (env : StartEnv)
  /-- TRAINING_CHECKPOINT (R324): A training step completes on a channel; its record is committed and a latched frequency change may run. -/
  | trainingCheckpoint (channel step set : Nat) (result : TrainResult)
  /-- HOST_READY (R167): F4 has ended, the media key is available and each head has linked or used up the F5 bound, so the device leaves REFLOOD for ARMED or UNARMED. -/
  | hostReady
  /-- POWER_GOOD (R62): PFAIL_N is high and VMAIN_SENSE has stayed at or above the power-good threshold for the power-good time in SEALED or an R61 HALT, so the device starts. -/
  | powerGood (elapsedMs : Nat)
  /-- PIN_RESET (R549): An accepted RST_N assertion acts on release as a pin reset, a latched reset, a start from a planned-save SEALED state, or is ignored, according to the state. -/
  | pinReset
  /-- RST_N_REJECT (R549): RST_N low for less than 1.5 µs is rejected with no effect. -/
  | rstNReject
  /-- HEAD_RESET (R548): HA_PERST_N, HB_PERST_N or a CXL hot reset resets one head only, clearing its decoders and taking its link down. -/
  | headReset (head : Head)
  /-- POWER_FAIL_DETECTION (R57): PFAIL_N low or VMAIN_SENSE below the undervoltage threshold for the whole deglitch window gives a detection, which is save trigger 1 or 2 when HOLD_ARM is 1. -/
  | powerFailDetection (vmain : Bool) (sinceNs : Nat)
  /-- GLITCH_REJECT (R57): A power-fail excursion shorter than the deglitch window is rejected and counted in SAL_PF_COUNT.GLITCHES. -/
  | glitchReject
  /-- HARVEST_NOW (R129): Vendor command 0xC111 from the holder of cell 1 starts a planned save as trigger 5 if state, HOLD_ARM and critical steps allow. -/
  | harvestNow (head : Head) (gen : BitVec 16) (sealCritical : Bool)
  /-- ECONS_PUBLISH (R140): Every 250 µs during a save SAL_ECONS is published and Harvest tests it against the milestone points. -/
  | econsPublish (phyAOff phyBOff : Bool)
  /-- DATA_PHASE_END (R142): The data phase ends because every dirty granule has been saved or abandoned, which is the M3 instant, and the tail begins. -/
  | dataPhaseEnd (phyAOff phyBOff : Bool)
  /-- TAIL_COMPLETE (R141): Staged records are programmed and open rows closed with parity, and H4 writes both checkpoint copies and has them signed. -/
  | tailComplete (canSign copyA copyB : Bool)
  /-- SEAL (R151): A checkpoint header is read back with its signature intact, and H5 programs the locator and Salinometer save record, stands NAND down, resets DRAM and releases HOLD_EN into SEALED. -/
  | sealSave (backA backB recordOk : Bool)
  /-- VABS_RELEASE (R61): The loaded pack voltage stays below V_ABS × SERIES for 1 ms, so HOLD_EN is released and the device enters a fault HALT. -/
  | vabsRelease
  /-- GOVERNOR_TICK (R25): Every 250 µs the governor computes E_need, B_sup and B_ceil, evaluates the arming conditions and sets bands, backpressure and the wear bucket. -/
  | governorTick
  /-- ARM (R25): All arming conditions have held for the arming holdoff, so the device enters ARMED, increments ARM_GEN and raises a type 0x01 event record. -/
  | armDevice
  /-- WEAR_DAY_BOUNDARY (R119): At each AON day boundary the daily allowance A_day is recomputed. -/
  | wearDayBoundary
  /-- WEAR_HOURLY_COMMIT (R119): Once per AON hour W_used and D_elapsed are written to the Salt Cellar and any wear overrun writes its Tally record. -/
  | wearHourlyCommit
  /-- SAL_SAMPLE (R51): Every 250 µs the Salinometer samples backup voltage and current and integrates terminal energy. -/
  | salSample (vbkUv : Nat) (ibk : Int)
  /-- EUSE_PUBLISH (R51): Every 1 ms the Salinometer computes and publishes usable energy E_use, or marks the reading invalid under R56. -/
  | eusePublish (ntc0 ntc1 : Option Nat) (vmainUv : Nat) (adcFail : Bool)
  /-- PACK_REMOVED (R54): The pack voltage stays below V_PLAUS for 1 s and the pack is marked removed. -/
  | packRemoved
  /-- SOC_REANCHOR (R55): The pack has rested for the profile rest time at a voltage that anchors, and state of charge is re-anchored from the OCV table. -/
  | socReanchor
  /-- PMBUS_POLL (R63): Every 50 ms the PMBus master reads STATUS_WORD and telemetry of each target, retrying unacknowledged transactions. -/
  | pmbusPoll (target : Nat) (reading : Option PmbReading) (nacks : Nat) (sdaHeld : Bool)
  /-- PMBUS_TARGET_ABSENT (R64): A PMBus target has had no successful transaction for 1 s and is marked absent, invalidating the reading if it is the hold-up converter. -/
  | pmbusTargetAbsent (target : Nat)
  /-- LEARN_INTERVAL (R66): The learning interval of AON time elapses or a deferral hour expires, and a learning cycle starts if its conditions hold or is deferred again. -/
  | learnInterval
  /-- START_LEARN (R66): A write of SAL_LEARN_CTL.START by the holder of cell 1 requests a learning cycle. -/
  | startLearn (port : Port)
  /-- ABORT_LEARN (R68): A write of SAL_LEARN_CTL.ABORT by the holder of cell 1 aborts a learning cycle at any step. -/
  | abortLearn (port : Port)
  /-- NEW_SOURCE (R54): A write of SAL_LEARN_CTL.NEW_SOURCE by the holder of cell 1 declares the source new. -/
  | newSource (port : Port)
  /-- LEARN_L1_BACKLOG_MET (R68): The backlog is at or below the projected B_ceil, so L2 turns the charger off, records the OCV and closes CALLOAD. -/
  | learnL1BacklogMet
  /-- LEARN_L1_TIMEOUT (R68): The backlog has not met the projected ceiling within 10 s and the cycle aborts. -/
  | learnL1Timeout
  /-- LEARN_ESR_MEASURE (R68): 1 ms after CALLOAD closes, ESR is computed from the voltage step and current. -/
  | learnEsrMeasure
  /-- LEARN_DISCHARGE_END (R68): E_draw has been drawn or the loaded voltage reached the floor, so CALLOAD opens and the rest begins. -/
  | learnDischargeEnd
  /-- LEARN_DISCHARGE_TIMEOUT (R68): The discharge exceeds 60 s and the cycle aborts. -/
  | learnDischargeTimeout
  /-- LEARN_REST_END (R68): The rest time ends, the relaxed OCV is recorded, capacity is computed and applied, and the charger turns on. -/
  | learnRestEnd
  /-- LEARN_COMPLETE (R68): Charge completes at L7, the cycle ends and its learning record is written. -/
  | learnComplete
  /-- SEAL_NONCE (R72): Vendor command 0xC130 from the holder of cell 1 returns a 128-bit seal nonce valid for 60 s. -/
  | sealNonce (head : Head) (gen : BitVec 16)
  /-- SEAL_BREAK (R72): Vendor command 0xC131 checks SEAL_N, count, state, nonce and both owner signatures, steps the fuse counter and opens the seal. -/
  | sealBreak (head : Head) (gen : BitVec 16) (token : Token) (strapLow : Bool)
  /-- SEAL_CLOSE (R72): Vendor command 0xC132 commits the staged calibration to SEALCAL, applies it, clears OPEN and writes a seal-close record. -/
  | sealClose (head : Head) (gen : BitVec 16)
  /-- SEAL_ABANDON (R73): SEAL_N goes high, the 10-minute limit expires, a save trigger or a reset occurs, and the seal closes as ABANDONED. -/
  | sealAbandon (cause : SealLoss)
  /-- CALIBRATION_WRITE (R77): A write to a sealed calibration register while SAL_SEAL.OPEN is 1 updates the staged copy; otherwise it is ignored and recorded. -/
  | calibrationWrite (port : Port) (offset value : Nat)
  /-- NONCE_EXPIRY (R478): A nonce lapses 60 s after issue. -/
  | nonceExpiry (kind : NonceKind) (port : Port)
  /-- MARK (R83): A MARK at the ordering point sets a granule's ledger bit and the region's EPOCH. -/
  | markGranule (granule : Nat) (damage : MapDamage)
  /-- CLAIM (R83): A CLAIM answers CLEAN or BUSY, or clears the ledger bit, enters the in-flight table and answers GRANT. -/
  | claimGranule (touch : MapTouch)
  /-- COMMIT (R83): A COMMIT removes a granule from the in-flight table after its new Harvest Map entry is written. -/
  | commitGranule (touch : MapTouch) (entry : HmEntry)
  /-- ABANDON (R87): An ABANDON sets a granule's ledger bit again and removes it from the in-flight table. -/
  | abandonGranule (granule : Nat)
  /-- CACHE_FILL_COMPLETE (R91): A ledger cache fill's DRAM read returns and the waiting MARKs and CLAIMs on the line take effect in order. -/
  | cacheFillComplete (region : Nat) (uncorrectable : Bool)
  /-- EPOCH_ADVANCE (R95): Every EPOCH_MS the current epoch advances and the RST is swept to cap ages at 192 and update HOT. -/
  | epochAdvance
  /-- AUDIT (R99): The audit reads a region's ledger line and compares its population count with DIRTY. -/
  | auditRegion (region : Nat) (damage : MapDamage)
  /-- DRAIN_SLOT (R104): In each scheduling slot the Evaporator chooses the oldest eligible region and claims its dirty granules in order. -/
  | drainSlot (quota : Nat)
  /-- DRAIN_READ_COMPLETE (R105): A drained granule's 4 KiB DRAM read returns and the granule enters Panhouse and write staging. -/
  | drainReadComplete (granule : Nat) (errors : List (Nat × DramRead)) (length lane : Nat)
  /-- PARTIAL_PAGE_TIMEOUT (R105): A partly filled page has waited 20 ms since its first record entered staging and is programmed. -/
  | partialPageTimeout (rowSeq channel stripe : Nat)
  /-- PAGE_PROGRAM_COMPLETE (R105): A page program reports success; new Harvest Map entries are committed, previous locations become stale, and COMMIT follows. -/
  | pageProgramComplete (rowSeq channel stripe tenthUs : Nat)
  /-- PROGRAM_FAIL (R203): A page program fails; its granules are abandoned and the stripe parity is recomputed, or marked UNPROTECTED during a save. -/
  | programFail (rowSeq channel stripe : Nat)
  /-- DRAIN_TIMEOUT (R107): A granule's D1 to D7 exceeds 200 ms and it is abandoned. -/
  | drainTimeout (granule : Nat)
  /-- STRIPE_TIMEOUT (R202): A stripe has not completed within 1 s and its remaining data pages are programmed as padding. -/
  | stripeTimeout (rowSeq stripe : Nat)
  /-- MAP_SEGMENT_TIMEOUT (R109): The oldest changed Harvest Map line not yet in a segment has waited 1 s and a map segment page is programmed. -/
  | mapSegmentTimeout
  /-- LOST_PAGE (R204): A die or channel becomes unreadable before a stripe's parity is programmed; each lost page is reported and its granules are re-marked or set lost. -/
  | lostPage (rowSeq channel stripe : Nat)
  /-- PAUSE (R122): A DRN_CTL.PAUSE write by the holder of cell 1 pauses the drain and abandons granules not yet read. -/
  | pauseDrain (port : Port)
  /-- RESUME (R122): A DRN_CTL.RESUME write by the holder of cell 1 ends a drain pause. -/
  | resumeDrain (port : Port)
  /-- PAUSE_MAX_EXPIRY (R123): PAUSE_MAX seconds pass since the pause began and the pause lapses. -/
  | pauseMaxExpiry
  /-- HOST_MEM_READ (R174): A CXL.mem read passes the access checks and restore gate and is served, demand-fetched, or answered with poison as a violation. -/
  | hostMemRead (head : Head) (hpa tag : Nat) (dram : DramRead) (latencyNs : Nat)
  /-- HOST_MEM_WRITE (R84): A CXL.mem write passes the access checks and restore gate and commits with a MARK, or is merged after a fetch, or is discarded as a violation. -/
  | hostMemWrite (head : Head) (hpa tag : Nat) (data : List Byte) (poison posted mergeBad : Bool)
  /-- DEMAND_FETCH_COMPLETE (R180): A fetched granule's content is committed, its restore bit set, and waiting reads and writes are released in arrival order. -/
  | demandFetchComplete (granule : Nat) (outcome : FetchEnd) (us : Nat)
  /-- POSTED_CREDIT_RESUME (R303): Combined posted-write occupancy falls below the resume value and write credits resume. -/
  | postedCreditResume
  /-- GLOBAL_PERSISTENT_FLUSH (R20): A Global Persistent Flush completes when the head's posted writes are committed to DRAM. -/
  | globalPersistentFlush (head : Head)
  /-- BACKGROUND_RESTORE_GRANULE (R175): The NAND stream's read of a STORED granule completes and its content is written to DRAM without a MARK and its restore bit set. -/
  | backgroundRestoreGranule (outcome : FetchEnd)
  /-- ZERO_STREAM_GRANULE (R175): The zero stream writes zeros to a ZERO granule and sets its restore bit. -/
  | zeroStreamGranule
  /-- NAND_READ_COMPLETE (R222): A NAND codeword read completes and decodes, or climbs the read ladder to rebuild or unreadable. -/
  | nandReadComplete (rowSeq channel stripe : Nat) (ladder : LadderEnd) (check : RecordCheck) (tenthUs : Nat)
  /-- RAKE_MOVE (R217): A raked record's copy commits at the destination and the Harvest Map is updated only if it still names the source. -/
  | rakeMove (item : RakeItem)
  /-- ROW_ERASE (R216): A SPENT row with no restore read holding a location is erased. -/
  | rowErase (rowSeq : Nat)
  /-- ERASE_COMPLETE (R225): A block erase completes; the block becomes ERASED, or is retired on failure, and block tables are written every 4,096 erases. -/
  | eraseComplete (channel die block : Nat) (ok : Bool)
  /-- STORE_PATROL (R223): Every 168 AON hours store patrol reads each programmed page's descriptor through the ladder and queues rows. -/
  | storePatrol (queue : NSet)
  /-- ZQ_CALIBRATION (R194): Every 1 s a ZQ short calibration runs on each active NAND channel. -/
  | zqCalibration
  /-- DIE_RESET_TIMEOUT (R226): A die fails to return ready within 50 ms of a reset and is retired. -/
  | dieResetTimeout (channel die : Nat)
  /-- WRITE_BATCH (R302): A channel's write queue reaches 192 lines or a level-3 write, and a write batch runs until the queue falls to 64 lines. -/
  | writeBatch (channel ns : Nat)
  /-- DEVICE_MARK (R298): One device position produces 64 corrected errors within 24 AON hours and is marked. -/
  | deviceMark (channel k device : Nat)
  /-- REFRESH (R311): A bank's refresh interval falls due and a same-bank refresh is issued, postponed or pulled in. -/
  | refresh (channel : Nat) (due : RefreshDue)
  /-- MR4_POLL (R311): Every 32 ms Brine Pond reads MR4 and sets the refresh rate. -/
  | mr4Poll (channel rate : Nat)
  /-- PATROL_SCRUB (R312): Patrol scrub reads the next line of its pass, skipping unrestored granules and poisoned lines. -/
  | patrolScrub (dram : DramRead)
  /-- SHADOW_SET_CHANGE (R316): A change of DRAM shadow set requested by Thermal Guard or firmware runs through self-refresh channel by channel, or is refused or latched. -/
  | shadowSetChange (set : Nat) (firmware : Bool)
  /-- IDLE_SELF_REFRESH (R317): A channel has received no request for the idle interval and enters self-refresh. -/
  | idleSelfRefresh (channel : Nat)
  /-- DRAM_CHANNEL_FAILURE (R319): A DRAM channel fails on training, repeated DCA parity alerts or an unanswering RCD, and its reads return poison from then on. -/
  | dramChannelFailure (channel cause : Nat)
  /-- PAN_POLICY_WRITE (R305): A head writes DMC_PAN_POL to set page attributes of pans it can write. -/
  | panPolicyWrite (port : Port) (reg value : Nat)
  /-- DQS_TRACK (R333): Every 100 ms the DQS interval oscillator runs and write DQS delays are adjusted, or the set is invalidated when drift exceeds 1/4 UI. -/
  | dqsTrack (channel device : Nat) (drift : Int)
  /-- FULL_NEXT (R332): A write of TRN_CTL.FULL_NEXT requests full training at the next start. -/
  | fullNext (port : Port)
  /-- TRN_CANCEL (R332): A write of TRN_CTL.CANCEL withdraws a full-training request. -/
  | trnCancel (port : Port)
  /-- THERMAL_SAMPLE (R347): Thermal Guard converts every enabled input and compares readings with WARN, THROTTLE, SHUT, SHUT_SAVE and the absolute limit. -/
  | thermalSample (readings : List (Nat × ThmReading))
  /-- THROTTLE_STEP_ADVANCE (R350): An input remains at or above THROTTLE for 500 ms and the next throttle step is taken. -/
  | throttleStepAdvance
  /-- THROTTLE_STEP_BACK (R351): Every input has read 5 °C below THROTTLE for 1 s and throttling moves back one step. -/
  | throttleStepBack
  /-- THERMAL_RESTART (R356): Every enabled input has read below RESTART with none broken for 10 s, so a thermal HALT or trigger-3 SEALED device starts. -/
  | thermalRestart
  /-- FAST_SAMPLING_END (R347): One second after the last reading near a threshold, the sampling period returns to 20 ms. -/
  | fastSamplingEnd
  /-- FAULT_EVENT (R369): A source event is classified, its level raised if its class is unacknowledged, and it takes its reaction level. -/
  | faultEvent (source unit detail : Nat) (edge : SrcEdge)
  /-- BLOCK_RESET_COMPLETE (R371): A block reset completes and acknowledges its level-3 event. -/
  | blockResetComplete (block : FltBlock) (ok : Bool)
  /-- WIREFAULT (R365): A source's true/complement pair agrees for more than two cycles and WIREFAULT is raised for its group. -/
  | wirefault (line : Nat) (on : Bool)
  /-- FAULT_WINDOW_EXPIRY (R367): A source's window W ends and its counter and timer return to 0. -/
  | faultWindowExpiry (source : Nat)
  /-- TRAP_RETURN (R371): Firmware returns from a level-2 trap and acknowledges the event. -/
  | trapReturn
  /-- ACKNOWLEDGE_CLASS (R371): A write of 1 to a class bit in FLT_PENDING acknowledges its level-1 event. -/
  | acknowledgeClass (port : Port) (mask : Nat)
  /-- CLEAR_STICKY (R377): A write of 1 to FLT_STICKY or FLT_SEVERE clears bits whose source is not live, and refused bits set CLEAR_REFUSED. -/
  | clearSticky (port : Port) (isSevere : Bool) (word mask : Nat)
  /-- CLEAR_FIRST (R377): A write of 1 to FLT_FIRST.VALID empties the first-source latch unless its source is live. -/
  | clearFirst (port : Port)
  /-- TALLY_TRIGGER (R386): A trigger enters the Tally FIFO, or is dropped and counted when the FIFO is full. -/
  | tallyTrigger (code level arg : Nat)
  /-- TALLY_RECORD_WRITE (R385): A trigger leaves the FIFO and its record is written with header, snapshot and trailer. -/
  | tallyRecordWrite (reserveOk : Bool)
  /-- TALLY_MIRROR (R395): A PERSIST record leaves the mirror queue and is programmed into JOURNAL as 8 words. -/
  | tallyMirror (ok : Bool)
  /-- SOFTWARE_TRIGGER (R391): A TLY_SOFT write requests software trigger 0x1F0 + CODE unless within 1 ms of the last accepted write. -/
  | softwareTrigger (port : Port) (value : Nat)
  /-- CELLAR_PROGRAM (R406): A Salt Cellar program request is checked against rights and program rules and queued or rejected. -/
  | cellarProgram (user : CelUser) (sector word : Nat) (data : BitVec 128)
  /-- CELLAR_PROGRAM_DONE (R408): A Salt Cellar program ends at its first passing verify or with VERIFY_FAIL. -/
  | cellarProgramDone (steps : Nat) (ok : Bool)
  /-- CELLAR_ERASE (R410): A Salt Cellar erase request updates the status record and begins erase steps, or is refused during a save. -/
  | cellarErase (user : CelUser) (sector : Nat)
  /-- CELLAR_ERASE_DONE (R410): A Salt Cellar erase completes and clears the flag, or fails verify. -/
  | cellarEraseDone (steps : Nat) (ok : Bool)
  /-- CELLAR_READ (R416): A Salt Cellar read is served from cache or the array, with reference retries on an uncorrectable word. -/
  | cellarRead (sector word attempts : Nat) (fetch : Bool) (waitUs : Nat)
  /-- WD_COUNT_CLEAR (R430): A start has run 10 minutes past its boot order without a watchdog reset and WD_COUNT returns to 0. -/
  | wdCountClear
  /-- CONFIRM (R456): CONFIRM_MIN minutes pass with the trial conditions held and the trial image programs CONFIRMED. -/
  | confirmTrial
  /-- LINK_UP (R256): A head's link reaches L0 with CXL.io and CXL.mem and the head is linked, stopping its grace timer. -/
  | linkUp (head : Head) (rate width : Nat) (ide : Bool)
  /-- LINK_DOWN (R256): A head's link has left L0 and not returned within 100 ms, so it is down and its grace timer starts. -/
  | linkDown (head : Head)
  /-- GRACE_EXPIRY (R272): A head's grace period ends and its cells are force-released with a forced-release event. -/
  | graceExpiry (head : Head)
  /-- SEM_ACQUIRE (R270): A SEM_REQ acquire answers GRANTED, BUSY or ROLE_STALE, with ties decided by PRI. -/
  | semAcquire (head : Head) (cell : Nat) (gen : BitVec 16) (tie : Bool)
  /-- SEM_RELEASE (R270): A SEM_REQ release answers RELEASED, NOT_HOLDER or ROLE_STALE. -/
  | semRelease (head : Head) (cell : Nat) (gen : BitVec 16)
  /-- GET_CHAPEN_VERSION (R278): Vendor command 0xC100 returns the supported, negotiated versions and the Chapen event UUID. -/
  | getChapenVersion (head : Head)
  /-- SET_CHAPEN_VERSION (R276): Vendor command 0xC101 negotiates the head's Chapen command set version. -/
  | setChapenVersion (head : Head) (major minor : Nat)
  /-- GET_PERSISTENCE_STATUS (R278): Vendor command 0xC110 returns the GOV status registers from one governor tick. -/
  | getPersistenceStatus (head : Head)
  /-- RELEASE_HELD_ACCESS (R36): Vendor command 0xC112 from the holder of cell 1 releases held access for the power cycle, or is refused. -/
  | releaseHeldAccess (head : Head) (gen : BitVec 16)
  /-- GET_PAN_ROLES (R278): Vendor command 0xC120 returns state, PENDING and generation of a range of pans. -/
  | getPanRoles (head : Head) (first count : Nat)
  /-- SET_PAN_ROLES (R280): Vendor command 0xC121 atomically checks and commits pan state changes, then raises capacity events. -/
  | setPanRoles (head : Head) (gen : BitVec 16) (force : Bool) (changes : List PanChange) (commitOk : Bool)
  /-- UNLOCK (R189): Vendor command 0xC140 from the holder of cell 4 unwraps the media key with the secret, or counts a failure. -/
  | unlockDevice (head : Head) (gen : BitVec 16) (secret : BitVec 256)
  /-- SET_UNLOCK_SECRET (R246): Vendor command 0xC141 sets, changes or removes the unlock secret by rewrapping the key blob. -/
  | setUnlockSecret (head : Head) (gen : BitVec 16) (current new : Option (BitVec 256)) (commitOk : Bool)
  /-- SANITIZE (R247): Vendor command 0xC142 from the holder of cell 4 starts a sanitize, pausing the drain, stopping restore and raking and holding access. -/
  | sanitize (head : Head) (gen : BitVec 16) (confirmation : Nat)
  /-- CRYPTO_ERASE (R247): After S1 the sanitize-start word is programmed, key registers cleared, blobs zeroed, new keys made, the map reset and the sanitize completed. -/
  | cryptoErase (interrupted : Bool)
  /-- TALLY_CLEAR_NONCE (R396): Vendor command 0xC150 from the holder of cell 3 returns a clear nonce. -/
  | tallyClearNonce (head : Head) (gen : BitVec 16)
  /-- CLEAR_TALLY (R396): Vendor command 0xC151 verifies the clear token, writes and mirrors the CLEAR record, and empties the ring. -/
  | clearTally (head : Head) (gen : BitVec 16) (token : Token) (commitOk : Bool)
  /-- GET_UPDATE_STATUS (R278): Vendor command 0xC160 returns the 32-byte UPD status. -/
  | getUpdateStatus (head : Head)
  /-- SCHEDULE_ACTIVATION (R450): Vendor command 0xC161 from the holder of cell 2 rechecks the target image, erases the spare settings area and programs SCHEDULED. -/
  | scheduleActivation (head : Head) (gen : BitVec 16) (version : Nat)
  /-- CANCEL_ACTIVATION (R450): Vendor command 0xC162 returns SCHEDULED to VERIFIED, or ends a trial with FAILED code 0x0D. -/
  | cancelActivation (head : Head) (gen : BitVec 16)
  /-- STAGE_LAYOUT (R280): Vendor command 0xC170 stages layout chunks in order and, on FINAL, verifies and commits the layout for the next start. -/
  | stageLayout (head : Head) (gen : BitVec 16) (chunk : LayoutChunk) (commitOk : Bool)
  /-- READ_JOURNAL (R280): Vendor command 0xC180 returns whole JOURNAL records of one type in sequence order. -/
  | readJournal (head : Head) (typ seq count : Nat)
  /-- UNSUPPORTED_COMMAND (R282): A mailbox opcode not supported, or not in the negotiated version, returns Unsupported. -/
  | unsupportedCommand (head : Head) (opcode : Nat)
  /-- GET_EVENT_RECORDS (R282): The CXL command returns records from a head's event log. -/
  | getEventRecords (head : Head) (log : EvLog)
  /-- CLEAR_EVENT_RECORDS (R285): The CXL command clears event records and ends a log's overflow once room is freed. -/
  | clearEventRecords (head : Head) (log : EvLog) (handles : Option (List Nat))
  /-- GET_EVENT_INTERRUPT_POLICY (R282): The CXL command returns the event interrupt policy. -/
  | getEventInterruptPolicy (head : Head)
  /-- SET_EVENT_INTERRUPT_POLICY (R282): The CXL command sets the event interrupt policy. -/
  | setEventInterruptPolicy (head : Head) (policy : List Nat)
  /-- GET_FW_INFO (R282): The CXL command returns firmware information, read only. -/
  | getFwInfo (head : Head)
  /-- GET_TIMESTAMP (R282): The CXL command returns the head's timestamp advanced by AON time. -/
  | getTimestamp (head : Head)
  /-- SET_TIMESTAMP (R285): The CXL command sets the head's timestamp until its link goes down. -/
  | setTimestamp (head : Head) (value : Nat)
  /-- GET_SUPPORTED_LOGS (R282): The CXL command lists the supported logs, the Command Effects Log only. -/
  | getSupportedLogs (head : Head)
  /-- GET_LOG (R282): The CXL command returns the Command Effects Log. -/
  | getLog (head : Head) (offset length : Nat)
  /-- IDENTIFY_MEMORY_DEVICE (R261): The CXL command reports host-visible capacity as Dynamic Capacity. -/
  | identifyMemoryDevice (head : Head)
  /-- GET_HEALTH_INFO (R283): The CXL command reports health status, media status, life used, temperature, Dirty Shutdown Count and corrected errors. -/
  | getHealthInfo (head : Head)
  /-- GET_ALERT_CONFIGURATION (R282): The CXL command returns the alert configuration. -/
  | getAlertConfiguration (head : Head)
  /-- SET_ALERT_CONFIGURATION (R282): The CXL command sets the alert configuration. -/
  | setAlertConfiguration (head : Head) (cfg : List Nat)
  /-- SET_SHUTDOWN_STATE (R282): The CXL command sets the shutdown state. -/
  | setShutdownState (head : Head) (state : Nat)
  /-- GET_POISON_LIST (R187): The CXL command returns the head's poison list and its overflow flag. -/
  | getPoisonList (head : Head) (dpa length : Nat)
  /-- INJECT_POISON (R282): The CXL command sets every touched granule lost and poisoned and issues MARKs, or is refused without write access. -/
  | injectPoison (head : Head) (dpa : Nat)
  /-- CLEAR_POISON (R186): The CXL command writes supplied data and zeros to a lost granule, clears its lost bit and issues a MARK. -/
  | clearPoison (head : Head) (dpa : Nat) (data : List Byte)
  /-- GET_DYNAMIC_CAPACITY_CONFIGURATION (R282): The CXL command returns the Dynamic Capacity region configuration. -/
  | getDynamicCapacityConfiguration (head : Head)
  /-- GET_DYNAMIC_CAPACITY_EXTENT_LIST (R259): The CXL command returns the pans the head holds as extents with their tags. -/
  | getDynamicCapacityExtentList (head : Head) (first count : Nat)
  /-- ADD_DYNAMIC_CAPACITY_RESPONSE (R267): The host accepts an added extent and the head may use the pan. -/
  | addDynamicCapacityResponse (head : Head) (pans : List (Nat × Nat))
  /-- RELEASE_DYNAMIC_CAPACITY (R267): The host releases an extent and the pending loss of access takes effect. -/
  | releaseDynamicCapacity (head : Head) (pans : List (Nat × Nat))
  /-- MALFORMED_MAILBOX_COMMAND (R287): A malformed mailbox command returns BAD_LENGTH or the CXL-defined code and is counted as a violation. -/
  | malformedMailboxCommand (head : Head) (opcode : Nat)
  /-- GET_VERSION (R480): The SPDM request returns the supported SPDM versions. -/
  | getVersion (head : Head)
  /-- GET_CAPABILITIES (R480): The SPDM request returns the responder's capabilities. -/
  | getCapabilities (head : Head)
  /-- NEGOTIATE_ALGORITHMS (R480): The SPDM request negotiates ECDSA P-384, SHA-384, secp384r1 and AES-256-GCM. -/
  | negotiateAlgorithms (head : Head) (common : Bool)
  /-- GET_DIGESTS (R480): The SPDM request returns the certificate chain digest of slot 0. -/
  | getDigests (head : Head)
  /-- GET_CERTIFICATE (R480): The SPDM request returns the certificate chain of slot 0, or an error if no copy is valid. -/
  | getCertificate (head : Head) (slot offset length : Nat) (large : Bool)
  /-- CHALLENGE (R480): The SPDM request is answered with an ECDSA-signed challenge response. -/
  | challenge (head : Head)
  /-- GET_MEASUREMENTS (R481): The SPDM request returns measurement blocks 1 to 6. -/
  | getMeasurements (head : Head) (index : Nat) (sign large : Bool)
  /-- KEY_EXCHANGE (R480): The SPDM request begins a session key exchange. -/
  | keyExchange (head : Head)
  /-- FINISH (R480): The SPDM request completes session establishment. -/
  | spdmFinish (head : Head) (verified : Bool)
  /-- HEARTBEAT (R480): The SPDM request keeps a session alive. -/
  | heartbeat (head : Head)
  /-- KEY_UPDATE (R480): The SPDM request updates session keys. -/
  | keyUpdate (head : Head)
  /-- END_SESSION (R480): The SPDM request ends a session. -/
  | endSession (head : Head)
  /-- CHUNK_SEND (R480): The SPDM request sends a chunk of a large message. -/
  | chunkSend (head : Head) (chunk : List Nat) (last : Bool)
  /-- CHUNK_GET (R480): The SPDM request retrieves a chunk of a large response. -/
  | chunkGet (head : Head) (length : Nat)
  /-- IDE_KEY_MANAGEMENT (R480): A vendor-defined SPDM message of CXL IDE key management sets IDE keys. -/
  | ideKeyManagement (head : Head)
  /-- CDAT_TABLE_ACCESS (R254): A DOE CDAT Table Access request returns the CDAT table. -/
  | cdatTableAccess (head : Head)
  /-- READ_STATUS (R509): Rake instruction 0x05 returns the status byte and clears EVENT and FRAME_ERR. -/
  | readStatus
  /-- READ_FRAME (R512): Rake instruction 0x6B clocks out the waiting response, clearing READY, or a zero frame. -/
  | readFrame
  /-- PORT_RESET (R508): Rake instruction 0x99 discards any frame in progress and unread response and ends the negotiated version. -/
  | portReset
  /-- RAKE_FRAME_ERROR (R512): A request frame that arrives while busy, ends early, has a bad SYNC or fails its CRC is discarded or answered with BAD_CRC. -/
  | rakeFrameError (err : RakeError)
  /-- HELLO (R513): Rake operation 0x0001 negotiates the Rake protocol version. -/
  | hello (tag high minor low : Nat)
  /-- IDENTIFY (R514): Rake operation 0x0002 returns the IDN registers and the identity digest. -/
  | identify (tag : Nat)
  /-- REG_READ (R514): Rake operation 0x0010 returns a run of register words. -/
  | regRead (tag offset count : Nat)
  /-- REG_WRITE (R516): Rake operation 0x0011 writes one register if it is on the allowed list, else answers REFUSED. -/
  | regWrite (tag offset value : Nat)
  /-- GET_NONCE (R478): Rake operation 0x0020 returns a nonce of the requested kind. -/
  | getNonce (tag kind : Nat)
  /-- RAKE_SEAL_BREAK (R72): Rake operation 0x0021 submits a Seal Break token and opens the seal, or answers BUSY while cell 1 is held. -/
  | rakeSealBreak (tag : Nat) (token : Token) (strapLow : Bool)
  /-- RAKE_SEAL_CLOSE (R72): Rake operation 0x0022 commits the staged calibration and closes the seal. -/
  | rakeSealClose (tag : Nat)
  /-- FACTORY_RESET (R438): Rake operation 0x0023 verifies a factory reset token and programs a factory request word for the next start. -/
  | factoryReset (tag : Nat) (token : Token)
  /-- CALIBRATE (R439): Rake operation 0x0024 verifies a calibration token and rewrites both CALIB copies. -/
  | calibrate (tag : Nat) (token : Token) (osc bg : List (Int × Nat))
  /-- INSTALL_OWNER (R476): Rake operation 0x0025 stores an owner key record with GEN 1 on an unowned device. -/
  | installOwner (tag : Nat) (record : OwnerRec) (wellFormed : Bool)
  /-- TRANSFER_OWNER (R476): Rake operation 0x0026 verifies an ownership transfer token and installs the new record with GEN + 1. -/
  | transferOwner (tag : Nat) (token : Token) (record : OwnerRec)
  /-- DL_BEGIN (R448): Rake operation 0x0030 programs RECEIVING and erases the target slot. -/
  | dlBegin (tag length version : Nat)
  /-- DL_DATA (R448): Rake operation 0x0031 programs a chunk at the next offset into the target slot. -/
  | dlData (tag offset length : Nat) (image : Option Image) (ok : Bool)
  /-- DL_END (R448): Rake operation 0x0032 programs RECEIVED, after which firmware verifies the image and programs VERIFIED or FAILED. -/
  | dlEnd (tag : Nat)
  /-- SCHEDULE (R450): Rake operation 0x0033 schedules activation of the verified image. -/
  | schedule (tag version : Nat)
  /-- CANCEL (R450): Rake operation 0x0034 cancels a scheduled activation or trial. -/
  | cancel (tag : Nat)
  /-- UPDATE_STATUS (R514): Rake operation 0x0035 returns the 32-byte UPD status. -/
  | updateStatus (tag : Nat)
  /-- BUNDLE_BEGIN (R505): Rake operation 0x0038 on the master begins bundle staging. -/
  | bundleBegin (tag length : Nat)
  /-- BUNDLE_DATA (R505): Rake operation 0x0039 stages bundle data to every unit through STAGE frames. -/
  | bundleData (tag offset length : Nat) (header : Option BundleHeader)
  /-- BUNDLE_END (R505): Rake operation 0x003A ends staging and returns each unit's staging state. -/
  | bundleEnd (tag : Nat) (digestOk : Bool) (image : Option Image)
  /-- JOURNAL_READ (R514): Rake operation 0x0040 returns JOURNAL records as Read Journal does. -/
  | journalRead (tag typ seq count : Nat)
  /-- REGISTER_WRITE (R527): A window write to a register with no row of its own acts under its access code, or is ignored and counted as a violation. -/
  | registerWrite (port : Port) (offset size value : Nat)
  /-- TELEMETRY_PAGE_READ (R519): An SMBus Block Read or I3C page select and read returns one 32-byte telemetry page copied from one governor tick. -/
  | telemetryPageRead (page : Nat) (pecError : Bool)
  /-- ENTDAA (R518): The I3C CCC assigns a dynamic address and switches the target to I3C mode. -/
  | entdaa (address : Nat)
  /-- SETDASA (R518): The I3C CCC assigns a dynamic address from the static address. -/
  | setdasa (static address : Nat)
  /-- RSTDAA (R518): The I3C CCC resets the dynamic address. -/
  | rstdaa
  /-- SETNEWDA (R518): The I3C CCC changes the dynamic address. -/
  | setnewda (address : Nat)
  /-- GETPID (R518): The I3C CCC returns the provisional ID. -/
  | getpid
  /-- GETBCR (R518): The I3C CCC returns the bus characteristics register. -/
  | getbcr
  /-- GETDCR (R518): The I3C CCC returns the device characteristics register. -/
  | getdcr
  /-- GETSTATUS (R518): The I3C CCC returns target status. -/
  | getstatus
  /-- GETMWL (R518): The I3C CCC returns the maximum write length. -/
  | getmwl
  /-- GETMRL (R518): The I3C CCC returns the maximum read length. -/
  | getmrl
  /-- ENEC (R518): The I3C CCC enables events. -/
  | enec (events : Nat)
  /-- DISEC (R518): The I3C CCC disables events. -/
  | disec (events : Nat)
  /-- AON_CLOCK_STOP (R551): The 32.768 kHz clock stops for more than 1 ms and the always-on domain changes to the RC oscillator and raises source 0x94. -/
  | aonClockStop
  /-- AON_CLOCK_RESTORE (R551): The 32.768 kHz clock has run for 1 s without interruption and the always-on domain changes back to it. -/
  | aonClockRestore
  /-- EXTEST (R555): The JTAG instruction drives boundary pins while RST_N is low outside a save, else acts as BYPASS. -/
  | extest (rstLow : Bool)
  /-- IDCODE (R555): The JTAG instruction returns 0x1481_696F. -/
  | idcode
  /-- SAMPLE_PRELOAD (R555): The JTAG instruction samples or preloads the boundary register. -/
  | samplePreload (value : Nat)
  /-- CLAMP (R555): The JTAG instruction clamps outputs while RST_N is low outside a save, else acts as BYPASS. -/
  | clamp (rstLow : Bool)
  /-- HIGHZ (R555): The JTAG instruction floats outputs while RST_N is low outside a save, else acts as BYPASS. -/
  | highz (rstLow : Bool)
  /-- BYPASS (R555): The JTAG instruction, and every unlisted code, selects the bypass register. -/
  | bypass (code : Nat)
  /-- BRINE_PORT_TRAINED (R488): A Brine Line port trains and deskews its lanes and sends HELLO. -/
  | brinePortTrained (port1 : Bool)
  /-- BRINE_PORT_DOWN (R489): A port loses block lock or receives no valid frame for 10 µs, goes down and raises source 0xD0. -/
  | brinePortDown (port1 : Bool)
  /-- IDLE (R489): An IDLE frame is received, or sent when a port has been silent for 1 µs. -/
  | idleFrame (port1 sent : Bool)
  /-- BRINE_HELLO (R490): A HELLO frame settles the Brine Line version and checks GROUP_ID, or leaves the port in mismatch. -/
  | brineHello (port1 : Bool) (major minor groupId : Nat) (peer : HelloPeer)
  /-- RING_WHOLE (R495): Every port has been up with matching version and GROUP_ID for 1 s and the master sends JOIN. -/
  | ringWhole
  /-- JOIN (R495): A JOIN frame is checked against HELLO and its GEN adopted, and the member begins sending STATUS. -/
  | joinFrame (gen : BitVec 16) (units index : Nat) (digests : List (BitVec 384))
  /-- STATUS (R498): A member's STATUS frame reports its state, local conditions, E_need, charge and backlog to the master. -/
  | statusFrame (unit state : Nat) (localOk : Bool) (eNeed : Nat) (chargeUc : Int) (backlog : Nat)
  /-- ARM_FRAME (R498): An ARM frame sets GROUP_OK and, in shared mode, each unit's E_use from the group E_use. -/
  | armFrame (armed whole : Bool) (unitBits eUse : Nat) (chargeUc : Int)
  /-- ARM_TIMEOUT (R496): No ARM frame has arrived for 1 ms and the ring is broken. -/
  | armTimeout
  /-- STATUS_TIMEOUT (R496): A member's STATUS has been missing for 1 ms and the master clears RING_WHOLE. -/
  | statusTimeout (unit : Nat)
  /-- TRIG (R501): A TRIG frame reaches the master, which sends GO and asserts its own HOLD_EN. -/
  | trigFrame (unit cause : Nat)
  /-- GO (R500): A GO frame is accepted as trigger 4 when HOLD_ARM is 1, absorbed within 5 µs of the unit's H0, or ignored and counted. -/
  | goFrame (cause origin event sinceNs : Nat)
  /-- SHARE (R501): A SHARE frame gives a unit its E_T for the save in shared mode. -/
  | shareFrame (eT event : Nat)
  /-- MARKER (R503): A MARKER frame reports a unit's live update marker, pending-save test and state to the master. -/
  | markerFrame (unit : Nat) (state version : Nat) (pendingSave : Bool) (devState : Nat)
  /-- START_FRAME (R503): A START frame tells each unit to proceed, activate, hand over or wait. -/
  | startFrame (codes : List Nat)
  /-- GROUP_START_TIMEOUT (R503): No START arrives within 2 s of the unit's B2 and it proceeds alone with the ring broken. -/
  | groupStartTimeout
  /-- SCHED (R454): A SCHED frame schedules or cancels activation on every unit. -/
  | schedFrame (cancel : Bool) (version : Nat)
  /-- STAGE (R505): A STAGE frame is programmed into the unit's update partition. -/
  | stageFrame (offset seq length : Nat) (spells : StageSpells) (entry : Option Image)
  /-- STAGE_ACK (R505): A STAGE_ACK frame reports bytes committed to the master. -/
  | stageAckFrame (unit bytes status : Nat)
  /-- STALE_FRAME (R494): A frame whose GEN differs from the receiver's is rejected with ROLE_STALE and counted. -/
  | staleFrame (frameGen : BitVec 16)
  /-- HDM_DECODER_COMMIT (R260): Host software commits a head's HDM decoder, which fails to commit with the CXL invalid-commit error unless its DPA range is pan-aligned. -/
  | hdmDecoderCommit (head : Head) (index : Nat) (decoder : Decoder)
  /-- BAD_OP (R515): A well-formed Rake Port request frame with an unknown OP is answered with BAD_OP and no action. -/
  | badOp (tag op : Nat)
  /-- DISCARDED_FRAME (R492): A Brine Line frame with a bad CRC or an unknown TYPE is discarded and counted in BRL_PORT CRC_ERRORS. -/
  | discardedFrame (port1 : Bool)
  /-- MAIN_POWER_RETURNED (R159): Main power returns during HARVEST or SALVAGE; the save continues, and save record flag 10 and HRV_STATUS.SUPPLY_RETURNED are set. -/
  | mainPowerReturned
  deriving DecidableEq, Repr

end Sys2Proof
end

