-- ==== Sys2Proof/Decode.lean ====
section
/-!
DEFINITION. The command a word spells. No row of spec/opcode_table.json gives its command any bits, so no word spells one.
-/
namespace Sys2Proof

/-- The command a word spells by the table's bits: none, for the table gives no row any. [log 1: DESIGN CHOICE] -/
def decodeTableWord (_nbits _w : Nat) : Option Instr := none

end Sys2Proof
end

