-- ==== Sys2Proof/Machine/Codes.lean ====
section
/-!
DEFINITION. Byte strings and the check codes computed over them: the CRC-8 of R81 and the CRC-32 of R200.
-/
namespace Sys2Proof.Machine

/-- A value as n bytes, the least significant first (R9). -/
def leBytes (n v : Nat) : List Nat := (List.range n).map fun k => v / 256 ^ k % 256

/-- One bit of a CRC-8 over the polynomial 0x07, most significant bit first. -/
def crc8Bit (c : Nat) : Nat := if c.testBit 7 then (c * 2 % 256) ^^^ 0x07 else c * 2

/-- CRC-8 (R81): polynomial 0x07, initial value 0x00. -/
def crc8 (l : List Nat) : Nat := l.foldl (fun c b => Nat.repeat crc8Bit 8 (c ^^^ b)) 0

/-- One bit of the reflected CRC-32. -/
def crc32Bit (c : Nat) : Nat := if c.testBit 0 then c / 2 ^^^ 0xEDB88320 else c / 2

/-- CRC-32 (R200): IEEE 802.3 polynomial, reflected, initial value 0xFFFF_FFFF, final complement. -/
def crc32 (l : List Nat) : Nat := l.foldl (fun c b => Nat.repeat crc32Bit 8 (c ^^^ b % 256)) 0xFFFFFFFF ^^^ 0xFFFFFFFF

/-- A byte string whose bytes are 0 beyond its end, cut or padded to n bytes. -/
def padTo (n : Nat) (l : List Nat) : List Nat := (l ++ List.replicate (n - l.length) 0).take n

end Sys2Proof.Machine
end

