-- ==== Sys2Proof/Machine/Crypto.lean ====
section
/-!
DEFINITION. The cryptographic functions the manual names by their standards: SHA-256, SHA-384 and HMAC-SHA-256 (R243, R465, R148), and
AES-256 with XTS (R237) and GMAC (R238).
-/
namespace Sys2Proof.Machine

/-- The value bytes spell, the first most significant. -/
def beNat (l : List Nat) : Nat := l.foldl (fun n b => n * 256 + b % 256) 0

/-- A value as n bytes, the most significant first. -/
def beBytes (n v : Nat) : List Nat := (leBytes n v).reverse

/-- A list in pieces of n, the last perhaps shorter; the first number bounds how many. -/
def piecesOf : Nat → Nat → List Nat → List (List Nat)
  | 0, _, _ => []
  | k + 1, n, l => if l = [] then [] else l.take n :: piecesOf k n (l.drop n)

def xorList (a b : List Nat) : List Nat := List.zipWith (· ^^^ ·) a b

/-! ### SHA-2 -/

def rotr (w n x : Nat) : Nat := (x >>> n ||| x <<< (w - n)) % 2 ^ w

/-- What tells SHA-256 from SHA-384: word width, rotations of the four sigma functions, round constants. -/
structure ShaKind where
  w : Nat
  big0 : Nat × Nat × Nat
  big1 : Nat × Nat × Nat
  small0 : Nat × Nat × Nat
  small1 : Nat × Nat × Nat
  ks : List Nat

def sha256Ks : List Nat :=
  [0x428A2F98, 0x71374491, 0xB5C0FBCF, 0xE9B5DBA5, 0x3956C25B, 0x59F111F1, 0x923F82A4, 0xAB1C5ED5] ++
  [0xD807AA98, 0x12835B01, 0x243185BE, 0x550C7DC3, 0x72BE5D74, 0x80DEB1FE, 0x9BDC06A7, 0xC19BF174] ++
  [0xE49B69C1, 0xEFBE4786, 0x0FC19DC6, 0x240CA1CC, 0x2DE92C6F, 0x4A7484AA, 0x5CB0A9DC, 0x76F988DA] ++
  [0x983E5152, 0xA831C66D, 0xB00327C8, 0xBF597FC7, 0xC6E00BF3, 0xD5A79147, 0x06CA6351, 0x14292967] ++
  [0x27B70A85, 0x2E1B2138, 0x4D2C6DFC, 0x53380D13, 0x650A7354, 0x766A0ABB, 0x81C2C92E, 0x92722C85] ++
  [0xA2BFE8A1, 0xA81A664B, 0xC24B8B70, 0xC76C51A3, 0xD192E819, 0xD6990624, 0xF40E3585, 0x106AA070] ++
  [0x19A4C116, 0x1E376C08, 0x2748774C, 0x34B0BCB5, 0x391C0CB3, 0x4ED8AA4A, 0x5B9CCA4F, 0x682E6FF3] ++
  [0x748F82EE, 0x78A5636F, 0x84C87814, 0x8CC70208, 0x90BEFFFA, 0xA4506CEB, 0xBEF9A3F7, 0xC67178F2]

def sha512Ks : List Nat :=
  [0x428A2F98D728AE22, 0x7137449123EF65CD, 0xB5C0FBCFEC4D3B2F, 0xE9B5DBA58189DBBC, 0x3956C25BF348B538] ++
  [0x59F111F1B605D019, 0x923F82A4AF194F9B, 0xAB1C5ED5DA6D8118, 0xD807AA98A3030242, 0x12835B0145706FBE] ++
  [0x243185BE4EE4B28C, 0x550C7DC3D5FFB4E2, 0x72BE5D74F27B896F, 0x80DEB1FE3B1696B1, 0x9BDC06A725C71235] ++
  [0xC19BF174CF692694, 0xE49B69C19EF14AD2, 0xEFBE4786384F25E3, 0x0FC19DC68B8CD5B5, 0x240CA1CC77AC9C65] ++
  [0x2DE92C6F592B0275, 0x4A7484AA6EA6E483, 0x5CB0A9DCBD41FBD4, 0x76F988DA831153B5, 0x983E5152EE66DFAB] ++
  [0xA831C66D2DB43210, 0xB00327C898FB213F, 0xBF597FC7BEEF0EE4, 0xC6E00BF33DA88FC2, 0xD5A79147930AA725] ++
  [0x06CA6351E003826F, 0x142929670A0E6E70, 0x27B70A8546D22FFC, 0x2E1B21385C26C926, 0x4D2C6DFC5AC42AED] ++
  [0x53380D139D95B3DF, 0x650A73548BAF63DE, 0x766A0ABB3C77B2A8, 0x81C2C92E47EDAEE6, 0x92722C851482353B] ++
  [0xA2BFE8A14CF10364, 0xA81A664BBC423001, 0xC24B8B70D0F89791, 0xC76C51A30654BE30, 0xD192E819D6EF5218] ++
  [0xD69906245565A910, 0xF40E35855771202A, 0x106AA07032BBD1B8, 0x19A4C116B8D2D0C8, 0x1E376C085141AB53] ++
  [0x2748774CDF8EEB99, 0x34B0BCB5E19B48A8, 0x391C0CB3C5C95A63, 0x4ED8AA4AE3418ACB, 0x5B9CCA4F7763E373] ++
  [0x682E6FF3D6B2B8A3, 0x748F82EE5DEFB2FC, 0x78A5636F43172F60, 0x84C87814A1F0AB72, 0x8CC702081A6439EC] ++
  [0x90BEFFFA23631E28, 0xA4506CEBDE82BDE9, 0xBEF9A3F7B2C67915, 0xC67178F2E372532B, 0xCA273ECEEA26619C] ++
  [0xD186B8C721C0C207, 0xEADA7DD6CDE0EB1E, 0xF57D4F7FEE6ED178, 0x06F067AA72176FBA, 0x0A637DC5A2C898A6] ++
  [0x113F9804BEF90DAE, 0x1B710B35131C471B, 0x28DB77F523047D84, 0x32CAAB7B40C72493, 0x3C9EBE0A15C9BEBC] ++
  [0x431D67C49C100D4C, 0x4CC5D4BECB3E42B6, 0x597F299CFC657E2A, 0x5FCB6FAB3AD6FAEC, 0x6C44198C4A475817]

def sha256Init : List Nat :=
  [0x6A09E667, 0xBB67AE85, 0x3C6EF372, 0xA54FF53A, 0x510E527F, 0x9B05688C, 0x1F83D9AB, 0x5BE0CD19]

def sha384Init : List Nat :=
  [0xCBBB9D5DC1059ED8, 0x629A292A367CD507, 0x9159015A3070DD17, 0x152FECD8F70E5939] ++
  [0x67332667FFC00B31, 0x8EB44A8768581511, 0xDB0C2E0D64F98FA7, 0x47B5481DBEFA4FA4]

def ShaKind.s256 : ShaKind := ⟨32, (2, 13, 22), (6, 11, 25), (7, 18, 3), (17, 19, 10), sha256Ks⟩
def ShaKind.s512 : ShaKind := ⟨64, (28, 34, 39), (14, 18, 41), (1, 8, 7), (19, 61, 6), sha512Ks⟩

def ShaKind.big (k : ShaKind) (r : Nat × Nat × Nat) (x : Nat) : Nat := rotr k.w r.1 x ^^^ rotr k.w r.2.1 x ^^^ rotr k.w r.2.2 x
def ShaKind.small (k : ShaKind) (r : Nat × Nat × Nat) (x : Nat) : Nat := rotr k.w r.1 x ^^^ rotr k.w r.2.1 x ^^^ x >>> r.2.2

/-- The message schedule, newest word first. -/
def ShaKind.expand (k : ShaKind) : Nat → List Nat → List Nat
  | 0, l => l
  | n + 1, l =>
    let g := fun i => (l[i]?).getD 0
    k.expand n ((k.small k.small1 (g 1) + g 6 + k.small k.small0 (g 14) + g 15) % 2 ^ k.w :: l)

/-- One round on the eight working words. -/
def ShaKind.round (k : ShaKind) (v : List Nat) (x : Nat × Nat) : List Nat :=
  match v with
  | [a, b, c, d, e, f, g, h] =>
    let t1 := h + k.big k.big1 e + ((e &&& f) ^^^ ((2 ^ k.w - 1 - e) &&& g)) + x.1 + x.2
    let t2 := k.big k.big0 a + ((a &&& b) ^^^ (a &&& c) ^^^ (b &&& c))
    [(t1 + t2) % 2 ^ k.w, a, b, c, (d + t1) % 2 ^ k.w, e, f, g]
  | _ => v

/-- A block of 16 words taken into the hash. -/
def ShaKind.block (k : ShaKind) (h : List Nat) (ws : List Nat) : List Nat :=
  let sched := (k.expand (k.ks.length - 16) ws.reverse).reverse
  List.zipWith (fun a b => (a + b) % 2 ^ k.w) h ((k.ks.zip sched).foldl k.round h)

/-- The padded message's hash words. -/
def ShaKind.run (k : ShaKind) (init : List Nat) (msg : List Nat) : List Nat :=
  let bw := k.w / 8
  let z := (16 * bw - (msg.length + 1 + 2 * bw) % (16 * bw)) % (16 * bw)
  let m := msg ++ [0x80] ++ List.replicate z 0 ++ beBytes (2 * bw) (msg.length * 8)
  (piecesOf (m.length / (16 * bw)) (16 * bw) m).foldl (fun h b => k.block h ((piecesOf 16 bw b).map beNat)) init

/-- SHA-256 of a byte string (FIPS 180-4). -/
def sha256 (msg : List Nat) : BitVec 256 :=
  BitVec.ofNat 256 ((ShaKind.s256.run sha256Init msg).foldl (fun n w => n * 2 ^ 32 + w) 0)

/-- SHA-384 of a byte string (FIPS 180-4). -/
def sha384 (msg : List Nat) : BitVec 384 :=
  BitVec.ofNat 384 (((ShaKind.s512.run sha384Init msg).take 6).foldl (fun n w => n * 2 ^ 64 + w) 0)

/-- HMAC-SHA-256 (FIPS 198-1) under a key of 32 bytes. -/
def hmac256 (key : BitVec 256) (msg : List Nat) : BitVec 256 :=
  let k := beBytes 32 key.toNat ++ List.replicate 32 0
  let inner := sha256 (k.map (· ^^^ 0x36) ++ msg)
  sha256 (k.map (· ^^^ 0x5C) ++ beBytes 32 inner.toNat)

/-! ### AES-256 -/

/-- The S-box, value of 0 in the lowest byte, in four parts. -/
def aesBox : List Nat :=
  [0x75B227EBE28012079A059618C323C7041531D871F1E5A534CCF73F362693FDB7C072A49CAFA2D4ADF04759FA7DC982CA76ABD7FE2B670130C56F6BF27B777C63,
   0xD2F3FF1021DAB6BCF5389D928F40A351A89F3C507F02F94585334D43FBAAEFD0CF584C4A39BECB6A5BB1FC20ED00D153842FE329B3D63B52A05A6E1B1A2C8309,
   0x8AE7A65EAF4566CA94ED58D6D37C8E779E4959162ACD3C25C2406490A3A32E0DB0B5EDE14B8EE4688902A22DC4F816073195D643D7EA7C41744975FEC130CCD,
   0x16BB54B00F2D99416842E6BF0D89A18CDF2855CEE9871E9B948ED9691198F8E19E1DC186B95735610EF6034866B53E708A8BBD4B1F74DDE8C6B4A61C2E2578BA]

def subByte (x : Nat) : Nat := bits ((aesBox[x / 64 % 4]?).getD 0) (8 * (x % 64)) 8

/-- Twice a byte in AES's field. -/
def xtime (x : Nat) : Nat := if x < 128 then x * 2 else (x * 2 % 256) ^^^ 0x1B

/-- The next word of the key schedule of AES-256, from the words so far, newest first; `i` is its number. -/
def aesKeyWord (i : Nat) (l : List (List Nat)) : List Nat :=
  let prev := (l[0]?).getD []
  let t :=
    if i % 8 = 0 then
      xorList ((prev.drop 1 ++ prev.take 1).map subByte) [Nat.repeat xtime (i / 8 - 1) 1, 0, 0, 0]
    else if i % 8 = 4 then prev.map subByte else prev
  xorList ((l[7]?).getD []) t

/-- The 15 round keys of a 256-bit key, first byte most significant. -/
def aesKeys (key : BitVec 256) : List (List Nat) :=
  let w := (piecesOf 8 4 (beBytes 32 key.toNat)).reverse
  let all := ((List.range 52).foldl (fun l n => aesKeyWord (n + 8) l :: l) w).reverse
  (List.range 15).map fun r => ((all.drop (4 * r)).take 4).flatten

def shiftRows (b : List Nat) : List Nat := (List.range 16).map fun i => (b[(i + 4 * (i % 4)) % 16]?).getD 0

def mixColumn (c : List Nat) : List Nat :=
  match c with
  | [a, b, d, e] =>
    [xtime a ^^^ xtime b ^^^ b ^^^ d ^^^ e, a ^^^ xtime b ^^^ xtime d ^^^ d ^^^ e,
     a ^^^ b ^^^ xtime d ^^^ xtime e ^^^ e, xtime a ^^^ a ^^^ b ^^^ d ^^^ xtime e]
  | _ => c

/-- AES-256 of one block of 16 bytes under round keys (FIPS 197). -/
def aesBlock (ks : List (List Nat)) (b : List Nat) : List Nat :=
  let k := fun i => (ks[i]?).getD []
  let mid := (List.range 13).foldl (fun s r =>
    xorList ((piecesOf 4 4 (shiftRows (s.map subByte))).flatMap mixColumn) (k (r + 1))) (xorList b (k 0))
  xorList (shiftRows (mid.map subByte)) (k 14)

/-! ### XTS and GMAC -/

/-- The tweak times alpha: bytes little-endian. -/
def xtsNext (t : Nat) : Nat := (t * 2) % 2 ^ 128 ^^^ if t.testBit 127 then 0x87 else 0

/-- XTS-AES-256 of a whole number of blocks (NIST SP 800-38E): the key's first half encrypts data, its second the tweak. -/
def xtsEncrypt (key : BitVec 512) (tweak : List Nat) (data : List Nat) : List Nat :=
  let k1 := aesKeys (BitVec.ofNat 256 (key.toNat / 2 ^ 256))
  let k2 := aesKeys (BitVec.ofNat 256 key.toNat)
  let le := fun (l : List Nat) => beNat l.reverse
  ((piecesOf (data.length / 16 + 1) 16 data).foldl (fun (a : Nat × List (List Nat)) b =>
    let t := leBytes 16 a.1
    (xtsNext a.1, xorList (aesBlock k1 (xorList b t)) t :: a.2)) (le (aesBlock k2 tweak), [])).2.reverse.flatten

/-- The counter block of AES-256-GCM for a 12-byte IV and a counter, encrypted (NIST SP 800-38D). -/
def gcmPad (key : BitVec 256) (iv : BitVec 96) (n : Nat) : List Nat := aesBlock (aesKeys key) (beBytes 12 iv.toNat ++ beBytes 4 n)

/-- Product in GCM's field: bit 127 is the coefficient of 1. -/
def gmul (x y : Nat) : Nat :=
  ((List.range 128).foldl (fun (a : Nat × Nat) i =>
    (if x.testBit (127 - i) then a.1 ^^^ a.2 else a.1, if a.2.testBit 0 then a.2 / 2 ^^^ 0xE1 * 2 ^ 120 else a.2 / 2)) (0, y)).1

/-- AES-GMAC (NIST SP 800-38D): GCM of an empty plaintext under a 256-bit key, a 12-byte IV and additional data. -/
def gmac (key : BitVec 256) (iv data : List Nat) : BitVec 128 :=
  let ks := aesKeys key
  let h := beNat (aesBlock ks (List.replicate 16 0))
  let y := (piecesOf (data.length / 16 + 1) 16 data).foldl (fun y b => gmul (y ^^^ beNat (padTo 16 b)) h) 0
  let s := gmul (y ^^^ (data.length * 8) * 2 ^ 64) h
  BitVec.ofNat 128 (s ^^^ beNat (aesBlock ks (iv ++ [0, 0, 0, 1])))

end Sys2Proof.Machine
end

