-- ==== Sys2Proof/Config.lean ====
section
/-!
DEFINITION. The free values: what the manual says the device makes but states no number for. Each is a function with no body,
applied to the state's count of free values used, so nothing can be proved of the value it gives.
-/
namespace Sys2Proof.Config

/-- Keyhouse's random bit generator (R478): a nonce. -/
opaque nonce : Nat → BitVec 128

/-- A SHA-384 digest of bytes the model does not hold (R481, R482): the boot ROM, a signed body, a calibration set. -/
opaque digest : Nat → BitVec 384

/-- New media keys (R242, R247): K_X, then K_M. -/
opaque mediaKey : Nat → BitVec 768

/-- The compressor's stream of a granule's 4,096 bytes, in fast or normal mode (R233 to R235), whose format no rule states. -/
opaque compressed : Bool → List Nat → List Nat

/-- What an answer carries whose bytes no rule states: SPDM, IDE, I3C identification and CXL tables (R254, R480, R518). -/
opaque answer : Nat → BitVec 512

/-- An ECDSA P-384 signature, r then s (R148, R469): a random nonce enters it. -/
opaque signature : Nat → BitVec 768

/-- The content of an array word after a program that failed its last verify (R408). -/
opaque word : Nat → BitVec 128

/-- A number no rule states: the tracker's, the engine's or a rate's own value. -/
opaque number : Nat → BitVec 32

/-- The check bits that one data bit contributes (R402): the code is linear, single-error-correcting, double-error-detecting, and no rule
states its matrix. -/
opaque checkColumn : Nat → BitVec 9

/-- The effects word of a mailbox command in the Command Effects Log (R282), which no rule states. -/
opaque effects : Nat → BitVec 16

/-- SHA-384 digests the device measures over bytes the model does not hold (R481): the boot ROM, an image's signed bytes by its VERSION
and SVN, and the certificate chain. -/
opaque romDigest : BitVec 384
opaque imageDigest : Nat → Nat → BitVec 384
opaque chainDigest : BitVec 384

/-- The certificate chain's length and bytes (R466, R467). -/
opaque chainLength : Nat
opaque chainByte : Nat → BitVec 8

/-- The I3C characteristics of the telemetry target (R518), whose values no rule states: provisional ID, BCR, DCR, length limits. -/
opaque i3cConstant : Nat → BitVec 64

end Sys2Proof.Config
end

