-- ==== Sys2Proof/Machine/Keys.lean ====
section
/-!
DEFINITION. The keys derived from DEVICE_SECRET (R465), and the wrapping of media keys (R242 to R244).
-/
namespace Sys2Proof.Machine

/-! ### Keys derived from DEVICE_SECRET (R465) -/

/-- T(i) (R465): HMAC-SHA-256 under the secret of i and the label. -/
def Key.tBlock (k : Key) (label : List Nat) (i : Nat) : Nat := (hmac256 k.secret (i % 256 :: label)).toNat

/-- KDF(label, L) for L up to 512 (R465): the first L bits of T(1) and T(2). -/
def Key.kdf (k : Key) (label : List Nat) (n : Nat) : Nat := (k.tBlock label 1 * 2 ^ 256 + k.tBlock label 2) / 2 ^ (512 - n)

/-- The order of P-384. -/
def p384Order : Nat := 0xFFFFFFFFFFFFFFFFFFFFFFFFFFFFFFFFFFFFFFFFFFFFFFFFC7634D81F4372DDF581A0DB248B0A77AECEC196ACCC52973

/-- d_id, SEED, I, K_IT and K_SAL (R465); the labels are DID, DLS, DLI, ITK and SAL in ASCII. -/
def Key.idScalar (k : Key) : Nat := k.kdf [0x44, 0x49, 0x44] 448 % (p384Order - 1) + 1
def Key.lmsSeed (k : Key) : BitVec 256 := BitVec.ofNat 256 (k.kdf [0x44, 0x4C, 0x53] 256)
def Key.lmsId (k : Key) : BitVec 128 := BitVec.ofNat 128 (k.kdf [0x44, 0x4C, 0x49] 128)
def Key.transportKey (k : Key) : BitVec 256 := BitVec.ofNat 256 (k.kdf [0x49, 0x54, 0x4B] 256)
def Key.salKey (k : Key) : BitVec 256 := BitVec.ofNat 256 (k.kdf [0x53, 0x41, 0x4C] 256)

/-- K_C: the wrapped content key of an image's key block, unwrapped under the image transport key (R441). -/
def Image.contentKey (i : Image) (k : Key) : BitVec 256 :=
  BitVec.ofNat 256 (beNat (xorList (beBytes 32 i.wrapped.toNat) (gcmPad k.transportKey i.wrapIv 2 ++ gcmPad k.transportKey i.wrapIv 3)))

/-- An owner key record's 165 bytes (R475), TYPE 0x0610 and FORMAT 1, its last four the CRC-32 of the others. -/
def OwnerRec.bytes (o : OwnerRec) : List Nat :=
  let b := leBytes 2 0x0610 ++ leBytes 2 1 ++ leBytes 4 o.gen ++ beBytes 97 o.ecdsa.toNat ++ beBytes 56 o.lms.toNat
  b ++ leBytes 4 (crc32 b)

/-- The SHA-384 digest of an owner key record (R481, R484). -/
def OwnerRec.digest (o : OwnerRec) : BitVec 384 := sha384 o.bytes

/-! ### Key blobs (R242 to R244) -/

/-- U of an unlock secret's 32 bytes, the first most significant; 0 without one. -/
def unlockU (secret : BitVec 256) : BitVec 256 := sha256 (beBytes 32 secret.toNat)

/-- T(i) of R243. -/
def KeyBlob.tBlock (b : KeyBlob) (k : Key) (u : BitVec 256) (i : Nat) : BitVec 256 :=
  hmac256 k.secret (i :: [0x4D, 0x4B, 0x42] ++ leBytes 4 b.gen ++ leBytes 4 b.wrap ++ beBytes 32 u.toNat)

/-- Bytes 0x00 to 0x6F of a blob: its plain fields, then K_X and K_M under KEK_X. -/
def KeyBlob.body (b : KeyBlob) (k : Key) : List Nat :=
  let kek := (b.tBlock k b.u 1) ++ (b.tBlock k b.u 2)
  leBytes 2 0x0201 ++ leBytes 2 1 ++ leBytes 4 b.gen ++ leBytes 4 b.wrap ++ [b2n b.secret, 0, 0, 0] ++
    xtsEncrypt kek (leBytes 4 b.gen ++ leBytes 4 b.wrap ++ List.replicate 8 0) (beBytes 64 b.kx.toNat ++ beBytes 32 b.km.toNat)

/-- The blob tag under a U (R243). -/
def KeyBlob.tag (b : KeyBlob) (k : Key) (u : BitVec 256) : BitVec 128 :=
  gmac (b.tBlock k u 3) (leBytes 4 b.gen ++ leBytes 4 b.wrap ++ [0, 0, 0, 0]) (b.body k)

/-- The blob's tag verifies under a U (R244). -/
def KeyBlob.opens (b : KeyBlob) (k : Key) (u : BitVec 256) : Bool := b.tag k u == b.tag k b.u

end Sys2Proof.Machine
end

