-- ==== Sys2Proof/Machine/State.lean ====
section
/-!
DEFINITION. The machine's state: every register, table, queue, counter, mode and pin the manual gives the CHV-4816, the commands
that wait, and the machine right after reset.
-/
namespace Sys2Proof.Machine

/-- The state of the block. -/
structure State where
  dev : Dev := {}
  gov : Gov := {}
  flt : Flt := {}
  tly : Tly := {}
  sal : Sal := {}
  map : SMap := {}
  drn : Drn := {}
  hrv : Hrv := {}
  fld : Fld := {}
  bed : Bed := {}
  pip : Pip := {}
  heads : PerHead HeadSt := ⟨{}, {}⟩
  sem : Sem := {}
  pans : Tbl Pan := []
  dmc : Dmc := {}
  trn : Trn := {}
  thm : Thm := {}
  cel : Cel := {}
  upd : Upd := {}
  key : Key := {}
  brl : Brl := {}
  svc : Svc := {}
  pins : Pins := {}
  lay : Lay := {}
  /-- JOURNAL records, oldest first (R413, R414) -/
  jrn : List JRec := []
  replies : Replies := {}
  /-- bytes of DRAM that are not zero, addresses rising (R3, R4) -/
  dram : List Host.Cell := []
  /-- lines of DRAM that hold poison, by line number (R185, R297) -/
  poison : NSet := []
  /-- the device serial number's fuses (R533) -/
  serial : Nat := 0
  /-- what this start has found, while its boot order waits at B2 or in its DRAM session (R331, R503) -/
  boot : Option StartEnv := none
  /-- the model's own: how many free values have been used; no field of the manual -/
  free : Nat := 0
  /-- commands that wait, first in, first out -/
  pending : List Instr := []
  deriving DecidableEq, Repr

/-- Why a command stops the machine. -/
inductive Fault where
  /-- raised by CELLAR_READ, CELLAR_PROGRAM and CELLAR_ERASE for a sector or word outside R401's array: an address the manual
  says does not exist. Safe: the machine stops where the hardware has nothing to do. -/
  | noSuchCell
  deriving DecidableEq, Repr

/-- Why the model refuses a command. -/
inductive Refusal where
  /-- raised by exec's arm of a command that has no meaning in the model. Safe. -/
  | notModelled (mnemonic : String)
  deriving DecidableEq, Repr

/-- The factory image in SLOT_A (R444): a part's value, the image of the manual's example, 3.2.0.118 of SVN 5. [log 7: DESIGN CHOICE] -/
def factoryImage : Image :=
  { version := 0x0003000200000076, svn := 5, device := 0x4816, revisions := 2, settingsMax := 3, settingsMin := 2, layoutMajor := 3
    length := 6291456, bodyLen := 6288896, sigLen := 1920, sigOk := true, keyOk := true, tagOk := true, rootSet := 0 }

/-- The machine right after reset: VAON has entered its range, the main domain is released and the start of R427 is due; every
register at its cold value, the update record as at manufacture (R444), no layout, no owner, nothing in NAND, DRAM or JOURNAL, and no
command waiting. [log 7: DESIGN CHOICE] -/
def State.reset : State :=
  let k : Key := {}
  { upd := { slotA := some factoryImage }, key := k, sal := { domainKey := some (Key.salKey k) } }

end Sys2Proof.Machine
end

