-- ==== Sys2Proof/Machine/Ops.lean ====
section
/-!
DEFINITION. The named operations over tables, sets and DRAM, and the readings of the layout that every chapter shares.
-/
namespace Sys2Proof.Machine

/-! ### Tables and sets -/

/-- The entry of a table at a key, or the table's default. -/
def tblGet {α : Type} (d : α) : Tbl α → Nat → α
  | [], _ => d
  | (k, v) :: t, i => if k = i then v else tblGet d t i

/-- Insert or replace an entry, keys rising. -/
def tblIns {α : Type} (i : Nat) (v : α) : Tbl α → Tbl α
  | [] => [(i, v)]
  | (k, w) :: t => if i < k then (i, v) :: (k, w) :: t else if i = k then (i, v) :: t else (k, w) :: tblIns i v t

/-- Remove an entry. -/
def tblDel {α : Type} (i : Nat) (t : Tbl α) : Tbl α := t.filter fun e => e.1 != i

/-- Write an entry; an entry equal to the default is not listed. -/
def tblPut {α : Type} [DecidableEq α] (d : α) (i : Nat) (v : α) (t : Tbl α) : Tbl α :=
  if v = d then tblDel i t else tblIns i v t

/-- Change an entry. -/
def tblUpd {α : Type} [DecidableEq α] (d : α) (i : Nat) (f : α → α) (t : Tbl α) : Tbl α :=
  tblPut d i (f (tblGet d t i)) t

/-- Every entry of a table changed alike; `d` is the changed default. -/
def tblMap {α β : Type} [DecidableEq β] (d : β) (f : α → β) (t : Tbl α) : Tbl β := t.foldr (fun e u => tblPut d e.1 (f e.2) u) []

/-- Keys strictly rising and above `lo`, and no entry equal to the default. -/
def tblWfFrom {α : Type} [DecidableEq α] (d : α) : Option Nat → Tbl α → Bool
  | _, [] => true
  | lo, (k, v) :: t => (match lo with | none => true | some l => l < k) && decide (v ≠ d) && tblWfFrom d (some k) t

/-- A table in canonical form. -/
def tblWf {α : Type} [DecidableEq α] (d : α) (t : Tbl α) : Bool := tblWfFrom d none t

/-- Add a number to a set. -/
def setAdd (n : Nat) : NSet → NSet
  | [] => [n]
  | m :: t => if n < m then n :: m :: t else if n = m then m :: t else m :: setAdd n t

/-- Remove a number from a set. -/
def setDel (n : Nat) (l : NSet) : NSet := l.filter (· != n)

/-- Put a number in or out of a set. -/
def setPut (n : Nat) (b : Bool) (l : NSet) : NSet := if b then setAdd n l else setDel n l

/-- The 32-bit word of a bit set: bit k for member `lo + k`. -/
def setWord (l : NSet) (lo : Nat) : Nat := (List.range 32).foldl (fun w k => if l.contains (lo + k) then w + 2 ^ k else w) 0

/-- Change one head's value. -/
def headUpd {α : Type} (p : PerHead α) (h : Head) (f : α → α) : PerHead α := p.set h (f (p.get h))

/-- Both heads, Head A first. -/
def bothHeads : List Head := [.a, .b]

/-! ### DRAM: bytes, granules, poison -/

/-- Bytes in a granule, a line and a region's granules (R3, R78). -/
def granuleBytes : Nat := 4096
def lineBytes : Nat := 64
def regionGranules : Nat := 512

/-- One byte of DRAM; what is not listed reads 0. [log 4: DESIGN CHOICE] -/
def State.byteAt (s : State) (a : Nat) : Byte := tblGet 0 s.dram a

/-- Consecutive bytes of DRAM. -/
def State.bytesAt (s : State) (a n : Nat) : List Byte := (List.range n).map fun k => s.byteAt (a + k)

/-- Write consecutive bytes into a memory. -/
def memPutBytes (a : Nat) : List Byte → List Host.Cell → List Host.Cell
  | [], m => m
  | b :: bs, m => memPutBytes (a + 1) bs (tblPut 0 a b m)

/-- Store bytes in DRAM (R9: little-endian, byte n at address + n). -/
def State.putBytes (s : State) (a : Nat) (bs : List Byte) : State := { s with dram := memPutBytes a bs s.dram }

/-- A memory with a granule's bytes gone. [log 4: DESIGN CHOICE] -/
def memClear (lo n : Nat) (m : List Host.Cell) : List Host.Cell := m.filter fun c => c.1 < lo || lo + n ≤ c.1

/-- Put listed bytes at offsets from a base. -/
def memPutCells (base : Nat) : GranuleBytes → List Host.Cell → List Host.Cell
  | [], m => m
  | (o, b) :: cs, m => memPutCells base cs (tblPut 0 (base + o) b m)

/-- A granule's content, as its nonzero bytes. -/
def State.granuleAt (s : State) (g : Nat) : GranuleBytes :=
  (s.dram.filter fun c => g * granuleBytes ≤ c.1 && c.1 < g * granuleBytes + granuleBytes).map
    fun c => (c.1 - g * granuleBytes, c.2)

/-- Write a granule whole. -/
def State.putGranule (s : State) (g : Nat) (body : GranuleBytes) : State :=
  { s with
    dram := memPutCells (g * granuleBytes) (body.filter fun c => c.1 < granuleBytes)
      (memClear (g * granuleBytes) granuleBytes s.dram) }

/-- The 64 lines of a granule. -/
def granuleLines (g : Nat) : List Nat := (List.range 64).map fun k => g * 64 + k

/-- A granule of zeros is ZERO (R79). -/
def zeroBody (b : GranuleBytes) : Bool := b.all fun c => c.2 == 0

/-- Set or clear poison on a granule's lines. -/
def State.poisonGranule (s : State) (g : Nat) (on : Bool) : State :=
  { s with poison := if on then (granuleLines g).foldl (fun p l => setAdd l p) s.poison
      else s.poison.filter fun l => l / 64 != g }

/-! ### The layout's values (R431: a rule whose layout value is absent uses its default) -/

def State.layoutOk (s : State) : Bool := s.lay.inForce.isSome

/-- Populated DRAM in GiB (R293): none without a layout. -/
def State.popGib (s : State) : Nat :=
  match s.lay.inForce with
  | none => 0
  | some l => l.dram.channels * l.dram.chanGib

/-- Host-visible pans (R4): populated GiB less the ledger reserve of 1/256, rounded down to whole GiB. -/
def State.panCount (s : State) : Nat := s.popGib * 255 / 256

/-- Granules of host-visible DRAM (R3, R4). -/
def State.granules (s : State) : Nat := s.panCount * 262144

/-- Regions in use (R78). -/
def State.regions (s : State) : Nat := s.granules / regionGranules

/-- AON seconds, minutes and hours. -/
def State.aonS (s : State) : Nat := s.dev.aonUs / 1000000
def State.aonHour (s : State) : Nat := s.aonS / 3600

/-- The device runs: ARMED or UNARMED (R514). -/
def State.running (s : State) : Bool := s.dev.st = .armed || s.dev.st = .unarmed

/-- A save runs: H0 to SEALED. -/
def State.saving (s : State) : Bool := s.dev.st = .harvest || s.dev.st = .salvage

/-- The device is powered and its main domain runs. -/
def State.alive (s : State) : Bool :=
  !(s.dev.st = .off || s.dev.st = .sealed || s.dev.st = .halt)

/-- Take one free value's index. -/
def State.draw (s : State) : State := { s with free := s.free + 1 }

/-! ### JOURNAL (R404, R413, R414) -/

/-- Words of 16 bytes a record takes, its LMS signature block among them (R139, R148, R151, R395, R471). -/
def JRec.words : JRec → Nat
  | .saveRec _ lms => 32 + if lms then 118 else 7
  | .salRec r => 16 + if r.signed then 118 else 0
  | .tallyRec _ => 8
  | .locator _ _ _ => 4
  | _ => 1

/-- The kinds of which the latest word is in force (R414). -/
def JRec.single : JRec → Option Nat
  | .saveStart _ _ _ => some 1
  | .restore _ => some 2
  | .locator _ _ _ => some 3
  | .openImage false => some 4
  | .storeInit _ => some 5
  | .tallyBase _ => some 6
  | _ => none

/-- What stays in force whatever follows (R414): a retirement, and a record that waits for its LMS signature. -/
def JRec.lasts : JRec → Bool
  | .retirement _ _ _ _ _ => true
  | .saveRec _ lms => !lms
  | .salRec r => !r.signed
  | _ => false

/-- Which records are in force, newest first (R414). -/
def inForce : List Nat → List JRec → List (JRec × Bool)
  | _, [] => []
  | seen, r :: t =>
    match r.single with
    | some k => (r, !seen.contains k) :: inForce (k :: seen) t
    | none => (r, r.lasts) :: inForce seen t

/-- A sector is erased (R414): the oldest history goes until its words are free; what is in force is carried forward. -/
def dropHistory : Nat → List (JRec × Bool) → List JRec
  | _, [] => []
  | n, (r, keep) :: t => if keep || n = 0 then r :: dropHistory n t else dropHistory (n - r.words) t

/-- Words of JOURNAL in use, of the 262,144 of its 256 sectors (R404). -/
def journalWords (l : List JRec) : Nat := (l.map JRec.words).foldl (· + ·) 0

/-- The next sector is erased where fewer than 1,024 erased words remain (R413). [log 13: DESIGN CHOICE] -/
def fitJournal (l : List JRec) : List JRec :=
  if journalWords l + 1024 ≤ 262144 then l else dropHistory 1024 (inForce [] l.reverse).reverse

/-- Append a JOURNAL record (R413): outside a save the next sector is erased when it is due. -/
def State.journal (s : State) (r : JRec) : State :=
  { s with jrn := if s.saving then s.jrn ++ [r] else fitJournal (s.jrn ++ [r]) }

/-- JOURNAL is far from its next erase: no record of the next few commands takes one away (R413). [log 13: DESIGN CHOICE] -/
def State.journalRoom (s : State) : Bool := journalWords s.jrn + 4096 ≤ 262144

/-- The SAVE_SEQ of the latest save-start marker (R139); 0 for none. -/
def lastSaveStart : List JRec → Nat
  | [] => 0
  | .saveStart n _ _ :: t => max n (lastSaveStart t)
  | _ :: t => lastSaveStart t

/-- The SAVE_SEQ of the latest restore marker (R163); 0 for none. -/
def lastRestore : List JRec → Nat
  | [] => 0
  | .restore n :: t => max n (lastRestore t)
  | _ :: t => lastRestore t

/-- The last word of an open-image marker: some true closed, some false open (R40). -/
def imageMarker : List JRec → Option Bool
  | [] => none
  | .openImage c :: t => (imageMarker t).orElse fun _ => some c
  | _ :: t => imageMarker t

/-- The image is open (R40). -/
def State.imageOpen (s : State) : Bool := imageMarker s.jrn = some false

/-- Close the open-image marker: its word is programmed to zeros (R40). -/
def closeImage (l : List JRec) : List JRec :=
  l.map fun r => match r with | .openImage _ => .openImage true | r => r

/-- Raise an MSI-X vector on every linked head (R254, R369). -/
def State.msix (s : State) (v : Nat) : State :=
  { s with heads := ⟨if s.heads.a.up then { s.heads.a with msix := setAdd v s.heads.a.msix } else s.heads.a,
                     if s.heads.b.up then { s.heads.b with msix := setAdd v s.heads.b.msix } else s.heads.b⟩ }

/-- Raise an MSI-X vector on one head, if it is linked. -/
def State.msixTo (s : State) (h : Head) (v : Nat) : State :=
  { s with heads := headUpd s.heads h fun x => if x.up then { x with msix := setAdd v x.msix } else x }

end Sys2Proof.Machine
end

