-- ==== Sys2Proof/Machine/Record.lean ====
section
/-!
DEFINITION. What every block uses to tell of something: Tally triggers (R386, R390), event records (R284, R285), host protocol
violations and ROLE_STALE (R286, R288), and the record part of a Fault Collector event (R366 to R372, R376).
-/
namespace Sys2Proof.Machine

/-! ### The source table (R380) -/

/-- A row of the source table: number, block, base, severe, N, window and unit, SALVAGE code (0 for none), minimum, ERR_N, Stop. -/
structure SrcRow where
  num : Nat
  block : FltBlock
  base : Nat
  severe : Nat
  n : Nat
  w : Nat
  wUnit : Nat
  hf : Nat
  minLevel : Nat
  err : Bool
  stop : Bool
  deriving DecidableEq, Repr

/-- A row without a severe level: it defaults to the base level, N to 0 (R368). -/
def plainRow (num : Nat) (block : FltBlock) (base minLevel : Nat) (err : Bool) : SrcRow :=
  ⟨num, block, base, base, 0, 1, 0, 0, minLevel, err, false⟩

def srcRowsA : List SrcRow :=
  [ ⟨0x10, .device, 4, 4, 0, 1, 0, 7, 4, true, false⟩,
    plainRow 0x11 .device 4 4 true,
    plainRow 0x12 .device 4 4 true,
    ⟨0x13, .none, 0, 2, 16, 1, 3, 0, 0, false, false⟩,
    plainRow 0x20 .dramEngine 3 2 false,
    ⟨0x21, .nandEngine, 3, 3, 0, 1, 0, 2, 2, false, false⟩,
    ⟨0x22, .saveEngine, 3, 3, 0, 1, 0, 3, 2, false, false⟩,
    plainRow 0x23 .mailboxEngine 3 2 false,
    ⟨0x24, .none, 0, 1, 64, 24, 3, 0, 0, false, false⟩,
    ⟨0x30, .staging, 1, 3, 4, 1, 1, 4, 1, false, false⟩,
    plainRow 0x31 .device 2 1 false,
    ⟨0x32, .none, 0, 1, 64, 24, 3, 0, 0, false, false⟩,
    ⟨0x40, .none, 0, 1, 255, 1, 3, 0, 0, false, false⟩,
    ⟨0x41, .none, 1, 2, 4, 60, 1, 0, 1, false, false⟩,
    plainRow 0x42 .none 1 1 false,
    ⟨0x43, .none, 1, 1, 0, 1, 0, 5, 1, true, false⟩,
    plainRow 0x44 .none 1 0 false,
    ⟨0x45, .none, 0, 1, 3, 1, 1, 0, 0, false, false⟩ ]

def srcRowsB : List SrcRow :=
  [ ⟨0x50, .nandEngine, 1, 1, 0, 1, 0, 1, 1, true, false⟩,
    plainRow 0x51 .none 1 0 false,
    ⟨0x52, .none, 0, 1, 16, 1, 3, 0, 0, false, false⟩,
    plainRow 0x53 .none 1 0 false,
    plainRow 0x54 .none 1 0 false,
    plainRow 0x55 .none 1 1 true,
    ⟨0x60, .panhouse, 1, 3, 4, 1, 1, 6, 1, false, false⟩,
    plainRow 0x61 .none 1 0 false,
    plainRow 0x70 .none 1 0 false,
    plainRow 0x71 .none 1 0 false,
    ⟨0x72, .headA, 0, 3, 64, 1, 1, 0, 0, false, false⟩,
    ⟨0x73, .headB, 0, 3, 64, 1, 1, 0, 0, false, false⟩,
    plainRow 0x74 .none 1 0 false,
    plainRow 0x75 .none 1 0 false,
    plainRow 0x80 .none 1 1 false,
    plainRow 0x90 .none 1 0 false,
    plainRow 0x91 .none 1 1 true,
    plainRow 0x92 .none 1 0 false,
    plainRow 0x93 .none 1 1 true,
    plainRow 0x94 .none 2 2 true ]

def srcRowsC : List SrcRow :=
  [ plainRow 0xA0 .none 1 0 false,
    plainRow 0xA1 .none 1 1 true,
    plainRow 0xA2 .none 1 0 false,
    plainRow 0xB0 .none 1 0 false,
    plainRow 0xB1 .none 0 0 false,
    plainRow 0xB2 .none 1 0 false,
    plainRow 0xB3 .none 1 0 false,
    ⟨0xC0, .device, 4, 4, 0, 1, 0, 0, 4, true, true⟩,
    plainRow 0xC1 .none 2 2 false,
    plainRow 0xC2 .none 2 2 true,
    plainRow 0xD0 .none 1 0 false,
    plainRow 0xD1 .none 1 0 true,
    plainRow 0xE0 .tally 1 1 false,
    plainRow 0xE1 .none 0 0 false,
    plainRow 0xF0 .none 0 0 false,
    plainRow 0xF1 .none 0 0 false,
    plainRow 0xF2 .none 1 0 false,
    plainRow 0xF3 .none 1 0 false ]

/-- The row of a source; none for an unassigned number (R364). Sources 0x00 to 0x0F are the WIREFAULTs. [log 47: DESIGN CHOICE] -/
def srcRow (src : Nat) : Option SrcRow :=
  if src < 16 then some (plainRow src .device 2 2 true)
  else (srcRowsA ++ srcRowsB ++ srcRowsC).find? fun r => r.num == src

/-- The table's default configuration of a source. -/
def SrcRow.cfg (r : SrcRow) : SrcCfg := ⟨r.base, r.severe, r.n, r.w, r.wUnit, r.err⟩

/-- The configuration in force: the layout's once it is verified, else the default (R368). Source 0x40's threshold is 1,000,
which FLT_SRC_CFG.N cannot show. -/
def State.srcCfg (s : State) (src : Nat) : SrcCfg :=
  let d := match srcRow src with
    | none => ⟨0, 0, 0, 1, 0, false⟩
    | some r => r.cfg
  tblGet d s.flt.cfg src

/-- N as it is counted (R367, R380): source 0x40's default is 1,000 events. -/
def State.srcN (s : State) (src : Nat) : Nat :=
  if src = 0x40 && (tblGet ⟨9, 0, 0, 0, 0, false⟩ s.flt.cfg src).base = 9 then 1000 else (s.srcCfg src).n

/-! ### Tally triggers (R386, R390) -/

/-- First record of an event: sticky bit, counter, severity, first-source latch and unacknowledged entry (R366 to R372, R376,
R378). The level the event takes is the second component. [log 47: DESIGN CHOICE] -/
def fltRecord (src : Nat) (s : State) : State × Nat :=
  let cfg := s.srcCfg src
  let n := s.srcN src
  let c := tblGet {} s.flt.counts src
  let w := c.window + 1
  let severe := n ≠ 0 && n ≤ w
  let l0 := if severe then cfg.severe else cfg.base
  let cls := src / 16
  let raised := s.flt.unack.any fun u => u.cls == cls
  let level := if raised && l0 < max 2 cfg.severe then l0 + 1 else l0
  let deferred := s.saving && 3 ≤ level
  let f := s.flt
  let f := { f with
    counts := tblPut {} src { window := w, total := satAdd 24 c.total 1 } f.counts
    sticky := setAdd src f.sticky
    severe := if severe then setAdd src f.severe else f.severe
    deferred := if deferred then setAdd src f.deferred else f.deferred
    unack := f.unack ++ [⟨cls, level, src⟩]
    first := if f.first.valid then { f.first with overflow := true } else
      { source := src, cls := cls, level := level, state := s.dev.st.code, severe := severe, deferred := deferred,
        overflow := false, valid := true } }
  ({ s with flt := f }, level)

/-- A trigger is dropped and counted (R390, R393). The first drop since the FIFO was last empty records source 0xE1, whose record is the
next one written; its level is the second component. -/
def tlyDrop (s : State) : State × Option Nat :=
  let s1 := { s with tly := { s.tly with lostCount := satAdd 6 s.tly.lostCount 1, lostTotal := satAdd 32 s.tly.lostTotal 1 } }
  if s.tly.dropped then (s1, none)
  else
    let r := fltRecord 0xE1 s1
    ({ r.1 with tly := { r.1.tly with dropped := true, overflowDue := some ⟨0xE1, r.2, s.dev.st.code, 0⟩ } }, some r.2)

/-- Put a trigger in the FIFO, or drop it (R386, R390). -/
def tlyPut (code level arg : Nat) (s : State) : State × Option Nat :=
  if s.tly.fifo.length < 32 then
    ({ s with tly := { s.tly with fifo := s.tly.fifo ++ [⟨code, level, s.dev.st.code, arg⟩] } }, none)
  else tlyDrop s

/-! ### Event records (R284, R285) -/

/-- A head's timestamp (R285): Set Timestamp's value advanced by AON time, in nanoseconds, or 0. -/
def State.stamp (s : State) (h : Head) : Nat :=
  match (s.heads.get h).stampBase with
  | none => 0
  | some (v, at_) => (v + (s.dev.aonUs - at_) * 1000) % 2 ^ 64

def HeadSt.log (x : HeadSt) : EvLog → EvLogState
  | .info => x.info | .warning => x.warning | .failure => x.failure | .fatal => x.fatal | .dynCap => x.dynCap

def HeadSt.setLog (x : HeadSt) (l : EvLog) (v : EvLogState) : HeadSt :=
  match l with
  | .info => { x with info := v }
  | .warning => { x with warning := v }
  | .failure => { x with failure := v }
  | .fatal => { x with fatal := v }
  | .dynCap => { x with dynCap := v }

def EvLog.code : EvLog → Nat
  | .info => 0 | .warning => 1 | .failure => 2 | .fatal => 3 | .dynCap => 4

/-- A log takes a record, or counts it when it is full (R282, R285). [log 41: DEDUCED] -/
def logAdd (stamp : Nat) (handle : Nat) (b : EvBody) (l : EvLogState) : EvLogState :=
  if l.recs.length < 64 then { l with recs := l.recs ++ [⟨handle, stamp, b⟩] }
  else { l with
    overflow := satAdd 16 l.overflow 1
    firstStamp := if l.overflow = 0 then stamp else l.firstStamp
    lastStamp := stamp }

/-- Write an event record into a head's log, if the head is linked, with the interrupt its policy asks for (R282, R284). -/
def eventTo (h : Head) (l : EvLog) (b : EvBody) (s : State) : State :=
  let x := s.heads.get h
  if x.up then
    let x1 := x.setLog l (logAdd (s.stamp h) x.nextHandle b (x.log l))
    let x2 := { x1 with nextHandle := x1.nextHandle % 65535 + 1 }
    let p := (x.evPolicy[l.code]?).getD 0
    let x3 := if p % 4 = 1 then { x2 with msix := setAdd (p / 16 % 16) x2.msix } else x2
    { s with heads := s.heads.set h x3 }
  else s

/-- Write a Chapen event record into the log of each linked head (R284). -/
def chapenEvent (l : EvLog) (typ cause head object gb ga value : Nat) (s : State) : State :=
  let b := EvBody.chapen typ cause head s.dev.st.code object gb ga s.gov.armGen.toNat value
  eventTo .b l b (eventTo .a l b s)

/-- The reaction of a level up to 2 (R369): nothing, the supervisor's interrupt with MSI-X, or the trap. -/
def reactLow (level : Nat) (s : State) : State :=
  match level with
  | 0 => s
  | 1 => { s with flt := { s.flt with supIrq := true } }.msix 3
  | _ => { s with flt := { s.flt with trap := true, trapAgain := s.flt.trapAgain || s.flt.trap } }

/-- A Tally trigger from the device itself where its state changes: level 0b111 (R383). Source 0xE1's reaction follows a drop up to level 2;
a layout that gives it a reset gets none here. [log 47: DESIGN CHOICE] -/
def tlyTell (code arg : Nat) (s : State) : State :=
  let t := tlyPut code 7 arg s
  match t.2 with
  | none => t.1
  | some l => if l ≤ 2 then reactLow l t.1 else t.1

end Sys2Proof.Machine
end

