-- ==== Sys2Proof/Machine/Ledger.lean ====
section
/-!
DEFINITION. The Salinity Map's ordering point, ledger cache, Region Summary Table and Harvest Map (R78 to R97), as operations the
other blocks call.
-/
namespace Sys2Proof.Machine

/-- Region of a granule and its bit in the region's line (R78, R80). -/
def regionOf (g : Nat) : Nat := g / regionGranules
def bitOf (g : Nat) : Nat := g % regionGranules

/-- A full ledger line. -/
def fullLine : Nat := 2 ^ 512 - 1

/-- A bit put into a line. -/
def lineSet (line b : Nat) : Nat := line ||| 2 ^ b

/-- A bit taken out of a line. -/
def lineClr (line b : Nat) : Nat := (line ||| 2 ^ b) ^^^ 2 ^ b

/-- Population count of a line. -/
def lineCount (line : Nat) : Nat := (List.range 512).foldl (fun n b => if line.testBit b then n + 1 else n) 0

/-- A region's RST entry (R94); entries beyond the host-visible regions read 0. -/
def State.rstOf (s : State) (r : Nat) : RstEntry := if r < s.regions then tblGet s.map.rstBase s.map.rst r else {}

/-- Change a region's RST entry. -/
def rstUpd (r : Nat) (f : RstEntry → RstEntry) (s : State) : State :=
  if r < s.regions then { s with map := { s.map with rst := tblUpd s.map.rstBase r f s.map.rst } } else s

/-- HOT_EPOCHS in force (R96). -/
def State.hotEpochs (s : State) : Nat := match s.lay.inForce with | none => 2 | some l => l.map.hotEpochs

/-- Age of an entry (R95). -/
def ageOf (cur epoch : Nat) : Nat := (cur + 256 - epoch % 256) % 256

/-- An entry with HOT recomputed from its EPOCH (R96). [log 24: DEDUCED] -/
def State.withHot (s : State) (e : RstEntry) : RstEntry :=
  { e with hot := ageOf s.map.epoch e.epoch < s.hotEpochs }

/-- The initial RST entry (R82). -/
def State.initialRst (s : State) : RstEntry :=
  { dirty := 0, epoch := (s.map.epoch + 256 - 192) % 256, restored := false, hot := false, lost := false, zero := true }

/-- STATE of an entry as its two bits (R81). -/
def HmState.code : HmState → Nat
  | .zero => 0 | .stored => 1 | .lost => 2

/-- A Harvest Map entry as the 64 bits the reserve holds (R81), CHECK over its bytes 0 to 6. -/
def HmEntry.word (e : HmEntry) : Nat :=
  let w := pack [(0, 5, e.loc.channel), (5, 2, e.loc.ce), (7, 2, e.loc.lun), (9, 15, e.loc.block), (24, 12, e.loc.page), (36, 7, e.loc.slot),
    (43, 7, e.length), (50, 1, b2n e.raw), (51, 2, e.state.code)]
  w + crc8 (leBytes 7 w) * 2 ^ 56

/-- The entry 64 bits spell (R81): none where CHECK fails or STATE is 0b11. -/
def HmEntry.ofWord (w : Nat) : Option HmEntry :=
  let e (st : HmState) : HmEntry :=
    { state := st, loc := { channel := bits w 0 5, ce := bits w 5 2, lun := bits w 7 2, block := bits w 9 15, page := bits w 24 12, slot := bits w 36 7 }
      length := bits w 43 7, raw := w.testBit 50 }
  if crc8 (leBytes 7 w) ≠ bits w 56 8 then none
  else
    match bits w 51 2 with
    | 0 => some (e .zero)
    | 1 => some (e .stored)
    | 2 => some (e .lost)
    | _ => none

/-- A granule's Harvest Map entry (R81). -/
def State.hmOf (s : State) (g : Nat) : HmEntry := tblGet {} s.map.hmap g

/-- The ready cache entry of a region. -/
def State.cached (s : State) (r : Nat) : Option LcEntry := s.map.cache.find? fun e => e.region == r

/-- The true ledger line of a region, as a read through the ledger cache finds it (R93, R99): the cache's copy, else the DRAM ledger's. -/
def State.lineOf (s : State) (r : Nat) : Nat :=
  match s.cached r with
  | some e => if e.filling then tblGet 0 s.map.lines r else e.line
  | none => tblGet 0 s.map.lines r

/-- A granule's ledger bit. -/
def State.dirtyBit (s : State) (g : Nat) : Bool := (s.lineOf (regionOf g)).testBit (bitOf g)

/-- Write back one entry: its line goes to the DRAM ledger and it is clean (R92). An entry whose fill is under way has nothing to write. -/
def writeBack (r : Nat) (s : State) : State :=
  match s.cached r with
  | none => s
  | some e =>
    if e.filling then s
    else { s with map := { s.map with
        lines := tblPut 0 r e.line s.map.lines
        cache := s.map.cache.map fun x => if x.region = r then { x with dirty := false } else x
        changed := s.map.changed.filter (· != r) } }

/-- Dirty cap in force (R92). -/
def State.dirtyCap (s : State) : Nat := match s.lay.inForce with | none => 8192 | some l => l.map.dirtyCap

/-- Keep the number of dirty entries within the cap: the least recently changed one is written back (R92). -/
def capDirty (s : State) : State :=
  if s.dirtyCap < s.map.changed.length then
    match s.map.changed with
    | [] => s
    | r :: _ => writeBack r s
  else s

/-- An entry is used: it is the most recently used of the cache (R90). -/
def useLine (r : Nat) (s : State) : State :=
  { s with map := { s.map with cache := (s.cached r).toList ++ s.map.cache.filter fun x => x.region != r } }

/-- A region's line changes: in its entry, which is dirty and the most recently changed (R92), or in the DRAM ledger where the region has
no entry that is filled. -/
def setLine (r line : Nat) (s : State) : State :=
  if (s.cached r).any fun e => !e.filling then
    { s with map := { s.map with
        cache := s.map.cache.map fun x => if x.region = r then { x with line := line, dirty := true } else x
        changed := (s.map.changed.filter (· != r)) ++ [r] } }
  else { s with map := { s.map with lines := tblPut 0 r line s.map.lines } }

/-- Bit g set at the ordering point: DIRTY and MAP_DIRTY_TOTAL change at that instant (R93). -/
def setBit (g : Nat) (s : State) : State :=
  let r := regionOf g
  let line := s.lineOf r
  if line.testBit (bitOf g) then s
  else
    let s := rstUpd r (fun x => { x with dirty := x.dirty + 1 }) (setLine r (lineSet line (bitOf g)) s)
    capDirty { s with map := { s.map with total := s.map.total + 1 } }

/-- Bit g cleared at the ordering point (R93). -/
def clrBit (g : Nat) (s : State) : State :=
  let r := regionOf g
  let line := s.lineOf r
  if line.testBit (bitOf g) then
    let s := rstUpd r (fun x => { x with dirty := x.dirty - 1 }) (setLine r (lineClr line (bitOf g)) s)
    capDirty { s with map := { s.map with total := s.map.total - 1 } }
  else s

/-- What a MARK does to its region's entry (R83, R96, R97). -/
def markEntry (r : Nat) (s : State) : State :=
  rstUpd r (fun x => s.withHot { x with epoch := s.map.epoch, zero := false }) s

/-- A CLAIM's answer given (R83); a GRANT takes the granule onto the drain path (R86, R105). -/
def claimIn (g : Nat) (s : State) : State :=
  if !(s.lineOf (regionOf g)).testBit (bitOf g) then { s with map := { s.map with lastAnswer := some .clean } }
  else if s.map.inflight.contains g then { s with map := { s.map with lastAnswer := some .busy } }
  else if 8192 ≤ s.map.inflight.length then
    { s with map := { s.map with lastAnswer := some .waiting, claimWait := s.map.claimWait ++ [g] } }
  else
    let s := clrBit g s
    { s with
      map := { s.map with
        inflight := setAdd g s.map.inflight, lastAnswer := some .grant
        peak := max s.map.peak (s.map.inflight.length + 1) }
      drn := { s.drn with path := s.drn.path ++ [⟨g, .claimed, s.dev.aonUs⟩] } }

/-- A granule leaves the in-flight table (R83). -/
def leaveTable (g : Nat) (s : State) : State := { s with map := { s.map with inflight := setDel g s.map.inflight } }

/-- A granule's copies not yet committed take no effect any more: it leaves the drain path, and its records in pages that have not all
programmed are stale (R87), a record that goes on in a page after its own among them. -/
def dropCopies (g : Nat) (s : State) : State :=
  let off := fun (p : StorePage) => { p with recs := p.recs.map fun (r : GranRec) =>
    if r.granule = g && r.src.isNone then { r with live := false } else r }
  { s with
    drn := { s.drn with path := s.drn.path.filter fun i => i.granule != g }
    bed := { s.bed with
      stageQ := s.bed.stageQ.filter fun i => i.2.granule != g
      staged := s.bed.staged.map off, pages := s.bed.pages.map fun p => if p.spills then off p else p } }

/-- An operation takes effect on its region's resident line. -/
def applyOp (op : MapOp) (s : State) : State :=
  match op with
  | .mark g => markEntry (regionOf g) (setBit g s)
  | .claim g => claimIn g s
  | .abandon g => leaveTable g (setBit g s)

/-- The granule of an operation. -/
def MapOp.granule : MapOp → Nat
  | .mark g => g | .claim g => g | .abandon g => g

/-- Entries of a region's set (R90). -/
def State.setUse (s : State) (r : Nat) : List LcEntry := s.map.cache.filter fun e => e.region % 4096 == r % 4096

/-- Make room for one entry in a region's set: the least recently used entry that is not being filled goes, written back if it is
dirty (R90, R92). [log 23: DESIGN CHOICE] -/
def evictFor (r : Nat) (s : State) : State :=
  if (s.setUse r).length < 16 then s
  else
    match (s.setUse r).reverse.find? fun e => !e.filling with
    | none => s
    | some v =>
      let s := if v.dirty then writeBack v.region s else s
      { s with map := { s.map with cache := s.map.cache.filter fun e => e.region != v.region } }

/-- Whether a region's set has room for one entry more: a free way, or an entry that may go. -/
def State.canAlloc (s : State) (r : Nat) : Bool :=
  (s.setUse r).length < 16 || (s.setUse r).any fun e => !e.filling

/-- Outstanding fills (R91). -/
def State.fills (s : State) : Nat := (s.map.cache.filter fun e => e.filling).length

def MapOp.isMark : MapOp → Bool
  | .mark _ => true | .claim _ => false | .abandon _ => false

def MapOp.isClaim : MapOp → Bool
  | .mark _ => false | .claim _ => true | .abandon _ => false

/-- An operation needs an entry and none can be made (R90, R91): a fill beyond the 256 outstanding, or a set whose ways are all being
filled. [log 23: DESIGN CHOICE] -/
def State.opStalls (s : State) (op : MapOp) : Bool :=
  let r := regionOf op.granule
  let d := (s.rstOf r).dirty
  (s.cached r).isNone && !(d = 512 && op.isMark) && (!s.canAlloc r || (d ≠ 0 && d ≠ 512 && 256 ≤ s.fills))

/-- MARK and CLAIM lookups (R101): a lookup of a resident line, of one whose fill is pending, or answered from the RST counts as a hit. Hits
by a pending fill, and by the zeros or ones of R91 that a CLAIM is filled with, are the model's choice. [log 23: DESIGN CHOICE] -/
def countLookup (op : MapOp) (s : State) : State :=
  let r := regionOf op.granule
  let d := (s.rstOf r).dirty
  match op with
  | .abandon _ => s
  | _ =>
    { s with map := if (s.cached r).isSome || d = 0 || d = 512 then { s.map with hits := (s.map.hits + 1) % 2 ^ 32 }
        else { s.map with misses := (s.map.misses + 1) % 2 ^ 32 } }

/-- A CLAIM that must wait says so (R86). -/
def claimWaits (op : MapOp) (s : State) : State := if op.isClaim then { s with map := { s.map with lastAnswer := some .waiting } } else s

/-- An operation reaches the ordering point (R83, R89 to R91): it takes effect on a resident line, waits for the line's fill, starts
one, or stalls. -/
def admitOp (op : MapOp) (s : State) : State :=
  let r := regionOf op.granule
  match s.cached r with
  | some e =>
    if e.filling then
      claimWaits op { s with map := { s.map with cache := s.map.cache.map fun x =>
        if x.region = r then { x with waiting := x.waiting ++ [op] } else x } }
    else applyOp op (useLine r s)
  | none =>
    let d := (s.rstOf r).dirty
    if d = 512 && op.isMark then markEntry r s
    else if s.opStalls op then claimWaits op { s with map := { s.map with stalled := s.map.stalled ++ [op] } }
    else
      let s := evictFor r s
      if d = 0 || d = 512 then
        applyOp op { s with map := { s.map with cache := ⟨r, if d = 0 then 0 else fullLine, false, false, [], s.dev.aonUs⟩ :: s.map.cache } }
      else claimWaits op { s with map := { s.map with cache := ⟨r, 0, false, true, [op], s.dev.aonUs⟩ :: s.map.cache } }

/-- An operation of a granule that exists, looked up and admitted. -/
def mapOp (op : MapOp) (s : State) : State := if s.granules ≤ op.granule then s else admitOp op (countLookup op s)

/-- CLAIMs that found the in-flight table full try again in order (R86). -/
def retryClaims (s : State) : State :=
  s.map.claimWait.foldl (fun s g => admitOp (.claim g) s) { s with map := { s.map with claimWait := [] } }

/-- A region's fill returns: the waiting operations take effect in order, then the stalled ones are admitted again (R89, R91). -/
def fillDone (r : Nat) (s : State) : State :=
  match s.cached r with
  | none => s
  | some e =>
    if e.filling then
      let line := tblGet 0 s.map.lines r
      let s := { s with map := { s.map with cache := s.map.cache.map fun x =>
        if x.region = r then { x with line := line, filling := false, waiting := [] } else x } }
      let s := e.waiting.foldl (fun s op => admitOp op s) s
      let again := s.map.stalled
      retryClaims (again.foldl (fun s op => admitOp op s) { s with map := { s.map with stalled := [] } })
    else s

/-- Every outstanding fill returns, those the stalled operations start among them. -/
def fillRounds : Nat → State → State
  | 0, s => s
  | n + 1, s =>
    let l := s.map.cache.filter fun e => e.filling
    if l = [] then s else fillRounds n (l.foldl (fun s e => fillDone e.region s) s)

def fillAll (s : State) : State := fillRounds (s.map.stalled.length + s.map.claimWait.length + 2) s

/-- The ledger cache is flushed: every dirty entry is written back (R92). -/
def flushCache (s : State) : State := s.map.changed.foldl (fun s r => writeBack r s) s

/-- An ABANDON, and a CLAIM that waited for its place (R83, R86, R87): the copies end at once, the bit and the table entry at the ordering
point. -/
def abandonOp (g : Nat) (s : State) : State := retryClaims (mapOp (.abandon g) (dropCopies g s))

/-- A granule's ledger bit set by an ABANDON of every granule in flight (R88). -/
def abandonAll (s : State) : State :=
  s.map.inflight.foldl (fun s g => fillAll (abandonOp g s)) { s with map := { s.map with claimWait := [] } }

/-- An ABANDON of the granule has been issued and waits for its line: no COMMIT of it follows (R87). -/
def State.abandoning (s : State) (g : Nat) : Bool :=
  s.map.stalled.contains (.abandon g) || s.map.cache.any fun e => e.waiting.contains (.abandon g)

/-- A COMMIT (R83): the granule leaves the in-flight table; a waiting CLAIM may enter. -/
def commitOp (g : Nat) (s : State) : State :=
  let s := leaveTable g s
  retryClaims { s with drn := { s.drn with path := s.drn.path.filter fun i => i.granule != g } }

/-- CLAIMs not yet answered are withdrawn (R122). -/
def dropClaims (s : State) : State :=
  { s with map := { s.map with
      claimWait := [], stalled := s.map.stalled.filter fun o => !o.isClaim
      cache := s.map.cache.map fun e => { e with waiting := e.waiting.filter fun o => !o.isClaim } } }

/-- Write a granule's Harvest Map entry; its line is changed and not yet in a segment (R81, R109). -/
def hmPut (g : Nat) (e : HmEntry) (s : State) : State :=
  { s with
    map := { s.map with hmap := tblPut {} g e s.map.hmap }
    drn := { s.drn with delta := if s.drn.delta.contains (g / 8) then s.drn.delta else s.drn.delta ++ [g / 8] } }

/-- The eight entries of a Harvest Map line. -/
def State.hmLine (s : State) (n : Nat) : MapLine := ⟨n, (List.range 8).map fun k => s.hmOf (n * 8 + k)⟩

/-- Dirty granules of a region, ascending. -/
def State.dirtyIn (s : State) (r : Nat) : List Nat :=
  let line := s.lineOf r
  ((List.range 512).filter fun b => line.testBit b).map fun b => r * 512 + b

/-- Every region that is dirty, ascending: only regions listed in the RST can be. -/
def State.dirtyRegions (s : State) : List Nat := (s.map.rst.filter fun e => e.2.dirty ≠ 0).map fun e => e.1

end Sys2Proof.Machine
end

