-- ==== Sys2Proof/Machine/Logs.lean ====
section
/-!
DEFINITION. What the settings areas (R432 to R437), the key sectors (R468) and LMSSTATE (R473) take of the Salt Cellar: words
appended, sectors filled and erased.
-/
namespace Sys2Proof.Machine

/-- A sector has been erased once more. -/
def wearSector (n : Nat) (s : State) : State :=
  { s with cel := { s.cel with sectors := tblUpd {} n (fun x => { x with erases := min (2 ^ 27 - 1) (x.erases + 1) }) s.cel.sectors } }

/-! ### Settings words (R434) -/

/-- A state's number in the pan table (R265, R434). -/
def PanState.code : PanState → Nat
  | .unassigned => 0 | .headA => 1 | .headB => 2 | .sharedRead => 3 | .shared => 4

/-- A value wider than 48 bits in two identifiers. -/
def wideValue (n : Nat) : List Nat := [n % 2 ^ 48, n / 2 ^ 48 % 2 ^ 48]

/-- Retained fields but for the tables, in the order of their identifiers from 1. [log 75: DESIGN CHOICE] -/
def Retained.scalars (v : Retained) : List Nat :=
  let e := v.lastSave
  let u := v.learnedUnder.getD (0, 0)
  [v.dsc, e.outcome + 4 * b2n e.planned + 8 * e.trigger + 128 * b2n e.armedAtTrigger, v.lost, v.capacity, v.esr, u.1, u.2, b2n v.learnedOnce
   , v.lastResult, v.aonHours, v.lastClose, v.glitches, v.unarmedPf, v.recSeq, v.k.getD 0, v.lastM, v.saves, v.overrun, v.dElapsed, v.sanCount
   , v.semForced, b2n v.fullNext, v.thmSaves, v.thmHalts, v.lastStop.cause, v.lastStop.input, v.lastStop.state, (v.lastStop.temp % 2 ^ 16).toNat
   , v.tlyCleared]
    ++ wideValue v.wUsed

/-- A pan's value word: state and generation. -/
def Pan.value (p : Pan) : Nat := p.state.code + p.gen % 65536 * 65536

/-- Every FIELD and VALUE of a base: pan p at 0x1000 + p (R434), cell generations at 0x400 + n and device marks at 0x500 + n.
[log 75: DESIGN CHOICE] -/
def Retained.fields (v : Retained) : List (Nat × Nat) :=
  (List.range v.scalars.length).map (fun n => (n + 1, v.scalars.getD n 0)) ++
    (List.range 32).map (fun n => (0x400 + n, (tblGet (0 : BitVec 16) v.cellGens n).toNat)) ++
    (List.range 64).map (fun n => (0x500 + n, tblGet 15 v.marks n)) ++
    (List.range 1024).map fun p => (0x1000 + p, (tblGet {} (v.pans.getD []) p).value)

/-- A retained field with no valid word takes its cold value (R435), by the identifiers of `Retained.fields`. -/
def Retained.forget (v : Retained) (field : Nat) : Retained :=
  if 0x1000 ≤ field then { v with pans := v.pans.map (tblPut {} (field - 0x1000) {}) }
  else if 0x500 ≤ field then { v with marks := tblPut 15 (field - 0x500) 15 v.marks }
  else if 0x400 ≤ field then { v with cellGens := tblPut 0 (field - 0x400) 0 v.cellGens }
  else
    match field with
    | 1 => { v with dsc := 0 }
    | 2 => { v with lastSave := {} }
    | 3 => { v with lost := 0 }
    | 4 => { v with capacity := 0 }
    | 5 => { v with esr := 0 }
    | 6 | 7 => { v with learnedUnder := none }
    | 8 => { v with learnedOnce := false }
    | 9 => { v with lastResult := 0 }
    | 10 => { v with aonHours := 0 }
    | 11 => { v with lastClose := 0 }
    | 12 => { v with glitches := 0 }
    | 13 => { v with unarmedPf := 0 }
    | 14 => { v with recSeq := 0 }
    | 15 => { v with k := none, kBasis := none }
    | 16 => { v with lastM := 0 }
    | 17 => { v with saves := 0 }
    | 18 => { v with overrun := 0 }
    | 19 => { v with dElapsed := 0 }
    | 20 => { v with sanCount := 0 }
    | 21 => { v with semForced := 0 }
    | 22 => { v with fullNext := false }
    | 23 => { v with thmSaves := 0 }
    | 24 => { v with thmHalts := 0 }
    | 25 => { v with lastStop := { v.lastStop with cause := 0 } }
    | 26 => { v with lastStop := { v.lastStop with input := 0 } }
    | 27 => { v with lastStop := { v.lastStop with state := 0 } }
    | 28 => { v with lastStop := { v.lastStop with temp := 0 } }
    | 29 => { v with tlyCleared := 0 }
    | 30 | 31 => { v with wUsed := 0 }
    | _ => v

/-- A settings word (R434), its CHECK the CRC-32 of bits [95:0]. -/
def settingsWord (kind field seq value : Nat) : Nat :=
  let w := pack [(0, 8, kind), (8, 16, field), (24, 24, seq), (48, 48, value)]
  w + 2 ^ 96 * crc32 (leBytes 12 w)

/-- The words of a base from SEQ `seq` on (R434, R435): header, one value word for every retained field, base end. -/
def SettingsCopy.baseWords (c : SettingsCopy) (version seq : Nat) : List Nat :=
  let l := c.vals.fields
  settingsWord 1 0 seq (pack [(0, 8, c.schema), (8, 1, b2n c.slot), (16, 32, version)]) ::
    (List.range l.length).map (fun n => let e := l.getD n (0, 0); settingsWord 2 e.1 (seq + n + 1) e.2) ++
    [settingsWord 3 0 (seq + l.length + 1) l.length]

/-- Words of a base. -/
def SettingsCopy.baseSize (c : SettingsCopy) : Nat := c.vals.scalars.length + 32 + 64 + 1024 + 2

/-! ### The settings areas (R433, R436, R437) -/

/-- Entries in which two tables differ. -/
def tblChanges {α : Type} [DecidableEq α] (d : α) (a b : Tbl α) : Nat :=
  (b.filter fun e => tblGet d a e.1 ≠ e.2).length + (a.filter fun e => !b.any fun x => x.1 == e.1).length

/-- Value words that commit new values over old ones: one for every field that changes. -/
def Retained.changes (old new : Retained) : Nat :=
  ((old.scalars.zip new.scalars).filter fun e => e.1 ≠ e.2).length + tblChanges 0 old.cellGens new.cellGens +
    tblChanges 15 old.marks new.marks + tblChanges {} (old.pans.getD []) (new.pans.getD [])

/-- A fresh copy at the start of an erased area: its base. -/
def freshCopy (slot : Bool) (schema age : Nat) (vals : Retained) : SettingsCopy :=
  let c : SettingsCopy := { slot := slot, schema := schema, age := age, vals := vals }
  { c with next := c.baseSize }

/-- Erased sectors ahead of a copy's write point: of the area's 48, those from the latest base on that no word stands in (R437). -/
def SettingsCopy.ahead (c : SettingsCopy) : Nat := 48 - (ceilDiv c.next 1024 - c.base / 1024)

/-- With fewer than two erased sectors ahead a new base is written at the write point (R437). -/
def SettingsCopy.rebase (c : SettingsCopy) : SettingsCopy :=
  if c.ahead < 2 then { c with base := c.next, next := c.next + c.baseSize } else c

/-- `n` words have been appended to an area's copy; where that brings a new base, the sectors that hold only the older one and its deltas
are erased (R437). -/
def appendCopy (area n : Nat) (c : SettingsCopy) (s : State) : State :=
  let c := { c with next := c.next + n }
  let t := c.rebase
  let s := (List.range (t.base / 1024 - c.base / 1024)).foldl (fun s k => wearSector (1060 + 48 * area + (c.base / 1024 + k) % 48) s) s
  { s with upd := if area = 0 then { s.upd with area0 := some t } else { s.upd with area1 := some t } }

/-- An area is erased before a fresh copy is written in it, where it holds one. -/
def eraseArea (area : Nat) (s : State) : State :=
  let old := if area = 0 then s.upd.area0 else s.upd.area1
  match old with
  | none => s
  | some c =>
    let s := (List.range (ceilDiv c.next 1024 - c.base / 1024)).foldl (fun s k => wearSector (1060 + 48 * area + (c.base / 1024 + k) % 48) s) s
    { s with upd := if area = 0 then { s.upd with area0 := none } else { s.upd with area1 := none } }

/-! ### The key sectors (R467, R468) -/

/-- Words of a blob pair (R242: two copies of 128 bytes) and of an owner record pair (R475: two copies of 165 bytes).
[log 75: DESIGN CHOICE] -/
def blobWords : Nat := 16
def ownerWords : Nat := 22

/-- What a key sector begins with: the blob pair and the owner record in force, and a sanitize-start word without its end. -/
def State.keyCarry (s : State) : Nat :=
  (if s.pip.blobs = [] then 0 else blobWords) + (if s.key.owner.isNone then 0 else ownerWords) + b2n s.key.sanOpen

/-- Words are appended to the key sector in use. Where fewer than 16 erased words remain, or too few for them, the other sector first
takes what is in force, and the full one is erased (R468). [log 75: DESIGN CHOICE] -/
def appendKeys (n : Nat) (s : State) : State :=
  let left := 1024 - s.key.keyUsed
  if left < 16 || left < n then
    let t := wearSector (1456 + s.key.keySector) s
    { t with key := { t.key with keySector := 1 - t.key.keySector, keyUsed := s.keyCarry + n } }
  else { s with key := { s.key with keyUsed := s.key.keyUsed + n } }

/-! ### LMSSTATE (R472, R473) -/

/-- A reservation word: the boundary Q, then its CRC-32. -/
def lmsWord (q : Nat) : Nat := q % 2 ^ 32 + 2 ^ 32 * crc32 (leBytes 4 q)

/-- Two words hold a reservation. Of the 56 ring sectors, 1468 to 1523, the oldest is erased when fewer than 1,024 erased words remain ahead. -/
def appendLms (s : State) : State :=
  let k := { s.key with lmsNext := s.key.lmsNext + 2 }
  let s := { s with key := k }
  if 57344 < k.lmsNext - 1024 * k.lmsOld + 1024 then
    wearSector (1468 + k.lmsOld % 56) { s with key := { k with lmsOld := k.lmsOld + 1 } }
  else s

end Sys2Proof.Machine
end

