-- ==== Sys2Proof/Machine/Rows.lean ====
section
/-!
DEFINITION. Bed rows and their fill order (R199), and the loss of a page in write staging (R87, R107).
-/
namespace Sys2Proof.Machine

/-! ### Rows and fill order (R199) -/

def BedRow.width (r : BedRow) : Nat := r.blocks.length

/-- The parity channel: the (ROW_SEQ mod width)-th of the row. -/
def BedRow.parityCh (r : BedRow) : Nat := ((r.blocks[r.seq % r.width]?).map fun p => p.1).getD 0

/-- Data channels, ascending. -/
def BedRow.dataChs (r : BedRow) : List Nat := (r.blocks.map fun p => p.1).filter fun c => c != r.parityCh

/-- Page n of a row's fill order: stripe and channel. -/
def BedRow.pageAt (r : BedRow) (n : Nat) : Nat × Nat :=
  (n / (r.width - 1), (r.dataChs[n % (r.width - 1)]?).getD 0)

/-- The block of a row on a channel. -/
def BedRow.blockOn (r : BedRow) (ch : Nat) : Nat := ((r.blocks.find? fun p => p.1 == ch).map fun p => p.2).getD 0

def State.row (s : State) (seq : Nat) : Option BedRow := s.bed.rows.find? fun r => r.seq == seq

def rowUpd (seq : Nat) (f : BedRow → BedRow) (s : State) : State :=
  { s with bed := { s.bed with rows := s.bed.rows.map fun r => if r.seq = seq then f r else r } }

def samePage (p q : StorePage) : Bool := p.rowSeq == q.rowSeq && p.stripe == q.stripe && p.channel == q.channel

def stagedUpd (p : StorePage) (f : StorePage → StorePage) (s : State) : State :=
  { s with bed := { s.bed with staged := s.bed.staged.map fun q => if samePage p q then f q else q } }

/-- The page before another in a row's fill order, where it spills into it. -/
def State.pageBefore (s : State) (r : BedRow) (p : StorePage) : Option StorePage :=
  s.bed.pages.find? fun q => q.rowSeq == r.seq && q.spills &&
    (List.range r.cursor).any fun n => r.pageAt n == (q.stripe, q.channel) && r.pageAt (n + 1) == (p.stripe, p.channel)

/-- Granules a page's loss abandons: those drained to it, and the one that goes on in it from the page before. -/
def State.granulesOn (s : State) (r : BedRow) (p : StorePage) : List Nat :=
  let prev := match s.pageBefore r p with
    | none => []
    | some q => (q.recs.getLast?).elim [] fun x => if x.live && x.src.isNone then [x.granule] else []
  ((p.recs.filter fun x => x.live && x.src.isNone).map fun x => x.granule) ++ prev.filter fun g => s.map.inflight.contains g

/-- A staged page is gone: its granules are abandoned and counted (R87, R107, R126), its map lines await a segment again. -/
def losePage (program : Bool) (r : BedRow) (p : StorePage) (s : State) : State :=
  let gs := s.granulesOn r p
  let back := (p.lines.map fun m => m.line).filter fun n => !s.drn.delta.contains n
  let s := { s with
    bed := { s.bed with staged := s.bed.staged.filter fun q => !samePage p q }
    drn := { s.drn with delta := s.drn.delta ++ back } }
  let s := gs.foldl (fun s g => abandonOp g s) s
  if s.saving then { s with hrv := { s.hrv with abandoned := s.hrv.abandoned + gs.length } }
  else if program then { s with drn := { s.drn with abProgram := satAdd 16 s.drn.abProgram gs.length } }
  else { s with drn := { s.drn with abOther := satAdd 16 s.drn.abOther gs.length } }

/-- Staged pages are lost for a reason other than their program. -/
def losePages (l : List StorePage) (s : State) : State :=
  l.foldl (fun s p => match s.row p.rowSeq with
    | none => s
    | some r => losePage false r p s) s

end Sys2Proof.Machine
end

