-- ==== Sys2Proof/Machine/Resets.lean ====
section
/-!
DEFINITION. What a reset keeps (R530, R548), the retained settings as they are committed and loaded (R432 to R436), leaving ARMED
(R22), HALT (R15), the chip reset (R375) and the reaction to a Fault Collector event (R369 to R379).
-/
namespace Sys2Proof.Machine

/-! ### Retained settings (R432, R436) -/

/-- SAL_LEARN.AON_HOURS (R77): the hours carried in, and those of this AON run since then. -/
def State.salHours (s : State) : Nat := min 65535 (s.sal.aonHours + (s.dev.aonUs - s.sal.learnRefUs) / 3600000000)

/-- The retained fields as they stand. The fields committed once an hour (R119) come from the copy. -/
def State.collect (s : State) (old : Retained) : Retained :=
  { dsc := s.gov.dsc, lastSave := s.gov.lastSave, lost := s.gov.lost
    capacity := s.sal.capacity, esr := s.sal.esr, learnedUnder := s.sal.learnedUnder, learnedOnce := s.sal.learnedOnce
    lastResult := s.sal.lastResult, aonHours := s.salHours, lastClose := s.sal.lastClose
    glitches := s.sal.glitches, unarmedPf := s.sal.unarmedPf, recSeq := s.sal.recSeq
    k := if s.drn.kOutMilli = 0 then old.k else some s.drn.kOutMilli, kBasis := s.drn.kBasis, lastM := s.drn.lastM, saves := s.drn.saves
    wUsed := old.wUsed, overrun := old.overrun, dElapsed := old.dElapsed
    sanCount := s.pip.sanCount
    cellGens := (List.range 32).foldl (fun t n => tblPut 0 n (tblGet {} s.sem.cells n).gen t) []
    semForced := s.sem.forced
    pans := some (s.pans.map fun e => (e.1, { e.2 with acc := ⟨.none, .none⟩, offered := ⟨false, false⟩, owed := ⟨false, false⟩ }))
    marks := s.dmc.marks, marksFor := s.dmc.marksFor, fullNext := s.trn.fullNext
    thmSaves := s.thm.saves, thmHalts := s.thm.halts, lastStop := s.thm.lastStop, tlyCleared := s.tly.cleared }

/-- Whether an area's copy may be in force for a slot (R435). -/
def copyFits (slot : Bool) (c : Option SettingsCopy) : Bool :=
  match c with
  | none => false
  | some c => c.slot == slot && !c.released && c.readable

/-- The area in force for a slot (R435): the newest of the areas that fit. -/
def Upd.areaFor (u : Upd) (slot : Bool) : Option Nat :=
  match copyFits slot u.area0, copyFits slot u.area1 with
  | true, true => if (u.area0.map (·.age)).getD 0 < (u.area1.map (·.age)).getD 0 then some 1 else some 0
  | true, false => some 0
  | false, true => some 1
  | false, false => none

/-- An area's copy. -/
def Upd.areaCopy (u : Upd) (n : Nat) : Option SettingsCopy := if n = 0 then u.area0 else u.area1

/-- Put a copy in an area. -/
def Upd.setArea (u : Upd) (n : Nat) (c : Option SettingsCopy) : Upd :=
  if n = 0 then { u with area0 := c } else { u with area1 := c }

/-- The newest age of the two areas. -/
def Upd.topAge (u : Upd) : Nat := max ((u.area0.map (·.age)).getD 0) ((u.area1.map (·.age)).getD 0)

/-- The committed values stand in the copy in force (R436): a field is committed when it changes, except those of R119 and those
the always-on domain holds until the next step B7. A device with no copy in force writes one, but for a trial image that may
not (R458). None is written from H0 until SEALED (R437). [log 12: DESIGN CHOICE] -/
def syncSettings (s : State) : State :=
  if !s.dev.loaded || s.upd.refuseArm || s.upd.settingsHeld then s
  else
    match s.upd.areaFor s.upd.running with
    | some n =>
      match s.upd.areaCopy n with
      | some c => appendCopy n (c.vals.changes (s.collect c.vals)) { c with vals := s.collect c.vals } s
      | none => s
    | none =>
      let n := if s.upd.area0.isNone then 0 else 1
      let age := s.upd.topAge + 1
      let s := eraseArea n s
      { s with upd := s.upd.setArea n (some (freshCopy s.upd.running 3 age (s.collect {}))) }

/-- The values the copy in force carries. -/
def State.committed (s : State) : Retained :=
  match s.upd.areaFor s.upd.running with
  | none => {}
  | some n => ((s.upd.areaCopy n).map fun c => c.vals).getD {}

/-- At H0 what has changed until then is committed, and no settings word is written until SEALED (R437). [log 12: DESIGN CHOICE] -/
def holdSettings (s : State) : State :=
  let s := syncSettings s
  { s with upd := { s.upd with settingsHeld := true } }

/-! ### Resets (R548) -/

/-- The always-on part of the Fault Collector (R376, R382). -/
def Flt.aon (f : Flt) : Flt :=
  { first := f.first, wireLine := f.wireLine, masked := f.masked, wireGroups := f.wireGroups, haltSource := f.haltSource, haltCause := f.haltCause, sticky := f.sticky, severe := f.severe, deferred := f.deferred }

/-- Where the array holds a word: in its sector, or in that sector's spare (R420). -/
def Cel.cell (c : Cel) (sector word : Nat) : Nat := (tblGet {} c.sectors sector).spare.getD sector * 1024 + word

/-- Programs a word has left: 3 erased, 2 programmed once, 0 programmed twice (R402). -/
def Cel.countAt (c : Cel) (key : Nat) : Nat := (tblGet { data := BitVec.allOnes 128, count := 3 } c.words key).count

/-- The pulse of a program completes and the program ends at its verify (R375, R423). -/
def celCutWord (sector word : Nat) (data : BitVec 128) (c : Cel) : Cel :=
  let k := c.cell sector word
  { c with words := tblIns k { data := data, count := if c.countAt k = 3 then 2 else 0 } c.words }

/-- The core supply fails during a program (R423): what the word reads as, and whether its count has stepped, is open. [log 50: DEDUCED] -/
def celLost (s : State) : State :=
  match s.cel.op with
  | .programming _ se w _ =>
    let k := s.cel.cell se w
    let n := s.cel.countAt k
    let n := if (Config.number (s.free + 1)).getLsbD 0 then (if n = 3 then 2 else 0) else n
    let w1 : CelWord := { data := if n = 3 then BitVec.allOnes 128 else Config.word s.free, count := n }
    { s with
      cel := { s.cel with op := .idle, words := tblPut { data := BitVec.allOnes 128, count := 3 } k w1 s.cel.words }
      free := s.free + 2 }
  | _ => s

/-- The Salt Cellar at a reset (R375, R412, R423): an erase is aborted and its flag stays set; a program ends at its pulse. -/
def Cel.cut (c : Cel) : Cel :=
  let c := match c.op with
    | .programming _ se w d => celCutWord se w d c
    | _ => c
  { headerOk := c.headerOk, words := c.words, sectors := c.sectors, retireOwed := c.retireOwed, lastRetired := c.lastRetired
    calib0 := c.calib0, calib1 := c.calib1 }

/-- What Crystal Beds keeps on the media. -/
def Bed.media (b : Bed) : Bed :=
  { blocks := b.blocks
    rows := b.rows.map fun r => { r with accum := [] }, pages := b.pages, nextRowSeq := b.nextRowSeq, nextLane := b.nextLane, ckpts := b.ckpts
    foreign := b.foreign, blank := b.blank
    chans := b.chans.map fun e => (e.1, ({ present := e.2.present, retired := e.2.retired, factoryBad := e.2.factoryBad } : BedChan)) }

/-- The Salinometer across a reset: it lies in the always-on domain, and its registers reload (R530). -/
def Sal.kept (x : Sal) : Sal :=
  { sealStrap := x.sealStrap, soc := x.soc, rested := x.rested, reanchor := x.reanchor, packRemoved := x.packRemoved, learnRefUs := x.learnRefUs
    learnedUnder := x.learnedUnder, learnedOnce := x.learnedOnce, capacity := x.capacity, esr := x.esr
    breaksUsed := x.breaksUsed, cal := x.cal, staged := x.cal, recSeq := x.recSeq, owed := x.owed, aonHours := x.aonHours
    lastResult := x.lastResult, lastClose := x.lastClose, glitches := x.glitches, unarmedPf := x.unarmedPf
    domainKey := x.domainKey, aonPriorS := x.aonPriorS, learnDue := x.learnDue, reportReset := x.reportReset }

/-- Keyhouse across a reset: fuses, KEYS and LMSSTATE (R463, R473). Unused reserved leaves are skipped. -/
def Key.kept (k : Key) : Key :=
  { secret := k.secret, revoked := k.revoked, antiRollback := k.antiRollback, provLock := k.provLock, owner := k.owner
    lmsQ := k.lmsRes, lmsRes := k.lmsRes, exhausted := k.exhausted, lmsNext := k.lmsNext, lmsOld := k.lmsOld, keySector := k.keySector, keyUsed := k.keyUsed, certOk := k.certOk, sanOpen := k.sanOpen
    identity := k.identity }

/-- The update record, slots and settings across a reset. -/
def Upd.kept (u : Upd) (cause : Nat) : Upd :=
  { marker := u.marker, recNext := u.recNext, recOld := u.recOld, slotA := u.slotA, slotB := u.slotB, wdCount := u.wdCount, area0 := u.area0, area1 := u.area1
    cause := cause, countedSeq := u.countedSeq }

/-- Tally across a reset of the main domain that keeps the core supply (R392): the ring, the next SEQ and the last-gasp
registers; triggers and mirrors that wait are gone. -/
def Tly.kept (t : Tly) : Tly :=
  { ring := t.ring, ringUsable := t.ringUsable, nextSeq := t.nextSeq, reserved := t.reserved, gasp := t.gasp
    cleared := t.cleared, fallback := t.fallback }

/-- Every block outside the always-on domain is reset (R548): registers load their cold values, retained ones wait for step B7,
DRAM is lost, what is on the media stays. The start is due, with its cause (R462). [log 66: DEDUCED] -/
def mainReset (cause : Nat) (s0 : State) : State :=
  let s := syncSettings s0
  let v := s.committed
  let loaded := s.dev.loaded
  { dev := { st := .boot, startDue := true, mainUp := s.dev.mainUp, aonUs := s.dev.aonUs, startUs := s.dev.aonUs }
    flt := s.flt.aon
    tly := s.tly.kept
    sal := { s.sal.kept with
      pgSinceStart := s.pins.mainPower
      glitches := if loaded then s.sal.glitches - v.glitches else s.sal.glitches
      unarmedPf := if loaded then s.sal.unarmedPf - v.unarmedPf else s.sal.unarmedPf
      aonHours := if loaded then s.salHours - v.aonHours else s.sal.aonHours
      learnRefUs := if loaded then s.dev.aonUs else s.sal.learnRefUs }
    fld := { outcomeDue := s.fld.outcomeDue }
    drn := { owedBytes := s.drn.owedBytes, owedDays := s.drn.owedDays }
    bed := s.bed.media
    pip := { blobs := s.pip.blobs, sanUnlocked := s.key.sanOpen && s.pip.sanUnlocked }
    thm := { saves := if loaded then s.thm.saves - v.thmSaves else s.thm.saves
             halts := if loaded then s.thm.halts - v.thmHalts else s.thm.halts
             lastStop := if loaded && s.thm.lastStop = v.lastStop then {} else s.thm.lastStop, thermalSave := s.thm.thermalSave
             oscTrim := s.thm.oscTrim, bgTrim := s.thm.bgTrim, oscTable := s.thm.oscTable, bgTable := s.thm.bgTable
             calibValid := s.thm.calibValid }
    trn := { recs := s.trn.recs }
    cel := s.cel.cut
    upd := s.upd.kept cause
    key := s.key.kept
    pins := { rcClock := s.pins.rcClock, mainPower := s.pins.mainPower, errLow := s.pins.errLow }
    lay := { committed := s.lay.committed }
    brl := { role := s.brl.role, bundle := s.brl.bundle }
    jrn := s.jrn
    serial := s.serial
    free := s.free
    pending := s.pending }

/-- The core supply goes down: the Tally ring is lost with it (R392). [log 66: DEDUCED] -/
def coreLost (s : State) : State := { s with tly := { reserved := s.tly.reserved, cleared := s.tly.cleared } }

/-- AON time since manufacture, s (R74). -/
def State.aonLifeS (s : State) : Nat := s.sal.aonPriorS + s.aonS

/-- The 256-byte body of a Salinometer record (R74): the fields in their order, the rest zero. -/
def SalRec.bytes (r : SalRec) : List Nat :=
  let i16 := fun (v : Int) => leBytes 2 (v % 65536).toNat
  let l := leBytes 2 r.typ ++ leBytes 2 r.format ++ leBytes 4 r.seq ++ leBytes 1 r.breaks ++ leBytes 1 r.kind ++ leBytes 2 r.ident ++
    leBytes 4 r.eStart ++ leBytes 4 r.drawn ++ leBytes 4 r.ticks ++ leBytes 2 r.minMv ++ leBytes 2 r.peak ++ i16 r.tLow ++ i16 r.tHigh ++
    leBytes 4 r.capResult ++ leBytes 4 r.esrResult ++ leBytes 4 r.aonS ++ leBytes 4 r.cause ++ leBytes 32 r.digest.toNat
  l ++ List.replicate (256 - l.length) 0

/-- The next Salinometer record of a type (R74): SEQ one higher; its code is made under the domain key. -/
def mkSalRec (typ cause eStart drawn ticks minMv peakMa : Nat) (tLow tHigh : Int) (capR esrR : Nat) (s : State) : State × SalRec :=
  let seq := (s.sal.recSeq + 1) % 2 ^ 32
  let p := s.lay.inForce.map fun l => l.profile
  let learn := typ = 2 || typ = 3
  let r : SalRec :=
    { typ := typ, format := 1, seq := seq, breaks := s.sal.breaksUsed
      kind := (p.map fun p => p.kind).getD 0, ident := (p.map fun p => p.ident).getD 0
      eStart := eStart, drawn := drawn, ticks := ticks, minMv := minMv, peak := peakMa / 10, tLow := tLow, tHigh := tHigh
      capResult := capR, esrResult := esrR, aonS := s.aonLifeS, cause := cause
      digest := if typ = 5 then (Config.digest s.free).setWidth 256 else 0, mac := 0
      reportsReset := learn && s.sal.reportReset, signed := false }
  ({ s with
     sal := { s.sal with recSeq := seq, reportReset := s.sal.reportReset && !learn }
     free := s.free + 1 }, { r with mac := (hmac256 (s.sal.domainKey.getD 0) r.bytes).extractLsb' 128 128 })

/-- The record of a learning cycle that ends with a result (R68, R74, R76): in L7 a charge-complete, a trigger, a reset or HALT finds it
complete, and the interval restarts (R66, R77); a seal break or ABORT aborts it at any step (R72, R77), L6's results staying applied.
[log 19: DEDUCED] -/
def learnRec (result : Nat) (s : State) : State × SalRec :=
  let l := s.sal.learn
  let stands := l.step = 7 && (result = 0 || result = 5)
  let res := if stands then (if l.capSkipped then 2 else 1) else result
  let s := { s with sal := { s.sal with
    callOad := false, learn := {}, lastResult := res, learnDue := false
    learnedOnce := s.sal.learnedOnce || stands, aonHours := if stands then 0 else s.sal.aonHours
    learnRefUs := if stands then s.dev.aonUs else s.sal.learnRefUs } }
  mkSalRec (if stands then 2 else 3) res l.eAtStart (l.drawnUj / 1000) ((s.dev.aonUs - l.startUs) * 4096 / 125000)
    l.minMv l.peakMa l.tLow l.tHigh (if stands then l.capResult else 0) (if stands then l.esrMeasured else 0) s

/-- The record of a seal session that ends without committing (R73, R74): the staged calibration is dropped. -/
def abandonRec (s : State) : State × SalRec :=
  mkSalRec 5 1 0 0 0 0 0 0 0 0 0 { s with sal := { s.sal with sealOpen := false, lastClose := 2, staged := s.sal.cal } }

/-- A record the next start writes (R75, R76). -/
def oweRec (t : State × SalRec) : State := { t.1 with sal := { t.1.sal with owed := t.1.sal.owed ++ [t.2] } }

/-- What a trigger, a reset or HALT ends in the Salinometer (R73, R76): a learning cycle, an open seal session; their records are owed. A
save that ends in it loses its record, whose SEQ stays unused (R75). -/
def salCut (s : State) : State :=
  let s := if s.sal.learn.step = 0 then s else oweRec (learnRec 5 s)
  let s := if s.sal.sealOpen then oweRec (abandonRec s) else s
  if s.saving then { s with sal := { s.sal with recSeq := (s.sal.recSeq + 1) % 2 ^ 32 } } else s

/-- ERR_N is asserted while a source with the attribute is sticky, and throughout a fault HALT (R370). -/
def State.errN (s : State) : Bool :=
  (s.dev.st = .halt && (s.dev.halt = .fault || s.dev.halt = .vabs)) || s.flt.sticky.any fun n => (s.srcCfg n).err

/-- The level of ERR_N after a change. -/
def setErrN (s : State) : State := { s with pins := { s.pins with errLow := s.errN } }

/-! ### Leaving ARMED (R22) -/

/-- A pause of the drain ends (R122, R123): 1 RESUME, 2 B_wh, 3 PAUSE_MAX, 4 cell 1 released, 5 save trigger or change of state.
[log 27: DEDUCED] -/
def endPause (cause : Nat) (s : State) : State :=
  if s.drn.paused then tlyTell 0x10A 0 { s with drn := { s.drn with paused := false, lastPauseEnd := cause } } else s

/-- The device leaves ARMED for UNARMED under a failed condition (R22, R25): cause, type 0x02 event record, Tally record. -/
def disarm (cause : Nat) (s : State) : State :=
  if s.dev.st = .armed then
    let s := endPause 5 (tlyTell 0x103 0 s)
    let s := { s with
      dev := { s.dev with st := .unarmed }
      gov := { s.gov with lastDisarm := cause, holdoffDone := false, heldTicks := 0, pdom := false, backpressure := false }
      svc := { s.svc with event := true } }
    chapenEvent .warning 0x02 cause 0xFF 0 0 0 s.map.total s
  else s

/-- The device leaves ARMED for HARVEST or HALT: cause and Tally record, no event record (R22). -/
def disarmStop (cause : Nat) (s : State) : State :=
  let s := if s.dev.st = .armed then tlyTell 0x103 0 s else s
  { s with gov := { s.gov with
      lastDisarm := if s.dev.st = .armed then cause else s.gov.lastDisarm
      holdoffDone := false, heldTicks := 0, pdom := false } }

/-- Heads go down with their device: no link, reset held (R256, R257). -/
def dropHeads (s : State) : State :=
  let f := fun (x : HeadSt) => { x with up := false, down := true, inReset := true, grace := false, ide := false,
                                        rate := 0, width := 0, creditsHeld := false }
  { s with heads := ⟨f s.heads.a, f s.heads.b⟩ }

/-- HALT (R15, R355): HOLD_EN, HOLD_ARM and CALLOAD low, heads in reset, DRAM reset, an erase pulse aborted, THERM_TRIP_N or ERR_N
marking the cause. -/
def enterHalt (kind : HaltKind) (s : State) : State :=
  let s := dropHeads (endPause 5 (disarmStop 0x0A (salCut s)))
  setErrN { s with
    dev := { s.dev with st := .halt, halt := kind }
    sal := { s.sal with holdEn := false, holdArm := false, callOad := false, charging := false }
    thm := { s.thm with trip := s.thm.trip || kind = .thermal }
    cel := { s.cel.cut with programs := s.cel.programs, erases := s.cel.erases }
    gov := { s.gov with accessHeld := true }
    dram := [], poison := [] }

/-! ### SALVAGE (R152) -/

/-- Open rows that hold a block on a channel or die out of service are closed; their lanes' next rows are opened at reduced width
(R199, R226, R231). -/
def narrowRows (s : State) : State :=
  let out := fun (r : BedRow) => r.blocks.any fun p =>
    let c := tblGet ({} : BedChan) s.bed.chans p.1
    !c.active || c.retired.contains r.lane
  { s with bed := { s.bed with rows := s.bed.rows.map fun r => if r.state = .opened && out r then { r with state := .full } else r } }

/-- Channels are excluded, with BED_CH_STATUS.CAUSE; their staged records are abandoned (R152, codes 0x01 and 0x02). [log 33: DEDUCED] -/
def excludeChannels (chs : List Nat) (cause : Nat) (s : State) : State :=
  let s := chs.foldl (fun s c => { s with
    bed := { s.bed with chans := tblUpd {} c (fun x => { x with active := false, excluded := true, cause := if x.excluded then x.cause else cause }) s.bed.chans }
    hrv := if s.saving then { s.hrv with excluded := setAdd c s.hrv.excluded } else s.hrv }) s
  narrowRows (losePages (s.bed.staged.filter fun p => chs.contains p.channel) s)

/-- The save engine that works a region while both run: its number's lowest bit. [log 33: DEDUCED] -/
def State.engineOf (s : State) (g : Nat) : Nat :=
  match s.hrv.engines with
  | [e] => e
  | _ => regionOf g % 2

/-- A harvest-fatal source acts on the running save (R152, R378, R381): the first code stays; each event excludes what it names. -/
def salvage (code unit : Nat) (s : State) : State :=
  if !s.saving then s
  else
    let s := { s with
      dev := { s.dev with st := .salvage }
      svc := { s.svc with event := s.svc.event || s.dev.st ≠ .salvage }
      hrv := { s.hrv with salvage := true, salvageCause := if s.hrv.salvageCause = 0 then code else s.hrv.salvageCause } }
    if code = 1 then excludeChannels [unit] 1 s
    else if code = 2 then excludeChannels ((List.range 8).map fun k => 8 * unit + k) 4 s
    else if code = 3 then
      let mine := (s.drn.path.filter fun i => i.step ≠ .staged && s.engineOf i.granule = unit).map fun i => i.granule
      let s := mine.foldl (fun s g => abandonOp g s) { s with hrv := { s.hrv with engines := setDel unit s.hrv.engines } }
      { s with hrv := { s.hrv with abandoned := s.hrv.abandoned + mine.length } }
    else if code = 4 then losePages (s.bed.staged[unit]?).toList s
    else
      let grain := match s.lay.inForce with | none => 4 | some l => l.dram.grainLog
      if code = 6 || (code = 5 && grain ≠ 4) then { s with hrv := { s.hrv with endNow := true } } else s

/-! ### Chip reset and reactions (R369 to R375, R548) -/

/-- A reset of the main domain while it runs (R548): the states R15 lets it act in. -/
def resettable (s : State) : Bool :=
  s.dev.st = .boot || s.dev.st = .reflood || s.dev.st = .armed || s.dev.st = .unarmed || s.dev.st = .recovery

/-- A level-4 reset with the next start's FLT_HALT: its source, if it ends this start before host-ready (R374, R382). -/
def levelReset (src cause : Nat) (s : State) : State :=
  let pre := !s.dev.hostReady
  let t := mainReset cause (salCut s)
  { t with flt := { t.flt with
      haltSource := if pre then src else t.flt.haltSource
      haltPreReady := pre
      haltCause := 0 } }

/-- The watchdog reset of source 0x11 (R374, R430): counted for the confirmed image. -/
def watchdogReset (s : State) : State :=
  let s := { s with upd := { s.upd with wdCount := if s.upd.marker.state = .trial then s.upd.wdCount else min 3 (s.upd.wdCount + 1) } }
  levelReset 0x11 4 s

/-- A level-4 reaction (R374): the watchdog reset, a fault HALT, or a chip reset. [log 47: DESIGN CHOICE] -/
def level4 (src : Nat) (s : State) : State :=
  if !resettable s then s
  else if src = 0x11 then watchdogReset s
  else
    let stop := match srcRow src with | none => false | some r => r.stop
    if stop then enterHalt .fault { s with flt := { s.flt with haltSource := src, haltCause := 3 } }
    else if s.dev.st = .recovery then enterHalt .fault { s with flt := { s.flt with haltSource := src, haltCause := 2 } }
    else if s.flt.haltPreReady && s.flt.haltSource == src then
      enterHalt .fault { s with flt := { s.flt with haltCause := 1 } }
    else levelReset src 3 s

/-- A head's link is down (R256, R272, R276, R285, R289): the grace timer starts, what lasts to link-down lapses; a conventional reset
of the head also clears its decoders and sessions (R257, R260). -/
def headDown (h : Head) (reset : Bool) (s : State) : State :=
  let x := s.heads.get h
  let x := { x with
    up := false, down := true, grace := x.grace || x.up, downUs := if x.up then s.dev.aonUs else x.downUs
    downs := if x.up then satAdd 16 x.downs 1 else x.downs, ide := false, rate := 0, width := 0
    stampBase := none, cmdMajor := 2, cmdMinor := 0, decoders := if reset then [] else x.decoders }
  let mine := fun (q : HostReq) => !decide (q.head = h)
  let s := { s with
    heads := s.heads.set h x
    fld := { s.fld with
      admission := s.fld.admission.filter mine
      fetches := s.fld.fetches.map fun f => { f with waiting := f.waiting.filter mine } } }
  let s := if reset then { s with key := { s.key with spdm := s.key.spdm.set h {} } } else s
  if s.lay.stagedHead = some h then { s with lay := { s.lay with stagedHead := none, stagedBytes := 0 } } else s

/-- What a block reset does at once beyond the block's own work: a head's link goes down (R257, R380), Tally's waiting triggers are
lost and counted (R398). -/
def blockReset (b : FltBlock) (s : State) : State :=
  if s.flt.resetting.contains b then s
  else
    let s := { s with flt := { s.flt with resetting := s.flt.resetting ++ [b] } }
    match b with
    | .headA => headDown .a true s
    | .headB => headDown .b true s
    | .tally => { s with tly := { s.tly with
        lostCount := satAdd 6 s.tly.lostCount s.tly.fifo.length
        lostTotal := satAdd 32 s.tly.lostTotal s.tly.fifo.length
        fifo := [], overflowDue := none, dropped := false, ready := false } }
    | .staging =>
      losePages s.bed.staged s
    | .panhouse =>
      let gs := (s.drn.path.filter fun i => i.step = .reading).map fun i => i.granule
      gs.foldl (fun s g => abandonOp g s) s
    | .mailboxEngine => { s with heads := ⟨{ s.heads.a with bg := {} }, { s.heads.b with bg := {} }⟩ }
    | _ => s

/-- The reaction of a level (R369, R373). -/
def fltReact (src level : Nat) (s : State) : State :=
  match level with
  | 0 => reactLow 0 s
  | 1 => reactLow 1 s
  | 2 => reactLow 2 s
  | 3 =>
    match srcRow src with
    | none => s
    | some r => if r.block = .device || r.block = .none then level4 src s else blockReset r.block s
  | _ => level4 src s

/-- States in which Thermal Guard converts once per second: those that the restart condition governs (R347, R356). -/
def State.coolsDown (s : State) : Bool :=
  (s.dev.st = .halt && (s.dev.halt = .thermal || (s.dev.halt = .vabs && s.dev.savedBy = 3))) || (s.dev.st = .sealed && s.dev.savedBy = 3)

/-- Sources evaluated in SEALED and HALT (R379): a thermal sensor break only while conversions run. -/
def State.aonSource (s : State) (src : Nat) : Bool := src == 0x00 || src == 0x94 || (src == 0xA1 && s.coolsDown)

/-- A source event (R366 to R381): recorded, told to Tally, and answered at its level; a harvest-fatal one acts on the save. `arg` is
the channel or engine the source passes with it (R388). -/
def fltRaise (src arg : Nat) (s : State) : State :=
  match srcRow src with
  | none => s
  | some row =>
    if s.dev.st = .off || (!s.alive && !s.aonSource src) || s.flt.masked.contains src then s
    else
      let r := fltRecord src s
      let level := r.2
      let s := setErrN r.1
      let t := tlyPut src level arg s
      let s := match t.2 with
        | none => t.1
        | some l => if l ≤ 2 then fltReact 0xE1 l t.1 else t.1
      let s := if row.hf ≠ 0 then salvage row.hf arg s else s
      if s.saving && 3 ≤ level then { s with hrv := { s.hrv with deferred := satAdd 8 s.hrv.deferred 1 } }
      else if s.alive then fltReact src level s
      else s

/-- A condition source rises: an event only on the rising edge (R366). -/
def fltRise (src arg : Nat) (s : State) : State :=
  if s.flt.live.contains src then s
  else fltRaise src arg { s with flt := { s.flt with live := setAdd src s.flt.live } }

/-- A condition source falls. -/
def fltFall (src : Nat) (s : State) : State := { s with flt := { s.flt with live := setDel src s.flt.live } }

/-- A condition as it stands. -/
def fltCond (src : Nat) (on : Bool) (s : State) : State := if on then fltRise src 0 s else fltFall src s

/-- A Tally trigger of a block, with the reaction of source 0xE1 if the FIFO overflows (R386, R390). -/
def tlyTrigger (code arg : Nat) (s : State) : State :=
  let t := tlyPut code 7 arg s
  match t.2 with
  | none => t.1
  | some l => fltReact 0xE1 l t.1

/-! ### Violations and stale generations (R286 to R288) -/

/-- What R288 does with one more rejection of a kind: whether a record is due and the count it carries. -/
def suppressNext (sec : Nat) (p : Suppress) : Suppress × Option Nat :=
  if p.second = some sec then ({ p with count := p.count + 1 }, none)
  else ({ second := some sec, count := 0 }, some p.count)

/-- Count a host protocol violation of a head and record the first of its kind in the second (R286, R288). -/
def violate (h : Head) (kind : Nat) (s : State) : State :=
  let x := s.heads.get h
  let x := if kind ≤ 3 then { x with violMem := satAdd 16 x.violMem 1 }
    else if kind ≤ 5 then { x with violReg := satAdd 8 x.violReg 1 }
    else { x with violMbox := satAdd 8 x.violMbox 1 }
  let r := suppressNext s.aonS (tblGet {} x.suppress kind)
  let s := { s with heads := s.heads.set h { x with suppress := tblPut {} kind r.1 x.suppress } }
  match r.2 with
  | none => s
  | some n => chapenEvent .warning 0x06 kind h.code 0 0 0 n (tlyTrigger 0x107 0 s)

/-- Count a ROLE_STALE rejection of a head and record the first in the second (R266, R288). -/
def staleReject (h : Head) (object : Nat) (s : State) : State :=
  let x := s.heads.get h
  let r := suppressNext s.aonS (tblGet {} x.suppress 0)
  let x := { x with stale := satAdd 16 x.stale 1, staleLast := object % 65536, suppress := tblPut {} 0 r.1 x.suppress }
  let s := { s with heads := s.heads.set h x }
  match r.2 with
  | none => s
  | some n => chapenEvent .info 0x05 0 h.code object 0 0 n (tlyTrigger 0x106 0 s)

/-- A register write that is ignored and counted, from any port (R527, R532). -/
def regViolate (p : Port) (kind : Nat) (s : State) : State :=
  match p with
  | .headA => violate .a kind s
  | .headB => violate .b kind s
  | .rake => { s with svc := { s.svc with denied := satAdd 8 s.svc.denied 1 } }

end Sys2Proof.Machine
end

