-- ==== Sys2Proof/Machine/Column.lean ====
section
/-!
DEFINITION. Brine Pond's channels: where a line lies (R293 to R295), the open rows of its banks (R304 to R306), and the urgency and the order of
requests (R306 to R310).
-/
namespace Sys2Proof.Machine

/-! ### Address mapping (R293 to R295) -/

/-- Parity of the 40 bits of a value. -/
def parity (n : Nat) : Bool := (List.range 40).foldl (fun p k => p != n.testBit k) false

/-- Where a byte of DRAM lies. -/
structure DramSite where
  channel : Nat
  sub : Nat
  rank : Nat
  cid : Nat
  bg : Nat
  ba : Nat
  col : Nat
  row : Nat
  deriving DecidableEq, Repr

/-- HASH_i. -/
def DramParams.hash (p : DramParams) (i : Nat) : Nat := if i = 0 then p.hash0 else if i = 1 then p.hash1 else p.hash2

/-- R293: the channel, and the channel-local address. -/
def DramParams.local_ (p : DramParams) (dpa : Nat) : Nat × Nat :=
  let g := 8 + p.grainLog
  let w := Nat.log2 p.ways
  let size := max 1 (p.ways * p.chanGib * 2 ^ 30)
  let a := dpa % size
  let h := (List.range w).foldl (fun n i => if parity (a &&& p.hash i) then n + 2 ^ i else n) 0
  (dpa / size * p.ways + (bits a g w ^^^ h), a / 2 ^ (g + w) * 2 ^ g + a % 2 ^ g)

/-- R295: the fields of a channel-local address, bank group and bank hashed with the low row bits. -/
def DramParams.site (p : DramParams) (dpa : Nat) : DramSite :=
  let l := p.local_ dpa
  let ca := l.2
  let rb := Nat.log2 p.ranks
  let cb := Nat.log2 p.stack
  let row := ca / 2 ^ (19 + rb + cb)
  { channel := l.1, sub := bits ca 6 1, rank := bits ca 19 rb, cid := bits ca (19 + rb) cb
    bg := bits ca 14 3 ^^^ bits row 0 3, ba := bits ca 17 2 ^^^ bits row 3 2, col := bits ca 7 7, row := row }

/-- Where an address lies; channel 0 without a layout. -/
def State.site (s : State) (dpa : Nat) : DramSite :=
  match s.lay.inForce with
  | none => ⟨0, 0, 0, 0, 0, 0, 0, 0⟩
  | some l => l.dram.site dpa

/-! ### Channels -/

def State.dchan (s : State) (c : Nat) : DmcChan := tblGet {} s.dmc.chans c

def dchanUpd (c : Nat) (f : DmcChan → DmcChan) (s : State) : State :=
  { s with dmc := { s.dmc with chans := tblUpd {} c f s.dmc.chans } }

/-- Populated channels (R292). -/
def State.dchans (s : State) : Nat := match s.lay.inForce with | none => 0 | some l => l.dram.channels

/-- A channel is populated and serves. -/
def State.dchanOn (s : State) (c : Nat) : Bool := c < s.dchans && !(s.dchan c).failed && s.dmc.powered

/-- A request for a channel ends its idle self-refresh (R317, R318). -/
def wakeChan (c : Nat) (s : State) : State :=
  if (s.dchan c).idleRefresh then dchanUpd c (fun x => { x with idleRefresh := false, selfRefresh := false }) s else s

/-! ### Requesters (R304 to R307) -/

/-- Urgency floor of a requester (R116, R306, R310); Harvest is alone in a save (R313). -/
def qosFloor (s : State) : Nat → Nat
  | 2 => s.drn.urgency | 4 => 1 | 5 => 3 | _ => 0

/-- Latency target of a requester in ns; 0 for Harvest, which has none. -/
def qosTarget (s : State) (n : Nat) : Nat :=
  if n = 3 then 0 else match s.lay.inForce with | none => 0 | some l => (l.dram.qos[n]?).getD 0

/-- Page-policy hints (R304). -/
inductive PageHint where
  | opened | closed | burst
  deriving DecidableEq, Repr

/-- The hint of a request (R305, R306): a head's by the attribute of the pan it addresses, the layout's head hint for DEFAULT. -/
def State.pageHint (s : State) (rq line : Nat) : PageHint :=
  if rq ≤ 1 then
    let closed := s.lay.inForce.any fun l => l.dram.headClosed
    match tblGet 0 s.dmc.panAttr (line * lineBytes / 2 ^ 30) with
    | 1 => .opened
    | 2 => .closed
    | _ => if closed then .closed else .opened
  else if 6 ≤ rq then .closed else .burst

/-- Urgency level of an age against a target (R307). -/
def ageLevel (target age : Nat) : Nat :=
  if target = 0 then 0 else if target ≤ age then 3 else if 3 * target ≤ 4 * age then 2 else if target ≤ 2 * age then 1 else 0

/-- Age of a request at `ns` nanoseconds into the present microsecond. -/
def State.age (s : State) (ns us : Nat) : Nat := (s.dev.aonUs - us) * 1000 + ns

/-- L3_COUNT (R321): requests served that have reached level 3 by age. -/
def countL3 (rq us ns n : Nat) (s : State) : State :=
  if ageLevel (qosTarget s rq) (s.age ns us) = 3 then
    { s with dmc := { s.dmc with l3Count := tblUpd 0 rq (fun k => satAdd 12 k n) s.dmc.l3Count } }
  else s

/-- Effective urgency (R306, R307, R310): the greater of level and floor; scrub never above 1. A ledger cache fill while host writes' commits
are stalled takes the level of the oldest one's head (R91). -/
def State.effective (s : State) (ns : Nat) (q : ColReq) : Nat :=
  let own := max (ageLevel (qosTarget s q.rq) (s.age ns q.us)) (qosFloor s q.rq)
  if q.rq = 7 then min 1 own
  else if q.rq = 6 && q.fill && 256 ≤ s.fills then
    match s.dmc.posted.head? with
    | none => own
    | some p => ageLevel (qosTarget s p.head.code) (s.age ns p.us)
  else own

/-! ### Open rows (R304) -/

/-- A bank of a channel. -/
def DramSite.bank (x : DramSite) : Nat := ((x.sub * 4 + x.rank) * 8 + x.cid) * 32 + x.bg * 4 + x.ba

def State.bankOf (s : State) (line : Nat) : Nat := (s.site (line * lineBytes)).bank
def State.rowOf (s : State) (line : Nat) : Nat := (s.site (line * lineBytes)).row

/-- Two lines lie in one row. -/
def State.sameRow (s : State) (a b : Nat) : Bool :=
  (s.site (a * lineBytes)).channel == (s.site (b * lineBytes)).channel && s.bankOf a == s.bankOf b && s.rowOf a == s.rowOf b

/-- The open row of a bank: one without a hit for 1 µs has closed. -/
def State.openRowOf (s : State) (c bank : Nat) : Option Nat :=
  match tblGet none (s.dchan c).openRows bank with
  | none => none
  | some r => if s.dev.aonUs ≤ r.2 + 1 then some r.1 else none

/-- Reads that wait: the granules the Evaporator or Harvest reads, and ledger cache fills, oldest first. -/
def State.waitingReads (s : State) : List ColReq :=
  (s.drn.path.filter fun i => i.step = .reading).flatMap (fun i => (granuleLines i.granule).map fun l => ⟨l, if s.saving then 3 else 2, i.us, false⟩) ++
  (s.map.cache.filter fun e => e.filling).map fun e => ⟨(s.popGib * 2 ^ 30 * 255 / 256 + s.popGib * 2 ^ 30 / 512) / 64 + e.region, 6, e.us, true⟩

/-- Another request waits for the row of a line; the lines of its own granule, read with it, do not count. -/
def State.rowWanted (s : State) (line : Nat) : Bool :=
  ((s.dchan (s.site (line * lineBytes)).channel).writeQ.any fun q => q.line != line && s.sameRow q.line line) ||
    s.waitingReads.any fun q => q.line / 64 != line / 64 && s.sameRow q.line line

/-- A column command opens its row and keeps it or carries auto-precharge: a queued hit always keeps it, else the hint decides, BURST's last request
closing it (R304). -/
def touchRow (rq line : Nat) (s : State) : State :=
  let x := s.site (line * lineBytes)
  let keep := s.pageHint rq line = .opened || s.rowWanted line
  dchanUpd x.channel (fun c => { c with openRows := tblPut none x.bank (if keep then some (x.row, s.dev.aonUs) else none) c.openRows }) s

/-! ### The scheduler (R308, R309) -/

/-- Order of requesters: 5, heads, 2, 4, 6, 7, the heads in turn; Harvest is alone. -/
def rqOrder (lastB : Bool) : Nat → Nat
  | 5 => 0 | 3 => 0 | 0 => if lastB then 1 else 2 | 1 => if lastB then 2 else 1 | 2 => 3 | 4 => 4 | 6 => 5 | _ => 6

/-- A request goes before another (R308): urgency, row hit, requester, age. -/
def State.goesBefore (s : State) (c ns : Nat) (a b : ColReq) : Bool :=
  let hit := fun (q : ColReq) => s.openRowOf c (s.bankOf q.line) == some (s.rowOf q.line)
  let la := s.effective ns a
  let lb := s.effective ns b
  let oa := rqOrder (s.dchan c).lastB a.rq
  let ob := rqOrder (s.dchan c).lastB b.rq
  lb < la || (la = lb && ((hit a && !hit b) || (hit a == hit b && (oa < ob || (oa = ob && a.us < b.us)))))

/-- The first of a list in that order; of equals the first listed. -/
def State.firstOf (s : State) (c ns : Nat) : List ColReq → Option ColReq
  | [] => none
  | a :: t => match s.firstOf c ns t with
    | none => some a
    | some b => if s.goesBefore c ns b a then some b else some a

/-- The requests a slot may go to (R309): the Evaporator's at floor 3 where it has had none of three slots, else level-3 head requests before
the Evaporator's. -/
def State.slotReady (s : State) (c ns : Nat) (l : List ColReq) : List ColReq :=
  let evap := l.filter fun q => q.rq = 2
  if s.drn.urgency = 3 && evap ≠ [] then
    if 3 ≤ (s.dchan c).skipped then evap
    else if l.any fun q => q.rq ≤ 1 && s.effective ns q = 3 then l.filter fun q => q.rq ≠ 2 else l
  else l

/-- A level-3 request that waits on a conflicting row of the bank a row hit goes to. -/
def State.overtaken (s : State) (ns : Nat) (q : ColReq) (l : List ColReq) : Option ColReq :=
  l.find? fun w => s.effective ns w = 3 && s.bankOf w.line == s.bankOf q.line && s.rowOf w.line != s.rowOf q.line

/-- The next column command of a channel (R308, R309): the first in order, but no fifth row hit in a row goes before a level-3 request that
waits on a conflicting row of the same bank. -/
def State.nextColumn (s : State) (c ns : Nat) (l : List ColReq) : Option ColReq :=
  let l := s.slotReady c ns l
  match s.firstOf c ns l with
  | none => none
  | some q =>
    if s.openRowOf c (s.bankOf q.line) == some (s.rowOf q.line) && 4 ≤ (s.dchan c).hits then some ((s.overtaken ns q l).getD q) else some q

/-- A column command is issued on a channel, `l` being what else is ready: its row, the counts of R308 and R309, and the head it served. -/
def issueColumn (c ns : Nat) (q : ColReq) (l : List ColReq) (s : State) : State :=
  let hit := s.openRowOf c (s.bankOf q.line) == some (s.rowOf q.line)
  let passing := hit && (s.overtaken ns q l).isSome
  touchRow q.rq q.line (dchanUpd c (fun x => { x with
    hits := if passing then x.hits + 1 else 0
    skipped := if q.rq = 2 then 0 else if l.any fun w => w.rq = 2 then x.skipped + 1 else x.skipped
    lastB := if q.rq ≤ 1 then q.rq = 1 else x.lastB }) s)

end Sys2Proof.Machine
end

