-- ==== Sys2Proof/Machine/DramOps.lean ====
section
/-!
DEFINITION. Brine Pond as operations: what a read returns (R296 to R300, R319), how a write is
committed (R84, R133, R301), the posted-write limit (R303), and the bytes of a tick.
-/
namespace Sys2Proof.Machine

/-! ### Reads (R296 to R300) -/

/-- A granule's restore bit is set (R173). -/
def State.restoredBit (s : State) (g : Nat) : Bool := s.fld.restored.base != s.fld.restored.exc.contains g

/-- The registers of the last error (R321). -/
def errSite (x : DramSite) (device : Nat) (ue : Bool) (c : DmcChan) : DmcChan :=
  { c with errSub := x.sub, errRank := x.rank, errCid := x.cid, errBg := x.bg, errBa := x.ba, errCol := x.col
           errDevice := device % 16, errUe := ue, errRow := x.row }

/-- A corrected read (R300): counted, reported, its write-back scheduled. -/
def readCorrected (line device : Nat) (s : State) : State :=
  let x := s.site (line * lineBytes)
  let s := dchanUpd x.channel (fun c => errSite x device false { c with ce := satAdd 32 c.ce 1 }) s
  fltRaise 0x40 x.channel { s with dmc := { s.dmc with writeBacks := setAdd line s.dmc.writeBacks } }

/-- An uncorrectable read (R299): counted and reported. -/
def readUncorrected (line device : Nat) (s : State) : State :=
  let x := s.site (line * lineBytes)
  fltRaise 0x41 x.channel (dchanUpd x.channel (fun c => errSite x device true { c with ue := satAdd 16 c.ue 1 }) s)

/-- A DRAM read that ends corrected (R300), or uncorrectable (R299). -/
def fixedRead : DramRead → Bool
  | .corrected _ => true
  | _ => false
def badRead : DramRead → Bool
  | .uncorrected _ => true
  | _ => false

/-- A requester's read of a host-visible line: the state after it, and whether it answers poison (R297, R299, R300, R319). -/
def readLine (rq line : Nat) (r : DramRead) (s : State) : State × Bool :=
  let c := (s.site (line * lineBytes)).channel
  let s := dchanUpd c (fun x => { x with tickRd := x.tickRd + 64 }) (touchRow rq line (wakeChan c s))
  if (s.dchan c).failed then (s, true)
  else if s.poison.contains line then (dchanUpd c (fun x => { x with poisonReads := satAdd 16 x.poisonReads 1 }) s, true)
  else
    match r with
    | .clean => (s, false)
    | .bitmap _ => (s, false)
    | .corrected d => (readCorrected line d s, false)
    | .uncorrected d => (readUncorrected line d { s with poison := setAdd line s.poison }, true)

/-! ### Lines and granules into the write queues (R173, R301) -/

/-- A requester's line enters its channel's write queue of 256 lines; a corrected write-back due on it is skipped (R300, R301).
[log 42: DEDUCED] -/
def queueLine (rq line : Nat) (s : State) : State :=
  let c := (s.site (line * lineBytes)).channel
  let s := { s with dmc := { s.dmc with writeBacks := setDel line s.dmc.writeBacks } }
  dchanUpd c (fun x =>
    let q := x.writeQ.filter fun w => w.line != line
    { x with writeQ := (q ++ [({ line := line, rq := rq, us := s.dev.aonUs } : ColReq)]).drop (q.length - 255), tickWr := x.tickWr + 64 }) (wakeChan c s)

/-- Change the bytes of the running tick. -/
def tickUpd (f : TickBytes → TickBytes) (s : State) : State := { s with drn := { s.drn with tick := f s.drn.tick } }

/-- A granule's 64 lines, restored content, zeros or poison, are committed to the write queues (R173, R193), for a demand fetch or the background
restore (R306). -/
def queueGranule (g : Nat) (s : State) : State :=
  let rq := if s.fld.fetches.any fun f => f.granule == g then 5 else 4
  (granuleLines g).foldl (fun s l => if (s.dchan (s.site (l * lineBytes)).channel).failed then s else queueLine rq l s)
    (tickUpd (fun t => { t with restDram := t.restDram + 4096 }) s)

/-! ### Lost granules (R39, R184 to R187) -/

def State.pan (s : State) (p : Nat) : Pan := tblGet {} s.pans p

/-- The heads a lost granule's poison is listed for (R39): those the pan's state names, both for UNASSIGNED. -/
def PanState.poisonHeads (p : PanState) (h : Head) : Bool :=
  match p with
  | .headA => h = .a
  | .headB => h = .b
  | _ => true

/-- The lost granules of a head's poison list (R39, R187): by the pan table as it stands. -/
def State.poisonList (s : State) (h : Head) : List Nat :=
  s.fld.lost.filter fun g => (s.pan (g / 262144)).state.poisonHeads h

/-- Adjacent granules merge into one range: first granule and count. [log 72: DEDUCED] -/
def rangesOf : List Nat → List (Nat × Nat)
  | [] => []
  | g :: t =>
    match rangesOf t with
    | [] => [(g, 1)]
    | (h, n) :: r => if g + 1 = h then (g, n + 1) :: r else (g, 1) :: (h, n) :: r

/-- The ranges of a head's lost granules, lowest address first. -/
def State.poisonRanges (s : State) (h : Head) : List (Nat × Nat) := rangesOf (s.poisonList h)

/-- A list holds 4,096 records (R187, R282): beyond them the head's overflow is stamped with the time it began, and clears when every
range is listed again. -/
def stampOverflow (s : State) : State :=
  let f := fun (h : Head) (x : HeadSt) =>
    if 4096 < (s.poisonRanges h).length then
      { x with poisonOverflow := some (x.poisonOverflow.getD (s.stamp h)) }
    else { x with poisonOverflow := none }
  { s with heads := ⟨f .a s.heads.a, f .b s.heads.b⟩ }

/-- A granule is set lost (R184, R185): the poison encoding on all its lines, its lost bit, its heads' poison lists. -/
def setLost (g : Nat) (s0 : State) : State :=
  let s := queueGranule g (s0.poisonGranule g true)
  stampOverflow { s with fld := { s.fld with lost := setAdd g s.fld.lost } }

/-- A granule is lost no longer (R186). -/
def clearLost (g : Nat) (s : State) : State :=
  stampOverflow { s with fld := { s.fld with lost := setDel g s.fld.lost, tracker := s.fld.tracker.filter fun e => e.1 != g } }

/-- Which lines of a granule hold the poison encoding, read from them (R187). A line's own read is taken as clean. [log 72: DEDUCED] -/
def readTracker (rq g : Nat) (s : State) : State × List Nat :=
  (granuleLines g).foldl (fun (t : State × List Nat) l =>
    let u := readLine rq l .clean t.1
    (u.1, if u.2 then t.2 ++ [l] else t.2)) (s, [])

/-- A write to a lost granule that has no tracker entry builds one from the granule's lines before it completes; the entry written least
recently goes when 4,096 stand (R187). -/
def trackLost (rq g : Nat) (s : State) : State :=
  if !s.fld.lost.contains g || s.fld.tracker.any fun e => e.1 == g then s
  else
    let t := readTracker rq g s
    { t.1 with fld := { t.1.fld with tracker := ((g, t.2) :: t.1.fld.tracker).take 4096 } }

/-- A write has been committed to a line: a lost granule's tracker entry follows it, and the granule is lost no longer once no line holds the
poison encoding (R186, R187). -/
def lostCheck (line : Nat) (s : State) : State :=
  let g := line / 64
  match s.fld.tracker.find? fun e => e.1 == g with
  | none => s
  | some e =>
    let left := if s.poison.contains line then setAdd line e.2 else e.2.filter (· != line)
    if left = [] then clearLost g s
    else { s with fld := { s.fld with tracker := (g, left) :: s.fld.tracker.filter fun x => x.1 != g } }

/-! ### Write commit (R84, R133, R301, R319) -/

/-- A line's poison after a write (R297, R301, R320): a poisoned write and a partial one whose merge read fails write the poison
encoding, a whole line replaces it, a merge with a poisoned line keeps it. -/
def poisonAfter (line : Nat) (whole poison mergeBad : Bool) (p : NSet) : NSet :=
  if poison || (mergeBad && !whole) then setAdd line p else if whole then setDel line p else p

/-- A host write enters its write queue and is committed, and its granule is marked (R84, R301). On a failed channel it is
discarded (R319); the granule is marked all the same. [log 42: DEDUCED] -/
def commitPosted (p : Posted) (s0 : State) : State :=
  let line := p.dpa / lineBytes
  let rq := if s0.saving then 3 else p.head.code
  let s := trackLost rq (p.dpa / granuleBytes) s0
  let s :=
    if (s.dchan (s.site p.dpa).channel).failed then s
    else
      let s := queueLine rq line (s.putBytes p.dpa p.data)
      { s with poison := poisonAfter line (p.data.length = 64) p.poison p.mergeBad s.poison }
  lostCheck line (mapOp (.mark (p.dpa / granuleBytes)) s)

/-- The MARK of a posted write would need a fill and cannot have one: its commit is stalled (R91). -/
def State.stallsCommit (s : State) (p : Posted) : Bool := s.opStalls (.mark (p.dpa / granuleBytes))

/-- FILL_STALL (R91, R101): 256 fills are outstanding and a MARK waits for one. -/
def State.fillStall (s : State) : Bool :=
  256 ≤ s.fills && (s.map.stalled.any (·.isMark) || s.dmc.posted.any s.stallsCommit)

/-- A posted write is the head's; without a head, any is. -/
def postedBy (only : Option Head) (p : Posted) : Bool :=
  match only with
  | none => true
  | some h => p.head = h

/-- Every posted write, or one head's, oldest first (R133), up to the first whose commit is stalled. -/
def commitAllPosted (only : Option Head) (s : State) : State :=
  let out := s.dmc.posted.filter (postedBy only)
  let t := out.foldl (fun (t : State × List Posted) p =>
    if t.2 ≠ [] || t.1.stallsCommit p then (t.1, t.2 ++ [p]) else (commitPosted p t.1, t.2)) (s, [])
  { t.1 with dmc := { t.1.dmc with posted := t.2 ++ s.dmc.posted.filter fun p => !postedBy only p } }

/-- Posted writes committed whole: the fills their MARKs wait for return (R20, R133). -/
def commitRounds (only : Option Head) : Nat → State → State
  | 0, s => s
  | n + 1, s =>
    let s := commitAllPosted only s
    if s.dmc.posted.any (postedBy only) then commitRounds only n (fillAll s) else s

def commitPostedNow (only : Option Head) (s : State) : State := commitRounds only (s.dmc.posted.length + 1) s

/-- Occupancy of the posted-write buffers in KiB (R132, R303): a line each. -/
def State.postedKib (s : State) : Nat := ceilDiv (s.dmc.posted.length * 64) 1024

/-- The combined limit of a shadow set, and the value credits resume below, KiB (R303). -/
def postedLimit : Nat → Nat
  | 0 => 5120 | 1 => 3584 | 2 => 2048 | _ => 768
def postedResume : Nat → Nat
  | 0 => 4608 | 1 => 3226 | 2 => 1843 | _ => 691

/-- One write more fits a head's posted-write buffer of 4 MiB and the combined limit in force (R132, R303). -/
def State.postedRoom (s : State) (h : Head) : Bool :=
  s.dmc.posted.length < 16 * s.dmc.postedLimitKib && (s.dmc.posted.filter fun p => p.head = h).length < 65536

/-- Credits are withheld from the limit until occupancy is below the resume value (R132, R303). -/
def postedSync (s : State) : State :=
  let n := s.postedKib
  { s with dmc := { s.dmc with
      postedHeld := s.dmc.postedLimitKib ≤ n || (s.dmc.postedHeld && postedResume s.dmc.current ≤ n) } }

/-- DMC_CH_BW of a tick: bytes over the last 1 ms (R321). -/
def dmcTick (s : State) : State :=
  { s with dmc := { s.dmc with chans := s.dmc.chans.map fun e =>
      let c := e.2
      let h := ((c.tickRd, c.tickWr) :: c.hist).take 4
      (e.1, { c with
        tickRd := 0, tickWr := 0, hist := h
        bwRead := min 65535 (h.foldl (fun n t => n + t.1) 0 / 100000)
        bwWrite := min 65535 (h.foldl (fun n t => n + t.2) 0 / 100000) }) } }

/-- A shadow set may run: enabled and trained (R314, R315). -/
def State.setReady (s : State) (n : Nat) : Bool :=
  (match s.lay.inForce with | none => false | some l => l.dram.sets.contains n) && s.dmc.trained.contains n

/-- A change of shadow set (R303, R316), whole: every serving channel runs the target set. [log 43: DEDUCED] -/
def changeSet (n : Nat) (s : State) : State :=
  if s.dmc.current = n then { s with dmc := { s.dmc with target := n } }
  else
    let s : State := { s with trn := { s.trn with chans := s.trn.chans.map fun e => (e.1, { e.2 with adjusted := [] }) } }
    postedSync { s with dmc := { s.dmc with
      current := n, target := n, changes := satAdd 16 s.dmc.changes 1, postedLimitKib := postedLimit n
      chans := (List.range s.dchans).foldl (fun t c => tblUpd {} c (fun x => { x with set := n, openRows := [] }) t) s.dmc.chans } }

/-- A request for a set (R315, R336): latched while a training session runs, a later one replacing an earlier; refused and counted
where the set is not enabled or has no valid results; none in a save (R134). The flag says whether it was refused. -/
def requestSet (n : Nat) (s : State) : State × Bool :=
  if s.saving then (s, false)
  else if s.trn.activity ≠ 0 then ({ s with dmc := { s.dmc with pending := some n } }, false)
  else if !s.setReady n then ({ s with dmc := { s.dmc with refused := s.dmc.refused + 1 } }, true)
  else (changeSet n s, false)

end Sys2Proof.Machine
end

