-- ==== Sys2Proof/Machine/Media.lean ====
section
/-!
DEFINITION. What Crystal Beds and Panhouse write on the media, byte for byte: GEOMETRY_ID (R212), page descriptors (R200), granule record
headers with their integrity tags (R201, R237, R238), map segments (R207) and the sections of a checkpoint (R145).
-/
namespace Sys2Proof.Machine

/-! ### GEOMETRY_ID (R212) -/

/-- Numbers as 4-byte fields. -/
def words4 (l : List Nat) : List Nat := l.flatMap fun n => leBytes 4 n

/-- A list with its length ahead of it. -/
def counted (l : List Nat) : List Nat := l.length :: l

/-- GEOMETRY_ID (R212): population, die profile and host-visible GiB, each field four bytes, in the order of R195 and R197.
[log 32: DESIGN CHOICE] -/
def Layout.geometryId (l : Layout) : Nat :=
  let n := l.nand
  crc32 (words4 ([n.dies, n.luns, n.ident, n.planes, n.planePage, n.spare, n.pages, n.blocks, n.minGood] ++ counted n.pslcEntry ++
    [n.tReadTyp, n.tReadMax, n.tProgTyp, n.tProgMax, n.tEraseTyp, n.tEraseMax, n.tSuspendMax, n.tSoftMax] ++ counted n.softCmd ++
    counted (n.retry.flatMap fun r => counted (r.flatMap fun w => [w.1, w.2])) ++
    [n.pslcPe, n.iterWarn, n.retryWarn, n.relocate, n.maxRate, l.dram.channels * l.dram.chanGib * 255 / 256]))

/-- The GEOMETRY_ID in force. -/
def State.geometry (s : State) : Nat := match s.lay.inForce with | none => 0 | some l => l.geometryId

/-! ### Page descriptors (R200) -/

/-- A byte string closed by its CRC-32. -/
def crcClosed (l : List Nat) : List Nat := l ++ leBytes 4 (crc32 l)

def PageKind.code : PageKind → Nat
  | .data => 1 | .mapSegment => 2 | .checkpoint => 3 | .parity => 4 | .blockTable => 5 | .update => 6

/-- The first 64 bytes of slot 0 (R200). -/
def StorePage.descriptor (p : StorePage) : List Nat :=
  crcClosed (leBytes 2 p.kind.code ++ leBytes 2 1 ++ leBytes 4 p.geometry ++ leBytes 8 p.rowSeq ++ leBytes 8 p.tag ++ leBytes 2 p.stripe ++
    [p.lane, p.parityCh] ++ leBytes 4 p.rowMask ++ leBytes 4 p.eraseCount ++ [p.contSlots, p.firstSlot] ++
    leBytes 2 (b2n p.padding + 2 * b2n p.unprotected + 4 * b2n p.lastStripe) ++ leBytes 4 p.stripeMask ++ List.replicate 16 0)

/-! ### Records (R201, R234, R237, R238) -/

/-- A granule's 4,096 bytes. -/
def plainOf (b : GranuleBytes) : List Nat := (List.range 4096).map fun k => (tblGet 0 b k).toNat

/-- A record's payload (R234): the compressor's stream padded with zeros, or the granule itself. -/
def GranRec.payload (x : GranRec) : List Nat :=
  if x.raw then plainOf x.body else padTo (64 * x.length) (Config.compressed x.fast (plainOf x.body))

/-- Its ciphertext (R237): one XTS data unit, the tweak the granule's DPA. -/
def GranRec.cipher (kx : BitVec 512) (x : GranRec) : List Nat := xtsEncrypt kx (leBytes 16 (x.granule * 4096)) x.payload

/-- Header bytes 0x00 to 0x0F (R201). -/
def GranRec.head (x : GranRec) : List Nat :=
  leBytes 4 x.granule ++ [x.length, b2n x.raw + 2 * b2n x.fast] ++ leBytes 2 1 ++ leBytes 8 x.tag

/-- The IV of a record's location (R238). -/
def recIv (rowSeq channel slot page : Nat) : List Nat := leBytes 6 rowSeq ++ [channel, slot] ++ leBytes 2 page ++ [0, 0]

/-- The integrity tag of a record on a page (R238). -/
def StorePage.recTag (kx : BitVec 512) (km : BitVec 256) (p : StorePage) (x : GranRec) : BitVec 128 :=
  gmac km (recIv p.rowSeq p.channel x.slot p.stripe) (x.head ++ x.cipher kx)

/-- A record's header (R201). -/
def GranRec.header (x : GranRec) : List Nat := crcClosed (x.head ++ beBytes 16 x.itag.toNat ++ List.replicate 28 0)

/-- Under the keys in Panhouse a record's tag verifies, its GRANULE, LENGTH and RAW are those asked for (R240). -/
def State.recChecks (s : State) (p : StorePage) (x : GranRec) (g : Nat) (e : HmEntry) : Bool :=
  x.granule == g && x.length == e.length && x.raw == e.raw && s.pip.keyLoaded && x.itag == p.recTag s.pip.kx s.pip.km x

/-! ### Harvest Map lines (R145, R207) -/

/-- An entry of a map segment or a map delta: the line's number, then the line. -/
def MapLine.bytes (m : MapLine) : List Nat := leBytes 4 m.line ++ (List.range 8).flatMap fun k => leBytes 8 ((m.entries[k]?).getD {}).word

/-- What a map segment page holds from slot 1 on (R207). -/
def segmentBytes (ls : List MapLine) : List Nat :=
  let es := ls.flatMap fun m => m.bytes
  leBytes 4 ls.length ++ leBytes 4 (crc32 es) ++ es

/-- An RST entry as its 32-bit word (R94). -/
def RstEntry.word (e : RstEntry) : Nat :=
  pack [(0, 10, e.dirty), (10, 8, e.epoch), (18, 1, b2n e.restored), (19, 1, b2n e.hot), (20, 1, b2n e.lost), (21, 1, b2n e.zero)]

/-- The sections of a checkpoint (R145). -/
def deltaBytes (ls : List MapLine) : List Nat := ls.flatMap fun m => m.bytes
def State.rstBytes (s : State) : List Nat := (List.range s.regions).flatMap fun r => leBytes 4 (s.rstOf r).word
def residualBytes (l : List (Nat × Nat)) : List Nat := l.flatMap fun e => leBytes 4 e.1 ++ leBytes 64 e.2

end Sys2Proof.Machine
end

