-- ==== Sys2Proof/Machine/Store.lean ====
section
/-!
DEFINITION. Crystal Beds' store as operations: blocks, rows, pages and records in fill order (R199 to R206), write staging (R229).
-/
namespace Sys2Proof.Machine

/-- NAND values of a device without a layout: nothing populated. [log 6: DESIGN CHOICE] -/
def NandParams.none : NandParams :=
  { dies := 0, planes := 0, planePage := 0, spare := 0, pages := 0, blocks := 0, minGood := 0, luns := 1, mode := 0, rate := 0
    maxRate := 0, pslcEntry := [], tReadTyp := 0, tReadMax := 0, tProgTyp := 0, tProgMax := 0, tEraseTyp := 0, tEraseMax := 0, tSuspendMax := 0, tSoftMax := 0, pslcPe := 0, iterWarn := 0, retryWarn := 0
    relocate := 0, softCmd := [], retry := [], ident := 0, rakeBg := 4, spareMinGib := 0, updateBlocks := 0 }

def State.nand (s : State) : NandParams := match s.lay.inForce with | none => NandParams.none | some l => l.nand

/-- User bytes of a store page and its record slots (R197, R200, R214). -/
def State.storePage (s : State) : Nat := s.nand.planes * s.nand.planePage
def State.slots (s : State) : Nat := s.storePage / 256 - 1

/-- Key of a store block. -/
def blkKey (ch die blk : Nat) : Nat := (ch * 16 + die) * 32768 + blk

def State.blk (s : State) (ch die blk : Nat) : Blk := tblGet {} s.bed.blocks (blkKey ch die blk)

def blkUpd (ch die blk : Nat) (f : Blk → Blk) (s : State) : State :=
  { s with bed := { s.bed with blocks := tblUpd {} (blkKey ch die blk) f s.bed.blocks } }

def State.chan (s : State) (c : Nat) : BedChan := tblGet {} s.bed.chans c

def chanUpd (c : Nat) (f : BedChan → BedChan) (s : State) : State :=
  { s with bed := { s.bed with chans := tblUpd {} c f s.bed.chans } }

/-- A block is retired (R225): 1 an erase failed, 2 PSLC_PE, 3 a program failed, 4 marked bad at the factory. [log 32: DESIGN CHOICE] -/
def retireBlock (ch die blk cause : Nat) (s : State) : State :=
  let n := (s.blk ch die blk).erases
  let s := blkUpd ch die blk (fun b => { b with state := .retired, erasing := false, failed := false }) s
  let s := chanUpd ch (fun c => { c with blocksRetired := satAdd 16 c.blocksRetired 1 }) s
  s.journal (.retirement ch die blk cause n)

/-- Active channels, ascending. -/
def State.activeCh (s : State) : List Nat := (s.bed.chans.filter fun e => e.2.active).map fun e => e.1

/-- Active channels whose die of a lane is in service (R226: new rows omit a lost die or channel). -/
def State.laneCh (s : State) (lane : Nat) : List Nat :=
  s.activeCh.filter fun c => (s.chan c).present.contains lane && !(s.chan c).retired.contains lane

/-- Blocks of a die in a state. -/
def State.blocksIn (s : State) (st : BlkState) (ch die : Nat) : List Nat :=
  (s.bed.blocks.filter fun e => e.1 / 32768 == ch * 16 + die && e.2.state = st && !e.2.erasing && !e.2.failed).map fun e => e.1 % 32768

/-- The block a row takes: the erased one of least erase count, lowest number first (R206). [log 25: DESIGN CHOICE] -/
def leastWorn (s : State) (ch die : Nat) : List Nat → Option Nat
  | [] => none
  | b :: t =>
    match leastWorn s ch die t with
    | none => some b
    | some c => if (s.blk ch die c).erases < (s.blk ch die b).erases then some c else some b

/-- Erased rows of a lane (R205). -/
def State.laneRows (s : State) (lane : Nat) : Nat :=
  match s.laneCh lane with
  | [] => 0
  | c :: cs => cs.foldl (fun n c => min n (s.blocksIn .erased c lane).length) (s.blocksIn .erased c lane).length

/-! ### Rows (R199, R206) -/

/-- Data pages of a row. -/
def State.rowPages (s : State) (r : BedRow) : Nat := s.nand.pages * (r.width - 1)

/-- The open row of a class; a data row of a lane. -/
def State.openRow (s : State) (cls : RowClass) (lane : Nat) : Option BedRow :=
  s.bed.rows.find? fun r => r.state = .opened && r.cls = cls && (cls ≠ .data || r.lane == lane)

/-- The lowest BLANK block of a die. -/
def State.blankOn (s : State) (ch die : Nat) : Option Nat := (List.range s.nand.blocks).find? fun b => (s.blk ch die b).state = .blank

/-- Erase one BLANK block of each channel of a lane (R213); nothing where a channel has none. -/
def eraseBlank (lane : Nat) (s : State) : State :=
  let bs := (s.laneCh lane).filterMap fun c => (s.blankOn c lane).map fun b => (c, b)
  if bs.length = (s.laneCh lane).length then
    bs.foldl (fun s p => blkUpd p.1 lane p.2 (fun b => { b with state := .erased, erases := b.erases + 1 }) s)
      { s with bed := { s.bed with sinceTable := s.bed.sinceTable + bs.length } }
  else s

/-- Open a row in a lane (R199, R206): one erased block of each channel of the lane, a BLANK one being erased when it is first taken
outside a save (R138, R213); nothing where the lane has no row. -/
def openIn (cls : RowClass) (lane : Nat) (s0 : State) : State :=
  let s := if s0.laneRows lane = 0 && !s0.saving then eraseBlank lane s0 else s0
  if s.laneRows lane = 0 then s
  else
    let bs := (s.laneCh lane).map fun c => (c, (leastWorn s c lane (s.blocksIn .erased c lane)).getD 0)
    let r : BedRow := { seq := s.bed.nextRowSeq, lane := lane, cls := cls, blocks := bs, state := .opened, cursor := 0
                        parityDone := [], queued := 0 }
    let s := bs.foldl (fun s p => blkUpd p.1 lane p.2 (fun b => { b with state := .inUse }) s) s
    { s with bed := { s.bed with rows := s.bed.rows ++ [r], nextRowSeq := s.bed.nextRowSeq + 1 } }

/-- Every channel of a lane has a BLANK block. -/
def State.laneBlank (s : State) (lane : Nat) : Bool := s.laneCh lane != [] && (s.laneCh lane).all fun c => (s.blankOn c lane).isSome

/-- The lane the next rake or map row opens in (R206): the lanes in rotation, one without an erased row only where none has one.
[log 25: DESIGN CHOICE] -/
def State.freeLane (s : State) : Nat :=
  let l := (List.range s.nand.dies).map fun k => (s.bed.nextLane + k) % s.nand.dies
  match l.find? fun d => s.laneRows d ≠ 0 with
  | some d => d
  | none => (l.find? fun d => s.laneBlank d).getD 0

/-- Open a rake or map row in the next lane of the rotation. -/
def openNext (cls : RowClass) (s : State) : State :=
  let d := s.freeLane
  openIn cls d { s with bed := { s.bed with nextLane := d + 1 } }

/-- The open row of a class, opened if none is (R206). [log 25: DESIGN CHOICE] -/
def rowFor (cls : RowClass) (lane : Nat) (s : State) : State × Option BedRow :=
  match s.openRow cls lane with
  | some r => (s, some r)
  | none =>
    let s := if cls = .data then openIn cls lane s else openNext cls s
    (s, s.openRow cls lane)

/-- Every page of a row on the media. -/
def State.pagesOf (s : State) (seq : Nat) : List StorePage := s.bed.pages.filter fun p => p.rowSeq == seq

/-- Lines a map segment page holds (R207). -/
def State.segmentLines (s : State) : Nat := (256 * s.slots - 8) / 68

/-- Pages of a row its zero map segments take (R212). -/
def State.zeroPages (s : State) (r : BedRow) : Nat :=
  match r.zeros with
  | none => 0
  | some z => ceilDiv z.lines s.segmentLines

/-- Whether a stripe's page stands on the media. -/
def State.onMedia (s : State) (seq stripe ch : Nat) : Bool :=
  (s.bed.pages.any fun p => p.rowSeq == seq && p.stripe == stripe && p.channel == ch) ||
    s.bed.rows.any fun r => r.seq == seq && (List.range (s.zeroPages r)).any fun n =>
      r.pageAt n == (stripe, ch) && !(r.zeros.any fun z => z.lost.contains n)

/-- Where a record stands (R81). -/
def State.locOf (s : State) (r : BedRow) (p : StorePage) (slot : Nat) : HmLoc :=
  { channel := p.channel, ce := r.lane / max 1 s.nand.luns, lun := r.lane % max 1 s.nand.luns, block := r.blockOn p.channel
    page := p.stripe, slot := slot }

/-- The page and record a location names. -/
def State.recIn (s : State) (l : HmLoc) : Option (StorePage × GranRec) :=
  s.bed.pages.findSome? fun p =>
    match s.row p.rowSeq with
    | none => none
    | some r => (p.recs.find? fun x => s.locOf r p x.slot = l).map fun x => (p, x)

/-- The record a location names. -/
def State.recAt (s : State) (l : HmLoc) : Option GranRec := (s.recIn l).map fun t => t.2

/-- Slots a record of LENGTH takes: its header and payload, padded (R201). -/
def recSlots (length : Nat) : Nat := (64 + 64 * length + 255) / 256

/-- The tag pages carry (R200): the SAVE_SEQ the next save will carry. -/
def State.tag (s : State) : Nat := if s.saving then s.hrv.saveSeq else s.hrv.nextSeq

/-- ROW_MASK (R200). -/
def BedRow.mask (r : BedRow) : Nat := r.blocks.foldl (fun n p => n ||| 2 ^ p.1) 0

/-- A page of a row as its descriptor names it (R200). -/
def State.blankPage (s : State) (r : BedRow) (stripe ch : Nat) (kind : PageKind) (use : ByteUse) : StorePage :=
  { rowSeq := r.seq, channel := ch, stripe := stripe, kind := kind, tag := s.tag, recs := [], lines := []
    used := if kind = .data then 1 else s.slots + 1, spills := false, closed := kind ≠ .data, geometry := s.geometry, lane := r.lane
    parityCh := r.parityCh, rowMask := r.mask, eraseCount := (s.blk ch r.lane (r.blockOn ch)).erases, use := use }

/-- Take the next page of a row in fill order (R199). -/
def takePage (r : BedRow) (kind : PageKind) (use : ByteUse) (s : State) : State × StorePage :=
  let pos := r.pageAt r.cursor
  (rowUpd r.seq (fun x => { x with cursor := x.cursor + 1 }) s, s.blankPage r pos.1 pos.2 kind use)

/-- The page a row is filling. -/
def State.filling (s : State) (seq : Nat) : Option StorePage := s.bed.staged.find? fun p => p.rowSeq == seq && !p.closed && p.kind = .data

/-- Close a page that is still being filled; it will be programmed as it stands (R105). -/
def closePage (p : StorePage) (s : State) : State := stagedUpd p (fun q => { q with closed := true }) s

/-! ### Write staging (R229) -/

/-- Staging buffers in use: a page not yet on its die, and the parity accumulator of an open row. A padding page holds no data and takes
none. [log 32: DESIGN CHOICE] -/
def State.buffers (s : State) : Nat :=
  (s.bed.staged.filter fun p => !p.sent && !p.padding).length + (s.bed.rows.filter fun r => r.state = .opened).length

/-- One of the 64 buffers is free. -/
def State.bufferFree (s : State) : Bool := s.buffers < 64

/-- A die is programming a page. -/
def State.dieBusy (s : State) (ch lane : Nat) : Bool := s.bed.staged.any fun p => p.sent && p.channel == ch && p.lane == lane

/-- Closed pages go to their dies as these are free, oldest first; the buffer is free then (R229). [log 32: DESIGN CHOICE] -/
def sendPages (s : State) : State :=
  s.bed.staged.foldl (fun s p =>
    if p.closed && !p.sent && !s.dieBusy p.channel p.lane then stagedUpd p (fun q => { q with sent := true }) s else s) s

/-- A page of a class's open row placed in write staging: the row is opened, or the next one where its last page is taken; none without a
row or a free buffer. -/
def newPage (cls : RowClass) (lane : Nat) (kind : PageKind) (use : ByteUse) (s : State) : Option (State × StorePage) :=
  let s := match s.openRow cls lane with
    | some r => if s.rowPages r ≤ r.cursor then rowUpd r.seq (fun x => { x with state := .full }) s else s
    | none => s
  let o := rowFor cls lane s
  match o.2 with
  | none => none
  | some r =>
    if s.rowPages r ≤ r.cursor || !o.1.bufferFree then none
    else
      let t := takePage r kind use o.1
      some ({ t.1 with bed := { t.1.bed with staged := t.1.bed.staged ++ [t.2] } }, t.2)

/-- Put a record on a page (R201), with the tag its place gives it (R238). One that runs past the page's end goes on in the next page in fill
order; none without a buffer for that page. -/
def putRec (cls : RowClass) (lane : Nat) (p : StorePage) (x : GranRec) (s : State) : Option State :=
  let n := p.used + recSlots x.length
  let x1 := { x with slot := p.used }
  let rec1 := { x1 with itag := p.recTag s.pip.kx s.pip.km x1 }
  let first := if p.firstSlot = 0 then p.used else p.firstSlot
  if n ≤ s.slots + 1 then
    some (stagedUpd p (fun q => { q with recs := q.recs ++ [rec1], firstSlot := first, used := n, closed := n = s.slots + 1 }) s)
  else
    let rest := n - (s.slots + 1)
    let s := stagedUpd p (fun q => { q with recs := q.recs ++ [rec1], firstSlot := first, used := s.slots + 1, closed := true, spills := true }) s
    (newPage cls lane .data p.use s).map fun t => stagedUpd t.2 (fun q => { q with used := 1 + rest, contSlots := rest }) t.1

/-- Stage a record on the open row of a class, a data row of a lane (R206, step D4). At its row's end a page with no room for the record is closed and
the record begins in the next row. None where no row or buffer can take it. -/
def stageIn (cls : RowClass) (lane : Nat) (x : GranRec) (s : State) : Option State :=
  let use := if cls = .rake then ByteUse.rake else .drain
  let fresh := fun (s : State) => (newPage cls lane .data use s).bind fun t => putRec cls lane t.2 x t.1
  match (s.openRow cls lane).bind fun r => (s.filling r.seq).map fun p => (r, p) with
  | none => fresh s
  | some (r, p) =>
    if s.slots + 1 < p.used + recSlots x.length && s.rowPages r ≤ r.cursor then fresh (closePage p s) else putRec cls lane p x s

/-- Stage a drained record in its lane, or in the first other lane that can take it (R206). -/
def stageRec (lane : Nat) (x : GranRec) (s : State) : Option State := (lane :: List.range s.nand.dies).findSome? fun d => stageIn .data d x s

/-- A drained granule's step on the drain path. -/
def pathStep (g : Nat) (d : DrainStep) (s : State) : State :=
  { s with drn := { s.drn with path := s.drn.path.map fun i => if i.granule = g then { i with step := d } else i } }

/-- A record that leaves Panhouse is staged, or waits for a row and a buffer (R229, step D4). -/
def placeRec (lane : Nat) (x : GranRec) (s : State) : State :=
  match if s.bed.stageQ = [] then stageRec lane x s else none with
  | some t => pathStep x.granule .staged t
  | none => pathStep x.granule .waiting { s with bed := { s.bed with stageQ := s.bed.stageQ ++ [(lane, x)] } }

/-- Records that wait are staged in order while they can be. -/
def stageWaiting (s : State) : State :=
  s.bed.stageQ.foldl (fun s i =>
    if s.bed.stageQ.head? = some i then
      match stageRec i.1 i.2 s with
      | some t => pathStep i.2.granule .staged { t with bed := { t.bed with stageQ := t.bed.stageQ.drop 1 } }
      | none => s
    else s) s

/-- A row whose last page is taken and closed is FULL (R205). -/
def fullRows (s : State) : State :=
  { s with bed := { s.bed with rows := s.bed.rows.map fun r =>
      if r.state = .opened && s.rowPages r ≤ r.cursor && (s.filling r.seq).isNone then { r with state := .full } else r } }

/-- A data row is open in every lane that has an erased row (R206). -/
def openRows (s : State) : State :=
  (List.range s.nand.dies).foldl (fun s d =>
    if (s.openRow .data d).isNone && s.laneRows d ≠ 0 && 2 ≤ (s.laneCh d).length && s.bufferFree then openIn .data d s else s) s

end Sys2Proof.Machine
end

