-- ==== Sys2Proof/Machine/Segments.lean ====
section
/-!
DEFINITION. Map segments and which copy of a line counts (R170, R207, R208, R212), live content (R208, R217), programs and their parity (R105,
R202, R203, R225), the block table (R209), and what follows every change of the store (R109, R206, R229).
-/
namespace Sys2Proof.Machine

/-! ### Map segments (R170, R207, R212) -/

/-- One entry of two: whether the first was written before the second (R207), by tag, ROW_SEQ, PAGE and channel. -/
def segBefore (a b : SegLine) : Bool :=
  if a.tag ≠ b.tag then a.tag < b.tag
  else if a.rowSeq ≠ b.rowSeq then a.rowSeq < b.rowSeq
  else if a.page ≠ b.page then a.page < b.page
  else a.channel < b.channel

/-- Map segment pages of the geometry in force (R212). -/
def State.segPages (s : State) : List StorePage := s.bed.pages.filter fun p => p.kind = .mapSegment && p.geometry == s.geometry

/-- A zero map segment's entry of a line (R212). -/
def State.zeroSeg (s : State) (r : BedRow) (n : Nat) : Option SegLine :=
  match r.zeros with
  | none => none
  | some z =>
    let k := (n - z.first) / s.segmentLines
    let pos := r.pageAt k
    if z.geometry = s.geometry && z.first ≤ n && n < z.first + z.lines && !z.lost.contains k then
      some { tag := z.tag, rowSeq := r.seq, page := pos.1, channel := pos.2, content := ⟨n, []⟩ }
    else none

/-- Every segment entry of a line on the media. -/
def State.segsOf (s : State) (n : Nat) : List SegLine :=
  (s.segPages.filterMap fun p => (p.lines.find? fun m => m.line == n).map fun m =>
    ({ tag := p.tag, rowSeq := p.rowSeq, page := p.stripe, channel := p.channel, content := m } : SegLine)) ++
    s.bed.rows.filterMap fun r => s.zeroSeg r n

/-- The latest written of some entries. -/
def latestSeg (l : List SegLine) : Option SegLine :=
  l.foldl (fun b x => match b with
    | none => some x
    | some y => if segBefore y x then some x else some y) none

/-- The segment of a line with the highest tag a test admits, the later written within one tag (R170). -/
def State.bestSeg (s : State) (f : Nat → Bool) (n : Nat) : Option SegLine := latestSeg ((s.segsOf n).filter fun x => f x.tag)

/-- What was last written to a map segment of a line (R217). -/
def State.lastSegment (s : State) (n : Nat) : Option MapLine := (s.bestSeg (fun _ => true) n).map fun x => x.content

/-- A line's changes are not yet in a segment: it is in the delta, or its segment page is still in staging. -/
def State.linePending (s : State) (n : Nat) : Bool :=
  s.drn.delta.contains n || s.bed.staged.any fun p => p.lines.any fun m => m.line == n

/-- Stage Harvest Map lines as one map segment page (R109, R207); they leave the pending count, and come back if it fails. -/
def stageSegment (use : ByteUse) (ns : List Nat) (s : State) : Option State :=
  (newPage .map 0 .mapSegment use s).map fun t =>
    let s := stagedUpd t.2 (fun q => { q with lines := ns.map fun n => t.1.hmLine n }) t.1
    { s with drn := { s.drn with delta := s.drn.delta.filter fun n => !ns.contains n } }

/-- Full pages of changed lines become map segments (R109, R137). -/
def segmentsDue (s : State) : State :=
  (List.range (s.drn.delta.length / max 1 s.segmentLines)).foldl (fun s _ =>
    if s.segmentLines ≠ 0 && s.segmentLines ≤ s.drn.delta.length then (stageSegment .drain (s.drn.delta.take s.segmentLines) s).getD s else s) s

/-! ### Liveness (R208, R217) -/

/-- Whether an entry names a location. -/
def names (e : HmEntry) (l : HmLoc) : Bool := e.state = .stored && e.loc = l

/-- A record is live while its granule's entry names it, or while the entry's line is pending and its last segment names it. -/
def State.recLive (s : State) (r : BedRow) (p : StorePage) (x : GranRec) : Bool :=
  let l := s.locOf r p x.slot
  names (s.hmOf x.granule) l ||
  (s.linePending (x.granule / 8) &&
    match s.lastSegment (x.granule / 8) with
    | none => false
    | some m => names ((m.entries[x.granule % 8]?).getD {}) l)

/-- A checkpoint with a valid copy, of the geometry in force (R212). -/
def Ckpt.ok (c : Ckpt) : Bool := c.copyA || c.copyB

/-- The valid checkpoint of highest SAVE_SEQ among those a test admits. -/
def bestCkpt (f : Nat → Bool) (l : List Ckpt) : Option Ckpt :=
  l.foldl (fun b c =>
    if c.ok && f c.hdr.saveSeq then
      match b with
      | none => some c
      | some x => if x.hdr.saveSeq < c.hdr.saveSeq then some c else b
    else b) none

/-- The segment R170 selects for a line under a checkpoint of this SAVE_SEQ and map delta; none where it selects something else. -/
def State.picks (s : State) (seq : Nat) (delta : List MapLine) (n : Nat) : Option SegLine :=
  match s.bestSeg (fun t => seq < t) n with
  | some x => some x
  | none => if delta.any fun m => m.line == n then none else s.bestSeg (fun t => t ≤ seq) n

/-- The latest sealed checkpoint and the one it supersedes, as SAVE_SEQ and map delta; without any, a store read from no checkpoint
(R208). -/
def State.bases (s : State) : List (Nat × List MapLine) :=
  match bestCkpt (fun _ => true) s.bed.ckpts with
  | none => [(0, [])]
  | some c => (c.hdr.saveSeq, c.delta) ::
      ((bestCkpt (fun m => m < c.hdr.saveSeq) s.bed.ckpts).map fun d => (d.hdr.saveSeq, d.delta)).toList

/-- A row holds the segment R170 selects for a line under one of those checkpoints (R208). -/
def State.lineLive (s : State) (r : BedRow) (n : Nat) : Bool :=
  s.bases.any fun b => (s.picks b.1 b.2 n).any fun x => x.rowSeq == r.seq

/-- Lines a segment page or a delta holds, each once, rising. -/
def State.knownLines (s : State) (delta : List MapLine) : List Nat :=
  (s.segPages.flatMap fun p => p.lines.map fun m => m.line).foldl (fun l n => setAdd n l) ((delta.map fun m => m.line).foldl (fun l n => setAdd n l) [])

/-- The first number from `n` on that is not listed. -/
def firstOff (l : List Nat) : Nat → Nat → Nat
  | 0, n => n
  | k + 1, n => if l.contains n then firstOff l k (n + 1) else n

/-- A row's zero segments hold a live line (R208): one of the lines written since, or the first that none has been written of. -/
def State.zeroLive (s : State) (r : BedRow) : Bool :=
  match r.zeros with
  | none => false
  | some z =>
    let known := s.knownLines (s.bases.flatMap fun b => b.2)
    (known.any fun n => s.lineLive r n) || s.lineLive r (firstOff known known.length z.first)

/-- Pages of the block table (R209). -/
def State.tablePages (s : State) : Nat := ceilDiv (4 * 32 * s.nand.dies * s.nand.blocks) (256 * s.slots)

/-- The pages of the latest block table. -/
def State.latestTable (s : State) : List StorePage :=
  let l := s.bed.pages.filter fun p => p.kind = .blockTable && p.geometry == s.geometry
  l.drop (l.length - s.tablePages)

/-- A page holds live content; the latest block table counts as such. [log 32: DESIGN CHOICE] -/
def State.pageLive (s : State) (r : BedRow) (p : StorePage) : Bool :=
  match p.kind with
  | .data => p.recs.any fun x => s.recLive r p x
  | .mapSegment => p.lines.any fun m => s.lineLive r m.line
  | .blockTable => s.latestTable.any fun q => samePage p q
  | _ => false

def State.rowLive (s : State) (r : BedRow) : Bool := ((s.pagesOf r.seq).any fun p => s.pageLive r p) || s.zeroLive r

/-- A location lies in a row. -/
def State.inRow (s : State) (r : BedRow) (l : HmLoc) : Bool :=
  l.ce * max 1 s.nand.luns + l.lun == r.lane && r.blocks.contains (l.channel, l.block)

/-- A row holds a segment entry of a line, live or not. -/
def State.rowHolds (s : State) (r : BedRow) (n : Nat) : Bool := (s.segsOf n).any fun x => x.rowSeq == r.seq

/-- A page holds content moved out of a row: a record raked from it, or a line a map row being raked holds too. -/
def State.movedFrom (s : State) (r : BedRow) (p : StorePage) : Bool :=
  (p.recs.any fun x => x.src.any fun l => s.inRow r l) ||
    (r.state = .raking && p.rowSeq != r.seq && p.lines.any fun m => s.rowHolds r m.line)

/-- Every stripe that holds content moved out of a row has its parity (R216). -/
def State.movesSafe (s : State) (r : BedRow) : Bool :=
  s.bed.pages.all fun p => !s.movedFrom r p || match s.row p.rowSeq with
    | none => true
    | some q => q.parityDone.contains p.stripe

/-- Rows without live content become SPENT (R205, R216). -/
def spendRows (s : State) : State :=
  { s with bed := { s.bed with rows := s.bed.rows.map fun r =>
      if (r.state = .full || r.state = .raking) && !s.rowLive r && s.movesSafe r &&
          !(s.bed.staged.any fun p => p.rowSeq == r.seq) then { r with state := .spent, queued := 0 } else r } }

/-! ### Programs (R105, R200 to R203) -/

/-- A programmed record's new entry is committed: the granule's previous location becomes stale, and COMMIT follows (R87, R105). A moved
record takes effect only where the entry still names its source (R217). -/
def commitRec (r : BedRow) (p : StorePage) (x : GranRec) (s : State) : State :=
  match x.src with
  | some l =>
    if names (s.hmOf x.granule) l then
      hmPut x.granule { state := .stored, loc := s.locOf r p x.slot, length := x.length, raw := x.raw } s
    else s
  | none =>
  if x.live && s.map.inflight.contains x.granule then
    let e : HmEntry := { state := .stored, loc := s.locOf r p x.slot, length := x.length, raw := x.raw }
    let s := commitOp x.granule (hmPut x.granule e s)
    { s with
      drn := { s.drn with committed := (s.drn.committed + 1) % 2 ^ 32 }
      hrv := if s.saving then { s.hrv with saved := s.hrv.saved + 1 } else s.hrv }
  else s

/-- Records of a page that end in it; the last one of a page that spills ends in the next. -/
def StorePage.whole (p : StorePage) : List GranRec := if p.spills then p.recs.dropLast else p.recs

/-- The page after another is on the media. -/
def State.nextOn (s : State) (r : BedRow) (p : StorePage) : Bool :=
  (List.range r.cursor).any fun n => r.pageAt n == (p.stripe, p.channel) &&
    (let q := r.pageAt (n + 1); s.onMedia r.seq q.1 q.2)

/-- Bytes programmed, as every account takes them: W_used (R118), at the next start where a save programs them; the drain's and the map
segments' outside a save may be overruns (R120); the save record's from its first granule to the M3 instant (R148). -/
def countBytes (use : ByteUse) (n : Nat) (s : State) : State :=
  let s := tickUpd (fun t => { t with
    prog := t.prog + n
    drainProg := if use = .drain && !s.saving then t.drainProg + n else t.drainProg }) s
  { s with
    drn := if s.saving then { s.drn with owedBytes := s.drn.owedBytes + n } else { s.drn with wUsed := s.drn.wUsed + n }
    hrv := if s.saving && s.hrv.firstSent && !s.hrv.m3 then { s.hrv with bytes := s.hrv.bytes + n } else s.hrv }

/-- The data channels of a stripe whose pages are taken. -/
def BedRow.takenIn (r : BedRow) (stripe : Nat) : List Nat :=
  ((List.range r.cursor).filter fun n => (r.pageAt n).1 == stripe).map fun n => (r.pageAt n).2

/-- The parity page of a stripe (R202, R203): over the pages that stand, and in a save over what a failed page left in the accumulator. -/
def State.parityPage (s : State) (r : BedRow) (stripe : Nat) : StorePage :=
  let stand := (r.takenIn stripe).filter fun c => s.onMedia r.seq stripe c
  let acc := if s.saving then r.accum.filter fun p => p.stripe == stripe else []
  let held := (s.bed.pages.filter fun p => p.rowSeq == r.seq && p.stripe == stripe) ++ acc
  { s.blankPage r stripe r.parityCh .parity ((held.getLast?.map fun p => p.use).getD .drain) with
    sent := true, unprotected := r.unprot.contains stripe
    lastStripe := r.state ≠ .opened && r.cursor < s.rowPages r && (r.pageAt (r.cursor - 1)).1 == stripe
    stripeMask := stand.foldl (fun n c => n ||| 2 ^ c) (acc.foldl (fun n p => n ||| 2 ^ p.channel) 0)
    covers := held.map fun p => (p.channel, p.recs, p.lines) }

/-- A stripe's parity page is programmed once every data page of the stripe that will be programmed is (R202). Outside a save the parity of a
stripe in which a program failed is made anew from its other pages, read back (R203). Its own program ends with the stripe's last
and does not fail. [log 32: DESIGN CHOICE] -/
def parityCheck (seq stripe : Nat) (s : State) : State :=
  match s.row seq with
  | none => s
  | some r =>
    let taken := r.takenIn stripe
    let full := taken.length = r.width - 1 || r.state ≠ .opened
    if full && !r.parityDone.contains stripe && !(s.bed.staged.any fun p => p.rowSeq == seq && p.stripe == stripe) &&
        taken ≠ [] then
      let p := s.parityPage r stripe
      let stand := taken.filter fun c => s.onMedia seq stripe c
      let s := if !s.saving && stand.length < taken.length then
          tickUpd (fun t => { t with nandRead := t.nandRead + stand.length * s.storePage }) s else s
      let s := rowUpd seq (fun x => { x with parityDone := setAdd stripe x.parityDone, accum := x.accum.filter fun q => q.stripe != stripe }) s
      countBytes p.use s.storePage { s with bed := { s.bed with pages := s.bed.pages ++ [p] } }
    else s

/-- Rows closed before their end get the parity of the stripes they have begun (R202). -/
def closedParity (s : State) : State :=
  s.bed.rows.foldl (fun s r => if r.state = .full && r.cursor ≠ 0 then parityCheck r.seq (r.pageAt (r.cursor - 1)).1 s else s)
    (s.bed.pages.foldl (fun s p => parityCheck p.rowSeq p.stripe s) s)

/-- A staged page has programmed with success (R105, step D6). -/
def pageDone (p : StorePage) (s : State) : State :=
  match s.row p.rowSeq with
  | none => s
  | some r =>
    let s := { s with bed := { s.bed with
      staged := s.bed.staged.filter fun q => !samePage p q, pages := s.bed.pages ++ [{ p with closed := true, sent := true }] } }
    let s := countBytes p.use s.storePage s
    let s := (p.whole).foldl (fun s x => commitRec r p x s) s
    let s := if p.spills && s.nextOn r p then (p.recs.getLast?.elim s fun x => commitRec r p x s) else s
    let s := match s.pageBefore r p with
      | none => s
      | some q => q.recs.getLast?.elim s fun x => commitRec r q x s
    parityCheck r.seq p.stripe (fullRows s)

/-- In a save a failed block is not retired: its row closes, so that the save programs no more into it (R225, R231); its stripe's parity is
UNPROTECTED, its data staying in the accumulator, and the row is queued (R203). [log 32: DESIGN CHOICE] -/
def failInSave (r : BedRow) (p : StorePage) (s : State) : State :=
  let s := rowUpd r.seq (fun x => { x with
    queued := if x.queued = 0 then 3 else x.queued, unprot := setAdd p.stripe x.unprot, accum := x.accum ++ [p]
    state := if x.state = .opened then .full else x.state }) s
  { s with bed := { s.bed with unprotected := if r.unprot.contains p.stripe then s.bed.unprotected else satAdd 16 s.bed.unprotected 1 } }

/-- A staged page's program has failed (R203, R225): the block has failed. -/
def pageFail (p : StorePage) (s : State) : State :=
  match s.row p.rowSeq with
  | none => s
  | some r =>
    let s := chanUpd p.channel (fun c => { c with progFail := satAdd 16 c.progFail 1 }) (losePage true r p s)
    parityCheck r.seq p.stripe (if s.saving then failInSave r p s
      else blkUpd p.channel r.lane (r.blockOn p.channel) (fun b => { b with failed := true }) s)

/-- A staged page programs at once: what a start writes. -/
def pageNow (o : Option State) (s : State) : State :=
  match o with
  | none => s
  | some t => t.bed.staged.getLast?.elim t fun p => pageDone p t

/-- A map segment programmed at once. -/
def segmentNow (ns : List Nat) (s : State) : State := pageNow (stageSegment .drain ns s) s

/-! ### The block table (R209) -/

/-- Place of a block in the table: channel, die, block. -/
def State.tablePlace (s : State) (key : Nat) : Nat := ((key / 32768 / 16) * s.nand.dies + key / 32768 % 16) * s.nand.blocks + key % 32768

/-- The entries of the table that are not 0: erase count, and the retired flag in bit 24. -/
def State.tableEntries (s : State) : List (Nat × Nat) :=
  (s.bed.blocks.map fun e => (s.tablePlace e.1, e.2.erases % 2 ^ 24 + if e.2.state = .retired then 2 ^ 24 else 0)).filter fun e => e.2 ≠ 0

/-- The entry a block has in the latest table. -/
def State.tableEntry (s : State) (key : Nat) : Nat := (s.latestTable.findSome? fun p => (p.table.find? fun e => e.1 == s.tablePlace key).map fun e => e.2).getD 0

/-- Page k of the block table is programmed in the map row. -/
def tablePage (es : List (Nat × Nat)) (k : Nat) (s : State) : State :=
  let n := 64 * s.slots
  pageNow ((newPage .map 0 .blockTable .other s).map fun t =>
    stagedUpd t.2 (fun q => { q with table := es.filter fun e => e.1 / n == k }) t.1) s

/-- The block table as it stands (R209). It programs whole with the event that makes it due. [log 32: DESIGN CHOICE] -/
def writeBlockTable (s : State) : State :=
  let es := s.tableEntries
  let s := (List.range s.tablePages).foldl (fun s k => tablePage es k s) s
  { s with bed := { s.bed with blockTables := s.bed.blockTables + 1, sinceTable := 0 } }

/-- After every 4,096 erases. -/
def tableDue (s : State) : State := if 4096 ≤ s.bed.sinceTable && s.running then writeBlockTable s else s

/-! ### What follows every change of the store -/

/-- While the device runs and in a save's data phase: full segments are written (R109, R137), records that wait are staged, pages go to
their dies (R229), data rows are open (R206), the block table is written when due (R209). -/
def settle (s : State) : State :=
  if s.bed.storeReady && (s.running || (s.saving && !s.hrv.m3)) && s.pip.sanStep = 0 then
    tableDue (openRows (fullRows (sendPages (stageWaiting (sendPages (segmentsDue s))))))
  else s

end Sys2Proof.Machine
end

