-- ==== Sys2Proof/Machine/StoreTick.lean ====
section
/-!
DEFINITION. The free space guarantee, the store ceiling, the raking level and the store's health (R214, R215, R218, R224, R227).
-/
namespace Sys2Proof.Machine

/-! ### Guarantee, ceiling, raking level, health (R214, R215, R218, R227) -/

def State.govParams (s : State) : GovParams :=
  match s.lay.inForce with
  | some l => l.gov
  | none => { kInit := 0, eff := [], eFixed := 0, eCkpt := 0, bMaxGib := 0, bGuardGib := 0, bMinGib := 1, cap0 := 0, cap1 := 0
              wLife := 0, yLife := 0, pauseMax := 0, allowUnarmed := false, holdoffMs := 10 }

/-- The lane whose row is opened next: the one `freeLane` names. -/
def State.cRow (s : State) (lane : Nat) : Nat := ((s.laneCh lane).length - 1) * s.nand.pages * (256 * s.slots)
def State.lRow (s : State) (lane : Nat) : Nat := ((s.laneCh lane).length - 1) * s.nand.pages * s.segmentLines

/-- Rows the guarantee needs (R214). -/
def State.needRows (s : State) : Nat :=
  ceilDiv (s.gov.bceil * 4352) (s.cRow s.freeLane) + 1 + (ceilDiv (s.gov.bceil + 262144) (s.lRow s.freeLane) + 1)

/-- Unprogrammed pages of the open data and map rows, in whole rows (R214). -/
def State.openSpare (s : State) : Nat :=
  let rs := s.bed.rows.filter fun r => r.state = .opened && (r.cls = .data || r.cls = .map)
  let pages := rs.foldl (fun n r => n + (s.rowPages r - r.cursor)) 0
  let one := s.nand.pages * ((s.laneCh s.freeLane).length - 1)
  if one = 0 then 0 else pages / one

/-- Erased rows (R214). -/
def State.erasedRows (s : State) : Nat := (List.range s.nand.dies).foldl (fun n d => n + s.laneRows d) 0 + s.openSpare

/-- Map rows that hold every host-visible line once (R208). -/
def State.mMin (s : State) : Nat := ceilDiv (s.granules / 8) (s.lRow s.freeLane)

/-- Blocks of a die that are retired. -/
def State.retiredOn (s : State) (ch die : Nat) : Nat :=
  (s.bed.blocks.filter fun e => e.1 / 32768 == ch * 16 + die && e.2.state = .retired).length

/-- Good blocks of a die: the profile's blocks less those retired. -/
def State.goodBlocks (s : State) (ch die : Nat) : Nat :=
  s.nand.blocks - s.retiredOn ch die - (if die = 0 then s.nand.updateBlocks else 0) - 3

/-- Rows of a lane that can serve (R215). -/
def State.laneAvail (s : State) (lane : Nat) : Nat :=
  match s.laneCh lane with
  | [] => 0
  | c :: cs => cs.foldl (fun n c => min n (s.goodBlocks c lane)) (s.goodBlocks c lane)

def State.rowsAvail (s : State) : Nat := (List.range s.nand.dies).foldl (fun n d => n + s.laneAvail d) 0

/-- B_store (R215), granules. -/
def State.bStore (s : State) : Nat :=
  let spare := 3 * s.mMin + 2 + 2 * s.nand.dies
  let total := (List.range s.nand.dies).foldl (fun n d => n + s.laneAvail d * s.cRow d) 0
  let data := total - spare * s.cRow s.freeLane
  (data - s.granules * 4352) / 4352

/-- Active channels of a half. -/
def State.halfCh (s : State) (hi : Bool) : Nat := (s.activeCh.filter fun c => if hi then 16 ≤ c else c < 16).length

/-- SPARE_MIN in GiB (R224): 3 × B_MAX unless the layout sets it. -/
def State.spareMin (s : State) : Nat := if s.nand.spareMinGib = 0 then 3 * s.govParams.bMaxGib else s.nand.spareMinGib

/-- The spare pool, B_store less B_MAX, is below SPARE_MIN (R224). -/
def State.spareShort (s : State) : Bool := s.bStore < (s.govParams.bMaxGib + s.spareMin) * 262144

/-- The CKPT block of a die that the next copy takes: the erased one of lowest number. [log 29: DEDUCED] -/
def State.ckptBlock (s : State) (ch die : Nat) : Option Nat := (s.blocksIn .ckptErased ch die).head?

/-- Every die of every active channel has an erased CKPT block (R214). -/
def State.ckptErasedAll (s : State) : Bool :=
  s.activeCh.all fun c => (List.range s.nand.dies).all fun d => !(s.laneCh d).contains c || (s.ckptBlock c d).isSome

/-- Store health and its cause (R227). -/
def State.health (s : State) : Nat × Nat :=
  if s.halfCh false < 4 || s.halfCh true < 4 then (2, 1)
  else if s.bStore < s.govParams.bMinGib * 262144 then (2, 2)
  else if s.bed.mismatch then (2, 3)
  else if s.bed.censusFailed then (2, 4)
  else
    let lost := s.bed.chans.any fun e => e.2.excluded || e.2.retired ≠ []
    if lost || s.spareShort then (1, 0) else (0, 0)

/-- STORE_OK (R227, condition 2 of R23). -/
def State.storeOk (s : State) : Bool :=
  s.layoutOk && s.bed.health != 2 && s.bed.storeReady && s.pip.keyLoaded && !s.upd.refuseArm

/-- Crystal Beds' registers of R232 evaluated, with the events of a change of health (R224, R227, R380). -/
def storeTick (s : State) : State :=
  if !s.layoutOk then s
  else
    let h := s.health
    let spareLow := s.spareShort
    let er := s.erasedRows
    let need := s.needRows
    let queued := s.bed.rows.any fun r => r.queued = 1
    let patrol := s.bed.rows.any fun r => r.queued = 2 || r.queued = 4 || r.queued = 3
    let lanes := s.nand.dies
    let lvl := if er < need then 3
      else if er < need + 2 * lanes || queued then 2
      else if er < need + 8 * lanes || patrol then 1 else 0
    let free := need ≤ er && s.ckptErasedAll && s.gov.bceil ≤ s.bStore && s.bed.startErasesDone
    let s := { s with bed := { s.bed with
        health := h.1, failCause := h.2, storeCeil := s.bStore, erasedRows := er, need := need, freeOk := free, ckptReady := s.ckptErasedAll
        rowsAvail := s.rowsAvail, rakeLevel := lvl, spareLow := spareLow } }
    let s := fltCond 0x54 (h.1 = 1) s
    let s := fltCond 0x55 (h.1 = 2) s
    fltCond 0xF2 spareLow s

/-! ### The update partition (R230, R505) -/

/-- Bundle bytes the update partition has room for. -/
def State.updateRoom (s : State) : Nat :=
  (s.bed.blocks.filter fun e => e.2.state = .update).length * s.nand.pages * (256 * s.slots)

/-- The partition is erased before a bundle is staged. -/
def eraseUpdate (s : State) : State :=
  { s with bed := { s.bed with
      updatePages := 0
      blocks := s.bed.blocks.map fun e => if e.2.state = .update then (e.1, { e.2 with erases := e.2.erases + 1 }) else e } }

/-- The pages that hold the first `bytes` bytes of a bundle are programmed. -/
def writeUpdate (bytes : Nat) (s : State) : State :=
  let n := ceilDiv (min bytes s.updateRoom) (256 * s.slots)
  countBytes .other ((n - s.bed.updatePages) * s.storePage) { s with bed := { s.bed with updatePages := max n s.bed.updatePages } }

end Sys2Proof.Machine
end

