-- ==== Sys2Proof/Machine/SaveOps.lean ====
section
/-!
DEFINITION. Harvest's operations (R127 to R159): a save begins, paces itself, ends its data phase, writes its checkpoint; and what a
save needs of the Keyhouse and the Salinometer: signatures (R469, R473, R474) and Salinometer records (R74, R75).
-/
namespace Sys2Proof.Machine

/-! ### Signatures and Salinometer records -/

/-- One ECDSA signature (R469, R484). -/
def signEcdsa (s : State) : State := { s with key := { s.key with ecdsaSigs := satAdd 16 s.key.ecdsaSigs 1 } }

/-- One LMS signature (R473, R474): with leaf q below the reserved boundary; at the boundary 16 more are reserved first. None from H0
until SEALED, none that needs a reservation where one has failed, none once q is 2^20. The flag says whether it was made. -/
def signLms (s : State) : State × Bool :=
  if s.key.exhausted || s.saving || (s.key.lmsFail && s.key.lmsRes ≤ s.key.lmsQ) then (s, false)
  else
    let k := s.key
    let s := if k.lmsQ < k.lmsRes then s else appendLms { s with key := { k with lmsRes := min (2 ^ 20) (k.lmsRes + 16) } }
    let k := s.key
    let k := { k with lmsQ := k.lmsQ + 1, lmsSigs := satAdd 16 k.lmsSigs 1 }
    ({ s with key := { k with exhausted := 2 ^ 20 ≤ k.lmsQ } }, true)

/-- The LMS signature of a record; one that is withheld awaits a later start (R474). -/
def signLate (s : State) : State × Bool :=
  let t := signLms s
  (if t.2 || t.1.key.exhausted then t.1 else { t.1 with key := { t.1.key with pendingLms := true } }, t.2)

/-- Sign a record with both algorithms (R469); without a leaf its block says LMS absent (R474). -/
def signBoth (s : State) : State × Bool := signLate (signEcdsa s)

/-- The profile of the layout in force, or the default before any. -/
def State.profile (s : State) : Option Profile := s.lay.inForce.map fun l => l.profile

/-- Write a Salinometer record now: signed where a signature may be made, else left for the next start (R75, R76). -/
def putSalRec (t : State × SalRec) : State :=
  if t.1.saving || !t.1.alive then { t.1 with sal := { t.1.sal with owed := t.1.sal.owed ++ [t.2] } }
  else
    let u := signBoth t.1
    u.1.journal (.salRec { t.2 with signed := u.2 })

/-! ### What a save trigger ends at once -/

/-- A learning cycle ends with a result, and its record (R68, R74, R76): CALLOAD opens; from L7 on, what was applied stands. -/
def endLearn (result : Nat) (s : State) : State := if s.sal.learn.step = 0 then s else putSalRec (learnRec result s)

/-- An open seal closes as ABANDONED, with its record (R73). -/
def abandonSeal (s : State) : State := if s.sal.sealOpen then putSalRec (abandonRec s) else s

/-! ### Pacing (R140) -/

/-- P_SAVE in milliwatts of this unit's own draw (R50, R487). -/
def State.pSave (s : State) : Nat :=
  match s.lay.inForce with
  | none => 0
  | some l =>
    match l.cascade with
    | some c => if c.shared then (c.unitPSave[s.brl.index]?).getD l.profile.pSave else l.profile.pSave
    | none => l.profile.pSave

/-- E_lead (R140): P_SAVE over 2 ms, rounded up. -/
def State.eLead (s : State) : Nat := ceilDiv (s.pSave * 2) 1000

/-- S_ck (R146), bytes. -/
def State.sCk (s : State) : Nat := 4096 + 68 * 262144 + 72 * s.regions

/-- E_floor (R146): T_floor is 25 ms and S_ck at 12 GB/s. -/
def State.eFloor (s : State) : Nat := ceilDiv (s.pSave * (25 * 12000000 + s.sCk)) (12000000 * 1000)

/-- SAL_ECONS as published, mJ. -/
def State.econs (s : State) : Nat := s.sal.econs

/-- Fix the allowance and the milestone points from E_T (R140). [log 28: DEDUCED] -/
def setPoints (s : State) : State :=
  let h := s.hrv
  let a := h.eT - s.drn.eCkpt
  { s with hrv := { h with
      allowance := a, pM1 := a * h.m1Frac / 256, pM2 := a * h.m2Frac / 256, pM3 := a - s.eLead - h.eSalv } }

/-- Fewest active channels available to either copy (R147, R153): the halves, one half shared, or the only channel. -/
def State.copyCh (s : State) : Nat :=
  let a := s.halfCh false
  let b := s.halfCh true
  if a + b = 1 then 1 else if a = 0 then b / 2 else if b = 0 then a / 2 else min a b

/-- E_salv (R153). -/
def State.salvEnergy (s : State) : Nat :=
  let n := s.copyCh
  if n = 0 || 4 ≤ n then 0
  else ceilDiv (s.pSave * s.sCk * (4 - n)) (12000000 * n * 1000)

/-- During SALVAGE the M3 point moves earlier by E_salv (R153). -/
def repace (s : State) : State :=
  if s.dev.st = .salvage then setPoints { s with hrv := { s.hrv with eSalv := s.salvEnergy } } else s

/-! ### Trigger and gate close (R127 to R139) -/

/-- Sanitize at H0 (R159): before the crypto-erase it is abandoned; after it, no granule is saved. -/
def sanitizeAtSave (s : State) : State :=
  if s.pip.sanStep = 0 then s
  else if s.pip.sanStep ≤ 2 then { s with pip := { s.pip with sanStep := 0, sanHead := none } }
  else { s with hrv := { s.hrv with sanitized := true } }

/-- The cascade section of the layout in force (R487). -/
def State.cascade (s : State) : Option Cascade := s.lay.inForce.bind fun l => l.cascade

/-- What the master does at a group trigger (R501, G3 and G5): GO with the next EVENT and, in shared mode, each unit's SHARE of the group
energy it latches. -/
def sendGo (cause origin : Nat) (s : State) : State :=
  let ev := (s.brl.event + 1) % 2 ^ 32
  let eg := if s.sal.valid then s.brl.eGroup else 0
  let shares := match s.cascade with
    | some c => if c.shared then (List.range c.units).map fun i => BrlFrame.share i (eg * (c.shares[i]?).getD 0 / 256) ev else []
    | none => []
  { s with brl := { s.brl with event := ev, goSeen := some ev, eLatched := eg, sent := .go cause origin ev :: shares } }

/-- What a unit does at a trigger of its own (R157, R158, R501): a member sends TRIG, the master GO; a thermal SHUT stays local, and the master
latches the group energy for its own share. -/
def cascadeTrigger (t : Trigger) (s : State) : State :=
  if !s.brl.whole || t = .go then s
  else if t = .thermal then
    if s.brl.role = 1 then { s with brl := { s.brl with eLatched := if s.sal.valid then s.brl.eGroup else 0 } } else s
  else if s.brl.role = 2 then { s with brl := { s.brl with sent := [.trig t.code] } }
  else if s.brl.role = 1 then sendGo t.code s.brl.index s
  else s

/-- The master's own share of the group energy it latched; a member's comes with SHARE (R501). -/
def State.ownShare (s : State) : Nat :=
  if s.brl.role ≠ 1 then 0 else s.brl.eLatched * ((s.cascade.bind fun c => c.shares[0]?).getD 0) / 256

/-- Whether this unit takes E_T from a SHARE frame (R158, R501). -/
def State.sharedMode (s : State) : Bool :=
  s.brl.whole && (match s.lay.inForce.bind fun l => l.cascade with | some c => c.shared | none => false)

/-- The level an output pin of GPIO has by its function (R522). -/
def State.gpioLevel (s : State) (k : Nat) : Bool :=
  let v := match tblGet 0 s.svc.gpioFunc k with
    | 2 => s.svc.gpioOut.testBit k
    | 3 => s.gov.pdom
    | 4 => s.saving
    | 5 => s.fld.restoring
    | 6 => 1 ≤ s.thm.level
    | 7 => 1 ≤ s.bed.health
    | 8 => s.svc.response.isSome || s.svc.event
    | _ => false
  if s.svc.gpioInvert.contains k then !v else v

/-- Granules claimed or inside Panhouse are abandoned (R142). -/
def dropInside (s : State) : State :=
  ((s.drn.path.filter fun i => i.step ≠ .staged).map fun i => i.granule).foldl (fun s g => fillAll (abandonOp g s)) s

/-- What the save record takes at the M3 instant (R142, R148). -/
def markEnd (atPoint : Bool) (s : State) : State :=
  { s with hrv := { s.hrv with
      m3 := true, m3Us := s.dev.aonUs, m3Point := s.hrv.m3Point || atPoint, eM3 := s.sal.econs, mask := s.activeCh.foldl (fun w c => w + 2 ^ c) 0
      chargeMc := s.sal.saveChargeUc / 1000 - s.hrv.chargeFirst
      dataUs := if s.hrv.firstSent then s.dev.aonUs - s.hrv.t0Us - s.hrv.tFirstUs else 0 } }

/-- The M3 instant (R141, R142): nothing enters Panhouse any more, granules inside it are abandoned. -/
def endData (atPoint : Bool) (s : State) : State := if s.hrv.m3 then s else markEnd atPoint (dropInside s)

/-- Lowest and highest source temperature now, 1/16 °C (R74); 0 while no thermistor reads. -/
def State.srcLow (s : State) : Int :=
  match s.sal.ntc0, s.sal.ntc1 with
  | some a, some b => min a b
  | some a, none => a
  | none, some b => b
  | none, none => 0

def State.srcHigh (s : State) : Int :=
  match s.sal.ntc0, s.sal.ntc1 with
  | some a, some b => max a b
  | some a, none => a
  | none, some b => b
  | none, none => 0

/-- A raking move not yet committed is dropped (R138, R231): its copy takes no effect. -/
def dropMove (x : GranRec) : GranRec := if x.src.isSome then { x with live := false, src := none } else x

/-- Raking moves not yet committed: those on staged pages, and one that goes on from a programmed page into a staged one. -/
def dropMoves (s : State) : State :=
  let spill := fun (p : StorePage) =>
    if p.spills && !((s.row p.rowSeq).any fun r => s.nextOn r p) then
      { p with recs := p.recs.dropLast ++ ((p.recs.getLast?.map dropMove).toList) } else p
  { s with bed := { s.bed with
    staged := s.bed.staged.map fun p => { p with closed := true, recs := p.recs.map dropMove }
    pages := s.bed.pages.map spill } }

/-- H0 to the start of H3 (R130 to R139): HOLD_EN, heads closed, posted writes committed and marked, drains in flight abandoned, the
ledger cache flushed, allowance and points fixed, the save-start marker programmed. -/
def beginSave (t : Trigger) (sinceNs : Nat) (s : State) : State :=
  let armed := s.dev.st = .armed
  let held := (List.range 16).foldl (fun w k => if s.gpioLevel k then w + 2 ^ k else w) 0
  let s := holdSettings (endPause 5 (salCut s))
  let s := disarmStop 0x09 s
  let s := cascadeTrigger t s
  let valid := s.sal.valid
  let shared := s.sharedMode
  let etrig := s.sal.euse
  let seq := s.hrv.nextSeq
  let s := { s with
    dev := { s.dev with st := .harvest, savedBy := 0, cycled := false }
    gov := { s.gov with accessHeld := true, backpressure := false }
    flt := { s.flt with deferred := [] }
    sal := { s.sal with
      holdEn := true, holdArm := true, callOad := false, charging := false, rested := false, etrig := etrig, econs := 0, accUj := 0, saveChargeUc := 0
      saveStartUs := s.dev.aonUs, saveMinMv := s.sal.vbkMv, savePeakMa := s.sal.ibkMa.toNat
      saveTLow := s.srcLow, saveTHigh := s.srcHigh }
    dmc := { s.dmc with
      changing := false, pending := none
      chans := s.dmc.chans.map fun e => (e.1, { e.2 with selfRefresh := false, idleRefresh := false }) }
    bed := { s.bed with rakeStopped := true, rakeActive := false }
    cel := { s.cel with eraseLock := true }
    thm := { s.thm with thermalSave := t = .thermal, saves := if t = .thermal then satAdd 8 s.thm.saves 1 else s.thm.saves }
    upd := { s.upd with announced := 0, received := 0, erasing := false }
    svc := { s.svc with event := true, gpioHeld := some held }
    brl := { s.brl with stageState := if s.brl.stageState = 1 then 3 else s.brl.stageState }
    fld := { s.fld with fetches := [], admission := [] }
    hrv := { ({} : Hrv) with
      nextSeq := seq + 1, prevSealed := s.hrv.prevSealed, floorMj := s.hrv.floorMj, leadMj := s.hrv.leadMj
      m1Frac := s.hrv.m1Frac, m2Frac := s.hrv.m2Frac
      phase := 2, saveSeq := seq, eT := if shared then s.ownShare else if valid then etrig else 0, energyInvalid := !valid
      triggers := [t], trigger := t.code, planned := t = .harvestNow, armedAtTrigger := armed
      t0Us := s.dev.aonUs - sinceNs / 1000, lockstep := s.brl.whole && t ≠ .thermal, awaitShare := shared && s.brl.role ≠ 1 } }
  let s := sanitizeAtSave s
  let s := fillAll (commitPostedNow none (fillAll s))
  let s := abandonAll s
  let s := flushCache s
  let s := dropMoves s
  let s := setPoints { s with hrv := { s.hrv with phase := 4, backlog := s.map.total } }
  let s := s.journal (.saveStart seq t.code armed)
  if s.hrv.sanitized || !valid then endData (!s.hrv.sanitized) s else settle s

/-- Priority of triggers (R127): the lower code wins. -/
def firstTrigger (ts : List Trigger) : Nat := ts.foldl (fun n t => min n t.code) 15

/-- The save-start marker carries the code of the trigger recorded: it is programmed after the 2 µs in which triggers join (R130, R139). -/
def remark (seq code : Nat) (l : List JRec) : List JRec :=
  l.map fun r => match r with
    | .saveStart n t a => if n = seq then .saveStart n code a else .saveStart n t a
    | r => r

/-- The triggers of a save and the one recorded as its cause, the first by priority (R43, R127, R128): marker, PLANNED and the count of
saves of trigger 3 follow it. -/
def recordTrigger (ts : List Trigger) (s : State) : State :=
  let c := firstTrigger ts
  let n := s.thm.saves
  { s with
    hrv := { s.hrv with triggers := ts, trigger := c, planned := c = 5, lockstep := s.brl.whole && ts.any fun t => t ≠ .thermal }
    thm := { s.thm with
      thermalSave := c = 3
      saves := if c = 3 && !s.thm.thermalSave then satAdd 8 n 1 else if c ≠ 3 && s.thm.thermalSave && n < 255 then n - 1 else n }
    jrn := remark s.hrv.saveSeq c s.jrn }

/-- A trigger while a save runs (R128, R500): within 2 µs of the first detection it belongs to the same save; a GO within 5 µs is absorbed;
a later one is a second trigger. [log 18: DEDUCED] -/
def laterTrigger (t : Trigger) (sinceNs : Nat) (s : State) : State :=
  if t = .go && sinceNs ≤ 5000 then
    { s with brl := { s.brl with absorbed := satAdd 8 s.brl.absorbed 1 } }
  else if sinceNs ≤ 2000 then recordTrigger (s.hrv.triggers ++ [t]) s
  else { s with hrv := { s.hrv with second := satAdd 8 s.hrv.second 1 } }

/-! ### Data phase end, tail, checkpoint (R141 to R150) -/

/-- Both PHYs are powered down, forced or not (R141). -/
def physOff (force : Bool) (s : State) : State :=
  { s with
    heads := ⟨{ s.heads.a with phyOff := true }, { s.heads.b with phyOff := true }⟩
    hrv := { s.hrv with phyForced := s.hrv.phyForced || force } }

/-- A PHY that does not report off at M2 is forced down and reported (R141). -/
def confirmPhys (aOff bOff : Bool) (s : State) : State :=
  let s := physOff (!aOff || !bOff) s
  let s := if aOff then s else fltRaise 0x70 0 s
  if bOff then s else fltRaise 0x71 0 s

/-- The PHYs are confirmed once. -/
def confirmOnce (aOff bOff : Bool) (s : State) : State :=
  if s.heads.a.phyOff && s.heads.b.phyOff then s else confirmPhys aOff bOff s

/-- The tail (R141): staged records are programmed and open rows are closed with their parity. -/
def runTail (s : State) : State :=
  let s := s.bed.staged.foldl (fun s p => pageDone { p with closed := true } s) s
  let close := fun (r : BedRow) => if r.state = .opened then { r with state := .full } else r
  closedParity { s with bed := { s.bed with staged := [], rows := s.bed.rows.map close } }

/-- The residual ledger (R145): every region with DIRTY above 0, with its line. -/
def State.residual (s : State) : List (Nat × Nat) := s.dirtyRegions.map fun r => (r, s.lineOf r)

/-- FLAGS of the save record (R148). -/
def State.saveFlags (s : State) : Nat :=
  let h := s.hrv
  pack [(0, 1, b2n h.armedAtTrigger), (1, 1, b2n h.planned), (2, 1, b2n h.salvage), (3, 1, b2n h.m1), (4, 1, b2n h.m2),
    (5, 1, b2n h.m3Point), (6, 1, b2n (1 ≤ h.shed)), (7, 1, b2n (2 ≤ h.shed)), (8, 1, b2n h.energyInvalid),
    (9, 1, b2n h.thermalEnd), (10, 1, b2n h.supplyReturned), (11, 1, b2n h.lockstep), (12, 1, b2n (h.second ≠ 0)),
    (13, 1, b2n h.bothOnOne), (14, 1, b2n h.sanitized)]

/-- Digest of the layout in force (R148, R481). -/
def State.layoutDigest (s : State) : BitVec 384 := match s.lay.inForce with | none => 0 | some l => l.digest

/-- The channels of a half a copy uses (R147, R210): the even-numbered active ones; up to eight of all where fewer than four are. -/
def copyPick (l : List Nat) : List Nat :=
  let ev := l.filter fun c => c % 2 = 0
  if 4 ≤ ev.length then ev else (ev ++ l.filter fun c => c % 2 = 1).take 8

/-- The channels of copy A or B (R147): its half, or its share of the other half; both copies on the only channel. [log 29: DEDUCED] -/
def State.copyChs (s : State) (b : Bool) : List Nat :=
  let lo := s.activeCh.filter fun c => c < 16
  let hi := s.activeCh.filter fun c => 16 ≤ c
  if lo != [] && hi != [] then copyPick (if b then hi else lo)
  else
    let l := lo ++ hi
    if l.length ≤ 1 then l
    else copyPick (if b then l.drop ((l.length + 1) / 2) else l.take ((l.length + 1) / 2))

/-- The dies of a copy in the order its stream visits them within a page number: lane, then channel; with one channel active the copies take its
even and its odd dies (R147, R210). [log 29: DEDUCED] -/
def State.copyDies (s : State) (b : Bool) : List (Nat × Nat) :=
  let one := s.activeCh.length = 1
  (List.range s.nand.dies).flatMap fun d =>
    ((s.copyChs b).filter fun c => (s.laneCh d).contains c && (s.ckptBlock c d).isSome && (!one || d % 2 = b2n b)).map fun c => (c, d)

/-- Where page k of a copy's stream lies (R210); records begin in slot 1. -/
def State.copyLoc (s : State) (b : Bool) (k : Nat) : HmLoc :=
  let l := s.copyDies b
  let p := (l[k % l.length]?).getD (0, 0)
  { channel := p.1, ce := p.2 / max 1 s.nand.luns, lun := p.2 % max 1 s.nand.luns, block := (s.ckptBlock p.1 p.2).getD 0
    page := k / l.length, slot := 1 }

/-- The sections of the checkpoint (R145) as bytes: map delta, RST image, residual ledger. -/
def State.sections (s : State) : List (List Nat) :=
  [deltaBytes (s.drn.delta.map fun n => s.hmLine n), s.rstBytes, residualBytes s.residual]

/-- Pages a section of n bytes takes; each section begins on a page, since the directory names pages. [log 29: DEDUCED] -/
def State.pagesFor (s : State) (n : Nat) : Nat := ceilDiv n (256 * s.slots)

/-- Pages of each section, from their sizes (R145). -/
def State.sectionPages (s : State) : List Nat :=
  [s.pagesFor (68 * s.drn.delta.length), s.pagesFor (4 * s.regions), s.pagesFor (68 * s.residual.length)]

/-- The section directory of a copy (R145). -/
def State.directory (s : State) (b : Bool) : List (HmLoc × Nat) :=
  (s.sectionPages.foldl (fun (t : Nat × List (HmLoc × Nat)) n => (t.1 + n, t.2 ++ [(s.copyLoc b t.1, n)])) (0, [])).2

/-- Where a copy's header page lies: after its sections (R145). [log 29: DEDUCED] -/
def State.headerLoc (s : State) (b : Bool) : HmLoc := s.copyLoc b (s.sectionPages.foldl (· + ·) 0)

/-- The save record (R148). [log 29: DEDUCED] -/
def State.saveRecord (s : State) : SaveRecord :=
  let h := s.hrv
  { outcome := if s.map.total = 0 then 1 else 2, trigger := h.trigger, flags := s.saveFlags, saveSeq := h.saveSeq
    salSeq := (s.sal.recSeq + 1) % 2 ^ 32, etrig := s.sal.etrig, eFirst := h.eFirst, eM1 := h.eM1, eM2 := h.eM2, eM3 := h.eM3
    eTail := h.eTail, backlog := h.backlog, saved := h.saved, unsaved := s.map.total, bytes := h.bytes, chargeMc := h.chargeMc
    dataUs := h.dataUs, mask := h.mask, epoch := s.map.epoch, salvage := h.salvageCause
    unit := if s.brl.role = 0 || s.brl.role = 3 then 0xFF else s.brl.index
    deltaDigest := sha384 ((s.sections[0]?).getD []), rstDigest := sha384 ((s.sections[1]?).getD [])
    residualDigest := sha384 ((s.sections[2]?).getD []), layoutDigest := s.layoutDigest, fwVersion := s.upd.runVer, nDelta := s.drn.delta.length, nRst := s.regions
    nResidual := s.residual.length, tFirstUs := h.tFirstUs, prevSeq := h.prevSealed
    locA := s.headerLoc false, locB := s.headerLoc true, signature := Config.signature s.free }

/-- The checkpoint (R145): the sections as they stand after the tail. -/
def State.checkpoint (s : State) (a b : Bool) : Ckpt :=
  { hdr := s.saveRecord, delta := s.drn.delta.map fun n => s.hmLine n, rst := s.map.rst, rstBase := s.map.rstBase
    residual := s.residual, geometry := s.geometry
    copyA := a && s.copyDies false ≠ [], copyB := b && s.copyDies true ≠ [], dirA := s.directory false, dirB := s.directory true }

/-- Both copies are written (R145, R147, R210): each takes a CKPT block of every die it uses, and its pages are counted (R118). -/
def writeCopies (a b : Bool) (s : State) : State :=
  let c := s.checkpoint a b
  let l := s.copyDies false ++ s.copyDies true
  let pages := s.sectionPages.foldl (· + ·) 1
  let n := b2n (s.copyDies false ≠ []) + b2n (s.copyDies true ≠ [])
  let t := l.foldl (fun t p => match s.ckptBlock p.1 p.2 with
    | none => t
    | some k => blkUpd p.1 p.2 k (fun x => { x with state := .ckpt, holds := s.hrv.saveSeq }) t) s
  countBytes .other (n * pages * s.storePage) { t with bed := { t.bed with ckpts := c :: t.bed.ckpts }, free := t.free + 1 }

/-- After the last DRAM read of H4 every channel enters self-refresh until the reset of H5 (R313). -/
def dramRests (s : State) : State :=
  (List.range 8).foldl (fun s c => if s.dchanOn c then dchanUpd c (fun x => { x with selfRefresh := true }) s else s) s

end Sys2Proof.Machine
end

