-- ==== Sys2Proof/Machine/HeadOps.lean ====
section
/-!
DEFINITION. What commands through the heads and the Rake Port share: mailbox service and completions (R257, R276 to R281), cell guards
(R277), pan access and extents (R262 to R268), tokens and nonces (R477, R478), and the answers of each port.
-/
namespace Sys2Proof.Machine

/-! ### Mailbox (R257, R277, R279) -/

/-- A command from a head is served: the head is linked, and the device is ARMED or UNARMED, or waits for UNLOCK (R257). -/
def State.served (s : State) (h : Head) : Bool :=
  (s.heads.get h).up && (s.running || (s.dev.st = .reflood && s.fld.unlockWait))

/-- The CXL return code of a Chapen status (R279): 0 Success, 2 Invalid Input, 3 Unsupported, 4 Internal Error, 6 Busy as CXL numbers
them. [log 40: PRESUMED] -/
def cxlCode (status : Nat) : Nat :=
  if status = 0 then 0 else if status = 4 then 6 else if status = 0xE then 3 else if status = 0x10 then 4 else 2

/-- Complete a vendor command with a Chapen status and a payload (R279). [log 70: DESIGN CHOICE] -/
def reply (h : Head) (opcode status : Nat) (p : Payload) (s : State) : State :=
  { s with replies := { s.replies with
      mbox := s.replies.mbox.set h (some { opcode := opcode, code := cxlCode status, status := some status, payload := p }) } }

/-- Complete a CXL-defined command with a CXL return code. -/
def replyCxl (h : Head) (opcode code : Nat) (p : Payload) (s : State) : State :=
  { s with replies := { s.replies with
      mbox := s.replies.mbox.set h (some { opcode := opcode, code := code, status := none, payload := p }) } }

/-- A cell and its holder (R269). -/
def State.cell (s : State) (n : Nat) : Cell := tblGet {} s.sem.cells n

def cellUpd (n : Nat) (f : Cell → Cell) (s : State) : State :=
  { s with sem := { s.sem with cells := tblUpd {} n f s.sem.cells } }

/-- Whether a head holds a cell. -/
def State.holds (s : State) (h : Head) (n : Nat) : Bool :=
  (s.cell n).state = match h with | .a => CellState.heldA | .b => CellState.heldB

/-- Whether either head holds a cell (R517). -/
def State.held (s : State) (n : Nat) : Bool := (s.cell n).state ≠ .free

/-- A vendor command without a cell (R276): `v2` for a command of version 2.0. -/
def vendor (h : Head) (opcode : Nat) (v2 : Bool) (k : State → State) (s : State) : State :=
  if !s.served h then s
  else if v2 && (s.heads.get h).cmdMajor = 1 then reply h opcode 0xE .empty s
  else k s

/-- A vendor command with its guard (R277): the generation first, then the holder, then the command. -/
def guarded (h : Head) (cell : Nat) (gen : BitVec 16) (opcode : Nat) (v2 : Bool) (k : State → State) (s : State) : State :=
  vendor h opcode v2 (fun s =>
    if (s.cell cell).gen ≠ gen then reply h opcode 1 .empty (staleReject h cell s)
    else if !s.holds h cell then reply h opcode 2 .empty s
    else k s) s

/-- The save outcome is told once, at host-ready, or in a start without one when its first head links (R22, R42, R284): its loss and its
trigger. [log 16: DEDUCED] -/
def tellOutcome (s : State) : State :=
  if s.fld.outcomeDue then
    let o := s.gov.lastSave.outcome
    let l := if o = 2 || o = 3 then EvLog.failure else EvLog.info
    let s := tlyTrigger 0x10B 0 { s with fld := { s.fld with outcomeDue := false } }
    chapenEvent l 0x07 o 0xFF 0 0 0 s.gov.lost s
  else s

/-- A CXL-defined command of a head that is served. -/
def cxlCmd (h : Head) (k : State → State) (s : State) : State := if s.served h then k s else s

/-! ### Pans (R258 to R268) -/

def PanState.ofCode : Nat → Option PanState
  | 0 => some .unassigned | 1 => some .headA | 2 => some .headB | 3 => some .sharedRead | 4 => some .shared | _ => none

/-- What a pan's state grants a head (R262). -/
def PanState.grants : PanState → Head → Access
  | .headA, .a => .write
  | .headB, .b => .write
  | .sharedRead, _ => .read
  | .shared, _ => .write
  | _, _ => .none

/-- What a head may do with a pan now (R263, R267). -/
def State.access (s : State) (h : Head) (p : Nat) : Access := if p < s.panCount then (s.pan p).acc.get h else .none

/-- A loss under R267 has not yet taken effect. -/
def Pan.pending (p : Pan) : Bool := p.losing.a.isSome || p.losing.b.isSome

/-- A port's writes reach the window: a head's while it is linked (R257, R525), the Rake Port's in the states REG_WRITE is served in
(R514). [log 14: DEDUCED] -/
def State.windowOpen (s : State) : Port → Bool
  | .headA => s.alive && s.heads.a.up
  | .headB => s.alive && s.heads.b.up
  | .rake => s.running || s.dev.st = .reflood

/-! ### Nonces and tokens (R477, R478) -/

/-- A nonce for a kind and port: a later one makes the earlier lapse (R478). None while the generator fails (R483). [log 58: DEDUCED] -/
def makeNonce (k : NonceKind) (p : Port) (s : State) : State × Option (BitVec 128) :=
  if s.key.rbgOk then
    let v := Config.nonce s.free
    let rest := s.key.nonces.filter fun n => !(n.1 = k && n.2.1 = p)
    ({ s with key := { s.key with nonces := (k, p, ⟨v, s.dev.aonUs⟩) :: rest }, free := s.free + 1 }, some v)
  else (s, none)

/-- The nonce outstanding for a kind and port, within its 60 s. -/
def State.nonceOf (s : State) (k : NonceKind) (p : Port) : Option (BitVec 128) :=
  (s.key.nonces.find? fun n => n.1 = k && n.2.1 = p && s.dev.aonUs ≤ n.2.2.issuedUs + 60000000).map fun n => n.2.2.value

/-- A nonce is used. -/
def dropNonce (k : NonceKind) (p : Port) (s : State) : State :=
  { s with key := { s.key with nonces := s.key.nonces.filter fun n => !(n.1 = k && n.2.1 = p) } }

/-- A verification fails (R478, R484): 1 image, 2 layout, 3 token, 4 owner record. -/
def verifyFail (what : Nat) (s : State) : State :=
  { s with key := { s.key with failCount := satAdd 16 s.key.failCount 1, lastFail := what } }

/-- An image fails its check with a code of R443: one of its signatures, code 5, is a failed verification (R484). -/
def imageFailed (code : Nat) (s : State) : State := if code = 5 then verifyFail 1 s else s

/-- A token operation ends with a status (R478): a token that fails, of its binding or of its nonce, changes the failure count alone. -/
def tokenFailed (code : Nat) (s : State) : State := if code = 5 || code = 6 then verifyFail 3 s else s

/-- Check a token (R477, R478): 0 it stands, 6 its nonce has lapsed or is not the one outstanding, 5 its binding or a signature fails.
`match_` says whether its type fields match the device's present values. [log 11: DESIGN CHOICE] -/
def State.tokenStatus (s : State) (k : NonceKind) (p : Port) (t : Token) (fieldsOk : Bool) : Nat :=
  match s.nonceOf k p with
  | none => 6
  | some n =>
    if n ≠ t.nonce then 6
    else if t.identity == s.key.identity && fieldsOk && t.ecdsaOk && t.lmsOk && s.key.owner.any (·.gen == t.signedBy) then 0 else 5

/-! ### Rake Port (R509 to R515) -/

/-- The Rake Port answers (R510): from B1 of every start, while the main domain runs. -/
def State.rakeServes (s : State) : Bool := s.alive && !s.dev.startDue

/-- A request is answered (R509, R512): READY, the frame waits. [log 70: DESIGN CHOICE] -/
def rakeReply (op tag status : Nat) (p : Payload) (s : State) : State :=
  { s with svc := { s.svc with response := some ⟨op, tag, status, p⟩, frames := satAdd 16 s.svc.frames 1 } }

/-- A frame that is accepted tells of no error (R512). [log 62: DEDUCED] -/
def frameAccepted (s : State) : State := { s with svc := { s.svc with frameErr := false } }

/-- A request frame arrives (R509 to R515): discarded while READY; refused before HELLO, above the negotiated version or in a
state the operation is not served in. FRAME_ERR tells of the last frame alone. `since` is major × 256 + minor. -/
def rakeOp (op tag since : Nat) (states : State → Bool) (k : State → State) (s : State) : State :=
  if !s.rakeServes then s
  else if s.svc.response.isSome then
    { s with svc := { s.svc with frameErr := true, errors := satAdd 8 s.svc.errors 1 } }
  else
    let s := frameAccepted s
    if op ≠ 1 && op ≠ 2 && !s.svc.negotiated then rakeReply op tag 0x104 .empty s
    else if s.svc.negotiated && s.svc.major * 256 + s.svc.minor < since then rakeReply op tag 0xE .empty s
    else if !states s then rakeReply op tag 0x103 .empty s
    else k s

/-- A Rake Port operation waits for a cell no head holds (R517). -/
def rakeCell (op tag cell : Nat) (k : State → State) (s : State) : State :=
  if s.held cell then rakeReply op tag 4 .empty s else k s

end Sys2Proof.Machine
end

