-- ==== Sys2Proof/Machine/Power.lean ====
section
/-!
DEFINITION. Supply, reset and power-fail commands (R15, R57, R62, R159, R544 to R549).
-/
namespace Sys2Proof.Machine

/-- The always-on domain loses its supply: everything it holds is gone, the domain key with it (R47, R376, R392, R430).
[log 66: DEDUCED] -/
def aonLost (s : State) : State :=
  { s with
    dev := { s.dev with aonUs := 0, startUs := 0, savedBy := 0, cycled := false, pgOk := false, coolOk := false }
    flt := {}
    sal := { recSeq := s.sal.recSeq, breaksUsed := s.sal.breaksUsed, cal := s.sal.cal, staged := s.sal.cal
             sealStrap := s.sal.sealStrap, learnedUnder := s.sal.learnedUnder, learnedOnce := s.sal.learnedOnce
             capacity := s.sal.capacity, esr := s.sal.esr, owed := s.sal.owed, aonPriorS := s.aonLifeS }
    thm := { oscTrim := s.thm.oscTrim, bgTrim := s.thm.bgTrim, oscTable := s.thm.oscTable, bgTable := s.thm.bgTable
             calibValid := s.thm.calibValid }
    upd := { s.upd with wdCount := 0, cause := 0 }
    pins := {} }

/-- Enter RECOVERY (R15, R430, R460): heads in reset, HOLD_ARM 0, the reason kept; an unread response is discarded with EVENT set
(R523). -/
def enterRecovery (cause : Nat) (s : State) : State :=
  let s := dropHeads s
  { s with
    dev := { s.dev with st := .recovery, startDue := false }
    sal := { s.sal with holdArm := false }
    upd := { s.upd with recoveryCause := cause, wdCount := if cause = 3 then 0 else s.upd.wdCount }
    svc := { s.svc with response := none, event := true } }

/-- The start that ends SEALED or a HALT (R15): everything outside the always-on domain has been reset. -/
def startFrom (cause : Nat) (s : State) : State :=
  if s.dev.st = .sealed then
    { s with
      dev := { s.dev with st := .boot, halt := .none, startDue := true, startUs := s.dev.aonUs, savedBy := 0, cycled := false
                          pgOk := false, coolOk := false }
      upd := { s.upd with cause := cause } }
  else mainReset cause (salCut s)

/-- VAON_FALL (R15): OFF from any other state. What is fused, in the Salt Cellar or in the NAND store stays. -/
def execVaonFall (s : State) : Host.Outcome State Fault Refusal :=
  if s.dev.st = .off then .next s
  else
    let s := aonLost (coreLost (mainReset 0 (salCut (celLost s))))
    .next { s with dev := { st := .off, startDue := false, mainUp := false } }

/-- MAIN_DOMAIN_RELEASE (R544, R545): the main domain is released; a fault HALT that a rail caused ends. [log 65: DEDUCED] -/
def execMainDomainRelease (s : State) : Host.Outcome State Fault Refusal :=
  let was := s.dev.mainUp
  let s1 := { s with dev := { s.dev with mainUp := true }, pins := { s.pins with mainPower := true } }
  if s.dev.st = .off || was then .next s
  else if s.dev.st = .halt && (s.dev.halt = .fault || s.dev.halt = .vabs) then .next (startFrom 3 s1)
  else if s.dev.st = .sealed && s.dev.savedBy = 5 then .next (startFrom 1 s1)
  else .next s1

/-- MAIN_RAIL_FAIL (R545): a chip reset, or a fault HALT during a save. -/
def execMainRailFail (s : State) : Host.Outcome State Fault Refusal :=
  let s1 := { celLost s with dev := { s.dev with mainUp := false } }
  if s.dev.st = .off || !s.dev.mainUp then .next s
  else if s.saving then .next (coreLost (enterHalt .fault s1))
  else if resettable s then .next (coreLost (mainReset 3 (salCut s1)))
  else .next (coreLost s1)

/-- POWER_GOOD (R15, R62): evaluated in SEALED and in a HALT entered under R61, once it has held for the sealed time. A save of
trigger 3 also waits for the restart condition; a planned one for a power cycle, since R15 gives it no start at power-good. -/
def execPowerGood (elapsedMs : Nat) (s : State) : Host.Outcome State Fault Refusal :=
  let here := s.dev.st = .sealed || (s.dev.st = .halt && s.dev.halt = .vabs)
  if here && s.sal.cal.pgMs ≤ elapsedMs then
    let s := { s with
      dev := { s.dev with pgOk := true, aonUs := s.dev.aonUs + elapsedMs * 1000 }
      pins := { s.pins with mainPower := true }
      sal := { s.sal with pgSinceStart := true } }
    if s.dev.savedBy = 3 then .next (if s.dev.coolOk then startFrom 1 s else s)
    else if s.dev.savedBy = 5 then .next (if s.dev.cycled then startFrom 1 s else s)
    else .next (startFrom 1 s)
  else .next s

/-- PIN_RESET (R549): by the state RST_N's release finds. [log 65: DEDUCED] -/
def execPinReset (s : State) : Host.Outcome State Fault Refusal :=
  if resettable s then .next (mainReset 2 (salCut s))
  else if s.saving then .next { s with pins := { s.pins with rstLatched := true } }
  else if s.dev.st = .sealed && s.dev.savedBy = 5 then .next (startFrom 2 s)
  else if s.dev.st = .halt && (s.dev.halt = .fault || s.dev.halt = .vabs) then .next (mainReset 2 (salCut s))
  else .next s

/-- RST_N_REJECT (R549): no effect. -/
def execRstNReject (s : State) : Host.Outcome State Fault Refusal := .next s

/-- HEAD_RESET (R257, R260, R548): one head only; ignored while a save runs, whose heads are shed (R557). -/
def execHeadReset (head : Head) (s : State) : Host.Outcome State Fault Refusal :=
  if s.saving || !s.alive then .next s else .next (headDown head true s)

/-- POWER_FAIL_DETECTION (R57, R58, R128): save trigger 1 or 2, a second trigger, or a detection counted with HOLD_ARM 0.
[log 18: DEDUCED] -/
def execPowerFailDetection (vmain : Bool) (sinceNs : Nat) (s : State) : Host.Outcome State Fault Refusal :=
  let t := if vmain then Trigger.vmain else Trigger.pfail
  let s1 := { s with pins := { s.pins with mainPower := false }, dev := { s.dev with cycled := true } }
  if s.dev.st = .off then .next s
  else if s.saving then .next (laterTrigger t sinceNs s1)
  else if s.sal.holdArm && s.running then .next (beginSave t sinceNs s1)
  else .next { s1 with sal := { s1.sal with unarmedPf := satAdd 16 s1.sal.unarmedPf 1, pgSinceStart := false } }

/-- GLITCH_REJECT (R57). -/
def execGlitchReject (s : State) : Host.Outcome State Fault Refusal :=
  if s.dev.st = .off then .next s
  else .next { s with sal := { s.sal with glitches := satAdd 16 s.sal.glitches 1 } }

/-- MAIN_POWER_RETURNED (R62, R159): the save goes on and records it. -/
def execMainPowerReturned (s : State) : Host.Outcome State Fault Refusal :=
  if s.saving then
    .next { s with hrv := { s.hrv with supplyReturned := true }, pins := { s.pins with mainPower := true } }
  else .next s

end Sys2Proof.Machine
end

