-- ==== Sys2Proof/Machine/EnergyOps.lean ====
section
/-!
DEFINITION. The Salinometer's arithmetic (R49 to R56, R71, R559 to R561), the charger (R63 to R65), a new source (R54), and the
governor's budget (R24 to R28, R111, R114, R115, R119, R120, R497, R499).
-/
namespace Sys2Proof.Machine

/-! ### Open-circuit voltage and state of charge (R559 to R561) -/

/-- Point 1 and point 16 bound the window in parts per billion. -/
def ppb : Nat := 1000000000

/-- The table's points at pack level: millivolts times SERIES. -/
def Profile.packOcv (p : Profile) : List OcvPoint := p.ocv.map fun x => { x with mv := x.mv * p.series }

/-- Adjacent points. -/
def segmentsOf (l : List OcvPoint) : List (OcvPoint × OcvPoint) := l.zip l.tail

/-- Twice the integral of v over state of charge from 0 to `s` (R561), mV × ppb. -/
def ocvArea (l : List OcvPoint) (s : Nat) : Nat :=
  (segmentsOf l).foldl (fun a e =>
    if s ≤ e.1.s then a
    else
      let d := min s e.2.s - e.1.s
      a + d * (2 * e.1.mv) + d * d * (e.2.mv - e.1.mv) / (e.2.s - e.1.s)) 0

/-- Mean open-circuit pack voltage across the window, mV (R561: SERIES × v̄). -/
def Profile.meanMv (p : Profile) : Nat := ocvArea p.packOcv ppb / (2 * ppb)

/-- C_E × F(s) (R561), mJ. -/
def Profile.windowMj (p : Profile) (cE s : Nat) : Nat :=
  let whole := ocvArea p.packOcv ppb
  if whole = 0 then 0 else cE * ocvArea p.packOcv s / whole

/-- A pack voltage lies in a segment (R560). -/
def inSeg (v : Nat) (e : OcvPoint × OcvPoint) : Bool := e.1.mv ≤ v && v ≤ e.2.mv

/-- A segment is anchorable (R560). -/
def segAnchors (e : OcvPoint × OcvPoint) : Bool := e.1.anchorable && e.2.anchorable && e.1.mv < e.2.mv

/-- Interpolation in a segment. -/
def segAt (v : Nat) (e : OcvPoint × OcvPoint) : Nat :=
  if e.1.mv < e.2.mv then e.1.s + (v - e.1.mv) * (e.2.s - e.1.s) / (e.2.mv - e.1.mv) else e.1.s

/-- State of charge at a relaxed pack voltage: interpolated in the lowest-numbered segment, end points beyond the table. -/
def Profile.socAt (p : Profile) (v : Nat) : Nat :=
  match p.packOcv.head?, p.packOcv.getLast? with
  | some a, some z =>
    if v < a.mv then a.s else if z.mv < v then z.s
    else (((segmentsOf p.packOcv).find? fun e => inSeg v e).map fun e => segAt v e).getD a.s
  | _, _ => 0

/-- Whether a relaxed pack voltage anchors (R560). -/
def Profile.anchors (p : Profile) (v : Nat) : Bool :=
  match p.packOcv.head?, p.packOcv.getLast? with
  | some a, some z =>
    if v < a.mv then a.anchorable else if z.mv < v then z.anchorable
    else ((segmentsOf p.packOcv).filter fun e => inSeg v e).all segAnchors
  | _, _ => false

/-- The lowest state of charge a pack voltage allows (R560). -/
def Profile.lowestSoc (p : Profile) (v : Nat) : Nat :=
  match p.packOcv.head?, p.packOcv.getLast? with
  | some a, some z =>
    if v < a.mv then a.s else if z.mv < v then z.s
    else (((segmentsOf p.packOcv).find? fun e => inSeg v e).map fun e => e.1.s).getD a.s
  | _, _ => 0

/-- A battery counts charge (R50): Li-ion and LiFePO4. -/
def Profile.battery (p : Profile) : Bool := p.kind = 1 || p.kind = 2

/-- State of charge re-anchored from the present open-circuit voltage (R55). -/
def Profile.reanchor (p : Profile) (v : Nat) : Nat := if p.anchors v then p.socAt v else p.lowestSoc v

/-! ### Usable energy (R51) -/

/-- Piecewise linear table over temperature; 0 outside it (R56). -/
def derateAt : List (Int × Nat) → Int → Nat
  | [], _ => 0
  | [(t, f)], x => if x = t then f else 0
  | (t, f) :: (u, g) :: r, x =>
    if x < t then 0
    else if x ≤ u then ((f : Int) + ((g : Int) - f) * (x - t) / (u - t)).toNat
    else derateAt ((u, g) :: r) x

/-- Piecewise linear table of millivolts held flat beyond its ends (R110, EFF), at a voltage in microvolts: the exact value in thousandths,
as a numerator and a denominator. -/
def effFrac : List (Nat × Nat) → Nat → Nat × Nat
  | [], _ => (0, 1)
  | [(_, f)], _ => (f, 1)
  | (v, f) :: (u, g) :: r, x =>
    if x ≤ v * 1000 then (f, 1)
    else if x ≤ u * 1000 then (((f : Int) * (u * 1000 - x) + (g : Int) * (x - v * 1000)).toNat, (u - v) * 1000)
    else effFrac ((u, g) :: r) x

/-- EFF in thousandths, truncated, as GOV_ETA shows it. -/
def effAt (l : List (Nat × Nat)) (uv : Nat) : Nat := (effFrac l uv).1 / (effFrac l uv).2

/-- Lowest enabled thermistor reading (R51, R56). -/
def State.tBk (s : State) : Option Int :=
  match s.sal.ntc0, s.sal.ntc1 with
  | some a, some b => some (min a b)
  | some a, none => some a
  | none, b => b

/-- Open-circuit estimate V_oc, mV. -/
def State.vOc (s : State) : Nat := ((s.sal.vbkMv : Int) + s.sal.ibkMa * s.sal.esr / 1000000).toNat

/-- Window energy E_win, mJ, at an open-circuit voltage and a state of charge. -/
def winMj (p : Profile) (cE vOc soc : Nat) : Nat :=
  if p.battery then p.windowMj cE soc
  else if p.kind = 4 then p.windowMj cE (p.socAt vOc)
  else
    let lo := p.vFloor * p.series
    let hi := p.vCeil * p.series
    if hi ≤ lo then 0 else cE * (vOc * vOc - lo * lo) / (hi * hi - lo * lo)

/-- E_use of R51 at an open-circuit voltage and state of charge, mJ. [log 20: DEDUCED] -/
def State.euseAt (s : State) (p : Profile) (vOc soc : Nat) : Nat :=
  let w := vOc + p.vFloor * p.series
  let den := 250 * w * w + p.pSave * s.sal.esr
  let d := match s.tBk with | none => 0 | some t => derateAt p.derate t
  if den = 0 then 0 else winMj p s.sal.capacity vOc soc * (250 * w * w) / den * d / 1000

/-- The computed E_use, before projection. -/
def State.euseComputed (s : State) : Nat :=
  match s.profile with
  | none => 0
  | some p => s.euseAt p s.vOc s.sal.soc

/-- The pack energy derived from the pack's present voltage under R55 (R497). -/
def State.euseByVoltage (s : State) : Nat :=
  match s.profile with
  | none => 0
  | some p => s.euseAt p s.vOc (p.reanchor s.vOc)

/-- A pin reading in microvolts with its gain and offset (R71): gain 0x8000 is 1. -/
def calUv (c : AdcCal) (uv : Int) : Int := uv * c.gain / 0x8000 + c.offset

/-- A rail in millivolts from its pin (R71, R77): a ratio in thousandths. -/
def railMv (c : AdcCal) (ratio : Nat) (uv : Nat) : Nat := (calUv c uv * ratio / 1000000).toNat

/-- Backup current in mA from the shunt's 0.1 microvolt reading (R48, R77). -/
def shuntMa (c : SealCal) (v : Int) : Int := if c.shuntNohm = 0 then 0 else calUv c.ibk v * 100000 / c.shuntNohm

/-! ### PMBus targets (R63, R64) and the charger (R65) -/

def State.pmbList (s : State) : List PmbTarget := match s.lay.inForce with | none => [] | some l => l.pmbus

def State.pmb (s : State) (n : Nat) : PmbState := tblGet {} s.sal.pmb n

/-- The number of the target with a role. -/
def State.pmbOf (s : State) (r : PmbRole) : Option Nat := s.pmbList.findIdx? fun t => t.role = r

/-- A declared target of a role is absent, or shows a fault (R64); one not yet polled for 1 s is not absent. -/
def State.pmbBad (s : State) (r : PmbRole) : Bool :=
  match s.pmbOf r with
  | none => false
  | some n => (s.pmb n).absent || (s.pmb n).fault

/-- The charger may be on (R65); while every enabled thermistor is broken there is no lowest reading and it stays off. [log 20: DEDUCED] -/
def State.chargerAllowed (s : State) : Bool :=
  match s.profile, s.tBk with
  | some p, some t =>
    s.alive && !s.saving && !s.dev.startDue && p.chargeTmin ≤ t && t ≤ p.chargeTmax &&
      !(2 ≤ s.sal.learn.step && s.sal.learn.step ≤ 6)
  | _, _ => false

/-- The charger is switched as R65 allows (OPERATION, R63). -/
def chargerSync (s : State) : State := { s with sal := { s.sal with charging := s.chargerAllowed } }

/-- The charger's and the converter's sources (R64, R380). -/
def pmbSources (s : State) : State := fltCond 0x91 (s.pmbBad .converter) (fltCond 0x90 (s.pmbBad .charger) s)

/-! ### Validity and a new source (R54, R56) -/

/-- INVALID_CAUSE, the first that holds (R56, R77); 0 while the reading is valid. [log 20: DEDUCED] -/
def State.invalidCause (s : State) : Nat :=
  match s.profile with
  | none => if s.sal.adcFail then 1 else 6
  | some p =>
    if s.sal.adcFail then 1
    else if s.tBk.isNone then 2
    else if s.sal.vbkMv < p.plausLo || p.plausHi < s.sal.vbkMv then 3
    else match s.pmbOf .converter with
      | none => 0
      | some n => if (s.pmb n).absent then 4 else if (s.pmb n).fault then 5 else 0

/-- VALID and INVALID_CAUSE as they stand, with the source of the ADC self-check. -/
def validSync (s : State) : State :=
  let c := s.invalidCause
  fltCond 0x93 s.sal.adcFail { s with sal := { s.sal with valid := c = 0, invalidCause := c } }

/-- The part of E_draw not yet drawn (R67), mJ. -/
def State.projected (s : State) (e : Nat) : Nat :=
  if s.sal.learn.step = 0 then e else e - (s.sal.learn.eDraw - s.sal.learn.drawnUj / 1000)

/-! ### The governor's budget (R24, R27, R111, R114, R115, R120) -/

/-- The Salinometer's reading as R24 counts it. -/
def State.ownEuse (s : State) : Nat :=
  if s.sal.valid && s.dev.aonUs ≤ s.sal.euseAtUs + 4000 then s.sal.euse else 0

/-- E_use as the governor uses it (R24, R497, R499). -/
def State.euseNow (s : State) : Nat :=
  match s.cascade with
  | none => s.ownEuse
  | some c =>
    if !c.shared then s.ownEuse
    else if s.brl.whole then
      if s.dev.aonUs ≤ s.brl.armUs + 4000 then s.brl.eGroup * (c.shares[s.brl.index]?).getD 0 / 256 else 0
    else if s.sal.valid && s.dev.aonUs ≤ s.sal.euseAtUs + 4000 then s.euseByVoltage * c.aloneFrac / 256 else 0

/-- Loaded voltage at the window floor, µV, for an ESR (R111). [log 20: DEDUCED] -/
def State.vSv (s : State) (p : Profile) (esr : Nat) : Nat :=
  let lo := p.vFloor * p.series
  if lo = 0 then 0 else lo * 1000 - s.pSave * esr / lo

/-- k of R111 from a k_out in thousandths and EFF(V_sv), rounded up once. -/
def kOf (kOutMilli : Nat) (eff : Nat × Nat) : Nat := ceilDiv (kOutMilli * eff.2) eff.1

/-- The governor recomputes k, EFF(V_sv), E_fixed and E_ckpt (R111, R114). -/
def refreshK (s : State) : State :=
  match s.lay.inForce with
  | none => s
  | some l =>
    let v := s.vSv l.profile s.sal.esr
    let k := kOf s.drn.kOutMilli (effFrac l.gov.eff v)
    { s with drn := { s.drn with k := k, eta := effAt l.gov.eff v, eFixed := max l.gov.eFixed (4000 + ceilDiv k 32), eCkpt := l.gov.eCkpt } }

/-- The values of R53 for a new source, its state of charge re-anchored as at a start, from the present voltage without a rest, to the
lowest it allows where it does not anchor (R54, R55, R560); k follows the ESR (R111). [log 20: DEDUCED] -/
def newSource (p : Profile) (s : State) : State :=
  refreshK { s with sal := { s.sal with
      capacity := p.eNom * 8 / 10, esr := p.esrNom * 5 / 4, learnedUnder := some (p.kind, p.ident), learnedOnce := false
      soc := p.reanchor s.vOc, learnDue := true, reportReset := true, packRemoved := false, aonHours := 0
      learnRefUs := s.dev.aonUs } }

/-- A source whose KIND or identifier is not the recorded one is new (R54). -/
def sourceCheck (s : State) : State :=
  match s.profile with
  | none => s
  | some p => if s.sal.learnedUnder = some (p.kind, p.ident) then s else newSource p s

/-- B_sup in granules for a usable energy (R27). -/
def State.bsupOf (s : State) (e : Nat) : Nat :=
  if s.drn.k = 0 then 0 else (e - (s.drn.eFixed + s.drn.eCkpt)) * 262144 / s.drn.k

/-- Layout values in granules. -/
def State.bMax (s : State) : Nat := s.govParams.bMaxGib * 262144
def State.bGuard (s : State) : Nat := s.govParams.bGuardGib * 262144
def State.bMin (s : State) : Nat := s.govParams.bMinGib * 262144

/-- B_ceil in granules (R27). -/
def State.bceilOf (s : State) (e : Nat) : Nat := min s.bMax (s.bsupOf e - s.bGuard)

/-- Write credits are withheld (R28, R30): between B_bp and 16,384 granules below it, while ARMED. [log 69: DEDUCED] -/
def backpressureNext (armed old : Bool) (bbp b : Nat) : Bool :=
  armed && (bbp ≤ b || (old && bbp - 16384 < b))

/-- Write requests that credits already returned to a head's host cover (R29). -/
def headCredits : Nat := 2048

/-- Backpressure as the backlog and the ceiling in force say (R28 to R30), on both heads; while credits are returned, every head's host
holds its full number again. [log 69: DEDUCED] -/
def creditSync (s : State) : State :=
  let bp := backpressureNext (s.dev.st = .armed) s.gov.backpressure (s.gov.bceil - 135168) s.map.total
  let f := fun (x : HeadSt) => { x with creditsHeld := bp, credits := if bp || s.dmc.postedHeld then x.credits else headCredits }
  { s with gov := { s.gov with backpressure := bp }, heads := ⟨f s.heads.a, f s.heads.b⟩ }

/-- E_need for a backlog, mJ, rounded up (R27). -/
def State.eneedOf (s : State) (b : Nat) : Nat := s.drn.eFixed + s.drn.eCkpt + ceilDiv (s.drn.k * b) 262144

/-- The wear-hold point (R120); an eighth is taken in whole granules. [log 67: DEDUCED] -/
def bwhOf (be3 : Nat) : Nat := be3 - max 16384 (be3 / 8)

/-- The daily allowance, GiB (R119). [log 67: DEDUCED] -/
def State.aDayOf (s : State) : Nat :=
  let g := s.govParams
  (g.wLife - s.drn.wUsed / 2 ^ 30) / max 1 (s.drn.dLife - s.drn.dElapsed)

/-- D_life (R119): round(Y_LIFE × 365.25). -/
def dLifeOf (years : Nat) : Nat := (years * 36525 + 50) / 100

/-- The wear allowance is exhausted (R121). -/
def State.wearOut (s : State) : Bool := s.layoutOk && s.govParams.wLife ≤ s.drn.wUsed / 2 ^ 30

/-- A day's allowance recomputed (R119), with source 0xF3 (R121). -/
def newDay (s : State) : State := fltCond 0xF3 s.wearOut { s with drn := { s.drn with aDay := s.aDayOf } }

end Sys2Proof.Machine
end

