-- ==== Sys2Proof/Machine/Energy.lean ====
section
/-!
DEFINITION. The Salinometer's sampling and supervision commands (R51, R54 to R56, R60, R63 to R65).
-/
namespace Sys2Proof.Machine

/-- The ADCs and the processor run: every state but OFF and SEALED (R46). -/
def State.salRuns (s : State) : Bool := !(s.dev.st = .off || s.dev.st = .sealed)

/-- State of charge after a charge in quarter microcoulombs (R561): held within 0 to 1; a battery only (R50). -/
def State.socAfter (s : State) (ma : Int) : Nat :=
  match s.profile with
  | none => s.sal.soc
  | some p =>
    if p.battery && s.sal.capacity ≠ 0 then
      min ppb ((s.sal.soc : Int) - ma * 250 * p.meanMv / s.sal.capacity).toNat
    else s.sal.soc

/-- What one sample adds to a learning discharge, CALLOAD closed (R68, R74). -/
def learnSample (uj charge : Int) (mv : Nat) (ma : Int) (l : LearnRun) : LearnRun :=
  { l with
    drawnUj := (l.drawnUj + uj).toNat
    chargeUc := (l.chargeUc + charge).toNat
    minMv := min l.minMv mv
    peakMa := max l.peakMa ma.toNat }

/-- SAL_SAMPLE (R48, R51, R60, R561): simultaneous voltage and current, energy and charge over 250 µs; AON time advances with it. The energy
accumulator takes a charging current off and does not go below 0. [log 5: DESIGN CHOICE; 20: DEDUCED] -/
def execSalSample (vbkUv : Nat) (ibk : Int) (s : State) : Host.Outcome State Fault Refusal :=
  if s.salRuns then
    let c := s.sal.cal
    let mv := railMv c.vbk c.ratioVbk vbkUv
    let ma := shuntMa c ibk
    let uj := (mv : Int) * ma * 250 / 1000000
    let charge := ma / 4
    let soc := s.socAfter ma
    let x := s.sal
    let x := { x with
      vbkMv := mv, ibkMa := ma, soc := soc, tickChargeUc := charge
      accUj := (x.accUj + uj).toNat, saveChargeUc := (x.saveChargeUc + charge).toNat
      saveMinMv := min x.saveMinMv mv, savePeakMa := max x.savePeakMa ma.toNat
      learn := if x.callOad then learnSample uj charge mv ma x.learn else x.learn }
    .next { s with sal := x, dev := { s.dev with aonUs := s.dev.aonUs + 250 } }
  else .next s

/-! ### Thermistors (R48, R49) -/

/-- Twenty binary digits of the fraction of a base-2 logarithm, of a number in [1, 2) in units of 2^-32. -/
def logBits : Nat → Nat → Nat
  | 0, _ => 0
  | n + 1, y =>
    let z := y * y / 2 ^ 32
    if 2 ^ 33 ≤ z then 2 ^ n + logBits n (z / 2) else logBits n z

/-- Natural logarithm of a ratio of positive numbers, in units of 2^-20. -/
def lnRatio (a b : Nat) : Int :=
  let e : Int := (Nat.log2 a : Int) - Nat.log2 b
  let f := fun (x : Nat) => (logBits 20 (x * 2 ^ 32 / 2 ^ Nat.log2 x) : Int)
  (e * 2 ^ 20 + f a - f b) * 45426 / 65536

/-- Temperature of a thermistor of a resistance, 1/16 °C, by its Beta and its resistance at 25 °C (R50): 1/T = 1/298.15 K + ln(R/R25)/Beta;
none where it has no value. [log 20: DEDUCED] -/
def betaTemp (p : Thermistor) (ohm : Nat) : Option Int :=
  if ohm = 0 || p.ohm25 = 0 then none
  else
    let den := (p.beta : Int) * 100 * 2 ^ 20 + 29815 * lnRatio ohm p.ohm25
    if den ≤ 0 then none else some ((p.beta : Int) * 29815 * 16 * 2 ^ 20 / den - 4370)

/-- A thermistor's reading from its pin in microvolts at 10 µA, with the sealed gain and offset and the layout's parameters (R48, R71); none
while it is open or shorted, or disabled. -/
def ntcTemp (c : AdcCal) (p : Option Thermistor) (uv : Option Nat) : Option Int :=
  match p, uv with
  | some p, some v => betaTemp p ((calUv c v).toNat / 10)
  | _, _ => none

/-- A thermistor reading as it counts (R49): broken when open, shorted or outside −45 °C to +95 °C. -/
def ntcValid (on : Bool) (r : Option Int) : Option Int :=
  match r with
  | none => none
  | some t => if on && -720 ≤ t && t ≤ 1520 then some t else none

/-- An enabled thermistor is broken. -/
def ntcBroken (on : Bool) (r : Option Int) : Bool := on && (ntcValid on r).isNone

/-- Source temperatures of a save and of a learning cycle (R74; L4's mean of R68). -/
def trackTemps (s : State) : State :=
  match s.tBk with
  | none => s
  | some t =>
    let x := s.sal
    let l := if x.learn.step = 0 then x.learn else { x.learn with
      tLow := min x.learn.tLow s.srcLow, tHigh := max x.learn.tHigh s.srcHigh
      tSum := if x.learn.step = 4 then x.learn.tSum + t else x.learn.tSum
      tCount := if x.learn.step = 4 then x.learn.tCount + 1 else x.learn.tCount }
    { s with sal := { x with
        saveTLow := min x.saveTLow s.srcLow, saveTHigh := max x.saveTHigh s.srcHigh, learn := l } }

/-- A removed pack whose voltage is plausible again is a new source (R54). -/
def packReturn (s : State) : State :=
  match s.profile with
  | none => s
  | some p => if s.sal.packRemoved && p.plausLo ≤ s.sal.vbkMv && s.sal.vbkMv ≤ p.plausHi then newSource p s else s

/-- Every enabled thermistor reads within the LEARN window (R66). -/
def learnTempOk (p : Profile) (s : State) : Bool :=
  let ok := fun (on : Option Thermistor) (r : Option Int) => on.isNone || (match r with | none => false | some t => p.learnTmin ≤ t && t ≤ p.learnTmax)
  ok p.ntc0 s.sal.ntc0 && ok p.ntc1 s.sal.ntc1

/-- E_use a cycle would start from. -/
def State.learnEuse (s : State) : Nat := if s.sal.valid then s.sal.euseComputed else 0

/-- E_draw (R67): the LEARN depth, in thousandths, of E_use at the start. -/
def State.learnDraw (s : State) (p : Profile) : Nat := s.learnEuse * p.learnDepth / 1000

/-- The conditions of R66; in shared mode only the master runs cycles (R499). -/
def State.learnOk (s : State) : Bool :=
  match s.profile with
  | none => false
  | some p =>
    s.running && s.sal.pgSinceStart && s.sal.chargeDone && s.sal.rested && learnTempOk p s && !s.sal.sealOpen &&
      s.bMin ≤ s.bceilOf (s.learnEuse - s.learnDraw p) &&
      !((s.cascade.map fun c => c.shared).getD false && s.brl.role = 2)

/-- L1 (R67, R68): the projected E_use is published from here on. -/
def beginLearn (p : Profile) (s : State) : State :=
  let e := s.learnEuse
  let d := s.learnDraw p
  { s with sal := { s.sal with
      euse := e - d, deferrals := 0, learnDue := false
      learn := { step := 1, eAtStart := e, eDraw := d, startUs := s.dev.aonUs, minMv := s.sal.vbkMv, tLow := s.srcLow, tHigh := s.srcHigh } } }

/-- The first cycle on a new source starts as soon as R66 allows, tested at each publication (R54). -/
def learnWhenDue (s : State) : State :=
  match s.profile with
  | none => s
  | some p => if s.sal.learnDue && s.sal.learn.step = 0 && s.learnOk then beginLearn p s else s

/-- EUSE_PUBLISH (R51, R54, R56, R65, R67): thermistors, main supply and self-check; a new source; validity; E_use, projected in a
learning cycle; a new source's first cycle. An invalid reading publishes nothing. -/
def execEusePublish (ntc0 ntc1 : Option Nat) (vmainUv : Nat) (adcFail : Bool) (s : State) : Host.Outcome State Fault Refusal :=
  if s.salRuns then
    let p0 := s.profile.bind fun p => p.ntc0
    let p1 := s.profile.bind fun p => p.ntc1
    let c := s.sal.cal
    let t0 := ntcTemp c.ntc0 p0 ntc0
    let t1 := ntcTemp c.ntc1 p1 ntc1
    let s := { s with sal := { s.sal with
      ntcRead := true, ntc0 := ntcValid p0.isSome t0, ntc1 := ntcValid p1.isSome t1, adcFail := adcFail, vmainMv := railMv c.vmain c.ratioVmain vmainUv } }
    let s := fltCond 0x92 (ntcBroken p0.isSome t0 || ntcBroken p1.isSome t1) s
    let s := trackTemps s
    let s := sourceCheck s
    let s := chargerSync (validSync (packReturn s))
    if s.sal.valid then
      let e := s.euseComputed
      .next (learnWhenDue { s with sal := { s.sal with euseComputed := e, euse := s.projected e, euseAtUs := s.dev.aonUs } })
    else .next s
  else .next s

/-- PACK_REMOVED (R54): the pack stays below the low end of V_PLAUS for 1 s. -/
def execPackRemoved (s : State) : Host.Outcome State Fault Refusal :=
  match s.profile with
  | none => .next s
  | some p => if s.salRuns && s.sal.vbkMv < p.plausLo then .next { s with sal := { s.sal with packRemoved := true } } else .next s

/-- SOC_REANCHOR (R55, R66): the rest time has passed. A battery's state of charge is re-anchored at a voltage that anchors, and
stays as counted at one that does not. -/
def execSocReanchor (s : State) : Host.Outcome State Fault Refusal :=
  match s.profile with
  | none => .next s
  | some p =>
    if s.salRuns && !s.saving && !s.sal.callOad then
      let v := s.vOc
      .next { s with sal := { s.sal with
        rested := true, soc := if p.battery && p.anchors v then p.socAt v else s.sal.soc } }
    else .next s

/-- CLEAR_FAULTS is due (R63): once per fault, after the condition has gone. -/
def clearDue (old : PmbState) (r : PmbReading) : Bool := r.fault && !r.condition && !old.cleared

/-- A signed number of w bits. -/
def signedOf (w v : Nat) : Int := if v % 2 ^ w < 2 ^ (w - 1) then (v % 2 ^ w : Int) else (v % 2 ^ w : Int) - 2 ^ w

/-- m times 2^e in thousandths. -/
def scaled (m e : Int) : Int := if 0 ≤ e then m * 1000 * 2 ^ e.toNat else m * 1000 / 2 ^ (-e).toNat

/-- A Linear11 word in thousandths (R63): a 5-bit exponent and an 11-bit mantissa, both signed. [log 22: DEDUCED] -/
def linear11 (w : Nat) : Int := scaled (signedOf 11 w) (signedOf 5 (w / 2 ^ 11))

/-- A Linear16 word in thousandths under the exponent VOUT_MODE gives (R63). [log 22: DEDUCED] -/
def linear16 (mode w : Nat) : Int := scaled (w % 65536) (signedOf 5 mode)

/-- A mantissa and exponent as a Linear11 word: the mantissa is halved until it has 10 bits. -/
def toLinear11 : Nat → Nat → Int → Nat
  | 0, m, e => (e % 32).toNat * 2 ^ 11 + m % 1024
  | n + 1, m, e => if m < 1024 then (e % 32).toNat * 2 ^ 11 + m else toLinear11 n (m / 2) (e + 1)

/-- A target's state after a poll that it answered (R63): VOUT_MODE is read once after the start; the charger's voltage and current limit are
sent at its first answer after the start and after CLEAR_FAULTS. READ_VOUT is mirrored in Linear11 (R520). [log 22: DEDUCED] -/
def pmbAfter (charge : Option (Nat × Nat)) (old : PmbState) (r : PmbReading) : PmbState :=
  let mode := old.voutMode.getD r.voutMode
  let send := old.voutMode.isNone || clearDue old r
  { present := true, absent := false, fault := r.fault, voutMode := some mode
    voutCommand := if send then charge.map (·.1) else old.voutCommand, iLimit := if send then charge.map (·.2) else old.iLimit
    milli := [linear11 r.vin, linear16 mode r.vout, linear11 r.iout, linear11 r.temp]
    vin := r.vin, vout := toLinear11 6 (r.vout % 65536) (signedOf 5 mode), iout := r.iout, temp := r.temp
    cleared := r.fault && (old.cleared || !r.condition)
    clears := if clearDue old r then old.clears + 1 else old.clears }

/-- What the master sends a target of a role: the charger gets CHARGE's voltage and current limit (R63). -/
def State.chargeFor (s : State) (r : PmbRole) : Option (Nat × Nat) :=
  if r = .charger then s.profile.map fun p => (p.chargeMv, p.chargeMa) else none

/-- What the charger's status says (R55, R66). -/
def chargeStatus (done : Bool) (s : State) : State :=
  let anchor := done && (s.profile.map fun p => p.battery).getD false
  { s with sal := { s.sal with
      chargeDone := done, soc := if anchor then ppb else s.sal.soc, rested := s.sal.rested && done } }

/-- PMBUS_POLL (R63 to R65, R521): STATUS_WORD and telemetry of one target, after `nacks` unacknowledged attempts; none when all four
failed. No transaction starts during a save, without a layout, or while the master is off. [log 22: DEDUCED] -/
def execPmbusPoll (target : Nat) (reading : Option PmbReading) (nacks : Nat) (sdaHeld : Bool) (s : State) :
    Host.Outcome State Fault Refusal :=
  match s.pmbList[target]? with
  | none => .next s
  | some t =>
    if s.salRuns && !s.saving then
      let s := { s with svc := { s.svc with
        nacks := satAdd 16 s.svc.nacks (if reading.isNone then 4 else nacks)
        recoveries := if sdaHeld then satAdd 8 s.svc.recoveries 1 else s.svc.recoveries } }
      match reading with
      | none => .next s
      | some r =>
        let s := { s with sal := { s.sal with pmb := tblPut {} target (pmbAfter (s.chargeFor t.role) (s.pmb target) r) s.sal.pmb } }
        let s := if t.role = .charger then chargeStatus r.chargeDone s else s
        .next (chargerSync (validSync (pmbSources s)))
    else .next s

/-- PMBUS_TARGET_ABSENT (R64): no successful transaction for 1 s. -/
def execPmbusTargetAbsent (target : Nat) (s : State) : Host.Outcome State Fault Refusal :=
  if target < s.pmbList.length && s.salRuns && !s.saving then
    let off := { s.pmb target with present := false, absent := true, fault := false, milli := [], vin := 0, vout := 0, iout := 0, temp := 0 }
    .next (validSync (pmbSources { s with sal := { s.sal with pmb := tblPut {} target off s.sal.pmb } }))
  else .next s

end Sys2Proof.Machine
end

