-- ==== Sys2Proof/Machine/Learn.lean ====
section
/-!
DEFINITION. Learning cycles (R53, R54, R66 to R69, R76).
-/
namespace Sys2Proof.Machine

/-- A cycle starts, or is deferred (R66). -/
def learnOrDefer (s : State) : State :=
  match s.profile with
  | none => s
  | some p =>
    if s.sal.learn.step ≠ 0 then s
    else if s.learnOk then beginLearn p s
    else { s with sal := { s.sal with deferrals := satAdd 8 s.sal.deferrals 1 } }

/-- LEARN_INTERVAL (R66): the interval, or a deferral's hour, has passed. -/
def execLearnInterval (s : State) : Host.Outcome State Fault Refusal :=
  .next (if s.salRuns && !s.saving then learnOrDefer s else s)

/-- A write of SAL_LEARN_CTL acts for a head that holds cell 1 while the window is served; else it is recorded (R66, R532).
[log 14: DEDUCED] -/
def learnCtl (port : Port) (k : State → State) (s : State) : State :=
  match port with
  | .headA => if s.holds .a 1 then k s else regViolate port 4 s
  | .headB => if s.holds .b 1 then k s else regViolate port 4 s
  | .rake => regViolate port 5 s

/-- START_LEARN (R66). -/
def execStartLearn (port : Port) (s : State) : Host.Outcome State Fault Refusal :=
  .next (if s.windowOpen port then learnCtl port learnOrDefer s else s)

/-- ABORT_LEARN (R68, R69, R77): LAST_RESULT 7; the charger turns on. -/
def execAbortLearn (port : Port) (s : State) : Host.Outcome State Fault Refusal :=
  .next (if s.windowOpen port then learnCtl port (fun s => chargerSync (endLearn 7 s)) s else s)

/-- NEW_SOURCE (R54). -/
def execNewSource (port : Port) (s : State) : Host.Outcome State Fault Refusal :=
  .next (if s.windowOpen port then learnCtl port (fun s => match s.profile with | none => s | some p => newSource p s) s else s)

/-- LEARN_L1_BACKLOG_MET (R68, L2): charger off, the relaxed open-circuit voltage recorded, CALLOAD closed. -/
def execLearnL1BacklogMet (s : State) : Host.Outcome State Fault Refusal :=
  if s.sal.learn.step = 1 && s.map.total ≤ s.bceilOf s.euseNow then
    let l := s.sal.learn
    .next { s with sal := { s.sal with
      charging := false, rested := false, chargeDone := false, callOad := true
      learn := { l with step := 3, ocvL2 := s.vOc, vBefore := s.sal.vbkMv, drawnUj := 0, chargeUc := 0 } } }
  else .next s

/-- LEARN_L1_TIMEOUT (R68): LAST_RESULT 3. -/
def execLearnL1Timeout (s : State) : Host.Outcome State Fault Refusal :=
  .next (if s.sal.learn.step = 1 then chargerSync (endLearn 3 s) else s)

/-- LEARN_ESR_MEASURE (R68, L3): from the voltage step and the current 1 ms after; no number is stated without a current. -/
def execLearnEsrMeasure (s : State) : Host.Outcome State Fault Refusal :=
  if s.sal.learn.step = 3 then
    let l := s.sal.learn
    if 0 < s.sal.ibkMa then
      let r := (((l.vBefore : Int) - s.sal.vbkMv) * 1000000 / s.sal.ibkMa).toNat
      .next { s with sal := { s.sal with learn := { l with step := 4, esrMeasured := r } } }
    else
      .next { s with
        sal := { s.sal with learn := { l with step := 4, esrMeasured := (Config.number s.free).toNat } }
        free := s.free + 1 }
  else .next s

/-- LEARN_DISCHARGE_END (R68, L4 to L5): E_draw drawn, or the loaded voltage at the floor; CALLOAD opens. -/
def execLearnDischargeEnd (s : State) : Host.Outcome State Fault Refusal :=
  let l := s.sal.learn
  let floor := (s.profile.map fun p => p.vFloor * p.series).getD 0
  if l.step = 4 && (l.eDraw ≤ l.drawnUj / 1000 || s.sal.vbkMv ≤ floor) then
    .next { s with sal := { s.sal with callOad := false, learn := { l with step := 5 } } }
  else .next s

/-- LEARN_DISCHARGE_TIMEOUT (R68): LAST_RESULT 4. -/
def execLearnDischargeTimeout (s : State) : Host.Outcome State Fault Refusal :=
  .next (if s.sal.learn.step = 4 then chargerSync (endLearn 4 s) else s)

/-- The capacity a cycle measured, mJ (R68, L6), at L4's mean temperature, 0 °C where no publication fell in L4: none where the charge
states do not differ or the derating is 0, for which no
number is stated. [log 19: DEDUCED] -/
def measuredCap (p : Profile) (l : LearnRun) (v5 : Nat) : Option Nat :=
  let mean : Int := if l.tCount = 0 then 0 else l.tSum / l.tCount
  let d := derateAt p.derate mean
  if p.kind = 3 then
    let lo := p.vFloor * p.series
    let hi := p.vCeil * p.series
    if l.ocvL2 ≤ v5 || d = 0 then none
    else some (l.chargeUc * (hi * hi - lo * lo) / (2 * (l.ocvL2 - v5) * 1000000) * 1000 / d)
  else
    let s2 := p.socAt l.ocvL2
    let s5 := p.socAt v5
    if s2 ≤ s5 || d = 0 then none
    else some (l.chargeUc * ppb / (s2 - s5) * p.meanMv / 1000000 * 1000 / d)

/-- The capacity after a result (R53): lower in full; higher as 0.75 old and 0.25 measured, by at most 5%. [log 19: DEDUCED] -/
def capAfter (old m : Nat) : Nat := if m ≤ old then m else min ((3 * old + m) / 4) (old * 105 / 100)

/-- The ESR after a result (R53): higher in full; lower as 0.75 old and 0.25 measured, by at most 5%. [log 19: DEDUCED] -/
def esrAfter (old m : Nat) : Nat := if old ≤ m then m else max ((3 * old + m) / 4) (old * 95 / 100)

/-- LEARN_REST_END (R68, L5 to L7; R53, R55, R69): the relaxed voltage is recorded, ESR applies, capacity applies where both voltages
anchor, k follows (R111), the charger turns on. -/
def execLearnRestEnd (s : State) : Host.Outcome State Fault Refusal :=
  match s.profile with
  | none => .next s
  | some p =>
    if s.sal.learn.step = 5 then
      let l := s.sal.learn
      let v5 := s.vOc
      let skipped := p.kind ≠ 3 && !(p.anchors l.ocvL2 && p.anchors v5)
      let m := match measuredCap p l v5 with
        | some c => c
        | none => (Config.number s.free).toNat
      let cap := if skipped then s.sal.capacity else capAfter s.sal.capacity m
      let drawn := (measuredCap p l v5).isNone && !skipped
      let s := { s with
        free := if drawn then s.free + 1 else s.free
        sal := { s.sal with
          capacity := cap, esr := esrAfter s.sal.esr l.esrMeasured, rested := true
          soc := if p.battery && p.anchors v5 then p.socAt v5 else s.sal.soc
          learn := { l with step := 7, capSkipped := skipped, capResult := if skipped then 0 else m } } }
      .next (chargerSync (refreshK s))
    else .next s

/-- LEARN_COMPLETE (R68, L7): the charger reports charge complete; the record is written and the interval restarts (R66, R77). -/
def execLearnComplete (s : State) : Host.Outcome State Fault Refusal :=
  if s.sal.learn.step = 7 && s.sal.chargeDone then
    .next (endLearn 0 s)
  else .next s

end Sys2Proof.Machine
end

