-- ==== Sys2Proof/Machine/Seal.lean ====
section
/-!
DEFINITION. Seal breaks and the sealed calibration (R70 to R73, R77), for heads and the Rake Port, and nonces that lapse (R478).
-/
namespace Sys2Proof.Machine

/-- The checks of R72, step 4, in their order: the status a break is answered with, 0 where it stands. -/
def sealCheck (port : Port) (token : Token) (strapLow : Bool) (s : State) : Nat :=
  if !strapLow then 7
  else if 16 ≤ s.sal.breaksUsed then 8
  else if s.saving then 3
  else s.tokenStatus .seal port token (token.count = s.sal.breaksUsed)

/-- Steps 4 and 5 of R72: a learning cycle aborts, the fused counter steps, then the seal is open and its record written.
[log 21: DEDUCED] -/
def openSeal (port : Port) (s : State) : State :=
  let s := chargerSync (endLearn 6 (dropNonce .seal port s))
  let s := { s with sal := { s.sal with breaksUsed := s.sal.breaksUsed + 1 } }
  let s := { s with sal := { s.sal with sealOpen := true, staged := s.sal.cal } }
  putSalRec (mkSalRec 4 0 0 0 0 0 0 0 0 0 0 s)

/-- A Seal Break from a port: the state after it and its status. -/
def sealBreakOp (port : Port) (token : Token) (strapLow : Bool) (s : State) : State × Nat :=
  let s := { s with sal := { s.sal with sealStrap := strapLow } }
  let c := sealCheck port token strapLow s
  if c = 0 then (openSeal port s, 0) else (tokenFailed c s, c)

/-- Step 7 of R72: the staged set is committed and applied, OPEN clears, and the seal-close record carries its digest. -/
def closeSeal (s : State) : State × BitVec 256 :=
  let t := mkSalRec 5 0 0 0 0 0 0 0 0 0 0 { s with sal := { s.sal with cal := s.sal.staged, sealOpen := false, lastClose := 1 } }
  (putSalRec t, t.2.digest)

/-- A Seal Close is refused unless PG_MV exceeds UV_MV (R77) and the power-good time lies in its 10 to 1,000 ms (R62); without an open seal
the state does not allow it. [log 21: DEDUCED] -/
def sealCloseStatus (s : State) : Nat :=
  let c := s.sal.staged
  if !s.sal.sealOpen then 3 else if c.pgMv ≤ c.uvMv || c.pgMs < 10 || 1000 < c.pgMs then 0x11 else 0

/-- SEAL_NONCE (R72, R478). -/
def execSealNonce (head : Head) (gen : BitVec 16) (s : State) : Host.Outcome State Fault Refusal :=
  .next (guarded head 1 gen 0xC130 false (fun s =>
    match makeNonce .seal head.port s with
    | (s, some n) => reply head 0xC130 0 (.nonce n) s
    | (s, none) => reply head 0xC130 4 .empty s) s)

/-- SEAL_BREAK (R72). -/
def execSealBreak (head : Head) (gen : BitVec 16) (token : Token) (strapLow : Bool) (s : State) : Host.Outcome State Fault Refusal :=
  .next (guarded head 1 gen 0xC131 false (fun s =>
    let t := sealBreakOp head.port token strapLow s
    reply head 0xC131 t.2 (if t.2 = 0 then .bytes [t.1.sal.breaksUsed] else .empty) t.1) s)

/-- SEAL_CLOSE (R72, R77). -/
def execSealClose (head : Head) (gen : BitVec 16) (s : State) : Host.Outcome State Fault Refusal :=
  .next (guarded head 1 gen 0xC132 false (fun s =>
    let c := sealCloseStatus s
    if c = 0 then
      let t := closeSeal s
      reply head 0xC132 0 (.blob (t.2.setWidth 512)) t.1
    else reply head 0xC132 c .empty s) s)

/-- RAKE_SEAL_BREAK (R72, R514, R517). -/
def execRakeSealBreak (tag : Nat) (token : Token) (strapLow : Bool) (s : State) : Host.Outcome State Fault Refusal :=
  .next (rakeOp 0x21 tag 0x100 State.running (rakeCell 0x21 tag 1 (fun s =>
    let t := sealBreakOp .rake token strapLow s
    rakeReply 0x21 tag t.2 (if t.2 = 0 then .bytes [t.1.sal.breaksUsed] else .empty) t.1)) s)

/-- RAKE_SEAL_CLOSE (R72, R514, R517). -/
def execRakeSealClose (tag : Nat) (s : State) : Host.Outcome State Fault Refusal :=
  .next (rakeOp 0x22 tag 0x100 State.running (rakeCell 0x22 tag 1 (fun s =>
    let c := sealCloseStatus s
    if c = 0 then
      let t := closeSeal s
      rakeReply 0x22 tag 0 (.blob (t.2.setWidth 512)) t.1
    else rakeReply 0x22 tag c .empty s)) s)

/-- SEAL_ABANDON (R73): for the strap, SEAL_N has gone high. -/
def execSealAbandon (cause : SealLoss) (s : State) : Host.Outcome State Fault Refusal :=
  let s := if cause = .strap then { s with sal := { s.sal with sealStrap := false } } else s
  .next (abandonSeal s)

/-- A signed 16-bit field. -/
def signed16 (v : Nat) : Int := if v % 65536 < 32768 then (v % 65536 : Int) else (v % 65536 : Int) - 65536

/-- A channel's calibration register as written (R77). -/
def adcOf (v : Nat) : AdcCal := ⟨v % 65536, signed16 (v / 65536)⟩

/-- A write into the staged copy (R72, R77), by offset in the SAL block. -/
def calWrite (offset value : Nat) (c : SealCal) : SealCal :=
  if offset = 0x100 then { c with vbk := adcOf value }
  else if offset = 0x104 then { c with ibk := adcOf value }
  else if offset = 0x108 then { c with vmain := adcOf value }
  else if offset = 0x10C then { c with ntc0 := adcOf value }
  else if offset = 0x110 then { c with ntc1 := adcOf value }
  else if offset = 0x114 then { c with ratioVbk := value % 65536 }
  else if offset = 0x118 then { c with ratioVmain := value % 65536 }
  else if offset = 0x11C then { c with shuntNohm := value % 2 ^ 24 }
  else if offset = 0x120 then { c with uvMv := value % 65536, pgMv := value / 65536 % 65536 }
  else if offset = 0x124 then { c with pgMs := value % 1024 }
  else c

/-- A write to a sealed calibration register by a port: the Rake Port, or a head that holds cell 1, while the seal is open (R77,
R532). [log 21: DEDUCED] -/
def calRegWrite (port : Port) (offset value : Nat) (s : State) : State :=
  if !s.sal.sealOpen then regViolate port 5 s
  else
    let ok := match port with | .headA => s.holds .a 1 | .headB => s.holds .b 1 | .rake => true
    if ok then { s with sal := { s.sal with staged := calWrite offset value s.sal.staged } } else regViolate port 4 s

/-- CALIBRATION_WRITE (R72, R77). -/
def execCalibrationWrite (port : Port) (offset value : Nat) (s : State) : Host.Outcome State Fault Refusal :=
  .next (if s.windowOpen port then calRegWrite port offset value s else s)

/-- NONCE_EXPIRY (R478): 60 s after its issue. -/
def execNonceExpiry (kind : NonceKind) (port : Port) (s : State) : Host.Outcome State Fault Refusal :=
  .next (dropNonce kind port s)

end Sys2Proof.Machine
end

