-- ==== Sys2Proof/Machine/SalMap.lean ====
section
/-!
DEFINITION. The Salinity Map's commands (R83 to R100).
-/
namespace Sys2Proof.Machine

/-- The Salinity Map works: its ledger, RST and Harvest Map are valid (R101 READY), in a state that runs or saves. -/
def State.mapOn (s : State) : Bool := s.map.ready && (s.running || s.saving || s.dev.st = .reflood)

/-! ### Repairs (R100) -/

/-- A repair is counted and told (R100, R101). -/
def repairTell (cause r : Nat) (s : State) : State :=
  fltRaise 0x80 0 { s with map := { s.map with repairs := satAdd 16 s.map.repairs 1, lastCause := cause, repairRegion := r } }

/-- A region's line is set to all ones and its DIRTY to 512; a fill under way then returns (R91, R100). -/
def fullRegion (r : Nat) (s : State) : State :=
  let d := (s.rstOf r).dirty
  let s := rstUpd r (fun x => { x with dirty := 512 }) (setLine r fullLine s)
  fillDone r (capDirty { s with map := { s.map with total := s.map.total + (512 - d) } })

/-- The repair of a line that cannot be trusted. [log 23: DESIGN CHOICE] -/
def repairLine (cause r : Nat) (s : State) : State := if r < s.regions then repairTell cause r (fullRegion r s) else s

/-- A Harvest Map line that cannot be read: the bits of its eight granules. -/
def repairMapLine (n : Nat) (s : State) : State :=
  if n * 8 < s.granules then
    repairTell 4 (regionOf (n * 8)) ((List.range 8).foldl (fun s k => setBit (n * 8 + k) s) s)
  else s

/-- A Harvest Map entry as it was read: one that fails its check or holds STATE 0b11 sets its granule's bit (R81, R100). -/
def repairMapEntry (g word : Nat) (s : State) : State :=
  if g < s.granules && (HmEntry.ofWord word).isNone then repairTell 4 (regionOf g) (setBit g s) else s

/-- An RST entry that cannot be read: rebuilt from the ledger line. -/
def repairRst (r : Nat) (s : State) : State :=
  if r < s.regions then
    let n := lineCount (s.lineOf r)
    let d := (s.rstOf r).dirty
    let e := s.withHot { dirty := n, epoch := s.map.epoch, restored := false, hot := false, lost := false, zero := false }
    repairTell 5 r { rstUpd r (fun _ => e) s with map := { (rstUpd r (fun _ => e) s).map with total := s.map.total + n - d } }
  else s

/-- The repair that what an operation met on its way asks for (R100); `r` is the operation's region. -/
def mapRepair (r : Nat) (d : MapDamage) (s : State) : State :=
  match d with
  | .none => s
  | .lineUncorrectable => repairLine 2 r s
  | .cacheUncorrectable => repairLine 3 r s
  | .mapLine n => repairMapLine n s
  | .mapEntry g w => repairMapEntry g w s
  | .rstUncorrectable => repairRst r s

/-! ### Commands -/

/-- MARK (R83, R84, R91); what it meets that cannot be trusted is repaired first (R100). -/
def execMarkGranule (granule : Nat) (damage : MapDamage) (s : State) : Host.Outcome State Fault Refusal :=
  if s.mapOn && granule < s.granules then .next (mapOp (.mark granule) (mapRepair (regionOf granule) damage s)) else .next s

/-- CLAIM (R83, R86, R91, R100). -/
def execClaimGranule (touch : MapTouch) (s : State) : Host.Outcome State Fault Refusal :=
  let g := touch.granule
  if s.mapOn && g < s.granules then .next (mapOp (.claim g) (mapRepair (regionOf g) touch.damage s)) else .next s

/-- COMMIT (R83, R100): after the new Harvest Map entry is written, the granule leaves the in-flight table; nothing where the granule's
ABANDON is on its way (R87). -/
def execCommitGranule (touch : MapTouch) (entry : HmEntry) (s : State) : Host.Outcome State Fault Refusal :=
  let g := touch.granule
  if s.mapOn && s.map.inflight.contains g && !s.abandoning g then
    .next (mapRepair (regionOf g) touch.damage (commitOp g (hmPut g entry s)))
  else .next s

/-- ABANDON (R83, R87). -/
def execAbandonGranule (granule : Nat) (s : State) : Host.Outcome State Fault Refusal :=
  if s.mapOn && s.map.inflight.contains granule then .next (abandonOp granule s) else .next s

/-- CACHE_FILL_COMPLETE (R91, R100). -/
def execCacheFillComplete (region : Nat) (uncorrectable : Bool) (s : State) : Host.Outcome State Fault Refusal :=
  match s.cached region with
  | none => .next s
  | some e =>
    if e.filling then
      if uncorrectable then
        .next (repairLine 2 region s)
      else .next (fillDone region s)
    else .next s

/-- An entry after the sweep of an epoch (R95, R96). -/
def sweepEntry (s : State) (e : RstEntry) : RstEntry :=
  s.withHot (if 192 < ageOf s.map.epoch e.epoch then { e with epoch := (s.map.epoch + 256 - 192) % 256 } else e)

/-- EPOCH_ADVANCE (R95, R96): while the device runs. -/
def execEpochAdvance (s : State) : Host.Outcome State Fault Refusal :=
  if s.running then
    let s := { s with map := { s.map with epoch := (s.map.epoch + 1) % 256, advances := (s.map.advances + 1) % 2 ^ 24 } }
    .next { s with map := { s.map with
      rst := tblMap (sweepEntry s s.map.rstBase) (sweepEntry s) s.map.rst, rstBase := sweepEntry s s.map.rstBase } }
  else .next s

/-- A region is audited; a pass ends when every region in use has been since the last (R99, R101). -/
def auditStep (region : Nat) (s : State) : State :=
  let a := s.map.audited ||| 2 ^ region
  let done := a = 2 ^ s.regions - 1
  { s with map := { s.map with
      audited := if done then 0 else a
      passes := if done then (s.map.passes + 1) % 2 ^ 24 else s.map.passes } }

/-- AUDIT (R99, R100): a region's line is read through the ledger cache and its population count compared with DIRTY. The read makes no
entry and counts as no use of one, as the model chooses. [log 23: DESIGN CHOICE] -/
def execAuditRegion (region : Nat) (damage : MapDamage) (s : State) : Host.Outcome State Fault Refusal :=
  if s.running && s.map.ready && region < s.regions then
    let s := mapRepair region damage (auditStep region s)
    .next (if lineCount (s.lineOf region) = (s.rstOf region).dirty then s else repairLine 1 region s)
  else .next s

end Sys2Proof.Machine
end

