-- ==== Sys2Proof/Machine/Governor.lean ====
section
/-!
DEFINITION. The Budget Governor (R22 to R37, R58, R102, R110 to R121) and its commands.
-/
namespace Sys2Proof.Machine

/-! ### Conditions and energy (R23 to R27) -/

/-- The arming conditions of R23 for an energy and a ceiling. -/
def State.conditions (s : State) (e : Nat) : ArmCond :=
  { layoutOk := s.layoutOk
    storeOk := s.storeOk
    freeOk := s.layoutOk && s.bed.freeOk
    energyOk := s.layoutOk && s.eneedOf s.map.total ≤ e
    ceilOk := s.layoutOk && s.bMin ≤ s.bceilOf e
    groupOk := s.cascade.isNone || !s.brl.whole || s.brl.groupArmed }

/-- Every condition holds. -/
def ArmCond.all (c : ArmCond) : Bool := c.layoutOk && c.storeOk && c.freeOk && c.energyOk && c.ceilOk && c.groupOk

/-- LAST_DISARM for the first condition that fails (R22, R44, R76); 0 where none does. [log 16: DEDUCED] -/
def State.disarmCause (s : State) (c : ArmCond) : Nat :=
  if !c.layoutOk then 1
  else if s.upd.refuseArm then 7
  else if !c.storeOk then 2
  else if !c.freeOk then 3
  else if !c.energyOk then (if s.sal.valid then 4 else 8)
  else if !c.ceilOk then 5
  else if !c.groupOk then 6
  else 0

/-- GOV_EUSE, GOV_ENEED, GOV_BSUP, which saturates, GOV_CEIL and GOV_BACKLOG of a tick (R27, R44). -/
def budgetTick (s : State) : State :=
  let e := s.euseNow
  { s with gov := { s.gov with
      euse := e, eneed := s.eneedOf s.map.total, bsup := min 0x10000000 (s.bsupOf e), bceil := s.bceilOf e, backlog := s.map.total } }

/-! ### Bands, backpressure, wear (R28, R115 to R121) -/

/-- B_ref (R115). -/
def State.bref (s : State) : Nat := if s.gov.cond.ceilOk then s.gov.bceil else s.bMax

/-- Entry point of a band (R115), in whole granules: fractions of one are dropped. [log 67: DEDUCED] -/
def bandEntry (bref : Nat) : Nat → Nat
  | 0 => 0
  | 1 => bref / 2
  | 2 => 3 * bref / 4
  | _ => bref - 135168

/-- Backlog at which a band is left (R115), in whole granules. [log 67: DEDUCED] -/
def bandExit (bref : Nat) : Nat → Nat
  | 0 => 0
  | 1 => bref / 2 - bref / 16
  | 2 => 3 * bref / 4 - bref / 16
  | _ => bref - 151552

/-- Highest band whose entry point a backlog has reached. -/
def bandUp (bref b : Nat) : Nat :=
  if bandEntry bref 3 ≤ b then 3 else if bandEntry bref 2 ≤ b then 2 else if bandEntry bref 1 ≤ b then 1 else 0

/-- The band a falling backlog stays in: each is left at its own point. -/
def bandDown (bref b : Nat) : Nat → Nat
  | 0 => 0
  | n + 1 => if b ≤ bandExit bref (n + 1) then bandDown bref b n else n + 1

/-- The band after a tick (R115). -/
def bandNext (bref b old : Nat) : Nat := max (bandUp bref b) (bandDown bref b (min old 3))

/-- Dirty granules of HOT regions. -/
def State.hotDirty (s : State) : Nat := s.map.rst.foldl (fun n e => if e.2.hot then n + e.2.dirty else n) 0

/-- A rate over the last 1 ms in units of 0.1 GB/s. -/
def rateOf (f : TickBytes → Nat) (h : List TickBytes) : Nat := min 65535 (h.foldl (fun n t => n + f t) 0 / 100000)

/-- Bands and backpressure of a tick (R28, R115). -/
def bandTick (s : State) : State :=
  let b := s.map.total
  let r := s.bref
  let band := if s.layoutOk then bandNext r b s.drn.band else 0
  let be3 := r - 135168
  creditSync { s with
    drn := { s.drn with
      band := band, urgency := band, hotOk := 2 ≤ band, refBmax := !s.gov.cond.ceilOk, throttled := s.thm.level = 2
      bbp := be3, bwh := bwhOf be3, hotHeld := if 2 ≤ band then 0 else s.hotDirty } }

/-- The wear bucket of a tick, W_used, overruns and the rate registers (R118 to R121). [log 67: DEDUCED] -/
def wearTick (s : State) : State :=
  let d := s.drn
  let day : Int := d.aDay * 2 ^ 30
  let filled := min day (d.bucket + d.aDay * 2 ^ 30 * 250 / 86400000000)
  let spent := if d.bucket ≤ 0 then d.tick.drainProg else 0
  let h := (d.tick :: d.hist).take 4
  let s := { s with
    drn := { d with
      bucket := filled - d.tick.prog, aDay := if s.wearOut then 0 else d.aDay, overrun := d.overrun + spent
      hourOverrun := d.hourOverrun + spent, hist := h, tick := {}
      wearHold := filled - d.tick.prog ≤ 0 && s.map.total < d.bwh
      rateRead := rateOf (·.drainRead) h, rateProgram := rateOf (·.drainProg) h }
    bed := { s.bed with rateProgram := rateOf (·.prog) h, rateRead := rateOf (·.nandRead) h, rateRake := rateOf (·.rake) h }
    pip := { s.pip with rateC := rateOf (·.comp) h, rateD := rateOf (·.decomp) h }
    fld := { s.fld with rateNand := rateOf (·.restNand) h, rateDram := rateOf (·.restDram) h }
    gov := { s.gov with wearOver := 0 < spent } }
  fltCond 0xF3 s.wearOut s

/-! ### HOLD_ARM, access, arming -/

/-- HOLD_ARM as firmware sets it (R58). -/
def holdArmSync (s : State) : State :=
  let on := s.dev.st = .armed || (s.dev.st = .unarmed && s.layoutOk && s.storeOk) || s.saving
  { s with sal := { s.sal with holdArm := on } }

/-- PDOM (R19): ARMED with access released. -/
def pdomSync (s : State) : State := { s with gov := { s.gov with pdom := s.dev.st = .armed && !s.gov.accessHeld } }

/-- An open-image marker stands that no store initialisation follows (R40, R162). -/
def openAfterInit : List JRec → Bool
  | [] => false
  | .storeInit _ :: t => openAfterInit t
  | .openImage false :: t => !(t.any fun r => match r with
      | .storeInit _ => true
      | _ => false) || openAfterInit t
  | _ :: t => openAfterInit t

/-- Host access is released (R34 to R37, R40): the open-image marker is written first, once in a power cycle; again where a sanitize has
initialised the store since (R162, R165). -/
def releaseAccess (s : State) : State :=
  if s.gov.accessHeld then
    let s := if s.imageOpen && openAfterInit s.jrn then s else s.journal (.openImage false)
    { s with gov := { s.gov with accessHeld := false } }
  else s

/-- Bits of conditions 1 to 5 (R492 LOCAL_OK). -/
def ArmCond.localBits (c : ArmCond) : Nat :=
  pack [(0, 1, b2n c.layoutOk), (1, 1, b2n c.storeOk), (2, 1, b2n c.freeOk), (3, 1, b2n c.energyOk), (4, 1, b2n c.ceilOk)]

def ArmCond.localOk (c : ArmCond) : Bool := c.localBits = 31

/-- The unit bits of ARM: PRESENT and LOCAL_OK of each unit. [log 60: DESIGN CHOICE] -/
def unitBits (us : Tbl BrlUnit) : Nat :=
  (List.range 4).foldl (fun w i => let u := tblGet {} us i; w + pack [(2 * i, 1, b2n u.present), (2 * i + 1, 1, b2n u.localOk)]) 0

/-- A member acknowledges each whole MiB of a bundle, but not while its raking is URGENT or CRITICAL (R505). -/
def stageAck (s : State) : State :=
  let mib := s.brl.stageDone / 2 ^ 20
  if s.brl.stageState = 1 && s.brl.stageAcked < mib && s.bed.rakeLevel < 2 then
    { s with brl := { s.brl with stageAcked := mib, sent := [.stageAck s.brl.stageDone 1] } }
  else { s with brl := { s.brl with sent := [] } }

/-- What a cascade unit sends at a tick (R498, R499): a member its STATUS, the master ARM over the latest STATUS of every unit. -/
def cascadeTick (s : State) : State :=
  match s.cascade with
  | none => s
  | some c =>
    if !s.brl.whole || !s.brl.joined then s
    else
      let cond := s.gov.cond
      let st := s.dev.st.code
      if s.brl.role = 1 then
        let own : BrlUnit := { tblGet {} s.brl.units 0 with
          present := true, localOk := cond.localOk, state := st, eNeed := s.gov.eneed, chargeUc := s.sal.tickChargeUc
          backlog := s.map.total }
        let us := tblPut {} 0 own s.brl.units
        let armed := (List.range c.units).all fun i => (tblGet {} us i).present && (tblGet {} us i).localOk
        let e := s.ownEuse
        { s with brl := { s.brl with
            units := us, groupArmed := armed, eGroup := e, armUs := s.dev.aonUs
            sent := [.arm armed true (unitBits us) e (us.foldl (fun n u => n + u.2.chargeUc) 0) (s.dev.aonUs / 250 % 2 ^ 32)] } }
      else
        let a := stageAck s
        { a with brl := { a.brl with sent := .status st cond.localBits s.gov.eneed s.sal.tickChargeUc s.map.total :: a.brl.sent } }

/-- Conditions held and the holdoff (R25): counted in ticks of 250 µs. -/
def holdoffTick (s : State) : State :=
  let ok := s.gov.cond.all
  let n := if ok then s.gov.heldTicks + 1 else 0
  { s with gov := { s.gov with heldTicks := n, holdoffDone := ok && s.govParams.holdoffMs * 4 ≤ n } }

/-- Governor ticks run from F4 on (R166), while no save runs and nothing has stopped. -/
def State.ticks (s : State) : Bool := s.running || (s.dev.st = .reflood && s.fld.f4Ended)

/-- GOVERNOR_TICK (R24 to R30, R44, R58, R115, R119, R120, R123, R214). [log 16: DEDUCED] -/
def execGovernorTick (s : State) : Host.Outcome State Fault Refusal :=
  if s.ticks then
    let s := budgetTick s
    let s := storeTick s
    let s := { s with gov := { s.gov with cond := s.conditions s.gov.euse } }
    let c := s.disarmCause s.gov.cond
    let s := if c ≠ 0 then disarm c s else s
    let s := holdoffTick s
    let s := bandTick s
    let s := dmcTick (wearTick s)
    let s := if s.drn.paused && s.drn.bwh ≤ s.map.total then endPause 2 s else s
    .next (cascadeTick (pdomSync (holdArmSync s)))
  else .next s

/-- Entry into ARMED (R22, R28, R29, R34, R37): ARM_GEN, Tally, event record, access; backpressure where the backlog is already there. -/
def enterArmed (s : State) : State :=
  let s := endPause 5 s
  let s := { s with
    dev := { s.dev with st := .armed }
    svc := { s.svc with event := true }
    gov := { s.gov with armGen := s.gov.armGen + 1 } }
  let s := tlyTrigger 0x102 0 s
  let s := chapenEvent .info 0x01 0 0xFF 0 0 0 s.map.total s
  let s := if s.pip.sanStep = 0 then releaseAccess s else s
  creditSync (pdomSync (holdArmSync s))

/-- ARM (R25): UNARMED with every condition held for the holdoff. -/
def execArmDevice (s : State) : Host.Outcome State Fault Refusal :=
  if s.dev.st = .unarmed && s.gov.cond.all && s.gov.holdoffDone then .next (enterArmed s) else .next s

/-- WEAR_DAY_BOUNDARY (R119): an AON day has passed. One that passes while the governor does not run counts at the next start.
[log 67: DEDUCED] -/
def execWearDayBoundary (s : State) : Host.Outcome State Fault Refusal :=
  .next (if s.ticks then newDay { s with drn := { s.drn with dElapsed := satAdd 16 s.drn.dElapsed 1 } }
    else if s.dev.st = .off then s
    else { s with drn := { s.drn with owedDays := satAdd 16 s.drn.owedDays 1 } })

/-- The hourly values committed in the settings in force (R119, R436). -/
def commitHourly (s : State) : State :=
  match s.upd.areaFor s.upd.running with
  | none => s
  | some n =>
    match s.upd.areaCopy n with
    | none => s
    | some c =>
      let v := { c.vals with wUsed := s.drn.wUsed, overrun := s.drn.overrun, dElapsed := s.drn.dElapsed }
      appendCopy n (c.vals.changes v) { c with vals := v } s

/-- WEAR_HOURLY_COMMIT (R119, R120). -/
def execWearHourlyCommit (s : State) : Host.Outcome State Fault Refusal :=
  if s.ticks && s.dev.loaded then
    let spent := s.drn.hourOverrun
    let s := { s with drn := { s.drn with hourOverrun := 0 } }
    let s := if spent ≠ 0 then tlyTrigger 0x109 0 s else s
    .next (if s.upd.refuseArm then s else commitHourly (syncSettings s))
  else .next s

end Sys2Proof.Machine
end

