-- ==== Sys2Proof/Machine/Dram.lean ====
section
/-!
DEFINITION. Brine Pond's commands (R298, R302, R305, R311, R312, R315 to R319) and DRAM training (R324 to R338).
-/
namespace Sys2Proof.Machine

/-! ### Brine Pond -/

/-- One column slot of a batch for a write (R308): the line has reached the devices and leaves the queue. -/
def writeSlot (channel ns : Nat) (s : State) : State :=
  let q := (s.dchan channel).writeQ
  match s.nextColumn channel ns q with
  | none => s
  | some w => countL3 w.rq w.us ns 1 <| issueColumn channel ns w q (dchanUpd channel (fun c => { c with writeQ := c.writeQ.filter fun x => x != w }) s)

/-- Reads at level 3 served between batch groups (R302): what a slot takes is not ready again. The flag list is what is left. -/
def readSlots (channel ns : Nat) : Nat → List ColReq → State → State × List ColReq
  | 0, l, s => (s, l)
  | n + 1, l, s =>
    let ready := l.filter fun q => s.effective ns q = 3
    match s.nextColumn channel ns ready with
    | none => (s, l)
    | some q => readSlots channel ns n (l.filter fun x => x != q) (issueColumn channel ns q ready s)

/-- The slots of a batch: `n` writes, reads between groups of 16. -/
def batchSlots (channel ns n : Nat) (s : State) : State :=
  ((List.range n).foldl (fun (t : State × List ColReq) k =>
    let t := if k % 16 = 0 && k ≠ 0 then readSlots channel ns t.2.length t.2 t.1 else t
    (writeSlot channel ns t.1, t.2)) (s, s.waitingReads.filter fun q => (s.site (q.line * lineBytes)).channel == channel)).1

/-- WRITE_BATCH (R302), `ns` nanoseconds into the present microsecond: the queue has reached 192 lines, or a queued write level 3; it ends at 64
lines. A queue that holds no more writes its level-3 lines. [log 42: DEDUCED] -/
def execWriteBatch (channel ns : Nat) (s : State) : Host.Outcome State Fault Refusal :=
  let q := (s.dchan channel).writeQ
  let late := q.filter fun w => s.effective ns w = 3
  if s.dchanOn channel && (192 ≤ q.length || late ≠ []) then
    .next (batchSlots channel ns (if 64 < q.length then q.length - 64 else late.length) (dchanUpd channel (fun c => { c with batches := c.batches + 1 }) s))
  else .next s

/-- Key of a subchannel rank's mark (R298): at most one for each. -/
def markKey (channel k : Nat) : Nat := channel * 8 + k

/-- DEVICE_MARK (R298): 64 corrected errors of one device position within 24 AON hours. The mark is a live condition (R382). -/
def execDeviceMark (channel k device : Nat) (s : State) : Host.Outcome State Fault Refusal :=
  if s.dchanOn channel && k < 8 && device < 10 && tblGet 15 s.dmc.marks (markKey channel k) = 15 then
    let s := fltRaise 0x42 channel { s with dmc := { s.dmc with marks := tblPut 15 (markKey channel k) device s.dmc.marks } }
    .next { s with flt := { s.flt with live := setAdd 0x42 s.flt.live } }
  else .next s

/-- A same-bank refresh: the rows of that bank close in every bank group of the rank (R304, R311). -/
def refreshBank (rank ba : Nat) (c : DmcChan) : DmcChan :=
  { c with refreshes := c.refreshes + 1, openRows := c.openRows.filter fun e => !(e.1 / 256 % 4 == rank && e.1 % 4 == ba) }

/-- REFRESH (R311, R320) of a bank of a rank: issued, postponed by at most four intervals, or pulled in, at most four. An interval pulled in
is not due again; a refresh issued makes good what was postponed. [log 43: DEDUCED] -/
def execRefresh (channel : Nat) (due : RefreshDue) (s : State) : Host.Outcome State Fault Refusal :=
  if s.dchanOn channel && !(s.dchan channel).selfRefresh && due.rank < 4 && due.bank < 4 then
    let k := due.rank * 4 + due.bank
    let done := fun (c : DmcChan) => { refreshBank due.rank due.bank c with late := tblPut 0 k 0 c.late }
    .next (dchanUpd channel (fun c =>
      let early := tblGet 0 c.early k
      let late := tblGet 0 c.late k
      match due.how with
      | .pulledIn => if early < 4 then { done c with early := tblPut 0 k (early + 1) c.early } else c
      | .issued => if early = 0 then done c else { c with early := tblPut 0 k (early - 1) c.early }
      | .postponed =>
        if early ≠ 0 then { c with early := tblPut 0 k (early - 1) c.early }
        else if late < 4 then { c with late := tblPut 0 k (late + 1) c.late } else done c) s)
  else .next s

/-- MR4_POLL (R311): the refresh rate every 32 ms. -/
def execMr4Poll (channel rate : Nat) (s : State) : Host.Outcome State Fault Refusal :=
  if s.dchanOn channel then .next (dchanUpd channel (fun c => { c with refRate := rate % 4 }) s) else .next s

/-- Lines of a scrub pass (R312): host-visible, then the Harvest Map's, then the ledger's. -/
def State.hostLines (s : State) : Nat := s.panCount * 2 ^ 24
def State.mapLines (s : State) : Nat := s.granules / 8
def State.scrubLines (s : State) : Nat := s.hostLines + s.mapLines + s.regions

/-- DPA of the ledger reserve (R4): the top 1/256 of the populated capacity; the Harvest Map fills its first half. -/
def State.reserveBase (s : State) : Nat := s.popGib * 2 ^ 30 * 255 / 256

/-- The line a point of the pass reads, in DRAM. -/
def State.scrubAt (s : State) (n : Nat) : Nat :=
  if n < s.hostLines then n
  else if n < s.hostLines + s.mapLines then s.reserveBase / 64 + (n - s.hostLines)
  else s.reserveBase / 64 + s.popGib * 2 ^ 30 / 512 / 64 + (n - s.hostLines - s.mapLines)

/-- The pass goes on, and ends after its last line. -/
def scrubTo (n : Nat) (s : State) : State :=
  if s.scrubLines ≤ n then { s with dmc := { s.dmc with scrubLine := 0, scrubPasses := satAdd 16 s.dmc.scrubPasses 1 } }
  else { s with dmc := { s.dmc with scrubLine := n } }

/-- A read of a Harvest Map or ledger line (R299, R300): an uncorrectable one goes to the Salinity Map's repair (R100). -/
def scrubReserve (n : Nat) (r : DramRead) (s : State) : State :=
  let line := s.scrubAt n
  match r with
  | .clean => s
  | .corrected d => readCorrected line d s
  | .bitmap _ => s
  | .uncorrected d =>
    let s := readUncorrected line d s
    if n < s.hostLines + s.mapLines then repairMapLine (n - s.hostLines) s else repairLine 2 (n - s.hostLines - s.mapLines) s

/-- Set a granule's restore bit (R173); a region whose bits are all set has RST RESTORED. -/
def setRestored (g : Nat) (s : State) : State :=
  let b := s.fld.restored
  let b := { b with exc := if b.base then setDel g b.exc else setAdd g b.exc }
  let s := { s with fld := { s.fld with restored := b } }
  let r := regionOf g
  if (List.range 512).all fun k => s.restoredBit (r * 512 + k) then rstUpd r (fun e => { e with restored := true }) s else s

/-- A granule found unreadable is set lost (R184, R185). -/
def loseGranule (g : Nat) (s : State) : State :=
  let s := setLost g (hmPut g { state := .lost } s)
  let s := rstUpd (regionOf g) (fun e => { e with lost := true }) s
  setRestored g { s with fld := { s.fld with unreadable := satAdd 16 s.fld.unreadable 1 } }

/-- A set of the gate's cache: 16 ways of the 8,192 lines, filled and replaced like the ledger cache (R90, R174). [log 71: DEDUCED] -/
def gateFill (r : Nat) (l : List Nat) : List Nat :=
  let others := l.filter fun x => x != r
  let mine := others.filter fun x => x % 512 == r % 512
  r :: match if 16 ≤ mine.length then mine.getLast? else none with
    | none => others
    | some v => others.filter fun x => x != v

/-- A gate lookup (R174): none for a RESTORED region or when nothing is left to restore; a line not on chip costs one DRAM read, and one that is
uncorrectable loses every granule of the line (R173, R185, R299). [log 71: DEDUCED] -/
def gateLook (g : Nat) (dram : DramRead) (s : State) : State :=
  let r := regionOf g
  if (s.rstOf r).restored || s.fld.restored = {} then s
  else
    let hit := s.fld.gateCache.contains r
    let s := { s with fld := { s.fld with gateCache := gateFill r s.fld.gateCache } }
    if hit then s
    else
      let line := (s.reserveBase + s.popGib * 2 ^ 30 / 512 + s.popGib * 2 ^ 30 / 32768) / 64 + r
      let c := (s.site (line * lineBytes)).channel
      let s := dchanUpd c (fun x => { x with tickRd := x.tickRd + 64 }) (wakeChan c s)
      match dram with
      | .bitmap d => ((List.range 512).map (r * 512 + ·)).foldl (fun s g => loseGranule g s) (readUncorrected line d s)
      | _ => s

/-- Corrected write-backs that are due enter their channels' write queues, while these have room, at scrub priority (R300, R306). -/
def queueWriteBacks (s : State) : State :=
  s.dmc.writeBacks.foldl (fun s l =>
    let c := (s.site (l * lineBytes)).channel
    if s.dchanOn c && (s.dchan c).writeQ.length < 256 then queueLine 7 l s else s) s

/-- PATROL_SCRUB (R174, R300, R312): one line; an unrestored granule is passed over. [log 43: DEDUCED] -/
def execPatrolScrub (dram : DramRead) (s : State) : Host.Outcome State Fault Refusal :=
  if s.saving || s.dmc.changing || !s.dmc.powered || s.scrubLines = 0 then .next s
  else
    let s := queueWriteBacks s
    let n := s.dmc.scrubLine
    if n < s.hostLines then
      let s := gateLook (n / 64) dram s
      if s.restoredBit (n / 64) then .next (scrubTo (n + 1) (readLine 7 n dram s).1)
      else .next (scrubTo ((n / 64 + 1) * 64) s)
    else .next (scrubTo (n + 1) (scrubReserve n dram s))

/-- SHADOW_SET_CHANGE (R315, R316, R336): by Thermal Guard or firmware. -/
def execShadowSetChange (set : Nat) (_firmware : Bool) (s : State) : Host.Outcome State Fault Refusal :=
  if s.alive && s.dmc.powered then .next (requestSet (set % 4) s).1 else .next s

/-- IDLE_SELF_REFRESH (R317): the layout's idle interval has passed without a request. -/
def execIdleSelfRefresh (channel : Nat) (s : State) : Host.Outcome State Fault Refusal :=
  let on := match s.lay.inForce with | none => false | some l => l.dram.idleMs ≠ 0
  if on && s.dchanOn channel && !s.saving && !s.dmc.changing && (s.dchan channel).writeQ = [] then
    .next (dchanUpd channel (fun c => { c with selfRefresh := true, idleRefresh := true, openRows := [] }) s)
  else .next s

/-- Enabled sets in ascending data-rate order: set 3 first (R331). -/
def State.setsUp (s : State) : List Nat :=
  match s.lay.inForce with
  | none => []
  | some l => [3, 2, 1, 0].filter fun k => l.dram.sets.contains k

/-- A set is valid on a channel. -/
def State.setValid (s : State) (c k : Nat) : Bool :=
  let r := tblGet 0 (tblGet {} s.trn.chans c).result k
  r = 1 || r = 2

/-- Channels that take part: populated and not failed. -/
def State.dramActive (s : State) : List Nat := (List.range s.dchans).filter fun c => !(s.dchan c).failed

/-- Sets that are usable (R326): enabled, and valid on every active channel. -/
def State.usableSets (s : State) : List Nat := [0, 1, 2, 3].filter fun k => s.setsUp.contains k && s.dramActive.all fun c => s.setValid c k

/-- A channel fails (R319): 1 training, 2 DCA parity, 3 RCD not answering. A set that was not valid on it alone becomes usable (R326). -/
def failChannel (channel cause : Nat) (s : State) : State :=
  if (s.dchan channel).failed then s
  else
    let s := dchanUpd channel (fun c => { c with
      failed := true, failCause := cause % 4, writeQ := [], openRows := [], selfRefresh := false, idleRefresh := false }) s
    fltRaise 0x43 channel { s with dmc := { s.dmc with
      trained := if s.trn.activity ≠ 0 || s.dramActive = [] then s.dmc.trained else s.usableSets.foldl (fun l k => setAdd k l) s.dmc.trained } }

/-- A data phase that a SALVAGE code ends at once ends (R152). -/
def endIfDue (s : State) : State := if s.saving && s.hrv.endNow && s.hrv.phase = 4 then endData false s else s

/-- DRAM_CHANNEL_FAILURE (R319). -/
def execDramChannelFailure (channel cause : Nat) (s : State) : Host.Outcome State Fault Refusal :=
  if s.dchanOn channel && cause ≠ 0 then .next (endIfDue (failChannel channel cause s)) else .next s

/-- What a head's write access to a pan rests on for DMC_PAN_POL (R305, R320): under a PENDING change, the new state's. -/
def State.panWritable (s : State) (h : Head) (p : Nat) : Bool :=
  p < s.panCount &&
    (if (s.pan p).pending then (s.pan p).state.grants h = .write else (s.pan p).acc.get h = .write)

/-- One field of DMC_PAN_POL: 3 leaves it unchanged; a pan the head cannot write is ignored and counted (R286, R305). -/
def panPolField (h : Head) (p v : Nat) (s : State) : State :=
  if v = 3 then s
  else if s.panWritable h p then { s with dmc := { s.dmc with panAttr := tblPut 0 p v s.dmc.panAttr } }
  else violate h 5 s

/-- A write of DMC_PAN_POL n (R305, R321). -/
def panPolicyWrite (port : Port) (reg value : Nat) (s : State) : State :=
  let fields := fun h => (List.range 16).foldl (fun s k => panPolField h (16 * reg + k) (bits value (2 * k) 2) s) s
  match port with
  | .headA => fields .a
  | .headB => fields .b
  | .rake => regViolate .rake 5 s

/-- PAN_POLICY_WRITE (R305). -/
def execPanPolicyWrite (port : Port) (reg value : Nat) (s : State) : Host.Outcome State Fault Refusal :=
  if s.windowOpen port && reg < 64 then .next (panPolicyWrite port reg value s) else .next s

/-! ### Training -/

def State.tchan (s : State) (c : Nat) : TrnChan := tblGet {} s.trn.chans c

def tchanUpd (c : Nat) (f : TrnChan → TrnChan) (s : State) : State :=
  { s with trn := { s.trn with chans := tblUpd {} c f s.trn.chans } }

/-- A training record (R327). -/
def trnKey (c k : Nat) : Nat := c * 4 + k

def State.trnRec (s : State) (c k : Nat) : TrnRec := tblGet {} s.trn.recs (trnKey c k)

/-- The FINGERPRINT of a set on a channel whose devices read as given (R328): the layout's population and the set's timing fields, the RCD's
identification and the mode registers, and FORMAT 1; numbers as four bytes, in that order. [log 44: DEDUCED] -/
def DramParams.fingerprint (p : DramParams) (k : Nat) (ident : List Nat) : Nat :=
  crc32 (([p.channels, p.ranks, p.stack, b2n p.density32, p.chanGib] ++ tblGet [] p.timing k).flatMap (leBytes 4) ++ ident ++ leBytes 2 1)

def State.fingerprint (s : State) (k : Nat) (ident : List Nat) : Nat :=
  match s.lay.inForce with | none => 0 | some l => l.dram.fingerprint k ident

/-- What identifies a channel's devices. -/
def dramIdent (env : DramEnv) (c : Nat) : List Nat := tblGet [] env.rcd c ++ tblGet [] env.modeRegs c

/-- The margin check of T6 (R325): 0.15 UI, 19.2 of 1/128 UI, on each side, and 2% of VDDQ; in the encoding of TRN_CH_MARGIN. -/
def marginsPass (w : Nat) : Bool := 20 ≤ bits w 0 8 && 20 ≤ bits w 8 8 && 4 ≤ bits w 16 8 && 4 ≤ bits w 24 8

/-- Worst margins over a set's ranks, field by field, from one word for each rank in the encoding of TRN_CH_MARGIN (R327, R340). -/
def worstMargin (ranks m : Nat) : Nat :=
  pack ((List.range 4).map fun f => (8 * f, 8, (List.range ranks).foldl (fun w r => min w (bits m (32 * r + 8 * f) 8)) 255))

/-- The rank a byte of a training record's results belongs to, by its offset from 0x010; none for the RCD control words. -/
def trainRank (o : Nat) : Option Nat :=
  if o < 128 then none
  else if o < 192 then some ((o - 128) / 16)
  else if o < 1472 then some ((o - 192) / 320)
  else if o < 1792 then some ((o - 1472) / 80)
  else some ((o - 1792) / 40)

/-- A training record's 2,048 bytes (R327): ranks that are not populated are zero. -/
def TrnRec.bytes (ranks c k : Nat) (r : TrnRec) : List Nat :=
  let on := fun (o : Nat) => (trainRank o).all fun n => n < ranks
  crcClosed (leBytes 2 0x0301 ++ leBytes 2 1 ++ [c, k, r.steps, 0] ++ leBytes 4 r.fingerprint ++ leBytes 2 (r.hottest % 65536).toNat ++ [0, 0] ++
    (List.range 1952).map (fun o => if on o then r.values.getD o 0 else 0) ++
    (List.range 4).flatMap (fun n => if n < ranks then leBytes 4 (bits r.margins (32 * n) 32) else [0, 0, 0, 0]) ++ List.replicate 60 0)

/-- Ranks of a channel in the layout in force. -/
def State.ranks (s : State) : Nat := (s.lay.inForce.map fun l => l.dram.ranks).getD 0

/-- CAUSE of a set (R330, R340): why its retained results are not used. [log 44: DEDUCED] -/
def State.classify (s : State) (env : DramEnv) (full : Bool) (c k : Nat) : Nat :=
  let r := s.trnRec c k
  let key := trnKey c k
  if !s.setsUp.contains k then 1
  else if !r.exists_ then 2
  else if env.crcBad.contains key then 3
  else if env.formatBad.contains key then 4
  else if r.fingerprint ≠ s.fingerprint k (dramIdent env c) then 5
  else if r.steps ≠ 63 then 6
  else if full then 9
  else if r.invalidated then 8
  else if !marginsPass (worstMargin s.ranks (tblGet 0 env.margins key)) then 7
  else 0

/-- The steps a set resumes with (R331): those of its record where that was partial at the session's start or is of this session. -/
def State.resumeMask (s : State) (c k : Nat) : Nat := if (s.tchan c).fresh.contains k then (s.trnRec c k).steps else 0

/-- Setup and fast verify on a channel (R331): what is usable is valid, the rest is trained in ascending data-rate order. A partial
record's set resumes; any other starts at T1. A record stays in force until the next one is committed (R327). -/
def beginChannel (env : DramEnv) (full : Bool) (s : State) (c : Nat) : State :=
  let causes := (List.range 4).map fun k => (k, s.classify env full c k)
  let queue := s.setsUp.filter fun k => s.classify env full c k ≠ 0
  let keep := fun k => s.classify env full c k = 6
  let ch : TrnChan :=
    { cause := causes.foldl (fun t e => tblPut 0 e.1 e.2 t) []
      result := causes.foldl (fun t e => tblPut 0 e.1 (if e.2 = 0 then 1 else 0) t) []
      ident := dramIdent env c
      margins := (List.range 4).foldl (fun t k => tblPut 0 k (worstMargin s.ranks (tblGet 0 env.margins (trnKey c k))) t) []
      queue := queue
      fresh := (queue.filter keep).foldl (fun l k => setAdd k l) []
      mask := (queue.head?).elim 0 fun k => if keep k then (s.trnRec c k).steps else 0 }
  { s with trn := { s.trn with chans := tblPut {} c ch s.trn.chans } }

/-- A start session begins (R331, R332): setup, fast verify, and what is left to train. -/
def beginSession (env : DramEnv) (s : State) : State :=
  let full := s.trn.fullNext
  let s := { s with
    dmc := { s.dmc with powered := true }
    trn := { s.trn with activity := 3, fullNext := false, startUs := s.dev.aonUs } }
  (List.range s.dchans).foldl (beginChannel env full) s

/-- Put a set at the front of a channel's queue. -/
def trainNext (k : Nat) (s : State) (c : Nat) : State :=
  let q := (s.tchan c).queue
  if q.contains k && q.head? ≠ some k then
    tchanUpd c (fun x => { x with queue := k :: x.queue.filter (· != k), mask := s.resumeMask c k, tries := 0 }) s
  else s

/-- R338: while THROTTLE is reported, sets faster than the target of a change that has run are not trained. -/
def pruneFaster (k : Nat) (s : State) (c : Nat) : State :=
  let q := (s.tchan c).queue.filter fun j => k ≤ j
  tchanUpd c (fun x => { x with queue := q, tries := 0, mask := (q.head?).elim 0 fun j => s.resumeMask c j }) s

/-- The pending change at a checkpoint (R336): it runs when its set is valid, is trained next where it remains to be trained, else it is
refused and recorded. -/
def actPending (s : State) : State :=
  match s.dmc.pending with
  | none => s
  | some k =>
    if s.dramActive.all fun c => s.setValid c k then
      let s := changeSet k { s with dmc := { s.dmc with pending := none } }
      if 2 ≤ s.thm.level then (List.range s.dchans).foldl (pruneFaster k) s else s
    else if s.dramActive.all fun c => s.setValid c k || (s.tchan c).queue.contains k then s.dramActive.foldl (trainNext k) s
    else { s with dmc := { s.dmc with pending := none, refused := s.dmc.refused + 1 } }

/-- First incomplete step of a mask: 1 to 6. [log 44: DEDUCED] -/
def nextStep (mask : Nat) : Nat := ((List.range 6).find? fun j => !mask.testBit j).elim 6 (· + 1)

/-- The hottest on-die reading, inputs 0 to 11 (R327, R341). -/
def State.onDie (s : State) : Int :=
  match (List.range 12).filterMap fun n => (tblGet ({} : ThmInput) s.thm.inputs n).temp with
  | [] => 0
  | v :: l => l.foldl max v

/-- The hottest on-die reading of a set's pass so far (R327). -/
def State.passHottest (s : State) (c k : Nat) : Int :=
  if (s.tchan c).mask = 0 then s.onDie else max s.onDie (s.trnRec c k).hottest

/-- A step has completed on a channel (R324, R327): its record is committed; T6 makes the set valid. A record that cannot be programmed
leaves the results in use and no record for the next start (R339). -/
def stepDone (c step k : Nat) (r : TrainResult) (s : State) : State :=
  let mask := (s.tchan c).mask ||| 2 ^ (step - 1)
  let rec_ : TrnRec := if r.committed then
      { steps := mask, fingerprint := s.fingerprint k (s.tchan c).ident, values := r.values, margins := r.margins, exists_ := true, hottest := s.passHottest c k, invalidated := false }
    else {}
  let s := { s with trn := { s.trn with recs := tblPut {} (trnKey c k) rec_ s.trn.recs } }
  let s := tchanUpd c (fun x => { x with mask := mask, tries := 0, fresh := setAdd k x.fresh }) s
  let s := if r.committed then s else fltRaise 0xB0 0 s
  if step = 6 then
    let rest := (s.tchan c).queue.drop 1
    let m := (rest.head?).elim 0 fun j => s.resumeMask c j
    tchanUpd c (fun x => { x with
      queue := rest, mask := m, result := tblPut 0 k 2 x.result, margins := tblPut 0 k (worstMargin s.ranks r.margins) x.margins }) s
  else s

/-- A step has failed on a channel (R325): retried three times, then the set has failed there. -/
def stepFailed (c step k : Nat) (r : TrainResult) (s : State) : State :=
  let again := (s.tchan c).tries < 3
  let rest := (s.tchan c).queue.drop 1
  tchanUpd c (fun x => { x with
    failStep := step, failSet := k, failRank := r.failRank % 4, failSub := r.failSub % 2
    retries := if again then satAdd 4 x.retries 1 else x.retries
    failedSets := if again then x.failedSets else setAdd k x.failedSets
    tries := if again then x.tries + 1 else 0
    queue := if again then x.queue else rest
    mask := if again then x.mask else (rest.head?).elim 0 fun j => s.resumeMask c j }) s

/-- TRN_STATUS's SET and STEP: those of the channel with most left to train. -/
def trnStatus (s : State) : State :=
  let slow := (List.range s.dchans).foldl (fun b c => if (s.tchan b).queue.length < (s.tchan c).queue.length then c else b) 0
  match (s.tchan slow).queue with
  | [] => { s with trn := { s.trn with set := 0, step := 0 } }
  | k :: _ => { s with trn := { s.trn with set := k, step := nextStep (s.tchan slow).mask } }

/-- Every channel has trained what it trains. -/
def State.sessionOver (s : State) : Bool := s.dramActive.all fun c => (s.tchan c).queue = []

/-- The session ends (R314, R319, R326, R331): a channel with no valid set fails, the sets valid on every active channel are usable, the
fastest runs, and a change still pending is acted on. -/
def endSession (s : State) : State :=
  let s := s.dramActive.foldl (fun s c => if s.setsUp.any fun k => s.setValid c k then s else failChannel c 1 s) s
  let ok := s.usableSets
  let s := { s with
    dmc := { s.dmc with trained := ok }
    trn := { s.trn with activity := 0, set := 0, step := 0, sessionMs := min 65535 ((s.dev.aonUs - s.trn.startUs) / 1000) } }
  let run := (ok.head?).getD s.dmc.current
  let s := { s with dmc := { s.dmc with
    current := run, postedLimitKib := postedLimit run
    chans := (List.range s.dchans).foldl (fun t c => tblUpd {} c (fun x => { x with set := run }) t) s.dmc.chans } }
  match s.dmc.pending with
  | none => s
  | some k => (requestSet k { s with dmc := { s.dmc with pending := none } }).1

/-- A training step's attempt ends on a channel (R324, R325): none where that step of that set is not the one in hand. -/
def checkpoint (c step k : Nat) (r : TrainResult) (s : State) : State :=
  let x := s.tchan c
  if s.trn.activity = 3 && x.queue.head? = some k && nextStep x.mask = step && !(s.dchan c).failed then
    let s := tchanUpd c (fun x => { x with cmpErrors := min 65535 r.errors, cmpLane := r.firstLane % 64, cmpSub := r.failSub % 2 }) s
    trnStatus (if r.ok && (step ≠ 6 || marginsPass (worstMargin s.ranks r.margins)) then actPending (stepDone c step k r s) else stepFailed c step k r s)
  else s

/-- DQS_TRACK (R333 to R335): a device's drift against the baseline of the running set, in 1/128 UI. More than 1/32 UI is adjusted; more
than 1/4 UI in all invalidates the running set on the channel. -/
def execDqsTrack (channel device : Nat) (drift : Int) (s : State) : Host.Outcome State Fault Refusal :=
  if s.running && s.dchanOn channel && !s.dmc.changing && 4 < drift.natAbs then
    let x := s.tchan channel
    let total := tblGet 0 x.adjusted device + drift
    let out := 32 < total.natAbs && !x.outOfRange
    let run := (s.dchan channel).set
    let s := tchanUpd channel (fun x => { x with
      adjusts := satAdd 16 x.adjusts 1, adjusted := tblPut 0 device total x.adjusted
      driftMax := max x.driftMax (min 255 total.natAbs), outOfRange := x.outOfRange || out
      result := if out then tblPut 0 run 3 x.result else x.result }) s
    if out then
      .next (fltRaise 0x44 channel { s with
        trn := { s.trn with recs := tblUpd {} (trnKey channel run) (fun r => { r with invalidated := true }) s.trn.recs }
        dmc := { s.dmc with trained := setDel run s.dmc.trained } })
    else .next s
  else .next s

/-- TRN_CTL (R332, R340): a head must hold cell 1. [log 14: DEDUCED] -/
def trnCtl (port : Port) (full : Bool) (s : State) : State :=
  let ok := match port with | .headA => s.holds .a 1 | .headB => s.holds .b 1 | .rake => true
  if ok then { s with trn := { s.trn with fullNext := full } } else regViolate port 4 s

/-- FULL_NEXT (R332). -/
def execFullNext (port : Port) (s : State) : Host.Outcome State Fault Refusal :=
  .next (if s.windowOpen port then trnCtl port true s else s)

/-- TRN_CANCEL (R332). -/
def execTrnCancel (port : Port) (s : State) : Host.Outcome State Fault Refusal :=
  .next (if s.windowOpen port then trnCtl port false s else s)

end Sys2Proof.Machine
end

