-- ==== Sys2Proof/Machine/Drain.lean ====
section
/-!
DEFINITION. The Evaporator's commands and Harvest's use of the same path (R102 to R109, R122, R123, R135 to R137, R188, R202 to R204).
-/
namespace Sys2Proof.Machine

/-! ### Choosing what to drain (R103, R104, R135) -/

/-- Whether a region's entry may be drained. -/
def eligible (hotOk : Bool) (e : RstEntry) : Bool := e.dirty ≠ 0 && (!e.hot || hotOk)

/-- The region the Evaporator drains (R103, R104): the eligible one of greatest age, lowest number on ties; the one in work stays among
regions of its age. [log 25: DESIGN CHOICE] -/
def State.oldest (s : State) : Option Nat :=
  let best := s.map.rst.foldl (fun (b : Option (Nat × Nat)) e =>
    if eligible s.drn.hotOk e.2 then
      let a := ageOf s.map.epoch e.2.epoch
      match b with
      | none => some (e.1, a)
      | some x => if x.2 < a then some (e.1, a) else b
    else b) none
  match s.drn.work with
  | none => best.map fun x => x.1
  | some w =>
    let e := s.rstOf w
    if eligible s.drn.hotOk e && best.any fun x => x.2 = ageOf s.map.epoch e.epoch then some w else best.map fun x => x.1

/-- A CLAIM of the granule waits for its line or for room in the in-flight table. -/
def State.claimQueued (s : State) (g : Nat) : Bool :=
  s.map.claimWait.contains g || s.map.stalled.contains (.claim g) || s.map.cache.any fun e => e.waiting.contains (.claim g)

/-- Dirty granules of a region that a CLAIM may be granted: one in flight would be answered BUSY and is passed over (R104). -/
def State.claimable (s : State) (r : Nat) : List Nat :=
  (s.dirtyIn r).filter fun g => !s.map.inflight.contains g && !s.claimQueued g

/-- Claim granules in order until the quota is reached (R104). -/
def claimRun (quota : Nat) (gs : List Nat) (s : State) : State :=
  (gs.take quota).foldl (fun s g => mapOp (.claim g) s) s

/-- The region Harvest visits next and its granules from the claim point on (R135): a pass is ascending over regions and granules, and a
granule that becomes dirty behind the point waits for the pass after it. -/
def State.harvestNext (s : State) : Option (Nat × List Nat) :=
  let from_ := fun (lo : Nat) => s.dirtyRegions.findSome? fun r =>
    match (s.claimable r).filter fun g => lo ≤ g && !s.hrv.poisoned.contains g with
    | [] => none
    | gs => some (r, gs)
  (from_ s.hrv.claimPoint).orElse fun _ => from_ 0

/-- Granules claimed in an earlier slot have their DRAM reads issued (D2). -/
def issueReads (s : State) : State :=
  { s with drn := { s.drn with path := s.drn.path.map fun i => if i.step = .claimed then { i with step := .reading, us := s.dev.aonUs } else i } }

/-- The Evaporator may claim in this slot (R102, R104, R109, R120, R122). -/
def State.drainsNow (s : State) : Bool :=
  s.running && s.map.ready && !s.drn.paused && s.pip.sanStep = 0 && !(s.drn.wearHold && s.map.total < s.drn.bwh) &&
    s.drn.delta.length < 196608

/-- The wear-hold limits a slot to what lies above B_wh (R120). -/
def State.slotQuota (s : State) (quota : Nat) : Nat :=
  if s.drn.bucket ≤ 0 then min quota (s.map.total - s.drn.bwh) else quota

/-- The Evaporator's slot. -/
def drainSlot (quota : Nat) (s : State) : State :=
  let s := issueReads s
  if s.drainsNow then
    match s.oldest with
    | none => { s with drn := { s.drn with work := none, oldestAge := 0 } }
    | some r =>
      let s := { s with drn := { s.drn with work := some r, oldestAge := ageOf s.map.epoch (s.rstOf r).epoch } }
      claimRun (s.slotQuota quota) (s.claimable r) s
  else { s with drn := { s.drn with work := none } }

/-- The first granule of a save is sent: its energy, time and charge are recorded (R113, R148). -/
def firstGranule (s : State) : State :=
  if s.hrv.firstSent || s.drn.path = [] then s
  else { s with hrv := { s.hrv with
    firstSent := true, eFirst := s.sal.econs, tFirstUs := s.dev.aonUs - s.hrv.t0Us, chargeFirst := s.sal.saveChargeUc / 1000 } }

/-- No SHARE by H1 (R158): E_T is 0 under R144, as with an invalid reading. [log 61: DEDUCED] -/
def lapseShare (s : State) : State :=
  if s.hrv.awaitShare then endData true (setPoints { s with hrv := { s.hrv with awaitShare := false, energyInvalid := true } }) else s

/-- Harvest's slot (R135, R137). -/
def harvestSlot (quota : Nat) (s : State) : State :=
  let s := issueReads (lapseShare s)
  if s.hrv.phase = 4 && !s.hrv.m3 && !s.hrv.sanitized && s.hrv.engines ≠ [] && s.drn.delta.length < 196608 then
    match s.harvestNext with
    | none => s
    | some (r, gs) =>
      let s := { s with
        hrv := { s.hrv with claimPoint := ((gs.take quota).getLast?.map (· + 1)).getD s.hrv.claimPoint }
        drn := { s.drn with work := some r } }
      firstGranule (claimRun quota gs s)
  else s

/-- DRAIN_SLOT (R103, R104, R135): `quota` granules fit the rate of the band. -/
def execDrainSlot (quota : Nat) (s : State) : Host.Outcome State Fault Refusal :=
  .next (if s.saving then harvestSlot quota s else if s.running then drainSlot quota s else s)

/-! ### The path of one granule (R105) -/

/-- A granule leaves the path for a reason of the drain's own (R107), counted. [log 26: DEDUCED] -/
def dropDrain (g : Nat) (s : State) : State :=
  let s := abandonOp g s
  if s.saving then { s with hrv := { s.hrv with abandoned := s.hrv.abandoned + 1 } }
  else { s with drn := { s.drn with abOther := satAdd 16 s.drn.abOther 1 } }

/-- A granule whose read returns poison is not stored: a LOST entry while running (R188), abandoned for the rest of a save (R136). -/
def poisonedGranule (g : Nat) (s : State) : State :=
  if s.saving then
    let s := abandonOp g s
    { s with hrv := { s.hrv with poisoned := setAdd g s.hrv.poisoned } }
  else
    let s := commitOp g (hmPut g { state := .lost } s)
    rstUpd (regionOf g) (fun e => { e with lost := true }) s

/-- The reads of a granule's lines; a line not named reads clean. The flag says whether any answered poison. -/
def readGranule (g : Nat) (errors : List (Nat × DramRead)) (s : State) : State × Bool :=
  let rq := if s.saving then 3 else 2
  let s := (s.drn.path.find? fun i => i.granule == g).elim s fun i => countL3 rq i.us 0 64 s
  (List.range 64).foldl (fun (t : State × Bool) k =>
    let r := ((errors.find? fun e => e.1 == k).map fun e => e.2).getD .clean
    let u := readLine rq (g * 64 + k) r t.1
    (u.1, t.2 || u.2)) (s, false)

/-- LENGTH and RAW of a payload (R234, R236): 1 to 63 units compressed, 64 raw. -/
def State.payload (s : State) (length : Nat) : Nat :=
  let on := match s.lay.inForce with | none => false | some l => l.compress
  if on && 1 ≤ length && length < 64 then length else 64

/-- A granule is compressed, encrypted, tagged and staged (D3, D4). -/
def stageGranule (g length lane : Nat) (s : State) : State :=
  let n := s.payload length
  let x : GranRec := { granule := g, slot := 0, length := n, raw := n = 64, fast := s.pip.fast, tag := s.tag, body := s.granuleAt g }
  let s := tickUpd (fun t => { t with comp := t.comp + 4096, drainRead := if s.saving then t.drainRead else t.drainRead + 4096 }) s
  settle (placeRec lane x { s with pip := { s.pip with lens := (n :: s.pip.lens).take 65536 } })

/-- DRAIN_READ_COMPLETE (R105, R136, R188, R234): the DRAM read of a granule on the path returns; `length` is what the compressor makes
of it, in 64-byte units, and `lane` the die lane its record is placed on. -/
def execDrainReadComplete (granule : Nat) (errors : List (Nat × DramRead)) (length lane : Nat) (s : State) :
    Host.Outcome State Fault Refusal :=
  if (s.running || s.saving) && s.drn.path.any fun i => i.granule == granule && i.step = .reading then
    let t := readGranule granule errors s
    if t.1.drn.path.any fun i => i.granule == granule && i.step = .reading then
      .next (if t.2 then poisonedGranule granule t.1 else stageGranule granule length lane t.1)
    else .next t.1
  else .next s

/-- A staged page by its place. -/
def State.stagedAt (s : State) (rowSeq channel stripe : Nat) : Option StorePage :=
  s.bed.staged.find? fun p => p.rowSeq == rowSeq && p.channel == channel && p.stripe == stripe

/-- PARTIAL_PAGE_TIMEOUT (R105): 20 ms after its first record a partly filled page is closed for programming; a save does not wait for it
(R135). -/
def execPartialPageTimeout (rowSeq channel stripe : Nat) (s : State) : Host.Outcome State Fault Refusal :=
  match s.stagedAt rowSeq channel stripe with
  | none => .next s
  | some p => .next (if s.running then settle (closePage p s) else s)

/-- PAGE_PROGRAM_COMPLETE (R105, R109, R202): a page on its die has programmed. -/
def execPageProgramComplete (rowSeq channel stripe tenthUs : Nat) (s : State) : Host.Outcome State Fault Refusal :=
  match s.stagedAt rowSeq channel stripe with
  | none => .next s
  | some p =>
    if (s.running || s.saving) && p.sent then
      .next (settle (pageDone p (chanUpd channel (fun c => { c with progTimes := (tenthUs :: c.progTimes).take 4096 }) s)))
    else .next s

/-- DRAIN_TIMEOUT (R105, R107): D1 to D7 has taken 200 ms. -/
def execDrainTimeout (granule : Nat) (s : State) : Host.Outcome State Fault Refusal :=
  if s.running && s.map.inflight.contains granule then .next (dropDrain granule s) else .next s

/-- The rest of a stripe is taken as padding pages (R200, R202). -/
def padStripe (r : BedRow) (stripe : Nat) (s : State) : State :=
  (List.range ((stripe + 1) * (r.width - 1) - r.cursor)).foldl (fun s _ =>
    let t := takePage ((s.row r.seq).getD r) .data (if r.cls = .rake then .rake else .drain) s
    { t.1 with bed := { t.1.bed with staged := t.1.bed.staged ++ [{ t.2 with closed := true, padding := true }] } }) s

/-- STRIPE_TIMEOUT (R202): a stripe begun and not filled within 1 s is closed; its remaining pages are programmed as padding. -/
def execStripeTimeout (rowSeq stripe : Nat) (s : State) : Host.Outcome State Fault Refusal :=
  match s.row rowSeq with
  | none => .next s
  | some r =>
    if r.state = .opened && stripe * (r.width - 1) < r.cursor && r.cursor < (stripe + 1) * (r.width - 1) && (s.running || s.saving) then
      let s := padStripe r stripe s
      .next (settle { s with bed := { s.bed with staged := s.bed.staged.map fun p =>
        if p.rowSeq = rowSeq && p.stripe = stripe then { p with closed := true } else p } })
    else .next s

/-- MAP_SEGMENT_TIMEOUT (R109, R137): the oldest changed line has waited 1 s. -/
def execMapSegmentTimeout (s : State) : Host.Outcome State Fault Refusal :=
  if (s.running || (s.saving && !s.hrv.m3)) && s.drn.delta ≠ [] && s.segmentLines ≠ 0 then
    .next (settle ((stageSegment .drain (s.drn.delta.take s.segmentLines) s).getD s))
  else .next s

/-- A data page's or a zero map segment's place in a row's fill order. -/
def State.fillIndex (s : State) (r : BedRow) (stripe ch : Nat) : Option Nat :=
  (List.range (min r.cursor (s.rowPages r))).find? fun n => r.pageAt n == (stripe, ch)

/-- A page on the media; of a run of zero map segments, the page as it was written (R207, R212). -/
def State.mediaPage (s : State) (r : BedRow) (stripe ch : Nat) : Option StorePage :=
  match s.bed.pages.find? fun p => p.rowSeq == r.seq && p.channel == ch && p.stripe == stripe with
  | some p => some p
  | none =>
    match r.zeros, s.fillIndex r stripe ch with
    | some z, some k =>
      if k < s.zeroPages r && !z.lost.contains k then
        some { s.blankPage r stripe ch .mapSegment .drain with
          tag := z.tag, geometry := z.geometry, sent := true
          lines := (List.range (min s.segmentLines (z.lines - k * s.segmentLines))).map fun n => ⟨z.first + k * s.segmentLines + n, []⟩ }
      else none
    | _, _ => none

/-- Granules whose entry points into a page, the one among them that goes on in it from the page before (R108, R204). -/
def State.inPage (s : State) (r : BedRow) (p : StorePage) : List Nat :=
  let on := fun (q : StorePage) (x : GranRec) => names (s.hmOf x.granule) (s.locOf r q x.slot)
  ((s.pageBefore r p).elim [] fun q => ((q.recs.getLast?).elim [] fun x => if on q x then [x.granule] else [])) ++
    (p.recs.filter fun x => on p x).map fun x => x.granule

/-- A raking move whose destination is lost is undone (R204): the entry names the source again. [log 26: DEDUCED] -/
def undoMove (r : BedRow) (p : StorePage) (s : State) (x : GranRec) : State :=
  match x.src with
  | none => s
  | some l =>
    if names (s.hmOf x.granule) (s.locOf r p x.slot) && (s.recAt l).any fun y => y.granule == x.granule then
      hmPut x.granule { state := .stored, loc := l, length := x.length, raw := x.raw } s
    else s

/-- Map segments on a lost page are lost with it: the lines R170 would have read there await a segment again (R108, R109).
[log 26: DEDUCED] -/
def loseSegments (r : BedRow) (p : StorePage) (s : State) : State :=
  let here := fun (n : Nat) => (s.bestSeg (fun _ => true) n).any fun x => x.rowSeq == p.rowSeq && x.page == p.stripe && x.channel == p.channel
  let ns := (p.lines.filter fun m => here m.line && !s.linePending m.line).map fun m => m.line
  let s := match s.fillIndex r p.stripe p.channel with
    | none => s
    | some k =>
      if k < s.zeroPages r then
        rowUpd r.seq (fun x => { x with zeros := x.zeros.map fun (z : ZeroRun) => { z with lost := setAdd k z.lost } }) s
      else s
  { s with drn := { s.drn with delta := s.drn.delta ++ ns } }

/-- A page is lost (R108, R204): raking moves into it are undone and its granules are marked; while the device runs, one that is not restored
is set lost (R185). [log 26: DEDUCED] -/
def lostPage (r : BedRow) (p : StorePage) (s : State) : State :=
  let s := p.recs.foldl (undoMove r p) s
  let gs := s.inPage r p
  let s := loseSegments r p s
  let s := { s with bed := { s.bed with
    pages := s.bed.pages.filter fun q => !samePage p q, lostPages := satAdd 16 s.bed.lostPages 1 } }
  gs.foldl (fun s g => if s.saving || s.restoredBit g then fillAll (mapOp (.mark g) s) else loseGranule g s) s

/-- LOST_PAGE (R108, R204): before its stripe's parity is programmed. -/
def execLostPage (rowSeq channel stripe : Nat) (s : State) : Host.Outcome State Fault Refusal :=
  match s.row rowSeq with
  | none => .next s
  | some r =>
    match s.mediaPage r stripe channel with
    | none => .next s
    | some p => if (s.running || s.saving) && !r.parityDone.contains stripe then .next (settle (lostPage r p s)) else .next s

/-- Queue a row for raking; the earlier class stays (R219). -/
def queueRow (seq cls : Nat) (s : State) : State :=
  rowUpd seq (fun r => { r with queued := if r.queued = 0 then cls else min cls r.queued }) s

/-- Rows that held a block on a channel that is lost for them (R204, R226, R231): pages without parity are lost, a row that has lost two
blocks loses the records on both, and the row is queued for rebuild. -/
def loseRows (ch : Nat) (hit : BedRow → Bool) (s : State) : State :=
  (s.bed.rows.filter fun r => hit r && r.blocks.any fun p => p.1 == ch).foldl (fun s r =>
    let out := fun (c : Nat) => (s.chan c).retired.contains r.lane || (s.chan c).excluded
    let two := 2 ≤ (r.blocks.filter fun p => out p.1).length
    let places := (List.range r.cursor).map fun n => r.pageAt n
    let gone := (places.filter fun a => out a.2 && (two || (a.2 == ch && !r.parityDone.contains a.1))).filterMap fun a => s.mediaPage r a.1 a.2
    queueRow r.seq 1 (gone.foldl (fun s p => lostPage r p s) s)) s

/-- Channels leave service at any time (R152 codes 0x01 and 0x02, R226), with BED_CH_STATUS.CAUSE. -/
def loseChannels (chs : List Nat) (cause : Nat) (s : State) : State :=
  let new := chs.filter fun c => !(s.chan c).excluded
  closedParity (new.foldl (fun s c => loseRows c (fun _ => true) s) (excludeChannels new cause s))

/-- Dies lost on a channel beyond one exclude it (R152 code 0x01, R226). -/
def excludeIfTwo (ch : Nat) (s : State) : State :=
  if 2 ≤ (s.chan ch).retired.length && (s.chan ch).active then fltRaise 0x50 ch (loseChannels [ch] 3 s) else s

/-- A die is lost (R204, R226, R231). In a save it is excluded, and a second one excludes the channel. -/
def loseDie (ch die : Nat) (s : State) : State :=
  if (s.chan ch).retired.contains die then s
  else
    let s := chanUpd ch (fun c => { c with retired := setAdd die c.retired }) s
    let mine := s.bed.rows.filter fun r => r.lane == die && r.blocks.any fun p => p.1 == ch
    let s := loseRows ch (fun r => r.lane == die) s
    let cut := s.bed.staged.filter fun p => p.channel == ch && mine.any fun r => r.seq == p.rowSeq
    let s := cut.foldl (fun s p => pageFail p s) s
    excludeIfTwo ch (fltRaise 0x51 ch (closedParity (narrowRows s)))

/-- A program or erase failure of a die (R226): four blocks within one AON hour retire it. -/
def dieFailure (ch die blk : Nat) (s : State) : State :=
  let hour := s.aonHour
  let l := (die, blk, hour) :: ((s.chan ch).dieFails.filter fun x => !(x.1 == die && x.2.1 == blk) && hour ≤ x.2.2 + 1)
  let s := chanUpd ch (fun c => { c with dieFails := l }) s
  if 4 ≤ (l.filter fun x => x.1 == die).length then loseDie ch die s else s

/-- PROGRAM_FAIL (R107, R203, R225): the page's granules are abandoned, the block has failed; four of a die within an AON hour
retire the die (R226). -/
def execProgramFail (rowSeq channel stripe : Nat) (s : State) : Host.Outcome State Fault Refusal :=
  match s.stagedAt rowSeq channel stripe with
  | none => .next s
  | some p =>
    if (s.running || s.saving) && p.sent then
      let s := fltRaise 0x52 channel (pageFail p s)
      match s.row rowSeq with
      | none => .next s
      | some r => .next (settle (dieFailure channel r.lane (r.blockOn channel) s))
    else .next s

/-! ### Pause (R122, R123) -/

/-- Granules whose DRAM read has not been issued are abandoned. -/
def dropClaimed (s : State) : State :=
  ((s.drn.path.filter fun i => i.step = .claimed).map fun i => i.granule).foldl (fun s g => dropDrain g s)
    (dropClaims s)

/-- DRN_CTL.PAUSE. -/
def pauseDrain (s : State) : State :=
  if s.drn.paused || !s.running then s
  else
    let s := tlyTrigger 0x10A 0 (dropClaimed { s with drn := { s.drn with paused := true } })
    if s.drn.bwh ≤ s.map.total then endPause 2 s else s

/-- DRN_CTL of a port (R122): a head must hold cell 1. -/
def drnCtl (port : Port) (k : State → State) (s : State) : State :=
  match port with
  | .headA => if s.holds .a 1 then k s else regViolate port 4 s
  | .headB => if s.holds .b 1 then k s else regViolate port 4 s
  | .rake => regViolate port 5 s

/-- PAUSE (R122). -/
def execPauseDrain (port : Port) (s : State) : Host.Outcome State Fault Refusal :=
  .next (if s.windowOpen port then drnCtl port pauseDrain s else s)

/-- RESUME (R122). -/
def execResumeDrain (port : Port) (s : State) : Host.Outcome State Fault Refusal :=
  .next (if s.windowOpen port then drnCtl port (endPause 1) s else s)

/-- PAUSE_MAX_EXPIRY (R123). -/
def execPauseMaxExpiry (s : State) : Host.Outcome State Fault Refusal :=
  .next (if s.running then endPause 3 s else s)

end Sys2Proof.Machine
end

