-- ==== Sys2Proof/Machine/Restore.lean ====
section
/-!
DEFINITION. Reflood while the device runs: granules restored from the store or with zeros (R173 to R178, R182, R184, R185), the restore
gate and demand fetch (R174, R179, R180).
-/
namespace Sys2Proof.Machine

/-! ### Restoring one granule -/

/-- Granules whose restore bit is clear. -/
def State.granulesLeft (s : State) : Nat :=
  if s.fld.restored.base then s.fld.restored.exc.length else s.granules - s.fld.restored.exc.length

/-- Background restore ends when no granule is left (R193): its Tally record (R387) and event record (R284). -/
def restoreEnd (s : State) : State :=
  if s.fld.restoring && s.granulesLeft = 0 then
    chapenEvent .info 0x08 0 0xFF 0 0 0 0 <| tlyTrigger 0x10C 0 { s with fld := { s.fld with
      restoring := false, step := if s.fld.step = 6 then 7 else s.fld.step, restored := {}
      doneCs := min 65535 ((s.dev.aonUs - s.dev.startUs) / 10000) } }
  else s

/-- Content or zeros are committed to the write queues, and the restore bit is set (R173, R178): no MARK. -/
def fillGranule (g : Nat) (body : GranuleBytes) (s : State) : State :=
  setRestored g (queueGranule g ((s.putGranule g body).poisonGranule g false))

/-- A granule's record is read at its location, checked (R240) and restored; unreadable where its read ends so or a check fails. -/
def restoreStored (g : Nat) (o : FetchEnd) (loc : HmLoc) (s : State) : State :=
  match s.recIn loc with
  | none => loseGranule g s
  | some (p, x) =>
    let n := 64 + 64 * x.length
    let s := tickUpd (fun t => { t with nandRead := t.nandRead + n, restNand := t.restNand + n }) s
    if s.recChecks p x g (s.hmOf g) && o ≠ .unreadable then
      let s := if o = .rebuilt then { s with fld := { s.fld with parity := satAdd 16 s.fld.parity 1 } } else s
      fillGranule g x.body (tickUpd (fun t => { t with decomp := t.decomp + 4096 }) s)
    else loseGranule g s

/-- Restore one granule by its entry; a stored one from the location its read took (R176). -/
def restoreGranule (g : Nat) (o : FetchEnd) (loc : HmLoc) (s : State) : State :=
  if s.restoredBit g then s
  else
    let s := match (s.hmOf g).state with
      | .zero => fillGranule g [] s
      | .lost => loseGranule g s
      | .stored => restoreStored g o loc s
    restoreEnd s

/-! ### Answers -/

/-- A response on a head; responses of the last memory command stand, oldest first. [log 70: DESIGN CHOICE] -/
def memAnswer (h : Head) (r : MemResp) (s : State) : State :=
  if (s.heads.get h).up then
    { s with replies := { s.replies with mem := s.replies.mem.set h (s.replies.mem.get h ++ [r]) } }
  else s

/-- Take the responses of the last command away. -/
def clearAnswers (s : State) : State := { s with replies := { s.replies with mem := ⟨[], []⟩ } }

/-- A served read of a line (R186, R297, R299). A posted write to the line is committed ahead of it (R84). -/
def serveRead (h : Head) (dpa tag : Nat) (r : DramRead) (s : State) : State :=
  let line := dpa / lineBytes
  let s := if s.dmc.posted.any fun p => p.dpa / lineBytes == line then commitPostedNow none s else s
  let lost := s.fld.lost.contains (dpa / granuleBytes)
  let t := readLine h.code line r s
  let failed := (s.dchan (s.site dpa).channel).failed
  let t := if fixedRead r && !t.2 && !failed then ({ t.1 with dmc := { t.1.dmc with hostCe := t.1.dmc.hostCe + 1 } }, t.2) else t
  let s := if badRead r && !s.poison.contains line && !failed then eventTo h .failure (.generalMedia (line * lineBytes)) t.1 else t.1
  if t.2 || lost then memAnswer h (.poison tag) s
  else memAnswer h (.data tag (s.bytesAt (line * lineBytes) 64)) s

/-- A Clear Poison writes its line; on a lost granule every line still poisoned becomes zeros, and it is lost no longer (R186). -/
def clearPoison (head : Head) (line : Nat) (data : List Byte) (s : State) : State :=
  let g := line / 64
  let s := commitPostedNow none s
  if s.fld.lost.contains g then
    let rest := s.poison.filter fun l => l / 64 == g && l != line
    let s := rest.foldl (fun s l => queueLine head.code l (s.putBytes (l * 64) (List.replicate 64 0))) s
    let s := commitPosted { head := head, dpa := line * 64, data := data, poison := false } (s.poisonGranule g false)
    clearLost g s
  else commitPosted { head := head, dpa := line * 64, data := data, poison := false } s

/-- A served write: committed and marked (R84, R186), or held in the head's posted buffer while it has room (R18, R132); its completion is sent. A Clear
Poison that waited for its granule completes in its mailbox (R186). -/
def serveWrite (q : HostReq) (posted mergeBad : Bool) (s : State) : State :=
  if q.mbox then replyCxl q.head 0x4302 0 .empty (clearPoison q.head (q.dpa / lineBytes) q.data s)
  else
    let w : Posted := { head := q.head, dpa := q.dpa, data := q.data, poison := q.poison, mergeBad := mergeBad, us := s.dev.aonUs }
    let s := if posted && s.postedRoom q.head then postedSync { s with dmc := { s.dmc with posted := s.dmc.posted ++ [w] } }
      else commitPosted w (commitPostedNow none s)
    memAnswer q.head (.done q.tag) s

/-- A request of the fetch table is served (R180): a read from the restored content, a write committed with its MARK. -/
def serveReq (s : State) (q : HostReq) : State :=
  if q.isWrite then serveWrite q false false s else serveRead q.head q.dpa q.tag .clean s

/-! ### The gate (R174, R179) -/

/-- A request that the gate sends to demand fetch joins its granule's entry, opens one, or waits at admission. [log 71: DEDUCED] -/
def fetchJoin (q : HostReq) (s : State) : State :=
  let g := q.dpa / granuleBytes
  if s.fld.fetches.any fun f => f.granule == g then
    { s with fld := { s.fld with fetches := s.fld.fetches.map fun f =>
      if f.granule = g then { f with waiting := f.waiting ++ [q] } else f } }
  else if s.fld.fetches.length < 1024 then
    { s with fld := { s.fld with
        fetches := s.fld.fetches ++ [⟨g, [q], if (s.hmOf g).state = .stored then some (s.hmOf g).loc else none⟩]
        dfCount := (s.fld.dfCount + 1) % 2 ^ 32, dfPeak := max s.fld.dfPeak (s.fld.fetches.length + 1) } }
  else { s with fld := { s.fld with admission := s.fld.admission ++ [q] } }

/-- A waiting request passes the gate again. -/
def regate (s : State) (q : HostReq) : State :=
  if s.restoredBit (q.dpa / granuleBytes) then serveReq s q else fetchJoin q s

/-- A fetch ends (R180): its granule is restored, its requests are released in arrival order, those at admission are let in. -/
def endFetch (g : Nat) (o : FetchEnd) (us : Nat) (s : State) : State :=
  match s.fld.fetches.find? fun f => f.granule == g with
  | none => s
  | some f =>
    let s := restoreGranule g o (f.loc.getD (s.hmOf g).loc) (clearAnswers s)
    let wait := s.fld.admission
    let s := { s with fld := { s.fld with
      fetches := s.fld.fetches.filter fun x => x.granule != g
      admission := []
      dfUs := (us :: s.fld.dfUs).take 1024, dfMax := max s.fld.dfMax (min 65535 us) } }
    wait.foldl regate (f.waiting.foldl serveReq s)

/-! ### Commands -/

/-- DEMAND_FETCH_COMPLETE (R180, R182, R185), `us` after its request reached the gate. -/
def execDemandFetchComplete (granule : Nat) (outcome : FetchEnd) (us : Nat) (s : State) : Host.Outcome State Fault Refusal :=
  .next (if s.running && s.pip.sanStep = 0 then endFetch granule outcome us s else s)

/-- The granule the NAND stream restores next (R175): the region of lowest age by its reloaded EPOCH, lowest number on ties, its granules ascending. Without
saved ages the regions go in order. [log 71: DEDUCED] -/
def State.nextStored (s : State) : Option Nat :=
  (s.map.hmap.foldl (fun (b : Option (Nat × Nat)) e =>
    if e.2.state = .stored && !s.restoredBit e.1 && !(s.fld.fetches.any fun f => f.granule == e.1) then
      let a := if s.fld.ordered then ageOf s.map.epoch (tblGet s.fld.epochBase s.fld.epochs (regionOf e.1)) else 0
      match b with
      | none => some (e.1, a)
      | some x => if a < x.2 then some (e.1, a) else b
    else b) none).map fun x => x.1

/-- BACKGROUND_RESTORE_GRANULE (R175 to R178, R182, R185). -/
def execBackgroundRestoreGranule (outcome : FetchEnd) (s : State) : Host.Outcome State Fault Refusal :=
  if s.running && s.fld.restoring && s.pip.sanStep = 0 then
    match s.nextStored with
    | none => .next (restoreEnd s)
    | some g => .next (restoreGranule g outcome (s.hmOf g).loc s)
  else .next s

/-- The first granule from `g` on that is unrestored and ZERO, within `fuel` granules. -/
def firstZero (s : State) : Nat → Nat → Option Nat
  | 0, _ => none
  | fuel + 1, g =>
    if (s.hmOf g).state = .zero && !s.restoredBit g && !(s.fld.fetches.any fun f => f.granule == g) then some g
    else firstZero s fuel (g + 1)

/-- The granule the zero stream writes next (R175). -/
def State.nextZero (s : State) : Option Nat :=
  if s.fld.restored.base then s.fld.restored.exc.find? fun g => (s.hmOf g).state = .zero && !(s.fld.fetches.any fun f => f.granule == g)
  else firstZero s s.granules 0

/-- ZERO_STREAM_GRANULE (R175, R248). -/
def execZeroStreamGranule (s : State) : Host.Outcome State Fault Refusal :=
  if s.running && s.fld.restoring && s.pip.sanStep = 0 then
    match s.nextZero with
    | none => .next (restoreEnd s)
    | some g => .next (restoreGranule g .readable {} s)
  else .next s

end Sys2Proof.Machine
end

