-- ==== Sys2Proof/Machine/HostMem.lean ====
section
/-!
DEFINITION. Host memory requests (R18, R20, R28, R35, R84, R132, R174, R179, R186, R260, R263, R286, R287, R303).
-/
namespace Sys2Proof.Machine

/-- The device address a decoder gives a host address (R260): offsets within a granularity block, blocks spread over the ways.
[log 40: PRESUMED] -/
def Decoder.dpa (d : Decoder) (hpa : Nat) : Option Nat :=
  let off := hpa - d.hpaBase
  let gran := max 1 d.gran
  let ways := max 1 d.ways
  if d.hpaBase ≤ hpa && off < d.size && off / gran % ways = d.position then
    some (d.dpaBase + off / (gran * ways) * gran + off % gran)
  else none

/-- The device address of a head's request through its committed decoders. -/
def State.decode (s : State) (h : Head) (hpa : Nat) : Option Nat :=
  (s.heads.get h).decoders.findSome? fun e => match e.2 with | none => none | some d => d.dpa hpa

/-- A head's memory requests reach the device: its link is up and the device runs or restores; no save. -/
def State.memUp (s : State) (h : Head) : Bool :=
  (s.heads.get h).up && (s.running || s.dev.st = .reflood)

/-- The violation a request is, in the order of the gate: access held, no decoder, no access; none for a request that passes, with its
device address (R35, R286). -/
def State.memCheck (s : State) (h : Head) (hpa : Nat) (need : Access → Bool) : Nat ⊕ Nat :=
  if s.gov.accessHeld || !s.running then .inl 3
  else
    match s.decode h hpa with
    | none => .inl 2
    | some dpa => if need (s.access h (dpa / 2 ^ 30)) then .inr dpa else .inl 1

/-- A head read's latency in DMC_CH_LAT and DMC_QOS (R307, R321). -/
def readLatency (h : Head) (dpa ns : Nat) (s : State) : State :=
  let c := (s.site dpa).channel
  let id := h.code
  let target := match s.lay.inForce with | none => 150 | some l => (l.dram.qos[id]?).getD 150
  let s := dchanUpd c (fun x => { x with lats := (ns :: x.lats).take 65536, latMax := max x.latMax (min 65535 ns) }) s
  if target ≤ ns then { s with dmc := { s.dmc with l3Count := tblUpd 0 id (fun n => satAdd 12 n 1) s.dmc.l3Count } } else s

/-- HOST_MEM_READ: one line; `dram` is what its DRAM read finds, `latencyNs` how long it takes. -/
def execHostMemRead (head : Head) (hpa tag : Nat) (dram : DramRead) (latencyNs : Nat) (s : State) :
    Host.Outcome State Fault Refusal :=
  if s.memUp head then
    let s := clearAnswers s
    match s.memCheck head hpa (fun a => a ≠ .none) with
    | .inl k => .next (violate head k (memAnswer head (.poison tag) s))
    | .inr dpa =>
      let line := dpa / 64 * 64
      let s := gateLook (dpa / granuleBytes) dram s
      if s.restoredBit (dpa / granuleBytes) then .next (serveRead head line tag dram (readLatency head line latencyNs s))
      else .next (fetchJoin { head := head, isWrite := false, dpa := line, data := [], poison := false, tag := tag } s)
  else .next s

/-- A write request uses one of the head's credits, which comes back at once while credits are returned (R28, R29, R132). -/
def spendCredit (h : Head) (s : State) : State :=
  { s with heads := headUpd s.heads h fun x => { x with credits := x.credits - 1 } }

/-- A host write that reaches the device. -/
def hostWrite (head : Head) (hpa tag : Nat) (data : List Byte) (poison posted mergeBad : Bool) (s : State) : State :=
  match s.memCheck head hpa (fun a => a = .write) with
  | .inl k => violate head k (memAnswer head (.done tag) s)
  | .inr dpa =>
    let q : HostReq :=
      { head := head, isWrite := true, dpa := dpa, data := data.take (64 - dpa % 64), poison := poison, tag := tag }
    let s := gateLook (dpa / granuleBytes) .clean s
    if s.restoredBit (dpa / granuleBytes) then serveWrite q posted mergeBad s else fetchJoin q s

/-- HOST_MEM_WRITE (R18, R28, R84, R132, R174, R179): bytes of one line; `posted` when the head holds it in its posted-write buffer, `mergeBad` when
a partial write's merge read is uncorrectable. Without a write credit the host cannot send it. -/
def execHostMemWrite (head : Head) (hpa tag : Nat) (data : List Byte) (poison posted mergeBad : Bool) (s : State) :
    Host.Outcome State Fault Refusal :=
  if s.memUp head && (s.heads.get head).credits ≠ 0 then
    .next (creditSync (hostWrite head hpa tag data poison posted mergeBad (spendCredit head (clearAnswers s))))
  else .next s

/-- Commit posted writes, oldest first, until occupancy is below a value (R303). -/
def drainPosted (kib : Nat) : Nat → State → State
  | 0, s => s
  | n + 1, s =>
    match s.dmc.posted with
    | [] => s
    | p :: rest =>
      if s.postedKib < kib || s.stallsCommit p then s else drainPosted kib n (commitPosted p { s with dmc := { s.dmc with posted := rest } })

/-- POSTED_CREDIT_RESUME (R132, R303): the posted-write buffers drain below the resume value, and write credits return; a buffer whose oldest
write's commit is stalled stays as it is. -/
def execPostedCreditResume (s : State) : Host.Outcome State Fault Refusal :=
  if s.running && s.dmc.postedHeld then
    let s := drainPosted (postedResume s.dmc.current) s.dmc.posted.length s
    .next (creditSync (postedSync s))
  else .next s

/-- GLOBAL_PERSISTENT_FLUSH (R20): the head's posted writes are committed, and the flush completes. -/
def execGlobalPersistentFlush (head : Head) (s : State) : Host.Outcome State Fault Refusal :=
  if s.memUp head then .next (memAnswer head .flushed (commitPostedNow (some head) (clearAnswers s))) else .next s

end Sys2Proof.Machine
end

