-- ==== Sys2Proof/Machine/StoreRun.lean ====
section
/-!
DEFINITION. Crystal Beds' commands (R194, R205, R209, R216 to R226, R231, R240, R241).
-/
namespace Sys2Proof.Machine

/-! ### Reads and the ladder (R222, R223, R240, R241) -/

/-- The step a read ends at, 1 to 5, and its hard-decode iterations. -/
def ladderStep : LadderEnd → Nat
  | .first _ => 1 | .soft _ => 2 | .retry _ _ => 3 | .rebuilt => 4 | .unreadable => 5

def ladderIter : LadderEnd → Nat
  | .first n => n | .soft n => n | .retry _ n => n | .rebuilt => 24 | .unreadable => 24

/-- Mean of a list in the given unit. [log 15: DEDUCED] -/
def meanOf (unit : Nat) (l : List Nat) : Nat := if l = [] then 0 else l.foldl (· + ·) 0 * unit / l.length

/-- ITER_MEAN and DEPTH_MEAN (R232). -/
def BedChan.iterMean (c : BedChan) : Nat := min 255 (meanOf 16 (c.decodes.map fun d => d.1))
def BedChan.depthMean (c : BedChan) : Nat := min 255 (meanOf 1024 (c.decodes.map fun d => d.2))

/-- The mean of a list has reached a warning level in thousandths (R224). -/
def warns (level : Nat) (l : List Nat) : Bool := l ≠ [] && level * l.length ≤ l.foldl (· + ·) 0 * 1000

/-- The advisories of R224: the mean iterations and the mean ladder depth of a channel against ITER_WARN and RETRY_WARN. -/
def advise (s : State) : State :=
  let it := s.nand.iterWarn ≠ 0 && s.bed.chans.any fun e => warns s.nand.iterWarn (e.2.decodes.map fun d => d.1)
  let rt := s.nand.retryWarn ≠ 0 && s.bed.chans.any fun e => warns s.nand.retryWarn (e.2.decodes.map fun d => d.2)
  fltCond 0xF1 rt (fltCond 0xF0 it { s with bed := { s.bed with iterWarn := it, retryWarn := rt } })

/-- A page's live granules that cannot be read from it: marked while their DRAM copy is current, else set lost (R231). -/
def unreadablePage (r : BedRow) (p : StorePage) (s : State) : State :=
  (s.inPage r p).foldl (fun s g => if s.restoredBit g then fillAll (mapOp (.mark g) s) else loseGranule g s) s

/-- A record check failure is counted; one on a codeword without a corrected error is reported (R241). -/
def checkFail (c : RecordCheck) (l : LadderEnd) (s : State) : State :=
  let s := match c with
    | .ok => s
    | .header => { s with pip := { s.pip with failHeader := satAdd 16 s.pip.failHeader 1 } }
    | .tag => { s with pip := { s.pip with failTag := satAdd 16 s.pip.failTag 1 } }
  if c ≠ .ok && l = .first 0 then fltRaise 0x61 0 s else s

/-- NAND_READ_COMPLETE (R221 to R224, R231, R240, R241): a page's read ends at a step of the ladder, `tenthUs` after its array read
began. -/
def execNandReadComplete (rowSeq channel stripe : Nat) (ladder : LadderEnd) (check : RecordCheck) (tenthUs : Nat) (s : State) :
    Host.Outcome State Fault Refusal :=
  match s.row rowSeq, (s.row rowSeq).bind fun r => s.mediaPage r stripe channel with
  | some r, some p =>
    if s.running || s.dev.st = .reflood then
      let n := ladderStep ladder
      let s := chanUpd channel (fun c => { c with
        decodes := ((ladderIter ladder, n - 1) :: c.decodes).take 65536
        readTimes := (tenthUs :: c.readTimes).take 4096
        rebuilds := if n = 4 then satAdd 16 c.rebuilds 1 else c.rebuilds }) s
      let s := tickUpd (fun t => { t with nandRead := t.nandRead + s.storePage }) s
      let s := advise (checkFail check ladder s)
      let s := if s.nand.relocate ≤ n || check ≠ .ok then queueRow rowSeq 2 s else s
      .next (if n = 5 then unreadablePage r p (fltRaise 0x53 channel s) else s)
    else .next s
  | _, _ => .next s

/-! ### Raking (R216 to R219) -/

/-- Live lines among a row's zero segments: all but those written since (R208). -/
def State.zeroCount (s : State) (r : BedRow) : Nat :=
  match r.zeros with
  | none => 0
  | some z =>
    if s.zeroLive r then
      z.lines - ((s.knownLines (s.bases.flatMap fun b => b.2)).filter fun n => z.first ≤ n && n < z.first + z.lines && !s.lineLive r n).length
    else 0

/-- Live bytes of a row. -/
def State.liveBytes (s : State) (r : BedRow) : Nat :=
  (s.pagesOf r.seq).foldl (fun n p =>
    n + p.recs.foldl (fun m x => if s.recLive r p x then m + 64 + 64 * x.length else m) 0 +
      68 * (p.lines.filter fun m => s.lineLive r m.line).length) (68 * s.zeroCount r)

/-- Map rows in use (R208). -/
def State.mapRows (s : State) : Nat := (s.bed.rows.filter fun r => r.cls = .map && r.state ≠ .spent).length

/-- Map raking is due (R208): more map rows are in use than it keeps. -/
def State.mapDue (s : State) : Bool := 3 * s.mMin + 2 < s.mapRows

/-- A row may be raked: FULL; a map row that is not queued only while more stand than R208 keeps; at level IDLE a map row alone.
[log 32: DESIGN CHOICE] -/
def State.rakeable (s : State) (r : BedRow) : Bool :=
  r.state = .full && (r.cls ≠ .map || r.queued ≠ 0 || 2 * s.mMin + 2 < s.mapRows) && (s.bed.rakeLevel ≠ 0 || r.cls = .map)

/-- Whether a row goes before another (R219): queued rows by class, then the fewest live bytes, then the lowest ROW_SEQ. -/
def rakeBefore (s : State) (a b : BedRow) : Bool :=
  let qa := if a.queued = 0 then 9 else a.queued
  let qb := if b.queued = 0 then 9 else b.queued
  if qa ≠ qb then qa < qb
  else if qa = 9 && s.liveBytes a ≠ s.liveBytes b then s.liveBytes a < s.liveBytes b
  else a.seq < b.seq

/-- The row being raked, or the next victim. -/
def State.victim (s : State) : Option BedRow :=
  match s.bed.rows.find? fun r => r.state = .raking with
  | some r => some r
  | none => (s.bed.rows.filter fun r => s.rakeable r).foldl (fun b r =>
      match b with
      | none => some r
      | some x => if rakeBefore s r x then some r else some x) none

/-- Raking runs (R208, R218, R220). -/
def State.rakes (s : State) : Bool :=
  s.running && (s.bed.rakeLevel ≠ 0 || s.mapDue) && !s.bed.rakeStopped && s.pip.sanStep = 0 && s.bed.storeReady

/-- Move a record of the victim to the rake row (R217, R239): its source tag is verified, and a record that fails is unreadable (R231); the
update follows its page's program. A move waits for a row and a staging buffer. -/
def moveRec (v : BedRow) (g : Nat) (s : State) : State :=
  let l := (s.hmOf g).loc
  match s.recIn l with
  | none => s
  | some (p, x) =>
    if p.rowSeq ≠ v.seq || (s.hmOf g).state ≠ .stored || s.bed.staged.any (fun q => q.recs.any fun y => y.src = some l) then s
    else if !s.recChecks p x g (s.hmOf g) then
      if s.restoredBit g then fillAll (mapOp (.mark g) s) else loseGranule g s
    else
      let n := 64 + 64 * x.length
      match stageIn .rake 0 { x with tag := s.tag, live := true, src := some l } s with
      | none => s
      | some t => tickUpd (fun u => { u with rake := u.rake + n, nandRead := u.nandRead + n }) t

/-- Live lines of a map row from line `n` on that no staged page holds yet, as many as a page takes. -/
def State.liveFrom (s : State) (v : BedRow) (n : Nat) : List Nat :=
  let real := (s.pagesOf v.seq).flatMap fun p => p.lines.map fun m => m.line
  let zero := match v.zeros with
    | none => []
    | some z => List.range' (max n z.first) (z.first + z.lines - max n z.first)
  ((real ++ zero).filter fun k => n ≤ k && s.lineLive v k && !(s.bed.staged.any fun p => p.lines.any fun m => m.line == k)).take s.segmentLines

/-- Live map lines of the victim are written from the Harvest Map in DRAM as one page of the map row (R208). -/
def moveLines (v : BedRow) (n : Nat) (s : State) : State :=
  let ns := s.liveFrom v n
  if v.cls ≠ .map || ns = [] then s
  else
    match stageSegment .rake ns s with
    | none => s
    | some t => tickUpd (fun u => { u with rake := u.rake + 68 * ns.length }) t

/-- A victim that holds the latest block table has it written anew first. [log 32: DESIGN CHOICE] -/
def moveTable (v : BedRow) (s : State) : State := if s.latestTable.any fun p => p.rowSeq == v.seq then writeBlockTable s else s

/-- RAKE_MOVE (R208, R216 to R219). A row left without live content is SPENT. -/
def execRakeMove (item : RakeItem) (s : State) : Host.Outcome State Fault Refusal :=
  if s.rakes then
    match s.victim with
    | none => .next s
    | some v =>
      let s := rowUpd v.seq (fun r => { r with state := .raking }) s
      let s := moveTable v { s with bed := { s.bed with rakeActive := true } }
      let s := match item with
        | .granule g => moveRec v g s
        | .line n => moveLines v n s
      .next (settle (spendRows s))
  else .next s

/-! ### Erases, retirement, dies (R205, R209, R214, R225, R226, R231) -/

/-- A restore read holds a location in a row: a fetch keeps the one it took at its start (R176, R216). -/
def State.readHeld (s : State) (r : BedRow) : Bool := s.fld.fetches.any fun f => f.loc.any fun l => s.inRow r l

/-- Begin the erases of a row without live content: its blocks leave the row; one that has failed a program is retired. -/
def eraseRow (r : BedRow) (s : State) : State :=
  let s := { s with bed := { s.bed with
    rows := s.bed.rows.filter fun x => x.seq != r.seq
    pages := s.bed.pages.filter fun p => p.rowSeq != r.seq
    rakeActive := s.bed.rakeActive && r.state ≠ .raking } }
  r.blocks.foldl (fun s p =>
    if (s.blk p.1 r.lane p.2).failed then retireBlock p.1 r.lane p.2 3 s
    else blkUpd p.1 r.lane p.2 (fun b => { b with state := .spent, erasing := true }) s) s

/-- ROW_ERASE (R216, R220): a SPENT row; it waits while a restore read holds a location in the row, and for the end of a mismatch. -/
def execRowErase (rowSeq : Nat) (s : State) : Host.Outcome State Fault Refusal :=
  let s1 := spendRows s
  match s1.row rowSeq with
  | none => .next s
  | some r =>
    if r.state = .spent && s.running && !s.readHeld r && !s.bed.mismatch then .next (eraseRow r s1) else .next s

/-- Rows whose mean erase count lies more than 1,000 below the highest of their lane are queued for wear levelling (R219). -/
def levelRows (s : State) : State :=
  let mean := fun (r : BedRow) => meanOf 1 (r.blocks.map fun p => (s.blk p.1 r.lane p.2).erases)
  let top := fun (lane : Nat) => s.bed.rows.foldl (fun n r => if r.lane = lane then max n (mean r) else n) 0
  { s with bed := { s.bed with rows := s.bed.rows.map fun r =>
      if r.state = .full && r.queued = 0 && mean r + 1000 < top r.lane then { r with queued := 4 } else r } }

/-- ERASE_COMPLETE (R205, R209, R225, R226). -/
def execEraseComplete (channel die block : Nat) (ok : Bool) (s : State) : Host.Outcome State Fault Refusal :=
  let b := s.blk channel die block
  if b.erasing && s.alive && !s.saving then
    if ok then
      let n := b.erases + 1
      let st := if b.state = .ckpt then BlkState.ckptErased else .erased
      let s := blkUpd channel die block (fun b => { b with state := st, erases := n, erasing := false, holds := 0 }) s
      let s := if s.nand.pslcPe ≠ 0 && s.nand.pslcPe ≤ n then retireBlock channel die block 2 s else s
      let s := { s with bed := { s.bed with sinceTable := s.bed.sinceTable + 1 } }
      .next (levelRows (settle s))
    else
      let s := chanUpd channel (fun c => { c with eraseFail := satAdd 16 c.eraseFail 1 }) s
      let s := fltRaise 0x52 channel (retireBlock channel die block 1 s)
      .next (dieFailure channel die block s)
  else .next s

/-- STORE_PATROL (R223): one pass over the descriptor codewords; `queue` names the rows whose codeword needed the ladder's RELOCATE step
or failed its check. -/
def execStorePatrol (queue : NSet) (s : State) : Host.Outcome State Fault Refusal :=
  if s.running && s.bed.storeReady then
    .next (queue.foldl (fun s n => queueRow n 2 s) { s with bed := { s.bed with patrolled := s.bed.patrolled + 1 } })
  else .next s

/-- ZQ_CALIBRATION (R194): of every active NAND channel, whatever runs on it. -/
def execZqCalibration (s : State) : Host.Outcome State Fault Refusal :=
  if s.alive then
    .next { s with bed := { s.bed with chans := s.bed.chans.map fun e =>
      (e.1, if e.2.active then { e.2 with zqCount := e.2.zqCount + 1 } else e.2) } }
  else .next s

/-- DIE_RESET_TIMEOUT (R226): no ready within 50 ms of a reset. -/
def execDieResetTimeout (channel die : Nat) (s : State) : Host.Outcome State Fault Refusal :=
  if (s.running || s.saving || s.dev.st = .reflood) && (s.chan channel).present.contains die then .next (endIfDue (loseDie channel die s))
  else .next s

end Sys2Proof.Machine
end

