-- ==== Sys2Proof/Machine/Thermal.lean ====
section
/-!
DEFINITION. Thermal Guard (R341 to R362) and Harvest's thermal shedding (R155).
-/
namespace Sys2Proof.Machine

/-! ### Inputs (R343) -/

/-- +150 °C and the clamp of +140 °C, in 1/16 °C. -/
def brokenReading : Int := 2400
def clampAt : Int := 2240

/-- A conversion that counts towards a break. -/
def badReading (n : Nat) : ThmReading → Bool
  | .invalid => true
  | .measured t => t < (if 20 ≤ n then -720 else -880)

/-- An input after one conversion: three bad ones break it, three good ones mend it. [log 45: DEDUCED] -/
def inputAfter (n : Nat) (r : ThmReading) (x : ThmInput) : ThmInput :=
  if badReading n r then
    { x with badRun := x.badRun + 1, goodRun := 0, broken := x.broken || 3 ≤ x.badRun + 1 }
  else
    match r with
    | .invalid => x
    | .measured t =>
      let v := min t clampAt
      let mended := !x.broken || 3 ≤ x.goodRun + 1
      { x with
        goodRun := x.goodRun + 1, badRun := 0, broken := !mended, temp := some v, clamped := clampAt < t
        peak := some (match x.peak with | none => v | some p => max p v) }

def State.thmIn (s : State) (n : Nat) : ThmInput := tblGet {} s.thm.inputs n

/-- The reading an input shows: +150 °C while it is broken. -/
def ThmInput.shows (x : ThmInput) : Option Int := if x.broken then some brokenReading else x.temp

/-- Enabled inputs' readings as thresholds compare them: broken inputs are left out in RECOVERY (R358). -/
def State.thmReads (s : State) : List (Nat × Int) :=
  s.thm.enable.filterMap fun n =>
    let x := s.thmIn n
    if x.broken && s.dev.st = .recovery then none else x.shows.map fun t => (n, t)

/-- Measured readings (R354). -/
def State.thmMeasured (s : State) : List (Nat × Int) :=
  s.thm.enable.filterMap fun n =>
    let x := s.thmIn n
    if x.broken then none else x.temp.map fun t => (n, t)

/-- A threshold in force, 1/16 °C: 3 °C lower without valid tables (R361). -/
def State.limit (s : State) (c : Nat) : Int := ((c : Int) - (if s.thm.calDerated then 3 else 0)) * 16

def State.thresh (s : State) (n : Nat) : ThmThresh := tblGet {} s.thm.thresh n

/-- Inputs at or above a threshold, some degrees below it. -/
def State.atOrAbove (s : State) (f : ThmThresh → Nat) (below : Int) (l : List (Nat × Int)) : List (Nat × Int) :=
  l.filter fun e => s.limit (f (s.thresh e.1)) - below * 16 ≤ e.2

/-! ### Trims (R360) -/

/-- Linear interpolation in a trim table, flat beyond its ends. -/
def trimAt : List (Int × Nat) → Int → Nat
  | [], _ => 0x80
  | [(_, c)], _ => c
  | (t, c) :: (u, d) :: r, x =>
    if x ≤ t then c
    else if x ≤ u then ((c : Int) + ((d : Int) - c) * (x - t) / (u - t)).toNat
    else trimAt ((u, d) :: r) x

/-- Both trims at a sample of S0; mid-scale without valid tables (R361). -/
def trimSync (s : State) : State :=
  if s.thm.calibValid then
    match (s.thmIn 0).temp with
    | none => s
    | some t => { s with thm := { s.thm with oscTrim := trimAt s.thm.oscTable t % 256, bgTrim := trimAt s.thm.bgTable t % 256 } }
  else { s with thm := { s.thm with oscTrim := 0x80, bgTrim := 0x80 } }

/-! ### Levels and throttle steps (R345, R349 to R352) -/

/-- The shadow set a step asks for (R350): counted from the running set of R314 towards slower enabled sets. -/
def State.stepSet (s : State) (step : Nat) : Option Nat :=
  match s.lay.inForce with
  | none => none
  | some l =>
    let en := [0, 1, 2, 3].filter fun k => l.dram.sets.contains k
    let base := ((en.filter fun k => s.dmc.trained.contains k).head?).orElse fun _ => en.head?
    match base with
    | none => none
    | some b =>
      let down := en.filter fun k => b ≤ k
      if step = 3 then down.getLast? else (down[step]?).orElse fun _ => down.getLast?

/-- The head cap of a step, GB/s (R350). -/
def stepCap : Nat → Nat
  | 0 => 0 | 1 => 80 | 2 => 48 | _ => 24

/-- The request of the step in force (R350 to R352): none in a save, or before DRAM has power. -/
def requestStep (s : State) : State :=
  if s.saving || !s.dmc.powered then s
  else match s.stepSet s.thm.step with
    | none => s
    | some k => if s.dmc.current = k && s.trn.activity = 0 then s else (requestSet k s).1

/-- A throttle step is taken (R350, R351). -/
def setStep (n : Nat) (s : State) : State :=
  if s.thm.step = n then s
  else requestStep (tlyTrigger 0x108 0 { s with thm := { s.thm with step := n, headCap := stepCap n } })

/-- The thermal level (R345): 3 stopped or SHUT, 2 THROTTLE, 1 WARN. -/
def State.thmLevel (s : State) : Nat :=
  if s.thm.trip || s.thm.shut then 3 else if s.thm.step ≠ 0 then 2 else if s.thm.warned ≠ [] then 1 else 0

/-- A signed number as an event record's 64-bit VALUE. -/
def asU64 (v : Int) : Nat := (v % (2 ^ 64 : Int)).toNat

/-- LEVEL as it stands; a change is told to Tally, to each linked head, and to the thermal-warning source (R345, R349). -/
def levelSync (s : State) : State :=
  let n := s.thmLevel
  let old := s.thm.level
  if n = old then s
  else
    let s := tlyTrigger 0x108 0 { s with thm := { s.thm with level := n } }
    let s := chapenEvent (if old < n then .warning else .info) 0x09 n 0xFF s.thm.hottestInput 0 0 (asU64 s.thm.hottest) s
    fltCond 0xA0 (n ≠ 0) s

/-- WARN and THROTTLE of a sample: entered at the threshold; WARN is left when every input that reached it is 5 °C below its own. -/
def warnSync (s : State) : State :=
  let rs := s.thmReads
  let hotter := (s.atOrAbove ThmThresh.warn 0 rs).map fun e => e.1
  let set := hotter.foldl (fun w n => setAdd n w) s.thm.warned
  let near := (s.atOrAbove ThmThresh.warn 5 rs).filter fun e => e.2 ≠ s.limit (s.thresh e.1).warn - 80
  let hold := near.any fun e => set.contains e.1
  let thr := (s.atOrAbove ThmThresh.throttle 0 rs).map fun e => e.1
  let s := { s with thm := { s.thm with
    warned := if hold then set else []
    throttledBy := thr.foldl (fun w n => setAdd n w) s.thm.throttledBy } }
  if thr ≠ [] && s.thm.step = 0 then
    setStep 1 { s with thm := { s.thm with throttles := satAdd 8 s.thm.throttles 1 } }
  else s

/-! ### SHUT, shedding, HALT (R155, R353 to R355) -/

/-- Thermal HALT with what stopped it (R355): 1 SHUT outside ARMED, 2 absolute limit, 3 SHUT at start. [log 46: DEDUCED] -/
def thermalHalt (cause : Nat) (e : Nat × Int) (s : State) : State :=
  let by_ : ThmStop := { cause := cause, input := e.1, state := s.dev.st.code, temp := e.2 }
  let s := enterHalt .thermal { s with thm := { s.thm with lastStop := by_, halts := satAdd 8 s.thm.halts 1 } }
  { s with thm := { s.thm with level := 3, restartS := 0, restartRun := false }, dev := { s.dev with savedBy := 0 } }

/-- Channels a shed step keeps (R155). -/
def shedKeeps (step c : Nat) : Bool := if step = 1 then c % 2 = 0 else c % 4 = 0

/-- A shed step: the other channels stand by after their staged pages are programmed. -/
def shedTo (step : Nat) (s : State) : State :=
  let s := s.bed.staged.foldl (fun s p => if shedKeeps step p.channel then s else pageDone p s) s
  narrowRows { s with
    bed := { s.bed with chans := s.bed.chans.map fun e => (e.1, { e.2 with active := e.2.active && shedKeeps step e.1 }) }
    hrv := { s.hrv with shed := step } }

/-- The second shed step (R155): a reading at SHUT at M2 or after it, with the first step taken. -/
def secondShed (s : State) : State :=
  if (s.hrv.phase = 4 || s.hrv.phase = 5) && s.hrv.shed = 1 && s.hrv.m2 && s.atOrAbove ThmThresh.shut 0 s.thmReads ≠ [] then shedTo 2 s else s

/-- What a sample does to a running save (R155): the first step during H3, its tail included, the second, and the end of the data phase. -/
def saveThermal (s : State) : State :=
  let near := s.atOrAbove ThmThresh.shutSave 5 s.thmReads ≠ []
  let s := secondShed (if s.hrv.phase = 4 && s.hrv.shed = 0 && near then shedTo 1 s else s)
  if !s.hrv.m3 && s.atOrAbove ThmThresh.shutSave 0 s.thmReads ≠ [] then { s with hrv := { s.hrv with thermalEnd := true } } else s

/-- A reading at or above SHUT, by the device state (R353). [log 46: DEDUCED] -/
def shutSync (s : State) : State :=
  match s.atOrAbove ThmThresh.shut 0 s.thmReads with
  | [] => { s with thm := { s.thm with shut := false } }
  | e :: _ =>
    let first := !s.thm.shut
    let s := { s with thm := { s.thm with shut := true } }
    match s.dev.st with
    | .armed => beginSave .thermal 0 s
    | .harvest => if first then laterTrigger .thermal ((s.dev.aonUs - s.hrv.t0Us) * 1000) s else s
    | .salvage => if first then laterTrigger .thermal ((s.dev.aonUs - s.hrv.t0Us) * 1000) s else s
    | .unarmed => thermalHalt 1 e s
    | .boot => thermalHalt 1 e s
    | .reflood => thermalHalt 1 e s
    | .recovery => thermalHalt 1 e s
    | _ => s

/-! ### Samples -/

/-- Convert every enabled input that has a reading, count the breaks, and take the hottest (R343, R346, R363). -/
def convert (readings : List (Nat × ThmReading)) (s : State) : State :=
  let use := readings.filter fun r => s.thm.enable.contains r.1
  let t := use.foldl (fun t r => tblUpd {} r.1 (inputAfter r.1 r.2) t) s.thm.inputs
  let fresh := use.filter fun r => (tblGet {} t r.1).broken && !(s.thmIn r.1).broken
  let s := { s with thm := { s.thm with inputs := t, breaks := satAdd 8 s.thm.breaks fresh.length } }
  let hot := s.thm.enable.foldl (fun (b : Option (Nat × Int)) n =>
    match (s.thmIn n).shows with
    | none => b
    | some v =>
      match b with
      | none => some (n, v)
      | some x => if x.2 < v then some (n, v) else b) none
  let s := match hot with
    | none => s
    | some h => { s with thm := { s.thm with hottest := h.2, hottestInput := h.1 } }
  fresh.foldl (fun s _ => fltRaise 0xA1 0 s) (trimSync s)

/-- 2 ms sampling is called for (R347). -/
def State.thmNear (s : State) : Bool :=
  let within := fun (c : Nat) (v : Int) => s.limit c - 80 ≤ v && v ≤ s.limit c + 80
  s.thm.enable.any fun n =>
    match (s.thmIn n).shows with
    | none => false
    | some v =>
      let t := s.thresh n
      within t.warn v || within t.throttle v || within t.shut v || within t.shutSave v || (1920 ≤ v && v ≤ 2000)

/-- The restart condition (R356): every enabled input below RESTART, none broken. -/
def State.coolNow (s : State) : Bool :=
  s.thm.enable.all fun n =>
    let x := s.thmIn n
    !x.broken && (match x.temp with | none => false | some t => t < (s.thm.restartC : Int) * 16)

/-- Once-per-second sampling while stopped (R347, R356). [log 45: DEDUCED] -/
def stoppedSample (readings : List (Nat × ThmReading)) (s : State) : State :=
  let s := convert readings { s with dev := { s.dev with aonUs := s.dev.aonUs + 1000000 } }
  let ok := s.coolNow
  { s with thm := { s.thm with
      restartRun := ok, restartS := if ok && s.thm.restartRun then min 10 (s.thm.restartS + 1) else 0 } }

/-- A sample in a running state: levels, then the absolute limit, then SHUT (R348 to R354, R362). -/
def runningSample (readings : List (Nat × ThmReading)) (s : State) : State :=
  let s := convert readings s
  let s := { s with thm := { s.thm with fast := s.thm.fast || s.thmNear } }
  match s.thmMeasured.find? fun e => 2000 ≤ e.2 with
  | some e => thermalHalt 2 e s
  | none =>
    let s := warnSync s
    let s := if s.saving then saveThermal s else s
    levelSync (shutSync s)

/-- THERMAL_SAMPLE (R347): one conversion of the enabled inputs. -/
def execThermalSample (readings : List (Nat × ThmReading)) (s : State) : Host.Outcome State Fault Refusal :=
  if s.coolsDown then .next (stoppedSample readings s)
  else if s.dev.st = .off || s.dev.st = .sealed || s.dev.st = .halt || s.dev.startDue then .next s
  else .next (runningSample readings s)

/-- THROTTLE_STEP_ADVANCE (R350): 500 ms have passed with an enabled input still at or above its THROTTLE threshold. -/
def execThrottleStepAdvance (s : State) : Host.Outcome State Fault Refusal :=
  if s.alive && s.thm.step ≠ 0 && s.thm.step < 3 && s.atOrAbove ThmThresh.throttle 0 s.thmReads ≠ [] then
    .next (setStep (s.thm.step + 1) s)
  else .next s

/-- Every enabled input reads at least 5 °C below its THROTTLE threshold (R351). -/
def State.throttleCool (s : State) : Bool :=
  s.thmReads.all fun e => e.2 ≤ s.limit (s.thresh e.1).throttle - 80

/-- THROTTLE_STEP_BACK (R351): the condition has held for 1 s; at step 0 the THROTTLE level ends. -/
def execThrottleStepBack (s : State) : Host.Outcome State Fault Refusal :=
  if s.alive && s.thm.step ≠ 0 && s.throttleCool then
    let s := setStep (s.thm.step - 1) s
    .next (levelSync { s with thm := { s.thm with throttledBy := if s.thm.step = 0 then [] else s.thm.throttledBy } })
  else .next s

/-- THERMAL_RESTART (R15, R356): the condition has held for an unbroken 10 s. A thermal HALT ends; SEALED or a HALT under R61 after a save
of trigger 3 ends once power-good has held too. -/
def execThermalRestart (s : State) : Host.Outcome State Fault Refusal :=
  if s.coolsDown && s.thm.restartRun && 10 ≤ s.thm.restartS then
    if s.dev.st = .halt && s.dev.halt = .thermal then .next (startFrom 6 s)
    else
      let s := { s with dev := { s.dev with coolOk := true } }
      .next (if s.dev.pgOk then startFrom 6 s else s)
  else .next s

/-- FAST_SAMPLING_END (R347): 1 s has passed since the last reading near a threshold. -/
def execFastSamplingEnd (s : State) : Host.Outcome State Fault Refusal :=
  if s.alive && !s.thmNear then .next { s with thm := { s.thm with fast := false } } else .next s

end Sys2Proof.Machine
end

