-- ==== Sys2Proof/Machine/Save.lean ====
section
/-!
DEFINITION. The save commands (R129, R140 to R151, R61).
-/
namespace Sys2Proof.Machine

/-- HARVEST_NOW (R129, R280): trigger 5 from the holder of cell 1. -/
def execHarvestNow (head : Head) (gen : BitVec 16) (sealCritical : Bool) (s : State) : Host.Outcome State Fault Refusal :=
  .next (guarded head 1 gen 0xC111 false (fun s =>
    if !s.running || !s.sal.holdArm then reply head 0xC111 3 .empty s
    else if sealCritical || s.pip.sanStep ≠ 0 then reply head 0xC111 4 .empty s
    else beginSave .harvestNow 0 (reply head 0xC111 0 .empty s)) s)

/-- Every dirty granule has been saved or abandoned under R136, and none is inside Panhouse (R140, R142). -/
def State.backlogDone (s : State) : Bool :=
  (s.dirtyRegions.all fun r => (s.dirtyIn r).all fun g => s.hrv.poisoned.contains g) &&
  (s.drn.path.all fun i => i.step = .staged)

/-- M1 (R141): Panhouse turns to fast compression. -/
def passM1 (s : State) : State :=
  if s.hrv.pM1 ≤ s.sal.econs && !s.hrv.m1 then
    { s with hrv := { s.hrv with m1 := true, eM1 := s.sal.econs }, pip := { s.pip with fast := true } }
  else s

/-- M2 (R141, R155): the PHYs are off at the latest now, and the second shed step is taken where a reading is at SHUT. -/
def passM2 (phyAOff phyBOff : Bool) (s : State) : State :=
  if s.hrv.pM2 ≤ s.sal.econs && !s.hrv.m2 then
    secondShed (confirmPhys phyAOff phyBOff { s with hrv := { s.hrv with m2 := true, eM2 := s.sal.econs } })
  else s

/-- The milestones a publication crosses, in their order (R140, R141); the end of the data phase confirms the PHYs at the latest (R130,
H2). [log 28: DEDUCED] -/
def milestones (phyAOff phyBOff : Bool) (s : State) : State :=
  let s := passM2 phyAOff phyBOff (passM1 s)
  let ended := fun (s : State) => { s with hrv := { s.hrv with thermalEnd := false } }
  if s.hrv.pM3 ≤ s.sal.econs then endData true (confirmOnce phyAOff phyBOff (ended s))
  else if s.hrv.thermalEnd then endData false (confirmOnce phyAOff phyBOff s)
  else if s.hrv.endNow || s.backlogDone then endData false (confirmOnce phyAOff phyBOff (ended s))
  else s

/-- ECONS_PUBLISH (R60, R140): SAL_ECONS is published and Harvest tests it. -/
def execEconsPublish (phyAOff phyBOff : Bool) (s : State) : Host.Outcome State Fault Refusal :=
  if !s.saving then .next s
  else
    let s := { s with sal := { s.sal with econs := s.sal.accUj / 1000 } }
    .next (if s.hrv.m3 then confirmOnce phyAOff phyBOff s else milestones phyAOff phyBOff (repace s))

/-- DATA_PHASE_END (R142): the backlog is exhausted; the PHYs are confirmed off at the latest now (R130, H2). -/
def execDataPhaseEnd (phyAOff phyBOff : Bool) (s : State) : Host.Outcome State Fault Refusal :=
  if s.saving && !s.hrv.m3 && s.backlogDone then
    .next (endData false (confirmOnce phyAOff phyBOff { s with hrv := { s.hrv with thermalEnd := false } }))
  else .next s

/-- TAIL_COMPLETE (R141, R145 to R149): staged records programmed, rows closed, H4 writes both copies; no header page is written when
Keyhouse cannot sign or no channel remains (R149, R154). -/
def execTailComplete (canSign copyA copyB : Bool) (s : State) : Host.Outcome State Fault Refusal :=
  if s.saving && s.hrv.m3 && s.hrv.phase = 4 then
    let s := runTail s
    let n := s.activeCh.length
    let s := { s with hrv := { s.hrv with eTail := s.sal.econs, phase := 5, bothOnOne := n = 1, unsaved := s.map.total } }
    if canSign && n ≠ 0 then
      let s := signEcdsa s
      .next (dramRests (writeCopies copyA copyB s))
    else .next (dramRests { s with hrv := { s.hrv with failed := true } })
  else .next s

/-- The copies whose header reads back intact at H4 (R150): a copy that does not is not valid. -/
def readBack (backA backB : Bool) (s : State) : State :=
  match s.bed.ckpts with
  | [] => s
  | c :: cs =>
    if c.hdr.saveSeq = s.hrv.saveSeq && !s.hrv.failed then
      let ok := c.copyA && backA || c.copyB && backB
      let c1 := { c with copyA := c.copyA && backA, copyB := c.copyB && backB, isSealed := ok }
      { s with
        bed := { s.bed with ckpts := if ok then c1 :: cs else cs }
        hrv := { s.hrv with isSealed := ok, failed := !ok } }
    else s

/-- The Salinometer save record (R74, R75): it closes at the start of H5 and is signed at the next start. -/
def saveSalRecord (s : State) : State × SalRec :=
  mkSalRec 1 s.hrv.trigger s.sal.etrig (s.sal.accUj / 1000) ((s.dev.aonUs - s.sal.saveStartUs) * 4096 / 125000) s.sal.saveMinMv
    s.sal.savePeakMa s.sal.saveTLow s.sal.saveTHigh 0 0 s

/-- H5 (R151): locator, Salinometer save record, NAND standby, DRAM reset, HOLD_EN released, SEALED. A sealed save record closes the
open-image marker (R40). Everything outside the always-on domain is off from here on (R156, R379, R547); an RST_N latched in the
save acts now (R549). [log 29: DEDUCED] -/
def enterSealed (recordOk : Bool) (s : State) : State :=
  let h := s.hrv
  let s := if h.isSealed then
      match s.bed.ckpts with
      | [] => s
      | c :: _ => s.journal (.locator h.saveSeq c.hdr.locA c.hdr.locB)
    else s
  let t := saveSalRecord s
  let s := if recordOk then
      let s := t.1.journal (.salRec t.2)
      if h.isSealed then { s with jrn := closeImage s.jrn } else s
    else t.1
  let latched := s.pins.rstLatched
  let t := coreLost (mainReset 0 s)
  let t := { t with
    dev := { t.dev with st := .sealed, startDue := false, savedBy := h.trigger, cycled := s.dev.cycled }
    sal := { t.sal with reanchor := true }
    thm := { t.thm with
      trip := h.trigger = 3, enable := s.thm.enable, thresh := s.thm.thresh, restartC := s.thm.restartC, inputs := s.thm.inputs } }
  if latched && h.trigger = 5 then startFrom 2 t else t

/-- SEAL (R150, R151): the read-back within H4, then H5; a Salt Cellar erase that runs is allowed to finish first. -/
def execSealSave (backA backB recordOk : Bool) (s : State) : Host.Outcome State Fault Refusal :=
  let erasing := match s.cel.op with | .erasing _ _ => true | _ => false
  if s.saving && s.hrv.phase = 5 && !erasing then
    let s := readBack backA backB s
    .next (enterSealed recordOk { s with hrv := { s.hrv with phase := 6, eEnd := s.sal.econs, ckptUs := s.dev.aonUs - s.hrv.m3Us } })
  else .next s

/-- VABS_RELEASE (R61, R154): HOLD_EN is released and the save ends in a fault HALT. -/
def execVabsRelease (s : State) : Host.Outcome State Fault Refusal :=
  if s.saving then
    let t := s.hrv.trigger
    let s := enterHalt .vabs s
    .next { s with dev := { s.dev with savedBy := t } }
  else .next s

end Sys2Proof.Machine
end

