-- ==== Sys2Proof/Machine/Faults.lean ====
section
/-!
DEFINITION. The Fault Collector's commands (R365 to R367, R371, R377, R381) and what an event source does besides its level.
-/
namespace Sys2Proof.Machine

/-- Acknowledge the unacknowledged events a test picks (R371); no level-1 event left withdraws the supervisor's interrupt. -/
def ackEvents (pick : Unack → Bool) (s : State) : State :=
  let l := s.flt.unack.filter fun u => !pick u
  { s with flt := { s.flt with unack := l, supIrq := s.flt.supIrq && l.any fun u => u.level == 1 } }

/-- Tally falls back (R398): no ring record is kept; an error in a record that waits to be mirrored drops that mirror (R399). -/
def tlyFall (mirror : Bool) (s : State) : State :=
  let t := s.tly
  let hit := mirror && t.mirrorQ ≠ []
  { s with tly := { t with
      fallback := true, ring := []
      mirrorQ := if hit then t.mirrorQ.drop 1 else t.mirrorQ
      mirrorDropped := if hit then satAdd 16 t.mirrorDropped 1 else t.mirrorDropped } }

/-- A Panhouse engine fails (R107, R253, R369): the error and its code are counted, and the drain it was working on is given up. The error names no
granule: the model takes the one longest in it. [log 26: DEDUCED] -/
def pipeFailed (detail : Nat) (s : State) : State :=
  let s := { s with pip := { s.pip with errors := satAdd 16 s.pip.errors 1, lastError := detail % 8 } }
  match s.drn.path.find? fun i => i.step = .reading with
  | none => s
  | some i => dropDrain i.granule s

/-- What a source's fault means to its own block, before the Collector has it: a NAND channel or engine leaves service (R226), a staging
slot is discarded, Panhouse loses the granule in it (R253), the random generator stops (R483), an LMS reservation
has failed (R474), Tally falls back (R398), a DRAM engine
reload counts one retry of the step in progress (R339). -/
def sourceEffect (source unit detail : Nat) (s : State) : State :=
  if s.flt.masked.contains source || !s.alive then s
  else if source = 0x50 then if unit < 32 then loseChannels [unit] (if detail = 2 then 2 else 1) s else s
  else if source = 0x21 then if unit < 4 then loseChannels ((List.range 8).map fun k => 8 * unit + k) 4 s else s
  else if source = 0x30 then if s.saving then s else losePages (s.bed.staged[unit]?).toList s
  else if source = 0x60 then pipeFailed detail s
  else if source = 0xC2 then { s with key := { s.key with rbgOk := false } }
  else if source = 0xC1 then { s with key := { s.key with lmsFail := true } }
  else if source = 0xE0 then tlyFall (detail = 1) s
  else if source = 0x20 then
    if s.trn.activity = 3 && (s.tchan unit).queue ≠ [] then tchanUpd unit (fun x => { x with retries := satAdd 4 x.retries 1, tries := min 3 (x.tries + 1) }) s else s
  else s

/-- FAULT_EVENT (R366, R369, R378, R381): one occurrence, a condition that begins, or one that ends. `unit` is the channel, engine or head
the source passes; `detail` its code. -/
def execFaultEvent (source unit detail : Nat) (edge : SrcEdge) (s : State) : Host.Outcome State Fault Refusal :=
  match edge with
  | .falls =>
    let s := fltFall source s
    .next (if source = 0xC2 then { s with key := { s.key with rbgOk := true } } else s)
  | .occurrence => .next (endIfDue (repace (fltRaise source unit (sourceEffect source unit detail s))))
  | .rises =>
    if s.flt.live.contains source then .next s
    else .next (endIfDue (repace (fltRise source unit (sourceEffect source unit detail s))))

/-- BLOCK_RESET_COMPLETE (R371, R398): the block's level-3 events are acknowledged. Tally in fall-back has had its ring cleared and tested;
`ok` says whether the test passed. -/
def execBlockResetComplete (block : FltBlock) (ok : Bool) (s : State) : Host.Outcome State Fault Refusal :=
  if s.flt.resetting.contains block then
    let mine := fun (u : Unack) => u.level == 3 && (match srcRow u.src with | none => false | some r => r.block == block)
    let s := ackEvents mine { s with flt := { s.flt with resetting := s.flt.resetting.filter (· != block) } }
    if block = .tally then
      .next { s with tly := { s.tly with
        ready := true, fallback := s.tly.fallback && !ok, ring := if s.tly.fallback then [] else s.tly.ring } }
    else .next s
  else .next s

/-- The WIREFAULT source of a line's group (R365). -/
def wireSource (line : Nat) : Nat := line / 16

/-- WIREFAULT (R365, R381): a pair in mismatch for more than two cycles is masked and its group's WIREFAULT raised; it is unmasked when the
pair has disagreed for two cycles. In SEALED and HALT only source 0x00 is evaluated (R379). -/
def execWirefault (line : Nat) (on : Bool) (s : State) : Host.Outcome State Fault Refusal :=
  if 256 ≤ line || s.dev.st = .off || (!s.alive && wireSource line ≠ 0) then .next s
  else if on then
    if s.flt.masked.contains line then .next s
    else
      let f := s.flt
      .next (fltRise (wireSource line) 0 { s with flt := { f with
        masked := setAdd line f.masked, wireLine := line, wireGroups := setAdd (wireSource line) f.wireGroups, live := setDel line f.live } })
  else
    let s := { s with flt := { s.flt with masked := setDel line s.flt.masked } }
    .next (if s.flt.masked.any fun m => wireSource m == wireSource line then s else fltFall (wireSource line) s)

/-- FAULT_WINDOW_EXPIRY (R367): the counter and the timer return to 0. -/
def execFaultWindowExpiry (source : Nat) (s : State) : Host.Outcome State Fault Refusal :=
  .next { s with flt := { s.flt with
    counts := tblUpd {} source (fun c => { c with window := 0 }) s.flt.counts } }

/-- TRAP_RETURN (R371, R381): the level-2 events are acknowledged, unless one arrived while the handler ran: then the trap is taken
again. [log 48: DEDUCED] -/
def execTrapReturn (s : State) : Host.Outcome State Fault Refusal :=
  if s.flt.trap then
    if s.flt.trapAgain then .next { s with flt := { s.flt with trapAgain := false } }
    else .next (ackEvents (fun u => u.level == 2) { s with flt := { s.flt with trap := false } })
  else .next s

/-- A write of FLT_PENDING (R371, R382). -/
def fltPendingWrite (mask : Nat) (s : State) : State := ackEvents (fun u => u.level == 1 && mask.testBit u.cls) s

/-- ACKNOWLEDGE_CLASS (R371): no semaphore cell is needed (R377). -/
def execAcknowledgeClass (port : Port) (mask : Nat) (s : State) : Host.Outcome State Fault Refusal :=
  .next (if s.windowOpen port then fltPendingWrite mask s else s)

/-- Sources a write of word n names. -/
def maskSources (word mask : Nat) : List Nat := ((List.range 32).filter fun k => mask.testBit k).map fun k => 32 * word + k

/-- A write of FLT_STICKY or FLT_SEVERE (R377): a bit whose source is live stays and CLEAR_REFUSED is set; a WIREFAULT's sticky bit clears
its FLT_WIRE group with it (R382). -/
def fltClear (isSevere : Bool) (word mask : Nat) (s : State) : State :=
  let l := maskSources word mask
  let go := l.filter fun n => !s.flt.live.contains n
  let f := s.flt
  let f := { f with clearRefused := f.clearRefused || l.any fun n => f.live.contains n }
  let f := if isSevere then { f with severe := f.severe.filter fun n => !go.contains n }
    else { f with sticky := f.sticky.filter fun n => !go.contains n, wireGroups := f.wireGroups.filter fun n => !go.contains n }
  setErrN { s with flt := f }

/-- CLEAR_STICKY (R377). -/
def execClearSticky (port : Port) (isSevere : Bool) (word mask : Nat) (s : State) : Host.Outcome State Fault Refusal :=
  .next (if s.windowOpen port && word < 8 then fltClear isSevere word mask s else s)

/-- A write of 1 to FLT_FIRST.VALID (R377). -/
def fltClearFirst (s : State) : State :=
  let f := s.flt
  if !f.first.valid then s
  else if f.live.contains f.first.source then { s with flt := { f with clearRefused := true } }
  else { s with flt := { f with first := {} } }

/-- CLEAR_FIRST (R377). -/
def execClearFirst (port : Port) (s : State) : Host.Outcome State Fault Refusal :=
  .next (if s.windowOpen port then fltClearFirst s else s)

end Sys2Proof.Machine
end

