-- ==== Sys2Proof/Machine/RegsB.lean ====
section
/-!
DEFINITION. What the registers of chapters 06 to 08 and 10 to 14 read as (R193, R232, R253, R321, R340, R363, R382, R400).
-/
namespace Sys2Proof.Machine

/-- The value at an offset of a list; 0 where the list has none. -/
def sel (a : Nat) (l : List (Nat × Nat)) : Nat :=
  match l with
  | [] => 0
  | (k, v) :: t => if a = k then v else sel a t

/-- A signed 16-bit field. -/
def asU16 (v : Int) : Nat := (v % 65536).toNat

/-- A bit mask of a set. -/
def maskOf (l : NSet) : Nat := l.foldl (fun w k => w + 2 ^ k) 0

/-! ### Reflood (R193) -/

def rdFld (a : Nat) (s : State) : Nat :=
  let f := s.fld
  let kind := match f.kind with | .none => 0 | .saved => 1 | .reload => 2 | .init => 3
  let left := if s.fld.restored.base && s.fld.restored.exc = [] then 0
    else (List.range s.regions).foldl (fun n r => if (s.rstOf r).restored then n else n + 1) 0
  let df := if f.dfUs = [] then 0 else f.dfUs.foldl (· + ·) 0 / f.dfUs.length
  if f.kind = .none then 0
  else
  sel a
    [ (0x00140000, pack [(0, 3, f.step), (3, 2, kind), (5, 1, b2n f.unlockWait), (6, 1, b2n f.fullTrain), (7, 1, b2n f.copyB),
        (8, 1, b2n f.prevCkpt), (9, 1, b2n f.ordered), (10, 1, b2n s.bed.mismatch), (11, 1, b2n f.deferredAct),
        (12, 1, b2n f.locatorScan)]),
      (0x00140004, f.seq % 2 ^ 32),
      (0x00140008, pack [(0, 16, min 65535 f.readyMs), (16, 16, f.doneCs)]),
      (0x0014000C, left),
      (0x00140010, s.granulesLeft),
      (0x00140014, pack [(0, 16, f.rateNand), (16, 16, f.rateDram)]),
      (0x00140018, f.dfCount),
      (0x0014001C, pack [(0, 16, min 65535 df), (16, 16, f.dfMax)]),
      (0x00140020, pack [(0, 11, f.fetches.length), (16, 11, f.dfPeak)]),
      (0x00140024, pack [(0, 16, f.parity), (16, 16, f.unreadable)]),
      (0x00140028, f.lost.length),
      (0x0014002C, pack [(0, 8, min 255 f.unlockFails), (8, 1, b2n s.pip.secretSet), (9, 1, b2n f.unlockDone),
        (10, 1, b2n (8 ≤ f.unlockFails))]) ]

/-! ### Crystal Beds (R232) -/

/-- Erase counts of the blocks in service: their sum, their highest, and how many blocks there are. -/
def State.wearOf (s : State) : Nat × Nat × Nat :=
  let l := s.bed.blocks.filter fun e => e.2.state ≠ .retired
  let gone := (s.bed.blocks.filter fun e => e.2.state = .retired).length
  (l.foldl (fun n e => n + e.2.erases) 0, l.foldl (fun n e => max n e.2.erases) 0,
    s.bed.chans.length * s.nand.dies * s.nand.blocks - gone)

def rdBedCh (c off : Nat) (s : State) : Nat :=
  let x := s.chan c
  sel off
    [ (0x000, pack [(0, 1, b2n x.active), (1, 1, b2n x.excluded), (2, 3, x.cause), (5, 1, b2n x.trained)]),
      (0x004, pack [(0, 16, maskOf x.present), (16, 16, maskOf x.retired)]),
      (0x008, pack [(0, 8, x.iterMean), (8, 8, x.depthMean), (16, 16, x.rebuilds)]),
      (0x00C, pack [(0, 16, x.progFail), (16, 16, x.eraseFail)]),
      (0x010, pack [(0, 16, x.blocksRetired), (16, 16, x.factoryBad)]),
      (0x014, pack [(0, 16, min 65535 (meanOf 1 x.progTimes)), (16, 16, min 65535 (meanOf 1 x.readTimes))]) ]

def rdBed (a : Nat) (s : State) : Nat :=
  if 0x00200000 ≤ a && a < 0x00220000 then rdBedCh ((a - 0x00200000) / 0x1000) ((a - 0x00200000) % 0x1000) s
  else
    let b := s.bed
    let n := s.nand
    let w := s.wearOf
    sel a
      [ (0x00220000, if s.layoutOk then pack [(0, 5, n.dies), (5, 1, n.mode), (6, 12, n.rate), (18, 12, n.pages - 1),
          (30, 1, b2n (s.storePage = 32768))] else 0),
        (0x00220004, pack [(0, 2, b.health), (2, 3, b.failCause), (5, 1, b2n b.freeOk), (6, 1, b2n b.ckptReady),
          (7, 1, b2n b.storeReady), (8, 1, b2n b.iterWarn), (9, 1, b2n b.retryWarn), (10, 1, b2n b.spareLow)]),
        (0x00220008, min 0x1FFFFFFF b.storeCeil),
        (0x0022000C, pack [(0, 20, min 0xFFFFF b.erasedRows), (20, 12, min 0xFFF b.need)]),
        (0x00220010, pack [(0, 2, b.rakeLevel), (2, 1, b2n b.rakeActive),
          (3, 13, min 8191 (b.rows.filter fun r => r.queued ≠ 0).length), (16, 16, b.rateRake)]),
        (0x00220014, pack [(0, 20, min 0xFFFFF b.rowsAvail),
          (20, 8, min 255 (b.rows.filter fun r => r.cls = .map && r.state ≠ .spent).length)]),
        (0x00220018, pack [(0, 16, if w.2.2 = 0 then 0 else min 65535 (w.1 / w.2.2)), (16, 16, min 65535 w.2.1)]),
        (0x0022001C, pack [(0, 16, b.rateProgram), (16, 16, b.rateRead)]),
        (0x00220020, pack [(0, 16, b.lostPages), (16, 16, b.unprotected)]),
        (0x00220024, pack [(0, 16, b.censusMs), (16, 16, b.eraseMs)]) ]

/-! ### Panhouse (R253) -/

def rdPip (a : Nat) (s : State) : Nat :=
  let p := s.pip
  let sum := p.lens.foldl (· + ·) 0
  let ratio := if sum = 0 then 0 else min 65535 (p.lens.length * 4096 * 256 / (sum * 64))
  let on := match s.lay.inForce with | none => false | some l => l.compress
  sel a
    [ (0x00300000, pack [(0, 1, b2n p.keyLoaded), (1, 1, b2n (p.secretSet && !p.keyLoaded)), (2, 1, b2n p.secretSet),
        (3, 1, b2n p.fast), (4, 1, b2n (p.sanStep ≠ 0))]),
      (0x00300004, b2n on),
      (0x00300008, pack [(0, 16, p.gen), (16, 16, p.wrap)]),
      (0x0030000C, pack [(0, 16, ratio), (16, 16, min 65535 (p.lens.filter fun n => n = 64).length)]),
      (0x00300010, pack [(0, 16, p.rateC), (16, 16, p.rateD)]),
      (0x00300014, pack [(0, 16, p.failTag), (16, 16, p.failHeader)]),
      (0x00300018, pack [(0, 16, p.errors), (16, 3, p.lastError)]),
      (0x0030001C, pack [(0, 3, p.sanStep), (3, 1, b2n p.sanResumed), (16, 16, p.sanCount)]) ]

/-! ### Brine Pond (R321) -/

/-- Floors and hints of the requesters (R306). -/
def qosHint : Nat → Nat
  | 0 => 0 | 1 => 0 | 6 => 2 | 7 => 2 | _ => 3

/-- DMC_CH_MARK: position 15 for none. -/
def markWord (c : Nat) (s : State) : Nat :=
  (List.range 8).foldl (fun w k => w + tblGet 15 s.dmc.marks (markKey c k) % 16 * 16 ^ k) 0

def rdDmcCh (c off : Nat) (s : State) : Nat :=
  let x := s.dchan c
  let geom := match s.lay.inForce with
    | none => 0
    | some l =>
      if c < l.dram.channels then
        pack [(0, 3, l.dram.ranks), (3, 2, Nat.log2 l.dram.stack), (5, 1, b2n l.dram.density32), (6, 8, l.dram.chanGib)]
      else 0
  sel off
    [ (0x000, pack [(0, 1, b2n (s.dchanOn c)), (1, 1, b2n x.failed), (2, 2, x.failCause), (4, 1, b2n x.selfRefresh),
        (5, 1, b2n s.dmc.changing), (6, 2, x.set)]),
      (0x004, geom),
      (0x008, x.ce),
      (0x00C, pack [(0, 16, x.ue), (16, 16, x.poisonReads)]),
      (0x010, pack [(0, 1, x.errSub), (1, 2, x.errRank), (3, 3, x.errCid), (6, 3, x.errBg), (9, 2, x.errBa), (11, 7, x.errCol),
        (18, 4, x.errDevice), (22, 1, b2n x.errUe)]),
      (0x014, x.errRow % 2 ^ 17),
      (0x018, markWord c s),
      (0x01C, pack [(0, 16, x.bwRead), (16, 16, x.bwWrite)]),
      (0x020, pack [(0, 2, x.refRate), (2, 3, x.late.foldl (fun n e => max n e.2) 0)]),
      (0x024, pack [(0, 16, min 65535 (meanOf 1 x.lats)), (16, 16, x.latMax)]) ]

def rdDmcGlobal (a : Nat) (s : State) : Nat :=
  let d := s.dmc
  if 0x0040F040 ≤ a && a < 0x0040F060 then
    let n := (a - 0x0040F040) / 4
    pack [(0, 16, qosTarget s n), (16, 2, qosFloor s n), (18, 2, qosHint n), (20, 12, tblGet 0 d.l3Count n)]
  else if 0x0040F100 ≤ a && a < 0x0040F200 then
    let n := (a - 0x0040F100) / 4
    (List.range 16).foldl (fun w k => w + tblGet 0 d.panAttr (16 * n + k) % 4 * 4 ^ k) 0
  else
    let idle := maskOf ((List.range 8).filter fun c => (s.dchan c).idleRefresh)
    let posted := pack [(0, 13, d.postedLimitKib), (13, 13, min 8191 s.postedKib), (26, 1, b2n d.postedHeld)]
    match s.lay.inForce with
    | none => sel a [(0x0040F020, pack [(4, 2, d.current), (7, 2, d.target), (16, 16, d.changes)]), (0x0040F024, posted)]
    | some l =>
      let p := l.dram
      let done := if s.scrubLines = 0 then 0 else d.scrubLine * 100 / s.scrubLines
      sel a
        [ (0x0040F000, pack [(0, 2, Nat.log2 p.ways), (2, 3, p.grainLog), (8, 8, 2 ^ p.channels - 1), (16, 3, p.channels / max 1 p.ways),
            (19, 1, b2n p.headClosed)]),
          (0x0040F004, s.popGib % 2048),
          (0x0040F008, p.hash0 % 2 ^ 32), (0x0040F00C, p.hash0 / 2 ^ 32 % 256),
          (0x0040F010, p.hash1 % 2 ^ 32), (0x0040F014, p.hash1 / 2 ^ 32 % 256),
          (0x0040F018, p.hash2 % 2 ^ 32), (0x0040F01C, p.hash2 / 2 ^ 32 % 256),
          (0x0040F020, pack [(0, 4, maskOf p.sets), (4, 2, d.current), (6, 1, b2n d.changing), (7, 2, d.target),
            (9, 1, b2n d.pending.isSome), (12, 4, maskOf d.trained), (16, 16, d.changes)]),
          (0x0040F024, posted),
          (0x0040F028, pack [(0, 8, p.scrubHours), (8, 8, done), (16, 16, d.scrubPasses)]),
          (0x0040F02C, pack [(0, 10, p.idleMs), (10, 8, idle)]) ]

def rdDmc (a : Nat) (s : State) : Nat :=
  if 0x0040F000 ≤ a && a < 0x00410000 then rdDmcGlobal a s
  else if (a - 0x00400000) / 0x10000 < 8 then rdDmcCh ((a - 0x00400000) / 0x10000) ((a - 0x00400000) % 0x10000) s
  else 0

/-! ### DRAM training (R340) -/

def rdTrnCh (c off : Nat) (s : State) : Nat :=
  let x := s.tchan c
  let valid := (List.range 4).foldl (fun w k => w + pack [(8 * k, 4, tblGet 0 x.cause k), (8 * k + 4, 2, tblGet 0 x.result k)]) 0
  let steps := (List.range 4).foldl (fun w k => w + pack [(6 * k, 6, (s.trnRec c k).steps)]) 0
  sel off
    [ (0x00, valid), (0x04, steps),
      (0x08, tblGet 0 x.margins (s.dchan c).set % 2 ^ 32),
      (0x0C, pack [(0, 3, x.failStep), (3, 2, x.failSet), (5, 2, x.failRank), (7, 1, x.failSub), (8, 4, x.retries),
        (12, 4, maskOf x.failedSets)]),
      (0x10, pack [(0, 16, x.adjusts), (16, 8, x.driftMax), (24, 1, b2n x.outOfRange)]),
      (0x14, pack [(0, 16, x.cmpErrors), (16, 6, x.cmpLane), (22, 1, x.cmpSub)]) ]

def rdTrn (a : Nat) (s : State) : Nat :=
  let t := s.trn
  if a = 0x00500000 then
    pack [(0, 3, t.activity), (3, 1, b2n (s.running && s.dmc.powered && !s.dmc.changing)), (4, 2, t.set), (6, 3, t.step), (9, 1, b2n s.dmc.pending.isSome),
      (10, 2, s.dmc.pending.getD 0), (12, 1, b2n t.fullNext), (16, 16, t.sessionMs)]
  else if 0x00500100 ≤ a && a < 0x00500200 then rdTrnCh ((a - 0x00500100) / 0x20) ((a - 0x00500100) % 0x20) s
  else 0

/-! ### Thermal Guard (R363) -/

/-- THM_TEMP's reading: 0x7FFF while disabled or before the first sample, 0x0960 while broken. -/
def thmTemp (n : Nat) (s : State) : Nat :=
  let x := s.thmIn n
  if !s.thm.enable.contains n then 0x7FFF
  else match x.shows with | none => 0x7FFF | some t => asU16 t

/-- PEAK_C: whole degrees plus 64. -/
def thmPeak (x : ThmInput) : Nat := match x.peak with | none => 0 | some t => (t / 16 + 64).toNat

def rdThm (a : Nat) (s : State) : Nat :=
  let t := s.thm
  if 0x00640100 ≤ a && a < 0x00640160 then
    let n := (a - 0x00640100) / 4
    let x := s.thmIn n
    let on := t.enable.contains n
    pack [(0, 16, thmTemp n s), (16, 1, b2n (on && x.broken)), (17, 1, b2n (on && x.clamped && !x.broken)),
      (24, 8, if on then thmPeak x else 0)]
  else if 0x00640200 ≤ a && a < 0x00640260 then
    let x := s.thresh ((a - 0x00640200) / 4)
    let d := if t.calDerated then 3 else 0
    pack [(0, 8, x.warn - d), (8, 8, x.throttle - d), (16, 8, x.shut - d), (24, 8, x.shutSave - d)]
  else
    sel a
      [ (0x00640000, pack [(0, 2, t.level), (2, 2, t.step), (4, 1, b2n (t.fast || s.saving)), (5, 1, b2n t.trip),
          (6, 1, b2n (s.saving && (t.thermalSave || s.hrv.thermalEnd || s.hrv.shed ≠ 0))), (16, 8, t.headCap)]),
        (0x00640004, pack [(0, 8, t.restartC), (8, 1, b2n t.calDerated)]),
        (0x00640008, maskOf t.enable),
        (0x0064000C, maskOf (t.enable.filter fun n => (s.thmIn n).broken)),
        (0x00640010, pack [(0, 16, asU16 t.hottest), (16, 5, t.hottestInput)]),
        (0x00640014, pack [(0, 8, t.throttles), (8, 8, t.saves), (16, 8, t.halts), (24, 8, t.breaks)]),
        (0x00640018, pack [(0, 2, t.lastStop.cause), (2, 5, t.lastStop.input), (7, 4, t.lastStop.state), (16, 16, asU16 t.lastStop.temp)]),
        (0x0064001C, t.restartS),
        (0x00640020, pack [(0, 8, t.oscTrim), (8, 8, t.bgTrim), (16, 1, b2n t.calibValid)]) ]

/-! ### Fault Collector (R382) -/

/-- FLT_SRC_CFG of an assigned source. -/
def srcCfgWord (n : Nat) (s : State) : Nat :=
  match srcRow n with
  | none => 0
  | some r =>
    let c := s.srcCfg n
    pack [(0, 3, c.base), (3, 3, c.severe), (6, 8, min 255 c.n), (14, 10, c.w), (24, 2, c.wUnit), (26, 1, b2n c.err),
      (27, 1, b2n (r.hf ≠ 0)), (28, 1, b2n r.stop), (29, 1, 1)]

/-- Classes with an unacknowledged event (R371). -/
def State.pendingClasses (s : State) : Nat :=
  (List.range 16).foldl (fun w c => if s.flt.unack.any fun u => u.cls == c then w + 2 ^ c else w) 0

def rdFlt (a : Nat) (s : State) : Nat :=
  let f := s.flt
  let words := fun (base : Nat) (l : NSet) => setWord l (8 * (a - base))
  if 0x00680040 ≤ a && a < 0x00680060 then words 0x00680040 f.sticky
  else if 0x00680060 ≤ a && a < 0x00680080 then words 0x00680060 f.live
  else if 0x00680080 ≤ a && a < 0x006800A0 then words 0x00680080 f.severe
  else if 0x006800A0 ≤ a && a < 0x006800C0 then words 0x006800A0 f.deferred
  else if 0x00680400 ≤ a && a < 0x00680800 then srcCfgWord ((a - 0x00680400) / 4) s
  else if 0x00680800 ≤ a && a < 0x00680C00 then
    let c := tblGet {} f.counts ((a - 0x00680800) / 4)
    pack [(0, 8, min 255 c.window), (8, 24, c.total)]
  else
    let x := f.first
    sel a
      [ (0x00680000, pack [(0, 1, b2n f.clearRefused), (1, 1, b2n s.errN), (2, 1, b2n f.trap)]),
        (0x00680004, pack [(0, 8, x.source), (8, 4, x.cls), (12, 3, x.level), (15, 4, x.state), (19, 1, b2n x.severe),
          (20, 1, b2n x.deferred), (30, 1, b2n x.overflow), (31, 1, b2n x.valid)]),
        (0x00680008, s.pendingClasses),
        (0x0068000C, pack [(0, 8, f.wireLine), (8, 1, b2n (f.masked.contains f.wireLine)), (16, 16, maskOf f.wireGroups)]),
        (0x00680010, pack [(0, 8, f.haltSource), (8, 1, b2n f.haltPreReady), (9, 2, f.haltCause)]) ]

/-! ### Tally (R383, R400) -/

/-- Word w of a record's 128 bytes. -/
def tlyWord (r : TlyRec) (w : Nat) : Nat :=
  let desc := pack [(0, 2, 1), (2, 1, b2n r.persist), (3, 1, b2n r.fallback), (4, 6, r.list), (10, 6, r.lost)]
  let cause := pack [(0, 9, r.trig), (9, 3, r.level), (12, 4, r.state)]
  if w = 0 then r.seq % 2 ^ 32
  else if w = 1 then r.seq / 2 ^ 32 % 65536 + desc * 65536
  else if w < 30 then (r.words[w - 2]?).getD 0
  else if w = 30 then cause + r.seq % 65536 * 65536
  else r.seq / 65536 % 2 ^ 32

def State.tlySlot (s : State) (n : Nat) : Option TlyRec := (s.tly.ring.find? fun e => e.1 == n).map fun e => e.2

def rdTly (a : Nat) (s : State) : Nat :=
  let t := s.tly
  if 0x006C0000 ≤ a && a < 0x006E0000 then
    if t.fallback then 0
    else match s.tlySlot ((a - 0x006C0000) / 128) with
      | none => 0
      | some r => tlyWord r ((a - 0x006C0000) % 128 / 4)
  else if 0x006E0020 ≤ a && a < 0x006E0030 then
    match t.gasp[(a - 0x006E0020) / 4]? with
    | none => 0
    | some g => pack [(0, 16, g.seq), (16, 9, g.trig), (25, 3, g.level), (28, 4, g.state)]
  else
    sel a
      [ (0x006E0000, pack [(0, 1, b2n t.ready), (1, 1, b2n t.fallback), (2, 1, 0), (3, 6, t.fifo.length),
          (16, 11, t.ring.length)]),
        (0x006E0004, t.nextSeq % 2 ^ 32), (0x006E0008, t.nextSeq / 2 ^ 32 % 65536),
        (0x006E000C, t.cleared % 2 ^ 32), (0x006E0010, t.cleared / 2 ^ 32 % 65536),
        (0x006E0014, t.lostTotal),
        (0x006E0018, pack [(0, 16, t.mirrored), (16, 16, t.mirrorDropped)]) ]

end Sys2Proof.Machine
end

