-- ==== Sys2Proof/Machine/Cellar.lean ====
section
/-!
DEFINITION. The Salt Cellar (R401 to R424): rights, programs, erases, the queue, reads with reference retries, retirement, and the
status-plane scan of a start.
-/
namespace Sys2Proof.Machine

/-! ### Organisation and rights -/

/-- A partition's first sector and number of sectors, by ID (R404). -/
def celPart : Nat → Nat × Nat
  | 0 => (0, 4) | 1 => (4, 512) | 2 => (516, 512) | 3 => (1028, 32) | 4 => (1060, 128) | 5 => (1188, 256)
  | 6 => (1444, 4) | 7 => (1448, 4) | 8 => (1452, 4) | 9 => (1456, 4) | 10 => (1460, 64) | 11 => (1524, 524)
  | _ => (0, 0)

/-- The partition of a sector. -/
def partOf (sector : Nat) : Nat :=
  ((List.range 12).find? fun n => (celPart n).1 ≤ sector && sector < (celPart n).1 + (celPart n).2).getD 0

/-- Partitions a requester may program and erase (R404, R405). -/
def celRights : CelUser → List Nat
  | .bootRom => [1, 2, 8]
  | .firmware => [1, 2, 3, 4, 5, 6, 8]
  | .harvest => [5]
  | .salinometer => [7]
  | .keyhouse => [9, 10]

def celMay (u : CelUser) (sector : Nat) : Bool := (celRights u).contains (partOf sector)

/-- A sector's status record (R403). -/
def State.sector (s : State) (n : Nat) : CelSector := tblGet {} s.cel.sectors n

def sectorUpd (n : Nat) (f : CelSector → CelSector) (s : State) : State :=
  { s with cel := { s.cel with sectors := tblUpd {} n f s.cel.sectors } }

/-- The sector an address reaches: itself, or its spare (R420). -/
def State.reached (s : State) (n : Nat) : Nat := (s.sector n).spare.getD n

/-- An erased word (R402): all ones, program count 0b11. -/
def erasedWord : CelWord := { data := BitVec.allOnes 128, count := 3 }

/-- The word an address reaches. -/
def State.celWord (s : State) (sector word : Nat) : CelWord := tblGet erasedWord s.cel.words (s.reached sector * 1024 + word)

def putCelWord (phys word : Nat) (w : CelWord) (s : State) : State :=
  { s with cel := { s.cel with words := tblPut erasedWord (phys * 1024 + word) w s.cel.words } }

/-- Check bits of a value (R402): a linear code, so all-zero data has all-zero check bits. -/
def checkOf (d : BitVec 128) : BitVec 9 :=
  (List.range 128).foldl (fun c i => if d.getLsbD i then c ^^^ Config.checkColumn i else c) 0

/-- A program is accepted (R406, R407): the first of an erased word, the all-zero one, or one that needs no bit back at 1. -/
def celAccepts (w : CelWord) (d : BitVec 128) : Bool :=
  w.count = 3 || (w.count ≠ 0 && (d = 0 || (d &&& w.data = d && checkOf d &&& checkOf w.data = checkOf d)))

/-- Spares erased and unused (R420, R422). -/
def State.freeSpares (s : State) : List Nat :=
  ((List.range 524).map (1524 + ·)).filter fun n => !(s.sector n).holds && !(s.sector n).retired

/-! ### Answers -/

def celAnswer (a : CelAnswer) (s : State) : State := { s with cel := { s.cel with answer := a } }

/-- A rejection or failure (R424): CEL_LAST_FAIL and its answer. -/
def celFail (code sector word : Nat) (a : CelAnswer) (s : State) : State :=
  { s with cel := { s.cel with
      lastCode := code, lastSector := sector, lastWord := word, failCount := satAdd 8 s.cel.failCount 1, answer := a } }

/-! ### Running the queue (R406, R409 to R411) -/

/-- An erase begins (R410, E1): the count is raised, the flag set, the cache loses the sector's lines (R415); the advisory comes once for a
sector (R418). -/
def beginErase (u : CelUser) (sector : Nat) (s : State) : State :=
  let n := s.reached sector
  let s := sectorUpd n (fun x => { x with erases := min (2 ^ 27 - 1) (x.erases + 1), flag := true }) s
  let s := { s with cel := { s.cel with
    op := .erasing u sector, answer := .running, lines := s.cel.lines.filter fun l => l / 256 != sector } }
  if 90000000 ≤ (s.sector n).erases && !(s.sector n).advised then
    let s := sectorUpd n (fun x => { x with advised := true }) s
    fltRaise 0xB2 0 { s with cel := { s.cel with countAdv := true } }
  else s

/-- A request runs, or is rejected (R406, R411, R412): the flag says which. -/
def startReq (q : CelReq) (s : State) : State × Bool :=
  match q with
  | .program u sector word data =>
    if (s.sector (s.reached sector)).worn then (celFail 5 sector word .verifyFail s, false)
    else if (s.sector (s.reached sector)).flag then (celFail 4 sector word .flagged s, false)
    else if !celAccepts (s.celWord sector word) data then (celFail 1 sector word .notErased s, false)
    else ({ s with cel := { s.cel with op := .programming u sector word data, answer := .running } }, true)
  | .erase u sector =>
    if s.saving then (celFail 3 sector 0 .refused s, false)
    else if (s.sector (s.reached sector)).worn then (celFail 5 sector 0 .verifyFail s, false)
    else (beginErase u sector s, true)

/-- The array takes the next waiting request that may run (R409). -/
def runQueue : List CelReq → State → State
  | [], s => { s with cel := { s.cel with op := .idle, queue := [] } }
  | q :: t, s =>
    let r := startReq q s
    if r.2 then { r.1 with cel := { r.1.cel with queue := t } } else runQueue t r.1

/-- A Harvest request. -/
def CelReq.harvest : CelReq → Bool
  | .program u _ _ _ => u = .harvest
  | .erase u _ => u = .harvest

/-- A request enters the queue (R409): in arrival order; in a save Harvest's go ahead of every other. [log 50: DEDUCED] -/
def enqueueReq (q : CelReq) (s : State) : State :=
  let l := s.cel.queue
  let l := if s.saving && q.harvest then (l.filter fun x => x.harvest) ++ [q] ++ l.filter fun x => !x.harvest else l ++ [q]
  { s with cel := { s.cel with queue := l, answer := .queued } }

/-- A request that its rights allow: it runs at once on an idle array, waits in the queue, or waits at its source (R409). -/
def takeReq (q : CelReq) (s : State) : State :=
  if s.cel.op = .idle then (startReq q s).1
  else if 64 ≤ s.cel.queue.length then celAnswer .waits s
  else enqueueReq q s

/-- The Salt Cellar can be used: powered, its header valid (R404). -/
def State.celUp (s : State) : Bool := s.alive && s.cel.headerOk

/-- CELLAR_PROGRAM (R405 to R409, R412). [log 9: DEDUCED] -/
def execCellarProgram (user : CelUser) (sector word : Nat) (data : BitVec 128) (s : State) : Host.Outcome State Fault Refusal :=
  if 2048 ≤ sector || 1024 ≤ word then .fault .noSuchCell
  else if !s.celUp then .next s
  else if !celMay user sector then .next (celFail 2 sector word .prot s)
  else .next (takeReq (.program user sector word data) s)

/-- CELLAR_ERASE (R405, R409 to R411). [log 9: DEDUCED] -/
def execCellarErase (user : CelUser) (sector : Nat) (s : State) : Host.Outcome State Fault Refusal :=
  if 2048 ≤ sector then .fault .noSuchCell
  else if !s.celUp then .next s
  else if !celMay user sector then .next (celFail 2 sector 0 .prot s)
  else if s.saving then .next (celFail 3 sector 0 .refused s)
  else .next (takeReq (.erase user sector) s)

/-! ### Retirement (R420 to R422) -/

/-- The programmed words of a physical sector. -/
def State.sectorWords (s : State) (n : Nat) : List (Nat × CelWord) :=
  (s.cel.words.filter fun e => e.1 / 1024 == n).map fun e => (e.1 % 1024, e.2)

/-- Retire a sector to the lowest unused spare (R420); none while fewer than four remain (R422). `keep` copies its words.
[log 50: DEDUCED] -/
def retireSector (sector : Nat) (keep : Bool) (s : State) : State × Bool :=
  match s.freeSpares with
  | a :: _ :: _ :: _ :: _ =>
    let old := s.reached sector
    let words := if keep then s.sectorWords old else []
    let s := words.foldl (fun s e => putCelWord a e.1 e.2 s) s
    let s := sectorUpd a (fun x => { x with holds := true }) s
    let s := if old = sector then s else sectorUpd old (fun x => { x with retired := true, holds := false }) s
    let s := sectorUpd sector (fun x => { x with spare := some a, retired := true }) s
    (fltRaise 0xB3 0 { s with cel := { s.cel with lastRetired := sector } }, true)
  | _ => (s, false)

/-- No spare is left for a sector that has failed verify (R422): further writes to it answer VERIFY_FAIL. [log 50: DEDUCED] -/
def wornOut (sector : Nat) (s : State) : State := sectorUpd (s.reached sector) (fun x => { x with worn := true }) s

/-- A sector that failed in a save is retired at the next start (R421). -/
def oweRetire (sector : Nat) (s : State) : State :=
  if s.saving then { s with cel := { s.cel with retireOwed := setAdd sector s.cel.retireOwed } } else wornOut sector s

/-- The next state of a word that a program passes its last verify on. -/
def programmed (w : CelWord) (d : BitVec 128) : CelWord := { data := d, count := if w.count = 3 then 2 else 0 }

/-- The step means and their advisory (R418). -/
def countProgram (steps : Nat) (s : State) : State :=
  let l := (steps :: s.cel.progSteps).take 4096
  let adv := 4 * l.length < l.foldl (· + ·) 0
  let first := adv && !s.cel.stepAdv
  let s := { s with cel := { s.cel with progSteps := l, programs := satAdd 24 s.cel.programs 1, stepAdv := adv } }
  if first then fltRaise 0xB2 0 s else s

/-- A program that fails its eighth verify (R408, R420 to R422): outside a save its sector is retired and the request completes; in a save,
or with no spare left, VERIFY_FAIL, and the word is undefined. -/
def programFailed (sector word : Nat) (d : BitVec 128) (s : State) : State :=
  let w := s.celWord sector word
  let t := if s.saving then (s, false) else retireSector sector true s
  if t.2 then celAnswer .ok (putCelWord (t.1.reached sector) word (programmed w d) t.1)
  else
    let s := putCelWord (s.reached sector) word { data := Config.word s.free, count := if w.count = 3 then 2 else 0 } s.draw
    fltRaise 0xB0 0 (celFail 5 sector word .verifyFail (oweRetire sector s))

/-- CELLAR_PROGRAM_DONE (R408, R420, R421): the program running ends, and the array takes the next request. -/
def execCellarProgramDone (steps : Nat) (ok : Bool) (s : State) : Host.Outcome State Fault Refusal :=
  match s.cel.op with
  | .programming _ sector word data =>
    let s := countProgram (min 8 steps) s
    let s := if ok then celAnswer .ok (putCelWord (s.reached sector) word (programmed (s.celWord sector word) data) s)
      else programFailed sector word data s
    .next (runQueue s.cel.queue s)
  | _ => .next s

/-- The words of a physical sector are erased. -/
def clearSector (n : Nat) (s : State) : State :=
  { s with cel := { s.cel with words := s.cel.words.filter fun e => e.1 / 1024 != n } }

/-- CELLAR_ERASE_DONE (R410, R420): the erase running ends. One that fails keeps its flag and its sector is retired. -/
def execCellarEraseDone (steps : Nat) (ok : Bool) (s : State) : Host.Outcome State Fault Refusal :=
  match s.cel.op with
  | .erasing _ sector =>
    let n := s.reached sector
    let s := { s with cel := { s.cel with
      eraseSteps := (min 8 steps :: s.cel.eraseSteps).take 64, erases := satAdd 8 s.cel.erases 1 } }
    let s :=
      if ok then celAnswer .ok (sectorUpd n (fun x => { x with flag := false }) (clearSector n s))
      else
        let t := if s.saving then (s, false) else retireSector sector false s
        if t.2 then celAnswer .ok t.1
        else fltRaise 0xB0 0 (celFail 5 sector 0 .verifyFail (oweRetire sector s))
    .next (runQueue s.cel.queue s)
  | _ => .next s

/-! ### Reads (R402, R412, R415 to R417) -/

/-- A read that decodes at a shifted reference is counted (R416). -/
def countRetry (attempts : Nat) (c : Cel) : Cel :=
  match attempts with
  | 1 => { c with plus1 := satAdd 8 c.plus1 1 }
  | 2 => { c with minus1 := satAdd 8 c.minus1 1 }
  | 3 => { c with plus2 := satAdd 8 c.plus2 1 }
  | 4 => { c with minus2 := satAdd 8 c.minus2 1 }
  | _ => c

/-- The cache line of a word (R415). -/
def celLine (sector word : Nat) : Nat := sector * 256 + word / 4

/-- A miss fills its line (R415); in a full cache some line, which no rule names, makes room. [log 50: DEDUCED] -/
def fillLine (n : Nat) (s : State) : State :=
  let c := s.cel
  if c.lines.length < 1024 then { s with cel := { c with lines := setAdd n c.lines } }
  else { s.draw with cel := { c with lines := setAdd n (c.lines.eraseIdx ((Config.number s.free).toNat % 1024)) } }

/-- The longest wait of a read behind the operation running (R417), µs. -/
def Cel.longestWait (c : Cel) : Nat := match c.op with | .erasing _ _ => 8000 | _ => 20

/-- A word as a fetch from the active slot gets it: its line is decrypted as it fills, with K_C and the IV of the image that runs, at the counter
blocks for its offset in the body (R415, R441). -/
def State.fetched (s : State) (sector word : Nat) (d : BitVec 128) : BitVec 128 :=
  let slot := s.upd.running
  let base := (celPart (if slot then 2 else 1)).1
  match s.upd.slot slot with
  | none => d
  | some i =>
    let n := (sector - base) * 1024 + word - 40
    if partOf sector ≠ (if slot then 2 else 1) || (sector - base) * 1024 + word < 40 || i.bodyLen ≤ n * 16 then d
    else BitVec.ofNat 128 (beNat (xorList (beBytes 16 d.toNat) (gcmPad (i.contentKey s.key) i.iv (2 + n))))

/-- CELLAR_READ (R402, R412, R415 to R417); `fetch`: an instruction fetch of the supervisor. `attempts` is how many reads failed to decode before one did, 5 when all did; `waitUs` how long a
miss waits behind an operation. [log 9: DEDUCED] -/
def execCellarRead (sector word attempts : Nat) (fetch : Bool) (waitUs : Nat) (s : State) : Host.Outcome State Fault Refusal :=
  if 2048 ≤ sector || 1024 ≤ word then .fault .noSuchCell
  else if !s.celUp then .next s
  else
    let w := s.celWord sector word
    let d := if fetch then s.fetched sector word w.data else w.data
    let n := celLine sector word
    if s.cel.lines.contains n && !(s.sector (s.reached sector)).flag then .next (celAnswer (.data d) s)
    else if s.cel.op ≠ .idle then
      .next { s with cel := { s.cel with
        answer := .waits, stalls := satAdd 16 s.cel.stalls 1, stallUs := max s.cel.stallUs (min s.cel.longestWait waitUs) } }
    else if (s.sector (s.reached sector)).flag then .next (celFail 6 sector word .readFail s)
    else if w.count = 3 then .next (fillLine n (celAnswer (.data d) s))
    else if 5 ≤ attempts then .next (fltRaise 0xB0 0 (celFail 6 sector word .readFail s))
    else .next (fillLine n (celAnswer (.data d) { s with cel := countRetry attempts s.cel }))

/-! ### At a start (R412, R418, R421) -/

/-- The status-plane scan (R412): each flagged sector is counted, reported and erased again; sectors that failed in a save are retired
(R421). -/
def celScan (s : State) : State :=
  let found := (s.cel.sectors.filter fun e => e.2.flag).map fun e => e.1
  let s := { s with cel := { s.cel with
    found := min 255 found.length, firstFound := found.headD 0, reerased := found ≠ [] && found.all fun n => !(s.sector n).worn
    countAdv := s.cel.sectors.any fun e => 90000000 ≤ e.2.erases } }
  let s := found.foldl (fun s n =>
    let s := fltRaise 0xB1 0 s
    if (s.sector n).worn then s
    else sectorUpd n (fun x => { x with flag := false, erases := min (2 ^ 27 - 1) (x.erases + 1) }) (clearSector n s)) s
  let owed := s.cel.retireOwed
  owed.foldl (fun s n => let t := retireSector n true s; if t.2 then t.1 else wornOut n s) { s with cel := { s.cel with retireOwed := [] } }

/-! ### Registers (R424) -/

def celMean (l : List Nat) : Nat := min 255 (meanOf 16 l)

/-- Sector with the highest erase count, lowest number first. -/
def State.worstSector (s : State) : Nat × Nat :=
  s.cel.sectors.foldl (fun b e => if b.2 < e.2.erases && !e.2.retired then (e.1, e.2.erases) else b) (0, 0)

def rdCel (port : Port) (a : Nat) (s : State) : Nat :=
  let c := s.cel
  let op := match c.op with
    | .idle => (0, 0)
    | .programming _ se _ _ => (1, se)
    | .erasing _ se => (2, se)
  if 0x00800100 ≤ a && a < 0x00800130 then
    let n := (a - 0x00800100) / 4
    pack [(0, 11, (celPart n).1), (11, 11, (celPart n).2), (22, 4, n)]
  else
    let x := s.sector (c.sectSel.get port)
    sel a
      [ (0x00800000, pack [(0, 2, op.1), (2, 11, op.2), (13, 1, b2n c.eraseLock), (14, 7, c.queue.length), (21, 1, b2n c.headerOk)]),
        (0x00800004, pack [(0, 24, c.programs), (24, 8, c.erases)]),
        (0x00800008, pack [(0, 3, c.lastCode), (3, 11, c.lastSector), (14, 10, c.lastWord), (24, 8, c.failCount)]),
        (0x0080000C, pack [(0, 8, c.plus1), (8, 8, c.minus1), (16, 8, c.plus2), (24, 8, c.minus2)]),
        (0x00800010, pack [(0, 8, celMean c.progSteps), (8, 8, celMean c.eraseSteps), (16, 11, s.worstSector.1)]),
        (0x00800014, pack [(0, 27, s.worstSector.2), (27, 1, b2n c.countAdv), (28, 1, b2n c.stepAdv)]),
        (0x00800018, pack [(0, 10, s.freeSpares.length), (10, 10, (c.sectors.filter fun e => e.2.retired).length),
          (20, 11, c.lastRetired), (31, 1, b2n (s.freeSpares.length < 4))]),
        (0x0080001C, pack [(0, 8, c.found), (8, 11, c.firstFound), (19, 1, b2n c.reerased)]),
        (0x00800020, pack [(0, 16, c.stalls), (16, 16, c.stallUs)]),
        (0x00800024, c.sectSel.get port),
        (0x00800028, pack [(0, 27, x.erases), (27, 1, b2n x.flag), (28, 1, b2n x.retired), (29, 1, b2n x.holds),
          (30, 1, b2n x.advised)]) ]

end Sys2Proof.Machine
end

