-- ==== Sys2Proof/Machine/RegsA.lean ====
section
/-!
DEFINITION. Register reads of the GOV, SAL, MAP, DRN and HRV blocks (R44, R77, R101, R125, R126, R161).
-/
namespace Sys2Proof.Machine

/-- A field of 29 bits of granules, saturating. -/
def gran29 (n : Nat) : Nat := min (2 ^ 29 - 1) n

/-- An integer as 32-bit two's complement. -/
def asU32 (v : Int) : Nat := (v % (2 ^ 32 : Int)).toNat

/-- GiB as granules. -/
def gibGranules (n : Nat) : Nat := n * 262144

/-! ### GOV (R44, R125) -/

def govState (s : State) : Nat :=
  pack [(0, 4, s.dev.st.code), (4, 1, b2n s.fld.restoring), (5, 1, b2n s.gov.accessHeld), (6, 1, b2n s.gov.pdom),
    (7, 1, b2n s.gov.backpressure), (8, 1, b2n s.gov.wearOver), (16, 16, s.gov.armGen.toNat)]

def govArmCond (s : State) : Nat :=
  let c := s.gov.cond
  pack [(0, 1, b2n c.layoutOk), (1, 1, b2n c.storeOk), (2, 1, b2n c.freeOk), (3, 1, b2n c.energyOk), (4, 1, b2n c.ceilOk),
    (5, 1, b2n c.groupOk), (6, 1, b2n s.gov.holdoffDone), (7, 1, b2n (s.sal.learn.step ≠ 0)), (16, 8, s.gov.lastDisarm)]

def rdGov (a : Nat) (s : State) : Nat :=
  let g := s.gov
  let d := s.drn
  let p := s.govParams
  let l := g.lastSave
  let on := fun (v : Nat) => if s.layoutOk then v else 0
  sel a
    [ (0x00040000, govState s), (0x00040004, govArmCond s),
      (0x00040008, gran29 g.backlog), (0x0004000C, min 0x10000000 g.bsup), (0x00040010, gran29 g.bceil),
      (0x00040014, g.euse % 2 ^ 32), (0x00040018, g.eneed % 2 ^ 32),
      (0x0004001C, pack [(0, 1, b2n p.allowUnarmed), (1, 1, b2n g.released), (8, 10, p.holdoffMs)]),
      (0x00040020, g.dsc),
      (0x00040024, pack [(0, 3, l.outcome), (3, 1, b2n l.planned), (4, 4, l.trigger), (8, 1, b2n l.armedAtTrigger)]),
      (0x00040028, gran29 g.lost),
      (0x00040040, pack [(0, 16, d.k), (16, 16, d.kOutMilli / 1000)]),
      (0x00040044, pack [(0, 16, d.lastM), (16, 10, d.eta), (26, 6, d.saves)]),
      (0x00040048, d.eFixed % 2 ^ 24), (0x0004004C, d.eCkpt % 2 ^ 24),
      (0x00040050, on (gran29 (gibGranules p.bMaxGib))), (0x00040054, on (gran29 (gibGranules p.bGuardGib))),
      (0x00040058, on (gran29 (gibGranules p.bMinGib))),
      (0x0004005C, gran29 d.bbp), (0x00040060, gran29 d.bwh),
      (0x00040064, pack [(0, 2, d.band), (2, 2, d.urgency), (4, 1, b2n d.hotOk), (5, 1, b2n d.refBmax), (6, 1, b2n d.wearHold),
        (7, 1, b2n d.throttled)]),
      (0x00040068, p.wLife % 2 ^ 32), (0x0004006C, d.wUsed / 2 ^ 30 % 2 ^ 32), (0x00040070, d.aDay % 2 ^ 32),
      (0x00040074, asU32 (d.bucket / 2 ^ 20)), (0x00040078, min (2 ^ 32 - 1) (d.overrun / 2 ^ 30)),
      (0x0004007C, pack [(0, 16, d.dLife), (16, 16, min 65535 d.dElapsed)]) ]

/-! ### SAL (R77) -/

/-- A channel's calibration register. -/
def calWord (c : AdcCal) : Nat := pack [(0, 16, c.gain), (16, 16, asU16 c.offset)]

/-- The calibration a register shows: the staged copy while the seal is open (R72). -/
def State.calShown (s : State) : SealCal := if s.sal.sealOpen then s.sal.staged else s.sal.cal

/-- A thermistor field: 0x7FFF while broken or disabled. -/
def ntcField (t : Option Int) : Nat := match t with | none => 0x7FFF | some v => asU16 v

def rdSal (a : Nat) (s : State) : Nat :=
  let x := s.sal
  let c := s.calShown
  let kind := (s.profile.map fun p => p.kind).getD 0
  let each := fun (f : PmbState → Bool) => maskOf ((List.range (min 4 s.pmbList.length)).filter fun n => f (s.pmb n))
  sel a
    [ (0x00600000, pack [(0, 1, b2n x.valid), (1, 3, x.invalidCause), (4, 1, b2n x.holdArm), (5, 1, b2n x.holdEn), (6, 1, b2n x.callOad),
        (7, 1, b2n x.charging), (8, 1, b2n x.chargeDone), (9, 1, b2n x.sealStrap), (10, 3, kind)]),
      (0x00600004, x.euse % 2 ^ 32), (0x00600008, x.etrig % 2 ^ 32), (0x0060000C, x.econs % 2 ^ 32),
      (0x00600010, x.vbkMv % 65536), (0x00600014, asU16 (x.ibkMa / 10)), (0x00600018, x.vmainMv % 65536),
      (0x0060001C, if x.ntcRead then pack [(0, 16, ntcField x.ntc0), (16, 16, ntcField x.ntc1)] else 0),
      (0x00600020, x.capacity % 2 ^ 32), (0x00600024, x.esr % 2 ^ 32),
      (0x00600028, pack [(0, 3, x.learn.step), (3, 3, x.lastResult), (8, 8, x.deferrals), (16, 16, s.salHours)]),
      (0x00600030, pack [(0, 5, x.breaksUsed), (5, 1, b2n x.sealOpen), (6, 2, x.lastClose)]),
      (0x00600034, pack [(0, 16, x.glitches), (16, 16, x.unarmedPf)]),
      (0x00600038, pack [(0, 4, each fun t => t.present), (4, 4, each fun t => t.fault)]),
      (0x0060003C, x.recSeq % 2 ^ 32),
      (0x00600100, calWord c.vbk), (0x00600104, calWord c.ibk), (0x00600108, calWord c.vmain), (0x0060010C, calWord c.ntc0),
      (0x00600110, calWord c.ntc1), (0x00600114, c.ratioVbk % 65536), (0x00600118, c.ratioVmain % 65536),
      (0x0060011C, c.shuntNohm % 2 ^ 24), (0x00600120, pack [(0, 16, c.uvMv), (16, 16, c.pgMv)]), (0x00600124, c.pgMs % 1024) ]

/-! ### MAP (R94, R101) -/

/-- An RST entry as R94 lays it out. -/
def rstWord (e : RstEntry) : Nat :=
  pack [(0, 10, e.dirty), (10, 8, e.epoch), (18, 1, b2n e.restored), (19, 1, b2n e.hot), (20, 1, b2n e.lost), (21, 1, b2n e.zero)]

/-- The MAP block (R101). VALID counts an entry whose fill is pending, as the model chooses. SWEEP and FLUSHING read 0: a sweep and a flush
are one step. [log 23: DESIGN CHOICE] -/
def rdMap (port : Port) (a : Nat) (s : State) : Nat :=
  let m := s.map
  let cfg := match s.lay.inForce with
    | none => (1000, 2, 10)
    | some l => (l.map.epochMs, l.map.hotEpochs, l.map.auditS)
  sel a
    [ (0x00080000, pack [(0, 14, cfg.1), (14, 6, cfg.2.1), (20, 8, cfg.2.2)]),
      (0x00080004, pack [(0, 1, b2n m.ready), (3, 1, b2n s.fillStall)]),
      (0x00080008, pack [(0, 8, m.epoch), (8, 24, m.advances)]),
      (0x0008000C, gran29 m.total),
      (0x00080010, pack [(0, 14, m.inflight.length), (16, 14, m.peak)]),
      (0x00080014, pack [(0, 17, m.cache.length), (17, 14, m.changed.length)]),
      (0x00080018, m.hits % 2 ^ 32), (0x0008001C, m.misses % 2 ^ 32),
      (0x00080020, m.passes % 2 ^ 24),
      (0x00080024, pack [(0, 16, m.repairs), (16, 3, m.lastCause)]),
      (0x00080028, m.repairRegion % 2 ^ 19),
      (0x0008002C, m.rstSel.get port),
      (0x00080030, rstWord (s.rstOf (m.rstSel.get port))),
      (0x00080034, s.reserveBase / 2 ^ 20 % 2 ^ 20) ]

/-! ### DRN (R126) -/

/-- DRN_STATUS.COLD_EMPTY: no region that is not HOT is dirty. -/
def State.coldEmpty (s : State) : Bool := s.map.rst.all fun e => e.2.dirty = 0 || e.2.hot

def rdDrn (a : Nat) (s : State) : Nat :=
  let d := s.drn
  let p := s.govParams
  sel a
    [ (0x000C0004, pack [(0, 1, b2n (s.map.inflight ≠ [] || d.work.isSome)), (1, 1, b2n d.paused),
        (2, 1, b2n (d.paused && s.map.inflight = [])), (3, 1, b2n s.coldEmpty), (4, 3, d.lastPauseEnd), (16, 8, d.oldestAge)]),
      (0x000C0008, pack [(0, 8, p.cap0), (8, 8, p.cap1), (16, 8, p.pauseMax)]),
      (0x000C000C, pack [(0, 16, d.rateRead), (16, 16, d.rateProgram)]),
      (0x000C0010, d.committed % 2 ^ 32),
      (0x000C0014, pack [(0, 16, d.abProgram), (16, 16, d.abOther)]),
      (0x000C0018, gran29 d.hotHeld),
      (0x000C001C, min (2 ^ 19 - 1) d.delta.length) ]

/-! ### HRV (R161) -/

def rdHrv (a : Nat) (s : State) : Nat :=
  let h := s.hrv
  sel a
    [ (0x00100000, pack [(0, 3, h.phase), (3, 1, b2n h.m1), (4, 1, b2n h.m2), (5, 1, b2n h.m3Point), (6, 1, b2n h.salvage), (7, 2, h.shed),
        (9, 1, b2n h.thermalEnd), (10, 1, b2n h.energyInvalid), (11, 1, b2n h.supplyReturned), (12, 1, b2n h.phyForced), (13, 2, h.copies),
        (16, 8, h.salvageCause)]),
      (0x00100004, pack [(0, 8, h.m1Frac), (8, 8, h.m2Frac)]),
      (0x00100008, h.floorMj % 2 ^ 24), (0x0010000C, h.leadMj % 2 ^ 24),
      (0x00100010, h.saveSeq % 2 ^ 32), (0x00100014, h.eT % 2 ^ 32), (0x00100018, h.eFirst % 2 ^ 32), (0x0010001C, h.eM3 % 2 ^ 32),
      (0x00100020, h.eEnd % 2 ^ 32),
      (0x00100024, gran29 h.backlog), (0x00100028, gran29 h.saved), (0x0010002C, gran29 h.unsaved),
      (0x00100030, h.dataUs % 2 ^ 32), (0x00100034, h.ckptUs % 2 ^ 32), (0x00100038, h.mask % 2 ^ 32),
      (0x0010003C, pack [(0, 8, h.second), (8, 8, h.deferred), (16, 8, min 255 (h.abandoned / 4096))]) ]

end Sys2Proof.Machine
end

