-- ==== Sys2Proof/Machine/RegsC.lean ====
section
/-!
DEFINITION. Register reads of the SEM, PAN, HED, UPD, KEY, BRL, SVC and IDN blocks (R290, R462, R484, R507, R524, R533), and the window
as a whole (R525, R526, R531). No read has a side effect (R528): a read is a function of the state alone.
-/
namespace Sys2Proof.Machine

/-- The first n bytes of a SHA-384 digest as a little-endian field (R484, R533): byte 0, its most significant, lies lowest. -/
def digestHead (n : Nat) (d : BitVec 384) : Nat :=
  (List.range n).foldl (fun w k => w + d.toNat / 256 ^ (47 - k) % 256 * 256 ^ k) 0

/-! ### SEM, PAN, HED (R290) -/

def CellState.code : CellState → Nat
  | .free => 0 | .heldA => 1 | .heldB => 2

def cellWord (c : Cell) : Nat := pack [(0, 2, c.state.code), (2, 1, b2n c.priB), (16, 16, c.gen.toNat)]

/-- One bit for each cell a head holds. -/
def heldWord (h : Head) (s : State) : Nat := maskOf ((List.range 32).filter fun n => s.holds h n)

def rdSem (port : Port) (a : Nat) (s : State) : Nat :=
  if 0x00010000 ≤ a && a < 0x00010080 then cellWord (s.cell ((a - 0x00010000) / 4))
  else
    let r := s.sem.result.get port
    sel a
      [ (0x00010084, pack [(0, 3, r.code), (3, 5, r.cell), (16, 16, r.gen.toNat)]),
        (0x00010088, s.sem.graceMs % 65536),
        (0x0001008C, pack [(0, 16, s.sem.forced), (16, 5, s.sem.lastCell), (21, 1, b2n s.sem.lastHead)]),
        (0x00010090, heldWord .a s), (0x00010094, heldWord .b s) ]

/-- PAN_ROLE: state 0 beyond PAN_COUNT. -/
def panRole (p : Nat) (s : State) : Nat :=
  let x := s.pan p
  if p < s.panCount then pack [(0, 3, x.state.code), (3, 1, b2n x.pending), (16, 16, x.gen)] else 0

def rdPan (a : Nat) (s : State) : Nat :=
  if 0x00020000 ≤ a && a < 0x00021000 then panRole ((a - 0x00020000) / 4) s
  else if a = 0x00021000 then s.panCount % 2048 else 0

def rdHed (h : Head) (off : Nat) (s : State) : Nat :=
  let x := s.heads.get h
  sel off
    [ (0x0, pack [(0, 1, b2n x.up), (1, 1, b2n x.down), (2, 1, b2n x.grace), (3, 3, x.rate), (6, 2, x.width), (8, 1, b2n x.ide),
        (16, 16, x.downs)]),
      (0x4, pack [(0, 8, x.cmdMinor), (8, 8, x.cmdMajor)]),
      (0x8, pack [(0, 16, x.violMem), (16, 8, x.violReg), (24, 8, x.violMbox)]),
      (0xC, pack [(0, 16, x.stale), (16, 16, x.staleLast)]) ]

/-! ### UPD (R462) -/

/-- The codes of R444. -/
def UpdState.code : UpdState → Nat
  | .empty => 1 | .receiving => 2 | .received => 3 | .verified => 4 | .scheduled => 5 | .activating => 6 | .trial => 7 | .confirmed => 8
  | .failed => 15

/-- A slot takes an image, or is erased. -/
def Upd.setSlot (u : Upd) (b : Bool) (i : Option Image) : Upd := if b then { u with slotB := i } else { u with slotA := i }

/-- Percent of a length. -/
def percent (n total : Nat) : Nat := if total = 0 then 0 else min 100 (n * 100 / total)

/-- A factory request waits for the next start (R438). -/
def Upd.factoryPending (u : Upd) : Bool := ((u.areaFor u.running).bind fun n => u.areaCopy n).elim false fun c => c.factory

/-- Minutes counted toward confirmation in this boot (R456, R462): of a trial image, since host-ready or the end of the boot order. -/
def State.confirmMinutes (s : State) : Nat :=
  if s.upd.marker.state = .trial && s.upd.running = s.upd.marker.tslot && s.dev.hostReady then
    min 65535 ((s.dev.aonUs - s.dev.readyUs) / 60000000)
  else 0

def updWords (s : State) : List Nat :=
  let u := s.upd
  let m := u.marker
  let t := ((u.slot m.tslot).map fun i => i.version).getD 0
  [ pack [(0, 4, m.state.code), (4, 1, b2n m.tslot), (5, 1, b2n m.cslot), (6, 1, b2n u.running), (7, 2, m.trialBoot),
      (9, 1, b2n u.handover), (10, 1, b2n m.cascade), (11, 1, b2n m.recovery), (12, 1, b2n (m.state = .failed && m.failStage = 7)),
      (16, 4, m.failStage), (20, 8, m.failCode)],
    u.runVer % 2 ^ 32, u.runVer / 2 ^ 32 % 2 ^ 32, t % 2 ^ 32, t / 2 ^ 32 % 2 ^ 32,
    pack [(0, 8, s.key.antiRollback), (8, 8, u.runSvn), (16, 8, m.tsvn)],
    pack [(0, 24, u.received), (24, 7, percent u.received u.announced), (31, 1, b2n u.erasing)],
    pack [(0, 16, u.confirmMin), (16, 16, s.confirmMinutes)] ]

def rdUpd (a : Nat) (s : State) : Nat :=
  let u := s.upd
  if 0x00840000 ≤ a && a < 0x00840020 then ((updWords s)[(a - 0x00840000) / 4]?).getD 0
  else
    sel a
      [ (0x00840020, pack [(0, 3, u.cause), (3, 2, u.wdCount), (5, 3, u.recoveryCause), (16, 16, min 65535 u.bootMs)]),
        (0x00840024, pack [(0, 8, u.schema), (8, 1, u.area), (9, 1, b2n u.migrated), (10, 1, b2n u.cold), (11, 1, b2n u.factoryPending),
          (12, 1, b2n u.factoryDone), (16, 16, min 65535 u.skipped)]) ]

/-! ### KEY (R484) -/

def rdKey (a : Nat) (s : State) : Nat :=
  let k := s.key
  let own := match k.owner with
    | none => 0
    | some o => pack [(0, 16, o.gen), (16, 16, digestHead 2 o.digest)]
  sel a
    [ (0x00880000, pack [(0, 1, b2n k.owner.isSome), (1, 1, b2n k.rbgOk), (2, 1, b2n k.exhausted), (3, 1, b2n k.pendingLms),
        (4, 4, maskOf k.revoked)]),
      (0x00880004, pack [(0, 7, k.antiRollback), (7, 5, s.sal.breaksUsed), (12, 1, b2n k.provLock)]),
      (0x00880008, own),
      (0x0088000C, k.lmsQ % 2 ^ 21), (0x00880010, k.lmsRes % 2 ^ 21),
      (0x00880014, pack [(0, 16, k.ecdsaSigs), (16, 16, k.lmsSigs)]),
      (0x00880018, pack [(0, 16, k.failCount), (16, 4, k.lastFail)]) ]

/-! ### BRL (R507) -/

def brlPortWord (p : BrlPort) : Nat := pack [(0, 1, b2n p.up), (1, 2, p.mismatch), (3, 13, p.crcErrors), (16, 16, p.downs)]

def brlUnit (s : State) (u : Nat) : BrlUnit := tblGet {} s.brl.units u

def rdBrl (a : Nat) (s : State) : Nat :=
  let b := s.brl
  let n := (s.cascade.map fun c => c.units).getD 0
  let shared := (s.cascade.map fun c => c.shared).getD false
  sel a
    [ (0x008C0000, pack [(0, 2, b.role), (2, 2, b.index), (4, 2, n - 1), (6, 1, b2n shared), (7, 1, b2n b.whole), (8, 1, b2n b.groupArmed),
        (9, 1, b2n b.fallback), (10, 1, b2n b.groupStart), (11, 8, b.minor)]),
      (0x008C0004, pack [(0, 16, b.gen.toNat), (16, 16, b.event)]),
      (0x008C0008, brlPortWord b.port0), (0x008C000C, brlPortWord b.port1),
      (0x008C0010, b.eGroup % 2 ^ 32),
      (0x008C0014, (List.range 4).foldl (fun w u =>
        let x := brlUnit s u
        w + pack [(8 * u, 1, b2n x.present), (8 * u + 1, 1, b2n x.localOk), (8 * u + 2, 4, x.state)]) 0),
      (0x008C0018, pack [(0, 2, b.stageState), (2, 7, percent b.stageDone b.stageTotal), (9, 3, b.stageEntries)]),
      (0x008C001C, pack [(0, 8, b.stale), (8, 8, b.breaks), (16, 8, b.ignored), (24, 8, b.absorbed)]) ]

/-! ### SVC (R524) -/

/-- The level a GPIO pin is driven to; none while it is high-impedance: before B6 of a start, in OFF, SEALED and HALT, and for the
functions without an output. From H0 every output but SAVING holds its level (R522). -/
def State.gpioDrive (s : State) (k : Nat) : Option Bool :=
  let f := tblGet 0 s.svc.gpioFunc k
  if !s.alive || s.dev.st = .recovery || f < 2 || 8 < f then none
  else match s.svc.gpioHeld with
    | some held => if f = 4 then some (s.gpioLevel k) else some (held.testBit k)
    | none => some (s.gpioLevel k)

/-- The pins as SVC_GPIO_IN samples them: a driven pin at its level, another as the card drives it. -/
def State.gpioSample (s : State) : Nat :=
  maskOf ((List.range 16).filter fun k => (s.gpioDrive k).getD (s.svc.gpioIn.testBit k))

/-- RK_ATTN_N is low (R509); high-impedance where the port does not answer (R510). -/
def State.attnLow (s : State) : Bool := s.rakeServes && (s.svc.response.isSome || s.svc.event)

def rdSvc (a : Nat) (s : State) : Nat :=
  let v := s.svc
  let funcs := fun (base : Nat) => (List.range 8).foldl (fun w k => w + tblGet 0 v.gpioFunc (base + k) % 16 * 16 ^ k) 0
  sel a
    [ (0x00900000, pack [(0, 1, b2n v.negotiated), (1, 4, v.major), (5, 4, v.minor), (9, 1, b2n v.i3c), (10, 7, v.dynAddr),
        (17, 7, v.staticAddr)]),
      (0x00900004, pack [(0, 16, v.frames), (16, 8, v.errors), (24, 8, v.denied)]),
      (0x00900008, pack [(0, 24, v.reads), (24, 8, v.pecErr)]),
      (0x0090000C, pack [(0, 16, v.nacks), (16, 8, v.recoveries)]),
      (0x00900010, funcs 0), (0x00900014, funcs 8),
      (0x00900018, pack [(0, 16, s.gpioSample), (16, 16, maskOf v.gpioInvert)]),
      (0x0090001C, v.gpioOut % 65536) ]

/-! ### IDN (R533, R535) -/

/-- The image that runs. -/
def State.image (s : State) : Option Image := s.upd.slot s.upd.running

def rdIdn (a : Nat) (s : State) : Nat :=
  sel a
    [ (0x00, 0x43484816), (0x04, pack [(0, 4, 1), (8, 8, 0x42), (16, 8, 0x30)]),
      (0x08, pack [(0, 2, 2), (2, 4, 8), (6, 6, 32), (12, 1, 1)]),
      (0x0C, s.serial % 2 ^ 32), (0x10, s.serial / 2 ^ 32 % 2 ^ 32),
      (0x14, s.upd.runVer % 2 ^ 32), (0x18, s.upd.runVer / 2 ^ 32 % 2 ^ 32),
      (0x1C, pack [(0, 8, 0), (8, 8, 2), (16, 8, 1)]),
      (0x20, pack [(0, 8, (s.image.map (·.layoutMajor)).getD 3), (8, 8, (s.image.map (·.settingsMax)).getD 3),
        (16, 8, (s.image.map (·.settingsMin)).getD 2), (24, 4, 1), (28, 4, 1)]),
      (0x24, pack [(0, 8, 1), (8, 8, 2), (16, 4, 1), (20, 4, 1), (24, 4, 0), (28, 4, 2)]),
      (0x28, digestHead 4 s.layoutDigest),
      (0x2C, pack [(0, 2, s.brl.role), (2, 1, b2n s.pins.recover), (3, 1, b2n s.sal.sealStrap)]) ]

/-! ### The window (R525, R526, R531) -/

/-- The head whose HED copy a port sees at an address: its own, or the Rake Port's two views (R290). -/
def hedView (port : Port) (a : Nat) : Head × Nat :=
  match port with
  | .headA => (.a, a - 0x00A00000)
  | .headB => (.b, a - 0x00A00000)
  | .rake => if 0x00A10000 ≤ a then (.b, a - 0x00A10000) else (.a, a - 0x00A00000)

/-- A register as a port reads it; reserved and write-only space reads 0. -/
def readReg (port : Port) (a : Nat) (s : State) : Nat :=
  if a < 0x00010000 then rdIdn a s
  else if a < 0x00020000 then rdSem port a s
  else if a < 0x00040000 then rdPan a s
  else if a < 0x00080000 then rdGov a s
  else if a < 0x000C0000 then rdMap port a s
  else if a < 0x00100000 then rdDrn a s
  else if a < 0x00140000 then rdHrv a s
  else if a < 0x00200000 then rdFld a s
  else if a < 0x00300000 then rdBed a s
  else if a < 0x00400000 then rdPip a s
  else if a < 0x00500000 then rdDmc a s
  else if a < 0x00600000 then rdTrn a s
  else if a < 0x00640000 then rdSal a s
  else if a < 0x00680000 then rdThm a s
  else if a < 0x006C0000 then rdFlt a s
  else if a < 0x00800000 then rdTly a s
  else if a < 0x00840000 then rdCel port a s
  else if a < 0x00880000 then rdUpd a s
  else if a < 0x008C0000 then rdKey a s
  else if a < 0x00900000 then rdBrl a s
  else if a < 0x00A00000 then rdSvc a s
  else if a < 0x00A20000 then rdHed (hedView port a).1 (hedView port a).2 s
  else 0

/-- A read of the window of any size and alignment (R527): 4 aligned bytes a register, 8 aligned bytes two of them at one instant, 1 or 2
naturally aligned bytes those of their register, anything else 0. -/
def windowRead (port : Port) (offset size : Nat) (s : State) : Nat :=
  if size = 4 && offset % 4 = 0 then readReg port offset s
  else if size = 8 && offset % 8 = 0 then readReg port offset s % 2 ^ 32 + readReg port (offset + 4) s * 2 ^ 32
  else if (size = 1 || size = 2) && offset % size = 0 then
    readReg port (offset - offset % 4) s / 256 ^ (offset % 4) % 256 ^ size
  else 0

/-- Consecutive registers as one read returns them. -/
def readRegs (port : Port) (a n : Nat) (s : State) : List Nat := (List.range n).map fun k => readReg port (a + 4 * k) s

end Sys2Proof.Machine
end

