-- ==== Sys2Proof/Machine/Tally.lean ====
section
/-!
DEFINITION. Tally's commands (R383 to R399): triggers, records with their snapshots, mirroring, software triggers and clearing.
-/
namespace Sys2Proof.Machine

/-! ### Snapshot lists (R388) -/

/-- The registers of the fixed lists; `ch` is the DRAM channel a class-4 source passes. -/
def fixedList (n ch : Nat) : List Nat :=
  let bedCh := fun (c : Nat) => [0x00200000 + 0x1000 * c, 0x0020000C + 0x1000 * c, 0x00200008 + 0x1000 * c]
  let dram := fun (off : Nat) => 0x00400000 + 0x10000 * (ch % 8) + off
  match n with
  | 1 => ((List.range 11).map fun k => 0x00040000 + 4 * k) ++
      [0x00040064, 0x000C0004, 0x0008000C, 0x00220004, 0x0022000C, 0x00600000, 0x00640000, 0x00680004]
  | 2 => [0x00640000, 0x00640010] ++ ((List.range 24).map fun k => 0x00640100 + 4 * k) ++ [0x0040F020]
  | 3 => [0x00040000, dram 0x000, dram 0x008, dram 0x00C, dram 0x010, dram 0x014] ++
      (List.range 8).map fun c => 0x00400018 + 0x10000 * c
  | 4 => [0x00040000, 0x00220004, 0x00220008, 0x0022000C, 0x00220010, 0x00220020] ++ (List.range 7).flatMap bedCh
  | 5 => [0x00680000, 0x00680004, 0x00680008, 0x0068000C] ++ ((List.range 8).map fun k => 0x00680040 + 4 * k) ++
      ((List.range 8).map fun k => 0x00680080 + 4 * k) ++ [0x00040000]
  | 6 => [0x00040000, 0x00A00000, 0x00A00008, 0x00A0000C, 0x00A10000, 0x00A10008, 0x00A1000C, 0x00010090, 0x00010094, 0x0001008C]
  | _ => []

/-- Registers of a list: lists 8 to 63 come from the layout, at most 28 of them. -/
def State.snapList (s : State) (n ch : Nat) : List Nat :=
  if n < 8 then fixedList n ch
  else match s.lay.inForce with
    | none => []
    | some l => (tblGet [] l.tlyLists n).take 28

/-- The default list of a trigger code. -/
def defaultList (code : Nat) : Nat :=
  if code < 0x100 then
    match code / 16 with
    | 4 => 3 | 5 => 4 | 10 => 2 | 7 => 6 | _ => 5
  else if code = 0x100 then 7
  else if 0x104 ≤ code && code ≤ 0x107 then 6
  else 1

/-- The default PERSIST of a trigger. -/
def defaultPersist (code level : Nat) : Bool :=
  if code < 0x100 then 2 ≤ level else (0x100 ≤ code && code ≤ 0x104) || code = 0x10B

/-- List and PERSIST of a trigger: the layout's map entry, list + 64 × PERSIST + 128 where it gives one, else the defaults. -/
def State.tlyMapOf (s : State) (code level : Nat) : Nat × Bool :=
  let e := match s.lay.inForce with | none => 0 | some l => tblGet 0 l.tlyMap code
  if e.testBit 7 then (e % 64, e.testBit 6) else (defaultList code, defaultPersist code level)

/-- A trigger code that exists (R386). -/
def tlyCode (code : Nat) : Bool := code < 0x10D || (0x1F0 ≤ code && code ≤ 0x1FF)

/-- TALLY_TRIGGER (R386, R390): a trigger takes its place in the FIFO, or is dropped and counted. -/
def execTallyTrigger (code level arg : Nat) (s : State) : Host.Outcome State Fault Refusal :=
  if s.alive && tlyCode code then
    let t := tlyPut code (if code < 0x100 then level % 8 else 7) arg s
    match t.2 with
    | none => .next t.1
    | some l => .next (fltReact 0xE1 l t.1)
  else .next s

/-! ### Records (R383 to R385, R389, R390, R392, R393, R398) -/

/-- The reservation when SEQ comes within 2^16 of it (R393): 2^20 higher, by a JOURNAL word; none is programmed in a save (R417). -/
def reserveNear (ok : Bool) (s : State) : State :=
  if s.tly.nextSeq + 65536 < s.tly.reserved || s.saving then s
  else if ok then
    let b := s.tly.reserved + 2 ^ 20
    { s.journal (.tallyBase b) with tly := { s.tly with reserved := b } }
  else fltRaise 0xB0 0 s

/-- A record joins the mirror queue of 16 (R395); nothing is mirrored from H0 until SEALED. -/
def mirrorPut (r : TlyRec) (s : State) : State :=
  if s.saving then s
  else if s.tly.mirrorQ.length < 16 then { s with tly := { s.tly with mirrorQ := s.tly.mirrorQ ++ [r] } }
  else { s with tly := { s.tly with mirrorDropped := satAdd 16 s.tly.mirrorDropped 1 } }

/-- Write a record (R384, R385): its ring slot, the last-gasp registers, its mirror. In fall-back it goes to JOURNAL alone (R398). -/
def putRecord (r : TlyRec) (s : State) : State :=
  let t := s.tly
  let s := { s with tly := { t with
    nextSeq := r.seq + 1
    ring := if t.fallback then [] else tblIns (r.seq % 1024) r t.ring
    gasp := (⟨r.seq % 65536, r.trig, r.level, r.state⟩ :: t.gasp).take 4
    lostCount := 0 } }
  if r.persist || t.fallback then mirrorPut r s else s

/-- The record of a trigger, its registers read now (R389). [log 49: DEDUCED] -/
def State.mkRecord (s : State) (t : TlyTrig) : TlyRec :=
  let m := s.tlyMapOf t.code t.level
  { seq := s.tly.nextSeq, persist := m.2, fallback := s.tly.fallback, list := m.1, lost := min 63 s.tly.lostCount
    words := (s.snapList m.1 t.arg).map fun a => readReg .rake a s
    trig := t.code, level := t.level, state := t.state }

/-- The trigger whose record is written next: source 0xE1's own first (R390). -/
def takeTrigger (s : State) : State × Option TlyTrig :=
  match s.tly.overflowDue with
  | some t => ({ s with tly := { s.tly with overflowDue := none } }, some t)
  | none =>
    match s.tly.fifo with
    | [] => (s, none)
    | t :: rest => ({ s with tly := { s.tly with fifo := rest, dropped := s.tly.dropped && rest ≠ [] } }, some t)

/-- A level-0 event is acknowledged by its record (R371). -/
def ackRecord (t : TlyTrig) (s : State) : State :=
  if t.code < 0x100 && t.level = 0 then
    { s with flt := { s.flt with unack := s.flt.unack.eraseP fun u => u.src == t.code && u.level == 0 } }
  else s

/-- Write the next trigger's record, or drop it when no SEQ below the reservation is left (R393). -/
def writeRecord (reserveOk : Bool) (s : State) : State :=
  let p := takeTrigger s
  match p.2 with
  | none => s
  | some t =>
    let s := reserveNear reserveOk p.1
    if s.tly.nextSeq < s.tly.reserved then ackRecord t (putRecord (s.mkRecord t) s)
    else
      match tlyDrop s with
      | (s, none) => s
      | (s, some l) => fltReact 0xE1 l s

/-- TALLY_RECORD_WRITE (R385). `reserveOk` says whether a reservation that falls due is programmed. -/
def execTallyRecordWrite (reserveOk : Bool) (s : State) : Host.Outcome State Fault Refusal :=
  .next (if s.alive && s.tly.ready then writeRecord reserveOk s else s)

/-- TALLY_MIRROR (R395): one record, eight words; a program that fails drops the mirror and raises source 0xB0. -/
def execTallyMirror (ok : Bool) (s : State) : Host.Outcome State Fault Refusal :=
  match s.tly.mirrorQ with
  | [] => .next s
  | r :: rest =>
    if s.saving || !s.alive then .next s
    else
      let s := { s with tly := { s.tly with mirrorQ := rest } }
      if ok then .next { s.journal (.tallyRec r) with tly := { s.tly with mirrored := satAdd 16 s.tly.mirrored 1 } }
      else .next (fltRaise 0xB0 0 { s with tly := { s.tly with mirrorDropped := satAdd 16 s.tly.mirrorDropped 1 } })

/-- A write of TLY_SOFT (R391): ignored within 1 ms of the same port's last accepted write. [log 49: DEDUCED] -/
def softTrigger (port : Port) (value : Nat) (s : State) : State :=
  let ok := match s.tly.softAt.get port with | none => true | some t => t + 1000 ≤ s.dev.aonUs
  if ok then tlyTrigger (0x1F0 + value % 16) 0 { s with tly := { s.tly with softAt := s.tly.softAt.set port (some s.dev.aonUs) } }
  else s

/-- SOFTWARE_TRIGGER (R391). -/
def execSoftwareTrigger (port : Port) (value : Nat) (s : State) : Host.Outcome State Fault Refusal :=
  .next (if s.windowOpen port then softTrigger port value s else s)

/-! ### Clearing (R396, R397, R399) -/

/-- TALLY_CLEAR_NONCE (R396). -/
def execTallyClearNonce (head : Head) (gen : BitVec 16) (s : State) : Host.Outcome State Fault Refusal :=
  .next (guarded head 3 gen 0xC150 true (fun s =>
    match makeNonce .tallyClear head.port s with
    | (s, some n) => reply head 0xC150 0 (.nonce n) s
    | (s, none) => reply head 0xC150 4 .empty s) s)

/-- Steps 5 and 6 of R396: the CLEAR record, its mirror, the empty ring, and H. -/
def clearRing (head : Head) (s : State) : State :=
  let h := s.tly.nextSeq - 1
  let r : TlyRec :=
    { seq := s.tly.nextSeq, persist := true, fallback := s.tly.fallback, list := 7, lost := min 63 s.tly.lostCount
      words := [h % 2 ^ 32, h / 2 ^ 32 % 65536, head.code, (s.cell 3).gen.toNat]
      trig := 0x100, level := 7, state := s.dev.st.code }
  let t := s.tly
  { s.journal (.tallyRec r) with tly := { t with
      nextSeq := r.seq + 1, ring := [], lostCount := 0, mirrored := satAdd 16 t.mirrored 1, cleared := h
      gasp := (⟨r.seq % 65536, 0x100, 7, s.dev.st.code⟩ :: t.gasp).take 4 } }

/-- CLEAR_TALLY (R396, R397). `commitOk` says whether the CLEAR record's mirror was programmed. -/
def execClearTally (head : Head) (gen : BitVec 16) (token : Token) (commitOk : Bool) (s : State) : Host.Outcome State Fault Refusal :=
  .next (guarded head 3 gen 0xC151 true (fun s =>
    let c := s.tokenStatus .tallyClear head.port token true
    if c ≠ 0 then reply head 0xC151 c .empty (tokenFailed c s)
    else
      let s := reserveNear commitOk (dropNonce .tallyClear head.port s)
      if commitOk && s.tly.nextSeq < s.tly.reserved then
        let t := clearRing head s
        reply head 0xC151 0 (.words [t.tly.cleared % 2 ^ 32, t.tly.cleared / 2 ^ 32 % 65536]) t
      else reply head 0xC151 0x10 .empty (fltRaise 0xB0 0 s)) s)

end Sys2Proof.Machine
end

