-- ==== Sys2Proof/Machine/BootSlot.lean ====
section
/-!
DEFINITION. Steps B1 to B5 of a start (R427): pins and thermal check (R357, R362), Salt Cellar scan (R412), the slot chosen from the
live update marker (R428 to R430, R452, R454, R503), image checks (R443) and RECOVERY (R460).
-/
namespace Sys2Proof.Machine

/-! ### The update record (R443 to R446) -/

/-- A marker's word (R445), its CHECK the CRC-32 of bits [95:0]. -/
def UpdMarker.word (m : UpdMarker) : Nat :=
  let w := pack [(0, 4, m.state.code), (4, 1, b2n m.tslot), (5, 1, b2n m.cslot), (6, 2, m.trialBoot), (8, 4, m.failStage), (12, 8, m.failCode),
    (20, 1, b2n m.deferred), (21, 1, b2n m.cascade), (22, 1, b2n m.recovery), (23, 1, b2n m.fallback), (32, 32, m.tver), (64, 8, m.tsvn),
    (80, 16, m.mseq)]
  w + 2 ^ 96 * crc32 (leBytes 12 w)

/-- A word is programmed into UPDREC (R446): the next of its four sectors is erased when fewer than 64 erased words remain ahead. -/
def appendRec (s : State) : State :=
  let u := { s.upd with recNext := s.upd.recNext + 1 }
  if 4096 < u.recNext - 1024 * u.recOld + 64 then
    wearSector (1452 + u.recOld % 4) { s with upd := { u with recOld := u.recOld + 1 } }
  else { s with upd := u }

/-- A new live marker, MSEQ one higher, in the next erased word; the one before it is programmed to zeros (R446). -/
def setMarker (f : UpdMarker → UpdMarker) (s : State) : State :=
  appendRec { s with upd := { s.upd with marker := { f s.upd.marker with mseq := (s.upd.marker.mseq + 1) % 65536 } } }

/-- Every sector of a slot is erased (R404, R448): the slot holds no image. -/
def eraseSlot (b : Bool) (s : State) : State :=
  let first := if b then 516 else 4
  let s := (List.range 512).foldl (fun s n => wearSector (first + n) s) s
  { s with upd := s.upd.setSlot b none }

/-- The update ends as FAILED, with the stage and code of the failure (R444). -/
def failUpdate (stage code : Nat) (s : State) : State :=
  setMarker (fun m => { m with state := .failed, failStage := stage, failCode := code }) s

/-- The code of the first check of R443 an image fails; 0 where it is valid. `bad` says that its bytes no longer read as written. -/
def imageCode (s : State) (bad : Bool) (i : Image) : Nat :=
  if !i.formatOk then 2
  else if i.device ≠ 0x4816 || !i.revisions.testBit 1 then 3
  else if i.svn < s.key.antiRollback then 4
  else if !i.sigOk || bad || s.key.revoked.contains i.rootSet then 5
  else if !i.keyOk then 6
  else if !i.tagOk then 7
  else 0

/-- The code of a slot's image; an empty slot has no format. -/
def slotCode (env : StartEnv) (b : Bool) (s : State) : Nat :=
  match s.upd.slot b with
  | none => 2
  | some i => imageCode s (if b then env.slotBBad else env.slotABad) i

/-- The pending-save test (R428). -/
def State.pendingTest (s : State) : Bool := lastRestore s.jrn < lastSaveStart s.jrn

/-! ### B1 -/

/-- A slot that holds a sector found flagged no longer verifies (R412, R443). -/
def scanSlots (s : State) : State :=
  let hit := fun (n : Nat) => s.cel.sectors.any fun e => e.2.flag && (celPart n).1 ≤ e.1 && e.1 < (celPart n).1 + (celPart n).2
  let f := fun (bad : Bool) (i : Option Image) => if bad then i.map fun x => { x with sigOk := false, tagOk := false } else i
  { s with upd := { s.upd with slotA := f (hit 1) s.upd.slotA, slotB := f (hit 2) s.upd.slotB } }

/-- WIREFAULTs of lines still masked are raised again. -/
def wireAgain (s : State) : State := s.flt.wireGroups.foldl (fun s n => fltRise n 0 s) s

/-- Panhouse holds a key set in its registers (R242). -/
def loadKeys (b : KeyBlob) (s : State) : State := { s with pip := { s.pip with keyLoaded := true, kx := b.kx, km := b.km } }

/-- The key set of the blob in force is loaded (R244). -/
def loadBlob (s : State) : State := match s.pip.blobs.head? with | none => s | some b => loadKeys b s

/-- Tally at a start (R386, R392, R393, R398): it resumes its ring, or takes its reservation without one, and the start is its first record.
`ringOk` says whether the ring's control block passes its check, `testOk` whether a ring in fall-back passes its test. -/
def tallyStart (ringOk testOk : Bool) (s : State) : State :=
  let use := s.tly.ringUsable && ringOk
  let t := s.tly
  tlyTell 0x101 0 { s with tly := { t with
    ready := true, ringUsable := true, fallback := t.fallback && !testOk
    ring := if use && !t.fallback then t.ring else [], nextSeq := if use then t.nextSeq else t.reserved } }

/-- The Salt Cellar's status plane at a start (R412): it is scanned before a slot is verified, RECOVERY or not. -/
def planeScan (s : State) : State := if s.cel.headerOk then celScan (scanSlots s) else s

/-- B1 after the header is read: the Salt Cellar is scanned (R412), the media keys are found. -/
def bootOne (env : StartEnv) (s : State) : State :=
  let s := wireAgain s
  let s := { s with
    key := { s.key with rbgOk := env.rbgOk, certOk := env.certOk }
    pip := { s.pip with secretSet := (s.pip.blobs.head?).any (·.secret), gen := (s.pip.blobs.head?.map (·.gen)).getD 0
                        wrap := (s.pip.blobs.head?.map (·.wrap)).getD 0 } }
  let s := if !s.key.sanOpen && (s.pip.blobs.head?).any (fun b => !b.secret) then loadBlob s else s
  planeScan (if env.rbgOk then s else fltRise 0xC2 0 s)

/-! ### B2 and B3 -/

/-- What B2 may do with a SCHEDULED image (R428, R503): as the slot rules say, leave it, activate, or hand over. -/
inductive GroupCode where
  | alone | proceed | activate | handover | wait
  deriving DecidableEq, Repr

/-- The codes of a START frame (R492). -/
def groupCode : Nat → GroupCode
  | 1 => .activate | 2 => .handover | 3 => .wait | _ => .proceed

/-- A SCHEDULED image switches to T: verified under R443, then TRIAL 1, or FAILED with C booted. The slot booted is the answer. -/
def activateSlot (env : StartEnv) (s : State) : State × Bool :=
  let s := setMarker (fun m => { m with state := .activating, deferred := false }) s
  let m := s.upd.marker
  if slotCode env m.tslot s = 0 then (setMarker (fun m => { m with state := .trial, trialBoot := 1 }) s, m.tslot)
  else (failUpdate 6 0x09 (imageFailed (slotCode env m.tslot s) s), m.cslot)

/-- C boots with the handover of R452 before it. -/
def handOver (s : State) : State × Bool :=
  let s := setMarker (fun m => { m with deferred := true }) s
  ({ s with upd := { s.upd with handover := true } }, s.upd.marker.cslot)

/-- The slot of R428, with the markers it programs. -/
def chooseSlot (env : StartEnv) (g : GroupCode) (s0 : State) : State × Bool :=
  let s := { s0 with upd := { s0.upd with pendingSave := s0.pendingTest } }
  let m := s.upd.marker
  match m.state with
  | .scheduled =>
    match g with
    | .activate => activateSlot env s
    | .handover => handOver s
    | .alone => if s.upd.pendingSave then handOver s else activateSlot env s
    | _ => (s, m.cslot)
  | .activating => activateSlot env s
  | .trial =>
    if 3 ≤ m.trialBoot then (failUpdate 7 0x0A s, m.cslot)
    else (setMarker (fun m => { m with trialBoot := m.trialBoot + 1 }) s, m.tslot)
  | .receiving => (failUpdate 2 0x01 s, m.cslot)
  | _ => (s, m.cslot)

/-- B3 with R429: the slot that boots, or none. -/
def verifySlot (env : StartEnv) (p : State × Bool) : State × Option Bool :=
  let s := p.1
  let c := s.upd.marker.cslot
  let code := slotCode env p.2 s
  let s := imageFailed code s
  let rest := slotCode env (!p.2) s
  if code = 0 then (s, some p.2)
  else if rest ≠ 0 then (imageFailed rest s, none)
  else if p.2 = c then
    (let t := setMarker (fun m => { m with state := .confirmed, cslot := !c, fallback := true }) s
     { t with upd := { t.upd with handover := false } },
     some (!c))
  else (failUpdate 7 code s, some c)

/-- B4: the image of a slot runs. -/
def runSlot (b : Bool) (s : State) : State :=
  match s.upd.slot b with
  | none => s
  | some i => { s with upd := { s.upd with running := b, runVer := i.version, runSvn := i.svn } }

/-- A trial image runs in this start. -/
def State.onTrial (s : State) : Bool := s.upd.marker.state = .trial && s.upd.running = s.upd.marker.tslot

/-- The anti-rollback fuses follow the confirmed image's SVN (R457), and never fall. [log 52: DEDUCED] -/
def stepFuses (s : State) : State :=
  if s.upd.marker.state = .empty then s
  else
    match s.upd.slot s.upd.marker.cslot with
    | none => s
    | some i => { s with key := { s.key with antiRollback := max s.key.antiRollback (min 64 i.svn) } }

end Sys2Proof.Machine
end

