-- ==== Sys2Proof/Machine/LayoutRules.lean ====
section
/-!
DEFINITION. Layout verification: every test the chapters assign to it (R50, R559, R110, R146, R196, R292, R294, R344, R368, R388, R485,
R487). What the model does not hold of a layout, its bytes and vendor values among them, is the command's own finding.
-/
namespace Sys2Proof.Machine

/-- Neighbours of a list in an order. -/
def pairwiseNext {α : Type} (f : α → α → Bool) : List α → Bool
  | a :: b :: t => f a b && pairwiseNext f (b :: t)
  | _ => true

/-- OCV_TABLE (R559): from (0, V_FLOOR) to state of charge 1 at V_CEIL at most, s rising, v never falling; a hybrid's v rising. -/
def ocvRules (p : Profile) : Bool :=
  match p.ocv.head?, p.ocv.getLast? with
  | some a, some z =>
    p.ocv.length = 16 && a.s = 0 && a.mv = p.vFloor && z.s = 1000000000 && z.mv ≤ p.vCeil &&
      pairwiseNext (fun x y => x.s < y.s && (if p.kind = 4 then x.mv < y.mv else x.mv ≤ y.mv)) p.ocv
  | _, _ => false

/-- DERATE (R50): eight points of rising temperature, factors from 0.00 to 1.00. -/
def derateRules (l : List (Int × Nat)) : Bool :=
  l.length = 8 && pairwiseNext (fun x y => x.1 < y.1) l && l.all fun e => e.2 ≤ 1000

/-- The backup source profile is consistent (R50): an EDLC bank has no table, an enabled thermistor has parameters, not both are disabled
(R49), windows are not empty, and the learning depth is a fraction. [log 51: DEDUCED] -/
def profileRules (p : Profile) : Bool :=
  1 ≤ p.kind && p.kind ≤ 4 && 1 ≤ p.series && p.series ≤ 16 && p.vFloor < p.vCeil && p.vAbs < p.vFloor && (p.kind = 3 || ocvRules p)
    && derateRules p.derate && p.plausLo < p.plausHi && p.chargeTmin ≤ p.chargeTmax && p.learnTmin ≤ p.learnTmax && p.learnDepth ≤ 1000
    && (p.ntc0.isSome || p.ntc1.isSome) && [p.ntc0, p.ntc1].all fun t => t.all fun x => 1 ≤ x.beta && 1 ≤ x.ohm25

/-- The PMBus list (R63): at most four targets at 7-bit addresses, one charger and one hold-up converter, 100 or 400 kHz. -/
def pmbusRules (l : List PmbTarget) (khz : Nat) : Bool :=
  l.length ≤ 4 && (l.all fun t => t.address < 128) && (l.filter fun t => t.role = .charger).length = 1
    && (l.filter fun t => t.role = .converter).length = 1 && (khz = 100 || khz = 400)

/-- The ranges of R110 and of the holdoff (R25), and E_CKPT against the checkpoint floor (R146); `gib` is the host-visible capacity. -/
def govRules (g : GovParams) (gib floor : Nat) : Bool :=
  100 ≤ g.kInit && g.kInit ≤ 20000 && g.eff.length = 4 && (g.eff.all fun e => 500 ≤ e.2 && e.2 ≤ 990)
    && 4000 * 32 + g.kInit ≤ g.eFixed * 32 && floor ≤ g.eCkpt
    && g.bMinGib ≤ g.bMaxGib && g.bMaxGib ≤ gib && 1 ≤ g.bGuardGib && g.bMaxGib ≤ 8 * g.bGuardGib && 1 ≤ g.bMinGib
    && 1 ≤ g.cap0 && g.cap0 ≤ g.cap1 && g.cap1 ≤ 96 && 1 ≤ g.wLife && g.wLife < 2 ^ 32
    && 1 ≤ g.yLife && g.yLife ≤ 20 && g.pauseMax ≤ 255 && g.holdoffMs ≤ 1000 && pairwiseNext (fun x y => x.1 < y.1) g.eff

/-- Effective write rate of a NAND channel in MB/s (R228): 3.5 GB/s at 3,600 MT/s, scaling with the rate. -/
def writeRate (n : NandParams) : Nat := 3500 * n.rate / 3600

/-- MAP_CFG (R101) and the dirty cap (R92). -/
def mapRules (m : MapParams) : Bool :=
  100 ≤ m.epochMs && m.epochMs ≤ 10000 && m.hotEpochs ≤ 63 && 1 ≤ m.auditS && m.auditS ≤ 255 && 1024 ≤ m.dirtyCap && m.dirtyCap ≤ 8192

/-- The interface of R194: NV-LPDDR4 up to 3,600 MT/s, NV-DDR3 from 800 to 1,600, never above MAX_RATE; 4 chip enables of up to 4 LUNs. -/
def interfaceRules (n : NandParams) : Bool :=
  1 ≤ n.luns && n.luns ≤ 4 && n.dies % n.luns = 0 && n.dies ≤ 4 * n.luns && n.rate ≤ n.maxRate && n.rate ≤ 3600 &&
    n.mode ≤ 1 && (n.mode = 0 || (800 ≤ n.rate && n.rate ≤ 1600))

/-- The tests of R196 and R197: capacity against 1.5 × host-visible, checkpoint rate of 3 GB/s (bytes per 0.1 µs are 10 MB/s), read,
suspend and soft-read limits, spare area, census bound. Times stand in 0.1 µs. -/
def nandRules (n : NandParams) (gib : Nat) : Bool :=
  let page := n.planes * n.planePage
  1 ≤ n.dies && n.dies ≤ 16 && (page = 16384 || page = 32768) && n.pages ≤ 4096 && n.blocks ≤ 32768
    && 3 * gib * 2 ^ 30 ≤ 2 * (32 * n.dies * n.minGood * n.pages * page)
    && 1 ≤ n.tProgTyp && 300 * n.tProgTyp ≤ n.dies * page && 3000 ≤ writeRate n
    && n.tReadMax ≤ 600 && n.tSuspendMax ≤ 300 && n.tSoftMax ≤ 400
    && 512 * (n.planePage / 4096) ≤ n.spare
    && n.blocks * n.tReadMax + 300000 ≤ 2500000
    && (n.planes = 1 || n.planes = 2 || n.planes = 4) && n.minGood ≤ n.blocks && n.retry.length ≤ 16 && (n.retry.all fun e => e.length ≤ 4) && n.updateBlocks ≤ 8
    && 1 ≤ n.rakeBg && n.rakeBg ≤ 32 && interfaceRules n

/-- SPARE_MIN (R224): 3 × B_MAX unless set, then from B_MAX to 64 × B_MAX. -/
def spareRules (spare bMax : Nat) : Bool := spare = 0 || (bMax ≤ spare && spare ≤ 64 * bMax)

/-- DRAM population (R292), grain (R293), hash masks (R294), latency targets (R306), scrub period (R312), shadow sets (R314) and idle interval
(R317). -/
def dramRules (d : DramParams) : Bool :=
  let w := Nat.log2 d.ways
  let clear := fun (m : Nat) => bits m d.grainLog w = 0
  (d.channels = 2 || d.channels = 4 || d.channels = 8) && (d.ranks = 1 || d.ranks = 2 || d.ranks = 4) && [1, 2, 4, 8].contains d.stack
    && (d.chanGib = 16 || d.chanGib = 32 || d.chanGib = 64 || d.chanGib = 128) && d.channels * d.chanGib ≤ 1024
    && (d.ways = 2 || d.ways = 4 || d.ways = 8) && d.channels % d.ways = 0
    && d.sets ≠ [] && (d.sets.all fun n => n < 4) && d.idleMs ≤ 1000 && 1 ≤ d.scrubHours && d.scrubHours ≤ 168
    && d.qos.length = 8 && (((List.range 8).filter fun n => n ≠ 3).all fun n => 50 ≤ (d.qos[n]?).getD 0 && (d.qos[n]?).getD 0 ≤ 65535)
    && 8 ≤ d.grainLog && d.grainLog ≤ 12 && clear d.hash0 && (w < 2 || clear d.hash1) && (w < 3 || clear d.hash2)

/-- Thresholds of every input in their ranges, RESTART in its own and against the lowest WARN (R344), and parameters for every thermistor
enabled (R341). -/
def thermRules (t : ThermParams) : Bool :=
  30 ≤ t.restartC && t.restartC ≤ 110 && (t.enable.all fun n => n < 20 || (1 ≤ (tblGet ⟨0, 0⟩ t.ntcs n).beta && 1 ≤ (tblGet ⟨0, 0⟩ t.ntcs n).ohm25)) &&
  (List.range 24).all fun n =>
    let x := tblGet {} t.thresh n
    40 ≤ x.warn && x.warn ≤ 115 && 45 ≤ x.throttle && x.throttle ≤ 118 && 50 ≤ x.shut && x.shut ≤ 119 && 55 ≤ x.shutSave &&
    x.warn + 3 ≤ x.throttle && x.throttle + 5 ≤ x.shut && x.shut + 5 ≤ x.shutSave && x.shutSave ≤ 124 && t.restartC + 5 ≤ x.warn

/-- No source's base level below its fixed minimum, no severe level below the base level (R368); N to 255 and a window from 1 ms to 255 h
(R367, R382). -/
def fltRules (l : Tbl SrcCfg) : Bool :=
  l.all fun e => (match srcRow e.1 with | none => true | some r => r.minLevel ≤ e.2.base) && e.2.base ≤ e.2.severe && e.2.severe ≤ 4
    && e.2.n ≤ 255 && 1 ≤ e.2.w && e.2.w ≤ 1023 && e.2.wUnit ≤ 3 && (e.2.wUnit ≠ 3 || e.2.w ≤ 255)

/-- Snapshot lists 8 to 63 of up to 28 offsets, aligned and outside the TLY block (R388). -/
def tlyRules (l : Tbl (List Nat)) : Bool :=
  l.all fun e => 8 ≤ e.1 && e.1 ≤ 63 && e.2.length ≤ 28 && e.2.all fun a => a % 4 = 0 && !(0x006C0000 ≤ a && a < 0x00800000)

/-- Values of the layout that stand alone: milestone fractions (R140), the grace period (R272), CONFIRM_MIN (R453), GPIO functions (R522) and
the SMBus address (R518). -/
def smallRules (l : Layout) : Bool :=
  32 ≤ l.m1Frac && l.m1Frac < l.m2Frac && l.m2Frac ≤ 240 && 100 ≤ l.graceMs && l.graceMs ≤ 60000 && 1 ≤ l.confirmMin && l.confirmMin ≤ 1440
    && (l.gpio.all fun e => e.1 < 16 && e.2 ≤ 8) && l.smbus < 128

/-- The cascade section (R487). -/
def cascadeRules (c : Cascade) : Bool :=
  c.groupId ≠ 0 && c.groupId < 2 ^ 32 && 2 ≤ c.units && c.units ≤ 4 &&
    (!c.shared || ((c.shares.take c.units).all (fun x => 1 ≤ x && x ≤ 256) && (c.shares.take c.units).sum ≤ 256 && c.aloneFrac ≤ 256))

/-- The layout verifies on this unit: a cascade section exactly on a cascade unit (R485), and every chapter's rules. [log 51: DEDUCED] -/
def State.layoutRules (s : State) (l : Layout) : Bool :=
  let t : State := { s with lay := { s.lay with inForce := some l } }
  (l.cascade.isSome == decide (s.brl.role ≠ 0)) && (l.cascade.all cascadeRules)
    && profileRules l.profile && govRules l.gov t.panCount t.eFloor && nandRules l.nand t.panCount && dramRules l.dram
    && thermRules l.therm && fltRules l.fltCfg && tlyRules l.tlyLists && pmbusRules l.pmbus l.pmbusKhz && mapRules l.map
    && spareRules l.nand.spareMinGib l.gov.bMaxGib && smallRules l

end Sys2Proof.Machine
end

