-- ==== Sys2Proof/Machine/BootSettings.lean ====
section
/-!
DEFINITION. Steps B6 and B7 of a start (R427): the layout verified and put in force (R431, R485), retained settings loaded, migrated
(R458, R459) or made fresh by a factory request (R438), and what a start does with the values it has loaded (R54, R55, R112, R119,
R298).
-/
namespace Sys2Proof.Machine

/-! ### B6 -/

/-- A layout may be in force (R431, R475, R485): its signatures verify with the owner keys in force, and it passes layout
verification. -/
def layoutStands (env : StartEnv) (s : State) (l : Layout) : Bool :=
  !env.layoutBad && s.key.owner.any (fun o => o.gen == l.signedBy) && s.layoutRules l

/-- Thermal Guard's values where no layout stands (R431): every remote diode and thermistor disabled, default thresholds. -/
def defaultTherm : ThermParams := { enable := [], thresh := [], restartC := 90 }

/-- Thermal Guard takes its values. -/
def putTherm (t : ThermParams) (s : State) : State :=
  { s with thm := { s.thm with enable := t.inputs, thresh := t.thresh, restartC := t.restartC } }

/-- The calibration set a start uses (R361, R439): of the copies that read valid, the one with the higher generation. -/
def usedCalib (env : StartEnv) (c : Cel) : Option CalibSet :=
  match env.calib0Bad, env.calib1Bad with
  | false, false => some (if c.calib0.gen < c.calib1.gen then c.calib1 else c.calib0)
  | false, true => some c.calib0
  | true, false => some c.calib1
  | true, true => none

/-- Two valid copies that differ: the one of the lower generation is rewritten to match (R439). -/
def matchCalib (env : StartEnv) (s : State) : State :=
  let c := s.cel
  if env.calib0Bad || env.calib1Bad || c.calib0 = c.calib1 then s
  else if c.calib0.gen < c.calib1.gen then
    let s := wearSector 1445 (wearSector 1444 s)
    { s with cel := { s.cel with calib0 := c.calib1 } }
  else
    let s := wearSector 1447 (wearSector 1446 s)
    { s with cel := { s.cel with calib1 := c.calib0 } }

/-- Thermal inputs of a start (R357, R359, R361): the inputs that the committed layout enables where it stands, each converted three times;
no trip, and WARN and THROTTLE in force from here. [log 46: DEDUCED] -/
def bootThermal (env : StartEnv) (s : State) : State :=
  let set := usedCalib env s.cel
  let ok := set.isSome
  let s := matchCalib env s
  let s := { s with thm := { ({} : Thm) with
    saves := s.thm.saves, halts := s.thm.halts, lastStop := s.thm.lastStop, thermalSave := s.thm.thermalSave
    calibValid := ok, calDerated := !ok
    oscTable := (set.map (·.osc)).getD [], bgTable := (set.map (·.bg)).getD [] } }
  let s := putTherm ((s.lay.committed.filter (layoutStands env s)).elim defaultTherm (·.therm)) s
  let s := if ok then s else fltRise 0xA2 0 s
  (env.conversions.take 3).foldl (fun s l => convert l s) s

/-- The layout's values take their places. -/
def putLayout (l : Layout) (s : State) : State :=
  { putTherm l.therm s with
    lay := { s.lay with inForce := some l }
    hrv := { s.hrv with m1Frac := l.m1Frac, m2Frac := l.m2Frac }
    sem := { s.sem with graceMs := l.graceMs }
    flt := { s.flt with cfg := l.fltCfg }
    dmc := { s.dmc with panAttr := l.dram.panAttr }
    upd := { s.upd with confirmMin := l.confirmMin }
    pip := { s.pip with compress := l.compress }
    svc := { s.svc with gpioFunc := l.gpio, gpioInvert := l.gpioInvert, staticAddr := l.smbus } }

/-- The firmware in force refuses to arm, and LAST_DISARM says so (R43, R44, R458). [log 17: DEDUCED] -/
def refuseToArm (s : State) : State :=
  { s with upd := { s.upd with refuseArm := true }, gov := { s.gov with lastDisarm := 7 } }

/-- B6. A trial image that cannot read the layout's schema acts as R458 says, with code 0x0C; any other image goes on without a
layout. -/
def bootLayout (env : StartEnv) (s : State) : State :=
  match s.lay.committed with
  | none => s
  | some l =>
    if !layoutStands env s l then (if s.key.owner.isSome then verifyFail 2 s else s)
    else if (s.image.map (·.layoutMajor)).getD 0 = l.schema then putLayout l s
    else if s.onTrial then
      refuseToArm (failUpdate 7 0x0C s)
    else s

/-! ### B7 -/

/-- Values of a copy take their registers (R432, R435). What the always-on domain has counted since the last load is added to the
counters and stands in THM_LAST_STOP. -/
def putRetained (v : Retained) (s : State) : State :=
  { s with
    gov := { s.gov with dsc := v.dsc, lastSave := v.lastSave, lost := v.lost }
    sal := { s.sal with
      capacity := v.capacity, esr := v.esr, learnedUnder := v.learnedUnder, learnedOnce := v.learnedOnce, lastResult := v.lastResult
      aonHours := v.aonHours + s.sal.aonHours, lastClose := v.lastClose, recSeq := max v.recSeq s.sal.recSeq
      glitches := satAdd 16 v.glitches s.sal.glitches, unarmedPf := satAdd 16 v.unarmedPf s.sal.unarmedPf }
    drn := { s.drn with
      kOutMilli := v.k.getD 0, kBasis := v.kBasis, lastM := v.lastM, saves := v.saves
      wUsed := v.wUsed + s.drn.owedBytes, overrun := v.overrun, dElapsed := satAdd 16 v.dElapsed s.drn.owedDays, owedBytes := 0, owedDays := 0 }
    pip := { s.pip with sanCount := v.sanCount }
    sem := { s.sem with
      cells := (List.range 32).foldl (fun t n => tblPut {} n { gen := (tblGet 0 v.cellGens n) + 1 } t) []
      forced := v.semForced }
    pans := v.pans.getD []
    dmc := { s.dmc with marks := v.marks, marksFor := v.marksFor }
    trn := { s.trn with fullNext := v.fullNext }
    thm := { s.thm with
      saves := satAdd 8 v.thmSaves s.thm.saves, halts := satAdd 8 v.thmHalts s.thm.halts
      lastStop := if s.thm.lastStop = {} then v.lastStop else s.thm.lastStop }
    tly := { s.tly with cleared := v.tlyCleared } }

/-- An area's copy as this start reads it. -/
def readableAreas (env : StartEnv) (s : State) : State :=
  let f := fun (bad : Bool) (c : Option SettingsCopy) => c.map fun c => { c with readable := !bad }
  { s with upd := { s.upd with area0 := f env.area0Bad s.upd.area0, area1 := f env.area1Bad s.upd.area1 } }

/-- The initial pan table of the layout (R262). -/
def Layout.initialPans (l : Layout) : Tbl Pan := l.pans.map fun e => (e.1, ({ state := e.2 } : Pan))

/-- The lifetime fields of a copy (R432): every other field takes its cold value. [log 56: DEDUCED] -/
def Retained.lifetime (v : Retained) : Retained :=
  { dsc := v.dsc, recSeq := v.recSeq, wUsed := v.wUsed, overrun := v.overrun, dElapsed := v.dElapsed, sanCount := v.sanCount
    cellGens := v.cellGens, semForced := v.semForced, thmSaves := v.thmSaves, thmHalts := v.thmHalts }

/-- The pan table after a factory reset (R438): the layout's assignment, every generation one higher. -/
def factoryPans (l : Option Layout) (old : Tbl Pan) (n : Nat) : Tbl Pan :=
  (List.range n).foldl (fun t p =>
    let st := ((l.map fun l => tblGet PanState.unassigned l.pans p).getD .unassigned)
    tblPut {} p { state := st, gen := ((tblGet {} old p).gen + 1) % 65536 } t) []

/-- A copy in force is loaded; a factory request in it writes a fresh copy in the other area and releases this one (R438). -/
def loadCopy (n : Nat) (c : SettingsCopy) (s : State) : State :=
  if c.factory then
    let v := { c.vals.lifetime with pans := some (factoryPans s.lay.inForce (c.vals.pans.getD []) s.panCount) }
    let age := s.upd.topAge + 1
    let s := eraseArea n (eraseArea (1 - n) s)
    let u := s.upd.setArea (1 - n) (some (freshCopy c.slot c.schema age v))
    putRetained v { s with upd := { u with schema := c.schema, area := 1 - n, factoryDone := true }, trn := { s.trn with recs := [] } }
  else putRetained c.vals { s with upd := { s.upd with schema := c.schema, area := n } }

/-- No readable copy: cold values (R435). -/
def loadCold (s : State) : State := putRetained {} { s with upd := { s.upd with cold := true } }

/-- A trial image that cannot read its settings (R458). -/
def unreadableSettings (s : State) : State :=
  let s := if s.upd.refuseArm then s else failUpdate 7 0x0B s
  loadCold (refuseToArm s)

/-- The first trial boot writes its own copy beside the confirmed image's (R458). -/
def migrate (s : State) : State :=
  let c := s.upd.marker.cslot
  match s.upd.areaFor c, s.image with
  | some n, some i =>
    match s.upd.areaCopy n with
    | none => unreadableSettings s
    | some old =>
      if i.settingsMin ≤ old.schema && old.schema ≤ i.settingsMax then
        let age := s.upd.topAge + 1
        let s := eraseArea (1 - n) s
        let u := s.upd.setArea (1 - n) (some (freshCopy s.upd.running i.settingsMax age old.vals))
        putRetained old.vals { s with upd := { u with schema := i.settingsMax, area := 1 - n, migrated := true } }
      else unreadableSettings s
  | _, _ => unreadableSettings s

/-- Fields of the copy a slot's image keeps that are left with no valid word: source 0xB0 is raised (R435). -/
def loseFields (env : StartEnv) (slot : Bool) (s : State) : State :=
  match s.upd.areaFor slot with
  | none => s
  | some n =>
    if env.fieldsLost = [] then s
    else
      let f := fun (c : SettingsCopy) => { c with vals := env.fieldsLost.foldl Retained.forget c.vals }
      fltRaise 0xB0 0 { s with upd := s.upd.setArea n ((s.upd.areaCopy n).map f) }

/-- The settings words of a start (R416, R435): the copies that read, the words skipped, the fields lost. -/
def readSettings (env : StartEnv) (s : State) : State :=
  let s := readableAreas env s
  let s := { s with upd := { s.upd with skipped := min 65535 env.skipped } }
  let s := if env.settingsFail then fltRaise 0xB0 0 s else s
  loseFields env (if s.onTrial && s.upd.marker.trialBoot = 1 then s.upd.marker.cslot else s.upd.running) s

/-- B7 by the image that runs (R435, R458, R459). -/
def loadSettings (env : StartEnv) (s : State) : State :=
  let s := readSettings env s
  if s.upd.refuseArm then loadCold s
  else if s.onTrial && s.upd.marker.trialBoot = 1 then migrate s
  else
    match s.upd.areaFor s.upd.running with
    | some n =>
      match s.upd.areaCopy n with
      | some c => loadCopy n c s
      | none => loadCold s
    | none => if s.onTrial then unreadableSettings s else loadCold s

/-! ### What a start does with them -/

/-- Pans a layout brings that no settings hold (R262): its initial assignment. -/
def firstPans (s : State) : State :=
  match s.lay.inForce with
  | none => s
  | some l => if s.pans = [] then { s with pans := l.initialPans } else s

/-- A head's access as the pan table grants it at a start. -/
def grantPans (s : State) : State :=
  let f := fun (p : Pan) =>
    { p with
      acc := ⟨p.state.grants .a, p.state.grants .b⟩
      offered := ⟨false, false⟩
      losing := ⟨none, none⟩
      owed := ⟨p.losing.a.isSome, p.losing.b.isSome⟩ }
  { s with pans := (List.range s.panCount).foldl (fun t n => tblUpd {} n f t) s.pans }

/-- Device marks go with a population that is no longer there (R298). -/
def checkMarks (s : State) : State :=
  match s.lay.inForce with
  | none => s
  | some l =>
    let pop := some (l.dram.channels, l.dram.ranks, l.dram.stack, l.dram.chanGib)
    if s.dmc.marksFor = pop then s else { s with dmc := { s.dmc with marks := if s.dmc.marksFor.isNone then s.dmc.marks else [], marksFor := pop } }

/-- k_out under the layout in force (R112): it starts anew where it was learned under other values. -/
def checkK (s : State) : State :=
  match s.lay.inForce with
  | none => s
  | some l =>
    let b : KBasis := { kInit := l.gov.kInit, eff := l.gov.eff, profile := l.profile, geometry := l.geometryId }
    let s := if s.drn.kBasis = some b && s.drn.kOutMilli ≠ 0 then s
      else
        let e := effFrac l.gov.eff (s.vSv l.profile (l.profile.esrNom * 5 / 4))
        { s with drn := { s.drn with kOutMilli := l.gov.kInit * e.1 / e.2, kBasis := some b } }
    refreshK { s with drn := { s.drn with dLife := dLifeOf l.gov.yLife } }

/-- The state of charge at a start that follows OFF or SEALED (R55). -/
def reanchorStart (s : State) : State :=
  if s.sal.reanchor then
    let s := match s.profile with
      | none => s
      | some p => if p.battery then { s with sal := { s.sal with soc := p.reanchor s.vOc } } else s
    { s with sal := { s.sal with reanchor := false } }
  else s

/-- The band 3 entry point and the wear-hold point at a start, of B_MAX while no ceiling is known (R125). -/
def startPoints (s : State) : State := { s with drn := { s.drn with bbp := s.bMax - 135168, bwh := bwhOf (s.bMax - 135168) } }

/-- The wear bucket at a start: a quarter of the day's allowance. -/
def startBucket (s : State) : State := { s with drn := { s.drn with bucket := s.drn.aDay * 2 ^ 30 / 4 } }

/-- B6 and B7, and what follows from the values loaded. -/
def bootValues (env : StartEnv) (s : State) : State :=
  let s := loadSettings env (bootLayout env s)
  let s := { s with
    dev := { s.dev with loaded := true }
    sal := { s.sal with vbkMv := railMv s.sal.cal.vbk s.sal.cal.ratioVbk env.vbkUv } }
  let s := grantPans (checkMarks (firstPans s))
  let s := checkK (reanchorStart (sourceCheck s))
  startPoints (startBucket (newDay s))

end Sys2Proof.Machine
end

