-- ==== Sys2Proof/Machine/BootStore.lean ====
section
/-!
DEFINITION. Steps B8 and B10 of a start (R427): the restore kind (R162), what the last save left (R38 to R42, R113, R160, R161), records
owed and signed (R75, R474), the census (R211 to R213), map rebuild and lost granules (R169 to R172, R184), store initialisation (R165)
and the resume of a sanitize (R249).
-/
namespace Sys2Proof.Machine

/-! ### Records owed (R75, R474) -/

/-- Salinometer records without their signatures are signed (R75, R474): each needs an LMS leaf. -/
def signJournal : List JRec → State → State × List JRec
  | [], s => (s, [])
  | .salRec r :: t, s =>
    if r.signed then
      let u := signJournal t s
      (u.1, .salRec r :: u.2)
    else
      let b := signBoth s
      let u := signJournal t b.1
      (u.1, .salRec { r with signed := b.2 } :: u.2)
  | .saveRec r lms :: t, s =>
    let b := if lms then (s, true) else signLate s
    let u := signJournal t b.1
    (u.1, .saveRec r b.2 :: u.2)
  | x :: t, s =>
    let u := signJournal t s
    (u.1, x :: u.2)

/-- The records of the last run are programmed and signed. -/
def signOwed (s : State) : State :=
  let l := s.jrn ++ s.sal.owed.map fun r => JRec.salRec r
  let t := signJournal l { s with sal := { s.sal with owed := [] } }
  { t.1 with jrn := fitJournal t.2 }

/-! ### B8 -/

/-- A new media key set in a blob of generation 0 (R242). -/
def newKeys (s : State) : KeyBlob :=
  let k := Config.mediaKey s.free
  { gen := 0, wrap := 0, secret := false, u := 0, kx := k.extractLsb' 256 512, km := k.extractLsb' 0 256 }

/-- S3 and S4 of a sanitize (R247): both blob copies zeroed, a new key set made with GEN one higher; the secret stays where the device was
unlocked when the sanitize was accepted. -/
def replaceKeys (s : State) : State :=
  let old := s.pip.blobs.head?
  let keep := s.pip.sanUnlocked && old.any fun b => b.secret
  let gen := ((old.map (·.gen)).getD 0 + 1) % 2 ^ 32
  let b : KeyBlob :=
    { newKeys s with gen := gen, secret := keep, u := if keep then (old.map (·.u)).getD 0 else 0 }
  let s := appendKeys blobWords { s with pip := { s.pip with blobs := [] } }
  loadKeys b { s with
    pip := { s.pip with blobs := [b], gen := gen, wrap := 0, secretSet := keep }
    free := s.free + 1 }

/-- Records after the last store-initialisation word that names a geometry; none where no word names it. -/
def afterInit (g : Nat) : List JRec → Option (List JRec)
  | [] => none
  | .storeInit n :: t => (afterInit g t).orElse fun _ => if n = g then some t else none
  | _ :: t => afterInit g t

/-- A marker R162 tests for. -/
def JRec.marks : JRec → Bool
  | .openImage _ => true
  | .saveStart _ _ _ => true
  | .restore _ => true
  | _ => false

/-- The restore kind (R162). [log 30: DEDUCED] -/
def State.startKind (s : State) : RestoreKind :=
  match s.lay.inForce with
  | none => .none
  | some l =>
    if s.pip.sanResumed then .none
    else
      match afterInit l.geometryId s.jrn with
      | none => .init
      | some rest =>
        if rest.all fun r => !r.marks then .none
        else if s.pendingTest then .saved
        else .reload

/-- The geometry the store was last initialised under. -/
def storeGeometry : List JRec → Option Nat
  | [] => none
  | .storeInit g :: t => (storeGeometry t).orElse fun _ => some g
  | _ :: t => storeGeometry t

/-- Copies that fail a digest are not valid (R150, R192). -/
def dropBad (bad : List (Nat × Bool)) (c : Ckpt) : Ckpt :=
  { c with copyA := c.copyA && !bad.contains (c.hdr.saveSeq, false), copyB := c.copyB && !bad.contains (c.hdr.saveSeq, true) }

/-- The save-start marker of a SAVE_SEQ: trigger and ARMED_AT_TRIGGER. -/
def markerOf (n : Nat) (l : List JRec) : Nat × Bool :=
  (l.findSome? fun r => match r with
    | .saveStart m t a => if m = n then some (t, a) else none
    | _ => none).getD (0, false)

/-- A save-start marker stands after the last open-image marker (R42). -/
def savedSince : List JRec → Bool
  | [] => false
  | .saveStart _ _ _ :: t => if t.any fun r => match r with | .openImage _ => true | _ => false then savedSince t else true
  | _ :: t => savedSince t

/-- The last save record JOURNAL holds. -/
def lastRecord : List JRec → Option SaveRecord
  | [] => none
  | .saveRec r _ :: t => (lastRecord t).orElse fun _ => some r
  | _ :: t => lastRecord t

/-- The Salinometer record of a SEQ. -/
def salRecOf (n : Nat) (l : List JRec) : Option SalRec :=
  l.findSome? fun r => match r with
    | .salRec x => if x.seq = n && x.typ = 1 then some x else none
    | _ => none

/-- k_out after a save (R113): a measurement from the record's fields, none for a save cut short at M3 or of less than 1 GiB. No
number is stated where no charge was drawn. -/
def learnK (r : SaveRecord) (s : State) : State :=
  if r.flags.testBit 5 || r.bytes < 2 ^ 30 then s
  else
    let e := r.eM3 - r.eFirst
    let eff := match s.lay.inForce with
      | none => (0, 1)
      | some l => effFrac l.gov.eff (e * 1000000 / r.chargeMc)
    let m := if r.chargeMc = 0 then (Config.number s.free).toNat else e * eff.1 * 2 ^ 30 / (r.bytes * eff.2)
    let k := s.drn.kOutMilli
    let k1 := if k ≤ m then m else max (95 * k / 100) ((75 * k + 25 * m) / 100)
    refreshK { s with
      free := if r.chargeMc = 0 then s.free + 1 else s.free
      drn := { s.drn with kOutMilli := k1, lastM := min 65535 (m / 1000), saves := satAdd 6 s.drn.saves 1 } }

/-- The HRV registers of the save a record describes (R160, R161). Counts the record does not carry are free. [log 29: DEDUCED] -/
def hrvFrom (r : SaveRecord) (x : Option SalRec) (s : State) : State :=
  let n := fun (k : Nat) => (Config.number (s.free + k)).toNat
  let f := r.flags.testBit
  { s with
    free := s.free + 3
    hrv := { s.hrv with
      phase := 0, m1 := f 3, m2 := f 4, m3Point := f 5, salvage := f 2, shed := if f 7 then 2 else if f 6 then 1 else 0
      thermalEnd := f 9, energyInvalid := f 8, supplyReturned := f 10, salvageCause := r.salvage
      saveSeq := r.saveSeq, eT := if f 8 then 0 else r.etrig, eFirst := r.eFirst, eM3 := r.eM3, eEnd := (x.map (·.drawn)).getD 0
      backlog := r.backlog, saved := r.saved, unsaved := r.unsaved, bytes := r.bytes, dataUs := r.dataUs, mask := r.mask
      trigger := r.trigger, planned := f 1, armedAtTrigger := f 0
      ckptUs := (x.map fun x => x.ticks * 125000 / 4096 - r.tFirstUs - r.dataUs).getD 0
      deferred := n 0 % 256, abandoned := n 1 % 256 * 4096, second := if f 12 then max 1 (n 2 % 256) else 0 } }

/-- R38, R41, R42, R453: what the last run left is counted once, and the open-image marker is cleared; a save whose checkpoint H4 did not
seal is failed. Without a layout in force no store is read: the outcome waits for the first start with one, so that a failed save counts
there again beside its open marker. [log 16: DEDUCED] -/
def countOutcome (s : State) : State :=
  let n := lastSaveStart s.jrn
  let fresh := s.upd.countedSeq < n && s.layoutOk
  let c := (bestCkpt (fun m => m = n) s.bed.ckpts).filter (·.isSealed)
  let isOpen := s.imageOpen
  let mk := markerOf n s.jrn
  let outcome := match c with | none => 3 | some c => c.hdr.outcome
  let ls : LastSave := match c with
    | none => { outcome := 3, planned := mk.1 = 5, trigger := mk.1, armedAtTrigger := mk.2 }
    | some c => { outcome := outcome, planned := c.hdr.flags.testBit 1, trigger := c.hdr.trigger, armedAtTrigger := mk.2 }
  let none_ := isOpen && !savedSince s.jrn
  let add := isOpen || (fresh && outcome ≠ 1)
  let s := { s with
    gov := { s.gov with
      dsc := if add then satAdd 32 s.gov.dsc 1 else s.gov.dsc
      lastSave := if none_ then { outcome := 4 } else if fresh then ls else s.gov.lastSave
      lost := if none_ then 0 else s.gov.lost }
    jrn := closeImage s.jrn
    fld := { s.fld with outcomeDue := s.fld.outcomeDue || fresh || none_ }
    upd := { s.upd with countedSeq := if s.layoutOk then n else s.upd.countedSeq } }
  if fresh then
    match c with
    | none => s
    | some c =>
      let s := learnK c.hdr s
      let l := signLate s
      l.1.journal (.saveRec c.hdr l.2)
  else s

/-- B8: the kind, the outcome, the records. After a handover reset nothing is counted (R453). -/
def bootJournal (env : StartEnv) (s : State) : State :=
  let s := { s with
    dev := { s.dev with aonUs := s.dev.aonUs + env.bootUs }
    bed := { s.bed with ckpts := s.bed.ckpts.map fun c => dropBad env.badCopies c }
    pip := { s.pip with sanResumed := s.key.sanOpen } }
  let s := if s.key.sanOpen && s.key.rbgOk then replaceKeys s else s
  let kind := s.startKind
  let s := signOwed s
  let s := if s.upd.cause = 5 then s else countOutcome s
  let best := bestCkpt (fun _ => true) s.bed.ckpts
  let s := match (best.map (·.hdr)).orElse fun _ => lastRecord s.jrn with
    | none => s
    | some r => hrvFrom r (salRecOf r.salSeq s.jrn) s
  let top := s.bed.ckpts.foldl (fun n c => max n c.hdr.saveSeq) (max (lastSaveStart s.jrn) (lastRestore s.jrn))
  { s with
    hrv := { s.hrv with
      copies := (best.map fun c => b2n c.copyA + b2n c.copyB).getD 0
      nextSeq := top + 1, prevSealed := (best.map fun c => c.hdr.saveSeq).getD 0
      floorMj := if s.layoutOk then s.eFloor else 0, leadMj := if s.layoutOk then s.eLead else 0 }
    upd := { s.upd with bootMs := min 65535 ((s.dev.aonUs - s.dev.startUs) / 1000) }
    fld := { s.fld with
      kind := kind, step := if kind = .saved || kind = .reload then 1 else 0
      deferredAct := kind = .saved && s.upd.marker.state = .scheduled }
    dev := { s.dev with st := if kind = .saved || kind = .reload then .reflood else s.dev.st }
    svc := { s.svc with event := s.svc.event || kind = .saved || kind = .reload } }

/-! ### The census and erases at start (R211 to R213) -/

/-- A block holds a programmed page 0: it lies in a row with a page of stripe 0 on its channel, or holds a checkpoint's pages. -/
def State.hasDescriptor (s : State) (key : Nat) (b : Blk) : Bool :=
  b.holds ≠ 0 || s.bed.rows.any fun r => r.lane == key / 32768 % 16 && r.blocks.contains (key / 32768 / 16, key % 32768) &&
    s.onMedia r.seq 0 (key / 32768 / 16)

/-- A block as the census finds it (R205, R209, R211, R231): one that holds nothing is BLANK, an erase cut short among them, and a CKPT block
without content waits for its erase; the count is the latest table's unless the descriptor gives a later one. -/
def State.censusBlock (s : State) (key : Nat) (b : Blk) : Blk :=
  let e := s.tableEntry key
  let n := e % 2 ^ 24
  let pool := b.state = BlkState.ckpt || b.state = BlkState.ckptErased
  let kept := b.state = BlkState.retired || b.state = BlkState.update || 2 ^ 24 ≤ e
  let b := { b with holds := if b.erasing || b.state = BlkState.ckptErased then 0 else b.holds }
  let st := if 2 ^ 24 ≤ e then BlkState.retired else if kept then b.state else if pool then .ckpt
    else if b.state = .erased || b.erasing then .blank else b.state
  { b with state := st, erasing := false, erases := if s.hasDescriptor key b && !b.erasing then max b.erases n else n }

/-- The store's blocks at the census; a row without a programmed page is none. -/
def censusBlocks (s : State) : State :=
  let none_ := fun (r : BedRow) => s.pagesOf r.seq = [] && r.zeros.isNone
  let s := (s.bed.rows.filter none_).foldl (fun s r => r.blocks.foldl (fun s p => blkUpd p.1 r.lane p.2 (fun b => { b with state := .blank }) s) s)
    { s with bed := { s.bed with rows := s.bed.rows.filter fun r => !none_ r } }
  { s with bed := { s.bed with
      blocks := s.bed.blocks.foldr (fun e t => tblPut {} e.1 (s.censusBlock e.1 e.2) t) []
      unprotected := s.bed.rows.foldl (fun n r => satAdd 16 n r.unprot.length) 0 } }

/-- Blocks of a die set aside from its BLANK ones, lowest first: until three are in the checkpoint pool (R210), on die 0 as many as the layout
reserves in the update partition (R230). [log 32: DESIGN CHOICE] -/
def reserveBlocks (st : BlkState) (n ch die : Nat) (s : State) : State :=
  let have_ := (s.bed.blocks.filter fun e => e.1 / 32768 == ch * 16 + die &&
    (e.2.state = st || (st = BlkState.ckpt && e.2.state = BlkState.ckptErased))).length
  (List.range (n - have_)).foldl (fun s _ =>
    match s.blankOn ch die with
    | none => s
    | some b => blkUpd ch die b (fun x => { x with state := st }) s) s

def reserveAll (s : State) : State :=
  (List.range 32).foldl (fun s c => (List.range s.nand.dies).foldl (fun s d =>
    let s := reserveBlocks .ckpt 3 c d s
    if d = 0 then reserveBlocks .update s.nand.updateBlocks c d s else s) s) s

/-- A row of another geometry (R212). -/
def State.foreignRow (s : State) (r : BedRow) : Bool :=
  ((s.pagesOf r.seq).any fun p => p.geometry != s.geometry) || r.zeros.any fun z => z.geometry != s.geometry

/-- Geometry mismatch (R212): foreign map segments or checkpoints, and no map segment of the geometry in force. -/
def State.foreignStore (s : State) : Bool :=
  ((s.bed.pages.any fun p => p.kind = .mapSegment && p.geometry != s.geometry) || (s.bed.rows.any fun r => r.zeros.any fun z => z.geometry != s.geometry) ||
    s.bed.ckpts.any fun c => c.geometry != s.geometry) &&
  s.segPages = [] && !(s.bed.rows.any fun r => r.zeros.any fun z => z.geometry == s.geometry)

/-- NAND channels and dies as the census finds them (R205, R211, R212, R223): partly programmed rows become FULL, foreign ones SPENT, and rows
that lie on a lost channel or die are queued for rebuild. [log 32: DESIGN CHOICE] -/
def census (env : StartEnv) (s0 : State) : State :=
  let s := reserveAll (censusBlocks s0)
  let dies := (List.range s.nand.dies)
  let chs := if s.layoutOk then List.range 32 else []
  let dead := fun (c d : Nat) => env.untrained.contains c || env.deadDies.contains (c * 16 + d) || (s.chan c).retired.contains d
  let chans := chs.foldl (fun t c => tblUpd {} c (fun (x : BedChan) =>
    let ok := !env.untrained.contains c
    let live := dies.filter fun d => !env.deadDies.contains (c * 16 + d)
    { x with
      present := live, trained := ok, active := ok && x.retired.length < 2, excluded := !ok || 2 ≤ x.retired.length
      cause := if !ok then 5 else if 2 ≤ x.retired.length then 3 else 0
      blocksRetired := (s.bed.blocks.filter fun b => b.1 / 32768 / 16 == c && b.2.state = .retired).length }) t) s.bed.chans
  let foreign := s.foreignStore
  let row := fun (r : BedRow) =>
    let r := if r.state = .opened then { r with state := .full } else r
    let r := if s.foreignRow r && !foreign then { r with state := .spent, queued := 0 } else r
    if r.state ≠ .spent && r.blocks.any (fun p => dead p.1 r.lane) then { r with queued := 1 } else r
  { s with
    dev := { s.dev with aonUs := s.dev.aonUs + env.censusUs }
    bed := { s.bed with
      chans := chans, rows := s.bed.rows.map row, foreign := foreign, mismatch := foreign
      ckpts := if foreign then s.bed.ckpts else s.bed.ckpts.filter fun c => c.geometry == s.geometry
      censusFailed := env.censusBad, censusMs := min 65535 (env.censusUs / 1000) } }

/-- Rows the guarantee needs at the layout's largest ceiling. -/
def State.needMax (s : State) : Nat :=
  ({ s with gov := { s.gov with bceil := s.bMax } } : State).needRows

/-- BLANK rows are erased lane by lane until the guarantee has its rows (R213). -/
def eraseRows : Nat → Nat → State → State
  | 0, _, s => s
  | n + 1, k, s => eraseRows n (k + 1) (if s.erasedRows < s.needMax then eraseBlank (k % max 1 s.nand.dies) s else s)

/-- Blocks whose count a start erase has brought to PSLC_PE are retired (R225). -/
def retireWorn (s : State) : State :=
  if s.nand.pslcPe = 0 then s
  else
    (s.bed.blocks.filter fun e => e.2.state = .erased && s.nand.pslcPe ≤ e.2.erases).foldl
      (fun s e => retireBlock (e.1 / 32768 / 16) (e.1 / 32768 % 16) (e.1 % 32768) 2 s) s

/-- The checkpoints whose blocks are not erased (R210): the latest and the one it superseded, until a restore marker closes the latest. -/
def State.keptCkpts (s : State) : List Ckpt :=
  match bestCkpt (fun _ => true) s.bed.ckpts with
  | none => []
  | some c => if c.hdr.saveSeq ≤ lastRestore s.jrn then []
      else c :: (bestCkpt (fun m => m < c.hdr.saveSeq) s.bed.ckpts).toList

/-- A CKPT block that holds nothing kept and has not been erased. -/
def State.ckptFree (s : State) (b : Blk) : Bool :=
  b.state = .ckpt && !b.erasing && !(s.keptCkpts.any fun c => c.hdr.saveSeq == b.holds)

/-- Every CKPT block that is free is erased (R210), and its checkpoint is gone; none in a store that must be left untouched (R192). -/
def freeCkpts (s : State) : State :=
  if s.bed.mismatch || s.bed.censusFailed then s
  else
    { s with bed := { s.bed with
      blocks := tblMap {} (fun b => if s.ckptFree b then { b with erasing := true } else b) s.bed.blocks
      ckpts := s.keptCkpts } }

/-- One CKPT block of each die in service is erased where none is (R213). -/
def eraseCkpts (s : State) : State :=
  s.activeCh.foldl (fun s c => (List.range s.nand.dies).foldl (fun s d =>
    if !(s.laneCh d).contains c || (s.ckptBlock c d).isSome then s
    else
      match (s.bed.blocks.filter fun e => e.1 / 32768 == c * 16 + d && s.ckptFree e.2).head? with
      | none => s
      | some e =>
        let s := blkUpd c d (e.1 % 32768) (fun b => { b with state := .ckptErased, erases := b.erases + 1, holds := 0 }) s
        { s with bed := { s.bed with sinceTable := s.bed.sinceTable + 1 } }) s) s

/-- Blocks whose start erase fails are retired (R213, R225). -/
def failErases (l : NSet) (s : State) : State :=
  l.foldl (fun s k =>
    let c := k / 32768 / 16
    let d := k / 32768 % 16
    let b := s.blk c d (k % 32768)
    if b.state = .blank || s.ckptFree b then
      let s := chanUpd c (fun c => { c with eraseFail := satAdd 16 c.eraseFail 1 }) s
      fltRaise 0x52 c (retireBlock c d (k % 32768) 1 s)
    else s) s

/-- The start erases and the block table after them (R209, R210, R213): none in a store that must be left untouched (R192). -/
def startErases (env : StartEnv) (s : State) : State :=
  if s.bed.mismatch || s.bed.censusFailed then s
  else
    let s := eraseCkpts (eraseRows (s.needMax + s.nand.dies) 0 (failErases env.eraseFails s))
    let s := writeBlockTable (freeCkpts (retireWorn s))
    openRows { s with
      dev := { s.dev with aonUs := s.dev.aonUs + env.eraseUs }
      bed := { s.bed with startErasesDone := true, storeReady := true, blank := false, eraseMs := min 65535 (env.eraseUs / 1000) } }

/-! ### F3: map rebuild (R169 to R172) -/

/-- A line of the rebuilt map, and whether the map delta gave it (R170). -/
def State.rebuiltLine (s : State) (seq : Nat) (delta : List MapLine) (n : Nat) : List HmEntry × Bool :=
  match s.bestSeg (fun t => seq < t) n with
  | some x => (x.content.entries, false)
  | none =>
    match delta.find? fun m => m.line == n with
    | some m => (m.entries, true)
    | none => (((s.bestSeg (fun t => t ≤ seq) n).map fun x => x.content.entries).getD [], false)

/-- Put a line's entries into the Harvest Map. -/
def putLine (n : Nat) (es : List HmEntry) (s : State) : State :=
  (List.range 8).foldl (fun s k =>
    if n * 8 + k < s.granules then
      { s with map := { s.map with hmap := tblPut {} (n * 8 + k) ((es[k]?).getD {}) s.map.hmap } }
    else s) s

/-- The Region Summary Table of a restore (R98, R172): the checkpoint's image, or no order. -/
def restoreRst (img : Option Ckpt) (s : State) : State :=
  let epoch := match img with | none => s.map.epoch | some c => c.hdr.epoch
  let s := { s with map := { s.map with epoch := epoch } }
  let fix := fun (e : RstEntry) => s.withHot { e with dirty := 0, restored := false, lost := false, zero := true }
  let none_ := fix { epoch := epoch }
  let base := match img with | none => none_ | some c => fix c.rstBase
  let listed : Tbl RstEntry := match img with | none => [] | some c => c.rst.map fun e => (e.1, fix e.2)
  let t := listed.foldl (fun (t : Tbl RstEntry) e => tblPut base e.1 e.2 t) []
  let t := s.map.hmap.foldl (fun (t : Tbl RstEntry) e => tblUpd base (regionOf e.1) (fun x => { x with zero := false }) t) t
  { s with
    map := { s.map with rst := t, rstBase := base }
    fld := { s.fld with epochBase := base.epoch, epochs := listed.foldl (fun u e => tblPut base.epoch e.1 e.2.epoch u) [] } }

/-- F3 for SAVED and RELOAD. The checkpoint that is used is the second component, and whether it is the latest save's.
[log 32: DESIGN CHOICE] -/
def rebuildMap (s : State) : State × Option Ckpt × Bool :=
  let saved := s.fld.kind = .saved
  let n := lastSaveStart s.jrn
  let latest := if saved then bestCkpt (fun m => m = n) s.bed.ckpts else none
  let used := if saved then latest.orElse fun _ => bestCkpt (fun m => m < n) s.bed.ckpts else bestCkpt (fun _ => true) s.bed.ckpts
  let seq := (used.map fun c => c.hdr.saveSeq).getD 0
  let delta := (used.map fun c => c.delta).getD []
  let s := { s with map := { s.map with hmap := [] } }
  let lines := s.knownLines delta
  let s := lines.foldl (fun s k => putLine k (s.rebuiltLine seq delta k).1 s) s
  let owed := lines.filter fun k => (s.rebuiltLine seq delta k).2
  let s := restoreRst latest s
  let located := s.jrn.any fun r => match r with | .locator m _ _ => m = if saved then n else seq | _ => false
  ({ s with
     drn := { s.drn with delta := owed }
     fld := { s.fld with
       seq := seq, copyB := used.any (fun c => !c.copyA), prevCkpt := saved && latest.isNone && used.isSome, ordered := latest.isSome
       locatorScan := !located, closesSeq := max seq n } }, used, latest.isSome)

/-! ### F4 (R184, R171) -/

/-- Granules of a residual line. -/
def lineGranules (e : Nat × Nat) : List Nat := ((List.range 512).filter fun b => e.2.testBit b).map fun b => e.1 * 512 + b

/-- A granule is lost at a restore (R184). [log 30: DEDUCED] -/
def loseAtStart (s : State) (g : Nat) : State :=
  let s := setLost g (hmPut g { state := .lost } s)
  let s := rstUpd (regionOf g) (fun e => { e with lost := true, zero := false }) s
  setRestored g s

/-- The open map row, if one is, is closed and the next one opened (R206). -/
def nextMapRow (s : State) : State :=
  openNext .map (match s.openRow .map 0 with
    | none => s
    | some r => rowUpd r.seq (fun x => { x with state := .full }) s)

/-- A number of pages of changed lines as map segments. -/
def writePages (n : Nat) (s : State) : State :=
  (List.range n).foldl (fun s _ => if s.drn.delta = [] then s else segmentNow (s.drn.delta.take (max 1 s.segmentLines)) s) s

/-- Changed lines as map segments, in `k` map rows of their own where they take more than a stripe, all but the newest of them closed
(R171, R206). How many rows such a write needs is not stated: one for each stripe, up to one per lane. [log 32: DESIGN CHOICE] -/
def writeLines : Nat → State → State
  | 0, s => s
  | k + 1, s =>
    let pages := ceilDiv s.drn.delta.length (max 1 s.segmentLines)
    writeLines k (writePages (ceilDiv pages (k + 1)) (nextMapRow s))

/-- Rows a write of so many map segment pages takes. -/
def State.mapLanes (s : State) (pages : Nat) : Nat := min s.nand.dies (ceilDiv pages (max 1 ((s.laneCh s.freeLane).length - 1)))

/-- F4: lost granules, then the lines of R171. -/
def loseAll (used : Option Ckpt) (latest : Bool) (s : State) : State :=
  let res := if latest then (used.map fun c => c.residual.flatMap lineGranules).getD [] else []
  let old := (s.map.hmap.filter fun e => e.2.state = .lost).map fun e => e.1
  let gs := (res.foldl (fun l g => setAdd g l) old).filter fun g => g < s.granules
  let s := gs.foldl loseAtStart { s with fld := { s.fld with restored := { base := false } } }
  let s := { s with gov := { s.gov with lost := gs.length } }
  closedParity (writeLines (s.mapLanes (ceilDiv s.drn.delta.length (max 1 s.segmentLines))) s)

/-- The Salinity Map serves. -/
def mapReady (s : State) : State := { s with map := { s.map with ready := true } }

/-- F3 and F4. A foreign store is left untouched (R192). [log 30: DEDUCED] -/
def restoreStart (s : State) : State :=
  if s.bed.mismatch || s.bed.censusFailed then { s with fld := { s.fld with f4Ended := true, step := 5, restored := { base := false } } }
  else
    let t := rebuildMap s
    let s := loseAll t.2.1 t.2.2 t.1
    mapReady { s with fld := { s.fld with f4Ended := true, step := 5 } }

/-! ### Store initialisation (R165) and sanitize's S5 and S6 (R249) -/

/-- Zero map segments of the lines from `first` on fill map rows from their first pages (R206, R212): an equal share of the pages left in each
of `lanes` rows, then whole rows while lines are left; all but the newest row are closed. [log 32: DESIGN CHOICE] -/
def zeroRows : Nat → Nat → Nat → State → State
  | 0, _, _, s => s
  | fuel + 1, lanes, first, s0 =>
    let left := s0.granules / 8 - first
    if left = 0 || s0.segmentLines = 0 then s0
    else
      let s := nextMapRow s0
      match s.openRow .map 0 with
      | none => s
      | some r =>
        let n := min (s.rowPages r) (ceilDiv (ceilDiv left s.segmentLines) (max 1 lanes))
        if n = 0 then s
        else
          let z : ZeroRun := { tag := s.tag, geometry := s.geometry, first := first, lines := min left (n * s.segmentLines) }
          let stripes := if z.lines = left then n / (r.width - 1) else ceilDiv n (r.width - 1)
          let s := rowUpd r.seq (fun x => { x with zeros := some z, cursor := n, parityDone := List.range stripes }) s
          zeroRows fuel (lanes - 1) (first + z.lines) (countBytes .drain ((n + stripes) * s.storePage) s)

/-- Every host-visible line as zero map segments (R212), in all the lanes at once. -/
def zeroSegments (s : State) : State :=
  fullRows (zeroRows (s.nand.dies + s.granules / 8) (s.mapLanes (ceilDiv (s.granules / 8) (max 1 s.segmentLines))) 0 s)

/-- The Harvest Map, ledger and RST are reset; every host-visible granule is unrestored ZERO; every earlier row is SPENT, and the zero segments
are written. The counters of R101 stand. -/
def resetMap (s : State) : State :=
  zeroSegments { s with
    map := { ({} : SMap) with
      epoch := s.map.epoch, advances := s.map.advances, rstBase := s.initialRst, ready := true
      hits := s.map.hits, misses := s.map.misses, peak := s.map.peak, passes := s.map.passes, repairs := s.map.repairs
      lastCause := s.map.lastCause, repairRegion := s.map.repairRegion, rstSel := s.map.rstSel }
    drn := { s.drn with delta := [], path := [], work := none }
    fld := { s.fld with
      restored := { base := false }, gateCache := [], lost := [], tracker := [], fetches := [], admission := [] }
    bed := { s.bed with
      staged := [], stageQ := [], rows := s.bed.rows.map fun r => { r with state := .spent, queued := 0 }, foreign := false, mismatch := false }
    poison := [] }

/-- A media key set for a device whose KEYS hold none (R242); none is made while the generator fails. -/
def makeKeys (s : State) : State :=
  if s.pip.blobs ≠ [] || !s.key.rbgOk then s
  else
    let b := newKeys s
    let s := appendKeys blobWords s
    loadKeys b { s with pip := { s.pip with blobs := [b], gen := 0, wrap := 0, secretSet := false }, free := s.free + 1 }

/-- Factory bad-block marks in JOURNAL (R225). -/
def markFactory (l : List (Nat × Nat × Nat)) (s : State) : State :=
  l.foldl (fun s x =>
    let s := blkUpd x.1 x.2.1 x.2.2 (fun b => { b with state := .retired }) s
    let s := chanUpd x.1 (fun c => { c with factoryBad := satAdd 16 c.factoryBad 1, blocksRetired := satAdd 16 c.blocksRetired 1 }) s
    s.journal (.retirement x.1 x.2.1 x.2.2 4 0)) s

/-- Store initialisation: its word is the commit point. -/
def initStore (env : StartEnv) (s : State) : State :=
  let s := resetMap (makeKeys (markFactory env.factoryBad s))
  let s := startErases env s
  s.journal (.storeInit s.geometry)

/-- S5 and S6 of a sanitize that a start resumes; without a healthy generator it waits at S4 for a later start (R483). -/
def resumeSanitize (env : StartEnv) (s : State) : State :=
  let s := startErases env (resetMap s)
  if !s.key.rbgOk then { s with pip := { s.pip with sanStep := 4 } }
  else
  let s := appendKeys 1 (s.journal (.storeInit s.geometry))
  { s with
    key := { s.key with sanOpen := false }
    pip := { s.pip with sanStep := 0, sanUnlocked := false, sanCount := satAdd 16 s.pip.sanCount 1 } }

end Sys2Proof.Machine
end

