-- ==== Sys2Proof/Machine/Boot.lean ====
section
/-!
DEFINITION. A start as a whole (R427): START, the DRAM session's checkpoints, the end of the boot order and host-ready (R15, R164, R167).
-/
namespace Sys2Proof.Machine

/-! ### B11 and host-ready -/

/-- Host access at the end of a start (R34 to R37, R192, R245): released under ALLOW_UNARMED, else held until ARMED. -/
def openAccess (s : State) : State :=
  let locked := s.pip.secretSet && !s.pip.keyLoaded
  if s.govParams.allowUnarmed && s.layoutOk && !locked && !s.bed.mismatch then releaseAccess s else s

/-- The device leaves BOOT or REFLOOD (R15): ARMED where the conditions have held for the holdoff, else UNARMED. -/
def leaveStart (s : State) : State :=
  let s := openAccess { s with dev := { s.dev with st := .unarmed, hostReady := true, readyUs := s.dev.aonUs }, upd := { s.upd with bootDone := true }
                               svc := { s.svc with event := true } }
  let s := holdArmSync (pdomSync s)
  if s.gov.cond.all && s.gov.holdoffDone && !(s.pip.secretSet && !s.pip.keyLoaded) then enterArmed s else s

/-- An image found RECEIVED is verified again (R447). -/
def reverify (env : StartEnv) (s : State) : State :=
  if s.upd.marker.state = .received then
    let c := slotCode env s.upd.marker.tslot s
    if c = 0 then setMarker (fun m => { m with state := .verified }) s else failUpdate 3 c (imageFailed c s)
  else s

/-- A bundle entry for this unit is copied into T after host-ready, while no update is under way (R454): RECEIVING, RECEIVED, then VERIFIED
or FAILED, with the CASCADE flag. -/
def copyBundle (s : State) : State :=
  match s.brl.bundle with
  | none => s
  | some i =>
    let m := s.upd.marker
    if s.brl.role = 0 || !(m.state = .empty || m.state = .confirmed || m.state = .failed) then s
    else
      let s := setMarker (fun m => { state := .receiving, tslot := !m.cslot, cslot := m.cslot, cascade := true }) s
      let s := eraseSlot s.upd.marker.tslot s
      let s := { s with upd := s.upd.setSlot s.upd.marker.tslot (some i) }
      let s := setMarker (fun m => { m with state := .received, tver := i.version % 2 ^ 32, tsvn := i.svn }) s
      let c := imageCode s false i
      if c = 0 then setMarker (fun m => { m with state := .verified }) s else failUpdate 3 c (imageFailed c s)

/-- Heads leave reset (R256, B11). -/
def releaseHeads (s : State) : State :=
  { s with heads := ⟨{ s.heads.a with inReset := false, phyOff := false }, { s.heads.b with inReset := false, phyOff := false }⟩ }

/-- The arming conditions at the end of a boot order that had no governor tick (R15, R25): this evaluation counts as its first tick.
[log 16: DEDUCED] -/
def bootTick (s : State) : State :=
  let s := budgetTick s
  holdoffTick { s with gov := { s.gov with cond := s.conditions s.gov.euse } }

/-- The last steps of a boot order of kind NONE or INIT, or without a layout: it has no host-ready, so an outcome not yet told stays due
until the first head links (R42, R167). -/
def endBoot (env : StartEnv) (s : State) : State :=
  let s := { s with
    fld := { s.fld with
      f4Ended := true, restoring := s.fld.restored ≠ {}, unlockWait := false
      readyMs := if s.fld.kind = .init then min 65535 ((s.dev.aonUs - s.dev.startUs) / 1000) else s.fld.readyMs
      step := if s.fld.kind = .init && s.fld.restored ≠ {} then 6 else s.fld.step }
    boot := none }
  copyBundle (reverify env (leaveStart (bootTick (releaseHeads s))))

/-- The handover start of R452: the restore marker in place of F5, then the handover reset. -/
def handoverReset (s : State) : State := mainReset 5 (salCut (s.journal (.restore s.fld.closesSeq)))

/-- B10 and B11 (R427): what follows the DRAM session. -/
def afterSession (env : StartEnv) (s : State) : State :=
  let s := census env s
  match s.fld.kind with
  | .none =>
    let s := if s.pip.sanResumed then resumeSanitize env s
      else mapReady (startErases env { s with map := { s.map with rstBase := s.initialRst } })
    endBoot env (storeTick s)
  | .init =>
    let s := if s.bed.mismatch || s.bed.censusFailed then s else initStore env s
    endBoot env (storeTick s)
  | _ =>
    let s := storeTick (startErases env (restoreStart s))
    if s.upd.handover && !s.bed.mismatch && !s.bed.censusFailed then handoverReset s
    else
      let s := releaseHeads s
      { s with fld := { s.fld with unlockWait := s.pip.secretSet && !s.pip.keyLoaded }, boot := some env }

/-- The DRAM session's end, or its wait for checkpoints (R331). -/
def runSession (env : StartEnv) (s : State) : State :=
  if s.sessionOver then afterSession env (requestStep (endSession s)) else { s with boot := some env }

/-- B9: the DRAM session (R331); FULL_TRAIN where a set is to be trained. -/
def startSession (env : StartEnv) (s : State) : State :=
  let s := beginSession env.dram s
  let s := trnStatus { s with fld := { s.fld with
    step := if s.dev.st = .reflood then 2 else 0
    fullTrain := s.dev.st = .reflood && !s.sessionOver } }
  runSession env s

/-- B4 to B9 in the slot that verified. -/
def bootSlot (env : StartEnv) (b : Bool) (s : State) : State :=
  let s := stepFuses (runSlot b s)
  let s := bootJournal env (bootValues env s)
  if s.layoutOk then startSession env s else endBoot env (putTherm defaultTherm s)

/-- B2 and B3 with what a group start orders (R428, R429, R503). -/
def bootTwo (env : StartEnv) (g : GroupCode) (s : State) : State :=
  let p := verifySlot env (chooseSlot env g s)
  match p.2 with
  | none => enterRecovery 2 p.1
  | some b => bootSlot env b p.1

/-- A cascade unit waits at B2 for its ring and the master's START (R503). -/
def waitGroup (env : StartEnv) (s : State) : State := { s with boot := some env, brl := { s.brl with waitB2 := true } }

/-- Hottest enabled reading at or above SHUT (R357). -/
def State.bootShut (s : State) : Option (Nat × Int) := (s.atOrAbove ThmThresh.shut 0 s.thmReads).head?

/-- B1, straps sampled and fuses read twice (R463), and what follows it. [log 51: DEDUCED] -/
def bootAll (env : StartEnv) (s : State) : State :=
  let s := { s with dev := { s.dev with startDue := false }, pins := { s.pins with recover := env.recoverLow },
                          brl := { s.brl with role := if env.role = 3 then 0 else env.role } }
  let s := tallyStart env.tallyOk env.ringTestOk s
  if env.fuseBad then fltRaise 0xC0 0 s
  else if env.recoverLow then
    enterRecovery 1 (planeScan { s with cel := { s.cel with headerOk := env.headerOk }, key := { s.key with rbgOk := env.rbgOk } })
  else
    let s := bootThermal env s
    match s.bootShut with
    | some e => thermalHalt 3 e s
    | none =>
      let s := levelSync (warnSync s)
      let s := { s with cel := { s.cel with headerOk := env.headerOk } }
      if !env.headerOk then enterRecovery 4 s
      else
        let s := bootOne env s
        if 3 ≤ s.upd.wdCount then enterRecovery 3 s
        else if s.brl.role ≠ 0 then waitGroup env s
        else bootTwo env .alone s

/-- START (R427). -/
def execStartDevice (env : StartEnv) (s : State) : Host.Outcome State Fault Refusal :=
  .next (if s.dev.st = .boot && s.dev.startDue && s.dev.mainUp then bootAll env s else s)

/-- VAON_RISE (R15, R47, R544): Keyhouse delivers the domain key; a power-on start is due, or RECOVER_N low leads to RECOVERY, with the
start's Tally record and status-plane scan (R386, R412). The core supply has lost the ring. -/
def execVaonRise (recoverLow : Bool) (s : State) : Host.Outcome State Fault Refusal :=
  if s.dev.st = .off then
    let s := { s with dev := { st := .boot, startDue := true, mainUp := false }, pins := { s.pins with recover := recoverLow }
                      sal := { s.sal with domainKey := some s.key.salKey } }
    .next (if recoverLow then enterRecovery 1 (planeScan (tallyStart false true s)) else s)
  else .next s

/-- TRAINING_CHECKPOINT (R324 to R327, R331, R336): a training step's attempt ends; the session ends with the last. -/
def execTrainingCheckpoint (channel step set : Nat) (result : TrainResult) (s : State) : Host.Outcome State Fault Refusal :=
  match s.boot with
  | none => .next s
  | some env =>
    if s.trn.activity = 3 && (s.dev.st = .boot || s.dev.st = .reflood) then
      .next (runSession env (checkpoint channel step set result s))
    else .next s

/-- Host-ready may come (R167, R189): F4 has ended, the media key is there, each head has linked or used up the F5 bound. -/
def State.readyNow (s : State) : Bool := s.dev.st = .reflood && s.fld.f4Ended && s.pip.keyLoaded

/-- Host-ready of a restore (R163, R167, R175): the restore marker, then UNARMED or ARMED, background restore runs. -/
def hostReadyNow (s : State) : State :=
  let left := s.bed.mismatch || s.bed.censusFailed
  let s := if left then s else freeCkpts (s.journal (.restore s.fld.closesSeq))
  let s := { s with
    fld := { s.fld with
      step := if left then 0 else 6, restoring := !left, unlockWait := false
      readyMs := min 65535 ((s.dev.aonUs - s.dev.startUs) / 1000) } }
  let env := s.boot
  let s := tellOutcome (leaveStart { s with boot := none })
  let s := match env with | none => s | some e => reverify e s
  restoreEnd (copyBundle s)

/-- HOST_READY (R167). -/
def execHostReady (s : State) : Host.Outcome State Fault Refusal :=
  .next (if s.readyNow then hostReadyNow s else s)

end Sys2Proof.Machine
end

