-- ==== Sys2Proof/Machine/Heads.lean ====
section
/-!
DEFINITION. The heads' links and grace timers (R256, R257, R272, R289), HDM decoders (R260), the semaphore (R269 to R273), pan ownership
(R262 to R268, R275), version, persistence status and held access (R276 to R280, R36).
-/
namespace Sys2Proof.Machine

/-! ### Links -/

/-- A Release Capacity that was due at the last stop is raised again when its head links (R289). [log 37: DEDUCED] -/
def raiseOwed (h : Head) (s : State) : State :=
  let due := (s.pans.filter fun e => e.2.owed.get h).map fun e => (e.1, e.2.gen)
  let s := due.foldl (fun s e => eventTo h .dynCap (.releaseCapacity e.1 e.2) s) s
  { s with pans := due.foldl (fun t e => tblUpd {} e.1 (fun p => { p with owed := p.owed.set h false }) t) s.pans }

/-- LINK_UP (R256, R272, R289): a head out of reset reaches L0; its grace timer stops. IDE runs once its keys have been set (R480).
[log 37: DEDUCED] -/
def execLinkUp (head : Head) (rate width : Nat) (ide : Bool) (s : State) : Host.Outcome State Fault Refusal :=
  let x := s.heads.get head
  if x.inReset || x.phyOff || !(s.running || (s.dev.st = .reflood && s.fld.f4Ended)) then .next s
  else
    let x := { x with
      up := true, down := false, grace := false, credits := headCredits, rate := rate % 8, width := width % 4
      ide := ide && (s.key.spdm.get head).ideKeys }
    let s := raiseOwed head { s with heads := s.heads.set head x }
    .next (if s.running then tellOutcome s else s)

/-- LINK_DOWN (R256, R272). -/
def execLinkDown (head : Head) (s : State) : Host.Outcome State Fault Refusal :=
  .next (if (s.heads.get head).up then headDown head false s else s)

/-! ### The semaphore (R269 to R273) -/

/-- A cell's holder changes: its generation steps (R269), committed at once (R273); a pause lapses when cell 1 becomes FREE (R123). -/
def cellChange (n : Nat) (st : CellState) (s : State) : State :=
  let s := cellUpd n (fun c => { c with state := st, gen := c.gen + 1 }) s
  if n = 1 && st = .free then endPause 4 s else s

/-- The state that says a head holds a cell. -/
def heldBy : Head → CellState
  | .a => .heldA
  | .b => .heldB

/-- SEM_RESULT of a head (R270): the outcome and the cell's generation after it. -/
def semResult (h : Head) (code n : Nat) (s : State) : State :=
  { s with sem := { s.sem with result := s.sem.result.set h.port ⟨code, n, (s.cell n).gen⟩ } }

/-- Both heads ask for the same FREE cell in the same cycle: PRI decides and flips (R271). [log 38: DESIGN CHOICE] -/
def semTie (h : Head) (n : Nat) (s : State) : State :=
  let w : Head := if (s.cell n).priB then .b else .a
  let s := cellUpd n (fun c => { c with priB := !c.priB }) (cellChange n (heldBy w) s)
  let o := w.other
  let s := semResult w 1 n s
  if s.served o || decide (o = h) then semResult o 2 n s else s

/-- An acquire request (R270): the generation first. Cells 5 to 7 answer BUSY (R269). -/
def semAcquire (h : Head) (n : Nat) (gen : BitVec 16) (tie : Bool) (s : State) : State :=
  if (s.cell n).gen ≠ gen then semResult h 3 n (staleReject h n s)
  else if 5 ≤ n && n ≤ 7 then semResult h 2 n s
  else if s.holds h n then semResult h 1 n s
  else if s.holds h.other n then semResult h 2 n s
  else if tie && s.served h.other then semTie h n s
  else semResult h 1 n (cellChange n (heldBy h) s)

/-- A release request (R270). -/
def semRelease (h : Head) (n : Nat) (gen : BitVec 16) (s : State) : State :=
  if (s.cell n).gen ≠ gen then semResult h 3 n (staleReject h n s)
  else if s.holds h n then semResult h 5 n (cellChange n .free s)
  else semResult h 4 n s

/-- SEM_ACQUIRE (R270, R271); `tie` says that the other head asks for the cell in the same cycle with the same generation. -/
def execSemAcquire (head : Head) (cell : Nat) (gen : BitVec 16) (tie : Bool) (s : State) : Host.Outcome State Fault Refusal :=
  .next (if s.served head then semAcquire head (cell % 32) gen tie s else s)

/-- SEM_RELEASE (R270). -/
def execSemRelease (head : Head) (cell : Nat) (gen : BitVec 16) (s : State) : Host.Outcome State Fault Refusal :=
  .next (if s.served head then semRelease head (cell % 32) gen s else s)

/-- A forced release of one cell (R272). -/
def forceRelease (h : Head) (n : Nat) (s : State) : State :=
  let g0 := (s.cell n).gen
  let s := cellChange n .free s
  let s := { s with sem := { s.sem with forced := satAdd 16 s.sem.forced 1, lastCell := n, lastHead := decide (h = .b) } }
  let s := tlyTrigger 0x104 0 s
  eventTo h.other .warning
    (.chapen 0x03 0 h.code s.dev.st.code n g0.toNat (g0 + 1).toNat s.gov.armGen.toNat 0) s

/-- GRACE_EXPIRY (R272, R289): the head's cells are force-released; during a save nothing changes. -/
def execGraceExpiry (head : Head) (s : State) : Host.Outcome State Fault Refusal :=
  let x := s.heads.get head
  if x.grace && !x.up && !s.saving && s.alive then
    let s := { s with heads := s.heads.set head { x with grace := false } }
    .next (((List.range 32).filter fun n => s.holds head n).foldl (fun s n => forceRelease head n s) s)
  else .next s

/-! ### Decoders (R260) -/

/-- A decoder may commit (R260): ways and granularity in range, its DPA range on pan boundaries inside the region. -/
def State.decoderOk (s : State) (d : Decoder) : Bool :=
  let dpaSize := d.size / d.ways
  [1, 2, 4, 8].contains d.ways && [256, 512, 1024, 2048, 4096, 8192, 16384].contains d.gran && d.position < d.ways
    && 0 < dpaSize && d.size % (d.ways * 2 ^ 30) = 0 && d.dpaBase % 2 ^ 30 = 0
    && (d.dpaBase + dpaSize) / 2 ^ 30 ≤ s.panCount

/-- HDM_DECODER_COMMIT (R260): the CXL invalid-commit error where the range is not as R260 allows. -/
def execHdmDecoderCommit (head : Head) (index : Nat) (decoder : Decoder) (s : State) : Host.Outcome State Fault Refusal :=
  if !s.served head || 4 ≤ index then .next s
  else
    let ok := s.decoderOk decoder
    let s := { s with replies := { s.replies with decoderError := s.replies.decoderError.set head (!ok) } }
    if ok then
      let x := s.heads.get head
      .next { s with heads := s.heads.set head { x with decoders := tblPut none index (some decoder) x.decoders } }
    else .next s

/-! ### Versions (R276, R278) -/

/-- The 16 bytes of the Chapen event UUID as R284 writes it. -/
def chapenUuid : List Nat := [0x5e, 0x2b, 0x9c, 0x41, 0x07, 0xd3, 0x4a, 0x86, 0xb1, 0xf9, 0x3c, 0x60, 0xe8, 0xa2, 0xd4, 0x7b]

/-- GET_CHAPEN_VERSION (R278, 0xC100). -/
def execGetChapenVersion (head : Head) (s : State) : Host.Outcome State Fault Refusal :=
  .next (vendor head 0xC100 false (fun s =>
    let x := s.heads.get head
    reply head 0xC100 0 (.bytes ([2, 0, 1, x.cmdMajor, x.cmdMinor, 0, 0, 0] ++ chapenUuid)) s) s)

/-- SET_CHAPEN_VERSION (R276, R7, 0xC101): major 2 runs 2.0, major 1 runs 1.0 whatever the minor version. -/
def execSetChapenVersion (head : Head) (major minor : Nat) (s : State) : Host.Outcome State Fault Refusal :=
  .next (vendor head 0xC101 false (fun s =>
    if major = 2 || major = 1 then
      let x := s.heads.get head
      reply head 0xC101 0 (.bytes [major, if minor = 0 then minor else 0])
        { s with heads := s.heads.set head { x with cmdMajor := major, cmdMinor := 0 } }
    else reply head 0xC101 0xE .empty s) s)

/-! ### Persistence (R278, R36) -/

/-- GET_PERSISTENCE_STATUS (R278, 0xC110): the eleven GOV registers from GOV_STATE on. -/
def execGetPersistenceStatus (head : Head) (s : State) : Host.Outcome State Fault Refusal :=
  .next (vendor head 0xC110 false (fun s => reply head 0xC110 0 (.words (readRegs head.port 0x40000 11 s)) s) s)

/-- Whether a command that releases access is refused by its rule (R192, R245, R252, R431). -/
def State.releaseRefused (s : State) : Bool :=
  !s.layoutOk || s.bed.mismatch || s.bed.censusFailed || s.fld.unlockWait || !s.pip.keyLoaded || s.pip.sanStep ≠ 0

/-- RELEASE_HELD_ACCESS (R36, R280, 0xC112): for the rest of the power cycle. -/
def execReleaseHeldAccess (head : Head) (gen : BitVec 16) (s : State) : Host.Outcome State Fault Refusal :=
  .next (guarded head 1 gen 0xC112 false (fun s =>
    if !s.gov.accessHeld then reply head 0xC112 3 .empty s
    else if s.releaseRefused then reply head 0xC112 0x11 .empty s
    else if !s.running then reply head 0xC112 3 .empty s
    else reply head 0xC112 0 .empty (pdomSync (releaseAccess { s with gov := { s.gov with released := true } }))) s)

/-! ### Pan ownership -/

/-- How much an access allows. -/
def Access.rank : Access → Nat
  | .none => 0 | .read => 1 | .write => 2

/-- What a head sees of a pan's new state (R267): the pan's entry, and whether Release Capacity and Add Capacity are raised. A pending
loss lapses where the new state grants what the head still has; without it the loss waits as before, or takes effect under FORCE. -/
def panHead (now : Nat) (force : Bool) (h : Head) (g0 g1 : Access) (p : Pan) : Pan × Bool × Bool :=
  let acc := p.acc.get h
  let gone := ({ p with
    acc := p.acc.set h .none, losing := p.losing.set h none, offered := p.offered.set h (decide (g1 ≠ .none)) } : Pan)
  if (p.losing.get h).isSome then
    if acc.rank ≤ g1.rank then ({ p with losing := p.losing.set h none, acc := p.acc.set h g1 }, false, false)
    else if force then (gone, false, decide (g1 ≠ .none))
    else (p, false, false)
  else if g1.rank < g0.rank then
    if force || decide (acc = .none) then (gone, true, decide (g1 ≠ .none))
    else ({ p with losing := p.losing.set h (some now), offered := p.offered.set h false }, true, false)
  else if g0 = .none && decide (g1 ≠ .none) then ({ p with offered := p.offered.set h true }, false, true)
  else ({ p with acc := p.acc.set h (if acc = .none then .none else g1) }, false, false)

/-- The events one head gets for a changed pan (R267): Release Capacity before Add Capacity. -/
def panEvents (h : Head) (n gen : Nat) (release add : Bool) (s : State) : State :=
  let s := if release then eventTo h .dynCap (.releaseCapacity n gen) s else s
  if add then eventTo h .dynCap (.addCapacity n gen) s else s

/-- One pan takes its new state (R262, R265, R267), with its Tally record (R387) and event record (R284). -/
def applyPan (force : Bool) (n : Nat) (st : PanState) (s : State) : State :=
  let p := s.pan n
  if p.state = st then s
  else
    let gen := (p.gen + 1) % 65536
    let a := panHead s.dev.aonUs force .a (p.state.grants .a) (st.grants .a) p
    let b := panHead s.dev.aonUs force .b (p.state.grants .b) (st.grants .b) a.1
    let s := { s with pans := tblPut {} n { b.1 with state := st, gen := gen } s.pans }
    let s := panEvents .b n gen b.2.1 b.2.2 (panEvents .a n gen a.2.1 a.2.2 s)
    chapenEvent .info 0x04 0 0xFF n p.gen gen 0 (tlyTrigger 0x105 0 s)

/-- FORCE may take a pan from the heads that lose it (R275): each is down, or has left a Release Capacity unanswered for 10 s.
[log 39: DEDUCED] -/
def State.forceOk (s : State) (n : Nat) (st : PanState) : Bool :=
  let p := s.pan n
  bothHeads.all fun h =>
    let loses := (st.grants h).rank < (p.state.grants h).rank
      || ((p.losing.get h).isSome && (st.grants h).rank < (p.acc.get h).rank)
    let waited := match p.losing.get h with
      | none => false
      | some t => t + 10000000 ≤ s.dev.aonUs
    !loses || (s.heads.get h).down || waited

/-- The status of one entry of Set Pan Roles (R275, R279); 0 where it stands. -/
def State.panEntry (s : State) (force : Bool) (before : List Nat) (c : PanChange) : Nat :=
  match PanState.ofCode c.state with
  | none => 0xC
  | some st =>
    if s.panCount ≤ c.pan || before.contains c.pan then 0xC
    else if (s.pan c.pan).gen ≠ c.gen then 1
    else if force && !s.forceOk c.pan st then 0xD
    else 0

/-- The first entry that fails: its pan and status (R280). -/
def State.panCheck (s : State) (force : Bool) : List Nat → List PanChange → Option (Nat × Nat)
  | _, [] => none
  | before, c :: t =>
    let r := s.panEntry force before c
    if r ≠ 0 then some (c.pan, r) else s.panCheck force (c.pan :: before) t

/-- Set Pan Roles once its guard has passed (R262, R267, R280); `commitOk` is false where the Salt Cellar commit fails. -/
def setPanRoles (h : Head) (force : Bool) (changes : List PanChange) (commitOk : Bool) (s : State) : State :=
  if changes = [] || 256 < changes.length then violate h 6 (reply h 0xC121 0x12 .empty s)
  else
    match s.panCheck force [] changes with
    | some (p, st) => reply h 0xC121 st .empty (if st = 1 then staleReject h p s else s)
    | none =>
      if !commitOk then reply h 0xC121 0x10 .empty s
      else
        let t := changes.foldl (fun s c => applyPan force c.pan ((PanState.ofCode c.state).getD .unassigned) s) s
        reply h 0xC121 0 (.words (changes.map fun c => (t.pan c.pan).gen)) (stampOverflow t)

/-- SET_PAN_ROLES (R280, 0xC121). -/
def execSetPanRoles (head : Head) (gen : BitVec 16) (force : Bool) (changes : List PanChange) (commitOk : Bool) (s : State) :
    Host.Outcome State Fault Refusal :=
  .next (guarded head 0 gen 0xC121 false (setPanRoles head force changes commitOk) s)

/-- GET_PAN_ROLES (R278, 0xC120): state in bits 7:0, PENDING in bit 8, generation in bits 31:16 of each word. -/
def execGetPanRoles (head : Head) (first count : Nat) (s : State) : Host.Outcome State Fault Refusal :=
  .next (vendor head 0xC120 false (fun s =>
    if count = 0 || 1020 < count then violate head 6 (reply head 0xC120 0x12 .empty s)
    else if s.panCount < first + count then reply head 0xC120 0xC .empty s
    else
      let w := fun (n : Nat) =>
        let p := s.pan n
        p.state.code + (if p.pending then 256 else 0) + p.gen * 65536
      reply head 0xC120 0 (.words ((List.range count).map fun k => w (first + k))) s) s)

/-- An added extent is accepted (R267): the head may use the pan. [log 39: DEDUCED] -/
def acceptPan (h : Head) (n : Nat) (s : State) : State :=
  { s with pans := tblUpd {} n (fun p => { p with
      acc := p.acc.set h (p.state.grants h), offered := p.offered.set h false }) s.pans }

/-- ADD_DYNAMIC_CAPACITY_RESPONSE (R267): each extent, by pan and tag generation, was offered; otherwise Invalid Input and nothing
changes. -/
def execAddDynamicCapacityResponse (head : Head) (pans : List (Nat × Nat)) (s : State) : Host.Outcome State Fault Refusal :=
  .next (cxlCmd head (fun s =>
    let ok := pans.all fun e => e.1 < s.panCount && (s.pan e.1).offered.get head && (s.pan e.1).gen == e.2
    if ok then replyCxl head 0x4802 0 .empty (pans.foldl (fun s e => acceptPan head e.1 s) s)
    else replyCxl head 0x4802 2 .empty s) s)

/-- A pending loss takes effect (R267, steps 2 and 3). A release of a pan no loss waits for changes nothing (R259). -/
def releasePan (h : Head) (n : Nat) (s : State) : State :=
  let p := s.pan n
  if (p.losing.get h).isSome then
    let g := p.state.grants h
    let add := decide (g ≠ .none)
    let s := { s with pans := tblPut {} n { p with
        acc := p.acc.set h .none, losing := p.losing.set h none, offered := p.offered.set h add } s.pans }
    panEvents h n p.gen false add s
  else s

/-- RELEASE_DYNAMIC_CAPACITY (R267): of pans the head holds, or is losing; otherwise Invalid Input and nothing changes. -/
def execReleaseDynamicCapacity (head : Head) (pans : List (Nat × Nat)) (s : State) : Host.Outcome State Fault Refusal :=
  .next (cxlCmd head (fun s =>
    let ok := pans.all fun e => e.1 < s.panCount
      && (decide ((s.pan e.1).acc.get head ≠ .none) || decide ((s.pan e.1).state.grants head ≠ .none))
    if ok then replyCxl head 0x4803 0 .empty (pans.foldl (fun s e => releasePan head e.1 s) s)
    else replyCxl head 0x4803 2 .empty s) s)

end Sys2Proof.Machine
end

