-- ==== Sys2Proof/Machine/Update.lean ====
section
/-!
DEFINITION. Firmware updates while the device runs (R448 to R460), layout staging (R280, R431), Read Journal (R280), and the owner's
requests over the Rake Port: nonces, factory reset, calibration and owner keys (R438, R439, R475 to R478, R514).
-/
namespace Sys2Proof.Machine

/-! ### Trial and watchdog count (R430, R456) -/

/-- WD_COUNT_CLEAR (R430): ten minutes past the boot order. -/
def execWdCountClear (s : State) : Host.Outcome State Fault Refusal :=
  .next (if s.upd.bootDone && s.running then { s with upd := { s.upd with wdCount := 0 } } else s)

/-- The areas a slot's image keeps, released and erased (R456). -/
def eraseCopies (slot : Bool) (s : State) : State :=
  [0, 1].foldl (fun s n => if (s.upd.areaCopy n).any fun c => c.slot == slot then eraseArea n s else s) s

/-- R456's conditions beside the time. -/
def State.mayConfirm (s : State) : Bool :=
  s.onTrial && s.dev.hostReady && s.upd.bootDone && s.running && !s.upd.refuseArm && (s.upd.areaFor s.upd.running).isSome

/-- CONFIRM (R456, R457): the confirmed slot is T; the old image's settings copy is released; the fuses follow. -/
def execConfirmTrial (s : State) : Host.Outcome State Fault Refusal :=
  if s.mayConfirm then
    let old := s.upd.marker.cslot
    let s := setMarker (fun m => { m with state := .confirmed, cslot := m.tslot }) s
    .next (stepFuses (eraseCopies old s))
  else .next s

/-! ### Download (R448, R449, R460) -/

/-- A download may begin in a state of the live marker (R448). -/
def UpdState.open_ : UpdState → Bool
  | .empty => true | .verified => true | .confirmed => true | .failed => true
  | _ => false

/-- The states the download operations are served in (R514). -/
def State.downloads (s : State) : Bool := s.running || s.dev.st = .recovery

/-- Whether a slot's image passes R443. -/
def State.slotValid (s : State) (b : Bool) : Bool := (s.upd.slot b).any fun i => imageCode s false i = 0

/-- The slot a download goes to (R448, R460): the one that is not confirmed; SLOT_A in RECOVERY if neither verifies. -/
def State.target (s : State) : Bool :=
  if s.dev.st = .recovery && !s.slotValid false && !s.slotValid true then false else !s.upd.marker.cslot

/-- DL_BEGIN (R448, R460, R514): RECEIVING, the target slot erased. A length no slot holds is refused. [log 53: DEDUCED] -/
def execDlBegin (tag length version : Nat) (s : State) : Host.Outcome State Fault Refusal :=
  .next (rakeOp 0x30 tag 0x100 State.downloads (fun s =>
    if s.dev.st = .recovery && s.upd.recoveryCause = 4 then rakeReply 0x30 tag 0x11 .empty s
    else if !s.upd.marker.state.open_ then rakeReply 0x30 tag 3 .empty s
    else if length = 0 || 0x800000 < length then rakeReply 0x30 tag 0x12 .empty s
    else
      let t := s.target
      let s := setMarker (fun m => { state := .receiving, tslot := t, cslot := m.cslot }) s
      let s := eraseSlot t s
      rakeReply 0x30 tag 0 (.bytes [b2n t, 0, 0, 0])
        { s with upd := { s.upd with announced := length, announcedVer := version, received := 0 } }) s)

/-- DL_DATA (R448, R514): `image` is what the whole of the bytes spells once the last has arrived; `ok` is false where a program fails
with no spare left. [log 53: DEDUCED] -/
def execDlData (tag offset length : Nat) (image : Option Image) (ok : Bool) (s : State) : Host.Outcome State Fault Refusal :=
  .next (rakeOp 0x31 tag 0x100 State.downloads (fun s =>
    let u := s.upd
    if u.marker.state ≠ .receiving then rakeReply 0x31 tag 3 .empty s
    else if length = 0 || 16384 < length then rakeReply 0x31 tag 0x102 .empty s
    else if length % 16 ≠ 0 || u.announced < offset + length then rakeReply 0x31 tag 0x12 .empty s
    else if offset ≠ u.received then rakeReply 0x31 tag 0x11 .empty s
    else if !ok then rakeReply 0x31 tag 0x10 .empty (failUpdate 2 8 s)
    else
      let n := offset + length
      let u := if n = u.announced then u.setSlot u.marker.tslot (image.filter fun i => i.length == n) else u
      rakeReply 0x31 tag 0 (.words [n]) { s with upd := { u with received := n } }) s)

/-- The check of T after RECEIVED (R449, R460): VERIFIED or FAILED; in RECOVERY a valid image is SCHEDULED, where RECOVER_N alone led there
and C verifies, or CONFIRMED, with the RECOVERY flag. -/
def checkTarget (s : State) : State :=
  let m := s.upd.marker
  let c := match s.upd.slot m.tslot with
    | none => 2
    | some i => imageCode s false i
  if c ≠ 0 then failUpdate 3 c (imageFailed c s)
  else if s.dev.st = .recovery then
    if s.upd.recoveryCause = 1 && s.slotValid m.cslot then setMarker (fun m => { m with state := .scheduled, recovery := true }) s
    else setMarker (fun m => { m with state := .confirmed, cslot := m.tslot, recovery := true }) s
  else setMarker (fun m => { m with state := .verified }) s

/-- RECEIVED (R448): TVER and TSVN stand from here on (R445). [log 52: DEDUCED] -/
def markReceived (s : State) : State :=
  let i := s.upd.slot s.upd.marker.tslot
  setMarker (fun m => { m with
    state := .received, tver := (i.map fun i => i.version).getD s.upd.announcedVer % 2 ^ 32, tsvn := (i.map fun i => i.svn).getD 0 }) s

/-- DL_END (R448, R449, R514): the answer shows RECEIVED; the check follows. -/
def execDlEnd (tag : Nat) (s : State) : Host.Outcome State Fault Refusal :=
  .next (rakeOp 0x32 tag 0x100 State.downloads (fun s =>
    if s.upd.marker.state ≠ .receiving || s.upd.received ≠ s.upd.announced then rakeReply 0x32 tag 3 .empty s
    else checkTarget (rakeReply 0x32 tag 0 (.bytes [3, 0, 0, 0]) (markReceived s))) s)

/-! ### Scheduling (R450, R454) -/

/-- Every unit of the group has reported VERIFIED for the image this unit holds (R454). [log 53: DEDUCED] -/
def State.groupVerified (s : State) : Bool :=
  match s.cascade with
  | none => false
  | some c =>
    s.brl.whole && s.upd.marker.cascade && (List.range c.units).all fun u =>
      u == 0 || (tblGet ({} : BrlUnit) s.brl.units u).marker.any fun m => m.1 == 4 && m.2.1 == s.upd.marker.tver

/-- The settings area the copy in force does not use is erased (R450, step 3). -/
def eraseSpare (s : State) : State :=
  match s.upd.areaFor s.upd.running with
  | none => s
  | some n => eraseArea (1 - n) s

/-- Schedule Activation (R450, R454): the state and its status. [log 53: DEDUCED] -/
def scheduleOp (version : Nat) (s : State) : State × Nat :=
  let m := s.upd.marker
  if m.state ≠ .verified then (s, 3)
  else if version ≠ m.tver then (s, 0x11)
  else if s.brl.role = 1 && !s.groupVerified then (s, 0x11)
  else
    let c := match s.upd.slot m.tslot with
      | none => 2
      | some i => imageCode s false i
    if c ≠ 0 then (failUpdate 4 c (imageFailed c s), 0x11)
    else
      let s := setMarker (fun m => { m with state := .scheduled }) (eraseSpare s)
      (if s.brl.role = 1 then { s with brl := { s.brl with sent := [.sched false version] } } else s, 0)

/-- Cancel Activation (R450). -/
def cancelOp (s : State) : State × Nat :=
  let m := s.upd.marker
  if m.state = .scheduled then
    let s := setMarker (fun m => { m with state := .verified }) s
    (if s.brl.role = 1 && s.brl.whole then { s with brl := { s.brl with sent := [.sched true m.tver] } } else s, 0)
  else if m.state = .trial then (failUpdate 7 0x0D s, 0)
  else (s, 3)

/-- SCHEDULE_ACTIVATION (R450, 0xC161). -/
def execScheduleActivation (head : Head) (gen : BitVec 16) (version : Nat) (s : State) : Host.Outcome State Fault Refusal :=
  .next (guarded head 2 gen 0xC161 true (fun s =>
    let t := scheduleOp version s
    reply head 0xC161 t.2 .empty t.1) s)

/-- CANCEL_ACTIVATION (R450, 0xC162). -/
def execCancelActivation (head : Head) (gen : BitVec 16) (s : State) : Host.Outcome State Fault Refusal :=
  .next (guarded head 2 gen 0xC162 true (fun s =>
    let t := cancelOp s
    reply head 0xC162 t.2 .empty t.1) s)

/-- SCHEDULE (R450, R514, R517). -/
def execSchedule (tag version : Nat) (s : State) : Host.Outcome State Fault Refusal :=
  .next (rakeOp 0x33 tag 0x100 State.running (rakeCell 0x33 tag 2 (fun s =>
    let t := scheduleOp version s
    rakeReply 0x33 tag t.2 .empty t.1)) s)

/-- CANCEL (R450, R514, R517). -/
def execCancel (tag : Nat) (s : State) : Host.Outcome State Fault Refusal :=
  .next (rakeOp 0x34 tag 0x100 State.running (rakeCell 0x34 tag 2 (fun s =>
    let t := cancelOp s
    rakeReply 0x34 tag t.2 .empty t.1)) s)

/-- GET_UPDATE_STATUS (R278, R462, 0xC160). -/
def execGetUpdateStatus (head : Head) (s : State) : Host.Outcome State Fault Refusal :=
  .next (vendor head 0xC160 true (fun s => reply head 0xC160 0 (.words (updWords s)) s) s)

/-- UPDATE_STATUS (R514, R462). -/
def execUpdateStatus (tag : Nat) (s : State) : Host.Outcome State Fault Refusal :=
  .next (rakeOp 0x35 tag 0x100 State.rakeServes (fun s => rakeReply 0x35 tag 0 (.words (updWords s)) s) s)

/-! ### Layout staging (R280, R431) -/

/-- Bytes a head has staged so far; another head's progress is not its own. -/
def State.staged (s : State) (h : Head) : Nat := if s.lay.stagedHead = some h then s.lay.stagedBytes else 0

/-- GEN of the owner keys that layouts are verified under (R476): a transfer's new keys apply to them at the next start. -/
def State.layoutOwner (s : State) : Option Nat := if s.key.layoutGen.isSome then s.key.layoutGen else s.key.owner.map (·.gen)

/-- A staged layout verifies (R479, R485, R534): signatures, schema and every chapter's rules. -/
def State.layoutValid (s : State) (c : LayoutChunk) (l : Layout) : Bool :=
  c.sigOk && c.valid && s.layoutOwner = some l.signedBy &&
    (s.image.any fun i => i.layoutMajor == l.schema) && s.layoutRules l

/-- The end of a staging: its progress is dropped. -/
def endStaging (s : State) : State := { s with lay := { s.lay with stagedHead := none, stagedBytes := 0 } }

/-- FINAL (R280): verified, then committed for the next start. -/
def commitLayout (h : Head) (c : LayoutChunk) (commitOk : Bool) (s : State) : State :=
  let s := endStaging s
  match c.layout.filter (s.layoutValid c) with
  | none => reply h 0xC170 0xF .empty (verifyFail 2 s)
  | some l =>
    if commitOk then reply h 0xC170 0 (.words [0]) { s with lay := { s.lay with committed := some l } }
    else reply h 0xC170 0x10 .empty s

/-- STAGE_LAYOUT (R280, 0xC170): chunks in order; a LAYOUT copy holds 256 KiB (R404). [log 54: DEDUCED] -/
def execStageLayout (head : Head) (gen : BitVec 16) (chunk : LayoutChunk) (commitOk : Bool) (s : State) :
    Host.Outcome State Fault Refusal :=
  .next (guarded head 0 gen 0xC170 true (fun s =>
    let n := s.staged head + chunk.length
    if 16368 < chunk.length then violate head 6 (reply head 0xC170 0x12 .empty s)
    else if chunk.offset ≠ s.staged head || 262144 < n then reply head 0xC170 0x12 .empty s
    else if chunk.final then commitLayout head chunk commitOk s
    else reply head 0xC170 0 (.words [n]) { s with lay := { s.lay with stagedHead := some head, stagedBytes := n } }) s)

/-! ### Read Journal (R280, R396) -/

/-- TYPE and sequence number of a record; markers and words that are no records have none. [log 55: DESIGN CHOICE] -/
def JRec.key : JRec → Option (Nat × Nat)
  | .saveRec r _ => some (0x0101, r.saveSeq)
  | .salRec r => some (r.typ, r.seq)
  | .tallyRec r => some (0x0400, r.seq)
  | _ => none

/-- Bytes a record takes in an answer, with its signature block, the LMS signature in it or not (R148, R395, R470, R471). -/
def JRec.size : JRec → Nat
  | .saveRec _ lms => 512 + if lms then 1884 else 112
  | .salRec r => 256 + if r.signed then 1884 else 112
  | _ => 128

/-- Put a record into a list in sequence order. -/
def seqInsert (r : JRec) : List JRec → List JRec
  | [] => [r]
  | x :: t => if (r.key.map (·.2)).getD 0 < (x.key.map (·.2)).getD 0 then r :: x :: t else x :: seqInsert r t

/-- As many of the records as are asked for and fit, none split. -/
def fitRecs : Nat → Nat → List JRec → List JRec
  | 0, _, _ => []
  | _, _, [] => []
  | n + 1, room, r :: t => if r.size ≤ room then r :: fitRecs n (room - r.size) t else []

/-- The records Read Journal returns: of one type, from a sequence number on, Tally's by the low 32 bits (R395); a
Tally record at or below H stays back (R396). [log 55: DESIGN CHOICE] -/
def State.journalRead (s : State) (typ seq count : Nat) : List JRec :=
  let l := s.jrn.filter fun r => match r.key with
    | none => false
    | some (t, n) => t == typ && (match r with
        | .tallyRec r => seq ≤ r.seq % 2 ^ 32 && s.tly.cleared < r.seq
        | _ => seq ≤ n)
  fitRecs count 16380 (l.foldl (fun a r => seqInsert r a) [])

/-- READ_JOURNAL (R280, 0xC180). -/
def execReadJournal (head : Head) (typ seq count : Nat) (s : State) : Host.Outcome State Fault Refusal :=
  .next (vendor head 0xC180 true (fun s =>
    if count = 0 || 60 < count then violate head 6 (reply head 0xC180 0x12 .empty s)
    else reply head 0xC180 0 (.journal (s.journalRead typ seq count)) s) s)

/-- JOURNAL_READ (R514). -/
def execJournalRead (tag typ seq count : Nat) (s : State) : Host.Outcome State Fault Refusal :=
  .next (rakeOp 0x40 tag 0x201 State.running (fun s =>
    if count = 0 || 60 < count then rakeReply 0x40 tag 0x12 .empty s
    else rakeReply 0x40 tag 0 (.journal (s.journalRead typ seq count)) s) s)

/-! ### Nonces, factory reset, calibration, owners (R438, R439, R476, R478, R514) -/

/-- The kinds of GET_NONCE. -/
def nonceKind : Nat → Option NonceKind
  | 1 => some .seal | 2 => some .factory | 3 => some .calibration | 4 => some .transfer | _ => none

/-- GET_NONCE (R478, R514): an unknown kind is refused; with no generator the answer is BUSY. -/
def execGetNonce (tag kind : Nat) (s : State) : Host.Outcome State Fault Refusal :=
  .next (rakeOp 0x20 tag 0x100 State.running (fun s =>
    match nonceKind kind with
    | none => rakeReply 0x20 tag 0x11 .empty s
    | some k =>
      match makeNonce k .rake s with
      | (s, some n) => rakeReply 0x20 tag 0 (.nonce n) s
      | (s, none) => rakeReply 0x20 tag 4 .empty s) s)

/-- A token operation of the Rake Port (R478): its failures, else what it does with the nonce used. -/
def tokenOp (op tag : Nat) (k : NonceKind) (token : Token) (fieldsOk : Bool) (f : State → State) (s : State) : State :=
  let c := s.tokenStatus k .rake token fieldsOk
  if c ≠ 0 then rakeReply op tag c .empty (tokenFailed c s)
  else f (dropNonce k .rake s)

/-- The factory request word goes into the copy in force (R438); a device without one writes it first (R436). -/
def askFactory (s : State) : Option State :=
  let s := syncSettings s
  match s.upd.areaFor s.upd.running with
  | none => none
  | some n => (s.upd.areaCopy n).map fun c => appendCopy n 1 { c with factory := true } s

/-- FACTORY_RESET (R438, R514, R517). [log 56: DEDUCED] -/
def execFactoryReset (tag : Nat) (token : Token) (s : State) : Host.Outcome State Fault Refusal :=
  .next (rakeOp 0x23 tag 0x100 State.running (rakeCell 0x23 tag 0 (fun s =>
    if !s.upd.marker.state.open_ then rakeReply 0x23 tag 0x11 .empty s
    else tokenOp 0x23 tag .factory token true (fun s =>
      match askFactory s with
      | none => rakeReply 0x23 tag 0x10 .empty s
      | some s => rakeReply 0x23 tag 0 .empty s) s)) s)

/-- CALIBRATE (R439, R514, R517): both CALIB copies, the second first, erased and programmed, for the next start. -/
def execCalibrate (tag : Nat) (token : Token) (osc bg : List (Int × Nat)) (s : State) : Host.Outcome State Fault Refusal :=
  .next (rakeOp 0x24 tag 0x200 State.running (rakeCell 0x24 tag 0 (tokenOp 0x24 tag .calibration token token.digestOk (fun s =>
    let set : CalibSet := { gen := (max s.cel.calib0.gen s.cel.calib1.gen + 1) % 2 ^ 32, osc := osc, bg := bg }
    let s := [1446, 1447, 1444, 1445].foldl (fun s n => wearSector n s) s
    rakeReply 0x24 tag 0 (.words [set.gen]) { s with cel := { s.cel with calib0 := set, calib1 := set } }))) s)

/-- INSTALL_OWNER (R476, R514): on an unowned device only, with GEN 1. [log 56: DEDUCED] -/
def execInstallOwner (tag : Nat) (record : OwnerRec) (wellFormed : Bool) (s : State) : Host.Outcome State Fault Refusal :=
  .next (rakeOp 0x25 tag 0x100 State.running (fun s =>
    if s.key.owner.isSome then rakeReply 0x25 tag 0x11 .empty s
    else if !wellFormed then rakeReply 0x25 tag 0x11 .empty (verifyFail 4 s)
    else rakeReply 0x25 tag 0 (.words [1]) 
      (let s := appendKeys ownerWords s
       { s with key := { s.key with owner := some { record with gen := 1 } } })) s)

/-- TRANSFER_OWNER (R476, R514, R517): the new record with GEN + 1; tokens follow it at once, layouts at the next start. -/
def execTransferOwner (tag : Nat) (token : Token) (record : OwnerRec) (s : State) : Host.Outcome State Fault Refusal :=
  .next (rakeOp 0x26 tag 0x200 State.running (rakeCell 0x26 tag 0 (tokenOp 0x26 tag .transfer token token.digestOk (fun s =>
    let gen := ((s.key.owner.map fun o => o.gen).getD 0 + 1) % 2 ^ 32
    let s := appendKeys ownerWords s
    rakeReply 0x26 tag 0 (.words [gen])
      { s with key := { s.key with owner := some { record with gen := gen }, layoutGen := s.layoutOwner } }))) s)

end Sys2Proof.Machine
end

