-- ==== Sys2Proof/Machine/Cxl.lean ====
section
/-!
DEFINITION. The CXL-defined mailbox commands (R254, R259, R261, R282, R283, R285), poison (R186, R187), commands that are unknown or malformed
(R279, R282, R287), and CDAT. CXL numbers its opcodes, return codes, log and health encodings; the manual takes them from CXL 3.1.
-/
namespace Sys2Proof.Machine

/-! ### Unknown and malformed commands -/

/-- Chapen's opcodes (R276). -/
def vendorOp (opcode : Nat) : Bool := 0xC100 ≤ opcode && opcode ≤ 0xC1FF

/-- UNSUPPORTED_COMMAND (R279, R282): VERSION for a Chapen opcode. -/
def execUnsupportedCommand (head : Head) (opcode : Nat) (s : State) : Host.Outcome State Fault Refusal :=
  .next (cxlCmd head (fun s =>
    if vendorOp opcode then reply head opcode 0xE .empty s else replyCxl head opcode 3 .empty s) s)

/-- A malformed command (R287): BAD_LENGTH, or CXL's Invalid Payload Length, and a violation of kind 6. -/
def malformed (h : Head) (opcode : Nat) (s : State) : State :=
  violate h 6 (if vendorOp opcode then reply h opcode 0x12 .empty s else replyCxl h opcode 0x16 .empty s)

/-- MALFORMED_MAILBOX_COMMAND (R286, R287). -/
def execMalformedMailboxCommand (head : Head) (opcode : Nat) (s : State) : Host.Outcome State Fault Refusal :=
  .next (cxlCmd head (malformed head opcode) s)

/-! ### Events (R285) -/

/-- GET_EVENT_RECORDS: the log's records, oldest first, with its overflow fields. -/
def execGetEventRecords (head : Head) (log : EvLog) (s : State) : Host.Outcome State Fault Refusal :=
  .next (cxlCmd head (fun s =>
    let l := (s.heads.get head).log log
    replyCxl head 0x0100 0 (.events l.overflow l.firstStamp l.lastStamp l.recs) s) s)

/-- A log with some of its records cleared; freeing room ends the overflow. [log 41: DEDUCED] -/
def logClear (keep : EvRec → Bool) (l : EvLogState) : EvLogState :=
  let r := l.recs.filter keep
  if r.length < l.recs.length then { recs := r } else l

/-- CLEAR_EVENT_RECORDS: all records, or those named; a handle the log does not hold is Invalid Handle and clears nothing. -/
def execClearEventRecords (head : Head) (log : EvLog) (handles : Option (List Nat)) (s : State) : Host.Outcome State Fault Refusal :=
  .next (cxlCmd head (fun s =>
    let x := s.heads.get head
    let l := x.log log
    match handles with
    | none => replyCxl head 0x0101 0 .empty { s with heads := s.heads.set head (x.setLog log (logClear (fun _ => false) l)) }
    | some hs =>
      if hs.all fun n => l.recs.any fun r => r.handle == n then
        replyCxl head 0x0101 0 .empty
          { s with heads := s.heads.set head (x.setLog log (logClear (fun r => !hs.contains r.handle) l)) }
      else replyCxl head 0x0101 0xE .empty s) s)

/-- GET_EVENT_INTERRUPT_POLICY: one byte for each log. -/
def execGetEventInterruptPolicy (head : Head) (s : State) : Host.Outcome State Fault Refusal :=
  .next (cxlCmd head (fun s => replyCxl head 0x0102 0 (.bytes (s.heads.get head).evPolicy) s) s)

/-- SET_EVENT_INTERRUPT_POLICY: one byte for each of the five logs. -/
def execSetEventInterruptPolicy (head : Head) (policy : List Nat) (s : State) : Host.Outcome State Fault Refusal :=
  .next (cxlCmd head (fun s =>
    if policy.length ≠ 5 then malformed head 0x0103 s
    else
      let x := s.heads.get head
      replyCxl head 0x0103 0 .empty { s with heads := s.heads.set head { x with evPolicy := policy.map (· % 256) } }) s)

/-! ### Firmware, timestamp, logs, identity -/

/-- GET_FW_INFO (R282): two slots, the one that runs (1 or 2), and the version of each. -/
def execGetFwInfo (head : Head) (s : State) : Host.Outcome State Fault Refusal :=
  .next (cxlCmd head (fun s =>
    let v := fun (b : Bool) => ((s.upd.slot b).map fun i => i.version).getD 0
    replyCxl head 0x0200 0 (.pairs [(2, b2n s.upd.running + 1), (1, v false), (2, v true)]) s) s)

/-- GET_TIMESTAMP (R285), ns. -/
def execGetTimestamp (head : Head) (s : State) : Host.Outcome State Fault Refusal :=
  .next (cxlCmd head (fun s =>
    let t := s.stamp head
    replyCxl head 0x0300 0 (.words [t % 2 ^ 32, t / 2 ^ 32]) s) s)

/-- SET_TIMESTAMP (R285). -/
def execSetTimestamp (head : Head) (value : Nat) (s : State) : Host.Outcome State Fault Refusal :=
  .next (cxlCmd head (fun s =>
    let x := s.heads.get head
    replyCxl head 0x0301 0 .empty { s with heads := s.heads.set head { x with stampBase := some (value % 2 ^ 64, s.dev.aonUs) } }) s)

/-- The mailbox commands a head supports (R278, R282), by opcode. [log 40: PRESUMED] -/
def mailboxOps : List Nat :=
  [0x0100, 0x0101, 0x0102, 0x0103, 0x0200, 0x0300, 0x0301, 0x0400, 0x0401, 0x4000, 0x4200, 0x4201, 0x4202, 0x4204, 0x4300, 0x4301, 0x4302,
   0x4800, 0x4801, 0x4802, 0x4803] ++
  [0xC100, 0xC101, 0xC110, 0xC111, 0xC112, 0xC120, 0xC121, 0xC130, 0xC131, 0xC132, 0xC140, 0xC141, 0xC142, 0xC150, 0xC151, 0xC160, 0xC161,
   0xC162, 0xC170, 0xC180]

/-- The Command Effects Log: opcode and effects word of each command. -/
def effectsLog : List Nat :=
  mailboxOps.flatMap fun o => let e := (Config.effects o).toNat; [o % 256, o / 256, e % 256, e / 256]

/-- GET_SUPPORTED_LOGS: one log, by its number here, and its size. -/
def execGetSupportedLogs (head : Head) (s : State) : Host.Outcome State Fault Refusal :=
  .next (cxlCmd head (fun s => replyCxl head 0x0400 0 (.pairs [(0, 4 * mailboxOps.length)]) s) s)

/-- GET_LOG: bytes of the Command Effects Log; a range beyond it is Invalid Input. -/
def execGetLog (head : Head) (offset length : Nat) (s : State) : Host.Outcome State Fault Refusal :=
  .next (cxlCmd head (fun s =>
    if 4 * mailboxOps.length < offset + length then replyCxl head 0x0401 2 .empty s
    else replyCxl head 0x0401 0 (.bytes ((effectsLog.drop offset).take length)) s) s)

/-- IDENTIFY_MEMORY_DEVICE (R261): Dynamic Capacity in GiB; no static volatile and no static persistent capacity. -/
def execIdentifyMemoryDevice (head : Head) (s : State) : Host.Outcome State Fault Refusal :=
  .next (cxlCmd head (fun s => replyCxl head 0x4000 0 (.words [s.panCount, 0, 0]) s) s)

/-! ### Health (R283) -/

/-- Health Status: bit 0 maintenance needed, bit 2 replacement needed. [log 40: PRESUMED] -/
def State.healthStatus (s : State) : Nat := if s.bed.health = 1 then 1 else if s.bed.health = 2 then 4 else 0

/-- Media Status: 0 Normal, 1 Not Ready, 2 Write Persistency Lost. [log 40: PRESUMED] -/
def State.mediaStatus (s : State) : Nat :=
  if s.gov.accessHeld || s.fld.unlockWait then 1 else if s.dev.st = .armed then 0 else 2

/-- Percent of W_LIFE used. -/
def State.lifeUsed (s : State) : Nat := percent (s.drn.wUsed / 2 ^ 30) s.govParams.wLife

/-- Hottest on-die sensor, whole degrees, as a 16-bit number. -/
def State.dieTemp (s : State) : Nat :=
  let l := (s.thmReads.filter fun e => e.1 < 12).map fun e => e.2
  match l with
  | [] => 0
  | t :: r => ((r.foldl max t) / 16 % 65536).toNat

/-- GET_HEALTH_INFO (R283): Health Status, Media Status, life used, temperature, Dirty Shutdown Count, corrected errors. -/
def execGetHealthInfo (head : Head) (s : State) : Host.Outcome State Fault Refusal :=
  .next (cxlCmd head (fun s =>
    replyCxl head 0x4200 0 (.words [s.healthStatus, s.mediaStatus, s.lifeUsed, s.dieTemp, s.gov.dsc, s.dmc.hostCe]) s) s)

/-- GET_ALERT_CONFIGURATION. -/
def execGetAlertConfiguration (head : Head) (s : State) : Host.Outcome State Fault Refusal :=
  .next (cxlCmd head (fun s => replyCxl head 0x4201 0 (.words (s.heads.get head).alertCfg) s) s)

/-- SET_ALERT_CONFIGURATION. -/
def execSetAlertConfiguration (head : Head) (cfg : List Nat) (s : State) : Host.Outcome State Fault Refusal :=
  .next (cxlCmd head (fun s =>
    let x := s.heads.get head
    replyCxl head 0x4202 0 .empty { s with heads := s.heads.set head { x with alertCfg := cfg } }) s)

/-- SET_SHUTDOWN_STATE: 0 clean or 1 dirty; another value is Invalid Input. -/
def execSetShutdownState (head : Head) (state : Nat) (s : State) : Host.Outcome State Fault Refusal :=
  .next (cxlCmd head (fun s =>
    if 1 < state then replyCxl head 0x4204 2 .empty s
    else
      let x := s.heads.get head
      replyCxl head 0x4204 0 .empty { s with heads := s.heads.set head { x with shutdownState := state } }) s)

/-! ### Poison (R186, R187, R282) -/

/-- GET_POISON_LIST (R187): the listed ranges that meet the one asked for, as byte addresses and lengths, with the overflow's time. -/
def execGetPoisonList (head : Head) (dpa length : Nat) (s : State) : Host.Outcome State Fault Refusal :=
  .next (cxlCmd head (fun s =>
    let l := ((s.poisonRanges head).take 4096).map fun r => (r.1 * granuleBytes, r.2 * granuleBytes)
    replyCxl head 0x4300 0
      (.poison (s.heads.get head).poisonOverflow (l.filter fun r => r.1 < dpa + length && dpa < r.1 + r.2)) s) s)

/-- INJECT_POISON (R282): the granule is set lost, restored as it is, and marked; Invalid Input without write access. -/
def execInjectPoison (head : Head) (dpa : Nat) (s : State) : Host.Outcome State Fault Refusal :=
  .next (cxlCmd head (fun s =>
    if s.access head (dpa / 2 ^ 30) ≠ .write then replyCxl head 0x4301 2 .empty s
    else
      let g := dpa / granuleBytes
      replyCxl head 0x4301 0 .empty (restoreEnd (mapOp (.mark g) (setRestored g (setLost g s))))) s)

/-- CLEAR_POISON (R186, R282): 64 bytes for one line; Invalid Input without write access. On a granule not yet restored the line waits for it
as a write does (R179). [log 72: DEDUCED] -/
def execClearPoison (head : Head) (dpa : Nat) (data : List Byte) (s : State) : Host.Outcome State Fault Refusal :=
  .next (cxlCmd head (fun s =>
    if data.length ≠ 64 then malformed head 0x4302 s
    else if s.access head (dpa / 2 ^ 30) ≠ .write then replyCxl head 0x4302 2 .empty s
    else if s.restoredBit (dpa / granuleBytes) then replyCxl head 0x4302 0 .empty (clearPoison head (dpa / 64) data s)
    else fetchJoin { head := head, isWrite := true, dpa := dpa / 64 * 64, data := data, poison := false, tag := 0, mbox := true } s) s)

/-! ### Dynamic Capacity (R258, R259) -/

/-- GET_DYNAMIC_CAPACITY_CONFIGURATION (R258): one region, from DPA 0, its length in GiB, its block size. -/
def execGetDynamicCapacityConfiguration (head : Head) (s : State) : Host.Outcome State Fault Refusal :=
  .next (cxlCmd head (fun s => replyCxl head 0x4800 0 (.words [1, 0, s.panCount, 2 ^ 30]) s) s)

/-- A head's extents (R259): the pans whose state grants it access, each with its generation. -/
def State.extents (s : State) (h : Head) : List (Nat × Nat) :=
  ((List.range s.panCount).filter fun n => decide ((s.pan n).state.grants h ≠ .none)).map fun n => (n, (s.pan n).gen)

/-- GET_DYNAMIC_CAPACITY_EXTENT_LIST (R259): from an extent on; a start beyond the list is Invalid Input. -/
def execGetDynamicCapacityExtentList (head : Head) (first count : Nat) (s : State) : Host.Outcome State Fault Refusal :=
  .next (cxlCmd head (fun s =>
    let l := s.extents head
    if l.length < first then replyCxl head 0x4801 2 .empty s
    else replyCxl head 0x4801 0 (.pairs ((l.drop first).take count)) s) s)

/-- CDAT_TABLE_ACCESS (R254): the table's content is CXL's and no rule states it. -/
def execCdatTableAccess (head : Head) (s : State) : Host.Outcome State Fault Refusal :=
  if (s.heads.get head).up then
    .next { s with
      replies := { s.replies with doe := s.replies.doe.set head (some (.cdat [(Config.answer s.free).toNat])) }
      free := s.free + 1 }
  else .next s

end Sys2Proof.Machine
end

