-- ==== Sys2Proof/Machine/Sanitize.lean ====
section
/-!
DEFINITION. The unlock secret (R189, R190, R244 to R246) and sanitize while the device runs or waits for UNLOCK (R247, R248, R252).
-/
namespace Sys2Proof.Machine

/-! ### UNLOCK and the unlock secret -/

/-- A wrong secret (R190). -/
def secretFail (s : State) : State := { s with fld := { s.fld with unlockFails := s.fld.unlockFails + 1 } }

/-- The blob in force opens under an unlock secret (R244). -/
def State.opensWith (s : State) (secret : BitVec 256) : Bool := s.pip.blobs.head?.any fun b => b.opens s.key (unlockU secret)

/-- UNLOCK (R189, R190, R244, R245, 0xC140). [log 35: DEDUCED] -/
def execUnlockDevice (head : Head) (gen : BitVec 16) (secret : BitVec 256) (s : State) : Host.Outcome State Fault Refusal :=
  .next (guarded head 4 gen 0xC140 false (fun s =>
    if !s.pip.secretSet || s.pip.keyLoaded then reply head 0xC140 3 .empty s
    else if s.pip.sanStep ≠ 0 then reply head 0xC140 4 .empty s
    else if 8 ≤ s.fld.unlockFails then reply head 0xC140 0xA .empty s
    else if !s.opensWith secret then reply head 0xC140 9 .empty (secretFail s)
    else
      let s := loadBlob { s with fld := { s.fld with unlockDone := true, unlockFails := 0 } }
      reply head 0xC140 0 .empty (if s.running then pdomSync (openAccess s) else s)) s)

/-- A new blob pair with WRAP + 1 in place of the older pair (R246). -/
def rewrap (secret : Option (BitVec 256)) (s : State) : State :=
  match s.pip.blobs with
  | [] => s
  | b :: _ =>
    let wrap := (b.wrap + 1) % 2 ^ 32
    let u := match secret with | none => 0 | some x => unlockU x
    let s := appendKeys blobWords s
    { s with pip := { s.pip with blobs := [{ b with wrap := wrap, secret := secret.isSome, u := u }], wrap := wrap, secretSet := secret.isSome } }

/-- SET_UNLOCK_SECRET (R246, R280, 0xC141): a new secret is set, the current one changed for it, or removed; a change and a
removal require the current secret; `commitOk` is false where the new pair does not
read back. [log 35: DEDUCED] -/
def execSetUnlockSecret (head : Head) (gen : BitVec 16) (current new : Option (BitVec 256)) (commitOk : Bool) (s : State) :
    Host.Outcome State Fault Refusal :=
  .next (guarded head 4 gen 0xC141 true (fun s =>
    if !s.pip.keyLoaded || s.pip.blobs = [] then reply head 0xC141 0xB .empty s
    else if s.pip.sanStep ≠ 0 then reply head 0xC141 4 .empty s
    else if current.isNone = s.pip.secretSet then reply head 0xC141 3 .empty s
    else if current.any fun c => !s.opensWith c then reply head 0xC141 9 .empty (secretFail s)
    else if !commitOk then reply head 0xC141 0x10 .empty s
    else
      let s := rewrap new s
      reply head 0xC141 0 (.words [s.pip.wrap]) s) s)

/-! ### Sanitize (R247) -/

/-- The background status of a sanitize (R280): step as a percentage. -/
def sanProgress (step : Nat) (s : State) : State :=
  match s.pip.sanHead with
  | none => s
  | some h =>
    let x := s.heads.get h
    { s with heads := s.heads.set h { x with bg := { opcode := 0xC142, percent := step * 100 / 6, code := 0, running := step < 6 } } }

/-- A request that waits at the restore gate when access is taken away is answered as held access is (R35), and is no violation. -/
def answerHeld (s : State) (q : HostReq) : State :=
  if q.mbox then replyCxl q.head 0x4302 6 .empty s
  else if q.isWrite then memAnswer q.head (.done q.tag) s
  else memAnswer q.head (.poison q.tag) s

/-- S1: the drain pauses, restore, fetches and raking stop, access is held on both heads. -/
def sanFirst (s : State) : State :=
  let s := pauseDrain (commitPostedNow none s)
  let wait := (s.fld.fetches.flatMap fun f => f.waiting) ++ s.fld.admission
  let s := { s with fld := { s.fld with fetches := [], admission := [] }, gov := { s.gov with accessHeld := true } }
  pdomSync (wait.foldl answerHeld s)

/-- SANITIZE (R247, R280, 0xC142): a background command from here on. [log 36: DEDUCED] -/
def execSanitize (head : Head) (gen : BitVec 16) (confirmation : Nat) (s : State) : Host.Outcome State Fault Refusal :=
  .next (guarded head 4 gen 0xC142 false (fun s =>
    if confirmation ≠ 0x53414E49 then reply head 0xC142 0x11 .empty s
    else if s.pip.sanStep ≠ 0 then reply head 0xC142 4 .empty s
    else
      let s := sanFirst (clearAnswers s)
      let s := { s with
        pip := { s.pip with sanStep := 1, sanUnlocked := s.pip.keyLoaded, sanHead := some head }
        replies := { s.replies with
          mbox := s.replies.mbox.set head (some { opcode := 0xC142, code := 1, status := some 0, payload := .empty }) } }
      sanProgress 1 s) s)

/-- S2: the sanitize-start word, and the key registers cleared. -/
def sanErase (s : State) : State :=
  let s := appendKeys 1 s
  sanProgress 2 { s with key := { s.key with sanOpen := true }, pip := { s.pip with keyLoaded := false, kx := 0, km := 0, sanStep := 3 } }

/-- S5: the map reset; granules and pages on the way go with it. -/
def sanReset (s : State) : State := sanProgress 5 (resetMap { s with bed := { s.bed with staged := [] } })

/-- S6: sanitize-end and store-initialisation words, the drain resumes, the zero stream starts, access as under R34 to R37. LAST_PAUSE_END
then reads 1, as for a RESUME, since no code is stated for it. [log 27: DEDUCED] -/
def sanEnd (s : State) : State :=
  let s := s.journal (.storeInit s.geometry)
  let s := endPause 1 (appendKeys 1 s)
  let s := { s with
    key := { s.key with sanOpen := false }
    fld := { s.fld with restoring := s.running, step := if s.running then 6 else s.fld.step }
    pip := { s.pip with sanStep := 0, sanCount := satAdd 16 s.pip.sanCount 1 } }
  let s := sanProgress 6 s
  let s := { s with pip := { s.pip with sanUnlocked := false, sanHead := none } }
  let s := if s.dev.st = .armed || s.gov.released then releaseAccess s else if s.running then openAccess s else s
  restoreEnd (pdomSync s)

/-- CRYPTO_ERASE (R124, R247): S2 to S6 of an accepted sanitize, once the drain is QUIESCED. `interrupted` says that it stops after S2, by a save trigger or a stop that
follows; given again, it goes on from S3. With a failed generator it waits at S4, and the next start completes it (R483).
[log 36: DEDUCED] -/
def execCryptoErase (interrupted : Bool) (s : State) : Host.Outcome State Fault Refusal :=
  if s.pip.sanStep = 0 || s.map.inflight ≠ [] || !(s.running || (s.dev.st = .reflood && s.fld.unlockWait)) then .next s
  else
    let s := if s.pip.sanStep ≤ 2 then sanErase s else s
    if interrupted || s.pip.sanStep = 4 then .next s
    else if !s.key.rbgOk then .next (sanProgress 4 { s with pip := { s.pip with sanStep := 4 } })
    else .next (sanEnd (sanReset (sanProgress 4 (replaceKeys s))))

end Sys2Proof.Machine
end

