-- ==== Sys2Proof/Machine/Spdm.lean ====
section
/-!
DEFINITION. Attestation: each head's SPDM responder (R480, R481, R483). SPDM numbers its requests and orders them; what a response carries
beyond what R481 states is the standard's, and free here.
-/
namespace Sys2Proof.Machine

/-- A head's responder answers while its link is up. [log 57: PRESUMED] -/
def spdmDo (h : Head) (k : Spdm → State → State) (s : State) : State := if (s.heads.get h).up then k (s.key.spdm.get h) s else s

/-- An answer in the head's DOE mailbox. [log 57: PRESUMED] -/
def spdmSay (h : Head) (req : Nat) (ok : Bool) (p : Payload) (s : State) : State :=
  { s with replies := { s.replies with doe := s.replies.doe.set h (some (.spdm req ok p)) } }

/-- An SPDM error. -/
def spdmError (h : Head) (req : Nat) (s : State) : State := spdmSay h req false .empty s

/-- An answer whose bytes no rule states. -/
def spdmFree (h : Head) (req : Nat) (s : State) : State :=
  let p := Payload.blob (Config.answer s.free)
  spdmSay h req true p { s with free := s.free + 1 }

/-- Change a head's responder. -/
def spdmSet (h : Head) (v : Spdm) (s : State) : State := { s with key := { s.key with spdm := s.key.spdm.set h v } }

/-- A request that follows ALGORITHMS and needs the certificate chain (R483). -/
def spdmAttest (h : Head) (req : Nat) (k : Spdm → State → State) (s : State) : State :=
  spdmDo h (fun x s => if x.algorithms && s.key.certOk then k x s else spdmError h req s) s

/-- A response of many bytes: whole, or through CHUNK_GET where it is large. -/
def spdmBytes (h : Head) (req : Nat) (large : Bool) (bs : List Nat) (s : State) : State :=
  if large then spdmSet h { s.key.spdm.get h with chunkOut := bs } (spdmSay h req false (.words [0x0F]) s)
  else spdmSay h req true (.bytes bs) s

/-- GET_VERSION: SPDM 1.3; the connection starts anew. -/
def execGetVersion (head : Head) (s : State) : Host.Outcome State Fault Refusal :=
  .next (spdmDo head (fun x s =>
    spdmSay head 0x84 true (.bytes [0x13]) (spdmSet head { version := true, ideKeys := x.ideKeys, keyGen := x.keyGen } s)) s)

/-- GET_CAPABILITIES. -/
def execGetCapabilities (head : Head) (s : State) : Host.Outcome State Fault Refusal :=
  .next (spdmDo head (fun x s =>
    if x.version then spdmFree head 0xE1 (spdmSet head { x with capabilities := true } s) else spdmError head 0xE1 s) s)

/-- NEGOTIATE_ALGORITHMS (R480): `common` says that the requester offers ECDSA P-384, SHA-384, secp384r1 and AES-256-GCM. -/
def execNegotiateAlgorithms (head : Head) (common : Bool) (s : State) : Host.Outcome State Fault Refusal :=
  .next (spdmDo head (fun x s =>
    if x.capabilities && common then spdmFree head 0xE3 (spdmSet head { x with algorithms := true } s)
    else spdmError head 0xE3 s) s)

/-- GET_DIGESTS: the digest of slot 0's chain. -/
def execGetDigests (head : Head) (s : State) : Host.Outcome State Fault Refusal :=
  .next (spdmAttest head 0x81 (fun _ s => spdmSay head 0x81 true (.blob (Config.chainDigest.setWidth 512)) s) s)

/-- GET_CERTIFICATE (R466, R480, R483): a part of slot 0's chain; an SPDM error for another slot or with no valid copy. -/
def execGetCertificate (head : Head) (slot offset length : Nat) (large : Bool) (s : State) : Host.Outcome State Fault Refusal :=
  .next (spdmAttest head 0x82 (fun _ s =>
    if slot ≠ 0 then spdmError head 0x82 s
    else
      let n := min length (min 16380 Config.chainLength - offset)
      spdmBytes head 0x82 large ((List.range n).map fun k => (Config.chainByte (offset + k)).toNat) s) s)

/-- CHALLENGE: an ECDSA signature, no LMS leaf. -/
def execChallenge (head : Head) (s : State) : Host.Outcome State Fault Refusal :=
  .next (spdmAttest head 0x83 (fun _ s => spdmFree head 0x83 (signEcdsa s)) s)

/-- The calibration digest of the latest seal close, or 0 (R481). -/
def State.closeDigest (s : State) : Nat :=
  s.jrn.foldl (fun d r => match r with | .salRec x => if x.typ = 5 then x.digest.toNat else d | _ => d) 0

/-- The measurement blocks (R481). [log 58: DEDUCED] -/
def State.measurements (s : State) : List (Nat × Nat) :=
  [ (1, Config.romDigest.toNat), (2, (Config.imageDigest s.upd.runVer s.upd.runSvn).toNat),
    (3, s.upd.runVer + s.upd.runSvn * 2 ^ 64 + s.key.antiRollback * 2 ^ 72), (4, s.layoutDigest.toNat),
    (5, (s.key.owner.map fun o => o.digest.toNat).getD 0), (6, s.closeDigest) ]

/-- GET_MEASUREMENTS (R481): index 0 the number of blocks, 1 to 6 one block, 255 all of them. -/
def execGetMeasurements (head : Head) (index : Nat) (sign large : Bool) (s : State) : Host.Outcome State Fault Refusal :=
  .next (spdmDo head (fun x s =>
    let l := if index = 255 then s.measurements else s.measurements.filter fun e => e.1 == index
    if !x.algorithms || (sign && !s.key.certOk) || (l = [] && index ≠ 0) then spdmError head 0xE0 s
    else
      let s := if sign then signEcdsa s else s
      if index = 0 then spdmSay head 0xE0 true (.words [6]) s
      else if large then spdmBytes head 0xE0 true (l.flatMap fun e => e.1 :: (List.range 48).map fun k => e.2 / 256 ^ (47 - k) % 256) s
      else spdmSay head 0xE0 true (.pairs l) s) s)

/-- KEY_EXCHANGE: a session begins; each head has one of its own. -/
def execKeyExchange (head : Head) (s : State) : Host.Outcome State Fault Refusal :=
  .next (spdmAttest head 0xE4 (fun x s =>
    if x.session = 2 then spdmError head 0xE4 s
    else
      let id := (Config.number s.free)
      spdmFree head 0xE4 (signEcdsa (spdmSet head { x with session := 1, sessionId := id } { s with free := s.free + 1 }))) s)

/-- FINISH: the session is established where its verification passes, else it ends. -/
def execSpdmFinish (head : Head) (verified : Bool) (s : State) : Host.Outcome State Fault Refusal :=
  .next (spdmDo head (fun x s =>
    if x.session ≠ 1 then spdmError head 0xE5 s
    else if verified then spdmSay head 0xE5 true .empty (spdmSet head { x with session := 2, heartbeats := 0 } s)
    else spdmError head 0xE5 (spdmSet head { x with session := 0 } s)) s)

/-- A request inside an established session. -/
def spdmIn (h : Head) (req : Nat) (k : Spdm → State → State) (s : State) : State :=
  spdmDo h (fun x s => if x.session = 2 then k x s else spdmError h req s) s

/-- HEARTBEAT. -/
def execHeartbeat (head : Head) (s : State) : Host.Outcome State Fault Refusal :=
  .next (spdmIn head 0xE8 (fun x s => spdmSay head 0xE8 true .empty (spdmSet head { x with heartbeats := x.heartbeats + 1 } s)) s)

/-- KEY_UPDATE. -/
def execKeyUpdate (head : Head) (s : State) : Host.Outcome State Fault Refusal :=
  .next (spdmIn head 0xE9 (fun x s => spdmSay head 0xE9 true .empty (spdmSet head { x with keyGen := x.keyGen + 1 } s)) s)

/-- END_SESSION. -/
def execEndSession (head : Head) (s : State) : Host.Outcome State Fault Refusal :=
  .next (spdmIn head 0xEC (fun x s => spdmSay head 0xEC true .empty (spdmSet head { x with session := 0 } s)) s)

/-- CHUNK_SEND: chunks gather until the last; the request they spell is then taken as that request. -/
def execChunkSend (head : Head) (chunk : List Nat) (last : Bool) (s : State) : Host.Outcome State Fault Refusal :=
  .next (spdmDo head (fun x s =>
    if !x.capabilities then spdmError head 0x85 s
    else spdmSay head 0x85 true .empty (spdmSet head { x with chunkIn := if last then [] else x.chunkIn ++ chunk } s)) s)

/-- CHUNK_GET: the next bytes of a large response. -/
def execChunkGet (head : Head) (length : Nat) (s : State) : Host.Outcome State Fault Refusal :=
  .next (spdmDo head (fun x s =>
    if x.chunkOut = [] || length = 0 then spdmError head 0x86 s
    else spdmSay head 0x86 true (.bytes (x.chunkOut.take length)) (spdmSet head { x with chunkOut := x.chunkOut.drop length } s)) s)

/-- IDE_KEY_MANAGEMENT (R254, R480): keys set inside a session; IDE runs in containment mode on the link. -/
def execIdeKeyManagement (head : Head) (s : State) : Host.Outcome State Fault Refusal :=
  .next (spdmIn head 0xFE (fun x s =>
    let y := s.heads.get head
    spdmSay head 0xFE true .empty
      { spdmSet head { x with ideKeys := true } s with heads := s.heads.set head { y with ide := true } }) s)

end Sys2Proof.Machine
end

