-- ==== Sys2Proof/Machine/Brine.lean ====
section
/-!
DEFINITION. The Brine Line (R485 to R507): ports, ring, group arming, lockstep save, group start and bundle staging, as one unit of the group
sees them.
-/
namespace Sys2Proof.Machine

/-- The unit is a master or a member, and its main domain runs. -/
def State.onRing (s : State) : Bool := s.alive && s.brl.role ≠ 0

/-- The cascade section as the Brine Line uses it: at B2 no layout is in force yet, and the committed one stands (R487, R503). -/
def State.cascadeCfg (s : State) : Option Cascade := ((s.lay.inForce.orElse fun _ => s.lay.committed)).bind fun l => l.cascade

def State.unitCount (s : State) : Nat := (s.cascadeCfg.map fun c => c.units).getD 0

/-- Change the state of a port. -/
def brlPortUpd (port1 : Bool) (f : BrlPort → BrlPort) (s : State) : State :=
  { s with brl := if port1 then { s.brl with port1 := f s.brl.port1 } else { s.brl with port0 := f s.brl.port0 } }

def State.brlPort (s : State) (port1 : Bool) : BrlPort := if port1 then s.brl.port1 else s.brl.port0

/-- Change what is known of a unit. -/
def unitUpd (u : Nat) (f : BrlUnit → BrlUnit) (s : State) : State :=
  { s with brl := { s.brl with units := tblUpd {} u f s.brl.units } }

/-- Send frames. -/
def brlSend (fs : List BrlFrame) (s : State) : State := { s with brl := { s.brl with sent := fs } }

/-! ### Frames (R491, R492) -/

/-- A frame's TYPE. -/
def BrlFrame.typ : BrlFrame → Nat
  | .idle => 0x00 | .hello => 0x01 | .join _ _ _ => 0x02 | .status _ _ _ _ _ => 0x10 | .arm _ _ _ _ _ _ => 0x11 | .trig _ => 0x20
  | .go _ _ _ => 0x21 | .share _ _ _ => 0x22 | .marker _ _ _ => 0x30 | .start _ => 0x31 | .sched _ _ => 0x32 | .stage _ _ _ => 0x40
  | .stageAck _ _ => 0x41

/-- Its DST: every unit, one unit, or the master. Neighbours' frames name none. [log 59: DEDUCED] -/
def BrlFrame.dst : BrlFrame → Nat
  | .status _ _ _ _ _ | .trig _ | .marker _ _ _ | .stageAck _ _ => 0
  | .share u _ _ => u
  | _ => 0xFF

/-- EVENT or SEQ, as the type requires. -/
def BrlFrame.eventSeq : BrlFrame → Nat
  | .go _ _ e => e | .share _ _ e => e | .stage _ q _ => q
  | _ => 0

/-- A frame's payload; `data` are the bytes of a STAGE frame, which the service tool gave. -/
def BrlFrame.payload (s : State) (data : List Nat) : BrlFrame → List Nat
  | .idle => []
  | .hello => [0, 1, s.brl.role, 0] ++ leBytes 4 ((s.cascadeCfg.map fun c => c.groupId).getD 0) ++ beBytes 48 s.key.identity.toNat
  | .join g n ds => padTo (8 * ceilDiv (3 + 48 * ds.length) 8) (leBytes 2 g.toNat ++ [n] ++ ds.flatMap fun d => beBytes 48 d.toNat)
  | .status st ok e q b => [st, ok, 0, 0] ++ leBytes 4 e ++ leBytes 4 (asU32 q) ++ leBytes 4 b
  | .arm a w u e q t => padTo 24 ([b2n a, b2n w] ++ leBytes 2 u ++ leBytes 4 e ++ leBytes 4 (asU32 q) ++ leBytes 4 t)
  | .trig c => [c, 0, 0, 0, 0, 0, 0, 0]
  | .go c o _ => [c, o, 0, 0, 0, 0, 0, 0]
  | .share _ e _ => leBytes 4 e ++ [0, 0, 0, 0]
  | .marker w p d => leBytes 16 w ++ [p, d, 0, 0, 0, 0, 0, 0]
  | .start l => padTo 8 (l.take 4)
  | .sched c v => [if c then 2 else 1, 0, 0, 0] ++ leBytes 4 v
  | .stage o _ _ => leBytes 4 o ++ [0, 0, 0, 0] ++ data
  | .stageAck b st => leBytes 4 b ++ [st, 0, 0, 0]

/-- The bytes of a frame this unit sends (R491): header, payload, CRC-32 over both, four zero bytes. IDLE and HELLO carry no GEN (R494). -/
def BrlFrame.bytes (s : State) (data : List Nat) (f : BrlFrame) : List Nat :=
  let p := f.payload s data
  let gen := if f.typ ≤ 1 then 0 else s.brl.gen.toNat
  let b := [f.typ, b2n (f.dst = 0xFF && 1 < f.typ), s.brl.index, f.dst, 0, 0] ++ leBytes 2 gen ++ leBytes 4 f.eventSeq ++ leBytes 2 p.length ++ [0, 0] ++ p
  b ++ leBytes 4 (crc32 b) ++ [0, 0, 0, 0]

/-! ### Breaking the ring (R496, R497) -/

/-- The ring is found broken: each unit works alone, a staging is abandoned (R505); the first to find it raises 0xD1. -/
def ringBroken (first : Bool) (s : State) : State :=
  if s.brl.whole then
    let s := { s with brl := { s.brl with
      whole := false, joined := false, groupArmed := false, fallback := true, breaks := satAdd 8 s.brl.breaks 1
      stageState := if s.brl.stageState = 1 then 3 else s.brl.stageState } }
    if first then fltRise 0xD1 0 s else s
  else s

/-- BRINE_PORT_TRAINED (R488, R490): HELLO goes out. -/
def execBrinePortTrained (port1 : Bool) (s : State) : Host.Outcome State Fault Refusal :=
  if s.onRing && !(s.brlPort port1).up then
    let s := brlPortUpd port1 (fun p => { p with up := true, mismatch := 0, hello := false }) s
    let s := brlSend [.hello] s
    .next (if (s.brlPort (!port1)).up then fltFall 0xD0 s else s)
  else .next s

/-- BRINE_PORT_DOWN (R489, R496). A unit told to wait for a handover waits for the group start that follows (R503). -/
def execBrinePortDown (port1 : Bool) (s : State) : Host.Outcome State Fault Refusal :=
  if s.onRing && (s.brlPort port1).up then
    let s := brlPortUpd port1 (fun p => { p with up := false, hello := false, downs := satAdd 16 p.downs 1 }) s
    let s := ringBroken true (fltRise 0xD0 (b2n port1) s)
    .next { s with brl := { s.brl with startCode := none } }
  else .next s

/-- IDLE (R489): a frame received is valid and carries nothing; one is sent when the port is silent. -/
def execIdleFrame (port1 sent : Bool) (s : State) : Host.Outcome State Fault Refusal :=
  .next (if s.onRing && (s.brlPort port1).up && sent then brlSend [.idle] s else s)

/-- DISCARDED_FRAME (R492). -/
def execDiscardedFrame (port1 : Bool) (s : State) : Host.Outcome State Fault Refusal :=
  .next (if s.onRing then brlPortUpd port1 (fun p => { p with crcErrors := satAdd 13 p.crcErrors 1 }) s else s)

/-- BRINE_HELLO (R490): Brine Line 1 with the higher minor both support; this device supports 1.0. The neighbour's identity digest is held. -/
def execBrineHello (port1 : Bool) (major minor groupId : Nat) (peer : HelloPeer) (s : State) : Host.Outcome State Fault Refusal :=
  if s.onRing && (s.brlPort port1).up then
    let own := (s.cascadeCfg.map fun c => c.groupId).getD 0
    let bad := if major ≠ 1 then 1 else if groupId ≠ own then 2 else 0
    let s := brlPortUpd port1 (fun p => { p with mismatch := bad, hello := bad = 0 && peer.role ≠ 0, identity := peer.identity }) s
    .next (if bad = 0 then { s with brl := { s.brl with minor := min minor 0 } } else s)
  else .next s

/-- STALE_FRAME (R494, R288): rejected, counted, the first in each second recorded; a frame of this unit's own GEN is not stale. -/
def execStaleFrame (frameGen : BitVec 16) (s : State) : Host.Outcome State Fault Refusal :=
  if s.onRing && frameGen ≠ s.brl.gen then
    let r := suppressNext s.aonS s.brl.suppress
    let s := { s with brl := { s.brl with stale := satAdd 8 s.brl.stale 1, suppress := r.1 } }
    match r.2 with
    | none => .next s
    | some n => .next (chapenEvent .info 0x05 0 0xFF 0 0 0 n (tlyTrigger 0x106 0 s))
  else .next s

/-! ### Forming the ring (R495) -/

/-- Both ports of the unit are up and match. -/
def State.portsOk (s : State) : Bool := s.brl.port0.up && s.brl.port1.up && s.brl.port0.hello && s.brl.port1.hello

/-- Identity digests in index order as the master's HELLOs report them (R486, R490, R492): its own, the next unit's from BL0, the last one's from
BL1. How it learns that of the unit two hops away no rule says: it is free. [log 59: DEDUCED] -/
def State.ringDigests (s : State) : List (BitVec 384) :=
  match s.unitCount with
  | 2 => [s.key.identity, s.brl.port0.identity]
  | 3 => [s.key.identity, s.brl.port0.identity, s.brl.port1.identity]
  | _ => [s.key.identity, s.brl.port0.identity, Config.digest s.free, s.brl.port1.identity]

/-- JOIN's digests agree with a unit's own and with those of its two neighbours, as HELLO reported them (R495). [log 59: DEDUCED] -/
def State.digestsAgree (s : State) (units index : Nat) (l : List (BitVec 384)) : Bool :=
  l.length = units && l[index]? = some s.key.identity && l[(index + 1) % units]? = some s.brl.port0.identity &&
    l[(index + units - 1) % units]? = some s.brl.port1.identity

/-- What this unit's MARKER says (R492, R503). -/
def State.ownMarker (s : State) : Nat × Nat × Bool × Nat :=
  (s.upd.marker.state.code, s.upd.marker.tver, s.pendingTest, s.dev.st.code)

/-- The ring is whole for a unit, under a GEN, with every unit's identity digest. -/
def ringWhole (gen : BitVec 16) (index : Nat) (digests : List (BitVec 384)) (s : State) : State :=
  fltFall 0xD1 { s with brl := { s.brl with
    whole := true, joined := true, fallback := false, groupArmed := false, gen := gen, index := index, armUs := s.dev.aonUs
    goSeen := none, startCode := none
    units := (List.range s.unitCount).foldl (fun t u => tblUpd {} u (fun x => { x with present := true, marker := none, identity := digests[u]?.getD 0 }) t) s.brl.units } }

/-- RING_WHOLE (R495): the master sends JOIN with GEN + 1. -/
def execRingWhole (s : State) : Host.Outcome State Fault Refusal :=
  if s.onRing && s.brl.role = 1 && s.portsOk && !s.brl.whole && s.unitCount ≠ 0 then
    let ds := s.ringDigests
    let s := ringWhole (s.brl.gen + 1) 0 ds s.draw
    .next (brlSend [.join s.brl.gen s.unitCount ds] (unitUpd 0 (fun x => { x with marker := some s.ownMarker }) s))
  else .next s

/-- JOIN (R495): refused where N or a digest differs from what HELLO reported; a member that adopts its GEN reports its MARKER (R503).
[log 59: DEDUCED] -/
def execJoinFrame (gen : BitVec 16) (units index : Nat) (digests : List (BitVec 384)) (s : State) : Host.Outcome State Fault Refusal :=
  if s.onRing && s.brl.role = 2 && s.portsOk && units = s.unitCount && 0 < index && index < units && s.digestsAgree units index digests then
    let s := ringWhole gen index digests s
    .next (brlSend [.marker s.upd.marker.word (b2n s.pendingTest) s.dev.st.code] s)
  else .next s

/-! ### Group arming (R498, R499) -/

/-- STATUS (R498, R499): in shared mode the unit's charge is drawn from the pack the master models. -/
def execStatusFrame (unit state : Nat) (localOk : Bool) (eNeed : Nat) (chargeUc : Int) (backlog : Nat) (s : State) :
    Host.Outcome State Fault Refusal :=
  if s.onRing && s.brl.role = 1 && s.brl.whole && 0 < unit && unit < s.unitCount then
    let s := unitUpd unit (fun u => { u with
      present := true, localOk := localOk, state := state % 16, eNeed := eNeed, chargeUc := chargeUc, backlog := backlog }) s
    .next (if s.sharedMode then { s with sal := { s.sal with soc := s.socAfter (4 * chargeUc) } } else s)
  else .next s

/-- ARM (R496, R498, R499): GROUP_OK follows it; RING_WHOLE = 0 breaks the ring. `chargeUc`, the group's charge, tells a member nothing it acts on. -/
def execArmFrame (armed whole : Bool) (unitBits eUse : Nat) (chargeUc : Int) (s : State) : Host.Outcome State Fault Refusal :=
  let _ := chargeUc
  if s.onRing && s.brl.role = 2 && s.brl.whole then
    if !whole then .next (ringBroken false s)
    else
      let f := fun (t : Tbl BrlUnit) (u : Nat) =>
        tblUpd {} u (fun x => { x with present := unitBits.testBit (2 * u), localOk := unitBits.testBit (2 * u + 1) }) t
      .next { s with brl := { s.brl with
        groupArmed := armed, eGroup := eUse, armUs := s.dev.aonUs, units := (List.range 4).foldl f s.brl.units } }
  else .next s

/-- ARM_TIMEOUT (R496): no ARM frame for 1 ms. -/
def execArmTimeout (s : State) : Host.Outcome State Fault Refusal :=
  .next (if s.onRing && s.brl.role = 2 then ringBroken true s else s)

/-- STATUS_TIMEOUT (R496): the master clears RING_WHOLE, and its ARM says so. -/
def execStatusTimeout (unit : Nat) (s : State) : Host.Outcome State Fault Refusal :=
  if s.onRing && s.brl.role = 1 && s.brl.whole && 0 < unit && unit < s.unitCount then
    let s := ringBroken true s
    .next (brlSend [.arm false false (unitBits s.brl.units) 0 0 (s.dev.aonUs / 250 % 2 ^ 32)] s)
  else .next s

/-! ### Lockstep save (R500 to R502) -/

/-- A group trigger starts this unit's save as trigger 4; with cause 5 it is planned (R502). -/
def groupSave (cause sinceNs : Nat) (s : State) : State :=
  let s := beginSave .go sinceNs s
  if cause = 5 then { s with hrv := { s.hrv with planned := true } } else s

/-- TRIG (R157, R501): the master sends GO and saves; one GO is sent for triggers that arrive together (R506). In a local save of its own, after a
thermal SHUT, it sends GO for the group, and the trigger is one more of its save (R128). -/
def execTrigFrame (unit cause : Nat) (s : State) : Host.Outcome State Fault Refusal :=
  if s.onRing && s.brl.role = 1 && s.brl.whole then
    if !s.saving then
      let s := sendGo cause unit s
      .next (if s.sal.holdArm && s.running then groupSave cause 0 s else s)
    else if !s.hrv.lockstep && !s.hrv.goSent then
      let s := sendGo cause unit { s with hrv := { s.hrv with goSent := true } }
      .next (laterTrigger .go ((s.dev.aonUs - s.hrv.t0Us) * 1000) s)
    else .next s
  else .next s

/-- GO (R500, R502): trigger 4 while HOLD_ARM is 1, else ignored and counted; absorbed within 5 µs of the unit's own H0, and always where the
unit itself is its origin; a copy of a GO acted on is discarded (R493). Not acted on while the ring is broken (R497).
[log 61: DEDUCED] -/
def execGoFrame (cause origin event sinceNs : Nat) (s : State) : Host.Outcome State Fault Refusal :=
  if s.onRing && s.brl.role = 2 && s.brl.whole && s.brl.goSeen ≠ some event then
    let s := { s with brl := { s.brl with event := event, goSeen := some event } }
    if s.saving then .next (laterTrigger .go (if origin = s.brl.index then 0 else sinceNs) s)
    else if s.sal.holdArm && s.running then .next (groupSave cause 0 s)
    else .next { s with brl := { s.brl with ignored := satAdd 8 s.brl.ignored 1 } }
  else .next s

/-- SHARE (R158, R497, R501): E_T of the save whose EVENT it names, in shared mode; not acted on once the ring is broken. -/
def execShareFrame (eT event : Nat) (s : State) : Host.Outcome State Fault Refusal :=
  if s.onRing && s.brl.whole && s.saving && s.hrv.awaitShare && s.brl.event = event then
    let s := setPoints { s with hrv := { s.hrv with eT := eT, awaitShare := false } }
    .next s
  else .next s

/-! ### Group start (R454, R503) -/

/-- START's code for each unit (R454, R503): activation and its handover only where every unit is SCHEDULED for the same image.
[log 60: DESIGN CHOICE] -/
def startCodes (ms : List (Nat × Nat × Bool × Nat)) : List Nat :=
  let v := (ms.head?.map fun m => m.2.1).getD 0
  if ms.all fun m => m.1 == 5 && m.2.1 == v then
    if ms.any fun m => m.2.2.1 then ms.map fun m => if m.2.2.1 then 2 else 3
    else ms.map fun _ => 1
  else ms.map fun _ => 0

/-- A unit at B2 goes on with its code; code 0x3 waits on. -/
def startWith (code : Nat) (s : State) : State :=
  match s.boot with
  | none => s
  | some e =>
    let s := { s with brl := { s.brl with groupStart := true } }
    if code = 3 then { s with brl := { s.brl with startCode := some 3 } }
    else bootTwo e (groupCode code) { s with brl := { s.brl with waitB2 := false, startCode := some code } }

/-- What the master does once every unit has reported (R503): a group start where all wait at B2, else 0x0 to those that do. -/
def answerMarkers (s : State) : State :=
  let ms := (List.range s.unitCount).map fun u => (tblGet ({} : BrlUnit) s.brl.units u).marker
  if ms.all Option.isSome then
    let l := ms.filterMap id
    let codes := if l.all fun m => m.2.2.2 == 1 then startCodes l else l.map fun _ => 0
    let s := brlSend [.start codes] s
    if s.brl.waitB2 then startWith (codes[0]?.getD 0) s else s
  else s

/-- MARKER (R503). -/
def execMarkerFrame (unit : Nat) (state version : Nat) (pendingSave : Bool) (devState : Nat) (s : State) :
    Host.Outcome State Fault Refusal :=
  if s.onRing && s.brl.role = 1 && s.brl.whole && 0 < unit && unit < s.unitCount then
    let s := unitUpd unit (fun u => { u with marker := some (state, version, pendingSave, devState) }) s
    .next (answerMarkers (unitUpd 0 (fun u => { u with marker := some s.ownMarker }) s))
  else .next s

/-- START_FRAME (R503). -/
def execStartFrame (codes : List Nat) (s : State) : Host.Outcome State Fault Refusal :=
  .next (if s.onRing && s.brl.role = 2 && s.brl.whole && s.brl.waitB2 then startWith (codes[s.brl.index]?.getD 0) s else s)

/-- GROUP_START_TIMEOUT (R503): the unit proceeds alone, its ring broken, and leaves a SCHEDULED activation as it is. One that waits for a
handover has had its START. -/
def execGroupStartTimeout (s : State) : Host.Outcome State Fault Refusal :=
  if s.brl.waitB2 && s.brl.startCode ≠ some 3 then
    match s.boot with
    | none => .next s
    | some e =>
      let s := ringBroken true s
      .next (bootTwo e .proceed { s with brl := { s.brl with waitB2 := false, fallback := true } })
  else .next s

/-- SCHED (R454). -/
def execSchedFrame (cancel : Bool) (version : Nat) (s : State) : Host.Outcome State Fault Refusal :=
  .next (if s.onRing && s.brl.role = 2 && s.brl.whole && s.running then
    (if cancel then (cancelOp s).1 else (scheduleOp version s).1) else s)

/-! ### Bundle staging (R504, R505) -/

/-- A bundle operation: on the master only (R514, R515). -/
def bundleOp (op tag : Nat) (k : State → State) (s : State) : State :=
  rakeOp op tag 0x200 State.running (fun s => if s.brl.role = 1 then k s else rakeReply op tag 0x105 .empty s) s

/-- BUNDLE_BEGIN: the update partition is erased. One longer than the partition is refused as a bad length. [log 62: DEDUCED] -/
def execBundleBegin (tag length : Nat) (s : State) : Host.Outcome State Fault Refusal :=
  .next (bundleOp 0x38 tag (fun s =>
    if !s.brl.whole then rakeReply 0x38 tag 0x11 .empty s
    else if length = 0 || s.updateRoom < length then rakeReply 0x38 tag 0x12 .empty s
    else
      let b := { s.brl with
        stageState := 1, stageTotal := length, stageDone := 0, stageSeq := 0, stageAcked := 0, stageEntries := 0, bundle := none
        units := s.brl.units.map fun e => (e.1, { e.2 with acked := 0, stageState := 0 }) }
      rakeReply 0x38 tag 0 .empty (eraseUpdate { s with brl := b })) s)

/-- The STAGE frames of a chunk: 4,088 bytes at most in each. -/
def stageFrames (offset seq length : Nat) : List BrlFrame :=
  (List.range (ceilDiv length 4088)).map fun k => .stage (offset + 4088 * k) (seq + k) (min 4088 (length - 4088 * k))

/-- The master programs into its own partition what it has sent, but waits while its raking is URGENT or CRITICAL (R231). -/
def ownStage (s : State) : State :=
  if 2 ≤ s.bed.rakeLevel then s else writeUpdate s.brl.stageDone { s with brl := { s.brl with stageAcked := s.brl.stageDone } }

/-- Bytes every unit of the group has committed. -/
def State.groupDone (s : State) : Nat :=
  (List.range s.unitCount).foldl (fun n u => if u = 0 then n else min n (tblGet ({} : BrlUnit) s.brl.units u).acked) s.brl.stageAcked

/-- A bundle's header stands on this ring (R504, R505): its form, this group, and one to four entries, each for a unit of the current JOIN by
index and identity digest. [log 62: DEDUCED] -/
def State.headerStands (s : State) (h : BundleHeader) : Bool :=
  h.typ = 0x0502 && h.format = 1 && h.groupId = (s.cascadeCfg.map fun c => c.groupId).getD 0 && h.entries ≠ [] && h.entries.length ≤ 4
    && h.entries.all fun e =>
      let u := tblGet ({} : BrlUnit) s.brl.units e.unit
      e.unit < s.unitCount && u.present && e.identity == u.identity.extractLsb' 64 320

/-- BUNDLE_DATA: in order; `header` is what the bundle's first bytes spell, and the first chunk is refused where it does not stand. -/
def execBundleData (tag offset length : Nat) (header : Option BundleHeader) (s : State) : Host.Outcome State Fault Refusal :=
  .next (bundleOp 0x39 tag (fun s =>
    let b := s.brl
    if b.stageState ≠ 1 then rakeReply 0x39 tag 3 .empty s
    else if 16384 < length then rakeReply 0x39 tag 0x102 .empty s
    else if length = 0 || offset ≠ b.stageDone || b.stageTotal < offset + length then rakeReply 0x39 tag 0x11 .empty s
    else if offset = 0 && !header.any s.headerStands then
      rakeReply 0x39 tag 0x11 .empty { s with brl := { b with stageState := 3 } }
    else
      let fs := stageFrames offset b.stageSeq length
      let s := ownStage { s with brl := { b with
        stageDone := offset + length, stageSeq := b.stageSeq + fs.length
        stageEntries := if offset = 0 then (header.map (·.entries.length)).getD 0 else b.stageEntries, sent := fs } }
      rakeReply 0x39 tag 0 (.words [s.groupDone]) s) s)

/-- BUNDLE_END: complete where the digest verifies; the staging state of each unit. `image` is the entry for this unit. -/
def execBundleEnd (tag : Nat) (digestOk : Bool) (image : Option Image) (s : State) : Host.Outcome State Fault Refusal :=
  .next (bundleOp 0x3A tag (fun s =>
    if s.brl.stageState ≠ 1 || s.brl.stageDone ≠ s.brl.stageTotal then rakeReply 0x3A tag 3 .empty s
    else
      let b := if digestOk then { s.brl with stageState := 2, bundle := image } else { s.brl with stageState := 3 }
      let st := fun (u : Nat) => if u = 0 then b.stageState else (tblGet ({} : BrlUnit) b.units u).stageState
      rakeReply 0x3A tag 0 (.bytes ((List.range 4).map st)) (writeUpdate b.stageDone { s with brl := b })) s)

/-- STAGE (R493, R505): programmed in order into the unit's update partition; `spells` is what the bundle's bytes
so far spell, and `entry` is the image it holds for this unit. -/
def execStageFrame (offset seq length : Nat) (spells : StageSpells) (entry : Option Image) (s : State) : Host.Outcome State Fault Refusal :=
  if s.onRing && s.brl.role = 2 && s.brl.whole && s.running then
    let s := if offset = 0 && seq = 0 then
        eraseUpdate { s with brl := { s.brl with
          stageState := 1, stageDone := 0, stageSeq := 0, stageAcked := 0, bundle := none
          stageEntries := (spells.header.map (·.entries.length)).getD 0 } }
      else s
    let b := s.brl
    if b.stageState = 1 && offset = b.stageDone && seq = b.stageSeq then
      let s := writeUpdate (offset + length) { s with brl := { b with stageDone := offset + length, stageSeq := seq + 1 } }
      if spells.complete then
        .next { s with brl := { s.brl with stageState := 2, bundle := entry, sent := [.stageAck (offset + length) 2] } }
      else .next (stageAck s)
    else .next s
  else .next s

/-- STAGE_ACK (R505): the master's view of a unit's progress; its status byte is the unit's staging state. -/
def execStageAckFrame (unit bytes status : Nat) (s : State) : Host.Outcome State Fault Refusal :=
  .next (if s.onRing && s.brl.role = 1 && s.brl.whole && 0 < unit && unit < s.unitCount then
    unitUpd unit (fun u => { u with acked := bytes, stageState := status % 4 }) s else s)

end Sys2Proof.Machine
end

