-- ==== Sys2Proof/Machine/Window.lean ====
section
/-!
DEFINITION. Writes through the register window (R525 to R532): the registers that accept them, from which port and under which guard, and
what a port does with any other write.
-/
namespace Sys2Proof.Machine

/-- A head's SEM_REQ (R270, R290): 1 acquires, 2 releases, other operations are ignored. -/
def semReqWrite (h : Head) (value : Nat) (s : State) : State :=
  if !s.served h then s
  else
    let gen := BitVec.ofNat 16 (bits value 16 16)
    match bits value 5 2 with
    | 1 => semAcquire h (bits value 0 5) gen false s
    | 2 => semRelease h (bits value 0 5) gen s
    | _ => s

/-- A write of SEM_REQ by a port (R532): the Rake Port cannot. -/
def semReqOf (port : Port) (value : Nat) (s : State) : State :=
  match port with
  | .headA => semReqWrite .a value s
  | .headB => semReqWrite .b value s
  | .rake => regViolate .rake 5 s

/-- DRN_CTL (R122, R126): PAUSE and RESUME together have no effect. -/
def drnCtlWrite (port : Port) (value : Nat) (s : State) : State :=
  drnCtl port (fun s =>
    match bits value 0 2 with
    | 1 => pauseDrain s
    | 2 => endPause 1 s
    | _ => s) s

/-- SAL_LEARN_CTL (R66, R77): START, ABORT and NEW_SOURCE, each where its bit is 1, the lower bit first. -/
def learnCtlWrite (port : Port) (value : Nat) (s : State) : State :=
  learnCtl port (fun s =>
    let s := if value.testBit 0 then learnOrDefer s else s
    let s := if value.testBit 1 then chargerSync (endLearn 7 s) else s
    if value.testBit 2 then (match s.profile with | none => s | some p => newSource p s) else s) s

/-- TRN_CTL (R332, R340): CANCEL withdraws a request made in the same write. -/
def trnCtlWrite (port : Port) (value : Nat) (s : State) : State :=
  if value.testBit 1 then trnCtl port false s
  else if value.testBit 0 then trnCtl port true s
  else trnCtl port s.trn.fullNext s

/-- SAL_PF_COUNT (R57, R77): a 1 in bit 0 clears GLITCHES whole; heads only. -/
def pfCountWrite (port : Port) (value : Nat) (s : State) : State :=
  match port with
  | .rake => regViolate .rake 5 s
  | _ => if value.testBit 0 then { s with sal := { s.sal with glitches := 0 } } else s

/-- SVC_GPIO_OUT (R522, R524): the level of each general output; other pins' bits are ignored. The Rake Port only. -/
def gpioOutWrite (port : Port) (value : Nat) (s : State) : State :=
  match port with
  | .rake =>
    let outs := (List.range 16).filter fun k => tblGet 0 s.svc.gpioFunc k = 2
    { s with svc := { s.svc with gpioOut := maskOf ((List.range 16).filter fun k =>
        if outs.contains k then value.testBit k else s.svc.gpioOut.testBit k) } }
  | p => regViolate p 5 s

/-- A write of MAP_RST_SEL or CEL_SECT_SEL changes the port's own instance (R101, R411, R526). -/
def selectWrite (port : Port) (cellar : Bool) (value : Nat) (s : State) : State :=
  if cellar then { s with cel := { s.cel with sectSel := s.cel.sectSel.set port (value % 2 ^ 11) } }
  else { s with map := { s.map with rstSel := s.map.rstSel.set port (value % 2 ^ 19) } }

/-- One aligned 4-byte write (R527): the register at the address acts under its access code; a register the port cannot write and reserved
space are counted (R286, R531, R532). -/
def writeReg (port : Port) (a value : Nat) (s : State) : State :=
  if a = 0x00010080 then semReqOf port value s
  else if a = 0x0008002C then selectWrite port false value s
  else if a = 0x000C0000 then drnCtlWrite port value s
  else if 0x0040F100 ≤ a && a < 0x0040F200 then panPolicyWrite port ((a - 0x0040F100) / 4) value s
  else if a = 0x00500004 then trnCtlWrite port value s
  else if a = 0x0060002C then learnCtlWrite port value s
  else if a = 0x00600034 then pfCountWrite port value s
  else if 0x00600100 ≤ a && a ≤ 0x00600124 then calRegWrite port (a - 0x00600000) value s
  else if a = 0x00680000 then (if value.testBit 0 then { s with flt := { s.flt with clearRefused := false } } else s)
  else if a = 0x00680004 then (if value.testBit 31 then fltClearFirst s else s)
  else if a = 0x00680008 then fltPendingWrite (value % 65536) s
  else if 0x00680040 ≤ a && a < 0x00680060 then fltClear false ((a - 0x00680040) / 4) value s
  else if 0x00680080 ≤ a && a < 0x006800A0 then fltClear true ((a - 0x00680080) / 4) value s
  else if a = 0x006E001C then softTrigger port value s
  else if a = 0x00800024 then selectWrite port true value s
  else if a = 0x0090001C then gpioOutWrite port value s
  else regViolate port 5 s

/-- A write of any size (R527): 8 aligned bytes act as two writes, the lower address first; what is not 4 or 8 aligned bytes is ignored
and counted. [log 14: DEDUCED] -/
def windowWrite (port : Port) (offset size value : Nat) (s : State) : State :=
  if size = 4 && offset % 4 = 0 then writeReg port offset (value % 2 ^ 32) s
  else if size = 8 && offset % 8 = 0 then
    writeReg port (offset + 4) (value / 2 ^ 32 % 2 ^ 32) (writeReg port offset (value % 2 ^ 32) s)
  else regViolate port 5 s

/-- REGISTER_WRITE (R527): an access within the 16 MiB window of a port that reaches it. -/
def execRegisterWrite (port : Port) (offset size value : Nat) (s : State) : Host.Outcome State Fault Refusal :=
  .next (if s.windowOpen port && offset + size ≤ 2 ^ 24 then windowWrite port offset size value s else s)

end Sys2Proof.Machine
end

