-- ==== Sys2Proof/Machine/Rake.lean ====
section
/-!
DEFINITION. The Rake Port's own instructions and operations (R508 to R516): status byte, response frame, port reset, discarded frames,
HELLO, IDENTIFY and register access.
-/
namespace Sys2Proof.Machine

/-! ### Instructions (R508, R509, R512) -/

/-- The status byte (R509). BUSY is 0: an operation is one command of the model. -/
def State.rakeStatus (s : State) : Nat :=
  pack [(0, 1, b2n s.svc.response.isSome), (1, 1, 0), (2, 1, b2n s.svc.event), (3, 1, b2n s.svc.frameErr), (4, 4, s.dev.st.code)]

/-- READ_STATUS (R509): the byte, then EVENT and FRAME_ERR clear. -/
def execReadStatus (s : State) : Host.Outcome State Fault Refusal :=
  .next (if s.rakeServes then
    { s with svc := { s.svc with statusByte := s.rakeStatus, event := false, frameErr := false } } else s)

/-- A response frame's bytes around its payload's (R511): SYNC, VER (0x00 in HELLO), OP, TAG, STATUS, LEN, payload, and the CRC-32 over all
of them. -/
def RakeFrame.bytes (f : RakeFrame) (v : Svc) (payload : List Nat) : List Nat :=
  let b := [0x5A, if f.op = 1 then 0 else v.major % 16 * 16 + v.minor % 16] ++ leBytes 2 f.op ++ leBytes 2 f.tag ++ leBytes 2 f.status ++
    leBytes 4 payload.length ++ [0, 0, 0, 0] ++ payload
  b ++ leBytes 4 (crc32 b)

/-- READ_FRAME (R509, R512): the waiting response, or none for the frame of zeros; READY clears. -/
def execReadFrame (s : State) : Host.Outcome State Fault Refusal :=
  .next (if s.rakeServes then
    { s with svc := { s.svc with frameOut := s.svc.response, response := none } } else s)

/-- PORT_RESET (R508, R513): an unread response is discarded and the negotiated version ends. -/
def execPortReset (s : State) : Host.Outcome State Fault Refusal :=
  .next (if s.rakeServes then
    { s with svc := { s.svc with response := none, negotiated := false, major := 0, minor := 0 } } else s)

/-- RAKE_FRAME_ERROR (R512, R524): a discarded frame sets FRAME_ERR; one whose CRC fails is answered BAD_CRC, its operation and tag as
received being free values. [log 62: DEDUCED] -/
def execRakeFrameError (err : RakeError) (s : State) : Host.Outcome State Fault Refusal :=
  .next (if !s.rakeServes then s
    else
      let s1 := { s with svc := { s.svc with errors := satAdd 8 s.svc.errors 1 } }
      let drop : State := { s1 with svc := { s1.svc with frameErr := true } }
      match err with
      | .badCrc =>
        if s.svc.response.isSome then drop
        else
          let f : RakeFrame := ⟨((Config.number s.free).setWidth 16).toNat, ((Config.number (s.free + 1)).setWidth 16).toNat, 0x100, .empty⟩
          { s1 with svc := { s1.svc with response := some f, frameErr := false }, free := s.free + 2 }
      | _ => drop)

/-! ### Operations (R513 to R516) -/

/-- The version two sides agree on (R7, R513): the highest major version in both ranges, and the highest minor version both support of
it. The device offers 2.1 and 1.0; the tool every minor below its highest major. [log 62: DEDUCED] -/
def commonVersion (high minor low : Nat) : Option (Nat × Nat) :=
  if low ≤ 2 && 2 ≤ high then some (2, if high = 2 then min 1 minor else 1)
  else if low ≤ 1 && 1 ≤ high then some (1, 0)
  else none

/-- HELLO (R513): with no common major version the port stays unnegotiated. -/
def execHello (tag high minor low : Nat) (s : State) : Host.Outcome State Fault Refusal :=
  .next (rakeOp 1 tag 0 State.rakeServes (fun s =>
    match commonVersion high minor low with
    | none => rakeReply 1 tag 0xE .empty { s with svc := { s.svc with negotiated := false, major := 0, minor := 0 } }
    | some v =>
      rakeReply 1 tag 0 (.bytes [2, 1, 1, v.1, v.2, 0, 0, 0])
        { s with svc := { s.svc with negotiated := true, major := v.1, minor := v.2 } }) s)

/-- IDENTIFY (R514): the 16 IDN registers, then the identity digest's 48 bytes; served before HELLO (R513). -/
def execIdentify (tag : Nat) (s : State) : Host.Outcome State Fault Refusal :=
  .next (rakeOp 2 tag 0 State.rakeServes (fun s =>
    rakeReply 2 tag 0 (.bytes ((readRegs .rake 0 16 s).flatMap (leBytes 4) ++ beBytes 48 s.key.identity.toNat)) s) s)

/-- The blocks REG_READ reaches in RECOVERY (R514): IDN, UPD, THM and FLT. -/
def recoveryBlock (a : Nat) : Bool :=
  a < 0x00010000 || (0x00640000 ≤ a && a < 0x006C0000) || (0x00840000 ≤ a && a < 0x00880000)

/-- REG_READ (R514): consecutive registers as the Rake Port sees them. -/
def execRegRead (tag offset count : Nat) (s : State) : Host.Outcome State Fault Refusal :=
  .next (rakeOp 0x10 tag 0x100 State.rakeServes (fun s =>
    if count = 0 || 1024 < count then rakeReply 0x10 tag 0x102 .empty s
    else if s.dev.st = .recovery && !(recoveryBlock offset && recoveryBlock (offset + 4 * count - 4)) then
      rakeReply 0x10 tag 0x103 .empty s
    else rakeReply 0x10 tag 0 (.words (readRegs .rake offset count s)) s) s)

/-- The registers REG_WRITE reaches (R516). -/
def rakeWrites (a : Nat) (s : State) : Bool :=
  a % 4 = 0 &&
    (a = 0x00500004 || a = 0x006E001C || a = 0x0008002C || a = 0x00800024 || a = 0x0090001C
      || a = 0x00680000 || a = 0x00680004 || a = 0x00680008 || (0x00680040 ≤ a && a < 0x00680060) || (0x00680080 ≤ a && a < 0x006800A0)
      || (0x00600100 ≤ a && a ≤ 0x00600124 && s.sal.sealOpen))

/-- REG_WRITE (R516): any other register is left alone, answered REFUSED and counted. -/
def execRegWrite (tag offset value : Nat) (s : State) : Host.Outcome State Fault Refusal :=
  .next (rakeOp 0x11 tag 0x100 (fun s => s.windowOpen .rake) (fun s =>
    if rakeWrites offset s then rakeReply 0x11 tag 0 .empty (writeReg .rake offset (value % 2 ^ 32) s)
    else rakeReply 0x11 tag 0x11 .empty (regViolate .rake 5 s)) s)

/-- The operation codes of R514. -/
def rakeOps : List Nat :=
  [1, 2, 0x10, 0x11, 0x20, 0x21, 0x22, 0x23, 0x24, 0x25, 0x26, 0x30, 0x31, 0x32, 0x33, 0x34, 0x35, 0x38, 0x39, 0x3A, 0x40]

/-- BAD_OP (R515): a request frame whose OP is not in R514's table. -/
def execBadOp (tag op : Nat) (s : State) : Host.Outcome State Fault Refusal :=
  .next (if rakeOps.contains op then s else rakeOp op tag 0 State.rakeServes (fun s => rakeReply op tag 0x101 .empty s) s)

end Sys2Proof.Machine
end

