-- ==== Sys2Proof/Machine/SidePorts.lean ====
section
/-!
DEFINITION. The telemetry target (R518 to R520), the always-on clock (R551) and the boundary-scan port (R555).
-/
namespace Sys2Proof.Machine

/-! ### Telemetry pages (R519, R520) -/

/-- Registers as the pages show them: 4 bytes each. -/
def pageRegs (s : State) (l : List Nat) : List Nat := l.flatMap fun a => leBytes 4 (readReg .rake a s)

/-- One thermal input on page 0x02: whole degrees plus 64, 0xFE while disabled, 0xFF while broken. A reading not yet made is free. -/
def pageTemp (s : State) (n : Nat) : Nat :=
  let x := s.thmIn n
  if !s.thm.enable.contains n then 0xFE
  else if x.broken then 0xFF
  else match x.temp with
    | some t => (t / 16 + 64).toNat % 256
    | none => ((Config.number (s.free + n)).setWidth 8).toNat

/-- READ_VIN, READ_VOUT, READ_IOUT and READ_TEMPERATURE_1 of a PMBus target; 0 for an absent one. -/
def pagePmb (s : State) (n : Nat) : List Nat :=
  let p := s.pmb n
  if n < s.pmbList.length && p.present then leBytes 2 p.vin ++ leBytes 2 p.vout ++ leBytes 2 p.iout ++ leBytes 2 p.temp
  else List.replicate 8 0

/-- Classes with a sticky source, one bit each (R520). -/
def State.stickyClasses (s : State) : Nat :=
  (List.range 16).foldl (fun w c => if s.flt.sticky.any fun n => n / 16 == c then w + 2 ^ c else w) 0

/-- The 32 bytes of a page; nothing above page 0x07. -/
def pageBytes (s : State) : Nat → List Nat
  | 0 => [0x16, 0x48, 1, 0] ++ leBytes 8 s.upd.runVer ++ (beBytes 48 s.key.identity.toNat).take 16 ++ leBytes 4 s.gov.dsc
  | 1 => pageRegs s [0x00040000, 0x00040004, 0x00040008, 0x00040010, 0x00040014, 0x00040018, 0x00040024, 0x00040028]
  | 2 => pageRegs s [0x00640000, 0x00640010] ++ (List.range 24).map (pageTemp s)
  | 3 => pageRegs s [0x00600000, 0x00600010, 0x00600014, 0x0060001C, 0x00600020, 0x00600024, 0x00600028, 0x00600030]
  | 4 => pageRegs s [0x00220004, 0x00220008, 0x0022000C, 0x00220018, 0x0004006C, 0x00040068] ++ [s.lifeUsed] ++ List.replicate 7 0
  | 5 => pageRegs s [0x00680000, 0x00680004, 0x00680008, 0x00680010] ++ leBytes 2 s.stickyClasses ++ List.replicate 14 0
  | 6 => pagePmb s 0 ++ pagePmb s 1 ++ pagePmb s 2 ++ pagePmb s 3
  | 7 => pageRegs s [0x00A00000, 0x00A10000, 0x00A00008, 0x00A10008, 0x00A0000C, 0x00A1000C, 0x00840000, 0x006E0004]
  | _ => []

/-- TELEMETRY_PAGE_READ (R518 to R520): a wrong PEC of the controller is counted and nothing is selected. [log 63: PRESUMED] -/
def execTelemetryPageRead (page : Nat) (pecError : Bool) (s : State) : Host.Outcome State Fault Refusal :=
  .next (if !s.alive then s
    else if pecError then { s with svc := { s.svc with page := [], pecErr := satAdd 8 s.svc.pecErr 1 } }
    else
      { s with
        svc := { s.svc with page := pageBytes s page, reads := if page ≤ 7 then satAdd 24 s.svc.reads 1 else s.svc.reads }
        free := if page = 2 then s.free + 24 else s.free })

/-! ### I3C (R518) -/

/-- The target gets a dynamic address and runs as an I3C target. [log 63: PRESUMED] -/
def assignAddr (address : Nat) (s : State) : State :=
  { s with svc := { s.svc with i3c := true, dynAddr := address % 128 } }

/-- A code that asks the I3C target for a value: the bytes it returns are the implementation's. -/
def ccc (f : State → State) (s : State) : State := if s.alive && s.svc.i3c then f s else s

/-- The bytes of an answer no rule states, as one number. -/
def cccAnswer (width : Nat) (s : State) : State :=
  { s with
    svc := { s.svc with i3cAnswer := .blob (((Config.answer s.free).setWidth width).setWidth 512) }
    free := s.free + 1 }

/-- A characteristic that does not change while the device exists: provisional ID, BCR, DCR and the length limits. -/
def cccConstant (which width : Nat) (s : State) : State :=
  { s with svc := { s.svc with i3cAnswer := .blob (((Config.i3cConstant which).setWidth width).setWidth 512) } }

/-- ENTDAA: a target without a dynamic address takes the one assigned. -/
def execEntdaa (address : Nat) (s : State) : Host.Outcome State Fault Refusal :=
  .next (if s.alive && !s.svc.i3c then assignAddr address s else s)

/-- SETDASA: the target at its static address takes the dynamic one. -/
def execSetdasa (static address : Nat) (s : State) : Host.Outcome State Fault Refusal :=
  .next (if s.alive && !s.svc.i3c && static = s.svc.staticAddr then assignAddr address s else s)

/-- RSTDAA: the dynamic address is gone; the target answers at its static address again. [log 63: PRESUMED] -/
def execRstdaa (s : State) : Host.Outcome State Fault Refusal :=
  .next (if s.alive then { s with svc := { s.svc with i3c := false, dynAddr := 0 } } else s)

/-- SETNEWDA: a new dynamic address in place of the present one. -/
def execSetnewda (address : Nat) (s : State) : Host.Outcome State Fault Refusal := .next (ccc (assignAddr address) s)

/-- GETPID: the 48-bit provisional ID. -/
def execGetpid (s : State) : Host.Outcome State Fault Refusal := .next (ccc (cccConstant 0 48) s)

/-- GETBCR: the bus characteristics register. -/
def execGetbcr (s : State) : Host.Outcome State Fault Refusal := .next (ccc (cccConstant 1 8) s)

/-- GETDCR: the device characteristics register. -/
def execGetdcr (s : State) : Host.Outcome State Fault Refusal := .next (ccc (cccConstant 2 8) s)

/-- GETSTATUS: the target's status. -/
def execGetstatus (s : State) : Host.Outcome State Fault Refusal := .next (ccc (cccAnswer 16) s)

/-- GETMWL: the largest private write. -/
def execGetmwl (s : State) : Host.Outcome State Fault Refusal := .next (ccc (cccConstant 3 16) s)

/-- GETMRL: the largest private read. -/
def execGetmrl (s : State) : Host.Outcome State Fault Refusal := .next (ccc (cccConstant 4 16) s)

/-- ENEC: events enabled. The target raises no in-band interrupt whatever is enabled. -/
def execEnec (events : Nat) (s : State) : Host.Outcome State Fault Refusal :=
  .next (ccc (fun s => { s with svc := { s.svc with i3cEvents := s.svc.i3cEvents ||| events % 256 } }) s)

/-- DISEC: events disabled. -/
def execDisec (events : Nat) (s : State) : Host.Outcome State Fault Refusal :=
  .next (ccc (fun s => { s with svc := { s.svc with
    i3cEvents := maskOf ((List.range 8).filter fun k => s.svc.i3cEvents.testBit k && !events.testBit k) } }) s)

/-! ### The always-on clock (R551) -/

/-- AON_CLOCK_STOP (R551): the RC oscillator takes over and source 0x94 is raised. -/
def execAonClockStop (s : State) : Host.Outcome State Fault Refusal :=
  .next (if s.dev.st = .off || s.pins.rcClock then s
    else fltRaise 0x94 0 { s with pins := { s.pins with rcClock := true } })

/-- AON_CLOCK_RESTORE (R551): the domain changes back to the crystal. -/
def execAonClockRestore (s : State) : Host.Outcome State Fault Refusal :=
  .next (if s.dev.st ≠ .off && s.pins.rcClock then fltFall 0x94 { s with pins := { s.pins with rcClock := false } } else s)

/-! ### Boundary scan (R555) -/

/-- The test access port works: the main domain has its rails. [log 64: PRESUMED] -/
def State.tapOn (s : State) : Bool := s.dev.mainUp && s.dev.st ≠ .off && s.dev.st ≠ .sealed

/-- BYPASS: the one-bit register, which captures 0; the pins carry the device's signals. -/
def tapBypass (s : State) : State :=
  { s with pins := { s.pins with jtag := 0xFF, jtagData := 0, scanDrives := false, scanFloats := false } }

/-- An instruction that takes the pins: only while RST_N is low and outside a save, else it acts as BYPASS. -/
def tapTakes (rstLow : Bool) (f : State → State) (s : State) : State :=
  if !s.tapOn then s else if rstLow && !s.saving then f s else tapBypass s

/-- EXTEST: the update latches drive the pins; the levels at the boundary are captured. -/
def execExtest (rstLow : Bool) (s : State) : Host.Outcome State Fault Refusal :=
  .next (tapTakes rstLow (fun s => { s with
    pins := { s.pins with jtag := 0x00, jtagData := (Config.answer s.free).toNat, scanDrives := true, scanFloats := false }
    free := s.free + 1 }) s)

/-- IDCODE: the identification register is selected. -/
def execIdcode (s : State) : Host.Outcome State Fault Refusal :=
  .next (if s.tapOn then
    { s with pins := { s.pins with jtag := 0x01, jtagData := 0x1481696F, scanDrives := false, scanFloats := false } } else s)

/-- SAMPLE/PRELOAD: the boundary's levels are captured and the update latches loaded; the pins carry the device's signals. -/
def execSamplePreload (value : Nat) (s : State) : Host.Outcome State Fault Refusal :=
  .next (if s.tapOn then
    { s with
      pins := { s.pins with
        jtag := 0x02, jtagData := (Config.answer s.free).toNat, boundary := value, scanDrives := false, scanFloats := false }
      free := s.free + 1 }
    else s)

/-- CLAMP: the update latches drive the pins with the bypass register selected. -/
def execClamp (rstLow : Bool) (s : State) : Host.Outcome State Fault Refusal :=
  .next (tapTakes rstLow (fun s => { s with
    pins := { s.pins with jtag := 0x04, jtagData := 0, scanDrives := true, scanFloats := false } }) s)

/-- HIGHZ: the boundary's pins float with the bypass register selected. -/
def execHighz (rstLow : Bool) (s : State) : Host.Outcome State Fault Refusal :=
  .next (tapTakes rstLow (fun s => { s with
    pins := { s.pins with jtag := 0x05, jtagData := 0, scanDrives := false, scanFloats := true } }) s)

/-- BYPASS, and every code not listed. -/
def execBypass (code : Nat) (s : State) : Host.Outcome State Fault Refusal :=
  .next (if s.tapOn && !([0, 1, 2, 4, 5] : List Nat).contains (code % 256) then tapBypass s else s)

end Sys2Proof.Machine
end

