-- ==== Sys2Proof/Machine/Dispatch.lean ====
section
/-!
DEFINITION. One arm for each command of spec/opcode_table.json, each a direct call of its meaning.
-/
namespace Sys2Proof.Machine

def exec (i : Instr) (s : State) : Host.Outcome State Fault Refusal :=
  match i with
  | .vaonRise recoverLow => Sys2Proof.Machine.execVaonRise recoverLow s
  | .vaonFall => Sys2Proof.Machine.execVaonFall s
  | .mainDomainRelease => Sys2Proof.Machine.execMainDomainRelease s
  | .mainRailFail => Sys2Proof.Machine.execMainRailFail s
  | .startDevice env => Sys2Proof.Machine.execStartDevice env s
  | .trainingCheckpoint channel step set result => Sys2Proof.Machine.execTrainingCheckpoint channel step set result s
  | .hostReady => Sys2Proof.Machine.execHostReady s
  | .powerGood elapsedMs => Sys2Proof.Machine.execPowerGood elapsedMs s
  | .pinReset => Sys2Proof.Machine.execPinReset s
  | .rstNReject => Sys2Proof.Machine.execRstNReject s
  | .headReset head => Sys2Proof.Machine.execHeadReset head s
  | .powerFailDetection vmain sinceNs => Sys2Proof.Machine.execPowerFailDetection vmain sinceNs s
  | .glitchReject => Sys2Proof.Machine.execGlitchReject s
  | .harvestNow head gen sealCritical => Sys2Proof.Machine.execHarvestNow head gen sealCritical s
  | .econsPublish phyAOff phyBOff => Sys2Proof.Machine.execEconsPublish phyAOff phyBOff s
  | .dataPhaseEnd phyAOff phyBOff => Sys2Proof.Machine.execDataPhaseEnd phyAOff phyBOff s
  | .tailComplete canSign copyA copyB => Sys2Proof.Machine.execTailComplete canSign copyA copyB s
  | .sealSave backA backB recordOk => Sys2Proof.Machine.execSealSave backA backB recordOk s
  | .vabsRelease => Sys2Proof.Machine.execVabsRelease s
  | .governorTick => Sys2Proof.Machine.execGovernorTick s
  | .armDevice => Sys2Proof.Machine.execArmDevice s
  | .wearDayBoundary => Sys2Proof.Machine.execWearDayBoundary s
  | .wearHourlyCommit => Sys2Proof.Machine.execWearHourlyCommit s
  | .salSample vbkUv ibk => Sys2Proof.Machine.execSalSample vbkUv ibk s
  | .eusePublish ntc0 ntc1 vmainUv adcFail => Sys2Proof.Machine.execEusePublish ntc0 ntc1 vmainUv adcFail s
  | .packRemoved => Sys2Proof.Machine.execPackRemoved s
  | .socReanchor => Sys2Proof.Machine.execSocReanchor s
  | .pmbusPoll target reading nacks sdaHeld => Sys2Proof.Machine.execPmbusPoll target reading nacks sdaHeld s
  | .pmbusTargetAbsent target => Sys2Proof.Machine.execPmbusTargetAbsent target s
  | .learnInterval => Sys2Proof.Machine.execLearnInterval s
  | .startLearn port => Sys2Proof.Machine.execStartLearn port s
  | .abortLearn port => Sys2Proof.Machine.execAbortLearn port s
  | .newSource port => Sys2Proof.Machine.execNewSource port s
  | .learnL1BacklogMet => Sys2Proof.Machine.execLearnL1BacklogMet s
  | .learnL1Timeout => Sys2Proof.Machine.execLearnL1Timeout s
  | .learnEsrMeasure => Sys2Proof.Machine.execLearnEsrMeasure s
  | .learnDischargeEnd => Sys2Proof.Machine.execLearnDischargeEnd s
  | .learnDischargeTimeout => Sys2Proof.Machine.execLearnDischargeTimeout s
  | .learnRestEnd => Sys2Proof.Machine.execLearnRestEnd s
  | .learnComplete => Sys2Proof.Machine.execLearnComplete s
  | .sealNonce head gen => Sys2Proof.Machine.execSealNonce head gen s
  | .sealBreak head gen token strapLow => Sys2Proof.Machine.execSealBreak head gen token strapLow s
  | .sealClose head gen => Sys2Proof.Machine.execSealClose head gen s
  | .sealAbandon cause => Sys2Proof.Machine.execSealAbandon cause s
  | .calibrationWrite port offset value => Sys2Proof.Machine.execCalibrationWrite port offset value s
  | .nonceExpiry kind port => Sys2Proof.Machine.execNonceExpiry kind port s
  | .markGranule granule damage => Sys2Proof.Machine.execMarkGranule granule damage s
  | .claimGranule touch => Sys2Proof.Machine.execClaimGranule touch s
  | .commitGranule touch entry => Sys2Proof.Machine.execCommitGranule touch entry s
  | .abandonGranule granule => Sys2Proof.Machine.execAbandonGranule granule s
  | .cacheFillComplete region uncorrectable => Sys2Proof.Machine.execCacheFillComplete region uncorrectable s
  | .epochAdvance => Sys2Proof.Machine.execEpochAdvance s
  | .auditRegion region damage => Sys2Proof.Machine.execAuditRegion region damage s
  | .drainSlot quota => Sys2Proof.Machine.execDrainSlot quota s
  | .drainReadComplete granule errors length lane => Sys2Proof.Machine.execDrainReadComplete granule errors length lane s
  | .partialPageTimeout rowSeq channel stripe => Sys2Proof.Machine.execPartialPageTimeout rowSeq channel stripe s
  | .pageProgramComplete rowSeq channel stripe tenthUs => Sys2Proof.Machine.execPageProgramComplete rowSeq channel stripe tenthUs s
  | .programFail rowSeq channel stripe => Sys2Proof.Machine.execProgramFail rowSeq channel stripe s
  | .drainTimeout granule => Sys2Proof.Machine.execDrainTimeout granule s
  | .stripeTimeout rowSeq stripe => Sys2Proof.Machine.execStripeTimeout rowSeq stripe s
  | .mapSegmentTimeout => Sys2Proof.Machine.execMapSegmentTimeout s
  | .lostPage rowSeq channel stripe => Sys2Proof.Machine.execLostPage rowSeq channel stripe s
  | .pauseDrain port => Sys2Proof.Machine.execPauseDrain port s
  | .resumeDrain port => Sys2Proof.Machine.execResumeDrain port s
  | .pauseMaxExpiry => Sys2Proof.Machine.execPauseMaxExpiry s
  | .hostMemRead head hpa tag dram latencyNs => Sys2Proof.Machine.execHostMemRead head hpa tag dram latencyNs s
  | .hostMemWrite head hpa tag data poison posted mergeBad => Sys2Proof.Machine.execHostMemWrite head hpa tag data poison posted mergeBad s
  | .demandFetchComplete granule outcome us => Sys2Proof.Machine.execDemandFetchComplete granule outcome us s
  | .postedCreditResume => Sys2Proof.Machine.execPostedCreditResume s
  | .globalPersistentFlush head => Sys2Proof.Machine.execGlobalPersistentFlush head s
  | .backgroundRestoreGranule outcome => Sys2Proof.Machine.execBackgroundRestoreGranule outcome s
  | .zeroStreamGranule => Sys2Proof.Machine.execZeroStreamGranule s
  | .nandReadComplete rowSeq channel stripe ladder check tenthUs => Sys2Proof.Machine.execNandReadComplete rowSeq channel stripe ladder check tenthUs s
  | .rakeMove item => Sys2Proof.Machine.execRakeMove item s
  | .rowErase rowSeq => Sys2Proof.Machine.execRowErase rowSeq s
  | .eraseComplete channel die block ok => Sys2Proof.Machine.execEraseComplete channel die block ok s
  | .storePatrol queue => Sys2Proof.Machine.execStorePatrol queue s
  | .zqCalibration => Sys2Proof.Machine.execZqCalibration s
  | .dieResetTimeout channel die => Sys2Proof.Machine.execDieResetTimeout channel die s
  | .writeBatch channel ns => Sys2Proof.Machine.execWriteBatch channel ns s
  | .deviceMark channel k device => Sys2Proof.Machine.execDeviceMark channel k device s
  | .refresh channel due => Sys2Proof.Machine.execRefresh channel due s
  | .mr4Poll channel rate => Sys2Proof.Machine.execMr4Poll channel rate s
  | .patrolScrub dram => Sys2Proof.Machine.execPatrolScrub dram s
  | .shadowSetChange set firmware => Sys2Proof.Machine.execShadowSetChange set firmware s
  | .idleSelfRefresh channel => Sys2Proof.Machine.execIdleSelfRefresh channel s
  | .dramChannelFailure channel cause => Sys2Proof.Machine.execDramChannelFailure channel cause s
  | .panPolicyWrite port reg value => Sys2Proof.Machine.execPanPolicyWrite port reg value s
  | .dqsTrack channel device drift => Sys2Proof.Machine.execDqsTrack channel device drift s
  | .fullNext port => Sys2Proof.Machine.execFullNext port s
  | .trnCancel port => Sys2Proof.Machine.execTrnCancel port s
  | .thermalSample readings => Sys2Proof.Machine.execThermalSample readings s
  | .throttleStepAdvance => Sys2Proof.Machine.execThrottleStepAdvance s
  | .throttleStepBack => Sys2Proof.Machine.execThrottleStepBack s
  | .thermalRestart => Sys2Proof.Machine.execThermalRestart s
  | .fastSamplingEnd => Sys2Proof.Machine.execFastSamplingEnd s
  | .faultEvent source unit detail edge => Sys2Proof.Machine.execFaultEvent source unit detail edge s
  | .blockResetComplete block ok => Sys2Proof.Machine.execBlockResetComplete block ok s
  | .wirefault line on => Sys2Proof.Machine.execWirefault line on s
  | .faultWindowExpiry source => Sys2Proof.Machine.execFaultWindowExpiry source s
  | .trapReturn => Sys2Proof.Machine.execTrapReturn s
  | .acknowledgeClass port mask => Sys2Proof.Machine.execAcknowledgeClass port mask s
  | .clearSticky port isSevere word mask => Sys2Proof.Machine.execClearSticky port isSevere word mask s
  | .clearFirst port => Sys2Proof.Machine.execClearFirst port s
  | .tallyTrigger code level arg => Sys2Proof.Machine.execTallyTrigger code level arg s
  | .tallyRecordWrite reserveOk => Sys2Proof.Machine.execTallyRecordWrite reserveOk s
  | .tallyMirror ok => Sys2Proof.Machine.execTallyMirror ok s
  | .softwareTrigger port value => Sys2Proof.Machine.execSoftwareTrigger port value s
  | .cellarProgram user sector word data => Sys2Proof.Machine.execCellarProgram user sector word data s
  | .cellarProgramDone steps ok => Sys2Proof.Machine.execCellarProgramDone steps ok s
  | .cellarErase user sector => Sys2Proof.Machine.execCellarErase user sector s
  | .cellarEraseDone steps ok => Sys2Proof.Machine.execCellarEraseDone steps ok s
  | .cellarRead sector word attempts fetch waitUs => Sys2Proof.Machine.execCellarRead sector word attempts fetch waitUs s
  | .wdCountClear => Sys2Proof.Machine.execWdCountClear s
  | .confirmTrial => Sys2Proof.Machine.execConfirmTrial s
  | .linkUp head rate width ide => Sys2Proof.Machine.execLinkUp head rate width ide s
  | .linkDown head => Sys2Proof.Machine.execLinkDown head s
  | .graceExpiry head => Sys2Proof.Machine.execGraceExpiry head s
  | .semAcquire head cell gen tie => Sys2Proof.Machine.execSemAcquire head cell gen tie s
  | .semRelease head cell gen => Sys2Proof.Machine.execSemRelease head cell gen s
  | .getChapenVersion head => Sys2Proof.Machine.execGetChapenVersion head s
  | .setChapenVersion head major minor => Sys2Proof.Machine.execSetChapenVersion head major minor s
  | .getPersistenceStatus head => Sys2Proof.Machine.execGetPersistenceStatus head s
  | .releaseHeldAccess head gen => Sys2Proof.Machine.execReleaseHeldAccess head gen s
  | .getPanRoles head first count => Sys2Proof.Machine.execGetPanRoles head first count s
  | .setPanRoles head gen force changes commitOk => Sys2Proof.Machine.execSetPanRoles head gen force changes commitOk s
  | .unlockDevice head gen secret => Sys2Proof.Machine.execUnlockDevice head gen secret s
  | .setUnlockSecret head gen current new commitOk => Sys2Proof.Machine.execSetUnlockSecret head gen current new commitOk s
  | .sanitize head gen confirmation => Sys2Proof.Machine.execSanitize head gen confirmation s
  | .cryptoErase interrupted => Sys2Proof.Machine.execCryptoErase interrupted s
  | .tallyClearNonce head gen => Sys2Proof.Machine.execTallyClearNonce head gen s
  | .clearTally head gen token commitOk => Sys2Proof.Machine.execClearTally head gen token commitOk s
  | .getUpdateStatus head => Sys2Proof.Machine.execGetUpdateStatus head s
  | .scheduleActivation head gen version => Sys2Proof.Machine.execScheduleActivation head gen version s
  | .cancelActivation head gen => Sys2Proof.Machine.execCancelActivation head gen s
  | .stageLayout head gen chunk commitOk => Sys2Proof.Machine.execStageLayout head gen chunk commitOk s
  | .readJournal head typ seq count => Sys2Proof.Machine.execReadJournal head typ seq count s
  | .unsupportedCommand head opcode => Sys2Proof.Machine.execUnsupportedCommand head opcode s
  | .getEventRecords head log => Sys2Proof.Machine.execGetEventRecords head log s
  | .clearEventRecords head log handles => Sys2Proof.Machine.execClearEventRecords head log handles s
  | .getEventInterruptPolicy head => Sys2Proof.Machine.execGetEventInterruptPolicy head s
  | .setEventInterruptPolicy head policy => Sys2Proof.Machine.execSetEventInterruptPolicy head policy s
  | .getFwInfo head => Sys2Proof.Machine.execGetFwInfo head s
  | .getTimestamp head => Sys2Proof.Machine.execGetTimestamp head s
  | .setTimestamp head value => Sys2Proof.Machine.execSetTimestamp head value s
  | .getSupportedLogs head => Sys2Proof.Machine.execGetSupportedLogs head s
  | .getLog head offset length => Sys2Proof.Machine.execGetLog head offset length s
  | .identifyMemoryDevice head => Sys2Proof.Machine.execIdentifyMemoryDevice head s
  | .getHealthInfo head => Sys2Proof.Machine.execGetHealthInfo head s
  | .getAlertConfiguration head => Sys2Proof.Machine.execGetAlertConfiguration head s
  | .setAlertConfiguration head cfg => Sys2Proof.Machine.execSetAlertConfiguration head cfg s
  | .setShutdownState head state => Sys2Proof.Machine.execSetShutdownState head state s
  | .getPoisonList head dpa length => Sys2Proof.Machine.execGetPoisonList head dpa length s
  | .injectPoison head dpa => Sys2Proof.Machine.execInjectPoison head dpa s
  | .clearPoison head dpa data => Sys2Proof.Machine.execClearPoison head dpa data s
  | .getDynamicCapacityConfiguration head => Sys2Proof.Machine.execGetDynamicCapacityConfiguration head s
  | .getDynamicCapacityExtentList head first count => Sys2Proof.Machine.execGetDynamicCapacityExtentList head first count s
  | .addDynamicCapacityResponse head pans => Sys2Proof.Machine.execAddDynamicCapacityResponse head pans s
  | .releaseDynamicCapacity head pans => Sys2Proof.Machine.execReleaseDynamicCapacity head pans s
  | .malformedMailboxCommand head opcode => Sys2Proof.Machine.execMalformedMailboxCommand head opcode s
  | .getVersion head => Sys2Proof.Machine.execGetVersion head s
  | .getCapabilities head => Sys2Proof.Machine.execGetCapabilities head s
  | .negotiateAlgorithms head common => Sys2Proof.Machine.execNegotiateAlgorithms head common s
  | .getDigests head => Sys2Proof.Machine.execGetDigests head s
  | .getCertificate head slot offset length large => Sys2Proof.Machine.execGetCertificate head slot offset length large s
  | .challenge head => Sys2Proof.Machine.execChallenge head s
  | .getMeasurements head index sign large => Sys2Proof.Machine.execGetMeasurements head index sign large s
  | .keyExchange head => Sys2Proof.Machine.execKeyExchange head s
  | .spdmFinish head verified => Sys2Proof.Machine.execSpdmFinish head verified s
  | .heartbeat head => Sys2Proof.Machine.execHeartbeat head s
  | .keyUpdate head => Sys2Proof.Machine.execKeyUpdate head s
  | .endSession head => Sys2Proof.Machine.execEndSession head s
  | .chunkSend head chunk last => Sys2Proof.Machine.execChunkSend head chunk last s
  | .chunkGet head length => Sys2Proof.Machine.execChunkGet head length s
  | .ideKeyManagement head => Sys2Proof.Machine.execIdeKeyManagement head s
  | .cdatTableAccess head => Sys2Proof.Machine.execCdatTableAccess head s
  | .readStatus => Sys2Proof.Machine.execReadStatus s
  | .readFrame => Sys2Proof.Machine.execReadFrame s
  | .portReset => Sys2Proof.Machine.execPortReset s
  | .rakeFrameError err => Sys2Proof.Machine.execRakeFrameError err s
  | .hello tag high minor low => Sys2Proof.Machine.execHello tag high minor low s
  | .identify tag => Sys2Proof.Machine.execIdentify tag s
  | .regRead tag offset count => Sys2Proof.Machine.execRegRead tag offset count s
  | .regWrite tag offset value => Sys2Proof.Machine.execRegWrite tag offset value s
  | .getNonce tag kind => Sys2Proof.Machine.execGetNonce tag kind s
  | .rakeSealBreak tag token strapLow => Sys2Proof.Machine.execRakeSealBreak tag token strapLow s
  | .rakeSealClose tag => Sys2Proof.Machine.execRakeSealClose tag s
  | .factoryReset tag token => Sys2Proof.Machine.execFactoryReset tag token s
  | .calibrate tag token osc bg => Sys2Proof.Machine.execCalibrate tag token osc bg s
  | .installOwner tag record wellFormed => Sys2Proof.Machine.execInstallOwner tag record wellFormed s
  | .transferOwner tag token record => Sys2Proof.Machine.execTransferOwner tag token record s
  | .dlBegin tag length version => Sys2Proof.Machine.execDlBegin tag length version s
  | .dlData tag offset length image ok => Sys2Proof.Machine.execDlData tag offset length image ok s
  | .dlEnd tag => Sys2Proof.Machine.execDlEnd tag s
  | .schedule tag version => Sys2Proof.Machine.execSchedule tag version s
  | .cancel tag => Sys2Proof.Machine.execCancel tag s
  | .updateStatus tag => Sys2Proof.Machine.execUpdateStatus tag s
  | .bundleBegin tag length => Sys2Proof.Machine.execBundleBegin tag length s
  | .bundleData tag offset length header => Sys2Proof.Machine.execBundleData tag offset length header s
  | .bundleEnd tag digestOk image => Sys2Proof.Machine.execBundleEnd tag digestOk image s
  | .journalRead tag typ seq count => Sys2Proof.Machine.execJournalRead tag typ seq count s
  | .registerWrite port offset size value => Sys2Proof.Machine.execRegisterWrite port offset size value s
  | .telemetryPageRead page pecError => Sys2Proof.Machine.execTelemetryPageRead page pecError s
  | .entdaa address => Sys2Proof.Machine.execEntdaa address s
  | .setdasa static address => Sys2Proof.Machine.execSetdasa static address s
  | .rstdaa => Sys2Proof.Machine.execRstdaa s
  | .setnewda address => Sys2Proof.Machine.execSetnewda address s
  | .getpid => Sys2Proof.Machine.execGetpid s
  | .getbcr => Sys2Proof.Machine.execGetbcr s
  | .getdcr => Sys2Proof.Machine.execGetdcr s
  | .getstatus => Sys2Proof.Machine.execGetstatus s
  | .getmwl => Sys2Proof.Machine.execGetmwl s
  | .getmrl => Sys2Proof.Machine.execGetmrl s
  | .enec events => Sys2Proof.Machine.execEnec events s
  | .disec events => Sys2Proof.Machine.execDisec events s
  | .aonClockStop => Sys2Proof.Machine.execAonClockStop s
  | .aonClockRestore => Sys2Proof.Machine.execAonClockRestore s
  | .extest rstLow => Sys2Proof.Machine.execExtest rstLow s
  | .idcode => Sys2Proof.Machine.execIdcode s
  | .samplePreload value => Sys2Proof.Machine.execSamplePreload value s
  | .clamp rstLow => Sys2Proof.Machine.execClamp rstLow s
  | .highz rstLow => Sys2Proof.Machine.execHighz rstLow s
  | .bypass code => Sys2Proof.Machine.execBypass code s
  | .brinePortTrained port1 => Sys2Proof.Machine.execBrinePortTrained port1 s
  | .brinePortDown port1 => Sys2Proof.Machine.execBrinePortDown port1 s
  | .idleFrame port1 sent => Sys2Proof.Machine.execIdleFrame port1 sent s
  | .brineHello port1 major minor groupId peer => Sys2Proof.Machine.execBrineHello port1 major minor groupId peer s
  | .ringWhole => Sys2Proof.Machine.execRingWhole s
  | .joinFrame gen units index digests => Sys2Proof.Machine.execJoinFrame gen units index digests s
  | .statusFrame unit state localOk eNeed chargeUc backlog => Sys2Proof.Machine.execStatusFrame unit state localOk eNeed chargeUc backlog s
  | .armFrame armed whole unitBits eUse chargeUc => Sys2Proof.Machine.execArmFrame armed whole unitBits eUse chargeUc s
  | .armTimeout => Sys2Proof.Machine.execArmTimeout s
  | .statusTimeout unit => Sys2Proof.Machine.execStatusTimeout unit s
  | .trigFrame unit cause => Sys2Proof.Machine.execTrigFrame unit cause s
  | .goFrame cause origin event sinceNs => Sys2Proof.Machine.execGoFrame cause origin event sinceNs s
  | .shareFrame eT event => Sys2Proof.Machine.execShareFrame eT event s
  | .markerFrame unit state version pendingSave devState => Sys2Proof.Machine.execMarkerFrame unit state version pendingSave devState s
  | .startFrame codes => Sys2Proof.Machine.execStartFrame codes s
  | .groupStartTimeout => Sys2Proof.Machine.execGroupStartTimeout s
  | .schedFrame cancel version => Sys2Proof.Machine.execSchedFrame cancel version s
  | .stageFrame offset seq length spells entry => Sys2Proof.Machine.execStageFrame offset seq length spells entry s
  | .stageAckFrame unit bytes status => Sys2Proof.Machine.execStageAckFrame unit bytes status s
  | .staleFrame frameGen => Sys2Proof.Machine.execStaleFrame frameGen s
  | .hdmDecoderCommit head index decoder => Sys2Proof.Machine.execHdmDecoderCommit head index decoder s
  | .badOp tag op => Sys2Proof.Machine.execBadOp tag op s
  | .discardedFrame port1 => Sys2Proof.Machine.execDiscardedFrame port1 s
  | .mainPowerReturned => Sys2Proof.Machine.execMainPowerReturned s

end Sys2Proof.Machine
end

