-- ==== Sys2Proof/Safety.lean ====
section
/-!
DEFINITION. What claims call a sound state, and what no command may undo.
-/
namespace Sys2Proof.Machine

/-- The DRAM's listed bytes stand in their one canonical form: addresses strictly rising, no listed zero. -/
def Memory.wf (m : List Host.Cell) : Bool := tblWf 0 m

/-- A sound state: its memory is in canonical form. -/
def State.sound (s : State) : Prop := Memory.wf s.dram = true

/-- What every command keeps of what it found: the queue; the serial number, the revoked root keys and the provisioning lock, which are
fused; the anti-rollback and seal-break counts, which only rise; the block retirements in JOURNAL (R414); a memory in canonical form. -/
def KeptParts (a : State) (queue : List Instr) (serial : Nat) (revoked : NSet) (lock : Bool) (rollback breaks : Nat)
    (jrn : List JRec) (m : List Host.Cell) : Prop :=
  queue = a.pending ∧ serial = a.serial ∧ revoked = a.key.revoked ∧ lock = a.key.provLock ∧ a.key.antiRollback ≤ rollback ∧
    a.sal.breaksUsed ≤ breaks ∧ (∀ c d b k n, JRec.retirement c d b k n ∈ a.jrn → JRec.retirement c d b k n ∈ jrn) ∧ (Memory.wf a.dram = true → Memory.wf m = true)

/-- From `a` to `t` everything of KeptParts holds. -/
def Keeps (a t : State) : Prop :=
  KeptParts a t.pending t.serial t.key.revoked t.key.provLock t.key.antiRollback t.sal.breaksUsed t.jrn t.dram

/-- A command answers a next state, and what is said of that state holds. -/
def Yields (i : Instr) (s : State) (P : State → Prop) : Prop := ∃ t, exec i s = .next t ∧ P t

/-- A chip start is due: BOOT, its boot ROM still to run (R427), DRAM lost, with the cause UPD_BOOT.CAUSE will report (R462). -/
def StartDue (cause : Nat) (t : State) : Prop :=
  t.dev.st = .boot ∧ t.dev.startDue = true ∧ t.upd.cause = cause ∧ ∀ a, t.byteAt a = 0

/-- A condition source that stands as the Collector last saw it, so that no event is raised (R366). -/
def State.settled (s : State) (src : Nat) (on : Bool) : Bool := !on || s.flt.live.contains src

/-- None of the sources a governor tick evaluates begins at this tick: store worn, store unusable, spare space low, wear exhausted. -/
def State.calmTick (s : State) : Bool :=
  s.settled 0x54 (s.layoutOk && (budgetTick s).health.1 = 1) && s.settled 0x55 (s.layoutOk && (budgetTick s).health.1 = 2) &&
    s.settled 0xF2 (s.layoutOk && (budgetTick s).spareShort) &&
    s.settled 0xF3 s.wearOut

/-- An event of a source would take level 2 or less, and Tally's FIFO has room for its trigger: no reset follows (R369, R386). -/
def State.mild (s : State) (src : Nat) : Bool := (fltRecord src s).2 ≤ 2 && s.tly.fifo.length < 32

/-- A region's line is in the ledger cache, its fill done: an operation on it takes effect at once (R89). -/
def State.resident (s : State) (r : Nat) : Bool := (s.cached r).any fun e => !e.filling

/-- The lines of posted writes' granules are all in the ledger cache: their MARKs take effect at once. -/
def State.residentFor (s : State) (l : List Posted) : Prop :=
  ∀ p ∈ l, p.dpa / granuleBytes < s.granules ∧ s.resident (regionOf (p.dpa / granuleBytes)) = true

/-- The bytes and the poison once posted writes are committed in order (R84, R133, R301); a failed channel's are discarded (R319). -/
def State.posting (s : State) (l : List Posted) : State :=
  l.foldl (fun v p =>
    if (v.dchan (v.site p.dpa).channel).failed then v
    else
      { v.putBytes p.dpa p.data with
        poison := poisonAfter (p.dpa / lineBytes) (p.data.length = 64) p.poison p.mergeBad v.poison }) s

/-! ### What mailbox commands and Rake Port requests need and answer -/

/-- A guarded command of a served head on the vendor set's version 2.x, with the cell's generation, from its holder (R276, R277). -/
abbrev State.Guard (s : State) (h : Head) (cell : Nat) (gen : BitVec 16) : Prop :=
  s.served h = true ∧ (s.heads.get h).cmdMajor ≠ 1 ∧ (s.cell cell).gen = gen ∧ s.holds h cell = true

/-- A vendor command completed on a head with a Chapen status and a payload (R279). -/
abbrev State.Answered (t : State) (h : Head) (op status : Nat) (p : Payload) : Prop :=
  t.replies.mbox.get h = some { opcode := op, code := cxlCode status, status := some status, payload := p }

/-- A CXL-defined command completed on a head with a return code. -/
abbrev State.AnsweredCxl (t : State) (h : Head) (op code : Nat) (p : Payload) : Prop :=
  t.replies.mbox.get h = some { opcode := op, code := code, status := none, payload := p }

/-- The Rake Port takes a request of an operation present since a version: no answer waits, HELLO is done (R509 to R515). -/
abbrev State.RakeReady (s : State) (since : Nat) : Prop :=
  s.alive = true ∧ s.svc.response = none ∧ s.svc.negotiated = true ∧ since ≤ s.svc.major * 256 + s.svc.minor

/-- A Rake Port request answered (R509, R512). -/
abbrev State.RakeAnswered (t : State) (op tag status : Nat) (p : Payload) : Prop := t.svc.response = some ⟨op, tag, status, p⟩

end Sys2Proof.Machine
end

