-- ==== Sys2Proof/Certificates/Slice0/Obligations.lean ====
section
/-!
DEFINITION. The statements about the machine that are open to proof, chapter by chapter.
-/
open Sys2Proof Sys2Proof.Machine

/-- R15, R544: VAON enters its range in OFF; it leaves it in any other state.
Where it says more than those rules do, it states the model's choices of log entries 5, 65 and 66. -/
def Obligations.PowerUpAndDown : Prop :=
  (∀ s, s.dev.st = .off → Yields (.vaonRise false) s fun t =>
      t.dev.st = .boot ∧ t.dev.startDue = true ∧ t.pins.recover = false ∧ t.bed = s.bed ∧ t.jrn = s.jrn ∧ ∀ a, t.byteAt a = s.byteAt a) ∧
  (∀ s, s.dev.st = .off → (∀ e ∈ s.cel.sectors, e.2.flag = false) → s.cel.retireOwed = [] → Yields (.vaonRise true) s fun t =>
      t.dev.st = .recovery ∧ t.dev.startDue = false ∧ t.pins.recover = true ∧ t.upd.recoveryCause = 1 ∧ t.tly.ready = true ∧
      t.bed = s.bed ∧ t.jrn = s.jrn ∧ ∀ a, t.byteAt a = s.byteAt a) ∧
  (∀ s, s.dev.st ≠ .off → Yields .vaonFall s fun t =>
      t.dev.st = .off ∧ t.dev.aonUs = 0 ∧ (∀ a, t.byteAt a = 0) ∧ t.jrn = s.jrn ∧ t.bed.pages = s.bed.pages ∧
      t.bed.ckpts = s.bed.ckpts ∧ t.key.owner = s.key.owner ∧ t.key.antiRollback = s.key.antiRollback ∧
      t.sal.breaksUsed = s.sal.breaksUsed ∧ t.pip.blobs = s.pip.blobs)

/-- R544, R545, R15: what a main domain released and a main rail failed lead to.
Where it says more than those rules do, it states the model's choices of log entries 65 and 66. -/
def Obligations.MainRails : Prop :=
  (∀ s, s.dev.mainUp = false → s.dev.st ≠ .off → s.dev.st ≠ .halt → s.dev.st ≠ .sealed → Yields .mainDomainRelease s fun t =>
      t = { s with dev := { s.dev with mainUp := true }, pins := { s.pins with mainPower := true } }) ∧
  (∀ s, s.dev.mainUp = false → s.dev.st = .halt → s.dev.halt = .fault → Yields .mainDomainRelease s fun t =>
      StartDue 3 t ∧ t.dev.mainUp = true) ∧
  (∀ s, s.dev.mainUp = true → resettable s = true → Yields .mainRailFail s fun t =>
      StartDue 3 t ∧ t.dev.mainUp = false ∧ t.tly.ring = [] ∧ t.jrn = s.jrn ∧ t.bed.pages = s.bed.pages) ∧
  (∀ s, s.dev.mainUp = true → s.saving = true → Yields .mainRailFail s fun t =>
      t.dev.st = .halt ∧ t.dev.halt = .fault ∧ t.sal.holdEn = false ∧ t.sal.holdArm = false ∧ t.pins.errLow = true ∧
      t.tly.ring = [] ∧ (∀ a, t.byteAt a = 0) ∧ t.heads.a.up = false ∧ t.heads.b.up = false)

/-- R15, R62, R356: what power-good does in SEALED.
Where it says more than those rules do, it states the model's choices of log entries 5 and 65. -/
def Obligations.PowerGoodRestarts : Prop :=
  ∀ s ms, s.dev.st = .sealed → s.sal.cal.pgMs ≤ ms →
    (s.dev.savedBy ≠ 3 → s.dev.savedBy ≠ 5 → Yields (.powerGood ms) s fun t =>
      t.dev.st = .boot ∧ t.dev.startDue = true ∧ t.upd.cause = 1) ∧
    (s.dev.savedBy = 3 → Yields (.powerGood ms) s fun t =>
      t.dev.st = (if s.dev.coolOk then .boot else .sealed) ∧ (s.dev.coolOk = false → t.dev.pgOk = true)) ∧
    (s.dev.savedBy = 5 → Yields (.powerGood ms) s fun t =>
      t.dev.st = (if s.dev.cycled then .boot else .sealed) ∧ (s.dev.cycled = false → t.dev.pgOk = true)) ∧
    (Yields (.powerGood ms) s fun t => t.dev.aonUs = s.dev.aonUs + ms * 1000 ∧ t.bed = s.bed ∧ t.jrn = s.jrn ∧ t.lay = s.lay)

/-- R549: RST_N by the state its release finds. The two widths of the rule decide which of the two commands arrives. -/
def Obligations.ResetPin : Prop :=
  (∀ s, resettable s = true → Yields .pinReset s (StartDue 2)) ∧
  (∀ s, s.dev.st = .halt → s.dev.halt = .fault → Yields .pinReset s (StartDue 2)) ∧
  (∀ s, s.saving = true → Yields .pinReset s fun t => t = { s with pins := { s.pins with rstLatched := true } }) ∧
  (∀ s, s.dev.st = .sealed → s.dev.savedBy = 5 → Yields .pinReset s fun t =>
      t.dev.st = .boot ∧ t.dev.startDue = true ∧ t.upd.cause = 2) ∧
  (∀ s, s.dev.st = .sealed → s.dev.savedBy ≠ 5 → Yields .pinReset s fun t => t = s) ∧
  (∀ s, s.dev.st = .halt → s.dev.halt = .thermal → Yields .pinReset s fun t => t = s) ∧
  (∀ s, s.dev.st = .off → Yields .pinReset s fun t => t = s) ∧
  (∀ s, Yields .rstNReject s fun t => t = s)

/-- R257, R260, R272, R276, R548.
Where it says more than those rules do, it states the model's choices of log entry 65. -/
def Obligations.HeadResetIsOneHeads : Prop :=
  ∀ s h, s.saving = false → s.alive = true → Yields (.headReset h) s fun t =>
    (t.heads.get h).up = false ∧ (t.heads.get h).decoders = [] ∧ (t.heads.get h).cmdMajor = 2 ∧ (t.heads.get h).cmdMinor = 0 ∧
    ((s.heads.get h).up = true → (t.heads.get h).grace = true ∧ (t.heads.get h).downUs = s.dev.aonUs) ∧
    t.key.spdm.get h = {} ∧ t.heads.get h.other = s.heads.get h.other ∧ t.key.spdm.get h.other = s.key.spdm.get h.other ∧
    (∀ a, t.byteAt a = s.byteAt a) ∧
    t = { s with heads := t.heads, key := { s.key with spdm := t.key.spdm }, lay := t.lay,
                 fld := { s.fld with admission := t.fld.admission, fetches := t.fld.fetches } }

/-- R57, R58, R62, R128, R139: detections, rejected excursions and main power back.
Where it says more than those rules do, it states the model's choices of log entry 18. -/
def Obligations.PowerFailDetections : Prop :=
  (∀ s v n, s.running = true → s.sal.holdArm = true → Yields (.powerFailDetection v n) s fun t =>
      t.dev.st = .harvest ∧ t.sal.holdEn = true ∧ t.hrv.trigger = (if v then 2 else 1) ∧
      t.hrv.armedAtTrigger = decide (s.dev.st = .armed) ∧ t.gov.accessHeld = true ∧
      
      t.hrv.saveSeq = s.hrv.nextSeq ∧ t.jrn.getLast? = some (.saveStart s.hrv.nextSeq (if v then 2 else 1) (decide (s.dev.st = .armed)))) ∧
  (∀ s v n, s.dev.st ≠ .off → s.saving = false → s.sal.holdArm = false → Yields (.powerFailDetection v n) s fun t =>
      t.dev.st = s.dev.st ∧ t.sal.unarmedPf = min 65535 (s.sal.unarmedPf + 1) ∧ t.jrn = s.jrn ∧ ∀ a, t.byteAt a = s.byteAt a) ∧
  (∀ s, s.dev.st ≠ .off → Yields .glitchReject s fun t =>
      t = { s with sal := { s.sal with glitches := min 65535 (s.sal.glitches + 1) } }) ∧
  (∀ s, s.saving = true → Yields .mainPowerReturned s fun t =>
      t = { s with hrv := { s.hrv with supplyReturned := true }, pins := { s.pins with mainPower := true } })

/-- R24: a reading never published stands as an invalid one. -/
def Obligations.EnergyCountsAsZero : Prop :=
  ∀ s : State, (s.sal.valid = false → s.ownEuse = 0) ∧ (s.sal.euseAtUs + 4000 < s.dev.aonUs → s.ownEuse = 0) ∧
    (s.sal.valid = true → s.dev.aonUs ≤ s.sal.euseAtUs + 4000 → s.ownEuse = s.sal.euse)

/-- R22 to R28, R44, R115, R214: `c` are the conditions of R23 with Crystal Beds' free space as this tick evaluates it.
Where it says more than those rules do, it states the model's choices of log entry 16. -/
def Obligations.GovernorTick : Prop :=
  ∀ s : State, s.ticks = true → s.calmTick = true → Yields .governorTick s fun t =>
    let c := (storeTick (budgetTick s)).conditions s.euseNow
    t.gov.euse = s.euseNow ∧ t.gov.eneed = s.eneedOf s.map.total ∧ t.gov.bsup = min 0x10000000 (s.bsupOf s.euseNow) ∧
    t.gov.bceil = s.bceilOf s.euseNow ∧ t.gov.backlog = s.map.total ∧ t.gov.cond = c ∧
    (s.dev.st = .armed → s.disarmCause c ≠ 0 → t.dev.st = .unarmed ∧ t.gov.lastDisarm = s.disarmCause c ∧
      t.gov.backpressure = false ∧ t.gov.pdom = false) ∧
    (s.dev.st ≠ .armed ∨ s.disarmCause c = 0 → t.dev.st = s.dev.st) ∧
    t.gov.heldTicks = (if c.all then s.gov.heldTicks + 1 else 0) ∧
    t.gov.holdoffDone = (c.all && decide (s.govParams.holdoffMs * 4 ≤ t.gov.heldTicks)) ∧
    t.jrn = s.jrn ∧ t.map = s.map ∧ t.key = s.key ∧ t.pans = s.pans ∧ t.sem = s.sem ∧ ∀ a, t.byteAt a = s.byteAt a

/-- R22, R25, R34, R37, R40, R119, R120.
Where it says more than those rules do, it states the model's choices of log entry 67. -/
def Obligations.ArmingAndWear : Prop :=
  (∀ s, s.dev.st = .unarmed → s.gov.cond.all = true → s.gov.holdoffDone = true → s.tly.fifo.length < 31 →
      Yields .armDevice s fun t =>
      t.dev.st = .armed ∧ t.gov.armGen = s.gov.armGen + 1 ∧ t.sal.holdArm = true ∧
      (s.pip.sanStep = 0 → t.gov.accessHeld = false ∧ t.gov.pdom = true ∧
        (s.gov.accessHeld = true → s.journalRoom = true → t.imageOpen = true)) ∧ t.map = s.map ∧ ∀ a, t.byteAt a = s.byteAt a) ∧
  (∀ s, s.ticks = true → s.settled 0xF3 s.wearOut = true → Yields .wearDayBoundary s fun t =>
      let d := { s.drn with dElapsed := min 65535 (s.drn.dElapsed + 1) }
      t = { s with drn := { d with aDay := ({ s with drn := d } : State).aDayOf }, flt := t.flt }) ∧
  (∀ s n c, s.ticks = true → s.dev.loaded = true → s.upd.refuseArm = false → s.upd.settingsHeld = false → s.tly.fifo.length < 32 →
      s.upd.areaFor s.upd.running = some n → s.upd.areaCopy n = some c → Yields .wearHourlyCommit s fun t =>
      t.drn = { s.drn with hourOverrun := 0 } ∧ t.dev = s.dev ∧ t.jrn = s.jrn ∧
      ∃ c', t.upd.areaCopy n = some c' ∧ c'.vals.wUsed = s.drn.wUsed ∧ c'.vals.overrun = s.drn.overrun ∧
        c'.vals.dElapsed = s.drn.dElapsed ∧ c'.vals.dsc = s.gov.dsc)

/-- R46, R48, R51, R60, R74, R561: SAL_SAMPLE.
Where it says more than those rules do, it states the model's choices of log entries 5 and 20. -/
def Obligations.SampleIntegrates : Prop :=
  ∀ s v i, s.salRuns = true → Yields (.salSample v i) s fun t =>
    let mv := railMv s.sal.cal.vbk s.sal.cal.ratioVbk v
    let ma := shuntMa s.sal.cal i
    t.sal.vbkMv = mv ∧ t.sal.ibkMa = ma ∧ t.sal.accUj = ((s.sal.accUj : Int) + (mv : Int) * ma * 250 / 1000000).toNat ∧
    t.dev = { s.dev with aonUs := s.dev.aonUs + 250 } ∧
    (∀ p, s.profile = some p → p.battery = false → t.sal.soc = s.sal.soc) ∧
    (s.sal.soc ≤ 1000000000 → t.sal.soc ≤ 1000000000) ∧
    (s.sal.callOad = false → t.sal.learn = s.sal.learn) ∧
    (s.sal.callOad = true → t.sal.learn.drawnUj = ((s.sal.learn.drawnUj : Int) + (mv : Int) * ma * 250 / 1000000).toNat ∧
      t.sal.learn.step = s.sal.learn.step) ∧
    t = { s with
      dev := t.dev
      sal := { s.sal with
        vbkMv := t.sal.vbkMv, ibkMa := t.sal.ibkMa, soc := t.sal.soc, tickChargeUc := t.sal.tickChargeUc, accUj := t.sal.accUj
        saveChargeUc := t.sal.saveChargeUc, saveMinMv := t.sal.saveMinMv, savePeakMa := t.sal.savePeakMa, learn := t.sal.learn } }

/-- R49, R51, R53, R54, R56, R65, R67: EUSE_PUBLISH.
Where it says more than those rules do, it states the model's choices of log entry 20. -/
def Obligations.PublishReading : Prop :=
  ∀ s a b v f, s.salRuns = true →
    let p0 := s.profile.bind fun p => p.ntc0
    let p1 := s.profile.bind fun p => p.ntc1
    let r0 := ntcTemp s.sal.cal.ntc0 p0 a
    let r1 := ntcTemp s.sal.cal.ntc1 p1 b
    s.settled 0x92 (ntcBroken p0.isSome r0 || ntcBroken p1.isSome r1) = true → s.settled 0x93 f = true → Yields (.eusePublish a b v f) s fun t =>
      t.sal.valid = decide (t.sal.invalidCause = 0) ∧ t.sal.invalidCause = t.invalidCause ∧
      (t.sal.valid = true → t.sal.euse = t.projected t.euseComputed ∧ t.sal.euseAtUs = s.dev.aonUs) ∧
      (t.sal.valid = false → t.sal.euse = s.sal.euse ∧ t.sal.euseAtUs = s.sal.euseAtUs) ∧
      (f = true → t.sal.valid = false ∧ t.sal.invalidCause = 1) ∧
      t.sal.ntc0 = ntcValid p0.isSome r0 ∧ t.sal.ntc1 = ntcValid p1.isSome r1 ∧ (a = none → t.sal.ntc0 = none) ∧
      (∀ x, r0 = some x → 1520 < x ∨ x < -720 → t.sal.ntc0 = none) ∧
      t.sal.charging = t.chargerAllowed ∧
      (∀ p, s.profile = some p → t.sal.learnedUnder = some (p.kind, p.ident)) ∧
      (t.sal.learn.step = s.sal.learn.step ∨ s.sal.learn.step = 0 ∧ t.sal.learn.step = 1 ∧ t.sal.valid = true) ∧
      t = { s with
        sal := t.sal, flt := t.flt
        drn := { s.drn with k := t.drn.k, eta := t.drn.eta, eFixed := t.drn.eFixed, eCkpt := t.drn.eCkpt } }

/-- R53 to R55, R63, R64, R66: PACK_REMOVED, NEW_SOURCE, SOC_REANCHOR, PMBUS_POLL, PMBUS_TARGET_ABSENT.
Where it says more than those rules do, it states the model's choices of log entries 20 and 22. -/
def Obligations.SourceAndCharge : Prop :=
  (∀ s p, s.profile = some p → s.salRuns = true → s.sal.vbkMv < p.plausLo → Yields .packRemoved s fun t =>
      t = { s with sal := { s.sal with packRemoved := true } }) ∧
  (∀ s p (h : Head), s.profile = some p → s.windowOpen h.port = true → s.holds h 1 = true → Yields (.newSource h.port) s fun t =>
      t.sal.capacity = p.eNom * 8 / 10 ∧ t.sal.esr = p.esrNom * 5 / 4 ∧ t.sal.learnDue = true ∧
      t.sal.learnedUnder = some (p.kind, p.ident) ∧ t.sal.cal = s.sal.cal ∧
      t = { s with sal := t.sal, drn := { s.drn with k := t.drn.k, eta := t.drn.eta, eFixed := t.drn.eFixed, eCkpt := t.drn.eCkpt } }) ∧
  (∀ s p, s.profile = some p → s.salRuns = true → s.saving = false → s.sal.callOad = false → Yields .socReanchor s fun t =>
      t.sal.soc = (if p.battery = true ∧ p.anchors s.vOc = true then p.socAt s.vOc else s.sal.soc) ∧
      t = { s with sal := { s.sal with rested := true, soc := t.sal.soc } }) ∧
  (∀ s n x r k b, s.pmbList[n]? = some x → s.salRuns = true → s.saving = false →
      ({ s with sal := { s.sal with pmb := tblPut {} n (pmbAfter (s.chargeFor x.role) (s.pmb n) r) s.sal.pmb } } : State).settled 0x90
        (({ s with sal := { s.sal with pmb := tblPut {} n (pmbAfter (s.chargeFor x.role) (s.pmb n) r) s.sal.pmb } } : State).pmbBad .charger) = true →
      ({ s with sal := { s.sal with pmb := tblPut {} n (pmbAfter (s.chargeFor x.role) (s.pmb n) r) s.sal.pmb } } : State).settled 0x91
        (({ s with sal := { s.sal with pmb := tblPut {} n (pmbAfter (s.chargeFor x.role) (s.pmb n) r) s.sal.pmb } } : State).pmbBad .converter) = true →
      s.settled 0x93 s.sal.adcFail = true → Yields (.pmbusPoll n (some r) k b) s fun t =>
      t.sal.pmb = tblPut {} n (pmbAfter (s.chargeFor x.role) (s.pmb n) r) s.sal.pmb ∧
      (x.role = .charger → t.sal.chargeDone = r.chargeDone) ∧
      (∀ p, x.role = .charger → s.profile = some p → (s.pmb n).voutMode = none →
        (t.pmb n).voutCommand = some p.chargeMv ∧ (t.pmb n).iLimit = some p.chargeMa) ∧
      (∀ p, x.role = .charger → r.chargeDone = true → s.profile = some p → p.battery = true → t.sal.soc = 1000000000) ∧
      (x.role ≠ .charger → t.sal.soc = s.sal.soc ∧ t.sal.chargeDone = s.sal.chargeDone) ∧
      t.sal.valid = decide (t.sal.invalidCause = 0) ∧ t.svc.nacks = satAdd 16 s.svc.nacks k ∧
      t = { s with svc := t.svc, sal := t.sal, flt := t.flt }) ∧
  (∀ s n, n < s.pmbList.length → s.salRuns = true → s.saving = false →
      s.settled 0x90 (s.pmbBad .charger || s.pmbOf .charger == some n) = true →
      s.settled 0x91 (s.pmbBad .converter || s.pmbOf .converter == some n) = true → s.settled 0x93 s.sal.adcFail = true →
      Yields (.pmbusTargetAbsent n) s fun t =>
      (t.pmb n).present = false ∧ (t.pmb n).absent = true ∧ (t.pmb n).vout = 0 ∧ (∀ m, m ≠ n → t.pmb m = s.pmb m) ∧
      (s.pmbOf .converter = some n → t.sal.valid = false) ∧ t = { s with sal := t.sal, flt := t.flt })

/-- R65 to R69, R74, R76: LEARN_INTERVAL, START_LEARN, ABORT_LEARN, LEARN_L1_TIMEOUT, LEARN_DISCHARGE_TIMEOUT.
Where it says more than those rules do, it states the model's choices of log entry 19. -/
def Obligations.LearningCycle : Prop :=
  (∀ s p, s.profile = some p → s.sal.learn.step = 0 →
      let P : State → Prop := fun t =>
        (s.learnOk = true → t.sal.learn.step = 1 ∧ t.sal.learn.eDraw = s.learnEuse * p.learnDepth / 1000 ∧
          t.sal.euse = s.learnEuse - t.sal.learn.eDraw ∧ t.sal.learnDue = false ∧ t.sal.deferrals = 0 ∧ t = { s with sal := t.sal }) ∧
        (s.learnOk = false → t = { s with sal := { s.sal with deferrals := min 255 (s.sal.deferrals + 1) } })
      (s.salRuns = true → s.saving = false → Yields .learnInterval s P) ∧
      (∀ h : Head, s.windowOpen h.port = true → s.holds h 1 = true → Yields (.startLearn h.port) s P)) ∧
  (∀ s, s.alive = true → s.saving = false →
      let P : Nat → State → Prop := fun n t =>
        t.sal.learn = {} ∧ t.sal.lastResult = n ∧ t.sal.callOad = false ∧ t.sal.charging = t.chargerAllowed ∧
        t.sal.capacity = s.sal.capacity ∧ t.sal.esr = s.sal.esr ∧ t.sal.cal = s.sal.cal ∧
        (s.journalRoom = true → ∃ r : SalRec, r.typ = 3 ∧ r.cause = n ∧ r.eStart = s.sal.learn.eAtStart ∧ t.jrn = s.jrn ++ [.salRec r]) ∧
        t.dev = s.dev ∧ t.map = s.map ∧ ∀ x, t.byteAt x = s.byteAt x
      (∀ h : Head, s.sal.learn.step ≠ 0 → s.windowOpen h.port = true → s.holds h 1 = true →
        Yields (.abortLearn h.port) s (P 7)) ∧
      (s.sal.learn.step = 1 → Yields .learnL1Timeout s (P 3)) ∧
      (s.sal.learn.step = 4 → Yields .learnDischargeTimeout s (P 4)))

/-- R53, R67 to R69, R76: LEARN_L1_BACKLOG_MET to LEARN_COMPLETE.
Where it says more than those rules do, it states the model's choices of log entry 19. -/
def Obligations.LearningSteps : Prop :=
  (∀ s, s.sal.learn.step = 1 → s.map.total ≤ s.bceilOf s.euseNow → Yields .learnL1BacklogMet s fun t =>
      t.sal.callOad = true ∧ t.sal.charging = false ∧ t.sal.learn.step = 3 ∧ t.sal.learn.ocvL2 = s.vOc ∧
      t.sal.learn.drawnUj = 0 ∧ t.sal.euse = s.sal.euse ∧ t = { s with sal := t.sal }) ∧
  (∀ s, s.sal.learn.step = 3 → Yields .learnEsrMeasure s fun t =>
      t.sal.learn.step = 4 ∧ t.sal.callOad = s.sal.callOad ∧ t.sal.esr = s.sal.esr ∧
      (0 < s.sal.ibkMa → t.sal.learn.esrMeasured = (((s.sal.learn.vBefore : Int) - s.sal.vbkMv) * 1000000 / s.sal.ibkMa).toNat) ∧
      t = { s with sal := t.sal, free := t.free }) ∧
  (∀ s p, s.profile = some p → s.sal.learn.step = 4 →
      s.sal.learn.eDraw ≤ s.sal.learn.drawnUj / 1000 ∨ s.sal.vbkMv ≤ p.vFloor * p.series → Yields .learnDischargeEnd s fun t =>
      t.sal.callOad = false ∧ t.sal.learn.step = 5 ∧ t = { s with sal := t.sal }) ∧
  (∀ s p, s.profile = some p → s.sal.learn.step = 5 → Yields .learnRestEnd s fun t =>
      t.sal.learn.step = 7 ∧ t.sal.rested = true ∧ t.sal.charging = t.chargerAllowed ∧ t.sal.cal = s.sal.cal ∧
      (s.sal.esr ≤ s.sal.learn.esrMeasured → t.sal.esr = s.sal.learn.esrMeasured) ∧
      (s.sal.learn.esrMeasured < s.sal.esr →
        t.sal.esr = max ((3 * s.sal.esr + s.sal.learn.esrMeasured) / 4) (s.sal.esr * 95 / 100)) ∧
      (p.kind ≠ 3 → p.anchors s.sal.learn.ocvL2 = false ∨ p.anchors s.vOc = false →
        t.sal.learn.capSkipped = true ∧ t.sal.capacity = s.sal.capacity) ∧
      (∀ m, p.kind = 3 ∨ (p.anchors s.sal.learn.ocvL2 = true ∧ p.anchors s.vOc = true) →
        measuredCap p s.sal.learn s.vOc = some m →
        t.sal.capacity = (if m ≤ s.sal.capacity then m else min ((3 * s.sal.capacity + m) / 4) (s.sal.capacity * 105 / 100))) ∧
      t.jrn = s.jrn ∧ t.dev = s.dev ∧ t.map = s.map ∧ ∀ x, t.byteAt x = s.byteAt x) ∧
  (∀ s, s.sal.learn.step = 7 → s.sal.chargeDone = true → s.alive = true → s.saving = false → Yields .learnComplete s fun t =>
      t.sal.learn = {} ∧ t.sal.learnedOnce = true ∧ t.sal.lastResult = (if s.sal.learn.capSkipped then 2 else 1) ∧
      t.sal.capacity = s.sal.capacity ∧ t.sal.esr = s.sal.esr ∧ t.sal.learnRefUs = s.dev.aonUs ∧
      (s.journalRoom = true → ∃ r : SalRec, r.typ = 2 ∧ r.esrResult = s.sal.learn.esrMeasured ∧ t.jrn = s.jrn ++ [.salRec r]) ∧
      t.dev = s.dev ∧ t.map = s.map ∧ ∀ x, t.byteAt x = s.byteAt x)

/-- R70, R72, R76, R478, R517: SEAL_NONCE, SEAL_BREAK, RAKE_SEAL_BREAK.
Where it says more than those rules do, it states the model's choices of log entries 11 and 21. -/
def Obligations.SealBreakOpens : Prop :=
  ∀ s : State,
    let good : Port → Token → Prop := fun p k =>
      s.nonceOf .seal p = some k.nonce ∧ k.identity = s.key.identity ∧ k.ecdsaOk = true ∧ k.lmsOk = true ∧
      (∃ o, s.key.owner = some o ∧ o.gen = k.signedBy) ∧
      k.count = s.sal.breaksUsed ∧ s.sal.breaksUsed < 16
    let opened : Port → State → Prop := fun p t =>
      t.sal.breaksUsed = s.sal.breaksUsed + 1 ∧ t.sal.sealOpen = true ∧ t.sal.staged = s.sal.cal ∧ t.sal.cal = s.sal.cal ∧
      t.sal.learn.step = 0 ∧ t.nonceOf .seal p = none ∧
      (s.journalRoom = true → ∃ l, ∃ r : SalRec, r.typ = 4 ∧ r.breaks = s.sal.breaksUsed + 1 ∧ t.jrn = s.jrn ++ l ++ [.salRec r]) ∧
      t.dev = s.dev ∧ ∀ x, t.byteAt x = s.byteAt x
    let strapped : Bool → State := fun b => { s with sal := { s.sal with sealStrap := b } }
    (∀ h : Head, s.served h = true → s.holds h 1 = true →
      (s.key.rbgOk = true → Yields (.sealNonce h (s.cell 1).gen) s fun t =>
        ∃ n, t.nonceOf .seal h.port = some n ∧
          t.replies.mbox.get h = some { opcode := 0xC130, code := 0, status := some 0, payload := .nonce n } ∧ t.sal = s.sal) ∧
      (∀ k, good h.port k → Yields (.sealBreak h (s.cell 1).gen k true) s fun t => opened h.port t ∧
        t.replies.mbox.get h = some { opcode := 0xC131, code := 0, status := some 0, payload := .bytes [s.sal.breaksUsed + 1] }) ∧
      (∀ k, Yields (.sealBreak h (s.cell 1).gen k false) s fun t => t = reply h 0xC131 7 .empty (strapped false)) ∧
      (∀ k, 16 ≤ s.sal.breaksUsed → Yields (.sealBreak h (s.cell 1).gen k true) s fun t => t = reply h 0xC131 8 .empty (strapped true)) ∧
      (∀ k, s.sal.breaksUsed < 16 → s.nonceOf .seal h.port ≠ some k.nonce → Yields (.sealBreak h (s.cell 1).gen k true) s fun t =>
        t = reply h 0xC131 6 .empty (verifyFail 3 (strapped true))) ∧
      (∀ k, s.nonceOf .seal h.port = some k.nonce → s.sal.breaksUsed < 16 → ¬ good h.port k →
        Yields (.sealBreak h (s.cell 1).gen k true) s fun t =>
          t = reply h 0xC131 5 .empty (verifyFail 3 (strapped true)))) ∧
    (∀ tag k, s.running = true → s.dev.startDue = false → s.svc.response = none → s.svc.negotiated = true → 1 ≤ s.svc.major → s.held 1 = false → good .rake k →
      Yields (.rakeSealBreak tag k true) s fun t => opened .rake t ∧
        t.svc.response = some ⟨0x21, tag, 0, .bytes [s.sal.breaksUsed + 1]⟩)

/-- R70 to R73, R77, R478, R532: SEAL_CLOSE, RAKE_SEAL_CLOSE, SEAL_ABANDON, CALIBRATION_WRITE, NONCE_EXPIRY.
Where it says more than those rules do, it states the model's choices of log entries 14 and 21. -/
def Obligations.SealCloses : Prop :=
  ∀ s : State, s.alive = true → s.saving = false →
    let committed : State → Prop := fun t =>
      t.sal.cal = s.sal.staged ∧ t.sal.sealOpen = false ∧ t.sal.lastClose = 1 ∧ t.sal.breaksUsed = s.sal.breaksUsed ∧
      (s.journalRoom = true → ∃ r : SalRec, r.typ = 5 ∧ r.cause = 0 ∧ t.jrn = s.jrn ++ [.salRec r]) ∧ t.dev = s.dev ∧ t.map = s.map ∧
      ∀ x, t.byteAt x = s.byteAt x
    (∀ h : Head, s.served h = true → s.holds h 1 = true →
      (s.sal.sealOpen = true → s.sal.staged.uvMv < s.sal.staged.pgMv → 10 ≤ s.sal.staged.pgMs → s.sal.staged.pgMs ≤ 1000 → Yields (.sealClose h (s.cell 1).gen) s fun t =>
        committed t ∧ ∃ d, t.replies.mbox.get h = some { opcode := 0xC132, code := 0, status := some 0, payload := .blob d }) ∧
      (s.sal.sealOpen = true → s.sal.staged.pgMv ≤ s.sal.staged.uvMv ∨ s.sal.staged.pgMs < 10 ∨ 1000 < s.sal.staged.pgMs → Yields (.sealClose h (s.cell 1).gen) s fun t =>
        t = reply h 0xC132 0x11 .empty s) ∧
      (s.sal.sealOpen = false → Yields (.sealClose h (s.cell 1).gen) s fun t => t = reply h 0xC132 3 .empty s)) ∧
    (∀ tag, s.running = true → s.dev.startDue = false → s.svc.response = none → s.svc.negotiated = true → 1 ≤ s.svc.major → s.held 1 = false →
      s.sal.sealOpen = true → s.sal.staged.uvMv < s.sal.staged.pgMv → 10 ≤ s.sal.staged.pgMs → s.sal.staged.pgMs ≤ 1000 → Yields (.rakeSealClose tag) s fun t =>
        committed t ∧ ∃ d, t.svc.response = some ⟨0x22, tag, 0, .blob d⟩) ∧
    (∀ c, s.sal.sealOpen = true → Yields (.sealAbandon c) s fun t =>
      t.sal.cal = s.sal.cal ∧ t.sal.staged = s.sal.cal ∧ t.sal.sealOpen = false ∧ t.sal.lastClose = 2 ∧
      t.sal.breaksUsed = s.sal.breaksUsed ∧ (s.journalRoom = true → ∃ r : SalRec, r.typ = 5 ∧ r.cause = 1 ∧ t.jrn = s.jrn ++ [.salRec r]) ∧
      t.dev = s.dev ∧ ∀ x, t.byteAt x = s.byteAt x) ∧
    (∀ p o v, s.windowOpen p = true → s.sal.sealOpen = true → p = .rake ∨ (∃ h : Head, p = h.port ∧ s.holds h 1 = true) →
      Yields (.calibrationWrite p o v) s fun t =>
        t = { s with sal := { s.sal with staged := t.sal.staged } } ∧
        (o = 0x120 → t.sal.staged.uvMv = v % 65536 ∧ t.sal.staged.pgMv = v / 65536 % 65536)) ∧
    (∀ p o v, s.windowOpen p = true → s.sal.sealOpen = false → Yields (.calibrationWrite p o v) s fun t => t = regViolate p 5 s) ∧
    (∀ k p, Yields (.nonceExpiry k p) s fun t => t.nonceOf k p = none ∧
      (∀ k' p', (k', p') ≠ (k, p) → t.nonceOf k' p' = s.nonceOf k' p') ∧ t = { s with key := { s.key with nonces := t.key.nonces } })

/-- R80, R83, R85 to R87, R89, R93, R100: MARK, CLAIM, COMMIT, ABANDON at a resident line.
Where it says more than those rules do, it states the model's choices of log entries 23 and 24. -/
def Obligations.MarkAndClaim : Prop :=
  (∀ s g e, s.mapOn = true → g < s.granules → s.cached (regionOf g) = some e → e.filling = false →
    let others : State → Prop := fun t => ∀ x, x ≠ g → t.dirtyBit x = s.dirtyBit x
    let rest : State → Prop := fun t => t.dev = s.dev ∧ t.jrn = s.jrn ∧ ∀ x, t.byteAt x = s.byteAt x
    let step : Nat → State → Prop := fun n t =>
      t.map.total + (if s.dirtyBit g then 1 else 0) = s.map.total + n ∧
      (t.rstOf (regionOf g)).dirty + (if s.dirtyBit g then 1 else 0) = (s.rstOf (regionOf g)).dirty + n
    Yields (.markGranule g .none) s (fun t =>
      t.dirtyBit g = true ∧ others t ∧ rest t ∧ step 1 t ∧ (t.rstOf (regionOf g)).epoch = s.map.epoch ∧ t.map.inflight = s.map.inflight ∧
      t.map.hmap = s.map.hmap) ∧
    (s.dirtyBit g = false → Yields (.claimGranule ⟨g, .none⟩) s fun t =>
      t.map.lastAnswer = some .clean ∧ t.dirtyBit g = false ∧ others t ∧ rest t ∧ t.map.inflight = s.map.inflight) ∧
    (s.dirtyBit g = true → s.map.inflight.contains g = true → Yields (.claimGranule ⟨g, .none⟩) s fun t =>
      t.map.lastAnswer = some .busy ∧ t.dirtyBit g = true ∧ others t ∧ rest t ∧ t.map.inflight = s.map.inflight) ∧
    (s.dirtyBit g = true → s.map.inflight.contains g = false → 8192 ≤ s.map.inflight.length → Yields (.claimGranule ⟨g, .none⟩) s fun t =>
      t.map.lastAnswer = some .waiting ∧ t.dirtyBit g = true ∧ others t ∧ rest t ∧ t.map.inflight = s.map.inflight ∧
      t.map.claimWait = s.map.claimWait ++ [g]) ∧
    (s.dirtyBit g = true → s.map.inflight.contains g = false → s.map.inflight.length < 8192 → 0 < s.map.total →
      0 < (s.rstOf (regionOf g)).dirty → Yields (.claimGranule ⟨g, .none⟩) s fun t =>
      t.map.lastAnswer = some .grant ∧ t.dirtyBit g = false ∧ others t ∧ rest t ∧ step 0 t ∧ t.map.inflight = setAdd g s.map.inflight ∧
      t.drn.path = s.drn.path ++ [⟨g, .claimed, s.dev.aonUs⟩]) ∧
    (s.map.inflight.contains g = true → s.map.claimWait = [] →
      Yields (.abandonGranule g) s (fun t =>
        t.dirtyBit g = true ∧ others t ∧ rest t ∧ step 1 t ∧ t.map.inflight.contains g = false ∧ t.map.hmap = s.map.hmap) ∧
      (s.abandoning g = false → ∀ m, Yields (.commitGranule ⟨g, .none⟩ m) s fun t =>
        t.hmOf g = m ∧ (∀ x, x ≠ g → t.hmOf x = s.hmOf x) ∧ (∀ x, t.dirtyBit x = s.dirtyBit x) ∧ rest t ∧
        t.map.inflight.contains g = false))) ∧
  (∀ s g d, s.mapOn = true → g < s.granules →
    let u := mapRepair (regionOf g) d s
    u.mapOn = true → g < u.granules →
      exec (.markGranule g d) s = exec (.markGranule g .none) u ∧
      exec (.claimGranule ⟨g, d⟩) s = exec (.claimGranule ⟨g, .none⟩) u)

/-- R91, R94 to R96, R99, R100: EPOCH_ADVANCE, AUDIT, CACHE_FILL_COMPLETE.
Where it says more than those rules do, it states the model's choices of log entries 23 and 24. -/
def Obligations.EpochAuditFill : Prop :=
  (∀ s, s.running = true → Yields .epochAdvance s fun t =>
      t.map.epoch = (s.map.epoch + 1) % 256 ∧ t.map.total = s.map.total ∧ t.map.cache = s.map.cache ∧ t.map.lines = s.map.lines ∧
      (∀ r, r < s.regions → (t.rstOf r).dirty = (s.rstOf r).dirty ∧ ageOf t.map.epoch (t.rstOf r).epoch ≤ 192 ∧
        (t.rstOf r).hot = decide (ageOf t.map.epoch (t.rstOf r).epoch < s.hotEpochs)) ∧
      (∀ r, t.lineOf r = s.lineOf r) ∧ t = { s with map := t.map }) ∧
  (∀ s r, s.running = true → s.map.ready = true → r < s.regions → lineCount (s.lineOf r) = (s.rstOf r).dirty →
      Yields (.auditRegion r .none) s fun t =>
        let a := s.map.audited ||| 2 ^ r
        (a ≠ 2 ^ s.regions - 1 → t.map.audited = a ∧ t.map.passes = s.map.passes) ∧
        (a = 2 ^ s.regions - 1 → t.map.audited = 0 ∧ t.map.passes = (s.map.passes + 1) % 2 ^ 24) ∧
        t = { s with map := { s.map with passes := t.map.passes, audited := t.map.audited } }) ∧
  (∀ s r d c, s.running = true → s.map.ready = true → r < s.regions →
      d = .none ∧ lineCount (s.lineOf r) ≠ (s.rstOf r).dirty ∧ c = 1 ∨ d = .lineUncorrectable ∧ c = 2 ∨ d = .cacheUncorrectable ∧ c = 3 →
      (s.cached r).any (·.filling) = false → s.mild 0x80 = true → Yields (.auditRegion r d) s fun t =>
        t.lineOf r = fullLine ∧ (t.rstOf r).dirty = 512 ∧ t.map.repairs = satAdd 16 s.map.repairs 1 ∧ t.map.lastCause = c ∧
        t.map.repairRegion = r ∧ t.dev = s.dev ∧ t.jrn = s.jrn ∧ ∀ x, t.byteAt x = s.byteAt x) ∧
  (∀ s r e, r < s.regions → s.saving = false → s.cached r = some e → e.filling = true → e.waiting = [] → s.map.stalled = [] →
      s.map.claimWait = [] → s.mild 0x80 = true → Yields (.cacheFillComplete r true) s fun t =>
        t.lineOf r = fullLine ∧ (t.rstOf r).dirty = 512 ∧ t.map.repairs = satAdd 16 s.map.repairs 1 ∧ t.map.lastCause = 2 ∧
        t.map.repairRegion = r ∧ t.dev = s.dev ∧ t.jrn = s.jrn ∧ ∀ x, t.byteAt x = s.byteAt x) ∧
  (∀ s r g e, r < s.regions → regionOf g = r → s.cached r = some e → e.filling = true → e.waiting = [.mark g] → s.map.stalled = [] →
      s.map.claimWait = [] → Yields (.cacheFillComplete r false) s fun t =>
        t.dirtyBit g = true ∧ (∀ x, regionOf x = r → x ≠ g → t.dirtyBit x = (tblGet 0 s.map.lines r).testBit (bitOf x)) ∧
        (t.cached r).any (fun c => !c.filling) = true ∧ t.dev = s.dev ∧ t.jrn = s.jrn ∧ ∀ x, t.byteAt x = s.byteAt x)

/-- R86, R87, R102 to R107, R188, R203: DRAIN_SLOT, DRAIN_READ_COMPLETE, PARTIAL_PAGE_TIMEOUT, PAGE_PROGRAM_COMPLETE, PROGRAM_FAIL,
DRAIN_TIMEOUT. `settle` is the work that follows every change of the store (R109, R206, R209, R229).
Where it says more than those rules do, it states the model's choices of log entries 25 and 26. -/
def Obligations.DrainPath : Prop :=
  (∀ s q, s.running = true → Yields (.drainSlot q) s fun t =>
      (∀ i ∈ t.drn.path, i.step = .reading → ∃ j ∈ s.drn.path, j.granule = i.granule) ∧
      (s.drainsNow = false → t.map = s.map ∧ t.drn.work = none) ∧ t.jrn = s.jrn ∧ t.dev = s.dev ∧ ∀ x, t.byteAt x = s.byteAt x) ∧
  (∀ s g n l, s.running = true ∨ s.saving = true → (s.drn.path.any fun i => i.granule == g && i.step = .reading) = true →
      (∀ k, k < 64 → s.poison.contains (g * 64 + k) = false ∧ (s.dchan (s.site ((g * 64 + k) * 64)).channel).failed = false) →
      Yields (.drainReadComplete g [] n l) s fun t => t.dev = s.dev ∧ (∀ x, t.byteAt x = s.byteAt x) ∧
      ∃ u, t = settle u ∧ u.map = s.map ∧
        ((u.drn.path = s.drn.path.map (fun i => if i.granule = g then { i with step := .staged } else i) ∧
            u.bed.stageQ = s.bed.stageQ ∧ ∃ q ∈ u.bed.staged, ∃ y ∈ q.recs, y.granule = g) ∨
          (u.drn.path = s.drn.path.map (fun i => if i.granule = g then { i with step := .waiting } else i) ∧
            (u.bed.stageQ.map fun i => i.2.granule) = (s.bed.stageQ.map fun i => i.2.granule) ++ [g]))) ∧
  (∀ s g k n l, s.running = true → (s.drn.path.any fun i => i.granule == g && i.step = .reading) = true → k < 64 →
      s.poison.contains (g * 64 + k) = true → s.map.claimWait = [] → Yields (.drainReadComplete g [] n l) s fun t =>
      (t.hmOf g).state = .lost ∧ (∀ x, x ≠ g → t.hmOf x = s.hmOf x) ∧ t.map.inflight = setDel g s.map.inflight ∧
      (∀ x, t.dirtyBit x = s.dirtyBit x)) ∧
  (∀ s r c f p, s.stagedAt r c f = some p →
      (s.running = false → exec (.partialPageTimeout r c f) s = .next s) ∧
      (s.running = true → Yields (.partialPageTimeout r c f) s fun t => ∃ u, t = settle u ∧
        u = { s with bed := { s.bed with staged := u.bed.staged } } ∧
        u.bed.staged = s.bed.staged.map (fun q => if samePage p q then { q with closed := true } else q))) ∧
  (∀ s r c f u p w x, s.running = true ∨ s.saving = true → s.stagedAt r c f = some p → p.sent = true → s.row r = some w →
      p.recs = [x] → p.spills = false → x.live = true → x.src = none → s.map.inflight.contains x.granule = true →
      s.map.claimWait = [] → (∀ q ∈ s.bed.pages, q.spills = false) → Yields (.pageProgramComplete r c f u) s fun t =>
      t.dev = s.dev ∧ (∀ y, t.byteAt y = s.byteAt y) ∧ ∃ v, t = settle v ∧
      v.hmOf x.granule = { state := .stored, loc := s.locOf w p x.slot, length := x.length, raw := x.raw } ∧
      (∀ y, y ≠ x.granule → v.hmOf y = s.hmOf y) ∧ v.map.inflight = setDel x.granule s.map.inflight ∧
      ∀ y, v.dirtyBit y = s.dirtyBit y) ∧
  (∀ s r c f p w x e, s.running = true → s.stagedAt r c f = some p → p.sent = true → s.row r = some w → p.channel = c →
      p.recs = [x] → x.live = true → x.src = none → s.map.claimWait = [] → (∀ q ∈ s.bed.pages, q.spills = false) →
      (s.chan c).dieFails = [] → s.mild 0x52 = true → x.granule < s.granules → s.cached (regionOf x.granule) = some e →
      e.filling = false → Yields (.programFail r c f) s fun t => ∃ u, t = settle u ∧
      u.dirtyBit x.granule = true ∧ (∀ y, y ≠ x.granule → u.dirtyBit y = s.dirtyBit y) ∧
      u.map.inflight = setDel x.granule s.map.inflight ∧ u.map.hmap = s.map.hmap ∧
      u.drn.abProgram = satAdd 16 s.drn.abProgram 1 ∧ (u.blk c w.lane (w.blockOn c)).failed = true) ∧
  (∀ s g e, s.running = true → s.map.inflight.contains g = true → g < s.granules → s.cached (regionOf g) = some e →
      e.filling = false → s.map.claimWait = [] → Yields (.drainTimeout g) s fun t =>
      t.dirtyBit g = true ∧ (∀ y, y ≠ g → t.dirtyBit y = s.dirtyBit y) ∧ t.map.inflight = setDel g s.map.inflight ∧
      t.map.hmap = s.map.hmap ∧ t.drn.abOther = satAdd 16 s.drn.abOther 1)

/-- R108, R109, R122, R123, R185, R202, R204: STRIPE_TIMEOUT, MAP_SEGMENT_TIMEOUT, LOST_PAGE, PAUSE, RESUME, PAUSE_MAX_EXPIRY. `settle` is the
work that follows every change of the store (R109, R206, R209, R229).
Where it says more than those rules do, it states the model's choices of log entries 25, 26 and 27. -/
def Obligations.StoreTimersAndPause : Prop :=
  (∀ s r k w, s.running = true ∨ s.saving = true → s.row r = some w → w.state = .opened →
      (¬(k * (w.width - 1) < w.cursor ∧ w.cursor < (k + 1) * (w.width - 1)) → exec (.stripeTimeout r k) s = .next s) ∧
      (k * (w.width - 1) < w.cursor → w.cursor < (k + 1) * (w.width - 1) → Yields (.stripeTimeout r k) s fun t =>
        t.dev = s.dev ∧ (∀ x, t.byteAt x = s.byteAt x) ∧ ∃ u, t = settle u ∧
        (∃ x, u.row r = some x ∧ x.cursor = (k + 1) * (w.width - 1)) ∧
        (∃ pads, u.bed.staged = (s.bed.staged ++ pads).map (fun p => if p.rowSeq = r && p.stripe = k then { p with closed := true } else p) ∧
          pads.length = (k + 1) * (w.width - 1) - w.cursor ∧ ∀ p ∈ pads, p.rowSeq = r ∧ p.padding = true ∧ p.closed = true ∧ p.recs = []) ∧
        u.bed.pages = s.bed.pages ∧ u.map = s.map)) ∧
  (∀ s w, s.running = true ∨ s.saving = true ∧ s.hrv.m3 = false → s.drn.delta ≠ [] → s.segmentLines ≠ 0 → s.openRow .map 0 = some w →
      w.cursor < s.rowPages w → s.bufferFree = true → Yields .mapSegmentTimeout s fun t =>
      t.dev = s.dev ∧ (∀ x, t.byteAt x = s.byteAt x) ∧ ∃ u, t = settle u ∧
      u.drn.delta = s.drn.delta.filter (fun n => !(s.drn.delta.take s.segmentLines).contains n) ∧
      (∃ p ∈ u.bed.staged, p.kind = .mapSegment ∧ p.rowSeq = w.seq ∧ p.lines = (s.drn.delta.take s.segmentLines).map fun n => s.hmLine n) ∧
      u.map = s.map) ∧
  (∀ s r c k w p g, s.running = true → s.row r = some w → w.parityDone.contains k = false →
      (s.bed.pages.find? fun p => p.rowSeq == r && p.channel == c && p.stripe == k) = some p → s.inPage w p = [g] →
      (∀ x ∈ p.recs, x.src = none) →
      let counted : State → Prop := fun u =>
        u.bed.lostPages = satAdd 16 s.bed.lostPages 1 ∧ u.bed.pages = s.bed.pages.filter (fun q => !samePage p q) ∧ u.dev = s.dev
      (∀ e, s.restoredBit g = true → g < s.granules → s.cached (regionOf g) = some e → (s.map.cache.any fun e => e.filling) = false →
        Yields (.lostPage r c k) s fun t => t.fld = s.fld ∧ ∃ u, t = settle u ∧ counted u ∧
        u.dirtyBit g = true ∧ (∀ x, x ≠ g → u.dirtyBit x = s.dirtyBit x) ∧ u.map.hmap = s.map.hmap) ∧
      (s.restoredBit g = false → Yields (.lostPage r c k) s fun t => t.fld.lost = setAdd g s.fld.lost ∧
        t.fld.unreadable = satAdd 16 s.fld.unreadable 1 ∧ t.restoredBit g = true ∧ ∃ u, t = settle u ∧ counted u ∧
        (u.hmOf g).state = .lost ∧ ∀ x, x ≠ g → u.hmOf x = s.hmOf x)) ∧
  (∀ s r c k w p x l y, s.running = true → s.row r = some w → w.parityDone.contains k = false →
      (s.bed.pages.find? fun p => p.rowSeq == r && p.channel == c && p.stripe == k) = some p → p.recs = [x] → x.src = some l →
      names (s.hmOf x.granule) (s.locOf w p x.slot) = true → s.recAt l = some y → y.granule = x.granule → s.locOf w p x.slot ≠ l →
      (∀ q ∈ s.bed.pages, q.spills = false) → Yields (.lostPage r c k) s fun t => t.fld = s.fld ∧ t.dev = s.dev ∧ ∃ u, t = settle u ∧
      u.bed.lostPages = satAdd 16 s.bed.lostPages 1 ∧ u.bed.pages = s.bed.pages.filter (fun q => !samePage p q) ∧
      u.map = { s.map with hmap := tblPut {} x.granule { state := .stored, loc := l, length := x.length, raw := x.raw } s.map.hmap }) ∧
  (∀ s h, s.windowOpen (Head.port h) = true → s.holds h 1 = true → s.running = true → s.drn.paused = false →
      (∀ i ∈ s.drn.path, i.step ≠ .claimed) → s.tly.fifo.length < 32 → s.map.total < s.drn.bwh →
      Yields (.pauseDrain h.port) s fun t =>
      t = { s with drn := { s.drn with paused := true }, tly := t.tly
                   map := { s.map with claimWait := [], stalled := s.map.stalled.filter fun o => !o.isClaim
                                       cache := s.map.cache.map fun e => { e with waiting := e.waiting.filter fun o => !o.isClaim } } }) ∧
  (∀ s h, s.windowOpen (Head.port h) = true → s.holds h 1 = true → s.drn.paused = true → s.tly.fifo.length < 32 →
      Yields (.resumeDrain h.port) s fun t =>
      t = { s with drn := { s.drn with paused := false, lastPauseEnd := 1 }, tly := t.tly }) ∧
  (∀ s, s.running = true → s.drn.paused = true → s.tly.fifo.length < 32 → Yields .pauseMaxExpiry s fun t =>
      t = { s with drn := { s.drn with paused := false, lastPauseEnd := 3 }, tly := t.tly })

/-- R129, R277 to R280: Harvest Now.
Where it says more than those rules do, it states the model's choices of log entry 40. -/
def Obligations.PlannedShutdown : Prop :=
  ∀ s h gen, s.served h = true → (s.cell 1).gen = gen → s.holds h 1 = true →
    (s.running = true → s.sal.holdArm = true → s.pip.sanStep = 0 → Yields (.harvestNow h gen false) s fun t =>
      t.dev.st = .harvest ∧ t.hrv.trigger = 5 ∧ t.hrv.planned = true ∧ t.sal.holdEn = true ∧ t.gov.accessHeld = true ∧
      t.replies.mbox.get h = some { opcode := 0xC111, code := 0, status := some 0, payload := .empty }) ∧
    (∀ c, s.running = false ∨ s.sal.holdArm = false → Yields (.harvestNow h gen c) s fun t =>
      t = reply h 0xC111 3 .empty s) ∧
    (∀ c, s.running = true → s.sal.holdArm = true → c = true ∨ s.pip.sanStep ≠ 0 → Yields (.harvestNow h gen c) s fun t =>
      t = reply h 0xC111 4 .empty s)

/-- R60, R140 to R142, R152, R155: ECONS_PUBLISH and DATA_PHASE_END. `r` is the state the points are tested in.
Where it says more than those rules do, it states the model's choices of log entry 28. -/
def Obligations.SavePacing : Prop :=
  (∀ s a b, s.saving = true → s.hrv.m3 = true → Yields (.econsPublish a b) s fun t =>
      t.sal = { s.sal with econs := s.sal.accUj / 1000 } ∧ t.hrv = { s.hrv with phyForced := t.hrv.phyForced, deferred := t.hrv.deferred } ∧ t.dev = s.dev ∧
      t.pip = s.pip ∧ t.map = s.map ∧ t.bed = s.bed ∧ t.jrn = s.jrn ∧ (∀ x, t.byteAt x = s.byteAt x) ∧
      t.heads.a.phyOff = true ∧ t.heads.b.phyOff = true ∧
      (s.heads.a.phyOff = true → s.heads.b.phyOff = true → t = { s with sal := { s.sal with econs := s.sal.accUj / 1000 } })) ∧
  (∀ s a b, s.saving = true → s.hrv.m3 = false → s.hrv.thermalEnd = false → s.hrv.endNow = false →
      Yields (.econsPublish a b) s fun t =>
      let e := s.sal.accUj / 1000
      let r := repace { s with sal := { s.sal with econs := e } }
      t.sal.econs = e ∧ t.hrv.m1 = (s.hrv.m1 || decide (r.hrv.pM1 ≤ e)) ∧ t.hrv.m2 = (s.hrv.m2 || decide (r.hrv.pM2 ≤ e)) ∧
      (r.hrv.pM3 ≤ e → t.hrv.m3 = true ∧ t.hrv.m3Point = true ∧ t.hrv.eM3 = e) ∧
      (r.hrv.pM1 ≤ e → s.hrv.m1 = false → t.pip.fast = true) ∧
      (r.hrv.pM2 ≤ e → s.hrv.m2 = false → t.heads.a.phyOff = true ∧ t.heads.b.phyOff = true ∧
        t.hrv.phyForced = (s.hrv.phyForced || !a || !b)) ∧
      t.dev.st = s.dev.st ∧ t.jrn = s.jrn ∧ ∀ x, t.byteAt x = s.byteAt x) ∧
  (∀ s a b, s.saving = true → s.hrv.m3 = false → s.hrv.thermalEnd = true ∨ s.hrv.endNow = true →
      Yields (.econsPublish a b) s fun t =>
      let e := s.sal.accUj / 1000
      let r := repace { s with sal := { s.sal with econs := e } }
      t.hrv.m3 = true ∧ t.hrv.m3Point = (s.hrv.m3Point || decide (r.hrv.pM3 ≤ e)) ∧ t.hrv.eM3 = e ∧
      t.heads.a.phyOff = true ∧ t.heads.b.phyOff = true) ∧
  (∀ s a b, s.saving = true → s.hrv.m3 = false → s.backlogDone = true → Yields (.dataPhaseEnd a b) s fun t =>
      t.hrv.m3 = true ∧ t.hrv.m3Point = s.hrv.m3Point ∧ t.hrv.eM3 = s.sal.econs ∧ t.dev.st = s.dev.st ∧ t.jrn = s.jrn ∧
      t.heads.a.phyOff = true ∧ t.heads.b.phyOff = true ∧ ∀ x, t.byteAt x = s.byteAt x)

/-- R40, R61, R75, R145 to R151, R154: TAIL_COMPLETE, SEAL and VABS_RELEASE.
Where it says more than those rules do, it states the model's choices of log entry 29. -/
def Obligations.CheckpointAndSeal : Prop :=
  (∀ s a b, s.saving = true → s.hrv.m3 = true → s.hrv.phase = 4 → (runTail s).activeCh ≠ [] → Yields (.tailComplete true a b) s fun t =>
      let u := runTail s
      t.hrv.phase = 5 ∧ t.hrv.eTail = s.sal.econs ∧ t.dev.st = s.dev.st ∧ t.jrn = s.jrn ∧
      ∃ c, t.bed.ckpts = c :: u.bed.ckpts ∧ c.copyA = (a && decide (u.copyDies false ≠ [])) ∧ c.copyB = (b && decide (u.copyDies true ≠ [])) ∧
        c.hdr.saveSeq = s.hrv.saveSeq ∧ c.isSealed = false ∧
        c.hdr.unsaved = u.map.total ∧ c.hdr.outcome = (if u.map.total = 0 then 1 else 2)) ∧
  (∀ s c a b, s.saving = true → s.hrv.m3 = true → s.hrv.phase = 4 → c = false ∨ (runTail s).activeCh = [] →
      Yields (.tailComplete c a b) s fun t => t.hrv.phase = 5 ∧ t.hrv.failed = true ∧ t.bed.ckpts = (runTail s).bed.ckpts) ∧
  (∀ s a b d x y, s.cel.op = .erasing x y → exec (.sealSave a b d) s = .next s) ∧
  (∀ s c cs a b, s.saving = true → s.hrv.phase = 5 → s.hrv.failed = false → s.bed.ckpts = c :: cs → (∀ x y, s.cel.op ≠ .erasing x y) →
      c.hdr.saveSeq = s.hrv.saveSeq → s.pins.rstLatched = false → Yields (.sealSave a b true) s fun t =>
      let ok := (c.copyA && a) || (c.copyB && b)
      t.dev.st = .sealed ∧ t.dev.savedBy = s.hrv.trigger ∧ t.sal.holdEn = false ∧ (∀ x, t.byteAt x = 0) ∧
      t.bed.ckpts = (if ok then { c with copyA := c.copyA && a, copyB := c.copyB && b, isSealed := true } :: cs else cs) ∧
      (ok = true → t.imageOpen = false ∧ ∃ r : SalRec, r.typ = 1 ∧ r.cause = s.hrv.trigger ∧
        t.jrn = closeImage (s.jrn ++ [.locator s.hrv.saveSeq c.hdr.locA c.hdr.locB, .salRec r])) ∧
      (ok = false → ∃ r : SalRec, r.typ = 1 ∧ t.jrn = s.jrn ++ [.salRec r])) ∧
  (∀ s, s.saving = true → Yields .vabsRelease s fun t =>
      t.dev.st = .halt ∧ t.dev.halt = .vabs ∧ t.dev.savedBy = s.hrv.trigger ∧ t.sal.holdEn = false ∧ t.gov.accessHeld = true ∧
      t.jrn = s.jrn ∧ t.bed = s.bed ∧ ∀ x, t.byteAt x = 0)

/-- R18, R20, R29, R35, R84, R132, R173, R174, R179, R186, R286, R297, R299, R301, R303, R319: HOST_MEM_READ, HOST_MEM_WRITE,
GLOBAL_PERSISTENT_FLUSH, POSTED_CREDIT_RESUME.
Where it says more than those rules do, it states the model's choices of log entries 42, 69 and 70. -/
def Obligations.HostMemory : Prop :=
  let done : State → State → List Posted → Prop := fun s t l =>
    (∀ a, t.byteAt a = (s.posting l).byteAt a) ∧ (∀ x, t.dirtyBit x = ((l.any fun p => p.dpa / 4096 == x) || s.dirtyBit x)) ∧
    t.map.hmap = s.map.hmap ∧ t.dev = s.dev
  let waits : State → State → Head → HostReq → Prop := fun s t h q =>
    t.replies.mem.get h = [] ∧ t.map = s.map ∧ t.dram = s.dram ∧ t.poison = s.poison ∧ t.dev = s.dev ∧ t.dmc.posted = s.dmc.posted ∧
    (q ∈ t.fld.admission ∨ ∃ f ∈ t.fld.fetches, f.granule = q.dpa / 4096 ∧ q ∈ f.waiting)
  (∀ s h hpa tag r ns, s.memUp h = false → exec (.hostMemRead h hpa tag r ns) s = .next s) ∧
  (∀ s h hpa tag data b c d, s.memUp h = false ∨ (s.heads.get h).credits = 0 →
      exec (.hostMemWrite h hpa tag data b c d) s = .next s) ∧
  (∀ s h hpa tag r ns k, s.memUp h = true → s.memCheck h hpa (fun a => a ≠ .none) = .inl k → s.tly.fifo.length < 32 →
      Yields (.hostMemRead h hpa tag r ns) s fun t =>
      t.replies.mem.get h = [.poison tag] ∧ t = { s with heads := t.heads, tly := t.tly, replies := t.replies }) ∧
  (∀ s h hpa tag data b c d k, s.memUp h = true → (s.heads.get h).credits ≠ 0 →
      s.memCheck h hpa (fun a => a = .write) = .inl k → s.tly.fifo.length < 32 →
      Yields (.hostMemWrite h hpa tag data b c d) s fun t =>
      t.replies.mem.get h = [.done tag] ∧
      t = { s with heads := t.heads, tly := t.tly, replies := t.replies, gov := { s.gov with backpressure := t.gov.backpressure } }) ∧
  (∀ s h hpa tag r ns dpa l, s.memUp h = true → s.memCheck h hpa (fun a => a ≠ .none) = .inr dpa →
      s.restoredBit (dpa / 4096) = true → (∀ d, r ≠ .bitmap d) →
      l = (if s.dmc.posted.any (fun p => p.dpa / 64 == dpa / 64) then s.dmc.posted else []) → s.residentFor l →
      (l = [] ∨ s.fld.lost.contains (dpa / 4096) = false) →
      (∀ d, r = .corrected d → s.mild 0x40 = true) → (∀ d, r = .uncorrected d → s.mild 0x41 = true) →
      Yields (.hostMemRead h hpa tag r ns) s fun t =>
      let failed := (s.dchan (s.site (dpa / 64 * 64)).channel).failed
      let u := s.posting l
      done s t l ∧ t.dmc.posted = (if l = [] then s.dmc.posted else []) ∧
      t.poison = (if !failed && !u.poison.contains (dpa / 64) && badRead r then setAdd (dpa / 64) u.poison else u.poison) ∧
      t.replies.mem.get h = [if failed || u.poison.contains (dpa / 64) || badRead r || s.fld.lost.contains (dpa / 4096) then .poison tag
        else .data tag (u.bytesAt (dpa / 64 * 64) 64)]) ∧
  (∀ s h hpa tag d ns dpa, s.memUp h = true → s.memCheck h hpa (fun a => a ≠ .none) = .inr dpa →
      (s.rstOf (dpa / 2097152)).restored = false → s.fld.restored ≠ {} → s.fld.gateCache.contains (dpa / 2097152) = false →
      s.mild 0x41 = true → (∀ p ∈ s.dmc.posted, p.dpa / 64 ≠ dpa / 64) → Yields (.hostMemRead h hpa tag (.bitmap d) ns) s fun t =>
      t.replies.mem.get h = [.poison tag] ∧ t.dev = s.dev ∧ t.dram = s.dram ∧ t.dmc.posted = s.dmc.posted ∧
      ∀ g, (g / 512 = dpa / 2097152 → t.restoredBit g = true ∧ t.fld.lost.contains g = true ∧ (t.hmOf g).state = .lost) ∧
        (g / 512 ≠ dpa / 2097152 → t.restoredBit g = s.restoredBit g ∧ t.fld.lost.contains g = s.fld.lost.contains g ∧ t.hmOf g = s.hmOf g)) ∧
  (∀ s h hpa tag r ns dpa, s.memUp h = true → s.memCheck h hpa (fun a => a ≠ .none) = .inr dpa →
      s.restoredBit (dpa / 4096) = false → (∀ d, r ≠ .bitmap d) → Yields (.hostMemRead h hpa tag r ns) s fun t =>
      waits s t h { head := h, isWrite := false, dpa := dpa / 64 * 64, data := [], poison := false, tag := tag }) ∧
  (∀ s h hpa tag data p c m dpa, s.memUp h = true → (s.heads.get h).credits ≠ 0 →
      s.memCheck h hpa (fun a => a = .write) = .inr dpa → s.restoredBit (dpa / 4096) = false →
      Yields (.hostMemWrite h hpa tag data p c m) s fun t =>
      waits s t h { head := h, isWrite := true, dpa := dpa, data := data.take (64 - dpa % 64), poison := p, tag := tag }) ∧
  (∀ s h hpa tag data p c m dpa l, s.memUp h = true → (s.heads.get h).credits ≠ 0 →
      s.memCheck h hpa (fun a => a = .write) = .inr dpa → s.restoredBit (dpa / 4096) = true → (c && s.postedRoom h) = false →
      l = s.dmc.posted ++ [⟨h, dpa, data.take (64 - dpa % 64), p, m, s.dev.aonUs⟩] → s.residentFor l →
      Yields (.hostMemWrite h hpa tag data p c m) s fun t =>
      let n := min (64 - dpa % 64) data.length
      done s t l ∧ t.poison = (s.posting l).poison ∧ t.dmc.posted = [] ∧ t.replies.mem.get h = [.done tag] ∧
      ((s.dchan (s.site dpa).channel).failed = false → s.dmc.posted = [] →
        ∀ a, t.byteAt a = if dpa ≤ a ∧ a < dpa + n then data.getD (a - dpa) 0 else s.byteAt a)) ∧
  (∀ s h hpa tag data p m dpa, s.memUp h = true → (s.heads.get h).credits ≠ 0 →
      s.memCheck h hpa (fun a => a = .write) = .inr dpa → s.restoredBit (dpa / 4096) = true → s.postedRoom h = true →
      Yields (.hostMemWrite h hpa tag data p true m) s fun t =>
      t.dmc.posted = s.dmc.posted ++ [⟨h, dpa, data.take (64 - dpa % 64), p, m, s.dev.aonUs⟩] ∧ t.replies.mem.get h = [.done tag] ∧
      t.map = s.map ∧ t.dram = s.dram ∧ t.poison = s.poison ∧ t.dev = s.dev) ∧
  (∀ s h, s.memUp h = false → exec (.globalPersistentFlush h) s = .next s) ∧
  (∀ s h, s.memUp h = true → Yields (.globalPersistentFlush h) s fun t =>
      let mine := s.dmc.posted.filter fun p => decide (p.head = h)
      t.replies.mem.get h = [.flushed] ∧ t.dev = s.dev ∧
      (s.residentFor mine → done s t mine ∧ t.poison = (s.posting mine).poison ∧
        t.dmc.posted = s.dmc.posted.filter fun p => !decide (p.head = h))) ∧
  (∀ s, s.running = false ∨ s.dmc.postedHeld = false → exec .postedCreditResume s = .next s) ∧
  (∀ s, s.running = true → s.dmc.postedHeld = true → s.dmc.postedLimitKib = postedLimit s.dmc.current →
      Yields .postedCreditResume s fun t => t.dev = s.dev ∧
      t.dmc.postedHeld = decide (postedResume s.dmc.current ≤ t.postedKib) ∧
      (s.residentFor s.dmc.posted → t.dmc.postedHeld = false ∧
        (t.gov.backpressure = false → ∀ h, (t.heads.get h).credits = headCredits ∧ (t.heads.get h).creditsHeld = false) ∧
        ∃ k, t.dmc.posted = s.dmc.posted.drop k ∧ done s t (s.dmc.posted.take k) ∧ t.poison = (s.posting (s.dmc.posted.take k)).poison))

/-- R173, R175 to R180, R182, R184, R185, R221 to R224, R240, R241: BACKGROUND_RESTORE_GRANULE, ZERO_STREAM_GRANULE, DEMAND_FETCH_COMPLETE,
NAND_READ_COMPLETE.
Where it says more than those rules do, it states the model's choices of log entry 71. -/
def Obligations.RestoreGranules : Prop :=
  let clean : State → State → Prop := fun s t =>
    (∀ x, t.dirtyBit x = s.dirtyBit x) ∧ t.map.total = s.map.total ∧ t.map.hmap = s.map.hmap ∧ t.dev = s.dev ∧ t.bed = s.bed
  let rest : State → Nat → State → Prop := fun s g t =>
    (∀ a, a < g * 4096 ∨ g * 4096 + 4096 ≤ a → t.byteAt a = s.byteAt a) ∧ t.restoredBit g = true ∧
    (∀ l, t.poison.contains l = (s.poison.contains l && decide (l / 64 ≠ g)))
  let good : State → Nat → HmLoc → StorePage → GranRec → FetchEnd → Prop := fun s g l p x o =>
    (s.hmOf g).state = .stored ∧ s.recIn l = some (p, x) ∧ s.recChecks p x g (s.hmOf g) = true ∧ o ≠ .unreadable
  (∀ s o, s.running = false ∨ s.fld.restoring = false ∨ s.pip.sanStep ≠ 0 →
      exec (.backgroundRestoreGranule o) s = .next s ∧ exec .zeroStreamGranule s = .next s) ∧
  (∀ s g o us, s.running = false ∨ s.pip.sanStep ≠ 0 ∨ (s.fld.fetches.any fun f => f.granule == g) = false →
      exec (.demandFetchComplete g o us) s = .next s) ∧
  (∀ s o g p x, s.running = true → s.fld.restoring = true → s.pip.sanStep = 0 → s.tly.fifo.length < 32 → s.nextStored = some g →
      s.restoredBit g = false → good s g (s.hmOf g).loc p x o → Yields (.backgroundRestoreGranule o) s fun t =>
      t.dram = (s.putGranule g x.body).dram ∧ rest s g t ∧ clean s t) ∧
  (∀ s o g, s.running = true → s.fld.restoring = true → s.pip.sanStep = 0 → s.tly.fifo.length < 32 → s.nextStored = some g →
      s.restoredBit g = false → (s.hmOf g).state = .stored → (∀ p x, ¬ good s g (s.hmOf g).loc p x o) →
      Yields (.backgroundRestoreGranule o) s fun t =>
      (t.hmOf g).state = .lost ∧ (∀ y, y ≠ g → t.hmOf y = s.hmOf y) ∧ t.fld.lost = setAdd g s.fld.lost ∧ t.restoredBit g = true ∧
      t.dev = s.dev ∧ (∀ a, t.byteAt a = s.byteAt a) ∧ ∀ y, t.dirtyBit y = s.dirtyBit y) ∧
  (∀ s g, s.running = true → s.fld.restoring = true → s.pip.sanStep = 0 → s.tly.fifo.length < 32 → s.nextZero = some g →
      s.restoredBit g = false → (s.hmOf g).state = .zero → Yields .zeroStreamGranule s fun t =>
      (∀ k, k < 4096 → t.byteAt (g * 4096 + k) = 0) ∧ rest s g t ∧ clean s t) ∧
  (∀ s o, s.running = true → s.fld.restoring = true → s.pip.sanStep = 0 → s.granulesLeft ≠ 0 →
      (s.nextStored = none → exec (.backgroundRestoreGranule o) s = .next s) ∧ (s.nextZero = none → exec .zeroStreamGranule s = .next s)) ∧
  (∀ s g o p x q loc us, s.running = true → s.pip.sanStep = 0 → s.tly.fifo.length < 32 → s.restoredBit g = false →
      (s.fld.fetches.find? fun f => f.granule == g) = some ⟨g, [q], loc⟩ → good s g (loc.getD (s.hmOf g).loc) p x o →
      s.fld.admission = [] → q.isWrite = false → q.dpa / 4096 = g → (s.heads.get q.head).up = true → s.fld.lost.contains g = false →
      s.dmc.posted = [] → (s.dchan (s.site (q.dpa / 64 * 64)).channel).failed = false →
      Yields (.demandFetchComplete g o us) s fun t =>
      t.dram = (s.putGranule g x.body).dram ∧ rest s g t ∧ clean s t ∧ t.fld.fetches = s.fld.fetches.filter (fun f => f.granule != g) ∧
      t.replies.mem.get q.head = [.data q.tag (t.bytesAt (q.dpa / 64 * 64) 64)]) ∧
  (∀ s r c k l x us, s.row r = none ∨ (∃ w, s.row r = some w ∧ s.mediaPage w k c = none) ∨ (s.running = false ∧ s.dev.st ≠ .reflood) →
      exec (.nandReadComplete r c k l x us) s = .next s) ∧
  (∀ s r c k w p l x us, s.running = true ∨ s.dev.st = .reflood → s.row r = some w → s.mediaPage w k c = some p →
      s.nand.iterWarn = 0 → s.nand.retryWarn = 0 → s.mild 0x53 = true → s.mild 0x61 = true →
      Yields (.nandReadComplete r c k l x us) s fun t =>
      (t.chan c).decodes = ((ladderIter l, ladderStep l - 1) :: (s.chan c).decodes).take 65536 ∧ t.bed.pages = s.bed.pages ∧ t.dev = s.dev ∧
      t.pip = { s.pip with
        failHeader := if x = .header then satAdd 16 s.pip.failHeader 1 else s.pip.failHeader
        failTag := if x = .tag then satAdd 16 s.pip.failTag 1 else s.pip.failTag } ∧
      (x = .ok → ladderStep l < s.nand.relocate → ladderStep l < 5 →
        t = { s with bed := t.bed, drn := t.drn, flt := t.flt } ∧ t.bed.rows = s.bed.rows ∧ t.drn.path = s.drn.path))

/-- R194, R205, R209, R216 to R220, R223, R225, R226: RAKE_MOVE, ROW_ERASE, ERASE_COMPLETE, STORE_PATROL, ZQ_CALIBRATION,
DIE_RESET_TIMEOUT.
Where it says more than those rules do, it states the model's choices of log entries 25 and 32. -/
def Obligations.StoreUpkeep : Prop :=
  (∀ s i, s.rakes = false ∨ s.victim = none → exec (.rakeMove i) s = .next s) ∧
  (∀ s i v, s.rakes = true → s.victim = some v → (s.latestTable.any fun p => p.rowSeq == v.seq) = false → Yields (.rakeMove i) s fun t =>
      ∃ u, t = settle u ∧ u.bed.rakeActive = true ∧ u.dev = s.dev ∧ u.jrn = s.jrn ∧ (∀ x, u.byteAt x = s.byteAt x) ∧
      (∀ n, i = .line n → u.map = s.map ∧ u.bed.pages = s.bed.pages) ∧
      (∀ g p x, i = .granule g → (s.hmOf g).state = .stored → s.recIn (s.hmOf g).loc = some (p, x) → p.rowSeq = v.seq →
        (s.bed.staged.any fun q => q.recs.any fun y => y.src = some (s.hmOf g).loc) = false →
        (s.recChecks p x g (s.hmOf g) = true → u.map = s.map ∧ u.bed.pages = s.bed.pages) ∧
        (s.recChecks p x g (s.hmOf g) = false → s.restoredBit g = false →
          (u.hmOf g).state = .lost ∧ u.fld.lost = setAdd g s.fld.lost ∧ u.bed.pages = s.bed.pages))) ∧
  (∀ s r, s.running = false ∨ s.bed.mismatch = true ∨ (∀ w, (spendRows s).row r = some w → w.state ≠ .spent) →
      exec (.rowErase r) s = .next s) ∧
  (∀ s r w, s.running = true → (spendRows s).row r = some w → w.state = .spent → s.bed.mismatch = false →
      (s.readHeld w = true → Yields (.rowErase r) s fun t => t = s) ∧
      (s.readHeld w = false → (∀ p ∈ w.blocks, (s.blk p.1 w.lane p.2).failed = false) → Yields (.rowErase r) s fun t =>
        t = { s with bed := t.bed } ∧ (∀ x ∈ t.bed.rows, x.seq ≠ r) ∧ t.bed.pages = s.bed.pages.filter (fun p => p.rowSeq != r) ∧
        ∀ p ∈ w.blocks, (t.blk p.1 w.lane p.2).erasing = true ∧ (t.blk p.1 w.lane p.2).state = .spent)) ∧
  (∀ s c d b ok, (s.blk c d b).erasing = false ∨ s.alive = false ∨ s.saving = true → exec (.eraseComplete c d b ok) s = .next s) ∧
  (∀ s c d b, (s.blk c d b).erasing = true → s.alive = true → s.saving = false →
      let n := (s.blk c d b).erases + 1
      (Yields (.eraseComplete c d b true) s fun t => ∃ u, t = levelRows (settle u) ∧ u.bed.sinceTable = s.bed.sinceTable + 1 ∧
        (s.nand.pslcPe = 0 ∨ n < s.nand.pslcPe → u = { s with bed := u.bed } ∧ u.blk c d b = { s.blk c d b with
          state := if (s.blk c d b).state = .ckpt then .ckptErased else .erased, erases := n, erasing := false, holds := 0 }) ∧
        (s.nand.pslcPe ≠ 0 → s.nand.pslcPe ≤ n → u = { s with bed := u.bed, jrn := u.jrn } ∧ (u.blk c d b).state = .retired ∧
          .retirement c d b 2 n ∈ u.jrn ∧ (s.journalRoom = true → u.jrn = s.jrn ++ [.retirement c d b 2 n]))) ∧
      ((s.chan c).dieFails = [] → s.mild 0x52 = true → Yields (.eraseComplete c d b false) s fun t =>
        (t.blk c d b).state = .retired ∧ .retirement c d b 1 (s.blk c d b).erases ∈ t.jrn ∧
        (s.journalRoom = true → t.jrn = s.jrn ++ [.retirement c d b 1 (s.blk c d b).erases]) ∧
        (t.chan c).eraseFail = satAdd 16 (s.chan c).eraseFail 1 ∧ t.map = s.map ∧ t.dev = s.dev)) ∧
  (∀ s q, s.running = false ∨ s.bed.storeReady = false → exec (.storePatrol q) s = .next s) ∧
  (∀ s q, s.running = true → s.bed.storeReady = true → Yields (.storePatrol q) s fun t =>
      t = { s with bed := t.bed } ∧ t.bed.patrolled = s.bed.patrolled + 1 ∧
      t.bed.rows = s.bed.rows.map fun r => if q.contains r.seq then { r with queued := if r.queued = 0 then 2 else min 2 r.queued } else r) ∧
  (∀ s, s.alive = false → exec .zqCalibration s = .next s) ∧
  (∀ s, s.alive = true → Yields .zqCalibration s fun t =>
      t = { s with bed := t.bed } ∧
      ∀ c, t.chan c = if (s.chan c).active then { s.chan c with zqCount := (s.chan c).zqCount + 1 } else s.chan c) ∧
  (∀ s c d, (s.running = false ∧ s.saving = false ∧ s.dev.st ≠ .reflood) ∨ (s.chan c).present.contains d = false →
      exec (.dieResetTimeout c d) s = .next s) ∧
  (∀ s c d, s.running = true ∨ s.dev.st = .reflood → (s.chan c).present.contains d = true → (s.chan c).retired = [] →
      (∀ r ∈ s.bed.rows, r.lane ≠ d) → s.mild 0x51 = true → Yields (.dieResetTimeout c d) s fun t =>
      (t.chan c).retired = [d] ∧ t.map = s.map ∧ t.dev = s.dev ∧ t.jrn = s.jrn ∧ ∀ p ∈ s.bed.pages, p ∈ t.bed.pages)

/-- R124, R189, R190, R242, R244 to R249, R279, R280, R468, R483: UNLOCK, SET_UNLOCK_SECRET, SANITIZE, CRYPTO_ERASE.
Where it says more than those rules do, it states the model's choices of log entries 35, 36 and 40. -/
def Obligations.UnlockAndSanitize : Prop :=
  let told : State → State → Prop := fun s t => t = { s with replies := t.replies }
  let keyWords : State → State → Prop := fun s t => s.key.keyUsed + 64 ≤ 1024 → t.key.keySector = s.key.keySector ∧ t.cel = s.cel
  (∀ s h, s.Guard h 4 (s.cell 4).gen →
    let g := (s.cell 4).gen
    let locked := s.pip.secretSet = true ∧ s.pip.keyLoaded = false
    (¬ locked → ∀ a, Yields (.unlockDevice h g a) s fun t => told s t ∧ t.Answered h 0xC140 3 .empty) ∧
    (locked → s.pip.sanStep ≠ 0 → ∀ a, Yields (.unlockDevice h g a) s fun t => told s t ∧ t.Answered h 0xC140 4 .empty) ∧
    (locked → s.pip.sanStep = 0 → 8 ≤ s.fld.unlockFails → ∀ a, Yields (.unlockDevice h g a) s fun t =>
      told s t ∧ t.Answered h 0xC140 0xA .empty) ∧
    (locked → s.pip.sanStep = 0 → s.fld.unlockFails < 8 → ∀ a,
      (s.opensWith a = false → Yields (.unlockDevice h g a) s fun t => t.Answered h 0xC140 9 .empty ∧
        t = { s with replies := t.replies, fld := { s.fld with unlockFails := s.fld.unlockFails + 1 } }) ∧
      (∀ b rest, s.opensWith a = true → s.pip.blobs = b :: rest → Yields (.unlockDevice h g a) s fun t =>
        t.Answered h 0xC140 0 .empty ∧ t.pip = { s.pip with keyLoaded := true, kx := b.kx, km := b.km } ∧
        t.fld = { s.fld with unlockDone := true, unlockFails := 0 } ∧ t.dev = s.dev ∧ t.map = s.map ∧ t.bed = s.bed ∧
        (s.running = false → t = { s with replies := t.replies, fld := t.fld, pip := t.pip }) ∧ ∀ x, t.byteAt x = s.byteAt x)) ∧
    (∀ o n ok, s.pip.keyLoaded = false ∨ s.pip.blobs = [] → Yields (.setUnlockSecret h g o n ok) s fun t =>
      told s t ∧ t.Answered h 0xC141 0xB .empty) ∧
    (∀ b rest o n ok, s.pip.keyLoaded = true → s.pip.blobs = b :: rest →
      let op : Instr := .setUnlockSecret h g o n ok
      (s.pip.sanStep ≠ 0 → Yields op s fun t => told s t ∧ t.Answered h 0xC141 4 .empty) ∧
      (s.pip.sanStep = 0 →
        (o.isNone = s.pip.secretSet → Yields op s fun t => told s t ∧ t.Answered h 0xC141 3 .empty) ∧
        (∀ c, o = some c → s.pip.secretSet = true → s.opensWith c = false → Yields op s fun t => t.Answered h 0xC141 9 .empty ∧
          t = { s with replies := t.replies, fld := { s.fld with unlockFails := s.fld.unlockFails + 1 } }) ∧
        ((o = none ∧ s.pip.secretSet = false ∨ ∃ c, o = some c ∧ s.pip.secretSet = true ∧ s.opensWith c = true) →
          (ok = false → Yields op s fun t => told s t ∧ t.Answered h 0xC141 0x10 .empty) ∧
          (ok = true → Yields op s fun t => t.Answered h 0xC141 0 (.words [(b.wrap + 1) % 2 ^ 32]) ∧ keyWords s t ∧
            t = { s with
              replies := t.replies, cel := t.cel, key := { s.key with keySector := t.key.keySector, keyUsed := t.key.keyUsed }
              pip := { s.pip with
                blobs := [{ b with wrap := (b.wrap + 1) % 2 ^ 32, secret := n.isSome, u := (n.map unlockU).getD 0 }]
                wrap := (b.wrap + 1) % 2 ^ 32, secretSet := n.isSome } })))) ∧
    (∀ c, c ≠ 0x53414E49 → Yields (.sanitize h g c) s fun t => told s t ∧ t.Answered h 0xC142 0x11 .empty) ∧
    (s.pip.sanStep ≠ 0 → Yields (.sanitize h g 0x53414E49) s fun t => told s t ∧ t.Answered h 0xC142 4 .empty) ∧
    (s.pip.sanStep = 0 → s.tly.fifo.length + 2 ≤ 32 → s.residentFor s.dmc.posted → Yields (.sanitize h g 0x53414E49) s fun t =>
      t.pip = { s.pip with sanStep := 1, sanUnlocked := s.pip.keyLoaded, sanHead := some h } ∧ t.gov.accessHeld = true ∧ t.gov.pdom = false ∧
      t.fld.fetches = [] ∧ t.fld.admission = [] ∧ t.dmc.posted = [] ∧
      (s.running = true → s.map.total < s.drn.bwh → s.drn.path = [] → s.dmc.posted = [] → t.drn.paused = true) ∧
      (t.replies.mbox.get h).map MboxReply.code = some 1 ∧ t.dev = s.dev ∧ t.key = s.key ∧ t.bed = s.bed ∧ t.jrn = s.jrn)) ∧
  (∀ s i, s.pip.sanStep = 0 ∨ s.map.inflight ≠ [] ∨ (s.running = false ∧ ¬ (s.dev.st = .reflood ∧ s.fld.unlockWait = true)) ∨
        (s.pip.sanStep = 3 ∧ i = true) ∨ s.pip.sanStep = 4 →
      exec (.cryptoErase i) s = .next s) ∧
  (∀ s, 0 < s.pip.sanStep → s.pip.sanStep ≤ 2 → s.map.inflight = [] → s.running = true →
      Yields (.cryptoErase true) s fun t =>
        t.key = { s.key with sanOpen := true, keySector := t.key.keySector, keyUsed := t.key.keyUsed } ∧ keyWords s t ∧
        t.pip = { s.pip with keyLoaded := false, kx := 0, km := 0, sanStep := 3 } ∧
        t = { s with key := t.key, pip := t.pip, heads := t.heads, cel := t.cel }) ∧
  (∀ s, s.pip.sanStep = 3 → s.map.inflight = [] → s.running = true → s.key.rbgOk = false →
      Yields (.cryptoErase false) s fun t => t = { s with heads := t.heads, pip := { s.pip with sanStep := 4 } }) ∧
  (∀ s b rest, 0 < s.pip.sanStep → s.pip.sanStep ≤ 3 → s.map.inflight = [] → s.running = true → s.key.rbgOk = true →
      s.tly.fifo.length + 4 ≤ 32 → s.pip.blobs = b :: rest → Yields (.cryptoErase false) s fun t =>
      t.pip.sanStep = 0 ∧ t.pip.keyLoaded = true ∧ t.key.sanOpen = false ∧ t.pip.gen = (b.gen + 1) % 2 ^ 32 ∧ t.pip.wrap = 0 ∧
      (∃ n, t.pip.blobs = [n] ∧ n.gen = (b.gen + 1) % 2 ^ 32 ∧ n.wrap = 0 ∧ n.kx = (Config.mediaKey s.free).extractLsb' 256 512 ∧
        n.km = (Config.mediaKey s.free).extractLsb' 0 256 ∧ t.pip.kx = n.kx ∧ t.pip.km = n.km ∧
        n.secret = (s.pip.sanUnlocked && b.secret) ∧ n.u = (if s.pip.sanUnlocked && b.secret then b.u else 0)) ∧ keyWords s t ∧
      t.pip.sanCount = satAdd 16 s.pip.sanCount 1 ∧ (∀ g, (t.hmOf g).state = .zero) ∧ t.map.total = 0 ∧ t.fld.lost = [] ∧ t.poison = [] ∧
      (s.journalRoom = true → ∃ l, t.jrn = s.jrn ++ .storeInit s.geometry :: l) ∧ t.drn.paused = false ∧ t.dev = s.dev ∧
      ∀ x, t.byteAt x = s.byteAt x)

/-- R270, whole; with it R271's tie, R269's reserved cells and R123's pause. -/
def Obligations.Semaphore : Prop :=
  ∀ (s : State) (h : Head) (n : Nat) (g : BitVec 16), n < 32 → s.served h = true →
    let c := s.cell n
    let by_ : Head → CellState := fun k => if k = .a then .heldA else .heldB
    let shows : Head → Nat → State → Prop := fun k code t => t.sem.result.get k.port = ⟨code, n, (t.cell n).gen⟩
    let others : State → Prop := fun t => ∀ m, m ≠ n → t.cell m = s.cell m
    let kept : State → Prop := fun t => (∀ m, t.cell m = s.cell m) ∧ t = { s with sem := t.sem }
    let free := n < 5 ∨ 8 ≤ n
    (g ≠ c.gen → s.tly.fifo.length < 32 → ∀ tie,
      let stale : State → Prop := fun t => (∀ m, t.cell m = s.cell m) ∧ shows h 3 t ∧
        t = { s with heads := t.heads, tly := t.tly, sem := t.sem } ∧ (t.heads.get h).stale = satAdd 16 (s.heads.get h).stale 1
      Yields (.semAcquire h n g tie) s stale ∧ Yields (.semRelease h n g) s stale) ∧
    (c.state = .free → free → ∀ tie, (tie = false ∨ s.served h.other = false) → Yields (.semAcquire h n c.gen tie) s fun t =>
      t.cell n = { c with state := by_ h, gen := c.gen + 1 } ∧ others t ∧ shows h 1 t ∧ t = { s with sem := t.sem }) ∧
    (c.state = .free → free → s.served h.other = true → Yields (.semAcquire h n c.gen true) s fun t =>
      let w : Head := if c.priB then .b else .a
      t.cell n = { state := by_ w, gen := c.gen + 1, priB := !c.priB } ∧ others t ∧ shows w 1 t ∧ shows w.other 2 t ∧
      t = { s with sem := t.sem }) ∧
    (c.state = by_ h → ∀ tie,
      (free → Yields (.semAcquire h n c.gen tie) s fun t => kept t ∧ shows h 1 t) ∧
      ((n ≠ 1 ∨ s.drn.paused = false) → Yields (.semRelease h n c.gen) s fun t =>
        t.cell n = { c with state := .free, gen := c.gen + 1 } ∧ others t ∧ shows h 5 t ∧ t = { s with sem := t.sem }) ∧
      (n = 1 → s.drn.paused = true → s.tly.fifo.length < 32 → Yields (.semRelease h n c.gen) s fun t =>
        t.cell n = { c with state := .free, gen := c.gen + 1 } ∧ others t ∧ shows h 5 t ∧
        t = { s with sem := t.sem, tly := t.tly, drn := { s.drn with paused := false, lastPauseEnd := 4 } })) ∧
    (c.state = by_ h.other → free → ∀ tie, Yields (.semAcquire h n c.gen tie) s fun t => kept t ∧ shows h 2 t) ∧
    (¬ free → ∀ tie, Yields (.semAcquire h n c.gen tie) s fun t => kept t ∧ shows h 2 t) ∧
    (c.state ≠ by_ h → Yields (.semRelease h n c.gen) s fun t => kept t ∧ shows h 4 t)

/-- R256, R257, R260, R272, R273, R289: LINK_UP, LINK_DOWN, GRACE_EXPIRY, HDM_DECODER_COMMIT.
Where it says more than those rules do, it states the model's choices of log entries 37 and 40. -/
def Obligations.LinksAndGrace : Prop :=
  ∀ (s : State) (h : Head),
    let x := s.heads.get h
    let held := (List.range 32).filter fun n => s.holds h n
    (∀ r w i, x.inReset = false → x.phyOff = false → s.running = true ∨ (s.dev.st = .reflood ∧ s.fld.f4Ended = true) →
      (s.fld.outcomeDue = true → s.tly.fifo.length < 32) → Yields (.linkUp h r w i) s fun t =>
        (t.heads.get h).up = true ∧ (t.heads.get h).down = false ∧ (t.heads.get h).grace = false ∧
        (t.heads.get h).credits = headCredits ∧ ((t.heads.get h).ide = (i && (s.key.spdm.get h).ideKeys)) ∧
        (∀ p, t.pan p = { s.pan p with owed := (s.pan p).owed.set h false }) ∧
        ((∀ e ∈ s.pans, e.2.owed.get h = false) → (t.heads.get h).dynCap = x.dynCap) ∧
        (s.running = false ∨ s.fld.outcomeDue = false →
          t.heads.get h.other = s.heads.get h.other ∧ t = { s with heads := t.heads, pans := t.pans }) ∧
        (s.running = true → s.fld.outcomeDue = true → s.tly.fifo.length < 32 →
          t = { s with heads := t.heads, pans := t.pans, tly := t.tly, fld := { s.fld with outcomeDue := false } })) ∧
    (∀ r w i, x.inReset = true ∨ x.phyOff = true ∨ (s.running = false ∧ ¬ (s.dev.st = .reflood ∧ s.fld.f4Ended = true)) →
      exec (.linkUp h r w i) s = .next s) ∧
    (x.up = true → Yields (.linkDown h) s fun t =>
        (t.heads.get h).up = false ∧ (t.heads.get h).down = true ∧ (t.heads.get h).grace = true ∧ (t.heads.get h).downUs = s.dev.aonUs ∧
        (t.heads.get h).cmdMajor = 2 ∧ (t.heads.get h).cmdMinor = 0 ∧ (t.heads.get h).stampBase = none ∧
        (t.heads.get h).decoders = x.decoders ∧ (t.heads.get h).downs = satAdd 16 x.downs 1 ∧ t.heads.get h.other = s.heads.get h.other ∧
        t = { s with heads := t.heads, fld := t.fld, lay := t.lay }) ∧
    (x.up = false → Yields (.linkDown h) s fun t => t = s) ∧
    (x.grace = false ∨ x.up = true ∨ s.saving = true ∨ s.alive = false → exec (.graceExpiry h) s = .next s) ∧
    (x.grace = true → x.up = false → s.saving = false → s.alive = true → s.tly.fifo.length + held.length < 32 →
      Yields (.graceExpiry h) s fun t =>
        (∀ n, n < 32 → t.cell n =
          if s.holds h n then { s.cell n with state := .free, gen := (s.cell n).gen + 1 } else s.cell n) ∧
        (s.sem.forced + held.length < 65536 → t.sem.forced = s.sem.forced + held.length) ∧
        (t.tly.fifo.filter fun r => r.code = 0x104).length = (s.tly.fifo.filter fun r => r.code = 0x104).length + held.length ∧
        (t.heads.get h).grace = false ∧ (s.holds h 1 = false → t.drn = s.drn) ∧ (s.holds h 1 = true → t.drn.paused = false) ∧
        t = { s with heads := t.heads, sem := t.sem, drn := t.drn, tly := t.tly }) ∧
    (∀ i d, s.served h = false ∨ 4 ≤ i → exec (.hdmDecoderCommit h i d) s = .next s) ∧
    (∀ i d, s.served h = true → i < 4 →
      let fits := [1, 2, 4, 8].contains d.ways = true ∧ [256, 512, 1024, 2048, 4096, 8192, 16384].contains d.gran = true ∧
        d.position < d.ways ∧ 0 < d.size / d.ways ∧ d.size % (d.ways * 2 ^ 30) = 0 ∧ d.dpaBase % 2 ^ 30 = 0 ∧
        (d.dpaBase + d.size / d.ways) / 2 ^ 30 ≤ s.panCount
      (fits → Yields (.hdmDecoderCommit h i d) s fun t =>
        tblGet none (t.heads.get h).decoders i = some d ∧
        (∀ k, k ≠ i → tblGet none (t.heads.get h).decoders k = tblGet none x.decoders k) ∧ t.replies.decoderError.get h = false ∧
        t.heads.get h.other = s.heads.get h.other ∧ t = { s with heads := t.heads, replies := t.replies }) ∧
      (¬ fits → Yields (.hdmDecoderCommit h i d) s fun t =>
        t = { s with replies := { s.replies with decoderError := s.replies.decoderError.set h true } }))

/-- R262, R265, R267, R275, R278, R280: SET_PAN_ROLES, GET_PAN_ROLES.
Where it says more than those rules do, it states the model's choices of log entries 39 and 40. -/
def Obligations.PanRoles : Prop :=
  let good : State → List PanChange → Prop := fun s l =>
    (l.map PanChange.pan).Nodup ∧ ∀ c ∈ l, c.pan < s.panCount ∧ c.state ≤ 4 ∧ c.gen = (s.pan c.pan).gen
  let size : List PanChange → Prop := fun l => l ≠ [] ∧ l.length ≤ 256
  (∀ s h l, s.Guard h 0 (s.cell 0).gen → good s l → size l → s.tly.fifo.length + l.length ≤ 32 →
    (∀ c ∈ l, (s.pan c.pan).losing = ⟨none, none⟩) → Yields (.setPanRoles h (s.cell 0).gen false l true) s fun t =>
      (∀ c ∈ l, (t.pan c.pan).state.code = c.state ∧
        (t.pan c.pan).gen = (if (s.pan c.pan).state.code = c.state then c.gen else (c.gen + 1) % 65536) ∧
        ∀ k, let g0 := (s.pan c.pan).state.grants k
          let g1 := (t.pan c.pan).state.grants k
          let acc := (s.pan c.pan).acc.get k
          ((s.pan c.pan).state.code ≠ c.state →
            (t.pan c.pan).acc.get k = (if g1.rank < g0.rank ∨ (g0 = .none ∧ g1 ≠ .none) then acc else if acc = .none then .none else g1) ∧
            ((t.pan c.pan).losing.get k = if g1.rank < g0.rank ∧ acc ≠ .none then some s.dev.aonUs else none) ∧
            (g0 = .none → g1 ≠ .none → (t.pan c.pan).offered.get k = true)) ∧
          ((s.pan c.pan).state.code = c.state → t.pan c.pan = s.pan c.pan)) ∧
      (∀ p, p ∉ l.map PanChange.pan → t.pan p = s.pan p) ∧ t.Answered h 0xC121 0 (.words (l.map fun c => (t.pan c.pan).gen)) ∧
      t = { s with pans := t.pans, heads := t.heads, tly := t.tly, replies := t.replies }) ∧
  (∀ s h c, s.Guard h 0 (s.cell 0).gen → good s [c] → s.tly.fifo.length < 32 → (s.heads.get h.other).down = true →
    (s.pan c.pan).losing = ⟨none, none⟩ → (s.pan c.pan).state.code ≠ c.state → (∀ p, PanState.ofCode c.state = some p →
      (s.pan c.pan).state.grants h = .none ∧ p.grants h = .write ∧ p.grants h.other = .none) →
    Yields (.setPanRoles h (s.cell 0).gen true [c] true) s fun t =>
      (t.pan c.pan).state.code = c.state ∧ (t.pan c.pan).acc.get h.other = .none ∧ (t.pan c.pan).offered.get h = true ∧ (t.pan c.pan).losing = ⟨none, none⟩ ∧ t.Answered h 0xC121 0 (.words [(c.gen + 1) % 65536])) ∧
  (∀ s h force l c r, s.Guard h 0 (s.cell 0).gen → size (l ++ c :: r) → good s l → (force = true → l = []) →
    let fails : Nat → Prop := fun n => ∀ ok, Yields (.setPanRoles h (s.cell 0).gen force (l ++ c :: r) ok) s fun t =>
      t.Answered h 0xC121 n .empty ∧ t.pans = s.pans ∧ t = { s with heads := t.heads, tly := t.tly, replies := t.replies }
    (s.panCount ≤ c.pan ∨ c.pan ∈ l.map PanChange.pan ∨ 4 < c.state → fails 0xC) ∧
    (c.pan < s.panCount → c.pan ∉ l.map PanChange.pan → c.state ≤ 4 → c.gen ≠ (s.pan c.pan).gen → s.tly.fifo.length < 32 → fails 1)) ∧
  (∀ s h c r, s.Guard h 0 (s.cell 0).gen → size (c :: r) → good s [c] → (s.pan c.pan).losing = ⟨none, none⟩ →
    (∃ k p, (s.heads.get k).down = false ∧ PanState.ofCode c.state = some p ∧ (p.grants k).rank < ((s.pan c.pan).state.grants k).rank) →
    ∀ ok, Yields (.setPanRoles h (s.cell 0).gen true (c :: r) ok) s fun t =>
      t = { s with replies := t.replies } ∧ t.Answered h 0xC121 0xD .empty) ∧
  (∀ s h l, s.Guard h 0 (s.cell 0).gen → good s l → size l → Yields (.setPanRoles h (s.cell 0).gen false l false) s fun t =>
      t = { s with replies := t.replies } ∧ t.Answered h 0xC121 0x10 .empty) ∧
  (∀ s h f n, s.served h = true → 0 < n → n ≤ 1020 → f + n ≤ s.panCount → Yields (.getPanRoles h f n) s fun t =>
      t = { s with replies := t.replies } ∧ ∃ ws, t.Answered h 0xC120 0 (.words ws) ∧ ws.length = n ∧
      ∀ k, k < n → ∃ w, ws[k]? = some w ∧ w % 256 = (s.pan (f + k)).state.code ∧ (w / 256 % 2 = 1 ↔ (s.pan (f + k)).losing ≠ ⟨none, none⟩) ∧
        w / 65536 = (s.pan (f + k)).gen)

/-- R259, R263, R267: ADD_DYNAMIC_CAPACITY_RESPONSE, RELEASE_DYNAMIC_CAPACITY.
Where it says more than those rules do, it states the model's choices of log entries 39 and 40. -/
def Obligations.CapacityAnswers : Prop :=
  ∀ (s : State) (h : Head) (l : List (Nat × Nat)), s.served h = true →
    let named : Nat → Prop := fun p => p ∈ l.map Prod.fst
    let offered := ∀ e ∈ l, e.1 < s.panCount ∧ (s.pan e.1).offered.get h = true ∧ (s.pan e.1).gen = e.2
    let has := ∀ e ∈ l, e.1 < s.panCount ∧ ((s.pan e.1).acc.get h ≠ .none ∨ (s.pan e.1).state.grants h ≠ .none)
    let same : State → Prop := fun t => ∀ p, (t.pan p).state = (s.pan p).state ∧ (t.pan p).gen = (s.pan p).gen ∧
      (t.pan p).acc.get h.other = (s.pan p).acc.get h.other ∧ (¬ named p → t.pan p = s.pan p)
    (offered → Yields (.addDynamicCapacityResponse h l) s fun t =>
      same t ∧ (∀ p, named p → (t.pan p).acc.get h = (s.pan p).state.grants h ∧ (t.pan p).offered.get h = false) ∧
      t.AnsweredCxl h 0x4802 0 .empty ∧ t = { s with pans := t.pans, replies := t.replies }) ∧
    (¬ offered → Yields (.addDynamicCapacityResponse h l) s fun t =>
      t.AnsweredCxl h 0x4802 2 .empty ∧ t = { s with replies := t.replies }) ∧
    (has → Yields (.releaseDynamicCapacity h l) s fun t =>
      same t ∧
      (∀ p, named p → (s.pan p).losing.get h ≠ none → (t.pan p).acc.get h = .none ∧ (t.pan p).losing.get h = none ∧
        ((t.pan p).offered.get h = true ↔ (s.pan p).state.grants h ≠ .none)) ∧
      (∀ p, named p → (s.pan p).losing.get h = none → t.pan p = s.pan p) ∧
      t.AnsweredCxl h 0x4803 0 .empty ∧ t = { s with pans := t.pans, heads := t.heads, replies := t.replies }) ∧
    (¬ has → Yields (.releaseDynamicCapacity h l) s fun t =>
      t.AnsweredCxl h 0x4803 2 .empty ∧ t = { s with replies := t.replies })

/-- R34 to R36, R257, R276 to R280: GET_CHAPEN_VERSION, SET_CHAPEN_VERSION, GET_PERSISTENCE_STATUS, RELEASE_HELD_ACCESS, and the guards of
SET_PAN_ROLES and RELEASE_HELD_ACCESS.
Where it says more than those rules do, it states the model's choices of log entry 40. -/
def Obligations.HeadCommands : Prop :=
  ∀ (s : State) (h : Head),
    let told : State → Prop := fun t => t = { s with replies := t.replies }
    (s.served h = true →
      (Yields (.getChapenVersion h) s fun t => told t ∧ t.Answered h 0xC100 0 (.bytes ([2, 0, 1, (s.heads.get h).cmdMajor, (s.heads.get h).cmdMinor,
        0, 0, 0, 0x5E, 0x2B, 0x9C, 0x41, 0x07, 0xD3, 0x4A, 0x86, 0xB1, 0xF9, 0x3C, 0x60, 0xE8, 0xA2, 0xD4, 0x7B]))) ∧
      (∀ m n, m = 1 ∨ m = 2 → Yields (.setChapenVersion h m n) s fun t =>
        t.Answered h 0xC101 0 (.bytes [m, 0]) ∧ t.heads.get h = { s.heads.get h with cmdMajor := m, cmdMinor := 0 } ∧
        t.heads.get h.other = s.heads.get h.other ∧ t = { s with heads := t.heads, replies := t.replies }) ∧
      (∀ m n, m ≠ 1 → m ≠ 2 → Yields (.setChapenVersion h m n) s fun t => told t ∧ t.Answered h 0xC101 0xE .empty) ∧
      (Yields (.getPersistenceStatus h) s fun t => told t ∧ t.Answered h 0xC110 0 (.words (readRegs h.port 0x40000 11 s))) ∧
      (∀ g f l ok, g ≠ (s.cell 0).gen → s.tly.fifo.length < 32 → Yields (.setPanRoles h g f l ok) s fun t =>
        t.Answered h 0xC121 1 .empty ∧ t.pans = s.pans ∧ t = { s with heads := t.heads, tly := t.tly, replies := t.replies }) ∧
      (∀ f l ok, s.holds h 0 = false → Yields (.setPanRoles h (s.cell 0).gen f l ok) s fun t => told t ∧ t.Answered h 0xC121 2 .empty) ∧
      (∀ g, g ≠ (s.cell 1).gen → s.tly.fifo.length < 32 → Yields (.releaseHeldAccess h g) s fun t =>
        t.Answered h 0xC112 1 .empty ∧ t = { s with heads := t.heads, tly := t.tly, replies := t.replies }) ∧
      (s.holds h 1 = false → Yields (.releaseHeldAccess h (s.cell 1).gen) s fun t => told t ∧ t.Answered h 0xC112 2 .empty) ∧
      (s.holds h 1 = true →
        let refused := s.layoutOk = false ∨ s.bed.mismatch = true ∨ s.bed.censusFailed = true ∨ s.fld.unlockWait = true ∨
          s.pip.keyLoaded = false ∨ s.pip.sanStep ≠ 0
        (s.gov.accessHeld = false → Yields (.releaseHeldAccess h (s.cell 1).gen) s fun t => told t ∧ t.Answered h 0xC112 3 .empty) ∧
        (s.gov.accessHeld = true → refused → Yields (.releaseHeldAccess h (s.cell 1).gen) s fun t => told t ∧ t.Answered h 0xC112 0x11 .empty) ∧
        (s.gov.accessHeld = true → ¬ refused → s.running = true → Yields (.releaseHeldAccess h (s.cell 1).gen) s fun t =>
          t.Answered h 0xC112 0 .empty ∧ t.gov.accessHeld = false ∧ t.gov.released = true ∧ t.gov.pdom = decide (s.dev.st = .armed) ∧
          t.imageOpen = true ∧ t = { s with gov := t.gov, jrn := t.jrn, replies := t.replies }))) ∧
    (s.served h = false → ∀ g, (Yields (.getChapenVersion h) s fun t => t = s) ∧ (Yields (.getPersistenceStatus h) s fun t => t = s) ∧
      Yields (.releaseHeldAccess h g) s fun t => t = s)

/-- R258, R259, R261, R279, R282, R283, R285, R187: the queries of the CXL command sets, and UNSUPPORTED_COMMAND.
Where it says more than those rules do, it states the model's choices of log entries 40 and 72. -/
def Obligations.CxlAnswers : Prop :=
  let tells : Head → Nat → Payload → State → State → Prop := fun h op p s t => t = { s with replies := t.replies } ∧ t.AnsweredCxl h op 0 p
  let fails : Head → Nat → Nat → State → State → Prop := fun h op c s t => t = { s with replies := t.replies } ∧ t.AnsweredCxl h op c .empty
  (∀ s h, s.served h = true →
    let x := s.heads.get h
    let version : Bool → Nat := fun b => ((s.upd.slot b).map fun i => i.version).getD 0
    let mine := (List.range s.panCount).filter fun n => decide ((s.pan n).state.grants h ≠ .none)
    (∀ l, Yields (.getEventRecords h l) s (tells h 0x0100 (.events (x.log l).overflow (x.log l).firstStamp (x.log l).lastStamp (x.log l).recs) s)) ∧
    Yields (.getEventInterruptPolicy h) s (tells h 0x0102 (.bytes x.evPolicy) s) ∧
    Yields (.getFwInfo h) s (tells h 0x0200 (.pairs [(2, if s.upd.running then 2 else 1), (1, version false), (2, version true)]) s) ∧
    (x.stampBase = none → Yields (.getTimestamp h) s (tells h 0x0300 (.words [0, 0]) s)) ∧
    (∀ v u, x.stampBase = some (v, u) → u ≤ s.dev.aonUs → v + (s.dev.aonUs - u) * 1000 < 2 ^ 64 → Yields (.getTimestamp h) s fun t =>
      ∃ lo hi, tells h 0x0300 (.words [lo, hi]) s t ∧ lo < 2 ^ 32 ∧ lo + hi * 2 ^ 32 = v + (s.dev.aonUs - u) * 1000) ∧
    Yields (.getSupportedLogs h) s (tells h 0x0400 (.pairs [(0, 164)]) s) ∧
    (∀ a n, a + n ≤ 164 → Yields (.getLog h a n) s fun t => ∃ bs, tells h 0x0401 (.bytes bs) s t ∧ bs.length = n) ∧
    (∀ a n, 164 < a + n → Yields (.getLog h a n) s (fails h 0x0401 2 s)) ∧
    Yields (.identifyMemoryDevice h) s (tells h 0x4000 (.words [s.panCount, 0, 0]) s) ∧
    (Yields (.getHealthInfo h) s fun t => ∃ temp, tells h 0x4200 (.words [
      (if s.bed.health = 1 then 1 else if s.bed.health = 2 then 4 else 0),
      (if s.gov.accessHeld = true ∨ s.fld.unlockWait = true then 1 else if s.dev.st = .armed then 0 else 2),
      s.lifeUsed, temp, s.gov.dsc, s.dmc.hostCe]) s t ∧ s.lifeUsed ≤ 100) ∧
    Yields (.getAlertConfiguration h) s (tells h 0x4201 (.words x.alertCfg) s) ∧
    (∀ a n, Yields (.getPoisonList h a n) s fun t => ∃ rs, tells h 0x4300 (.poison x.poisonOverflow rs) s t ∧ rs.length ≤ 4096 ∧
      ∀ r ∈ rs, r.1 % 4096 = 0 ∧ r.2 % 4096 = 0 ∧ r.1 < a + n ∧ a < r.1 + r.2) ∧
    Yields (.getDynamicCapacityConfiguration h) s (tells h 0x4800 (.words [1, 0, s.panCount, 2 ^ 30]) s) ∧
    (∀ f n, f ≤ mine.length → Yields (.getDynamicCapacityExtentList h f n) s
      (tells h 0x4801 (.pairs (((mine.drop f).take n).map fun p => (p, (s.pan p).gen))) s)) ∧
    (∀ f n, mine.length < f → Yields (.getDynamicCapacityExtentList h f n) s (fails h 0x4801 2 s)) ∧
    (∀ op, 0xC100 ≤ op → op ≤ 0xC1FF → Yields (.unsupportedCommand h op) s fun t => t = { s with replies := t.replies } ∧ t.Answered h op 0xE .empty) ∧
    (∀ op, op < 0xC100 ∨ 0xC1FF < op → Yields (.unsupportedCommand h op) s (fails h op 3 s))) ∧
  (∀ s h a, s.served h = false → (Yields (.getHealthInfo h) s fun t => t = s) ∧ (Yields (.identifyMemoryDevice h) s fun t => t = s) ∧
    (Yields (.getTimestamp h) s fun t => t = s) ∧ Yields (.unsupportedCommand h a) s fun t => t = s)

/-- R179, R184 to R187, R282, R285 to R288: SET_TIMESTAMP, SET_EVENT_INTERRUPT_POLICY, SET_ALERT_CONFIGURATION, SET_SHUTDOWN_STATE,
CLEAR_EVENT_RECORDS, MALFORMED_MAILBOX_COMMAND, INJECT_POISON, CLEAR_POISON.
Where it says more than those rules do, it states the model's choices of log entries 40, 41 and 72. -/
def Obligations.CxlSettings : Prop :=
  let fails : Head → Nat → Nat → State → State → Prop := fun h op c s t => t = { s with replies := t.replies } ∧ t.AnsweredCxl h op c .empty
  (∀ s h, s.served h = true →
    let x := s.heads.get h
    let sets : Nat → HeadSt → State → Prop := fun op y t =>
      t.AnsweredCxl h op 0 .empty ∧ t = { s with replies := t.replies, heads := s.heads.set h y }
    let bad : State → Prop := fun t => t = { s with replies := t.replies, heads := t.heads, tly := t.tly } ∧
      (t.heads.get h).violMbox = satAdd 8 x.violMbox 1
    (∀ v, v < 2 ^ 64 → Yields (.setTimestamp h v) s (sets 0x0301 { x with stampBase := some (v, s.dev.aonUs) })) ∧
    (∀ p, p.length = 5 → (∀ b ∈ p, b < 256) → Yields (.setEventInterruptPolicy h p) s (sets 0x0103 { x with evPolicy := p })) ∧
    (∀ p, p.length ≠ 5 → s.tly.fifo.length < 32 → Yields (.setEventInterruptPolicy h p) s fun t => bad t ∧ t.AnsweredCxl h 0x0103 0x16 .empty) ∧
    (∀ c, Yields (.setAlertConfiguration h c) s (sets 0x4202 { x with alertCfg := c })) ∧
    (∀ n, n ≤ 1 → Yields (.setShutdownState h n) s (sets 0x4204 { x with shutdownState := n })) ∧
    (∀ n, 1 < n → Yields (.setShutdownState h n) s (fails h 0x4204 2 s)) ∧
    (∀ l, Yields (.clearEventRecords h l none) s fun t => t.AnsweredCxl h 0x0101 0 .empty ∧ ((t.heads.get h).log l).recs = [] ∧
      ((x.log l).recs ≠ [] → (t.heads.get h).log l = {}) ∧ (∀ k, k ≠ l → (t.heads.get h).log k = x.log k) ∧
      t.heads.get h.other = s.heads.get h.other ∧ t = { s with replies := t.replies, heads := t.heads }) ∧
    (∀ l hs, (∀ n ∈ hs, ∃ r ∈ (x.log l).recs, r.handle = n) → Yields (.clearEventRecords h l (some hs)) s fun t =>
      t.AnsweredCxl h 0x0101 0 .empty ∧ (∀ r, r ∈ ((t.heads.get h).log l).recs ↔ r ∈ (x.log l).recs ∧ r.handle ∉ hs) ∧
      ((t.heads.get h).log l).overflow = (if hs = [] then (x.log l).overflow else 0) ∧ (∀ k, k ≠ l → (t.heads.get h).log k = x.log k) ∧
      t.heads.get h.other = s.heads.get h.other ∧ t = { s with replies := t.replies, heads := t.heads }) ∧
    (∀ l hs n, n ∈ hs → (∀ r ∈ (x.log l).recs, r.handle ≠ n) → Yields (.clearEventRecords h l (some hs)) s (fails h 0x0101 0xE s)) ∧
    (∀ op, s.tly.fifo.length < 32 →
      (0xC100 ≤ op → op ≤ 0xC1FF → Yields (.malformedMailboxCommand h op) s fun t => bad t ∧ t.Answered h op 0x12 .empty) ∧
      (op < 0xC100 ∨ 0xC1FF < op → Yields (.malformedMailboxCommand h op) s fun t => bad t ∧ t.AnsweredCxl h op 0x16 .empty)) ∧
    (∀ a d, d.length ≠ 64 → s.tly.fifo.length < 32 → Yields (.clearPoison h a d) s fun t => bad t ∧ t.AnsweredCxl h 0x4302 0x16 .empty) ∧
    (∀ a d, d.length = 64 → s.access h (a / 2 ^ 30) ≠ .write →
      Yields (.injectPoison h a) s (fails h 0x4301 2 s) ∧ Yields (.clearPoison h a d) s (fails h 0x4302 2 s)) ∧
    (∀ a e, s.access h (a / 2 ^ 30) = .write →
      let g := a / 4096
      (∀ d, d.length = 64 → s.restoredBit g = false → Yields (.clearPoison h a d) s fun t => t = { s with replies := t.replies, fld := t.fld } ∧
        t.replies.mbox.get h = none ∧ t.fld.restored = s.fld.restored ∧ t.fld.lost = s.fld.lost ∧
        ∃ q : HostReq, q.head = h ∧ q.isWrite = true ∧ q.mbox = true ∧ q.dpa = a / 64 * 64 ∧ q.data = d ∧
          (q ∈ t.fld.admission ∨ ∃ f ∈ t.fld.fetches, f.granule = g ∧ q ∈ f.waiting)) ∧
      (s.mapOn = true → g < s.granules → s.cached (regionOf g) = some e → e.filling = false →
      (Yields (.injectPoison h a) s fun t =>
        t.AnsweredCxl h 0x4301 0 .empty ∧ t.fld.lost = setAdd g s.fld.lost ∧ t.restoredBit g = true ∧ t.dirtyBit g = true ∧
        (∀ l, t.poison.contains l = (s.poison.contains l || decide (l / 64 = g))) ∧ (∀ k, k ≠ g → t.dirtyBit k = s.dirtyBit k) ∧
        (∀ y, t.byteAt y = s.byteAt y) ∧ t.dev = s.dev ∧ t.jrn = s.jrn) ∧
      (∀ d, d.length = 64 → s.dmc.posted = [] → s.restoredBit g = true → (s.dchan (s.site (a / 64 * 64)).channel).failed = false →
        Yields (.clearPoison h a d) s fun t =>
          t.AnsweredCxl h 0x4302 0 .empty ∧ t.fld.lost.contains g = false ∧ t.dirtyBit g = true ∧ t.poison.contains (a / 64) = false ∧
          (s.fld.lost.contains g = false → (∀ l, l ≠ a / 64 → t.poison.contains l = s.poison.contains l) ∧
            ∀ y, t.byteAt y = if y / 64 = a / 64 then d.getD (y % 64) 0 else s.byteAt y) ∧
          (s.fld.lost.contains g = true → (∀ l, t.poison.contains l = (s.poison.contains l && !decide (l / 64 = g))) ∧
            ∀ y, t.byteAt y = if y / 64 = a / 64 then d.getD (y % 64) 0
              else if y / 4096 = g ∧ s.poison.contains (y / 64) = true then 0 else s.byteAt y) ∧
          (∀ k, k ≠ g → t.dirtyBit k = s.dirtyBit k) ∧ t.dev = s.dev ∧ t.jrn = s.jrn))))

/-- R298, R302, R305, R311, R312, R315 to R319, R336: the commands of chapter 10. `only` is the frame they share.
Where it says more than those rules do, it states the model's choices of log entries 42 and 43. -/
def Obligations.DramUpkeep : Prop :=
  let only : State → State → Prop := fun s t => t = { s with dmc := t.dmc }
  let oneCh : State → Nat → State → Prop := fun s c t => ∀ x, x ≠ c → t.dchan x = s.dchan x
  (∀ s c ns, s.dchanOn c = true → (s.dchan c).writeQ.Nodup →
      let q := (s.dchan c).writeQ
      let late := q.filter fun w => decide (s.effective ns w = 3)
      (192 ≤ q.length ∨ late ≠ [] → Yields (.writeBatch c ns) s fun t =>
        (t.dchan c).writeQ.Sublist q ∧ (t.dchan c).writeQ.length = (if 64 < q.length then 64 else q.length - late.length) ∧
        (t.dchan c).batches = (s.dchan c).batches + 1 ∧ oneCh s c t ∧ only s t) ∧
      (q.length < 192 → late = [] → exec (.writeBatch c ns) s = .next s)) ∧
  (∀ s c k d, s.dchanOn c = true → k < 8 → d < 10 → tblGet 15 s.dmc.marks (markKey c k) = 15 → s.mild 0x42 = true →
      Yields (.deviceMark c k d) s fun t =>
      tblGet 15 t.dmc.marks (markKey c k) = d ∧ (∀ x, x ≠ markKey c k → tblGet 15 t.dmc.marks x = tblGet 15 s.dmc.marks x) ∧
      t.flt.live.contains 0x42 = true ∧ t.dmc.chans = s.dmc.chans ∧ t.map = s.map ∧ t.dev = s.dev ∧ ∀ x, t.byteAt x = s.byteAt x) ∧
  (∀ s c r b, s.dchanOn c = true → (s.dchan c).selfRefresh = false → r < 4 → b < 4 →
      let k := r * 4 + b
      let early := tblGet 0 (s.dchan c).early k
      let late := tblGet 0 (s.dchan c).late k
      let then_ : State → Nat → Nat → Nat → Prop := fun t e l n =>
        (∀ j, tblGet 0 (t.dchan c).early j = if j = k then e else tblGet 0 (s.dchan c).early j) ∧
        (∀ j, tblGet 0 (t.dchan c).late j = if j = k then l else tblGet 0 (s.dchan c).late j) ∧
        (t.dchan c).refreshes = (s.dchan c).refreshes + n ∧ (t.dchan c).writeQ = (s.dchan c).writeQ ∧ oneCh s c t ∧ only s t
      (Yields (.refresh c ⟨r, b, .postponed⟩) s fun t =>
        if early ≠ 0 then then_ t (early - 1) late 0 else if late < 4 then then_ t 0 (late + 1) 0 else then_ t 0 0 1) ∧
      (Yields (.refresh c ⟨r, b, .pulledIn⟩) s fun t => if early < 4 then then_ t (early + 1) 0 1 else then_ t early late 0) ∧
      Yields (.refresh c ⟨r, b, .issued⟩) s fun t => if early = 0 then then_ t 0 0 1 else then_ t (early - 1) late 0) ∧
  (∀ s c r, s.dchanOn c = true → Yields (.mr4Poll c r) s fun t =>
      (t.dchan c).refRate = r % 4 ∧ oneCh s c t ∧ only s t) ∧
  (∀ s, s.saving = false → s.dmc.changing = false → s.dmc.powered = true → s.dmc.scrubLine < s.hostLines →
      Yields (.patrolScrub .clean) s fun t =>
      let n := if s.restoredBit (s.dmc.scrubLine / 64) then s.dmc.scrubLine + 1 else (s.dmc.scrubLine / 64 + 1) * 64
      t.dmc.scrubLine = (if s.scrubLines ≤ n then 0 else n) ∧
      t.dmc.scrubPasses = (if s.scrubLines ≤ n then satAdd 16 s.dmc.scrubPasses 1 else s.dmc.scrubPasses) ∧
      t = { s with dmc := t.dmc, fld := { s.fld with gateCache := t.fld.gateCache } }) ∧
  (∀ s d, s.saving = true ∨ s.dmc.changing = true ∨ s.dmc.powered = false ∨ s.scrubLines = 0 → exec (.patrolScrub d) s = .next s) ∧
  (∀ s l c, s.lay.inForce = some l → l.dram.idleMs ≠ 0 → s.dchanOn c = true → s.saving = false → s.dmc.changing = false →
      (s.dchan c).writeQ = [] → Yields (.idleSelfRefresh c) s fun t =>
      (t.dchan c).selfRefresh = true ∧ (t.dchan c).idleRefresh = true ∧ (t.dchan c).openRows = [] ∧ oneCh s c t ∧ only s t) ∧
  (∀ s c, (s.dchan c).writeQ ≠ [] ∨ s.saving = true ∨ s.dchanOn c = false → exec (.idleSelfRefresh c) s = .next s) ∧
  (∀ s c k, s.dchanOn c = true → 0 < k → k < 4 → s.mild 0x43 = true → s.saving = false →
      Yields (.dramChannelFailure c k) s fun t =>
      (t.dchan c).failed = true ∧ (t.dchan c).failCause = k ∧ (t.dchan c).writeQ = [] ∧ oneCh s c t ∧
      t.map = s.map ∧ t.dev = s.dev ∧ t.poison = s.poison ∧ ∀ x, t.byteAt x = s.byteAt x) ∧
  (∀ s n f, s.alive = true → s.dmc.powered = true → s.saving = false →
      (s.trn.activity ≠ 0 → Yields (.shadowSetChange n f) s fun t => t = { s with dmc := { s.dmc with pending := some (n % 4) } }) ∧
      (s.trn.activity = 0 → s.setReady (n % 4) = false → Yields (.shadowSetChange n f) s fun t =>
        t = { s with dmc := { s.dmc with refused := s.dmc.refused + 1 } }) ∧
      (s.trn.activity = 0 → s.setReady (n % 4) = true → s.dmc.current ≠ n % 4 → Yields (.shadowSetChange n f) s fun t =>
        t.dmc.current = n % 4 ∧ (∀ c, c < s.dchans → (t.dchan c).set = n % 4 ∧ (t.dchan c).openRows = []) ∧ t.dmc.changes = satAdd 16 s.dmc.changes 1 ∧ t.dmc.postedLimitKib = postedLimit (n % 4) ∧
        t.dmc.posted = s.dmc.posted ∧ t = { s with dmc := t.dmc, trn := t.trn })) ∧
  (∀ s h r v, s.windowOpen (Head.port h) = true → r < 64 →
      (∀ k, k < 16 → bits v (2 * k) 2 ≠ 3 → s.panWritable h (16 * r + k) = true) → Yields (.panPolicyWrite h.port r v) s fun t =>
      (∀ k, k < 16 → tblGet 0 t.dmc.panAttr (16 * r + k) =
        if bits v (2 * k) 2 = 3 then tblGet 0 s.dmc.panAttr (16 * r + k) else bits v (2 * k) 2) ∧
      (∀ p, p / 16 ≠ r → tblGet 0 t.dmc.panAttr p = tblGet 0 s.dmc.panAttr p) ∧ only s t)

/-- R324, R325, R327, R332 to R335: TRAINING_CHECKPOINT, DQS_TRACK, FULL_NEXT, TRN_CANCEL.
Where it says more than those rules do, it states the model's choices of log entry 44. -/
def Obligations.DramTraining : Prop :=
  (∀ s c step k rest r, s.boot.isSome = true → s.trn.activity = 3 → s.dev.st = .boot ∨ s.dev.st = .reflood → c < s.dchans → (s.dchan c).failed = false → (s.tchan c).queue = k :: rest →
      nextStep (s.tchan c).mask = step →
      (step < 6 → r.ok = true → r.committed = true → s.dmc.pending = none → Yields (.trainingCheckpoint c step k r) s fun t =>
        t = { s with trn := t.trn } ∧ (t.tchan c).mask = (s.tchan c).mask ||| 2 ^ (step - 1) ∧ (t.tchan c).queue = k :: rest ∧
        t.trnRec c k = { steps := (s.tchan c).mask ||| 2 ^ (step - 1), fingerprint := s.fingerprint k (s.tchan c).ident
                         values := r.values, margins := r.margins, exists_ := true, hottest := s.passHottest c k, invalidated := false }) ∧
      (r.ok = false → (s.tchan c).tries < 3 → Yields (.trainingCheckpoint c step k r) s fun t =>
        t = { s with trn := t.trn } ∧ (t.tchan c).tries = (s.tchan c).tries + 1 ∧ (t.tchan c).queue = k :: rest ∧
        (t.tchan c).failStep = step ∧ (t.tchan c).failSet = k ∧ t.trn.recs = s.trn.recs) ∧
      (r.ok = false → 3 ≤ (s.tchan c).tries → rest ≠ [] → Yields (.trainingCheckpoint c step k r) s fun t =>
        t = { s with trn := t.trn } ∧ (t.tchan c).failedSets = setAdd k (s.tchan c).failedSets ∧ (t.tchan c).queue = rest ∧
        (t.tchan c).tries = 0 ∧ t.trn.recs = s.trn.recs)) ∧
  (∀ s c d v, s.running = true → s.dchanOn c = true → s.dmc.changing = false → 4 < Int.natAbs v →
      let total := tblGet 0 (s.tchan c).adjusted d + v
      (Int.natAbs total ≤ 32 → Yields (.dqsTrack c d v) s fun t =>
        t = { s with trn := t.trn } ∧ tblGet 0 (t.tchan c).adjusted d = total ∧ (t.tchan c).adjusts = satAdd 16 (s.tchan c).adjusts 1 ∧
        (∀ x, x ≠ c → t.tchan x = s.tchan x) ∧ t.trn.recs = s.trn.recs) ∧
      (32 < Int.natAbs total → (s.tchan c).outOfRange = false → s.mild 0x44 = true → Yields (.dqsTrack c d v) s fun t =>
        (t.tchan c).outOfRange = true ∧ tblGet 0 (t.tchan c).result (s.dchan c).set = 3 ∧
        (t.trnRec c (s.dchan c).set).invalidated = true ∧ t.dmc.trained.contains (s.dchan c).set = false ∧
        t.map = s.map ∧ t.dev = s.dev ∧ ∀ x, t.byteAt x = s.byteAt x)) ∧
  (∀ s h, s.windowOpen (Head.port h) = true →
      (s.holds h 1 = true →
        Yields (.fullNext h.port) s (fun t => t = { s with trn := { s.trn with fullNext := true } }) ∧
        Yields (.trnCancel h.port) s (fun t => t = { s with trn := { s.trn with fullNext := false } })) ∧
      (s.holds h 1 = false → s.tly.fifo.length < 32 →
        Yields (.fullNext h.port) s (fun t => t = { s with heads := t.heads, tly := t.tly }) ∧
        Yields (.trnCancel h.port) s (fun t => t = { s with heads := t.heads, tly := t.tly }))) ∧
  (∀ s, s.windowOpen .rake = true →
      Yields (.fullNext .rake) s (fun t => t = { s with trn := { s.trn with fullNext := true } }) ∧
      Yields (.trnCancel .rake) s (fun t => t = { s with trn := { s.trn with fullNext := false } }))

/-- R343, R345 to R347, R350, R351, R353 to R356: THERMAL_SAMPLE and the throttle, restart and sampling timers.
Where it says more than those rules do, it states the model's choices of log entries 45 and 46. -/
def Obligations.ThermalGuard : Prop :=
  let converts : State → Prop := fun s =>
    s.coolsDown = false ∧ s.dev.st ≠ .off ∧ s.dev.st ≠ .sealed ∧ s.dev.st ≠ .halt ∧ s.dev.startDue = false
  let reach : State → (ThmThresh → Nat) → List (Nat × Int) := fun u f => u.atOrAbove f 0 u.thmReads
  let floor : Nat → Int := fun n => if 20 ≤ n then -720 else -880
  (∀ s n v, s.thm.enable.contains n = true → floor n ≤ v →
      let x := s.thmIn n
      let y := (convert [(n, .measured v)] s).thmIn n
      y.temp = some (min v 2240) ∧ y.clamped = decide (2240 < v) ∧ y.badRun = 0 ∧ y.goodRun = x.goodRun + 1 ∧
      y.broken = (x.broken && decide (x.goodRun < 2))) ∧
  (∀ s n r, s.thm.enable.contains n = true → s.saving = false → s.mild 0xA1 = true → (r = .invalid ∨ ∃ v, r = .measured v ∧ v < floor n) →
      let x := s.thmIn n
      let u := convert [(n, r)] s
      (u.thmIn n).badRun = x.badRun + 1 ∧ (u.thmIn n).goodRun = 0 ∧ (u.thmIn n).temp = x.temp ∧
      (u.thmIn n).broken = (x.broken || decide (2 ≤ x.badRun)) ∧
      u.thm.breaks = (if x.broken = false ∧ 2 ≤ x.badRun then satAdd 8 s.thm.breaks 1 else satAdd 8 s.thm.breaks 0)) ∧
  (∀ s r, s.coolsDown = false → s.dev.st = .off ∨ s.dev.st = .sealed ∨ s.dev.st = .halt ∨ s.dev.startDue = true →
      exec (.thermalSample r) s = .next s) ∧
  (∀ s r e, converts s → ((convert r s).thmMeasured.find? fun e => decide (2000 ≤ e.2)) = some e →
      Yields (.thermalSample r) s fun t => let u := convert r s
      t.dev.st = .halt ∧ t.dev.halt = .thermal ∧ t.thm.lastStop = ⟨2, e.1, u.dev.st.code, e.2⟩ ∧ t.thm.level = 3 ∧ t.thm.trip = true ∧
      t.thm.halts = satAdd 8 u.thm.halts 1 ∧ ∀ x, t.byteAt x = 0) ∧
  (∀ s r, converts s → ((convert r s).thmMeasured.find? fun e => decide (2000 ≤ e.2)) = none →
      let u := convert r s
      (∀ e l, reach u ThmThresh.shut = e :: l → u.dev.st = .unarmed ∨ u.dev.st = .boot ∨ u.dev.st = .reflood ∨ u.dev.st = .recovery →
        u.tly.fifo.length < 32 → Yields (.thermalSample r) s fun t =>
        t.dev.st = .halt ∧ t.dev.halt = .thermal ∧ t.thm.lastStop = ⟨1, e.1, u.dev.st.code, e.2⟩ ∧ t.thm.level = 3 ∧ t.thm.trip = true ∧
        ∀ x, t.byteAt x = 0) ∧
      (reach u ThmThresh.shut ≠ [] → u.dev.st = .armed → u.tly.fifo.length < 32 → Yields (.thermalSample r) s fun t =>
        t.dev.st = .harvest ∧ t.hrv.trigger = 3 ∧ t.hrv.armedAtTrigger = true ∧ t.hrv.saveSeq = u.hrv.nextSeq) ∧
      (u.saving = true → Yields (.thermalSample r) s fun t => t.dev = u.dev ∧
        t.hrv.thermalEnd = (u.hrv.thermalEnd || (!u.hrv.m3 && decide (reach u ThmThresh.shutSave ≠ [])))) ∧
      (reach u ThmThresh.shut = [] → u.saving = false → u.mild 0xA0 = true → u.tly.fifo.length < 30 → Yields (.thermalSample r) s fun t =>
        let enters := reach u ThmThresh.throttle ≠ [] ∧ u.thm.step = 0
        t.dev = u.dev ∧ t.map = u.map ∧ t.hrv = u.hrv ∧ t.jrn = u.jrn ∧ (∀ x, t.byteAt x = u.byteAt x) ∧ t.thm.inputs = u.thm.inputs ∧
        t.thm.shut = false ∧ t.thm.step = (if enters then 1 else u.thm.step) ∧ t.thm.headCap = (if enters then 80 else u.thm.headCap) ∧
        t.thm.throttles = (if enters then satAdd 8 u.thm.throttles 1 else u.thm.throttles) ∧ t.thm.level = t.thmLevel ∧
        (∀ e ∈ reach u ThmThresh.warn, t.thm.warned.contains e.1 = true) ∧
        ((∀ e ∈ u.thmReads, e.2 ≤ u.limit (u.thresh e.1).warn - 80) → t.thm.warned = []))) ∧
  (∀ s, s.alive = true → 0 < s.thm.step → s.thm.step < 3 → reach s ThmThresh.throttle ≠ [] → s.tly.fifo.length < 32 →
      Yields .throttleStepAdvance s fun t =>
      t.thm.step = s.thm.step + 1 ∧ t.thm.headCap = (if s.thm.step = 1 then 48 else 24) ∧
      t = { s with thm := t.thm, tly := t.tly, dmc := t.dmc, trn := t.trn }) ∧
  (∀ s, s.alive = false ∨ s.thm.step = 0 ∨ 3 ≤ s.thm.step ∨ reach s ThmThresh.throttle = [] → exec .throttleStepAdvance s = .next s) ∧
  (∀ s, s.alive = true → s.throttleCool = true → s.tly.fifo.length < 31 → s.thm.level = s.thmLevel → s.flt.live.contains 0xA0 = true →
      (2 ≤ s.thm.step → Yields .throttleStepBack s fun t =>
        t.thm.step = s.thm.step - 1 ∧ t.thm.headCap = (if s.thm.step = 2 then 80 else if s.thm.step = 3 then 48 else 24) ∧
        t = { s with thm := t.thm, tly := t.tly, dmc := t.dmc, trn := t.trn }) ∧
      (s.thm.step = 1 → Yields .throttleStepBack s fun t =>
        t.thm.step = 0 ∧ t.thm.headCap = 0 ∧ t.thm.throttledBy = [] ∧ t.thm.level = t.thmLevel ∧ t.dev = s.dev ∧ t.map = s.map ∧
        ∀ x, t.byteAt x = s.byteAt x)) ∧
  (∀ s, s.alive = false ∨ s.thm.step = 0 ∨ s.throttleCool = false → exec .throttleStepBack s = .next s) ∧
  (∀ s r, s.coolsDown = true → Yields (.thermalSample r) s fun t =>
      let u := convert r { s with dev := { s.dev with aonUs := s.dev.aonUs + 1000000 } }
      t.thm.restartRun = u.coolNow ∧
      t.thm.restartS = (if u.coolNow = true ∧ u.thm.restartRun = true then min 10 (u.thm.restartS + 1) else 0) ∧
      t.dev = u.dev ∧ t.thm.inputs = u.thm.inputs) ∧
  (∀ s, s.coolsDown = true → s.thm.restartRun = true → 10 ≤ s.thm.restartS →
      (s.dev.st = .halt → s.dev.halt = .thermal → Yields .thermalRestart s (StartDue 6)) ∧
      (s.dev.st = .sealed ∨ s.dev.halt ≠ .thermal →
        (s.dev.pgOk = false → Yields .thermalRestart s fun t => t = { s with dev := { s.dev with coolOk := true } }) ∧
        (s.dev.pgOk = true → Yields .thermalRestart s fun t => t.dev.st = .boot ∧ t.dev.startDue = true ∧ t.upd.cause = 6))) ∧
  (∀ s, s.coolsDown = false ∨ s.thm.restartRun = false ∨ s.thm.restartS < 10 → exec .thermalRestart s = .next s) ∧
  (∀ s, s.alive = true → s.thmNear = false → Yields .fastSamplingEnd s fun t => t = { s with thm := { s.thm with fast := false } }) ∧
  (∀ s, s.alive = false ∨ s.thmNear = true → exec .fastSamplingEnd s = .next s)

/-- R366, R367, R369, R371, R372, R374, R376, R378, R380, R381: FAULT_EVENT. `plain` sources do nothing to the store, to training or to Tally of themselves; the
record of the event is `fltRecord`, whose second part is the level it takes.
Where it says more than those rules do, it states the model's choices of log entry 47. -/
def Obligations.FaultEvents : Prop :=
  let plain : Nat → Prop := fun n => n ∉ [0x20, 0x21, 0x30, 0x50, 0x60, 0xC2, 0xE0]
  let seen : State → Nat → Nat → State → Prop := fun s n l t =>
    t.flt.sticky.contains n = true ∧ (tblGet {} t.flt.counts n).total = satAdd 24 (tblGet {} s.flt.counts n).total 1 ∧
    t.flt.unack = s.flt.unack ++ [⟨n / 16, l, n⟩] ∧
    (s.flt.first.valid = false → t.flt.first.source = n ∧ t.flt.first.level = l ∧ t.flt.first.state = s.dev.st.code ∧ t.flt.first.valid = true) ∧
    (s.flt.first.valid = true → t.flt.first = { s.flt.first with overflow := true })
  (∀ s n u d, plain n → (srcRow n).isSome = true → s.alive = true → s.flt.masked.contains n = false → s.saving = false → s.mild n = true →
      Yields (.faultEvent n u d .occurrence) s fun t =>
      let l := (fltRecord n s).2
      seen s n l t ∧ (l = 1 → t.flt.supIrq = true) ∧ (l = 2 → t.flt.trap = true) ∧ (l = 0 → t.flt.trap = s.flt.trap) ∧
      t.tly.fifo = s.tly.fifo ++ [⟨n, l, s.dev.st.code, u⟩] ∧
      t.dev = s.dev ∧ t.map = s.map ∧ t.bed = s.bed ∧ t.jrn = s.jrn ∧ ∀ x, t.byteAt x = s.byteAt x) ∧
  (∀ s n u d w, plain n → srcRow n = some w → w.hf = 0 → n ≠ 0x11 → s.dev.st = .armed ∨ s.dev.st = .unarmed →
      s.flt.masked.contains n = false → (fltRecord n s).2 = 4 → s.tly.fifo.length < 32 → s.flt.haltPreReady = false →
      (w.stop = false → Yields (.faultEvent n u d .occurrence) s fun t => StartDue 3 t ∧ t.flt.sticky.contains n = true) ∧
      (w.stop = true → Yields (.faultEvent n u d .occurrence) s fun t =>
        t.dev.st = .halt ∧ t.dev.halt = .fault ∧ t.flt.haltSource = n ∧ t.flt.haltCause = 3 ∧ t.pins.errLow = true)) ∧
  (∀ s n u d w, plain n → srcRow n = some w → w.hf = 0 → s.dev.st = .harvest → s.flt.masked.contains n = false →
      3 ≤ (fltRecord n s).2 → s.tly.fifo.length < 32 → s.hrv.endNow = false → Yields (.faultEvent n u d .occurrence) s fun t =>
      t.hrv = { s.hrv with deferred := satAdd 8 s.hrv.deferred 1 } ∧ t.flt.deferred.contains n = true ∧ t.dev = s.dev ∧ t.map = s.map ∧
      t.bed = s.bed ∧ ∀ x, t.byteAt x = s.byteAt x) ∧
  (∀ s n u d, s.flt.live.contains n = true → Yields (.faultEvent n u d .rises) s fun t => t = s) ∧
  (∀ s n u d, plain n → s.flt.masked.contains n = true → s.saving = false → Yields (.faultEvent n u d .occurrence) s fun t => t = s) ∧
  (∀ s n u d, n ≠ 0xC2 → Yields (.faultEvent n u d .falls) s fun t => t = { s with flt := { s.flt with live := setDel n s.flt.live } })

/-- R377, whole: an event's sticky bit, and clearing. `named` are the sources a write names. -/
def Obligations.FaultClearing : Prop :=
  (∀ s n u d, (srcRow n).isSome = true → n ∉ [0x20, 0x21, 0x30, 0x50, 0x60, 0xC2, 0xE0] → s.alive = true →
      s.flt.masked.contains n = false → s.saving = false → s.mild n = true → Yields (.faultEvent n u d .occurrence) s fun t =>
      t.flt.sticky.contains n = true) ∧
  (∀ s n u d, Yields (.faultEvent n u d .falls) s fun t => t.flt.sticky = s.flt.sticky ∧ t.flt.severe = s.flt.severe) ∧
  (∀ s p w m, s.windowOpen p = true → w < 8 →
      let named : Nat → Bool := fun n => n / 32 = w && m.testBit (n % 32)
      Yields (.clearSticky p false w m) s (fun t =>
        (∀ n, t.flt.sticky.contains n = (s.flt.sticky.contains n && !(named n && !s.flt.live.contains n))) ∧
        t.flt.clearRefused = (s.flt.clearRefused || (List.range 256).any fun n => named n && s.flt.live.contains n) ∧
        t.flt.severe = s.flt.severe ∧ t = { s with flt := t.flt, pins := t.pins }) ∧
      Yields (.clearSticky p true w m) s fun t =>
        (∀ n, t.flt.severe.contains n = (s.flt.severe.contains n && !(named n && !s.flt.live.contains n))) ∧
        t.flt.clearRefused = (s.flt.clearRefused || (List.range 256).any fun n => named n && s.flt.live.contains n) ∧
        t.flt.sticky = s.flt.sticky ∧ t = { s with flt := t.flt, pins := t.pins }) ∧
  (∀ s p, s.windowOpen p = true → s.flt.first.valid = true →
      (s.flt.live.contains s.flt.first.source = false → Yields (.clearFirst p) s fun t => t = { s with flt := { s.flt with first := {} } }) ∧
      (s.flt.live.contains s.flt.first.source = true → Yields (.clearFirst p) s fun t =>
        t = { s with flt := { s.flt with clearRefused := true } }))

/-- R365, R367, R371, R377, R381, R382: BLOCK_RESET_COMPLETE, WIREFAULT, FAULT_WINDOW_EXPIRY, TRAP_RETURN, ACKNOWLEDGE_CLASS.
Where it says more than those rules do, it states the model's choices of log entry 48. -/
def Obligations.FaultHandling : Prop :=
  (∀ s b ok, s.flt.resetting.contains b = true → Yields (.blockResetComplete b ok) s fun t =>
      t = { s with flt := t.flt, tly := t.tly } ∧ t.flt.resetting.contains b = false ∧
      (∀ u, u ∈ t.flt.unack ↔ u ∈ s.flt.unack ∧ ¬(u.level = 3 ∧ (srcRow u.src).any fun r => r.block = b)) ∧
      (b ≠ .tally → t.tly = s.tly) ∧
      (b = .tally → t.tly.ready = true ∧ t.tly.fallback = (s.tly.fallback && !ok) ∧ t.tly.ring = if s.tly.fallback then [] else s.tly.ring)) ∧
  (∀ s n, n < 256 → s.alive = true → s.flt.masked.contains n = false → s.saving = false → s.flt.live.contains (n / 16) = false →
      s.flt.masked.contains (n / 16) = false → n / 16 ≠ n → s.mild (n / 16) = true → Yields (.wirefault n true) s fun t =>
      t.flt.masked.contains n = true ∧ t.flt.wireLine = n ∧ t.flt.wireGroups.contains (n / 16) = true ∧
      t.flt.live.contains (n / 16) = true ∧ t.flt.sticky.contains (n / 16) = true ∧ t.dev = s.dev ∧ t.map = s.map ∧
      ∀ x, t.byteAt x = s.byteAt x) ∧
  (∀ s n, n < 256 → s.alive = true → Yields (.wirefault n false) s fun t =>
      t = { s with flt := { s.flt with
        masked := setDel n s.flt.masked
        live := if (setDel n s.flt.masked).any (fun m => m / 16 == n / 16) then s.flt.live else setDel (n / 16) s.flt.live } }) ∧
  (∀ s n, Yields (.faultWindowExpiry n) s fun t =>
      t = { s with flt := { s.flt with counts := t.flt.counts } } ∧
      tblGet {} t.flt.counts n = { tblGet {} s.flt.counts n with window := 0 } ∧
      ∀ x, x ≠ n → tblGet {} t.flt.counts x = tblGet {} s.flt.counts x) ∧
  (∀ s, s.flt.trap = true →
      (s.flt.trapAgain = true → Yields .trapReturn s fun t => t = { s with flt := { s.flt with trapAgain := false } }) ∧
      (s.flt.trapAgain = false → Yields .trapReturn s fun t =>
        t = { s with flt := t.flt } ∧ t.flt.trap = false ∧ t.flt.sticky = s.flt.sticky ∧
        ∀ u, u ∈ t.flt.unack ↔ u ∈ s.flt.unack ∧ u.level ≠ 2)) ∧
  (∀ s p m, s.windowOpen p = true → Yields (.acknowledgeClass p m) s fun t =>
      t = { s with flt := t.flt } ∧ t.flt.sticky = s.flt.sticky ∧
      (∀ u, u ∈ t.flt.unack ↔ u ∈ s.flt.unack ∧ ¬(u.level = 1 ∧ m.testBit u.cls = true)) ∧
      ((∀ u ∈ s.flt.unack, u.level = 1 → m.testBit u.cls = true) → t.flt.supIrq = false))

/-- R383 to R386, R389 to R391, R395, R398: TALLY_TRIGGER, TALLY_RECORD_WRITE, TALLY_MIRROR, SOFTWARE_TRIGGER.
Where it says more than those rules do, it states the model's choices of log entry 49. -/
def Obligations.TallyRecords : Prop :=
  (∀ s c l a, s.alive = true → tlyCode c = true →
      (s.tly.fifo.length < 32 → Yields (.tallyTrigger c l a) s fun t =>
        t = { s with tly := { s.tly with fifo := s.tly.fifo ++ [⟨c, if c < 0x100 then l % 8 else 7, s.dev.st.code, a⟩] } }) ∧
      (32 ≤ s.tly.fifo.length → s.tly.dropped = true → Yields (.tallyTrigger c l a) s fun t =>
        t = { s with tly := { s.tly with lostCount := satAdd 6 s.tly.lostCount 1, lostTotal := satAdd 32 s.tly.lostTotal 1 } })) ∧
  (∀ s b x rest, s.alive = true → s.tly.ready = true → s.tly.overflowDue = none → s.tly.fifo = x :: rest → s.tly.fallback = false →
      s.tly.nextSeq + 65536 < s.tly.reserved → Yields (.tallyRecordWrite b) s fun t =>
      (∃ r, tblGet none (t.tly.ring.map fun e => (e.1, some e.2)) (s.tly.nextSeq % 1024) = some r ∧ r.seq = s.tly.nextSeq ∧
        r.trig = x.code ∧ r.level = x.level ∧ r.state = x.state ∧ r.list = (s.tlyMapOf x.code x.level).1 ∧
        r.persist = (s.tlyMapOf x.code x.level).2 ∧ r.words.length = (s.snapList r.list x.arg).length) ∧
      (∀ k, k ≠ s.tly.nextSeq % 1024 → tblGet none (t.tly.ring.map fun e => (e.1, some e.2)) k =
        tblGet none (s.tly.ring.map fun e => (e.1, some e.2)) k) ∧
      t.tly.nextSeq = s.tly.nextSeq + 1 ∧ t.tly.fifo = rest ∧ t.tly.lostCount = 0 ∧ t.tly.reserved = s.tly.reserved ∧
      t = { s with tly := t.tly, flt := t.flt }) ∧
  (∀ s r rest, s.tly.mirrorQ = r :: rest → s.saving = false → s.alive = true →
      Yields (.tallyMirror true) s (fun t =>
        (s.journalRoom = true → t.jrn = s.jrn ++ [.tallyRec r]) ∧
        t = { s with jrn := t.jrn
                     tly := { s.tly with mirrorQ := rest, mirrored := satAdd 16 s.tly.mirrored 1 } }) ∧
      (s.mild 0xB0 = true → Yields (.tallyMirror false) s fun t =>
        t.tly.mirrorQ = rest ∧ t.tly.mirrorDropped = satAdd 16 s.tly.mirrorDropped 1 ∧ t.jrn = s.jrn ∧ t.dev = s.dev ∧ t.map = s.map ∧
        ∀ y, t.byteAt y = s.byteAt y)) ∧
  (∀ s p v, s.windowOpen p = true → s.tly.fifo.length < 32 →
      ((s.tly.softAt.get p).all (fun u => u + 1000 ≤ s.dev.aonUs) = true → Yields (.softwareTrigger p v) s fun t =>
        t = { s with tly := { s.tly with
          fifo := s.tly.fifo ++ [⟨0x1F0 + v % 16, 7, s.dev.st.code, 0⟩], softAt := s.tly.softAt.set p (some s.dev.aonUs) } }) ∧
      (∀ u, s.tly.softAt.get p = some u → s.dev.aonUs < u + 1000 → Yields (.softwareTrigger p v) s fun t => t = s))

/-- R396, R397, R399, R478: Tally Clear Nonce and Clear Tally.
Where it says more than those rules do, it states the model's choices of log entries 11 and 49. -/
def Obligations.TallyClearing : Prop :=
  ∀ s (h : Head) gen, s.Guard h 3 gen →
    (s.key.rbgOk = true → Yields (.tallyClearNonce h gen) s fun t =>
      ∃ n, t.Answered h 0xC150 0 (.nonce n) ∧ t.nonceOf .tallyClear h.port = some n ∧ t.tly = s.tly ∧ t.jrn = s.jrn) ∧
    (s.key.rbgOk = false → Yields (.tallyClearNonce h gen) s fun t =>
      t.Answered h 0xC150 4 .empty ∧ t = { s with replies := t.replies }) ∧
    (∀ k, s.tokenStatus .tallyClear h.port k true = 0 → s.tly.nextSeq + 65536 < s.tly.reserved →
      Yields (.clearTally h gen k true) s fun t =>
      t.tly.ring = [] ∧ t.tly.cleared = s.tly.nextSeq - 1 ∧ t.tly.nextSeq = s.tly.nextSeq + 1 ∧
      (s.journalRoom = true → ∃ r, t.jrn = s.jrn ++ [.tallyRec r] ∧ r.seq = s.tly.nextSeq ∧ r.trig = 0x100) ∧
      t.Answered h 0xC151 0 (.words [(s.tly.nextSeq - 1) % 2 ^ 32, (s.tly.nextSeq - 1) / 2 ^ 32 % 65536]) ∧
      t.nonceOf .tallyClear h.port = none ∧ t.dev = s.dev ∧ t.map = s.map) ∧
    (∀ k ok, s.nonceOf .tallyClear h.port = none → Yields (.clearTally h gen k ok) s fun t =>
      t.Answered h 0xC151 6 .empty ∧ t.key.failCount = satAdd 16 s.key.failCount 1 ∧ t = { s with replies := t.replies, key := t.key }) ∧
    (∀ k ok, s.nonceOf .tallyClear h.port = some k.nonce → k.ecdsaOk = false → Yields (.clearTally h gen k ok) s fun t =>
      t.Answered h 0xC151 5 .empty ∧ t.key.failCount = satAdd 16 s.key.failCount 1 ∧ t = { s with replies := t.replies, key := t.key })

/-- R405 over the table of R404: each requester's sectors, and what every other request meets. -/
def Obligations.CellarRights : Prop :=
  let within : Nat → Nat → Nat → Bool := fun n lo k => lo ≤ n && n < lo + k
  let may : CelUser → Nat → Bool := fun u n =>
    match u with
    | .bootRom => within n 4 1024 || within n 1452 4
    | .firmware => within n 4 1440 || within n 1444 4 || within n 1452 4
    | .harvest => within n 1188 256
    | .salinometer => within n 1448 4
    | .keyhouse => within n 1456 68
  ∀ s u n, n < 2048 → s.celUp = true → may u n = false →
    (∀ w d, w < 1024 → Yields (.cellarProgram u n w d) s fun t =>
      t = { s with cel := { s.cel with
        lastCode := 2, lastSector := n, lastWord := w, failCount := satAdd 8 s.cel.failCount 1, answer := .prot } }) ∧
    Yields (.cellarErase u n) s fun t =>
      t = { s with cel := { s.cel with
        lastCode := 2, lastSector := n, lastWord := 0, failCount := satAdd 8 s.cel.failCount 1, answer := .prot } }

/-- R401, R402, R406 to R412, R416, R420, R421: CELLAR_PROGRAM, CELLAR_PROGRAM_DONE, CELLAR_ERASE, CELLAR_ERASE_DONE, CELLAR_READ.
Where it says more than those rules do, it states the model's choices of log entries 9 and 50. -/
def Obligations.CellarWords : Prop :=
  let wordAt : State → Nat → CelWord := fun s k => tblGet erasedWord s.cel.words k
  (∀ s u n w d, n < 2048 → w < 1024 → s.celUp = true → celMay u n = true → s.cel.op = .idle → (s.sector (s.reached n)).worn = false →
      (s.sector (s.reached n)).flag = false →
      (celAccepts (s.celWord n w) d = true → Yields (.cellarProgram u n w d) s fun t =>
        t = { s with cel := { s.cel with op := .programming u n w d, answer := .running } }) ∧
      (celAccepts (s.celWord n w) d = false → Yields (.cellarProgram u n w d) s fun t =>
        t.cel.answer = .notErased ∧ t.cel.lastCode = 1 ∧ t.cel.words = s.cel.words ∧ t.cel.op = .idle ∧ t = { s with cel := t.cel })) ∧
  (∀ s u n w d k, s.cel.op = .programming u n w d → s.cel.queue = [] → s.mild 0xB2 = true → s.saving = false →
      Yields (.cellarProgramDone k true) s fun t =>
      t.celWord n w = { data := d, count := if (s.celWord n w).count = 3 then 2 else 0 } ∧
      (∀ x, x ≠ s.reached n * 1024 + w → wordAt t x = wordAt s x) ∧ t.cel.op = .idle ∧ t.cel.sectors = s.cel.sectors ∧
      t.cel.programs = satAdd 24 s.cel.programs 1 ∧ t.dev = s.dev ∧ t.map = s.map ∧ t.jrn = s.jrn) ∧
  (∀ s u n w d k, s.cel.op = .programming u n w d → s.cel.queue = [] → s.saving = true → Yields (.cellarProgramDone k false) s fun t =>
      t.cel.answer = .verifyFail ∧ (∀ x, x ≠ s.reached n * 1024 + w → wordAt t x = wordAt s x) ∧
      t.cel.retireOwed = setAdd n s.cel.retireOwed ∧ t.cel.lastCode = 5 ∧ t.cel.sectors = s.cel.sectors ∧ t.dev = s.dev ∧ t.map = s.map) ∧
  (∀ s u n, n < 2048 → s.celUp = true → celMay u n = true → s.cel.op = .idle →
      (s.saving = true → Yields (.cellarErase u n) s fun t =>
        t.cel.answer = .refused ∧ t.cel.lastCode = 3 ∧ t.cel.words = s.cel.words ∧ t.cel.sectors = s.cel.sectors ∧ t = { s with cel := t.cel }) ∧
      (s.saving = false → (s.sector (s.reached n)).worn = false → (s.sector (s.reached n)).erases + 1 < 90000000 → Yields (.cellarErase u n) s fun t =>
        t.cel.op = .erasing u n ∧ (t.sector (s.reached n)).flag = true ∧
        (t.sector (s.reached n)).erases = (s.sector (s.reached n)).erases + 1 ∧ t.cel.words = s.cel.words ∧ t = { s with cel := t.cel })) ∧
  (∀ s u n w d, n < 2048 → w < 1024 → s.celUp = true → celMay u n = true → s.cel.op = .idle → (s.sector (s.reached n)).worn = true →
      Yields (.cellarProgram u n w d) s fun t =>
        t.cel.answer = .verifyFail ∧ t.cel.lastCode = 5 ∧ t.cel.words = s.cel.words ∧ t = { s with cel := t.cel }) ∧
  (∀ s u n k, s.cel.op = .erasing u n → s.cel.queue = [] → Yields (.cellarEraseDone k true) s fun t =>
      (∀ x, wordAt t x = if x / 1024 = s.reached n then erasedWord else wordAt s x) ∧
      (t.sector (s.reached n)).flag = false ∧ t.cel.op = .idle ∧ t.cel.answer = .ok ∧ t = { s with cel := t.cel }) ∧
  (∀ s n w a x, n < 2048 → w < 1024 → s.celUp = true → s.cel.op = .idle → (s.sector (s.reached n)).flag = false →
      a < 5 ∨ (s.celWord n w).count = 3 → ∀ f, Yields (.cellarRead n w a f x) s fun t =>
      t.cel.answer = .data (if f = true then s.fetched n w (s.celWord n w).data else (s.celWord n w).data) ∧
      t.cel.words = s.cel.words ∧ t.cel.sectors = s.cel.sectors ∧ t = { s with cel := t.cel, free := t.free }) ∧
  (∀ s n w a f x, n < 2048 → w < 1024 → s.celUp = true → s.cel.op ≠ .idle → s.cel.lines.contains (celLine n w) = false →
      Yields (.cellarRead n w a f x) s fun t => t = { s with cel := { s.cel with
        answer := .waits, stalls := satAdd 16 s.cel.stalls 1, stallUs := max s.cel.stallUs (min s.cel.longestWait x) } }) ∧
  (∀ s n w a f x, n < 2048 → w < 1024 → s.celUp = true → s.cel.op = .idle → (s.sector (s.reached n)).flag = false → 5 ≤ a →
      (s.celWord n w).count ≠ 3 → s.cel.lines.contains (celLine n w) = false → s.saving = false → s.mild 0xB0 = true →
      Yields (.cellarRead n w a f x) s fun t =>
      t.cel = { s.cel with lastCode := 6, lastSector := n, lastWord := w, failCount := satAdd 8 s.cel.failCount 1, answer := .readFail } ∧
      t.dev = s.dev ∧ t.map = s.map) ∧
  (∀ s n w a f x, n < 2048 → w < 1024 → s.celUp = true → s.cel.op = .idle → (s.sector (s.reached n)).flag = true →
      Yields (.cellarRead n w a f x) s fun t =>
      t.cel.answer = .readFail ∧ t.cel.lastCode = 6 ∧ t.cel.words = s.cel.words ∧ t = { s with cel := t.cel }) ∧
  (∀ s u n w d a h x, 2048 ≤ n ∨ 1024 ≤ w → exec (.cellarProgram u n w d) s = .fault .noSuchCell ∧ exec (.cellarRead n w a h x) s = .fault .noSuchCell) ∧
  (∀ s u n, 2048 ≤ n → exec (.cellarErase u n) s = .fault .noSuchCell)

/-- R15, R163, R167, R175, R427, R428, R430, R456, R457: START, HOST_READY, WD_COUNT_CLEAR, CONFIRM.
Where it says more than those rules do, it states the model's choices of log entries 51 and 52. -/
def Obligations.StartAndConfirm : Prop :=
  (∀ s env, s.dev.st = .boot → s.dev.startDue = true → s.dev.mainUp = true →
    let recovers : Nat → State → Prop := fun c t =>
      t.dev.st = .recovery ∧ t.dev.startDue = false ∧ t.upd.recoveryCause = c ∧ t.upd.marker = s.upd.marker ∧ t.jrn = s.jrn ∧
      t.svc.event = true ∧ t.sal.holdArm = false ∧ ∀ x, t.byteAt x = s.byteAt x
    env.fuseBad = false → (env.recoverLow = true → (∀ e ∈ s.cel.sectors, e.2.flag = false) → s.cel.retireOwed = [] →
      Yields (.startDevice env) s (recovers 1)) ∧
    (env.recoverLow = false → env.headerOk = false → env.conversions = [] → env.calib0Bad = false ∨ env.calib1Bad = false →
      s.flt.live.contains 0xA0 = false → s.thm.calDerated = false → s.tly.fifo.length < 31 → Yields (.startDevice env) s (recovers 4))) ∧
  (∀ s env, s.dev.startDue = false ∨ s.dev.st ≠ .boot ∨ s.dev.mainUp = false → Yields (.startDevice env) s fun t => t = s) ∧
  (∀ env i, env.fuseBad = false → env.recoverLow = false → env.role = 0 → env.headerOk = true →
    env.calib0Bad = false ∨ env.calib1Bad = false → env.rbgOk = true → env.slotABad = false →
    env.conversions = List.replicate 3 ((List.range 12).map fun n => (n, ThmReading.measured 640)) →
    i.formatOk = true → i.device = 0x4816 → i.revisions.testBit 1 = true → i.sigOk = true → i.keyOk = true → i.tagOk = true →
    i.rootSet = 0 → Yields (.startDevice env) { State.reset with upd := { State.reset.upd with slotA := some i } } fun t =>
      t.dev.st = .unarmed ∧ t.dev.hostReady = true ∧ t.upd.running = false ∧ t.upd.runVer = i.version ∧ t.upd.bootDone = true ∧
      t.lay.inForce = none ∧ t.gov.accessHeld = true ∧ t.gov.pdom = false ∧ t.jrn = [] ∧ t.heads.a.inReset = false ∧ t.heads.b.inReset = false ∧
      t.svc.event = true ∧ ∀ x, t.byteAt x = 0) ∧
  (∀ s, s.dev.st ≠ .reflood ∨ s.fld.f4Ended = false ∨ s.pip.keyLoaded = false → Yields .hostReady s fun t => t = s) ∧
  (∀ s, s.dev.st = .reflood → s.fld.f4Ended = true → s.pip.keyLoaded = true → s.brl.bundle = none → s.upd.marker.state ≠ .received →
    s.tly.fifo.length + 4 ≤ 32 → Yields .hostReady s fun t =>
      t.dev.st = (if s.gov.cond.all = true ∧ s.gov.holdoffDone = true then .armed else .unarmed) ∧
      t.dev.hostReady = true ∧ t.upd.bootDone = true ∧ t.boot = none ∧ t.fld.unlockWait = false ∧
      (t.fld.restoring = true ↔ s.bed.mismatch = false ∧ s.bed.censusFailed = false ∧ s.granulesLeft ≠ 0) ∧
      (s.bed.mismatch = false → s.bed.censusFailed = false → s.journalRoom = true → ∃ l, t.jrn = s.jrn ++ .restore s.fld.closesSeq :: l) ∧
      (t.gov.pdom = true ↔ t.dev.st = .armed ∧ t.gov.accessHeld = false) ∧ t.fld.outcomeDue = false ∧
      t.map = s.map ∧ t.bed.rows = s.bed.rows ∧ ∀ x, t.byteAt x = s.byteAt x) ∧
  (∀ s, s.upd.bootDone = true → s.running = true → Yields .wdCountClear s fun t => t = { s with upd := { s.upd with wdCount := 0 } }) ∧
  (∀ s i, s.upd.marker.state = .trial → s.upd.running = s.upd.marker.tslot → s.dev.hostReady = true → s.upd.bootDone = true →
    s.running = true → s.upd.refuseArm = false → (s.upd.areaFor s.upd.running).isSome = true → s.upd.slot s.upd.marker.tslot = some i →
    Yields .confirmTrial s fun t =>
      t.upd.marker.state = .confirmed ∧ t.upd.marker.cslot = s.upd.marker.tslot ∧ t.upd.marker.tslot = s.upd.marker.tslot ∧
      t.key.antiRollback = max s.key.antiRollback (min 64 i.svn) ∧ t.upd.slotA = s.upd.slotA ∧ t.upd.slotB = s.upd.slotB ∧
      (∀ n < 2, t.upd.areaCopy n = if (s.upd.areaCopy n).any (fun c => c.slot == s.upd.marker.cslot) then none else s.upd.areaCopy n) ∧
      t = { s with upd := t.upd, key := t.key, cel := t.cel } ∧ t.cel = { s.cel with sectors := t.cel.sectors })

/-- R443, R445, R448, R449, R460, R462, R514: DL_BEGIN, DL_DATA, DL_END, UPDATE_STATUS, GET_UPDATE_STATUS.
Where it says more than those rules do, it states the model's choices of log entry 53. -/
def Obligations.Downloads : Prop :=
  let open_ : UpdState → Prop := fun m => m = .empty ∨ m = .verified ∨ m = .confirmed ∨ m = .failed
  let only : State → State → Prop := fun s t => t = { s with upd := t.upd, svc := t.svc, key := t.key, cel := t.cel } ∧
    t.cel = { s.cel with sectors := t.cel.sectors }
  let told : State → State → Prop := fun s t => t = { s with svc := t.svc }
  let live : State → Prop := fun s => s.RakeReady 0x100 ∧ s.running = true
  (∀ s tag n v, live s →
    (open_ s.upd.marker.state → 0 < n → n ≤ 0x800000 → Yields (.dlBegin tag n v) s fun t =>
      only s t ∧ t.upd.marker.state = .receiving ∧ t.upd.marker.tslot = !s.upd.marker.cslot ∧ t.upd.marker.cslot = s.upd.marker.cslot ∧
      t.upd.marker.mseq = (s.upd.marker.mseq + 1) % 65536 ∧ t.upd.slot (!s.upd.marker.cslot) = none ∧
      t.upd.slot s.upd.marker.cslot = s.upd.slot s.upd.marker.cslot ∧ t.upd.announced = n ∧ t.upd.received = 0 ∧
      t.RakeAnswered 0x30 tag 0 (.bytes [if s.upd.marker.cslot then 0 else 1, 0, 0, 0]) ∧ t.key = s.key) ∧
    (¬ open_ s.upd.marker.state → Yields (.dlBegin tag n v) s fun t => told s t ∧ t.RakeAnswered 0x30 tag 3 .empty) ∧
    (open_ s.upd.marker.state → n = 0 ∨ 0x800000 < n → Yields (.dlBegin tag n v) s fun t => told s t ∧ t.RakeAnswered 0x30 tag 0x12 .empty)) ∧
  (∀ s tag o n i, live s →
    (s.upd.marker.state ≠ .receiving → ∀ k, Yields (.dlData tag o n i k) s fun t => told s t ∧ t.RakeAnswered 0x31 tag 3 .empty) ∧
    (s.upd.marker.state = .receiving →
      (n = 0 ∨ 16384 < n → ∀ k, Yields (.dlData tag o n i k) s fun t => told s t ∧ t.RakeAnswered 0x31 tag 0x102 .empty) ∧
      (0 < n → n ≤ 16384 → n % 16 ≠ 0 ∨ s.upd.announced < o + n → ∀ k, Yields (.dlData tag o n i k) s fun t =>
        told s t ∧ t.RakeAnswered 0x31 tag 0x12 .empty) ∧
      (0 < n → n ≤ 16384 → n % 16 = 0 → o + n ≤ s.upd.announced →
        (o ≠ s.upd.received → ∀ k, Yields (.dlData tag o n i k) s fun t => told s t ∧ t.RakeAnswered 0x31 tag 0x11 .empty) ∧
        (o = s.upd.received →
          (Yields (.dlData tag o n i false) s fun t => only s t ∧ t.upd.marker.state = .failed ∧ t.upd.marker.failStage = 2 ∧
            t.upd.marker.failCode = 8 ∧ t.RakeAnswered 0x31 tag 0x10 .empty ∧ t.upd.slotA = s.upd.slotA ∧ t.upd.slotB = s.upd.slotB) ∧
          (Yields (.dlData tag o n i true) s fun t => only s t ∧ t.upd.received = o + n ∧ t.upd.marker = s.upd.marker ∧
            t.RakeAnswered 0x31 tag 0 (.words [o + n]) ∧
            t.upd.slot (!s.upd.marker.tslot) = s.upd.slot (!s.upd.marker.tslot) ∧
            t.upd.slot s.upd.marker.tslot = if o + n = s.upd.announced then i.filter (fun i => i.length == o + n) else s.upd.slot s.upd.marker.tslot))))) ∧
  (∀ s tag, live s →
    (s.upd.marker.state ≠ .receiving ∨ s.upd.received ≠ s.upd.announced → Yields (.dlEnd tag) s fun t =>
      told s t ∧ t.RakeAnswered 0x32 tag 3 .empty) ∧
    (s.upd.marker.state = .receiving → s.upd.received = s.upd.announced →
      let fails : Nat → Prop := fun c => Yields (.dlEnd tag) s fun t => only s t ∧ t.RakeAnswered 0x32 tag 0 (.bytes [3, 0, 0, 0]) ∧
        t.upd.marker.state = .failed ∧ t.upd.marker.failStage = 3 ∧ t.upd.marker.failCode = c ∧ t.upd.slotA = s.upd.slotA ∧ t.upd.slotB = s.upd.slotB ∧
        t.key.failCount = (if c = 5 then satAdd 16 s.key.failCount 1 else s.key.failCount)
      (s.upd.slot s.upd.marker.tslot = none → fails 2) ∧ ∀ i, s.upd.slot s.upd.marker.tslot = some i →
      let hw := i.device = 0x4816 ∧ i.revisions.testBit 1 = true
      let sig := i.sigOk = true ∧ s.key.revoked.contains i.rootSet = false
      (i.formatOk = false → fails 2) ∧
      (i.formatOk = true → ¬ hw → fails 3) ∧
      (i.formatOk = true → hw → i.svn < s.key.antiRollback → fails 4) ∧
      (i.formatOk = true → hw → s.key.antiRollback ≤ i.svn → ¬ sig → fails 5) ∧
      (i.formatOk = true → hw → s.key.antiRollback ≤ i.svn → sig → i.keyOk = false → fails 6) ∧
      (i.formatOk = true → hw → s.key.antiRollback ≤ i.svn → sig → i.keyOk = true → i.tagOk = false → fails 7) ∧
      (i.formatOk = true → hw → s.key.antiRollback ≤ i.svn → sig → i.keyOk = true → i.tagOk = true → Yields (.dlEnd tag) s fun t =>
        only s t ∧ t.key = s.key ∧ t.RakeAnswered 0x32 tag 0 (.bytes [3, 0, 0, 0]) ∧ t.upd.marker.state = .verified ∧
        t.upd.marker.tver = i.version % 2 ^ 32 ∧ t.upd.marker.tsvn = i.svn ∧ t.upd.marker.mseq = ((s.upd.marker.mseq + 1) % 65536 + 1) % 65536 ∧
        t.upd.slotA = s.upd.slotA ∧ t.upd.slotB = s.upd.slotB ∧ t.upd.marker.cslot = s.upd.marker.cslot))) ∧
  (∀ s tag, s.RakeReady 0x100 → s.dev.st = .recovery →
    let valid : Bool → Prop := fun b => ∃ i, s.upd.slot b = some i ∧ imageCode s false i = 0
    (∀ n v, open_ s.upd.marker.state →
      (s.upd.recoveryCause = 4 → Yields (.dlBegin tag n v) s fun t => told s t ∧ t.RakeAnswered 0x30 tag 0x11 .empty) ∧
      (s.upd.recoveryCause ≠ 4 → 0 < n → n ≤ 0x800000 → Yields (.dlBegin tag n v) s fun t =>
        only s t ∧ t.upd.marker.state = .receiving ∧ (valid false ∨ valid true → t.upd.marker.tslot = !s.upd.marker.cslot) ∧
        (¬ valid false → ¬ valid true → t.upd.marker.tslot = false) ∧ t.upd.slot t.upd.marker.tslot = none)) ∧
    (s.upd.marker.state = .receiving → s.upd.received = s.upd.announced → valid s.upd.marker.tslot → Yields (.dlEnd tag) s fun t =>
      only s t ∧ t.upd.marker.recovery = true ∧ t.RakeAnswered 0x32 tag 0 (.bytes [3, 0, 0, 0]) ∧
      (s.upd.recoveryCause = 1 → valid s.upd.marker.cslot → t.upd.marker.state = .scheduled ∧ t.upd.marker.cslot = s.upd.marker.cslot) ∧
      (s.upd.recoveryCause ≠ 1 ∨ ¬ valid s.upd.marker.cslot →
        t.upd.marker.state = .confirmed ∧ t.upd.marker.cslot = s.upd.marker.tslot))) ∧
  (∀ s tag, s.RakeReady 0x100 → Yields (.updateStatus tag) s fun t => told s t ∧ t.RakeAnswered 0x35 tag 0 (.words (updWords s))) ∧
  (∀ s h, s.served h = true →
    ((s.heads.get h).cmdMajor ≠ 1 → Yields (.getUpdateStatus h) s fun t =>
      t = { s with replies := t.replies } ∧ t.Answered h 0xC160 0 (.words (updWords s))) ∧
    ((s.heads.get h).cmdMajor = 1 → Yields (.getUpdateStatus h) s fun t =>
      t = { s with replies := t.replies } ∧ t.Answered h 0xC160 0xE .empty))

/-- R450, R454, R484, R514, R517: SCHEDULE_ACTIVATION, CANCEL_ACTIVATION, SCHEDULE, CANCEL.
Where it says more than those rules do, it states the model's choices of log entries 40 and 53. -/
def Obligations.Activation : Prop :=
  let keeps : Key → State → State → Prop := fun k s t => t.upd.slotA = s.upd.slotA ∧ t.upd.slotB = s.upd.slotB ∧
    t = { s with upd := t.upd, brl := t.brl, cel := t.cel, key := k, replies := t.replies, svc := t.svc } ∧
    t.cel = { s.cel with sectors := t.cel.sectors }
  let kept : State → State → Prop := fun s t => keeps s.key s t
  let counted : Nat → State → Key := fun c s =>
    if c = 5 then { s.key with failCount := satAdd 16 s.key.failCount 1, lastFail := 1 } else s.key
  let told : State → State → Prop := fun s t => t = { s with replies := t.replies, svc := t.svc }
  let marked : UpdState → State → State → Prop := fun m s t =>
    t.upd.marker = { s.upd.marker with state := m, mseq := (s.upd.marker.mseq + 1) % 65536 }
  let failed : Nat → Nat → State → State → Prop := fun st c s t =>
    t.upd.marker = { s.upd.marker with state := .failed, failStage := st, failCode := c, mseq := (s.upd.marker.mseq + 1) % 65536 }
  let outcome : Nat → State → State → Nat → Prop := fun v s t code =>
    let m := s.upd.marker
    let image := match s.upd.slot m.tslot with
      | none => 2
      | some i => imageCode s false i
    (m.state ≠ .verified → code = 3 ∧ told s t) ∧
    (m.state = .verified → v ≠ m.tver → code = 0x11 ∧ told s t) ∧
    (m.state = .verified → v = m.tver → s.brl.role = 1 → s.groupVerified = false → code = 0x11 ∧ told s t) ∧
    (m.state = .verified → v = m.tver → s.brl.role ≠ 1 ∨ s.groupVerified = true →
      (image ≠ 0 → code = 0x11 ∧ keeps (counted image s) s t ∧ failed 4 image s t) ∧
      (image = 0 → code = 0 ∧ kept s t ∧ marked .scheduled s t ∧
        (∀ n, s.upd.areaFor s.upd.running = some n → t.upd.areaCopy (1 - n) = none ∧ t.upd.areaCopy n = s.upd.areaCopy n) ∧
        t.brl.sent = if s.brl.role = 1 then [.sched false v] else s.brl.sent))
  let undone : State → State → Nat → Prop := fun s t code =>
    let m := s.upd.marker.state
    (m = .scheduled → code = 0 ∧ kept s t ∧ marked .verified s t ∧
      t.brl.sent = if s.brl.role = 1 ∧ s.brl.whole = true then [.sched true s.upd.marker.tver] else s.brl.sent) ∧
    (m = .trial → code = 0 ∧ kept s t ∧ failed 7 0x0D s t) ∧ (m ≠ .scheduled → m ≠ .trial → code = 3 ∧ told s t)
  (∀ s h v, s.Guard h 2 (s.cell 2).gen →
    Yields (.scheduleActivation h (s.cell 2).gen v) s (fun t => ∃ c, outcome v s t c ∧ t.Answered h 0xC161 c .empty) ∧
    Yields (.cancelActivation h (s.cell 2).gen) s fun t => ∃ c, undone s t c ∧ t.Answered h 0xC162 c .empty) ∧
  (∀ s tag v, s.RakeReady 0x100 → s.running = true →
    (s.held 2 = false → Yields (.schedule tag v) s (fun t => ∃ c, outcome v s t c ∧ t.RakeAnswered 0x33 tag c .empty) ∧
      Yields (.cancel tag) s fun t => ∃ c, undone s t c ∧ t.RakeAnswered 0x34 tag c .empty) ∧
    (s.held 2 = true → (Yields (.schedule tag v) s fun t => told s t ∧ t.RakeAnswered 0x33 tag 4 .empty) ∧
      Yields (.cancel tag) s fun t => told s t ∧ t.RakeAnswered 0x34 tag 4 .empty))

/-- R280, R396, R404, R431, R479, R514: STAGE_LAYOUT, READ_JOURNAL, JOURNAL_READ.
Where it says more than those rules do, it states the model's choices of log entries 40, 54 and 55. -/
def Obligations.StagingAndJournal : Prop :=
  let told : State → State → Prop := fun s t => t = { s with replies := t.replies }
  (∀ s h (c : LayoutChunk) ok, s.Guard h 0 (s.cell 0).gen → c.length ≤ 16368 →
    let at_ := if s.lay.stagedHead = some h then s.lay.stagedBytes else 0
    let g := (s.cell 0).gen
    let room := at_ + c.length ≤ 262144
    let passes : Layout → Prop := fun l => c.sigOk = true ∧ c.valid = true ∧ s.key.owner.any (fun o => o.gen == l.signedBy) = true ∧
      s.image.any (fun i => i.layoutMajor == l.schema) = true ∧ s.layoutRules l = true
    (c.offset ≠ at_ ∨ ¬ room → Yields (.stageLayout h g c ok) s fun t => told s t ∧ t.Answered h 0xC170 0x12 .empty) ∧
    (c.offset = at_ → room → c.final = false → Yields (.stageLayout h g c ok) s fun t =>
      t = { s with replies := t.replies, lay := { s.lay with stagedHead := some h, stagedBytes := at_ + c.length } } ∧
      t.Answered h 0xC170 0 (.words [at_ + c.length])) ∧
    (c.offset = at_ → room → c.final = true →
      let closed : Lay := { s.lay with stagedHead := none, stagedBytes := 0 }
      (∀ l, c.layout = some l → passes l → Yields (.stageLayout h g c ok) s fun t =>
        t = { s with replies := t.replies, lay := if ok then { closed with committed := some l } else closed } ∧
        t.Answered h 0xC170 (if ok then 0 else 0x10) (if ok then .words [0] else .empty)) ∧
      ((∀ l, c.layout = some l → ¬ passes l) → Yields (.stageLayout h g c ok) s fun t =>
        t = { s with replies := t.replies, lay := closed, key := { s.key with failCount := satAdd 16 s.key.failCount 1, lastFail := 2 } } ∧
        t.Answered h 0xC170 0xF .empty))) ∧
  (∀ s h (c : LayoutChunk) ok, s.Guard h 0 (s.cell 0).gen → 16368 < c.length → s.tly.fifo.length < 32 →
    Yields (.stageLayout h (s.cell 0).gen c ok) s fun t => t.Answered h 0xC170 0x12 .empty ∧
      t = { s with replies := t.replies, heads := t.heads, tly := t.tly }) ∧
  (∀ s typ seq n, 0 < n → n ≤ 60 →
    let right : List JRec → Prop := fun rs => rs.length ≤ n ∧ ∀ r ∈ rs, r ∈ s.jrn ∧ ∃ k, r.key = some (typ, k) ∧ seq ≤ k
    (∀ h, s.served h = true → (s.heads.get h).cmdMajor ≠ 1 → Yields (.readJournal h typ seq n) s fun t =>
      told s t ∧ ∃ rs, t.Answered h 0xC180 0 (.journal rs) ∧ right rs ∧
        ((∃ r ∈ s.jrn, ∃ k, r.key = some (typ, k) ∧ seq ≤ k ∧ k < 2 ^ 32 ∧ s.tly.cleared < k) → rs ≠ [])) ∧
    (∀ tag, s.RakeReady 0x201 → s.running = true → Yields (.journalRead tag typ seq n) s fun t =>
      t = { s with svc := t.svc } ∧ ∃ rs, t.RakeAnswered 0x40 tag 0 (.journal rs) ∧ right rs)) ∧
  (∀ s h typ seq n, s.served h = true → (s.heads.get h).cmdMajor ≠ 1 → n = 0 ∨ 60 < n → s.tly.fifo.length < 32 →
    Yields (.readJournal h typ seq n) s fun t => t.Answered h 0xC180 0x12 .empty ∧
      t = { s with replies := t.replies, heads := t.heads, tly := t.tly }) ∧
  (∀ s tag typ seq n, s.RakeReady 0x201 → s.running = true → n = 0 ∨ 60 < n → Yields (.journalRead tag typ seq n) s fun t =>
      t = { s with svc := t.svc } ∧ t.RakeAnswered 0x40 tag 0x12 .empty)

/-- R438, R439, R475, R476, R478, R514, R517: GET_NONCE, FACTORY_RESET, CALIBRATE, INSTALL_OWNER, TRANSFER_OWNER.
Where it says more than those rules do, it states the model's choices of log entries 11, 56 and 58. -/
def Obligations.OwnerRequests : Prop :=
  let told : State → State → Prop := fun s t => t = { s with svc := t.svc }
  let kinds : List (Nat × NonceKind) := [(1, .seal), (2, .factory), (3, .calibration), (4, .transfer)]
  let used : NonceKind → State → State → Prop := fun k s t =>
    t.nonceOf k .rake = none ∧ ∀ k' p, (k' ≠ k ∨ p ≠ .rake) → t.nonceOf k' p = s.nonceOf k' p
  let stands : State → NonceKind → Token → Bool → Prop := fun s k x bound =>
    s.nonceOf k .rake = some x.nonce ∧ x.identity = s.key.identity ∧ bound = true ∧ x.ecdsaOk = true ∧ x.lmsOk = true ∧
      ∃ o, s.key.owner = some o ∧ o.gen = x.signedBy
  let live : State → Nat → Prop := fun s v => s.RakeReady v ∧ s.running = true
  let failed : State → State → Prop := fun s t =>
    t = { s with svc := t.svc, key := { s.key with failCount := satAdd 16 s.key.failCount 1, lastFail := 3 } }
  let checks : State → NonceKind → Token → Bool → (Token → Instr) → Nat → Nat → Prop := fun s k x bound mk op tag =>
    (s.held 0 = true → Yields (mk x) s fun t => told s t ∧ t.RakeAnswered op tag 4 .empty) ∧
    (s.held 0 = false → s.nonceOf k .rake ≠ some x.nonce → Yields (mk x) s fun t => failed s t ∧ t.RakeAnswered op tag 6 .empty) ∧
    (s.held 0 = false → s.nonceOf k .rake = some x.nonce → ¬ stands s k x bound → Yields (mk x) s fun t =>
      failed s t ∧ t.RakeAnswered op tag 5 .empty)
  (∀ s tag n k, live s 0x100 → (n, k) ∈ kinds →
    (s.key.rbgOk = true → Yields (.getNonce tag n) s fun t =>
      t.RakeAnswered 0x20 tag 0 (.nonce (Config.nonce s.free)) ∧ t.nonceOf k .rake = some (Config.nonce s.free) ∧
      (∀ k' p, (k' ≠ k ∨ p ≠ .rake) → t.nonceOf k' p = s.nonceOf k' p) ∧
      t = { s with svc := t.svc, key := { s.key with nonces := t.key.nonces }, free := s.free + 1 }) ∧
    (s.key.rbgOk = false → Yields (.getNonce tag n) s fun t => told s t ∧ t.RakeAnswered 0x20 tag 4 .empty)) ∧
  (∀ s tag x, live s 0x100 → s.upd.marker.state.open_ = true →
    checks s .factory x true (fun x => .factoryReset tag x) 0x23 tag ∧
    (∀ n c, s.held 0 = false → stands s .factory x true → s.dev.loaded = true → s.upd.refuseArm = false →
      s.upd.areaFor s.upd.running = some n → s.upd.areaCopy n = some c → Yields (.factoryReset tag x) s fun t =>
        used .factory s t ∧ t.RakeAnswered 0x23 tag 0 .empty ∧ (∃ d, t.upd.areaCopy n = some d ∧ d.factory = true ∧ d.slot = c.slot ∧ d.age = c.age) ∧
        t.upd.areaCopy (1 - n) = s.upd.areaCopy (1 - n) ∧
        t = { s with svc := t.svc, upd := t.upd, key := { s.key with nonces := t.key.nonces }, cel := { s.cel with sectors := t.cel.sectors } })) ∧
  (∀ s tag x osc bg, live s 0x200 →
    checks s .calibration x x.digestOk (fun x => .calibrate tag x osc bg) 0x24 tag ∧
    (s.held 0 = false → stands s .calibration x x.digestOk → Yields (.calibrate tag x osc bg) s fun t =>
      let set : CalibSet := { gen := (max s.cel.calib0.gen s.cel.calib1.gen + 1) % 2 ^ 32, osc := osc, bg := bg }
      used .calibration s t ∧ t.RakeAnswered 0x24 tag 0 (.words [set.gen]) ∧
      (∀ n, (tblGet ({} : CelSector) t.cel.sectors n).erases = if n ∈ [1444, 1445, 1446, 1447]
        then min (2 ^ 27 - 1) ((tblGet ({} : CelSector) s.cel.sectors n).erases + 1) else (tblGet ({} : CelSector) s.cel.sectors n).erases) ∧
      t = { s with
        svc := t.svc, key := { s.key with nonces := t.key.nonces }
        cel := { s.cel with calib0 := set, calib1 := set, sectors := t.cel.sectors } })) ∧
  (∀ s tag x r, live s 0x200 →
    checks s .transfer x x.digestOk (fun x => .transferOwner tag x r) 0x26 tag ∧
    (∀ o, s.held 0 = false → stands s .transfer x x.digestOk → s.key.owner = some o → Yields (.transferOwner tag x r) s fun t =>
      let gen := (o.gen + 1) % 2 ^ 32
      used .transfer s t ∧ t.RakeAnswered 0x26 tag 0 (.words [gen]) ∧
      t.key.owner = some { r with gen := gen } ∧ t.layoutOwner = s.layoutOwner ∧
      t = { s with svc := t.svc, cel := { s.cel with sectors := t.cel.sectors }
                   key := { s.key with nonces := t.key.nonces, owner := t.key.owner, layoutGen := t.key.layoutGen
                                       keySector := t.key.keySector, keyUsed := t.key.keyUsed } })) ∧
  (∀ s tag r w, live s 0x100 →
    (s.key.owner.isSome = true → Yields (.installOwner tag r w) s fun t => told s t ∧ t.RakeAnswered 0x25 tag 0x11 .empty) ∧
    (s.key.owner = none → Yields (.installOwner tag r true) s fun t =>
      t.key.owner = some { r with gen := 1 } ∧ t.RakeAnswered 0x25 tag 0 (.words [1]) ∧
      t = { s with svc := t.svc, cel := { s.cel with sectors := t.cel.sectors }
                   key := { s.key with owner := t.key.owner, keySector := t.key.keySector, keyUsed := t.key.keyUsed } }) ∧
    (s.key.owner = none → Yields (.installOwner tag r false) s fun t =>
      t = { s with svc := t.svc, key := { s.key with failCount := satAdd 16 s.key.failCount 1, lastFail := 4 } } ∧
        t.RakeAnswered 0x25 tag 0x11 .empty))

/-- R254, R480, R481, R483: the SPDM requests, IDE_KEY_MANAGEMENT and CDAT_TABLE_ACCESS.
Where it says more than those rules do, it states the model's choices of log entries 57 and 58. -/
def Obligations.Attestation : Prop :=
  (∀ s h, (s.heads.get h).up = true →
    let x := s.key.spdm.get h
    let tells : Nat → Bool → Payload → State → Prop := fun r ok p t => t.replies.doe.get h = some (.spdm r ok p)
    let told : State → Prop := fun t => t = { s with replies := t.replies }
    let err : Nat → State → Prop := fun r t => told t ∧ tells r false .empty t
    let now : Spdm → State → Prop := fun y t => t.key.spdm = s.key.spdm.set h y ∧
      t = { s with replies := t.replies, free := t.free, key := { s.key with spdm := t.key.spdm } }
    let some_ : Nat → State → Prop := fun r t => ∃ p, tells r true p t
    let signed : State → Prop := fun t => t.key.ecdsaSigs = satAdd 16 s.key.ecdsaSigs 1 ∧ t.key.lmsSigs = s.key.lmsSigs ∧ t.key.lmsQ = s.key.lmsQ ∧
      t = { s with replies := t.replies, free := t.free, key := { s.key with spdm := t.key.spdm, ecdsaSigs := t.key.ecdsaSigs } }
    let attests := x.algorithms = true ∧ s.key.certOk = true
    (Yields (.getVersion h) s fun t => tells 0x84 true (.bytes [0x13]) t ∧ now { version := true, ideKeys := x.ideKeys, keyGen := x.keyGen } t) ∧
    (x.version = true → Yields (.getCapabilities h) s fun t => some_ 0xE1 t ∧ now { x with capabilities := true } t) ∧
    (x.version = false → Yields (.getCapabilities h) s (err 0xE1)) ∧
    (x.capabilities = true → Yields (.negotiateAlgorithms h true) s fun t => some_ 0xE3 t ∧ now { x with algorithms := true } t) ∧
    (∀ c, c = false ∨ x.capabilities = false → Yields (.negotiateAlgorithms h c) s (err 0xE3)) ∧
    (attests →
      (Yields (.getDigests h) s fun t => some_ 0x81 t ∧ told t) ∧
      (∀ a n, Yields (.getCertificate h 0 a n false) s fun t => told t ∧ ∃ bs, tells 0x82 true (.bytes bs) t ∧ bs.length ≤ n) ∧
      (∀ k a n l, k ≠ 0 → Yields (.getCertificate h k a n l) s (err 0x82)) ∧
      (Yields (.challenge h) s fun t => some_ 0x83 t ∧ signed t ∧ t.key.spdm = s.key.spdm) ∧
      (x.session ≠ 2 → Yields (.keyExchange h) s fun t => some_ 0xE4 t ∧ signed t ∧ (t.key.spdm.get h).session = 1 ∧
        t.key.spdm.get h.other = s.key.spdm.get h.other ∧ t.key.spdm.get h = { x with session := 1, sessionId := (t.key.spdm.get h).sessionId }) ∧
      (x.session = 2 → Yields (.keyExchange h) s (err 0xE4))) ∧
    (¬ attests → (Yields (.getDigests h) s (err 0x81)) ∧ (∀ k a n l, Yields (.getCertificate h k a n l) s (err 0x82)) ∧
      (Yields (.challenge h) s (err 0x83)) ∧ Yields (.keyExchange h) s (err 0xE4)) ∧
    (x.algorithms = true →
      (Yields (.getMeasurements h 0 false false) s fun t => told t ∧ tells 0xE0 true (.words [6]) t) ∧
      (Yields (.getMeasurements h 5 false false) s fun t =>
        told t ∧ tells 0xE0 true (.pairs [(5, (s.key.owner.map fun o => o.digest.toNat).getD 0)]) t) ∧
      (∀ r l, s.jrn = l ++ [.salRec r] → r.typ = 5 → Yields (.getMeasurements h 6 false false) s fun t =>
        told t ∧ tells 0xE0 true (.pairs [(6, r.digest.toNat)]) t) ∧
      (∀ k, 6 < k → k ≠ 255 → ∀ g l, Yields (.getMeasurements h k g l) s (err 0xE0)) ∧
      (s.key.certOk = true → Yields (.getMeasurements h 255 true false) s fun t =>
        signed t ∧ t.key.spdm = s.key.spdm ∧ ∃ l : List (Nat × Nat), tells 0xE0 true (.pairs l) t ∧ l.map Prod.fst = [1, 2, 3, 4, 5, 6])) ∧
    (∀ k g l, x.algorithms = false ∨ (g = true ∧ s.key.certOk = false) → Yields (.getMeasurements h k g l) s (err 0xE0)) ∧
    (x.session = 1 →
      (Yields (.spdmFinish h true) s fun t => tells 0xE5 true .empty t ∧ now { x with session := 2, heartbeats := 0 } t) ∧
      Yields (.spdmFinish h false) s fun t => tells 0xE5 false .empty t ∧ now { x with session := 0 } t) ∧
    (∀ v, x.session ≠ 1 → Yields (.spdmFinish h v) s (err 0xE5)) ∧
    (x.session = 2 →
      (Yields (.heartbeat h) s fun t => tells 0xE8 true .empty t ∧ now { x with heartbeats := x.heartbeats + 1 } t) ∧
      (Yields (.keyUpdate h) s fun t => tells 0xE9 true .empty t ∧ now { x with keyGen := x.keyGen + 1 } t) ∧
      (Yields (.endSession h) s fun t => tells 0xEC true .empty t ∧ now { x with session := 0 } t) ∧
      Yields (.ideKeyManagement h) s fun t => tells 0xFE true .empty t ∧ t.key.spdm = s.key.spdm.set h { x with ideKeys := true } ∧
        t.heads = s.heads.set h { s.heads.get h with ide := true } ∧
        t = { s with replies := t.replies, heads := t.heads, key := { s.key with spdm := t.key.spdm } }) ∧
    (x.session ≠ 2 → (Yields (.heartbeat h) s (err 0xE8)) ∧ (Yields (.keyUpdate h) s (err 0xE9)) ∧ (Yields (.endSession h) s (err 0xEC)) ∧
      Yields (.ideKeyManagement h) s (err 0xFE)) ∧
    (x.capabilities = true → ∀ c last, Yields (.chunkSend h c last) s fun t =>
      tells 0x85 true .empty t ∧ now { x with chunkIn := if last then [] else x.chunkIn ++ c } t) ∧
    (x.capabilities = false → ∀ c last, Yields (.chunkSend h c last) s (err 0x85)) ∧
    (∀ n, 0 < n → x.chunkOut ≠ [] → Yields (.chunkGet h n) s fun t =>
      tells 0x86 true (.bytes (x.chunkOut.take n)) t ∧ now { x with chunkOut := x.chunkOut.drop n } t) ∧
    (∀ n, x.chunkOut = [] ∨ n = 0 → Yields (.chunkGet h n) s (err 0x86)) ∧
    (Yields (.cdatTableAccess h) s fun t => (∃ l, t.replies.doe.get h = some (.cdat l)) ∧ t = { s with replies := t.replies, free := t.free })) ∧
  (∀ s h, (s.heads.get h).up = false → (Yields (.getVersion h) s fun t => t = s) ∧ (Yields (.challenge h) s fun t => t = s) ∧
    (Yields (.keyExchange h) s fun t => t = s) ∧ Yields (.cdatTableAccess h) s fun t => t = s)

/-- R488 to R490, R492, R494 to R499: the ring's commands.
Where it says more than those rules do, it states the model's choices of log entries 59 and 60. -/
def Obligations.BrineRing : Prop :=
  let port : State → Bool → BrlPort := fun s p => if p then s.brl.port1 else s.brl.port0
  let on : State → Prop := fun s => s.alive = true ∧ s.brl.role ≠ 0
  let only : State → State → Prop := fun s t => t = { s with brl := t.brl }
  let rest : State → State → Prop := fun s t => t.dev = s.dev ∧ t.map = s.map ∧ t.bed = s.bed ∧ t.upd = s.upd ∧ t.jrn = s.jrn ∧ ∀ x, t.byteAt x = s.byteAt x
  let low : State → Prop := fun s => s.saving = false ∧ s.tly.fifo.length + 2 ≤ 32 ∧ ∀ n ∈ ([0xD0, 0xD1] : List Nat), (s.srcCfg n).base ≤ 2 ∧ (s.srcCfg n).severe ≤ 2
  let broke : State → State → Prop := fun s t => t.brl.whole = false ∧ t.brl.joined = false ∧ t.brl.groupArmed = false ∧ t.brl.fallback = true ∧
    t.brl.breaks = satAdd 8 s.brl.breaks 1 ∧ (s.brl.stageState = 1 → t.brl.stageState = 3)
  let cfg : State → Option Cascade := fun s => (s.lay.inForce.orElse fun _ => s.lay.committed).bind fun l => l.cascade
  let ports : State → Prop := fun s => s.brl.port0.up = true ∧ s.brl.port1.up = true ∧ s.brl.port0.hello = true ∧ s.brl.port1.hello = true
  (∀ s p, on s → (port s p).up = false → Yields (.brinePortTrained p) s fun t =>
    port t p = { port s p with up := true, mismatch := 0, hello := false } ∧ port t (!p) = port s (!p) ∧ t.brl.sent = [.hello] ∧
    t = { s with brl := t.brl, flt := t.flt } ∧ ((port s (!p)).up = true → t.flt.live.contains 0xD0 = false)) ∧
  (∀ s p, on s → (port s p).up = true → low s → Yields (.brinePortDown p) s fun t =>
    port t p = { port s p with up := false, hello := false, downs := satAdd 16 (port s p).downs 1 } ∧ port t (!p) = port s (!p) ∧
    t.flt.live.contains 0xD0 = true ∧ t.brl.startCode = none ∧ rest s t ∧
    (s.brl.whole = true → broke s t ∧ t.flt.live.contains 0xD1 = true) ∧ (s.brl.whole = false → t.brl.breaks = s.brl.breaks)) ∧
  (∀ s p, on s → (port s p).up = true →
    (Yields (.idleFrame p false) s fun t => t = s) ∧ (Yields (.idleFrame p true) s fun t => t = { s with brl := { s.brl with sent := [.idle] } }) ∧
    (∀ (ma mi g : Nat) (r : HelloPeer), let own := ((cfg s).map fun c => c.groupId).getD 0
      let cause := if ma ≠ 1 then 1 else if g ≠ own then 2 else 0
      Yields (.brineHello p ma mi g r) s fun t => port t p = { port s p with mismatch := cause, hello := decide (cause = 0 ∧ r.role ≠ 0), identity := r.identity } ∧
        port t (!p) = port s (!p) ∧ t.brl.whole = s.brl.whole ∧ only s t)) ∧
  (∀ s p, on s → Yields (.discardedFrame p) s fun t =>
    port t p = { port s p with crcErrors := satAdd 13 (port s p).crcErrors 1 } ∧ port t (!p) = port s (!p) ∧ only s t) ∧
  (∀ s g, on s → g ≠ s.brl.gen → s.tly.fifo.length < 32 → Yields (.staleFrame g) s fun t =>
    t.brl = { s.brl with stale := satAdd 8 s.brl.stale 1, suppress := t.brl.suppress } ∧ t = { s with brl := t.brl, tly := t.tly, heads := t.heads }) ∧
  (∀ s, on s → Yields (.staleFrame s.brl.gen) s fun t => t = s) ∧
  (∀ s c, on s → s.brl.role = 1 → ports s → s.brl.whole = false → cfg s = some c → 0 < c.units → Yields .ringWhole s fun t =>
    t.brl.whole = true ∧ t.brl.joined = true ∧ t.brl.gen = s.brl.gen + 1 ∧ t.brl.index = 0 ∧ t.brl.groupArmed = false ∧
    (∃ ds : List (BitVec 384), t.brl.sent = [.join (s.brl.gen + 1) c.units ds] ∧ ds[0]? = some s.key.identity ∧
      (1 < c.units → c.units ≤ 4 → ds.length = c.units ∧ ds[1]? = some s.brl.port0.identity) ∧
      (2 < c.units → c.units ≤ 4 → ds[c.units - 1]? = some s.brl.port1.identity) ∧
      ∀ u < c.units, (tblGet ({} : BrlUnit) t.brl.units u).present = true ∧ (tblGet ({} : BrlUnit) t.brl.units u).identity = ds[u]?.getD 0) ∧
    t = { s with brl := t.brl, flt := t.flt, free := s.free + 1 }) ∧
  (∀ s c g n i d, on s → s.brl.role = 2 → ports s → cfg s = some c → 0 < i → i < n →
    let agree := n = c.units ∧ d.length = n ∧ d[i]? = some s.key.identity ∧ d[(i + 1) % n]? = some s.brl.port0.identity ∧
      d[(i + n - 1) % n]? = some s.brl.port1.identity
    (agree → Yields (.joinFrame g n i d) s fun t =>
      t.brl.whole = true ∧ t.brl.joined = true ∧ t.brl.gen = g ∧ t.brl.index = i ∧ t.brl.groupArmed = false ∧
      t.brl.sent = [.marker s.upd.marker.word (b2n s.pendingTest) s.dev.st.code] ∧
      (∀ u < n, (tblGet ({} : BrlUnit) t.brl.units u).identity = d[u]?.getD 0) ∧
      t = { s with brl := t.brl, flt := t.flt }) ∧
    (¬ agree → Yields (.joinFrame g n i d) s fun t => t = s)) ∧
  (∀ s c u st ok e q b, on s → s.brl.role = 1 → s.brl.whole = true → cfg s = some c → 0 < u → u < c.units → Yields (.statusFrame u st ok e q b) s fun t =>
    (let x := tblGet {} t.brl.units u; x.present = true ∧ x.localOk = ok ∧ x.state = st % 16 ∧ x.eNeed = e ∧ x.chargeUc = q ∧ x.backlog = b) ∧
    (∀ k, k ≠ u → tblGet {} t.brl.units k = tblGet {} s.brl.units k) ∧ (s.sharedMode = false → only s t) ∧
    t = { s with brl := t.brl, sal := { s.sal with soc := t.sal.soc } } ∧ t.brl.groupArmed = s.brl.groupArmed) ∧
  (∀ s a w e q, on s → s.brl.role = 2 → s.brl.whole = true →
    (Yields (.armFrame a true w e q) s fun t => t.brl.groupArmed = a ∧ t.brl.eGroup = e ∧ t.brl.armUs = s.dev.aonUs ∧ t.brl.whole = true ∧ only s t) ∧
    (Yields (.armFrame a false w e q) s fun t => broke s t ∧ only s t)) ∧
  (∀ s, on s → low s → s.brl.whole = true → s.brl.role = 2 → Yields .armTimeout s fun t => broke s t ∧ t.flt.live.contains 0xD1 = true ∧ rest s t) ∧
  (∀ s, s.brl.whole = false → Yields .armTimeout s fun t => t = s) ∧
  (∀ s c u, on s → low s → s.brl.whole = true → s.brl.role = 1 → cfg s = some c → 0 < u → u < c.units → Yields (.statusTimeout u) s fun t =>
    broke s t ∧ t.flt.live.contains 0xD1 = true ∧ rest s t ∧ ∃ w n, t.brl.sent = [.arm false false w 0 0 n])

/-- R128, R157, R158, R493, R497, R500 to R502: TRIG, GO, SHARE. Each completes in every state.
Where it says more than those rules do, it states the model's choices of log entry 61. -/
def Obligations.LockstepSave : Prop :=
  let saves : State → State → Nat → Prop := fun s t e => t.dev.st = .harvest ∧ t.hrv.trigger = 4 ∧ t.sal.holdEn = true ∧ t.gov.accessHeld = true ∧
    t.hrv.saveSeq = s.hrv.nextSeq ∧ t.brl.event = e ∧ t.brl.goSeen = some e
  let goes : State → Prop := fun s => s.running = true ∧ s.sal.holdArm = true
  (∀ s u c,
    let ev := (s.brl.event + 1) % 2 ^ 32
    let sends : State → Prop := fun t => t.brl.event = ev ∧ t.brl.sent.head? = some (.go c u ev)
    let heard := s.alive = true ∧ s.brl.role = 1 ∧ s.brl.whole = true
    let gone := { s.hrv with goSent := true }
    (heard → goes s → Yields (.trigFrame u c) s fun t => saves s t ev ∧ sends t ∧ t.hrv.planned = decide (c = 5)) ∧
    (heard → s.saving = false → ¬ goes s → Yields (.trigFrame u c) s fun t => sends t ∧ t = { s with brl := t.brl }) ∧
    (heard → s.saving = true → s.hrv.lockstep = false → s.hrv.goSent = false → s.dev.aonUs - s.hrv.t0Us ≤ 5 →
      Yields (.trigFrame u c) s fun t => sends t ∧ t.brl.absorbed = satAdd 8 s.brl.absorbed 1 ∧ t = { s with brl := t.brl, hrv := gone }) ∧
    (heard → s.saving = true → s.hrv.lockstep = false → s.hrv.goSent = false → 5 < s.dev.aonUs - s.hrv.t0Us →
      Yields (.trigFrame u c) s fun t => sends t ∧ t = { s with brl := t.brl, hrv := { gone with second := satAdd 8 s.hrv.second 1 } }) ∧
    (heard → s.saving = true → s.hrv.lockstep = true ∨ s.hrv.goSent = true → Yields (.trigFrame u c) s fun t => t = s) ∧
    (¬ heard → Yields (.trigFrame u c) s fun t => t = s)) ∧
  (∀ s c o e n,
    let heard := s.alive = true ∧ s.brl.role = 2 ∧ s.brl.whole = true ∧ s.brl.goSeen ≠ some e
    let met := { s.brl with event := e, goSeen := some e }
    (heard → goes s → Yields (.goFrame c o e n) s fun t => saves s t e ∧ t.hrv.planned = decide (c = 5)) ∧
    (heard → s.saving = false → ¬ goes s → Yields (.goFrame c o e n) s fun t =>
      t = { s with brl := { met with ignored := satAdd 8 s.brl.ignored 1 } }) ∧
    (heard → s.saving = true → o = s.brl.index ∨ n ≤ 5000 → Yields (.goFrame c o e n) s fun t =>
      t = { s with brl := { met with absorbed := satAdd 8 s.brl.absorbed 1 } }) ∧
    (heard → s.saving = true → o ≠ s.brl.index → 5000 < n → Yields (.goFrame c o e n) s fun t =>
      t = { s with brl := met, hrv := { s.hrv with second := satAdd 8 s.hrv.second 1 } }) ∧
    (¬ heard → Yields (.goFrame c o e n) s fun t => t = s)) ∧
  (∀ s x e,
    let heard := s.brl.role ≠ 0 ∧ s.brl.whole = true ∧ s.saving = true ∧ s.hrv.awaitShare = true ∧ s.brl.event = e
    let a := x - s.drn.eCkpt
    (heard → Yields (.shareFrame x e) s fun t => t = { s with hrv := { s.hrv with
      eT := x, awaitShare := false, allowance := a, pM1 := a * s.hrv.m1Frac / 256, pM2 := a * s.hrv.m2Frac / 256, pM3 := a - s.eLead - s.hrv.eSalv } }) ∧
    (¬ heard → Yields (.shareFrame x e) s fun t => t = s))

/-- R450, R454, R503 to R505, R514, R515: MARKER, START, GROUP_START_TIMEOUT, SCHED, STAGE, STAGE_ACK and the bundle operations.
Where it says more than those rules do, it states the model's choices of log entry 60. -/
def Obligations.GroupUpdate : Prop :=
  let only : State → State → Prop := fun s t => t = { s with brl := t.brl }
  let told : State → State → Prop := fun s t => t = { s with svc := t.svc }
  let both : State → State → Prop := fun s t => t = { s with brl := t.brl, svc := t.svc }
  let takes : State → State → Prop := fun s t => t = { s with brl := t.brl, drn := t.drn, bed := t.bed } ∧
    t.bed = { s.bed with updatePages := t.bed.updatePages, blocks := t.bed.blocks }
  let member : State → Prop := fun s => s.alive = true ∧ s.brl.role = 2 ∧ s.brl.whole = true
  let master : State → Nat → Prop := fun s n => s.alive = true ∧ s.brl.role = 1 ∧ s.brl.whole = true ∧
    ((s.lay.inForce.orElse fun _ => s.lay.committed).bind fun l => l.cascade).map (fun c => c.units) = some n
  let unit : State → Nat → BrlUnit := fun s u => tblGet {} s.brl.units u
  (∀ s n u st v p d, master s n → 0 < u → u < n → s.brl.waitB2 = false → Yields (.markerFrame u st v p d) s fun t =>
    (unit t u).marker = some (st, v, p, d) ∧ (∀ k, k ≠ u → k ≠ 0 → unit t k = unit s k) ∧ only s t ∧
    ((∀ k, 0 < k → k < n → k ≠ u → ((unit s k).marker).isSome = true) → s.dev.st ≠ .boot → t.brl.sent = [.start (List.replicate n 0)])) ∧
  (∀ s e codes, member s → s.brl.waitB2 = true → s.boot = some e → codes[s.brl.index]? = some 3 → Yields (.startFrame codes) s fun t =>
    t = { s with brl := { s.brl with groupStart := true, startCode := some 3 } }) ∧
  (∀ s codes, s.brl.waitB2 = false → (Yields (.startFrame codes) s fun t => t = s) ∧ Yields .groupStartTimeout s fun t => t = s) ∧
  (∀ s e, s.brl.waitB2 = true → s.brl.startCode = none → s.boot = some e → s.brl.whole = false → s.upd.slotA = none → s.upd.slotB = none →
    s.upd.marker.state = .empty → Yields .groupStartTimeout s fun t =>
      t.brl.waitB2 = false ∧ t.brl.fallback = true ∧ t.dev.st = .recovery ∧ t.upd.recoveryCause = 2 ∧ t.jrn = s.jrn ∧ ∀ x, t.byteAt x = s.byteAt x) ∧
  (∀ s e i, s.brl.waitB2 = true → s.brl.startCode = none → s.boot = some e → s.brl.whole = false → s.lay = {} → s.upd.marker.state = .scheduled →
    s.upd.marker.cslot = false → e.slotABad = false → s.upd.slotA = some i → imageCode s false i = 0 → Yields .groupStartTimeout s fun t =>
      t.brl.waitB2 = false ∧ t.upd.marker.state = .scheduled ∧ t.upd.marker.cslot = false ∧ t.upd.slotA = some i) ∧
  (∀ s c v, member s → s.running = true →
    (c = true → s.upd.marker.state = .scheduled → Yields (.schedFrame c v) s fun t =>
      t = { s with upd := t.upd, cel := t.cel } ∧ t.upd.marker = { s.upd.marker with state := .verified, mseq := (s.upd.marker.mseq + 1) % 65536 }) ∧
    (∀ i, c = false → s.upd.marker.state = .verified → v = s.upd.marker.tver → s.upd.slot s.upd.marker.tslot = some i → imageCode s false i = 0 →
      Yields (.schedFrame c v) s fun t =>
        t = { s with upd := t.upd, cel := t.cel } ∧ t.upd.marker = { s.upd.marker with state := .scheduled, mseq := (s.upd.marker.mseq + 1) % 65536 })) ∧
  (∀ s o q n, ∀ (x : StageSpells) e, member s → s.running = true →
    let next := s.brl.stageState = 1 ∧ o = s.brl.stageDone ∧ q = s.brl.stageSeq
    let first := o = 0 ∧ q = 0
    (first ∨ next → x.complete = false → Yields (.stageFrame o q n x e) s fun t => takes s t ∧ t.brl.stageDone = o + n ∧ t.brl.stageSeq = q + 1 ∧
      t.brl.stageState = 1 ∧ t.brl.bundle = if first then none else s.brl.bundle) ∧
    (first ∨ next → x.complete = true → Yields (.stageFrame o q n x e) s fun t => takes s t ∧ t.brl.stageDone = o + n ∧ t.brl.stageState = 2 ∧
      t.brl.bundle = e ∧ t.brl.sent = [.stageAck (o + n) 2]) ∧
    (¬ first → ¬ next → Yields (.stageFrame o q n x e) s fun t => t = s)) ∧
  (∀ s k u b st, master s k → 0 < u → u < k → st < 4 → Yields (.stageAckFrame u b st) s fun t =>
    unit t u = { unit s u with acked := b, stageState := st } ∧ (∀ x, x ≠ u → unit t x = unit s x) ∧ only s t) ∧
  (∀ s tag a n x d i, s.RakeReady 0x200 → s.running = true →
    (s.brl.role ≠ 1 → (Yields (.bundleBegin tag n) s fun t => told s t ∧ t.RakeAnswered 0x38 tag 0x105 .empty) ∧
      (Yields (.bundleData tag a n x) s fun t => told s t ∧ t.RakeAnswered 0x39 tag 0x105 .empty) ∧
      Yields (.bundleEnd tag d i) s fun t => told s t ∧ t.RakeAnswered 0x3A tag 0x105 .empty) ∧
    (s.brl.role = 1 →
      (s.brl.whole = false → Yields (.bundleBegin tag n) s fun t => told s t ∧ t.RakeAnswered 0x38 tag 0x11 .empty) ∧
      (s.brl.whole = true → n = 0 ∨ s.updateRoom < n → Yields (.bundleBegin tag n) s fun t => told s t ∧ t.RakeAnswered 0x38 tag 0x12 .empty) ∧
      (s.brl.whole = true → 0 < n → n ≤ s.updateRoom → Yields (.bundleBegin tag n) s fun t => takes { s with svc := t.svc } t ∧ t.brl.stageState = 1 ∧ t.brl.stageTotal = n ∧
        t.brl.stageDone = 0 ∧ t.brl.bundle = none ∧ t.RakeAnswered 0x38 tag 0 .empty) ∧
      (s.brl.stageState ≠ 1 → Yields (.bundleData tag a n x) s fun t => told s t ∧ t.RakeAnswered 0x39 tag 3 .empty) ∧
      (s.brl.stageState = 1 → 16384 < n → Yields (.bundleData tag a n x) s fun t => told s t ∧ t.RakeAnswered 0x39 tag 0x102 .empty) ∧
      (s.brl.stageState = 1 → n ≤ 16384 → n = 0 ∨ a ≠ s.brl.stageDone ∨ s.brl.stageTotal < a + n → Yields (.bundleData tag a n x) s fun t =>
        told s t ∧ t.RakeAnswered 0x39 tag 0x11 .empty) ∧
      (s.brl.stageState = 1 → 0 < n → n ≤ 16384 → 0 = s.brl.stageDone → n ≤ s.brl.stageTotal → (∀ y, x = some y → s.headerStands y = false) →
        Yields (.bundleData tag 0 n x) s fun t => both s t ∧ t.brl = { s.brl with stageState := 3 } ∧ t.RakeAnswered 0x39 tag 0x11 .empty) ∧
      (s.brl.stageState = 1 → 0 < n → n ≤ 16384 → a = s.brl.stageDone → a + n ≤ s.brl.stageTotal → (a = 0 → ∃ y, x = some y ∧ s.headerStands y = true) →
        Yields (.bundleData tag a n x) s fun t =>
        takes { s with svc := t.svc } t ∧ t.brl.stageDone = a + n ∧ t.brl.sent.length = (n + 4087) / 4088 ∧ t.brl.stageSeq = s.brl.stageSeq + (n + 4087) / 4088 ∧
        t.brl.stageState = 1 ∧ ∃ w, t.RakeAnswered 0x39 tag 0 (.words [w]) ∧ (s.bed.rakeLevel < 2 → w ≤ a + n)) ∧
      (s.brl.stageState = 1 → s.brl.stageDone = s.brl.stageTotal → Yields (.bundleEnd tag d i) s fun t =>
        takes { s with svc := t.svc } t ∧ t.brl.stageState = (if d then 2 else 3) ∧ t.brl.bundle = (if d then i else s.brl.bundle) ∧
        ∃ bs, t.RakeAnswered 0x3A tag 0 (.bytes bs) ∧ bs.length = 4 ∧ bs.head? = some (if d then 2 else 3)) ∧
      (s.brl.stageState ≠ 1 ∨ s.brl.stageDone ≠ s.brl.stageTotal → Yields (.bundleEnd tag d i) s fun t =>
        told s t ∧ t.RakeAnswered 0x3A tag 3 .empty)))

/-- R508 to R515: READ_STATUS, READ_FRAME, PORT_RESET, RAKE_FRAME_ERROR, HELLO, IDENTIFY, BAD_OP, and the gate of every operation: `ops`
lists command, code, the version it is present since and whether its states hold.
Where it says more than those rules do, it states the model's choices of log entry 62. -/
def Obligations.RakePort : Prop :=
  let ops : State → Nat → Nat → Nat → Token → List (Instr × Nat × Nat × Bool) := fun s tag a b x =>
    let run := s.running
    let dl := run || decide (s.dev.st = .recovery)
    [(.regRead tag a b, 0x10, 0x100, true), (.regWrite tag a b, 0x11, 0x100, run || decide (s.dev.st = .reflood)), (.getNonce tag a, 0x20, 0x100, run),
      (.rakeSealBreak tag x true, 0x21, 0x100, run), (.rakeSealClose tag, 0x22, 0x100, run), (.factoryReset tag x, 0x23, 0x100, run),
      (.calibrate tag x [] [], 0x24, 0x200, run), (.installOwner tag ⟨a, 0, 0⟩ true, 0x25, 0x100, run), (.transferOwner tag x ⟨a, 0, 0⟩, 0x26, 0x200, run),
      (.dlBegin tag a b, 0x30, 0x100, dl), (.dlData tag a b none true, 0x31, 0x100, dl), (.dlEnd tag, 0x32, 0x100, dl),
      (.schedule tag a, 0x33, 0x100, run), (.cancel tag, 0x34, 0x100, run), (.updateStatus tag, 0x35, 0x100, true),
      (.bundleBegin tag a, 0x38, 0x200, run), (.bundleData tag a b none, 0x39, 0x200, run), (.bundleEnd tag true none, 0x3A, 0x200, run),
      (.journalRead tag a b 1, 0x40, 0x201, run)]
  let port : State → State → Prop := fun s t => t = { s with svc := t.svc }
  (∀ s, s.rakeServes = true →
    (Yields .readStatus s fun t => t = { s with svc := { s.svc with
        event := false, frameErr := false
        statusByte := (if s.svc.response.isSome then 1 else 0) + (if s.svc.event then 4 else 0) + (if s.svc.frameErr then 8 else 0) + 16 * s.dev.st.code } }) ∧
    (Yields .readFrame s fun t => t = { s with svc := { s.svc with frameOut := s.svc.response, response := none } }) ∧
    (Yields .portReset s fun t => t = { s with svc := { s.svc with response := none, negotiated := false, major := 0, minor := 0 } }) ∧
    (∀ e, e ≠ .badCrc ∨ s.svc.response.isSome = true → Yields (.rakeFrameError e) s fun t =>
      t = { s with svc := { s.svc with frameErr := true, errors := satAdd 8 s.svc.errors 1 } }) ∧
    (s.svc.response = none → Yields (.rakeFrameError .badCrc) s fun t =>
      (∃ f, t.svc.response = some f ∧ f.status = 0x100) ∧ t.svc.errors = satAdd 8 s.svc.errors 1 ∧ t.svc.frameErr = false ∧
      t = { s with svc := t.svc, free := t.free })) ∧
  (∀ s tag, s.rakeServes = true → s.svc.response = none →
    (∀ high minor low,
      let version : Option (Nat × Nat) :=
        if low ≤ 2 ∧ 2 ≤ high then some (2, if high = 2 ∧ minor = 0 then 0 else 1) else if low ≤ 1 ∧ 1 ≤ high then some (1, 0) else none
      (∀ v, version = some v → Yields (.hello tag high minor low) s fun t =>
        port s t ∧ t.svc.negotiated = true ∧ t.svc.major = v.1 ∧ t.svc.minor = v.2 ∧ t.RakeAnswered 1 tag 0 (.bytes [2, 1, 1, v.1, v.2, 0, 0, 0])) ∧
      (version = none → Yields (.hello tag high minor low) s fun t =>
        port s t ∧ t.svc.negotiated = false ∧ t.RakeAnswered 1 tag 0xE .empty)) ∧
    (Yields (.identify tag) s fun t => port s t ∧ t.svc.negotiated = s.svc.negotiated ∧ ∃ bs, bs.length = 64 ∧
      t.RakeAnswered 2 tag 0 (.bytes (bs ++ beBytes 48 s.key.identity.toNat))) ∧
    (∀ op, op ∉ [1, 2, 0x10, 0x11, 0x20, 0x21, 0x22, 0x23, 0x24, 0x25, 0x26, 0x30, 0x31, 0x32, 0x33, 0x34, 0x35, 0x38, 0x39, 0x3A, 0x40] →
      (s.svc.negotiated = true → Yields (.badOp tag op) s fun t => port s t ∧ t.RakeAnswered op tag 0x101 .empty) ∧
      (s.svc.negotiated = false → Yields (.badOp tag op) s fun t => port s t ∧ t.RakeAnswered op tag 0x104 .empty)) ∧
    (∀ a b x, ∀ e ∈ ops s tag a b x,
      (s.svc.negotiated = false → Yields e.1 s fun t => port s t ∧ t.RakeAnswered e.2.1 tag 0x104 .empty) ∧
      (s.svc.negotiated = true → s.svc.major * 256 + s.svc.minor < e.2.2.1 → Yields e.1 s fun t =>
        port s t ∧ t.RakeAnswered e.2.1 tag 0xE .empty) ∧
      (s.svc.negotiated = true → e.2.2.1 ≤ s.svc.major * 256 + s.svc.minor → e.2.2.2 = false → Yields e.1 s fun t =>
        port s t ∧ t.RakeAnswered e.2.1 tag 0x103 .empty))) ∧
  (∀ s tag a b x, s.rakeServes = true → s.svc.response.isSome = true → ∀ e ∈ ops s tag a b x, Yields e.1 s fun t =>
    t = { s with svc := { s.svc with frameErr := true, errors := satAdd 8 s.svc.errors 1 } }) ∧
  (∀ s tag a b x, s.rakeServes = false → (Yields .readStatus s fun t => t = s) ∧ (Yields .readFrame s fun t => t = s) ∧
    (Yields .portReset s fun t => t = s) ∧ (Yields (.hello tag 2 1 1) s fun t => t = s) ∧
    ∀ e ∈ ops s tag a b x, Yields e.1 s fun t => t = s)

/-- R514, R516, R525 to R527, R531, R532: REG_READ, REG_WRITE, REGISTER_WRITE. `ro` are registers no port writes.
Where it says more than those rules do, it states the model's choices of log entry 14. -/
def Obligations.RegisterAccess : Prop :=
  let ro : List Nat := [0x00040000, 0x00600000, 0x00680010, 0x00640000, 0x00010000, 0x00A00000, 0x00FFFFFC, 0x00000000]
  let counted : State → Port → Nat → State → Prop := fun s p v t =>
    match p with
    | .rake => t = { s with svc := { s.svc with denied := satAdd 8 s.svc.denied v } }
    | .headA => t = { s with heads := t.heads, tly := t.tly } ∧ t.heads.a.violReg = satAdd 8 s.heads.a.violReg v
    | .headB => t = { s with heads := t.heads, tly := t.tly } ∧ t.heads.b.violReg = satAdd 8 s.heads.b.violReg v
  (∀ s tag a n, s.RakeReady 0x100 →
    (0 < n → n ≤ 1024 → s.dev.st ≠ .recovery → Yields (.regRead tag a n) s fun t =>
      t = { s with svc := t.svc } ∧ t.RakeAnswered 0x10 tag 0 (.words (readRegs .rake a n s)) ∧ (readRegs .rake a n s).length = n) ∧
    (n = 0 ∨ 1024 < n → Yields (.regRead tag a n) s fun t => t = { s with svc := t.svc } ∧ t.RakeAnswered 0x10 tag 0x102 .empty) ∧
    (s.dev.st = .recovery →
      (a < 0x1000 → 0 < n → n ≤ 16 → Yields (.regRead tag a n) s fun t =>
        t = { s with svc := t.svc } ∧ t.RakeAnswered 0x10 tag 0 (.words (readRegs .rake a n s))) ∧
      (0x00010000 ≤ a → a < 0x00600000 → 0 < n → n ≤ 1024 → Yields (.regRead tag a n) s fun t =>
        t = { s with svc := t.svc } ∧ t.RakeAnswered 0x10 tag 0x103 .empty))) ∧
  (∀ s tag v, s.RakeReady 0x100 → s.running = true ∨ s.dev.st = .reflood →
    (∀ a, a ∈ ro ∨ a % 4 ≠ 0 ∨ a = 0x00010080 ∨ a = 0x000C0000 ∨ a = 0x0060002C ∨ a = 0x00600034 → Yields (.regWrite tag a v) s fun t =>
      t = { s with svc := t.svc } ∧ t.svc.denied = satAdd 8 s.svc.denied 1 ∧ t.RakeAnswered 0x11 tag 0x11 .empty) ∧
    (v < 2 ^ 11 → Yields (.regWrite tag 0x00800024 v) s fun t => t.RakeAnswered 0x11 tag 0 .empty ∧
      t = { s with svc := t.svc, cel := { s.cel with sectSel := s.cel.sectSel.set .rake v } }) ∧
    (v < 2 ^ 19 → Yields (.regWrite tag 0x0008002C v) s fun t => t.RakeAnswered 0x11 tag 0 .empty ∧
      t = { s with svc := t.svc, map := { s.map with rstSel := s.map.rstSel.set .rake v } })) ∧
  (∀ s p, s.windowOpen p = true → s.tly.fifo.length < 32 →
    (∀ a n v, a + n ≤ 2 ^ 24 → ¬ (n = 4 ∧ a % 4 = 0) → ¬ (n = 8 ∧ a % 8 = 0) → Yields (.registerWrite p a n v) s (counted s p 1)) ∧
    (∀ a v, a ∈ ro → Yields (.registerWrite p a 4 v) s (counted s p 1)) ∧
    (∀ v, p ≠ .rake → s.holds .a 1 = false → s.holds .b 1 = false →
      Yields (.registerWrite p 0x000C0000 4 v) s (counted s p 1) ∧ Yields (.registerWrite p 0x0060002C 4 v) s (counted s p 1) ∧
      Yields (.registerWrite p 0x00500004 4 v) s (counted s p 1)) ∧
    (∀ v, v < 2 ^ 19 → Yields (.registerWrite p 0x0008002C 4 v) s fun t =>
      t = { s with map := { s.map with rstSel := s.map.rstSel.set p v } }) ∧
    (∀ v w, v < 2 ^ 19 → w < 2 ^ 32 → Yields (.registerWrite p 0x00080028 8 (w + 2 ^ 32 * v)) s fun t =>
      counted s p 1 { t with map := s.map } ∧ t.map = { s.map with rstSel := s.map.rstSel.set p v })) ∧
  (∀ s p a n v, s.windowOpen p = false → Yields (.registerWrite p a n v) s fun t => t = s)

/-- R518 to R520: TELEMETRY_PAGE_READ and the I3C codes.
Where it says more than those rules do, it states the model's choices of log entry 63. -/
def Obligations.TelemetryTarget : Prop :=
  let le : Nat → Nat → List Nat := fun n v => (List.range n).map fun k => v / 256 ^ k % 256
  let regs : State → List Nat → List Nat := fun s l => l.flatMap fun a => le 4 (readReg .rake a s)
  (∀ s, s.alive = true →
    (∀ p, p ≤ 7 → Yields (.telemetryPageRead p false) s fun t =>
      t.svc.page.length = 32 ∧ t.svc.reads = satAdd 24 s.svc.reads 1 ∧ (p ≠ 2 → t = { s with svc := t.svc }) ∧
      t = { s with svc := { s.svc with page := t.svc.page, reads := t.svc.reads }, free := t.free } ∧
      (p = 0 → t.svc.page.take 12 = [0x16, 0x48, 1, 0] ++ le 8 s.upd.runVer) ∧
      (p = 1 → t.svc.page = regs s [0x40000, 0x40004, 0x40008, 0x40010, 0x40014, 0x40018, 0x40024, 0x40028]) ∧
      (p = 3 → t.svc.page = regs s [0x600000, 0x600010, 0x600014, 0x60001C, 0x600020, 0x600024, 0x600028, 0x600030]) ∧
      (p = 5 → t.svc.page.take 16 = regs s [0x680000, 0x680004, 0x680008, 0x680010]) ∧
      (p = 7 → t.svc.page = regs s [0xA00000, 0xA10000, 0xA00008, 0xA10008, 0xA0000C, 0xA1000C, 0x840000, 0x6E0004])) ∧
    (∀ p, 7 < p → Yields (.telemetryPageRead p false) s fun t => t = { s with svc := { s.svc with page := [] } }) ∧
    (∀ p, Yields (.telemetryPageRead p true) s fun t => t = { s with svc := { s.svc with page := [], pecErr := satAdd 8 s.svc.pecErr 1 } }) ∧
    (Yields .rstdaa s fun t => t = { s with svc := { s.svc with i3c := false, dynAddr := 0 } }) ∧
    (∀ a, a < 128 → s.svc.i3c = false →
      (Yields (.entdaa a) s fun t => t = { s with svc := { s.svc with i3c := true, dynAddr := a } }) ∧
      (Yields (.setdasa s.svc.staticAddr a) s fun t => t = { s with svc := { s.svc with i3c := true, dynAddr := a } }) ∧
      (∀ b, b ≠ s.svc.staticAddr → Yields (.setdasa b a) s fun t => t = s) ∧
      (Yields (.setnewda a) s fun t => t = s) ∧ (Yields .getpid s fun t => t = s) ∧ Yields (.enec a) s fun t => t = s) ∧
    (∀ a, a < 128 → s.svc.i3c = true →
      let tells : Nat → State → Prop := fun w t => ∃ n : BitVec 512, n.toNat < 2 ^ w ∧
        t = { s with svc := { s.svc with i3cAnswer := .blob n }, free := t.free }
      (Yields (.setnewda a) s fun t => t = { s with svc := { s.svc with dynAddr := a } }) ∧
      (Yields .getpid s fun t => tells 48 t ∧ t.free = s.free) ∧ (Yields .getbcr s fun t => tells 8 t ∧ t.free = s.free) ∧
      (Yields .getdcr s fun t => tells 8 t ∧ t.free = s.free) ∧ (Yields .getmwl s fun t => tells 16 t ∧ t.free = s.free) ∧
      (Yields .getmrl s fun t => tells 16 t ∧ t.free = s.free) ∧ (Yields .getstatus s fun t => tells 16 t) ∧
      (∀ e, Yields (.enec e) s fun t => t = { s with svc := { s.svc with i3cEvents := t.svc.i3cEvents } } ∧
        ∀ k, k < 8 → t.svc.i3cEvents.testBit k = (s.svc.i3cEvents.testBit k || e.testBit k)) ∧
      (∀ e, Yields (.disec e) s fun t => t = { s with svc := { s.svc with i3cEvents := t.svc.i3cEvents } } ∧
        ∀ k, k < 8 → t.svc.i3cEvents.testBit k = (s.svc.i3cEvents.testBit k && !e.testBit k)))) ∧
  (∃ pid : BitVec 512, ∀ s, s.alive = true → s.svc.i3c = true → Yields .getpid s fun t => t.svc.i3cAnswer = .blob pid) ∧
  (∀ s a, s.alive = false → (Yields (.telemetryPageRead a false) s fun t => t = s) ∧ (Yields (.entdaa a) s fun t => t = s) ∧
    Yields .rstdaa s fun t => t = s)

/-- R551, R555: AON_CLOCK_STOP, AON_CLOCK_RESTORE, EXTEST, IDCODE, SAMPLE/PRELOAD, CLAMP, HIGHZ, BYPASS.
Where it says more than those rules do, it states the model's choices of log entry 64. -/
def Obligations.ClockAndScan : Prop :=
  (∀ s, s.alive = true → s.pins.rcClock = false → s.saving = false → s.flt.masked.contains 0x94 = false → s.mild 0x94 = true →
    Yields .aonClockStop s fun t => t.pins.rcClock = true ∧ t.flt.sticky.contains 0x94 = true ∧ t.dev = s.dev ∧ t.map = s.map ∧ t.bed = s.bed ∧
      t.jrn = s.jrn ∧ ∀ x, t.byteAt x = s.byteAt x) ∧
  (∀ s, s.dev.st ≠ .off → s.pins.rcClock = true → (Yields .aonClockStop s fun t => t = s) ∧
    Yields .aonClockRestore s fun t => t.pins = { s.pins with rcClock := false } ∧ t = { s with pins := t.pins, flt := t.flt } ∧
      t.flt.sticky = s.flt.sticky) ∧
  (∀ s, s.dev.mainUp = true → s.dev.st ≠ .off → s.dev.st ≠ .sealed →
    let shows : Nat → Nat → Bool → Bool → State → Prop := fun code data drives floats t =>
      t = { s with pins := { s.pins with jtag := code, jtagData := data, scanDrives := drives, scanFloats := floats } }
    let bypass := shows 0xFF 0 false false
    (Yields .idcode s (shows 0x01 0x1481696F false false)) ∧
    (∀ v, Yields (.samplePreload v) s fun t => t.pins.boundary = v ∧ t.pins.jtag = 0x02 ∧ t.pins.scanDrives = false ∧ t.pins.scanFloats = false ∧
      t = { s with pins := { s.pins with jtag := 0x02, jtagData := t.pins.jtagData, boundary := v, scanDrives := false, scanFloats := false }, free := t.free }) ∧
    (∀ c, c < 256 → c ∉ [0x00, 0x01, 0x02, 0x04, 0x05] → Yields (.bypass c) s bypass) ∧
    (s.saving = false →
      (Yields (.extest true) s fun t => t.pins.jtag = 0x00 ∧ t.pins.scanDrives = true ∧ t.pins.scanFloats = false ∧
        t = { s with pins := { s.pins with jtag := 0x00, jtagData := t.pins.jtagData, scanDrives := true, scanFloats := false }, free := t.free }) ∧
      Yields (.clamp true) s (shows 0x04 0 true false) ∧ Yields (.highz true) s (shows 0x05 0 false true)) ∧
    (∀ r, r = false ∨ s.saving = true → Yields (.extest r) s bypass ∧ Yields (.clamp r) s bypass ∧ Yields (.highz r) s bypass)) ∧
  (∀ s r, s.dev.mainUp = false → (Yields .idcode s fun t => t = s) ∧ (Yields (.extest r) s fun t => t = s) ∧ Yields (.highz r) s fun t => t = s)

/-- The model's queue of commands (log entries 1 and 2): first in, first out; the idle step is the model's choice. -/
def Obligations.StepRunsTheFront : Prop :=
  (∀ s c rest, s.pending = c :: rest → step s = exec c { s with pending := rest }) ∧ (∀ s, s.pending = [] → step s = .next s)

/-- R15, R19, R34, R256, R273, R427 at State.reset; the DRAM contents are the model's choice (log entry 4). -/
def Obligations.ResetState : Prop :=
  let s := State.reset
  s.sound ∧ s.dev.st = .boot ∧ s.dev.startDue = true ∧ s.dev.mainUp = true ∧ s.gov.accessHeld = true ∧ s.gov.pdom = false ∧
  s.sal.holdEn = false ∧ s.flt.sticky = [] ∧ s.flt.first.valid = false ∧ (∀ n, (s.cell n).state = .free) ∧ s.heads.a.inReset = true ∧
  s.heads.b.inReset = true ∧ s.upd.marker.state = .empty ∧ s.key.nonces = [] ∧ s.pending = [] ∧ s.lay.inForce = none ∧ ∀ a, s.byteAt a = 0

/-- The invariant of the whole machine over every command: R414 (retirements are carried forward), R443, R457, R463, R533 (fuses), R73
(seal breaks), and the canonical form of DRAM.
Where it says more than those rules do, it states the model's choices of log entry 13. -/
def Obligations.StepKeepsSound : Prop :=
  ∀ s t, step s = .next t →
    (s.sound → t.sound) ∧ t.serial = s.serial ∧ t.key.revoked = s.key.revoked ∧ t.key.provLock = s.key.provLock ∧
    s.key.antiRollback ≤ t.key.antiRollback ∧ s.sal.breaksUsed ≤ t.sal.breaksUsed ∧
    (∀ c d b k n, JRec.retirement c d b k n ∈ s.jrn → JRec.retirement c d b k n ∈ t.jrn) ∧ t.pending = s.pending.tail
end

