-- ==== Sys2Proof/Laws/Fold.lean ====
section
/-!
SUPPORT. What a fold over the state leaves as it was, when each of its steps does.
-/
namespace Sys2Proof.Machine

theorem foldl_same {α β : Type} (π : State → β) (f : State → α → State) (h : ∀ s x, π (f s x) = π s) (l : List α) (s : State) :
    π (l.foldl f s) = π s := by
  induction l generalizing s with
  | nil => rfl
  | cons x xs ih => exact (ih _).trans (h s x)

theorem elim_same {α β : Type} (π : State → β) (o : Option α) (s : State) (f : α → State) (h : ∀ x, π (f x) = π s) : π (o.elim s f) = π s := by
  cases o with
  | none => rfl
  | some x => exact h x

variable {α : Type} (f : State → α → State) (l : List α) (s : State)

@[simp] theorem foldl_dev (h : ∀ s x, (f s x).dev = s.dev) : (l.foldl f s).dev = s.dev := foldl_same State.dev f h l s
@[simp] theorem foldl_gov (h : ∀ s x, (f s x).gov = s.gov) : (l.foldl f s).gov = s.gov := foldl_same State.gov f h l s
@[simp] theorem foldl_flt (h : ∀ s x, (f s x).flt = s.flt) : (l.foldl f s).flt = s.flt := foldl_same State.flt f h l s
@[simp] theorem foldl_tly (h : ∀ s x, (f s x).tly = s.tly) : (l.foldl f s).tly = s.tly := foldl_same State.tly f h l s
@[simp] theorem foldl_sal (h : ∀ s x, (f s x).sal = s.sal) : (l.foldl f s).sal = s.sal := foldl_same State.sal f h l s
@[simp] theorem foldl_map (h : ∀ s x, (f s x).map = s.map) : (l.foldl f s).map = s.map := foldl_same State.map f h l s
@[simp] theorem foldl_drn (h : ∀ s x, (f s x).drn = s.drn) : (l.foldl f s).drn = s.drn := foldl_same State.drn f h l s
@[simp] theorem foldl_hrv (h : ∀ s x, (f s x).hrv = s.hrv) : (l.foldl f s).hrv = s.hrv := foldl_same State.hrv f h l s
@[simp] theorem foldl_fld (h : ∀ s x, (f s x).fld = s.fld) : (l.foldl f s).fld = s.fld := foldl_same State.fld f h l s
@[simp] theorem foldl_bed (h : ∀ s x, (f s x).bed = s.bed) : (l.foldl f s).bed = s.bed := foldl_same State.bed f h l s
@[simp] theorem foldl_pip (h : ∀ s x, (f s x).pip = s.pip) : (l.foldl f s).pip = s.pip := foldl_same State.pip f h l s
@[simp] theorem foldl_heads (h : ∀ s x, (f s x).heads = s.heads) : (l.foldl f s).heads = s.heads := foldl_same State.heads f h l s
@[simp] theorem foldl_sem (h : ∀ s x, (f s x).sem = s.sem) : (l.foldl f s).sem = s.sem := foldl_same State.sem f h l s
@[simp] theorem foldl_pans (h : ∀ s x, (f s x).pans = s.pans) : (l.foldl f s).pans = s.pans := foldl_same State.pans f h l s
@[simp] theorem foldl_dmc (h : ∀ s x, (f s x).dmc = s.dmc) : (l.foldl f s).dmc = s.dmc := foldl_same State.dmc f h l s
@[simp] theorem foldl_trn (h : ∀ s x, (f s x).trn = s.trn) : (l.foldl f s).trn = s.trn := foldl_same State.trn f h l s
@[simp] theorem foldl_thm (h : ∀ s x, (f s x).thm = s.thm) : (l.foldl f s).thm = s.thm := foldl_same State.thm f h l s
@[simp] theorem foldl_cel (h : ∀ s x, (f s x).cel = s.cel) : (l.foldl f s).cel = s.cel := foldl_same State.cel f h l s
@[simp] theorem foldl_upd (h : ∀ s x, (f s x).upd = s.upd) : (l.foldl f s).upd = s.upd := foldl_same State.upd f h l s
@[simp] theorem foldl_key (h : ∀ s x, (f s x).key = s.key) : (l.foldl f s).key = s.key := foldl_same State.key f h l s
@[simp] theorem foldl_brl (h : ∀ s x, (f s x).brl = s.brl) : (l.foldl f s).brl = s.brl := foldl_same State.brl f h l s
@[simp] theorem foldl_svc (h : ∀ s x, (f s x).svc = s.svc) : (l.foldl f s).svc = s.svc := foldl_same State.svc f h l s
@[simp] theorem foldl_pins (h : ∀ s x, (f s x).pins = s.pins) : (l.foldl f s).pins = s.pins := foldl_same State.pins f h l s
@[simp] theorem foldl_lay (h : ∀ s x, (f s x).lay = s.lay) : (l.foldl f s).lay = s.lay := foldl_same State.lay f h l s
@[simp] theorem foldl_jrn (h : ∀ s x, (f s x).jrn = s.jrn) : (l.foldl f s).jrn = s.jrn := foldl_same State.jrn f h l s
@[simp] theorem foldl_replies (h : ∀ s x, (f s x).replies = s.replies) : (l.foldl f s).replies = s.replies := foldl_same State.replies f h l s
@[simp] theorem foldl_dram (h : ∀ s x, (f s x).dram = s.dram) : (l.foldl f s).dram = s.dram := foldl_same State.dram f h l s
@[simp] theorem foldl_poison (h : ∀ s x, (f s x).poison = s.poison) : (l.foldl f s).poison = s.poison := foldl_same State.poison f h l s
@[simp] theorem foldl_serial (h : ∀ s x, (f s x).serial = s.serial) : (l.foldl f s).serial = s.serial := foldl_same State.serial f h l s
@[simp] theorem foldl_boot (h : ∀ s x, (f s x).boot = s.boot) : (l.foldl f s).boot = s.boot := foldl_same State.boot f h l s
@[simp] theorem foldl_free (h : ∀ s x, (f s x).free = s.free) : (l.foldl f s).free = s.free := foldl_same State.free f h l s
@[simp] theorem foldl_pending (h : ∀ s x, (f s x).pending = s.pending) : (l.foldl f s).pending = s.pending := foldl_same State.pending f h l s

end Sys2Proof.Machine
end

