-- ==== Sys2Proof/Laws/FramesA.lean ====
section
/-!
SUPPORT. What each shared operation leaves as it was: operations of the registers of records, of the ledger and of resets.
-/
namespace Sys2Proof.Machine
set_option linter.unusedSimpArgs false

theorem State.putBytes_only {β : Type} (π : State → β) (hπ : ∀ s xdram, π { s with dram := xdram } = π s) (s : State) (a : Nat) (bs : List Byte) :
    π (State.putBytes s a bs) = π s := by
  simp only [State.putBytes, hπ, apply_ite π, ite_self]

@[simp] theorem State.putBytes_frame (s : State) (a : Nat) (bs : List Byte) :
    (State.putBytes s a bs).dev = s.dev ∧ (State.putBytes s a bs).gov = s.gov ∧ (State.putBytes s a bs).flt = s.flt ∧
    (State.putBytes s a bs).tly = s.tly ∧ (State.putBytes s a bs).sal = s.sal ∧ (State.putBytes s a bs).map = s.map ∧
    (State.putBytes s a bs).drn = s.drn ∧ (State.putBytes s a bs).hrv = s.hrv ∧ (State.putBytes s a bs).fld = s.fld ∧
    (State.putBytes s a bs).bed = s.bed ∧ (State.putBytes s a bs).pip = s.pip ∧ (State.putBytes s a bs).heads = s.heads ∧
    (State.putBytes s a bs).sem = s.sem ∧ (State.putBytes s a bs).pans = s.pans ∧ (State.putBytes s a bs).dmc = s.dmc ∧
    (State.putBytes s a bs).trn = s.trn ∧ (State.putBytes s a bs).thm = s.thm ∧ (State.putBytes s a bs).cel = s.cel ∧
    (State.putBytes s a bs).upd = s.upd ∧ (State.putBytes s a bs).key = s.key ∧ (State.putBytes s a bs).brl = s.brl ∧
    (State.putBytes s a bs).svc = s.svc ∧ (State.putBytes s a bs).pins = s.pins ∧ (State.putBytes s a bs).lay = s.lay ∧
    (State.putBytes s a bs).jrn = s.jrn ∧ (State.putBytes s a bs).replies = s.replies ∧ (State.putBytes s a bs).poison = s.poison ∧
    (State.putBytes s a bs).serial = s.serial ∧ (State.putBytes s a bs).boot = s.boot ∧ (State.putBytes s a bs).free = s.free ∧
    (State.putBytes s a bs).pending = s.pending := by
  refine ⟨?_, ?_, ?_, ?_, ?_, ?_, ?_, ?_, ?_, ?_, ?_, ?_, ?_, ?_, ?_, ?_, ?_, ?_, ?_, ?_, ?_, ?_, ?_, ?_, ?_, ?_, ?_, ?_, ?_, ?_, ?_⟩ <;> exact State.putBytes_only _ (fun _ _ => rfl) s a bs

theorem State.putGranule_only {β : Type} (π : State → β) (hπ : ∀ s xdram, π { s with dram := xdram } = π s) (s : State) (g : Nat) (body : GranuleBytes) :
    π (State.putGranule s g body) = π s := by
  simp only [State.putGranule, hπ, apply_ite π, ite_self]

@[simp] theorem State.putGranule_frame (s : State) (g : Nat) (body : GranuleBytes) :
    (State.putGranule s g body).dev = s.dev ∧ (State.putGranule s g body).gov = s.gov ∧ (State.putGranule s g body).flt = s.flt ∧
    (State.putGranule s g body).tly = s.tly ∧ (State.putGranule s g body).sal = s.sal ∧ (State.putGranule s g body).map = s.map ∧
    (State.putGranule s g body).drn = s.drn ∧ (State.putGranule s g body).hrv = s.hrv ∧ (State.putGranule s g body).fld = s.fld ∧
    (State.putGranule s g body).bed = s.bed ∧ (State.putGranule s g body).pip = s.pip ∧
    (State.putGranule s g body).heads = s.heads ∧ (State.putGranule s g body).sem = s.sem ∧
    (State.putGranule s g body).pans = s.pans ∧ (State.putGranule s g body).dmc = s.dmc ∧ (State.putGranule s g body).trn = s.trn ∧
    (State.putGranule s g body).thm = s.thm ∧ (State.putGranule s g body).cel = s.cel ∧ (State.putGranule s g body).upd = s.upd ∧
    (State.putGranule s g body).key = s.key ∧ (State.putGranule s g body).brl = s.brl ∧ (State.putGranule s g body).svc = s.svc ∧
    (State.putGranule s g body).pins = s.pins ∧ (State.putGranule s g body).lay = s.lay ∧ (State.putGranule s g body).jrn = s.jrn ∧
    (State.putGranule s g body).replies = s.replies ∧ (State.putGranule s g body).poison = s.poison ∧
    (State.putGranule s g body).serial = s.serial ∧ (State.putGranule s g body).boot = s.boot ∧
    (State.putGranule s g body).free = s.free ∧ (State.putGranule s g body).pending = s.pending := by
  refine ⟨?_, ?_, ?_, ?_, ?_, ?_, ?_, ?_, ?_, ?_, ?_, ?_, ?_, ?_, ?_, ?_, ?_, ?_, ?_, ?_, ?_, ?_, ?_, ?_, ?_, ?_, ?_, ?_, ?_, ?_, ?_⟩ <;> exact State.putGranule_only _ (fun _ _ => rfl) s g body

theorem State.poisonGranule_only {β : Type} (π : State → β) (hπ : ∀ s xpoison, π { s with poison := xpoison } = π s) (s : State) (g : Nat) (on : Bool) :
    π (State.poisonGranule s g on) = π s := by
  unfold State.poisonGranule; repeat' first | contradiction | (simp only [hπ, foldl_same π, apply_ite π, ite_self]; done) | split | refine (foldl_same π _ (fun s x => ?_) _ _).trans ?_ | refine (elim_same π _ _ _ (fun x => ?_)).trans ?_ | dsimp only

@[simp] theorem State.poisonGranule_frame (s : State) (g : Nat) (on : Bool) :
    (State.poisonGranule s g on).dev = s.dev ∧ (State.poisonGranule s g on).gov = s.gov ∧
    (State.poisonGranule s g on).flt = s.flt ∧ (State.poisonGranule s g on).tly = s.tly ∧
    (State.poisonGranule s g on).sal = s.sal ∧ (State.poisonGranule s g on).map = s.map ∧
    (State.poisonGranule s g on).drn = s.drn ∧ (State.poisonGranule s g on).hrv = s.hrv ∧
    (State.poisonGranule s g on).fld = s.fld ∧ (State.poisonGranule s g on).bed = s.bed ∧
    (State.poisonGranule s g on).pip = s.pip ∧ (State.poisonGranule s g on).heads = s.heads ∧
    (State.poisonGranule s g on).sem = s.sem ∧ (State.poisonGranule s g on).pans = s.pans ∧
    (State.poisonGranule s g on).dmc = s.dmc ∧ (State.poisonGranule s g on).trn = s.trn ∧
    (State.poisonGranule s g on).thm = s.thm ∧ (State.poisonGranule s g on).cel = s.cel ∧
    (State.poisonGranule s g on).upd = s.upd ∧ (State.poisonGranule s g on).key = s.key ∧
    (State.poisonGranule s g on).brl = s.brl ∧ (State.poisonGranule s g on).svc = s.svc ∧
    (State.poisonGranule s g on).pins = s.pins ∧ (State.poisonGranule s g on).lay = s.lay ∧
    (State.poisonGranule s g on).jrn = s.jrn ∧ (State.poisonGranule s g on).replies = s.replies ∧
    (State.poisonGranule s g on).dram = s.dram ∧ (State.poisonGranule s g on).serial = s.serial ∧
    (State.poisonGranule s g on).boot = s.boot ∧ (State.poisonGranule s g on).free = s.free ∧
    (State.poisonGranule s g on).pending = s.pending := by
  refine ⟨?_, ?_, ?_, ?_, ?_, ?_, ?_, ?_, ?_, ?_, ?_, ?_, ?_, ?_, ?_, ?_, ?_, ?_, ?_, ?_, ?_, ?_, ?_, ?_, ?_, ?_, ?_, ?_, ?_, ?_, ?_⟩ <;> exact State.poisonGranule_only _ (fun _ _ => rfl) s g on

theorem State.draw_only {β : Type} (π : State → β) (hπ : ∀ s xfree, π { s with free := xfree } = π s) (s : State) :
    π (State.draw s) = π s := by
  simp only [State.draw, hπ, apply_ite π, ite_self]

@[simp] theorem State.draw_frame (s : State) :
    (State.draw s).dev = s.dev ∧ (State.draw s).gov = s.gov ∧ (State.draw s).flt = s.flt ∧ (State.draw s).tly = s.tly ∧
    (State.draw s).sal = s.sal ∧ (State.draw s).map = s.map ∧ (State.draw s).drn = s.drn ∧ (State.draw s).hrv = s.hrv ∧
    (State.draw s).fld = s.fld ∧ (State.draw s).bed = s.bed ∧ (State.draw s).pip = s.pip ∧ (State.draw s).heads = s.heads ∧
    (State.draw s).sem = s.sem ∧ (State.draw s).pans = s.pans ∧ (State.draw s).dmc = s.dmc ∧ (State.draw s).trn = s.trn ∧
    (State.draw s).thm = s.thm ∧ (State.draw s).cel = s.cel ∧ (State.draw s).upd = s.upd ∧ (State.draw s).key = s.key ∧
    (State.draw s).brl = s.brl ∧ (State.draw s).svc = s.svc ∧ (State.draw s).pins = s.pins ∧ (State.draw s).lay = s.lay ∧
    (State.draw s).jrn = s.jrn ∧ (State.draw s).replies = s.replies ∧ (State.draw s).dram = s.dram ∧
    (State.draw s).poison = s.poison ∧ (State.draw s).serial = s.serial ∧ (State.draw s).boot = s.boot ∧
    (State.draw s).pending = s.pending := by
  refine ⟨?_, ?_, ?_, ?_, ?_, ?_, ?_, ?_, ?_, ?_, ?_, ?_, ?_, ?_, ?_, ?_, ?_, ?_, ?_, ?_, ?_, ?_, ?_, ?_, ?_, ?_, ?_, ?_, ?_, ?_, ?_⟩ <;> exact State.draw_only _ (fun _ _ => rfl) s

theorem State.journal_only {β : Type} (π : State → β) (hπ : ∀ s xjrn, π { s with jrn := xjrn } = π s) (s : State) (r : JRec) :
    π (State.journal s r) = π s := by
  unfold State.journal; repeat' first | contradiction | (simp only [hπ, apply_ite π, ite_self]; done) | split | refine (foldl_same π _ (fun s x => ?_) _ _).trans ?_ | refine (elim_same π _ _ _ (fun x => ?_)).trans ?_ | dsimp only

@[simp] theorem State.journal_frame (s : State) (r : JRec) :
    (State.journal s r).dev = s.dev ∧ (State.journal s r).gov = s.gov ∧ (State.journal s r).flt = s.flt ∧
    (State.journal s r).tly = s.tly ∧ (State.journal s r).sal = s.sal ∧ (State.journal s r).map = s.map ∧
    (State.journal s r).drn = s.drn ∧ (State.journal s r).hrv = s.hrv ∧ (State.journal s r).fld = s.fld ∧
    (State.journal s r).bed = s.bed ∧ (State.journal s r).pip = s.pip ∧ (State.journal s r).heads = s.heads ∧
    (State.journal s r).sem = s.sem ∧ (State.journal s r).pans = s.pans ∧ (State.journal s r).dmc = s.dmc ∧
    (State.journal s r).trn = s.trn ∧ (State.journal s r).thm = s.thm ∧ (State.journal s r).cel = s.cel ∧
    (State.journal s r).upd = s.upd ∧ (State.journal s r).key = s.key ∧ (State.journal s r).brl = s.brl ∧
    (State.journal s r).svc = s.svc ∧ (State.journal s r).pins = s.pins ∧ (State.journal s r).lay = s.lay ∧
    (State.journal s r).replies = s.replies ∧ (State.journal s r).dram = s.dram ∧ (State.journal s r).poison = s.poison ∧
    (State.journal s r).serial = s.serial ∧ (State.journal s r).boot = s.boot ∧ (State.journal s r).free = s.free ∧
    (State.journal s r).pending = s.pending := by
  refine ⟨?_, ?_, ?_, ?_, ?_, ?_, ?_, ?_, ?_, ?_, ?_, ?_, ?_, ?_, ?_, ?_, ?_, ?_, ?_, ?_, ?_, ?_, ?_, ?_, ?_, ?_, ?_, ?_, ?_, ?_, ?_⟩ <;> exact State.journal_only _ (fun _ _ => rfl) s r

theorem State.msix_only {β : Type} (π : State → β) (hπ : ∀ s xheads, π { s with heads := xheads } = π s) (s : State) (v : Nat) :
    π (State.msix s v) = π s := by
  unfold State.msix; repeat' first | contradiction | (simp only [hπ, apply_ite π, ite_self]; done) | split | refine (foldl_same π _ (fun s x => ?_) _ _).trans ?_ | refine (elim_same π _ _ _ (fun x => ?_)).trans ?_ | dsimp only

@[simp] theorem State.msix_frame (s : State) (v : Nat) :
    (State.msix s v).dev = s.dev ∧ (State.msix s v).gov = s.gov ∧ (State.msix s v).flt = s.flt ∧ (State.msix s v).tly = s.tly ∧
    (State.msix s v).sal = s.sal ∧ (State.msix s v).map = s.map ∧ (State.msix s v).drn = s.drn ∧ (State.msix s v).hrv = s.hrv ∧
    (State.msix s v).fld = s.fld ∧ (State.msix s v).bed = s.bed ∧ (State.msix s v).pip = s.pip ∧ (State.msix s v).sem = s.sem ∧
    (State.msix s v).pans = s.pans ∧ (State.msix s v).dmc = s.dmc ∧ (State.msix s v).trn = s.trn ∧ (State.msix s v).thm = s.thm ∧
    (State.msix s v).cel = s.cel ∧ (State.msix s v).upd = s.upd ∧ (State.msix s v).key = s.key ∧ (State.msix s v).brl = s.brl ∧
    (State.msix s v).svc = s.svc ∧ (State.msix s v).pins = s.pins ∧ (State.msix s v).lay = s.lay ∧ (State.msix s v).jrn = s.jrn ∧
    (State.msix s v).replies = s.replies ∧ (State.msix s v).dram = s.dram ∧ (State.msix s v).poison = s.poison ∧
    (State.msix s v).serial = s.serial ∧ (State.msix s v).boot = s.boot ∧ (State.msix s v).free = s.free ∧
    (State.msix s v).pending = s.pending := by
  refine ⟨?_, ?_, ?_, ?_, ?_, ?_, ?_, ?_, ?_, ?_, ?_, ?_, ?_, ?_, ?_, ?_, ?_, ?_, ?_, ?_, ?_, ?_, ?_, ?_, ?_, ?_, ?_, ?_, ?_, ?_, ?_⟩ <;> exact State.msix_only _ (fun _ _ => rfl) s v

theorem State.msixTo_only {β : Type} (π : State → β) (hπ : ∀ s xheads, π { s with heads := xheads } = π s) (s : State) (h : Head) (v : Nat) :
    π (State.msixTo s h v) = π s := by
  unfold State.msixTo; repeat' first | contradiction | (simp only [hπ, State.msix_only π hπ, apply_ite π, ite_self]; done) | split | refine (foldl_same π _ (fun s x => ?_) _ _).trans ?_ | refine (elim_same π _ _ _ (fun x => ?_)).trans ?_ | dsimp only

@[simp] theorem State.msixTo_frame (s : State) (h : Head) (v : Nat) :
    (State.msixTo s h v).dev = s.dev ∧ (State.msixTo s h v).gov = s.gov ∧ (State.msixTo s h v).flt = s.flt ∧
    (State.msixTo s h v).tly = s.tly ∧ (State.msixTo s h v).sal = s.sal ∧ (State.msixTo s h v).map = s.map ∧
    (State.msixTo s h v).drn = s.drn ∧ (State.msixTo s h v).hrv = s.hrv ∧ (State.msixTo s h v).fld = s.fld ∧
    (State.msixTo s h v).bed = s.bed ∧ (State.msixTo s h v).pip = s.pip ∧ (State.msixTo s h v).sem = s.sem ∧
    (State.msixTo s h v).pans = s.pans ∧ (State.msixTo s h v).dmc = s.dmc ∧ (State.msixTo s h v).trn = s.trn ∧
    (State.msixTo s h v).thm = s.thm ∧ (State.msixTo s h v).cel = s.cel ∧ (State.msixTo s h v).upd = s.upd ∧
    (State.msixTo s h v).key = s.key ∧ (State.msixTo s h v).brl = s.brl ∧ (State.msixTo s h v).svc = s.svc ∧
    (State.msixTo s h v).pins = s.pins ∧ (State.msixTo s h v).lay = s.lay ∧ (State.msixTo s h v).jrn = s.jrn ∧
    (State.msixTo s h v).replies = s.replies ∧ (State.msixTo s h v).dram = s.dram ∧ (State.msixTo s h v).poison = s.poison ∧
    (State.msixTo s h v).serial = s.serial ∧ (State.msixTo s h v).boot = s.boot ∧ (State.msixTo s h v).free = s.free ∧
    (State.msixTo s h v).pending = s.pending := by
  refine ⟨?_, ?_, ?_, ?_, ?_, ?_, ?_, ?_, ?_, ?_, ?_, ?_, ?_, ?_, ?_, ?_, ?_, ?_, ?_, ?_, ?_, ?_, ?_, ?_, ?_, ?_, ?_, ?_, ?_, ?_, ?_⟩ <;> exact State.msixTo_only _ (fun _ _ => rfl) s h v

theorem fltRecord_only {β : Type} (π : State → β) (hπ : ∀ s xflt, π { s with flt := xflt } = π s) (src : Nat) (s : State) :
    π (fltRecord src s).1 = π s := by
  unfold fltRecord; repeat' first | contradiction | (simp only [hπ, apply_ite π, ite_self]; done) | split | refine (foldl_same π _ (fun s x => ?_) _ _).trans ?_ | refine (elim_same π _ _ _ (fun x => ?_)).trans ?_ | dsimp only

@[simp] theorem fltRecord_frame (src : Nat) (s : State) :
    (fltRecord src s).1.dev = s.dev ∧ (fltRecord src s).1.gov = s.gov ∧ (fltRecord src s).1.tly = s.tly ∧
    (fltRecord src s).1.sal = s.sal ∧ (fltRecord src s).1.map = s.map ∧ (fltRecord src s).1.drn = s.drn ∧
    (fltRecord src s).1.hrv = s.hrv ∧ (fltRecord src s).1.fld = s.fld ∧ (fltRecord src s).1.bed = s.bed ∧
    (fltRecord src s).1.pip = s.pip ∧ (fltRecord src s).1.heads = s.heads ∧ (fltRecord src s).1.sem = s.sem ∧
    (fltRecord src s).1.pans = s.pans ∧ (fltRecord src s).1.dmc = s.dmc ∧ (fltRecord src s).1.trn = s.trn ∧
    (fltRecord src s).1.thm = s.thm ∧ (fltRecord src s).1.cel = s.cel ∧ (fltRecord src s).1.upd = s.upd ∧
    (fltRecord src s).1.key = s.key ∧ (fltRecord src s).1.brl = s.brl ∧ (fltRecord src s).1.svc = s.svc ∧
    (fltRecord src s).1.pins = s.pins ∧ (fltRecord src s).1.lay = s.lay ∧ (fltRecord src s).1.jrn = s.jrn ∧
    (fltRecord src s).1.replies = s.replies ∧ (fltRecord src s).1.dram = s.dram ∧ (fltRecord src s).1.poison = s.poison ∧
    (fltRecord src s).1.serial = s.serial ∧ (fltRecord src s).1.boot = s.boot ∧ (fltRecord src s).1.free = s.free ∧
    (fltRecord src s).1.pending = s.pending := by
  refine ⟨?_, ?_, ?_, ?_, ?_, ?_, ?_, ?_, ?_, ?_, ?_, ?_, ?_, ?_, ?_, ?_, ?_, ?_, ?_, ?_, ?_, ?_, ?_, ?_, ?_, ?_, ?_, ?_, ?_, ?_, ?_⟩ <;> exact fltRecord_only _ (fun _ _ => rfl) src s

theorem tlyDrop_only {β : Type} (π : State → β) (hπ : ∀ s xflt xtly, π { s with flt := xflt, tly := xtly } = π s) (s : State) :
    π (tlyDrop s).1 = π s := by
  unfold tlyDrop; repeat' first | contradiction | (simp only [hπ, fltRecord_only π (fun s xflt => hπ s xflt s.tly), apply_ite π, ite_self]; done) | split | refine (foldl_same π _ (fun s x => ?_) _ _).trans ?_ | refine (elim_same π _ _ _ (fun x => ?_)).trans ?_ | dsimp only

@[simp] theorem tlyDrop_frame (s : State) :
    (tlyDrop s).1.dev = s.dev ∧ (tlyDrop s).1.gov = s.gov ∧ (tlyDrop s).1.sal = s.sal ∧ (tlyDrop s).1.map = s.map ∧
    (tlyDrop s).1.drn = s.drn ∧ (tlyDrop s).1.hrv = s.hrv ∧ (tlyDrop s).1.fld = s.fld ∧ (tlyDrop s).1.bed = s.bed ∧
    (tlyDrop s).1.pip = s.pip ∧ (tlyDrop s).1.heads = s.heads ∧ (tlyDrop s).1.sem = s.sem ∧ (tlyDrop s).1.pans = s.pans ∧
    (tlyDrop s).1.dmc = s.dmc ∧ (tlyDrop s).1.trn = s.trn ∧ (tlyDrop s).1.thm = s.thm ∧ (tlyDrop s).1.cel = s.cel ∧
    (tlyDrop s).1.upd = s.upd ∧ (tlyDrop s).1.key = s.key ∧ (tlyDrop s).1.brl = s.brl ∧ (tlyDrop s).1.svc = s.svc ∧
    (tlyDrop s).1.pins = s.pins ∧ (tlyDrop s).1.lay = s.lay ∧ (tlyDrop s).1.jrn = s.jrn ∧ (tlyDrop s).1.replies = s.replies ∧
    (tlyDrop s).1.dram = s.dram ∧ (tlyDrop s).1.poison = s.poison ∧ (tlyDrop s).1.serial = s.serial ∧ (tlyDrop s).1.boot = s.boot ∧
    (tlyDrop s).1.free = s.free ∧ (tlyDrop s).1.pending = s.pending := by
  refine ⟨?_, ?_, ?_, ?_, ?_, ?_, ?_, ?_, ?_, ?_, ?_, ?_, ?_, ?_, ?_, ?_, ?_, ?_, ?_, ?_, ?_, ?_, ?_, ?_, ?_, ?_, ?_, ?_, ?_, ?_⟩ <;> exact tlyDrop_only _ (fun _ _ _ => rfl) s

theorem tlyPut_only {β : Type} (π : State → β) (hπ : ∀ s xflt xtly, π { s with flt := xflt, tly := xtly } = π s) (code : Nat) (level : Nat) (arg : Nat) (s : State) :
    π (tlyPut code level arg s).1 = π s := by
  unfold tlyPut; repeat' first | contradiction | (simp only [hπ, tlyDrop_only π hπ, apply_ite π, ite_self]; done) | split | refine (foldl_same π _ (fun s x => ?_) _ _).trans ?_ | refine (elim_same π _ _ _ (fun x => ?_)).trans ?_ | dsimp only

@[simp] theorem tlyPut_frame (code : Nat) (level : Nat) (arg : Nat) (s : State) :
    (tlyPut code level arg s).1.dev = s.dev ∧ (tlyPut code level arg s).1.gov = s.gov ∧ (tlyPut code level arg s).1.sal = s.sal ∧
    (tlyPut code level arg s).1.map = s.map ∧ (tlyPut code level arg s).1.drn = s.drn ∧ (tlyPut code level arg s).1.hrv = s.hrv ∧
    (tlyPut code level arg s).1.fld = s.fld ∧ (tlyPut code level arg s).1.bed = s.bed ∧ (tlyPut code level arg s).1.pip = s.pip ∧
    (tlyPut code level arg s).1.heads = s.heads ∧ (tlyPut code level arg s).1.sem = s.sem ∧
    (tlyPut code level arg s).1.pans = s.pans ∧ (tlyPut code level arg s).1.dmc = s.dmc ∧ (tlyPut code level arg s).1.trn = s.trn ∧
    (tlyPut code level arg s).1.thm = s.thm ∧ (tlyPut code level arg s).1.cel = s.cel ∧ (tlyPut code level arg s).1.upd = s.upd ∧
    (tlyPut code level arg s).1.key = s.key ∧ (tlyPut code level arg s).1.brl = s.brl ∧ (tlyPut code level arg s).1.svc = s.svc ∧
    (tlyPut code level arg s).1.pins = s.pins ∧ (tlyPut code level arg s).1.lay = s.lay ∧ (tlyPut code level arg s).1.jrn = s.jrn ∧
    (tlyPut code level arg s).1.replies = s.replies ∧ (tlyPut code level arg s).1.dram = s.dram ∧
    (tlyPut code level arg s).1.poison = s.poison ∧ (tlyPut code level arg s).1.serial = s.serial ∧
    (tlyPut code level arg s).1.boot = s.boot ∧ (tlyPut code level arg s).1.free = s.free ∧
    (tlyPut code level arg s).1.pending = s.pending := by
  refine ⟨?_, ?_, ?_, ?_, ?_, ?_, ?_, ?_, ?_, ?_, ?_, ?_, ?_, ?_, ?_, ?_, ?_, ?_, ?_, ?_, ?_, ?_, ?_, ?_, ?_, ?_, ?_, ?_, ?_, ?_⟩ <;> exact tlyPut_only _ (fun _ _ _ => rfl) code level arg s

theorem eventTo_only {β : Type} (π : State → β) (hπ : ∀ s xheads, π { s with heads := xheads } = π s) (h : Head) (l : EvLog) (b : EvBody) (s : State) :
    π (eventTo h l b s) = π s := by
  unfold eventTo; repeat' first | contradiction | (simp only [hπ, State.msix_only π hπ, apply_ite π, ite_self]; done) | split | refine (foldl_same π _ (fun s x => ?_) _ _).trans ?_ | refine (elim_same π _ _ _ (fun x => ?_)).trans ?_ | dsimp only

@[simp] theorem eventTo_frame (h : Head) (l : EvLog) (b : EvBody) (s : State) :
    (eventTo h l b s).dev = s.dev ∧ (eventTo h l b s).gov = s.gov ∧ (eventTo h l b s).flt = s.flt ∧ (eventTo h l b s).tly = s.tly ∧
    (eventTo h l b s).sal = s.sal ∧ (eventTo h l b s).map = s.map ∧ (eventTo h l b s).drn = s.drn ∧ (eventTo h l b s).hrv = s.hrv ∧
    (eventTo h l b s).fld = s.fld ∧ (eventTo h l b s).bed = s.bed ∧ (eventTo h l b s).pip = s.pip ∧ (eventTo h l b s).sem = s.sem ∧
    (eventTo h l b s).pans = s.pans ∧ (eventTo h l b s).dmc = s.dmc ∧ (eventTo h l b s).trn = s.trn ∧
    (eventTo h l b s).thm = s.thm ∧ (eventTo h l b s).cel = s.cel ∧ (eventTo h l b s).upd = s.upd ∧ (eventTo h l b s).key = s.key ∧
    (eventTo h l b s).brl = s.brl ∧ (eventTo h l b s).svc = s.svc ∧ (eventTo h l b s).pins = s.pins ∧
    (eventTo h l b s).lay = s.lay ∧ (eventTo h l b s).jrn = s.jrn ∧ (eventTo h l b s).replies = s.replies ∧
    (eventTo h l b s).dram = s.dram ∧ (eventTo h l b s).poison = s.poison ∧ (eventTo h l b s).serial = s.serial ∧
    (eventTo h l b s).boot = s.boot ∧ (eventTo h l b s).free = s.free ∧ (eventTo h l b s).pending = s.pending := by
  refine ⟨?_, ?_, ?_, ?_, ?_, ?_, ?_, ?_, ?_, ?_, ?_, ?_, ?_, ?_, ?_, ?_, ?_, ?_, ?_, ?_, ?_, ?_, ?_, ?_, ?_, ?_, ?_, ?_, ?_, ?_, ?_⟩ <;> exact eventTo_only _ (fun _ _ => rfl) h l b s

theorem chapenEvent_only {β : Type} (π : State → β) (hπ : ∀ s xheads, π { s with heads := xheads } = π s) (l : EvLog) (typ : Nat) (cause : Nat) (head : Nat) (object : Nat) (gb : Nat) (ga : Nat) (value : Nat) (s : State) :
    π (chapenEvent l typ cause head object gb ga value s) = π s := by
  simp only [chapenEvent, hπ, eventTo_only π hπ, apply_ite π, ite_self]

@[simp] theorem chapenEvent_frame (l : EvLog) (typ : Nat) (cause : Nat) (head : Nat) (object : Nat) (gb : Nat) (ga : Nat) (value : Nat) (s : State) :
    (chapenEvent l typ cause head object gb ga value s).dev = s.dev ∧
    (chapenEvent l typ cause head object gb ga value s).gov = s.gov ∧
    (chapenEvent l typ cause head object gb ga value s).flt = s.flt ∧
    (chapenEvent l typ cause head object gb ga value s).tly = s.tly ∧
    (chapenEvent l typ cause head object gb ga value s).sal = s.sal ∧
    (chapenEvent l typ cause head object gb ga value s).map = s.map ∧
    (chapenEvent l typ cause head object gb ga value s).drn = s.drn ∧
    (chapenEvent l typ cause head object gb ga value s).hrv = s.hrv ∧
    (chapenEvent l typ cause head object gb ga value s).fld = s.fld ∧
    (chapenEvent l typ cause head object gb ga value s).bed = s.bed ∧
    (chapenEvent l typ cause head object gb ga value s).pip = s.pip ∧
    (chapenEvent l typ cause head object gb ga value s).sem = s.sem ∧
    (chapenEvent l typ cause head object gb ga value s).pans = s.pans ∧
    (chapenEvent l typ cause head object gb ga value s).dmc = s.dmc ∧
    (chapenEvent l typ cause head object gb ga value s).trn = s.trn ∧
    (chapenEvent l typ cause head object gb ga value s).thm = s.thm ∧
    (chapenEvent l typ cause head object gb ga value s).cel = s.cel ∧
    (chapenEvent l typ cause head object gb ga value s).upd = s.upd ∧
    (chapenEvent l typ cause head object gb ga value s).key = s.key ∧
    (chapenEvent l typ cause head object gb ga value s).brl = s.brl ∧
    (chapenEvent l typ cause head object gb ga value s).svc = s.svc ∧
    (chapenEvent l typ cause head object gb ga value s).pins = s.pins ∧
    (chapenEvent l typ cause head object gb ga value s).lay = s.lay ∧
    (chapenEvent l typ cause head object gb ga value s).jrn = s.jrn ∧
    (chapenEvent l typ cause head object gb ga value s).replies = s.replies ∧
    (chapenEvent l typ cause head object gb ga value s).dram = s.dram ∧
    (chapenEvent l typ cause head object gb ga value s).poison = s.poison ∧
    (chapenEvent l typ cause head object gb ga value s).serial = s.serial ∧
    (chapenEvent l typ cause head object gb ga value s).boot = s.boot ∧
    (chapenEvent l typ cause head object gb ga value s).free = s.free ∧
    (chapenEvent l typ cause head object gb ga value s).pending = s.pending := by
  refine ⟨?_, ?_, ?_, ?_, ?_, ?_, ?_, ?_, ?_, ?_, ?_, ?_, ?_, ?_, ?_, ?_, ?_, ?_, ?_, ?_, ?_, ?_, ?_, ?_, ?_, ?_, ?_, ?_, ?_, ?_, ?_⟩ <;> exact chapenEvent_only _ (fun _ _ => rfl) l typ cause head object gb ga value s

theorem reactLow_only {β : Type} (π : State → β) (hπ : ∀ s xflt xheads, π { s with flt := xflt, heads := xheads } = π s) (level : Nat) (s : State) :
    π (reactLow level s) = π s := by
  unfold reactLow; repeat' first | contradiction | (simp only [hπ, State.msix_only π (fun s xheads => hπ s s.flt xheads), apply_ite π, ite_self]; done) | split | refine (foldl_same π _ (fun s x => ?_) _ _).trans ?_ | refine (elim_same π _ _ _ (fun x => ?_)).trans ?_ | dsimp only

@[simp] theorem reactLow_frame (level : Nat) (s : State) :
    (reactLow level s).dev = s.dev ∧ (reactLow level s).gov = s.gov ∧ (reactLow level s).tly = s.tly ∧
    (reactLow level s).sal = s.sal ∧ (reactLow level s).map = s.map ∧ (reactLow level s).drn = s.drn ∧
    (reactLow level s).hrv = s.hrv ∧ (reactLow level s).fld = s.fld ∧ (reactLow level s).bed = s.bed ∧
    (reactLow level s).pip = s.pip ∧ (reactLow level s).sem = s.sem ∧ (reactLow level s).pans = s.pans ∧
    (reactLow level s).dmc = s.dmc ∧ (reactLow level s).trn = s.trn ∧ (reactLow level s).thm = s.thm ∧
    (reactLow level s).cel = s.cel ∧ (reactLow level s).upd = s.upd ∧ (reactLow level s).key = s.key ∧
    (reactLow level s).brl = s.brl ∧ (reactLow level s).svc = s.svc ∧ (reactLow level s).pins = s.pins ∧
    (reactLow level s).lay = s.lay ∧ (reactLow level s).jrn = s.jrn ∧ (reactLow level s).replies = s.replies ∧
    (reactLow level s).dram = s.dram ∧ (reactLow level s).poison = s.poison ∧ (reactLow level s).serial = s.serial ∧
    (reactLow level s).boot = s.boot ∧ (reactLow level s).free = s.free ∧ (reactLow level s).pending = s.pending := by
  refine ⟨?_, ?_, ?_, ?_, ?_, ?_, ?_, ?_, ?_, ?_, ?_, ?_, ?_, ?_, ?_, ?_, ?_, ?_, ?_, ?_, ?_, ?_, ?_, ?_, ?_, ?_, ?_, ?_, ?_, ?_⟩ <;> exact reactLow_only _ (fun _ _ _ => rfl) level s

theorem tlyTell_only {β : Type} (π : State → β) (hπ : ∀ s xflt xtly xheads, π { s with flt := xflt, tly := xtly, heads := xheads } = π s) (code : Nat) (arg : Nat) (s : State) :
    π (tlyTell code arg s) = π s := by
  unfold tlyTell; repeat' first | contradiction | (simp only [hπ, tlyPut_only π (fun s xflt xtly => hπ s xflt xtly s.heads), reactLow_only π (fun s xflt xheads => hπ s xflt s.tly xheads), apply_ite π, ite_self]; done) | split | refine (foldl_same π _ (fun s x => ?_) _ _).trans ?_ | refine (elim_same π _ _ _ (fun x => ?_)).trans ?_ | dsimp only

@[simp] theorem tlyTell_frame (code : Nat) (arg : Nat) (s : State) :
    (tlyTell code arg s).dev = s.dev ∧ (tlyTell code arg s).gov = s.gov ∧ (tlyTell code arg s).sal = s.sal ∧
    (tlyTell code arg s).map = s.map ∧ (tlyTell code arg s).drn = s.drn ∧ (tlyTell code arg s).hrv = s.hrv ∧
    (tlyTell code arg s).fld = s.fld ∧ (tlyTell code arg s).bed = s.bed ∧ (tlyTell code arg s).pip = s.pip ∧
    (tlyTell code arg s).sem = s.sem ∧ (tlyTell code arg s).pans = s.pans ∧ (tlyTell code arg s).dmc = s.dmc ∧
    (tlyTell code arg s).trn = s.trn ∧ (tlyTell code arg s).thm = s.thm ∧ (tlyTell code arg s).cel = s.cel ∧
    (tlyTell code arg s).upd = s.upd ∧ (tlyTell code arg s).key = s.key ∧ (tlyTell code arg s).brl = s.brl ∧
    (tlyTell code arg s).svc = s.svc ∧ (tlyTell code arg s).pins = s.pins ∧ (tlyTell code arg s).lay = s.lay ∧
    (tlyTell code arg s).jrn = s.jrn ∧ (tlyTell code arg s).replies = s.replies ∧ (tlyTell code arg s).dram = s.dram ∧
    (tlyTell code arg s).poison = s.poison ∧ (tlyTell code arg s).serial = s.serial ∧ (tlyTell code arg s).boot = s.boot ∧
    (tlyTell code arg s).free = s.free ∧ (tlyTell code arg s).pending = s.pending := by
  refine ⟨?_, ?_, ?_, ?_, ?_, ?_, ?_, ?_, ?_, ?_, ?_, ?_, ?_, ?_, ?_, ?_, ?_, ?_, ?_, ?_, ?_, ?_, ?_, ?_, ?_, ?_, ?_, ?_, ?_⟩ <;> exact tlyTell_only _ (fun _ _ _ _ => rfl) code arg s

theorem rstUpd_only {β : Type} (π : State → β) (hπ : ∀ s xmap, π { s with map := xmap } = π s) (r : Nat) (f : RstEntry → RstEntry) (s : State) :
    π (rstUpd r f s) = π s := by
  unfold rstUpd; repeat' first | contradiction | (simp only [hπ, apply_ite π, ite_self]; done) | split | refine (foldl_same π _ (fun s x => ?_) _ _).trans ?_ | refine (elim_same π _ _ _ (fun x => ?_)).trans ?_ | dsimp only

@[simp] theorem rstUpd_frame (r : Nat) (f : RstEntry → RstEntry) (s : State) :
    (rstUpd r f s).dev = s.dev ∧ (rstUpd r f s).gov = s.gov ∧ (rstUpd r f s).flt = s.flt ∧ (rstUpd r f s).tly = s.tly ∧
    (rstUpd r f s).sal = s.sal ∧ (rstUpd r f s).drn = s.drn ∧ (rstUpd r f s).hrv = s.hrv ∧ (rstUpd r f s).fld = s.fld ∧
    (rstUpd r f s).bed = s.bed ∧ (rstUpd r f s).pip = s.pip ∧ (rstUpd r f s).heads = s.heads ∧ (rstUpd r f s).sem = s.sem ∧
    (rstUpd r f s).pans = s.pans ∧ (rstUpd r f s).dmc = s.dmc ∧ (rstUpd r f s).trn = s.trn ∧ (rstUpd r f s).thm = s.thm ∧
    (rstUpd r f s).cel = s.cel ∧ (rstUpd r f s).upd = s.upd ∧ (rstUpd r f s).key = s.key ∧ (rstUpd r f s).brl = s.brl ∧
    (rstUpd r f s).svc = s.svc ∧ (rstUpd r f s).pins = s.pins ∧ (rstUpd r f s).lay = s.lay ∧ (rstUpd r f s).jrn = s.jrn ∧
    (rstUpd r f s).replies = s.replies ∧ (rstUpd r f s).dram = s.dram ∧ (rstUpd r f s).poison = s.poison ∧
    (rstUpd r f s).serial = s.serial ∧ (rstUpd r f s).boot = s.boot ∧ (rstUpd r f s).free = s.free ∧
    (rstUpd r f s).pending = s.pending := by
  refine ⟨?_, ?_, ?_, ?_, ?_, ?_, ?_, ?_, ?_, ?_, ?_, ?_, ?_, ?_, ?_, ?_, ?_, ?_, ?_, ?_, ?_, ?_, ?_, ?_, ?_, ?_, ?_, ?_, ?_, ?_, ?_⟩ <;> exact rstUpd_only _ (fun _ _ => rfl) r f s

theorem writeBack_only {β : Type} (π : State → β) (hπ : ∀ s xmap, π { s with map := xmap } = π s) (r : Nat) (s : State) :
    π (writeBack r s) = π s := by
  unfold writeBack; repeat' first | contradiction | (simp only [hπ, apply_ite π, ite_self]; done) | split | refine (foldl_same π _ (fun s x => ?_) _ _).trans ?_ | refine (elim_same π _ _ _ (fun x => ?_)).trans ?_ | dsimp only

@[simp] theorem writeBack_frame (r : Nat) (s : State) :
    (writeBack r s).dev = s.dev ∧ (writeBack r s).gov = s.gov ∧ (writeBack r s).flt = s.flt ∧ (writeBack r s).tly = s.tly ∧
    (writeBack r s).sal = s.sal ∧ (writeBack r s).drn = s.drn ∧ (writeBack r s).hrv = s.hrv ∧ (writeBack r s).fld = s.fld ∧
    (writeBack r s).bed = s.bed ∧ (writeBack r s).pip = s.pip ∧ (writeBack r s).heads = s.heads ∧ (writeBack r s).sem = s.sem ∧
    (writeBack r s).pans = s.pans ∧ (writeBack r s).dmc = s.dmc ∧ (writeBack r s).trn = s.trn ∧ (writeBack r s).thm = s.thm ∧
    (writeBack r s).cel = s.cel ∧ (writeBack r s).upd = s.upd ∧ (writeBack r s).key = s.key ∧ (writeBack r s).brl = s.brl ∧
    (writeBack r s).svc = s.svc ∧ (writeBack r s).pins = s.pins ∧ (writeBack r s).lay = s.lay ∧ (writeBack r s).jrn = s.jrn ∧
    (writeBack r s).replies = s.replies ∧ (writeBack r s).dram = s.dram ∧ (writeBack r s).poison = s.poison ∧
    (writeBack r s).serial = s.serial ∧ (writeBack r s).boot = s.boot ∧ (writeBack r s).free = s.free ∧
    (writeBack r s).pending = s.pending := by
  refine ⟨?_, ?_, ?_, ?_, ?_, ?_, ?_, ?_, ?_, ?_, ?_, ?_, ?_, ?_, ?_, ?_, ?_, ?_, ?_, ?_, ?_, ?_, ?_, ?_, ?_, ?_, ?_, ?_, ?_, ?_, ?_⟩ <;> exact writeBack_only _ (fun _ _ => rfl) r s

theorem capDirty_only {β : Type} (π : State → β) (hπ : ∀ s xmap, π { s with map := xmap } = π s) (s : State) :
    π (capDirty s) = π s := by
  unfold capDirty; repeat' first | contradiction | (simp only [hπ, writeBack_only π hπ, apply_ite π, ite_self]; done) | split | refine (foldl_same π _ (fun s x => ?_) _ _).trans ?_ | refine (elim_same π _ _ _ (fun x => ?_)).trans ?_ | dsimp only

@[simp] theorem capDirty_frame (s : State) :
    (capDirty s).dev = s.dev ∧ (capDirty s).gov = s.gov ∧ (capDirty s).flt = s.flt ∧ (capDirty s).tly = s.tly ∧
    (capDirty s).sal = s.sal ∧ (capDirty s).drn = s.drn ∧ (capDirty s).hrv = s.hrv ∧ (capDirty s).fld = s.fld ∧
    (capDirty s).bed = s.bed ∧ (capDirty s).pip = s.pip ∧ (capDirty s).heads = s.heads ∧ (capDirty s).sem = s.sem ∧
    (capDirty s).pans = s.pans ∧ (capDirty s).dmc = s.dmc ∧ (capDirty s).trn = s.trn ∧ (capDirty s).thm = s.thm ∧
    (capDirty s).cel = s.cel ∧ (capDirty s).upd = s.upd ∧ (capDirty s).key = s.key ∧ (capDirty s).brl = s.brl ∧
    (capDirty s).svc = s.svc ∧ (capDirty s).pins = s.pins ∧ (capDirty s).lay = s.lay ∧ (capDirty s).jrn = s.jrn ∧
    (capDirty s).replies = s.replies ∧ (capDirty s).dram = s.dram ∧ (capDirty s).poison = s.poison ∧
    (capDirty s).serial = s.serial ∧ (capDirty s).boot = s.boot ∧ (capDirty s).free = s.free ∧ (capDirty s).pending = s.pending := by
  refine ⟨?_, ?_, ?_, ?_, ?_, ?_, ?_, ?_, ?_, ?_, ?_, ?_, ?_, ?_, ?_, ?_, ?_, ?_, ?_, ?_, ?_, ?_, ?_, ?_, ?_, ?_, ?_, ?_, ?_, ?_, ?_⟩ <;> exact capDirty_only _ (fun _ _ => rfl) s

theorem useLine_only {β : Type} (π : State → β) (hπ : ∀ s xmap, π { s with map := xmap } = π s) (r : Nat) (s : State) :
    π (useLine r s) = π s := by
  simp only [useLine, hπ, apply_ite π, ite_self]

@[simp] theorem useLine_frame (r : Nat) (s : State) :
    (useLine r s).dev = s.dev ∧ (useLine r s).gov = s.gov ∧ (useLine r s).flt = s.flt ∧ (useLine r s).tly = s.tly ∧
    (useLine r s).sal = s.sal ∧ (useLine r s).drn = s.drn ∧ (useLine r s).hrv = s.hrv ∧ (useLine r s).fld = s.fld ∧
    (useLine r s).bed = s.bed ∧ (useLine r s).pip = s.pip ∧ (useLine r s).heads = s.heads ∧ (useLine r s).sem = s.sem ∧
    (useLine r s).pans = s.pans ∧ (useLine r s).dmc = s.dmc ∧ (useLine r s).trn = s.trn ∧ (useLine r s).thm = s.thm ∧
    (useLine r s).cel = s.cel ∧ (useLine r s).upd = s.upd ∧ (useLine r s).key = s.key ∧ (useLine r s).brl = s.brl ∧
    (useLine r s).svc = s.svc ∧ (useLine r s).pins = s.pins ∧ (useLine r s).lay = s.lay ∧ (useLine r s).jrn = s.jrn ∧
    (useLine r s).replies = s.replies ∧ (useLine r s).dram = s.dram ∧ (useLine r s).poison = s.poison ∧
    (useLine r s).serial = s.serial ∧ (useLine r s).boot = s.boot ∧ (useLine r s).free = s.free ∧ (useLine r s).pending = s.pending := by
  refine ⟨?_, ?_, ?_, ?_, ?_, ?_, ?_, ?_, ?_, ?_, ?_, ?_, ?_, ?_, ?_, ?_, ?_, ?_, ?_, ?_, ?_, ?_, ?_, ?_, ?_, ?_, ?_, ?_, ?_, ?_, ?_⟩ <;> exact useLine_only _ (fun _ _ => rfl) r s

theorem setLine_only {β : Type} (π : State → β) (hπ : ∀ s xmap, π { s with map := xmap } = π s) (r : Nat) (line : Nat) (s : State) :
    π (setLine r line s) = π s := by
  unfold setLine; repeat' first | contradiction | (simp only [hπ, apply_ite π, ite_self]; done) | split | refine (foldl_same π _ (fun s x => ?_) _ _).trans ?_ | refine (elim_same π _ _ _ (fun x => ?_)).trans ?_ | dsimp only

@[simp] theorem setLine_frame (r : Nat) (line : Nat) (s : State) :
    (setLine r line s).dev = s.dev ∧ (setLine r line s).gov = s.gov ∧ (setLine r line s).flt = s.flt ∧
    (setLine r line s).tly = s.tly ∧ (setLine r line s).sal = s.sal ∧ (setLine r line s).drn = s.drn ∧
    (setLine r line s).hrv = s.hrv ∧ (setLine r line s).fld = s.fld ∧ (setLine r line s).bed = s.bed ∧
    (setLine r line s).pip = s.pip ∧ (setLine r line s).heads = s.heads ∧ (setLine r line s).sem = s.sem ∧
    (setLine r line s).pans = s.pans ∧ (setLine r line s).dmc = s.dmc ∧ (setLine r line s).trn = s.trn ∧
    (setLine r line s).thm = s.thm ∧ (setLine r line s).cel = s.cel ∧ (setLine r line s).upd = s.upd ∧
    (setLine r line s).key = s.key ∧ (setLine r line s).brl = s.brl ∧ (setLine r line s).svc = s.svc ∧
    (setLine r line s).pins = s.pins ∧ (setLine r line s).lay = s.lay ∧ (setLine r line s).jrn = s.jrn ∧
    (setLine r line s).replies = s.replies ∧ (setLine r line s).dram = s.dram ∧ (setLine r line s).poison = s.poison ∧
    (setLine r line s).serial = s.serial ∧ (setLine r line s).boot = s.boot ∧ (setLine r line s).free = s.free ∧
    (setLine r line s).pending = s.pending := by
  refine ⟨?_, ?_, ?_, ?_, ?_, ?_, ?_, ?_, ?_, ?_, ?_, ?_, ?_, ?_, ?_, ?_, ?_, ?_, ?_, ?_, ?_, ?_, ?_, ?_, ?_, ?_, ?_, ?_, ?_, ?_, ?_⟩ <;> exact setLine_only _ (fun _ _ => rfl) r line s

theorem setBit_only {β : Type} (π : State → β) (hπ : ∀ s xmap, π { s with map := xmap } = π s) (g : Nat) (s : State) :
    π (setBit g s) = π s := by
  unfold setBit; repeat' first | contradiction | (simp only [hπ, rstUpd_only π hπ, capDirty_only π hπ, setLine_only π hπ, apply_ite π, ite_self]; done) | split | refine (foldl_same π _ (fun s x => ?_) _ _).trans ?_ | refine (elim_same π _ _ _ (fun x => ?_)).trans ?_ | dsimp only

@[simp] theorem setBit_frame (g : Nat) (s : State) :
    (setBit g s).dev = s.dev ∧ (setBit g s).gov = s.gov ∧ (setBit g s).flt = s.flt ∧ (setBit g s).tly = s.tly ∧
    (setBit g s).sal = s.sal ∧ (setBit g s).drn = s.drn ∧ (setBit g s).hrv = s.hrv ∧ (setBit g s).fld = s.fld ∧
    (setBit g s).bed = s.bed ∧ (setBit g s).pip = s.pip ∧ (setBit g s).heads = s.heads ∧ (setBit g s).sem = s.sem ∧
    (setBit g s).pans = s.pans ∧ (setBit g s).dmc = s.dmc ∧ (setBit g s).trn = s.trn ∧ (setBit g s).thm = s.thm ∧
    (setBit g s).cel = s.cel ∧ (setBit g s).upd = s.upd ∧ (setBit g s).key = s.key ∧ (setBit g s).brl = s.brl ∧
    (setBit g s).svc = s.svc ∧ (setBit g s).pins = s.pins ∧ (setBit g s).lay = s.lay ∧ (setBit g s).jrn = s.jrn ∧
    (setBit g s).replies = s.replies ∧ (setBit g s).dram = s.dram ∧ (setBit g s).poison = s.poison ∧
    (setBit g s).serial = s.serial ∧ (setBit g s).boot = s.boot ∧ (setBit g s).free = s.free ∧ (setBit g s).pending = s.pending := by
  refine ⟨?_, ?_, ?_, ?_, ?_, ?_, ?_, ?_, ?_, ?_, ?_, ?_, ?_, ?_, ?_, ?_, ?_, ?_, ?_, ?_, ?_, ?_, ?_, ?_, ?_, ?_, ?_, ?_, ?_, ?_, ?_⟩ <;> exact setBit_only _ (fun _ _ => rfl) g s

theorem clrBit_only {β : Type} (π : State → β) (hπ : ∀ s xmap, π { s with map := xmap } = π s) (g : Nat) (s : State) :
    π (clrBit g s) = π s := by
  unfold clrBit; repeat' first | contradiction | (simp only [hπ, rstUpd_only π hπ, capDirty_only π hπ, setLine_only π hπ, apply_ite π, ite_self]; done) | split | refine (foldl_same π _ (fun s x => ?_) _ _).trans ?_ | refine (elim_same π _ _ _ (fun x => ?_)).trans ?_ | dsimp only

@[simp] theorem clrBit_frame (g : Nat) (s : State) :
    (clrBit g s).dev = s.dev ∧ (clrBit g s).gov = s.gov ∧ (clrBit g s).flt = s.flt ∧ (clrBit g s).tly = s.tly ∧
    (clrBit g s).sal = s.sal ∧ (clrBit g s).drn = s.drn ∧ (clrBit g s).hrv = s.hrv ∧ (clrBit g s).fld = s.fld ∧
    (clrBit g s).bed = s.bed ∧ (clrBit g s).pip = s.pip ∧ (clrBit g s).heads = s.heads ∧ (clrBit g s).sem = s.sem ∧
    (clrBit g s).pans = s.pans ∧ (clrBit g s).dmc = s.dmc ∧ (clrBit g s).trn = s.trn ∧ (clrBit g s).thm = s.thm ∧
    (clrBit g s).cel = s.cel ∧ (clrBit g s).upd = s.upd ∧ (clrBit g s).key = s.key ∧ (clrBit g s).brl = s.brl ∧
    (clrBit g s).svc = s.svc ∧ (clrBit g s).pins = s.pins ∧ (clrBit g s).lay = s.lay ∧ (clrBit g s).jrn = s.jrn ∧
    (clrBit g s).replies = s.replies ∧ (clrBit g s).dram = s.dram ∧ (clrBit g s).poison = s.poison ∧
    (clrBit g s).serial = s.serial ∧ (clrBit g s).boot = s.boot ∧ (clrBit g s).free = s.free ∧ (clrBit g s).pending = s.pending := by
  refine ⟨?_, ?_, ?_, ?_, ?_, ?_, ?_, ?_, ?_, ?_, ?_, ?_, ?_, ?_, ?_, ?_, ?_, ?_, ?_, ?_, ?_, ?_, ?_, ?_, ?_, ?_, ?_, ?_, ?_, ?_, ?_⟩ <;> exact clrBit_only _ (fun _ _ => rfl) g s

theorem markEntry_only {β : Type} (π : State → β) (hπ : ∀ s xmap, π { s with map := xmap } = π s) (r : Nat) (s : State) :
    π (markEntry r s) = π s := by
  simp only [markEntry, hπ, rstUpd_only π hπ, apply_ite π, ite_self]

@[simp] theorem markEntry_frame (r : Nat) (s : State) :
    (markEntry r s).dev = s.dev ∧ (markEntry r s).gov = s.gov ∧ (markEntry r s).flt = s.flt ∧ (markEntry r s).tly = s.tly ∧
    (markEntry r s).sal = s.sal ∧ (markEntry r s).drn = s.drn ∧ (markEntry r s).hrv = s.hrv ∧ (markEntry r s).fld = s.fld ∧
    (markEntry r s).bed = s.bed ∧ (markEntry r s).pip = s.pip ∧ (markEntry r s).heads = s.heads ∧ (markEntry r s).sem = s.sem ∧
    (markEntry r s).pans = s.pans ∧ (markEntry r s).dmc = s.dmc ∧ (markEntry r s).trn = s.trn ∧ (markEntry r s).thm = s.thm ∧
    (markEntry r s).cel = s.cel ∧ (markEntry r s).upd = s.upd ∧ (markEntry r s).key = s.key ∧ (markEntry r s).brl = s.brl ∧
    (markEntry r s).svc = s.svc ∧ (markEntry r s).pins = s.pins ∧ (markEntry r s).lay = s.lay ∧ (markEntry r s).jrn = s.jrn ∧
    (markEntry r s).replies = s.replies ∧ (markEntry r s).dram = s.dram ∧ (markEntry r s).poison = s.poison ∧
    (markEntry r s).serial = s.serial ∧ (markEntry r s).boot = s.boot ∧ (markEntry r s).free = s.free ∧
    (markEntry r s).pending = s.pending := by
  refine ⟨?_, ?_, ?_, ?_, ?_, ?_, ?_, ?_, ?_, ?_, ?_, ?_, ?_, ?_, ?_, ?_, ?_, ?_, ?_, ?_, ?_, ?_, ?_, ?_, ?_, ?_, ?_, ?_, ?_, ?_, ?_⟩ <;> exact markEntry_only _ (fun _ _ => rfl) r s

theorem claimIn_only {β : Type} (π : State → β) (hπ : ∀ s xmap xdrn, π { s with map := xmap, drn := xdrn } = π s) (g : Nat) (s : State) :
    π (claimIn g s) = π s := by
  unfold claimIn; repeat' first | contradiction | (simp only [hπ, clrBit_only π (fun s xmap => hπ s xmap s.drn), apply_ite π, ite_self]; done) | split | refine (foldl_same π _ (fun s x => ?_) _ _).trans ?_ | refine (elim_same π _ _ _ (fun x => ?_)).trans ?_ | dsimp only

@[simp] theorem claimIn_frame (g : Nat) (s : State) :
    (claimIn g s).dev = s.dev ∧ (claimIn g s).gov = s.gov ∧ (claimIn g s).flt = s.flt ∧ (claimIn g s).tly = s.tly ∧
    (claimIn g s).sal = s.sal ∧ (claimIn g s).hrv = s.hrv ∧ (claimIn g s).fld = s.fld ∧ (claimIn g s).bed = s.bed ∧
    (claimIn g s).pip = s.pip ∧ (claimIn g s).heads = s.heads ∧ (claimIn g s).sem = s.sem ∧ (claimIn g s).pans = s.pans ∧
    (claimIn g s).dmc = s.dmc ∧ (claimIn g s).trn = s.trn ∧ (claimIn g s).thm = s.thm ∧ (claimIn g s).cel = s.cel ∧
    (claimIn g s).upd = s.upd ∧ (claimIn g s).key = s.key ∧ (claimIn g s).brl = s.brl ∧ (claimIn g s).svc = s.svc ∧
    (claimIn g s).pins = s.pins ∧ (claimIn g s).lay = s.lay ∧ (claimIn g s).jrn = s.jrn ∧ (claimIn g s).replies = s.replies ∧
    (claimIn g s).dram = s.dram ∧ (claimIn g s).poison = s.poison ∧ (claimIn g s).serial = s.serial ∧ (claimIn g s).boot = s.boot ∧
    (claimIn g s).free = s.free ∧ (claimIn g s).pending = s.pending := by
  refine ⟨?_, ?_, ?_, ?_, ?_, ?_, ?_, ?_, ?_, ?_, ?_, ?_, ?_, ?_, ?_, ?_, ?_, ?_, ?_, ?_, ?_, ?_, ?_, ?_, ?_, ?_, ?_, ?_, ?_, ?_⟩ <;> exact claimIn_only _ (fun _ _ _ => rfl) g s

theorem leaveTable_only {β : Type} (π : State → β) (hπ : ∀ s xmap, π { s with map := xmap } = π s) (g : Nat) (s : State) :
    π (leaveTable g s) = π s := by
  simp only [leaveTable, hπ, apply_ite π, ite_self]

@[simp] theorem leaveTable_frame (g : Nat) (s : State) :
    (leaveTable g s).dev = s.dev ∧ (leaveTable g s).gov = s.gov ∧ (leaveTable g s).flt = s.flt ∧ (leaveTable g s).tly = s.tly ∧
    (leaveTable g s).sal = s.sal ∧ (leaveTable g s).drn = s.drn ∧ (leaveTable g s).hrv = s.hrv ∧ (leaveTable g s).fld = s.fld ∧
    (leaveTable g s).bed = s.bed ∧ (leaveTable g s).pip = s.pip ∧ (leaveTable g s).heads = s.heads ∧ (leaveTable g s).sem = s.sem ∧
    (leaveTable g s).pans = s.pans ∧ (leaveTable g s).dmc = s.dmc ∧ (leaveTable g s).trn = s.trn ∧ (leaveTable g s).thm = s.thm ∧
    (leaveTable g s).cel = s.cel ∧ (leaveTable g s).upd = s.upd ∧ (leaveTable g s).key = s.key ∧ (leaveTable g s).brl = s.brl ∧
    (leaveTable g s).svc = s.svc ∧ (leaveTable g s).pins = s.pins ∧ (leaveTable g s).lay = s.lay ∧ (leaveTable g s).jrn = s.jrn ∧
    (leaveTable g s).replies = s.replies ∧ (leaveTable g s).dram = s.dram ∧ (leaveTable g s).poison = s.poison ∧
    (leaveTable g s).serial = s.serial ∧ (leaveTable g s).boot = s.boot ∧ (leaveTable g s).free = s.free ∧
    (leaveTable g s).pending = s.pending := by
  refine ⟨?_, ?_, ?_, ?_, ?_, ?_, ?_, ?_, ?_, ?_, ?_, ?_, ?_, ?_, ?_, ?_, ?_, ?_, ?_, ?_, ?_, ?_, ?_, ?_, ?_, ?_, ?_, ?_, ?_, ?_, ?_⟩ <;> exact leaveTable_only _ (fun _ _ => rfl) g s

theorem dropCopies_only {β : Type} (π : State → β) (hπ : ∀ s xdrn xbed, π { s with drn := xdrn, bed := xbed } = π s) (g : Nat) (s : State) :
    π (dropCopies g s) = π s := by
  unfold dropCopies; repeat' first | contradiction | (simp only [hπ, apply_ite π, ite_self]; done) | split | refine (foldl_same π _ (fun s x => ?_) _ _).trans ?_ | refine (elim_same π _ _ _ (fun x => ?_)).trans ?_ | dsimp only

@[simp] theorem dropCopies_frame (g : Nat) (s : State) :
    (dropCopies g s).dev = s.dev ∧ (dropCopies g s).gov = s.gov ∧ (dropCopies g s).flt = s.flt ∧ (dropCopies g s).tly = s.tly ∧
    (dropCopies g s).sal = s.sal ∧ (dropCopies g s).map = s.map ∧ (dropCopies g s).hrv = s.hrv ∧ (dropCopies g s).fld = s.fld ∧
    (dropCopies g s).pip = s.pip ∧ (dropCopies g s).heads = s.heads ∧ (dropCopies g s).sem = s.sem ∧
    (dropCopies g s).pans = s.pans ∧ (dropCopies g s).dmc = s.dmc ∧ (dropCopies g s).trn = s.trn ∧ (dropCopies g s).thm = s.thm ∧
    (dropCopies g s).cel = s.cel ∧ (dropCopies g s).upd = s.upd ∧ (dropCopies g s).key = s.key ∧ (dropCopies g s).brl = s.brl ∧
    (dropCopies g s).svc = s.svc ∧ (dropCopies g s).pins = s.pins ∧ (dropCopies g s).lay = s.lay ∧ (dropCopies g s).jrn = s.jrn ∧
    (dropCopies g s).replies = s.replies ∧ (dropCopies g s).dram = s.dram ∧ (dropCopies g s).poison = s.poison ∧
    (dropCopies g s).serial = s.serial ∧ (dropCopies g s).boot = s.boot ∧ (dropCopies g s).free = s.free ∧
    (dropCopies g s).pending = s.pending := by
  refine ⟨?_, ?_, ?_, ?_, ?_, ?_, ?_, ?_, ?_, ?_, ?_, ?_, ?_, ?_, ?_, ?_, ?_, ?_, ?_, ?_, ?_, ?_, ?_, ?_, ?_, ?_, ?_, ?_, ?_, ?_⟩ <;> exact dropCopies_only _ (fun _ _ _ => rfl) g s

theorem applyOp_only {β : Type} (π : State → β) (hπ : ∀ s xmap xdrn, π { s with map := xmap, drn := xdrn } = π s) (op : MapOp) (s : State) :
    π (applyOp op s) = π s := by
  unfold applyOp; repeat' first | contradiction | (simp only [hπ, setBit_only π (fun s xmap => hπ s xmap s.drn), markEntry_only π (fun s xmap => hπ s xmap s.drn), claimIn_only π hπ, leaveTable_only π (fun s xmap => hπ s xmap s.drn), apply_ite π, ite_self]; done) | split | refine (foldl_same π _ (fun s x => ?_) _ _).trans ?_ | refine (elim_same π _ _ _ (fun x => ?_)).trans ?_ | dsimp only

@[simp] theorem applyOp_frame (op : MapOp) (s : State) :
    (applyOp op s).dev = s.dev ∧ (applyOp op s).gov = s.gov ∧ (applyOp op s).flt = s.flt ∧ (applyOp op s).tly = s.tly ∧
    (applyOp op s).sal = s.sal ∧ (applyOp op s).hrv = s.hrv ∧ (applyOp op s).fld = s.fld ∧ (applyOp op s).bed = s.bed ∧
    (applyOp op s).pip = s.pip ∧ (applyOp op s).heads = s.heads ∧ (applyOp op s).sem = s.sem ∧ (applyOp op s).pans = s.pans ∧
    (applyOp op s).dmc = s.dmc ∧ (applyOp op s).trn = s.trn ∧ (applyOp op s).thm = s.thm ∧ (applyOp op s).cel = s.cel ∧
    (applyOp op s).upd = s.upd ∧ (applyOp op s).key = s.key ∧ (applyOp op s).brl = s.brl ∧ (applyOp op s).svc = s.svc ∧
    (applyOp op s).pins = s.pins ∧ (applyOp op s).lay = s.lay ∧ (applyOp op s).jrn = s.jrn ∧ (applyOp op s).replies = s.replies ∧
    (applyOp op s).dram = s.dram ∧ (applyOp op s).poison = s.poison ∧ (applyOp op s).serial = s.serial ∧
    (applyOp op s).boot = s.boot ∧ (applyOp op s).free = s.free ∧ (applyOp op s).pending = s.pending := by
  refine ⟨?_, ?_, ?_, ?_, ?_, ?_, ?_, ?_, ?_, ?_, ?_, ?_, ?_, ?_, ?_, ?_, ?_, ?_, ?_, ?_, ?_, ?_, ?_, ?_, ?_, ?_, ?_, ?_, ?_, ?_⟩ <;> exact applyOp_only _ (fun _ _ _ => rfl) op s

theorem evictFor_only {β : Type} (π : State → β) (hπ : ∀ s xmap, π { s with map := xmap } = π s) (r : Nat) (s : State) :
    π (evictFor r s) = π s := by
  unfold evictFor; repeat' first | contradiction | (simp only [hπ, writeBack_only π hπ, apply_ite π, ite_self]; done) | split | refine (foldl_same π _ (fun s x => ?_) _ _).trans ?_ | refine (elim_same π _ _ _ (fun x => ?_)).trans ?_ | dsimp only

@[simp] theorem evictFor_frame (r : Nat) (s : State) :
    (evictFor r s).dev = s.dev ∧ (evictFor r s).gov = s.gov ∧ (evictFor r s).flt = s.flt ∧ (evictFor r s).tly = s.tly ∧
    (evictFor r s).sal = s.sal ∧ (evictFor r s).drn = s.drn ∧ (evictFor r s).hrv = s.hrv ∧ (evictFor r s).fld = s.fld ∧
    (evictFor r s).bed = s.bed ∧ (evictFor r s).pip = s.pip ∧ (evictFor r s).heads = s.heads ∧ (evictFor r s).sem = s.sem ∧
    (evictFor r s).pans = s.pans ∧ (evictFor r s).dmc = s.dmc ∧ (evictFor r s).trn = s.trn ∧ (evictFor r s).thm = s.thm ∧
    (evictFor r s).cel = s.cel ∧ (evictFor r s).upd = s.upd ∧ (evictFor r s).key = s.key ∧ (evictFor r s).brl = s.brl ∧
    (evictFor r s).svc = s.svc ∧ (evictFor r s).pins = s.pins ∧ (evictFor r s).lay = s.lay ∧ (evictFor r s).jrn = s.jrn ∧
    (evictFor r s).replies = s.replies ∧ (evictFor r s).dram = s.dram ∧ (evictFor r s).poison = s.poison ∧
    (evictFor r s).serial = s.serial ∧ (evictFor r s).boot = s.boot ∧ (evictFor r s).free = s.free ∧
    (evictFor r s).pending = s.pending := by
  refine ⟨?_, ?_, ?_, ?_, ?_, ?_, ?_, ?_, ?_, ?_, ?_, ?_, ?_, ?_, ?_, ?_, ?_, ?_, ?_, ?_, ?_, ?_, ?_, ?_, ?_, ?_, ?_, ?_, ?_, ?_, ?_⟩ <;> exact evictFor_only _ (fun _ _ => rfl) r s

theorem countLookup_only {β : Type} (π : State → β) (hπ : ∀ s xmap, π { s with map := xmap } = π s) (op : MapOp) (s : State) :
    π (countLookup op s) = π s := by
  unfold countLookup; repeat' first | contradiction | (simp only [hπ, apply_ite π, ite_self]; done) | split | refine (foldl_same π _ (fun s x => ?_) _ _).trans ?_ | refine (elim_same π _ _ _ (fun x => ?_)).trans ?_ | dsimp only

@[simp] theorem countLookup_frame (op : MapOp) (s : State) :
    (countLookup op s).dev = s.dev ∧ (countLookup op s).gov = s.gov ∧ (countLookup op s).flt = s.flt ∧
    (countLookup op s).tly = s.tly ∧ (countLookup op s).sal = s.sal ∧ (countLookup op s).drn = s.drn ∧
    (countLookup op s).hrv = s.hrv ∧ (countLookup op s).fld = s.fld ∧ (countLookup op s).bed = s.bed ∧
    (countLookup op s).pip = s.pip ∧ (countLookup op s).heads = s.heads ∧ (countLookup op s).sem = s.sem ∧
    (countLookup op s).pans = s.pans ∧ (countLookup op s).dmc = s.dmc ∧ (countLookup op s).trn = s.trn ∧
    (countLookup op s).thm = s.thm ∧ (countLookup op s).cel = s.cel ∧ (countLookup op s).upd = s.upd ∧
    (countLookup op s).key = s.key ∧ (countLookup op s).brl = s.brl ∧ (countLookup op s).svc = s.svc ∧
    (countLookup op s).pins = s.pins ∧ (countLookup op s).lay = s.lay ∧ (countLookup op s).jrn = s.jrn ∧
    (countLookup op s).replies = s.replies ∧ (countLookup op s).dram = s.dram ∧ (countLookup op s).poison = s.poison ∧
    (countLookup op s).serial = s.serial ∧ (countLookup op s).boot = s.boot ∧ (countLookup op s).free = s.free ∧
    (countLookup op s).pending = s.pending := by
  refine ⟨?_, ?_, ?_, ?_, ?_, ?_, ?_, ?_, ?_, ?_, ?_, ?_, ?_, ?_, ?_, ?_, ?_, ?_, ?_, ?_, ?_, ?_, ?_, ?_, ?_, ?_, ?_, ?_, ?_, ?_, ?_⟩ <;> exact countLookup_only _ (fun _ _ => rfl) op s

theorem claimWaits_only {β : Type} (π : State → β) (hπ : ∀ s xmap, π { s with map := xmap } = π s) (op : MapOp) (s : State) :
    π (claimWaits op s) = π s := by
  unfold claimWaits; repeat' first | contradiction | (simp only [hπ, apply_ite π, ite_self]; done) | split | refine (foldl_same π _ (fun s x => ?_) _ _).trans ?_ | refine (elim_same π _ _ _ (fun x => ?_)).trans ?_ | dsimp only

@[simp] theorem claimWaits_frame (op : MapOp) (s : State) :
    (claimWaits op s).dev = s.dev ∧ (claimWaits op s).gov = s.gov ∧ (claimWaits op s).flt = s.flt ∧ (claimWaits op s).tly = s.tly ∧
    (claimWaits op s).sal = s.sal ∧ (claimWaits op s).drn = s.drn ∧ (claimWaits op s).hrv = s.hrv ∧ (claimWaits op s).fld = s.fld ∧
    (claimWaits op s).bed = s.bed ∧ (claimWaits op s).pip = s.pip ∧ (claimWaits op s).heads = s.heads ∧
    (claimWaits op s).sem = s.sem ∧ (claimWaits op s).pans = s.pans ∧ (claimWaits op s).dmc = s.dmc ∧
    (claimWaits op s).trn = s.trn ∧ (claimWaits op s).thm = s.thm ∧ (claimWaits op s).cel = s.cel ∧ (claimWaits op s).upd = s.upd ∧
    (claimWaits op s).key = s.key ∧ (claimWaits op s).brl = s.brl ∧ (claimWaits op s).svc = s.svc ∧
    (claimWaits op s).pins = s.pins ∧ (claimWaits op s).lay = s.lay ∧ (claimWaits op s).jrn = s.jrn ∧
    (claimWaits op s).replies = s.replies ∧ (claimWaits op s).dram = s.dram ∧ (claimWaits op s).poison = s.poison ∧
    (claimWaits op s).serial = s.serial ∧ (claimWaits op s).boot = s.boot ∧ (claimWaits op s).free = s.free ∧
    (claimWaits op s).pending = s.pending := by
  refine ⟨?_, ?_, ?_, ?_, ?_, ?_, ?_, ?_, ?_, ?_, ?_, ?_, ?_, ?_, ?_, ?_, ?_, ?_, ?_, ?_, ?_, ?_, ?_, ?_, ?_, ?_, ?_, ?_, ?_, ?_, ?_⟩ <;> exact claimWaits_only _ (fun _ _ => rfl) op s

theorem admitOp_only {β : Type} (π : State → β) (hπ : ∀ s xmap xdrn, π { s with map := xmap, drn := xdrn } = π s) (op : MapOp) (s : State) :
    π (admitOp op s) = π s := by
  unfold admitOp; repeat' first | contradiction | (simp only [hπ, useLine_only π (fun s xmap => hπ s xmap s.drn), markEntry_only π (fun s xmap => hπ s xmap s.drn), applyOp_only π hπ, evictFor_only π (fun s xmap => hπ s xmap s.drn), claimWaits_only π (fun s xmap => hπ s xmap s.drn), apply_ite π, ite_self]; done) | split | refine (foldl_same π _ (fun s x => ?_) _ _).trans ?_ | refine (elim_same π _ _ _ (fun x => ?_)).trans ?_ | dsimp only

@[simp] theorem admitOp_frame (op : MapOp) (s : State) :
    (admitOp op s).dev = s.dev ∧ (admitOp op s).gov = s.gov ∧ (admitOp op s).flt = s.flt ∧ (admitOp op s).tly = s.tly ∧
    (admitOp op s).sal = s.sal ∧ (admitOp op s).hrv = s.hrv ∧ (admitOp op s).fld = s.fld ∧ (admitOp op s).bed = s.bed ∧
    (admitOp op s).pip = s.pip ∧ (admitOp op s).heads = s.heads ∧ (admitOp op s).sem = s.sem ∧ (admitOp op s).pans = s.pans ∧
    (admitOp op s).dmc = s.dmc ∧ (admitOp op s).trn = s.trn ∧ (admitOp op s).thm = s.thm ∧ (admitOp op s).cel = s.cel ∧
    (admitOp op s).upd = s.upd ∧ (admitOp op s).key = s.key ∧ (admitOp op s).brl = s.brl ∧ (admitOp op s).svc = s.svc ∧
    (admitOp op s).pins = s.pins ∧ (admitOp op s).lay = s.lay ∧ (admitOp op s).jrn = s.jrn ∧ (admitOp op s).replies = s.replies ∧
    (admitOp op s).dram = s.dram ∧ (admitOp op s).poison = s.poison ∧ (admitOp op s).serial = s.serial ∧
    (admitOp op s).boot = s.boot ∧ (admitOp op s).free = s.free ∧ (admitOp op s).pending = s.pending := by
  refine ⟨?_, ?_, ?_, ?_, ?_, ?_, ?_, ?_, ?_, ?_, ?_, ?_, ?_, ?_, ?_, ?_, ?_, ?_, ?_, ?_, ?_, ?_, ?_, ?_, ?_, ?_, ?_, ?_, ?_, ?_⟩ <;> exact admitOp_only _ (fun _ _ _ => rfl) op s

theorem mapOp_only {β : Type} (π : State → β) (hπ : ∀ s xmap xdrn, π { s with map := xmap, drn := xdrn } = π s) (op : MapOp) (s : State) :
    π (mapOp op s) = π s := by
  unfold mapOp; repeat' first | contradiction | (simp only [hπ, countLookup_only π (fun s xmap => hπ s xmap s.drn), admitOp_only π hπ, apply_ite π, ite_self]; done) | split | refine (foldl_same π _ (fun s x => ?_) _ _).trans ?_ | refine (elim_same π _ _ _ (fun x => ?_)).trans ?_ | dsimp only

@[simp] theorem mapOp_frame (op : MapOp) (s : State) :
    (mapOp op s).dev = s.dev ∧ (mapOp op s).gov = s.gov ∧ (mapOp op s).flt = s.flt ∧ (mapOp op s).tly = s.tly ∧
    (mapOp op s).sal = s.sal ∧ (mapOp op s).hrv = s.hrv ∧ (mapOp op s).fld = s.fld ∧ (mapOp op s).bed = s.bed ∧
    (mapOp op s).pip = s.pip ∧ (mapOp op s).heads = s.heads ∧ (mapOp op s).sem = s.sem ∧ (mapOp op s).pans = s.pans ∧
    (mapOp op s).dmc = s.dmc ∧ (mapOp op s).trn = s.trn ∧ (mapOp op s).thm = s.thm ∧ (mapOp op s).cel = s.cel ∧
    (mapOp op s).upd = s.upd ∧ (mapOp op s).key = s.key ∧ (mapOp op s).brl = s.brl ∧ (mapOp op s).svc = s.svc ∧
    (mapOp op s).pins = s.pins ∧ (mapOp op s).lay = s.lay ∧ (mapOp op s).jrn = s.jrn ∧ (mapOp op s).replies = s.replies ∧
    (mapOp op s).dram = s.dram ∧ (mapOp op s).poison = s.poison ∧ (mapOp op s).serial = s.serial ∧ (mapOp op s).boot = s.boot ∧
    (mapOp op s).free = s.free ∧ (mapOp op s).pending = s.pending := by
  refine ⟨?_, ?_, ?_, ?_, ?_, ?_, ?_, ?_, ?_, ?_, ?_, ?_, ?_, ?_, ?_, ?_, ?_, ?_, ?_, ?_, ?_, ?_, ?_, ?_, ?_, ?_, ?_, ?_, ?_, ?_⟩ <;> exact mapOp_only _ (fun _ _ _ => rfl) op s

theorem retryClaims_only {β : Type} (π : State → β) (hπ : ∀ s xmap xdrn, π { s with map := xmap, drn := xdrn } = π s) (s : State) :
    π (retryClaims s) = π s := by
  unfold retryClaims; repeat' first | contradiction | (simp only [hπ, admitOp_only π hπ, foldl_same π, apply_ite π, ite_self]; done) | split | refine (foldl_same π _ (fun s x => ?_) _ _).trans ?_ | refine (elim_same π _ _ _ (fun x => ?_)).trans ?_ | dsimp only

@[simp] theorem retryClaims_frame (s : State) :
    (retryClaims s).dev = s.dev ∧ (retryClaims s).gov = s.gov ∧ (retryClaims s).flt = s.flt ∧ (retryClaims s).tly = s.tly ∧
    (retryClaims s).sal = s.sal ∧ (retryClaims s).hrv = s.hrv ∧ (retryClaims s).fld = s.fld ∧ (retryClaims s).bed = s.bed ∧
    (retryClaims s).pip = s.pip ∧ (retryClaims s).heads = s.heads ∧ (retryClaims s).sem = s.sem ∧ (retryClaims s).pans = s.pans ∧
    (retryClaims s).dmc = s.dmc ∧ (retryClaims s).trn = s.trn ∧ (retryClaims s).thm = s.thm ∧ (retryClaims s).cel = s.cel ∧
    (retryClaims s).upd = s.upd ∧ (retryClaims s).key = s.key ∧ (retryClaims s).brl = s.brl ∧ (retryClaims s).svc = s.svc ∧
    (retryClaims s).pins = s.pins ∧ (retryClaims s).lay = s.lay ∧ (retryClaims s).jrn = s.jrn ∧
    (retryClaims s).replies = s.replies ∧ (retryClaims s).dram = s.dram ∧ (retryClaims s).poison = s.poison ∧
    (retryClaims s).serial = s.serial ∧ (retryClaims s).boot = s.boot ∧ (retryClaims s).free = s.free ∧
    (retryClaims s).pending = s.pending := by
  refine ⟨?_, ?_, ?_, ?_, ?_, ?_, ?_, ?_, ?_, ?_, ?_, ?_, ?_, ?_, ?_, ?_, ?_, ?_, ?_, ?_, ?_, ?_, ?_, ?_, ?_, ?_, ?_, ?_, ?_, ?_⟩ <;> exact retryClaims_only _ (fun _ _ _ => rfl) s

theorem fillDone_only {β : Type} (π : State → β) (hπ : ∀ s xmap xdrn, π { s with map := xmap, drn := xdrn } = π s) (r : Nat) (s : State) :
    π (fillDone r s) = π s := by
  unfold fillDone; repeat' first | contradiction | (simp only [hπ, admitOp_only π hπ, retryClaims_only π hπ, foldl_same π, apply_ite π, ite_self]; done) | split | refine (foldl_same π _ (fun s x => ?_) _ _).trans ?_ | refine (elim_same π _ _ _ (fun x => ?_)).trans ?_ | with_reducible refine (admitOp_only π (fun s xmap xdrn => hπ s xmap xdrn) _ _).trans ?_ | with_reducible refine (retryClaims_only π (fun s xmap xdrn => hπ s xmap xdrn) _).trans ?_ | with_reducible refine (hπ _ _ _).trans ?_ | dsimp only

@[simp] theorem fillDone_frame (r : Nat) (s : State) :
    (fillDone r s).dev = s.dev ∧ (fillDone r s).gov = s.gov ∧ (fillDone r s).flt = s.flt ∧ (fillDone r s).tly = s.tly ∧
    (fillDone r s).sal = s.sal ∧ (fillDone r s).hrv = s.hrv ∧ (fillDone r s).fld = s.fld ∧ (fillDone r s).bed = s.bed ∧
    (fillDone r s).pip = s.pip ∧ (fillDone r s).heads = s.heads ∧ (fillDone r s).sem = s.sem ∧ (fillDone r s).pans = s.pans ∧
    (fillDone r s).dmc = s.dmc ∧ (fillDone r s).trn = s.trn ∧ (fillDone r s).thm = s.thm ∧ (fillDone r s).cel = s.cel ∧
    (fillDone r s).upd = s.upd ∧ (fillDone r s).key = s.key ∧ (fillDone r s).brl = s.brl ∧ (fillDone r s).svc = s.svc ∧
    (fillDone r s).pins = s.pins ∧ (fillDone r s).lay = s.lay ∧ (fillDone r s).jrn = s.jrn ∧ (fillDone r s).replies = s.replies ∧
    (fillDone r s).dram = s.dram ∧ (fillDone r s).poison = s.poison ∧ (fillDone r s).serial = s.serial ∧
    (fillDone r s).boot = s.boot ∧ (fillDone r s).free = s.free ∧ (fillDone r s).pending = s.pending := by
  refine ⟨?_, ?_, ?_, ?_, ?_, ?_, ?_, ?_, ?_, ?_, ?_, ?_, ?_, ?_, ?_, ?_, ?_, ?_, ?_, ?_, ?_, ?_, ?_, ?_, ?_, ?_, ?_, ?_, ?_, ?_⟩ <;> exact fillDone_only _ (fun _ _ _ => rfl) r s

theorem fillRounds_only {β : Type} (π : State → β) (hπ : ∀ s xmap xdrn, π { s with map := xmap, drn := xdrn } = π s) (x0 : Nat) (s : State) :
    π (fillRounds x0 s) = π s := by
  induction x0 generalizing s with
  | zero => first | rfl | (unfold fillRounds; repeat' first | rfl | (simp only [hπ, fillDone_only π hπ, foldl_same π, apply_ite π, ite_self]; done) | split | dsimp only)
  | succ n ih => unfold fillRounds; repeat' first | contradiction | (simp only [hπ, fillDone_only π hπ, foldl_same π, apply_ite π, ite_self, ih]; done) | (rw [ih]; simp only [hπ, fillDone_only π hπ, foldl_same π, apply_ite π, ite_self]; done) | (rw [ih]; done) | refine (ih _).trans ?_ | refine (ih _ _).trans ?_ | split | refine (foldl_same π _ (fun s x => ?_) _ _).trans ?_ | dsimp only

@[simp] theorem fillRounds_frame (x0 : Nat) (s : State) :
    (fillRounds x0 s).dev = s.dev ∧ (fillRounds x0 s).gov = s.gov ∧ (fillRounds x0 s).flt = s.flt ∧ (fillRounds x0 s).tly = s.tly ∧
    (fillRounds x0 s).sal = s.sal ∧ (fillRounds x0 s).hrv = s.hrv ∧ (fillRounds x0 s).fld = s.fld ∧ (fillRounds x0 s).bed = s.bed ∧
    (fillRounds x0 s).pip = s.pip ∧ (fillRounds x0 s).heads = s.heads ∧ (fillRounds x0 s).sem = s.sem ∧
    (fillRounds x0 s).pans = s.pans ∧ (fillRounds x0 s).dmc = s.dmc ∧ (fillRounds x0 s).trn = s.trn ∧
    (fillRounds x0 s).thm = s.thm ∧ (fillRounds x0 s).cel = s.cel ∧ (fillRounds x0 s).upd = s.upd ∧ (fillRounds x0 s).key = s.key ∧
    (fillRounds x0 s).brl = s.brl ∧ (fillRounds x0 s).svc = s.svc ∧ (fillRounds x0 s).pins = s.pins ∧
    (fillRounds x0 s).lay = s.lay ∧ (fillRounds x0 s).jrn = s.jrn ∧ (fillRounds x0 s).replies = s.replies ∧
    (fillRounds x0 s).dram = s.dram ∧ (fillRounds x0 s).poison = s.poison ∧ (fillRounds x0 s).serial = s.serial ∧
    (fillRounds x0 s).boot = s.boot ∧ (fillRounds x0 s).free = s.free ∧ (fillRounds x0 s).pending = s.pending := by
  refine ⟨?_, ?_, ?_, ?_, ?_, ?_, ?_, ?_, ?_, ?_, ?_, ?_, ?_, ?_, ?_, ?_, ?_, ?_, ?_, ?_, ?_, ?_, ?_, ?_, ?_, ?_, ?_, ?_, ?_, ?_⟩ <;> exact fillRounds_only _ (fun _ _ _ => rfl) x0 s

theorem fillAll_only {β : Type} (π : State → β) (hπ : ∀ s xmap xdrn, π { s with map := xmap, drn := xdrn } = π s) (s : State) :
    π (fillAll s) = π s := by
  simp only [fillAll, hπ, fillRounds_only π hπ, apply_ite π, ite_self]

@[simp] theorem fillAll_frame (s : State) :
    (fillAll s).dev = s.dev ∧ (fillAll s).gov = s.gov ∧ (fillAll s).flt = s.flt ∧ (fillAll s).tly = s.tly ∧
    (fillAll s).sal = s.sal ∧ (fillAll s).hrv = s.hrv ∧ (fillAll s).fld = s.fld ∧ (fillAll s).bed = s.bed ∧
    (fillAll s).pip = s.pip ∧ (fillAll s).heads = s.heads ∧ (fillAll s).sem = s.sem ∧ (fillAll s).pans = s.pans ∧
    (fillAll s).dmc = s.dmc ∧ (fillAll s).trn = s.trn ∧ (fillAll s).thm = s.thm ∧ (fillAll s).cel = s.cel ∧
    (fillAll s).upd = s.upd ∧ (fillAll s).key = s.key ∧ (fillAll s).brl = s.brl ∧ (fillAll s).svc = s.svc ∧
    (fillAll s).pins = s.pins ∧ (fillAll s).lay = s.lay ∧ (fillAll s).jrn = s.jrn ∧ (fillAll s).replies = s.replies ∧
    (fillAll s).dram = s.dram ∧ (fillAll s).poison = s.poison ∧ (fillAll s).serial = s.serial ∧ (fillAll s).boot = s.boot ∧
    (fillAll s).free = s.free ∧ (fillAll s).pending = s.pending := by
  refine ⟨?_, ?_, ?_, ?_, ?_, ?_, ?_, ?_, ?_, ?_, ?_, ?_, ?_, ?_, ?_, ?_, ?_, ?_, ?_, ?_, ?_, ?_, ?_, ?_, ?_, ?_, ?_, ?_, ?_, ?_⟩ <;> exact fillAll_only _ (fun _ _ _ => rfl) s

theorem flushCache_only {β : Type} (π : State → β) (hπ : ∀ s xmap, π { s with map := xmap } = π s) (s : State) :
    π (flushCache s) = π s := by
  unfold flushCache; repeat' first | contradiction | (simp only [hπ, writeBack_only π hπ, foldl_same π, apply_ite π, ite_self]; done) | split | refine (foldl_same π _ (fun s x => ?_) _ _).trans ?_ | refine (elim_same π _ _ _ (fun x => ?_)).trans ?_ | dsimp only

@[simp] theorem flushCache_frame (s : State) :
    (flushCache s).dev = s.dev ∧ (flushCache s).gov = s.gov ∧ (flushCache s).flt = s.flt ∧ (flushCache s).tly = s.tly ∧
    (flushCache s).sal = s.sal ∧ (flushCache s).drn = s.drn ∧ (flushCache s).hrv = s.hrv ∧ (flushCache s).fld = s.fld ∧
    (flushCache s).bed = s.bed ∧ (flushCache s).pip = s.pip ∧ (flushCache s).heads = s.heads ∧ (flushCache s).sem = s.sem ∧
    (flushCache s).pans = s.pans ∧ (flushCache s).dmc = s.dmc ∧ (flushCache s).trn = s.trn ∧ (flushCache s).thm = s.thm ∧
    (flushCache s).cel = s.cel ∧ (flushCache s).upd = s.upd ∧ (flushCache s).key = s.key ∧ (flushCache s).brl = s.brl ∧
    (flushCache s).svc = s.svc ∧ (flushCache s).pins = s.pins ∧ (flushCache s).lay = s.lay ∧ (flushCache s).jrn = s.jrn ∧
    (flushCache s).replies = s.replies ∧ (flushCache s).dram = s.dram ∧ (flushCache s).poison = s.poison ∧
    (flushCache s).serial = s.serial ∧ (flushCache s).boot = s.boot ∧ (flushCache s).free = s.free ∧
    (flushCache s).pending = s.pending := by
  refine ⟨?_, ?_, ?_, ?_, ?_, ?_, ?_, ?_, ?_, ?_, ?_, ?_, ?_, ?_, ?_, ?_, ?_, ?_, ?_, ?_, ?_, ?_, ?_, ?_, ?_, ?_, ?_, ?_, ?_, ?_, ?_⟩ <;> exact flushCache_only _ (fun _ _ => rfl) s

theorem abandonOp_only {β : Type} (π : State → β) (hπ : ∀ s xmap xdrn xbed, π { s with map := xmap, drn := xdrn, bed := xbed } = π s) (g : Nat) (s : State) :
    π (abandonOp g s) = π s := by
  simp only [abandonOp, hπ, dropCopies_only π (fun s xdrn xbed => hπ s s.map xdrn xbed), mapOp_only π (fun s xmap xdrn => hπ s xmap xdrn s.bed), retryClaims_only π (fun s xmap xdrn => hπ s xmap xdrn s.bed), apply_ite π, ite_self]

@[simp] theorem abandonOp_frame (g : Nat) (s : State) :
    (abandonOp g s).dev = s.dev ∧ (abandonOp g s).gov = s.gov ∧ (abandonOp g s).flt = s.flt ∧ (abandonOp g s).tly = s.tly ∧
    (abandonOp g s).sal = s.sal ∧ (abandonOp g s).hrv = s.hrv ∧ (abandonOp g s).fld = s.fld ∧ (abandonOp g s).pip = s.pip ∧
    (abandonOp g s).heads = s.heads ∧ (abandonOp g s).sem = s.sem ∧ (abandonOp g s).pans = s.pans ∧ (abandonOp g s).dmc = s.dmc ∧
    (abandonOp g s).trn = s.trn ∧ (abandonOp g s).thm = s.thm ∧ (abandonOp g s).cel = s.cel ∧ (abandonOp g s).upd = s.upd ∧
    (abandonOp g s).key = s.key ∧ (abandonOp g s).brl = s.brl ∧ (abandonOp g s).svc = s.svc ∧ (abandonOp g s).pins = s.pins ∧
    (abandonOp g s).lay = s.lay ∧ (abandonOp g s).jrn = s.jrn ∧ (abandonOp g s).replies = s.replies ∧
    (abandonOp g s).dram = s.dram ∧ (abandonOp g s).poison = s.poison ∧ (abandonOp g s).serial = s.serial ∧
    (abandonOp g s).boot = s.boot ∧ (abandonOp g s).free = s.free ∧ (abandonOp g s).pending = s.pending := by
  refine ⟨?_, ?_, ?_, ?_, ?_, ?_, ?_, ?_, ?_, ?_, ?_, ?_, ?_, ?_, ?_, ?_, ?_, ?_, ?_, ?_, ?_, ?_, ?_, ?_, ?_, ?_, ?_, ?_, ?_⟩ <;> exact abandonOp_only _ (fun _ _ _ _ => rfl) g s

theorem abandonAll_only {β : Type} (π : State → β) (hπ : ∀ s xmap xdrn xbed, π { s with map := xmap, drn := xdrn, bed := xbed } = π s) (s : State) :
    π (abandonAll s) = π s := by
  unfold abandonAll; repeat' first | contradiction | (simp only [hπ, fillAll_only π (fun s xmap xdrn => hπ s xmap xdrn s.bed), abandonOp_only π hπ, foldl_same π, apply_ite π, ite_self]; done) | split | refine (foldl_same π _ (fun s x => ?_) _ _).trans ?_ | refine (elim_same π _ _ _ (fun x => ?_)).trans ?_ | dsimp only

@[simp] theorem abandonAll_frame (s : State) :
    (abandonAll s).dev = s.dev ∧ (abandonAll s).gov = s.gov ∧ (abandonAll s).flt = s.flt ∧ (abandonAll s).tly = s.tly ∧
    (abandonAll s).sal = s.sal ∧ (abandonAll s).hrv = s.hrv ∧ (abandonAll s).fld = s.fld ∧ (abandonAll s).pip = s.pip ∧
    (abandonAll s).heads = s.heads ∧ (abandonAll s).sem = s.sem ∧ (abandonAll s).pans = s.pans ∧ (abandonAll s).dmc = s.dmc ∧
    (abandonAll s).trn = s.trn ∧ (abandonAll s).thm = s.thm ∧ (abandonAll s).cel = s.cel ∧ (abandonAll s).upd = s.upd ∧
    (abandonAll s).key = s.key ∧ (abandonAll s).brl = s.brl ∧ (abandonAll s).svc = s.svc ∧ (abandonAll s).pins = s.pins ∧
    (abandonAll s).lay = s.lay ∧ (abandonAll s).jrn = s.jrn ∧ (abandonAll s).replies = s.replies ∧ (abandonAll s).dram = s.dram ∧
    (abandonAll s).poison = s.poison ∧ (abandonAll s).serial = s.serial ∧ (abandonAll s).boot = s.boot ∧
    (abandonAll s).free = s.free ∧ (abandonAll s).pending = s.pending := by
  refine ⟨?_, ?_, ?_, ?_, ?_, ?_, ?_, ?_, ?_, ?_, ?_, ?_, ?_, ?_, ?_, ?_, ?_, ?_, ?_, ?_, ?_, ?_, ?_, ?_, ?_, ?_, ?_, ?_, ?_⟩ <;> exact abandonAll_only _ (fun _ _ _ _ => rfl) s

theorem commitOp_only {β : Type} (π : State → β) (hπ : ∀ s xmap xdrn, π { s with map := xmap, drn := xdrn } = π s) (g : Nat) (s : State) :
    π (commitOp g s) = π s := by
  simp only [commitOp, hπ, leaveTable_only π (fun s xmap => hπ s xmap s.drn), retryClaims_only π hπ, apply_ite π, ite_self]

@[simp] theorem commitOp_frame (g : Nat) (s : State) :
    (commitOp g s).dev = s.dev ∧ (commitOp g s).gov = s.gov ∧ (commitOp g s).flt = s.flt ∧ (commitOp g s).tly = s.tly ∧
    (commitOp g s).sal = s.sal ∧ (commitOp g s).hrv = s.hrv ∧ (commitOp g s).fld = s.fld ∧ (commitOp g s).bed = s.bed ∧
    (commitOp g s).pip = s.pip ∧ (commitOp g s).heads = s.heads ∧ (commitOp g s).sem = s.sem ∧ (commitOp g s).pans = s.pans ∧
    (commitOp g s).dmc = s.dmc ∧ (commitOp g s).trn = s.trn ∧ (commitOp g s).thm = s.thm ∧ (commitOp g s).cel = s.cel ∧
    (commitOp g s).upd = s.upd ∧ (commitOp g s).key = s.key ∧ (commitOp g s).brl = s.brl ∧ (commitOp g s).svc = s.svc ∧
    (commitOp g s).pins = s.pins ∧ (commitOp g s).lay = s.lay ∧ (commitOp g s).jrn = s.jrn ∧ (commitOp g s).replies = s.replies ∧
    (commitOp g s).dram = s.dram ∧ (commitOp g s).poison = s.poison ∧ (commitOp g s).serial = s.serial ∧
    (commitOp g s).boot = s.boot ∧ (commitOp g s).free = s.free ∧ (commitOp g s).pending = s.pending := by
  refine ⟨?_, ?_, ?_, ?_, ?_, ?_, ?_, ?_, ?_, ?_, ?_, ?_, ?_, ?_, ?_, ?_, ?_, ?_, ?_, ?_, ?_, ?_, ?_, ?_, ?_, ?_, ?_, ?_, ?_, ?_⟩ <;> exact commitOp_only _ (fun _ _ _ => rfl) g s

theorem dropClaims_only {β : Type} (π : State → β) (hπ : ∀ s xmap, π { s with map := xmap } = π s) (s : State) :
    π (dropClaims s) = π s := by
  simp only [dropClaims, hπ, apply_ite π, ite_self]

@[simp] theorem dropClaims_frame (s : State) :
    (dropClaims s).dev = s.dev ∧ (dropClaims s).gov = s.gov ∧ (dropClaims s).flt = s.flt ∧ (dropClaims s).tly = s.tly ∧
    (dropClaims s).sal = s.sal ∧ (dropClaims s).drn = s.drn ∧ (dropClaims s).hrv = s.hrv ∧ (dropClaims s).fld = s.fld ∧
    (dropClaims s).bed = s.bed ∧ (dropClaims s).pip = s.pip ∧ (dropClaims s).heads = s.heads ∧ (dropClaims s).sem = s.sem ∧
    (dropClaims s).pans = s.pans ∧ (dropClaims s).dmc = s.dmc ∧ (dropClaims s).trn = s.trn ∧ (dropClaims s).thm = s.thm ∧
    (dropClaims s).cel = s.cel ∧ (dropClaims s).upd = s.upd ∧ (dropClaims s).key = s.key ∧ (dropClaims s).brl = s.brl ∧
    (dropClaims s).svc = s.svc ∧ (dropClaims s).pins = s.pins ∧ (dropClaims s).lay = s.lay ∧ (dropClaims s).jrn = s.jrn ∧
    (dropClaims s).replies = s.replies ∧ (dropClaims s).dram = s.dram ∧ (dropClaims s).poison = s.poison ∧
    (dropClaims s).serial = s.serial ∧ (dropClaims s).boot = s.boot ∧ (dropClaims s).free = s.free ∧
    (dropClaims s).pending = s.pending := by
  refine ⟨?_, ?_, ?_, ?_, ?_, ?_, ?_, ?_, ?_, ?_, ?_, ?_, ?_, ?_, ?_, ?_, ?_, ?_, ?_, ?_, ?_, ?_, ?_, ?_, ?_, ?_, ?_, ?_, ?_, ?_, ?_⟩ <;> exact dropClaims_only _ (fun _ _ => rfl) s

theorem hmPut_only {β : Type} (π : State → β) (hπ : ∀ s xmap xdrn, π { s with map := xmap, drn := xdrn } = π s) (g : Nat) (e : HmEntry) (s : State) :
    π (hmPut g e s) = π s := by
  unfold hmPut; repeat' first | contradiction | (simp only [hπ, apply_ite π, ite_self]; done) | split | refine (foldl_same π _ (fun s x => ?_) _ _).trans ?_ | refine (elim_same π _ _ _ (fun x => ?_)).trans ?_ | dsimp only

@[simp] theorem hmPut_frame (g : Nat) (e : HmEntry) (s : State) :
    (hmPut g e s).dev = s.dev ∧ (hmPut g e s).gov = s.gov ∧ (hmPut g e s).flt = s.flt ∧ (hmPut g e s).tly = s.tly ∧
    (hmPut g e s).sal = s.sal ∧ (hmPut g e s).hrv = s.hrv ∧ (hmPut g e s).fld = s.fld ∧ (hmPut g e s).bed = s.bed ∧
    (hmPut g e s).pip = s.pip ∧ (hmPut g e s).heads = s.heads ∧ (hmPut g e s).sem = s.sem ∧ (hmPut g e s).pans = s.pans ∧
    (hmPut g e s).dmc = s.dmc ∧ (hmPut g e s).trn = s.trn ∧ (hmPut g e s).thm = s.thm ∧ (hmPut g e s).cel = s.cel ∧
    (hmPut g e s).upd = s.upd ∧ (hmPut g e s).key = s.key ∧ (hmPut g e s).brl = s.brl ∧ (hmPut g e s).svc = s.svc ∧
    (hmPut g e s).pins = s.pins ∧ (hmPut g e s).lay = s.lay ∧ (hmPut g e s).jrn = s.jrn ∧ (hmPut g e s).replies = s.replies ∧
    (hmPut g e s).dram = s.dram ∧ (hmPut g e s).poison = s.poison ∧ (hmPut g e s).serial = s.serial ∧ (hmPut g e s).boot = s.boot ∧
    (hmPut g e s).free = s.free ∧ (hmPut g e s).pending = s.pending := by
  refine ⟨?_, ?_, ?_, ?_, ?_, ?_, ?_, ?_, ?_, ?_, ?_, ?_, ?_, ?_, ?_, ?_, ?_, ?_, ?_, ?_, ?_, ?_, ?_, ?_, ?_, ?_, ?_, ?_, ?_, ?_⟩ <;> exact hmPut_only _ (fun _ _ _ => rfl) g e s

theorem wearSector_only {β : Type} (π : State → β) (hπ : ∀ s xcel, π { s with cel := xcel } = π s) (n : Nat) (s : State) :
    π (wearSector n s) = π s := by
  simp only [wearSector, hπ, apply_ite π, ite_self]

@[simp] theorem wearSector_frame (n : Nat) (s : State) :
    (wearSector n s).dev = s.dev ∧ (wearSector n s).gov = s.gov ∧ (wearSector n s).flt = s.flt ∧ (wearSector n s).tly = s.tly ∧
    (wearSector n s).sal = s.sal ∧ (wearSector n s).map = s.map ∧ (wearSector n s).drn = s.drn ∧ (wearSector n s).hrv = s.hrv ∧
    (wearSector n s).fld = s.fld ∧ (wearSector n s).bed = s.bed ∧ (wearSector n s).pip = s.pip ∧ (wearSector n s).heads = s.heads ∧
    (wearSector n s).sem = s.sem ∧ (wearSector n s).pans = s.pans ∧ (wearSector n s).dmc = s.dmc ∧ (wearSector n s).trn = s.trn ∧
    (wearSector n s).thm = s.thm ∧ (wearSector n s).upd = s.upd ∧ (wearSector n s).key = s.key ∧ (wearSector n s).brl = s.brl ∧
    (wearSector n s).svc = s.svc ∧ (wearSector n s).pins = s.pins ∧ (wearSector n s).lay = s.lay ∧ (wearSector n s).jrn = s.jrn ∧
    (wearSector n s).replies = s.replies ∧ (wearSector n s).dram = s.dram ∧ (wearSector n s).poison = s.poison ∧
    (wearSector n s).serial = s.serial ∧ (wearSector n s).boot = s.boot ∧ (wearSector n s).free = s.free ∧
    (wearSector n s).pending = s.pending := by
  refine ⟨?_, ?_, ?_, ?_, ?_, ?_, ?_, ?_, ?_, ?_, ?_, ?_, ?_, ?_, ?_, ?_, ?_, ?_, ?_, ?_, ?_, ?_, ?_, ?_, ?_, ?_, ?_, ?_, ?_, ?_, ?_⟩ <;> exact wearSector_only _ (fun _ _ => rfl) n s

theorem appendCopy_only {β : Type} (π : State → β) (hπ : ∀ s xcel xupd, π { s with cel := xcel, upd := xupd } = π s) (area : Nat) (n : Nat) (c : SettingsCopy) (s : State) :
    π (appendCopy area n c s) = π s := by
  unfold appendCopy; repeat' first | contradiction | (simp only [hπ, wearSector_only π (fun s xcel => hπ s xcel s.upd), foldl_same π, apply_ite π, ite_self]; done) | split | refine (foldl_same π _ (fun s x => ?_) _ _).trans ?_ | refine (elim_same π _ _ _ (fun x => ?_)).trans ?_ | with_reducible refine (wearSector_only π (fun s xcel => hπ s xcel s.upd) _ _).trans ?_ | with_reducible refine (hπ _ _ _).trans ?_ | dsimp only

@[simp] theorem appendCopy_frame (area : Nat) (n : Nat) (c : SettingsCopy) (s : State) :
    (appendCopy area n c s).dev = s.dev ∧ (appendCopy area n c s).gov = s.gov ∧ (appendCopy area n c s).flt = s.flt ∧
    (appendCopy area n c s).tly = s.tly ∧ (appendCopy area n c s).sal = s.sal ∧ (appendCopy area n c s).map = s.map ∧
    (appendCopy area n c s).drn = s.drn ∧ (appendCopy area n c s).hrv = s.hrv ∧ (appendCopy area n c s).fld = s.fld ∧
    (appendCopy area n c s).bed = s.bed ∧ (appendCopy area n c s).pip = s.pip ∧ (appendCopy area n c s).heads = s.heads ∧
    (appendCopy area n c s).sem = s.sem ∧ (appendCopy area n c s).pans = s.pans ∧ (appendCopy area n c s).dmc = s.dmc ∧
    (appendCopy area n c s).trn = s.trn ∧ (appendCopy area n c s).thm = s.thm ∧ (appendCopy area n c s).key = s.key ∧
    (appendCopy area n c s).brl = s.brl ∧ (appendCopy area n c s).svc = s.svc ∧ (appendCopy area n c s).pins = s.pins ∧
    (appendCopy area n c s).lay = s.lay ∧ (appendCopy area n c s).jrn = s.jrn ∧ (appendCopy area n c s).replies = s.replies ∧
    (appendCopy area n c s).dram = s.dram ∧ (appendCopy area n c s).poison = s.poison ∧ (appendCopy area n c s).serial = s.serial ∧
    (appendCopy area n c s).boot = s.boot ∧ (appendCopy area n c s).free = s.free ∧ (appendCopy area n c s).pending = s.pending := by
  refine ⟨?_, ?_, ?_, ?_, ?_, ?_, ?_, ?_, ?_, ?_, ?_, ?_, ?_, ?_, ?_, ?_, ?_, ?_, ?_, ?_, ?_, ?_, ?_, ?_, ?_, ?_, ?_, ?_, ?_, ?_⟩ <;> exact appendCopy_only _ (fun _ _ _ => rfl) area n c s

theorem eraseArea_only {β : Type} (π : State → β) (hπ : ∀ s xcel xupd, π { s with cel := xcel, upd := xupd } = π s) (area : Nat) (s : State) :
    π (eraseArea area s) = π s := by
  unfold eraseArea; repeat' first | contradiction | (simp only [hπ, wearSector_only π (fun s xcel => hπ s xcel s.upd), foldl_same π, apply_ite π, ite_self]; done) | split | refine (foldl_same π _ (fun s x => ?_) _ _).trans ?_ | refine (elim_same π _ _ _ (fun x => ?_)).trans ?_ | with_reducible refine (wearSector_only π (fun s xcel => hπ s xcel s.upd) _ _).trans ?_ | with_reducible refine (hπ _ _ _).trans ?_ | dsimp only

@[simp] theorem eraseArea_frame (area : Nat) (s : State) :
    (eraseArea area s).dev = s.dev ∧ (eraseArea area s).gov = s.gov ∧ (eraseArea area s).flt = s.flt ∧
    (eraseArea area s).tly = s.tly ∧ (eraseArea area s).sal = s.sal ∧ (eraseArea area s).map = s.map ∧
    (eraseArea area s).drn = s.drn ∧ (eraseArea area s).hrv = s.hrv ∧ (eraseArea area s).fld = s.fld ∧
    (eraseArea area s).bed = s.bed ∧ (eraseArea area s).pip = s.pip ∧ (eraseArea area s).heads = s.heads ∧
    (eraseArea area s).sem = s.sem ∧ (eraseArea area s).pans = s.pans ∧ (eraseArea area s).dmc = s.dmc ∧
    (eraseArea area s).trn = s.trn ∧ (eraseArea area s).thm = s.thm ∧ (eraseArea area s).key = s.key ∧
    (eraseArea area s).brl = s.brl ∧ (eraseArea area s).svc = s.svc ∧ (eraseArea area s).pins = s.pins ∧
    (eraseArea area s).lay = s.lay ∧ (eraseArea area s).jrn = s.jrn ∧ (eraseArea area s).replies = s.replies ∧
    (eraseArea area s).dram = s.dram ∧ (eraseArea area s).poison = s.poison ∧ (eraseArea area s).serial = s.serial ∧
    (eraseArea area s).boot = s.boot ∧ (eraseArea area s).free = s.free ∧ (eraseArea area s).pending = s.pending := by
  refine ⟨?_, ?_, ?_, ?_, ?_, ?_, ?_, ?_, ?_, ?_, ?_, ?_, ?_, ?_, ?_, ?_, ?_, ?_, ?_, ?_, ?_, ?_, ?_, ?_, ?_, ?_, ?_, ?_, ?_, ?_⟩ <;> exact eraseArea_only _ (fun _ _ _ => rfl) area s

theorem appendKeys_only {β : Type} (π : State → β) (hπ : ∀ s xcel xkey, π { s with cel := xcel, key := xkey } = π s) (n : Nat) (s : State) :
    π (appendKeys n s) = π s := by
  unfold appendKeys; repeat' first | contradiction | (simp only [hπ, wearSector_only π (fun s xcel => hπ s xcel s.key), apply_ite π, ite_self]; done) | split | refine (foldl_same π _ (fun s x => ?_) _ _).trans ?_ | refine (elim_same π _ _ _ (fun x => ?_)).trans ?_ | dsimp only

@[simp] theorem appendKeys_frame (n : Nat) (s : State) :
    (appendKeys n s).dev = s.dev ∧ (appendKeys n s).gov = s.gov ∧ (appendKeys n s).flt = s.flt ∧ (appendKeys n s).tly = s.tly ∧
    (appendKeys n s).sal = s.sal ∧ (appendKeys n s).map = s.map ∧ (appendKeys n s).drn = s.drn ∧ (appendKeys n s).hrv = s.hrv ∧
    (appendKeys n s).fld = s.fld ∧ (appendKeys n s).bed = s.bed ∧ (appendKeys n s).pip = s.pip ∧ (appendKeys n s).heads = s.heads ∧
    (appendKeys n s).sem = s.sem ∧ (appendKeys n s).pans = s.pans ∧ (appendKeys n s).dmc = s.dmc ∧ (appendKeys n s).trn = s.trn ∧
    (appendKeys n s).thm = s.thm ∧ (appendKeys n s).upd = s.upd ∧ (appendKeys n s).brl = s.brl ∧ (appendKeys n s).svc = s.svc ∧
    (appendKeys n s).pins = s.pins ∧ (appendKeys n s).lay = s.lay ∧ (appendKeys n s).jrn = s.jrn ∧
    (appendKeys n s).replies = s.replies ∧ (appendKeys n s).dram = s.dram ∧ (appendKeys n s).poison = s.poison ∧
    (appendKeys n s).serial = s.serial ∧ (appendKeys n s).boot = s.boot ∧ (appendKeys n s).free = s.free ∧
    (appendKeys n s).pending = s.pending := by
  refine ⟨?_, ?_, ?_, ?_, ?_, ?_, ?_, ?_, ?_, ?_, ?_, ?_, ?_, ?_, ?_, ?_, ?_, ?_, ?_, ?_, ?_, ?_, ?_, ?_, ?_, ?_, ?_, ?_, ?_, ?_⟩ <;> exact appendKeys_only _ (fun _ _ _ => rfl) n s

theorem appendLms_only {β : Type} (π : State → β) (hπ : ∀ s xcel xkey, π { s with cel := xcel, key := xkey } = π s) (s : State) :
    π (appendLms s) = π s := by
  unfold appendLms; repeat' first | contradiction | (simp only [hπ, wearSector_only π (fun s xcel => hπ s xcel s.key), apply_ite π, ite_self]; done) | split | refine (foldl_same π _ (fun s x => ?_) _ _).trans ?_ | refine (elim_same π _ _ _ (fun x => ?_)).trans ?_ | dsimp only

@[simp] theorem appendLms_frame (s : State) :
    (appendLms s).dev = s.dev ∧ (appendLms s).gov = s.gov ∧ (appendLms s).flt = s.flt ∧ (appendLms s).tly = s.tly ∧
    (appendLms s).sal = s.sal ∧ (appendLms s).map = s.map ∧ (appendLms s).drn = s.drn ∧ (appendLms s).hrv = s.hrv ∧
    (appendLms s).fld = s.fld ∧ (appendLms s).bed = s.bed ∧ (appendLms s).pip = s.pip ∧ (appendLms s).heads = s.heads ∧
    (appendLms s).sem = s.sem ∧ (appendLms s).pans = s.pans ∧ (appendLms s).dmc = s.dmc ∧ (appendLms s).trn = s.trn ∧
    (appendLms s).thm = s.thm ∧ (appendLms s).upd = s.upd ∧ (appendLms s).brl = s.brl ∧ (appendLms s).svc = s.svc ∧
    (appendLms s).pins = s.pins ∧ (appendLms s).lay = s.lay ∧ (appendLms s).jrn = s.jrn ∧ (appendLms s).replies = s.replies ∧
    (appendLms s).dram = s.dram ∧ (appendLms s).poison = s.poison ∧ (appendLms s).serial = s.serial ∧ (appendLms s).boot = s.boot ∧
    (appendLms s).free = s.free ∧ (appendLms s).pending = s.pending := by
  refine ⟨?_, ?_, ?_, ?_, ?_, ?_, ?_, ?_, ?_, ?_, ?_, ?_, ?_, ?_, ?_, ?_, ?_, ?_, ?_, ?_, ?_, ?_, ?_, ?_, ?_, ?_, ?_, ?_, ?_, ?_⟩ <;> exact appendLms_only _ (fun _ _ _ => rfl) s

theorem rowUpd_only {β : Type} (π : State → β) (hπ : ∀ s xbed, π { s with bed := xbed } = π s) (seq : Nat) (f : BedRow → BedRow) (s : State) :
    π (rowUpd seq f s) = π s := by
  unfold rowUpd; repeat' first | contradiction | (simp only [hπ, apply_ite π, ite_self]; done) | split | refine (foldl_same π _ (fun s x => ?_) _ _).trans ?_ | refine (elim_same π _ _ _ (fun x => ?_)).trans ?_ | dsimp only

@[simp] theorem rowUpd_frame (seq : Nat) (f : BedRow → BedRow) (s : State) :
    (rowUpd seq f s).dev = s.dev ∧ (rowUpd seq f s).gov = s.gov ∧ (rowUpd seq f s).flt = s.flt ∧ (rowUpd seq f s).tly = s.tly ∧
    (rowUpd seq f s).sal = s.sal ∧ (rowUpd seq f s).map = s.map ∧ (rowUpd seq f s).drn = s.drn ∧ (rowUpd seq f s).hrv = s.hrv ∧
    (rowUpd seq f s).fld = s.fld ∧ (rowUpd seq f s).pip = s.pip ∧ (rowUpd seq f s).heads = s.heads ∧ (rowUpd seq f s).sem = s.sem ∧
    (rowUpd seq f s).pans = s.pans ∧ (rowUpd seq f s).dmc = s.dmc ∧ (rowUpd seq f s).trn = s.trn ∧ (rowUpd seq f s).thm = s.thm ∧
    (rowUpd seq f s).cel = s.cel ∧ (rowUpd seq f s).upd = s.upd ∧ (rowUpd seq f s).key = s.key ∧ (rowUpd seq f s).brl = s.brl ∧
    (rowUpd seq f s).svc = s.svc ∧ (rowUpd seq f s).pins = s.pins ∧ (rowUpd seq f s).lay = s.lay ∧ (rowUpd seq f s).jrn = s.jrn ∧
    (rowUpd seq f s).replies = s.replies ∧ (rowUpd seq f s).dram = s.dram ∧ (rowUpd seq f s).poison = s.poison ∧
    (rowUpd seq f s).serial = s.serial ∧ (rowUpd seq f s).boot = s.boot ∧ (rowUpd seq f s).free = s.free ∧
    (rowUpd seq f s).pending = s.pending := by
  refine ⟨?_, ?_, ?_, ?_, ?_, ?_, ?_, ?_, ?_, ?_, ?_, ?_, ?_, ?_, ?_, ?_, ?_, ?_, ?_, ?_, ?_, ?_, ?_, ?_, ?_, ?_, ?_, ?_, ?_, ?_, ?_⟩ <;> exact rowUpd_only _ (fun _ _ => rfl) seq f s

theorem stagedUpd_only {β : Type} (π : State → β) (hπ : ∀ s xbed, π { s with bed := xbed } = π s) (p : StorePage) (f : StorePage → StorePage) (s : State) :
    π (stagedUpd p f s) = π s := by
  unfold stagedUpd; repeat' first | contradiction | (simp only [hπ, apply_ite π, ite_self]; done) | split | refine (foldl_same π _ (fun s x => ?_) _ _).trans ?_ | refine (elim_same π _ _ _ (fun x => ?_)).trans ?_ | dsimp only

@[simp] theorem stagedUpd_frame (p : StorePage) (f : StorePage → StorePage) (s : State) :
    (stagedUpd p f s).dev = s.dev ∧ (stagedUpd p f s).gov = s.gov ∧ (stagedUpd p f s).flt = s.flt ∧ (stagedUpd p f s).tly = s.tly ∧
    (stagedUpd p f s).sal = s.sal ∧ (stagedUpd p f s).map = s.map ∧ (stagedUpd p f s).drn = s.drn ∧ (stagedUpd p f s).hrv = s.hrv ∧
    (stagedUpd p f s).fld = s.fld ∧ (stagedUpd p f s).pip = s.pip ∧ (stagedUpd p f s).heads = s.heads ∧
    (stagedUpd p f s).sem = s.sem ∧ (stagedUpd p f s).pans = s.pans ∧ (stagedUpd p f s).dmc = s.dmc ∧
    (stagedUpd p f s).trn = s.trn ∧ (stagedUpd p f s).thm = s.thm ∧ (stagedUpd p f s).cel = s.cel ∧ (stagedUpd p f s).upd = s.upd ∧
    (stagedUpd p f s).key = s.key ∧ (stagedUpd p f s).brl = s.brl ∧ (stagedUpd p f s).svc = s.svc ∧
    (stagedUpd p f s).pins = s.pins ∧ (stagedUpd p f s).lay = s.lay ∧ (stagedUpd p f s).jrn = s.jrn ∧
    (stagedUpd p f s).replies = s.replies ∧ (stagedUpd p f s).dram = s.dram ∧ (stagedUpd p f s).poison = s.poison ∧
    (stagedUpd p f s).serial = s.serial ∧ (stagedUpd p f s).boot = s.boot ∧ (stagedUpd p f s).free = s.free ∧
    (stagedUpd p f s).pending = s.pending := by
  refine ⟨?_, ?_, ?_, ?_, ?_, ?_, ?_, ?_, ?_, ?_, ?_, ?_, ?_, ?_, ?_, ?_, ?_, ?_, ?_, ?_, ?_, ?_, ?_, ?_, ?_, ?_, ?_, ?_, ?_, ?_, ?_⟩ <;> exact stagedUpd_only _ (fun _ _ => rfl) p f s

theorem losePage_only {β : Type} (π : State → β) (hπ : ∀ s xmap xdrn xhrv xbed, π { s with map := xmap, drn := xdrn, hrv := xhrv, bed := xbed } = π s) (program : Bool) (r : BedRow) (p : StorePage) (s : State) :
    π (losePage program r p s) = π s := by
  unfold losePage; repeat' first | contradiction | (simp only [hπ, abandonOp_only π (fun s xmap xdrn xbed => hπ s xmap xdrn s.hrv xbed), foldl_same π, apply_ite π, ite_self]; done) | split | refine (foldl_same π _ (fun s x => ?_) _ _).trans ?_ | refine (elim_same π _ _ _ (fun x => ?_)).trans ?_ | with_reducible refine (abandonOp_only π (fun s xmap xdrn xbed => hπ s xmap xdrn s.hrv xbed) _ _).trans ?_ | with_reducible refine (hπ _ _ _ _ _).trans ?_ | dsimp only

@[simp] theorem losePage_frame (program : Bool) (r : BedRow) (p : StorePage) (s : State) :
    (losePage program r p s).dev = s.dev ∧ (losePage program r p s).gov = s.gov ∧ (losePage program r p s).flt = s.flt ∧
    (losePage program r p s).tly = s.tly ∧ (losePage program r p s).sal = s.sal ∧ (losePage program r p s).fld = s.fld ∧
    (losePage program r p s).pip = s.pip ∧ (losePage program r p s).heads = s.heads ∧ (losePage program r p s).sem = s.sem ∧
    (losePage program r p s).pans = s.pans ∧ (losePage program r p s).dmc = s.dmc ∧ (losePage program r p s).trn = s.trn ∧
    (losePage program r p s).thm = s.thm ∧ (losePage program r p s).cel = s.cel ∧ (losePage program r p s).upd = s.upd ∧
    (losePage program r p s).key = s.key ∧ (losePage program r p s).brl = s.brl ∧ (losePage program r p s).svc = s.svc ∧
    (losePage program r p s).pins = s.pins ∧ (losePage program r p s).lay = s.lay ∧ (losePage program r p s).jrn = s.jrn ∧
    (losePage program r p s).replies = s.replies ∧ (losePage program r p s).dram = s.dram ∧
    (losePage program r p s).poison = s.poison ∧ (losePage program r p s).serial = s.serial ∧
    (losePage program r p s).boot = s.boot ∧ (losePage program r p s).free = s.free ∧ (losePage program r p s).pending = s.pending := by
  refine ⟨?_, ?_, ?_, ?_, ?_, ?_, ?_, ?_, ?_, ?_, ?_, ?_, ?_, ?_, ?_, ?_, ?_, ?_, ?_, ?_, ?_, ?_, ?_, ?_, ?_, ?_, ?_, ?_⟩ <;> exact losePage_only _ (fun _ _ _ _ _ => rfl) program r p s

theorem losePages_only {β : Type} (π : State → β) (hπ : ∀ s xmap xdrn xhrv xbed, π { s with map := xmap, drn := xdrn, hrv := xhrv, bed := xbed } = π s) (l : List StorePage) (s : State) :
    π (losePages l s) = π s := by
  unfold losePages; repeat' first | contradiction | (simp only [hπ, losePage_only π hπ, foldl_same π, apply_ite π, ite_self]; done) | split | refine (foldl_same π _ (fun s x => ?_) _ _).trans ?_ | refine (elim_same π _ _ _ (fun x => ?_)).trans ?_ | dsimp only

@[simp] theorem losePages_frame (l : List StorePage) (s : State) :
    (losePages l s).dev = s.dev ∧ (losePages l s).gov = s.gov ∧ (losePages l s).flt = s.flt ∧ (losePages l s).tly = s.tly ∧
    (losePages l s).sal = s.sal ∧ (losePages l s).fld = s.fld ∧ (losePages l s).pip = s.pip ∧ (losePages l s).heads = s.heads ∧
    (losePages l s).sem = s.sem ∧ (losePages l s).pans = s.pans ∧ (losePages l s).dmc = s.dmc ∧ (losePages l s).trn = s.trn ∧
    (losePages l s).thm = s.thm ∧ (losePages l s).cel = s.cel ∧ (losePages l s).upd = s.upd ∧ (losePages l s).key = s.key ∧
    (losePages l s).brl = s.brl ∧ (losePages l s).svc = s.svc ∧ (losePages l s).pins = s.pins ∧ (losePages l s).lay = s.lay ∧
    (losePages l s).jrn = s.jrn ∧ (losePages l s).replies = s.replies ∧ (losePages l s).dram = s.dram ∧
    (losePages l s).poison = s.poison ∧ (losePages l s).serial = s.serial ∧ (losePages l s).boot = s.boot ∧
    (losePages l s).free = s.free ∧ (losePages l s).pending = s.pending := by
  refine ⟨?_, ?_, ?_, ?_, ?_, ?_, ?_, ?_, ?_, ?_, ?_, ?_, ?_, ?_, ?_, ?_, ?_, ?_, ?_, ?_, ?_, ?_, ?_, ?_, ?_, ?_, ?_, ?_⟩ <;> exact losePages_only _ (fun _ _ _ _ _ => rfl) l s

theorem syncSettings_only {β : Type} (π : State → β) (hπ : ∀ s xcel xupd, π { s with cel := xcel, upd := xupd } = π s) (s : State) :
    π (syncSettings s) = π s := by
  unfold syncSettings
  split
  · rfl
  · split
    · split
      · exact appendCopy_only π hπ _ _ _ _
      · rfl
    · dsimp only
      exact (hπ (eraseArea _ s) _ _).trans (eraseArea_only π hπ _ _)

@[simp] theorem syncSettings_frame (s : State) :
    (syncSettings s).dev = s.dev ∧ (syncSettings s).gov = s.gov ∧ (syncSettings s).flt = s.flt ∧ (syncSettings s).tly = s.tly ∧
    (syncSettings s).sal = s.sal ∧ (syncSettings s).map = s.map ∧ (syncSettings s).drn = s.drn ∧ (syncSettings s).hrv = s.hrv ∧
    (syncSettings s).fld = s.fld ∧ (syncSettings s).bed = s.bed ∧ (syncSettings s).pip = s.pip ∧ (syncSettings s).heads = s.heads ∧
    (syncSettings s).sem = s.sem ∧ (syncSettings s).pans = s.pans ∧ (syncSettings s).dmc = s.dmc ∧ (syncSettings s).trn = s.trn ∧
    (syncSettings s).thm = s.thm ∧ (syncSettings s).key = s.key ∧ (syncSettings s).brl = s.brl ∧ (syncSettings s).svc = s.svc ∧
    (syncSettings s).pins = s.pins ∧ (syncSettings s).lay = s.lay ∧ (syncSettings s).jrn = s.jrn ∧
    (syncSettings s).replies = s.replies ∧ (syncSettings s).dram = s.dram ∧ (syncSettings s).poison = s.poison ∧
    (syncSettings s).serial = s.serial ∧ (syncSettings s).boot = s.boot ∧ (syncSettings s).free = s.free ∧
    (syncSettings s).pending = s.pending := by
  refine ⟨?_, ?_, ?_, ?_, ?_, ?_, ?_, ?_, ?_, ?_, ?_, ?_, ?_, ?_, ?_, ?_, ?_, ?_, ?_, ?_, ?_, ?_, ?_, ?_, ?_, ?_, ?_, ?_, ?_, ?_⟩ <;> exact syncSettings_only _ (fun _ _ _ => rfl) s

theorem holdSettings_only {β : Type} (π : State → β) (hπ : ∀ s xcel xupd, π { s with cel := xcel, upd := xupd } = π s) (s : State) :
    π (holdSettings s) = π s := by
  simp only [holdSettings, hπ, syncSettings_only π hπ, apply_ite π, ite_self]

@[simp] theorem holdSettings_frame (s : State) :
    (holdSettings s).dev = s.dev ∧ (holdSettings s).gov = s.gov ∧ (holdSettings s).flt = s.flt ∧ (holdSettings s).tly = s.tly ∧
    (holdSettings s).sal = s.sal ∧ (holdSettings s).map = s.map ∧ (holdSettings s).drn = s.drn ∧ (holdSettings s).hrv = s.hrv ∧
    (holdSettings s).fld = s.fld ∧ (holdSettings s).bed = s.bed ∧ (holdSettings s).pip = s.pip ∧ (holdSettings s).heads = s.heads ∧
    (holdSettings s).sem = s.sem ∧ (holdSettings s).pans = s.pans ∧ (holdSettings s).dmc = s.dmc ∧ (holdSettings s).trn = s.trn ∧
    (holdSettings s).thm = s.thm ∧ (holdSettings s).key = s.key ∧ (holdSettings s).brl = s.brl ∧ (holdSettings s).svc = s.svc ∧
    (holdSettings s).pins = s.pins ∧ (holdSettings s).lay = s.lay ∧ (holdSettings s).jrn = s.jrn ∧
    (holdSettings s).replies = s.replies ∧ (holdSettings s).dram = s.dram ∧ (holdSettings s).poison = s.poison ∧
    (holdSettings s).serial = s.serial ∧ (holdSettings s).boot = s.boot ∧ (holdSettings s).free = s.free ∧
    (holdSettings s).pending = s.pending := by
  refine ⟨?_, ?_, ?_, ?_, ?_, ?_, ?_, ?_, ?_, ?_, ?_, ?_, ?_, ?_, ?_, ?_, ?_, ?_, ?_, ?_, ?_, ?_, ?_, ?_, ?_, ?_, ?_, ?_, ?_, ?_⟩ <;> exact holdSettings_only _ (fun _ _ _ => rfl) s

theorem celLost_only {β : Type} (π : State → β) (hπ : ∀ s xcel xfree, π { s with cel := xcel, free := xfree } = π s) (s : State) :
    π (celLost s) = π s := by
  unfold celLost; repeat' first | contradiction | (simp only [hπ, apply_ite π, ite_self]; done) | split | refine (foldl_same π _ (fun s x => ?_) _ _).trans ?_ | refine (elim_same π _ _ _ (fun x => ?_)).trans ?_ | dsimp only

@[simp] theorem celLost_frame (s : State) :
    (celLost s).dev = s.dev ∧ (celLost s).gov = s.gov ∧ (celLost s).flt = s.flt ∧ (celLost s).tly = s.tly ∧
    (celLost s).sal = s.sal ∧ (celLost s).map = s.map ∧ (celLost s).drn = s.drn ∧ (celLost s).hrv = s.hrv ∧
    (celLost s).fld = s.fld ∧ (celLost s).bed = s.bed ∧ (celLost s).pip = s.pip ∧ (celLost s).heads = s.heads ∧
    (celLost s).sem = s.sem ∧ (celLost s).pans = s.pans ∧ (celLost s).dmc = s.dmc ∧ (celLost s).trn = s.trn ∧
    (celLost s).thm = s.thm ∧ (celLost s).upd = s.upd ∧ (celLost s).key = s.key ∧ (celLost s).brl = s.brl ∧
    (celLost s).svc = s.svc ∧ (celLost s).pins = s.pins ∧ (celLost s).lay = s.lay ∧ (celLost s).jrn = s.jrn ∧
    (celLost s).replies = s.replies ∧ (celLost s).dram = s.dram ∧ (celLost s).poison = s.poison ∧ (celLost s).serial = s.serial ∧
    (celLost s).boot = s.boot ∧ (celLost s).pending = s.pending := by
  refine ⟨?_, ?_, ?_, ?_, ?_, ?_, ?_, ?_, ?_, ?_, ?_, ?_, ?_, ?_, ?_, ?_, ?_, ?_, ?_, ?_, ?_, ?_, ?_, ?_, ?_, ?_, ?_, ?_, ?_, ?_⟩ <;> exact celLost_only _ (fun _ _ _ => rfl) s

theorem coreLost_only {β : Type} (π : State → β) (hπ : ∀ s xtly, π { s with tly := xtly } = π s) (s : State) :
    π (coreLost s) = π s := by
  simp only [coreLost, hπ, apply_ite π, ite_self]

@[simp] theorem coreLost_frame (s : State) :
    (coreLost s).dev = s.dev ∧ (coreLost s).gov = s.gov ∧ (coreLost s).flt = s.flt ∧ (coreLost s).sal = s.sal ∧
    (coreLost s).map = s.map ∧ (coreLost s).drn = s.drn ∧ (coreLost s).hrv = s.hrv ∧ (coreLost s).fld = s.fld ∧
    (coreLost s).bed = s.bed ∧ (coreLost s).pip = s.pip ∧ (coreLost s).heads = s.heads ∧ (coreLost s).sem = s.sem ∧
    (coreLost s).pans = s.pans ∧ (coreLost s).dmc = s.dmc ∧ (coreLost s).trn = s.trn ∧ (coreLost s).thm = s.thm ∧
    (coreLost s).cel = s.cel ∧ (coreLost s).upd = s.upd ∧ (coreLost s).key = s.key ∧ (coreLost s).brl = s.brl ∧
    (coreLost s).svc = s.svc ∧ (coreLost s).pins = s.pins ∧ (coreLost s).lay = s.lay ∧ (coreLost s).jrn = s.jrn ∧
    (coreLost s).replies = s.replies ∧ (coreLost s).dram = s.dram ∧ (coreLost s).poison = s.poison ∧
    (coreLost s).serial = s.serial ∧ (coreLost s).boot = s.boot ∧ (coreLost s).free = s.free ∧ (coreLost s).pending = s.pending := by
  refine ⟨?_, ?_, ?_, ?_, ?_, ?_, ?_, ?_, ?_, ?_, ?_, ?_, ?_, ?_, ?_, ?_, ?_, ?_, ?_, ?_, ?_, ?_, ?_, ?_, ?_, ?_, ?_, ?_, ?_, ?_, ?_⟩ <;> exact coreLost_only _ (fun _ _ => rfl) s

theorem mkSalRec_only {β : Type} (π : State → β) (hπ : ∀ s xsal xfree, π { s with sal := xsal, free := xfree } = π s) (typ : Nat) (cause : Nat) (eStart : Nat) (drawn : Nat) (ticks : Nat) (minMv : Nat) (peakMa : Nat) (tLow : Int) (tHigh : Int) (capR : Nat) (esrR : Nat) (s : State) :
    π (mkSalRec typ cause eStart drawn ticks minMv peakMa tLow tHigh capR esrR s).1 = π s := by
  unfold mkSalRec; repeat' first | contradiction | (simp only [hπ, apply_ite π, ite_self]; done) | split | refine (foldl_same π _ (fun s x => ?_) _ _).trans ?_ | refine (elim_same π _ _ _ (fun x => ?_)).trans ?_ | dsimp only

@[simp] theorem mkSalRec_frame (typ : Nat) (cause : Nat) (eStart : Nat) (drawn : Nat) (ticks : Nat) (minMv : Nat) (peakMa : Nat) (tLow : Int) (tHigh : Int) (capR : Nat) (esrR : Nat) (s : State) :
    (mkSalRec typ cause eStart drawn ticks minMv peakMa tLow tHigh capR esrR s).1.dev = s.dev ∧
    (mkSalRec typ cause eStart drawn ticks minMv peakMa tLow tHigh capR esrR s).1.gov = s.gov ∧
    (mkSalRec typ cause eStart drawn ticks minMv peakMa tLow tHigh capR esrR s).1.flt = s.flt ∧
    (mkSalRec typ cause eStart drawn ticks minMv peakMa tLow tHigh capR esrR s).1.tly = s.tly ∧
    (mkSalRec typ cause eStart drawn ticks minMv peakMa tLow tHigh capR esrR s).1.map = s.map ∧
    (mkSalRec typ cause eStart drawn ticks minMv peakMa tLow tHigh capR esrR s).1.drn = s.drn ∧
    (mkSalRec typ cause eStart drawn ticks minMv peakMa tLow tHigh capR esrR s).1.hrv = s.hrv ∧
    (mkSalRec typ cause eStart drawn ticks minMv peakMa tLow tHigh capR esrR s).1.fld = s.fld ∧
    (mkSalRec typ cause eStart drawn ticks minMv peakMa tLow tHigh capR esrR s).1.bed = s.bed ∧
    (mkSalRec typ cause eStart drawn ticks minMv peakMa tLow tHigh capR esrR s).1.pip = s.pip ∧
    (mkSalRec typ cause eStart drawn ticks minMv peakMa tLow tHigh capR esrR s).1.heads = s.heads ∧
    (mkSalRec typ cause eStart drawn ticks minMv peakMa tLow tHigh capR esrR s).1.sem = s.sem ∧
    (mkSalRec typ cause eStart drawn ticks minMv peakMa tLow tHigh capR esrR s).1.pans = s.pans ∧
    (mkSalRec typ cause eStart drawn ticks minMv peakMa tLow tHigh capR esrR s).1.dmc = s.dmc ∧
    (mkSalRec typ cause eStart drawn ticks minMv peakMa tLow tHigh capR esrR s).1.trn = s.trn ∧
    (mkSalRec typ cause eStart drawn ticks minMv peakMa tLow tHigh capR esrR s).1.thm = s.thm ∧
    (mkSalRec typ cause eStart drawn ticks minMv peakMa tLow tHigh capR esrR s).1.cel = s.cel ∧
    (mkSalRec typ cause eStart drawn ticks minMv peakMa tLow tHigh capR esrR s).1.upd = s.upd ∧
    (mkSalRec typ cause eStart drawn ticks minMv peakMa tLow tHigh capR esrR s).1.key = s.key ∧
    (mkSalRec typ cause eStart drawn ticks minMv peakMa tLow tHigh capR esrR s).1.brl = s.brl ∧
    (mkSalRec typ cause eStart drawn ticks minMv peakMa tLow tHigh capR esrR s).1.svc = s.svc ∧
    (mkSalRec typ cause eStart drawn ticks minMv peakMa tLow tHigh capR esrR s).1.pins = s.pins ∧
    (mkSalRec typ cause eStart drawn ticks minMv peakMa tLow tHigh capR esrR s).1.lay = s.lay ∧
    (mkSalRec typ cause eStart drawn ticks minMv peakMa tLow tHigh capR esrR s).1.jrn = s.jrn ∧
    (mkSalRec typ cause eStart drawn ticks minMv peakMa tLow tHigh capR esrR s).1.replies = s.replies ∧
    (mkSalRec typ cause eStart drawn ticks minMv peakMa tLow tHigh capR esrR s).1.dram = s.dram ∧
    (mkSalRec typ cause eStart drawn ticks minMv peakMa tLow tHigh capR esrR s).1.poison = s.poison ∧
    (mkSalRec typ cause eStart drawn ticks minMv peakMa tLow tHigh capR esrR s).1.serial = s.serial ∧
    (mkSalRec typ cause eStart drawn ticks minMv peakMa tLow tHigh capR esrR s).1.boot = s.boot ∧
    (mkSalRec typ cause eStart drawn ticks minMv peakMa tLow tHigh capR esrR s).1.pending = s.pending := by
  refine ⟨?_, ?_, ?_, ?_, ?_, ?_, ?_, ?_, ?_, ?_, ?_, ?_, ?_, ?_, ?_, ?_, ?_, ?_, ?_, ?_, ?_, ?_, ?_, ?_, ?_, ?_, ?_, ?_, ?_, ?_⟩ <;> exact mkSalRec_only _ (fun _ _ _ => rfl) typ cause eStart drawn ticks minMv peakMa tLow tHigh capR esrR s

theorem learnRec_only {β : Type} (π : State → β) (hπ : ∀ s xsal xfree, π { s with sal := xsal, free := xfree } = π s) (result : Nat) (s : State) :
    π (learnRec result s).1 = π s := by
  unfold learnRec; repeat' first | contradiction | (simp only [hπ, mkSalRec_only π hπ, apply_ite π, ite_self]; done) | split | refine (foldl_same π _ (fun s x => ?_) _ _).trans ?_ | refine (elim_same π _ _ _ (fun x => ?_)).trans ?_ | dsimp only

@[simp] theorem learnRec_frame (result : Nat) (s : State) :
    (learnRec result s).1.dev = s.dev ∧ (learnRec result s).1.gov = s.gov ∧ (learnRec result s).1.flt = s.flt ∧
    (learnRec result s).1.tly = s.tly ∧ (learnRec result s).1.map = s.map ∧ (learnRec result s).1.drn = s.drn ∧
    (learnRec result s).1.hrv = s.hrv ∧ (learnRec result s).1.fld = s.fld ∧ (learnRec result s).1.bed = s.bed ∧
    (learnRec result s).1.pip = s.pip ∧ (learnRec result s).1.heads = s.heads ∧ (learnRec result s).1.sem = s.sem ∧
    (learnRec result s).1.pans = s.pans ∧ (learnRec result s).1.dmc = s.dmc ∧ (learnRec result s).1.trn = s.trn ∧
    (learnRec result s).1.thm = s.thm ∧ (learnRec result s).1.cel = s.cel ∧ (learnRec result s).1.upd = s.upd ∧
    (learnRec result s).1.key = s.key ∧ (learnRec result s).1.brl = s.brl ∧ (learnRec result s).1.svc = s.svc ∧
    (learnRec result s).1.pins = s.pins ∧ (learnRec result s).1.lay = s.lay ∧ (learnRec result s).1.jrn = s.jrn ∧
    (learnRec result s).1.replies = s.replies ∧ (learnRec result s).1.dram = s.dram ∧ (learnRec result s).1.poison = s.poison ∧
    (learnRec result s).1.serial = s.serial ∧ (learnRec result s).1.boot = s.boot ∧ (learnRec result s).1.pending = s.pending := by
  refine ⟨?_, ?_, ?_, ?_, ?_, ?_, ?_, ?_, ?_, ?_, ?_, ?_, ?_, ?_, ?_, ?_, ?_, ?_, ?_, ?_, ?_, ?_, ?_, ?_, ?_, ?_, ?_, ?_, ?_, ?_⟩ <;> exact learnRec_only _ (fun _ _ _ => rfl) result s

theorem abandonRec_only {β : Type} (π : State → β) (hπ : ∀ s xsal xfree, π { s with sal := xsal, free := xfree } = π s) (s : State) :
    π (abandonRec s).1 = π s := by
  simp only [abandonRec, hπ, mkSalRec_only π hπ, apply_ite π, ite_self]

@[simp] theorem abandonRec_frame (s : State) :
    (abandonRec s).1.dev = s.dev ∧ (abandonRec s).1.gov = s.gov ∧ (abandonRec s).1.flt = s.flt ∧ (abandonRec s).1.tly = s.tly ∧
    (abandonRec s).1.map = s.map ∧ (abandonRec s).1.drn = s.drn ∧ (abandonRec s).1.hrv = s.hrv ∧ (abandonRec s).1.fld = s.fld ∧
    (abandonRec s).1.bed = s.bed ∧ (abandonRec s).1.pip = s.pip ∧ (abandonRec s).1.heads = s.heads ∧ (abandonRec s).1.sem = s.sem ∧
    (abandonRec s).1.pans = s.pans ∧ (abandonRec s).1.dmc = s.dmc ∧ (abandonRec s).1.trn = s.trn ∧ (abandonRec s).1.thm = s.thm ∧
    (abandonRec s).1.cel = s.cel ∧ (abandonRec s).1.upd = s.upd ∧ (abandonRec s).1.key = s.key ∧ (abandonRec s).1.brl = s.brl ∧
    (abandonRec s).1.svc = s.svc ∧ (abandonRec s).1.pins = s.pins ∧ (abandonRec s).1.lay = s.lay ∧ (abandonRec s).1.jrn = s.jrn ∧
    (abandonRec s).1.replies = s.replies ∧ (abandonRec s).1.dram = s.dram ∧ (abandonRec s).1.poison = s.poison ∧
    (abandonRec s).1.serial = s.serial ∧ (abandonRec s).1.boot = s.boot ∧ (abandonRec s).1.pending = s.pending := by
  refine ⟨?_, ?_, ?_, ?_, ?_, ?_, ?_, ?_, ?_, ?_, ?_, ?_, ?_, ?_, ?_, ?_, ?_, ?_, ?_, ?_, ?_, ?_, ?_, ?_, ?_, ?_, ?_, ?_, ?_, ?_⟩ <;> exact abandonRec_only _ (fun _ _ _ => rfl) s

theorem oweRec_only {β : Type} (π : State → β) (hπ : ∀ s xsal, π { s with sal := xsal } = π s) (t : State × SalRec) :
    π (oweRec t) = π t.1 := by
  simp only [oweRec, hπ, apply_ite π, ite_self]

@[simp] theorem oweRec_frame (t : State × SalRec) :
    (oweRec t).dev = t.1.dev ∧ (oweRec t).gov = t.1.gov ∧ (oweRec t).flt = t.1.flt ∧ (oweRec t).tly = t.1.tly ∧
    (oweRec t).map = t.1.map ∧ (oweRec t).drn = t.1.drn ∧ (oweRec t).hrv = t.1.hrv ∧ (oweRec t).fld = t.1.fld ∧
    (oweRec t).bed = t.1.bed ∧ (oweRec t).pip = t.1.pip ∧ (oweRec t).heads = t.1.heads ∧ (oweRec t).sem = t.1.sem ∧
    (oweRec t).pans = t.1.pans ∧ (oweRec t).dmc = t.1.dmc ∧ (oweRec t).trn = t.1.trn ∧ (oweRec t).thm = t.1.thm ∧
    (oweRec t).cel = t.1.cel ∧ (oweRec t).upd = t.1.upd ∧ (oweRec t).key = t.1.key ∧ (oweRec t).brl = t.1.brl ∧
    (oweRec t).svc = t.1.svc ∧ (oweRec t).pins = t.1.pins ∧ (oweRec t).lay = t.1.lay ∧ (oweRec t).jrn = t.1.jrn ∧
    (oweRec t).replies = t.1.replies ∧ (oweRec t).dram = t.1.dram ∧ (oweRec t).poison = t.1.poison ∧
    (oweRec t).serial = t.1.serial ∧ (oweRec t).boot = t.1.boot ∧ (oweRec t).free = t.1.free ∧ (oweRec t).pending = t.1.pending := by
  refine ⟨?_, ?_, ?_, ?_, ?_, ?_, ?_, ?_, ?_, ?_, ?_, ?_, ?_, ?_, ?_, ?_, ?_, ?_, ?_, ?_, ?_, ?_, ?_, ?_, ?_, ?_, ?_, ?_, ?_, ?_, ?_⟩ <;> exact oweRec_only _ (fun _ _ => rfl) t

theorem salCut_only {β : Type} (π : State → β) (hπ : ∀ s xsal xfree, π { s with sal := xsal, free := xfree } = π s) (s : State) :
    π (salCut s) = π s := by
  unfold salCut; repeat' first | contradiction | (simp only [hπ, learnRec_only π hπ, abandonRec_only π hπ, oweRec_only π (fun s xsal => hπ s xsal s.free), apply_ite π, ite_self]; done) | split | refine (foldl_same π _ (fun s x => ?_) _ _).trans ?_ | refine (elim_same π _ _ _ (fun x => ?_)).trans ?_ | dsimp only

@[simp] theorem salCut_frame (s : State) :
    (salCut s).dev = s.dev ∧ (salCut s).gov = s.gov ∧ (salCut s).flt = s.flt ∧ (salCut s).tly = s.tly ∧ (salCut s).map = s.map ∧
    (salCut s).drn = s.drn ∧ (salCut s).hrv = s.hrv ∧ (salCut s).fld = s.fld ∧ (salCut s).bed = s.bed ∧ (salCut s).pip = s.pip ∧
    (salCut s).heads = s.heads ∧ (salCut s).sem = s.sem ∧ (salCut s).pans = s.pans ∧ (salCut s).dmc = s.dmc ∧
    (salCut s).trn = s.trn ∧ (salCut s).thm = s.thm ∧ (salCut s).cel = s.cel ∧ (salCut s).upd = s.upd ∧ (salCut s).key = s.key ∧
    (salCut s).brl = s.brl ∧ (salCut s).svc = s.svc ∧ (salCut s).pins = s.pins ∧ (salCut s).lay = s.lay ∧ (salCut s).jrn = s.jrn ∧
    (salCut s).replies = s.replies ∧ (salCut s).dram = s.dram ∧ (salCut s).poison = s.poison ∧ (salCut s).serial = s.serial ∧
    (salCut s).boot = s.boot ∧ (salCut s).pending = s.pending := by
  refine ⟨?_, ?_, ?_, ?_, ?_, ?_, ?_, ?_, ?_, ?_, ?_, ?_, ?_, ?_, ?_, ?_, ?_, ?_, ?_, ?_, ?_, ?_, ?_, ?_, ?_, ?_, ?_, ?_, ?_, ?_⟩ <;> exact salCut_only _ (fun _ _ _ => rfl) s

theorem setErrN_only {β : Type} (π : State → β) (hπ : ∀ s xpins, π { s with pins := xpins } = π s) (s : State) :
    π (setErrN s) = π s := by
  simp only [setErrN, hπ, apply_ite π, ite_self]

@[simp] theorem setErrN_frame (s : State) :
    (setErrN s).dev = s.dev ∧ (setErrN s).gov = s.gov ∧ (setErrN s).flt = s.flt ∧ (setErrN s).tly = s.tly ∧
    (setErrN s).sal = s.sal ∧ (setErrN s).map = s.map ∧ (setErrN s).drn = s.drn ∧ (setErrN s).hrv = s.hrv ∧
    (setErrN s).fld = s.fld ∧ (setErrN s).bed = s.bed ∧ (setErrN s).pip = s.pip ∧ (setErrN s).heads = s.heads ∧
    (setErrN s).sem = s.sem ∧ (setErrN s).pans = s.pans ∧ (setErrN s).dmc = s.dmc ∧ (setErrN s).trn = s.trn ∧
    (setErrN s).thm = s.thm ∧ (setErrN s).cel = s.cel ∧ (setErrN s).upd = s.upd ∧ (setErrN s).key = s.key ∧
    (setErrN s).brl = s.brl ∧ (setErrN s).svc = s.svc ∧ (setErrN s).lay = s.lay ∧ (setErrN s).jrn = s.jrn ∧
    (setErrN s).replies = s.replies ∧ (setErrN s).dram = s.dram ∧ (setErrN s).poison = s.poison ∧ (setErrN s).serial = s.serial ∧
    (setErrN s).boot = s.boot ∧ (setErrN s).free = s.free ∧ (setErrN s).pending = s.pending := by
  refine ⟨?_, ?_, ?_, ?_, ?_, ?_, ?_, ?_, ?_, ?_, ?_, ?_, ?_, ?_, ?_, ?_, ?_, ?_, ?_, ?_, ?_, ?_, ?_, ?_, ?_, ?_, ?_, ?_, ?_, ?_, ?_⟩ <;> exact setErrN_only _ (fun _ _ => rfl) s

theorem endPause_only {β : Type} (π : State → β) (hπ : ∀ s xflt xtly xdrn xheads, π { s with flt := xflt, tly := xtly, drn := xdrn, heads := xheads } = π s) (cause : Nat) (s : State) :
    π (endPause cause s) = π s := by
  unfold endPause; repeat' first | contradiction | (simp only [hπ, tlyTell_only π (fun s xflt xtly xheads => hπ s xflt xtly s.drn xheads), apply_ite π, ite_self]; done) | split | refine (foldl_same π _ (fun s x => ?_) _ _).trans ?_ | refine (elim_same π _ _ _ (fun x => ?_)).trans ?_ | dsimp only

@[simp] theorem endPause_frame (cause : Nat) (s : State) :
    (endPause cause s).dev = s.dev ∧ (endPause cause s).gov = s.gov ∧ (endPause cause s).sal = s.sal ∧
    (endPause cause s).map = s.map ∧ (endPause cause s).hrv = s.hrv ∧ (endPause cause s).fld = s.fld ∧
    (endPause cause s).bed = s.bed ∧ (endPause cause s).pip = s.pip ∧ (endPause cause s).sem = s.sem ∧
    (endPause cause s).pans = s.pans ∧ (endPause cause s).dmc = s.dmc ∧ (endPause cause s).trn = s.trn ∧
    (endPause cause s).thm = s.thm ∧ (endPause cause s).cel = s.cel ∧ (endPause cause s).upd = s.upd ∧
    (endPause cause s).key = s.key ∧ (endPause cause s).brl = s.brl ∧ (endPause cause s).svc = s.svc ∧
    (endPause cause s).pins = s.pins ∧ (endPause cause s).lay = s.lay ∧ (endPause cause s).jrn = s.jrn ∧
    (endPause cause s).replies = s.replies ∧ (endPause cause s).dram = s.dram ∧ (endPause cause s).poison = s.poison ∧
    (endPause cause s).serial = s.serial ∧ (endPause cause s).boot = s.boot ∧ (endPause cause s).free = s.free ∧
    (endPause cause s).pending = s.pending := by
  refine ⟨?_, ?_, ?_, ?_, ?_, ?_, ?_, ?_, ?_, ?_, ?_, ?_, ?_, ?_, ?_, ?_, ?_, ?_, ?_, ?_, ?_, ?_, ?_, ?_, ?_, ?_, ?_, ?_⟩ <;> exact endPause_only _ (fun _ _ _ _ _ => rfl) cause s

theorem disarm_only {β : Type} (π : State → β) (hπ : ∀ s xdev xgov xflt xtly xdrn xheads xsvc, π { s with dev := xdev, gov := xgov, flt := xflt, tly := xtly, drn := xdrn, heads := xheads, svc := xsvc } = π s) (cause : Nat) (s : State) :
    π (disarm cause s) = π s := by
  unfold disarm; repeat' first | contradiction | (simp only [hπ, chapenEvent_only π (fun s xheads => hπ s s.dev s.gov s.flt s.tly s.drn xheads s.svc), tlyTell_only π (fun s xflt xtly xheads => hπ s s.dev s.gov xflt xtly s.drn xheads s.svc), endPause_only π (fun s xflt xtly xdrn xheads => hπ s s.dev s.gov xflt xtly xdrn xheads s.svc), apply_ite π, ite_self]; done) | split | refine (foldl_same π _ (fun s x => ?_) _ _).trans ?_ | refine (elim_same π _ _ _ (fun x => ?_)).trans ?_ | dsimp only

@[simp] theorem disarm_frame (cause : Nat) (s : State) :
    (disarm cause s).sal = s.sal ∧ (disarm cause s).map = s.map ∧ (disarm cause s).hrv = s.hrv ∧ (disarm cause s).fld = s.fld ∧
    (disarm cause s).bed = s.bed ∧ (disarm cause s).pip = s.pip ∧ (disarm cause s).sem = s.sem ∧ (disarm cause s).pans = s.pans ∧
    (disarm cause s).dmc = s.dmc ∧ (disarm cause s).trn = s.trn ∧ (disarm cause s).thm = s.thm ∧ (disarm cause s).cel = s.cel ∧
    (disarm cause s).upd = s.upd ∧ (disarm cause s).key = s.key ∧ (disarm cause s).brl = s.brl ∧ (disarm cause s).pins = s.pins ∧
    (disarm cause s).lay = s.lay ∧ (disarm cause s).jrn = s.jrn ∧ (disarm cause s).replies = s.replies ∧
    (disarm cause s).dram = s.dram ∧ (disarm cause s).poison = s.poison ∧ (disarm cause s).serial = s.serial ∧
    (disarm cause s).boot = s.boot ∧ (disarm cause s).free = s.free ∧ (disarm cause s).pending = s.pending := by
  refine ⟨?_, ?_, ?_, ?_, ?_, ?_, ?_, ?_, ?_, ?_, ?_, ?_, ?_, ?_, ?_, ?_, ?_, ?_, ?_, ?_, ?_, ?_, ?_, ?_, ?_⟩ <;> exact disarm_only _ (fun _ _ _ _ _ _ _ _ => rfl) cause s

theorem disarmStop_only {β : Type} (π : State → β) (hπ : ∀ s xgov xflt xtly xheads, π { s with gov := xgov, flt := xflt, tly := xtly, heads := xheads } = π s) (cause : Nat) (s : State) :
    π (disarmStop cause s) = π s := by
  unfold disarmStop; repeat' first | contradiction | (simp only [hπ, tlyTell_only π (fun s xflt xtly xheads => hπ s s.gov xflt xtly xheads), apply_ite π, ite_self]; done) | split | refine (foldl_same π _ (fun s x => ?_) _ _).trans ?_ | refine (elim_same π _ _ _ (fun x => ?_)).trans ?_ | dsimp only

@[simp] theorem disarmStop_frame (cause : Nat) (s : State) :
    (disarmStop cause s).dev = s.dev ∧ (disarmStop cause s).sal = s.sal ∧ (disarmStop cause s).map = s.map ∧
    (disarmStop cause s).drn = s.drn ∧ (disarmStop cause s).hrv = s.hrv ∧ (disarmStop cause s).fld = s.fld ∧
    (disarmStop cause s).bed = s.bed ∧ (disarmStop cause s).pip = s.pip ∧ (disarmStop cause s).sem = s.sem ∧
    (disarmStop cause s).pans = s.pans ∧ (disarmStop cause s).dmc = s.dmc ∧ (disarmStop cause s).trn = s.trn ∧
    (disarmStop cause s).thm = s.thm ∧ (disarmStop cause s).cel = s.cel ∧ (disarmStop cause s).upd = s.upd ∧
    (disarmStop cause s).key = s.key ∧ (disarmStop cause s).brl = s.brl ∧ (disarmStop cause s).svc = s.svc ∧
    (disarmStop cause s).pins = s.pins ∧ (disarmStop cause s).lay = s.lay ∧ (disarmStop cause s).jrn = s.jrn ∧
    (disarmStop cause s).replies = s.replies ∧ (disarmStop cause s).dram = s.dram ∧ (disarmStop cause s).poison = s.poison ∧
    (disarmStop cause s).serial = s.serial ∧ (disarmStop cause s).boot = s.boot ∧ (disarmStop cause s).free = s.free ∧
    (disarmStop cause s).pending = s.pending := by
  refine ⟨?_, ?_, ?_, ?_, ?_, ?_, ?_, ?_, ?_, ?_, ?_, ?_, ?_, ?_, ?_, ?_, ?_, ?_, ?_, ?_, ?_, ?_, ?_, ?_, ?_, ?_, ?_, ?_⟩ <;> exact disarmStop_only _ (fun _ _ _ _ _ => rfl) cause s

theorem dropHeads_only {β : Type} (π : State → β) (hπ : ∀ s xheads, π { s with heads := xheads } = π s) (s : State) :
    π (dropHeads s) = π s := by
  simp only [dropHeads, hπ, apply_ite π, ite_self]

@[simp] theorem dropHeads_frame (s : State) :
    (dropHeads s).dev = s.dev ∧ (dropHeads s).gov = s.gov ∧ (dropHeads s).flt = s.flt ∧ (dropHeads s).tly = s.tly ∧
    (dropHeads s).sal = s.sal ∧ (dropHeads s).map = s.map ∧ (dropHeads s).drn = s.drn ∧ (dropHeads s).hrv = s.hrv ∧
    (dropHeads s).fld = s.fld ∧ (dropHeads s).bed = s.bed ∧ (dropHeads s).pip = s.pip ∧ (dropHeads s).sem = s.sem ∧
    (dropHeads s).pans = s.pans ∧ (dropHeads s).dmc = s.dmc ∧ (dropHeads s).trn = s.trn ∧ (dropHeads s).thm = s.thm ∧
    (dropHeads s).cel = s.cel ∧ (dropHeads s).upd = s.upd ∧ (dropHeads s).key = s.key ∧ (dropHeads s).brl = s.brl ∧
    (dropHeads s).svc = s.svc ∧ (dropHeads s).pins = s.pins ∧ (dropHeads s).lay = s.lay ∧ (dropHeads s).jrn = s.jrn ∧
    (dropHeads s).replies = s.replies ∧ (dropHeads s).dram = s.dram ∧ (dropHeads s).poison = s.poison ∧
    (dropHeads s).serial = s.serial ∧ (dropHeads s).boot = s.boot ∧ (dropHeads s).free = s.free ∧ (dropHeads s).pending = s.pending := by
  refine ⟨?_, ?_, ?_, ?_, ?_, ?_, ?_, ?_, ?_, ?_, ?_, ?_, ?_, ?_, ?_, ?_, ?_, ?_, ?_, ?_, ?_, ?_, ?_, ?_, ?_, ?_, ?_, ?_, ?_, ?_, ?_⟩ <;> exact dropHeads_only _ (fun _ _ => rfl) s

theorem enterHalt_only {β : Type} (π : State → β) (hπ : ∀ s xdev xgov xflt xtly xsal xdrn xheads xthm xcel xpins xdram xpoison xfree, π { s with dev := xdev, gov := xgov, flt := xflt, tly := xtly, sal := xsal, drn := xdrn, heads := xheads, thm := xthm, cel := xcel, pins := xpins, dram := xdram, poison := xpoison, free := xfree } = π s) (kind : HaltKind) (s : State) :
    π (enterHalt kind s) = π s := by
  simp only [enterHalt, hπ, salCut_only π (fun s xsal xfree => hπ s s.dev s.gov s.flt s.tly xsal s.drn s.heads s.thm s.cel s.pins s.dram s.poison xfree), setErrN_only π (fun s xpins => hπ s s.dev s.gov s.flt s.tly s.sal s.drn s.heads s.thm s.cel xpins s.dram s.poison s.free), endPause_only π (fun s xflt xtly xdrn xheads => hπ s s.dev s.gov xflt xtly s.sal xdrn xheads s.thm s.cel s.pins s.dram s.poison s.free), disarmStop_only π (fun s xgov xflt xtly xheads => hπ s s.dev xgov xflt xtly s.sal s.drn xheads s.thm s.cel s.pins s.dram s.poison s.free), dropHeads_only π (fun s xheads => hπ s s.dev s.gov s.flt s.tly s.sal s.drn xheads s.thm s.cel s.pins s.dram s.poison s.free), apply_ite π, ite_self]

@[simp] theorem enterHalt_frame (kind : HaltKind) (s : State) :
    (enterHalt kind s).map = s.map ∧ (enterHalt kind s).hrv = s.hrv ∧ (enterHalt kind s).fld = s.fld ∧
    (enterHalt kind s).bed = s.bed ∧ (enterHalt kind s).pip = s.pip ∧ (enterHalt kind s).sem = s.sem ∧
    (enterHalt kind s).pans = s.pans ∧ (enterHalt kind s).dmc = s.dmc ∧ (enterHalt kind s).trn = s.trn ∧
    (enterHalt kind s).upd = s.upd ∧ (enterHalt kind s).key = s.key ∧ (enterHalt kind s).brl = s.brl ∧
    (enterHalt kind s).svc = s.svc ∧ (enterHalt kind s).lay = s.lay ∧ (enterHalt kind s).jrn = s.jrn ∧
    (enterHalt kind s).replies = s.replies ∧ (enterHalt kind s).serial = s.serial ∧ (enterHalt kind s).boot = s.boot ∧
    (enterHalt kind s).pending = s.pending := by
  refine ⟨?_, ?_, ?_, ?_, ?_, ?_, ?_, ?_, ?_, ?_, ?_, ?_, ?_, ?_, ?_, ?_, ?_, ?_, ?_⟩ <;> exact enterHalt_only _ (fun _ _ _ _ _ _ _ _ _ _ _ _ _ _ => rfl) kind s

theorem narrowRows_only {β : Type} (π : State → β) (hπ : ∀ s xbed, π { s with bed := xbed } = π s) (s : State) :
    π (narrowRows s) = π s := by
  unfold narrowRows; repeat' first | contradiction | (simp only [hπ, apply_ite π, ite_self]; done) | split | refine (foldl_same π _ (fun s x => ?_) _ _).trans ?_ | refine (elim_same π _ _ _ (fun x => ?_)).trans ?_ | dsimp only

@[simp] theorem narrowRows_frame (s : State) :
    (narrowRows s).dev = s.dev ∧ (narrowRows s).gov = s.gov ∧ (narrowRows s).flt = s.flt ∧ (narrowRows s).tly = s.tly ∧
    (narrowRows s).sal = s.sal ∧ (narrowRows s).map = s.map ∧ (narrowRows s).drn = s.drn ∧ (narrowRows s).hrv = s.hrv ∧
    (narrowRows s).fld = s.fld ∧ (narrowRows s).pip = s.pip ∧ (narrowRows s).heads = s.heads ∧ (narrowRows s).sem = s.sem ∧
    (narrowRows s).pans = s.pans ∧ (narrowRows s).dmc = s.dmc ∧ (narrowRows s).trn = s.trn ∧ (narrowRows s).thm = s.thm ∧
    (narrowRows s).cel = s.cel ∧ (narrowRows s).upd = s.upd ∧ (narrowRows s).key = s.key ∧ (narrowRows s).brl = s.brl ∧
    (narrowRows s).svc = s.svc ∧ (narrowRows s).pins = s.pins ∧ (narrowRows s).lay = s.lay ∧ (narrowRows s).jrn = s.jrn ∧
    (narrowRows s).replies = s.replies ∧ (narrowRows s).dram = s.dram ∧ (narrowRows s).poison = s.poison ∧
    (narrowRows s).serial = s.serial ∧ (narrowRows s).boot = s.boot ∧ (narrowRows s).free = s.free ∧
    (narrowRows s).pending = s.pending := by
  refine ⟨?_, ?_, ?_, ?_, ?_, ?_, ?_, ?_, ?_, ?_, ?_, ?_, ?_, ?_, ?_, ?_, ?_, ?_, ?_, ?_, ?_, ?_, ?_, ?_, ?_, ?_, ?_, ?_, ?_, ?_, ?_⟩ <;> exact narrowRows_only _ (fun _ _ => rfl) s

theorem excludeChannels_only {β : Type} (π : State → β) (hπ : ∀ s xmap xdrn xhrv xbed, π { s with map := xmap, drn := xdrn, hrv := xhrv, bed := xbed } = π s) (chs : List Nat) (cause : Nat) (s : State) :
    π (excludeChannels chs cause s) = π s := by
  unfold excludeChannels
  dsimp only
  refine (narrowRows_only π (fun s xbed => hπ s s.map s.drn s.hrv xbed) _).trans ?_
  refine (losePages_only π (fun s a b c d => hπ s a b c d) _ _).trans ?_
  exact foldl_same π _ (fun s x => hπ s s.map s.drn _ _) _ _

@[simp] theorem excludeChannels_frame (chs : List Nat) (cause : Nat) (s : State) :
    (excludeChannels chs cause s).dev = s.dev ∧ (excludeChannels chs cause s).gov = s.gov ∧
    (excludeChannels chs cause s).flt = s.flt ∧ (excludeChannels chs cause s).tly = s.tly ∧
    (excludeChannels chs cause s).sal = s.sal ∧ (excludeChannels chs cause s).fld = s.fld ∧
    (excludeChannels chs cause s).pip = s.pip ∧ (excludeChannels chs cause s).heads = s.heads ∧
    (excludeChannels chs cause s).sem = s.sem ∧ (excludeChannels chs cause s).pans = s.pans ∧
    (excludeChannels chs cause s).dmc = s.dmc ∧ (excludeChannels chs cause s).trn = s.trn ∧
    (excludeChannels chs cause s).thm = s.thm ∧ (excludeChannels chs cause s).cel = s.cel ∧
    (excludeChannels chs cause s).upd = s.upd ∧ (excludeChannels chs cause s).key = s.key ∧
    (excludeChannels chs cause s).brl = s.brl ∧ (excludeChannels chs cause s).svc = s.svc ∧
    (excludeChannels chs cause s).pins = s.pins ∧ (excludeChannels chs cause s).lay = s.lay ∧
    (excludeChannels chs cause s).jrn = s.jrn ∧ (excludeChannels chs cause s).replies = s.replies ∧
    (excludeChannels chs cause s).dram = s.dram ∧ (excludeChannels chs cause s).poison = s.poison ∧
    (excludeChannels chs cause s).serial = s.serial ∧ (excludeChannels chs cause s).boot = s.boot ∧
    (excludeChannels chs cause s).free = s.free ∧ (excludeChannels chs cause s).pending = s.pending := by
  refine ⟨?_, ?_, ?_, ?_, ?_, ?_, ?_, ?_, ?_, ?_, ?_, ?_, ?_, ?_, ?_, ?_, ?_, ?_, ?_, ?_, ?_, ?_, ?_, ?_, ?_, ?_, ?_, ?_⟩ <;> exact excludeChannels_only _ (fun _ _ _ _ _ => rfl) chs cause s

theorem salvage_only {β : Type} (π : State → β) (hπ : ∀ s xdev xmap xdrn xhrv xbed xsvc, π { s with dev := xdev, map := xmap, drn := xdrn, hrv := xhrv, bed := xbed, svc := xsvc } = π s) (code : Nat) (unit : Nat) (s : State) :
    π (salvage code unit s) = π s := by
  unfold salvage
  split
  · rfl
  · dsimp only
    split
    · exact (excludeChannels_only π (fun s a b c d => hπ s s.dev a b c d s.svc) _ _ _).trans (hπ s _ s.map s.drn _ s.bed _)
    · split
      · exact (excludeChannels_only π (fun s a b c d => hπ s s.dev a b c d s.svc) _ _ _).trans (hπ s _ s.map s.drn _ s.bed _)
      · split
        · refine (hπ (List.foldl _ _ _) _ _ _ _ _ _).trans ?_
          refine (foldl_same π _ (fun s g => abandonOp_only π (fun s a b c => hπ s s.dev a b s.hrv c s.svc) _ _) _ _).trans ?_
          exact hπ s _ s.map s.drn _ s.bed _
        · split
          · exact (losePages_only π (fun s a b c d => hπ s s.dev a b c d s.svc) _ _).trans (hπ s _ s.map s.drn _ s.bed _)
          · split <;> exact hπ s _ s.map s.drn _ s.bed _

@[simp] theorem salvage_frame (code : Nat) (unit : Nat) (s : State) :
    (salvage code unit s).gov = s.gov ∧ (salvage code unit s).flt = s.flt ∧ (salvage code unit s).tly = s.tly ∧
    (salvage code unit s).sal = s.sal ∧ (salvage code unit s).fld = s.fld ∧ (salvage code unit s).pip = s.pip ∧
    (salvage code unit s).heads = s.heads ∧ (salvage code unit s).sem = s.sem ∧ (salvage code unit s).pans = s.pans ∧
    (salvage code unit s).dmc = s.dmc ∧ (salvage code unit s).trn = s.trn ∧ (salvage code unit s).thm = s.thm ∧
    (salvage code unit s).cel = s.cel ∧ (salvage code unit s).upd = s.upd ∧ (salvage code unit s).key = s.key ∧
    (salvage code unit s).brl = s.brl ∧ (salvage code unit s).pins = s.pins ∧ (salvage code unit s).lay = s.lay ∧
    (salvage code unit s).jrn = s.jrn ∧ (salvage code unit s).replies = s.replies ∧ (salvage code unit s).dram = s.dram ∧
    (salvage code unit s).poison = s.poison ∧ (salvage code unit s).serial = s.serial ∧ (salvage code unit s).boot = s.boot ∧
    (salvage code unit s).free = s.free ∧ (salvage code unit s).pending = s.pending := by
  refine ⟨?_, ?_, ?_, ?_, ?_, ?_, ?_, ?_, ?_, ?_, ?_, ?_, ?_, ?_, ?_, ?_, ?_, ?_, ?_, ?_, ?_, ?_, ?_, ?_, ?_, ?_⟩ <;> exact salvage_only _ (fun _ _ _ _ _ _ _ => rfl) code unit s

theorem headDown_only {β : Type} (π : State → β) (hπ : ∀ s xfld xheads xkey xlay, π { s with fld := xfld, heads := xheads, key := xkey, lay := xlay } = π s) (h : Head) (reset : Bool) (s : State) :
    π (headDown h reset s) = π s := by
  unfold headDown; repeat' first | contradiction | (simp only [hπ, apply_ite π, ite_self]; done) | split | refine (foldl_same π _ (fun s x => ?_) _ _).trans ?_ | refine (elim_same π _ _ _ (fun x => ?_)).trans ?_ | dsimp only

@[simp] theorem headDown_frame (h : Head) (reset : Bool) (s : State) :
    (headDown h reset s).dev = s.dev ∧ (headDown h reset s).gov = s.gov ∧ (headDown h reset s).flt = s.flt ∧
    (headDown h reset s).tly = s.tly ∧ (headDown h reset s).sal = s.sal ∧ (headDown h reset s).map = s.map ∧
    (headDown h reset s).drn = s.drn ∧ (headDown h reset s).hrv = s.hrv ∧ (headDown h reset s).bed = s.bed ∧
    (headDown h reset s).pip = s.pip ∧ (headDown h reset s).sem = s.sem ∧ (headDown h reset s).pans = s.pans ∧
    (headDown h reset s).dmc = s.dmc ∧ (headDown h reset s).trn = s.trn ∧ (headDown h reset s).thm = s.thm ∧
    (headDown h reset s).cel = s.cel ∧ (headDown h reset s).upd = s.upd ∧ (headDown h reset s).brl = s.brl ∧
    (headDown h reset s).svc = s.svc ∧ (headDown h reset s).pins = s.pins ∧ (headDown h reset s).jrn = s.jrn ∧
    (headDown h reset s).replies = s.replies ∧ (headDown h reset s).dram = s.dram ∧ (headDown h reset s).poison = s.poison ∧
    (headDown h reset s).serial = s.serial ∧ (headDown h reset s).boot = s.boot ∧ (headDown h reset s).free = s.free ∧
    (headDown h reset s).pending = s.pending := by
  refine ⟨?_, ?_, ?_, ?_, ?_, ?_, ?_, ?_, ?_, ?_, ?_, ?_, ?_, ?_, ?_, ?_, ?_, ?_, ?_, ?_, ?_, ?_, ?_, ?_, ?_, ?_, ?_, ?_⟩ <;> exact headDown_only _ (fun _ _ _ _ _ => rfl) h reset s

theorem blockReset_only {β : Type} (π : State → β) (hπ : ∀ s xflt xtly xmap xdrn xhrv xfld xbed xheads xkey xlay, π { s with flt := xflt, tly := xtly, map := xmap, drn := xdrn, hrv := xhrv, fld := xfld, bed := xbed, heads := xheads, key := xkey, lay := xlay } = π s) (b : FltBlock) (s : State) :
    π (blockReset b s) = π s := by
  unfold blockReset
  split
  · rfl
  · dsimp only
    have h0 : ∀ x, π { s with flt := x } = π s := fun x => hπ s x s.tly s.map s.drn s.hrv s.fld s.bed s.heads s.key s.lay
    split
    · exact (headDown_only π (fun s a b c d => hπ s s.flt s.tly s.map s.drn s.hrv a s.bed b c d) _ _ _).trans (h0 _)
    · exact (headDown_only π (fun s a b c d => hπ s s.flt s.tly s.map s.drn s.hrv a s.bed b c d) _ _ _).trans (h0 _)
    · exact hπ s _ _ s.map s.drn s.hrv s.fld s.bed s.heads s.key s.lay
    · exact (losePages_only π (fun s a b c d => hπ s s.flt s.tly a b c s.fld d s.heads s.key s.lay) _ _).trans (h0 _)
    · exact (foldl_same π _ (fun s g => abandonOp_only π (fun s a b c => hπ s s.flt s.tly a b s.hrv s.fld c s.heads s.key s.lay) _ _) _ _).trans (h0 _)
    · exact hπ s _ s.tly s.map s.drn s.hrv s.fld s.bed _ s.key s.lay
    · exact h0 _

@[simp] theorem blockReset_frame (b : FltBlock) (s : State) :
    (blockReset b s).dev = s.dev ∧ (blockReset b s).gov = s.gov ∧ (blockReset b s).sal = s.sal ∧ (blockReset b s).pip = s.pip ∧
    (blockReset b s).sem = s.sem ∧ (blockReset b s).pans = s.pans ∧ (blockReset b s).dmc = s.dmc ∧ (blockReset b s).trn = s.trn ∧
    (blockReset b s).thm = s.thm ∧ (blockReset b s).cel = s.cel ∧ (blockReset b s).upd = s.upd ∧ (blockReset b s).brl = s.brl ∧
    (blockReset b s).svc = s.svc ∧ (blockReset b s).pins = s.pins ∧ (blockReset b s).jrn = s.jrn ∧
    (blockReset b s).replies = s.replies ∧ (blockReset b s).dram = s.dram ∧ (blockReset b s).poison = s.poison ∧
    (blockReset b s).serial = s.serial ∧ (blockReset b s).boot = s.boot ∧ (blockReset b s).free = s.free ∧
    (blockReset b s).pending = s.pending := by
  refine ⟨?_, ?_, ?_, ?_, ?_, ?_, ?_, ?_, ?_, ?_, ?_, ?_, ?_, ?_, ?_, ?_, ?_, ?_, ?_, ?_, ?_, ?_⟩ <;> exact blockReset_only _ (fun _ _ _ _ _ _ _ _ _ _ _ => rfl) b s

theorem fltFall_only {β : Type} (π : State → β) (hπ : ∀ s xflt, π { s with flt := xflt } = π s) (src : Nat) (s : State) :
    π (fltFall src s) = π s := by
  simp only [fltFall, hπ, apply_ite π, ite_self]

@[simp] theorem fltFall_frame (src : Nat) (s : State) :
    (fltFall src s).dev = s.dev ∧ (fltFall src s).gov = s.gov ∧ (fltFall src s).tly = s.tly ∧ (fltFall src s).sal = s.sal ∧
    (fltFall src s).map = s.map ∧ (fltFall src s).drn = s.drn ∧ (fltFall src s).hrv = s.hrv ∧ (fltFall src s).fld = s.fld ∧
    (fltFall src s).bed = s.bed ∧ (fltFall src s).pip = s.pip ∧ (fltFall src s).heads = s.heads ∧ (fltFall src s).sem = s.sem ∧
    (fltFall src s).pans = s.pans ∧ (fltFall src s).dmc = s.dmc ∧ (fltFall src s).trn = s.trn ∧ (fltFall src s).thm = s.thm ∧
    (fltFall src s).cel = s.cel ∧ (fltFall src s).upd = s.upd ∧ (fltFall src s).key = s.key ∧ (fltFall src s).brl = s.brl ∧
    (fltFall src s).svc = s.svc ∧ (fltFall src s).pins = s.pins ∧ (fltFall src s).lay = s.lay ∧ (fltFall src s).jrn = s.jrn ∧
    (fltFall src s).replies = s.replies ∧ (fltFall src s).dram = s.dram ∧ (fltFall src s).poison = s.poison ∧
    (fltFall src s).serial = s.serial ∧ (fltFall src s).boot = s.boot ∧ (fltFall src s).free = s.free ∧
    (fltFall src s).pending = s.pending := by
  refine ⟨?_, ?_, ?_, ?_, ?_, ?_, ?_, ?_, ?_, ?_, ?_, ?_, ?_, ?_, ?_, ?_, ?_, ?_, ?_, ?_, ?_, ?_, ?_, ?_, ?_, ?_, ?_, ?_, ?_, ?_, ?_⟩ <;> exact fltFall_only _ (fun _ _ => rfl) src s

end Sys2Proof.Machine
end

