-- ==== Sys2Proof/Laws/FramesB.lean ====
section
/-!
SUPPORT. What each shared operation leaves as it was: operations of energy, DRAM, store, save and head operations.
-/
namespace Sys2Proof.Machine
set_option linter.unusedSimpArgs false

theorem dchanUpd_only {β : Type} (π : State → β) (hπ : ∀ s xdmc, π { s with dmc := xdmc } = π s) (c : Nat) (f : DmcChan → DmcChan) (s : State) :
    π (dchanUpd c f s) = π s := by
  simp only [dchanUpd, hπ, apply_ite π, ite_self]

@[simp] theorem dchanUpd_frame (c : Nat) (f : DmcChan → DmcChan) (s : State) :
    (dchanUpd c f s).dev = s.dev ∧ (dchanUpd c f s).gov = s.gov ∧ (dchanUpd c f s).flt = s.flt ∧ (dchanUpd c f s).tly = s.tly ∧
    (dchanUpd c f s).sal = s.sal ∧ (dchanUpd c f s).map = s.map ∧ (dchanUpd c f s).drn = s.drn ∧ (dchanUpd c f s).hrv = s.hrv ∧
    (dchanUpd c f s).fld = s.fld ∧ (dchanUpd c f s).bed = s.bed ∧ (dchanUpd c f s).pip = s.pip ∧ (dchanUpd c f s).heads = s.heads ∧
    (dchanUpd c f s).sem = s.sem ∧ (dchanUpd c f s).pans = s.pans ∧ (dchanUpd c f s).trn = s.trn ∧ (dchanUpd c f s).thm = s.thm ∧
    (dchanUpd c f s).cel = s.cel ∧ (dchanUpd c f s).upd = s.upd ∧ (dchanUpd c f s).key = s.key ∧ (dchanUpd c f s).brl = s.brl ∧
    (dchanUpd c f s).svc = s.svc ∧ (dchanUpd c f s).pins = s.pins ∧ (dchanUpd c f s).lay = s.lay ∧ (dchanUpd c f s).jrn = s.jrn ∧
    (dchanUpd c f s).replies = s.replies ∧ (dchanUpd c f s).dram = s.dram ∧ (dchanUpd c f s).poison = s.poison ∧
    (dchanUpd c f s).serial = s.serial ∧ (dchanUpd c f s).boot = s.boot ∧ (dchanUpd c f s).free = s.free ∧
    (dchanUpd c f s).pending = s.pending := by
  refine ⟨?_, ?_, ?_, ?_, ?_, ?_, ?_, ?_, ?_, ?_, ?_, ?_, ?_, ?_, ?_, ?_, ?_, ?_, ?_, ?_, ?_, ?_, ?_, ?_, ?_, ?_, ?_, ?_, ?_, ?_, ?_⟩ <;> exact dchanUpd_only _ (fun _ _ => rfl) c f s

theorem wakeChan_only {β : Type} (π : State → β) (hπ : ∀ s xdmc, π { s with dmc := xdmc } = π s) (c : Nat) (s : State) :
    π (wakeChan c s) = π s := by
  unfold wakeChan; repeat' first | contradiction | (simp only [hπ, dchanUpd_only π hπ, apply_ite π, ite_self]; done) | split | refine (foldl_same π _ (fun s x => ?_) _ _).trans ?_ | refine (elim_same π _ _ _ (fun x => ?_)).trans ?_ | dsimp only

@[simp] theorem wakeChan_frame (c : Nat) (s : State) :
    (wakeChan c s).dev = s.dev ∧ (wakeChan c s).gov = s.gov ∧ (wakeChan c s).flt = s.flt ∧ (wakeChan c s).tly = s.tly ∧
    (wakeChan c s).sal = s.sal ∧ (wakeChan c s).map = s.map ∧ (wakeChan c s).drn = s.drn ∧ (wakeChan c s).hrv = s.hrv ∧
    (wakeChan c s).fld = s.fld ∧ (wakeChan c s).bed = s.bed ∧ (wakeChan c s).pip = s.pip ∧ (wakeChan c s).heads = s.heads ∧
    (wakeChan c s).sem = s.sem ∧ (wakeChan c s).pans = s.pans ∧ (wakeChan c s).trn = s.trn ∧ (wakeChan c s).thm = s.thm ∧
    (wakeChan c s).cel = s.cel ∧ (wakeChan c s).upd = s.upd ∧ (wakeChan c s).key = s.key ∧ (wakeChan c s).brl = s.brl ∧
    (wakeChan c s).svc = s.svc ∧ (wakeChan c s).pins = s.pins ∧ (wakeChan c s).lay = s.lay ∧ (wakeChan c s).jrn = s.jrn ∧
    (wakeChan c s).replies = s.replies ∧ (wakeChan c s).dram = s.dram ∧ (wakeChan c s).poison = s.poison ∧
    (wakeChan c s).serial = s.serial ∧ (wakeChan c s).boot = s.boot ∧ (wakeChan c s).free = s.free ∧
    (wakeChan c s).pending = s.pending := by
  refine ⟨?_, ?_, ?_, ?_, ?_, ?_, ?_, ?_, ?_, ?_, ?_, ?_, ?_, ?_, ?_, ?_, ?_, ?_, ?_, ?_, ?_, ?_, ?_, ?_, ?_, ?_, ?_, ?_, ?_, ?_, ?_⟩ <;> exact wakeChan_only _ (fun _ _ => rfl) c s

theorem countL3_only {β : Type} (π : State → β) (hπ : ∀ s xdmc, π { s with dmc := xdmc } = π s) (rq : Nat) (us : Nat) (ns : Nat) (n : Nat) (s : State) :
    π (countL3 rq us ns n s) = π s := by
  unfold countL3; repeat' first | contradiction | (simp only [hπ, apply_ite π, ite_self]; done) | split | refine (foldl_same π _ (fun s x => ?_) _ _).trans ?_ | refine (elim_same π _ _ _ (fun x => ?_)).trans ?_ | dsimp only

@[simp] theorem countL3_frame (rq : Nat) (us : Nat) (ns : Nat) (n : Nat) (s : State) :
    (countL3 rq us ns n s).dev = s.dev ∧ (countL3 rq us ns n s).gov = s.gov ∧ (countL3 rq us ns n s).flt = s.flt ∧
    (countL3 rq us ns n s).tly = s.tly ∧ (countL3 rq us ns n s).sal = s.sal ∧ (countL3 rq us ns n s).map = s.map ∧
    (countL3 rq us ns n s).drn = s.drn ∧ (countL3 rq us ns n s).hrv = s.hrv ∧ (countL3 rq us ns n s).fld = s.fld ∧
    (countL3 rq us ns n s).bed = s.bed ∧ (countL3 rq us ns n s).pip = s.pip ∧ (countL3 rq us ns n s).heads = s.heads ∧
    (countL3 rq us ns n s).sem = s.sem ∧ (countL3 rq us ns n s).pans = s.pans ∧ (countL3 rq us ns n s).trn = s.trn ∧
    (countL3 rq us ns n s).thm = s.thm ∧ (countL3 rq us ns n s).cel = s.cel ∧ (countL3 rq us ns n s).upd = s.upd ∧
    (countL3 rq us ns n s).key = s.key ∧ (countL3 rq us ns n s).brl = s.brl ∧ (countL3 rq us ns n s).svc = s.svc ∧
    (countL3 rq us ns n s).pins = s.pins ∧ (countL3 rq us ns n s).lay = s.lay ∧ (countL3 rq us ns n s).jrn = s.jrn ∧
    (countL3 rq us ns n s).replies = s.replies ∧ (countL3 rq us ns n s).dram = s.dram ∧ (countL3 rq us ns n s).poison = s.poison ∧
    (countL3 rq us ns n s).serial = s.serial ∧ (countL3 rq us ns n s).boot = s.boot ∧ (countL3 rq us ns n s).free = s.free ∧
    (countL3 rq us ns n s).pending = s.pending := by
  refine ⟨?_, ?_, ?_, ?_, ?_, ?_, ?_, ?_, ?_, ?_, ?_, ?_, ?_, ?_, ?_, ?_, ?_, ?_, ?_, ?_, ?_, ?_, ?_, ?_, ?_, ?_, ?_, ?_, ?_, ?_, ?_⟩ <;> exact countL3_only _ (fun _ _ => rfl) rq us ns n s

theorem touchRow_only {β : Type} (π : State → β) (hπ : ∀ s xdmc, π { s with dmc := xdmc } = π s) (rq : Nat) (line : Nat) (s : State) :
    π (touchRow rq line s) = π s := by
  unfold touchRow; repeat' first | contradiction | with_reducible rfl | with_reducible refine (dchanUpd_only π (fun s xdmc => hπ s xdmc) _ _ _).trans ?_ | with_reducible refine (foldl_same π _ (fun s x => ?_) _ _).trans ?_ | with_reducible refine (elim_same π _ _ _ (fun x => ?_)).trans ?_ | split | with_reducible refine (hπ _ _).trans ?_ | dsimp only

@[simp] theorem touchRow_frame (rq : Nat) (line : Nat) (s : State) :
    (touchRow rq line s).dev = s.dev ∧ (touchRow rq line s).gov = s.gov ∧ (touchRow rq line s).flt = s.flt ∧
    (touchRow rq line s).tly = s.tly ∧ (touchRow rq line s).sal = s.sal ∧ (touchRow rq line s).map = s.map ∧
    (touchRow rq line s).drn = s.drn ∧ (touchRow rq line s).hrv = s.hrv ∧ (touchRow rq line s).fld = s.fld ∧
    (touchRow rq line s).bed = s.bed ∧ (touchRow rq line s).pip = s.pip ∧ (touchRow rq line s).heads = s.heads ∧
    (touchRow rq line s).sem = s.sem ∧ (touchRow rq line s).pans = s.pans ∧ (touchRow rq line s).trn = s.trn ∧
    (touchRow rq line s).thm = s.thm ∧ (touchRow rq line s).cel = s.cel ∧ (touchRow rq line s).upd = s.upd ∧
    (touchRow rq line s).key = s.key ∧ (touchRow rq line s).brl = s.brl ∧ (touchRow rq line s).svc = s.svc ∧
    (touchRow rq line s).pins = s.pins ∧ (touchRow rq line s).lay = s.lay ∧ (touchRow rq line s).jrn = s.jrn ∧
    (touchRow rq line s).replies = s.replies ∧ (touchRow rq line s).dram = s.dram ∧ (touchRow rq line s).poison = s.poison ∧
    (touchRow rq line s).serial = s.serial ∧ (touchRow rq line s).boot = s.boot ∧ (touchRow rq line s).free = s.free ∧
    (touchRow rq line s).pending = s.pending := by
  refine ⟨?_, ?_, ?_, ?_, ?_, ?_, ?_, ?_, ?_, ?_, ?_, ?_, ?_, ?_, ?_, ?_, ?_, ?_, ?_, ?_, ?_, ?_, ?_, ?_, ?_, ?_, ?_, ?_, ?_, ?_, ?_⟩ <;> exact touchRow_only _ (fun _ _ => rfl) rq line s

theorem issueColumn_only {β : Type} (π : State → β) (hπ : ∀ s xdmc, π { s with dmc := xdmc } = π s) (c : Nat) (ns : Nat) (q : ColReq) (l : List ColReq) (s : State) :
    π (issueColumn c ns q l s) = π s := by
  unfold issueColumn; repeat' first | contradiction | (simp only [hπ, dchanUpd_only π hπ, touchRow_only π hπ, apply_ite π, ite_self]; done) | split | refine (foldl_same π _ (fun s x => ?_) _ _).trans ?_ | refine (elim_same π _ _ _ (fun x => ?_)).trans ?_ | dsimp only

@[simp] theorem issueColumn_frame (c : Nat) (ns : Nat) (q : ColReq) (l : List ColReq) (s : State) :
    (issueColumn c ns q l s).dev = s.dev ∧ (issueColumn c ns q l s).gov = s.gov ∧ (issueColumn c ns q l s).flt = s.flt ∧
    (issueColumn c ns q l s).tly = s.tly ∧ (issueColumn c ns q l s).sal = s.sal ∧ (issueColumn c ns q l s).map = s.map ∧
    (issueColumn c ns q l s).drn = s.drn ∧ (issueColumn c ns q l s).hrv = s.hrv ∧ (issueColumn c ns q l s).fld = s.fld ∧
    (issueColumn c ns q l s).bed = s.bed ∧ (issueColumn c ns q l s).pip = s.pip ∧ (issueColumn c ns q l s).heads = s.heads ∧
    (issueColumn c ns q l s).sem = s.sem ∧ (issueColumn c ns q l s).pans = s.pans ∧ (issueColumn c ns q l s).trn = s.trn ∧
    (issueColumn c ns q l s).thm = s.thm ∧ (issueColumn c ns q l s).cel = s.cel ∧ (issueColumn c ns q l s).upd = s.upd ∧
    (issueColumn c ns q l s).key = s.key ∧ (issueColumn c ns q l s).brl = s.brl ∧ (issueColumn c ns q l s).svc = s.svc ∧
    (issueColumn c ns q l s).pins = s.pins ∧ (issueColumn c ns q l s).lay = s.lay ∧ (issueColumn c ns q l s).jrn = s.jrn ∧
    (issueColumn c ns q l s).replies = s.replies ∧ (issueColumn c ns q l s).dram = s.dram ∧
    (issueColumn c ns q l s).poison = s.poison ∧ (issueColumn c ns q l s).serial = s.serial ∧
    (issueColumn c ns q l s).boot = s.boot ∧ (issueColumn c ns q l s).free = s.free ∧ (issueColumn c ns q l s).pending = s.pending := by
  refine ⟨?_, ?_, ?_, ?_, ?_, ?_, ?_, ?_, ?_, ?_, ?_, ?_, ?_, ?_, ?_, ?_, ?_, ?_, ?_, ?_, ?_, ?_, ?_, ?_, ?_, ?_, ?_, ?_, ?_, ?_, ?_⟩ <;> exact issueColumn_only _ (fun _ _ => rfl) c ns q l s

theorem queueLine_only {β : Type} (π : State → β) (hπ : ∀ s xdmc, π { s with dmc := xdmc } = π s) (rq : Nat) (line : Nat) (s : State) :
    π (queueLine rq line s) = π s := by
  simp only [queueLine, hπ, dchanUpd_only π hπ, wakeChan_only π hπ, apply_ite π, ite_self]

@[simp] theorem queueLine_frame (rq : Nat) (line : Nat) (s : State) :
    (queueLine rq line s).dev = s.dev ∧ (queueLine rq line s).gov = s.gov ∧ (queueLine rq line s).flt = s.flt ∧
    (queueLine rq line s).tly = s.tly ∧ (queueLine rq line s).sal = s.sal ∧ (queueLine rq line s).map = s.map ∧
    (queueLine rq line s).drn = s.drn ∧ (queueLine rq line s).hrv = s.hrv ∧ (queueLine rq line s).fld = s.fld ∧
    (queueLine rq line s).bed = s.bed ∧ (queueLine rq line s).pip = s.pip ∧ (queueLine rq line s).heads = s.heads ∧
    (queueLine rq line s).sem = s.sem ∧ (queueLine rq line s).pans = s.pans ∧ (queueLine rq line s).trn = s.trn ∧
    (queueLine rq line s).thm = s.thm ∧ (queueLine rq line s).cel = s.cel ∧ (queueLine rq line s).upd = s.upd ∧
    (queueLine rq line s).key = s.key ∧ (queueLine rq line s).brl = s.brl ∧ (queueLine rq line s).svc = s.svc ∧
    (queueLine rq line s).pins = s.pins ∧ (queueLine rq line s).lay = s.lay ∧ (queueLine rq line s).jrn = s.jrn ∧
    (queueLine rq line s).replies = s.replies ∧ (queueLine rq line s).dram = s.dram ∧ (queueLine rq line s).poison = s.poison ∧
    (queueLine rq line s).serial = s.serial ∧ (queueLine rq line s).boot = s.boot ∧ (queueLine rq line s).free = s.free ∧
    (queueLine rq line s).pending = s.pending := by
  refine ⟨?_, ?_, ?_, ?_, ?_, ?_, ?_, ?_, ?_, ?_, ?_, ?_, ?_, ?_, ?_, ?_, ?_, ?_, ?_, ?_, ?_, ?_, ?_, ?_, ?_, ?_, ?_, ?_, ?_, ?_, ?_⟩ <;> exact queueLine_only _ (fun _ _ => rfl) rq line s

theorem tickUpd_only {β : Type} (π : State → β) (hπ : ∀ s xdrn, π { s with drn := xdrn } = π s) (f : TickBytes → TickBytes) (s : State) :
    π (tickUpd f s) = π s := by
  simp only [tickUpd, hπ, apply_ite π, ite_self]

@[simp] theorem tickUpd_frame (f : TickBytes → TickBytes) (s : State) :
    (tickUpd f s).dev = s.dev ∧ (tickUpd f s).gov = s.gov ∧ (tickUpd f s).flt = s.flt ∧ (tickUpd f s).tly = s.tly ∧
    (tickUpd f s).sal = s.sal ∧ (tickUpd f s).map = s.map ∧ (tickUpd f s).hrv = s.hrv ∧ (tickUpd f s).fld = s.fld ∧
    (tickUpd f s).bed = s.bed ∧ (tickUpd f s).pip = s.pip ∧ (tickUpd f s).heads = s.heads ∧ (tickUpd f s).sem = s.sem ∧
    (tickUpd f s).pans = s.pans ∧ (tickUpd f s).dmc = s.dmc ∧ (tickUpd f s).trn = s.trn ∧ (tickUpd f s).thm = s.thm ∧
    (tickUpd f s).cel = s.cel ∧ (tickUpd f s).upd = s.upd ∧ (tickUpd f s).key = s.key ∧ (tickUpd f s).brl = s.brl ∧
    (tickUpd f s).svc = s.svc ∧ (tickUpd f s).pins = s.pins ∧ (tickUpd f s).lay = s.lay ∧ (tickUpd f s).jrn = s.jrn ∧
    (tickUpd f s).replies = s.replies ∧ (tickUpd f s).dram = s.dram ∧ (tickUpd f s).poison = s.poison ∧
    (tickUpd f s).serial = s.serial ∧ (tickUpd f s).boot = s.boot ∧ (tickUpd f s).free = s.free ∧ (tickUpd f s).pending = s.pending := by
  refine ⟨?_, ?_, ?_, ?_, ?_, ?_, ?_, ?_, ?_, ?_, ?_, ?_, ?_, ?_, ?_, ?_, ?_, ?_, ?_, ?_, ?_, ?_, ?_, ?_, ?_, ?_, ?_, ?_, ?_, ?_, ?_⟩ <;> exact tickUpd_only _ (fun _ _ => rfl) f s

theorem queueGranule_only {β : Type} (π : State → β) (hπ : ∀ s xdrn xdmc, π { s with drn := xdrn, dmc := xdmc } = π s) (g : Nat) (s : State) :
    π (queueGranule g s) = π s := by
  unfold queueGranule; repeat' first | contradiction | with_reducible rfl | with_reducible refine (queueLine_only π (fun s xdmc => hπ s s.drn xdmc) _ _ _).trans ?_ | with_reducible refine (tickUpd_only π (fun s xdrn => hπ s xdrn s.dmc) _ _).trans ?_ | with_reducible refine (foldl_same π _ (fun s x => ?_) _ _).trans ?_ | with_reducible refine (elim_same π _ _ _ (fun x => ?_)).trans ?_ | split | with_reducible refine (hπ _ _ _).trans ?_ | dsimp only

@[simp] theorem queueGranule_frame (g : Nat) (s : State) :
    (queueGranule g s).dev = s.dev ∧ (queueGranule g s).gov = s.gov ∧ (queueGranule g s).flt = s.flt ∧
    (queueGranule g s).tly = s.tly ∧ (queueGranule g s).sal = s.sal ∧ (queueGranule g s).map = s.map ∧
    (queueGranule g s).hrv = s.hrv ∧ (queueGranule g s).fld = s.fld ∧ (queueGranule g s).bed = s.bed ∧
    (queueGranule g s).pip = s.pip ∧ (queueGranule g s).heads = s.heads ∧ (queueGranule g s).sem = s.sem ∧
    (queueGranule g s).pans = s.pans ∧ (queueGranule g s).trn = s.trn ∧ (queueGranule g s).thm = s.thm ∧
    (queueGranule g s).cel = s.cel ∧ (queueGranule g s).upd = s.upd ∧ (queueGranule g s).key = s.key ∧
    (queueGranule g s).brl = s.brl ∧ (queueGranule g s).svc = s.svc ∧ (queueGranule g s).pins = s.pins ∧
    (queueGranule g s).lay = s.lay ∧ (queueGranule g s).jrn = s.jrn ∧ (queueGranule g s).replies = s.replies ∧
    (queueGranule g s).dram = s.dram ∧ (queueGranule g s).poison = s.poison ∧ (queueGranule g s).serial = s.serial ∧
    (queueGranule g s).boot = s.boot ∧ (queueGranule g s).free = s.free ∧ (queueGranule g s).pending = s.pending := by
  refine ⟨?_, ?_, ?_, ?_, ?_, ?_, ?_, ?_, ?_, ?_, ?_, ?_, ?_, ?_, ?_, ?_, ?_, ?_, ?_, ?_, ?_, ?_, ?_, ?_, ?_, ?_, ?_, ?_, ?_, ?_⟩ <;> exact queueGranule_only _ (fun _ _ _ => rfl) g s

theorem stampOverflow_only {β : Type} (π : State → β) (hπ : ∀ s xheads, π { s with heads := xheads } = π s) (s : State) :
    π (stampOverflow s) = π s := by
  unfold stampOverflow; repeat' first | contradiction | (simp only [hπ, apply_ite π, ite_self]; done) | split | refine (foldl_same π _ (fun s x => ?_) _ _).trans ?_ | refine (elim_same π _ _ _ (fun x => ?_)).trans ?_ | dsimp only

@[simp] theorem stampOverflow_frame (s : State) :
    (stampOverflow s).dev = s.dev ∧ (stampOverflow s).gov = s.gov ∧ (stampOverflow s).flt = s.flt ∧ (stampOverflow s).tly = s.tly ∧
    (stampOverflow s).sal = s.sal ∧ (stampOverflow s).map = s.map ∧ (stampOverflow s).drn = s.drn ∧ (stampOverflow s).hrv = s.hrv ∧
    (stampOverflow s).fld = s.fld ∧ (stampOverflow s).bed = s.bed ∧ (stampOverflow s).pip = s.pip ∧ (stampOverflow s).sem = s.sem ∧
    (stampOverflow s).pans = s.pans ∧ (stampOverflow s).dmc = s.dmc ∧ (stampOverflow s).trn = s.trn ∧
    (stampOverflow s).thm = s.thm ∧ (stampOverflow s).cel = s.cel ∧ (stampOverflow s).upd = s.upd ∧ (stampOverflow s).key = s.key ∧
    (stampOverflow s).brl = s.brl ∧ (stampOverflow s).svc = s.svc ∧ (stampOverflow s).pins = s.pins ∧
    (stampOverflow s).lay = s.lay ∧ (stampOverflow s).jrn = s.jrn ∧ (stampOverflow s).replies = s.replies ∧
    (stampOverflow s).dram = s.dram ∧ (stampOverflow s).poison = s.poison ∧ (stampOverflow s).serial = s.serial ∧
    (stampOverflow s).boot = s.boot ∧ (stampOverflow s).free = s.free ∧ (stampOverflow s).pending = s.pending := by
  refine ⟨?_, ?_, ?_, ?_, ?_, ?_, ?_, ?_, ?_, ?_, ?_, ?_, ?_, ?_, ?_, ?_, ?_, ?_, ?_, ?_, ?_, ?_, ?_, ?_, ?_, ?_, ?_, ?_, ?_, ?_, ?_⟩ <;> exact stampOverflow_only _ (fun _ _ => rfl) s

theorem setLost_only {β : Type} (π : State → β) (hπ : ∀ s xdrn xfld xheads xdmc xpoison, π { s with drn := xdrn, fld := xfld, heads := xheads, dmc := xdmc, poison := xpoison } = π s) (g : Nat) (s0 : State) :
    π (setLost g s0) = π s0 := by
  simp only [setLost, hπ, State.poisonGranule_only π (fun s xpoison => hπ s s.drn s.fld s.heads s.dmc xpoison), queueGranule_only π (fun s xdrn xdmc => hπ s xdrn s.fld s.heads xdmc s.poison), stampOverflow_only π (fun s xheads => hπ s s.drn s.fld xheads s.dmc s.poison), apply_ite π, ite_self]

@[simp] theorem setLost_frame (g : Nat) (s0 : State) :
    (setLost g s0).dev = s0.dev ∧ (setLost g s0).gov = s0.gov ∧ (setLost g s0).flt = s0.flt ∧ (setLost g s0).tly = s0.tly ∧
    (setLost g s0).sal = s0.sal ∧ (setLost g s0).map = s0.map ∧ (setLost g s0).hrv = s0.hrv ∧ (setLost g s0).bed = s0.bed ∧
    (setLost g s0).pip = s0.pip ∧ (setLost g s0).sem = s0.sem ∧ (setLost g s0).pans = s0.pans ∧ (setLost g s0).trn = s0.trn ∧
    (setLost g s0).thm = s0.thm ∧ (setLost g s0).cel = s0.cel ∧ (setLost g s0).upd = s0.upd ∧ (setLost g s0).key = s0.key ∧
    (setLost g s0).brl = s0.brl ∧ (setLost g s0).svc = s0.svc ∧ (setLost g s0).pins = s0.pins ∧ (setLost g s0).lay = s0.lay ∧
    (setLost g s0).jrn = s0.jrn ∧ (setLost g s0).replies = s0.replies ∧ (setLost g s0).dram = s0.dram ∧
    (setLost g s0).serial = s0.serial ∧ (setLost g s0).boot = s0.boot ∧ (setLost g s0).free = s0.free ∧
    (setLost g s0).pending = s0.pending := by
  refine ⟨?_, ?_, ?_, ?_, ?_, ?_, ?_, ?_, ?_, ?_, ?_, ?_, ?_, ?_, ?_, ?_, ?_, ?_, ?_, ?_, ?_, ?_, ?_, ?_, ?_, ?_, ?_⟩ <;> exact setLost_only _ (fun _ _ _ _ _ _ => rfl) g s0

theorem clearLost_only {β : Type} (π : State → β) (hπ : ∀ s xfld xheads, π { s with fld := xfld, heads := xheads } = π s) (g : Nat) (s : State) :
    π (clearLost g s) = π s := by
  simp only [clearLost, hπ, stampOverflow_only π (fun s xheads => hπ s s.fld xheads), apply_ite π, ite_self]

@[simp] theorem clearLost_frame (g : Nat) (s : State) :
    (clearLost g s).dev = s.dev ∧ (clearLost g s).gov = s.gov ∧ (clearLost g s).flt = s.flt ∧ (clearLost g s).tly = s.tly ∧
    (clearLost g s).sal = s.sal ∧ (clearLost g s).map = s.map ∧ (clearLost g s).drn = s.drn ∧ (clearLost g s).hrv = s.hrv ∧
    (clearLost g s).bed = s.bed ∧ (clearLost g s).pip = s.pip ∧ (clearLost g s).sem = s.sem ∧ (clearLost g s).pans = s.pans ∧
    (clearLost g s).dmc = s.dmc ∧ (clearLost g s).trn = s.trn ∧ (clearLost g s).thm = s.thm ∧ (clearLost g s).cel = s.cel ∧
    (clearLost g s).upd = s.upd ∧ (clearLost g s).key = s.key ∧ (clearLost g s).brl = s.brl ∧ (clearLost g s).svc = s.svc ∧
    (clearLost g s).pins = s.pins ∧ (clearLost g s).lay = s.lay ∧ (clearLost g s).jrn = s.jrn ∧
    (clearLost g s).replies = s.replies ∧ (clearLost g s).dram = s.dram ∧ (clearLost g s).poison = s.poison ∧
    (clearLost g s).serial = s.serial ∧ (clearLost g s).boot = s.boot ∧ (clearLost g s).free = s.free ∧
    (clearLost g s).pending = s.pending := by
  refine ⟨?_, ?_, ?_, ?_, ?_, ?_, ?_, ?_, ?_, ?_, ?_, ?_, ?_, ?_, ?_, ?_, ?_, ?_, ?_, ?_, ?_, ?_, ?_, ?_, ?_, ?_, ?_, ?_, ?_, ?_⟩ <;> exact clearLost_only _ (fun _ _ _ => rfl) g s

theorem readLine_clean_only {β : Type} (π : State → β) (hπ : ∀ s xdmc, π { s with dmc := xdmc } = π s) (rq l : Nat) (s : State) :
    π (readLine rq l .clean s).1 = π s := by
  have h : ∀ c, π (dchanUpd c (fun x => { x with tickRd := x.tickRd + 64 }) (touchRow rq l (wakeChan c s))) = π s := by
    intro c
    refine (dchanUpd_only π hπ _ _ _).trans ?_
    refine (touchRow_only π hπ _ _ _).trans ?_
    exact wakeChan_only π hπ _ _
  unfold readLine
  dsimp only
  split
  · exact h _
  · split
    · exact (dchanUpd_only π hπ _ _ _).trans (h _)
    · exact h _

theorem readTracker_only {β : Type} (π : State → β) (hπ : ∀ s xdmc, π { s with dmc := xdmc } = π s) (rq : Nat) (g : Nat) (s : State) :
    π (readTracker rq g s).1 = π s := by
  unfold readTracker
  have k : ∀ (l : List Nat) (t : State × List Nat), π (l.foldl (fun (t : State × List Nat) l =>
      let u := readLine rq l .clean t.1
      (u.1, if u.2 then t.2 ++ [l] else t.2)) t).1 = π t.1 := by
    intro l
    induction l with
    | nil => intro t; rfl
    | cons a l ih => intro t; exact (ih _).trans (readLine_clean_only π hπ _ _ _)
  exact k _ _

@[simp] theorem readTracker_frame (rq : Nat) (g : Nat) (s : State) :
    (readTracker rq g s).1.dev = s.dev ∧ (readTracker rq g s).1.gov = s.gov ∧ (readTracker rq g s).1.flt = s.flt ∧
    (readTracker rq g s).1.tly = s.tly ∧ (readTracker rq g s).1.sal = s.sal ∧ (readTracker rq g s).1.map = s.map ∧
    (readTracker rq g s).1.drn = s.drn ∧ (readTracker rq g s).1.hrv = s.hrv ∧ (readTracker rq g s).1.fld = s.fld ∧
    (readTracker rq g s).1.bed = s.bed ∧ (readTracker rq g s).1.pip = s.pip ∧ (readTracker rq g s).1.heads = s.heads ∧
    (readTracker rq g s).1.sem = s.sem ∧ (readTracker rq g s).1.pans = s.pans ∧ (readTracker rq g s).1.trn = s.trn ∧
    (readTracker rq g s).1.thm = s.thm ∧ (readTracker rq g s).1.cel = s.cel ∧ (readTracker rq g s).1.upd = s.upd ∧
    (readTracker rq g s).1.key = s.key ∧ (readTracker rq g s).1.brl = s.brl ∧ (readTracker rq g s).1.svc = s.svc ∧
    (readTracker rq g s).1.pins = s.pins ∧ (readTracker rq g s).1.lay = s.lay ∧ (readTracker rq g s).1.jrn = s.jrn ∧
    (readTracker rq g s).1.replies = s.replies ∧ (readTracker rq g s).1.dram = s.dram ∧ (readTracker rq g s).1.poison = s.poison ∧
    (readTracker rq g s).1.serial = s.serial ∧ (readTracker rq g s).1.boot = s.boot ∧ (readTracker rq g s).1.free = s.free ∧
    (readTracker rq g s).1.pending = s.pending := by
  refine ⟨?_, ?_, ?_, ?_, ?_, ?_, ?_, ?_, ?_, ?_, ?_, ?_, ?_, ?_, ?_, ?_, ?_, ?_, ?_, ?_, ?_, ?_, ?_, ?_, ?_, ?_, ?_, ?_, ?_, ?_, ?_⟩ <;> exact readTracker_only _ (fun _ _ => rfl) rq g s

theorem trackLost_only {β : Type} (π : State → β) (hπ : ∀ s xfld xdmc, π { s with fld := xfld, dmc := xdmc } = π s) (rq : Nat) (g : Nat) (s : State) :
    π (trackLost rq g s) = π s := by
  unfold trackLost; repeat' first | contradiction | (simp only [hπ, readTracker_only π (fun s xdmc => hπ s s.fld xdmc), apply_ite π, ite_self]; done) | split | refine (foldl_same π _ (fun s x => ?_) _ _).trans ?_ | refine (elim_same π _ _ _ (fun x => ?_)).trans ?_ | dsimp only

@[simp] theorem trackLost_frame (rq : Nat) (g : Nat) (s : State) :
    (trackLost rq g s).dev = s.dev ∧ (trackLost rq g s).gov = s.gov ∧ (trackLost rq g s).flt = s.flt ∧
    (trackLost rq g s).tly = s.tly ∧ (trackLost rq g s).sal = s.sal ∧ (trackLost rq g s).map = s.map ∧
    (trackLost rq g s).drn = s.drn ∧ (trackLost rq g s).hrv = s.hrv ∧ (trackLost rq g s).bed = s.bed ∧
    (trackLost rq g s).pip = s.pip ∧ (trackLost rq g s).heads = s.heads ∧ (trackLost rq g s).sem = s.sem ∧
    (trackLost rq g s).pans = s.pans ∧ (trackLost rq g s).trn = s.trn ∧ (trackLost rq g s).thm = s.thm ∧
    (trackLost rq g s).cel = s.cel ∧ (trackLost rq g s).upd = s.upd ∧ (trackLost rq g s).key = s.key ∧
    (trackLost rq g s).brl = s.brl ∧ (trackLost rq g s).svc = s.svc ∧ (trackLost rq g s).pins = s.pins ∧
    (trackLost rq g s).lay = s.lay ∧ (trackLost rq g s).jrn = s.jrn ∧ (trackLost rq g s).replies = s.replies ∧
    (trackLost rq g s).dram = s.dram ∧ (trackLost rq g s).poison = s.poison ∧ (trackLost rq g s).serial = s.serial ∧
    (trackLost rq g s).boot = s.boot ∧ (trackLost rq g s).free = s.free ∧ (trackLost rq g s).pending = s.pending := by
  refine ⟨?_, ?_, ?_, ?_, ?_, ?_, ?_, ?_, ?_, ?_, ?_, ?_, ?_, ?_, ?_, ?_, ?_, ?_, ?_, ?_, ?_, ?_, ?_, ?_, ?_, ?_, ?_, ?_, ?_, ?_⟩ <;> exact trackLost_only _ (fun _ _ _ => rfl) rq g s

theorem lostCheck_only {β : Type} (π : State → β) (hπ : ∀ s xfld xheads, π { s with fld := xfld, heads := xheads } = π s) (line : Nat) (s : State) :
    π (lostCheck line s) = π s := by
  unfold lostCheck; repeat' first | contradiction | (simp only [hπ, clearLost_only π hπ, apply_ite π, ite_self]; done) | split | refine (foldl_same π _ (fun s x => ?_) _ _).trans ?_ | refine (elim_same π _ _ _ (fun x => ?_)).trans ?_ | dsimp only

@[simp] theorem lostCheck_frame (line : Nat) (s : State) :
    (lostCheck line s).dev = s.dev ∧ (lostCheck line s).gov = s.gov ∧ (lostCheck line s).flt = s.flt ∧
    (lostCheck line s).tly = s.tly ∧ (lostCheck line s).sal = s.sal ∧ (lostCheck line s).map = s.map ∧
    (lostCheck line s).drn = s.drn ∧ (lostCheck line s).hrv = s.hrv ∧ (lostCheck line s).bed = s.bed ∧
    (lostCheck line s).pip = s.pip ∧ (lostCheck line s).sem = s.sem ∧ (lostCheck line s).pans = s.pans ∧
    (lostCheck line s).dmc = s.dmc ∧ (lostCheck line s).trn = s.trn ∧ (lostCheck line s).thm = s.thm ∧
    (lostCheck line s).cel = s.cel ∧ (lostCheck line s).upd = s.upd ∧ (lostCheck line s).key = s.key ∧
    (lostCheck line s).brl = s.brl ∧ (lostCheck line s).svc = s.svc ∧ (lostCheck line s).pins = s.pins ∧
    (lostCheck line s).lay = s.lay ∧ (lostCheck line s).jrn = s.jrn ∧ (lostCheck line s).replies = s.replies ∧
    (lostCheck line s).dram = s.dram ∧ (lostCheck line s).poison = s.poison ∧ (lostCheck line s).serial = s.serial ∧
    (lostCheck line s).boot = s.boot ∧ (lostCheck line s).free = s.free ∧ (lostCheck line s).pending = s.pending := by
  refine ⟨?_, ?_, ?_, ?_, ?_, ?_, ?_, ?_, ?_, ?_, ?_, ?_, ?_, ?_, ?_, ?_, ?_, ?_, ?_, ?_, ?_, ?_, ?_, ?_, ?_, ?_, ?_, ?_, ?_, ?_⟩ <;> exact lostCheck_only _ (fun _ _ _ => rfl) line s

theorem commitPosted_only {β : Type} (π : State → β) (hπ : ∀ s xmap xdrn xfld xheads xdmc xdram xpoison, π { s with map := xmap, drn := xdrn, fld := xfld, heads := xheads, dmc := xdmc, dram := xdram, poison := xpoison } = π s) (p : Posted) (s0 : State) :
    π (commitPosted p s0) = π s0 := by
  unfold commitPosted; repeat' first | contradiction | (simp only [hπ, State.putBytes_only π (fun s xdram => hπ s s.map s.drn s.fld s.heads s.dmc xdram s.poison), mapOp_only π (fun s xmap xdrn => hπ s xmap xdrn s.fld s.heads s.dmc s.dram s.poison), queueLine_only π (fun s xdmc => hπ s s.map s.drn s.fld s.heads xdmc s.dram s.poison), trackLost_only π (fun s xfld xdmc => hπ s s.map s.drn xfld s.heads xdmc s.dram s.poison), lostCheck_only π (fun s xfld xheads => hπ s s.map s.drn xfld xheads s.dmc s.dram s.poison), apply_ite π, ite_self]; done) | split | refine (foldl_same π _ (fun s x => ?_) _ _).trans ?_ | refine (elim_same π _ _ _ (fun x => ?_)).trans ?_ | dsimp only

@[simp] theorem commitPosted_frame (p : Posted) (s0 : State) :
    (commitPosted p s0).dev = s0.dev ∧ (commitPosted p s0).gov = s0.gov ∧ (commitPosted p s0).flt = s0.flt ∧
    (commitPosted p s0).tly = s0.tly ∧ (commitPosted p s0).sal = s0.sal ∧ (commitPosted p s0).hrv = s0.hrv ∧
    (commitPosted p s0).bed = s0.bed ∧ (commitPosted p s0).pip = s0.pip ∧ (commitPosted p s0).sem = s0.sem ∧
    (commitPosted p s0).pans = s0.pans ∧ (commitPosted p s0).trn = s0.trn ∧ (commitPosted p s0).thm = s0.thm ∧
    (commitPosted p s0).cel = s0.cel ∧ (commitPosted p s0).upd = s0.upd ∧ (commitPosted p s0).key = s0.key ∧
    (commitPosted p s0).brl = s0.brl ∧ (commitPosted p s0).svc = s0.svc ∧ (commitPosted p s0).pins = s0.pins ∧
    (commitPosted p s0).lay = s0.lay ∧ (commitPosted p s0).jrn = s0.jrn ∧ (commitPosted p s0).replies = s0.replies ∧
    (commitPosted p s0).serial = s0.serial ∧ (commitPosted p s0).boot = s0.boot ∧ (commitPosted p s0).free = s0.free ∧
    (commitPosted p s0).pending = s0.pending := by
  refine ⟨?_, ?_, ?_, ?_, ?_, ?_, ?_, ?_, ?_, ?_, ?_, ?_, ?_, ?_, ?_, ?_, ?_, ?_, ?_, ?_, ?_, ?_, ?_, ?_, ?_⟩ <;> exact commitPosted_only _ (fun _ _ _ _ _ _ _ _ => rfl) p s0

theorem commitAllPosted_only {β : Type} (π : State → β) (hπ : ∀ s xmap xdrn xfld xheads xdmc xdram xpoison, π { s with map := xmap, drn := xdrn, fld := xfld, heads := xheads, dmc := xdmc, dram := xdram, poison := xpoison } = π s) (only : Option Head) (s : State) :
    π (commitAllPosted only s) = π s := by
  unfold commitAllPosted
  dsimp only
  have k : ∀ (l : List Posted) (t : State × List Posted), π (l.foldl (fun (t : State × List Posted) p =>
      if t.2 ≠ [] || t.1.stallsCommit p then (t.1, t.2 ++ [p]) else (commitPosted p t.1, t.2)) t).1 = π t.1 := by
    intro l
    induction l with
    | nil => intro t; rfl
    | cons a l ih =>
      intro t
      rw [List.foldl_cons]
      refine (ih _).trans ?_
      split
      · rfl
      · exact commitPosted_only π hπ _ _
  refine Eq.trans ?_ (k (s.dmc.posted.filter fun p => match only with | none => true | some h => decide (p.head = h)) (s, []))
  exact hπ _ _ _ _ _ _ _ _

@[simp] theorem commitAllPosted_frame (only : Option Head) (s : State) :
    (commitAllPosted only s).dev = s.dev ∧ (commitAllPosted only s).gov = s.gov ∧ (commitAllPosted only s).flt = s.flt ∧
    (commitAllPosted only s).tly = s.tly ∧ (commitAllPosted only s).sal = s.sal ∧ (commitAllPosted only s).hrv = s.hrv ∧
    (commitAllPosted only s).bed = s.bed ∧ (commitAllPosted only s).pip = s.pip ∧ (commitAllPosted only s).sem = s.sem ∧
    (commitAllPosted only s).pans = s.pans ∧ (commitAllPosted only s).trn = s.trn ∧ (commitAllPosted only s).thm = s.thm ∧
    (commitAllPosted only s).cel = s.cel ∧ (commitAllPosted only s).upd = s.upd ∧ (commitAllPosted only s).key = s.key ∧
    (commitAllPosted only s).brl = s.brl ∧ (commitAllPosted only s).svc = s.svc ∧ (commitAllPosted only s).pins = s.pins ∧
    (commitAllPosted only s).lay = s.lay ∧ (commitAllPosted only s).jrn = s.jrn ∧ (commitAllPosted only s).replies = s.replies ∧
    (commitAllPosted only s).serial = s.serial ∧ (commitAllPosted only s).boot = s.boot ∧ (commitAllPosted only s).free = s.free ∧
    (commitAllPosted only s).pending = s.pending := by
  refine ⟨?_, ?_, ?_, ?_, ?_, ?_, ?_, ?_, ?_, ?_, ?_, ?_, ?_, ?_, ?_, ?_, ?_, ?_, ?_, ?_, ?_, ?_, ?_, ?_, ?_⟩ <;> exact commitAllPosted_only _ (fun _ _ _ _ _ _ _ _ => rfl) only s

theorem commitRounds_only {β : Type} (π : State → β) (hπ : ∀ s xmap xdrn xfld xheads xdmc xdram xpoison, π { s with map := xmap, drn := xdrn, fld := xfld, heads := xheads, dmc := xdmc, dram := xdram, poison := xpoison } = π s) (only : Option Head) (x0 : Nat) (s : State) :
    π (commitRounds only x0 s) = π s := by
  induction x0 generalizing s with
  | zero => first | rfl | (unfold commitRounds; repeat' first | rfl | (simp only [hπ, fillAll_only π (fun s xmap xdrn => hπ s xmap xdrn s.fld s.heads s.dmc s.dram s.poison), commitAllPosted_only π hπ, apply_ite π, ite_self]; done) | split | dsimp only)
  | succ n ih => unfold commitRounds; repeat' first | contradiction | (simp only [hπ, fillAll_only π (fun s xmap xdrn => hπ s xmap xdrn s.fld s.heads s.dmc s.dram s.poison), commitAllPosted_only π hπ, apply_ite π, ite_self, ih]; done) | (rw [ih]; simp only [hπ, fillAll_only π (fun s xmap xdrn => hπ s xmap xdrn s.fld s.heads s.dmc s.dram s.poison), commitAllPosted_only π hπ, apply_ite π, ite_self]; done) | (rw [ih]; done) | refine (ih _).trans ?_ | refine (ih _ _).trans ?_ | split | refine (foldl_same π _ (fun s x => ?_) _ _).trans ?_ | dsimp only

@[simp] theorem commitRounds_frame (only : Option Head) (x0 : Nat) (s : State) :
    (commitRounds only x0 s).dev = s.dev ∧ (commitRounds only x0 s).gov = s.gov ∧ (commitRounds only x0 s).flt = s.flt ∧
    (commitRounds only x0 s).tly = s.tly ∧ (commitRounds only x0 s).sal = s.sal ∧ (commitRounds only x0 s).hrv = s.hrv ∧
    (commitRounds only x0 s).bed = s.bed ∧ (commitRounds only x0 s).pip = s.pip ∧ (commitRounds only x0 s).sem = s.sem ∧
    (commitRounds only x0 s).pans = s.pans ∧ (commitRounds only x0 s).trn = s.trn ∧ (commitRounds only x0 s).thm = s.thm ∧
    (commitRounds only x0 s).cel = s.cel ∧ (commitRounds only x0 s).upd = s.upd ∧ (commitRounds only x0 s).key = s.key ∧
    (commitRounds only x0 s).brl = s.brl ∧ (commitRounds only x0 s).svc = s.svc ∧ (commitRounds only x0 s).pins = s.pins ∧
    (commitRounds only x0 s).lay = s.lay ∧ (commitRounds only x0 s).jrn = s.jrn ∧ (commitRounds only x0 s).replies = s.replies ∧
    (commitRounds only x0 s).serial = s.serial ∧ (commitRounds only x0 s).boot = s.boot ∧ (commitRounds only x0 s).free = s.free ∧
    (commitRounds only x0 s).pending = s.pending := by
  refine ⟨?_, ?_, ?_, ?_, ?_, ?_, ?_, ?_, ?_, ?_, ?_, ?_, ?_, ?_, ?_, ?_, ?_, ?_, ?_, ?_, ?_, ?_, ?_, ?_, ?_⟩ <;> exact commitRounds_only _ (fun _ _ _ _ _ _ _ _ => rfl) only x0 s

theorem commitPostedNow_only {β : Type} (π : State → β) (hπ : ∀ s xmap xdrn xfld xheads xdmc xdram xpoison, π { s with map := xmap, drn := xdrn, fld := xfld, heads := xheads, dmc := xdmc, dram := xdram, poison := xpoison } = π s) (only : Option Head) (s : State) :
    π (commitPostedNow only s) = π s := by
  simp only [commitPostedNow, hπ, commitRounds_only π hπ, apply_ite π, ite_self]

@[simp] theorem commitPostedNow_frame (only : Option Head) (s : State) :
    (commitPostedNow only s).dev = s.dev ∧ (commitPostedNow only s).gov = s.gov ∧ (commitPostedNow only s).flt = s.flt ∧
    (commitPostedNow only s).tly = s.tly ∧ (commitPostedNow only s).sal = s.sal ∧ (commitPostedNow only s).hrv = s.hrv ∧
    (commitPostedNow only s).bed = s.bed ∧ (commitPostedNow only s).pip = s.pip ∧ (commitPostedNow only s).sem = s.sem ∧
    (commitPostedNow only s).pans = s.pans ∧ (commitPostedNow only s).trn = s.trn ∧ (commitPostedNow only s).thm = s.thm ∧
    (commitPostedNow only s).cel = s.cel ∧ (commitPostedNow only s).upd = s.upd ∧ (commitPostedNow only s).key = s.key ∧
    (commitPostedNow only s).brl = s.brl ∧ (commitPostedNow only s).svc = s.svc ∧ (commitPostedNow only s).pins = s.pins ∧
    (commitPostedNow only s).lay = s.lay ∧ (commitPostedNow only s).jrn = s.jrn ∧ (commitPostedNow only s).replies = s.replies ∧
    (commitPostedNow only s).serial = s.serial ∧ (commitPostedNow only s).boot = s.boot ∧ (commitPostedNow only s).free = s.free ∧
    (commitPostedNow only s).pending = s.pending := by
  refine ⟨?_, ?_, ?_, ?_, ?_, ?_, ?_, ?_, ?_, ?_, ?_, ?_, ?_, ?_, ?_, ?_, ?_, ?_, ?_, ?_, ?_, ?_, ?_, ?_, ?_⟩ <;> exact commitPostedNow_only _ (fun _ _ _ _ _ _ _ _ => rfl) only s

theorem postedSync_only {β : Type} (π : State → β) (hπ : ∀ s xdmc, π { s with dmc := xdmc } = π s) (s : State) :
    π (postedSync s) = π s := by
  simp only [postedSync, hπ, apply_ite π, ite_self]

@[simp] theorem postedSync_frame (s : State) :
    (postedSync s).dev = s.dev ∧ (postedSync s).gov = s.gov ∧ (postedSync s).flt = s.flt ∧ (postedSync s).tly = s.tly ∧
    (postedSync s).sal = s.sal ∧ (postedSync s).map = s.map ∧ (postedSync s).drn = s.drn ∧ (postedSync s).hrv = s.hrv ∧
    (postedSync s).fld = s.fld ∧ (postedSync s).bed = s.bed ∧ (postedSync s).pip = s.pip ∧ (postedSync s).heads = s.heads ∧
    (postedSync s).sem = s.sem ∧ (postedSync s).pans = s.pans ∧ (postedSync s).trn = s.trn ∧ (postedSync s).thm = s.thm ∧
    (postedSync s).cel = s.cel ∧ (postedSync s).upd = s.upd ∧ (postedSync s).key = s.key ∧ (postedSync s).brl = s.brl ∧
    (postedSync s).svc = s.svc ∧ (postedSync s).pins = s.pins ∧ (postedSync s).lay = s.lay ∧ (postedSync s).jrn = s.jrn ∧
    (postedSync s).replies = s.replies ∧ (postedSync s).dram = s.dram ∧ (postedSync s).poison = s.poison ∧
    (postedSync s).serial = s.serial ∧ (postedSync s).boot = s.boot ∧ (postedSync s).free = s.free ∧
    (postedSync s).pending = s.pending := by
  refine ⟨?_, ?_, ?_, ?_, ?_, ?_, ?_, ?_, ?_, ?_, ?_, ?_, ?_, ?_, ?_, ?_, ?_, ?_, ?_, ?_, ?_, ?_, ?_, ?_, ?_, ?_, ?_, ?_, ?_, ?_, ?_⟩ <;> exact postedSync_only _ (fun _ _ => rfl) s

theorem dmcTick_only {β : Type} (π : State → β) (hπ : ∀ s xdmc, π { s with dmc := xdmc } = π s) (s : State) :
    π (dmcTick s) = π s := by
  unfold dmcTick; repeat' first | contradiction | (simp only [hπ, foldl_same π, apply_ite π, ite_self]; done) | split | refine (foldl_same π _ (fun s x => ?_) _ _).trans ?_ | refine (elim_same π _ _ _ (fun x => ?_)).trans ?_ | dsimp only

@[simp] theorem dmcTick_frame (s : State) :
    (dmcTick s).dev = s.dev ∧ (dmcTick s).gov = s.gov ∧ (dmcTick s).flt = s.flt ∧ (dmcTick s).tly = s.tly ∧
    (dmcTick s).sal = s.sal ∧ (dmcTick s).map = s.map ∧ (dmcTick s).drn = s.drn ∧ (dmcTick s).hrv = s.hrv ∧
    (dmcTick s).fld = s.fld ∧ (dmcTick s).bed = s.bed ∧ (dmcTick s).pip = s.pip ∧ (dmcTick s).heads = s.heads ∧
    (dmcTick s).sem = s.sem ∧ (dmcTick s).pans = s.pans ∧ (dmcTick s).trn = s.trn ∧ (dmcTick s).thm = s.thm ∧
    (dmcTick s).cel = s.cel ∧ (dmcTick s).upd = s.upd ∧ (dmcTick s).key = s.key ∧ (dmcTick s).brl = s.brl ∧
    (dmcTick s).svc = s.svc ∧ (dmcTick s).pins = s.pins ∧ (dmcTick s).lay = s.lay ∧ (dmcTick s).jrn = s.jrn ∧
    (dmcTick s).replies = s.replies ∧ (dmcTick s).dram = s.dram ∧ (dmcTick s).poison = s.poison ∧ (dmcTick s).serial = s.serial ∧
    (dmcTick s).boot = s.boot ∧ (dmcTick s).free = s.free ∧ (dmcTick s).pending = s.pending := by
  refine ⟨?_, ?_, ?_, ?_, ?_, ?_, ?_, ?_, ?_, ?_, ?_, ?_, ?_, ?_, ?_, ?_, ?_, ?_, ?_, ?_, ?_, ?_, ?_, ?_, ?_, ?_, ?_, ?_, ?_, ?_, ?_⟩ <;> exact dmcTick_only _ (fun _ _ => rfl) s

theorem changeSet_only {β : Type} (π : State → β) (hπ : ∀ s xdmc xtrn, π { s with dmc := xdmc, trn := xtrn } = π s) (n : Nat) (s : State) :
    π (changeSet n s) = π s := by
  unfold changeSet; repeat' first | contradiction | with_reducible rfl | with_reducible refine (postedSync_only π (fun s xdmc => hπ s xdmc s.trn) _).trans ?_ | with_reducible refine (foldl_same π _ (fun s x => ?_) _ _).trans ?_ | with_reducible refine (elim_same π _ _ _ (fun x => ?_)).trans ?_ | split | with_reducible refine (hπ _ _ _).trans ?_ | dsimp only

@[simp] theorem changeSet_frame (n : Nat) (s : State) :
    (changeSet n s).dev = s.dev ∧ (changeSet n s).gov = s.gov ∧ (changeSet n s).flt = s.flt ∧ (changeSet n s).tly = s.tly ∧
    (changeSet n s).sal = s.sal ∧ (changeSet n s).map = s.map ∧ (changeSet n s).drn = s.drn ∧ (changeSet n s).hrv = s.hrv ∧
    (changeSet n s).fld = s.fld ∧ (changeSet n s).bed = s.bed ∧ (changeSet n s).pip = s.pip ∧ (changeSet n s).heads = s.heads ∧
    (changeSet n s).sem = s.sem ∧ (changeSet n s).pans = s.pans ∧ (changeSet n s).thm = s.thm ∧ (changeSet n s).cel = s.cel ∧
    (changeSet n s).upd = s.upd ∧ (changeSet n s).key = s.key ∧ (changeSet n s).brl = s.brl ∧ (changeSet n s).svc = s.svc ∧
    (changeSet n s).pins = s.pins ∧ (changeSet n s).lay = s.lay ∧ (changeSet n s).jrn = s.jrn ∧
    (changeSet n s).replies = s.replies ∧ (changeSet n s).dram = s.dram ∧ (changeSet n s).poison = s.poison ∧
    (changeSet n s).serial = s.serial ∧ (changeSet n s).boot = s.boot ∧ (changeSet n s).free = s.free ∧
    (changeSet n s).pending = s.pending := by
  refine ⟨?_, ?_, ?_, ?_, ?_, ?_, ?_, ?_, ?_, ?_, ?_, ?_, ?_, ?_, ?_, ?_, ?_, ?_, ?_, ?_, ?_, ?_, ?_, ?_, ?_, ?_, ?_, ?_, ?_, ?_⟩ <;> exact changeSet_only _ (fun _ _ _ => rfl) n s

theorem requestSet_only {β : Type} (π : State → β) (hπ : ∀ s xdmc xtrn xpending, π { s with dmc := xdmc, trn := xtrn, pending := xpending } = π s) (n : Nat) (s : State) :
    π (requestSet n s).1 = π s := by
  unfold requestSet; repeat' first | contradiction | with_reducible rfl | with_reducible refine (changeSet_only π (fun s xdmc xtrn => hπ s xdmc xtrn s.pending) _ _).trans ?_ | with_reducible refine (foldl_same π _ (fun s x => ?_) _ _).trans ?_ | with_reducible refine (elim_same π _ _ _ (fun x => ?_)).trans ?_ | split | with_reducible refine (hπ _ _ _ _).trans ?_ | dsimp only

@[simp] theorem requestSet_frame (n : Nat) (s : State) :
    (requestSet n s).1.dev = s.dev ∧ (requestSet n s).1.gov = s.gov ∧ (requestSet n s).1.flt = s.flt ∧
    (requestSet n s).1.tly = s.tly ∧ (requestSet n s).1.sal = s.sal ∧ (requestSet n s).1.map = s.map ∧
    (requestSet n s).1.drn = s.drn ∧ (requestSet n s).1.hrv = s.hrv ∧ (requestSet n s).1.fld = s.fld ∧
    (requestSet n s).1.bed = s.bed ∧ (requestSet n s).1.pip = s.pip ∧ (requestSet n s).1.heads = s.heads ∧
    (requestSet n s).1.sem = s.sem ∧ (requestSet n s).1.pans = s.pans ∧ (requestSet n s).1.thm = s.thm ∧
    (requestSet n s).1.cel = s.cel ∧ (requestSet n s).1.upd = s.upd ∧ (requestSet n s).1.key = s.key ∧
    (requestSet n s).1.brl = s.brl ∧ (requestSet n s).1.svc = s.svc ∧ (requestSet n s).1.pins = s.pins ∧
    (requestSet n s).1.lay = s.lay ∧ (requestSet n s).1.jrn = s.jrn ∧ (requestSet n s).1.replies = s.replies ∧
    (requestSet n s).1.dram = s.dram ∧ (requestSet n s).1.poison = s.poison ∧ (requestSet n s).1.serial = s.serial ∧
    (requestSet n s).1.boot = s.boot ∧ (requestSet n s).1.free = s.free := by
  refine ⟨?_, ?_, ?_, ?_, ?_, ?_, ?_, ?_, ?_, ?_, ?_, ?_, ?_, ?_, ?_, ?_, ?_, ?_, ?_, ?_, ?_, ?_, ?_, ?_, ?_, ?_, ?_, ?_, ?_⟩ <;> exact requestSet_only _ (fun _ _ _ _ => rfl) n s

theorem blkUpd_only {β : Type} (π : State → β) (hπ : ∀ s xbed, π { s with bed := xbed } = π s) (ch : Nat) (die : Nat) (blk : Nat) (f : Blk → Blk) (s : State) :
    π (blkUpd ch die blk f s) = π s := by
  simp only [blkUpd, hπ, apply_ite π, ite_self]

@[simp] theorem blkUpd_frame (ch : Nat) (die : Nat) (blk : Nat) (f : Blk → Blk) (s : State) :
    (blkUpd ch die blk f s).dev = s.dev ∧ (blkUpd ch die blk f s).gov = s.gov ∧ (blkUpd ch die blk f s).flt = s.flt ∧
    (blkUpd ch die blk f s).tly = s.tly ∧ (blkUpd ch die blk f s).sal = s.sal ∧ (blkUpd ch die blk f s).map = s.map ∧
    (blkUpd ch die blk f s).drn = s.drn ∧ (blkUpd ch die blk f s).hrv = s.hrv ∧ (blkUpd ch die blk f s).fld = s.fld ∧
    (blkUpd ch die blk f s).pip = s.pip ∧ (blkUpd ch die blk f s).heads = s.heads ∧ (blkUpd ch die blk f s).sem = s.sem ∧
    (blkUpd ch die blk f s).pans = s.pans ∧ (blkUpd ch die blk f s).dmc = s.dmc ∧ (blkUpd ch die blk f s).trn = s.trn ∧
    (blkUpd ch die blk f s).thm = s.thm ∧ (blkUpd ch die blk f s).cel = s.cel ∧ (blkUpd ch die blk f s).upd = s.upd ∧
    (blkUpd ch die blk f s).key = s.key ∧ (blkUpd ch die blk f s).brl = s.brl ∧ (blkUpd ch die blk f s).svc = s.svc ∧
    (blkUpd ch die blk f s).pins = s.pins ∧ (blkUpd ch die blk f s).lay = s.lay ∧ (blkUpd ch die blk f s).jrn = s.jrn ∧
    (blkUpd ch die blk f s).replies = s.replies ∧ (blkUpd ch die blk f s).dram = s.dram ∧
    (blkUpd ch die blk f s).poison = s.poison ∧ (blkUpd ch die blk f s).serial = s.serial ∧ (blkUpd ch die blk f s).boot = s.boot ∧
    (blkUpd ch die blk f s).free = s.free ∧ (blkUpd ch die blk f s).pending = s.pending := by
  refine ⟨?_, ?_, ?_, ?_, ?_, ?_, ?_, ?_, ?_, ?_, ?_, ?_, ?_, ?_, ?_, ?_, ?_, ?_, ?_, ?_, ?_, ?_, ?_, ?_, ?_, ?_, ?_, ?_, ?_, ?_, ?_⟩ <;> exact blkUpd_only _ (fun _ _ => rfl) ch die blk f s

theorem chanUpd_only {β : Type} (π : State → β) (hπ : ∀ s xbed, π { s with bed := xbed } = π s) (c : Nat) (f : BedChan → BedChan) (s : State) :
    π (chanUpd c f s) = π s := by
  simp only [chanUpd, hπ, apply_ite π, ite_self]

@[simp] theorem chanUpd_frame (c : Nat) (f : BedChan → BedChan) (s : State) :
    (chanUpd c f s).dev = s.dev ∧ (chanUpd c f s).gov = s.gov ∧ (chanUpd c f s).flt = s.flt ∧ (chanUpd c f s).tly = s.tly ∧
    (chanUpd c f s).sal = s.sal ∧ (chanUpd c f s).map = s.map ∧ (chanUpd c f s).drn = s.drn ∧ (chanUpd c f s).hrv = s.hrv ∧
    (chanUpd c f s).fld = s.fld ∧ (chanUpd c f s).pip = s.pip ∧ (chanUpd c f s).heads = s.heads ∧ (chanUpd c f s).sem = s.sem ∧
    (chanUpd c f s).pans = s.pans ∧ (chanUpd c f s).dmc = s.dmc ∧ (chanUpd c f s).trn = s.trn ∧ (chanUpd c f s).thm = s.thm ∧
    (chanUpd c f s).cel = s.cel ∧ (chanUpd c f s).upd = s.upd ∧ (chanUpd c f s).key = s.key ∧ (chanUpd c f s).brl = s.brl ∧
    (chanUpd c f s).svc = s.svc ∧ (chanUpd c f s).pins = s.pins ∧ (chanUpd c f s).lay = s.lay ∧ (chanUpd c f s).jrn = s.jrn ∧
    (chanUpd c f s).replies = s.replies ∧ (chanUpd c f s).dram = s.dram ∧ (chanUpd c f s).poison = s.poison ∧
    (chanUpd c f s).serial = s.serial ∧ (chanUpd c f s).boot = s.boot ∧ (chanUpd c f s).free = s.free ∧
    (chanUpd c f s).pending = s.pending := by
  refine ⟨?_, ?_, ?_, ?_, ?_, ?_, ?_, ?_, ?_, ?_, ?_, ?_, ?_, ?_, ?_, ?_, ?_, ?_, ?_, ?_, ?_, ?_, ?_, ?_, ?_, ?_, ?_, ?_, ?_, ?_, ?_⟩ <;> exact chanUpd_only _ (fun _ _ => rfl) c f s

theorem retireBlock_only {β : Type} (π : State → β) (hπ : ∀ s xbed xjrn, π { s with bed := xbed, jrn := xjrn } = π s) (ch : Nat) (die : Nat) (blk : Nat) (cause : Nat) (s : State) :
    π (retireBlock ch die blk cause s) = π s := by
  simp only [retireBlock, hπ, State.journal_only π (fun s xjrn => hπ s s.bed xjrn), blkUpd_only π (fun s xbed => hπ s xbed s.jrn), chanUpd_only π (fun s xbed => hπ s xbed s.jrn), apply_ite π, ite_self]

@[simp] theorem retireBlock_frame (ch : Nat) (die : Nat) (blk : Nat) (cause : Nat) (s : State) :
    (retireBlock ch die blk cause s).dev = s.dev ∧ (retireBlock ch die blk cause s).gov = s.gov ∧
    (retireBlock ch die blk cause s).flt = s.flt ∧ (retireBlock ch die blk cause s).tly = s.tly ∧
    (retireBlock ch die blk cause s).sal = s.sal ∧ (retireBlock ch die blk cause s).map = s.map ∧
    (retireBlock ch die blk cause s).drn = s.drn ∧ (retireBlock ch die blk cause s).hrv = s.hrv ∧
    (retireBlock ch die blk cause s).fld = s.fld ∧ (retireBlock ch die blk cause s).pip = s.pip ∧
    (retireBlock ch die blk cause s).heads = s.heads ∧ (retireBlock ch die blk cause s).sem = s.sem ∧
    (retireBlock ch die blk cause s).pans = s.pans ∧ (retireBlock ch die blk cause s).dmc = s.dmc ∧
    (retireBlock ch die blk cause s).trn = s.trn ∧ (retireBlock ch die blk cause s).thm = s.thm ∧
    (retireBlock ch die blk cause s).cel = s.cel ∧ (retireBlock ch die blk cause s).upd = s.upd ∧
    (retireBlock ch die blk cause s).key = s.key ∧ (retireBlock ch die blk cause s).brl = s.brl ∧
    (retireBlock ch die blk cause s).svc = s.svc ∧ (retireBlock ch die blk cause s).pins = s.pins ∧
    (retireBlock ch die blk cause s).lay = s.lay ∧ (retireBlock ch die blk cause s).replies = s.replies ∧
    (retireBlock ch die blk cause s).dram = s.dram ∧ (retireBlock ch die blk cause s).poison = s.poison ∧
    (retireBlock ch die blk cause s).serial = s.serial ∧ (retireBlock ch die blk cause s).boot = s.boot ∧
    (retireBlock ch die blk cause s).free = s.free ∧ (retireBlock ch die blk cause s).pending = s.pending := by
  refine ⟨?_, ?_, ?_, ?_, ?_, ?_, ?_, ?_, ?_, ?_, ?_, ?_, ?_, ?_, ?_, ?_, ?_, ?_, ?_, ?_, ?_, ?_, ?_, ?_, ?_, ?_, ?_, ?_, ?_, ?_⟩ <;> exact retireBlock_only _ (fun _ _ _ => rfl) ch die blk cause s

theorem eraseBlank_only {β : Type} (π : State → β) (hπ : ∀ s xbed, π { s with bed := xbed } = π s) (lane : Nat) (s : State) :
    π (eraseBlank lane s) = π s := by
  unfold eraseBlank; repeat' first | contradiction | (simp only [hπ, blkUpd_only π hπ, foldl_same π, apply_ite π, ite_self]; done) | split | refine (foldl_same π _ (fun s x => ?_) _ _).trans ?_ | refine (elim_same π _ _ _ (fun x => ?_)).trans ?_ | dsimp only

@[simp] theorem eraseBlank_frame (lane : Nat) (s : State) :
    (eraseBlank lane s).dev = s.dev ∧ (eraseBlank lane s).gov = s.gov ∧ (eraseBlank lane s).flt = s.flt ∧
    (eraseBlank lane s).tly = s.tly ∧ (eraseBlank lane s).sal = s.sal ∧ (eraseBlank lane s).map = s.map ∧
    (eraseBlank lane s).drn = s.drn ∧ (eraseBlank lane s).hrv = s.hrv ∧ (eraseBlank lane s).fld = s.fld ∧
    (eraseBlank lane s).pip = s.pip ∧ (eraseBlank lane s).heads = s.heads ∧ (eraseBlank lane s).sem = s.sem ∧
    (eraseBlank lane s).pans = s.pans ∧ (eraseBlank lane s).dmc = s.dmc ∧ (eraseBlank lane s).trn = s.trn ∧
    (eraseBlank lane s).thm = s.thm ∧ (eraseBlank lane s).cel = s.cel ∧ (eraseBlank lane s).upd = s.upd ∧
    (eraseBlank lane s).key = s.key ∧ (eraseBlank lane s).brl = s.brl ∧ (eraseBlank lane s).svc = s.svc ∧
    (eraseBlank lane s).pins = s.pins ∧ (eraseBlank lane s).lay = s.lay ∧ (eraseBlank lane s).jrn = s.jrn ∧
    (eraseBlank lane s).replies = s.replies ∧ (eraseBlank lane s).dram = s.dram ∧ (eraseBlank lane s).poison = s.poison ∧
    (eraseBlank lane s).serial = s.serial ∧ (eraseBlank lane s).boot = s.boot ∧ (eraseBlank lane s).free = s.free ∧
    (eraseBlank lane s).pending = s.pending := by
  refine ⟨?_, ?_, ?_, ?_, ?_, ?_, ?_, ?_, ?_, ?_, ?_, ?_, ?_, ?_, ?_, ?_, ?_, ?_, ?_, ?_, ?_, ?_, ?_, ?_, ?_, ?_, ?_, ?_, ?_, ?_, ?_⟩ <;> exact eraseBlank_only _ (fun _ _ => rfl) lane s

theorem openIn_only {β : Type} (π : State → β) (hπ : ∀ s xbed, π { s with bed := xbed } = π s) (cls : RowClass) (lane : Nat) (s0 : State) :
    π (openIn cls lane s0) = π s0 := by
  unfold openIn; repeat' first | contradiction | (simp only [hπ, blkUpd_only π hπ, eraseBlank_only π hπ, foldl_same π, apply_ite π, ite_self]; done) | split | refine (foldl_same π _ (fun s x => ?_) _ _).trans ?_ | refine (elim_same π _ _ _ (fun x => ?_)).trans ?_ | with_reducible refine (blkUpd_only π (fun s xbed => hπ s xbed) _ _ _ _ _).trans ?_ | with_reducible refine (eraseBlank_only π (fun s xbed => hπ s xbed) _ _).trans ?_ | with_reducible refine (hπ _ _).trans ?_ | dsimp only

@[simp] theorem openIn_frame (cls : RowClass) (lane : Nat) (s0 : State) :
    (openIn cls lane s0).dev = s0.dev ∧ (openIn cls lane s0).gov = s0.gov ∧ (openIn cls lane s0).flt = s0.flt ∧
    (openIn cls lane s0).tly = s0.tly ∧ (openIn cls lane s0).sal = s0.sal ∧ (openIn cls lane s0).map = s0.map ∧
    (openIn cls lane s0).drn = s0.drn ∧ (openIn cls lane s0).hrv = s0.hrv ∧ (openIn cls lane s0).fld = s0.fld ∧
    (openIn cls lane s0).pip = s0.pip ∧ (openIn cls lane s0).heads = s0.heads ∧ (openIn cls lane s0).sem = s0.sem ∧
    (openIn cls lane s0).pans = s0.pans ∧ (openIn cls lane s0).dmc = s0.dmc ∧ (openIn cls lane s0).trn = s0.trn ∧
    (openIn cls lane s0).thm = s0.thm ∧ (openIn cls lane s0).cel = s0.cel ∧ (openIn cls lane s0).upd = s0.upd ∧
    (openIn cls lane s0).key = s0.key ∧ (openIn cls lane s0).brl = s0.brl ∧ (openIn cls lane s0).svc = s0.svc ∧
    (openIn cls lane s0).pins = s0.pins ∧ (openIn cls lane s0).lay = s0.lay ∧ (openIn cls lane s0).jrn = s0.jrn ∧
    (openIn cls lane s0).replies = s0.replies ∧ (openIn cls lane s0).dram = s0.dram ∧ (openIn cls lane s0).poison = s0.poison ∧
    (openIn cls lane s0).serial = s0.serial ∧ (openIn cls lane s0).boot = s0.boot ∧ (openIn cls lane s0).free = s0.free ∧
    (openIn cls lane s0).pending = s0.pending := by
  refine ⟨?_, ?_, ?_, ?_, ?_, ?_, ?_, ?_, ?_, ?_, ?_, ?_, ?_, ?_, ?_, ?_, ?_, ?_, ?_, ?_, ?_, ?_, ?_, ?_, ?_, ?_, ?_, ?_, ?_, ?_, ?_⟩ <;> exact openIn_only _ (fun _ _ => rfl) cls lane s0

theorem openNext_only {β : Type} (π : State → β) (hπ : ∀ s xbed, π { s with bed := xbed } = π s) (cls : RowClass) (s : State) :
    π (openNext cls s) = π s := by
  simp only [openNext, hπ, openIn_only π hπ, apply_ite π, ite_self]

@[simp] theorem openNext_frame (cls : RowClass) (s : State) :
    (openNext cls s).dev = s.dev ∧ (openNext cls s).gov = s.gov ∧ (openNext cls s).flt = s.flt ∧ (openNext cls s).tly = s.tly ∧
    (openNext cls s).sal = s.sal ∧ (openNext cls s).map = s.map ∧ (openNext cls s).drn = s.drn ∧ (openNext cls s).hrv = s.hrv ∧
    (openNext cls s).fld = s.fld ∧ (openNext cls s).pip = s.pip ∧ (openNext cls s).heads = s.heads ∧ (openNext cls s).sem = s.sem ∧
    (openNext cls s).pans = s.pans ∧ (openNext cls s).dmc = s.dmc ∧ (openNext cls s).trn = s.trn ∧ (openNext cls s).thm = s.thm ∧
    (openNext cls s).cel = s.cel ∧ (openNext cls s).upd = s.upd ∧ (openNext cls s).key = s.key ∧ (openNext cls s).brl = s.brl ∧
    (openNext cls s).svc = s.svc ∧ (openNext cls s).pins = s.pins ∧ (openNext cls s).lay = s.lay ∧ (openNext cls s).jrn = s.jrn ∧
    (openNext cls s).replies = s.replies ∧ (openNext cls s).dram = s.dram ∧ (openNext cls s).poison = s.poison ∧
    (openNext cls s).serial = s.serial ∧ (openNext cls s).boot = s.boot ∧ (openNext cls s).free = s.free ∧
    (openNext cls s).pending = s.pending := by
  refine ⟨?_, ?_, ?_, ?_, ?_, ?_, ?_, ?_, ?_, ?_, ?_, ?_, ?_, ?_, ?_, ?_, ?_, ?_, ?_, ?_, ?_, ?_, ?_, ?_, ?_, ?_, ?_, ?_, ?_, ?_, ?_⟩ <;> exact openNext_only _ (fun _ _ => rfl) cls s

theorem rowFor_only {β : Type} (π : State → β) (hπ : ∀ s xbed, π { s with bed := xbed } = π s) (cls : RowClass) (lane : Nat) (s : State) :
    π (rowFor cls lane s).1 = π s := by
  unfold rowFor; repeat' first | contradiction | (simp only [hπ, openIn_only π hπ, openNext_only π hπ, apply_ite π, ite_self]; done) | split | refine (foldl_same π _ (fun s x => ?_) _ _).trans ?_ | refine (elim_same π _ _ _ (fun x => ?_)).trans ?_ | dsimp only

@[simp] theorem rowFor_frame (cls : RowClass) (lane : Nat) (s : State) :
    (rowFor cls lane s).1.dev = s.dev ∧ (rowFor cls lane s).1.gov = s.gov ∧ (rowFor cls lane s).1.flt = s.flt ∧
    (rowFor cls lane s).1.tly = s.tly ∧ (rowFor cls lane s).1.sal = s.sal ∧ (rowFor cls lane s).1.map = s.map ∧
    (rowFor cls lane s).1.drn = s.drn ∧ (rowFor cls lane s).1.hrv = s.hrv ∧ (rowFor cls lane s).1.fld = s.fld ∧
    (rowFor cls lane s).1.pip = s.pip ∧ (rowFor cls lane s).1.heads = s.heads ∧ (rowFor cls lane s).1.sem = s.sem ∧
    (rowFor cls lane s).1.pans = s.pans ∧ (rowFor cls lane s).1.dmc = s.dmc ∧ (rowFor cls lane s).1.trn = s.trn ∧
    (rowFor cls lane s).1.thm = s.thm ∧ (rowFor cls lane s).1.cel = s.cel ∧ (rowFor cls lane s).1.upd = s.upd ∧
    (rowFor cls lane s).1.key = s.key ∧ (rowFor cls lane s).1.brl = s.brl ∧ (rowFor cls lane s).1.svc = s.svc ∧
    (rowFor cls lane s).1.pins = s.pins ∧ (rowFor cls lane s).1.lay = s.lay ∧ (rowFor cls lane s).1.jrn = s.jrn ∧
    (rowFor cls lane s).1.replies = s.replies ∧ (rowFor cls lane s).1.dram = s.dram ∧ (rowFor cls lane s).1.poison = s.poison ∧
    (rowFor cls lane s).1.serial = s.serial ∧ (rowFor cls lane s).1.boot = s.boot ∧ (rowFor cls lane s).1.free = s.free ∧
    (rowFor cls lane s).1.pending = s.pending := by
  refine ⟨?_, ?_, ?_, ?_, ?_, ?_, ?_, ?_, ?_, ?_, ?_, ?_, ?_, ?_, ?_, ?_, ?_, ?_, ?_, ?_, ?_, ?_, ?_, ?_, ?_, ?_, ?_, ?_, ?_, ?_, ?_⟩ <;> exact rowFor_only _ (fun _ _ => rfl) cls lane s

theorem takePage_only {β : Type} (π : State → β) (hπ : ∀ s xbed, π { s with bed := xbed } = π s) (r : BedRow) (kind : PageKind) (use : ByteUse) (s : State) :
    π (takePage r kind use s).1 = π s := by
  simp only [takePage, hπ, rowUpd_only π hπ, apply_ite π, ite_self]

@[simp] theorem takePage_frame (r : BedRow) (kind : PageKind) (use : ByteUse) (s : State) :
    (takePage r kind use s).1.dev = s.dev ∧ (takePage r kind use s).1.gov = s.gov ∧ (takePage r kind use s).1.flt = s.flt ∧
    (takePage r kind use s).1.tly = s.tly ∧ (takePage r kind use s).1.sal = s.sal ∧ (takePage r kind use s).1.map = s.map ∧
    (takePage r kind use s).1.drn = s.drn ∧ (takePage r kind use s).1.hrv = s.hrv ∧ (takePage r kind use s).1.fld = s.fld ∧
    (takePage r kind use s).1.pip = s.pip ∧ (takePage r kind use s).1.heads = s.heads ∧ (takePage r kind use s).1.sem = s.sem ∧
    (takePage r kind use s).1.pans = s.pans ∧ (takePage r kind use s).1.dmc = s.dmc ∧ (takePage r kind use s).1.trn = s.trn ∧
    (takePage r kind use s).1.thm = s.thm ∧ (takePage r kind use s).1.cel = s.cel ∧ (takePage r kind use s).1.upd = s.upd ∧
    (takePage r kind use s).1.key = s.key ∧ (takePage r kind use s).1.brl = s.brl ∧ (takePage r kind use s).1.svc = s.svc ∧
    (takePage r kind use s).1.pins = s.pins ∧ (takePage r kind use s).1.lay = s.lay ∧ (takePage r kind use s).1.jrn = s.jrn ∧
    (takePage r kind use s).1.replies = s.replies ∧ (takePage r kind use s).1.dram = s.dram ∧
    (takePage r kind use s).1.poison = s.poison ∧ (takePage r kind use s).1.serial = s.serial ∧
    (takePage r kind use s).1.boot = s.boot ∧ (takePage r kind use s).1.free = s.free ∧
    (takePage r kind use s).1.pending = s.pending := by
  refine ⟨?_, ?_, ?_, ?_, ?_, ?_, ?_, ?_, ?_, ?_, ?_, ?_, ?_, ?_, ?_, ?_, ?_, ?_, ?_, ?_, ?_, ?_, ?_, ?_, ?_, ?_, ?_, ?_, ?_, ?_, ?_⟩ <;> exact takePage_only _ (fun _ _ => rfl) r kind use s

theorem closePage_only {β : Type} (π : State → β) (hπ : ∀ s xbed, π { s with bed := xbed } = π s) (p : StorePage) (s : State) :
    π (closePage p s) = π s := by
  simp only [closePage, hπ, stagedUpd_only π hπ, apply_ite π, ite_self]

@[simp] theorem closePage_frame (p : StorePage) (s : State) :
    (closePage p s).dev = s.dev ∧ (closePage p s).gov = s.gov ∧ (closePage p s).flt = s.flt ∧ (closePage p s).tly = s.tly ∧
    (closePage p s).sal = s.sal ∧ (closePage p s).map = s.map ∧ (closePage p s).drn = s.drn ∧ (closePage p s).hrv = s.hrv ∧
    (closePage p s).fld = s.fld ∧ (closePage p s).pip = s.pip ∧ (closePage p s).heads = s.heads ∧ (closePage p s).sem = s.sem ∧
    (closePage p s).pans = s.pans ∧ (closePage p s).dmc = s.dmc ∧ (closePage p s).trn = s.trn ∧ (closePage p s).thm = s.thm ∧
    (closePage p s).cel = s.cel ∧ (closePage p s).upd = s.upd ∧ (closePage p s).key = s.key ∧ (closePage p s).brl = s.brl ∧
    (closePage p s).svc = s.svc ∧ (closePage p s).pins = s.pins ∧ (closePage p s).lay = s.lay ∧ (closePage p s).jrn = s.jrn ∧
    (closePage p s).replies = s.replies ∧ (closePage p s).dram = s.dram ∧ (closePage p s).poison = s.poison ∧
    (closePage p s).serial = s.serial ∧ (closePage p s).boot = s.boot ∧ (closePage p s).free = s.free ∧
    (closePage p s).pending = s.pending := by
  refine ⟨?_, ?_, ?_, ?_, ?_, ?_, ?_, ?_, ?_, ?_, ?_, ?_, ?_, ?_, ?_, ?_, ?_, ?_, ?_, ?_, ?_, ?_, ?_, ?_, ?_, ?_, ?_, ?_, ?_, ?_, ?_⟩ <;> exact closePage_only _ (fun _ _ => rfl) p s

theorem sendPages_only {β : Type} (π : State → β) (hπ : ∀ s xbed, π { s with bed := xbed } = π s) (s : State) :
    π (sendPages s) = π s := by
  unfold sendPages; repeat' first | contradiction | with_reducible rfl | with_reducible refine (stagedUpd_only π (fun s xbed => hπ s xbed) _ _ _).trans ?_ | with_reducible refine (foldl_same π _ (fun s x => ?_) _ _).trans ?_ | with_reducible refine (elim_same π _ _ _ (fun x => ?_)).trans ?_ | split | with_reducible refine (hπ _ _).trans ?_ | dsimp only

@[simp] theorem sendPages_frame (s : State) :
    (sendPages s).dev = s.dev ∧ (sendPages s).gov = s.gov ∧ (sendPages s).flt = s.flt ∧ (sendPages s).tly = s.tly ∧
    (sendPages s).sal = s.sal ∧ (sendPages s).map = s.map ∧ (sendPages s).drn = s.drn ∧ (sendPages s).hrv = s.hrv ∧
    (sendPages s).fld = s.fld ∧ (sendPages s).pip = s.pip ∧ (sendPages s).heads = s.heads ∧ (sendPages s).sem = s.sem ∧
    (sendPages s).pans = s.pans ∧ (sendPages s).dmc = s.dmc ∧ (sendPages s).trn = s.trn ∧ (sendPages s).thm = s.thm ∧
    (sendPages s).cel = s.cel ∧ (sendPages s).upd = s.upd ∧ (sendPages s).key = s.key ∧ (sendPages s).brl = s.brl ∧
    (sendPages s).svc = s.svc ∧ (sendPages s).pins = s.pins ∧ (sendPages s).lay = s.lay ∧ (sendPages s).jrn = s.jrn ∧
    (sendPages s).replies = s.replies ∧ (sendPages s).dram = s.dram ∧ (sendPages s).poison = s.poison ∧
    (sendPages s).serial = s.serial ∧ (sendPages s).boot = s.boot ∧ (sendPages s).free = s.free ∧ (sendPages s).pending = s.pending := by
  refine ⟨?_, ?_, ?_, ?_, ?_, ?_, ?_, ?_, ?_, ?_, ?_, ?_, ?_, ?_, ?_, ?_, ?_, ?_, ?_, ?_, ?_, ?_, ?_, ?_, ?_, ?_, ?_, ?_, ?_, ?_, ?_⟩ <;> exact sendPages_only _ (fun _ _ => rfl) s

theorem newPage_only {β : Type} (π : State → β) (hπ : ∀ s xbed, π { s with bed := xbed } = π s) {cls : RowClass} {lane : Nat} {kind : PageKind} {use : ByteUse} {s : State}
    {t : State × StorePage} (h : newPage cls lane kind use s = some t) : π t.1 = π s := by
  have h0 : π (match s.openRow cls lane with
      | some r => if s.rowPages r ≤ r.cursor then rowUpd r.seq (fun x => { x with state := .full }) s else s
      | none => s) = π s := by
    split
    · split
      · exact rowUpd_only π hπ _ _ _
      · rfl
    · rfl
  have key : ∀ s1 : State, π s1 = π s → (match (rowFor cls lane s1).2 with
      | none => none
      | some r =>
        if s1.rowPages r ≤ r.cursor || !(rowFor cls lane s1).1.bufferFree then none
        else
          let t := takePage r kind use (rowFor cls lane s1).1
          some ({ t.1 with bed := { t.1.bed with staged := t.1.bed.staged ++ [t.2] } }, t.2)) = some t → π t.1 = π s := by
    intro s1 e h
    split at h
    · cases h
    · split at h
      · cases h
      · injection h with h
        subst h
        exact (hπ _ _).trans ((takePage_only π hπ _ _ _ _).trans ((rowFor_only π hπ _ _ _).trans e))
  exact key _ h0 h

theorem putRec_only {β : Type} (π : State → β) (hπ : ∀ s xbed, π { s with bed := xbed } = π s) {cls : RowClass} {lane : Nat} {p : StorePage} {x : GranRec} {s t : State}
    (h : putRec cls lane p x s = some t) : π t = π s := by
  unfold putRec at h
  dsimp only at h
  split at h
  · cases h
    exact stagedUpd_only π hπ _ _ _
  · obtain ⟨u, hu, rfl⟩ := Option.map_eq_some_iff.1 h
    exact (stagedUpd_only π hπ _ _ _).trans ((newPage_only π hπ hu).trans (stagedUpd_only π hπ _ _ _))

theorem stageIn_only {β : Type} (π : State → β) (hπ : ∀ s xbed, π { s with bed := xbed } = π s) {cls : RowClass} {lane : Nat} {x : GranRec} {s t : State}
    (h : stageIn cls lane x s = some t) : π t = π s := by
  unfold stageIn at h
  dsimp only at h
  split at h
  · obtain ⟨u, hu, h⟩ := Option.bind_eq_some_iff.1 h
    exact (putRec_only π hπ h).trans (newPage_only π hπ hu)
  · split at h
    · obtain ⟨u, hu, h⟩ := Option.bind_eq_some_iff.1 h
      exact (putRec_only π hπ h).trans ((newPage_only π hπ hu).trans (closePage_only π hπ _ _))
    · exact putRec_only π hπ h

theorem stageRec_only {β : Type} (π : State → β) (hπ : ∀ s xbed, π { s with bed := xbed } = π s) {lane : Nat} {x : GranRec} {s t : State}
    (h : stageRec lane x s = some t) : π t = π s := by
  obtain ⟨d, _, h⟩ := List.exists_of_findSome?_eq_some h
  exact stageIn_only π hπ h

theorem pathStep_only {β : Type} (π : State → β) (hπ : ∀ s xdrn, π { s with drn := xdrn } = π s) (g : Nat) (d : DrainStep) (s : State) :
    π (pathStep g d s) = π s := by
  unfold pathStep; repeat' first | contradiction | (simp only [hπ, apply_ite π, ite_self]; done) | split | refine (foldl_same π _ (fun s x => ?_) _ _).trans ?_ | refine (elim_same π _ _ _ (fun x => ?_)).trans ?_ | dsimp only

@[simp] theorem pathStep_frame (g : Nat) (d : DrainStep) (s : State) :
    (pathStep g d s).dev = s.dev ∧ (pathStep g d s).gov = s.gov ∧ (pathStep g d s).flt = s.flt ∧ (pathStep g d s).tly = s.tly ∧
    (pathStep g d s).sal = s.sal ∧ (pathStep g d s).map = s.map ∧ (pathStep g d s).hrv = s.hrv ∧ (pathStep g d s).fld = s.fld ∧
    (pathStep g d s).bed = s.bed ∧ (pathStep g d s).pip = s.pip ∧ (pathStep g d s).heads = s.heads ∧ (pathStep g d s).sem = s.sem ∧
    (pathStep g d s).pans = s.pans ∧ (pathStep g d s).dmc = s.dmc ∧ (pathStep g d s).trn = s.trn ∧ (pathStep g d s).thm = s.thm ∧
    (pathStep g d s).cel = s.cel ∧ (pathStep g d s).upd = s.upd ∧ (pathStep g d s).key = s.key ∧ (pathStep g d s).brl = s.brl ∧
    (pathStep g d s).svc = s.svc ∧ (pathStep g d s).pins = s.pins ∧ (pathStep g d s).lay = s.lay ∧ (pathStep g d s).jrn = s.jrn ∧
    (pathStep g d s).replies = s.replies ∧ (pathStep g d s).dram = s.dram ∧ (pathStep g d s).poison = s.poison ∧
    (pathStep g d s).serial = s.serial ∧ (pathStep g d s).boot = s.boot ∧ (pathStep g d s).free = s.free ∧
    (pathStep g d s).pending = s.pending := by
  refine ⟨?_, ?_, ?_, ?_, ?_, ?_, ?_, ?_, ?_, ?_, ?_, ?_, ?_, ?_, ?_, ?_, ?_, ?_, ?_, ?_, ?_, ?_, ?_, ?_, ?_, ?_, ?_, ?_, ?_, ?_, ?_⟩ <;> exact pathStep_only _ (fun _ _ => rfl) g d s

theorem placeRec_only {β : Type} (π : State → β) (hπ : ∀ s xdrn xbed, π { s with drn := xdrn, bed := xbed } = π s) (lane : Nat) (x : GranRec) (s : State) :
    π (placeRec lane x s) = π s := by
  unfold placeRec
  split
  · rename_i t h
    split at h
    · exact (pathStep_only π (fun s x => hπ s x s.bed) _ _ _).trans (stageRec_only π (fun s x => hπ s s.drn x) h)
    · cases h
  · exact (pathStep_only π (fun s x => hπ s x s.bed) _ _ _).trans (hπ s s.drn _)

@[simp] theorem placeRec_frame (lane : Nat) (x : GranRec) (s : State) :
    (placeRec lane x s).dev = s.dev ∧ (placeRec lane x s).gov = s.gov ∧ (placeRec lane x s).flt = s.flt ∧
    (placeRec lane x s).tly = s.tly ∧ (placeRec lane x s).sal = s.sal ∧ (placeRec lane x s).map = s.map ∧
    (placeRec lane x s).hrv = s.hrv ∧ (placeRec lane x s).fld = s.fld ∧ (placeRec lane x s).pip = s.pip ∧
    (placeRec lane x s).heads = s.heads ∧ (placeRec lane x s).sem = s.sem ∧ (placeRec lane x s).pans = s.pans ∧
    (placeRec lane x s).dmc = s.dmc ∧ (placeRec lane x s).trn = s.trn ∧ (placeRec lane x s).thm = s.thm ∧
    (placeRec lane x s).cel = s.cel ∧ (placeRec lane x s).upd = s.upd ∧ (placeRec lane x s).key = s.key ∧
    (placeRec lane x s).brl = s.brl ∧ (placeRec lane x s).svc = s.svc ∧ (placeRec lane x s).pins = s.pins ∧
    (placeRec lane x s).lay = s.lay ∧ (placeRec lane x s).jrn = s.jrn ∧ (placeRec lane x s).replies = s.replies ∧
    (placeRec lane x s).dram = s.dram ∧ (placeRec lane x s).poison = s.poison ∧ (placeRec lane x s).serial = s.serial ∧
    (placeRec lane x s).boot = s.boot ∧ (placeRec lane x s).free = s.free ∧ (placeRec lane x s).pending = s.pending := by
  refine ⟨?_, ?_, ?_, ?_, ?_, ?_, ?_, ?_, ?_, ?_, ?_, ?_, ?_, ?_, ?_, ?_, ?_, ?_, ?_, ?_, ?_, ?_, ?_, ?_, ?_, ?_, ?_, ?_, ?_, ?_⟩ <;> exact placeRec_only _ (fun _ _ _ => rfl) lane x s

theorem stageWaiting_only {β : Type} (π : State → β) (hπ : ∀ s xdrn xbed, π { s with drn := xdrn, bed := xbed } = π s) (s : State) :
    π (stageWaiting s) = π s := by
  unfold stageWaiting
  refine foldl_same π _ (fun s i => ?_) _ _
  dsimp only
  split
  · split
    · rename_i t h
      exact (pathStep_only π (fun s x => hπ s x s.bed) _ _ _).trans ((hπ t t.drn _).trans (stageRec_only π (fun s x => hπ s s.drn x) h))
    · rfl
  · rfl

@[simp] theorem stageWaiting_frame (s : State) :
    (stageWaiting s).dev = s.dev ∧ (stageWaiting s).gov = s.gov ∧ (stageWaiting s).flt = s.flt ∧ (stageWaiting s).tly = s.tly ∧
    (stageWaiting s).sal = s.sal ∧ (stageWaiting s).map = s.map ∧ (stageWaiting s).hrv = s.hrv ∧ (stageWaiting s).fld = s.fld ∧
    (stageWaiting s).pip = s.pip ∧ (stageWaiting s).heads = s.heads ∧ (stageWaiting s).sem = s.sem ∧
    (stageWaiting s).pans = s.pans ∧ (stageWaiting s).dmc = s.dmc ∧ (stageWaiting s).trn = s.trn ∧ (stageWaiting s).thm = s.thm ∧
    (stageWaiting s).cel = s.cel ∧ (stageWaiting s).upd = s.upd ∧ (stageWaiting s).key = s.key ∧ (stageWaiting s).brl = s.brl ∧
    (stageWaiting s).svc = s.svc ∧ (stageWaiting s).pins = s.pins ∧ (stageWaiting s).lay = s.lay ∧ (stageWaiting s).jrn = s.jrn ∧
    (stageWaiting s).replies = s.replies ∧ (stageWaiting s).dram = s.dram ∧ (stageWaiting s).poison = s.poison ∧
    (stageWaiting s).serial = s.serial ∧ (stageWaiting s).boot = s.boot ∧ (stageWaiting s).free = s.free ∧
    (stageWaiting s).pending = s.pending := by
  refine ⟨?_, ?_, ?_, ?_, ?_, ?_, ?_, ?_, ?_, ?_, ?_, ?_, ?_, ?_, ?_, ?_, ?_, ?_, ?_, ?_, ?_, ?_, ?_, ?_, ?_, ?_, ?_, ?_, ?_, ?_⟩ <;> exact stageWaiting_only _ (fun _ _ _ => rfl) s

theorem fullRows_only {β : Type} (π : State → β) (hπ : ∀ s xbed, π { s with bed := xbed } = π s) (s : State) :
    π (fullRows s) = π s := by
  unfold fullRows; repeat' first | contradiction | (simp only [hπ, apply_ite π, ite_self]; done) | split | refine (foldl_same π _ (fun s x => ?_) _ _).trans ?_ | refine (elim_same π _ _ _ (fun x => ?_)).trans ?_ | dsimp only

@[simp] theorem fullRows_frame (s : State) :
    (fullRows s).dev = s.dev ∧ (fullRows s).gov = s.gov ∧ (fullRows s).flt = s.flt ∧ (fullRows s).tly = s.tly ∧
    (fullRows s).sal = s.sal ∧ (fullRows s).map = s.map ∧ (fullRows s).drn = s.drn ∧ (fullRows s).hrv = s.hrv ∧
    (fullRows s).fld = s.fld ∧ (fullRows s).pip = s.pip ∧ (fullRows s).heads = s.heads ∧ (fullRows s).sem = s.sem ∧
    (fullRows s).pans = s.pans ∧ (fullRows s).dmc = s.dmc ∧ (fullRows s).trn = s.trn ∧ (fullRows s).thm = s.thm ∧
    (fullRows s).cel = s.cel ∧ (fullRows s).upd = s.upd ∧ (fullRows s).key = s.key ∧ (fullRows s).brl = s.brl ∧
    (fullRows s).svc = s.svc ∧ (fullRows s).pins = s.pins ∧ (fullRows s).lay = s.lay ∧ (fullRows s).jrn = s.jrn ∧
    (fullRows s).replies = s.replies ∧ (fullRows s).dram = s.dram ∧ (fullRows s).poison = s.poison ∧
    (fullRows s).serial = s.serial ∧ (fullRows s).boot = s.boot ∧ (fullRows s).free = s.free ∧ (fullRows s).pending = s.pending := by
  refine ⟨?_, ?_, ?_, ?_, ?_, ?_, ?_, ?_, ?_, ?_, ?_, ?_, ?_, ?_, ?_, ?_, ?_, ?_, ?_, ?_, ?_, ?_, ?_, ?_, ?_, ?_, ?_, ?_, ?_, ?_, ?_⟩ <;> exact fullRows_only _ (fun _ _ => rfl) s

theorem openRows_only {β : Type} (π : State → β) (hπ : ∀ s xbed, π { s with bed := xbed } = π s) (s : State) :
    π (openRows s) = π s := by
  unfold openRows; repeat' first | contradiction | (simp only [hπ, openIn_only π hπ, foldl_same π, apply_ite π, ite_self]; done) | split | refine (foldl_same π _ (fun s x => ?_) _ _).trans ?_ | refine (elim_same π _ _ _ (fun x => ?_)).trans ?_ | dsimp only

@[simp] theorem openRows_frame (s : State) :
    (openRows s).dev = s.dev ∧ (openRows s).gov = s.gov ∧ (openRows s).flt = s.flt ∧ (openRows s).tly = s.tly ∧
    (openRows s).sal = s.sal ∧ (openRows s).map = s.map ∧ (openRows s).drn = s.drn ∧ (openRows s).hrv = s.hrv ∧
    (openRows s).fld = s.fld ∧ (openRows s).pip = s.pip ∧ (openRows s).heads = s.heads ∧ (openRows s).sem = s.sem ∧
    (openRows s).pans = s.pans ∧ (openRows s).dmc = s.dmc ∧ (openRows s).trn = s.trn ∧ (openRows s).thm = s.thm ∧
    (openRows s).cel = s.cel ∧ (openRows s).upd = s.upd ∧ (openRows s).key = s.key ∧ (openRows s).brl = s.brl ∧
    (openRows s).svc = s.svc ∧ (openRows s).pins = s.pins ∧ (openRows s).lay = s.lay ∧ (openRows s).jrn = s.jrn ∧
    (openRows s).replies = s.replies ∧ (openRows s).dram = s.dram ∧ (openRows s).poison = s.poison ∧
    (openRows s).serial = s.serial ∧ (openRows s).boot = s.boot ∧ (openRows s).free = s.free ∧ (openRows s).pending = s.pending := by
  refine ⟨?_, ?_, ?_, ?_, ?_, ?_, ?_, ?_, ?_, ?_, ?_, ?_, ?_, ?_, ?_, ?_, ?_, ?_, ?_, ?_, ?_, ?_, ?_, ?_, ?_, ?_, ?_, ?_, ?_, ?_, ?_⟩ <;> exact openRows_only _ (fun _ _ => rfl) s

theorem stageSegment_only {β : Type} (π : State → β) (hπ : ∀ s xdrn xbed, π { s with drn := xdrn, bed := xbed } = π s) {use : ByteUse} {ns : List Nat} {s t : State}
    (h : stageSegment use ns s = some t) : π t = π s := by
  obtain ⟨u, hu, rfl⟩ := Option.map_eq_some_iff.1 h
  exact (hπ (stagedUpd _ _ _) _ _).trans ((stagedUpd_only π (fun s x => hπ s s.drn x) _ _ _).trans (newPage_only π (fun s x => hπ s s.drn x) hu))

theorem segmentsDue_only {β : Type} (π : State → β) (hπ : ∀ s xdrn xbed, π { s with drn := xdrn, bed := xbed } = π s) (s : State) :
    π (segmentsDue s) = π s := by
  unfold segmentsDue
  refine foldl_same π _ (fun s i => ?_) _ _
  split
  · cases h : stageSegment .drain (s.drn.delta.take s.segmentLines) s with
    | none => rfl
    | some t => exact stageSegment_only π hπ h
  · rfl

@[simp] theorem segmentsDue_frame (s : State) :
    (segmentsDue s).dev = s.dev ∧ (segmentsDue s).gov = s.gov ∧ (segmentsDue s).flt = s.flt ∧ (segmentsDue s).tly = s.tly ∧
    (segmentsDue s).sal = s.sal ∧ (segmentsDue s).map = s.map ∧ (segmentsDue s).hrv = s.hrv ∧ (segmentsDue s).fld = s.fld ∧
    (segmentsDue s).pip = s.pip ∧ (segmentsDue s).heads = s.heads ∧ (segmentsDue s).sem = s.sem ∧ (segmentsDue s).pans = s.pans ∧
    (segmentsDue s).dmc = s.dmc ∧ (segmentsDue s).trn = s.trn ∧ (segmentsDue s).thm = s.thm ∧ (segmentsDue s).cel = s.cel ∧
    (segmentsDue s).upd = s.upd ∧ (segmentsDue s).key = s.key ∧ (segmentsDue s).brl = s.brl ∧ (segmentsDue s).svc = s.svc ∧
    (segmentsDue s).pins = s.pins ∧ (segmentsDue s).lay = s.lay ∧ (segmentsDue s).jrn = s.jrn ∧
    (segmentsDue s).replies = s.replies ∧ (segmentsDue s).dram = s.dram ∧ (segmentsDue s).poison = s.poison ∧
    (segmentsDue s).serial = s.serial ∧ (segmentsDue s).boot = s.boot ∧ (segmentsDue s).free = s.free ∧
    (segmentsDue s).pending = s.pending := by
  refine ⟨?_, ?_, ?_, ?_, ?_, ?_, ?_, ?_, ?_, ?_, ?_, ?_, ?_, ?_, ?_, ?_, ?_, ?_, ?_, ?_, ?_, ?_, ?_, ?_, ?_, ?_, ?_, ?_, ?_, ?_⟩ <;> exact segmentsDue_only _ (fun _ _ _ => rfl) s

theorem spendRows_only {β : Type} (π : State → β) (hπ : ∀ s xbed, π { s with bed := xbed } = π s) (s : State) :
    π (spendRows s) = π s := by
  unfold spendRows; repeat' first | contradiction | (simp only [hπ, apply_ite π, ite_self]; done) | split | refine (foldl_same π _ (fun s x => ?_) _ _).trans ?_ | refine (elim_same π _ _ _ (fun x => ?_)).trans ?_ | dsimp only

@[simp] theorem spendRows_frame (s : State) :
    (spendRows s).dev = s.dev ∧ (spendRows s).gov = s.gov ∧ (spendRows s).flt = s.flt ∧ (spendRows s).tly = s.tly ∧
    (spendRows s).sal = s.sal ∧ (spendRows s).map = s.map ∧ (spendRows s).drn = s.drn ∧ (spendRows s).hrv = s.hrv ∧
    (spendRows s).fld = s.fld ∧ (spendRows s).pip = s.pip ∧ (spendRows s).heads = s.heads ∧ (spendRows s).sem = s.sem ∧
    (spendRows s).pans = s.pans ∧ (spendRows s).dmc = s.dmc ∧ (spendRows s).trn = s.trn ∧ (spendRows s).thm = s.thm ∧
    (spendRows s).cel = s.cel ∧ (spendRows s).upd = s.upd ∧ (spendRows s).key = s.key ∧ (spendRows s).brl = s.brl ∧
    (spendRows s).svc = s.svc ∧ (spendRows s).pins = s.pins ∧ (spendRows s).lay = s.lay ∧ (spendRows s).jrn = s.jrn ∧
    (spendRows s).replies = s.replies ∧ (spendRows s).dram = s.dram ∧ (spendRows s).poison = s.poison ∧
    (spendRows s).serial = s.serial ∧ (spendRows s).boot = s.boot ∧ (spendRows s).free = s.free ∧ (spendRows s).pending = s.pending := by
  refine ⟨?_, ?_, ?_, ?_, ?_, ?_, ?_, ?_, ?_, ?_, ?_, ?_, ?_, ?_, ?_, ?_, ?_, ?_, ?_, ?_, ?_, ?_, ?_, ?_, ?_, ?_, ?_, ?_, ?_, ?_, ?_⟩ <;> exact spendRows_only _ (fun _ _ => rfl) s

theorem commitRec_only {β : Type} (π : State → β) (hπ : ∀ s xmap xdrn xhrv, π { s with map := xmap, drn := xdrn, hrv := xhrv } = π s) (r : BedRow) (p : StorePage) (x : GranRec) (s : State) :
    π (commitRec r p x s) = π s := by
  unfold commitRec; repeat' first | contradiction | (simp only [hπ, commitOp_only π (fun s xmap xdrn => hπ s xmap xdrn s.hrv), hmPut_only π (fun s xmap xdrn => hπ s xmap xdrn s.hrv), apply_ite π, ite_self]; done) | split | refine (foldl_same π _ (fun s x => ?_) _ _).trans ?_ | refine (elim_same π _ _ _ (fun x => ?_)).trans ?_ | dsimp only

@[simp] theorem commitRec_frame (r : BedRow) (p : StorePage) (x : GranRec) (s : State) :
    (commitRec r p x s).dev = s.dev ∧ (commitRec r p x s).gov = s.gov ∧ (commitRec r p x s).flt = s.flt ∧
    (commitRec r p x s).tly = s.tly ∧ (commitRec r p x s).sal = s.sal ∧ (commitRec r p x s).fld = s.fld ∧
    (commitRec r p x s).bed = s.bed ∧ (commitRec r p x s).pip = s.pip ∧ (commitRec r p x s).heads = s.heads ∧
    (commitRec r p x s).sem = s.sem ∧ (commitRec r p x s).pans = s.pans ∧ (commitRec r p x s).dmc = s.dmc ∧
    (commitRec r p x s).trn = s.trn ∧ (commitRec r p x s).thm = s.thm ∧ (commitRec r p x s).cel = s.cel ∧
    (commitRec r p x s).upd = s.upd ∧ (commitRec r p x s).key = s.key ∧ (commitRec r p x s).brl = s.brl ∧
    (commitRec r p x s).svc = s.svc ∧ (commitRec r p x s).pins = s.pins ∧ (commitRec r p x s).lay = s.lay ∧
    (commitRec r p x s).jrn = s.jrn ∧ (commitRec r p x s).replies = s.replies ∧ (commitRec r p x s).dram = s.dram ∧
    (commitRec r p x s).poison = s.poison ∧ (commitRec r p x s).serial = s.serial ∧ (commitRec r p x s).boot = s.boot ∧
    (commitRec r p x s).free = s.free ∧ (commitRec r p x s).pending = s.pending := by
  refine ⟨?_, ?_, ?_, ?_, ?_, ?_, ?_, ?_, ?_, ?_, ?_, ?_, ?_, ?_, ?_, ?_, ?_, ?_, ?_, ?_, ?_, ?_, ?_, ?_, ?_, ?_, ?_, ?_, ?_⟩ <;> exact commitRec_only _ (fun _ _ _ _ => rfl) r p x s

theorem countBytes_only {β : Type} (π : State → β) (hπ : ∀ s xdrn xhrv, π { s with drn := xdrn, hrv := xhrv } = π s) (use : ByteUse) (n : Nat) (s : State) :
    π (countBytes use n s) = π s := by
  unfold countBytes; repeat' first | contradiction | (simp only [hπ, tickUpd_only π (fun s xdrn => hπ s xdrn s.hrv), apply_ite π, ite_self]; done) | split | refine (foldl_same π _ (fun s x => ?_) _ _).trans ?_ | refine (elim_same π _ _ _ (fun x => ?_)).trans ?_ | dsimp only

@[simp] theorem countBytes_frame (use : ByteUse) (n : Nat) (s : State) :
    (countBytes use n s).dev = s.dev ∧ (countBytes use n s).gov = s.gov ∧ (countBytes use n s).flt = s.flt ∧
    (countBytes use n s).tly = s.tly ∧ (countBytes use n s).sal = s.sal ∧ (countBytes use n s).map = s.map ∧
    (countBytes use n s).fld = s.fld ∧ (countBytes use n s).bed = s.bed ∧ (countBytes use n s).pip = s.pip ∧
    (countBytes use n s).heads = s.heads ∧ (countBytes use n s).sem = s.sem ∧ (countBytes use n s).pans = s.pans ∧
    (countBytes use n s).dmc = s.dmc ∧ (countBytes use n s).trn = s.trn ∧ (countBytes use n s).thm = s.thm ∧
    (countBytes use n s).cel = s.cel ∧ (countBytes use n s).upd = s.upd ∧ (countBytes use n s).key = s.key ∧
    (countBytes use n s).brl = s.brl ∧ (countBytes use n s).svc = s.svc ∧ (countBytes use n s).pins = s.pins ∧
    (countBytes use n s).lay = s.lay ∧ (countBytes use n s).jrn = s.jrn ∧ (countBytes use n s).replies = s.replies ∧
    (countBytes use n s).dram = s.dram ∧ (countBytes use n s).poison = s.poison ∧ (countBytes use n s).serial = s.serial ∧
    (countBytes use n s).boot = s.boot ∧ (countBytes use n s).free = s.free ∧ (countBytes use n s).pending = s.pending := by
  refine ⟨?_, ?_, ?_, ?_, ?_, ?_, ?_, ?_, ?_, ?_, ?_, ?_, ?_, ?_, ?_, ?_, ?_, ?_, ?_, ?_, ?_, ?_, ?_, ?_, ?_, ?_, ?_, ?_, ?_, ?_⟩ <;> exact countBytes_only _ (fun _ _ _ => rfl) use n s

theorem parityCheck_only {β : Type} (π : State → β) (hπ : ∀ s xdrn xhrv xbed, π { s with drn := xdrn, hrv := xhrv, bed := xbed } = π s) (seq : Nat) (stripe : Nat) (s : State) :
    π (parityCheck seq stripe s) = π s := by
  unfold parityCheck; repeat' first | contradiction | (simp only [hπ, rowUpd_only π (fun s xbed => hπ s s.drn s.hrv xbed), tickUpd_only π (fun s xdrn => hπ s xdrn s.hrv s.bed), countBytes_only π (fun s xdrn xhrv => hπ s xdrn xhrv s.bed), apply_ite π, ite_self]; done) | split | refine (foldl_same π _ (fun s x => ?_) _ _).trans ?_ | refine (elim_same π _ _ _ (fun x => ?_)).trans ?_ | dsimp only

@[simp] theorem parityCheck_frame (seq : Nat) (stripe : Nat) (s : State) :
    (parityCheck seq stripe s).dev = s.dev ∧ (parityCheck seq stripe s).gov = s.gov ∧ (parityCheck seq stripe s).flt = s.flt ∧
    (parityCheck seq stripe s).tly = s.tly ∧ (parityCheck seq stripe s).sal = s.sal ∧ (parityCheck seq stripe s).map = s.map ∧
    (parityCheck seq stripe s).fld = s.fld ∧ (parityCheck seq stripe s).pip = s.pip ∧ (parityCheck seq stripe s).heads = s.heads ∧
    (parityCheck seq stripe s).sem = s.sem ∧ (parityCheck seq stripe s).pans = s.pans ∧ (parityCheck seq stripe s).dmc = s.dmc ∧
    (parityCheck seq stripe s).trn = s.trn ∧ (parityCheck seq stripe s).thm = s.thm ∧ (parityCheck seq stripe s).cel = s.cel ∧
    (parityCheck seq stripe s).upd = s.upd ∧ (parityCheck seq stripe s).key = s.key ∧ (parityCheck seq stripe s).brl = s.brl ∧
    (parityCheck seq stripe s).svc = s.svc ∧ (parityCheck seq stripe s).pins = s.pins ∧ (parityCheck seq stripe s).lay = s.lay ∧
    (parityCheck seq stripe s).jrn = s.jrn ∧ (parityCheck seq stripe s).replies = s.replies ∧
    (parityCheck seq stripe s).dram = s.dram ∧ (parityCheck seq stripe s).poison = s.poison ∧
    (parityCheck seq stripe s).serial = s.serial ∧ (parityCheck seq stripe s).boot = s.boot ∧
    (parityCheck seq stripe s).free = s.free ∧ (parityCheck seq stripe s).pending = s.pending := by
  refine ⟨?_, ?_, ?_, ?_, ?_, ?_, ?_, ?_, ?_, ?_, ?_, ?_, ?_, ?_, ?_, ?_, ?_, ?_, ?_, ?_, ?_, ?_, ?_, ?_, ?_, ?_, ?_, ?_, ?_⟩ <;> exact parityCheck_only _ (fun _ _ _ _ => rfl) seq stripe s

theorem closedParity_only {β : Type} (π : State → β) (hπ : ∀ s xdrn xhrv xbed, π { s with drn := xdrn, hrv := xhrv, bed := xbed } = π s) (s : State) :
    π (closedParity s) = π s := by
  unfold closedParity; repeat' first | contradiction | (simp only [hπ, parityCheck_only π hπ, foldl_same π, apply_ite π, ite_self]; done) | split | refine (foldl_same π _ (fun s x => ?_) _ _).trans ?_ | refine (elim_same π _ _ _ (fun x => ?_)).trans ?_ | dsimp only

@[simp] theorem closedParity_frame (s : State) :
    (closedParity s).dev = s.dev ∧ (closedParity s).gov = s.gov ∧ (closedParity s).flt = s.flt ∧ (closedParity s).tly = s.tly ∧
    (closedParity s).sal = s.sal ∧ (closedParity s).map = s.map ∧ (closedParity s).fld = s.fld ∧ (closedParity s).pip = s.pip ∧
    (closedParity s).heads = s.heads ∧ (closedParity s).sem = s.sem ∧ (closedParity s).pans = s.pans ∧
    (closedParity s).dmc = s.dmc ∧ (closedParity s).trn = s.trn ∧ (closedParity s).thm = s.thm ∧ (closedParity s).cel = s.cel ∧
    (closedParity s).upd = s.upd ∧ (closedParity s).key = s.key ∧ (closedParity s).brl = s.brl ∧ (closedParity s).svc = s.svc ∧
    (closedParity s).pins = s.pins ∧ (closedParity s).lay = s.lay ∧ (closedParity s).jrn = s.jrn ∧
    (closedParity s).replies = s.replies ∧ (closedParity s).dram = s.dram ∧ (closedParity s).poison = s.poison ∧
    (closedParity s).serial = s.serial ∧ (closedParity s).boot = s.boot ∧ (closedParity s).free = s.free ∧
    (closedParity s).pending = s.pending := by
  refine ⟨?_, ?_, ?_, ?_, ?_, ?_, ?_, ?_, ?_, ?_, ?_, ?_, ?_, ?_, ?_, ?_, ?_, ?_, ?_, ?_, ?_, ?_, ?_, ?_, ?_, ?_, ?_, ?_, ?_⟩ <;> exact closedParity_only _ (fun _ _ _ _ => rfl) s

theorem pageDone_only {β : Type} (π : State → β) (hπ : ∀ s xmap xdrn xhrv xbed, π { s with map := xmap, drn := xdrn, hrv := xhrv, bed := xbed } = π s) (p : StorePage) (s : State) :
    π (pageDone p s) = π s := by
  unfold pageDone; repeat' first | contradiction | (simp only [hπ, fullRows_only π (fun s xbed => hπ s s.map s.drn s.hrv xbed), commitRec_only π (fun s xmap xdrn xhrv => hπ s xmap xdrn xhrv s.bed), countBytes_only π (fun s xdrn xhrv => hπ s s.map xdrn xhrv s.bed), parityCheck_only π (fun s xdrn xhrv xbed => hπ s s.map xdrn xhrv xbed), foldl_same π, apply_ite π, ite_self]; done) | split | refine (foldl_same π _ (fun s x => ?_) _ _).trans ?_ | refine (elim_same π _ _ _ (fun x => ?_)).trans ?_ | with_reducible refine (fullRows_only π (fun s xbed => hπ s s.map s.drn s.hrv xbed) _).trans ?_ | with_reducible refine (commitRec_only π (fun s xmap xdrn xhrv => hπ s xmap xdrn xhrv s.bed) _ _ _ _).trans ?_ | with_reducible refine (countBytes_only π (fun s xdrn xhrv => hπ s s.map xdrn xhrv s.bed) _ _ _).trans ?_ | with_reducible refine (parityCheck_only π (fun s xdrn xhrv xbed => hπ s s.map xdrn xhrv xbed) _ _ _).trans ?_ | with_reducible refine (hπ _ _ _ _ _).trans ?_ | dsimp only

@[simp] theorem pageDone_frame (p : StorePage) (s : State) :
    (pageDone p s).dev = s.dev ∧ (pageDone p s).gov = s.gov ∧ (pageDone p s).flt = s.flt ∧ (pageDone p s).tly = s.tly ∧
    (pageDone p s).sal = s.sal ∧ (pageDone p s).fld = s.fld ∧ (pageDone p s).pip = s.pip ∧ (pageDone p s).heads = s.heads ∧
    (pageDone p s).sem = s.sem ∧ (pageDone p s).pans = s.pans ∧ (pageDone p s).dmc = s.dmc ∧ (pageDone p s).trn = s.trn ∧
    (pageDone p s).thm = s.thm ∧ (pageDone p s).cel = s.cel ∧ (pageDone p s).upd = s.upd ∧ (pageDone p s).key = s.key ∧
    (pageDone p s).brl = s.brl ∧ (pageDone p s).svc = s.svc ∧ (pageDone p s).pins = s.pins ∧ (pageDone p s).lay = s.lay ∧
    (pageDone p s).jrn = s.jrn ∧ (pageDone p s).replies = s.replies ∧ (pageDone p s).dram = s.dram ∧
    (pageDone p s).poison = s.poison ∧ (pageDone p s).serial = s.serial ∧ (pageDone p s).boot = s.boot ∧
    (pageDone p s).free = s.free ∧ (pageDone p s).pending = s.pending := by
  refine ⟨?_, ?_, ?_, ?_, ?_, ?_, ?_, ?_, ?_, ?_, ?_, ?_, ?_, ?_, ?_, ?_, ?_, ?_, ?_, ?_, ?_, ?_, ?_, ?_, ?_, ?_, ?_, ?_⟩ <;> exact pageDone_only _ (fun _ _ _ _ _ => rfl) p s

theorem failInSave_only {β : Type} (π : State → β) (hπ : ∀ s xbed, π { s with bed := xbed } = π s) (r : BedRow) (p : StorePage) (s : State) :
    π (failInSave r p s) = π s := by
  unfold failInSave; repeat' first | contradiction | (simp only [hπ, rowUpd_only π hπ, apply_ite π, ite_self]; done) | split | refine (foldl_same π _ (fun s x => ?_) _ _).trans ?_ | refine (elim_same π _ _ _ (fun x => ?_)).trans ?_ | dsimp only

@[simp] theorem failInSave_frame (r : BedRow) (p : StorePage) (s : State) :
    (failInSave r p s).dev = s.dev ∧ (failInSave r p s).gov = s.gov ∧ (failInSave r p s).flt = s.flt ∧
    (failInSave r p s).tly = s.tly ∧ (failInSave r p s).sal = s.sal ∧ (failInSave r p s).map = s.map ∧
    (failInSave r p s).drn = s.drn ∧ (failInSave r p s).hrv = s.hrv ∧ (failInSave r p s).fld = s.fld ∧
    (failInSave r p s).pip = s.pip ∧ (failInSave r p s).heads = s.heads ∧ (failInSave r p s).sem = s.sem ∧
    (failInSave r p s).pans = s.pans ∧ (failInSave r p s).dmc = s.dmc ∧ (failInSave r p s).trn = s.trn ∧
    (failInSave r p s).thm = s.thm ∧ (failInSave r p s).cel = s.cel ∧ (failInSave r p s).upd = s.upd ∧
    (failInSave r p s).key = s.key ∧ (failInSave r p s).brl = s.brl ∧ (failInSave r p s).svc = s.svc ∧
    (failInSave r p s).pins = s.pins ∧ (failInSave r p s).lay = s.lay ∧ (failInSave r p s).jrn = s.jrn ∧
    (failInSave r p s).replies = s.replies ∧ (failInSave r p s).dram = s.dram ∧ (failInSave r p s).poison = s.poison ∧
    (failInSave r p s).serial = s.serial ∧ (failInSave r p s).boot = s.boot ∧ (failInSave r p s).free = s.free ∧
    (failInSave r p s).pending = s.pending := by
  refine ⟨?_, ?_, ?_, ?_, ?_, ?_, ?_, ?_, ?_, ?_, ?_, ?_, ?_, ?_, ?_, ?_, ?_, ?_, ?_, ?_, ?_, ?_, ?_, ?_, ?_, ?_, ?_, ?_, ?_, ?_, ?_⟩ <;> exact failInSave_only _ (fun _ _ => rfl) r p s

theorem pageFail_only {β : Type} (π : State → β) (hπ : ∀ s xmap xdrn xhrv xbed, π { s with map := xmap, drn := xdrn, hrv := xhrv, bed := xbed } = π s) (p : StorePage) (s : State) :
    π (pageFail p s) = π s := by
  unfold pageFail; repeat' first | contradiction | with_reducible rfl | with_reducible refine (losePage_only π (fun s xmap xdrn xhrv xbed => hπ s xmap xdrn xhrv xbed) _ _ _ _).trans ?_ | with_reducible refine (blkUpd_only π (fun s xbed => hπ s s.map s.drn s.hrv xbed) _ _ _ _ _).trans ?_ | with_reducible refine (chanUpd_only π (fun s xbed => hπ s s.map s.drn s.hrv xbed) _ _ _).trans ?_ | with_reducible refine (parityCheck_only π (fun s xdrn xhrv xbed => hπ s s.map xdrn xhrv xbed) _ _ _).trans ?_ | with_reducible refine (failInSave_only π (fun s xbed => hπ s s.map s.drn s.hrv xbed) _ _ _).trans ?_ | with_reducible refine (foldl_same π _ (fun s x => ?_) _ _).trans ?_ | with_reducible refine (elim_same π _ _ _ (fun x => ?_)).trans ?_ | split | with_reducible refine (hπ _ _ _ _ _).trans ?_ | dsimp only

@[simp] theorem pageFail_frame (p : StorePage) (s : State) :
    (pageFail p s).dev = s.dev ∧ (pageFail p s).gov = s.gov ∧ (pageFail p s).flt = s.flt ∧ (pageFail p s).tly = s.tly ∧
    (pageFail p s).sal = s.sal ∧ (pageFail p s).fld = s.fld ∧ (pageFail p s).pip = s.pip ∧ (pageFail p s).heads = s.heads ∧
    (pageFail p s).sem = s.sem ∧ (pageFail p s).pans = s.pans ∧ (pageFail p s).dmc = s.dmc ∧ (pageFail p s).trn = s.trn ∧
    (pageFail p s).thm = s.thm ∧ (pageFail p s).cel = s.cel ∧ (pageFail p s).upd = s.upd ∧ (pageFail p s).key = s.key ∧
    (pageFail p s).brl = s.brl ∧ (pageFail p s).svc = s.svc ∧ (pageFail p s).pins = s.pins ∧ (pageFail p s).lay = s.lay ∧
    (pageFail p s).jrn = s.jrn ∧ (pageFail p s).replies = s.replies ∧ (pageFail p s).dram = s.dram ∧
    (pageFail p s).poison = s.poison ∧ (pageFail p s).serial = s.serial ∧ (pageFail p s).boot = s.boot ∧
    (pageFail p s).free = s.free ∧ (pageFail p s).pending = s.pending := by
  refine ⟨?_, ?_, ?_, ?_, ?_, ?_, ?_, ?_, ?_, ?_, ?_, ?_, ?_, ?_, ?_, ?_, ?_, ?_, ?_, ?_, ?_, ?_, ?_, ?_, ?_, ?_, ?_, ?_⟩ <;> exact pageFail_only _ (fun _ _ _ _ _ => rfl) p s

theorem pageNow_only {β : Type} (π : State → β) (hπ : ∀ s xmap xdrn xhrv xbed, π { s with map := xmap, drn := xdrn, hrv := xhrv, bed := xbed } = π s) {o : Option State} {s : State} (h : ∀ t, o = some t → π t = π s) :
    π (pageNow o s) = π s := by
  unfold pageNow
  split
  · rfl
  · rename_i t
    have e := h t rfl
    cases t.bed.staged.getLast? with
    | none => exact e
    | some p => exact (pageDone_only π hπ p t).trans e

theorem segmentNow_only {β : Type} (π : State → β) (hπ : ∀ s xmap xdrn xhrv xbed, π { s with map := xmap, drn := xdrn, hrv := xhrv, bed := xbed } = π s) (ns : List Nat) (s : State) :
    π (segmentNow ns s) = π s := by
  unfold segmentNow
  exact pageNow_only π hπ fun t h => stageSegment_only π (fun s xdrn xbed => hπ s s.map xdrn s.hrv xbed) h

@[simp] theorem segmentNow_frame (ns : List Nat) (s : State) :
    (segmentNow ns s).dev = s.dev ∧ (segmentNow ns s).gov = s.gov ∧ (segmentNow ns s).flt = s.flt ∧ (segmentNow ns s).tly = s.tly ∧
    (segmentNow ns s).sal = s.sal ∧ (segmentNow ns s).fld = s.fld ∧ (segmentNow ns s).pip = s.pip ∧
    (segmentNow ns s).heads = s.heads ∧ (segmentNow ns s).sem = s.sem ∧ (segmentNow ns s).pans = s.pans ∧
    (segmentNow ns s).dmc = s.dmc ∧ (segmentNow ns s).trn = s.trn ∧ (segmentNow ns s).thm = s.thm ∧ (segmentNow ns s).cel = s.cel ∧
    (segmentNow ns s).upd = s.upd ∧ (segmentNow ns s).key = s.key ∧ (segmentNow ns s).brl = s.brl ∧ (segmentNow ns s).svc = s.svc ∧
    (segmentNow ns s).pins = s.pins ∧ (segmentNow ns s).lay = s.lay ∧ (segmentNow ns s).jrn = s.jrn ∧
    (segmentNow ns s).replies = s.replies ∧ (segmentNow ns s).dram = s.dram ∧ (segmentNow ns s).poison = s.poison ∧
    (segmentNow ns s).serial = s.serial ∧ (segmentNow ns s).boot = s.boot ∧ (segmentNow ns s).free = s.free ∧
    (segmentNow ns s).pending = s.pending := by
  refine ⟨?_, ?_, ?_, ?_, ?_, ?_, ?_, ?_, ?_, ?_, ?_, ?_, ?_, ?_, ?_, ?_, ?_, ?_, ?_, ?_, ?_, ?_, ?_, ?_, ?_, ?_, ?_, ?_⟩ <;> exact segmentNow_only _ (fun _ _ _ _ _ => rfl) ns s

theorem tablePage_only {β : Type} (π : State → β) (hπ : ∀ s xmap xdrn xhrv xbed, π { s with map := xmap, drn := xdrn, hrv := xhrv, bed := xbed } = π s) (es : List (Nat × Nat)) (k : Nat) (s : State) :
    π (tablePage es k s) = π s := by
  unfold tablePage
  refine pageNow_only π hπ fun t h => ?_
  obtain ⟨u, hu, rfl⟩ := Option.map_eq_some_iff.1 h
  exact (stagedUpd_only π (fun s x => hπ s s.map s.drn s.hrv x) _ _ _).trans (newPage_only π (fun s x => hπ s s.map s.drn s.hrv x) hu)

@[simp] theorem tablePage_frame (es : List (Nat × Nat)) (k : Nat) (s : State) :
    (tablePage es k s).dev = s.dev ∧ (tablePage es k s).gov = s.gov ∧ (tablePage es k s).flt = s.flt ∧
    (tablePage es k s).tly = s.tly ∧ (tablePage es k s).sal = s.sal ∧ (tablePage es k s).fld = s.fld ∧
    (tablePage es k s).pip = s.pip ∧ (tablePage es k s).heads = s.heads ∧ (tablePage es k s).sem = s.sem ∧
    (tablePage es k s).pans = s.pans ∧ (tablePage es k s).dmc = s.dmc ∧ (tablePage es k s).trn = s.trn ∧
    (tablePage es k s).thm = s.thm ∧ (tablePage es k s).cel = s.cel ∧ (tablePage es k s).upd = s.upd ∧
    (tablePage es k s).key = s.key ∧ (tablePage es k s).brl = s.brl ∧ (tablePage es k s).svc = s.svc ∧
    (tablePage es k s).pins = s.pins ∧ (tablePage es k s).lay = s.lay ∧ (tablePage es k s).jrn = s.jrn ∧
    (tablePage es k s).replies = s.replies ∧ (tablePage es k s).dram = s.dram ∧ (tablePage es k s).poison = s.poison ∧
    (tablePage es k s).serial = s.serial ∧ (tablePage es k s).boot = s.boot ∧ (tablePage es k s).free = s.free ∧
    (tablePage es k s).pending = s.pending := by
  refine ⟨?_, ?_, ?_, ?_, ?_, ?_, ?_, ?_, ?_, ?_, ?_, ?_, ?_, ?_, ?_, ?_, ?_, ?_, ?_, ?_, ?_, ?_, ?_, ?_, ?_, ?_, ?_, ?_⟩ <;> exact tablePage_only _ (fun _ _ _ _ _ => rfl) es k s

theorem writeBlockTable_only {β : Type} (π : State → β) (hπ : ∀ s xmap xdrn xhrv xbed, π { s with map := xmap, drn := xdrn, hrv := xhrv, bed := xbed } = π s) (s : State) :
    π (writeBlockTable s) = π s := by
  unfold writeBlockTable; repeat' first | contradiction | with_reducible rfl | with_reducible refine (tablePage_only π (fun s xmap xdrn xhrv xbed => hπ s xmap xdrn xhrv xbed) _ _ _).trans ?_ | with_reducible refine (foldl_same π _ (fun s x => ?_) _ _).trans ?_ | with_reducible refine (elim_same π _ _ _ (fun x => ?_)).trans ?_ | split | with_reducible refine (hπ _ _ _ _ _).trans ?_ | dsimp only

@[simp] theorem writeBlockTable_frame (s : State) :
    (writeBlockTable s).dev = s.dev ∧ (writeBlockTable s).gov = s.gov ∧ (writeBlockTable s).flt = s.flt ∧
    (writeBlockTable s).tly = s.tly ∧ (writeBlockTable s).sal = s.sal ∧ (writeBlockTable s).fld = s.fld ∧
    (writeBlockTable s).pip = s.pip ∧ (writeBlockTable s).heads = s.heads ∧ (writeBlockTable s).sem = s.sem ∧
    (writeBlockTable s).pans = s.pans ∧ (writeBlockTable s).dmc = s.dmc ∧ (writeBlockTable s).trn = s.trn ∧
    (writeBlockTable s).thm = s.thm ∧ (writeBlockTable s).cel = s.cel ∧ (writeBlockTable s).upd = s.upd ∧
    (writeBlockTable s).key = s.key ∧ (writeBlockTable s).brl = s.brl ∧ (writeBlockTable s).svc = s.svc ∧
    (writeBlockTable s).pins = s.pins ∧ (writeBlockTable s).lay = s.lay ∧ (writeBlockTable s).jrn = s.jrn ∧
    (writeBlockTable s).replies = s.replies ∧ (writeBlockTable s).dram = s.dram ∧ (writeBlockTable s).poison = s.poison ∧
    (writeBlockTable s).serial = s.serial ∧ (writeBlockTable s).boot = s.boot ∧ (writeBlockTable s).free = s.free ∧
    (writeBlockTable s).pending = s.pending := by
  refine ⟨?_, ?_, ?_, ?_, ?_, ?_, ?_, ?_, ?_, ?_, ?_, ?_, ?_, ?_, ?_, ?_, ?_, ?_, ?_, ?_, ?_, ?_, ?_, ?_, ?_, ?_, ?_, ?_⟩ <;> exact writeBlockTable_only _ (fun _ _ _ _ _ => rfl) s

theorem tableDue_only {β : Type} (π : State → β) (hπ : ∀ s xmap xdrn xhrv xbed, π { s with map := xmap, drn := xdrn, hrv := xhrv, bed := xbed } = π s) (s : State) :
    π (tableDue s) = π s := by
  unfold tableDue; repeat' first | contradiction | (simp only [hπ, writeBlockTable_only π hπ, apply_ite π, ite_self]; done) | with_reducible refine (writeBlockTable_only π (fun s xmap xdrn xhrv xbed => hπ s xmap xdrn xhrv xbed) _).trans ?_ | with_reducible refine (hπ _ _ _ _ _).trans ?_ | refine (foldl_same π _ (fun s x => ?_) _ _).trans ?_ | refine (elim_same π _ _ _ (fun x => ?_)).trans ?_ | split | dsimp only

@[simp] theorem tableDue_frame (s : State) :
    (tableDue s).dev = s.dev ∧ (tableDue s).gov = s.gov ∧ (tableDue s).flt = s.flt ∧ (tableDue s).tly = s.tly ∧
    (tableDue s).sal = s.sal ∧ (tableDue s).fld = s.fld ∧ (tableDue s).pip = s.pip ∧ (tableDue s).heads = s.heads ∧
    (tableDue s).sem = s.sem ∧ (tableDue s).pans = s.pans ∧ (tableDue s).dmc = s.dmc ∧ (tableDue s).trn = s.trn ∧
    (tableDue s).thm = s.thm ∧ (tableDue s).cel = s.cel ∧ (tableDue s).upd = s.upd ∧ (tableDue s).key = s.key ∧
    (tableDue s).brl = s.brl ∧ (tableDue s).svc = s.svc ∧ (tableDue s).pins = s.pins ∧ (tableDue s).lay = s.lay ∧
    (tableDue s).jrn = s.jrn ∧ (tableDue s).replies = s.replies ∧ (tableDue s).dram = s.dram ∧ (tableDue s).poison = s.poison ∧
    (tableDue s).serial = s.serial ∧ (tableDue s).boot = s.boot ∧ (tableDue s).free = s.free ∧ (tableDue s).pending = s.pending := by
  refine ⟨?_, ?_, ?_, ?_, ?_, ?_, ?_, ?_, ?_, ?_, ?_, ?_, ?_, ?_, ?_, ?_, ?_, ?_, ?_, ?_, ?_, ?_, ?_, ?_, ?_, ?_, ?_, ?_⟩ <;> exact tableDue_only _ (fun _ _ _ _ _ => rfl) s

theorem settle_only {β : Type} (π : State → β) (hπ : ∀ s xmap xdrn xhrv xbed, π { s with map := xmap, drn := xdrn, hrv := xhrv, bed := xbed } = π s) (s : State) :
    π (settle s) = π s := by
  unfold settle
  split
  · refine (tableDue_only π hπ _).trans ?_
    refine (openRows_only π (fun s x => hπ s s.map s.drn s.hrv x) _).trans ?_
    refine (fullRows_only π (fun s x => hπ s s.map s.drn s.hrv x) _).trans ?_
    refine (sendPages_only π (fun s x => hπ s s.map s.drn s.hrv x) _).trans ?_
    refine (stageWaiting_only π (fun s d b => hπ s s.map d s.hrv b) _).trans ?_
    refine (sendPages_only π (fun s x => hπ s s.map s.drn s.hrv x) _).trans ?_
    exact segmentsDue_only π (fun s d b => hπ s s.map d s.hrv b) _
  · rfl

@[simp] theorem settle_frame (s : State) :
    (settle s).dev = s.dev ∧ (settle s).gov = s.gov ∧ (settle s).flt = s.flt ∧ (settle s).tly = s.tly ∧ (settle s).sal = s.sal ∧
    (settle s).fld = s.fld ∧ (settle s).pip = s.pip ∧ (settle s).heads = s.heads ∧ (settle s).sem = s.sem ∧
    (settle s).pans = s.pans ∧ (settle s).dmc = s.dmc ∧ (settle s).trn = s.trn ∧ (settle s).thm = s.thm ∧ (settle s).cel = s.cel ∧
    (settle s).upd = s.upd ∧ (settle s).key = s.key ∧ (settle s).brl = s.brl ∧ (settle s).svc = s.svc ∧ (settle s).pins = s.pins ∧
    (settle s).lay = s.lay ∧ (settle s).jrn = s.jrn ∧ (settle s).replies = s.replies ∧ (settle s).dram = s.dram ∧
    (settle s).poison = s.poison ∧ (settle s).serial = s.serial ∧ (settle s).boot = s.boot ∧ (settle s).free = s.free ∧
    (settle s).pending = s.pending := by
  refine ⟨?_, ?_, ?_, ?_, ?_, ?_, ?_, ?_, ?_, ?_, ?_, ?_, ?_, ?_, ?_, ?_, ?_, ?_, ?_, ?_, ?_, ?_, ?_, ?_, ?_, ?_, ?_, ?_⟩ <;> exact settle_only _ (fun _ _ _ _ _ => rfl) s

theorem eraseUpdate_only {β : Type} (π : State → β) (hπ : ∀ s xbed, π { s with bed := xbed } = π s) (s : State) :
    π (eraseUpdate s) = π s := by
  unfold eraseUpdate; repeat' first | contradiction | (simp only [hπ, apply_ite π, ite_self]; done) | split | refine (foldl_same π _ (fun s x => ?_) _ _).trans ?_ | refine (elim_same π _ _ _ (fun x => ?_)).trans ?_ | dsimp only

@[simp] theorem eraseUpdate_frame (s : State) :
    (eraseUpdate s).dev = s.dev ∧ (eraseUpdate s).gov = s.gov ∧ (eraseUpdate s).flt = s.flt ∧ (eraseUpdate s).tly = s.tly ∧
    (eraseUpdate s).sal = s.sal ∧ (eraseUpdate s).map = s.map ∧ (eraseUpdate s).drn = s.drn ∧ (eraseUpdate s).hrv = s.hrv ∧
    (eraseUpdate s).fld = s.fld ∧ (eraseUpdate s).pip = s.pip ∧ (eraseUpdate s).heads = s.heads ∧ (eraseUpdate s).sem = s.sem ∧
    (eraseUpdate s).pans = s.pans ∧ (eraseUpdate s).dmc = s.dmc ∧ (eraseUpdate s).trn = s.trn ∧ (eraseUpdate s).thm = s.thm ∧
    (eraseUpdate s).cel = s.cel ∧ (eraseUpdate s).upd = s.upd ∧ (eraseUpdate s).key = s.key ∧ (eraseUpdate s).brl = s.brl ∧
    (eraseUpdate s).svc = s.svc ∧ (eraseUpdate s).pins = s.pins ∧ (eraseUpdate s).lay = s.lay ∧ (eraseUpdate s).jrn = s.jrn ∧
    (eraseUpdate s).replies = s.replies ∧ (eraseUpdate s).dram = s.dram ∧ (eraseUpdate s).poison = s.poison ∧
    (eraseUpdate s).serial = s.serial ∧ (eraseUpdate s).boot = s.boot ∧ (eraseUpdate s).free = s.free ∧
    (eraseUpdate s).pending = s.pending := by
  refine ⟨?_, ?_, ?_, ?_, ?_, ?_, ?_, ?_, ?_, ?_, ?_, ?_, ?_, ?_, ?_, ?_, ?_, ?_, ?_, ?_, ?_, ?_, ?_, ?_, ?_, ?_, ?_, ?_, ?_, ?_, ?_⟩ <;> exact eraseUpdate_only _ (fun _ _ => rfl) s

theorem writeUpdate_only {β : Type} (π : State → β) (hπ : ∀ s xdrn xhrv xbed, π { s with drn := xdrn, hrv := xhrv, bed := xbed } = π s) (bytes : Nat) (s : State) :
    π (writeUpdate bytes s) = π s := by
  simp only [writeUpdate, hπ, countBytes_only π (fun s xdrn xhrv => hπ s xdrn xhrv s.bed), apply_ite π, ite_self]

@[simp] theorem writeUpdate_frame (bytes : Nat) (s : State) :
    (writeUpdate bytes s).dev = s.dev ∧ (writeUpdate bytes s).gov = s.gov ∧ (writeUpdate bytes s).flt = s.flt ∧
    (writeUpdate bytes s).tly = s.tly ∧ (writeUpdate bytes s).sal = s.sal ∧ (writeUpdate bytes s).map = s.map ∧
    (writeUpdate bytes s).fld = s.fld ∧ (writeUpdate bytes s).pip = s.pip ∧ (writeUpdate bytes s).heads = s.heads ∧
    (writeUpdate bytes s).sem = s.sem ∧ (writeUpdate bytes s).pans = s.pans ∧ (writeUpdate bytes s).dmc = s.dmc ∧
    (writeUpdate bytes s).trn = s.trn ∧ (writeUpdate bytes s).thm = s.thm ∧ (writeUpdate bytes s).cel = s.cel ∧
    (writeUpdate bytes s).upd = s.upd ∧ (writeUpdate bytes s).key = s.key ∧ (writeUpdate bytes s).brl = s.brl ∧
    (writeUpdate bytes s).svc = s.svc ∧ (writeUpdate bytes s).pins = s.pins ∧ (writeUpdate bytes s).lay = s.lay ∧
    (writeUpdate bytes s).jrn = s.jrn ∧ (writeUpdate bytes s).replies = s.replies ∧ (writeUpdate bytes s).dram = s.dram ∧
    (writeUpdate bytes s).poison = s.poison ∧ (writeUpdate bytes s).serial = s.serial ∧ (writeUpdate bytes s).boot = s.boot ∧
    (writeUpdate bytes s).free = s.free ∧ (writeUpdate bytes s).pending = s.pending := by
  refine ⟨?_, ?_, ?_, ?_, ?_, ?_, ?_, ?_, ?_, ?_, ?_, ?_, ?_, ?_, ?_, ?_, ?_, ?_, ?_, ?_, ?_, ?_, ?_, ?_, ?_, ?_, ?_, ?_, ?_⟩ <;> exact writeUpdate_only _ (fun _ _ _ _ => rfl) bytes s

theorem signEcdsa_only {β : Type} (π : State → β) (hπ : ∀ s xkey, π { s with key := xkey } = π s) (s : State) :
    π (signEcdsa s) = π s := by
  simp only [signEcdsa, hπ, apply_ite π, ite_self]

@[simp] theorem signEcdsa_frame (s : State) :
    (signEcdsa s).dev = s.dev ∧ (signEcdsa s).gov = s.gov ∧ (signEcdsa s).flt = s.flt ∧ (signEcdsa s).tly = s.tly ∧
    (signEcdsa s).sal = s.sal ∧ (signEcdsa s).map = s.map ∧ (signEcdsa s).drn = s.drn ∧ (signEcdsa s).hrv = s.hrv ∧
    (signEcdsa s).fld = s.fld ∧ (signEcdsa s).bed = s.bed ∧ (signEcdsa s).pip = s.pip ∧ (signEcdsa s).heads = s.heads ∧
    (signEcdsa s).sem = s.sem ∧ (signEcdsa s).pans = s.pans ∧ (signEcdsa s).dmc = s.dmc ∧ (signEcdsa s).trn = s.trn ∧
    (signEcdsa s).thm = s.thm ∧ (signEcdsa s).cel = s.cel ∧ (signEcdsa s).upd = s.upd ∧ (signEcdsa s).brl = s.brl ∧
    (signEcdsa s).svc = s.svc ∧ (signEcdsa s).pins = s.pins ∧ (signEcdsa s).lay = s.lay ∧ (signEcdsa s).jrn = s.jrn ∧
    (signEcdsa s).replies = s.replies ∧ (signEcdsa s).dram = s.dram ∧ (signEcdsa s).poison = s.poison ∧
    (signEcdsa s).serial = s.serial ∧ (signEcdsa s).boot = s.boot ∧ (signEcdsa s).free = s.free ∧ (signEcdsa s).pending = s.pending := by
  refine ⟨?_, ?_, ?_, ?_, ?_, ?_, ?_, ?_, ?_, ?_, ?_, ?_, ?_, ?_, ?_, ?_, ?_, ?_, ?_, ?_, ?_, ?_, ?_, ?_, ?_, ?_, ?_, ?_, ?_, ?_, ?_⟩ <;> exact signEcdsa_only _ (fun _ _ => rfl) s

theorem signLms_only {β : Type} (π : State → β) (hπ : ∀ s xcel xkey, π { s with cel := xcel, key := xkey } = π s) (s : State) :
    π (signLms s).1 = π s := by
  unfold signLms; repeat' first | contradiction | with_reducible rfl | with_reducible refine (appendLms_only π (fun s xcel xkey => hπ s xcel xkey) _).trans ?_ | with_reducible refine (foldl_same π _ (fun s x => ?_) _ _).trans ?_ | with_reducible refine (elim_same π _ _ _ (fun x => ?_)).trans ?_ | split | with_reducible refine (hπ _ _ _).trans ?_ | dsimp only

@[simp] theorem signLms_frame (s : State) :
    (signLms s).1.dev = s.dev ∧ (signLms s).1.gov = s.gov ∧ (signLms s).1.flt = s.flt ∧ (signLms s).1.tly = s.tly ∧
    (signLms s).1.sal = s.sal ∧ (signLms s).1.map = s.map ∧ (signLms s).1.drn = s.drn ∧ (signLms s).1.hrv = s.hrv ∧
    (signLms s).1.fld = s.fld ∧ (signLms s).1.bed = s.bed ∧ (signLms s).1.pip = s.pip ∧ (signLms s).1.heads = s.heads ∧
    (signLms s).1.sem = s.sem ∧ (signLms s).1.pans = s.pans ∧ (signLms s).1.dmc = s.dmc ∧ (signLms s).1.trn = s.trn ∧
    (signLms s).1.thm = s.thm ∧ (signLms s).1.upd = s.upd ∧ (signLms s).1.brl = s.brl ∧ (signLms s).1.svc = s.svc ∧
    (signLms s).1.pins = s.pins ∧ (signLms s).1.lay = s.lay ∧ (signLms s).1.jrn = s.jrn ∧ (signLms s).1.replies = s.replies ∧
    (signLms s).1.dram = s.dram ∧ (signLms s).1.poison = s.poison ∧ (signLms s).1.serial = s.serial ∧ (signLms s).1.boot = s.boot ∧
    (signLms s).1.free = s.free ∧ (signLms s).1.pending = s.pending := by
  refine ⟨?_, ?_, ?_, ?_, ?_, ?_, ?_, ?_, ?_, ?_, ?_, ?_, ?_, ?_, ?_, ?_, ?_, ?_, ?_, ?_, ?_, ?_, ?_, ?_, ?_, ?_, ?_, ?_, ?_, ?_⟩ <;> exact signLms_only _ (fun _ _ _ => rfl) s

theorem signLate_only {β : Type} (π : State → β) (hπ : ∀ s xcel xkey, π { s with cel := xcel, key := xkey } = π s) (s : State) :
    π (signLate s).1 = π s := by
  unfold signLate; repeat' first | contradiction | (simp only [hπ, signLms_only π hπ, apply_ite π, ite_self]; done) | with_reducible refine (signLms_only π (fun s xcel xkey => hπ s xcel xkey) _).trans ?_ | with_reducible refine (hπ _ _ _).trans ?_ | refine (foldl_same π _ (fun s x => ?_) _ _).trans ?_ | refine (elim_same π _ _ _ (fun x => ?_)).trans ?_ | split | dsimp only

@[simp] theorem signLate_frame (s : State) :
    (signLate s).1.dev = s.dev ∧ (signLate s).1.gov = s.gov ∧ (signLate s).1.flt = s.flt ∧ (signLate s).1.tly = s.tly ∧
    (signLate s).1.sal = s.sal ∧ (signLate s).1.map = s.map ∧ (signLate s).1.drn = s.drn ∧ (signLate s).1.hrv = s.hrv ∧
    (signLate s).1.fld = s.fld ∧ (signLate s).1.bed = s.bed ∧ (signLate s).1.pip = s.pip ∧ (signLate s).1.heads = s.heads ∧
    (signLate s).1.sem = s.sem ∧ (signLate s).1.pans = s.pans ∧ (signLate s).1.dmc = s.dmc ∧ (signLate s).1.trn = s.trn ∧
    (signLate s).1.thm = s.thm ∧ (signLate s).1.upd = s.upd ∧ (signLate s).1.brl = s.brl ∧ (signLate s).1.svc = s.svc ∧
    (signLate s).1.pins = s.pins ∧ (signLate s).1.lay = s.lay ∧ (signLate s).1.jrn = s.jrn ∧ (signLate s).1.replies = s.replies ∧
    (signLate s).1.dram = s.dram ∧ (signLate s).1.poison = s.poison ∧ (signLate s).1.serial = s.serial ∧
    (signLate s).1.boot = s.boot ∧ (signLate s).1.free = s.free ∧ (signLate s).1.pending = s.pending := by
  refine ⟨?_, ?_, ?_, ?_, ?_, ?_, ?_, ?_, ?_, ?_, ?_, ?_, ?_, ?_, ?_, ?_, ?_, ?_, ?_, ?_, ?_, ?_, ?_, ?_, ?_, ?_, ?_, ?_, ?_, ?_⟩ <;> exact signLate_only _ (fun _ _ _ => rfl) s

theorem signBoth_only {β : Type} (π : State → β) (hπ : ∀ s xcel xkey, π { s with cel := xcel, key := xkey } = π s) (s : State) :
    π (signBoth s).1 = π s := by
  simp only [signBoth, hπ, signEcdsa_only π (fun s xkey => hπ s s.cel xkey), signLate_only π hπ, apply_ite π, ite_self]

@[simp] theorem signBoth_frame (s : State) :
    (signBoth s).1.dev = s.dev ∧ (signBoth s).1.gov = s.gov ∧ (signBoth s).1.flt = s.flt ∧ (signBoth s).1.tly = s.tly ∧
    (signBoth s).1.sal = s.sal ∧ (signBoth s).1.map = s.map ∧ (signBoth s).1.drn = s.drn ∧ (signBoth s).1.hrv = s.hrv ∧
    (signBoth s).1.fld = s.fld ∧ (signBoth s).1.bed = s.bed ∧ (signBoth s).1.pip = s.pip ∧ (signBoth s).1.heads = s.heads ∧
    (signBoth s).1.sem = s.sem ∧ (signBoth s).1.pans = s.pans ∧ (signBoth s).1.dmc = s.dmc ∧ (signBoth s).1.trn = s.trn ∧
    (signBoth s).1.thm = s.thm ∧ (signBoth s).1.upd = s.upd ∧ (signBoth s).1.brl = s.brl ∧ (signBoth s).1.svc = s.svc ∧
    (signBoth s).1.pins = s.pins ∧ (signBoth s).1.lay = s.lay ∧ (signBoth s).1.jrn = s.jrn ∧ (signBoth s).1.replies = s.replies ∧
    (signBoth s).1.dram = s.dram ∧ (signBoth s).1.poison = s.poison ∧ (signBoth s).1.serial = s.serial ∧
    (signBoth s).1.boot = s.boot ∧ (signBoth s).1.free = s.free ∧ (signBoth s).1.pending = s.pending := by
  refine ⟨?_, ?_, ?_, ?_, ?_, ?_, ?_, ?_, ?_, ?_, ?_, ?_, ?_, ?_, ?_, ?_, ?_, ?_, ?_, ?_, ?_, ?_, ?_, ?_, ?_, ?_, ?_, ?_, ?_, ?_⟩ <;> exact signBoth_only _ (fun _ _ _ => rfl) s

theorem putSalRec_only {β : Type} (π : State → β) (hπ : ∀ s xsal xcel xkey xjrn, π { s with sal := xsal, cel := xcel, key := xkey, jrn := xjrn } = π s) (t : State × SalRec) :
    π (putSalRec t) = π t.1 := by
  unfold putSalRec; repeat' first | contradiction | (simp only [hπ, State.journal_only π (fun s xjrn => hπ s s.sal s.cel s.key xjrn), signBoth_only π (fun s xcel xkey => hπ s s.sal xcel xkey s.jrn), apply_ite π, ite_self]; done) | with_reducible refine (State.journal_only π (fun s xjrn => hπ s s.sal s.cel s.key xjrn) _ _).trans ?_ | with_reducible refine (signBoth_only π (fun s xcel xkey => hπ s s.sal xcel xkey s.jrn) _).trans ?_ | with_reducible refine (hπ _ _ _ _ _).trans ?_ | refine (foldl_same π _ (fun s x => ?_) _ _).trans ?_ | refine (elim_same π _ _ _ (fun x => ?_)).trans ?_ | split | dsimp only

@[simp] theorem putSalRec_frame (t : State × SalRec) :
    (putSalRec t).dev = t.1.dev ∧ (putSalRec t).gov = t.1.gov ∧ (putSalRec t).flt = t.1.flt ∧ (putSalRec t).tly = t.1.tly ∧
    (putSalRec t).map = t.1.map ∧ (putSalRec t).drn = t.1.drn ∧ (putSalRec t).hrv = t.1.hrv ∧ (putSalRec t).fld = t.1.fld ∧
    (putSalRec t).bed = t.1.bed ∧ (putSalRec t).pip = t.1.pip ∧ (putSalRec t).heads = t.1.heads ∧ (putSalRec t).sem = t.1.sem ∧
    (putSalRec t).pans = t.1.pans ∧ (putSalRec t).dmc = t.1.dmc ∧ (putSalRec t).trn = t.1.trn ∧ (putSalRec t).thm = t.1.thm ∧
    (putSalRec t).upd = t.1.upd ∧ (putSalRec t).brl = t.1.brl ∧ (putSalRec t).svc = t.1.svc ∧ (putSalRec t).pins = t.1.pins ∧
    (putSalRec t).lay = t.1.lay ∧ (putSalRec t).replies = t.1.replies ∧ (putSalRec t).dram = t.1.dram ∧
    (putSalRec t).poison = t.1.poison ∧ (putSalRec t).serial = t.1.serial ∧ (putSalRec t).boot = t.1.boot ∧
    (putSalRec t).free = t.1.free ∧ (putSalRec t).pending = t.1.pending := by
  refine ⟨?_, ?_, ?_, ?_, ?_, ?_, ?_, ?_, ?_, ?_, ?_, ?_, ?_, ?_, ?_, ?_, ?_, ?_, ?_, ?_, ?_, ?_, ?_, ?_, ?_, ?_, ?_, ?_⟩ <;> exact putSalRec_only _ (fun _ _ _ _ _ => rfl) t

theorem endLearn_only {β : Type} (π : State → β) (hπ : ∀ s xsal xcel xkey xjrn xfree, π { s with sal := xsal, cel := xcel, key := xkey, jrn := xjrn, free := xfree } = π s) (result : Nat) (s : State) :
    π (endLearn result s) = π s := by
  unfold endLearn; repeat' first | contradiction | (simp only [hπ, learnRec_only π (fun s xsal xfree => hπ s xsal s.cel s.key s.jrn xfree), putSalRec_only π (fun s xsal xcel xkey xjrn => hπ s xsal xcel xkey xjrn s.free), apply_ite π, ite_self]; done) | with_reducible refine (learnRec_only π (fun s xsal xfree => hπ s xsal s.cel s.key s.jrn xfree) _ _).trans ?_ | with_reducible refine (putSalRec_only π (fun s xsal xcel xkey xjrn => hπ s xsal xcel xkey xjrn s.free) _).trans ?_ | with_reducible refine (hπ _ _ _ _ _ _).trans ?_ | refine (foldl_same π _ (fun s x => ?_) _ _).trans ?_ | refine (elim_same π _ _ _ (fun x => ?_)).trans ?_ | split | dsimp only

@[simp] theorem endLearn_frame (result : Nat) (s : State) :
    (endLearn result s).dev = s.dev ∧ (endLearn result s).gov = s.gov ∧ (endLearn result s).flt = s.flt ∧
    (endLearn result s).tly = s.tly ∧ (endLearn result s).map = s.map ∧ (endLearn result s).drn = s.drn ∧
    (endLearn result s).hrv = s.hrv ∧ (endLearn result s).fld = s.fld ∧ (endLearn result s).bed = s.bed ∧
    (endLearn result s).pip = s.pip ∧ (endLearn result s).heads = s.heads ∧ (endLearn result s).sem = s.sem ∧
    (endLearn result s).pans = s.pans ∧ (endLearn result s).dmc = s.dmc ∧ (endLearn result s).trn = s.trn ∧
    (endLearn result s).thm = s.thm ∧ (endLearn result s).upd = s.upd ∧ (endLearn result s).brl = s.brl ∧
    (endLearn result s).svc = s.svc ∧ (endLearn result s).pins = s.pins ∧ (endLearn result s).lay = s.lay ∧
    (endLearn result s).replies = s.replies ∧ (endLearn result s).dram = s.dram ∧ (endLearn result s).poison = s.poison ∧
    (endLearn result s).serial = s.serial ∧ (endLearn result s).boot = s.boot ∧ (endLearn result s).pending = s.pending := by
  refine ⟨?_, ?_, ?_, ?_, ?_, ?_, ?_, ?_, ?_, ?_, ?_, ?_, ?_, ?_, ?_, ?_, ?_, ?_, ?_, ?_, ?_, ?_, ?_, ?_, ?_, ?_, ?_⟩ <;> exact endLearn_only _ (fun _ _ _ _ _ _ => rfl) result s

theorem abandonSeal_only {β : Type} (π : State → β) (hπ : ∀ s xsal xcel xkey xjrn xfree, π { s with sal := xsal, cel := xcel, key := xkey, jrn := xjrn, free := xfree } = π s) (s : State) :
    π (abandonSeal s) = π s := by
  unfold abandonSeal; repeat' first | contradiction | (simp only [hπ, abandonRec_only π (fun s xsal xfree => hπ s xsal s.cel s.key s.jrn xfree), putSalRec_only π (fun s xsal xcel xkey xjrn => hπ s xsal xcel xkey xjrn s.free), apply_ite π, ite_self]; done) | with_reducible refine (abandonRec_only π (fun s xsal xfree => hπ s xsal s.cel s.key s.jrn xfree) _).trans ?_ | with_reducible refine (putSalRec_only π (fun s xsal xcel xkey xjrn => hπ s xsal xcel xkey xjrn s.free) _).trans ?_ | with_reducible refine (hπ _ _ _ _ _ _).trans ?_ | refine (foldl_same π _ (fun s x => ?_) _ _).trans ?_ | refine (elim_same π _ _ _ (fun x => ?_)).trans ?_ | split | dsimp only

@[simp] theorem abandonSeal_frame (s : State) :
    (abandonSeal s).dev = s.dev ∧ (abandonSeal s).gov = s.gov ∧ (abandonSeal s).flt = s.flt ∧ (abandonSeal s).tly = s.tly ∧
    (abandonSeal s).map = s.map ∧ (abandonSeal s).drn = s.drn ∧ (abandonSeal s).hrv = s.hrv ∧ (abandonSeal s).fld = s.fld ∧
    (abandonSeal s).bed = s.bed ∧ (abandonSeal s).pip = s.pip ∧ (abandonSeal s).heads = s.heads ∧ (abandonSeal s).sem = s.sem ∧
    (abandonSeal s).pans = s.pans ∧ (abandonSeal s).dmc = s.dmc ∧ (abandonSeal s).trn = s.trn ∧ (abandonSeal s).thm = s.thm ∧
    (abandonSeal s).upd = s.upd ∧ (abandonSeal s).brl = s.brl ∧ (abandonSeal s).svc = s.svc ∧ (abandonSeal s).pins = s.pins ∧
    (abandonSeal s).lay = s.lay ∧ (abandonSeal s).replies = s.replies ∧ (abandonSeal s).dram = s.dram ∧
    (abandonSeal s).poison = s.poison ∧ (abandonSeal s).serial = s.serial ∧ (abandonSeal s).boot = s.boot ∧
    (abandonSeal s).pending = s.pending := by
  refine ⟨?_, ?_, ?_, ?_, ?_, ?_, ?_, ?_, ?_, ?_, ?_, ?_, ?_, ?_, ?_, ?_, ?_, ?_, ?_, ?_, ?_, ?_, ?_, ?_, ?_, ?_, ?_⟩ <;> exact abandonSeal_only _ (fun _ _ _ _ _ _ => rfl) s

theorem setPoints_only {β : Type} (π : State → β) (hπ : ∀ s xhrv, π { s with hrv := xhrv } = π s) (s : State) :
    π (setPoints s) = π s := by
  simp only [setPoints, hπ, apply_ite π, ite_self]

@[simp] theorem setPoints_frame (s : State) :
    (setPoints s).dev = s.dev ∧ (setPoints s).gov = s.gov ∧ (setPoints s).flt = s.flt ∧ (setPoints s).tly = s.tly ∧
    (setPoints s).sal = s.sal ∧ (setPoints s).map = s.map ∧ (setPoints s).drn = s.drn ∧ (setPoints s).fld = s.fld ∧
    (setPoints s).bed = s.bed ∧ (setPoints s).pip = s.pip ∧ (setPoints s).heads = s.heads ∧ (setPoints s).sem = s.sem ∧
    (setPoints s).pans = s.pans ∧ (setPoints s).dmc = s.dmc ∧ (setPoints s).trn = s.trn ∧ (setPoints s).thm = s.thm ∧
    (setPoints s).cel = s.cel ∧ (setPoints s).upd = s.upd ∧ (setPoints s).key = s.key ∧ (setPoints s).brl = s.brl ∧
    (setPoints s).svc = s.svc ∧ (setPoints s).pins = s.pins ∧ (setPoints s).lay = s.lay ∧ (setPoints s).jrn = s.jrn ∧
    (setPoints s).replies = s.replies ∧ (setPoints s).dram = s.dram ∧ (setPoints s).poison = s.poison ∧
    (setPoints s).serial = s.serial ∧ (setPoints s).boot = s.boot ∧ (setPoints s).free = s.free ∧ (setPoints s).pending = s.pending := by
  refine ⟨?_, ?_, ?_, ?_, ?_, ?_, ?_, ?_, ?_, ?_, ?_, ?_, ?_, ?_, ?_, ?_, ?_, ?_, ?_, ?_, ?_, ?_, ?_, ?_, ?_, ?_, ?_, ?_, ?_, ?_, ?_⟩ <;> exact setPoints_only _ (fun _ _ => rfl) s

theorem repace_only {β : Type} (π : State → β) (hπ : ∀ s xdev xmap xdrn xhrv xbed xsvc, π { s with dev := xdev, map := xmap, drn := xdrn, hrv := xhrv, bed := xbed, svc := xsvc } = π s) (s : State) :
    π (repace s) = π s := by
  unfold repace; repeat' first | contradiction | (simp only [hπ, salvage_only π hπ, setPoints_only π (fun s xhrv => hπ s s.dev s.map s.drn xhrv s.bed s.svc), apply_ite π, ite_self]; done) | split | refine (foldl_same π _ (fun s x => ?_) _ _).trans ?_ | refine (elim_same π _ _ _ (fun x => ?_)).trans ?_ | dsimp only

@[simp] theorem repace_frame (s : State) :
    (repace s).gov = s.gov ∧ (repace s).flt = s.flt ∧ (repace s).tly = s.tly ∧ (repace s).sal = s.sal ∧ (repace s).fld = s.fld ∧
    (repace s).pip = s.pip ∧ (repace s).heads = s.heads ∧ (repace s).sem = s.sem ∧ (repace s).pans = s.pans ∧
    (repace s).dmc = s.dmc ∧ (repace s).trn = s.trn ∧ (repace s).thm = s.thm ∧ (repace s).cel = s.cel ∧ (repace s).upd = s.upd ∧
    (repace s).key = s.key ∧ (repace s).brl = s.brl ∧ (repace s).pins = s.pins ∧ (repace s).lay = s.lay ∧ (repace s).jrn = s.jrn ∧
    (repace s).replies = s.replies ∧ (repace s).dram = s.dram ∧ (repace s).poison = s.poison ∧ (repace s).serial = s.serial ∧
    (repace s).boot = s.boot ∧ (repace s).free = s.free ∧ (repace s).pending = s.pending := by
  refine ⟨?_, ?_, ?_, ?_, ?_, ?_, ?_, ?_, ?_, ?_, ?_, ?_, ?_, ?_, ?_, ?_, ?_, ?_, ?_, ?_, ?_, ?_, ?_, ?_, ?_, ?_⟩ <;> exact repace_only _ (fun _ _ _ _ _ _ _ => rfl) s

theorem sanitizeAtSave_only {β : Type} (π : State → β) (hπ : ∀ s xhrv xpip, π { s with hrv := xhrv, pip := xpip } = π s) (s : State) :
    π (sanitizeAtSave s) = π s := by
  unfold sanitizeAtSave; repeat' first | contradiction | (simp only [hπ, apply_ite π, ite_self]; done) | split | refine (foldl_same π _ (fun s x => ?_) _ _).trans ?_ | refine (elim_same π _ _ _ (fun x => ?_)).trans ?_ | dsimp only

@[simp] theorem sanitizeAtSave_frame (s : State) :
    (sanitizeAtSave s).dev = s.dev ∧ (sanitizeAtSave s).gov = s.gov ∧ (sanitizeAtSave s).flt = s.flt ∧
    (sanitizeAtSave s).tly = s.tly ∧ (sanitizeAtSave s).sal = s.sal ∧ (sanitizeAtSave s).map = s.map ∧
    (sanitizeAtSave s).drn = s.drn ∧ (sanitizeAtSave s).fld = s.fld ∧ (sanitizeAtSave s).bed = s.bed ∧
    (sanitizeAtSave s).heads = s.heads ∧ (sanitizeAtSave s).sem = s.sem ∧ (sanitizeAtSave s).pans = s.pans ∧
    (sanitizeAtSave s).dmc = s.dmc ∧ (sanitizeAtSave s).trn = s.trn ∧ (sanitizeAtSave s).thm = s.thm ∧
    (sanitizeAtSave s).cel = s.cel ∧ (sanitizeAtSave s).upd = s.upd ∧ (sanitizeAtSave s).key = s.key ∧
    (sanitizeAtSave s).brl = s.brl ∧ (sanitizeAtSave s).svc = s.svc ∧ (sanitizeAtSave s).pins = s.pins ∧
    (sanitizeAtSave s).lay = s.lay ∧ (sanitizeAtSave s).jrn = s.jrn ∧ (sanitizeAtSave s).replies = s.replies ∧
    (sanitizeAtSave s).dram = s.dram ∧ (sanitizeAtSave s).poison = s.poison ∧ (sanitizeAtSave s).serial = s.serial ∧
    (sanitizeAtSave s).boot = s.boot ∧ (sanitizeAtSave s).free = s.free ∧ (sanitizeAtSave s).pending = s.pending := by
  refine ⟨?_, ?_, ?_, ?_, ?_, ?_, ?_, ?_, ?_, ?_, ?_, ?_, ?_, ?_, ?_, ?_, ?_, ?_, ?_, ?_, ?_, ?_, ?_, ?_, ?_, ?_, ?_, ?_, ?_, ?_⟩ <;> exact sanitizeAtSave_only _ (fun _ _ _ => rfl) s

theorem sendGo_only {β : Type} (π : State → β) (hπ : ∀ s xbrl, π { s with brl := xbrl } = π s) (cause : Nat) (origin : Nat) (s : State) :
    π (sendGo cause origin s) = π s := by
  unfold sendGo; repeat' first | contradiction | (simp only [hπ, apply_ite π, ite_self]; done) | split | refine (foldl_same π _ (fun s x => ?_) _ _).trans ?_ | refine (elim_same π _ _ _ (fun x => ?_)).trans ?_ | dsimp only

@[simp] theorem sendGo_frame (cause : Nat) (origin : Nat) (s : State) :
    (sendGo cause origin s).dev = s.dev ∧ (sendGo cause origin s).gov = s.gov ∧ (sendGo cause origin s).flt = s.flt ∧
    (sendGo cause origin s).tly = s.tly ∧ (sendGo cause origin s).sal = s.sal ∧ (sendGo cause origin s).map = s.map ∧
    (sendGo cause origin s).drn = s.drn ∧ (sendGo cause origin s).hrv = s.hrv ∧ (sendGo cause origin s).fld = s.fld ∧
    (sendGo cause origin s).bed = s.bed ∧ (sendGo cause origin s).pip = s.pip ∧ (sendGo cause origin s).heads = s.heads ∧
    (sendGo cause origin s).sem = s.sem ∧ (sendGo cause origin s).pans = s.pans ∧ (sendGo cause origin s).dmc = s.dmc ∧
    (sendGo cause origin s).trn = s.trn ∧ (sendGo cause origin s).thm = s.thm ∧ (sendGo cause origin s).cel = s.cel ∧
    (sendGo cause origin s).upd = s.upd ∧ (sendGo cause origin s).key = s.key ∧ (sendGo cause origin s).svc = s.svc ∧
    (sendGo cause origin s).pins = s.pins ∧ (sendGo cause origin s).lay = s.lay ∧ (sendGo cause origin s).jrn = s.jrn ∧
    (sendGo cause origin s).replies = s.replies ∧ (sendGo cause origin s).dram = s.dram ∧
    (sendGo cause origin s).poison = s.poison ∧ (sendGo cause origin s).serial = s.serial ∧ (sendGo cause origin s).boot = s.boot ∧
    (sendGo cause origin s).free = s.free ∧ (sendGo cause origin s).pending = s.pending := by
  refine ⟨?_, ?_, ?_, ?_, ?_, ?_, ?_, ?_, ?_, ?_, ?_, ?_, ?_, ?_, ?_, ?_, ?_, ?_, ?_, ?_, ?_, ?_, ?_, ?_, ?_, ?_, ?_, ?_, ?_, ?_, ?_⟩ <;> exact sendGo_only _ (fun _ _ => rfl) cause origin s

theorem cascadeTrigger_only {β : Type} (π : State → β) (hπ : ∀ s xbrl, π { s with brl := xbrl } = π s) (t : Trigger) (s : State) :
    π (cascadeTrigger t s) = π s := by
  unfold cascadeTrigger; repeat' first | contradiction | (simp only [hπ, sendGo_only π hπ, apply_ite π, ite_self]; done) | split | refine (foldl_same π _ (fun s x => ?_) _ _).trans ?_ | refine (elim_same π _ _ _ (fun x => ?_)).trans ?_ | dsimp only

@[simp] theorem cascadeTrigger_frame (t : Trigger) (s : State) :
    (cascadeTrigger t s).dev = s.dev ∧ (cascadeTrigger t s).gov = s.gov ∧ (cascadeTrigger t s).flt = s.flt ∧
    (cascadeTrigger t s).tly = s.tly ∧ (cascadeTrigger t s).sal = s.sal ∧ (cascadeTrigger t s).map = s.map ∧
    (cascadeTrigger t s).drn = s.drn ∧ (cascadeTrigger t s).hrv = s.hrv ∧ (cascadeTrigger t s).fld = s.fld ∧
    (cascadeTrigger t s).bed = s.bed ∧ (cascadeTrigger t s).pip = s.pip ∧ (cascadeTrigger t s).heads = s.heads ∧
    (cascadeTrigger t s).sem = s.sem ∧ (cascadeTrigger t s).pans = s.pans ∧ (cascadeTrigger t s).dmc = s.dmc ∧
    (cascadeTrigger t s).trn = s.trn ∧ (cascadeTrigger t s).thm = s.thm ∧ (cascadeTrigger t s).cel = s.cel ∧
    (cascadeTrigger t s).upd = s.upd ∧ (cascadeTrigger t s).key = s.key ∧ (cascadeTrigger t s).svc = s.svc ∧
    (cascadeTrigger t s).pins = s.pins ∧ (cascadeTrigger t s).lay = s.lay ∧ (cascadeTrigger t s).jrn = s.jrn ∧
    (cascadeTrigger t s).replies = s.replies ∧ (cascadeTrigger t s).dram = s.dram ∧ (cascadeTrigger t s).poison = s.poison ∧
    (cascadeTrigger t s).serial = s.serial ∧ (cascadeTrigger t s).boot = s.boot ∧ (cascadeTrigger t s).free = s.free ∧
    (cascadeTrigger t s).pending = s.pending := by
  refine ⟨?_, ?_, ?_, ?_, ?_, ?_, ?_, ?_, ?_, ?_, ?_, ?_, ?_, ?_, ?_, ?_, ?_, ?_, ?_, ?_, ?_, ?_, ?_, ?_, ?_, ?_, ?_, ?_, ?_, ?_, ?_⟩ <;> exact cascadeTrigger_only _ (fun _ _ => rfl) t s

theorem dropInside_only {β : Type} (π : State → β) (hπ : ∀ s xmap xdrn xbed, π { s with map := xmap, drn := xdrn, bed := xbed } = π s) (s : State) :
    π (dropInside s) = π s := by
  unfold dropInside; repeat' first | contradiction | with_reducible rfl | with_reducible refine (fillAll_only π (fun s xmap xdrn => hπ s xmap xdrn s.bed) _).trans ?_ | with_reducible refine (abandonOp_only π (fun s xmap xdrn xbed => hπ s xmap xdrn xbed) _ _).trans ?_ | with_reducible refine (foldl_same π _ (fun s x => ?_) _ _).trans ?_ | with_reducible refine (elim_same π _ _ _ (fun x => ?_)).trans ?_ | split | with_reducible refine (hπ _ _ _ _).trans ?_ | dsimp only

@[simp] theorem dropInside_frame (s : State) :
    (dropInside s).dev = s.dev ∧ (dropInside s).gov = s.gov ∧ (dropInside s).flt = s.flt ∧ (dropInside s).tly = s.tly ∧
    (dropInside s).sal = s.sal ∧ (dropInside s).hrv = s.hrv ∧ (dropInside s).fld = s.fld ∧ (dropInside s).pip = s.pip ∧
    (dropInside s).heads = s.heads ∧ (dropInside s).sem = s.sem ∧ (dropInside s).pans = s.pans ∧ (dropInside s).dmc = s.dmc ∧
    (dropInside s).trn = s.trn ∧ (dropInside s).thm = s.thm ∧ (dropInside s).cel = s.cel ∧ (dropInside s).upd = s.upd ∧
    (dropInside s).key = s.key ∧ (dropInside s).brl = s.brl ∧ (dropInside s).svc = s.svc ∧ (dropInside s).pins = s.pins ∧
    (dropInside s).lay = s.lay ∧ (dropInside s).jrn = s.jrn ∧ (dropInside s).replies = s.replies ∧ (dropInside s).dram = s.dram ∧
    (dropInside s).poison = s.poison ∧ (dropInside s).serial = s.serial ∧ (dropInside s).boot = s.boot ∧
    (dropInside s).free = s.free ∧ (dropInside s).pending = s.pending := by
  refine ⟨?_, ?_, ?_, ?_, ?_, ?_, ?_, ?_, ?_, ?_, ?_, ?_, ?_, ?_, ?_, ?_, ?_, ?_, ?_, ?_, ?_, ?_, ?_, ?_, ?_, ?_, ?_, ?_, ?_⟩ <;> exact dropInside_only _ (fun _ _ _ _ => rfl) s

theorem markEnd_only {β : Type} (π : State → β) (hπ : ∀ s xhrv, π { s with hrv := xhrv } = π s) (atPoint : Bool) (s : State) :
    π (markEnd atPoint s) = π s := by
  unfold markEnd; repeat' first | contradiction | (simp only [hπ, foldl_same π, apply_ite π, ite_self]; done) | split | refine (foldl_same π _ (fun s x => ?_) _ _).trans ?_ | refine (elim_same π _ _ _ (fun x => ?_)).trans ?_ | dsimp only

@[simp] theorem markEnd_frame (atPoint : Bool) (s : State) :
    (markEnd atPoint s).dev = s.dev ∧ (markEnd atPoint s).gov = s.gov ∧ (markEnd atPoint s).flt = s.flt ∧
    (markEnd atPoint s).tly = s.tly ∧ (markEnd atPoint s).sal = s.sal ∧ (markEnd atPoint s).map = s.map ∧
    (markEnd atPoint s).drn = s.drn ∧ (markEnd atPoint s).fld = s.fld ∧ (markEnd atPoint s).bed = s.bed ∧
    (markEnd atPoint s).pip = s.pip ∧ (markEnd atPoint s).heads = s.heads ∧ (markEnd atPoint s).sem = s.sem ∧
    (markEnd atPoint s).pans = s.pans ∧ (markEnd atPoint s).dmc = s.dmc ∧ (markEnd atPoint s).trn = s.trn ∧
    (markEnd atPoint s).thm = s.thm ∧ (markEnd atPoint s).cel = s.cel ∧ (markEnd atPoint s).upd = s.upd ∧
    (markEnd atPoint s).key = s.key ∧ (markEnd atPoint s).brl = s.brl ∧ (markEnd atPoint s).svc = s.svc ∧
    (markEnd atPoint s).pins = s.pins ∧ (markEnd atPoint s).lay = s.lay ∧ (markEnd atPoint s).jrn = s.jrn ∧
    (markEnd atPoint s).replies = s.replies ∧ (markEnd atPoint s).dram = s.dram ∧ (markEnd atPoint s).poison = s.poison ∧
    (markEnd atPoint s).serial = s.serial ∧ (markEnd atPoint s).boot = s.boot ∧ (markEnd atPoint s).free = s.free ∧
    (markEnd atPoint s).pending = s.pending := by
  refine ⟨?_, ?_, ?_, ?_, ?_, ?_, ?_, ?_, ?_, ?_, ?_, ?_, ?_, ?_, ?_, ?_, ?_, ?_, ?_, ?_, ?_, ?_, ?_, ?_, ?_, ?_, ?_, ?_, ?_, ?_, ?_⟩ <;> exact markEnd_only _ (fun _ _ => rfl) atPoint s

theorem endData_only {β : Type} (π : State → β) (hπ : ∀ s xmap xdrn xhrv xbed, π { s with map := xmap, drn := xdrn, hrv := xhrv, bed := xbed } = π s) (atPoint : Bool) (s : State) :
    π (endData atPoint s) = π s := by
  unfold endData; repeat' first | contradiction | (simp only [hπ, dropInside_only π (fun s xmap xdrn xbed => hπ s xmap xdrn s.hrv xbed), markEnd_only π (fun s xhrv => hπ s s.map s.drn xhrv s.bed), apply_ite π, ite_self]; done) | with_reducible refine (dropInside_only π (fun s xmap xdrn xbed => hπ s xmap xdrn s.hrv xbed) _).trans ?_ | with_reducible refine (markEnd_only π (fun s xhrv => hπ s s.map s.drn xhrv s.bed) _ _).trans ?_ | with_reducible refine (hπ _ _ _ _ _).trans ?_ | refine (foldl_same π _ (fun s x => ?_) _ _).trans ?_ | refine (elim_same π _ _ _ (fun x => ?_)).trans ?_ | split | dsimp only

@[simp] theorem endData_frame (atPoint : Bool) (s : State) :
    (endData atPoint s).dev = s.dev ∧ (endData atPoint s).gov = s.gov ∧ (endData atPoint s).flt = s.flt ∧
    (endData atPoint s).tly = s.tly ∧ (endData atPoint s).sal = s.sal ∧ (endData atPoint s).fld = s.fld ∧
    (endData atPoint s).pip = s.pip ∧ (endData atPoint s).heads = s.heads ∧ (endData atPoint s).sem = s.sem ∧
    (endData atPoint s).pans = s.pans ∧ (endData atPoint s).dmc = s.dmc ∧ (endData atPoint s).trn = s.trn ∧
    (endData atPoint s).thm = s.thm ∧ (endData atPoint s).cel = s.cel ∧ (endData atPoint s).upd = s.upd ∧
    (endData atPoint s).key = s.key ∧ (endData atPoint s).brl = s.brl ∧ (endData atPoint s).svc = s.svc ∧
    (endData atPoint s).pins = s.pins ∧ (endData atPoint s).lay = s.lay ∧ (endData atPoint s).jrn = s.jrn ∧
    (endData atPoint s).replies = s.replies ∧ (endData atPoint s).dram = s.dram ∧ (endData atPoint s).poison = s.poison ∧
    (endData atPoint s).serial = s.serial ∧ (endData atPoint s).boot = s.boot ∧ (endData atPoint s).free = s.free ∧
    (endData atPoint s).pending = s.pending := by
  refine ⟨?_, ?_, ?_, ?_, ?_, ?_, ?_, ?_, ?_, ?_, ?_, ?_, ?_, ?_, ?_, ?_, ?_, ?_, ?_, ?_, ?_, ?_, ?_, ?_, ?_, ?_, ?_, ?_⟩ <;> exact endData_only _ (fun _ _ _ _ _ => rfl) atPoint s

theorem dropMoves_only {β : Type} (π : State → β) (hπ : ∀ s xbed, π { s with bed := xbed } = π s) (s : State) :
    π (dropMoves s) = π s := by
  unfold dropMoves; repeat' first | contradiction | (simp only [hπ, apply_ite π, ite_self]; done) | split | refine (foldl_same π _ (fun s x => ?_) _ _).trans ?_ | refine (elim_same π _ _ _ (fun x => ?_)).trans ?_ | dsimp only

@[simp] theorem dropMoves_frame (s : State) :
    (dropMoves s).dev = s.dev ∧ (dropMoves s).gov = s.gov ∧ (dropMoves s).flt = s.flt ∧ (dropMoves s).tly = s.tly ∧
    (dropMoves s).sal = s.sal ∧ (dropMoves s).map = s.map ∧ (dropMoves s).drn = s.drn ∧ (dropMoves s).hrv = s.hrv ∧
    (dropMoves s).fld = s.fld ∧ (dropMoves s).pip = s.pip ∧ (dropMoves s).heads = s.heads ∧ (dropMoves s).sem = s.sem ∧
    (dropMoves s).pans = s.pans ∧ (dropMoves s).dmc = s.dmc ∧ (dropMoves s).trn = s.trn ∧ (dropMoves s).thm = s.thm ∧
    (dropMoves s).cel = s.cel ∧ (dropMoves s).upd = s.upd ∧ (dropMoves s).key = s.key ∧ (dropMoves s).brl = s.brl ∧
    (dropMoves s).svc = s.svc ∧ (dropMoves s).pins = s.pins ∧ (dropMoves s).lay = s.lay ∧ (dropMoves s).jrn = s.jrn ∧
    (dropMoves s).replies = s.replies ∧ (dropMoves s).dram = s.dram ∧ (dropMoves s).poison = s.poison ∧
    (dropMoves s).serial = s.serial ∧ (dropMoves s).boot = s.boot ∧ (dropMoves s).free = s.free ∧ (dropMoves s).pending = s.pending := by
  refine ⟨?_, ?_, ?_, ?_, ?_, ?_, ?_, ?_, ?_, ?_, ?_, ?_, ?_, ?_, ?_, ?_, ?_, ?_, ?_, ?_, ?_, ?_, ?_, ?_, ?_, ?_, ?_, ?_, ?_, ?_, ?_⟩ <;> exact dropMoves_only _ (fun _ _ => rfl) s

theorem recordTrigger_only {β : Type} (π : State → β) (hπ : ∀ s xhrv xthm xjrn, π { s with hrv := xhrv, thm := xthm, jrn := xjrn } = π s) (ts : List Trigger) (s : State) :
    π (recordTrigger ts s) = π s := by
  unfold recordTrigger; repeat' first | contradiction | (simp only [hπ, apply_ite π, ite_self]; done) | split | refine (foldl_same π _ (fun s x => ?_) _ _).trans ?_ | refine (elim_same π _ _ _ (fun x => ?_)).trans ?_ | dsimp only

@[simp] theorem recordTrigger_frame (ts : List Trigger) (s : State) :
    (recordTrigger ts s).dev = s.dev ∧ (recordTrigger ts s).gov = s.gov ∧ (recordTrigger ts s).flt = s.flt ∧
    (recordTrigger ts s).tly = s.tly ∧ (recordTrigger ts s).sal = s.sal ∧ (recordTrigger ts s).map = s.map ∧
    (recordTrigger ts s).drn = s.drn ∧ (recordTrigger ts s).fld = s.fld ∧ (recordTrigger ts s).bed = s.bed ∧
    (recordTrigger ts s).pip = s.pip ∧ (recordTrigger ts s).heads = s.heads ∧ (recordTrigger ts s).sem = s.sem ∧
    (recordTrigger ts s).pans = s.pans ∧ (recordTrigger ts s).dmc = s.dmc ∧ (recordTrigger ts s).trn = s.trn ∧
    (recordTrigger ts s).cel = s.cel ∧ (recordTrigger ts s).upd = s.upd ∧ (recordTrigger ts s).key = s.key ∧
    (recordTrigger ts s).brl = s.brl ∧ (recordTrigger ts s).svc = s.svc ∧ (recordTrigger ts s).pins = s.pins ∧
    (recordTrigger ts s).lay = s.lay ∧ (recordTrigger ts s).replies = s.replies ∧ (recordTrigger ts s).dram = s.dram ∧
    (recordTrigger ts s).poison = s.poison ∧ (recordTrigger ts s).serial = s.serial ∧ (recordTrigger ts s).boot = s.boot ∧
    (recordTrigger ts s).free = s.free ∧ (recordTrigger ts s).pending = s.pending := by
  refine ⟨?_, ?_, ?_, ?_, ?_, ?_, ?_, ?_, ?_, ?_, ?_, ?_, ?_, ?_, ?_, ?_, ?_, ?_, ?_, ?_, ?_, ?_, ?_, ?_, ?_, ?_, ?_, ?_, ?_⟩ <;> exact recordTrigger_only _ (fun _ _ _ _ => rfl) ts s

theorem laterTrigger_only {β : Type} (π : State → β) (hπ : ∀ s xhrv xthm xbrl xjrn, π { s with hrv := xhrv, thm := xthm, brl := xbrl, jrn := xjrn } = π s) (t : Trigger) (sinceNs : Nat) (s : State) :
    π (laterTrigger t sinceNs s) = π s := by
  unfold laterTrigger; repeat' first | contradiction | (simp only [hπ, recordTrigger_only π (fun s xhrv xthm xjrn => hπ s xhrv xthm s.brl xjrn), apply_ite π, ite_self]; done) | split | refine (foldl_same π _ (fun s x => ?_) _ _).trans ?_ | refine (elim_same π _ _ _ (fun x => ?_)).trans ?_ | dsimp only

@[simp] theorem laterTrigger_frame (t : Trigger) (sinceNs : Nat) (s : State) :
    (laterTrigger t sinceNs s).dev = s.dev ∧ (laterTrigger t sinceNs s).gov = s.gov ∧ (laterTrigger t sinceNs s).flt = s.flt ∧
    (laterTrigger t sinceNs s).tly = s.tly ∧ (laterTrigger t sinceNs s).sal = s.sal ∧ (laterTrigger t sinceNs s).map = s.map ∧
    (laterTrigger t sinceNs s).drn = s.drn ∧ (laterTrigger t sinceNs s).fld = s.fld ∧ (laterTrigger t sinceNs s).bed = s.bed ∧
    (laterTrigger t sinceNs s).pip = s.pip ∧ (laterTrigger t sinceNs s).heads = s.heads ∧ (laterTrigger t sinceNs s).sem = s.sem ∧
    (laterTrigger t sinceNs s).pans = s.pans ∧ (laterTrigger t sinceNs s).dmc = s.dmc ∧ (laterTrigger t sinceNs s).trn = s.trn ∧
    (laterTrigger t sinceNs s).cel = s.cel ∧ (laterTrigger t sinceNs s).upd = s.upd ∧ (laterTrigger t sinceNs s).key = s.key ∧
    (laterTrigger t sinceNs s).svc = s.svc ∧ (laterTrigger t sinceNs s).pins = s.pins ∧ (laterTrigger t sinceNs s).lay = s.lay ∧
    (laterTrigger t sinceNs s).replies = s.replies ∧ (laterTrigger t sinceNs s).dram = s.dram ∧
    (laterTrigger t sinceNs s).poison = s.poison ∧ (laterTrigger t sinceNs s).serial = s.serial ∧
    (laterTrigger t sinceNs s).boot = s.boot ∧ (laterTrigger t sinceNs s).free = s.free ∧
    (laterTrigger t sinceNs s).pending = s.pending := by
  refine ⟨?_, ?_, ?_, ?_, ?_, ?_, ?_, ?_, ?_, ?_, ?_, ?_, ?_, ?_, ?_, ?_, ?_, ?_, ?_, ?_, ?_, ?_, ?_, ?_, ?_, ?_, ?_, ?_⟩ <;> exact laterTrigger_only _ (fun _ _ _ _ _ => rfl) t sinceNs s

theorem physOff_only {β : Type} (π : State → β) (hπ : ∀ s xhrv xheads, π { s with hrv := xhrv, heads := xheads } = π s) (force : Bool) (s : State) :
    π (physOff force s) = π s := by
  simp only [physOff, hπ, apply_ite π, ite_self]

@[simp] theorem physOff_frame (force : Bool) (s : State) :
    (physOff force s).dev = s.dev ∧ (physOff force s).gov = s.gov ∧ (physOff force s).flt = s.flt ∧ (physOff force s).tly = s.tly ∧
    (physOff force s).sal = s.sal ∧ (physOff force s).map = s.map ∧ (physOff force s).drn = s.drn ∧ (physOff force s).fld = s.fld ∧
    (physOff force s).bed = s.bed ∧ (physOff force s).pip = s.pip ∧ (physOff force s).sem = s.sem ∧
    (physOff force s).pans = s.pans ∧ (physOff force s).dmc = s.dmc ∧ (physOff force s).trn = s.trn ∧
    (physOff force s).thm = s.thm ∧ (physOff force s).cel = s.cel ∧ (physOff force s).upd = s.upd ∧ (physOff force s).key = s.key ∧
    (physOff force s).brl = s.brl ∧ (physOff force s).svc = s.svc ∧ (physOff force s).pins = s.pins ∧
    (physOff force s).lay = s.lay ∧ (physOff force s).jrn = s.jrn ∧ (physOff force s).replies = s.replies ∧
    (physOff force s).dram = s.dram ∧ (physOff force s).poison = s.poison ∧ (physOff force s).serial = s.serial ∧
    (physOff force s).boot = s.boot ∧ (physOff force s).free = s.free ∧ (physOff force s).pending = s.pending := by
  refine ⟨?_, ?_, ?_, ?_, ?_, ?_, ?_, ?_, ?_, ?_, ?_, ?_, ?_, ?_, ?_, ?_, ?_, ?_, ?_, ?_, ?_, ?_, ?_, ?_, ?_, ?_, ?_, ?_, ?_, ?_⟩ <;> exact physOff_only _ (fun _ _ _ => rfl) force s

theorem runTail_only {β : Type} (π : State → β) (hπ : ∀ s xmap xdrn xhrv xbed, π { s with map := xmap, drn := xdrn, hrv := xhrv, bed := xbed } = π s) (s : State) :
    π (runTail s) = π s := by
  unfold runTail; repeat' first | contradiction | with_reducible rfl | with_reducible refine (closedParity_only π (fun s xdrn xhrv xbed => hπ s s.map xdrn xhrv xbed) _).trans ?_ | with_reducible refine (pageDone_only π (fun s xmap xdrn xhrv xbed => hπ s xmap xdrn xhrv xbed) _ _).trans ?_ | with_reducible refine (foldl_same π _ (fun s x => ?_) _ _).trans ?_ | with_reducible refine (elim_same π _ _ _ (fun x => ?_)).trans ?_ | split | with_reducible refine (hπ _ _ _ _ _).trans ?_ | dsimp only

@[simp] theorem runTail_frame (s : State) :
    (runTail s).dev = s.dev ∧ (runTail s).gov = s.gov ∧ (runTail s).flt = s.flt ∧ (runTail s).tly = s.tly ∧
    (runTail s).sal = s.sal ∧ (runTail s).fld = s.fld ∧ (runTail s).pip = s.pip ∧ (runTail s).heads = s.heads ∧
    (runTail s).sem = s.sem ∧ (runTail s).pans = s.pans ∧ (runTail s).dmc = s.dmc ∧ (runTail s).trn = s.trn ∧
    (runTail s).thm = s.thm ∧ (runTail s).cel = s.cel ∧ (runTail s).upd = s.upd ∧ (runTail s).key = s.key ∧
    (runTail s).brl = s.brl ∧ (runTail s).svc = s.svc ∧ (runTail s).pins = s.pins ∧ (runTail s).lay = s.lay ∧
    (runTail s).jrn = s.jrn ∧ (runTail s).replies = s.replies ∧ (runTail s).dram = s.dram ∧ (runTail s).poison = s.poison ∧
    (runTail s).serial = s.serial ∧ (runTail s).boot = s.boot ∧ (runTail s).free = s.free ∧ (runTail s).pending = s.pending := by
  refine ⟨?_, ?_, ?_, ?_, ?_, ?_, ?_, ?_, ?_, ?_, ?_, ?_, ?_, ?_, ?_, ?_, ?_, ?_, ?_, ?_, ?_, ?_, ?_, ?_, ?_, ?_, ?_, ?_⟩ <;> exact runTail_only _ (fun _ _ _ _ _ => rfl) s

theorem writeCopies_only {β : Type} (π : State → β) (hπ : ∀ s xdrn xhrv xbed xfree, π { s with drn := xdrn, hrv := xhrv, bed := xbed, free := xfree } = π s) (a : Bool) (b : Bool) (s : State) :
    π (writeCopies a b s) = π s := by
  unfold writeCopies; repeat' first | contradiction | with_reducible rfl | with_reducible refine (blkUpd_only π (fun s xbed => hπ s s.drn s.hrv xbed s.free) _ _ _ _ _).trans ?_ | with_reducible refine (countBytes_only π (fun s xdrn xhrv => hπ s xdrn xhrv s.bed s.free) _ _ _).trans ?_ | with_reducible refine (foldl_same π _ (fun s x => ?_) _ _).trans ?_ | with_reducible refine (elim_same π _ _ _ (fun x => ?_)).trans ?_ | split | with_reducible refine (hπ _ _ _ _ _).trans ?_ | dsimp only

@[simp] theorem writeCopies_frame (a : Bool) (b : Bool) (s : State) :
    (writeCopies a b s).dev = s.dev ∧ (writeCopies a b s).gov = s.gov ∧ (writeCopies a b s).flt = s.flt ∧
    (writeCopies a b s).tly = s.tly ∧ (writeCopies a b s).sal = s.sal ∧ (writeCopies a b s).map = s.map ∧
    (writeCopies a b s).fld = s.fld ∧ (writeCopies a b s).pip = s.pip ∧ (writeCopies a b s).heads = s.heads ∧
    (writeCopies a b s).sem = s.sem ∧ (writeCopies a b s).pans = s.pans ∧ (writeCopies a b s).dmc = s.dmc ∧
    (writeCopies a b s).trn = s.trn ∧ (writeCopies a b s).thm = s.thm ∧ (writeCopies a b s).cel = s.cel ∧
    (writeCopies a b s).upd = s.upd ∧ (writeCopies a b s).key = s.key ∧ (writeCopies a b s).brl = s.brl ∧
    (writeCopies a b s).svc = s.svc ∧ (writeCopies a b s).pins = s.pins ∧ (writeCopies a b s).lay = s.lay ∧
    (writeCopies a b s).jrn = s.jrn ∧ (writeCopies a b s).replies = s.replies ∧ (writeCopies a b s).dram = s.dram ∧
    (writeCopies a b s).poison = s.poison ∧ (writeCopies a b s).serial = s.serial ∧ (writeCopies a b s).boot = s.boot ∧
    (writeCopies a b s).pending = s.pending := by
  refine ⟨?_, ?_, ?_, ?_, ?_, ?_, ?_, ?_, ?_, ?_, ?_, ?_, ?_, ?_, ?_, ?_, ?_, ?_, ?_, ?_, ?_, ?_, ?_, ?_, ?_, ?_, ?_, ?_⟩ <;> exact writeCopies_only _ (fun _ _ _ _ _ => rfl) a b s

theorem dramRests_only {β : Type} (π : State → β) (hπ : ∀ s xdmc, π { s with dmc := xdmc } = π s) (s : State) :
    π (dramRests s) = π s := by
  unfold dramRests; repeat' first | contradiction | with_reducible rfl | with_reducible refine (dchanUpd_only π (fun s xdmc => hπ s xdmc) _ _ _).trans ?_ | with_reducible refine (foldl_same π _ (fun s x => ?_) _ _).trans ?_ | with_reducible refine (elim_same π _ _ _ (fun x => ?_)).trans ?_ | split | with_reducible refine (hπ _ _).trans ?_ | dsimp only

@[simp] theorem dramRests_frame (s : State) :
    (dramRests s).dev = s.dev ∧ (dramRests s).gov = s.gov ∧ (dramRests s).flt = s.flt ∧ (dramRests s).tly = s.tly ∧
    (dramRests s).sal = s.sal ∧ (dramRests s).map = s.map ∧ (dramRests s).drn = s.drn ∧ (dramRests s).hrv = s.hrv ∧
    (dramRests s).fld = s.fld ∧ (dramRests s).bed = s.bed ∧ (dramRests s).pip = s.pip ∧ (dramRests s).heads = s.heads ∧
    (dramRests s).sem = s.sem ∧ (dramRests s).pans = s.pans ∧ (dramRests s).trn = s.trn ∧ (dramRests s).thm = s.thm ∧
    (dramRests s).cel = s.cel ∧ (dramRests s).upd = s.upd ∧ (dramRests s).key = s.key ∧ (dramRests s).brl = s.brl ∧
    (dramRests s).svc = s.svc ∧ (dramRests s).pins = s.pins ∧ (dramRests s).lay = s.lay ∧ (dramRests s).jrn = s.jrn ∧
    (dramRests s).replies = s.replies ∧ (dramRests s).dram = s.dram ∧ (dramRests s).poison = s.poison ∧
    (dramRests s).serial = s.serial ∧ (dramRests s).boot = s.boot ∧ (dramRests s).free = s.free ∧ (dramRests s).pending = s.pending := by
  refine ⟨?_, ?_, ?_, ?_, ?_, ?_, ?_, ?_, ?_, ?_, ?_, ?_, ?_, ?_, ?_, ?_, ?_, ?_, ?_, ?_, ?_, ?_, ?_, ?_, ?_, ?_, ?_, ?_, ?_, ?_, ?_⟩ <;> exact dramRests_only _ (fun _ _ => rfl) s

theorem reply_only {β : Type} (π : State → β) (hπ : ∀ s xreplies, π { s with replies := xreplies } = π s) (h : Head) (opcode : Nat) (status : Nat) (p : Payload) (s : State) :
    π (reply h opcode status p s) = π s := by
  simp only [reply, hπ, apply_ite π, ite_self]

@[simp] theorem reply_frame (h : Head) (opcode : Nat) (status : Nat) (p : Payload) (s : State) :
    (reply h opcode status p s).dev = s.dev ∧ (reply h opcode status p s).gov = s.gov ∧ (reply h opcode status p s).flt = s.flt ∧
    (reply h opcode status p s).tly = s.tly ∧ (reply h opcode status p s).sal = s.sal ∧ (reply h opcode status p s).map = s.map ∧
    (reply h opcode status p s).drn = s.drn ∧ (reply h opcode status p s).hrv = s.hrv ∧ (reply h opcode status p s).fld = s.fld ∧
    (reply h opcode status p s).bed = s.bed ∧ (reply h opcode status p s).pip = s.pip ∧
    (reply h opcode status p s).heads = s.heads ∧ (reply h opcode status p s).sem = s.sem ∧
    (reply h opcode status p s).pans = s.pans ∧ (reply h opcode status p s).dmc = s.dmc ∧ (reply h opcode status p s).trn = s.trn ∧
    (reply h opcode status p s).thm = s.thm ∧ (reply h opcode status p s).cel = s.cel ∧ (reply h opcode status p s).upd = s.upd ∧
    (reply h opcode status p s).key = s.key ∧ (reply h opcode status p s).brl = s.brl ∧ (reply h opcode status p s).svc = s.svc ∧
    (reply h opcode status p s).pins = s.pins ∧ (reply h opcode status p s).lay = s.lay ∧ (reply h opcode status p s).jrn = s.jrn ∧
    (reply h opcode status p s).dram = s.dram ∧ (reply h opcode status p s).poison = s.poison ∧
    (reply h opcode status p s).serial = s.serial ∧ (reply h opcode status p s).boot = s.boot ∧
    (reply h opcode status p s).free = s.free ∧ (reply h opcode status p s).pending = s.pending := by
  refine ⟨?_, ?_, ?_, ?_, ?_, ?_, ?_, ?_, ?_, ?_, ?_, ?_, ?_, ?_, ?_, ?_, ?_, ?_, ?_, ?_, ?_, ?_, ?_, ?_, ?_, ?_, ?_, ?_, ?_, ?_, ?_⟩ <;> exact reply_only _ (fun _ _ => rfl) h opcode status p s

theorem replyCxl_only {β : Type} (π : State → β) (hπ : ∀ s xreplies, π { s with replies := xreplies } = π s) (h : Head) (opcode : Nat) (code : Nat) (p : Payload) (s : State) :
    π (replyCxl h opcode code p s) = π s := by
  simp only [replyCxl, hπ, apply_ite π, ite_self]

@[simp] theorem replyCxl_frame (h : Head) (opcode : Nat) (code : Nat) (p : Payload) (s : State) :
    (replyCxl h opcode code p s).dev = s.dev ∧ (replyCxl h opcode code p s).gov = s.gov ∧
    (replyCxl h opcode code p s).flt = s.flt ∧ (replyCxl h opcode code p s).tly = s.tly ∧
    (replyCxl h opcode code p s).sal = s.sal ∧ (replyCxl h opcode code p s).map = s.map ∧
    (replyCxl h opcode code p s).drn = s.drn ∧ (replyCxl h opcode code p s).hrv = s.hrv ∧
    (replyCxl h opcode code p s).fld = s.fld ∧ (replyCxl h opcode code p s).bed = s.bed ∧
    (replyCxl h opcode code p s).pip = s.pip ∧ (replyCxl h opcode code p s).heads = s.heads ∧
    (replyCxl h opcode code p s).sem = s.sem ∧ (replyCxl h opcode code p s).pans = s.pans ∧
    (replyCxl h opcode code p s).dmc = s.dmc ∧ (replyCxl h opcode code p s).trn = s.trn ∧
    (replyCxl h opcode code p s).thm = s.thm ∧ (replyCxl h opcode code p s).cel = s.cel ∧
    (replyCxl h opcode code p s).upd = s.upd ∧ (replyCxl h opcode code p s).key = s.key ∧
    (replyCxl h opcode code p s).brl = s.brl ∧ (replyCxl h opcode code p s).svc = s.svc ∧
    (replyCxl h opcode code p s).pins = s.pins ∧ (replyCxl h opcode code p s).lay = s.lay ∧
    (replyCxl h opcode code p s).jrn = s.jrn ∧ (replyCxl h opcode code p s).dram = s.dram ∧
    (replyCxl h opcode code p s).poison = s.poison ∧ (replyCxl h opcode code p s).serial = s.serial ∧
    (replyCxl h opcode code p s).boot = s.boot ∧ (replyCxl h opcode code p s).free = s.free ∧
    (replyCxl h opcode code p s).pending = s.pending := by
  refine ⟨?_, ?_, ?_, ?_, ?_, ?_, ?_, ?_, ?_, ?_, ?_, ?_, ?_, ?_, ?_, ?_, ?_, ?_, ?_, ?_, ?_, ?_, ?_, ?_, ?_, ?_, ?_, ?_, ?_, ?_, ?_⟩ <;> exact replyCxl_only _ (fun _ _ => rfl) h opcode code p s

theorem cellUpd_only {β : Type} (π : State → β) (hπ : ∀ s xsem, π { s with sem := xsem } = π s) (n : Nat) (f : Cell → Cell) (s : State) :
    π (cellUpd n f s) = π s := by
  simp only [cellUpd, hπ, apply_ite π, ite_self]

@[simp] theorem cellUpd_frame (n : Nat) (f : Cell → Cell) (s : State) :
    (cellUpd n f s).dev = s.dev ∧ (cellUpd n f s).gov = s.gov ∧ (cellUpd n f s).flt = s.flt ∧ (cellUpd n f s).tly = s.tly ∧
    (cellUpd n f s).sal = s.sal ∧ (cellUpd n f s).map = s.map ∧ (cellUpd n f s).drn = s.drn ∧ (cellUpd n f s).hrv = s.hrv ∧
    (cellUpd n f s).fld = s.fld ∧ (cellUpd n f s).bed = s.bed ∧ (cellUpd n f s).pip = s.pip ∧ (cellUpd n f s).heads = s.heads ∧
    (cellUpd n f s).pans = s.pans ∧ (cellUpd n f s).dmc = s.dmc ∧ (cellUpd n f s).trn = s.trn ∧ (cellUpd n f s).thm = s.thm ∧
    (cellUpd n f s).cel = s.cel ∧ (cellUpd n f s).upd = s.upd ∧ (cellUpd n f s).key = s.key ∧ (cellUpd n f s).brl = s.brl ∧
    (cellUpd n f s).svc = s.svc ∧ (cellUpd n f s).pins = s.pins ∧ (cellUpd n f s).lay = s.lay ∧ (cellUpd n f s).jrn = s.jrn ∧
    (cellUpd n f s).replies = s.replies ∧ (cellUpd n f s).dram = s.dram ∧ (cellUpd n f s).poison = s.poison ∧
    (cellUpd n f s).serial = s.serial ∧ (cellUpd n f s).boot = s.boot ∧ (cellUpd n f s).free = s.free ∧
    (cellUpd n f s).pending = s.pending := by
  refine ⟨?_, ?_, ?_, ?_, ?_, ?_, ?_, ?_, ?_, ?_, ?_, ?_, ?_, ?_, ?_, ?_, ?_, ?_, ?_, ?_, ?_, ?_, ?_, ?_, ?_, ?_, ?_, ?_, ?_, ?_, ?_⟩ <;> exact cellUpd_only _ (fun _ _ => rfl) n f s

theorem makeNonce_only {β : Type} (π : State → β) (hπ : ∀ s xkey xfree, π { s with key := xkey, free := xfree } = π s) (k : NonceKind) (p : Port) (s : State) :
    π (makeNonce k p s).1 = π s := by
  unfold makeNonce; repeat' first | contradiction | (simp only [hπ, apply_ite π, ite_self]; done) | split | refine (foldl_same π _ (fun s x => ?_) _ _).trans ?_ | refine (elim_same π _ _ _ (fun x => ?_)).trans ?_ | dsimp only

@[simp] theorem makeNonce_frame (k : NonceKind) (p : Port) (s : State) :
    (makeNonce k p s).1.dev = s.dev ∧ (makeNonce k p s).1.gov = s.gov ∧ (makeNonce k p s).1.flt = s.flt ∧
    (makeNonce k p s).1.tly = s.tly ∧ (makeNonce k p s).1.sal = s.sal ∧ (makeNonce k p s).1.map = s.map ∧
    (makeNonce k p s).1.drn = s.drn ∧ (makeNonce k p s).1.hrv = s.hrv ∧ (makeNonce k p s).1.fld = s.fld ∧
    (makeNonce k p s).1.bed = s.bed ∧ (makeNonce k p s).1.pip = s.pip ∧ (makeNonce k p s).1.heads = s.heads ∧
    (makeNonce k p s).1.sem = s.sem ∧ (makeNonce k p s).1.pans = s.pans ∧ (makeNonce k p s).1.dmc = s.dmc ∧
    (makeNonce k p s).1.trn = s.trn ∧ (makeNonce k p s).1.thm = s.thm ∧ (makeNonce k p s).1.cel = s.cel ∧
    (makeNonce k p s).1.upd = s.upd ∧ (makeNonce k p s).1.brl = s.brl ∧ (makeNonce k p s).1.svc = s.svc ∧
    (makeNonce k p s).1.pins = s.pins ∧ (makeNonce k p s).1.lay = s.lay ∧ (makeNonce k p s).1.jrn = s.jrn ∧
    (makeNonce k p s).1.replies = s.replies ∧ (makeNonce k p s).1.dram = s.dram ∧ (makeNonce k p s).1.poison = s.poison ∧
    (makeNonce k p s).1.serial = s.serial ∧ (makeNonce k p s).1.boot = s.boot ∧ (makeNonce k p s).1.pending = s.pending := by
  refine ⟨?_, ?_, ?_, ?_, ?_, ?_, ?_, ?_, ?_, ?_, ?_, ?_, ?_, ?_, ?_, ?_, ?_, ?_, ?_, ?_, ?_, ?_, ?_, ?_, ?_, ?_, ?_, ?_, ?_, ?_⟩ <;> exact makeNonce_only _ (fun _ _ _ => rfl) k p s

theorem dropNonce_only {β : Type} (π : State → β) (hπ : ∀ s xkey, π { s with key := xkey } = π s) (k : NonceKind) (p : Port) (s : State) :
    π (dropNonce k p s) = π s := by
  simp only [dropNonce, hπ, apply_ite π, ite_self]

@[simp] theorem dropNonce_frame (k : NonceKind) (p : Port) (s : State) :
    (dropNonce k p s).dev = s.dev ∧ (dropNonce k p s).gov = s.gov ∧ (dropNonce k p s).flt = s.flt ∧ (dropNonce k p s).tly = s.tly ∧
    (dropNonce k p s).sal = s.sal ∧ (dropNonce k p s).map = s.map ∧ (dropNonce k p s).drn = s.drn ∧ (dropNonce k p s).hrv = s.hrv ∧
    (dropNonce k p s).fld = s.fld ∧ (dropNonce k p s).bed = s.bed ∧ (dropNonce k p s).pip = s.pip ∧
    (dropNonce k p s).heads = s.heads ∧ (dropNonce k p s).sem = s.sem ∧ (dropNonce k p s).pans = s.pans ∧
    (dropNonce k p s).dmc = s.dmc ∧ (dropNonce k p s).trn = s.trn ∧ (dropNonce k p s).thm = s.thm ∧ (dropNonce k p s).cel = s.cel ∧
    (dropNonce k p s).upd = s.upd ∧ (dropNonce k p s).brl = s.brl ∧ (dropNonce k p s).svc = s.svc ∧
    (dropNonce k p s).pins = s.pins ∧ (dropNonce k p s).lay = s.lay ∧ (dropNonce k p s).jrn = s.jrn ∧
    (dropNonce k p s).replies = s.replies ∧ (dropNonce k p s).dram = s.dram ∧ (dropNonce k p s).poison = s.poison ∧
    (dropNonce k p s).serial = s.serial ∧ (dropNonce k p s).boot = s.boot ∧ (dropNonce k p s).free = s.free ∧
    (dropNonce k p s).pending = s.pending := by
  refine ⟨?_, ?_, ?_, ?_, ?_, ?_, ?_, ?_, ?_, ?_, ?_, ?_, ?_, ?_, ?_, ?_, ?_, ?_, ?_, ?_, ?_, ?_, ?_, ?_, ?_, ?_, ?_, ?_, ?_, ?_, ?_⟩ <;> exact dropNonce_only _ (fun _ _ => rfl) k p s

theorem verifyFail_only {β : Type} (π : State → β) (hπ : ∀ s xkey, π { s with key := xkey } = π s) (what : Nat) (s : State) :
    π (verifyFail what s) = π s := by
  simp only [verifyFail, hπ, apply_ite π, ite_self]

@[simp] theorem verifyFail_frame (what : Nat) (s : State) :
    (verifyFail what s).dev = s.dev ∧ (verifyFail what s).gov = s.gov ∧ (verifyFail what s).flt = s.flt ∧
    (verifyFail what s).tly = s.tly ∧ (verifyFail what s).sal = s.sal ∧ (verifyFail what s).map = s.map ∧
    (verifyFail what s).drn = s.drn ∧ (verifyFail what s).hrv = s.hrv ∧ (verifyFail what s).fld = s.fld ∧
    (verifyFail what s).bed = s.bed ∧ (verifyFail what s).pip = s.pip ∧ (verifyFail what s).heads = s.heads ∧
    (verifyFail what s).sem = s.sem ∧ (verifyFail what s).pans = s.pans ∧ (verifyFail what s).dmc = s.dmc ∧
    (verifyFail what s).trn = s.trn ∧ (verifyFail what s).thm = s.thm ∧ (verifyFail what s).cel = s.cel ∧
    (verifyFail what s).upd = s.upd ∧ (verifyFail what s).brl = s.brl ∧ (verifyFail what s).svc = s.svc ∧
    (verifyFail what s).pins = s.pins ∧ (verifyFail what s).lay = s.lay ∧ (verifyFail what s).jrn = s.jrn ∧
    (verifyFail what s).replies = s.replies ∧ (verifyFail what s).dram = s.dram ∧ (verifyFail what s).poison = s.poison ∧
    (verifyFail what s).serial = s.serial ∧ (verifyFail what s).boot = s.boot ∧ (verifyFail what s).free = s.free ∧
    (verifyFail what s).pending = s.pending := by
  refine ⟨?_, ?_, ?_, ?_, ?_, ?_, ?_, ?_, ?_, ?_, ?_, ?_, ?_, ?_, ?_, ?_, ?_, ?_, ?_, ?_, ?_, ?_, ?_, ?_, ?_, ?_, ?_, ?_, ?_, ?_, ?_⟩ <;> exact verifyFail_only _ (fun _ _ => rfl) what s

theorem imageFailed_only {β : Type} (π : State → β) (hπ : ∀ s xkey, π { s with key := xkey } = π s) (code : Nat) (s : State) :
    π (imageFailed code s) = π s := by
  unfold imageFailed; repeat' first | contradiction | (simp only [hπ, verifyFail_only π hπ, apply_ite π, ite_self]; done) | split | refine (foldl_same π _ (fun s x => ?_) _ _).trans ?_ | refine (elim_same π _ _ _ (fun x => ?_)).trans ?_ | dsimp only

@[simp] theorem imageFailed_frame (code : Nat) (s : State) :
    (imageFailed code s).dev = s.dev ∧ (imageFailed code s).gov = s.gov ∧ (imageFailed code s).flt = s.flt ∧
    (imageFailed code s).tly = s.tly ∧ (imageFailed code s).sal = s.sal ∧ (imageFailed code s).map = s.map ∧
    (imageFailed code s).drn = s.drn ∧ (imageFailed code s).hrv = s.hrv ∧ (imageFailed code s).fld = s.fld ∧
    (imageFailed code s).bed = s.bed ∧ (imageFailed code s).pip = s.pip ∧ (imageFailed code s).heads = s.heads ∧
    (imageFailed code s).sem = s.sem ∧ (imageFailed code s).pans = s.pans ∧ (imageFailed code s).dmc = s.dmc ∧
    (imageFailed code s).trn = s.trn ∧ (imageFailed code s).thm = s.thm ∧ (imageFailed code s).cel = s.cel ∧
    (imageFailed code s).upd = s.upd ∧ (imageFailed code s).brl = s.brl ∧ (imageFailed code s).svc = s.svc ∧
    (imageFailed code s).pins = s.pins ∧ (imageFailed code s).lay = s.lay ∧ (imageFailed code s).jrn = s.jrn ∧
    (imageFailed code s).replies = s.replies ∧ (imageFailed code s).dram = s.dram ∧ (imageFailed code s).poison = s.poison ∧
    (imageFailed code s).serial = s.serial ∧ (imageFailed code s).boot = s.boot ∧ (imageFailed code s).free = s.free ∧
    (imageFailed code s).pending = s.pending := by
  refine ⟨?_, ?_, ?_, ?_, ?_, ?_, ?_, ?_, ?_, ?_, ?_, ?_, ?_, ?_, ?_, ?_, ?_, ?_, ?_, ?_, ?_, ?_, ?_, ?_, ?_, ?_, ?_, ?_, ?_, ?_, ?_⟩ <;> exact imageFailed_only _ (fun _ _ => rfl) code s

theorem tokenFailed_only {β : Type} (π : State → β) (hπ : ∀ s xkey, π { s with key := xkey } = π s) (code : Nat) (s : State) :
    π (tokenFailed code s) = π s := by
  unfold tokenFailed; repeat' first | contradiction | (simp only [hπ, verifyFail_only π hπ, apply_ite π, ite_self]; done) | split | refine (foldl_same π _ (fun s x => ?_) _ _).trans ?_ | refine (elim_same π _ _ _ (fun x => ?_)).trans ?_ | dsimp only

@[simp] theorem tokenFailed_frame (code : Nat) (s : State) :
    (tokenFailed code s).dev = s.dev ∧ (tokenFailed code s).gov = s.gov ∧ (tokenFailed code s).flt = s.flt ∧
    (tokenFailed code s).tly = s.tly ∧ (tokenFailed code s).sal = s.sal ∧ (tokenFailed code s).map = s.map ∧
    (tokenFailed code s).drn = s.drn ∧ (tokenFailed code s).hrv = s.hrv ∧ (tokenFailed code s).fld = s.fld ∧
    (tokenFailed code s).bed = s.bed ∧ (tokenFailed code s).pip = s.pip ∧ (tokenFailed code s).heads = s.heads ∧
    (tokenFailed code s).sem = s.sem ∧ (tokenFailed code s).pans = s.pans ∧ (tokenFailed code s).dmc = s.dmc ∧
    (tokenFailed code s).trn = s.trn ∧ (tokenFailed code s).thm = s.thm ∧ (tokenFailed code s).cel = s.cel ∧
    (tokenFailed code s).upd = s.upd ∧ (tokenFailed code s).brl = s.brl ∧ (tokenFailed code s).svc = s.svc ∧
    (tokenFailed code s).pins = s.pins ∧ (tokenFailed code s).lay = s.lay ∧ (tokenFailed code s).jrn = s.jrn ∧
    (tokenFailed code s).replies = s.replies ∧ (tokenFailed code s).dram = s.dram ∧ (tokenFailed code s).poison = s.poison ∧
    (tokenFailed code s).serial = s.serial ∧ (tokenFailed code s).boot = s.boot ∧ (tokenFailed code s).free = s.free ∧
    (tokenFailed code s).pending = s.pending := by
  refine ⟨?_, ?_, ?_, ?_, ?_, ?_, ?_, ?_, ?_, ?_, ?_, ?_, ?_, ?_, ?_, ?_, ?_, ?_, ?_, ?_, ?_, ?_, ?_, ?_, ?_, ?_, ?_, ?_, ?_, ?_, ?_⟩ <;> exact tokenFailed_only _ (fun _ _ => rfl) code s

theorem rakeReply_only {β : Type} (π : State → β) (hπ : ∀ s xsvc, π { s with svc := xsvc } = π s) (op : Nat) (tag : Nat) (status : Nat) (p : Payload) (s : State) :
    π (rakeReply op tag status p s) = π s := by
  simp only [rakeReply, hπ, apply_ite π, ite_self]

@[simp] theorem rakeReply_frame (op : Nat) (tag : Nat) (status : Nat) (p : Payload) (s : State) :
    (rakeReply op tag status p s).dev = s.dev ∧ (rakeReply op tag status p s).gov = s.gov ∧
    (rakeReply op tag status p s).flt = s.flt ∧ (rakeReply op tag status p s).tly = s.tly ∧
    (rakeReply op tag status p s).sal = s.sal ∧ (rakeReply op tag status p s).map = s.map ∧
    (rakeReply op tag status p s).drn = s.drn ∧ (rakeReply op tag status p s).hrv = s.hrv ∧
    (rakeReply op tag status p s).fld = s.fld ∧ (rakeReply op tag status p s).bed = s.bed ∧
    (rakeReply op tag status p s).pip = s.pip ∧ (rakeReply op tag status p s).heads = s.heads ∧
    (rakeReply op tag status p s).sem = s.sem ∧ (rakeReply op tag status p s).pans = s.pans ∧
    (rakeReply op tag status p s).dmc = s.dmc ∧ (rakeReply op tag status p s).trn = s.trn ∧
    (rakeReply op tag status p s).thm = s.thm ∧ (rakeReply op tag status p s).cel = s.cel ∧
    (rakeReply op tag status p s).upd = s.upd ∧ (rakeReply op tag status p s).key = s.key ∧
    (rakeReply op tag status p s).brl = s.brl ∧ (rakeReply op tag status p s).pins = s.pins ∧
    (rakeReply op tag status p s).lay = s.lay ∧ (rakeReply op tag status p s).jrn = s.jrn ∧
    (rakeReply op tag status p s).replies = s.replies ∧ (rakeReply op tag status p s).dram = s.dram ∧
    (rakeReply op tag status p s).poison = s.poison ∧ (rakeReply op tag status p s).serial = s.serial ∧
    (rakeReply op tag status p s).boot = s.boot ∧ (rakeReply op tag status p s).free = s.free ∧
    (rakeReply op tag status p s).pending = s.pending := by
  refine ⟨?_, ?_, ?_, ?_, ?_, ?_, ?_, ?_, ?_, ?_, ?_, ?_, ?_, ?_, ?_, ?_, ?_, ?_, ?_, ?_, ?_, ?_, ?_, ?_, ?_, ?_, ?_, ?_, ?_, ?_, ?_⟩ <;> exact rakeReply_only _ (fun _ _ => rfl) op tag status p s

theorem frameAccepted_only {β : Type} (π : State → β) (hπ : ∀ s xsvc, π { s with svc := xsvc } = π s) (s : State) :
    π (frameAccepted s) = π s := by
  simp only [frameAccepted, hπ, apply_ite π, ite_self]

@[simp] theorem frameAccepted_frame (s : State) :
    (frameAccepted s).dev = s.dev ∧ (frameAccepted s).gov = s.gov ∧ (frameAccepted s).flt = s.flt ∧ (frameAccepted s).tly = s.tly ∧
    (frameAccepted s).sal = s.sal ∧ (frameAccepted s).map = s.map ∧ (frameAccepted s).drn = s.drn ∧ (frameAccepted s).hrv = s.hrv ∧
    (frameAccepted s).fld = s.fld ∧ (frameAccepted s).bed = s.bed ∧ (frameAccepted s).pip = s.pip ∧
    (frameAccepted s).heads = s.heads ∧ (frameAccepted s).sem = s.sem ∧ (frameAccepted s).pans = s.pans ∧
    (frameAccepted s).dmc = s.dmc ∧ (frameAccepted s).trn = s.trn ∧ (frameAccepted s).thm = s.thm ∧ (frameAccepted s).cel = s.cel ∧
    (frameAccepted s).upd = s.upd ∧ (frameAccepted s).key = s.key ∧ (frameAccepted s).brl = s.brl ∧
    (frameAccepted s).pins = s.pins ∧ (frameAccepted s).lay = s.lay ∧ (frameAccepted s).jrn = s.jrn ∧
    (frameAccepted s).replies = s.replies ∧ (frameAccepted s).dram = s.dram ∧ (frameAccepted s).poison = s.poison ∧
    (frameAccepted s).serial = s.serial ∧ (frameAccepted s).boot = s.boot ∧ (frameAccepted s).free = s.free ∧
    (frameAccepted s).pending = s.pending := by
  refine ⟨?_, ?_, ?_, ?_, ?_, ?_, ?_, ?_, ?_, ?_, ?_, ?_, ?_, ?_, ?_, ?_, ?_, ?_, ?_, ?_, ?_, ?_, ?_, ?_, ?_, ?_, ?_, ?_, ?_, ?_, ?_⟩ <;> exact frameAccepted_only _ (fun _ _ => rfl) s

end Sys2Proof.Machine
end

