-- ==== Sys2Proof/Laws/FramesC.lean ====
section
/-!
SUPPORT. What each shared operation leaves as it was: operations of every chapter.
-/
namespace Sys2Proof.Machine
set_option linter.unusedSimpArgs false

theorem chargerSync_only {β : Type} (π : State → β) (hπ : ∀ s xsal, π { s with sal := xsal } = π s) (s : State) :
    π (chargerSync s) = π s := by
  simp only [chargerSync, hπ, apply_ite π, ite_self]

@[simp] theorem chargerSync_frame (s : State) :
    (chargerSync s).dev = s.dev ∧ (chargerSync s).gov = s.gov ∧ (chargerSync s).flt = s.flt ∧ (chargerSync s).tly = s.tly ∧
    (chargerSync s).map = s.map ∧ (chargerSync s).drn = s.drn ∧ (chargerSync s).hrv = s.hrv ∧ (chargerSync s).fld = s.fld ∧
    (chargerSync s).bed = s.bed ∧ (chargerSync s).pip = s.pip ∧ (chargerSync s).heads = s.heads ∧ (chargerSync s).sem = s.sem ∧
    (chargerSync s).pans = s.pans ∧ (chargerSync s).dmc = s.dmc ∧ (chargerSync s).trn = s.trn ∧ (chargerSync s).thm = s.thm ∧
    (chargerSync s).cel = s.cel ∧ (chargerSync s).upd = s.upd ∧ (chargerSync s).key = s.key ∧ (chargerSync s).brl = s.brl ∧
    (chargerSync s).svc = s.svc ∧ (chargerSync s).pins = s.pins ∧ (chargerSync s).lay = s.lay ∧ (chargerSync s).jrn = s.jrn ∧
    (chargerSync s).replies = s.replies ∧ (chargerSync s).dram = s.dram ∧ (chargerSync s).poison = s.poison ∧
    (chargerSync s).serial = s.serial ∧ (chargerSync s).boot = s.boot ∧ (chargerSync s).free = s.free ∧
    (chargerSync s).pending = s.pending := by
  refine ⟨?_, ?_, ?_, ?_, ?_, ?_, ?_, ?_, ?_, ?_, ?_, ?_, ?_, ?_, ?_, ?_, ?_, ?_, ?_, ?_, ?_, ?_, ?_, ?_, ?_, ?_, ?_, ?_, ?_, ?_, ?_⟩ <;> exact chargerSync_only _ (fun _ _ => rfl) s

theorem refreshK_only {β : Type} (π : State → β) (hπ : ∀ s xdrn, π { s with drn := xdrn } = π s) (s : State) :
    π (refreshK s) = π s := by
  unfold refreshK; repeat' first | contradiction | (simp only [hπ, apply_ite π, ite_self]; done) | split | refine (foldl_same π _ (fun s x => ?_) _ _).trans ?_ | refine (elim_same π _ _ _ (fun x => ?_)).trans ?_ | dsimp only

@[simp] theorem refreshK_frame (s : State) :
    (refreshK s).dev = s.dev ∧ (refreshK s).gov = s.gov ∧ (refreshK s).flt = s.flt ∧ (refreshK s).tly = s.tly ∧
    (refreshK s).sal = s.sal ∧ (refreshK s).map = s.map ∧ (refreshK s).hrv = s.hrv ∧ (refreshK s).fld = s.fld ∧
    (refreshK s).bed = s.bed ∧ (refreshK s).pip = s.pip ∧ (refreshK s).heads = s.heads ∧ (refreshK s).sem = s.sem ∧
    (refreshK s).pans = s.pans ∧ (refreshK s).dmc = s.dmc ∧ (refreshK s).trn = s.trn ∧ (refreshK s).thm = s.thm ∧
    (refreshK s).cel = s.cel ∧ (refreshK s).upd = s.upd ∧ (refreshK s).key = s.key ∧ (refreshK s).brl = s.brl ∧
    (refreshK s).svc = s.svc ∧ (refreshK s).pins = s.pins ∧ (refreshK s).lay = s.lay ∧ (refreshK s).jrn = s.jrn ∧
    (refreshK s).replies = s.replies ∧ (refreshK s).dram = s.dram ∧ (refreshK s).poison = s.poison ∧
    (refreshK s).serial = s.serial ∧ (refreshK s).boot = s.boot ∧ (refreshK s).free = s.free ∧ (refreshK s).pending = s.pending := by
  refine ⟨?_, ?_, ?_, ?_, ?_, ?_, ?_, ?_, ?_, ?_, ?_, ?_, ?_, ?_, ?_, ?_, ?_, ?_, ?_, ?_, ?_, ?_, ?_, ?_, ?_, ?_, ?_, ?_, ?_, ?_, ?_⟩ <;> exact refreshK_only _ (fun _ _ => rfl) s

theorem newSource_only {β : Type} (π : State → β) (hπ : ∀ s xsal xdrn, π { s with sal := xsal, drn := xdrn } = π s) (p : Profile) (s : State) :
    π (newSource p s) = π s := by
  simp only [newSource, hπ, refreshK_only π (fun s xdrn => hπ s s.sal xdrn), apply_ite π, ite_self]

@[simp] theorem newSource_frame (p : Profile) (s : State) :
    (newSource p s).dev = s.dev ∧ (newSource p s).gov = s.gov ∧ (newSource p s).flt = s.flt ∧ (newSource p s).tly = s.tly ∧
    (newSource p s).map = s.map ∧ (newSource p s).hrv = s.hrv ∧ (newSource p s).fld = s.fld ∧ (newSource p s).bed = s.bed ∧
    (newSource p s).pip = s.pip ∧ (newSource p s).heads = s.heads ∧ (newSource p s).sem = s.sem ∧ (newSource p s).pans = s.pans ∧
    (newSource p s).dmc = s.dmc ∧ (newSource p s).trn = s.trn ∧ (newSource p s).thm = s.thm ∧ (newSource p s).cel = s.cel ∧
    (newSource p s).upd = s.upd ∧ (newSource p s).key = s.key ∧ (newSource p s).brl = s.brl ∧ (newSource p s).svc = s.svc ∧
    (newSource p s).pins = s.pins ∧ (newSource p s).lay = s.lay ∧ (newSource p s).jrn = s.jrn ∧
    (newSource p s).replies = s.replies ∧ (newSource p s).dram = s.dram ∧ (newSource p s).poison = s.poison ∧
    (newSource p s).serial = s.serial ∧ (newSource p s).boot = s.boot ∧ (newSource p s).free = s.free ∧
    (newSource p s).pending = s.pending := by
  refine ⟨?_, ?_, ?_, ?_, ?_, ?_, ?_, ?_, ?_, ?_, ?_, ?_, ?_, ?_, ?_, ?_, ?_, ?_, ?_, ?_, ?_, ?_, ?_, ?_, ?_, ?_, ?_, ?_, ?_, ?_⟩ <;> exact newSource_only _ (fun _ _ _ => rfl) p s

theorem sourceCheck_only {β : Type} (π : State → β) (hπ : ∀ s xsal xdrn, π { s with sal := xsal, drn := xdrn } = π s) (s : State) :
    π (sourceCheck s) = π s := by
  unfold sourceCheck; repeat' first | contradiction | (simp only [hπ, newSource_only π hπ, apply_ite π, ite_self]; done) | split | refine (foldl_same π _ (fun s x => ?_) _ _).trans ?_ | refine (elim_same π _ _ _ (fun x => ?_)).trans ?_ | dsimp only

@[simp] theorem sourceCheck_frame (s : State) :
    (sourceCheck s).dev = s.dev ∧ (sourceCheck s).gov = s.gov ∧ (sourceCheck s).flt = s.flt ∧ (sourceCheck s).tly = s.tly ∧
    (sourceCheck s).map = s.map ∧ (sourceCheck s).hrv = s.hrv ∧ (sourceCheck s).fld = s.fld ∧ (sourceCheck s).bed = s.bed ∧
    (sourceCheck s).pip = s.pip ∧ (sourceCheck s).heads = s.heads ∧ (sourceCheck s).sem = s.sem ∧ (sourceCheck s).pans = s.pans ∧
    (sourceCheck s).dmc = s.dmc ∧ (sourceCheck s).trn = s.trn ∧ (sourceCheck s).thm = s.thm ∧ (sourceCheck s).cel = s.cel ∧
    (sourceCheck s).upd = s.upd ∧ (sourceCheck s).key = s.key ∧ (sourceCheck s).brl = s.brl ∧ (sourceCheck s).svc = s.svc ∧
    (sourceCheck s).pins = s.pins ∧ (sourceCheck s).lay = s.lay ∧ (sourceCheck s).jrn = s.jrn ∧
    (sourceCheck s).replies = s.replies ∧ (sourceCheck s).dram = s.dram ∧ (sourceCheck s).poison = s.poison ∧
    (sourceCheck s).serial = s.serial ∧ (sourceCheck s).boot = s.boot ∧ (sourceCheck s).free = s.free ∧
    (sourceCheck s).pending = s.pending := by
  refine ⟨?_, ?_, ?_, ?_, ?_, ?_, ?_, ?_, ?_, ?_, ?_, ?_, ?_, ?_, ?_, ?_, ?_, ?_, ?_, ?_, ?_, ?_, ?_, ?_, ?_, ?_, ?_, ?_, ?_, ?_⟩ <;> exact sourceCheck_only _ (fun _ _ _ => rfl) s

theorem creditSync_only {β : Type} (π : State → β) (hπ : ∀ s xgov xheads, π { s with gov := xgov, heads := xheads } = π s) (s : State) :
    π (creditSync s) = π s := by
  unfold creditSync; repeat' first | contradiction | (simp only [hπ, apply_ite π, ite_self]; done) | split | refine (foldl_same π _ (fun s x => ?_) _ _).trans ?_ | refine (elim_same π _ _ _ (fun x => ?_)).trans ?_ | dsimp only

@[simp] theorem creditSync_frame (s : State) :
    (creditSync s).dev = s.dev ∧ (creditSync s).flt = s.flt ∧ (creditSync s).tly = s.tly ∧ (creditSync s).sal = s.sal ∧
    (creditSync s).map = s.map ∧ (creditSync s).drn = s.drn ∧ (creditSync s).hrv = s.hrv ∧ (creditSync s).fld = s.fld ∧
    (creditSync s).bed = s.bed ∧ (creditSync s).pip = s.pip ∧ (creditSync s).sem = s.sem ∧ (creditSync s).pans = s.pans ∧
    (creditSync s).dmc = s.dmc ∧ (creditSync s).trn = s.trn ∧ (creditSync s).thm = s.thm ∧ (creditSync s).cel = s.cel ∧
    (creditSync s).upd = s.upd ∧ (creditSync s).key = s.key ∧ (creditSync s).brl = s.brl ∧ (creditSync s).svc = s.svc ∧
    (creditSync s).pins = s.pins ∧ (creditSync s).lay = s.lay ∧ (creditSync s).jrn = s.jrn ∧ (creditSync s).replies = s.replies ∧
    (creditSync s).dram = s.dram ∧ (creditSync s).poison = s.poison ∧ (creditSync s).serial = s.serial ∧
    (creditSync s).boot = s.boot ∧ (creditSync s).free = s.free ∧ (creditSync s).pending = s.pending := by
  refine ⟨?_, ?_, ?_, ?_, ?_, ?_, ?_, ?_, ?_, ?_, ?_, ?_, ?_, ?_, ?_, ?_, ?_, ?_, ?_, ?_, ?_, ?_, ?_, ?_, ?_, ?_, ?_, ?_, ?_, ?_⟩ <;> exact creditSync_only _ (fun _ _ _ => rfl) s

theorem trackTemps_only {β : Type} (π : State → β) (hπ : ∀ s xsal, π { s with sal := xsal } = π s) (s : State) :
    π (trackTemps s) = π s := by
  unfold trackTemps; repeat' first | contradiction | (simp only [hπ, apply_ite π, ite_self]; done) | split | refine (foldl_same π _ (fun s x => ?_) _ _).trans ?_ | refine (elim_same π _ _ _ (fun x => ?_)).trans ?_ | dsimp only

@[simp] theorem trackTemps_frame (s : State) :
    (trackTemps s).dev = s.dev ∧ (trackTemps s).gov = s.gov ∧ (trackTemps s).flt = s.flt ∧ (trackTemps s).tly = s.tly ∧
    (trackTemps s).map = s.map ∧ (trackTemps s).drn = s.drn ∧ (trackTemps s).hrv = s.hrv ∧ (trackTemps s).fld = s.fld ∧
    (trackTemps s).bed = s.bed ∧ (trackTemps s).pip = s.pip ∧ (trackTemps s).heads = s.heads ∧ (trackTemps s).sem = s.sem ∧
    (trackTemps s).pans = s.pans ∧ (trackTemps s).dmc = s.dmc ∧ (trackTemps s).trn = s.trn ∧ (trackTemps s).thm = s.thm ∧
    (trackTemps s).cel = s.cel ∧ (trackTemps s).upd = s.upd ∧ (trackTemps s).key = s.key ∧ (trackTemps s).brl = s.brl ∧
    (trackTemps s).svc = s.svc ∧ (trackTemps s).pins = s.pins ∧ (trackTemps s).lay = s.lay ∧ (trackTemps s).jrn = s.jrn ∧
    (trackTemps s).replies = s.replies ∧ (trackTemps s).dram = s.dram ∧ (trackTemps s).poison = s.poison ∧
    (trackTemps s).serial = s.serial ∧ (trackTemps s).boot = s.boot ∧ (trackTemps s).free = s.free ∧
    (trackTemps s).pending = s.pending := by
  refine ⟨?_, ?_, ?_, ?_, ?_, ?_, ?_, ?_, ?_, ?_, ?_, ?_, ?_, ?_, ?_, ?_, ?_, ?_, ?_, ?_, ?_, ?_, ?_, ?_, ?_, ?_, ?_, ?_, ?_, ?_, ?_⟩ <;> exact trackTemps_only _ (fun _ _ => rfl) s

theorem packReturn_only {β : Type} (π : State → β) (hπ : ∀ s xsal xdrn, π { s with sal := xsal, drn := xdrn } = π s) (s : State) :
    π (packReturn s) = π s := by
  unfold packReturn; repeat' first | contradiction | (simp only [hπ, newSource_only π hπ, apply_ite π, ite_self]; done) | split | refine (foldl_same π _ (fun s x => ?_) _ _).trans ?_ | refine (elim_same π _ _ _ (fun x => ?_)).trans ?_ | dsimp only

@[simp] theorem packReturn_frame (s : State) :
    (packReturn s).dev = s.dev ∧ (packReturn s).gov = s.gov ∧ (packReturn s).flt = s.flt ∧ (packReturn s).tly = s.tly ∧
    (packReturn s).map = s.map ∧ (packReturn s).hrv = s.hrv ∧ (packReturn s).fld = s.fld ∧ (packReturn s).bed = s.bed ∧
    (packReturn s).pip = s.pip ∧ (packReturn s).heads = s.heads ∧ (packReturn s).sem = s.sem ∧ (packReturn s).pans = s.pans ∧
    (packReturn s).dmc = s.dmc ∧ (packReturn s).trn = s.trn ∧ (packReturn s).thm = s.thm ∧ (packReturn s).cel = s.cel ∧
    (packReturn s).upd = s.upd ∧ (packReturn s).key = s.key ∧ (packReturn s).brl = s.brl ∧ (packReturn s).svc = s.svc ∧
    (packReturn s).pins = s.pins ∧ (packReturn s).lay = s.lay ∧ (packReturn s).jrn = s.jrn ∧ (packReturn s).replies = s.replies ∧
    (packReturn s).dram = s.dram ∧ (packReturn s).poison = s.poison ∧ (packReturn s).serial = s.serial ∧
    (packReturn s).boot = s.boot ∧ (packReturn s).free = s.free ∧ (packReturn s).pending = s.pending := by
  refine ⟨?_, ?_, ?_, ?_, ?_, ?_, ?_, ?_, ?_, ?_, ?_, ?_, ?_, ?_, ?_, ?_, ?_, ?_, ?_, ?_, ?_, ?_, ?_, ?_, ?_, ?_, ?_, ?_, ?_, ?_⟩ <;> exact packReturn_only _ (fun _ _ _ => rfl) s

theorem beginLearn_only {β : Type} (π : State → β) (hπ : ∀ s xsal, π { s with sal := xsal } = π s) (p : Profile) (s : State) :
    π (beginLearn p s) = π s := by
  simp only [beginLearn, hπ, apply_ite π, ite_self]

@[simp] theorem beginLearn_frame (p : Profile) (s : State) :
    (beginLearn p s).dev = s.dev ∧ (beginLearn p s).gov = s.gov ∧ (beginLearn p s).flt = s.flt ∧ (beginLearn p s).tly = s.tly ∧
    (beginLearn p s).map = s.map ∧ (beginLearn p s).drn = s.drn ∧ (beginLearn p s).hrv = s.hrv ∧ (beginLearn p s).fld = s.fld ∧
    (beginLearn p s).bed = s.bed ∧ (beginLearn p s).pip = s.pip ∧ (beginLearn p s).heads = s.heads ∧ (beginLearn p s).sem = s.sem ∧
    (beginLearn p s).pans = s.pans ∧ (beginLearn p s).dmc = s.dmc ∧ (beginLearn p s).trn = s.trn ∧ (beginLearn p s).thm = s.thm ∧
    (beginLearn p s).cel = s.cel ∧ (beginLearn p s).upd = s.upd ∧ (beginLearn p s).key = s.key ∧ (beginLearn p s).brl = s.brl ∧
    (beginLearn p s).svc = s.svc ∧ (beginLearn p s).pins = s.pins ∧ (beginLearn p s).lay = s.lay ∧ (beginLearn p s).jrn = s.jrn ∧
    (beginLearn p s).replies = s.replies ∧ (beginLearn p s).dram = s.dram ∧ (beginLearn p s).poison = s.poison ∧
    (beginLearn p s).serial = s.serial ∧ (beginLearn p s).boot = s.boot ∧ (beginLearn p s).free = s.free ∧
    (beginLearn p s).pending = s.pending := by
  refine ⟨?_, ?_, ?_, ?_, ?_, ?_, ?_, ?_, ?_, ?_, ?_, ?_, ?_, ?_, ?_, ?_, ?_, ?_, ?_, ?_, ?_, ?_, ?_, ?_, ?_, ?_, ?_, ?_, ?_, ?_, ?_⟩ <;> exact beginLearn_only _ (fun _ _ => rfl) p s

theorem learnWhenDue_only {β : Type} (π : State → β) (hπ : ∀ s xsal, π { s with sal := xsal } = π s) (s : State) :
    π (learnWhenDue s) = π s := by
  unfold learnWhenDue; repeat' first | contradiction | (simp only [hπ, beginLearn_only π hπ, apply_ite π, ite_self]; done) | split | refine (foldl_same π _ (fun s x => ?_) _ _).trans ?_ | refine (elim_same π _ _ _ (fun x => ?_)).trans ?_ | dsimp only

@[simp] theorem learnWhenDue_frame (s : State) :
    (learnWhenDue s).dev = s.dev ∧ (learnWhenDue s).gov = s.gov ∧ (learnWhenDue s).flt = s.flt ∧ (learnWhenDue s).tly = s.tly ∧
    (learnWhenDue s).map = s.map ∧ (learnWhenDue s).drn = s.drn ∧ (learnWhenDue s).hrv = s.hrv ∧ (learnWhenDue s).fld = s.fld ∧
    (learnWhenDue s).bed = s.bed ∧ (learnWhenDue s).pip = s.pip ∧ (learnWhenDue s).heads = s.heads ∧ (learnWhenDue s).sem = s.sem ∧
    (learnWhenDue s).pans = s.pans ∧ (learnWhenDue s).dmc = s.dmc ∧ (learnWhenDue s).trn = s.trn ∧ (learnWhenDue s).thm = s.thm ∧
    (learnWhenDue s).cel = s.cel ∧ (learnWhenDue s).upd = s.upd ∧ (learnWhenDue s).key = s.key ∧ (learnWhenDue s).brl = s.brl ∧
    (learnWhenDue s).svc = s.svc ∧ (learnWhenDue s).pins = s.pins ∧ (learnWhenDue s).lay = s.lay ∧ (learnWhenDue s).jrn = s.jrn ∧
    (learnWhenDue s).replies = s.replies ∧ (learnWhenDue s).dram = s.dram ∧ (learnWhenDue s).poison = s.poison ∧
    (learnWhenDue s).serial = s.serial ∧ (learnWhenDue s).boot = s.boot ∧ (learnWhenDue s).free = s.free ∧
    (learnWhenDue s).pending = s.pending := by
  refine ⟨?_, ?_, ?_, ?_, ?_, ?_, ?_, ?_, ?_, ?_, ?_, ?_, ?_, ?_, ?_, ?_, ?_, ?_, ?_, ?_, ?_, ?_, ?_, ?_, ?_, ?_, ?_, ?_, ?_, ?_, ?_⟩ <;> exact learnWhenDue_only _ (fun _ _ => rfl) s

theorem chargeStatus_only {β : Type} (π : State → β) (hπ : ∀ s xsal, π { s with sal := xsal } = π s) (done : Bool) (s : State) :
    π (chargeStatus done s) = π s := by
  unfold chargeStatus; repeat' first | contradiction | (simp only [hπ, apply_ite π, ite_self]; done) | split | refine (foldl_same π _ (fun s x => ?_) _ _).trans ?_ | refine (elim_same π _ _ _ (fun x => ?_)).trans ?_ | dsimp only

@[simp] theorem chargeStatus_frame (done : Bool) (s : State) :
    (chargeStatus done s).dev = s.dev ∧ (chargeStatus done s).gov = s.gov ∧ (chargeStatus done s).flt = s.flt ∧
    (chargeStatus done s).tly = s.tly ∧ (chargeStatus done s).map = s.map ∧ (chargeStatus done s).drn = s.drn ∧
    (chargeStatus done s).hrv = s.hrv ∧ (chargeStatus done s).fld = s.fld ∧ (chargeStatus done s).bed = s.bed ∧
    (chargeStatus done s).pip = s.pip ∧ (chargeStatus done s).heads = s.heads ∧ (chargeStatus done s).sem = s.sem ∧
    (chargeStatus done s).pans = s.pans ∧ (chargeStatus done s).dmc = s.dmc ∧ (chargeStatus done s).trn = s.trn ∧
    (chargeStatus done s).thm = s.thm ∧ (chargeStatus done s).cel = s.cel ∧ (chargeStatus done s).upd = s.upd ∧
    (chargeStatus done s).key = s.key ∧ (chargeStatus done s).brl = s.brl ∧ (chargeStatus done s).svc = s.svc ∧
    (chargeStatus done s).pins = s.pins ∧ (chargeStatus done s).lay = s.lay ∧ (chargeStatus done s).jrn = s.jrn ∧
    (chargeStatus done s).replies = s.replies ∧ (chargeStatus done s).dram = s.dram ∧ (chargeStatus done s).poison = s.poison ∧
    (chargeStatus done s).serial = s.serial ∧ (chargeStatus done s).boot = s.boot ∧ (chargeStatus done s).free = s.free ∧
    (chargeStatus done s).pending = s.pending := by
  refine ⟨?_, ?_, ?_, ?_, ?_, ?_, ?_, ?_, ?_, ?_, ?_, ?_, ?_, ?_, ?_, ?_, ?_, ?_, ?_, ?_, ?_, ?_, ?_, ?_, ?_, ?_, ?_, ?_, ?_, ?_, ?_⟩ <;> exact chargeStatus_only _ (fun _ _ => rfl) done s

theorem learnOrDefer_only {β : Type} (π : State → β) (hπ : ∀ s xsal, π { s with sal := xsal } = π s) (s : State) :
    π (learnOrDefer s) = π s := by
  unfold learnOrDefer; repeat' first | contradiction | (simp only [hπ, beginLearn_only π hπ, apply_ite π, ite_self]; done) | split | refine (foldl_same π _ (fun s x => ?_) _ _).trans ?_ | refine (elim_same π _ _ _ (fun x => ?_)).trans ?_ | dsimp only

@[simp] theorem learnOrDefer_frame (s : State) :
    (learnOrDefer s).dev = s.dev ∧ (learnOrDefer s).gov = s.gov ∧ (learnOrDefer s).flt = s.flt ∧ (learnOrDefer s).tly = s.tly ∧
    (learnOrDefer s).map = s.map ∧ (learnOrDefer s).drn = s.drn ∧ (learnOrDefer s).hrv = s.hrv ∧ (learnOrDefer s).fld = s.fld ∧
    (learnOrDefer s).bed = s.bed ∧ (learnOrDefer s).pip = s.pip ∧ (learnOrDefer s).heads = s.heads ∧ (learnOrDefer s).sem = s.sem ∧
    (learnOrDefer s).pans = s.pans ∧ (learnOrDefer s).dmc = s.dmc ∧ (learnOrDefer s).trn = s.trn ∧ (learnOrDefer s).thm = s.thm ∧
    (learnOrDefer s).cel = s.cel ∧ (learnOrDefer s).upd = s.upd ∧ (learnOrDefer s).key = s.key ∧ (learnOrDefer s).brl = s.brl ∧
    (learnOrDefer s).svc = s.svc ∧ (learnOrDefer s).pins = s.pins ∧ (learnOrDefer s).lay = s.lay ∧ (learnOrDefer s).jrn = s.jrn ∧
    (learnOrDefer s).replies = s.replies ∧ (learnOrDefer s).dram = s.dram ∧ (learnOrDefer s).poison = s.poison ∧
    (learnOrDefer s).serial = s.serial ∧ (learnOrDefer s).boot = s.boot ∧ (learnOrDefer s).free = s.free ∧
    (learnOrDefer s).pending = s.pending := by
  refine ⟨?_, ?_, ?_, ?_, ?_, ?_, ?_, ?_, ?_, ?_, ?_, ?_, ?_, ?_, ?_, ?_, ?_, ?_, ?_, ?_, ?_, ?_, ?_, ?_, ?_, ?_, ?_, ?_, ?_, ?_, ?_⟩ <;> exact learnOrDefer_only _ (fun _ _ => rfl) s

theorem openSeal_only {β : Type} (π : State → β) (hπ : ∀ s xsal xcel xkey xjrn xfree, π { s with sal := xsal, cel := xcel, key := xkey, jrn := xjrn, free := xfree } = π s) (port : Port) (s : State) :
    π (openSeal port s) = π s := by
  simp only [openSeal, hπ, mkSalRec_only π (fun s xsal xfree => hπ s xsal s.cel s.key s.jrn xfree), putSalRec_only π (fun s xsal xcel xkey xjrn => hπ s xsal xcel xkey xjrn s.free), endLearn_only π hπ, dropNonce_only π (fun s xkey => hπ s s.sal s.cel xkey s.jrn s.free), chargerSync_only π (fun s xsal => hπ s xsal s.cel s.key s.jrn s.free), apply_ite π, ite_self]

@[simp] theorem openSeal_frame (port : Port) (s : State) :
    (openSeal port s).dev = s.dev ∧ (openSeal port s).gov = s.gov ∧ (openSeal port s).flt = s.flt ∧ (openSeal port s).tly = s.tly ∧
    (openSeal port s).map = s.map ∧ (openSeal port s).drn = s.drn ∧ (openSeal port s).hrv = s.hrv ∧ (openSeal port s).fld = s.fld ∧
    (openSeal port s).bed = s.bed ∧ (openSeal port s).pip = s.pip ∧ (openSeal port s).heads = s.heads ∧
    (openSeal port s).sem = s.sem ∧ (openSeal port s).pans = s.pans ∧ (openSeal port s).dmc = s.dmc ∧
    (openSeal port s).trn = s.trn ∧ (openSeal port s).thm = s.thm ∧ (openSeal port s).upd = s.upd ∧ (openSeal port s).brl = s.brl ∧
    (openSeal port s).svc = s.svc ∧ (openSeal port s).pins = s.pins ∧ (openSeal port s).lay = s.lay ∧
    (openSeal port s).replies = s.replies ∧ (openSeal port s).dram = s.dram ∧ (openSeal port s).poison = s.poison ∧
    (openSeal port s).serial = s.serial ∧ (openSeal port s).boot = s.boot ∧ (openSeal port s).pending = s.pending := by
  refine ⟨?_, ?_, ?_, ?_, ?_, ?_, ?_, ?_, ?_, ?_, ?_, ?_, ?_, ?_, ?_, ?_, ?_, ?_, ?_, ?_, ?_, ?_, ?_, ?_, ?_, ?_, ?_⟩ <;> exact openSeal_only _ (fun _ _ _ _ _ _ => rfl) port s

theorem closeSeal_only {β : Type} (π : State → β) (hπ : ∀ s xsal xcel xkey xjrn xfree, π { s with sal := xsal, cel := xcel, key := xkey, jrn := xjrn, free := xfree } = π s) (s : State) :
    π (closeSeal s).1 = π s := by
  simp only [closeSeal, hπ, mkSalRec_only π (fun s xsal xfree => hπ s xsal s.cel s.key s.jrn xfree), putSalRec_only π (fun s xsal xcel xkey xjrn => hπ s xsal xcel xkey xjrn s.free), apply_ite π, ite_self]

@[simp] theorem closeSeal_frame (s : State) :
    (closeSeal s).1.dev = s.dev ∧ (closeSeal s).1.gov = s.gov ∧ (closeSeal s).1.flt = s.flt ∧ (closeSeal s).1.tly = s.tly ∧
    (closeSeal s).1.map = s.map ∧ (closeSeal s).1.drn = s.drn ∧ (closeSeal s).1.hrv = s.hrv ∧ (closeSeal s).1.fld = s.fld ∧
    (closeSeal s).1.bed = s.bed ∧ (closeSeal s).1.pip = s.pip ∧ (closeSeal s).1.heads = s.heads ∧ (closeSeal s).1.sem = s.sem ∧
    (closeSeal s).1.pans = s.pans ∧ (closeSeal s).1.dmc = s.dmc ∧ (closeSeal s).1.trn = s.trn ∧ (closeSeal s).1.thm = s.thm ∧
    (closeSeal s).1.upd = s.upd ∧ (closeSeal s).1.brl = s.brl ∧ (closeSeal s).1.svc = s.svc ∧ (closeSeal s).1.pins = s.pins ∧
    (closeSeal s).1.lay = s.lay ∧ (closeSeal s).1.replies = s.replies ∧ (closeSeal s).1.dram = s.dram ∧
    (closeSeal s).1.poison = s.poison ∧ (closeSeal s).1.serial = s.serial ∧ (closeSeal s).1.boot = s.boot ∧
    (closeSeal s).1.pending = s.pending := by
  refine ⟨?_, ?_, ?_, ?_, ?_, ?_, ?_, ?_, ?_, ?_, ?_, ?_, ?_, ?_, ?_, ?_, ?_, ?_, ?_, ?_, ?_, ?_, ?_, ?_, ?_, ?_, ?_⟩ <;> exact closeSeal_only _ (fun _ _ _ _ _ _ => rfl) s

theorem fullRegion_only {β : Type} (π : State → β) (hπ : ∀ s xmap xdrn, π { s with map := xmap, drn := xdrn } = π s) (r : Nat) (s : State) :
    π (fullRegion r s) = π s := by
  simp only [fullRegion, hπ, rstUpd_only π (fun s xmap => hπ s xmap s.drn), capDirty_only π (fun s xmap => hπ s xmap s.drn), setLine_only π (fun s xmap => hπ s xmap s.drn), fillDone_only π hπ, apply_ite π, ite_self]

@[simp] theorem fullRegion_frame (r : Nat) (s : State) :
    (fullRegion r s).dev = s.dev ∧ (fullRegion r s).gov = s.gov ∧ (fullRegion r s).flt = s.flt ∧ (fullRegion r s).tly = s.tly ∧
    (fullRegion r s).sal = s.sal ∧ (fullRegion r s).hrv = s.hrv ∧ (fullRegion r s).fld = s.fld ∧ (fullRegion r s).bed = s.bed ∧
    (fullRegion r s).pip = s.pip ∧ (fullRegion r s).heads = s.heads ∧ (fullRegion r s).sem = s.sem ∧
    (fullRegion r s).pans = s.pans ∧ (fullRegion r s).dmc = s.dmc ∧ (fullRegion r s).trn = s.trn ∧ (fullRegion r s).thm = s.thm ∧
    (fullRegion r s).cel = s.cel ∧ (fullRegion r s).upd = s.upd ∧ (fullRegion r s).key = s.key ∧ (fullRegion r s).brl = s.brl ∧
    (fullRegion r s).svc = s.svc ∧ (fullRegion r s).pins = s.pins ∧ (fullRegion r s).lay = s.lay ∧ (fullRegion r s).jrn = s.jrn ∧
    (fullRegion r s).replies = s.replies ∧ (fullRegion r s).dram = s.dram ∧ (fullRegion r s).poison = s.poison ∧
    (fullRegion r s).serial = s.serial ∧ (fullRegion r s).boot = s.boot ∧ (fullRegion r s).free = s.free ∧
    (fullRegion r s).pending = s.pending := by
  refine ⟨?_, ?_, ?_, ?_, ?_, ?_, ?_, ?_, ?_, ?_, ?_, ?_, ?_, ?_, ?_, ?_, ?_, ?_, ?_, ?_, ?_, ?_, ?_, ?_, ?_, ?_, ?_, ?_, ?_, ?_⟩ <;> exact fullRegion_only _ (fun _ _ _ => rfl) r s

theorem auditStep_only {β : Type} (π : State → β) (hπ : ∀ s xmap, π { s with map := xmap } = π s) (region : Nat) (s : State) :
    π (auditStep region s) = π s := by
  unfold auditStep; repeat' first | contradiction | (simp only [hπ, apply_ite π, ite_self]; done) | split | refine (foldl_same π _ (fun s x => ?_) _ _).trans ?_ | refine (elim_same π _ _ _ (fun x => ?_)).trans ?_ | dsimp only

@[simp] theorem auditStep_frame (region : Nat) (s : State) :
    (auditStep region s).dev = s.dev ∧ (auditStep region s).gov = s.gov ∧ (auditStep region s).flt = s.flt ∧
    (auditStep region s).tly = s.tly ∧ (auditStep region s).sal = s.sal ∧ (auditStep region s).drn = s.drn ∧
    (auditStep region s).hrv = s.hrv ∧ (auditStep region s).fld = s.fld ∧ (auditStep region s).bed = s.bed ∧
    (auditStep region s).pip = s.pip ∧ (auditStep region s).heads = s.heads ∧ (auditStep region s).sem = s.sem ∧
    (auditStep region s).pans = s.pans ∧ (auditStep region s).dmc = s.dmc ∧ (auditStep region s).trn = s.trn ∧
    (auditStep region s).thm = s.thm ∧ (auditStep region s).cel = s.cel ∧ (auditStep region s).upd = s.upd ∧
    (auditStep region s).key = s.key ∧ (auditStep region s).brl = s.brl ∧ (auditStep region s).svc = s.svc ∧
    (auditStep region s).pins = s.pins ∧ (auditStep region s).lay = s.lay ∧ (auditStep region s).jrn = s.jrn ∧
    (auditStep region s).replies = s.replies ∧ (auditStep region s).dram = s.dram ∧ (auditStep region s).poison = s.poison ∧
    (auditStep region s).serial = s.serial ∧ (auditStep region s).boot = s.boot ∧ (auditStep region s).free = s.free ∧
    (auditStep region s).pending = s.pending := by
  refine ⟨?_, ?_, ?_, ?_, ?_, ?_, ?_, ?_, ?_, ?_, ?_, ?_, ?_, ?_, ?_, ?_, ?_, ?_, ?_, ?_, ?_, ?_, ?_, ?_, ?_, ?_, ?_, ?_, ?_, ?_, ?_⟩ <;> exact auditStep_only _ (fun _ _ => rfl) region s

theorem budgetTick_only {β : Type} (π : State → β) (hπ : ∀ s xgov, π { s with gov := xgov } = π s) (s : State) :
    π (budgetTick s) = π s := by
  simp only [budgetTick, hπ, apply_ite π, ite_self]

@[simp] theorem budgetTick_frame (s : State) :
    (budgetTick s).dev = s.dev ∧ (budgetTick s).flt = s.flt ∧ (budgetTick s).tly = s.tly ∧ (budgetTick s).sal = s.sal ∧
    (budgetTick s).map = s.map ∧ (budgetTick s).drn = s.drn ∧ (budgetTick s).hrv = s.hrv ∧ (budgetTick s).fld = s.fld ∧
    (budgetTick s).bed = s.bed ∧ (budgetTick s).pip = s.pip ∧ (budgetTick s).heads = s.heads ∧ (budgetTick s).sem = s.sem ∧
    (budgetTick s).pans = s.pans ∧ (budgetTick s).dmc = s.dmc ∧ (budgetTick s).trn = s.trn ∧ (budgetTick s).thm = s.thm ∧
    (budgetTick s).cel = s.cel ∧ (budgetTick s).upd = s.upd ∧ (budgetTick s).key = s.key ∧ (budgetTick s).brl = s.brl ∧
    (budgetTick s).svc = s.svc ∧ (budgetTick s).pins = s.pins ∧ (budgetTick s).lay = s.lay ∧ (budgetTick s).jrn = s.jrn ∧
    (budgetTick s).replies = s.replies ∧ (budgetTick s).dram = s.dram ∧ (budgetTick s).poison = s.poison ∧
    (budgetTick s).serial = s.serial ∧ (budgetTick s).boot = s.boot ∧ (budgetTick s).free = s.free ∧
    (budgetTick s).pending = s.pending := by
  refine ⟨?_, ?_, ?_, ?_, ?_, ?_, ?_, ?_, ?_, ?_, ?_, ?_, ?_, ?_, ?_, ?_, ?_, ?_, ?_, ?_, ?_, ?_, ?_, ?_, ?_, ?_, ?_, ?_, ?_, ?_, ?_⟩ <;> exact budgetTick_only _ (fun _ _ => rfl) s

theorem bandTick_only {β : Type} (π : State → β) (hπ : ∀ s xgov xdrn xheads, π { s with gov := xgov, drn := xdrn, heads := xheads } = π s) (s : State) :
    π (bandTick s) = π s := by
  unfold bandTick; repeat' first | contradiction | (simp only [hπ, creditSync_only π (fun s xgov xheads => hπ s xgov s.drn xheads), apply_ite π, ite_self]; done) | split | refine (foldl_same π _ (fun s x => ?_) _ _).trans ?_ | refine (elim_same π _ _ _ (fun x => ?_)).trans ?_ | dsimp only

@[simp] theorem bandTick_frame (s : State) :
    (bandTick s).dev = s.dev ∧ (bandTick s).flt = s.flt ∧ (bandTick s).tly = s.tly ∧ (bandTick s).sal = s.sal ∧
    (bandTick s).map = s.map ∧ (bandTick s).hrv = s.hrv ∧ (bandTick s).fld = s.fld ∧ (bandTick s).bed = s.bed ∧
    (bandTick s).pip = s.pip ∧ (bandTick s).sem = s.sem ∧ (bandTick s).pans = s.pans ∧ (bandTick s).dmc = s.dmc ∧
    (bandTick s).trn = s.trn ∧ (bandTick s).thm = s.thm ∧ (bandTick s).cel = s.cel ∧ (bandTick s).upd = s.upd ∧
    (bandTick s).key = s.key ∧ (bandTick s).brl = s.brl ∧ (bandTick s).svc = s.svc ∧ (bandTick s).pins = s.pins ∧
    (bandTick s).lay = s.lay ∧ (bandTick s).jrn = s.jrn ∧ (bandTick s).replies = s.replies ∧ (bandTick s).dram = s.dram ∧
    (bandTick s).poison = s.poison ∧ (bandTick s).serial = s.serial ∧ (bandTick s).boot = s.boot ∧ (bandTick s).free = s.free ∧
    (bandTick s).pending = s.pending := by
  refine ⟨?_, ?_, ?_, ?_, ?_, ?_, ?_, ?_, ?_, ?_, ?_, ?_, ?_, ?_, ?_, ?_, ?_, ?_, ?_, ?_, ?_, ?_, ?_, ?_, ?_, ?_, ?_, ?_, ?_⟩ <;> exact bandTick_only _ (fun _ _ _ _ => rfl) s

theorem holdArmSync_only {β : Type} (π : State → β) (hπ : ∀ s xsal, π { s with sal := xsal } = π s) (s : State) :
    π (holdArmSync s) = π s := by
  simp only [holdArmSync, hπ, apply_ite π, ite_self]

@[simp] theorem holdArmSync_frame (s : State) :
    (holdArmSync s).dev = s.dev ∧ (holdArmSync s).gov = s.gov ∧ (holdArmSync s).flt = s.flt ∧ (holdArmSync s).tly = s.tly ∧
    (holdArmSync s).map = s.map ∧ (holdArmSync s).drn = s.drn ∧ (holdArmSync s).hrv = s.hrv ∧ (holdArmSync s).fld = s.fld ∧
    (holdArmSync s).bed = s.bed ∧ (holdArmSync s).pip = s.pip ∧ (holdArmSync s).heads = s.heads ∧ (holdArmSync s).sem = s.sem ∧
    (holdArmSync s).pans = s.pans ∧ (holdArmSync s).dmc = s.dmc ∧ (holdArmSync s).trn = s.trn ∧ (holdArmSync s).thm = s.thm ∧
    (holdArmSync s).cel = s.cel ∧ (holdArmSync s).upd = s.upd ∧ (holdArmSync s).key = s.key ∧ (holdArmSync s).brl = s.brl ∧
    (holdArmSync s).svc = s.svc ∧ (holdArmSync s).pins = s.pins ∧ (holdArmSync s).lay = s.lay ∧ (holdArmSync s).jrn = s.jrn ∧
    (holdArmSync s).replies = s.replies ∧ (holdArmSync s).dram = s.dram ∧ (holdArmSync s).poison = s.poison ∧
    (holdArmSync s).serial = s.serial ∧ (holdArmSync s).boot = s.boot ∧ (holdArmSync s).free = s.free ∧
    (holdArmSync s).pending = s.pending := by
  refine ⟨?_, ?_, ?_, ?_, ?_, ?_, ?_, ?_, ?_, ?_, ?_, ?_, ?_, ?_, ?_, ?_, ?_, ?_, ?_, ?_, ?_, ?_, ?_, ?_, ?_, ?_, ?_, ?_, ?_, ?_, ?_⟩ <;> exact holdArmSync_only _ (fun _ _ => rfl) s

theorem pdomSync_only {β : Type} (π : State → β) (hπ : ∀ s xgov, π { s with gov := xgov } = π s) (s : State) :
    π (pdomSync s) = π s := by
  simp only [pdomSync, hπ, apply_ite π, ite_self]

@[simp] theorem pdomSync_frame (s : State) :
    (pdomSync s).dev = s.dev ∧ (pdomSync s).flt = s.flt ∧ (pdomSync s).tly = s.tly ∧ (pdomSync s).sal = s.sal ∧
    (pdomSync s).map = s.map ∧ (pdomSync s).drn = s.drn ∧ (pdomSync s).hrv = s.hrv ∧ (pdomSync s).fld = s.fld ∧
    (pdomSync s).bed = s.bed ∧ (pdomSync s).pip = s.pip ∧ (pdomSync s).heads = s.heads ∧ (pdomSync s).sem = s.sem ∧
    (pdomSync s).pans = s.pans ∧ (pdomSync s).dmc = s.dmc ∧ (pdomSync s).trn = s.trn ∧ (pdomSync s).thm = s.thm ∧
    (pdomSync s).cel = s.cel ∧ (pdomSync s).upd = s.upd ∧ (pdomSync s).key = s.key ∧ (pdomSync s).brl = s.brl ∧
    (pdomSync s).svc = s.svc ∧ (pdomSync s).pins = s.pins ∧ (pdomSync s).lay = s.lay ∧ (pdomSync s).jrn = s.jrn ∧
    (pdomSync s).replies = s.replies ∧ (pdomSync s).dram = s.dram ∧ (pdomSync s).poison = s.poison ∧
    (pdomSync s).serial = s.serial ∧ (pdomSync s).boot = s.boot ∧ (pdomSync s).free = s.free ∧ (pdomSync s).pending = s.pending := by
  refine ⟨?_, ?_, ?_, ?_, ?_, ?_, ?_, ?_, ?_, ?_, ?_, ?_, ?_, ?_, ?_, ?_, ?_, ?_, ?_, ?_, ?_, ?_, ?_, ?_, ?_, ?_, ?_, ?_, ?_, ?_, ?_⟩ <;> exact pdomSync_only _ (fun _ _ => rfl) s

theorem releaseAccess_only {β : Type} (π : State → β) (hπ : ∀ s xgov xjrn, π { s with gov := xgov, jrn := xjrn } = π s) (s : State) :
    π (releaseAccess s) = π s := by
  unfold releaseAccess; repeat' first | contradiction | (simp only [hπ, State.journal_only π (fun s xjrn => hπ s s.gov xjrn), apply_ite π, ite_self]; done) | split | refine (foldl_same π _ (fun s x => ?_) _ _).trans ?_ | refine (elim_same π _ _ _ (fun x => ?_)).trans ?_ | dsimp only

@[simp] theorem releaseAccess_frame (s : State) :
    (releaseAccess s).dev = s.dev ∧ (releaseAccess s).flt = s.flt ∧ (releaseAccess s).tly = s.tly ∧ (releaseAccess s).sal = s.sal ∧
    (releaseAccess s).map = s.map ∧ (releaseAccess s).drn = s.drn ∧ (releaseAccess s).hrv = s.hrv ∧ (releaseAccess s).fld = s.fld ∧
    (releaseAccess s).bed = s.bed ∧ (releaseAccess s).pip = s.pip ∧ (releaseAccess s).heads = s.heads ∧
    (releaseAccess s).sem = s.sem ∧ (releaseAccess s).pans = s.pans ∧ (releaseAccess s).dmc = s.dmc ∧
    (releaseAccess s).trn = s.trn ∧ (releaseAccess s).thm = s.thm ∧ (releaseAccess s).cel = s.cel ∧ (releaseAccess s).upd = s.upd ∧
    (releaseAccess s).key = s.key ∧ (releaseAccess s).brl = s.brl ∧ (releaseAccess s).svc = s.svc ∧
    (releaseAccess s).pins = s.pins ∧ (releaseAccess s).lay = s.lay ∧ (releaseAccess s).replies = s.replies ∧
    (releaseAccess s).dram = s.dram ∧ (releaseAccess s).poison = s.poison ∧ (releaseAccess s).serial = s.serial ∧
    (releaseAccess s).boot = s.boot ∧ (releaseAccess s).free = s.free ∧ (releaseAccess s).pending = s.pending := by
  refine ⟨?_, ?_, ?_, ?_, ?_, ?_, ?_, ?_, ?_, ?_, ?_, ?_, ?_, ?_, ?_, ?_, ?_, ?_, ?_, ?_, ?_, ?_, ?_, ?_, ?_, ?_, ?_, ?_, ?_, ?_⟩ <;> exact releaseAccess_only _ (fun _ _ _ => rfl) s

theorem stageAck_only {β : Type} (π : State → β) (hπ : ∀ s xbrl, π { s with brl := xbrl } = π s) (s : State) :
    π (stageAck s) = π s := by
  unfold stageAck; repeat' first | contradiction | (simp only [hπ, apply_ite π, ite_self]; done) | split | refine (foldl_same π _ (fun s x => ?_) _ _).trans ?_ | refine (elim_same π _ _ _ (fun x => ?_)).trans ?_ | dsimp only

@[simp] theorem stageAck_frame (s : State) :
    (stageAck s).dev = s.dev ∧ (stageAck s).gov = s.gov ∧ (stageAck s).flt = s.flt ∧ (stageAck s).tly = s.tly ∧
    (stageAck s).sal = s.sal ∧ (stageAck s).map = s.map ∧ (stageAck s).drn = s.drn ∧ (stageAck s).hrv = s.hrv ∧
    (stageAck s).fld = s.fld ∧ (stageAck s).bed = s.bed ∧ (stageAck s).pip = s.pip ∧ (stageAck s).heads = s.heads ∧
    (stageAck s).sem = s.sem ∧ (stageAck s).pans = s.pans ∧ (stageAck s).dmc = s.dmc ∧ (stageAck s).trn = s.trn ∧
    (stageAck s).thm = s.thm ∧ (stageAck s).cel = s.cel ∧ (stageAck s).upd = s.upd ∧ (stageAck s).key = s.key ∧
    (stageAck s).svc = s.svc ∧ (stageAck s).pins = s.pins ∧ (stageAck s).lay = s.lay ∧ (stageAck s).jrn = s.jrn ∧
    (stageAck s).replies = s.replies ∧ (stageAck s).dram = s.dram ∧ (stageAck s).poison = s.poison ∧
    (stageAck s).serial = s.serial ∧ (stageAck s).boot = s.boot ∧ (stageAck s).free = s.free ∧ (stageAck s).pending = s.pending := by
  refine ⟨?_, ?_, ?_, ?_, ?_, ?_, ?_, ?_, ?_, ?_, ?_, ?_, ?_, ?_, ?_, ?_, ?_, ?_, ?_, ?_, ?_, ?_, ?_, ?_, ?_, ?_, ?_, ?_, ?_, ?_, ?_⟩ <;> exact stageAck_only _ (fun _ _ => rfl) s

theorem cascadeTick_only {β : Type} (π : State → β) (hπ : ∀ s xbrl, π { s with brl := xbrl } = π s) (s : State) :
    π (cascadeTick s) = π s := by
  unfold cascadeTick; repeat' first | contradiction | (simp only [hπ, stageAck_only π hπ, foldl_same π, apply_ite π, ite_self]; done) | split | refine (foldl_same π _ (fun s x => ?_) _ _).trans ?_ | refine (elim_same π _ _ _ (fun x => ?_)).trans ?_ | dsimp only

@[simp] theorem cascadeTick_frame (s : State) :
    (cascadeTick s).dev = s.dev ∧ (cascadeTick s).gov = s.gov ∧ (cascadeTick s).flt = s.flt ∧ (cascadeTick s).tly = s.tly ∧
    (cascadeTick s).sal = s.sal ∧ (cascadeTick s).map = s.map ∧ (cascadeTick s).drn = s.drn ∧ (cascadeTick s).hrv = s.hrv ∧
    (cascadeTick s).fld = s.fld ∧ (cascadeTick s).bed = s.bed ∧ (cascadeTick s).pip = s.pip ∧ (cascadeTick s).heads = s.heads ∧
    (cascadeTick s).sem = s.sem ∧ (cascadeTick s).pans = s.pans ∧ (cascadeTick s).dmc = s.dmc ∧ (cascadeTick s).trn = s.trn ∧
    (cascadeTick s).thm = s.thm ∧ (cascadeTick s).cel = s.cel ∧ (cascadeTick s).upd = s.upd ∧ (cascadeTick s).key = s.key ∧
    (cascadeTick s).svc = s.svc ∧ (cascadeTick s).pins = s.pins ∧ (cascadeTick s).lay = s.lay ∧ (cascadeTick s).jrn = s.jrn ∧
    (cascadeTick s).replies = s.replies ∧ (cascadeTick s).dram = s.dram ∧ (cascadeTick s).poison = s.poison ∧
    (cascadeTick s).serial = s.serial ∧ (cascadeTick s).boot = s.boot ∧ (cascadeTick s).free = s.free ∧
    (cascadeTick s).pending = s.pending := by
  refine ⟨?_, ?_, ?_, ?_, ?_, ?_, ?_, ?_, ?_, ?_, ?_, ?_, ?_, ?_, ?_, ?_, ?_, ?_, ?_, ?_, ?_, ?_, ?_, ?_, ?_, ?_, ?_, ?_, ?_, ?_, ?_⟩ <;> exact cascadeTick_only _ (fun _ _ => rfl) s

theorem holdoffTick_only {β : Type} (π : State → β) (hπ : ∀ s xgov, π { s with gov := xgov } = π s) (s : State) :
    π (holdoffTick s) = π s := by
  unfold holdoffTick; repeat' first | contradiction | (simp only [hπ, apply_ite π, ite_self]; done) | split | refine (foldl_same π _ (fun s x => ?_) _ _).trans ?_ | refine (elim_same π _ _ _ (fun x => ?_)).trans ?_ | dsimp only

@[simp] theorem holdoffTick_frame (s : State) :
    (holdoffTick s).dev = s.dev ∧ (holdoffTick s).flt = s.flt ∧ (holdoffTick s).tly = s.tly ∧ (holdoffTick s).sal = s.sal ∧
    (holdoffTick s).map = s.map ∧ (holdoffTick s).drn = s.drn ∧ (holdoffTick s).hrv = s.hrv ∧ (holdoffTick s).fld = s.fld ∧
    (holdoffTick s).bed = s.bed ∧ (holdoffTick s).pip = s.pip ∧ (holdoffTick s).heads = s.heads ∧ (holdoffTick s).sem = s.sem ∧
    (holdoffTick s).pans = s.pans ∧ (holdoffTick s).dmc = s.dmc ∧ (holdoffTick s).trn = s.trn ∧ (holdoffTick s).thm = s.thm ∧
    (holdoffTick s).cel = s.cel ∧ (holdoffTick s).upd = s.upd ∧ (holdoffTick s).key = s.key ∧ (holdoffTick s).brl = s.brl ∧
    (holdoffTick s).svc = s.svc ∧ (holdoffTick s).pins = s.pins ∧ (holdoffTick s).lay = s.lay ∧ (holdoffTick s).jrn = s.jrn ∧
    (holdoffTick s).replies = s.replies ∧ (holdoffTick s).dram = s.dram ∧ (holdoffTick s).poison = s.poison ∧
    (holdoffTick s).serial = s.serial ∧ (holdoffTick s).boot = s.boot ∧ (holdoffTick s).free = s.free ∧
    (holdoffTick s).pending = s.pending := by
  refine ⟨?_, ?_, ?_, ?_, ?_, ?_, ?_, ?_, ?_, ?_, ?_, ?_, ?_, ?_, ?_, ?_, ?_, ?_, ?_, ?_, ?_, ?_, ?_, ?_, ?_, ?_, ?_, ?_, ?_, ?_, ?_⟩ <;> exact holdoffTick_only _ (fun _ _ => rfl) s

theorem commitHourly_only {β : Type} (π : State → β) (hπ : ∀ s xcel xupd, π { s with cel := xcel, upd := xupd } = π s) (s : State) :
    π (commitHourly s) = π s := by
  unfold commitHourly; repeat' first | contradiction | (simp only [hπ, appendCopy_only π hπ, apply_ite π, ite_self]; done) | split | refine (foldl_same π _ (fun s x => ?_) _ _).trans ?_ | refine (elim_same π _ _ _ (fun x => ?_)).trans ?_ | dsimp only

@[simp] theorem commitHourly_frame (s : State) :
    (commitHourly s).dev = s.dev ∧ (commitHourly s).gov = s.gov ∧ (commitHourly s).flt = s.flt ∧ (commitHourly s).tly = s.tly ∧
    (commitHourly s).sal = s.sal ∧ (commitHourly s).map = s.map ∧ (commitHourly s).drn = s.drn ∧ (commitHourly s).hrv = s.hrv ∧
    (commitHourly s).fld = s.fld ∧ (commitHourly s).bed = s.bed ∧ (commitHourly s).pip = s.pip ∧ (commitHourly s).heads = s.heads ∧
    (commitHourly s).sem = s.sem ∧ (commitHourly s).pans = s.pans ∧ (commitHourly s).dmc = s.dmc ∧ (commitHourly s).trn = s.trn ∧
    (commitHourly s).thm = s.thm ∧ (commitHourly s).key = s.key ∧ (commitHourly s).brl = s.brl ∧ (commitHourly s).svc = s.svc ∧
    (commitHourly s).pins = s.pins ∧ (commitHourly s).lay = s.lay ∧ (commitHourly s).jrn = s.jrn ∧
    (commitHourly s).replies = s.replies ∧ (commitHourly s).dram = s.dram ∧ (commitHourly s).poison = s.poison ∧
    (commitHourly s).serial = s.serial ∧ (commitHourly s).boot = s.boot ∧ (commitHourly s).free = s.free ∧
    (commitHourly s).pending = s.pending := by
  refine ⟨?_, ?_, ?_, ?_, ?_, ?_, ?_, ?_, ?_, ?_, ?_, ?_, ?_, ?_, ?_, ?_, ?_, ?_, ?_, ?_, ?_, ?_, ?_, ?_, ?_, ?_, ?_, ?_, ?_, ?_⟩ <;> exact commitHourly_only _ (fun _ _ _ => rfl) s

theorem writeSlot_only {β : Type} (π : State → β) (hπ : ∀ s xdmc, π { s with dmc := xdmc } = π s) (channel : Nat) (ns : Nat) (s : State) :
    π (writeSlot channel ns s) = π s := by
  unfold writeSlot; repeat' first | contradiction | (simp only [hπ, dchanUpd_only π hπ, countL3_only π hπ, issueColumn_only π hπ, apply_ite π, ite_self]; done) | split | refine (foldl_same π _ (fun s x => ?_) _ _).trans ?_ | refine (elim_same π _ _ _ (fun x => ?_)).trans ?_ | dsimp only

@[simp] theorem writeSlot_frame (channel : Nat) (ns : Nat) (s : State) :
    (writeSlot channel ns s).dev = s.dev ∧ (writeSlot channel ns s).gov = s.gov ∧ (writeSlot channel ns s).flt = s.flt ∧
    (writeSlot channel ns s).tly = s.tly ∧ (writeSlot channel ns s).sal = s.sal ∧ (writeSlot channel ns s).map = s.map ∧
    (writeSlot channel ns s).drn = s.drn ∧ (writeSlot channel ns s).hrv = s.hrv ∧ (writeSlot channel ns s).fld = s.fld ∧
    (writeSlot channel ns s).bed = s.bed ∧ (writeSlot channel ns s).pip = s.pip ∧ (writeSlot channel ns s).heads = s.heads ∧
    (writeSlot channel ns s).sem = s.sem ∧ (writeSlot channel ns s).pans = s.pans ∧ (writeSlot channel ns s).trn = s.trn ∧
    (writeSlot channel ns s).thm = s.thm ∧ (writeSlot channel ns s).cel = s.cel ∧ (writeSlot channel ns s).upd = s.upd ∧
    (writeSlot channel ns s).key = s.key ∧ (writeSlot channel ns s).brl = s.brl ∧ (writeSlot channel ns s).svc = s.svc ∧
    (writeSlot channel ns s).pins = s.pins ∧ (writeSlot channel ns s).lay = s.lay ∧ (writeSlot channel ns s).jrn = s.jrn ∧
    (writeSlot channel ns s).replies = s.replies ∧ (writeSlot channel ns s).dram = s.dram ∧
    (writeSlot channel ns s).poison = s.poison ∧ (writeSlot channel ns s).serial = s.serial ∧
    (writeSlot channel ns s).boot = s.boot ∧ (writeSlot channel ns s).free = s.free ∧ (writeSlot channel ns s).pending = s.pending := by
  refine ⟨?_, ?_, ?_, ?_, ?_, ?_, ?_, ?_, ?_, ?_, ?_, ?_, ?_, ?_, ?_, ?_, ?_, ?_, ?_, ?_, ?_, ?_, ?_, ?_, ?_, ?_, ?_, ?_, ?_, ?_, ?_⟩ <;> exact writeSlot_only _ (fun _ _ => rfl) channel ns s

theorem readSlots_only {β : Type} (π : State → β) (hπ : ∀ s xdmc, π { s with dmc := xdmc } = π s) (channel : Nat) (ns : Nat) (x0 : Nat) (x1 : List ColReq) (s : State) :
    π (readSlots channel ns x0 x1 s).1 = π s := by
  induction x0 generalizing x1 s with
  | zero => first | rfl | (unfold readSlots; repeat' first | rfl | (simp only [hπ, issueColumn_only π hπ, apply_ite π, ite_self]; done) | split | dsimp only)
  | succ n ih => unfold readSlots; repeat' first | contradiction | (simp only [hπ, issueColumn_only π hπ, apply_ite π, ite_self, ih]; done) | (rw [ih]; simp only [hπ, issueColumn_only π hπ, apply_ite π, ite_self]; done) | (rw [ih]; done) | refine (ih _).trans ?_ | refine (ih _ _).trans ?_ | split | refine (foldl_same π _ (fun s x => ?_) _ _).trans ?_ | dsimp only

@[simp] theorem readSlots_frame (channel : Nat) (ns : Nat) (x0 : Nat) (x1 : List ColReq) (s : State) :
    (readSlots channel ns x0 x1 s).1.dev = s.dev ∧ (readSlots channel ns x0 x1 s).1.gov = s.gov ∧
    (readSlots channel ns x0 x1 s).1.flt = s.flt ∧ (readSlots channel ns x0 x1 s).1.tly = s.tly ∧
    (readSlots channel ns x0 x1 s).1.sal = s.sal ∧ (readSlots channel ns x0 x1 s).1.map = s.map ∧
    (readSlots channel ns x0 x1 s).1.drn = s.drn ∧ (readSlots channel ns x0 x1 s).1.hrv = s.hrv ∧
    (readSlots channel ns x0 x1 s).1.fld = s.fld ∧ (readSlots channel ns x0 x1 s).1.bed = s.bed ∧
    (readSlots channel ns x0 x1 s).1.pip = s.pip ∧ (readSlots channel ns x0 x1 s).1.heads = s.heads ∧
    (readSlots channel ns x0 x1 s).1.sem = s.sem ∧ (readSlots channel ns x0 x1 s).1.pans = s.pans ∧
    (readSlots channel ns x0 x1 s).1.trn = s.trn ∧ (readSlots channel ns x0 x1 s).1.thm = s.thm ∧
    (readSlots channel ns x0 x1 s).1.cel = s.cel ∧ (readSlots channel ns x0 x1 s).1.upd = s.upd ∧
    (readSlots channel ns x0 x1 s).1.key = s.key ∧ (readSlots channel ns x0 x1 s).1.brl = s.brl ∧
    (readSlots channel ns x0 x1 s).1.svc = s.svc ∧ (readSlots channel ns x0 x1 s).1.pins = s.pins ∧
    (readSlots channel ns x0 x1 s).1.lay = s.lay ∧ (readSlots channel ns x0 x1 s).1.jrn = s.jrn ∧
    (readSlots channel ns x0 x1 s).1.replies = s.replies ∧ (readSlots channel ns x0 x1 s).1.dram = s.dram ∧
    (readSlots channel ns x0 x1 s).1.poison = s.poison ∧ (readSlots channel ns x0 x1 s).1.serial = s.serial ∧
    (readSlots channel ns x0 x1 s).1.boot = s.boot ∧ (readSlots channel ns x0 x1 s).1.free = s.free ∧
    (readSlots channel ns x0 x1 s).1.pending = s.pending := by
  refine ⟨?_, ?_, ?_, ?_, ?_, ?_, ?_, ?_, ?_, ?_, ?_, ?_, ?_, ?_, ?_, ?_, ?_, ?_, ?_, ?_, ?_, ?_, ?_, ?_, ?_, ?_, ?_, ?_, ?_, ?_, ?_⟩ <;> exact readSlots_only _ (fun _ _ => rfl) channel ns x0 x1 s

theorem batchSlots_only {β : Type} (π : State → β) (hπ : ∀ s xdmc, π { s with dmc := xdmc } = π s) (channel : Nat) (ns : Nat) (n : Nat) (s : State) :
    π (batchSlots channel ns n s) = π s := by
  unfold batchSlots
  have k : ∀ (l : List Nat) (t : State × List ColReq), π (l.foldl (fun (t : State × List ColReq) k =>
      let t := if k % 16 = 0 && k ≠ 0 then readSlots channel ns t.2.length t.2 t.1 else t
      (writeSlot channel ns t.1, t.2)) t).1 = π t.1 := by
    intro l
    induction l with
    | nil => intro t; rfl
    | cons a l ih =>
      intro t
      rw [List.foldl_cons]
      refine (ih _).trans ((writeSlot_only π hπ _ _ _).trans ?_)
      split
      · exact readSlots_only π hπ _ _ _ _ _
      · rfl
  exact k _ _

@[simp] theorem batchSlots_frame (channel : Nat) (ns : Nat) (n : Nat) (s : State) :
    (batchSlots channel ns n s).dev = s.dev ∧ (batchSlots channel ns n s).gov = s.gov ∧ (batchSlots channel ns n s).flt = s.flt ∧
    (batchSlots channel ns n s).tly = s.tly ∧ (batchSlots channel ns n s).sal = s.sal ∧ (batchSlots channel ns n s).map = s.map ∧
    (batchSlots channel ns n s).drn = s.drn ∧ (batchSlots channel ns n s).hrv = s.hrv ∧ (batchSlots channel ns n s).fld = s.fld ∧
    (batchSlots channel ns n s).bed = s.bed ∧ (batchSlots channel ns n s).pip = s.pip ∧
    (batchSlots channel ns n s).heads = s.heads ∧ (batchSlots channel ns n s).sem = s.sem ∧
    (batchSlots channel ns n s).pans = s.pans ∧ (batchSlots channel ns n s).trn = s.trn ∧ (batchSlots channel ns n s).thm = s.thm ∧
    (batchSlots channel ns n s).cel = s.cel ∧ (batchSlots channel ns n s).upd = s.upd ∧ (batchSlots channel ns n s).key = s.key ∧
    (batchSlots channel ns n s).brl = s.brl ∧ (batchSlots channel ns n s).svc = s.svc ∧ (batchSlots channel ns n s).pins = s.pins ∧
    (batchSlots channel ns n s).lay = s.lay ∧ (batchSlots channel ns n s).jrn = s.jrn ∧
    (batchSlots channel ns n s).replies = s.replies ∧ (batchSlots channel ns n s).dram = s.dram ∧
    (batchSlots channel ns n s).poison = s.poison ∧ (batchSlots channel ns n s).serial = s.serial ∧
    (batchSlots channel ns n s).boot = s.boot ∧ (batchSlots channel ns n s).free = s.free ∧
    (batchSlots channel ns n s).pending = s.pending := by
  refine ⟨?_, ?_, ?_, ?_, ?_, ?_, ?_, ?_, ?_, ?_, ?_, ?_, ?_, ?_, ?_, ?_, ?_, ?_, ?_, ?_, ?_, ?_, ?_, ?_, ?_, ?_, ?_, ?_, ?_, ?_, ?_⟩ <;> exact batchSlots_only _ (fun _ _ => rfl) channel ns n s

theorem scrubTo_only {β : Type} (π : State → β) (hπ : ∀ s xdmc, π { s with dmc := xdmc } = π s) (n : Nat) (s : State) :
    π (scrubTo n s) = π s := by
  unfold scrubTo; repeat' first | contradiction | (simp only [hπ, apply_ite π, ite_self]; done) | split | refine (foldl_same π _ (fun s x => ?_) _ _).trans ?_ | refine (elim_same π _ _ _ (fun x => ?_)).trans ?_ | dsimp only

@[simp] theorem scrubTo_frame (n : Nat) (s : State) :
    (scrubTo n s).dev = s.dev ∧ (scrubTo n s).gov = s.gov ∧ (scrubTo n s).flt = s.flt ∧ (scrubTo n s).tly = s.tly ∧
    (scrubTo n s).sal = s.sal ∧ (scrubTo n s).map = s.map ∧ (scrubTo n s).drn = s.drn ∧ (scrubTo n s).hrv = s.hrv ∧
    (scrubTo n s).fld = s.fld ∧ (scrubTo n s).bed = s.bed ∧ (scrubTo n s).pip = s.pip ∧ (scrubTo n s).heads = s.heads ∧
    (scrubTo n s).sem = s.sem ∧ (scrubTo n s).pans = s.pans ∧ (scrubTo n s).trn = s.trn ∧ (scrubTo n s).thm = s.thm ∧
    (scrubTo n s).cel = s.cel ∧ (scrubTo n s).upd = s.upd ∧ (scrubTo n s).key = s.key ∧ (scrubTo n s).brl = s.brl ∧
    (scrubTo n s).svc = s.svc ∧ (scrubTo n s).pins = s.pins ∧ (scrubTo n s).lay = s.lay ∧ (scrubTo n s).jrn = s.jrn ∧
    (scrubTo n s).replies = s.replies ∧ (scrubTo n s).dram = s.dram ∧ (scrubTo n s).poison = s.poison ∧
    (scrubTo n s).serial = s.serial ∧ (scrubTo n s).boot = s.boot ∧ (scrubTo n s).free = s.free ∧ (scrubTo n s).pending = s.pending := by
  refine ⟨?_, ?_, ?_, ?_, ?_, ?_, ?_, ?_, ?_, ?_, ?_, ?_, ?_, ?_, ?_, ?_, ?_, ?_, ?_, ?_, ?_, ?_, ?_, ?_, ?_, ?_, ?_, ?_, ?_, ?_, ?_⟩ <;> exact scrubTo_only _ (fun _ _ => rfl) n s

theorem setRestored_only {β : Type} (π : State → β) (hπ : ∀ s xmap xfld, π { s with map := xmap, fld := xfld } = π s) (g : Nat) (s : State) :
    π (setRestored g s) = π s := by
  unfold setRestored; repeat' first | contradiction | (simp only [hπ, rstUpd_only π (fun s xmap => hπ s xmap s.fld), apply_ite π, ite_self]; done) | split | refine (foldl_same π _ (fun s x => ?_) _ _).trans ?_ | refine (elim_same π _ _ _ (fun x => ?_)).trans ?_ | dsimp only

@[simp] theorem setRestored_frame (g : Nat) (s : State) :
    (setRestored g s).dev = s.dev ∧ (setRestored g s).gov = s.gov ∧ (setRestored g s).flt = s.flt ∧ (setRestored g s).tly = s.tly ∧
    (setRestored g s).sal = s.sal ∧ (setRestored g s).drn = s.drn ∧ (setRestored g s).hrv = s.hrv ∧ (setRestored g s).bed = s.bed ∧
    (setRestored g s).pip = s.pip ∧ (setRestored g s).heads = s.heads ∧ (setRestored g s).sem = s.sem ∧
    (setRestored g s).pans = s.pans ∧ (setRestored g s).dmc = s.dmc ∧ (setRestored g s).trn = s.trn ∧
    (setRestored g s).thm = s.thm ∧ (setRestored g s).cel = s.cel ∧ (setRestored g s).upd = s.upd ∧ (setRestored g s).key = s.key ∧
    (setRestored g s).brl = s.brl ∧ (setRestored g s).svc = s.svc ∧ (setRestored g s).pins = s.pins ∧
    (setRestored g s).lay = s.lay ∧ (setRestored g s).jrn = s.jrn ∧ (setRestored g s).replies = s.replies ∧
    (setRestored g s).dram = s.dram ∧ (setRestored g s).poison = s.poison ∧ (setRestored g s).serial = s.serial ∧
    (setRestored g s).boot = s.boot ∧ (setRestored g s).free = s.free ∧ (setRestored g s).pending = s.pending := by
  refine ⟨?_, ?_, ?_, ?_, ?_, ?_, ?_, ?_, ?_, ?_, ?_, ?_, ?_, ?_, ?_, ?_, ?_, ?_, ?_, ?_, ?_, ?_, ?_, ?_, ?_, ?_, ?_, ?_, ?_, ?_⟩ <;> exact setRestored_only _ (fun _ _ _ => rfl) g s

theorem loseGranule_only {β : Type} (π : State → β) (hπ : ∀ s xmap xdrn xfld xheads xdmc xpoison, π { s with map := xmap, drn := xdrn, fld := xfld, heads := xheads, dmc := xdmc, poison := xpoison } = π s) (g : Nat) (s : State) :
    π (loseGranule g s) = π s := by
  simp only [loseGranule, hπ, rstUpd_only π (fun s xmap => hπ s xmap s.drn s.fld s.heads s.dmc s.poison), hmPut_only π (fun s xmap xdrn => hπ s xmap xdrn s.fld s.heads s.dmc s.poison), setLost_only π (fun s xdrn xfld xheads xdmc xpoison => hπ s s.map xdrn xfld xheads xdmc xpoison), setRestored_only π (fun s xmap xfld => hπ s xmap s.drn xfld s.heads s.dmc s.poison), apply_ite π, ite_self]

@[simp] theorem loseGranule_frame (g : Nat) (s : State) :
    (loseGranule g s).dev = s.dev ∧ (loseGranule g s).gov = s.gov ∧ (loseGranule g s).flt = s.flt ∧ (loseGranule g s).tly = s.tly ∧
    (loseGranule g s).sal = s.sal ∧ (loseGranule g s).hrv = s.hrv ∧ (loseGranule g s).bed = s.bed ∧ (loseGranule g s).pip = s.pip ∧
    (loseGranule g s).sem = s.sem ∧ (loseGranule g s).pans = s.pans ∧ (loseGranule g s).trn = s.trn ∧
    (loseGranule g s).thm = s.thm ∧ (loseGranule g s).cel = s.cel ∧ (loseGranule g s).upd = s.upd ∧ (loseGranule g s).key = s.key ∧
    (loseGranule g s).brl = s.brl ∧ (loseGranule g s).svc = s.svc ∧ (loseGranule g s).pins = s.pins ∧
    (loseGranule g s).lay = s.lay ∧ (loseGranule g s).jrn = s.jrn ∧ (loseGranule g s).replies = s.replies ∧
    (loseGranule g s).dram = s.dram ∧ (loseGranule g s).serial = s.serial ∧ (loseGranule g s).boot = s.boot ∧
    (loseGranule g s).free = s.free ∧ (loseGranule g s).pending = s.pending := by
  refine ⟨?_, ?_, ?_, ?_, ?_, ?_, ?_, ?_, ?_, ?_, ?_, ?_, ?_, ?_, ?_, ?_, ?_, ?_, ?_, ?_, ?_, ?_, ?_, ?_, ?_, ?_⟩ <;> exact loseGranule_only _ (fun _ _ _ _ _ _ _ => rfl) g s

theorem queueWriteBacks_only {β : Type} (π : State → β) (hπ : ∀ s xdmc, π { s with dmc := xdmc } = π s) (s : State) :
    π (queueWriteBacks s) = π s := by
  unfold queueWriteBacks; repeat' first | contradiction | with_reducible rfl | with_reducible refine (queueLine_only π (fun s xdmc => hπ s xdmc) _ _ _).trans ?_ | with_reducible refine (foldl_same π _ (fun s x => ?_) _ _).trans ?_ | with_reducible refine (elim_same π _ _ _ (fun x => ?_)).trans ?_ | split | with_reducible refine (hπ _ _).trans ?_ | dsimp only

@[simp] theorem queueWriteBacks_frame (s : State) :
    (queueWriteBacks s).dev = s.dev ∧ (queueWriteBacks s).gov = s.gov ∧ (queueWriteBacks s).flt = s.flt ∧
    (queueWriteBacks s).tly = s.tly ∧ (queueWriteBacks s).sal = s.sal ∧ (queueWriteBacks s).map = s.map ∧
    (queueWriteBacks s).drn = s.drn ∧ (queueWriteBacks s).hrv = s.hrv ∧ (queueWriteBacks s).fld = s.fld ∧
    (queueWriteBacks s).bed = s.bed ∧ (queueWriteBacks s).pip = s.pip ∧ (queueWriteBacks s).heads = s.heads ∧
    (queueWriteBacks s).sem = s.sem ∧ (queueWriteBacks s).pans = s.pans ∧ (queueWriteBacks s).trn = s.trn ∧
    (queueWriteBacks s).thm = s.thm ∧ (queueWriteBacks s).cel = s.cel ∧ (queueWriteBacks s).upd = s.upd ∧
    (queueWriteBacks s).key = s.key ∧ (queueWriteBacks s).brl = s.brl ∧ (queueWriteBacks s).svc = s.svc ∧
    (queueWriteBacks s).pins = s.pins ∧ (queueWriteBacks s).lay = s.lay ∧ (queueWriteBacks s).jrn = s.jrn ∧
    (queueWriteBacks s).replies = s.replies ∧ (queueWriteBacks s).dram = s.dram ∧ (queueWriteBacks s).poison = s.poison ∧
    (queueWriteBacks s).serial = s.serial ∧ (queueWriteBacks s).boot = s.boot ∧ (queueWriteBacks s).free = s.free ∧
    (queueWriteBacks s).pending = s.pending := by
  refine ⟨?_, ?_, ?_, ?_, ?_, ?_, ?_, ?_, ?_, ?_, ?_, ?_, ?_, ?_, ?_, ?_, ?_, ?_, ?_, ?_, ?_, ?_, ?_, ?_, ?_, ?_, ?_, ?_, ?_, ?_, ?_⟩ <;> exact queueWriteBacks_only _ (fun _ _ => rfl) s

theorem endIfDue_only {β : Type} (π : State → β) (hπ : ∀ s xmap xdrn xhrv xbed, π { s with map := xmap, drn := xdrn, hrv := xhrv, bed := xbed } = π s) (s : State) :
    π (endIfDue s) = π s := by
  unfold endIfDue; repeat' first | contradiction | (simp only [hπ, endData_only π hπ, apply_ite π, ite_self]; done) | with_reducible refine (endData_only π (fun s xmap xdrn xhrv xbed => hπ s xmap xdrn xhrv xbed) _ _).trans ?_ | with_reducible refine (hπ _ _ _ _ _).trans ?_ | refine (foldl_same π _ (fun s x => ?_) _ _).trans ?_ | refine (elim_same π _ _ _ (fun x => ?_)).trans ?_ | split | dsimp only

@[simp] theorem endIfDue_frame (s : State) :
    (endIfDue s).dev = s.dev ∧ (endIfDue s).gov = s.gov ∧ (endIfDue s).flt = s.flt ∧ (endIfDue s).tly = s.tly ∧
    (endIfDue s).sal = s.sal ∧ (endIfDue s).fld = s.fld ∧ (endIfDue s).pip = s.pip ∧ (endIfDue s).heads = s.heads ∧
    (endIfDue s).sem = s.sem ∧ (endIfDue s).pans = s.pans ∧ (endIfDue s).dmc = s.dmc ∧ (endIfDue s).trn = s.trn ∧
    (endIfDue s).thm = s.thm ∧ (endIfDue s).cel = s.cel ∧ (endIfDue s).upd = s.upd ∧ (endIfDue s).key = s.key ∧
    (endIfDue s).brl = s.brl ∧ (endIfDue s).svc = s.svc ∧ (endIfDue s).pins = s.pins ∧ (endIfDue s).lay = s.lay ∧
    (endIfDue s).jrn = s.jrn ∧ (endIfDue s).replies = s.replies ∧ (endIfDue s).dram = s.dram ∧ (endIfDue s).poison = s.poison ∧
    (endIfDue s).serial = s.serial ∧ (endIfDue s).boot = s.boot ∧ (endIfDue s).free = s.free ∧ (endIfDue s).pending = s.pending := by
  refine ⟨?_, ?_, ?_, ?_, ?_, ?_, ?_, ?_, ?_, ?_, ?_, ?_, ?_, ?_, ?_, ?_, ?_, ?_, ?_, ?_, ?_, ?_, ?_, ?_, ?_, ?_, ?_, ?_⟩ <;> exact endIfDue_only _ (fun _ _ _ _ _ => rfl) s

theorem tchanUpd_only {β : Type} (π : State → β) (hπ : ∀ s xtrn, π { s with trn := xtrn } = π s) (c : Nat) (f : TrnChan → TrnChan) (s : State) :
    π (tchanUpd c f s) = π s := by
  simp only [tchanUpd, hπ, apply_ite π, ite_self]

@[simp] theorem tchanUpd_frame (c : Nat) (f : TrnChan → TrnChan) (s : State) :
    (tchanUpd c f s).dev = s.dev ∧ (tchanUpd c f s).gov = s.gov ∧ (tchanUpd c f s).flt = s.flt ∧ (tchanUpd c f s).tly = s.tly ∧
    (tchanUpd c f s).sal = s.sal ∧ (tchanUpd c f s).map = s.map ∧ (tchanUpd c f s).drn = s.drn ∧ (tchanUpd c f s).hrv = s.hrv ∧
    (tchanUpd c f s).fld = s.fld ∧ (tchanUpd c f s).bed = s.bed ∧ (tchanUpd c f s).pip = s.pip ∧ (tchanUpd c f s).heads = s.heads ∧
    (tchanUpd c f s).sem = s.sem ∧ (tchanUpd c f s).pans = s.pans ∧ (tchanUpd c f s).dmc = s.dmc ∧ (tchanUpd c f s).thm = s.thm ∧
    (tchanUpd c f s).cel = s.cel ∧ (tchanUpd c f s).upd = s.upd ∧ (tchanUpd c f s).key = s.key ∧ (tchanUpd c f s).brl = s.brl ∧
    (tchanUpd c f s).svc = s.svc ∧ (tchanUpd c f s).pins = s.pins ∧ (tchanUpd c f s).lay = s.lay ∧ (tchanUpd c f s).jrn = s.jrn ∧
    (tchanUpd c f s).replies = s.replies ∧ (tchanUpd c f s).dram = s.dram ∧ (tchanUpd c f s).poison = s.poison ∧
    (tchanUpd c f s).serial = s.serial ∧ (tchanUpd c f s).boot = s.boot ∧ (tchanUpd c f s).free = s.free ∧
    (tchanUpd c f s).pending = s.pending := by
  refine ⟨?_, ?_, ?_, ?_, ?_, ?_, ?_, ?_, ?_, ?_, ?_, ?_, ?_, ?_, ?_, ?_, ?_, ?_, ?_, ?_, ?_, ?_, ?_, ?_, ?_, ?_, ?_, ?_, ?_, ?_, ?_⟩ <;> exact tchanUpd_only _ (fun _ _ => rfl) c f s

theorem beginChannel_only {β : Type} (π : State → β) (hπ : ∀ s xtrn, π { s with trn := xtrn } = π s) (env : DramEnv) (full : Bool) (s : State) (c : Nat) :
    π (beginChannel env full s c) = π s := by
  unfold beginChannel; repeat' first | contradiction | (simp only [hπ, foldl_same π, apply_ite π, ite_self]; done) | split | refine (foldl_same π _ (fun s x => ?_) _ _).trans ?_ | refine (elim_same π _ _ _ (fun x => ?_)).trans ?_ | dsimp only

@[simp] theorem beginChannel_frame (env : DramEnv) (full : Bool) (s : State) (c : Nat) :
    (beginChannel env full s c).dev = s.dev ∧ (beginChannel env full s c).gov = s.gov ∧ (beginChannel env full s c).flt = s.flt ∧
    (beginChannel env full s c).tly = s.tly ∧ (beginChannel env full s c).sal = s.sal ∧ (beginChannel env full s c).map = s.map ∧
    (beginChannel env full s c).drn = s.drn ∧ (beginChannel env full s c).hrv = s.hrv ∧ (beginChannel env full s c).fld = s.fld ∧
    (beginChannel env full s c).bed = s.bed ∧ (beginChannel env full s c).pip = s.pip ∧
    (beginChannel env full s c).heads = s.heads ∧ (beginChannel env full s c).sem = s.sem ∧
    (beginChannel env full s c).pans = s.pans ∧ (beginChannel env full s c).dmc = s.dmc ∧ (beginChannel env full s c).thm = s.thm ∧
    (beginChannel env full s c).cel = s.cel ∧ (beginChannel env full s c).upd = s.upd ∧ (beginChannel env full s c).key = s.key ∧
    (beginChannel env full s c).brl = s.brl ∧ (beginChannel env full s c).svc = s.svc ∧ (beginChannel env full s c).pins = s.pins ∧
    (beginChannel env full s c).lay = s.lay ∧ (beginChannel env full s c).jrn = s.jrn ∧
    (beginChannel env full s c).replies = s.replies ∧ (beginChannel env full s c).dram = s.dram ∧
    (beginChannel env full s c).poison = s.poison ∧ (beginChannel env full s c).serial = s.serial ∧
    (beginChannel env full s c).boot = s.boot ∧ (beginChannel env full s c).free = s.free ∧
    (beginChannel env full s c).pending = s.pending := by
  refine ⟨?_, ?_, ?_, ?_, ?_, ?_, ?_, ?_, ?_, ?_, ?_, ?_, ?_, ?_, ?_, ?_, ?_, ?_, ?_, ?_, ?_, ?_, ?_, ?_, ?_, ?_, ?_, ?_, ?_, ?_, ?_⟩ <;> exact beginChannel_only _ (fun _ _ => rfl) env full s c

theorem beginSession_only {β : Type} (π : State → β) (hπ : ∀ s xdmc xtrn, π { s with dmc := xdmc, trn := xtrn } = π s) (env : DramEnv) (s : State) :
    π (beginSession env s) = π s := by
  unfold beginSession; repeat' first | contradiction | (simp only [hπ, beginChannel_only π (fun s xtrn => hπ s s.dmc xtrn), foldl_same π, apply_ite π, ite_self]; done) | split | refine (foldl_same π _ (fun s x => ?_) _ _).trans ?_ | refine (elim_same π _ _ _ (fun x => ?_)).trans ?_ | dsimp only

@[simp] theorem beginSession_frame (env : DramEnv) (s : State) :
    (beginSession env s).dev = s.dev ∧ (beginSession env s).gov = s.gov ∧ (beginSession env s).flt = s.flt ∧
    (beginSession env s).tly = s.tly ∧ (beginSession env s).sal = s.sal ∧ (beginSession env s).map = s.map ∧
    (beginSession env s).drn = s.drn ∧ (beginSession env s).hrv = s.hrv ∧ (beginSession env s).fld = s.fld ∧
    (beginSession env s).bed = s.bed ∧ (beginSession env s).pip = s.pip ∧ (beginSession env s).heads = s.heads ∧
    (beginSession env s).sem = s.sem ∧ (beginSession env s).pans = s.pans ∧ (beginSession env s).thm = s.thm ∧
    (beginSession env s).cel = s.cel ∧ (beginSession env s).upd = s.upd ∧ (beginSession env s).key = s.key ∧
    (beginSession env s).brl = s.brl ∧ (beginSession env s).svc = s.svc ∧ (beginSession env s).pins = s.pins ∧
    (beginSession env s).lay = s.lay ∧ (beginSession env s).jrn = s.jrn ∧ (beginSession env s).replies = s.replies ∧
    (beginSession env s).dram = s.dram ∧ (beginSession env s).poison = s.poison ∧ (beginSession env s).serial = s.serial ∧
    (beginSession env s).boot = s.boot ∧ (beginSession env s).free = s.free ∧ (beginSession env s).pending = s.pending := by
  refine ⟨?_, ?_, ?_, ?_, ?_, ?_, ?_, ?_, ?_, ?_, ?_, ?_, ?_, ?_, ?_, ?_, ?_, ?_, ?_, ?_, ?_, ?_, ?_, ?_, ?_, ?_, ?_, ?_, ?_, ?_⟩ <;> exact beginSession_only _ (fun _ _ _ => rfl) env s

theorem trainNext_only {β : Type} (π : State → β) (hπ : ∀ s xtrn, π { s with trn := xtrn } = π s) (k : Nat) (s : State) (c : Nat) :
    π (trainNext k s c) = π s := by
  unfold trainNext; repeat' first | contradiction | (simp only [hπ, tchanUpd_only π hπ, apply_ite π, ite_self]; done) | split | refine (foldl_same π _ (fun s x => ?_) _ _).trans ?_ | refine (elim_same π _ _ _ (fun x => ?_)).trans ?_ | dsimp only

@[simp] theorem trainNext_frame (k : Nat) (s : State) (c : Nat) :
    (trainNext k s c).dev = s.dev ∧ (trainNext k s c).gov = s.gov ∧ (trainNext k s c).flt = s.flt ∧ (trainNext k s c).tly = s.tly ∧
    (trainNext k s c).sal = s.sal ∧ (trainNext k s c).map = s.map ∧ (trainNext k s c).drn = s.drn ∧ (trainNext k s c).hrv = s.hrv ∧
    (trainNext k s c).fld = s.fld ∧ (trainNext k s c).bed = s.bed ∧ (trainNext k s c).pip = s.pip ∧
    (trainNext k s c).heads = s.heads ∧ (trainNext k s c).sem = s.sem ∧ (trainNext k s c).pans = s.pans ∧
    (trainNext k s c).dmc = s.dmc ∧ (trainNext k s c).thm = s.thm ∧ (trainNext k s c).cel = s.cel ∧ (trainNext k s c).upd = s.upd ∧
    (trainNext k s c).key = s.key ∧ (trainNext k s c).brl = s.brl ∧ (trainNext k s c).svc = s.svc ∧
    (trainNext k s c).pins = s.pins ∧ (trainNext k s c).lay = s.lay ∧ (trainNext k s c).jrn = s.jrn ∧
    (trainNext k s c).replies = s.replies ∧ (trainNext k s c).dram = s.dram ∧ (trainNext k s c).poison = s.poison ∧
    (trainNext k s c).serial = s.serial ∧ (trainNext k s c).boot = s.boot ∧ (trainNext k s c).free = s.free ∧
    (trainNext k s c).pending = s.pending := by
  refine ⟨?_, ?_, ?_, ?_, ?_, ?_, ?_, ?_, ?_, ?_, ?_, ?_, ?_, ?_, ?_, ?_, ?_, ?_, ?_, ?_, ?_, ?_, ?_, ?_, ?_, ?_, ?_, ?_, ?_, ?_, ?_⟩ <;> exact trainNext_only _ (fun _ _ => rfl) k s c

theorem pruneFaster_only {β : Type} (π : State → β) (hπ : ∀ s xtrn, π { s with trn := xtrn } = π s) (k : Nat) (s : State) (c : Nat) :
    π (pruneFaster k s c) = π s := by
  simp only [pruneFaster, hπ, tchanUpd_only π hπ, apply_ite π, ite_self]

@[simp] theorem pruneFaster_frame (k : Nat) (s : State) (c : Nat) :
    (pruneFaster k s c).dev = s.dev ∧ (pruneFaster k s c).gov = s.gov ∧ (pruneFaster k s c).flt = s.flt ∧
    (pruneFaster k s c).tly = s.tly ∧ (pruneFaster k s c).sal = s.sal ∧ (pruneFaster k s c).map = s.map ∧
    (pruneFaster k s c).drn = s.drn ∧ (pruneFaster k s c).hrv = s.hrv ∧ (pruneFaster k s c).fld = s.fld ∧
    (pruneFaster k s c).bed = s.bed ∧ (pruneFaster k s c).pip = s.pip ∧ (pruneFaster k s c).heads = s.heads ∧
    (pruneFaster k s c).sem = s.sem ∧ (pruneFaster k s c).pans = s.pans ∧ (pruneFaster k s c).dmc = s.dmc ∧
    (pruneFaster k s c).thm = s.thm ∧ (pruneFaster k s c).cel = s.cel ∧ (pruneFaster k s c).upd = s.upd ∧
    (pruneFaster k s c).key = s.key ∧ (pruneFaster k s c).brl = s.brl ∧ (pruneFaster k s c).svc = s.svc ∧
    (pruneFaster k s c).pins = s.pins ∧ (pruneFaster k s c).lay = s.lay ∧ (pruneFaster k s c).jrn = s.jrn ∧
    (pruneFaster k s c).replies = s.replies ∧ (pruneFaster k s c).dram = s.dram ∧ (pruneFaster k s c).poison = s.poison ∧
    (pruneFaster k s c).serial = s.serial ∧ (pruneFaster k s c).boot = s.boot ∧ (pruneFaster k s c).free = s.free ∧
    (pruneFaster k s c).pending = s.pending := by
  refine ⟨?_, ?_, ?_, ?_, ?_, ?_, ?_, ?_, ?_, ?_, ?_, ?_, ?_, ?_, ?_, ?_, ?_, ?_, ?_, ?_, ?_, ?_, ?_, ?_, ?_, ?_, ?_, ?_, ?_, ?_, ?_⟩ <;> exact pruneFaster_only _ (fun _ _ => rfl) k s c

theorem actPending_only {β : Type} (π : State → β) (hπ : ∀ s xdmc xtrn xpending, π { s with dmc := xdmc, trn := xtrn, pending := xpending } = π s) (s : State) :
    π (actPending s) = π s := by
  unfold actPending; repeat' first | contradiction | with_reducible rfl | with_reducible refine (changeSet_only π (fun s xdmc xtrn => hπ s xdmc xtrn s.pending) _ _).trans ?_ | with_reducible refine (trainNext_only π (fun s xtrn => hπ s s.dmc xtrn s.pending) _ _ _).trans ?_ | with_reducible refine (pruneFaster_only π (fun s xtrn => hπ s s.dmc xtrn s.pending) _ _ _).trans ?_ | with_reducible refine (foldl_same π _ (fun s x => ?_) _ _).trans ?_ | with_reducible refine (elim_same π _ _ _ (fun x => ?_)).trans ?_ | split | with_reducible refine (hπ _ _ _ _).trans ?_ | dsimp only

@[simp] theorem actPending_frame (s : State) :
    (actPending s).dev = s.dev ∧ (actPending s).gov = s.gov ∧ (actPending s).flt = s.flt ∧ (actPending s).tly = s.tly ∧
    (actPending s).sal = s.sal ∧ (actPending s).map = s.map ∧ (actPending s).drn = s.drn ∧ (actPending s).hrv = s.hrv ∧
    (actPending s).fld = s.fld ∧ (actPending s).bed = s.bed ∧ (actPending s).pip = s.pip ∧ (actPending s).heads = s.heads ∧
    (actPending s).sem = s.sem ∧ (actPending s).pans = s.pans ∧ (actPending s).thm = s.thm ∧ (actPending s).cel = s.cel ∧
    (actPending s).upd = s.upd ∧ (actPending s).key = s.key ∧ (actPending s).brl = s.brl ∧ (actPending s).svc = s.svc ∧
    (actPending s).pins = s.pins ∧ (actPending s).lay = s.lay ∧ (actPending s).jrn = s.jrn ∧ (actPending s).replies = s.replies ∧
    (actPending s).dram = s.dram ∧ (actPending s).poison = s.poison ∧ (actPending s).serial = s.serial ∧
    (actPending s).boot = s.boot ∧ (actPending s).free = s.free := by
  refine ⟨?_, ?_, ?_, ?_, ?_, ?_, ?_, ?_, ?_, ?_, ?_, ?_, ?_, ?_, ?_, ?_, ?_, ?_, ?_, ?_, ?_, ?_, ?_, ?_, ?_, ?_, ?_, ?_, ?_⟩ <;> exact actPending_only _ (fun _ _ _ _ => rfl) s

theorem stepFailed_only {β : Type} (π : State → β) (hπ : ∀ s xtrn, π { s with trn := xtrn } = π s) (c : Nat) (step : Nat) (k : Nat) (r : TrainResult) (s : State) :
    π (stepFailed c step k r s) = π s := by
  unfold stepFailed; repeat' first | contradiction | (simp only [hπ, tchanUpd_only π hπ, apply_ite π, ite_self]; done) | split | refine (foldl_same π _ (fun s x => ?_) _ _).trans ?_ | refine (elim_same π _ _ _ (fun x => ?_)).trans ?_ | dsimp only

@[simp] theorem stepFailed_frame (c : Nat) (step : Nat) (k : Nat) (r : TrainResult) (s : State) :
    (stepFailed c step k r s).dev = s.dev ∧ (stepFailed c step k r s).gov = s.gov ∧ (stepFailed c step k r s).flt = s.flt ∧
    (stepFailed c step k r s).tly = s.tly ∧ (stepFailed c step k r s).sal = s.sal ∧ (stepFailed c step k r s).map = s.map ∧
    (stepFailed c step k r s).drn = s.drn ∧ (stepFailed c step k r s).hrv = s.hrv ∧ (stepFailed c step k r s).fld = s.fld ∧
    (stepFailed c step k r s).bed = s.bed ∧ (stepFailed c step k r s).pip = s.pip ∧ (stepFailed c step k r s).heads = s.heads ∧
    (stepFailed c step k r s).sem = s.sem ∧ (stepFailed c step k r s).pans = s.pans ∧ (stepFailed c step k r s).dmc = s.dmc ∧
    (stepFailed c step k r s).thm = s.thm ∧ (stepFailed c step k r s).cel = s.cel ∧ (stepFailed c step k r s).upd = s.upd ∧
    (stepFailed c step k r s).key = s.key ∧ (stepFailed c step k r s).brl = s.brl ∧ (stepFailed c step k r s).svc = s.svc ∧
    (stepFailed c step k r s).pins = s.pins ∧ (stepFailed c step k r s).lay = s.lay ∧ (stepFailed c step k r s).jrn = s.jrn ∧
    (stepFailed c step k r s).replies = s.replies ∧ (stepFailed c step k r s).dram = s.dram ∧
    (stepFailed c step k r s).poison = s.poison ∧ (stepFailed c step k r s).serial = s.serial ∧
    (stepFailed c step k r s).boot = s.boot ∧ (stepFailed c step k r s).free = s.free ∧
    (stepFailed c step k r s).pending = s.pending := by
  refine ⟨?_, ?_, ?_, ?_, ?_, ?_, ?_, ?_, ?_, ?_, ?_, ?_, ?_, ?_, ?_, ?_, ?_, ?_, ?_, ?_, ?_, ?_, ?_, ?_, ?_, ?_, ?_, ?_, ?_, ?_, ?_⟩ <;> exact stepFailed_only _ (fun _ _ => rfl) c step k r s

theorem trnStatus_only {β : Type} (π : State → β) (hπ : ∀ s xtrn, π { s with trn := xtrn } = π s) (s : State) :
    π (trnStatus s) = π s := by
  unfold trnStatus; repeat' first | contradiction | (simp only [hπ, foldl_same π, apply_ite π, ite_self]; done) | split | refine (foldl_same π _ (fun s x => ?_) _ _).trans ?_ | refine (elim_same π _ _ _ (fun x => ?_)).trans ?_ | dsimp only

@[simp] theorem trnStatus_frame (s : State) :
    (trnStatus s).dev = s.dev ∧ (trnStatus s).gov = s.gov ∧ (trnStatus s).flt = s.flt ∧ (trnStatus s).tly = s.tly ∧
    (trnStatus s).sal = s.sal ∧ (trnStatus s).map = s.map ∧ (trnStatus s).drn = s.drn ∧ (trnStatus s).hrv = s.hrv ∧
    (trnStatus s).fld = s.fld ∧ (trnStatus s).bed = s.bed ∧ (trnStatus s).pip = s.pip ∧ (trnStatus s).heads = s.heads ∧
    (trnStatus s).sem = s.sem ∧ (trnStatus s).pans = s.pans ∧ (trnStatus s).dmc = s.dmc ∧ (trnStatus s).thm = s.thm ∧
    (trnStatus s).cel = s.cel ∧ (trnStatus s).upd = s.upd ∧ (trnStatus s).key = s.key ∧ (trnStatus s).brl = s.brl ∧
    (trnStatus s).svc = s.svc ∧ (trnStatus s).pins = s.pins ∧ (trnStatus s).lay = s.lay ∧ (trnStatus s).jrn = s.jrn ∧
    (trnStatus s).replies = s.replies ∧ (trnStatus s).dram = s.dram ∧ (trnStatus s).poison = s.poison ∧
    (trnStatus s).serial = s.serial ∧ (trnStatus s).boot = s.boot ∧ (trnStatus s).free = s.free ∧ (trnStatus s).pending = s.pending := by
  refine ⟨?_, ?_, ?_, ?_, ?_, ?_, ?_, ?_, ?_, ?_, ?_, ?_, ?_, ?_, ?_, ?_, ?_, ?_, ?_, ?_, ?_, ?_, ?_, ?_, ?_, ?_, ?_, ?_, ?_, ?_, ?_⟩ <;> exact trnStatus_only _ (fun _ _ => rfl) s

theorem claimRun_only {β : Type} (π : State → β) (hπ : ∀ s xmap xdrn, π { s with map := xmap, drn := xdrn } = π s) (quota : Nat) (gs : List Nat) (s : State) :
    π (claimRun quota gs s) = π s := by
  unfold claimRun; repeat' first | contradiction | (simp only [hπ, mapOp_only π hπ, foldl_same π, apply_ite π, ite_self]; done) | split | refine (foldl_same π _ (fun s x => ?_) _ _).trans ?_ | refine (elim_same π _ _ _ (fun x => ?_)).trans ?_ | dsimp only

@[simp] theorem claimRun_frame (quota : Nat) (gs : List Nat) (s : State) :
    (claimRun quota gs s).dev = s.dev ∧ (claimRun quota gs s).gov = s.gov ∧ (claimRun quota gs s).flt = s.flt ∧
    (claimRun quota gs s).tly = s.tly ∧ (claimRun quota gs s).sal = s.sal ∧ (claimRun quota gs s).hrv = s.hrv ∧
    (claimRun quota gs s).fld = s.fld ∧ (claimRun quota gs s).bed = s.bed ∧ (claimRun quota gs s).pip = s.pip ∧
    (claimRun quota gs s).heads = s.heads ∧ (claimRun quota gs s).sem = s.sem ∧ (claimRun quota gs s).pans = s.pans ∧
    (claimRun quota gs s).dmc = s.dmc ∧ (claimRun quota gs s).trn = s.trn ∧ (claimRun quota gs s).thm = s.thm ∧
    (claimRun quota gs s).cel = s.cel ∧ (claimRun quota gs s).upd = s.upd ∧ (claimRun quota gs s).key = s.key ∧
    (claimRun quota gs s).brl = s.brl ∧ (claimRun quota gs s).svc = s.svc ∧ (claimRun quota gs s).pins = s.pins ∧
    (claimRun quota gs s).lay = s.lay ∧ (claimRun quota gs s).jrn = s.jrn ∧ (claimRun quota gs s).replies = s.replies ∧
    (claimRun quota gs s).dram = s.dram ∧ (claimRun quota gs s).poison = s.poison ∧ (claimRun quota gs s).serial = s.serial ∧
    (claimRun quota gs s).boot = s.boot ∧ (claimRun quota gs s).free = s.free ∧ (claimRun quota gs s).pending = s.pending := by
  refine ⟨?_, ?_, ?_, ?_, ?_, ?_, ?_, ?_, ?_, ?_, ?_, ?_, ?_, ?_, ?_, ?_, ?_, ?_, ?_, ?_, ?_, ?_, ?_, ?_, ?_, ?_, ?_, ?_, ?_, ?_⟩ <;> exact claimRun_only _ (fun _ _ _ => rfl) quota gs s

theorem issueReads_only {β : Type} (π : State → β) (hπ : ∀ s xdrn, π { s with drn := xdrn } = π s) (s : State) :
    π (issueReads s) = π s := by
  unfold issueReads; repeat' first | contradiction | (simp only [hπ, apply_ite π, ite_self]; done) | split | refine (foldl_same π _ (fun s x => ?_) _ _).trans ?_ | refine (elim_same π _ _ _ (fun x => ?_)).trans ?_ | dsimp only

@[simp] theorem issueReads_frame (s : State) :
    (issueReads s).dev = s.dev ∧ (issueReads s).gov = s.gov ∧ (issueReads s).flt = s.flt ∧ (issueReads s).tly = s.tly ∧
    (issueReads s).sal = s.sal ∧ (issueReads s).map = s.map ∧ (issueReads s).hrv = s.hrv ∧ (issueReads s).fld = s.fld ∧
    (issueReads s).bed = s.bed ∧ (issueReads s).pip = s.pip ∧ (issueReads s).heads = s.heads ∧ (issueReads s).sem = s.sem ∧
    (issueReads s).pans = s.pans ∧ (issueReads s).dmc = s.dmc ∧ (issueReads s).trn = s.trn ∧ (issueReads s).thm = s.thm ∧
    (issueReads s).cel = s.cel ∧ (issueReads s).upd = s.upd ∧ (issueReads s).key = s.key ∧ (issueReads s).brl = s.brl ∧
    (issueReads s).svc = s.svc ∧ (issueReads s).pins = s.pins ∧ (issueReads s).lay = s.lay ∧ (issueReads s).jrn = s.jrn ∧
    (issueReads s).replies = s.replies ∧ (issueReads s).dram = s.dram ∧ (issueReads s).poison = s.poison ∧
    (issueReads s).serial = s.serial ∧ (issueReads s).boot = s.boot ∧ (issueReads s).free = s.free ∧
    (issueReads s).pending = s.pending := by
  refine ⟨?_, ?_, ?_, ?_, ?_, ?_, ?_, ?_, ?_, ?_, ?_, ?_, ?_, ?_, ?_, ?_, ?_, ?_, ?_, ?_, ?_, ?_, ?_, ?_, ?_, ?_, ?_, ?_, ?_, ?_, ?_⟩ <;> exact issueReads_only _ (fun _ _ => rfl) s

theorem drainSlot_only {β : Type} (π : State → β) (hπ : ∀ s xmap xdrn, π { s with map := xmap, drn := xdrn } = π s) (quota : Nat) (s : State) :
    π (drainSlot quota s) = π s := by
  unfold drainSlot; repeat' first | contradiction | (simp only [hπ, claimRun_only π hπ, issueReads_only π (fun s xdrn => hπ s s.map xdrn), apply_ite π, ite_self]; done) | split | refine (foldl_same π _ (fun s x => ?_) _ _).trans ?_ | refine (elim_same π _ _ _ (fun x => ?_)).trans ?_ | dsimp only

@[simp] theorem drainSlot_frame (quota : Nat) (s : State) :
    (drainSlot quota s).dev = s.dev ∧ (drainSlot quota s).gov = s.gov ∧ (drainSlot quota s).flt = s.flt ∧
    (drainSlot quota s).tly = s.tly ∧ (drainSlot quota s).sal = s.sal ∧ (drainSlot quota s).hrv = s.hrv ∧
    (drainSlot quota s).fld = s.fld ∧ (drainSlot quota s).bed = s.bed ∧ (drainSlot quota s).pip = s.pip ∧
    (drainSlot quota s).heads = s.heads ∧ (drainSlot quota s).sem = s.sem ∧ (drainSlot quota s).pans = s.pans ∧
    (drainSlot quota s).dmc = s.dmc ∧ (drainSlot quota s).trn = s.trn ∧ (drainSlot quota s).thm = s.thm ∧
    (drainSlot quota s).cel = s.cel ∧ (drainSlot quota s).upd = s.upd ∧ (drainSlot quota s).key = s.key ∧
    (drainSlot quota s).brl = s.brl ∧ (drainSlot quota s).svc = s.svc ∧ (drainSlot quota s).pins = s.pins ∧
    (drainSlot quota s).lay = s.lay ∧ (drainSlot quota s).jrn = s.jrn ∧ (drainSlot quota s).replies = s.replies ∧
    (drainSlot quota s).dram = s.dram ∧ (drainSlot quota s).poison = s.poison ∧ (drainSlot quota s).serial = s.serial ∧
    (drainSlot quota s).boot = s.boot ∧ (drainSlot quota s).free = s.free ∧ (drainSlot quota s).pending = s.pending := by
  refine ⟨?_, ?_, ?_, ?_, ?_, ?_, ?_, ?_, ?_, ?_, ?_, ?_, ?_, ?_, ?_, ?_, ?_, ?_, ?_, ?_, ?_, ?_, ?_, ?_, ?_, ?_, ?_, ?_, ?_, ?_⟩ <;> exact drainSlot_only _ (fun _ _ _ => rfl) quota s

theorem firstGranule_only {β : Type} (π : State → β) (hπ : ∀ s xhrv, π { s with hrv := xhrv } = π s) (s : State) :
    π (firstGranule s) = π s := by
  unfold firstGranule; repeat' first | contradiction | (simp only [hπ, apply_ite π, ite_self]; done) | split | refine (foldl_same π _ (fun s x => ?_) _ _).trans ?_ | refine (elim_same π _ _ _ (fun x => ?_)).trans ?_ | dsimp only

@[simp] theorem firstGranule_frame (s : State) :
    (firstGranule s).dev = s.dev ∧ (firstGranule s).gov = s.gov ∧ (firstGranule s).flt = s.flt ∧ (firstGranule s).tly = s.tly ∧
    (firstGranule s).sal = s.sal ∧ (firstGranule s).map = s.map ∧ (firstGranule s).drn = s.drn ∧ (firstGranule s).fld = s.fld ∧
    (firstGranule s).bed = s.bed ∧ (firstGranule s).pip = s.pip ∧ (firstGranule s).heads = s.heads ∧ (firstGranule s).sem = s.sem ∧
    (firstGranule s).pans = s.pans ∧ (firstGranule s).dmc = s.dmc ∧ (firstGranule s).trn = s.trn ∧ (firstGranule s).thm = s.thm ∧
    (firstGranule s).cel = s.cel ∧ (firstGranule s).upd = s.upd ∧ (firstGranule s).key = s.key ∧ (firstGranule s).brl = s.brl ∧
    (firstGranule s).svc = s.svc ∧ (firstGranule s).pins = s.pins ∧ (firstGranule s).lay = s.lay ∧ (firstGranule s).jrn = s.jrn ∧
    (firstGranule s).replies = s.replies ∧ (firstGranule s).dram = s.dram ∧ (firstGranule s).poison = s.poison ∧
    (firstGranule s).serial = s.serial ∧ (firstGranule s).boot = s.boot ∧ (firstGranule s).free = s.free ∧
    (firstGranule s).pending = s.pending := by
  refine ⟨?_, ?_, ?_, ?_, ?_, ?_, ?_, ?_, ?_, ?_, ?_, ?_, ?_, ?_, ?_, ?_, ?_, ?_, ?_, ?_, ?_, ?_, ?_, ?_, ?_, ?_, ?_, ?_, ?_, ?_, ?_⟩ <;> exact firstGranule_only _ (fun _ _ => rfl) s

theorem lapseShare_only {β : Type} (π : State → β) (hπ : ∀ s xmap xdrn xhrv xbed, π { s with map := xmap, drn := xdrn, hrv := xhrv, bed := xbed } = π s) (s : State) :
    π (lapseShare s) = π s := by
  unfold lapseShare; repeat' first | contradiction | (simp only [hπ, setPoints_only π (fun s xhrv => hπ s s.map s.drn xhrv s.bed), endData_only π hπ, apply_ite π, ite_self]; done) | with_reducible refine (setPoints_only π (fun s xhrv => hπ s s.map s.drn xhrv s.bed) _).trans ?_ | with_reducible refine (endData_only π (fun s xmap xdrn xhrv xbed => hπ s xmap xdrn xhrv xbed) _ _).trans ?_ | with_reducible refine (hπ _ _ _ _ _).trans ?_ | refine (foldl_same π _ (fun s x => ?_) _ _).trans ?_ | refine (elim_same π _ _ _ (fun x => ?_)).trans ?_ | split | dsimp only

@[simp] theorem lapseShare_frame (s : State) :
    (lapseShare s).dev = s.dev ∧ (lapseShare s).gov = s.gov ∧ (lapseShare s).flt = s.flt ∧ (lapseShare s).tly = s.tly ∧
    (lapseShare s).sal = s.sal ∧ (lapseShare s).fld = s.fld ∧ (lapseShare s).pip = s.pip ∧ (lapseShare s).heads = s.heads ∧
    (lapseShare s).sem = s.sem ∧ (lapseShare s).pans = s.pans ∧ (lapseShare s).dmc = s.dmc ∧ (lapseShare s).trn = s.trn ∧
    (lapseShare s).thm = s.thm ∧ (lapseShare s).cel = s.cel ∧ (lapseShare s).upd = s.upd ∧ (lapseShare s).key = s.key ∧
    (lapseShare s).brl = s.brl ∧ (lapseShare s).svc = s.svc ∧ (lapseShare s).pins = s.pins ∧ (lapseShare s).lay = s.lay ∧
    (lapseShare s).jrn = s.jrn ∧ (lapseShare s).replies = s.replies ∧ (lapseShare s).dram = s.dram ∧
    (lapseShare s).poison = s.poison ∧ (lapseShare s).serial = s.serial ∧ (lapseShare s).boot = s.boot ∧
    (lapseShare s).free = s.free ∧ (lapseShare s).pending = s.pending := by
  refine ⟨?_, ?_, ?_, ?_, ?_, ?_, ?_, ?_, ?_, ?_, ?_, ?_, ?_, ?_, ?_, ?_, ?_, ?_, ?_, ?_, ?_, ?_, ?_, ?_, ?_, ?_, ?_, ?_⟩ <;> exact lapseShare_only _ (fun _ _ _ _ _ => rfl) s

theorem harvestSlot_only {β : Type} (π : State → β) (hπ : ∀ s xmap xdrn xhrv xbed, π { s with map := xmap, drn := xdrn, hrv := xhrv, bed := xbed } = π s) (quota : Nat) (s : State) :
    π (harvestSlot quota s) = π s := by
  unfold harvestSlot; repeat' first | contradiction | with_reducible rfl | with_reducible refine (claimRun_only π (fun s xmap xdrn => hπ s xmap xdrn s.hrv s.bed) _ _ _).trans ?_ | with_reducible refine (issueReads_only π (fun s xdrn => hπ s s.map xdrn s.hrv s.bed) _).trans ?_ | with_reducible refine (firstGranule_only π (fun s xhrv => hπ s s.map s.drn xhrv s.bed) _).trans ?_ | with_reducible refine (lapseShare_only π (fun s xmap xdrn xhrv xbed => hπ s xmap xdrn xhrv xbed) _).trans ?_ | with_reducible refine (foldl_same π _ (fun s x => ?_) _ _).trans ?_ | with_reducible refine (elim_same π _ _ _ (fun x => ?_)).trans ?_ | split | with_reducible refine (hπ _ _ _ _ _).trans ?_ | dsimp only

@[simp] theorem harvestSlot_frame (quota : Nat) (s : State) :
    (harvestSlot quota s).dev = s.dev ∧ (harvestSlot quota s).gov = s.gov ∧ (harvestSlot quota s).flt = s.flt ∧
    (harvestSlot quota s).tly = s.tly ∧ (harvestSlot quota s).sal = s.sal ∧ (harvestSlot quota s).fld = s.fld ∧
    (harvestSlot quota s).pip = s.pip ∧ (harvestSlot quota s).heads = s.heads ∧ (harvestSlot quota s).sem = s.sem ∧
    (harvestSlot quota s).pans = s.pans ∧ (harvestSlot quota s).dmc = s.dmc ∧ (harvestSlot quota s).trn = s.trn ∧
    (harvestSlot quota s).thm = s.thm ∧ (harvestSlot quota s).cel = s.cel ∧ (harvestSlot quota s).upd = s.upd ∧
    (harvestSlot quota s).key = s.key ∧ (harvestSlot quota s).brl = s.brl ∧ (harvestSlot quota s).svc = s.svc ∧
    (harvestSlot quota s).pins = s.pins ∧ (harvestSlot quota s).lay = s.lay ∧ (harvestSlot quota s).jrn = s.jrn ∧
    (harvestSlot quota s).replies = s.replies ∧ (harvestSlot quota s).dram = s.dram ∧ (harvestSlot quota s).poison = s.poison ∧
    (harvestSlot quota s).serial = s.serial ∧ (harvestSlot quota s).boot = s.boot ∧ (harvestSlot quota s).free = s.free ∧
    (harvestSlot quota s).pending = s.pending := by
  refine ⟨?_, ?_, ?_, ?_, ?_, ?_, ?_, ?_, ?_, ?_, ?_, ?_, ?_, ?_, ?_, ?_, ?_, ?_, ?_, ?_, ?_, ?_, ?_, ?_, ?_, ?_, ?_, ?_⟩ <;> exact harvestSlot_only _ (fun _ _ _ _ _ => rfl) quota s

theorem dropDrain_only {β : Type} (π : State → β) (hπ : ∀ s xmap xdrn xhrv xbed, π { s with map := xmap, drn := xdrn, hrv := xhrv, bed := xbed } = π s) (g : Nat) (s : State) :
    π (dropDrain g s) = π s := by
  unfold dropDrain; repeat' first | contradiction | (simp only [hπ, abandonOp_only π (fun s xmap xdrn xbed => hπ s xmap xdrn s.hrv xbed), apply_ite π, ite_self]; done) | split | refine (foldl_same π _ (fun s x => ?_) _ _).trans ?_ | refine (elim_same π _ _ _ (fun x => ?_)).trans ?_ | dsimp only

@[simp] theorem dropDrain_frame (g : Nat) (s : State) :
    (dropDrain g s).dev = s.dev ∧ (dropDrain g s).gov = s.gov ∧ (dropDrain g s).flt = s.flt ∧ (dropDrain g s).tly = s.tly ∧
    (dropDrain g s).sal = s.sal ∧ (dropDrain g s).fld = s.fld ∧ (dropDrain g s).pip = s.pip ∧ (dropDrain g s).heads = s.heads ∧
    (dropDrain g s).sem = s.sem ∧ (dropDrain g s).pans = s.pans ∧ (dropDrain g s).dmc = s.dmc ∧ (dropDrain g s).trn = s.trn ∧
    (dropDrain g s).thm = s.thm ∧ (dropDrain g s).cel = s.cel ∧ (dropDrain g s).upd = s.upd ∧ (dropDrain g s).key = s.key ∧
    (dropDrain g s).brl = s.brl ∧ (dropDrain g s).svc = s.svc ∧ (dropDrain g s).pins = s.pins ∧ (dropDrain g s).lay = s.lay ∧
    (dropDrain g s).jrn = s.jrn ∧ (dropDrain g s).replies = s.replies ∧ (dropDrain g s).dram = s.dram ∧
    (dropDrain g s).poison = s.poison ∧ (dropDrain g s).serial = s.serial ∧ (dropDrain g s).boot = s.boot ∧
    (dropDrain g s).free = s.free ∧ (dropDrain g s).pending = s.pending := by
  refine ⟨?_, ?_, ?_, ?_, ?_, ?_, ?_, ?_, ?_, ?_, ?_, ?_, ?_, ?_, ?_, ?_, ?_, ?_, ?_, ?_, ?_, ?_, ?_, ?_, ?_, ?_, ?_, ?_⟩ <;> exact dropDrain_only _ (fun _ _ _ _ _ => rfl) g s

theorem poisonedGranule_only {β : Type} (π : State → β) (hπ : ∀ s xmap xdrn xhrv xbed, π { s with map := xmap, drn := xdrn, hrv := xhrv, bed := xbed } = π s) (g : Nat) (s : State) :
    π (poisonedGranule g s) = π s := by
  unfold poisonedGranule; repeat' first | contradiction | (simp only [hπ, rstUpd_only π (fun s xmap => hπ s xmap s.drn s.hrv s.bed), abandonOp_only π (fun s xmap xdrn xbed => hπ s xmap xdrn s.hrv xbed), commitOp_only π (fun s xmap xdrn => hπ s xmap xdrn s.hrv s.bed), hmPut_only π (fun s xmap xdrn => hπ s xmap xdrn s.hrv s.bed), apply_ite π, ite_self]; done) | split | refine (foldl_same π _ (fun s x => ?_) _ _).trans ?_ | refine (elim_same π _ _ _ (fun x => ?_)).trans ?_ | dsimp only

@[simp] theorem poisonedGranule_frame (g : Nat) (s : State) :
    (poisonedGranule g s).dev = s.dev ∧ (poisonedGranule g s).gov = s.gov ∧ (poisonedGranule g s).flt = s.flt ∧
    (poisonedGranule g s).tly = s.tly ∧ (poisonedGranule g s).sal = s.sal ∧ (poisonedGranule g s).fld = s.fld ∧
    (poisonedGranule g s).pip = s.pip ∧ (poisonedGranule g s).heads = s.heads ∧ (poisonedGranule g s).sem = s.sem ∧
    (poisonedGranule g s).pans = s.pans ∧ (poisonedGranule g s).dmc = s.dmc ∧ (poisonedGranule g s).trn = s.trn ∧
    (poisonedGranule g s).thm = s.thm ∧ (poisonedGranule g s).cel = s.cel ∧ (poisonedGranule g s).upd = s.upd ∧
    (poisonedGranule g s).key = s.key ∧ (poisonedGranule g s).brl = s.brl ∧ (poisonedGranule g s).svc = s.svc ∧
    (poisonedGranule g s).pins = s.pins ∧ (poisonedGranule g s).lay = s.lay ∧ (poisonedGranule g s).jrn = s.jrn ∧
    (poisonedGranule g s).replies = s.replies ∧ (poisonedGranule g s).dram = s.dram ∧ (poisonedGranule g s).poison = s.poison ∧
    (poisonedGranule g s).serial = s.serial ∧ (poisonedGranule g s).boot = s.boot ∧ (poisonedGranule g s).free = s.free ∧
    (poisonedGranule g s).pending = s.pending := by
  refine ⟨?_, ?_, ?_, ?_, ?_, ?_, ?_, ?_, ?_, ?_, ?_, ?_, ?_, ?_, ?_, ?_, ?_, ?_, ?_, ?_, ?_, ?_, ?_, ?_, ?_, ?_, ?_, ?_⟩ <;> exact poisonedGranule_only _ (fun _ _ _ _ _ => rfl) g s

theorem stageGranule_only {β : Type} (π : State → β) (hπ : ∀ s xmap xdrn xhrv xbed xpip, π { s with map := xmap, drn := xdrn, hrv := xhrv, bed := xbed, pip := xpip } = π s) (g : Nat) (length : Nat) (lane : Nat) (s : State) :
    π (stageGranule g length lane s) = π s := by
  unfold stageGranule; repeat' first | contradiction | (simp only [hπ, tickUpd_only π (fun s xdrn => hπ s s.map xdrn s.hrv s.bed s.pip), placeRec_only π (fun s xdrn xbed => hπ s s.map xdrn s.hrv xbed s.pip), settle_only π (fun s xmap xdrn xhrv xbed => hπ s xmap xdrn xhrv xbed s.pip), apply_ite π, ite_self]; done) | with_reducible refine (tickUpd_only π (fun s xdrn => hπ s s.map xdrn s.hrv s.bed s.pip) _ _).trans ?_ | with_reducible refine (placeRec_only π (fun s xdrn xbed => hπ s s.map xdrn s.hrv xbed s.pip) _ _ _).trans ?_ | with_reducible refine (settle_only π (fun s xmap xdrn xhrv xbed => hπ s xmap xdrn xhrv xbed s.pip) _).trans ?_ | with_reducible refine (hπ _ _ _ _ _ _).trans ?_ | refine (foldl_same π _ (fun s x => ?_) _ _).trans ?_ | refine (elim_same π _ _ _ (fun x => ?_)).trans ?_ | split | dsimp only

@[simp] theorem stageGranule_frame (g : Nat) (length : Nat) (lane : Nat) (s : State) :
    (stageGranule g length lane s).dev = s.dev ∧ (stageGranule g length lane s).gov = s.gov ∧
    (stageGranule g length lane s).flt = s.flt ∧ (stageGranule g length lane s).tly = s.tly ∧
    (stageGranule g length lane s).sal = s.sal ∧ (stageGranule g length lane s).fld = s.fld ∧
    (stageGranule g length lane s).heads = s.heads ∧ (stageGranule g length lane s).sem = s.sem ∧
    (stageGranule g length lane s).pans = s.pans ∧ (stageGranule g length lane s).dmc = s.dmc ∧
    (stageGranule g length lane s).trn = s.trn ∧ (stageGranule g length lane s).thm = s.thm ∧
    (stageGranule g length lane s).cel = s.cel ∧ (stageGranule g length lane s).upd = s.upd ∧
    (stageGranule g length lane s).key = s.key ∧ (stageGranule g length lane s).brl = s.brl ∧
    (stageGranule g length lane s).svc = s.svc ∧ (stageGranule g length lane s).pins = s.pins ∧
    (stageGranule g length lane s).lay = s.lay ∧ (stageGranule g length lane s).jrn = s.jrn ∧
    (stageGranule g length lane s).replies = s.replies ∧ (stageGranule g length lane s).dram = s.dram ∧
    (stageGranule g length lane s).poison = s.poison ∧ (stageGranule g length lane s).serial = s.serial ∧
    (stageGranule g length lane s).boot = s.boot ∧ (stageGranule g length lane s).free = s.free ∧
    (stageGranule g length lane s).pending = s.pending := by
  refine ⟨?_, ?_, ?_, ?_, ?_, ?_, ?_, ?_, ?_, ?_, ?_, ?_, ?_, ?_, ?_, ?_, ?_, ?_, ?_, ?_, ?_, ?_, ?_, ?_, ?_, ?_, ?_⟩ <;> exact stageGranule_only _ (fun _ _ _ _ _ _ => rfl) g length lane s

theorem padStripe_only {β : Type} (π : State → β) (hπ : ∀ s xbed, π { s with bed := xbed } = π s) (r : BedRow) (stripe : Nat) (s : State) :
    π (padStripe r stripe s) = π s := by
  unfold padStripe; repeat' first | contradiction | with_reducible rfl | with_reducible refine (takePage_only π (fun s xbed => hπ s xbed) _ _ _ _).trans ?_ | with_reducible refine (foldl_same π _ (fun s x => ?_) _ _).trans ?_ | with_reducible refine (elim_same π _ _ _ (fun x => ?_)).trans ?_ | split | with_reducible refine (hπ _ _).trans ?_ | dsimp only

@[simp] theorem padStripe_frame (r : BedRow) (stripe : Nat) (s : State) :
    (padStripe r stripe s).dev = s.dev ∧ (padStripe r stripe s).gov = s.gov ∧ (padStripe r stripe s).flt = s.flt ∧
    (padStripe r stripe s).tly = s.tly ∧ (padStripe r stripe s).sal = s.sal ∧ (padStripe r stripe s).map = s.map ∧
    (padStripe r stripe s).drn = s.drn ∧ (padStripe r stripe s).hrv = s.hrv ∧ (padStripe r stripe s).fld = s.fld ∧
    (padStripe r stripe s).pip = s.pip ∧ (padStripe r stripe s).heads = s.heads ∧ (padStripe r stripe s).sem = s.sem ∧
    (padStripe r stripe s).pans = s.pans ∧ (padStripe r stripe s).dmc = s.dmc ∧ (padStripe r stripe s).trn = s.trn ∧
    (padStripe r stripe s).thm = s.thm ∧ (padStripe r stripe s).cel = s.cel ∧ (padStripe r stripe s).upd = s.upd ∧
    (padStripe r stripe s).key = s.key ∧ (padStripe r stripe s).brl = s.brl ∧ (padStripe r stripe s).svc = s.svc ∧
    (padStripe r stripe s).pins = s.pins ∧ (padStripe r stripe s).lay = s.lay ∧ (padStripe r stripe s).jrn = s.jrn ∧
    (padStripe r stripe s).replies = s.replies ∧ (padStripe r stripe s).dram = s.dram ∧ (padStripe r stripe s).poison = s.poison ∧
    (padStripe r stripe s).serial = s.serial ∧ (padStripe r stripe s).boot = s.boot ∧ (padStripe r stripe s).free = s.free ∧
    (padStripe r stripe s).pending = s.pending := by
  refine ⟨?_, ?_, ?_, ?_, ?_, ?_, ?_, ?_, ?_, ?_, ?_, ?_, ?_, ?_, ?_, ?_, ?_, ?_, ?_, ?_, ?_, ?_, ?_, ?_, ?_, ?_, ?_, ?_, ?_, ?_, ?_⟩ <;> exact padStripe_only _ (fun _ _ => rfl) r stripe s

theorem undoMove_only {β : Type} (π : State → β) (hπ : ∀ s xmap xdrn, π { s with map := xmap, drn := xdrn } = π s) (r : BedRow) (p : StorePage) (s : State) (x : GranRec) :
    π (undoMove r p s x) = π s := by
  unfold undoMove; repeat' first | contradiction | (simp only [hπ, hmPut_only π hπ, apply_ite π, ite_self]; done) | split | refine (foldl_same π _ (fun s x => ?_) _ _).trans ?_ | refine (elim_same π _ _ _ (fun x => ?_)).trans ?_ | dsimp only

@[simp] theorem undoMove_frame (r : BedRow) (p : StorePage) (s : State) (x : GranRec) :
    (undoMove r p s x).dev = s.dev ∧ (undoMove r p s x).gov = s.gov ∧ (undoMove r p s x).flt = s.flt ∧
    (undoMove r p s x).tly = s.tly ∧ (undoMove r p s x).sal = s.sal ∧ (undoMove r p s x).hrv = s.hrv ∧
    (undoMove r p s x).fld = s.fld ∧ (undoMove r p s x).bed = s.bed ∧ (undoMove r p s x).pip = s.pip ∧
    (undoMove r p s x).heads = s.heads ∧ (undoMove r p s x).sem = s.sem ∧ (undoMove r p s x).pans = s.pans ∧
    (undoMove r p s x).dmc = s.dmc ∧ (undoMove r p s x).trn = s.trn ∧ (undoMove r p s x).thm = s.thm ∧
    (undoMove r p s x).cel = s.cel ∧ (undoMove r p s x).upd = s.upd ∧ (undoMove r p s x).key = s.key ∧
    (undoMove r p s x).brl = s.brl ∧ (undoMove r p s x).svc = s.svc ∧ (undoMove r p s x).pins = s.pins ∧
    (undoMove r p s x).lay = s.lay ∧ (undoMove r p s x).jrn = s.jrn ∧ (undoMove r p s x).replies = s.replies ∧
    (undoMove r p s x).dram = s.dram ∧ (undoMove r p s x).poison = s.poison ∧ (undoMove r p s x).serial = s.serial ∧
    (undoMove r p s x).boot = s.boot ∧ (undoMove r p s x).free = s.free ∧ (undoMove r p s x).pending = s.pending := by
  refine ⟨?_, ?_, ?_, ?_, ?_, ?_, ?_, ?_, ?_, ?_, ?_, ?_, ?_, ?_, ?_, ?_, ?_, ?_, ?_, ?_, ?_, ?_, ?_, ?_, ?_, ?_, ?_, ?_, ?_, ?_⟩ <;> exact undoMove_only _ (fun _ _ _ => rfl) r p s x

theorem loseSegments_only {β : Type} (π : State → β) (hπ : ∀ s xdrn xbed, π { s with drn := xdrn, bed := xbed } = π s) (r : BedRow) (p : StorePage) (s : State) :
    π (loseSegments r p s) = π s := by
  unfold loseSegments; repeat' first | contradiction | (simp only [hπ, rowUpd_only π (fun s xbed => hπ s s.drn xbed), apply_ite π, ite_self]; done) | split | refine (foldl_same π _ (fun s x => ?_) _ _).trans ?_ | refine (elim_same π _ _ _ (fun x => ?_)).trans ?_ | dsimp only

@[simp] theorem loseSegments_frame (r : BedRow) (p : StorePage) (s : State) :
    (loseSegments r p s).dev = s.dev ∧ (loseSegments r p s).gov = s.gov ∧ (loseSegments r p s).flt = s.flt ∧
    (loseSegments r p s).tly = s.tly ∧ (loseSegments r p s).sal = s.sal ∧ (loseSegments r p s).map = s.map ∧
    (loseSegments r p s).hrv = s.hrv ∧ (loseSegments r p s).fld = s.fld ∧ (loseSegments r p s).pip = s.pip ∧
    (loseSegments r p s).heads = s.heads ∧ (loseSegments r p s).sem = s.sem ∧ (loseSegments r p s).pans = s.pans ∧
    (loseSegments r p s).dmc = s.dmc ∧ (loseSegments r p s).trn = s.trn ∧ (loseSegments r p s).thm = s.thm ∧
    (loseSegments r p s).cel = s.cel ∧ (loseSegments r p s).upd = s.upd ∧ (loseSegments r p s).key = s.key ∧
    (loseSegments r p s).brl = s.brl ∧ (loseSegments r p s).svc = s.svc ∧ (loseSegments r p s).pins = s.pins ∧
    (loseSegments r p s).lay = s.lay ∧ (loseSegments r p s).jrn = s.jrn ∧ (loseSegments r p s).replies = s.replies ∧
    (loseSegments r p s).dram = s.dram ∧ (loseSegments r p s).poison = s.poison ∧ (loseSegments r p s).serial = s.serial ∧
    (loseSegments r p s).boot = s.boot ∧ (loseSegments r p s).free = s.free ∧ (loseSegments r p s).pending = s.pending := by
  refine ⟨?_, ?_, ?_, ?_, ?_, ?_, ?_, ?_, ?_, ?_, ?_, ?_, ?_, ?_, ?_, ?_, ?_, ?_, ?_, ?_, ?_, ?_, ?_, ?_, ?_, ?_, ?_, ?_, ?_, ?_⟩ <;> exact loseSegments_only _ (fun _ _ _ => rfl) r p s

theorem lostPage_only {β : Type} (π : State → β) (hπ : ∀ s xmap xdrn xfld xbed xheads xdmc xpoison, π { s with map := xmap, drn := xdrn, fld := xfld, bed := xbed, heads := xheads, dmc := xdmc, poison := xpoison } = π s) (r : BedRow) (p : StorePage) (s : State) :
    π (lostPage r p s) = π s := by
  unfold lostPage; repeat' first | contradiction | with_reducible rfl | with_reducible refine (mapOp_only π (fun s xmap xdrn => hπ s xmap xdrn s.fld s.bed s.heads s.dmc s.poison) _ _).trans ?_ | with_reducible refine (fillAll_only π (fun s xmap xdrn => hπ s xmap xdrn s.fld s.bed s.heads s.dmc s.poison) _).trans ?_ | with_reducible refine (loseGranule_only π (fun s xmap xdrn xfld xheads xdmc xpoison => hπ s xmap xdrn xfld s.bed xheads xdmc xpoison) _ _).trans ?_ | with_reducible refine (undoMove_only π (fun s xmap xdrn => hπ s xmap xdrn s.fld s.bed s.heads s.dmc s.poison) _ _ _ _).trans ?_ | with_reducible refine (loseSegments_only π (fun s xdrn xbed => hπ s s.map xdrn s.fld xbed s.heads s.dmc s.poison) _ _ _).trans ?_ | with_reducible refine (foldl_same π _ (fun s x => ?_) _ _).trans ?_ | with_reducible refine (elim_same π _ _ _ (fun x => ?_)).trans ?_ | split | with_reducible refine (hπ _ _ _ _ _ _ _ _).trans ?_ | dsimp only

@[simp] theorem lostPage_frame (r : BedRow) (p : StorePage) (s : State) :
    (lostPage r p s).dev = s.dev ∧ (lostPage r p s).gov = s.gov ∧ (lostPage r p s).flt = s.flt ∧ (lostPage r p s).tly = s.tly ∧
    (lostPage r p s).sal = s.sal ∧ (lostPage r p s).hrv = s.hrv ∧ (lostPage r p s).pip = s.pip ∧ (lostPage r p s).sem = s.sem ∧
    (lostPage r p s).pans = s.pans ∧ (lostPage r p s).trn = s.trn ∧ (lostPage r p s).thm = s.thm ∧ (lostPage r p s).cel = s.cel ∧
    (lostPage r p s).upd = s.upd ∧ (lostPage r p s).key = s.key ∧ (lostPage r p s).brl = s.brl ∧ (lostPage r p s).svc = s.svc ∧
    (lostPage r p s).pins = s.pins ∧ (lostPage r p s).lay = s.lay ∧ (lostPage r p s).jrn = s.jrn ∧
    (lostPage r p s).replies = s.replies ∧ (lostPage r p s).dram = s.dram ∧ (lostPage r p s).serial = s.serial ∧
    (lostPage r p s).boot = s.boot ∧ (lostPage r p s).free = s.free ∧ (lostPage r p s).pending = s.pending := by
  refine ⟨?_, ?_, ?_, ?_, ?_, ?_, ?_, ?_, ?_, ?_, ?_, ?_, ?_, ?_, ?_, ?_, ?_, ?_, ?_, ?_, ?_, ?_, ?_, ?_, ?_⟩ <;> exact lostPage_only _ (fun _ _ _ _ _ _ _ _ => rfl) r p s

theorem queueRow_only {β : Type} (π : State → β) (hπ : ∀ s xbed, π { s with bed := xbed } = π s) (seq : Nat) (cls : Nat) (s : State) :
    π (queueRow seq cls s) = π s := by
  unfold queueRow; repeat' first | contradiction | (simp only [hπ, rowUpd_only π hπ, apply_ite π, ite_self]; done) | split | refine (foldl_same π _ (fun s x => ?_) _ _).trans ?_ | refine (elim_same π _ _ _ (fun x => ?_)).trans ?_ | dsimp only

@[simp] theorem queueRow_frame (seq : Nat) (cls : Nat) (s : State) :
    (queueRow seq cls s).dev = s.dev ∧ (queueRow seq cls s).gov = s.gov ∧ (queueRow seq cls s).flt = s.flt ∧
    (queueRow seq cls s).tly = s.tly ∧ (queueRow seq cls s).sal = s.sal ∧ (queueRow seq cls s).map = s.map ∧
    (queueRow seq cls s).drn = s.drn ∧ (queueRow seq cls s).hrv = s.hrv ∧ (queueRow seq cls s).fld = s.fld ∧
    (queueRow seq cls s).pip = s.pip ∧ (queueRow seq cls s).heads = s.heads ∧ (queueRow seq cls s).sem = s.sem ∧
    (queueRow seq cls s).pans = s.pans ∧ (queueRow seq cls s).dmc = s.dmc ∧ (queueRow seq cls s).trn = s.trn ∧
    (queueRow seq cls s).thm = s.thm ∧ (queueRow seq cls s).cel = s.cel ∧ (queueRow seq cls s).upd = s.upd ∧
    (queueRow seq cls s).key = s.key ∧ (queueRow seq cls s).brl = s.brl ∧ (queueRow seq cls s).svc = s.svc ∧
    (queueRow seq cls s).pins = s.pins ∧ (queueRow seq cls s).lay = s.lay ∧ (queueRow seq cls s).jrn = s.jrn ∧
    (queueRow seq cls s).replies = s.replies ∧ (queueRow seq cls s).dram = s.dram ∧ (queueRow seq cls s).poison = s.poison ∧
    (queueRow seq cls s).serial = s.serial ∧ (queueRow seq cls s).boot = s.boot ∧ (queueRow seq cls s).free = s.free ∧
    (queueRow seq cls s).pending = s.pending := by
  refine ⟨?_, ?_, ?_, ?_, ?_, ?_, ?_, ?_, ?_, ?_, ?_, ?_, ?_, ?_, ?_, ?_, ?_, ?_, ?_, ?_, ?_, ?_, ?_, ?_, ?_, ?_, ?_, ?_, ?_, ?_, ?_⟩ <;> exact queueRow_only _ (fun _ _ => rfl) seq cls s

theorem loseRows_only {β : Type} (π : State → β) (hπ : ∀ s xmap xdrn xfld xbed xheads xdmc xpoison, π { s with map := xmap, drn := xdrn, fld := xfld, bed := xbed, heads := xheads, dmc := xdmc, poison := xpoison } = π s) (ch : Nat) (hit : BedRow → Bool) (s : State) :
    π (loseRows ch hit s) = π s := by
  unfold loseRows; repeat' first | contradiction | with_reducible rfl | with_reducible refine (lostPage_only π (fun s xmap xdrn xfld xbed xheads xdmc xpoison => hπ s xmap xdrn xfld xbed xheads xdmc xpoison) _ _ _).trans ?_ | with_reducible refine (queueRow_only π (fun s xbed => hπ s s.map s.drn s.fld xbed s.heads s.dmc s.poison) _ _ _).trans ?_ | with_reducible refine (foldl_same π _ (fun s x => ?_) _ _).trans ?_ | with_reducible refine (elim_same π _ _ _ (fun x => ?_)).trans ?_ | split | with_reducible refine (hπ _ _ _ _ _ _ _ _).trans ?_ | dsimp only

@[simp] theorem loseRows_frame (ch : Nat) (hit : BedRow → Bool) (s : State) :
    (loseRows ch hit s).dev = s.dev ∧ (loseRows ch hit s).gov = s.gov ∧ (loseRows ch hit s).flt = s.flt ∧
    (loseRows ch hit s).tly = s.tly ∧ (loseRows ch hit s).sal = s.sal ∧ (loseRows ch hit s).hrv = s.hrv ∧
    (loseRows ch hit s).pip = s.pip ∧ (loseRows ch hit s).sem = s.sem ∧ (loseRows ch hit s).pans = s.pans ∧
    (loseRows ch hit s).trn = s.trn ∧ (loseRows ch hit s).thm = s.thm ∧ (loseRows ch hit s).cel = s.cel ∧
    (loseRows ch hit s).upd = s.upd ∧ (loseRows ch hit s).key = s.key ∧ (loseRows ch hit s).brl = s.brl ∧
    (loseRows ch hit s).svc = s.svc ∧ (loseRows ch hit s).pins = s.pins ∧ (loseRows ch hit s).lay = s.lay ∧
    (loseRows ch hit s).jrn = s.jrn ∧ (loseRows ch hit s).replies = s.replies ∧ (loseRows ch hit s).dram = s.dram ∧
    (loseRows ch hit s).serial = s.serial ∧ (loseRows ch hit s).boot = s.boot ∧ (loseRows ch hit s).free = s.free ∧
    (loseRows ch hit s).pending = s.pending := by
  refine ⟨?_, ?_, ?_, ?_, ?_, ?_, ?_, ?_, ?_, ?_, ?_, ?_, ?_, ?_, ?_, ?_, ?_, ?_, ?_, ?_, ?_, ?_, ?_, ?_, ?_⟩ <;> exact loseRows_only _ (fun _ _ _ _ _ _ _ _ => rfl) ch hit s

theorem loseChannels_only {β : Type} (π : State → β) (hπ : ∀ s xmap xdrn xhrv xfld xbed xheads xdmc xpoison, π { s with map := xmap, drn := xdrn, hrv := xhrv, fld := xfld, bed := xbed, heads := xheads, dmc := xdmc, poison := xpoison } = π s) (chs : List Nat) (cause : Nat) (s : State) :
    π (loseChannels chs cause s) = π s := by
  unfold loseChannels; repeat' first | contradiction | with_reducible rfl | with_reducible refine (excludeChannels_only π (fun s xmap xdrn xhrv xbed => hπ s xmap xdrn xhrv s.fld xbed s.heads s.dmc s.poison) _ _ _).trans ?_ | with_reducible refine (closedParity_only π (fun s xdrn xhrv xbed => hπ s s.map xdrn xhrv s.fld xbed s.heads s.dmc s.poison) _).trans ?_ | with_reducible refine (loseRows_only π (fun s xmap xdrn xfld xbed xheads xdmc xpoison => hπ s xmap xdrn s.hrv xfld xbed xheads xdmc xpoison) _ _ _).trans ?_ | with_reducible refine (foldl_same π _ (fun s x => ?_) _ _).trans ?_ | with_reducible refine (elim_same π _ _ _ (fun x => ?_)).trans ?_ | split | with_reducible refine (hπ _ _ _ _ _ _ _ _ _).trans ?_ | dsimp only

@[simp] theorem loseChannels_frame (chs : List Nat) (cause : Nat) (s : State) :
    (loseChannels chs cause s).dev = s.dev ∧ (loseChannels chs cause s).gov = s.gov ∧ (loseChannels chs cause s).flt = s.flt ∧
    (loseChannels chs cause s).tly = s.tly ∧ (loseChannels chs cause s).sal = s.sal ∧ (loseChannels chs cause s).pip = s.pip ∧
    (loseChannels chs cause s).sem = s.sem ∧ (loseChannels chs cause s).pans = s.pans ∧ (loseChannels chs cause s).trn = s.trn ∧
    (loseChannels chs cause s).thm = s.thm ∧ (loseChannels chs cause s).cel = s.cel ∧ (loseChannels chs cause s).upd = s.upd ∧
    (loseChannels chs cause s).key = s.key ∧ (loseChannels chs cause s).brl = s.brl ∧ (loseChannels chs cause s).svc = s.svc ∧
    (loseChannels chs cause s).pins = s.pins ∧ (loseChannels chs cause s).lay = s.lay ∧ (loseChannels chs cause s).jrn = s.jrn ∧
    (loseChannels chs cause s).replies = s.replies ∧ (loseChannels chs cause s).dram = s.dram ∧
    (loseChannels chs cause s).serial = s.serial ∧ (loseChannels chs cause s).boot = s.boot ∧
    (loseChannels chs cause s).free = s.free ∧ (loseChannels chs cause s).pending = s.pending := by
  refine ⟨?_, ?_, ?_, ?_, ?_, ?_, ?_, ?_, ?_, ?_, ?_, ?_, ?_, ?_, ?_, ?_, ?_, ?_, ?_, ?_, ?_, ?_, ?_, ?_⟩ <;> exact loseChannels_only _ (fun _ _ _ _ _ _ _ _ _ => rfl) chs cause s

theorem dropClaimed_only {β : Type} (π : State → β) (hπ : ∀ s xmap xdrn xhrv xbed, π { s with map := xmap, drn := xdrn, hrv := xhrv, bed := xbed } = π s) (s : State) :
    π (dropClaimed s) = π s := by
  unfold dropClaimed; repeat' first | contradiction | (simp only [hπ, dropClaims_only π (fun s xmap => hπ s xmap s.drn s.hrv s.bed), dropDrain_only π hπ, foldl_same π, apply_ite π, ite_self]; done) | split | refine (foldl_same π _ (fun s x => ?_) _ _).trans ?_ | refine (elim_same π _ _ _ (fun x => ?_)).trans ?_ | dsimp only

@[simp] theorem dropClaimed_frame (s : State) :
    (dropClaimed s).dev = s.dev ∧ (dropClaimed s).gov = s.gov ∧ (dropClaimed s).flt = s.flt ∧ (dropClaimed s).tly = s.tly ∧
    (dropClaimed s).sal = s.sal ∧ (dropClaimed s).fld = s.fld ∧ (dropClaimed s).pip = s.pip ∧ (dropClaimed s).heads = s.heads ∧
    (dropClaimed s).sem = s.sem ∧ (dropClaimed s).pans = s.pans ∧ (dropClaimed s).dmc = s.dmc ∧ (dropClaimed s).trn = s.trn ∧
    (dropClaimed s).thm = s.thm ∧ (dropClaimed s).cel = s.cel ∧ (dropClaimed s).upd = s.upd ∧ (dropClaimed s).key = s.key ∧
    (dropClaimed s).brl = s.brl ∧ (dropClaimed s).svc = s.svc ∧ (dropClaimed s).pins = s.pins ∧ (dropClaimed s).lay = s.lay ∧
    (dropClaimed s).jrn = s.jrn ∧ (dropClaimed s).replies = s.replies ∧ (dropClaimed s).dram = s.dram ∧
    (dropClaimed s).poison = s.poison ∧ (dropClaimed s).serial = s.serial ∧ (dropClaimed s).boot = s.boot ∧
    (dropClaimed s).free = s.free ∧ (dropClaimed s).pending = s.pending := by
  refine ⟨?_, ?_, ?_, ?_, ?_, ?_, ?_, ?_, ?_, ?_, ?_, ?_, ?_, ?_, ?_, ?_, ?_, ?_, ?_, ?_, ?_, ?_, ?_, ?_, ?_, ?_, ?_, ?_⟩ <;> exact dropClaimed_only _ (fun _ _ _ _ _ => rfl) s

theorem fillGranule_only {β : Type} (π : State → β) (hπ : ∀ s xmap xdrn xfld xdmc xdram xpoison, π { s with map := xmap, drn := xdrn, fld := xfld, dmc := xdmc, dram := xdram, poison := xpoison } = π s) (g : Nat) (body : GranuleBytes) (s : State) :
    π (fillGranule g body s) = π s := by
  simp only [fillGranule, hπ, State.putGranule_only π (fun s xdram => hπ s s.map s.drn s.fld s.dmc xdram s.poison), State.poisonGranule_only π (fun s xpoison => hπ s s.map s.drn s.fld s.dmc s.dram xpoison), queueGranule_only π (fun s xdrn xdmc => hπ s s.map xdrn s.fld xdmc s.dram s.poison), setRestored_only π (fun s xmap xfld => hπ s xmap s.drn xfld s.dmc s.dram s.poison), apply_ite π, ite_self]

@[simp] theorem fillGranule_frame (g : Nat) (body : GranuleBytes) (s : State) :
    (fillGranule g body s).dev = s.dev ∧ (fillGranule g body s).gov = s.gov ∧ (fillGranule g body s).flt = s.flt ∧
    (fillGranule g body s).tly = s.tly ∧ (fillGranule g body s).sal = s.sal ∧ (fillGranule g body s).hrv = s.hrv ∧
    (fillGranule g body s).bed = s.bed ∧ (fillGranule g body s).pip = s.pip ∧ (fillGranule g body s).heads = s.heads ∧
    (fillGranule g body s).sem = s.sem ∧ (fillGranule g body s).pans = s.pans ∧ (fillGranule g body s).trn = s.trn ∧
    (fillGranule g body s).thm = s.thm ∧ (fillGranule g body s).cel = s.cel ∧ (fillGranule g body s).upd = s.upd ∧
    (fillGranule g body s).key = s.key ∧ (fillGranule g body s).brl = s.brl ∧ (fillGranule g body s).svc = s.svc ∧
    (fillGranule g body s).pins = s.pins ∧ (fillGranule g body s).lay = s.lay ∧ (fillGranule g body s).jrn = s.jrn ∧
    (fillGranule g body s).replies = s.replies ∧ (fillGranule g body s).serial = s.serial ∧ (fillGranule g body s).boot = s.boot ∧
    (fillGranule g body s).free = s.free ∧ (fillGranule g body s).pending = s.pending := by
  refine ⟨?_, ?_, ?_, ?_, ?_, ?_, ?_, ?_, ?_, ?_, ?_, ?_, ?_, ?_, ?_, ?_, ?_, ?_, ?_, ?_, ?_, ?_, ?_, ?_, ?_, ?_⟩ <;> exact fillGranule_only _ (fun _ _ _ _ _ _ _ => rfl) g body s

theorem restoreStored_only {β : Type} (π : State → β) (hπ : ∀ s xmap xdrn xfld xheads xdmc xdram xpoison, π { s with map := xmap, drn := xdrn, fld := xfld, heads := xheads, dmc := xdmc, dram := xdram, poison := xpoison } = π s) (g : Nat) (o : FetchEnd) (loc : HmLoc) (s : State) :
    π (restoreStored g o loc s) = π s := by
  unfold restoreStored; repeat' first | contradiction | with_reducible rfl | with_reducible refine (tickUpd_only π (fun s xdrn => hπ s s.map xdrn s.fld s.heads s.dmc s.dram s.poison) _ _).trans ?_ | with_reducible refine (loseGranule_only π (fun s xmap xdrn xfld xheads xdmc xpoison => hπ s xmap xdrn xfld xheads xdmc s.dram xpoison) _ _).trans ?_ | with_reducible refine (fillGranule_only π (fun s xmap xdrn xfld xdmc xdram xpoison => hπ s xmap xdrn xfld s.heads xdmc xdram xpoison) _ _ _).trans ?_ | with_reducible refine (foldl_same π _ (fun s x => ?_) _ _).trans ?_ | with_reducible refine (elim_same π _ _ _ (fun x => ?_)).trans ?_ | split | with_reducible refine (hπ _ _ _ _ _ _ _ _).trans ?_ | dsimp only

@[simp] theorem restoreStored_frame (g : Nat) (o : FetchEnd) (loc : HmLoc) (s : State) :
    (restoreStored g o loc s).dev = s.dev ∧ (restoreStored g o loc s).gov = s.gov ∧ (restoreStored g o loc s).flt = s.flt ∧
    (restoreStored g o loc s).tly = s.tly ∧ (restoreStored g o loc s).sal = s.sal ∧ (restoreStored g o loc s).hrv = s.hrv ∧
    (restoreStored g o loc s).bed = s.bed ∧ (restoreStored g o loc s).pip = s.pip ∧ (restoreStored g o loc s).sem = s.sem ∧
    (restoreStored g o loc s).pans = s.pans ∧ (restoreStored g o loc s).trn = s.trn ∧ (restoreStored g o loc s).thm = s.thm ∧
    (restoreStored g o loc s).cel = s.cel ∧ (restoreStored g o loc s).upd = s.upd ∧ (restoreStored g o loc s).key = s.key ∧
    (restoreStored g o loc s).brl = s.brl ∧ (restoreStored g o loc s).svc = s.svc ∧ (restoreStored g o loc s).pins = s.pins ∧
    (restoreStored g o loc s).lay = s.lay ∧ (restoreStored g o loc s).jrn = s.jrn ∧ (restoreStored g o loc s).replies = s.replies ∧
    (restoreStored g o loc s).serial = s.serial ∧ (restoreStored g o loc s).boot = s.boot ∧
    (restoreStored g o loc s).free = s.free ∧ (restoreStored g o loc s).pending = s.pending := by
  refine ⟨?_, ?_, ?_, ?_, ?_, ?_, ?_, ?_, ?_, ?_, ?_, ?_, ?_, ?_, ?_, ?_, ?_, ?_, ?_, ?_, ?_, ?_, ?_, ?_, ?_⟩ <;> exact restoreStored_only _ (fun _ _ _ _ _ _ _ _ => rfl) g o loc s

theorem memAnswer_only {β : Type} (π : State → β) (hπ : ∀ s xreplies, π { s with replies := xreplies } = π s) (h : Head) (r : MemResp) (s : State) :
    π (memAnswer h r s) = π s := by
  unfold memAnswer; repeat' first | contradiction | (simp only [hπ, apply_ite π, ite_self]; done) | split | refine (foldl_same π _ (fun s x => ?_) _ _).trans ?_ | refine (elim_same π _ _ _ (fun x => ?_)).trans ?_ | dsimp only

@[simp] theorem memAnswer_frame (h : Head) (r : MemResp) (s : State) :
    (memAnswer h r s).dev = s.dev ∧ (memAnswer h r s).gov = s.gov ∧ (memAnswer h r s).flt = s.flt ∧ (memAnswer h r s).tly = s.tly ∧
    (memAnswer h r s).sal = s.sal ∧ (memAnswer h r s).map = s.map ∧ (memAnswer h r s).drn = s.drn ∧ (memAnswer h r s).hrv = s.hrv ∧
    (memAnswer h r s).fld = s.fld ∧ (memAnswer h r s).bed = s.bed ∧ (memAnswer h r s).pip = s.pip ∧
    (memAnswer h r s).heads = s.heads ∧ (memAnswer h r s).sem = s.sem ∧ (memAnswer h r s).pans = s.pans ∧
    (memAnswer h r s).dmc = s.dmc ∧ (memAnswer h r s).trn = s.trn ∧ (memAnswer h r s).thm = s.thm ∧ (memAnswer h r s).cel = s.cel ∧
    (memAnswer h r s).upd = s.upd ∧ (memAnswer h r s).key = s.key ∧ (memAnswer h r s).brl = s.brl ∧ (memAnswer h r s).svc = s.svc ∧
    (memAnswer h r s).pins = s.pins ∧ (memAnswer h r s).lay = s.lay ∧ (memAnswer h r s).jrn = s.jrn ∧
    (memAnswer h r s).dram = s.dram ∧ (memAnswer h r s).poison = s.poison ∧ (memAnswer h r s).serial = s.serial ∧
    (memAnswer h r s).boot = s.boot ∧ (memAnswer h r s).free = s.free ∧ (memAnswer h r s).pending = s.pending := by
  refine ⟨?_, ?_, ?_, ?_, ?_, ?_, ?_, ?_, ?_, ?_, ?_, ?_, ?_, ?_, ?_, ?_, ?_, ?_, ?_, ?_, ?_, ?_, ?_, ?_, ?_, ?_, ?_, ?_, ?_, ?_, ?_⟩ <;> exact memAnswer_only _ (fun _ _ => rfl) h r s

theorem clearAnswers_only {β : Type} (π : State → β) (hπ : ∀ s xreplies, π { s with replies := xreplies } = π s) (s : State) :
    π (clearAnswers s) = π s := by
  simp only [clearAnswers, hπ, apply_ite π, ite_self]

@[simp] theorem clearAnswers_frame (s : State) :
    (clearAnswers s).dev = s.dev ∧ (clearAnswers s).gov = s.gov ∧ (clearAnswers s).flt = s.flt ∧ (clearAnswers s).tly = s.tly ∧
    (clearAnswers s).sal = s.sal ∧ (clearAnswers s).map = s.map ∧ (clearAnswers s).drn = s.drn ∧ (clearAnswers s).hrv = s.hrv ∧
    (clearAnswers s).fld = s.fld ∧ (clearAnswers s).bed = s.bed ∧ (clearAnswers s).pip = s.pip ∧ (clearAnswers s).heads = s.heads ∧
    (clearAnswers s).sem = s.sem ∧ (clearAnswers s).pans = s.pans ∧ (clearAnswers s).dmc = s.dmc ∧ (clearAnswers s).trn = s.trn ∧
    (clearAnswers s).thm = s.thm ∧ (clearAnswers s).cel = s.cel ∧ (clearAnswers s).upd = s.upd ∧ (clearAnswers s).key = s.key ∧
    (clearAnswers s).brl = s.brl ∧ (clearAnswers s).svc = s.svc ∧ (clearAnswers s).pins = s.pins ∧ (clearAnswers s).lay = s.lay ∧
    (clearAnswers s).jrn = s.jrn ∧ (clearAnswers s).dram = s.dram ∧ (clearAnswers s).poison = s.poison ∧
    (clearAnswers s).serial = s.serial ∧ (clearAnswers s).boot = s.boot ∧ (clearAnswers s).free = s.free ∧
    (clearAnswers s).pending = s.pending := by
  refine ⟨?_, ?_, ?_, ?_, ?_, ?_, ?_, ?_, ?_, ?_, ?_, ?_, ?_, ?_, ?_, ?_, ?_, ?_, ?_, ?_, ?_, ?_, ?_, ?_, ?_, ?_, ?_, ?_, ?_, ?_, ?_⟩ <;> exact clearAnswers_only _ (fun _ _ => rfl) s

theorem clearPoison_only {β : Type} (π : State → β) (hπ : ∀ s xmap xdrn xfld xheads xdmc xdram xpoison, π { s with map := xmap, drn := xdrn, fld := xfld, heads := xheads, dmc := xdmc, dram := xdram, poison := xpoison } = π s) (head : Head) (line : Nat) (data : List Byte) (s : State) :
    π (clearPoison head line data s) = π s := by
  unfold clearPoison; repeat' first | contradiction | (simp only [hπ, State.putBytes_only π (fun s xdram => hπ s s.map s.drn s.fld s.heads s.dmc xdram s.poison), State.poisonGranule_only π (fun s xpoison => hπ s s.map s.drn s.fld s.heads s.dmc s.dram xpoison), queueLine_only π (fun s xdmc => hπ s s.map s.drn s.fld s.heads xdmc s.dram s.poison), clearLost_only π (fun s xfld xheads => hπ s s.map s.drn xfld xheads s.dmc s.dram s.poison), commitPosted_only π hπ, commitPostedNow_only π hπ, foldl_same π, apply_ite π, ite_self]; done) | split | refine (foldl_same π _ (fun s x => ?_) _ _).trans ?_ | refine (elim_same π _ _ _ (fun x => ?_)).trans ?_ | with_reducible refine (State.putBytes_only π (fun s xdram => hπ s s.map s.drn s.fld s.heads s.dmc xdram s.poison) _ _ _).trans ?_ | with_reducible refine (State.poisonGranule_only π (fun s xpoison => hπ s s.map s.drn s.fld s.heads s.dmc s.dram xpoison) _ _ _).trans ?_ | with_reducible refine (queueLine_only π (fun s xdmc => hπ s s.map s.drn s.fld s.heads xdmc s.dram s.poison) _ _ _).trans ?_ | with_reducible refine (clearLost_only π (fun s xfld xheads => hπ s s.map s.drn xfld xheads s.dmc s.dram s.poison) _ _).trans ?_ | with_reducible refine (commitPosted_only π (fun s xmap xdrn xfld xheads xdmc xdram xpoison => hπ s xmap xdrn xfld xheads xdmc xdram xpoison) _ _).trans ?_ | with_reducible refine (commitPostedNow_only π (fun s xmap xdrn xfld xheads xdmc xdram xpoison => hπ s xmap xdrn xfld xheads xdmc xdram xpoison) _ _).trans ?_ | with_reducible refine (hπ _ _ _ _ _ _ _ _).trans ?_ | dsimp only

@[simp] theorem clearPoison_frame (head : Head) (line : Nat) (data : List Byte) (s : State) :
    (clearPoison head line data s).dev = s.dev ∧ (clearPoison head line data s).gov = s.gov ∧
    (clearPoison head line data s).flt = s.flt ∧ (clearPoison head line data s).tly = s.tly ∧
    (clearPoison head line data s).sal = s.sal ∧ (clearPoison head line data s).hrv = s.hrv ∧
    (clearPoison head line data s).bed = s.bed ∧ (clearPoison head line data s).pip = s.pip ∧
    (clearPoison head line data s).sem = s.sem ∧ (clearPoison head line data s).pans = s.pans ∧
    (clearPoison head line data s).trn = s.trn ∧ (clearPoison head line data s).thm = s.thm ∧
    (clearPoison head line data s).cel = s.cel ∧ (clearPoison head line data s).upd = s.upd ∧
    (clearPoison head line data s).key = s.key ∧ (clearPoison head line data s).brl = s.brl ∧
    (clearPoison head line data s).svc = s.svc ∧ (clearPoison head line data s).pins = s.pins ∧
    (clearPoison head line data s).lay = s.lay ∧ (clearPoison head line data s).jrn = s.jrn ∧
    (clearPoison head line data s).replies = s.replies ∧ (clearPoison head line data s).serial = s.serial ∧
    (clearPoison head line data s).boot = s.boot ∧ (clearPoison head line data s).free = s.free ∧
    (clearPoison head line data s).pending = s.pending := by
  refine ⟨?_, ?_, ?_, ?_, ?_, ?_, ?_, ?_, ?_, ?_, ?_, ?_, ?_, ?_, ?_, ?_, ?_, ?_, ?_, ?_, ?_, ?_, ?_, ?_, ?_⟩ <;> exact clearPoison_only _ (fun _ _ _ _ _ _ _ _ => rfl) head line data s

theorem serveWrite_only {β : Type} (π : State → β) (hπ : ∀ s xmap xdrn xfld xheads xdmc xreplies xdram xpoison, π { s with map := xmap, drn := xdrn, fld := xfld, heads := xheads, dmc := xdmc, replies := xreplies, dram := xdram, poison := xpoison } = π s) (q : HostReq) (posted : Bool) (mergeBad : Bool) (s : State) :
    π (serveWrite q posted mergeBad s) = π s := by
  unfold serveWrite; repeat' first | contradiction | (simp only [hπ, commitPosted_only π (fun s xmap xdrn xfld xheads xdmc xdram xpoison => hπ s xmap xdrn xfld xheads xdmc s.replies xdram xpoison), commitPostedNow_only π (fun s xmap xdrn xfld xheads xdmc xdram xpoison => hπ s xmap xdrn xfld xheads xdmc s.replies xdram xpoison), postedSync_only π (fun s xdmc => hπ s s.map s.drn s.fld s.heads xdmc s.replies s.dram s.poison), replyCxl_only π (fun s xreplies => hπ s s.map s.drn s.fld s.heads s.dmc xreplies s.dram s.poison), memAnswer_only π (fun s xreplies => hπ s s.map s.drn s.fld s.heads s.dmc xreplies s.dram s.poison), clearPoison_only π (fun s xmap xdrn xfld xheads xdmc xdram xpoison => hπ s xmap xdrn xfld xheads xdmc s.replies xdram xpoison), apply_ite π, ite_self]; done) | split | refine (foldl_same π _ (fun s x => ?_) _ _).trans ?_ | refine (elim_same π _ _ _ (fun x => ?_)).trans ?_ | dsimp only

@[simp] theorem serveWrite_frame (q : HostReq) (posted : Bool) (mergeBad : Bool) (s : State) :
    (serveWrite q posted mergeBad s).dev = s.dev ∧ (serveWrite q posted mergeBad s).gov = s.gov ∧
    (serveWrite q posted mergeBad s).flt = s.flt ∧ (serveWrite q posted mergeBad s).tly = s.tly ∧
    (serveWrite q posted mergeBad s).sal = s.sal ∧ (serveWrite q posted mergeBad s).hrv = s.hrv ∧
    (serveWrite q posted mergeBad s).bed = s.bed ∧ (serveWrite q posted mergeBad s).pip = s.pip ∧
    (serveWrite q posted mergeBad s).sem = s.sem ∧ (serveWrite q posted mergeBad s).pans = s.pans ∧
    (serveWrite q posted mergeBad s).trn = s.trn ∧ (serveWrite q posted mergeBad s).thm = s.thm ∧
    (serveWrite q posted mergeBad s).cel = s.cel ∧ (serveWrite q posted mergeBad s).upd = s.upd ∧
    (serveWrite q posted mergeBad s).key = s.key ∧ (serveWrite q posted mergeBad s).brl = s.brl ∧
    (serveWrite q posted mergeBad s).svc = s.svc ∧ (serveWrite q posted mergeBad s).pins = s.pins ∧
    (serveWrite q posted mergeBad s).lay = s.lay ∧ (serveWrite q posted mergeBad s).jrn = s.jrn ∧
    (serveWrite q posted mergeBad s).serial = s.serial ∧ (serveWrite q posted mergeBad s).boot = s.boot ∧
    (serveWrite q posted mergeBad s).free = s.free ∧ (serveWrite q posted mergeBad s).pending = s.pending := by
  refine ⟨?_, ?_, ?_, ?_, ?_, ?_, ?_, ?_, ?_, ?_, ?_, ?_, ?_, ?_, ?_, ?_, ?_, ?_, ?_, ?_, ?_, ?_, ?_, ?_⟩ <;> exact serveWrite_only _ (fun _ _ _ _ _ _ _ _ _ => rfl) q posted mergeBad s

theorem fetchJoin_only {β : Type} (π : State → β) (hπ : ∀ s xfld, π { s with fld := xfld } = π s) (q : HostReq) (s : State) :
    π (fetchJoin q s) = π s := by
  unfold fetchJoin; repeat' first | contradiction | (simp only [hπ, apply_ite π, ite_self]; done) | split | refine (foldl_same π _ (fun s x => ?_) _ _).trans ?_ | refine (elim_same π _ _ _ (fun x => ?_)).trans ?_ | dsimp only

@[simp] theorem fetchJoin_frame (q : HostReq) (s : State) :
    (fetchJoin q s).dev = s.dev ∧ (fetchJoin q s).gov = s.gov ∧ (fetchJoin q s).flt = s.flt ∧ (fetchJoin q s).tly = s.tly ∧
    (fetchJoin q s).sal = s.sal ∧ (fetchJoin q s).map = s.map ∧ (fetchJoin q s).drn = s.drn ∧ (fetchJoin q s).hrv = s.hrv ∧
    (fetchJoin q s).bed = s.bed ∧ (fetchJoin q s).pip = s.pip ∧ (fetchJoin q s).heads = s.heads ∧ (fetchJoin q s).sem = s.sem ∧
    (fetchJoin q s).pans = s.pans ∧ (fetchJoin q s).dmc = s.dmc ∧ (fetchJoin q s).trn = s.trn ∧ (fetchJoin q s).thm = s.thm ∧
    (fetchJoin q s).cel = s.cel ∧ (fetchJoin q s).upd = s.upd ∧ (fetchJoin q s).key = s.key ∧ (fetchJoin q s).brl = s.brl ∧
    (fetchJoin q s).svc = s.svc ∧ (fetchJoin q s).pins = s.pins ∧ (fetchJoin q s).lay = s.lay ∧ (fetchJoin q s).jrn = s.jrn ∧
    (fetchJoin q s).replies = s.replies ∧ (fetchJoin q s).dram = s.dram ∧ (fetchJoin q s).poison = s.poison ∧
    (fetchJoin q s).serial = s.serial ∧ (fetchJoin q s).boot = s.boot ∧ (fetchJoin q s).free = s.free ∧
    (fetchJoin q s).pending = s.pending := by
  refine ⟨?_, ?_, ?_, ?_, ?_, ?_, ?_, ?_, ?_, ?_, ?_, ?_, ?_, ?_, ?_, ?_, ?_, ?_, ?_, ?_, ?_, ?_, ?_, ?_, ?_, ?_, ?_, ?_, ?_, ?_, ?_⟩ <;> exact fetchJoin_only _ (fun _ _ => rfl) q s

theorem readLatency_only {β : Type} (π : State → β) (hπ : ∀ s xdmc, π { s with dmc := xdmc } = π s) (h : Head) (dpa : Nat) (ns : Nat) (s : State) :
    π (readLatency h dpa ns s) = π s := by
  unfold readLatency; repeat' first | contradiction | (simp only [hπ, dchanUpd_only π hπ, apply_ite π, ite_self]; done) | split | refine (foldl_same π _ (fun s x => ?_) _ _).trans ?_ | refine (elim_same π _ _ _ (fun x => ?_)).trans ?_ | dsimp only

@[simp] theorem readLatency_frame (h : Head) (dpa : Nat) (ns : Nat) (s : State) :
    (readLatency h dpa ns s).dev = s.dev ∧ (readLatency h dpa ns s).gov = s.gov ∧ (readLatency h dpa ns s).flt = s.flt ∧
    (readLatency h dpa ns s).tly = s.tly ∧ (readLatency h dpa ns s).sal = s.sal ∧ (readLatency h dpa ns s).map = s.map ∧
    (readLatency h dpa ns s).drn = s.drn ∧ (readLatency h dpa ns s).hrv = s.hrv ∧ (readLatency h dpa ns s).fld = s.fld ∧
    (readLatency h dpa ns s).bed = s.bed ∧ (readLatency h dpa ns s).pip = s.pip ∧ (readLatency h dpa ns s).heads = s.heads ∧
    (readLatency h dpa ns s).sem = s.sem ∧ (readLatency h dpa ns s).pans = s.pans ∧ (readLatency h dpa ns s).trn = s.trn ∧
    (readLatency h dpa ns s).thm = s.thm ∧ (readLatency h dpa ns s).cel = s.cel ∧ (readLatency h dpa ns s).upd = s.upd ∧
    (readLatency h dpa ns s).key = s.key ∧ (readLatency h dpa ns s).brl = s.brl ∧ (readLatency h dpa ns s).svc = s.svc ∧
    (readLatency h dpa ns s).pins = s.pins ∧ (readLatency h dpa ns s).lay = s.lay ∧ (readLatency h dpa ns s).jrn = s.jrn ∧
    (readLatency h dpa ns s).replies = s.replies ∧ (readLatency h dpa ns s).dram = s.dram ∧
    (readLatency h dpa ns s).poison = s.poison ∧ (readLatency h dpa ns s).serial = s.serial ∧
    (readLatency h dpa ns s).boot = s.boot ∧ (readLatency h dpa ns s).free = s.free ∧ (readLatency h dpa ns s).pending = s.pending := by
  refine ⟨?_, ?_, ?_, ?_, ?_, ?_, ?_, ?_, ?_, ?_, ?_, ?_, ?_, ?_, ?_, ?_, ?_, ?_, ?_, ?_, ?_, ?_, ?_, ?_, ?_, ?_, ?_, ?_, ?_, ?_, ?_⟩ <;> exact readLatency_only _ (fun _ _ => rfl) h dpa ns s

theorem spendCredit_only {β : Type} (π : State → β) (hπ : ∀ s xheads, π { s with heads := xheads } = π s) (h : Head) (s : State) :
    π (spendCredit h s) = π s := by
  simp only [spendCredit, hπ, apply_ite π, ite_self]

@[simp] theorem spendCredit_frame (h : Head) (s : State) :
    (spendCredit h s).dev = s.dev ∧ (spendCredit h s).gov = s.gov ∧ (spendCredit h s).flt = s.flt ∧ (spendCredit h s).tly = s.tly ∧
    (spendCredit h s).sal = s.sal ∧ (spendCredit h s).map = s.map ∧ (spendCredit h s).drn = s.drn ∧ (spendCredit h s).hrv = s.hrv ∧
    (spendCredit h s).fld = s.fld ∧ (spendCredit h s).bed = s.bed ∧ (spendCredit h s).pip = s.pip ∧ (spendCredit h s).sem = s.sem ∧
    (spendCredit h s).pans = s.pans ∧ (spendCredit h s).dmc = s.dmc ∧ (spendCredit h s).trn = s.trn ∧
    (spendCredit h s).thm = s.thm ∧ (spendCredit h s).cel = s.cel ∧ (spendCredit h s).upd = s.upd ∧ (spendCredit h s).key = s.key ∧
    (spendCredit h s).brl = s.brl ∧ (spendCredit h s).svc = s.svc ∧ (spendCredit h s).pins = s.pins ∧
    (spendCredit h s).lay = s.lay ∧ (spendCredit h s).jrn = s.jrn ∧ (spendCredit h s).replies = s.replies ∧
    (spendCredit h s).dram = s.dram ∧ (spendCredit h s).poison = s.poison ∧ (spendCredit h s).serial = s.serial ∧
    (spendCredit h s).boot = s.boot ∧ (spendCredit h s).free = s.free ∧ (spendCredit h s).pending = s.pending := by
  refine ⟨?_, ?_, ?_, ?_, ?_, ?_, ?_, ?_, ?_, ?_, ?_, ?_, ?_, ?_, ?_, ?_, ?_, ?_, ?_, ?_, ?_, ?_, ?_, ?_, ?_, ?_, ?_, ?_, ?_, ?_, ?_⟩ <;> exact spendCredit_only _ (fun _ _ => rfl) h s

theorem drainPosted_only {β : Type} (π : State → β) (hπ : ∀ s xmap xdrn xfld xheads xdmc xdram xpoison, π { s with map := xmap, drn := xdrn, fld := xfld, heads := xheads, dmc := xdmc, dram := xdram, poison := xpoison } = π s) (kib : Nat) (x0 : Nat) (s : State) :
    π (drainPosted kib x0 s) = π s := by
  induction x0 generalizing s with
  | zero => first | rfl | (unfold drainPosted; repeat' first | rfl | (simp only [hπ, commitPosted_only π hπ, apply_ite π, ite_self]; done) | split | dsimp only)
  | succ n ih => unfold drainPosted; repeat' first | contradiction | (simp only [hπ, commitPosted_only π hπ, apply_ite π, ite_self, ih]; done) | (rw [ih]; simp only [hπ, commitPosted_only π hπ, apply_ite π, ite_self]; done) | (rw [ih]; done) | refine (ih _).trans ?_ | refine (ih _ _).trans ?_ | split | refine (foldl_same π _ (fun s x => ?_) _ _).trans ?_ | dsimp only

@[simp] theorem drainPosted_frame (kib : Nat) (x0 : Nat) (s : State) :
    (drainPosted kib x0 s).dev = s.dev ∧ (drainPosted kib x0 s).gov = s.gov ∧ (drainPosted kib x0 s).flt = s.flt ∧
    (drainPosted kib x0 s).tly = s.tly ∧ (drainPosted kib x0 s).sal = s.sal ∧ (drainPosted kib x0 s).hrv = s.hrv ∧
    (drainPosted kib x0 s).bed = s.bed ∧ (drainPosted kib x0 s).pip = s.pip ∧ (drainPosted kib x0 s).sem = s.sem ∧
    (drainPosted kib x0 s).pans = s.pans ∧ (drainPosted kib x0 s).trn = s.trn ∧ (drainPosted kib x0 s).thm = s.thm ∧
    (drainPosted kib x0 s).cel = s.cel ∧ (drainPosted kib x0 s).upd = s.upd ∧ (drainPosted kib x0 s).key = s.key ∧
    (drainPosted kib x0 s).brl = s.brl ∧ (drainPosted kib x0 s).svc = s.svc ∧ (drainPosted kib x0 s).pins = s.pins ∧
    (drainPosted kib x0 s).lay = s.lay ∧ (drainPosted kib x0 s).jrn = s.jrn ∧ (drainPosted kib x0 s).replies = s.replies ∧
    (drainPosted kib x0 s).serial = s.serial ∧ (drainPosted kib x0 s).boot = s.boot ∧ (drainPosted kib x0 s).free = s.free ∧
    (drainPosted kib x0 s).pending = s.pending := by
  refine ⟨?_, ?_, ?_, ?_, ?_, ?_, ?_, ?_, ?_, ?_, ?_, ?_, ?_, ?_, ?_, ?_, ?_, ?_, ?_, ?_, ?_, ?_, ?_, ?_, ?_⟩ <;> exact drainPosted_only _ (fun _ _ _ _ _ _ _ _ => rfl) kib x0 s

theorem unreadablePage_only {β : Type} (π : State → β) (hπ : ∀ s xmap xdrn xfld xheads xdmc xpoison, π { s with map := xmap, drn := xdrn, fld := xfld, heads := xheads, dmc := xdmc, poison := xpoison } = π s) (r : BedRow) (p : StorePage) (s : State) :
    π (unreadablePage r p s) = π s := by
  unfold unreadablePage; repeat' first | contradiction | with_reducible rfl | with_reducible refine (mapOp_only π (fun s xmap xdrn => hπ s xmap xdrn s.fld s.heads s.dmc s.poison) _ _).trans ?_ | with_reducible refine (fillAll_only π (fun s xmap xdrn => hπ s xmap xdrn s.fld s.heads s.dmc s.poison) _).trans ?_ | with_reducible refine (loseGranule_only π (fun s xmap xdrn xfld xheads xdmc xpoison => hπ s xmap xdrn xfld xheads xdmc xpoison) _ _).trans ?_ | with_reducible refine (foldl_same π _ (fun s x => ?_) _ _).trans ?_ | with_reducible refine (elim_same π _ _ _ (fun x => ?_)).trans ?_ | split | with_reducible refine (hπ _ _ _ _ _ _ _).trans ?_ | dsimp only

@[simp] theorem unreadablePage_frame (r : BedRow) (p : StorePage) (s : State) :
    (unreadablePage r p s).dev = s.dev ∧ (unreadablePage r p s).gov = s.gov ∧ (unreadablePage r p s).flt = s.flt ∧
    (unreadablePage r p s).tly = s.tly ∧ (unreadablePage r p s).sal = s.sal ∧ (unreadablePage r p s).hrv = s.hrv ∧
    (unreadablePage r p s).bed = s.bed ∧ (unreadablePage r p s).pip = s.pip ∧ (unreadablePage r p s).sem = s.sem ∧
    (unreadablePage r p s).pans = s.pans ∧ (unreadablePage r p s).trn = s.trn ∧ (unreadablePage r p s).thm = s.thm ∧
    (unreadablePage r p s).cel = s.cel ∧ (unreadablePage r p s).upd = s.upd ∧ (unreadablePage r p s).key = s.key ∧
    (unreadablePage r p s).brl = s.brl ∧ (unreadablePage r p s).svc = s.svc ∧ (unreadablePage r p s).pins = s.pins ∧
    (unreadablePage r p s).lay = s.lay ∧ (unreadablePage r p s).jrn = s.jrn ∧ (unreadablePage r p s).replies = s.replies ∧
    (unreadablePage r p s).dram = s.dram ∧ (unreadablePage r p s).serial = s.serial ∧ (unreadablePage r p s).boot = s.boot ∧
    (unreadablePage r p s).free = s.free ∧ (unreadablePage r p s).pending = s.pending := by
  refine ⟨?_, ?_, ?_, ?_, ?_, ?_, ?_, ?_, ?_, ?_, ?_, ?_, ?_, ?_, ?_, ?_, ?_, ?_, ?_, ?_, ?_, ?_, ?_, ?_, ?_, ?_⟩ <;> exact unreadablePage_only _ (fun _ _ _ _ _ _ _ => rfl) r p s

theorem moveRec_only {β : Type} (π : State → β) (hπ : ∀ s xmap xdrn xfld xbed xheads xdmc xpoison, π { s with map := xmap, drn := xdrn, fld := xfld, bed := xbed, heads := xheads, dmc := xdmc, poison := xpoison } = π s) (v : BedRow) (g : Nat) (s : State) :
    π (moveRec v g s) = π s := by
  unfold moveRec
  dsimp only
  split
  · rfl
  · split
    · rfl
    · split
      · split
        · refine (fillAll_only π (fun s m d => hπ s m d s.fld s.bed s.heads s.dmc s.poison) _).trans ?_
          exact mapOp_only π (fun s m d => hπ s m d s.fld s.bed s.heads s.dmc s.poison) _ _
        · exact loseGranule_only π (fun s a b c d e f => hπ s a b c s.bed d e f) _ _
      · split
        · rfl
        · rename_i t h
          exact (tickUpd_only π (fun s x => hπ s s.map x s.fld s.bed s.heads s.dmc s.poison) _ _).trans
            (stageIn_only π (fun s x => hπ s s.map s.drn s.fld x s.heads s.dmc s.poison) h)

@[simp] theorem moveRec_frame (v : BedRow) (g : Nat) (s : State) :
    (moveRec v g s).dev = s.dev ∧ (moveRec v g s).gov = s.gov ∧ (moveRec v g s).flt = s.flt ∧ (moveRec v g s).tly = s.tly ∧
    (moveRec v g s).sal = s.sal ∧ (moveRec v g s).hrv = s.hrv ∧ (moveRec v g s).pip = s.pip ∧ (moveRec v g s).sem = s.sem ∧
    (moveRec v g s).pans = s.pans ∧ (moveRec v g s).trn = s.trn ∧ (moveRec v g s).thm = s.thm ∧ (moveRec v g s).cel = s.cel ∧
    (moveRec v g s).upd = s.upd ∧ (moveRec v g s).key = s.key ∧ (moveRec v g s).brl = s.brl ∧ (moveRec v g s).svc = s.svc ∧
    (moveRec v g s).pins = s.pins ∧ (moveRec v g s).lay = s.lay ∧ (moveRec v g s).jrn = s.jrn ∧
    (moveRec v g s).replies = s.replies ∧ (moveRec v g s).dram = s.dram ∧ (moveRec v g s).serial = s.serial ∧
    (moveRec v g s).boot = s.boot ∧ (moveRec v g s).free = s.free ∧ (moveRec v g s).pending = s.pending := by
  refine ⟨?_, ?_, ?_, ?_, ?_, ?_, ?_, ?_, ?_, ?_, ?_, ?_, ?_, ?_, ?_, ?_, ?_, ?_, ?_, ?_, ?_, ?_, ?_, ?_, ?_⟩ <;> exact moveRec_only _ (fun _ _ _ _ _ _ _ _ => rfl) v g s

theorem moveLines_only {β : Type} (π : State → β) (hπ : ∀ s xdrn xbed, π { s with drn := xdrn, bed := xbed } = π s) (v : BedRow) (n : Nat) (s : State) :
    π (moveLines v n s) = π s := by
  unfold moveLines
  dsimp only
  split
  · rfl
  · split
    · rfl
    · rename_i t h
      exact (tickUpd_only π (fun s x => hπ s x s.bed) _ _).trans (stageSegment_only π hπ h)

@[simp] theorem moveLines_frame (v : BedRow) (n : Nat) (s : State) :
    (moveLines v n s).dev = s.dev ∧ (moveLines v n s).gov = s.gov ∧ (moveLines v n s).flt = s.flt ∧ (moveLines v n s).tly = s.tly ∧
    (moveLines v n s).sal = s.sal ∧ (moveLines v n s).map = s.map ∧ (moveLines v n s).hrv = s.hrv ∧ (moveLines v n s).fld = s.fld ∧
    (moveLines v n s).pip = s.pip ∧ (moveLines v n s).heads = s.heads ∧ (moveLines v n s).sem = s.sem ∧
    (moveLines v n s).pans = s.pans ∧ (moveLines v n s).dmc = s.dmc ∧ (moveLines v n s).trn = s.trn ∧
    (moveLines v n s).thm = s.thm ∧ (moveLines v n s).cel = s.cel ∧ (moveLines v n s).upd = s.upd ∧ (moveLines v n s).key = s.key ∧
    (moveLines v n s).brl = s.brl ∧ (moveLines v n s).svc = s.svc ∧ (moveLines v n s).pins = s.pins ∧
    (moveLines v n s).lay = s.lay ∧ (moveLines v n s).jrn = s.jrn ∧ (moveLines v n s).replies = s.replies ∧
    (moveLines v n s).dram = s.dram ∧ (moveLines v n s).poison = s.poison ∧ (moveLines v n s).serial = s.serial ∧
    (moveLines v n s).boot = s.boot ∧ (moveLines v n s).free = s.free ∧ (moveLines v n s).pending = s.pending := by
  refine ⟨?_, ?_, ?_, ?_, ?_, ?_, ?_, ?_, ?_, ?_, ?_, ?_, ?_, ?_, ?_, ?_, ?_, ?_, ?_, ?_, ?_, ?_, ?_, ?_, ?_, ?_, ?_, ?_, ?_, ?_⟩ <;> exact moveLines_only _ (fun _ _ _ => rfl) v n s

theorem moveTable_only {β : Type} (π : State → β) (hπ : ∀ s xmap xdrn xhrv xbed, π { s with map := xmap, drn := xdrn, hrv := xhrv, bed := xbed } = π s) (v : BedRow) (s : State) :
    π (moveTable v s) = π s := by
  unfold moveTable; repeat' first | contradiction | (simp only [hπ, writeBlockTable_only π hπ, apply_ite π, ite_self]; done) | with_reducible refine (writeBlockTable_only π (fun s xmap xdrn xhrv xbed => hπ s xmap xdrn xhrv xbed) _).trans ?_ | with_reducible refine (hπ _ _ _ _ _).trans ?_ | refine (foldl_same π _ (fun s x => ?_) _ _).trans ?_ | refine (elim_same π _ _ _ (fun x => ?_)).trans ?_ | split | dsimp only

@[simp] theorem moveTable_frame (v : BedRow) (s : State) :
    (moveTable v s).dev = s.dev ∧ (moveTable v s).gov = s.gov ∧ (moveTable v s).flt = s.flt ∧ (moveTable v s).tly = s.tly ∧
    (moveTable v s).sal = s.sal ∧ (moveTable v s).fld = s.fld ∧ (moveTable v s).pip = s.pip ∧ (moveTable v s).heads = s.heads ∧
    (moveTable v s).sem = s.sem ∧ (moveTable v s).pans = s.pans ∧ (moveTable v s).dmc = s.dmc ∧ (moveTable v s).trn = s.trn ∧
    (moveTable v s).thm = s.thm ∧ (moveTable v s).cel = s.cel ∧ (moveTable v s).upd = s.upd ∧ (moveTable v s).key = s.key ∧
    (moveTable v s).brl = s.brl ∧ (moveTable v s).svc = s.svc ∧ (moveTable v s).pins = s.pins ∧ (moveTable v s).lay = s.lay ∧
    (moveTable v s).jrn = s.jrn ∧ (moveTable v s).replies = s.replies ∧ (moveTable v s).dram = s.dram ∧
    (moveTable v s).poison = s.poison ∧ (moveTable v s).serial = s.serial ∧ (moveTable v s).boot = s.boot ∧
    (moveTable v s).free = s.free ∧ (moveTable v s).pending = s.pending := by
  refine ⟨?_, ?_, ?_, ?_, ?_, ?_, ?_, ?_, ?_, ?_, ?_, ?_, ?_, ?_, ?_, ?_, ?_, ?_, ?_, ?_, ?_, ?_, ?_, ?_, ?_, ?_, ?_, ?_⟩ <;> exact moveTable_only _ (fun _ _ _ _ _ => rfl) v s

theorem eraseRow_only {β : Type} (π : State → β) (hπ : ∀ s xbed xjrn, π { s with bed := xbed, jrn := xjrn } = π s) (r : BedRow) (s : State) :
    π (eraseRow r s) = π s := by
  unfold eraseRow; repeat' first | contradiction | (simp only [hπ, blkUpd_only π (fun s xbed => hπ s xbed s.jrn), retireBlock_only π hπ, foldl_same π, apply_ite π, ite_self]; done) | split | refine (foldl_same π _ (fun s x => ?_) _ _).trans ?_ | refine (elim_same π _ _ _ (fun x => ?_)).trans ?_ | dsimp only

@[simp] theorem eraseRow_frame (r : BedRow) (s : State) :
    (eraseRow r s).dev = s.dev ∧ (eraseRow r s).gov = s.gov ∧ (eraseRow r s).flt = s.flt ∧ (eraseRow r s).tly = s.tly ∧
    (eraseRow r s).sal = s.sal ∧ (eraseRow r s).map = s.map ∧ (eraseRow r s).drn = s.drn ∧ (eraseRow r s).hrv = s.hrv ∧
    (eraseRow r s).fld = s.fld ∧ (eraseRow r s).pip = s.pip ∧ (eraseRow r s).heads = s.heads ∧ (eraseRow r s).sem = s.sem ∧
    (eraseRow r s).pans = s.pans ∧ (eraseRow r s).dmc = s.dmc ∧ (eraseRow r s).trn = s.trn ∧ (eraseRow r s).thm = s.thm ∧
    (eraseRow r s).cel = s.cel ∧ (eraseRow r s).upd = s.upd ∧ (eraseRow r s).key = s.key ∧ (eraseRow r s).brl = s.brl ∧
    (eraseRow r s).svc = s.svc ∧ (eraseRow r s).pins = s.pins ∧ (eraseRow r s).lay = s.lay ∧ (eraseRow r s).replies = s.replies ∧
    (eraseRow r s).dram = s.dram ∧ (eraseRow r s).poison = s.poison ∧ (eraseRow r s).serial = s.serial ∧
    (eraseRow r s).boot = s.boot ∧ (eraseRow r s).free = s.free ∧ (eraseRow r s).pending = s.pending := by
  refine ⟨?_, ?_, ?_, ?_, ?_, ?_, ?_, ?_, ?_, ?_, ?_, ?_, ?_, ?_, ?_, ?_, ?_, ?_, ?_, ?_, ?_, ?_, ?_, ?_, ?_, ?_, ?_, ?_, ?_, ?_⟩ <;> exact eraseRow_only _ (fun _ _ _ => rfl) r s

theorem levelRows_only {β : Type} (π : State → β) (hπ : ∀ s xbed, π { s with bed := xbed } = π s) (s : State) :
    π (levelRows s) = π s := by
  unfold levelRows; repeat' first | contradiction | (simp only [hπ, foldl_same π, apply_ite π, ite_self]; done) | split | refine (foldl_same π _ (fun s x => ?_) _ _).trans ?_ | refine (elim_same π _ _ _ (fun x => ?_)).trans ?_ | dsimp only

@[simp] theorem levelRows_frame (s : State) :
    (levelRows s).dev = s.dev ∧ (levelRows s).gov = s.gov ∧ (levelRows s).flt = s.flt ∧ (levelRows s).tly = s.tly ∧
    (levelRows s).sal = s.sal ∧ (levelRows s).map = s.map ∧ (levelRows s).drn = s.drn ∧ (levelRows s).hrv = s.hrv ∧
    (levelRows s).fld = s.fld ∧ (levelRows s).pip = s.pip ∧ (levelRows s).heads = s.heads ∧ (levelRows s).sem = s.sem ∧
    (levelRows s).pans = s.pans ∧ (levelRows s).dmc = s.dmc ∧ (levelRows s).trn = s.trn ∧ (levelRows s).thm = s.thm ∧
    (levelRows s).cel = s.cel ∧ (levelRows s).upd = s.upd ∧ (levelRows s).key = s.key ∧ (levelRows s).brl = s.brl ∧
    (levelRows s).svc = s.svc ∧ (levelRows s).pins = s.pins ∧ (levelRows s).lay = s.lay ∧ (levelRows s).jrn = s.jrn ∧
    (levelRows s).replies = s.replies ∧ (levelRows s).dram = s.dram ∧ (levelRows s).poison = s.poison ∧
    (levelRows s).serial = s.serial ∧ (levelRows s).boot = s.boot ∧ (levelRows s).free = s.free ∧ (levelRows s).pending = s.pending := by
  refine ⟨?_, ?_, ?_, ?_, ?_, ?_, ?_, ?_, ?_, ?_, ?_, ?_, ?_, ?_, ?_, ?_, ?_, ?_, ?_, ?_, ?_, ?_, ?_, ?_, ?_, ?_, ?_, ?_, ?_, ?_, ?_⟩ <;> exact levelRows_only _ (fun _ _ => rfl) s

theorem aonLost_only {β : Type} (π : State → β) (hπ : ∀ s xdev xflt xsal xthm xupd xpins, π { s with dev := xdev, flt := xflt, sal := xsal, thm := xthm, upd := xupd, pins := xpins } = π s) (s : State) :
    π (aonLost s) = π s := by
  simp only [aonLost, hπ, apply_ite π, ite_self]

@[simp] theorem aonLost_frame (s : State) :
    (aonLost s).gov = s.gov ∧ (aonLost s).tly = s.tly ∧ (aonLost s).map = s.map ∧ (aonLost s).drn = s.drn ∧
    (aonLost s).hrv = s.hrv ∧ (aonLost s).fld = s.fld ∧ (aonLost s).bed = s.bed ∧ (aonLost s).pip = s.pip ∧
    (aonLost s).heads = s.heads ∧ (aonLost s).sem = s.sem ∧ (aonLost s).pans = s.pans ∧ (aonLost s).dmc = s.dmc ∧
    (aonLost s).trn = s.trn ∧ (aonLost s).cel = s.cel ∧ (aonLost s).key = s.key ∧ (aonLost s).brl = s.brl ∧
    (aonLost s).svc = s.svc ∧ (aonLost s).lay = s.lay ∧ (aonLost s).jrn = s.jrn ∧ (aonLost s).replies = s.replies ∧
    (aonLost s).dram = s.dram ∧ (aonLost s).poison = s.poison ∧ (aonLost s).serial = s.serial ∧ (aonLost s).boot = s.boot ∧
    (aonLost s).free = s.free ∧ (aonLost s).pending = s.pending := by
  refine ⟨?_, ?_, ?_, ?_, ?_, ?_, ?_, ?_, ?_, ?_, ?_, ?_, ?_, ?_, ?_, ?_, ?_, ?_, ?_, ?_, ?_, ?_, ?_, ?_, ?_, ?_⟩ <;> exact aonLost_only _ (fun _ _ _ _ _ _ _ => rfl) s

theorem enterRecovery_only {β : Type} (π : State → β) (hπ : ∀ s xdev xsal xheads xupd xsvc, π { s with dev := xdev, sal := xsal, heads := xheads, upd := xupd, svc := xsvc } = π s) (cause : Nat) (s : State) :
    π (enterRecovery cause s) = π s := by
  unfold enterRecovery; repeat' first | contradiction | (simp only [hπ, dropHeads_only π (fun s xheads => hπ s s.dev s.sal xheads s.upd s.svc), apply_ite π, ite_self]; done) | split | refine (foldl_same π _ (fun s x => ?_) _ _).trans ?_ | refine (elim_same π _ _ _ (fun x => ?_)).trans ?_ | dsimp only

@[simp] theorem enterRecovery_frame (cause : Nat) (s : State) :
    (enterRecovery cause s).gov = s.gov ∧ (enterRecovery cause s).flt = s.flt ∧ (enterRecovery cause s).tly = s.tly ∧
    (enterRecovery cause s).map = s.map ∧ (enterRecovery cause s).drn = s.drn ∧ (enterRecovery cause s).hrv = s.hrv ∧
    (enterRecovery cause s).fld = s.fld ∧ (enterRecovery cause s).bed = s.bed ∧ (enterRecovery cause s).pip = s.pip ∧
    (enterRecovery cause s).sem = s.sem ∧ (enterRecovery cause s).pans = s.pans ∧ (enterRecovery cause s).dmc = s.dmc ∧
    (enterRecovery cause s).trn = s.trn ∧ (enterRecovery cause s).thm = s.thm ∧ (enterRecovery cause s).cel = s.cel ∧
    (enterRecovery cause s).key = s.key ∧ (enterRecovery cause s).brl = s.brl ∧ (enterRecovery cause s).pins = s.pins ∧
    (enterRecovery cause s).lay = s.lay ∧ (enterRecovery cause s).jrn = s.jrn ∧ (enterRecovery cause s).replies = s.replies ∧
    (enterRecovery cause s).dram = s.dram ∧ (enterRecovery cause s).poison = s.poison ∧ (enterRecovery cause s).serial = s.serial ∧
    (enterRecovery cause s).boot = s.boot ∧ (enterRecovery cause s).free = s.free ∧ (enterRecovery cause s).pending = s.pending := by
  refine ⟨?_, ?_, ?_, ?_, ?_, ?_, ?_, ?_, ?_, ?_, ?_, ?_, ?_, ?_, ?_, ?_, ?_, ?_, ?_, ?_, ?_, ?_, ?_, ?_, ?_, ?_, ?_⟩ <;> exact enterRecovery_only _ (fun _ _ _ _ _ _ => rfl) cause s

theorem trimSync_only {β : Type} (π : State → β) (hπ : ∀ s xthm, π { s with thm := xthm } = π s) (s : State) :
    π (trimSync s) = π s := by
  unfold trimSync; repeat' first | contradiction | (simp only [hπ, apply_ite π, ite_self]; done) | split | refine (foldl_same π _ (fun s x => ?_) _ _).trans ?_ | refine (elim_same π _ _ _ (fun x => ?_)).trans ?_ | dsimp only

@[simp] theorem trimSync_frame (s : State) :
    (trimSync s).dev = s.dev ∧ (trimSync s).gov = s.gov ∧ (trimSync s).flt = s.flt ∧ (trimSync s).tly = s.tly ∧
    (trimSync s).sal = s.sal ∧ (trimSync s).map = s.map ∧ (trimSync s).drn = s.drn ∧ (trimSync s).hrv = s.hrv ∧
    (trimSync s).fld = s.fld ∧ (trimSync s).bed = s.bed ∧ (trimSync s).pip = s.pip ∧ (trimSync s).heads = s.heads ∧
    (trimSync s).sem = s.sem ∧ (trimSync s).pans = s.pans ∧ (trimSync s).dmc = s.dmc ∧ (trimSync s).trn = s.trn ∧
    (trimSync s).cel = s.cel ∧ (trimSync s).upd = s.upd ∧ (trimSync s).key = s.key ∧ (trimSync s).brl = s.brl ∧
    (trimSync s).svc = s.svc ∧ (trimSync s).pins = s.pins ∧ (trimSync s).lay = s.lay ∧ (trimSync s).jrn = s.jrn ∧
    (trimSync s).replies = s.replies ∧ (trimSync s).dram = s.dram ∧ (trimSync s).poison = s.poison ∧
    (trimSync s).serial = s.serial ∧ (trimSync s).boot = s.boot ∧ (trimSync s).free = s.free ∧ (trimSync s).pending = s.pending := by
  refine ⟨?_, ?_, ?_, ?_, ?_, ?_, ?_, ?_, ?_, ?_, ?_, ?_, ?_, ?_, ?_, ?_, ?_, ?_, ?_, ?_, ?_, ?_, ?_, ?_, ?_, ?_, ?_, ?_, ?_, ?_, ?_⟩ <;> exact trimSync_only _ (fun _ _ => rfl) s

theorem requestStep_only {β : Type} (π : State → β) (hπ : ∀ s xdmc xtrn xpending, π { s with dmc := xdmc, trn := xtrn, pending := xpending } = π s) (s : State) :
    π (requestStep s) = π s := by
  unfold requestStep; repeat' first | contradiction | with_reducible rfl | with_reducible refine (requestSet_only π (fun s xdmc xtrn xpending => hπ s xdmc xtrn xpending) _ _).trans ?_ | with_reducible refine (foldl_same π _ (fun s x => ?_) _ _).trans ?_ | with_reducible refine (elim_same π _ _ _ (fun x => ?_)).trans ?_ | split | with_reducible refine (hπ _ _ _ _).trans ?_ | dsimp only

@[simp] theorem requestStep_frame (s : State) :
    (requestStep s).dev = s.dev ∧ (requestStep s).gov = s.gov ∧ (requestStep s).flt = s.flt ∧ (requestStep s).tly = s.tly ∧
    (requestStep s).sal = s.sal ∧ (requestStep s).map = s.map ∧ (requestStep s).drn = s.drn ∧ (requestStep s).hrv = s.hrv ∧
    (requestStep s).fld = s.fld ∧ (requestStep s).bed = s.bed ∧ (requestStep s).pip = s.pip ∧ (requestStep s).heads = s.heads ∧
    (requestStep s).sem = s.sem ∧ (requestStep s).pans = s.pans ∧ (requestStep s).thm = s.thm ∧ (requestStep s).cel = s.cel ∧
    (requestStep s).upd = s.upd ∧ (requestStep s).key = s.key ∧ (requestStep s).brl = s.brl ∧ (requestStep s).svc = s.svc ∧
    (requestStep s).pins = s.pins ∧ (requestStep s).lay = s.lay ∧ (requestStep s).jrn = s.jrn ∧
    (requestStep s).replies = s.replies ∧ (requestStep s).dram = s.dram ∧ (requestStep s).poison = s.poison ∧
    (requestStep s).serial = s.serial ∧ (requestStep s).boot = s.boot ∧ (requestStep s).free = s.free := by
  refine ⟨?_, ?_, ?_, ?_, ?_, ?_, ?_, ?_, ?_, ?_, ?_, ?_, ?_, ?_, ?_, ?_, ?_, ?_, ?_, ?_, ?_, ?_, ?_, ?_, ?_, ?_, ?_, ?_, ?_⟩ <;> exact requestStep_only _ (fun _ _ _ _ => rfl) s

theorem thermalHalt_only {β : Type} (π : State → β) (hπ : ∀ s xdev xgov xflt xtly xsal xdrn xheads xthm xcel xpins xdram xpoison xfree, π { s with dev := xdev, gov := xgov, flt := xflt, tly := xtly, sal := xsal, drn := xdrn, heads := xheads, thm := xthm, cel := xcel, pins := xpins, dram := xdram, poison := xpoison, free := xfree } = π s) (cause : Nat) (e : Nat × Int) (s : State) :
    π (thermalHalt cause e s) = π s := by
  simp only [thermalHalt, hπ, enterHalt_only π hπ, apply_ite π, ite_self]

@[simp] theorem thermalHalt_frame (cause : Nat) (e : Nat × Int) (s : State) :
    (thermalHalt cause e s).map = s.map ∧ (thermalHalt cause e s).hrv = s.hrv ∧ (thermalHalt cause e s).fld = s.fld ∧
    (thermalHalt cause e s).bed = s.bed ∧ (thermalHalt cause e s).pip = s.pip ∧ (thermalHalt cause e s).sem = s.sem ∧
    (thermalHalt cause e s).pans = s.pans ∧ (thermalHalt cause e s).dmc = s.dmc ∧ (thermalHalt cause e s).trn = s.trn ∧
    (thermalHalt cause e s).upd = s.upd ∧ (thermalHalt cause e s).key = s.key ∧ (thermalHalt cause e s).brl = s.brl ∧
    (thermalHalt cause e s).svc = s.svc ∧ (thermalHalt cause e s).lay = s.lay ∧ (thermalHalt cause e s).jrn = s.jrn ∧
    (thermalHalt cause e s).replies = s.replies ∧ (thermalHalt cause e s).serial = s.serial ∧
    (thermalHalt cause e s).boot = s.boot ∧ (thermalHalt cause e s).pending = s.pending := by
  refine ⟨?_, ?_, ?_, ?_, ?_, ?_, ?_, ?_, ?_, ?_, ?_, ?_, ?_, ?_, ?_, ?_, ?_, ?_, ?_⟩ <;> exact thermalHalt_only _ (fun _ _ _ _ _ _ _ _ _ _ _ _ _ _ => rfl) cause e s

theorem shedTo_only {β : Type} (π : State → β) (hπ : ∀ s xmap xdrn xhrv xbed, π { s with map := xmap, drn := xdrn, hrv := xhrv, bed := xbed } = π s) (step : Nat) (s : State) :
    π (shedTo step s) = π s := by
  unfold shedTo; repeat' first | contradiction | (simp only [hπ, narrowRows_only π (fun s xbed => hπ s s.map s.drn s.hrv xbed), pageDone_only π hπ, foldl_same π, apply_ite π, ite_self]; done) | split | refine (foldl_same π _ (fun s x => ?_) _ _).trans ?_ | refine (elim_same π _ _ _ (fun x => ?_)).trans ?_ | with_reducible refine (narrowRows_only π (fun s xbed => hπ s s.map s.drn s.hrv xbed) _).trans ?_ | with_reducible refine (pageDone_only π (fun s xmap xdrn xhrv xbed => hπ s xmap xdrn xhrv xbed) _ _).trans ?_ | with_reducible refine (hπ _ _ _ _ _).trans ?_ | dsimp only

@[simp] theorem shedTo_frame (step : Nat) (s : State) :
    (shedTo step s).dev = s.dev ∧ (shedTo step s).gov = s.gov ∧ (shedTo step s).flt = s.flt ∧ (shedTo step s).tly = s.tly ∧
    (shedTo step s).sal = s.sal ∧ (shedTo step s).fld = s.fld ∧ (shedTo step s).pip = s.pip ∧ (shedTo step s).heads = s.heads ∧
    (shedTo step s).sem = s.sem ∧ (shedTo step s).pans = s.pans ∧ (shedTo step s).dmc = s.dmc ∧ (shedTo step s).trn = s.trn ∧
    (shedTo step s).thm = s.thm ∧ (shedTo step s).cel = s.cel ∧ (shedTo step s).upd = s.upd ∧ (shedTo step s).key = s.key ∧
    (shedTo step s).brl = s.brl ∧ (shedTo step s).svc = s.svc ∧ (shedTo step s).pins = s.pins ∧ (shedTo step s).lay = s.lay ∧
    (shedTo step s).jrn = s.jrn ∧ (shedTo step s).replies = s.replies ∧ (shedTo step s).dram = s.dram ∧
    (shedTo step s).poison = s.poison ∧ (shedTo step s).serial = s.serial ∧ (shedTo step s).boot = s.boot ∧
    (shedTo step s).free = s.free ∧ (shedTo step s).pending = s.pending := by
  refine ⟨?_, ?_, ?_, ?_, ?_, ?_, ?_, ?_, ?_, ?_, ?_, ?_, ?_, ?_, ?_, ?_, ?_, ?_, ?_, ?_, ?_, ?_, ?_, ?_, ?_, ?_, ?_, ?_⟩ <;> exact shedTo_only _ (fun _ _ _ _ _ => rfl) step s

theorem secondShed_only {β : Type} (π : State → β) (hπ : ∀ s xmap xdrn xhrv xbed, π { s with map := xmap, drn := xdrn, hrv := xhrv, bed := xbed } = π s) (s : State) :
    π (secondShed s) = π s := by
  unfold secondShed; repeat' first | contradiction | (simp only [hπ, shedTo_only π hπ, apply_ite π, ite_self]; done) | split | refine (foldl_same π _ (fun s x => ?_) _ _).trans ?_ | refine (elim_same π _ _ _ (fun x => ?_)).trans ?_ | dsimp only

@[simp] theorem secondShed_frame (s : State) :
    (secondShed s).dev = s.dev ∧ (secondShed s).gov = s.gov ∧ (secondShed s).flt = s.flt ∧ (secondShed s).tly = s.tly ∧
    (secondShed s).sal = s.sal ∧ (secondShed s).fld = s.fld ∧ (secondShed s).pip = s.pip ∧ (secondShed s).heads = s.heads ∧
    (secondShed s).sem = s.sem ∧ (secondShed s).pans = s.pans ∧ (secondShed s).dmc = s.dmc ∧ (secondShed s).trn = s.trn ∧
    (secondShed s).thm = s.thm ∧ (secondShed s).cel = s.cel ∧ (secondShed s).upd = s.upd ∧ (secondShed s).key = s.key ∧
    (secondShed s).brl = s.brl ∧ (secondShed s).svc = s.svc ∧ (secondShed s).pins = s.pins ∧ (secondShed s).lay = s.lay ∧
    (secondShed s).jrn = s.jrn ∧ (secondShed s).replies = s.replies ∧ (secondShed s).dram = s.dram ∧
    (secondShed s).poison = s.poison ∧ (secondShed s).serial = s.serial ∧ (secondShed s).boot = s.boot ∧
    (secondShed s).free = s.free ∧ (secondShed s).pending = s.pending := by
  refine ⟨?_, ?_, ?_, ?_, ?_, ?_, ?_, ?_, ?_, ?_, ?_, ?_, ?_, ?_, ?_, ?_, ?_, ?_, ?_, ?_, ?_, ?_, ?_, ?_, ?_, ?_, ?_, ?_⟩ <;> exact secondShed_only _ (fun _ _ _ _ _ => rfl) s

theorem saveThermal_only {β : Type} (π : State → β) (hπ : ∀ s xmap xdrn xhrv xbed, π { s with map := xmap, drn := xdrn, hrv := xhrv, bed := xbed } = π s) (s : State) :
    π (saveThermal s) = π s := by
  unfold saveThermal; repeat' first | contradiction | (simp only [hπ, shedTo_only π hπ, secondShed_only π hπ, apply_ite π, ite_self]; done) | split | refine (foldl_same π _ (fun s x => ?_) _ _).trans ?_ | refine (elim_same π _ _ _ (fun x => ?_)).trans ?_ | with_reducible refine (shedTo_only π (fun s xmap xdrn xhrv xbed => hπ s xmap xdrn xhrv xbed) _ _).trans ?_ | with_reducible refine (secondShed_only π (fun s xmap xdrn xhrv xbed => hπ s xmap xdrn xhrv xbed) _).trans ?_ | with_reducible refine (hπ _ _ _ _ _).trans ?_ | dsimp only

@[simp] theorem saveThermal_frame (s : State) :
    (saveThermal s).dev = s.dev ∧ (saveThermal s).gov = s.gov ∧ (saveThermal s).flt = s.flt ∧ (saveThermal s).tly = s.tly ∧
    (saveThermal s).sal = s.sal ∧ (saveThermal s).fld = s.fld ∧ (saveThermal s).pip = s.pip ∧ (saveThermal s).heads = s.heads ∧
    (saveThermal s).sem = s.sem ∧ (saveThermal s).pans = s.pans ∧ (saveThermal s).dmc = s.dmc ∧ (saveThermal s).trn = s.trn ∧
    (saveThermal s).thm = s.thm ∧ (saveThermal s).cel = s.cel ∧ (saveThermal s).upd = s.upd ∧ (saveThermal s).key = s.key ∧
    (saveThermal s).brl = s.brl ∧ (saveThermal s).svc = s.svc ∧ (saveThermal s).pins = s.pins ∧ (saveThermal s).lay = s.lay ∧
    (saveThermal s).jrn = s.jrn ∧ (saveThermal s).replies = s.replies ∧ (saveThermal s).dram = s.dram ∧
    (saveThermal s).poison = s.poison ∧ (saveThermal s).serial = s.serial ∧ (saveThermal s).boot = s.boot ∧
    (saveThermal s).free = s.free ∧ (saveThermal s).pending = s.pending := by
  refine ⟨?_, ?_, ?_, ?_, ?_, ?_, ?_, ?_, ?_, ?_, ?_, ?_, ?_, ?_, ?_, ?_, ?_, ?_, ?_, ?_, ?_, ?_, ?_, ?_, ?_, ?_, ?_, ?_⟩ <;> exact saveThermal_only _ (fun _ _ _ _ _ => rfl) s

theorem ackEvents_only {β : Type} (π : State → β) (hπ : ∀ s xflt, π { s with flt := xflt } = π s) (pick : Unack → Bool) (s : State) :
    π (ackEvents pick s) = π s := by
  simp only [ackEvents, hπ, apply_ite π, ite_self]

@[simp] theorem ackEvents_frame (pick : Unack → Bool) (s : State) :
    (ackEvents pick s).dev = s.dev ∧ (ackEvents pick s).gov = s.gov ∧ (ackEvents pick s).tly = s.tly ∧
    (ackEvents pick s).sal = s.sal ∧ (ackEvents pick s).map = s.map ∧ (ackEvents pick s).drn = s.drn ∧
    (ackEvents pick s).hrv = s.hrv ∧ (ackEvents pick s).fld = s.fld ∧ (ackEvents pick s).bed = s.bed ∧
    (ackEvents pick s).pip = s.pip ∧ (ackEvents pick s).heads = s.heads ∧ (ackEvents pick s).sem = s.sem ∧
    (ackEvents pick s).pans = s.pans ∧ (ackEvents pick s).dmc = s.dmc ∧ (ackEvents pick s).trn = s.trn ∧
    (ackEvents pick s).thm = s.thm ∧ (ackEvents pick s).cel = s.cel ∧ (ackEvents pick s).upd = s.upd ∧
    (ackEvents pick s).key = s.key ∧ (ackEvents pick s).brl = s.brl ∧ (ackEvents pick s).svc = s.svc ∧
    (ackEvents pick s).pins = s.pins ∧ (ackEvents pick s).lay = s.lay ∧ (ackEvents pick s).jrn = s.jrn ∧
    (ackEvents pick s).replies = s.replies ∧ (ackEvents pick s).dram = s.dram ∧ (ackEvents pick s).poison = s.poison ∧
    (ackEvents pick s).serial = s.serial ∧ (ackEvents pick s).boot = s.boot ∧ (ackEvents pick s).free = s.free ∧
    (ackEvents pick s).pending = s.pending := by
  refine ⟨?_, ?_, ?_, ?_, ?_, ?_, ?_, ?_, ?_, ?_, ?_, ?_, ?_, ?_, ?_, ?_, ?_, ?_, ?_, ?_, ?_, ?_, ?_, ?_, ?_, ?_, ?_, ?_, ?_, ?_, ?_⟩ <;> exact ackEvents_only _ (fun _ _ => rfl) pick s

theorem tlyFall_only {β : Type} (π : State → β) (hπ : ∀ s xtly, π { s with tly := xtly } = π s) (mirror : Bool) (s : State) :
    π (tlyFall mirror s) = π s := by
  unfold tlyFall; repeat' first | contradiction | (simp only [hπ, apply_ite π, ite_self]; done) | split | refine (foldl_same π _ (fun s x => ?_) _ _).trans ?_ | refine (elim_same π _ _ _ (fun x => ?_)).trans ?_ | dsimp only

@[simp] theorem tlyFall_frame (mirror : Bool) (s : State) :
    (tlyFall mirror s).dev = s.dev ∧ (tlyFall mirror s).gov = s.gov ∧ (tlyFall mirror s).flt = s.flt ∧
    (tlyFall mirror s).sal = s.sal ∧ (tlyFall mirror s).map = s.map ∧ (tlyFall mirror s).drn = s.drn ∧
    (tlyFall mirror s).hrv = s.hrv ∧ (tlyFall mirror s).fld = s.fld ∧ (tlyFall mirror s).bed = s.bed ∧
    (tlyFall mirror s).pip = s.pip ∧ (tlyFall mirror s).heads = s.heads ∧ (tlyFall mirror s).sem = s.sem ∧
    (tlyFall mirror s).pans = s.pans ∧ (tlyFall mirror s).dmc = s.dmc ∧ (tlyFall mirror s).trn = s.trn ∧
    (tlyFall mirror s).thm = s.thm ∧ (tlyFall mirror s).cel = s.cel ∧ (tlyFall mirror s).upd = s.upd ∧
    (tlyFall mirror s).key = s.key ∧ (tlyFall mirror s).brl = s.brl ∧ (tlyFall mirror s).svc = s.svc ∧
    (tlyFall mirror s).pins = s.pins ∧ (tlyFall mirror s).lay = s.lay ∧ (tlyFall mirror s).jrn = s.jrn ∧
    (tlyFall mirror s).replies = s.replies ∧ (tlyFall mirror s).dram = s.dram ∧ (tlyFall mirror s).poison = s.poison ∧
    (tlyFall mirror s).serial = s.serial ∧ (tlyFall mirror s).boot = s.boot ∧ (tlyFall mirror s).free = s.free ∧
    (tlyFall mirror s).pending = s.pending := by
  refine ⟨?_, ?_, ?_, ?_, ?_, ?_, ?_, ?_, ?_, ?_, ?_, ?_, ?_, ?_, ?_, ?_, ?_, ?_, ?_, ?_, ?_, ?_, ?_, ?_, ?_, ?_, ?_, ?_, ?_, ?_, ?_⟩ <;> exact tlyFall_only _ (fun _ _ => rfl) mirror s

theorem pipeFailed_only {β : Type} (π : State → β) (hπ : ∀ s xmap xdrn xhrv xbed xpip, π { s with map := xmap, drn := xdrn, hrv := xhrv, bed := xbed, pip := xpip } = π s) (detail : Nat) (s : State) :
    π (pipeFailed detail s) = π s := by
  unfold pipeFailed; repeat' first | contradiction | (simp only [hπ, dropDrain_only π (fun s xmap xdrn xhrv xbed => hπ s xmap xdrn xhrv xbed s.pip), apply_ite π, ite_self]; done) | split | refine (foldl_same π _ (fun s x => ?_) _ _).trans ?_ | refine (elim_same π _ _ _ (fun x => ?_)).trans ?_ | dsimp only

@[simp] theorem pipeFailed_frame (detail : Nat) (s : State) :
    (pipeFailed detail s).dev = s.dev ∧ (pipeFailed detail s).gov = s.gov ∧ (pipeFailed detail s).flt = s.flt ∧
    (pipeFailed detail s).tly = s.tly ∧ (pipeFailed detail s).sal = s.sal ∧ (pipeFailed detail s).fld = s.fld ∧
    (pipeFailed detail s).heads = s.heads ∧ (pipeFailed detail s).sem = s.sem ∧ (pipeFailed detail s).pans = s.pans ∧
    (pipeFailed detail s).dmc = s.dmc ∧ (pipeFailed detail s).trn = s.trn ∧ (pipeFailed detail s).thm = s.thm ∧
    (pipeFailed detail s).cel = s.cel ∧ (pipeFailed detail s).upd = s.upd ∧ (pipeFailed detail s).key = s.key ∧
    (pipeFailed detail s).brl = s.brl ∧ (pipeFailed detail s).svc = s.svc ∧ (pipeFailed detail s).pins = s.pins ∧
    (pipeFailed detail s).lay = s.lay ∧ (pipeFailed detail s).jrn = s.jrn ∧ (pipeFailed detail s).replies = s.replies ∧
    (pipeFailed detail s).dram = s.dram ∧ (pipeFailed detail s).poison = s.poison ∧ (pipeFailed detail s).serial = s.serial ∧
    (pipeFailed detail s).boot = s.boot ∧ (pipeFailed detail s).free = s.free ∧ (pipeFailed detail s).pending = s.pending := by
  refine ⟨?_, ?_, ?_, ?_, ?_, ?_, ?_, ?_, ?_, ?_, ?_, ?_, ?_, ?_, ?_, ?_, ?_, ?_, ?_, ?_, ?_, ?_, ?_, ?_, ?_, ?_, ?_⟩ <;> exact pipeFailed_only _ (fun _ _ _ _ _ _ => rfl) detail s

theorem sourceEffect_only {β : Type} (π : State → β) (hπ : ∀ s xtly xmap xdrn xhrv xfld xbed xpip xheads xdmc xtrn xkey xpoison, π { s with tly := xtly, map := xmap, drn := xdrn, hrv := xhrv, fld := xfld, bed := xbed, pip := xpip, heads := xheads, dmc := xdmc, trn := xtrn, key := xkey, poison := xpoison } = π s) (source : Nat) (unit : Nat) (detail : Nat) (s : State) :
    π (sourceEffect source unit detail s) = π s := by
  unfold sourceEffect; repeat' first | contradiction | (simp only [hπ, losePages_only π (fun s xmap xdrn xhrv xbed => hπ s s.tly xmap xdrn xhrv s.fld xbed s.pip s.heads s.dmc s.trn s.key s.poison), tchanUpd_only π (fun s xtrn => hπ s s.tly s.map s.drn s.hrv s.fld s.bed s.pip s.heads s.dmc xtrn s.key s.poison), loseChannels_only π (fun s xmap xdrn xhrv xfld xbed xheads xdmc xpoison => hπ s s.tly xmap xdrn xhrv xfld xbed s.pip xheads xdmc s.trn s.key xpoison), tlyFall_only π (fun s xtly => hπ s xtly s.map s.drn s.hrv s.fld s.bed s.pip s.heads s.dmc s.trn s.key s.poison), pipeFailed_only π (fun s xmap xdrn xhrv xbed xpip => hπ s s.tly xmap xdrn xhrv s.fld xbed xpip s.heads s.dmc s.trn s.key s.poison), apply_ite π, ite_self]; done) | with_reducible refine (losePages_only π (fun s xmap xdrn xhrv xbed => hπ s s.tly xmap xdrn xhrv s.fld xbed s.pip s.heads s.dmc s.trn s.key s.poison) _ _).trans ?_ | with_reducible refine (tchanUpd_only π (fun s xtrn => hπ s s.tly s.map s.drn s.hrv s.fld s.bed s.pip s.heads s.dmc xtrn s.key s.poison) _ _ _).trans ?_ | with_reducible refine (loseChannels_only π (fun s xmap xdrn xhrv xfld xbed xheads xdmc xpoison => hπ s s.tly xmap xdrn xhrv xfld xbed s.pip xheads xdmc s.trn s.key xpoison) _ _ _).trans ?_ | with_reducible refine (tlyFall_only π (fun s xtly => hπ s xtly s.map s.drn s.hrv s.fld s.bed s.pip s.heads s.dmc s.trn s.key s.poison) _ _).trans ?_ | with_reducible refine (pipeFailed_only π (fun s xmap xdrn xhrv xbed xpip => hπ s s.tly xmap xdrn xhrv s.fld xbed xpip s.heads s.dmc s.trn s.key s.poison) _ _).trans ?_ | with_reducible refine (hπ _ _ _ _ _ _ _ _ _ _ _ _ _).trans ?_ | refine (foldl_same π _ (fun s x => ?_) _ _).trans ?_ | refine (elim_same π _ _ _ (fun x => ?_)).trans ?_ | split | dsimp only

@[simp] theorem sourceEffect_frame (source : Nat) (unit : Nat) (detail : Nat) (s : State) :
    (sourceEffect source unit detail s).dev = s.dev ∧ (sourceEffect source unit detail s).gov = s.gov ∧
    (sourceEffect source unit detail s).flt = s.flt ∧ (sourceEffect source unit detail s).sal = s.sal ∧
    (sourceEffect source unit detail s).sem = s.sem ∧ (sourceEffect source unit detail s).pans = s.pans ∧
    (sourceEffect source unit detail s).thm = s.thm ∧ (sourceEffect source unit detail s).cel = s.cel ∧
    (sourceEffect source unit detail s).upd = s.upd ∧ (sourceEffect source unit detail s).brl = s.brl ∧
    (sourceEffect source unit detail s).svc = s.svc ∧ (sourceEffect source unit detail s).pins = s.pins ∧
    (sourceEffect source unit detail s).lay = s.lay ∧ (sourceEffect source unit detail s).jrn = s.jrn ∧
    (sourceEffect source unit detail s).replies = s.replies ∧ (sourceEffect source unit detail s).dram = s.dram ∧
    (sourceEffect source unit detail s).serial = s.serial ∧ (sourceEffect source unit detail s).boot = s.boot ∧
    (sourceEffect source unit detail s).free = s.free ∧ (sourceEffect source unit detail s).pending = s.pending := by
  refine ⟨?_, ?_, ?_, ?_, ?_, ?_, ?_, ?_, ?_, ?_, ?_, ?_, ?_, ?_, ?_, ?_, ?_, ?_, ?_, ?_⟩ <;> exact sourceEffect_only _ (fun _ _ _ _ _ _ _ _ _ _ _ _ _ => rfl) source unit detail s

theorem fltPendingWrite_only {β : Type} (π : State → β) (hπ : ∀ s xflt, π { s with flt := xflt } = π s) (mask : Nat) (s : State) :
    π (fltPendingWrite mask s) = π s := by
  simp only [fltPendingWrite, hπ, ackEvents_only π hπ, apply_ite π, ite_self]

@[simp] theorem fltPendingWrite_frame (mask : Nat) (s : State) :
    (fltPendingWrite mask s).dev = s.dev ∧ (fltPendingWrite mask s).gov = s.gov ∧ (fltPendingWrite mask s).tly = s.tly ∧
    (fltPendingWrite mask s).sal = s.sal ∧ (fltPendingWrite mask s).map = s.map ∧ (fltPendingWrite mask s).drn = s.drn ∧
    (fltPendingWrite mask s).hrv = s.hrv ∧ (fltPendingWrite mask s).fld = s.fld ∧ (fltPendingWrite mask s).bed = s.bed ∧
    (fltPendingWrite mask s).pip = s.pip ∧ (fltPendingWrite mask s).heads = s.heads ∧ (fltPendingWrite mask s).sem = s.sem ∧
    (fltPendingWrite mask s).pans = s.pans ∧ (fltPendingWrite mask s).dmc = s.dmc ∧ (fltPendingWrite mask s).trn = s.trn ∧
    (fltPendingWrite mask s).thm = s.thm ∧ (fltPendingWrite mask s).cel = s.cel ∧ (fltPendingWrite mask s).upd = s.upd ∧
    (fltPendingWrite mask s).key = s.key ∧ (fltPendingWrite mask s).brl = s.brl ∧ (fltPendingWrite mask s).svc = s.svc ∧
    (fltPendingWrite mask s).pins = s.pins ∧ (fltPendingWrite mask s).lay = s.lay ∧ (fltPendingWrite mask s).jrn = s.jrn ∧
    (fltPendingWrite mask s).replies = s.replies ∧ (fltPendingWrite mask s).dram = s.dram ∧
    (fltPendingWrite mask s).poison = s.poison ∧ (fltPendingWrite mask s).serial = s.serial ∧
    (fltPendingWrite mask s).boot = s.boot ∧ (fltPendingWrite mask s).free = s.free ∧ (fltPendingWrite mask s).pending = s.pending := by
  refine ⟨?_, ?_, ?_, ?_, ?_, ?_, ?_, ?_, ?_, ?_, ?_, ?_, ?_, ?_, ?_, ?_, ?_, ?_, ?_, ?_, ?_, ?_, ?_, ?_, ?_, ?_, ?_, ?_, ?_, ?_, ?_⟩ <;> exact fltPendingWrite_only _ (fun _ _ => rfl) mask s

theorem fltClear_only {β : Type} (π : State → β) (hπ : ∀ s xflt xpins, π { s with flt := xflt, pins := xpins } = π s) (isSevere : Bool) (word : Nat) (mask : Nat) (s : State) :
    π (fltClear isSevere word mask s) = π s := by
  unfold fltClear; repeat' first | contradiction | (simp only [hπ, setErrN_only π (fun s xpins => hπ s s.flt xpins), apply_ite π, ite_self]; done) | split | refine (foldl_same π _ (fun s x => ?_) _ _).trans ?_ | refine (elim_same π _ _ _ (fun x => ?_)).trans ?_ | dsimp only

@[simp] theorem fltClear_frame (isSevere : Bool) (word : Nat) (mask : Nat) (s : State) :
    (fltClear isSevere word mask s).dev = s.dev ∧ (fltClear isSevere word mask s).gov = s.gov ∧
    (fltClear isSevere word mask s).tly = s.tly ∧ (fltClear isSevere word mask s).sal = s.sal ∧
    (fltClear isSevere word mask s).map = s.map ∧ (fltClear isSevere word mask s).drn = s.drn ∧
    (fltClear isSevere word mask s).hrv = s.hrv ∧ (fltClear isSevere word mask s).fld = s.fld ∧
    (fltClear isSevere word mask s).bed = s.bed ∧ (fltClear isSevere word mask s).pip = s.pip ∧
    (fltClear isSevere word mask s).heads = s.heads ∧ (fltClear isSevere word mask s).sem = s.sem ∧
    (fltClear isSevere word mask s).pans = s.pans ∧ (fltClear isSevere word mask s).dmc = s.dmc ∧
    (fltClear isSevere word mask s).trn = s.trn ∧ (fltClear isSevere word mask s).thm = s.thm ∧
    (fltClear isSevere word mask s).cel = s.cel ∧ (fltClear isSevere word mask s).upd = s.upd ∧
    (fltClear isSevere word mask s).key = s.key ∧ (fltClear isSevere word mask s).brl = s.brl ∧
    (fltClear isSevere word mask s).svc = s.svc ∧ (fltClear isSevere word mask s).lay = s.lay ∧
    (fltClear isSevere word mask s).jrn = s.jrn ∧ (fltClear isSevere word mask s).replies = s.replies ∧
    (fltClear isSevere word mask s).dram = s.dram ∧ (fltClear isSevere word mask s).poison = s.poison ∧
    (fltClear isSevere word mask s).serial = s.serial ∧ (fltClear isSevere word mask s).boot = s.boot ∧
    (fltClear isSevere word mask s).free = s.free ∧ (fltClear isSevere word mask s).pending = s.pending := by
  refine ⟨?_, ?_, ?_, ?_, ?_, ?_, ?_, ?_, ?_, ?_, ?_, ?_, ?_, ?_, ?_, ?_, ?_, ?_, ?_, ?_, ?_, ?_, ?_, ?_, ?_, ?_, ?_, ?_, ?_, ?_⟩ <;> exact fltClear_only _ (fun _ _ _ => rfl) isSevere word mask s

theorem fltClearFirst_only {β : Type} (π : State → β) (hπ : ∀ s xflt, π { s with flt := xflt } = π s) (s : State) :
    π (fltClearFirst s) = π s := by
  unfold fltClearFirst; repeat' first | contradiction | (simp only [hπ, apply_ite π, ite_self]; done) | split | refine (foldl_same π _ (fun s x => ?_) _ _).trans ?_ | refine (elim_same π _ _ _ (fun x => ?_)).trans ?_ | dsimp only

@[simp] theorem fltClearFirst_frame (s : State) :
    (fltClearFirst s).dev = s.dev ∧ (fltClearFirst s).gov = s.gov ∧ (fltClearFirst s).tly = s.tly ∧ (fltClearFirst s).sal = s.sal ∧
    (fltClearFirst s).map = s.map ∧ (fltClearFirst s).drn = s.drn ∧ (fltClearFirst s).hrv = s.hrv ∧ (fltClearFirst s).fld = s.fld ∧
    (fltClearFirst s).bed = s.bed ∧ (fltClearFirst s).pip = s.pip ∧ (fltClearFirst s).heads = s.heads ∧
    (fltClearFirst s).sem = s.sem ∧ (fltClearFirst s).pans = s.pans ∧ (fltClearFirst s).dmc = s.dmc ∧
    (fltClearFirst s).trn = s.trn ∧ (fltClearFirst s).thm = s.thm ∧ (fltClearFirst s).cel = s.cel ∧ (fltClearFirst s).upd = s.upd ∧
    (fltClearFirst s).key = s.key ∧ (fltClearFirst s).brl = s.brl ∧ (fltClearFirst s).svc = s.svc ∧
    (fltClearFirst s).pins = s.pins ∧ (fltClearFirst s).lay = s.lay ∧ (fltClearFirst s).jrn = s.jrn ∧
    (fltClearFirst s).replies = s.replies ∧ (fltClearFirst s).dram = s.dram ∧ (fltClearFirst s).poison = s.poison ∧
    (fltClearFirst s).serial = s.serial ∧ (fltClearFirst s).boot = s.boot ∧ (fltClearFirst s).free = s.free ∧
    (fltClearFirst s).pending = s.pending := by
  refine ⟨?_, ?_, ?_, ?_, ?_, ?_, ?_, ?_, ?_, ?_, ?_, ?_, ?_, ?_, ?_, ?_, ?_, ?_, ?_, ?_, ?_, ?_, ?_, ?_, ?_, ?_, ?_, ?_, ?_, ?_, ?_⟩ <;> exact fltClearFirst_only _ (fun _ _ => rfl) s

theorem sectorUpd_only {β : Type} (π : State → β) (hπ : ∀ s xcel, π { s with cel := xcel } = π s) (n : Nat) (f : CelSector → CelSector) (s : State) :
    π (sectorUpd n f s) = π s := by
  simp only [sectorUpd, hπ, apply_ite π, ite_self]

@[simp] theorem sectorUpd_frame (n : Nat) (f : CelSector → CelSector) (s : State) :
    (sectorUpd n f s).dev = s.dev ∧ (sectorUpd n f s).gov = s.gov ∧ (sectorUpd n f s).flt = s.flt ∧ (sectorUpd n f s).tly = s.tly ∧
    (sectorUpd n f s).sal = s.sal ∧ (sectorUpd n f s).map = s.map ∧ (sectorUpd n f s).drn = s.drn ∧ (sectorUpd n f s).hrv = s.hrv ∧
    (sectorUpd n f s).fld = s.fld ∧ (sectorUpd n f s).bed = s.bed ∧ (sectorUpd n f s).pip = s.pip ∧
    (sectorUpd n f s).heads = s.heads ∧ (sectorUpd n f s).sem = s.sem ∧ (sectorUpd n f s).pans = s.pans ∧
    (sectorUpd n f s).dmc = s.dmc ∧ (sectorUpd n f s).trn = s.trn ∧ (sectorUpd n f s).thm = s.thm ∧ (sectorUpd n f s).upd = s.upd ∧
    (sectorUpd n f s).key = s.key ∧ (sectorUpd n f s).brl = s.brl ∧ (sectorUpd n f s).svc = s.svc ∧
    (sectorUpd n f s).pins = s.pins ∧ (sectorUpd n f s).lay = s.lay ∧ (sectorUpd n f s).jrn = s.jrn ∧
    (sectorUpd n f s).replies = s.replies ∧ (sectorUpd n f s).dram = s.dram ∧ (sectorUpd n f s).poison = s.poison ∧
    (sectorUpd n f s).serial = s.serial ∧ (sectorUpd n f s).boot = s.boot ∧ (sectorUpd n f s).free = s.free ∧
    (sectorUpd n f s).pending = s.pending := by
  refine ⟨?_, ?_, ?_, ?_, ?_, ?_, ?_, ?_, ?_, ?_, ?_, ?_, ?_, ?_, ?_, ?_, ?_, ?_, ?_, ?_, ?_, ?_, ?_, ?_, ?_, ?_, ?_, ?_, ?_, ?_, ?_⟩ <;> exact sectorUpd_only _ (fun _ _ => rfl) n f s

theorem putCelWord_only {β : Type} (π : State → β) (hπ : ∀ s xcel, π { s with cel := xcel } = π s) (phys : Nat) (word : Nat) (w : CelWord) (s : State) :
    π (putCelWord phys word w s) = π s := by
  simp only [putCelWord, hπ, apply_ite π, ite_self]

@[simp] theorem putCelWord_frame (phys : Nat) (word : Nat) (w : CelWord) (s : State) :
    (putCelWord phys word w s).dev = s.dev ∧ (putCelWord phys word w s).gov = s.gov ∧ (putCelWord phys word w s).flt = s.flt ∧
    (putCelWord phys word w s).tly = s.tly ∧ (putCelWord phys word w s).sal = s.sal ∧ (putCelWord phys word w s).map = s.map ∧
    (putCelWord phys word w s).drn = s.drn ∧ (putCelWord phys word w s).hrv = s.hrv ∧ (putCelWord phys word w s).fld = s.fld ∧
    (putCelWord phys word w s).bed = s.bed ∧ (putCelWord phys word w s).pip = s.pip ∧ (putCelWord phys word w s).heads = s.heads ∧
    (putCelWord phys word w s).sem = s.sem ∧ (putCelWord phys word w s).pans = s.pans ∧ (putCelWord phys word w s).dmc = s.dmc ∧
    (putCelWord phys word w s).trn = s.trn ∧ (putCelWord phys word w s).thm = s.thm ∧ (putCelWord phys word w s).upd = s.upd ∧
    (putCelWord phys word w s).key = s.key ∧ (putCelWord phys word w s).brl = s.brl ∧ (putCelWord phys word w s).svc = s.svc ∧
    (putCelWord phys word w s).pins = s.pins ∧ (putCelWord phys word w s).lay = s.lay ∧ (putCelWord phys word w s).jrn = s.jrn ∧
    (putCelWord phys word w s).replies = s.replies ∧ (putCelWord phys word w s).dram = s.dram ∧
    (putCelWord phys word w s).poison = s.poison ∧ (putCelWord phys word w s).serial = s.serial ∧
    (putCelWord phys word w s).boot = s.boot ∧ (putCelWord phys word w s).free = s.free ∧
    (putCelWord phys word w s).pending = s.pending := by
  refine ⟨?_, ?_, ?_, ?_, ?_, ?_, ?_, ?_, ?_, ?_, ?_, ?_, ?_, ?_, ?_, ?_, ?_, ?_, ?_, ?_, ?_, ?_, ?_, ?_, ?_, ?_, ?_, ?_, ?_, ?_, ?_⟩ <;> exact putCelWord_only _ (fun _ _ => rfl) phys word w s

theorem celAnswer_only {β : Type} (π : State → β) (hπ : ∀ s xcel, π { s with cel := xcel } = π s) (a : CelAnswer) (s : State) :
    π (celAnswer a s) = π s := by
  simp only [celAnswer, hπ, apply_ite π, ite_self]

@[simp] theorem celAnswer_frame (a : CelAnswer) (s : State) :
    (celAnswer a s).dev = s.dev ∧ (celAnswer a s).gov = s.gov ∧ (celAnswer a s).flt = s.flt ∧ (celAnswer a s).tly = s.tly ∧
    (celAnswer a s).sal = s.sal ∧ (celAnswer a s).map = s.map ∧ (celAnswer a s).drn = s.drn ∧ (celAnswer a s).hrv = s.hrv ∧
    (celAnswer a s).fld = s.fld ∧ (celAnswer a s).bed = s.bed ∧ (celAnswer a s).pip = s.pip ∧ (celAnswer a s).heads = s.heads ∧
    (celAnswer a s).sem = s.sem ∧ (celAnswer a s).pans = s.pans ∧ (celAnswer a s).dmc = s.dmc ∧ (celAnswer a s).trn = s.trn ∧
    (celAnswer a s).thm = s.thm ∧ (celAnswer a s).upd = s.upd ∧ (celAnswer a s).key = s.key ∧ (celAnswer a s).brl = s.brl ∧
    (celAnswer a s).svc = s.svc ∧ (celAnswer a s).pins = s.pins ∧ (celAnswer a s).lay = s.lay ∧ (celAnswer a s).jrn = s.jrn ∧
    (celAnswer a s).replies = s.replies ∧ (celAnswer a s).dram = s.dram ∧ (celAnswer a s).poison = s.poison ∧
    (celAnswer a s).serial = s.serial ∧ (celAnswer a s).boot = s.boot ∧ (celAnswer a s).free = s.free ∧
    (celAnswer a s).pending = s.pending := by
  refine ⟨?_, ?_, ?_, ?_, ?_, ?_, ?_, ?_, ?_, ?_, ?_, ?_, ?_, ?_, ?_, ?_, ?_, ?_, ?_, ?_, ?_, ?_, ?_, ?_, ?_, ?_, ?_, ?_, ?_, ?_, ?_⟩ <;> exact celAnswer_only _ (fun _ _ => rfl) a s

theorem celFail_only {β : Type} (π : State → β) (hπ : ∀ s xcel, π { s with cel := xcel } = π s) (code : Nat) (sector : Nat) (word : Nat) (a : CelAnswer) (s : State) :
    π (celFail code sector word a s) = π s := by
  simp only [celFail, hπ, apply_ite π, ite_self]

@[simp] theorem celFail_frame (code : Nat) (sector : Nat) (word : Nat) (a : CelAnswer) (s : State) :
    (celFail code sector word a s).dev = s.dev ∧ (celFail code sector word a s).gov = s.gov ∧
    (celFail code sector word a s).flt = s.flt ∧ (celFail code sector word a s).tly = s.tly ∧
    (celFail code sector word a s).sal = s.sal ∧ (celFail code sector word a s).map = s.map ∧
    (celFail code sector word a s).drn = s.drn ∧ (celFail code sector word a s).hrv = s.hrv ∧
    (celFail code sector word a s).fld = s.fld ∧ (celFail code sector word a s).bed = s.bed ∧
    (celFail code sector word a s).pip = s.pip ∧ (celFail code sector word a s).heads = s.heads ∧
    (celFail code sector word a s).sem = s.sem ∧ (celFail code sector word a s).pans = s.pans ∧
    (celFail code sector word a s).dmc = s.dmc ∧ (celFail code sector word a s).trn = s.trn ∧
    (celFail code sector word a s).thm = s.thm ∧ (celFail code sector word a s).upd = s.upd ∧
    (celFail code sector word a s).key = s.key ∧ (celFail code sector word a s).brl = s.brl ∧
    (celFail code sector word a s).svc = s.svc ∧ (celFail code sector word a s).pins = s.pins ∧
    (celFail code sector word a s).lay = s.lay ∧ (celFail code sector word a s).jrn = s.jrn ∧
    (celFail code sector word a s).replies = s.replies ∧ (celFail code sector word a s).dram = s.dram ∧
    (celFail code sector word a s).poison = s.poison ∧ (celFail code sector word a s).serial = s.serial ∧
    (celFail code sector word a s).boot = s.boot ∧ (celFail code sector word a s).free = s.free ∧
    (celFail code sector word a s).pending = s.pending := by
  refine ⟨?_, ?_, ?_, ?_, ?_, ?_, ?_, ?_, ?_, ?_, ?_, ?_, ?_, ?_, ?_, ?_, ?_, ?_, ?_, ?_, ?_, ?_, ?_, ?_, ?_, ?_, ?_, ?_, ?_, ?_, ?_⟩ <;> exact celFail_only _ (fun _ _ => rfl) code sector word a s

theorem enqueueReq_only {β : Type} (π : State → β) (hπ : ∀ s xcel, π { s with cel := xcel } = π s) (q : CelReq) (s : State) :
    π (enqueueReq q s) = π s := by
  unfold enqueueReq; repeat' first | contradiction | (simp only [hπ, apply_ite π, ite_self]; done) | split | refine (foldl_same π _ (fun s x => ?_) _ _).trans ?_ | refine (elim_same π _ _ _ (fun x => ?_)).trans ?_ | dsimp only

@[simp] theorem enqueueReq_frame (q : CelReq) (s : State) :
    (enqueueReq q s).dev = s.dev ∧ (enqueueReq q s).gov = s.gov ∧ (enqueueReq q s).flt = s.flt ∧ (enqueueReq q s).tly = s.tly ∧
    (enqueueReq q s).sal = s.sal ∧ (enqueueReq q s).map = s.map ∧ (enqueueReq q s).drn = s.drn ∧ (enqueueReq q s).hrv = s.hrv ∧
    (enqueueReq q s).fld = s.fld ∧ (enqueueReq q s).bed = s.bed ∧ (enqueueReq q s).pip = s.pip ∧ (enqueueReq q s).heads = s.heads ∧
    (enqueueReq q s).sem = s.sem ∧ (enqueueReq q s).pans = s.pans ∧ (enqueueReq q s).dmc = s.dmc ∧ (enqueueReq q s).trn = s.trn ∧
    (enqueueReq q s).thm = s.thm ∧ (enqueueReq q s).upd = s.upd ∧ (enqueueReq q s).key = s.key ∧ (enqueueReq q s).brl = s.brl ∧
    (enqueueReq q s).svc = s.svc ∧ (enqueueReq q s).pins = s.pins ∧ (enqueueReq q s).lay = s.lay ∧ (enqueueReq q s).jrn = s.jrn ∧
    (enqueueReq q s).replies = s.replies ∧ (enqueueReq q s).dram = s.dram ∧ (enqueueReq q s).poison = s.poison ∧
    (enqueueReq q s).serial = s.serial ∧ (enqueueReq q s).boot = s.boot ∧ (enqueueReq q s).free = s.free ∧
    (enqueueReq q s).pending = s.pending := by
  refine ⟨?_, ?_, ?_, ?_, ?_, ?_, ?_, ?_, ?_, ?_, ?_, ?_, ?_, ?_, ?_, ?_, ?_, ?_, ?_, ?_, ?_, ?_, ?_, ?_, ?_, ?_, ?_, ?_, ?_, ?_, ?_⟩ <;> exact enqueueReq_only _ (fun _ _ => rfl) q s

theorem wornOut_only {β : Type} (π : State → β) (hπ : ∀ s xcel, π { s with cel := xcel } = π s) (sector : Nat) (s : State) :
    π (wornOut sector s) = π s := by
  simp only [wornOut, hπ, sectorUpd_only π hπ, apply_ite π, ite_self]

@[simp] theorem wornOut_frame (sector : Nat) (s : State) :
    (wornOut sector s).dev = s.dev ∧ (wornOut sector s).gov = s.gov ∧ (wornOut sector s).flt = s.flt ∧
    (wornOut sector s).tly = s.tly ∧ (wornOut sector s).sal = s.sal ∧ (wornOut sector s).map = s.map ∧
    (wornOut sector s).drn = s.drn ∧ (wornOut sector s).hrv = s.hrv ∧ (wornOut sector s).fld = s.fld ∧
    (wornOut sector s).bed = s.bed ∧ (wornOut sector s).pip = s.pip ∧ (wornOut sector s).heads = s.heads ∧
    (wornOut sector s).sem = s.sem ∧ (wornOut sector s).pans = s.pans ∧ (wornOut sector s).dmc = s.dmc ∧
    (wornOut sector s).trn = s.trn ∧ (wornOut sector s).thm = s.thm ∧ (wornOut sector s).upd = s.upd ∧
    (wornOut sector s).key = s.key ∧ (wornOut sector s).brl = s.brl ∧ (wornOut sector s).svc = s.svc ∧
    (wornOut sector s).pins = s.pins ∧ (wornOut sector s).lay = s.lay ∧ (wornOut sector s).jrn = s.jrn ∧
    (wornOut sector s).replies = s.replies ∧ (wornOut sector s).dram = s.dram ∧ (wornOut sector s).poison = s.poison ∧
    (wornOut sector s).serial = s.serial ∧ (wornOut sector s).boot = s.boot ∧ (wornOut sector s).free = s.free ∧
    (wornOut sector s).pending = s.pending := by
  refine ⟨?_, ?_, ?_, ?_, ?_, ?_, ?_, ?_, ?_, ?_, ?_, ?_, ?_, ?_, ?_, ?_, ?_, ?_, ?_, ?_, ?_, ?_, ?_, ?_, ?_, ?_, ?_, ?_, ?_, ?_, ?_⟩ <;> exact wornOut_only _ (fun _ _ => rfl) sector s

theorem oweRetire_only {β : Type} (π : State → β) (hπ : ∀ s xcel, π { s with cel := xcel } = π s) (sector : Nat) (s : State) :
    π (oweRetire sector s) = π s := by
  unfold oweRetire; repeat' first | contradiction | (simp only [hπ, wornOut_only π hπ, apply_ite π, ite_self]; done) | split | refine (foldl_same π _ (fun s x => ?_) _ _).trans ?_ | refine (elim_same π _ _ _ (fun x => ?_)).trans ?_ | dsimp only

@[simp] theorem oweRetire_frame (sector : Nat) (s : State) :
    (oweRetire sector s).dev = s.dev ∧ (oweRetire sector s).gov = s.gov ∧ (oweRetire sector s).flt = s.flt ∧
    (oweRetire sector s).tly = s.tly ∧ (oweRetire sector s).sal = s.sal ∧ (oweRetire sector s).map = s.map ∧
    (oweRetire sector s).drn = s.drn ∧ (oweRetire sector s).hrv = s.hrv ∧ (oweRetire sector s).fld = s.fld ∧
    (oweRetire sector s).bed = s.bed ∧ (oweRetire sector s).pip = s.pip ∧ (oweRetire sector s).heads = s.heads ∧
    (oweRetire sector s).sem = s.sem ∧ (oweRetire sector s).pans = s.pans ∧ (oweRetire sector s).dmc = s.dmc ∧
    (oweRetire sector s).trn = s.trn ∧ (oweRetire sector s).thm = s.thm ∧ (oweRetire sector s).upd = s.upd ∧
    (oweRetire sector s).key = s.key ∧ (oweRetire sector s).brl = s.brl ∧ (oweRetire sector s).svc = s.svc ∧
    (oweRetire sector s).pins = s.pins ∧ (oweRetire sector s).lay = s.lay ∧ (oweRetire sector s).jrn = s.jrn ∧
    (oweRetire sector s).replies = s.replies ∧ (oweRetire sector s).dram = s.dram ∧ (oweRetire sector s).poison = s.poison ∧
    (oweRetire sector s).serial = s.serial ∧ (oweRetire sector s).boot = s.boot ∧ (oweRetire sector s).free = s.free ∧
    (oweRetire sector s).pending = s.pending := by
  refine ⟨?_, ?_, ?_, ?_, ?_, ?_, ?_, ?_, ?_, ?_, ?_, ?_, ?_, ?_, ?_, ?_, ?_, ?_, ?_, ?_, ?_, ?_, ?_, ?_, ?_, ?_, ?_, ?_, ?_, ?_, ?_⟩ <;> exact oweRetire_only _ (fun _ _ => rfl) sector s

theorem clearSector_only {β : Type} (π : State → β) (hπ : ∀ s xcel, π { s with cel := xcel } = π s) (n : Nat) (s : State) :
    π (clearSector n s) = π s := by
  simp only [clearSector, hπ, apply_ite π, ite_self]

@[simp] theorem clearSector_frame (n : Nat) (s : State) :
    (clearSector n s).dev = s.dev ∧ (clearSector n s).gov = s.gov ∧ (clearSector n s).flt = s.flt ∧ (clearSector n s).tly = s.tly ∧
    (clearSector n s).sal = s.sal ∧ (clearSector n s).map = s.map ∧ (clearSector n s).drn = s.drn ∧ (clearSector n s).hrv = s.hrv ∧
    (clearSector n s).fld = s.fld ∧ (clearSector n s).bed = s.bed ∧ (clearSector n s).pip = s.pip ∧
    (clearSector n s).heads = s.heads ∧ (clearSector n s).sem = s.sem ∧ (clearSector n s).pans = s.pans ∧
    (clearSector n s).dmc = s.dmc ∧ (clearSector n s).trn = s.trn ∧ (clearSector n s).thm = s.thm ∧ (clearSector n s).upd = s.upd ∧
    (clearSector n s).key = s.key ∧ (clearSector n s).brl = s.brl ∧ (clearSector n s).svc = s.svc ∧
    (clearSector n s).pins = s.pins ∧ (clearSector n s).lay = s.lay ∧ (clearSector n s).jrn = s.jrn ∧
    (clearSector n s).replies = s.replies ∧ (clearSector n s).dram = s.dram ∧ (clearSector n s).poison = s.poison ∧
    (clearSector n s).serial = s.serial ∧ (clearSector n s).boot = s.boot ∧ (clearSector n s).free = s.free ∧
    (clearSector n s).pending = s.pending := by
  refine ⟨?_, ?_, ?_, ?_, ?_, ?_, ?_, ?_, ?_, ?_, ?_, ?_, ?_, ?_, ?_, ?_, ?_, ?_, ?_, ?_, ?_, ?_, ?_, ?_, ?_, ?_, ?_, ?_, ?_, ?_, ?_⟩ <;> exact clearSector_only _ (fun _ _ => rfl) n s

theorem fillLine_only {β : Type} (π : State → β) (hπ : ∀ s xcel xfree, π { s with cel := xcel, free := xfree } = π s) (n : Nat) (s : State) :
    π (fillLine n s) = π s := by
  unfold fillLine; repeat' first | contradiction | (simp only [hπ, State.draw_only π (fun s xfree => hπ s s.cel xfree), apply_ite π, ite_self]; done) | split | refine (foldl_same π _ (fun s x => ?_) _ _).trans ?_ | refine (elim_same π _ _ _ (fun x => ?_)).trans ?_ | dsimp only

@[simp] theorem fillLine_frame (n : Nat) (s : State) :
    (fillLine n s).dev = s.dev ∧ (fillLine n s).gov = s.gov ∧ (fillLine n s).flt = s.flt ∧ (fillLine n s).tly = s.tly ∧
    (fillLine n s).sal = s.sal ∧ (fillLine n s).map = s.map ∧ (fillLine n s).drn = s.drn ∧ (fillLine n s).hrv = s.hrv ∧
    (fillLine n s).fld = s.fld ∧ (fillLine n s).bed = s.bed ∧ (fillLine n s).pip = s.pip ∧ (fillLine n s).heads = s.heads ∧
    (fillLine n s).sem = s.sem ∧ (fillLine n s).pans = s.pans ∧ (fillLine n s).dmc = s.dmc ∧ (fillLine n s).trn = s.trn ∧
    (fillLine n s).thm = s.thm ∧ (fillLine n s).upd = s.upd ∧ (fillLine n s).key = s.key ∧ (fillLine n s).brl = s.brl ∧
    (fillLine n s).svc = s.svc ∧ (fillLine n s).pins = s.pins ∧ (fillLine n s).lay = s.lay ∧ (fillLine n s).jrn = s.jrn ∧
    (fillLine n s).replies = s.replies ∧ (fillLine n s).dram = s.dram ∧ (fillLine n s).poison = s.poison ∧
    (fillLine n s).serial = s.serial ∧ (fillLine n s).boot = s.boot ∧ (fillLine n s).pending = s.pending := by
  refine ⟨?_, ?_, ?_, ?_, ?_, ?_, ?_, ?_, ?_, ?_, ?_, ?_, ?_, ?_, ?_, ?_, ?_, ?_, ?_, ?_, ?_, ?_, ?_, ?_, ?_, ?_, ?_, ?_, ?_, ?_⟩ <;> exact fillLine_only _ (fun _ _ _ => rfl) n s

theorem mirrorPut_only {β : Type} (π : State → β) (hπ : ∀ s xtly, π { s with tly := xtly } = π s) (r : TlyRec) (s : State) :
    π (mirrorPut r s) = π s := by
  unfold mirrorPut; repeat' first | contradiction | (simp only [hπ, apply_ite π, ite_self]; done) | split | refine (foldl_same π _ (fun s x => ?_) _ _).trans ?_ | refine (elim_same π _ _ _ (fun x => ?_)).trans ?_ | dsimp only

@[simp] theorem mirrorPut_frame (r : TlyRec) (s : State) :
    (mirrorPut r s).dev = s.dev ∧ (mirrorPut r s).gov = s.gov ∧ (mirrorPut r s).flt = s.flt ∧ (mirrorPut r s).sal = s.sal ∧
    (mirrorPut r s).map = s.map ∧ (mirrorPut r s).drn = s.drn ∧ (mirrorPut r s).hrv = s.hrv ∧ (mirrorPut r s).fld = s.fld ∧
    (mirrorPut r s).bed = s.bed ∧ (mirrorPut r s).pip = s.pip ∧ (mirrorPut r s).heads = s.heads ∧ (mirrorPut r s).sem = s.sem ∧
    (mirrorPut r s).pans = s.pans ∧ (mirrorPut r s).dmc = s.dmc ∧ (mirrorPut r s).trn = s.trn ∧ (mirrorPut r s).thm = s.thm ∧
    (mirrorPut r s).cel = s.cel ∧ (mirrorPut r s).upd = s.upd ∧ (mirrorPut r s).key = s.key ∧ (mirrorPut r s).brl = s.brl ∧
    (mirrorPut r s).svc = s.svc ∧ (mirrorPut r s).pins = s.pins ∧ (mirrorPut r s).lay = s.lay ∧ (mirrorPut r s).jrn = s.jrn ∧
    (mirrorPut r s).replies = s.replies ∧ (mirrorPut r s).dram = s.dram ∧ (mirrorPut r s).poison = s.poison ∧
    (mirrorPut r s).serial = s.serial ∧ (mirrorPut r s).boot = s.boot ∧ (mirrorPut r s).free = s.free ∧
    (mirrorPut r s).pending = s.pending := by
  refine ⟨?_, ?_, ?_, ?_, ?_, ?_, ?_, ?_, ?_, ?_, ?_, ?_, ?_, ?_, ?_, ?_, ?_, ?_, ?_, ?_, ?_, ?_, ?_, ?_, ?_, ?_, ?_, ?_, ?_, ?_, ?_⟩ <;> exact mirrorPut_only _ (fun _ _ => rfl) r s

theorem putRecord_only {β : Type} (π : State → β) (hπ : ∀ s xtly, π { s with tly := xtly } = π s) (r : TlyRec) (s : State) :
    π (putRecord r s) = π s := by
  unfold putRecord; repeat' first | contradiction | (simp only [hπ, mirrorPut_only π hπ, apply_ite π, ite_self]; done) | split | refine (foldl_same π _ (fun s x => ?_) _ _).trans ?_ | refine (elim_same π _ _ _ (fun x => ?_)).trans ?_ | dsimp only

@[simp] theorem putRecord_frame (r : TlyRec) (s : State) :
    (putRecord r s).dev = s.dev ∧ (putRecord r s).gov = s.gov ∧ (putRecord r s).flt = s.flt ∧ (putRecord r s).sal = s.sal ∧
    (putRecord r s).map = s.map ∧ (putRecord r s).drn = s.drn ∧ (putRecord r s).hrv = s.hrv ∧ (putRecord r s).fld = s.fld ∧
    (putRecord r s).bed = s.bed ∧ (putRecord r s).pip = s.pip ∧ (putRecord r s).heads = s.heads ∧ (putRecord r s).sem = s.sem ∧
    (putRecord r s).pans = s.pans ∧ (putRecord r s).dmc = s.dmc ∧ (putRecord r s).trn = s.trn ∧ (putRecord r s).thm = s.thm ∧
    (putRecord r s).cel = s.cel ∧ (putRecord r s).upd = s.upd ∧ (putRecord r s).key = s.key ∧ (putRecord r s).brl = s.brl ∧
    (putRecord r s).svc = s.svc ∧ (putRecord r s).pins = s.pins ∧ (putRecord r s).lay = s.lay ∧ (putRecord r s).jrn = s.jrn ∧
    (putRecord r s).replies = s.replies ∧ (putRecord r s).dram = s.dram ∧ (putRecord r s).poison = s.poison ∧
    (putRecord r s).serial = s.serial ∧ (putRecord r s).boot = s.boot ∧ (putRecord r s).free = s.free ∧
    (putRecord r s).pending = s.pending := by
  refine ⟨?_, ?_, ?_, ?_, ?_, ?_, ?_, ?_, ?_, ?_, ?_, ?_, ?_, ?_, ?_, ?_, ?_, ?_, ?_, ?_, ?_, ?_, ?_, ?_, ?_, ?_, ?_, ?_, ?_, ?_, ?_⟩ <;> exact putRecord_only _ (fun _ _ => rfl) r s

theorem takeTrigger_only {β : Type} (π : State → β) (hπ : ∀ s xtly, π { s with tly := xtly } = π s) (s : State) :
    π (takeTrigger s).1 = π s := by
  unfold takeTrigger; repeat' first | contradiction | (simp only [hπ, apply_ite π, ite_self]; done) | split | refine (foldl_same π _ (fun s x => ?_) _ _).trans ?_ | refine (elim_same π _ _ _ (fun x => ?_)).trans ?_ | dsimp only

@[simp] theorem takeTrigger_frame (s : State) :
    (takeTrigger s).1.dev = s.dev ∧ (takeTrigger s).1.gov = s.gov ∧ (takeTrigger s).1.flt = s.flt ∧ (takeTrigger s).1.sal = s.sal ∧
    (takeTrigger s).1.map = s.map ∧ (takeTrigger s).1.drn = s.drn ∧ (takeTrigger s).1.hrv = s.hrv ∧ (takeTrigger s).1.fld = s.fld ∧
    (takeTrigger s).1.bed = s.bed ∧ (takeTrigger s).1.pip = s.pip ∧ (takeTrigger s).1.heads = s.heads ∧
    (takeTrigger s).1.sem = s.sem ∧ (takeTrigger s).1.pans = s.pans ∧ (takeTrigger s).1.dmc = s.dmc ∧
    (takeTrigger s).1.trn = s.trn ∧ (takeTrigger s).1.thm = s.thm ∧ (takeTrigger s).1.cel = s.cel ∧ (takeTrigger s).1.upd = s.upd ∧
    (takeTrigger s).1.key = s.key ∧ (takeTrigger s).1.brl = s.brl ∧ (takeTrigger s).1.svc = s.svc ∧
    (takeTrigger s).1.pins = s.pins ∧ (takeTrigger s).1.lay = s.lay ∧ (takeTrigger s).1.jrn = s.jrn ∧
    (takeTrigger s).1.replies = s.replies ∧ (takeTrigger s).1.dram = s.dram ∧ (takeTrigger s).1.poison = s.poison ∧
    (takeTrigger s).1.serial = s.serial ∧ (takeTrigger s).1.boot = s.boot ∧ (takeTrigger s).1.free = s.free ∧
    (takeTrigger s).1.pending = s.pending := by
  refine ⟨?_, ?_, ?_, ?_, ?_, ?_, ?_, ?_, ?_, ?_, ?_, ?_, ?_, ?_, ?_, ?_, ?_, ?_, ?_, ?_, ?_, ?_, ?_, ?_, ?_, ?_, ?_, ?_, ?_, ?_, ?_⟩ <;> exact takeTrigger_only _ (fun _ _ => rfl) s

theorem ackRecord_only {β : Type} (π : State → β) (hπ : ∀ s xflt, π { s with flt := xflt } = π s) (t : TlyTrig) (s : State) :
    π (ackRecord t s) = π s := by
  unfold ackRecord; repeat' first | contradiction | (simp only [hπ, apply_ite π, ite_self]; done) | split | refine (foldl_same π _ (fun s x => ?_) _ _).trans ?_ | refine (elim_same π _ _ _ (fun x => ?_)).trans ?_ | dsimp only

@[simp] theorem ackRecord_frame (t : TlyTrig) (s : State) :
    (ackRecord t s).dev = s.dev ∧ (ackRecord t s).gov = s.gov ∧ (ackRecord t s).tly = s.tly ∧ (ackRecord t s).sal = s.sal ∧
    (ackRecord t s).map = s.map ∧ (ackRecord t s).drn = s.drn ∧ (ackRecord t s).hrv = s.hrv ∧ (ackRecord t s).fld = s.fld ∧
    (ackRecord t s).bed = s.bed ∧ (ackRecord t s).pip = s.pip ∧ (ackRecord t s).heads = s.heads ∧ (ackRecord t s).sem = s.sem ∧
    (ackRecord t s).pans = s.pans ∧ (ackRecord t s).dmc = s.dmc ∧ (ackRecord t s).trn = s.trn ∧ (ackRecord t s).thm = s.thm ∧
    (ackRecord t s).cel = s.cel ∧ (ackRecord t s).upd = s.upd ∧ (ackRecord t s).key = s.key ∧ (ackRecord t s).brl = s.brl ∧
    (ackRecord t s).svc = s.svc ∧ (ackRecord t s).pins = s.pins ∧ (ackRecord t s).lay = s.lay ∧ (ackRecord t s).jrn = s.jrn ∧
    (ackRecord t s).replies = s.replies ∧ (ackRecord t s).dram = s.dram ∧ (ackRecord t s).poison = s.poison ∧
    (ackRecord t s).serial = s.serial ∧ (ackRecord t s).boot = s.boot ∧ (ackRecord t s).free = s.free ∧
    (ackRecord t s).pending = s.pending := by
  refine ⟨?_, ?_, ?_, ?_, ?_, ?_, ?_, ?_, ?_, ?_, ?_, ?_, ?_, ?_, ?_, ?_, ?_, ?_, ?_, ?_, ?_, ?_, ?_, ?_, ?_, ?_, ?_, ?_, ?_, ?_, ?_⟩ <;> exact ackRecord_only _ (fun _ _ => rfl) t s

theorem clearRing_only {β : Type} (π : State → β) (hπ : ∀ s xtly xjrn, π { s with tly := xtly, jrn := xjrn } = π s) (head : Head) (s : State) :
    π (clearRing head s) = π s := by
  simp only [clearRing, hπ, State.journal_only π (fun s xjrn => hπ s s.tly xjrn), apply_ite π, ite_self]

@[simp] theorem clearRing_frame (head : Head) (s : State) :
    (clearRing head s).dev = s.dev ∧ (clearRing head s).gov = s.gov ∧ (clearRing head s).flt = s.flt ∧
    (clearRing head s).sal = s.sal ∧ (clearRing head s).map = s.map ∧ (clearRing head s).drn = s.drn ∧
    (clearRing head s).hrv = s.hrv ∧ (clearRing head s).fld = s.fld ∧ (clearRing head s).bed = s.bed ∧
    (clearRing head s).pip = s.pip ∧ (clearRing head s).heads = s.heads ∧ (clearRing head s).sem = s.sem ∧
    (clearRing head s).pans = s.pans ∧ (clearRing head s).dmc = s.dmc ∧ (clearRing head s).trn = s.trn ∧
    (clearRing head s).thm = s.thm ∧ (clearRing head s).cel = s.cel ∧ (clearRing head s).upd = s.upd ∧
    (clearRing head s).key = s.key ∧ (clearRing head s).brl = s.brl ∧ (clearRing head s).svc = s.svc ∧
    (clearRing head s).pins = s.pins ∧ (clearRing head s).lay = s.lay ∧ (clearRing head s).replies = s.replies ∧
    (clearRing head s).dram = s.dram ∧ (clearRing head s).poison = s.poison ∧ (clearRing head s).serial = s.serial ∧
    (clearRing head s).boot = s.boot ∧ (clearRing head s).free = s.free ∧ (clearRing head s).pending = s.pending := by
  refine ⟨?_, ?_, ?_, ?_, ?_, ?_, ?_, ?_, ?_, ?_, ?_, ?_, ?_, ?_, ?_, ?_, ?_, ?_, ?_, ?_, ?_, ?_, ?_, ?_, ?_, ?_, ?_, ?_, ?_, ?_⟩ <;> exact clearRing_only _ (fun _ _ _ => rfl) head s

theorem passM1_only {β : Type} (π : State → β) (hπ : ∀ s xhrv xpip, π { s with hrv := xhrv, pip := xpip } = π s) (s : State) :
    π (passM1 s) = π s := by
  unfold passM1; repeat' first | contradiction | (simp only [hπ, apply_ite π, ite_self]; done) | split | refine (foldl_same π _ (fun s x => ?_) _ _).trans ?_ | refine (elim_same π _ _ _ (fun x => ?_)).trans ?_ | dsimp only

@[simp] theorem passM1_frame (s : State) :
    (passM1 s).dev = s.dev ∧ (passM1 s).gov = s.gov ∧ (passM1 s).flt = s.flt ∧ (passM1 s).tly = s.tly ∧ (passM1 s).sal = s.sal ∧
    (passM1 s).map = s.map ∧ (passM1 s).drn = s.drn ∧ (passM1 s).fld = s.fld ∧ (passM1 s).bed = s.bed ∧
    (passM1 s).heads = s.heads ∧ (passM1 s).sem = s.sem ∧ (passM1 s).pans = s.pans ∧ (passM1 s).dmc = s.dmc ∧
    (passM1 s).trn = s.trn ∧ (passM1 s).thm = s.thm ∧ (passM1 s).cel = s.cel ∧ (passM1 s).upd = s.upd ∧ (passM1 s).key = s.key ∧
    (passM1 s).brl = s.brl ∧ (passM1 s).svc = s.svc ∧ (passM1 s).pins = s.pins ∧ (passM1 s).lay = s.lay ∧ (passM1 s).jrn = s.jrn ∧
    (passM1 s).replies = s.replies ∧ (passM1 s).dram = s.dram ∧ (passM1 s).poison = s.poison ∧ (passM1 s).serial = s.serial ∧
    (passM1 s).boot = s.boot ∧ (passM1 s).free = s.free ∧ (passM1 s).pending = s.pending := by
  refine ⟨?_, ?_, ?_, ?_, ?_, ?_, ?_, ?_, ?_, ?_, ?_, ?_, ?_, ?_, ?_, ?_, ?_, ?_, ?_, ?_, ?_, ?_, ?_, ?_, ?_, ?_, ?_, ?_, ?_, ?_⟩ <;> exact passM1_only _ (fun _ _ _ => rfl) s

theorem readBack_only {β : Type} (π : State → β) (hπ : ∀ s xhrv xbed, π { s with hrv := xhrv, bed := xbed } = π s) (backA : Bool) (backB : Bool) (s : State) :
    π (readBack backA backB s) = π s := by
  unfold readBack; repeat' first | contradiction | (simp only [hπ, apply_ite π, ite_self]; done) | split | refine (foldl_same π _ (fun s x => ?_) _ _).trans ?_ | refine (elim_same π _ _ _ (fun x => ?_)).trans ?_ | dsimp only

@[simp] theorem readBack_frame (backA : Bool) (backB : Bool) (s : State) :
    (readBack backA backB s).dev = s.dev ∧ (readBack backA backB s).gov = s.gov ∧ (readBack backA backB s).flt = s.flt ∧
    (readBack backA backB s).tly = s.tly ∧ (readBack backA backB s).sal = s.sal ∧ (readBack backA backB s).map = s.map ∧
    (readBack backA backB s).drn = s.drn ∧ (readBack backA backB s).fld = s.fld ∧ (readBack backA backB s).pip = s.pip ∧
    (readBack backA backB s).heads = s.heads ∧ (readBack backA backB s).sem = s.sem ∧ (readBack backA backB s).pans = s.pans ∧
    (readBack backA backB s).dmc = s.dmc ∧ (readBack backA backB s).trn = s.trn ∧ (readBack backA backB s).thm = s.thm ∧
    (readBack backA backB s).cel = s.cel ∧ (readBack backA backB s).upd = s.upd ∧ (readBack backA backB s).key = s.key ∧
    (readBack backA backB s).brl = s.brl ∧ (readBack backA backB s).svc = s.svc ∧ (readBack backA backB s).pins = s.pins ∧
    (readBack backA backB s).lay = s.lay ∧ (readBack backA backB s).jrn = s.jrn ∧ (readBack backA backB s).replies = s.replies ∧
    (readBack backA backB s).dram = s.dram ∧ (readBack backA backB s).poison = s.poison ∧
    (readBack backA backB s).serial = s.serial ∧ (readBack backA backB s).boot = s.boot ∧ (readBack backA backB s).free = s.free ∧
    (readBack backA backB s).pending = s.pending := by
  refine ⟨?_, ?_, ?_, ?_, ?_, ?_, ?_, ?_, ?_, ?_, ?_, ?_, ?_, ?_, ?_, ?_, ?_, ?_, ?_, ?_, ?_, ?_, ?_, ?_, ?_, ?_, ?_, ?_, ?_, ?_⟩ <;> exact readBack_only _ (fun _ _ _ => rfl) backA backB s

theorem saveSalRecord_only {β : Type} (π : State → β) (hπ : ∀ s xsal xfree, π { s with sal := xsal, free := xfree } = π s) (s : State) :
    π (saveSalRecord s).1 = π s := by
  simp only [saveSalRecord, hπ, mkSalRec_only π hπ, apply_ite π, ite_self]

@[simp] theorem saveSalRecord_frame (s : State) :
    (saveSalRecord s).1.dev = s.dev ∧ (saveSalRecord s).1.gov = s.gov ∧ (saveSalRecord s).1.flt = s.flt ∧
    (saveSalRecord s).1.tly = s.tly ∧ (saveSalRecord s).1.map = s.map ∧ (saveSalRecord s).1.drn = s.drn ∧
    (saveSalRecord s).1.hrv = s.hrv ∧ (saveSalRecord s).1.fld = s.fld ∧ (saveSalRecord s).1.bed = s.bed ∧
    (saveSalRecord s).1.pip = s.pip ∧ (saveSalRecord s).1.heads = s.heads ∧ (saveSalRecord s).1.sem = s.sem ∧
    (saveSalRecord s).1.pans = s.pans ∧ (saveSalRecord s).1.dmc = s.dmc ∧ (saveSalRecord s).1.trn = s.trn ∧
    (saveSalRecord s).1.thm = s.thm ∧ (saveSalRecord s).1.cel = s.cel ∧ (saveSalRecord s).1.upd = s.upd ∧
    (saveSalRecord s).1.key = s.key ∧ (saveSalRecord s).1.brl = s.brl ∧ (saveSalRecord s).1.svc = s.svc ∧
    (saveSalRecord s).1.pins = s.pins ∧ (saveSalRecord s).1.lay = s.lay ∧ (saveSalRecord s).1.jrn = s.jrn ∧
    (saveSalRecord s).1.replies = s.replies ∧ (saveSalRecord s).1.dram = s.dram ∧ (saveSalRecord s).1.poison = s.poison ∧
    (saveSalRecord s).1.serial = s.serial ∧ (saveSalRecord s).1.boot = s.boot ∧ (saveSalRecord s).1.pending = s.pending := by
  refine ⟨?_, ?_, ?_, ?_, ?_, ?_, ?_, ?_, ?_, ?_, ?_, ?_, ?_, ?_, ?_, ?_, ?_, ?_, ?_, ?_, ?_, ?_, ?_, ?_, ?_, ?_, ?_, ?_, ?_, ?_⟩ <;> exact saveSalRecord_only _ (fun _ _ _ => rfl) s

theorem appendRec_only {β : Type} (π : State → β) (hπ : ∀ s xcel xupd, π { s with cel := xcel, upd := xupd } = π s) (s : State) :
    π (appendRec s) = π s := by
  unfold appendRec; repeat' first | contradiction | (simp only [hπ, wearSector_only π (fun s xcel => hπ s xcel s.upd), apply_ite π, ite_self]; done) | split | refine (foldl_same π _ (fun s x => ?_) _ _).trans ?_ | refine (elim_same π _ _ _ (fun x => ?_)).trans ?_ | dsimp only

@[simp] theorem appendRec_frame (s : State) :
    (appendRec s).dev = s.dev ∧ (appendRec s).gov = s.gov ∧ (appendRec s).flt = s.flt ∧ (appendRec s).tly = s.tly ∧
    (appendRec s).sal = s.sal ∧ (appendRec s).map = s.map ∧ (appendRec s).drn = s.drn ∧ (appendRec s).hrv = s.hrv ∧
    (appendRec s).fld = s.fld ∧ (appendRec s).bed = s.bed ∧ (appendRec s).pip = s.pip ∧ (appendRec s).heads = s.heads ∧
    (appendRec s).sem = s.sem ∧ (appendRec s).pans = s.pans ∧ (appendRec s).dmc = s.dmc ∧ (appendRec s).trn = s.trn ∧
    (appendRec s).thm = s.thm ∧ (appendRec s).key = s.key ∧ (appendRec s).brl = s.brl ∧ (appendRec s).svc = s.svc ∧
    (appendRec s).pins = s.pins ∧ (appendRec s).lay = s.lay ∧ (appendRec s).jrn = s.jrn ∧ (appendRec s).replies = s.replies ∧
    (appendRec s).dram = s.dram ∧ (appendRec s).poison = s.poison ∧ (appendRec s).serial = s.serial ∧ (appendRec s).boot = s.boot ∧
    (appendRec s).free = s.free ∧ (appendRec s).pending = s.pending := by
  refine ⟨?_, ?_, ?_, ?_, ?_, ?_, ?_, ?_, ?_, ?_, ?_, ?_, ?_, ?_, ?_, ?_, ?_, ?_, ?_, ?_, ?_, ?_, ?_, ?_, ?_, ?_, ?_, ?_, ?_, ?_⟩ <;> exact appendRec_only _ (fun _ _ _ => rfl) s

theorem setMarker_only {β : Type} (π : State → β) (hπ : ∀ s xcel xupd, π { s with cel := xcel, upd := xupd } = π s) (f : UpdMarker → UpdMarker) (s : State) :
    π (setMarker f s) = π s := by
  simp only [setMarker, hπ, appendRec_only π hπ, apply_ite π, ite_self]

@[simp] theorem setMarker_frame (f : UpdMarker → UpdMarker) (s : State) :
    (setMarker f s).dev = s.dev ∧ (setMarker f s).gov = s.gov ∧ (setMarker f s).flt = s.flt ∧ (setMarker f s).tly = s.tly ∧
    (setMarker f s).sal = s.sal ∧ (setMarker f s).map = s.map ∧ (setMarker f s).drn = s.drn ∧ (setMarker f s).hrv = s.hrv ∧
    (setMarker f s).fld = s.fld ∧ (setMarker f s).bed = s.bed ∧ (setMarker f s).pip = s.pip ∧ (setMarker f s).heads = s.heads ∧
    (setMarker f s).sem = s.sem ∧ (setMarker f s).pans = s.pans ∧ (setMarker f s).dmc = s.dmc ∧ (setMarker f s).trn = s.trn ∧
    (setMarker f s).thm = s.thm ∧ (setMarker f s).key = s.key ∧ (setMarker f s).brl = s.brl ∧ (setMarker f s).svc = s.svc ∧
    (setMarker f s).pins = s.pins ∧ (setMarker f s).lay = s.lay ∧ (setMarker f s).jrn = s.jrn ∧
    (setMarker f s).replies = s.replies ∧ (setMarker f s).dram = s.dram ∧ (setMarker f s).poison = s.poison ∧
    (setMarker f s).serial = s.serial ∧ (setMarker f s).boot = s.boot ∧ (setMarker f s).free = s.free ∧
    (setMarker f s).pending = s.pending := by
  refine ⟨?_, ?_, ?_, ?_, ?_, ?_, ?_, ?_, ?_, ?_, ?_, ?_, ?_, ?_, ?_, ?_, ?_, ?_, ?_, ?_, ?_, ?_, ?_, ?_, ?_, ?_, ?_, ?_, ?_, ?_⟩ <;> exact setMarker_only _ (fun _ _ _ => rfl) f s

theorem eraseSlot_only {β : Type} (π : State → β) (hπ : ∀ s xcel xupd, π { s with cel := xcel, upd := xupd } = π s) (b : Bool) (s : State) :
    π (eraseSlot b s) = π s := by
  unfold eraseSlot; repeat' first | contradiction | with_reducible rfl | with_reducible refine (wearSector_only π (fun s xcel => hπ s xcel s.upd) _ _).trans ?_ | with_reducible refine (foldl_same π _ (fun s x => ?_) _ _).trans ?_ | with_reducible refine (elim_same π _ _ _ (fun x => ?_)).trans ?_ | split | with_reducible refine (hπ _ _ _).trans ?_ | dsimp only

@[simp] theorem eraseSlot_frame (b : Bool) (s : State) :
    (eraseSlot b s).dev = s.dev ∧ (eraseSlot b s).gov = s.gov ∧ (eraseSlot b s).flt = s.flt ∧ (eraseSlot b s).tly = s.tly ∧
    (eraseSlot b s).sal = s.sal ∧ (eraseSlot b s).map = s.map ∧ (eraseSlot b s).drn = s.drn ∧ (eraseSlot b s).hrv = s.hrv ∧
    (eraseSlot b s).fld = s.fld ∧ (eraseSlot b s).bed = s.bed ∧ (eraseSlot b s).pip = s.pip ∧ (eraseSlot b s).heads = s.heads ∧
    (eraseSlot b s).sem = s.sem ∧ (eraseSlot b s).pans = s.pans ∧ (eraseSlot b s).dmc = s.dmc ∧ (eraseSlot b s).trn = s.trn ∧
    (eraseSlot b s).thm = s.thm ∧ (eraseSlot b s).key = s.key ∧ (eraseSlot b s).brl = s.brl ∧ (eraseSlot b s).svc = s.svc ∧
    (eraseSlot b s).pins = s.pins ∧ (eraseSlot b s).lay = s.lay ∧ (eraseSlot b s).jrn = s.jrn ∧
    (eraseSlot b s).replies = s.replies ∧ (eraseSlot b s).dram = s.dram ∧ (eraseSlot b s).poison = s.poison ∧
    (eraseSlot b s).serial = s.serial ∧ (eraseSlot b s).boot = s.boot ∧ (eraseSlot b s).free = s.free ∧
    (eraseSlot b s).pending = s.pending := by
  refine ⟨?_, ?_, ?_, ?_, ?_, ?_, ?_, ?_, ?_, ?_, ?_, ?_, ?_, ?_, ?_, ?_, ?_, ?_, ?_, ?_, ?_, ?_, ?_, ?_, ?_, ?_, ?_, ?_, ?_, ?_⟩ <;> exact eraseSlot_only _ (fun _ _ _ => rfl) b s

theorem failUpdate_only {β : Type} (π : State → β) (hπ : ∀ s xcel xupd, π { s with cel := xcel, upd := xupd } = π s) (stage : Nat) (code : Nat) (s : State) :
    π (failUpdate stage code s) = π s := by
  simp only [failUpdate, hπ, setMarker_only π hπ, apply_ite π, ite_self]

@[simp] theorem failUpdate_frame (stage : Nat) (code : Nat) (s : State) :
    (failUpdate stage code s).dev = s.dev ∧ (failUpdate stage code s).gov = s.gov ∧ (failUpdate stage code s).flt = s.flt ∧
    (failUpdate stage code s).tly = s.tly ∧ (failUpdate stage code s).sal = s.sal ∧ (failUpdate stage code s).map = s.map ∧
    (failUpdate stage code s).drn = s.drn ∧ (failUpdate stage code s).hrv = s.hrv ∧ (failUpdate stage code s).fld = s.fld ∧
    (failUpdate stage code s).bed = s.bed ∧ (failUpdate stage code s).pip = s.pip ∧ (failUpdate stage code s).heads = s.heads ∧
    (failUpdate stage code s).sem = s.sem ∧ (failUpdate stage code s).pans = s.pans ∧ (failUpdate stage code s).dmc = s.dmc ∧
    (failUpdate stage code s).trn = s.trn ∧ (failUpdate stage code s).thm = s.thm ∧ (failUpdate stage code s).key = s.key ∧
    (failUpdate stage code s).brl = s.brl ∧ (failUpdate stage code s).svc = s.svc ∧ (failUpdate stage code s).pins = s.pins ∧
    (failUpdate stage code s).lay = s.lay ∧ (failUpdate stage code s).jrn = s.jrn ∧ (failUpdate stage code s).replies = s.replies ∧
    (failUpdate stage code s).dram = s.dram ∧ (failUpdate stage code s).poison = s.poison ∧
    (failUpdate stage code s).serial = s.serial ∧ (failUpdate stage code s).boot = s.boot ∧
    (failUpdate stage code s).free = s.free ∧ (failUpdate stage code s).pending = s.pending := by
  refine ⟨?_, ?_, ?_, ?_, ?_, ?_, ?_, ?_, ?_, ?_, ?_, ?_, ?_, ?_, ?_, ?_, ?_, ?_, ?_, ?_, ?_, ?_, ?_, ?_, ?_, ?_, ?_, ?_, ?_, ?_⟩ <;> exact failUpdate_only _ (fun _ _ _ => rfl) stage code s

theorem scanSlots_only {β : Type} (π : State → β) (hπ : ∀ s xupd, π { s with upd := xupd } = π s) (s : State) :
    π (scanSlots s) = π s := by
  unfold scanSlots; repeat' first | contradiction | (simp only [hπ, apply_ite π, ite_self]; done) | split | refine (foldl_same π _ (fun s x => ?_) _ _).trans ?_ | refine (elim_same π _ _ _ (fun x => ?_)).trans ?_ | dsimp only

@[simp] theorem scanSlots_frame (s : State) :
    (scanSlots s).dev = s.dev ∧ (scanSlots s).gov = s.gov ∧ (scanSlots s).flt = s.flt ∧ (scanSlots s).tly = s.tly ∧
    (scanSlots s).sal = s.sal ∧ (scanSlots s).map = s.map ∧ (scanSlots s).drn = s.drn ∧ (scanSlots s).hrv = s.hrv ∧
    (scanSlots s).fld = s.fld ∧ (scanSlots s).bed = s.bed ∧ (scanSlots s).pip = s.pip ∧ (scanSlots s).heads = s.heads ∧
    (scanSlots s).sem = s.sem ∧ (scanSlots s).pans = s.pans ∧ (scanSlots s).dmc = s.dmc ∧ (scanSlots s).trn = s.trn ∧
    (scanSlots s).thm = s.thm ∧ (scanSlots s).cel = s.cel ∧ (scanSlots s).key = s.key ∧ (scanSlots s).brl = s.brl ∧
    (scanSlots s).svc = s.svc ∧ (scanSlots s).pins = s.pins ∧ (scanSlots s).lay = s.lay ∧ (scanSlots s).jrn = s.jrn ∧
    (scanSlots s).replies = s.replies ∧ (scanSlots s).dram = s.dram ∧ (scanSlots s).poison = s.poison ∧
    (scanSlots s).serial = s.serial ∧ (scanSlots s).boot = s.boot ∧ (scanSlots s).free = s.free ∧ (scanSlots s).pending = s.pending := by
  refine ⟨?_, ?_, ?_, ?_, ?_, ?_, ?_, ?_, ?_, ?_, ?_, ?_, ?_, ?_, ?_, ?_, ?_, ?_, ?_, ?_, ?_, ?_, ?_, ?_, ?_, ?_, ?_, ?_, ?_, ?_, ?_⟩ <;> exact scanSlots_only _ (fun _ _ => rfl) s

theorem loadKeys_only {β : Type} (π : State → β) (hπ : ∀ s xpip, π { s with pip := xpip } = π s) (b : KeyBlob) (s : State) :
    π (loadKeys b s) = π s := by
  simp only [loadKeys, hπ, apply_ite π, ite_self]

@[simp] theorem loadKeys_frame (b : KeyBlob) (s : State) :
    (loadKeys b s).dev = s.dev ∧ (loadKeys b s).gov = s.gov ∧ (loadKeys b s).flt = s.flt ∧ (loadKeys b s).tly = s.tly ∧
    (loadKeys b s).sal = s.sal ∧ (loadKeys b s).map = s.map ∧ (loadKeys b s).drn = s.drn ∧ (loadKeys b s).hrv = s.hrv ∧
    (loadKeys b s).fld = s.fld ∧ (loadKeys b s).bed = s.bed ∧ (loadKeys b s).heads = s.heads ∧ (loadKeys b s).sem = s.sem ∧
    (loadKeys b s).pans = s.pans ∧ (loadKeys b s).dmc = s.dmc ∧ (loadKeys b s).trn = s.trn ∧ (loadKeys b s).thm = s.thm ∧
    (loadKeys b s).cel = s.cel ∧ (loadKeys b s).upd = s.upd ∧ (loadKeys b s).key = s.key ∧ (loadKeys b s).brl = s.brl ∧
    (loadKeys b s).svc = s.svc ∧ (loadKeys b s).pins = s.pins ∧ (loadKeys b s).lay = s.lay ∧ (loadKeys b s).jrn = s.jrn ∧
    (loadKeys b s).replies = s.replies ∧ (loadKeys b s).dram = s.dram ∧ (loadKeys b s).poison = s.poison ∧
    (loadKeys b s).serial = s.serial ∧ (loadKeys b s).boot = s.boot ∧ (loadKeys b s).free = s.free ∧
    (loadKeys b s).pending = s.pending := by
  refine ⟨?_, ?_, ?_, ?_, ?_, ?_, ?_, ?_, ?_, ?_, ?_, ?_, ?_, ?_, ?_, ?_, ?_, ?_, ?_, ?_, ?_, ?_, ?_, ?_, ?_, ?_, ?_, ?_, ?_, ?_, ?_⟩ <;> exact loadKeys_only _ (fun _ _ => rfl) b s

theorem loadBlob_only {β : Type} (π : State → β) (hπ : ∀ s xpip, π { s with pip := xpip } = π s) (s : State) :
    π (loadBlob s) = π s := by
  unfold loadBlob; repeat' first | contradiction | (simp only [hπ, loadKeys_only π hπ, apply_ite π, ite_self]; done) | split | refine (foldl_same π _ (fun s x => ?_) _ _).trans ?_ | refine (elim_same π _ _ _ (fun x => ?_)).trans ?_ | dsimp only

@[simp] theorem loadBlob_frame (s : State) :
    (loadBlob s).dev = s.dev ∧ (loadBlob s).gov = s.gov ∧ (loadBlob s).flt = s.flt ∧ (loadBlob s).tly = s.tly ∧
    (loadBlob s).sal = s.sal ∧ (loadBlob s).map = s.map ∧ (loadBlob s).drn = s.drn ∧ (loadBlob s).hrv = s.hrv ∧
    (loadBlob s).fld = s.fld ∧ (loadBlob s).bed = s.bed ∧ (loadBlob s).heads = s.heads ∧ (loadBlob s).sem = s.sem ∧
    (loadBlob s).pans = s.pans ∧ (loadBlob s).dmc = s.dmc ∧ (loadBlob s).trn = s.trn ∧ (loadBlob s).thm = s.thm ∧
    (loadBlob s).cel = s.cel ∧ (loadBlob s).upd = s.upd ∧ (loadBlob s).key = s.key ∧ (loadBlob s).brl = s.brl ∧
    (loadBlob s).svc = s.svc ∧ (loadBlob s).pins = s.pins ∧ (loadBlob s).lay = s.lay ∧ (loadBlob s).jrn = s.jrn ∧
    (loadBlob s).replies = s.replies ∧ (loadBlob s).dram = s.dram ∧ (loadBlob s).poison = s.poison ∧
    (loadBlob s).serial = s.serial ∧ (loadBlob s).boot = s.boot ∧ (loadBlob s).free = s.free ∧ (loadBlob s).pending = s.pending := by
  refine ⟨?_, ?_, ?_, ?_, ?_, ?_, ?_, ?_, ?_, ?_, ?_, ?_, ?_, ?_, ?_, ?_, ?_, ?_, ?_, ?_, ?_, ?_, ?_, ?_, ?_, ?_, ?_, ?_, ?_, ?_, ?_⟩ <;> exact loadBlob_only _ (fun _ _ => rfl) s

theorem tallyStart_only {β : Type} (π : State → β) (hπ : ∀ s xflt xtly xheads, π { s with flt := xflt, tly := xtly, heads := xheads } = π s) (ringOk : Bool) (testOk : Bool) (s : State) :
    π (tallyStart ringOk testOk s) = π s := by
  unfold tallyStart; repeat' first | contradiction | (simp only [hπ, tlyTell_only π hπ, apply_ite π, ite_self]; done) | split | refine (foldl_same π _ (fun s x => ?_) _ _).trans ?_ | refine (elim_same π _ _ _ (fun x => ?_)).trans ?_ | dsimp only

@[simp] theorem tallyStart_frame (ringOk : Bool) (testOk : Bool) (s : State) :
    (tallyStart ringOk testOk s).dev = s.dev ∧ (tallyStart ringOk testOk s).gov = s.gov ∧
    (tallyStart ringOk testOk s).sal = s.sal ∧ (tallyStart ringOk testOk s).map = s.map ∧
    (tallyStart ringOk testOk s).drn = s.drn ∧ (tallyStart ringOk testOk s).hrv = s.hrv ∧
    (tallyStart ringOk testOk s).fld = s.fld ∧ (tallyStart ringOk testOk s).bed = s.bed ∧
    (tallyStart ringOk testOk s).pip = s.pip ∧ (tallyStart ringOk testOk s).sem = s.sem ∧
    (tallyStart ringOk testOk s).pans = s.pans ∧ (tallyStart ringOk testOk s).dmc = s.dmc ∧
    (tallyStart ringOk testOk s).trn = s.trn ∧ (tallyStart ringOk testOk s).thm = s.thm ∧
    (tallyStart ringOk testOk s).cel = s.cel ∧ (tallyStart ringOk testOk s).upd = s.upd ∧
    (tallyStart ringOk testOk s).key = s.key ∧ (tallyStart ringOk testOk s).brl = s.brl ∧
    (tallyStart ringOk testOk s).svc = s.svc ∧ (tallyStart ringOk testOk s).pins = s.pins ∧
    (tallyStart ringOk testOk s).lay = s.lay ∧ (tallyStart ringOk testOk s).jrn = s.jrn ∧
    (tallyStart ringOk testOk s).replies = s.replies ∧ (tallyStart ringOk testOk s).dram = s.dram ∧
    (tallyStart ringOk testOk s).poison = s.poison ∧ (tallyStart ringOk testOk s).serial = s.serial ∧
    (tallyStart ringOk testOk s).boot = s.boot ∧ (tallyStart ringOk testOk s).free = s.free ∧
    (tallyStart ringOk testOk s).pending = s.pending := by
  refine ⟨?_, ?_, ?_, ?_, ?_, ?_, ?_, ?_, ?_, ?_, ?_, ?_, ?_, ?_, ?_, ?_, ?_, ?_, ?_, ?_, ?_, ?_, ?_, ?_, ?_, ?_, ?_, ?_, ?_⟩ <;> exact tallyStart_only _ (fun _ _ _ _ => rfl) ringOk testOk s

theorem activateSlot_only {β : Type} (π : State → β) (hπ : ∀ s xcel xupd xkey, π { s with cel := xcel, upd := xupd, key := xkey } = π s) (env : StartEnv) (s : State) :
    π (activateSlot env s).1 = π s := by
  unfold activateSlot; repeat' first | contradiction | (simp only [hπ, imageFailed_only π (fun s xkey => hπ s s.cel s.upd xkey), setMarker_only π (fun s xcel xupd => hπ s xcel xupd s.key), failUpdate_only π (fun s xcel xupd => hπ s xcel xupd s.key), apply_ite π, ite_self]; done) | split | refine (foldl_same π _ (fun s x => ?_) _ _).trans ?_ | refine (elim_same π _ _ _ (fun x => ?_)).trans ?_ | dsimp only

@[simp] theorem activateSlot_frame (env : StartEnv) (s : State) :
    (activateSlot env s).1.dev = s.dev ∧ (activateSlot env s).1.gov = s.gov ∧ (activateSlot env s).1.flt = s.flt ∧
    (activateSlot env s).1.tly = s.tly ∧ (activateSlot env s).1.sal = s.sal ∧ (activateSlot env s).1.map = s.map ∧
    (activateSlot env s).1.drn = s.drn ∧ (activateSlot env s).1.hrv = s.hrv ∧ (activateSlot env s).1.fld = s.fld ∧
    (activateSlot env s).1.bed = s.bed ∧ (activateSlot env s).1.pip = s.pip ∧ (activateSlot env s).1.heads = s.heads ∧
    (activateSlot env s).1.sem = s.sem ∧ (activateSlot env s).1.pans = s.pans ∧ (activateSlot env s).1.dmc = s.dmc ∧
    (activateSlot env s).1.trn = s.trn ∧ (activateSlot env s).1.thm = s.thm ∧ (activateSlot env s).1.brl = s.brl ∧
    (activateSlot env s).1.svc = s.svc ∧ (activateSlot env s).1.pins = s.pins ∧ (activateSlot env s).1.lay = s.lay ∧
    (activateSlot env s).1.jrn = s.jrn ∧ (activateSlot env s).1.replies = s.replies ∧ (activateSlot env s).1.dram = s.dram ∧
    (activateSlot env s).1.poison = s.poison ∧ (activateSlot env s).1.serial = s.serial ∧ (activateSlot env s).1.boot = s.boot ∧
    (activateSlot env s).1.free = s.free ∧ (activateSlot env s).1.pending = s.pending := by
  refine ⟨?_, ?_, ?_, ?_, ?_, ?_, ?_, ?_, ?_, ?_, ?_, ?_, ?_, ?_, ?_, ?_, ?_, ?_, ?_, ?_, ?_, ?_, ?_, ?_, ?_, ?_, ?_, ?_, ?_⟩ <;> exact activateSlot_only _ (fun _ _ _ _ => rfl) env s

theorem handOver_only {β : Type} (π : State → β) (hπ : ∀ s xcel xupd, π { s with cel := xcel, upd := xupd } = π s) (s : State) :
    π (handOver s).1 = π s := by
  simp only [handOver, hπ, setMarker_only π hπ, apply_ite π, ite_self]

@[simp] theorem handOver_frame (s : State) :
    (handOver s).1.dev = s.dev ∧ (handOver s).1.gov = s.gov ∧ (handOver s).1.flt = s.flt ∧ (handOver s).1.tly = s.tly ∧
    (handOver s).1.sal = s.sal ∧ (handOver s).1.map = s.map ∧ (handOver s).1.drn = s.drn ∧ (handOver s).1.hrv = s.hrv ∧
    (handOver s).1.fld = s.fld ∧ (handOver s).1.bed = s.bed ∧ (handOver s).1.pip = s.pip ∧ (handOver s).1.heads = s.heads ∧
    (handOver s).1.sem = s.sem ∧ (handOver s).1.pans = s.pans ∧ (handOver s).1.dmc = s.dmc ∧ (handOver s).1.trn = s.trn ∧
    (handOver s).1.thm = s.thm ∧ (handOver s).1.key = s.key ∧ (handOver s).1.brl = s.brl ∧ (handOver s).1.svc = s.svc ∧
    (handOver s).1.pins = s.pins ∧ (handOver s).1.lay = s.lay ∧ (handOver s).1.jrn = s.jrn ∧ (handOver s).1.replies = s.replies ∧
    (handOver s).1.dram = s.dram ∧ (handOver s).1.poison = s.poison ∧ (handOver s).1.serial = s.serial ∧
    (handOver s).1.boot = s.boot ∧ (handOver s).1.free = s.free ∧ (handOver s).1.pending = s.pending := by
  refine ⟨?_, ?_, ?_, ?_, ?_, ?_, ?_, ?_, ?_, ?_, ?_, ?_, ?_, ?_, ?_, ?_, ?_, ?_, ?_, ?_, ?_, ?_, ?_, ?_, ?_, ?_, ?_, ?_, ?_, ?_⟩ <;> exact handOver_only _ (fun _ _ _ => rfl) s

theorem chooseSlot_only {β : Type} (π : State → β) (hπ : ∀ s xcel xupd xkey, π { s with cel := xcel, upd := xupd, key := xkey } = π s) (env : StartEnv) (g : GroupCode) (s0 : State) :
    π (chooseSlot env g s0).1 = π s0 := by
  unfold chooseSlot; repeat' first | contradiction | (simp only [hπ, setMarker_only π (fun s xcel xupd => hπ s xcel xupd s.key), failUpdate_only π (fun s xcel xupd => hπ s xcel xupd s.key), activateSlot_only π hπ, handOver_only π (fun s xcel xupd => hπ s xcel xupd s.key), apply_ite π, ite_self]; done) | split | refine (foldl_same π _ (fun s x => ?_) _ _).trans ?_ | refine (elim_same π _ _ _ (fun x => ?_)).trans ?_ | dsimp only

@[simp] theorem chooseSlot_frame (env : StartEnv) (g : GroupCode) (s0 : State) :
    (chooseSlot env g s0).1.dev = s0.dev ∧ (chooseSlot env g s0).1.gov = s0.gov ∧ (chooseSlot env g s0).1.flt = s0.flt ∧
    (chooseSlot env g s0).1.tly = s0.tly ∧ (chooseSlot env g s0).1.sal = s0.sal ∧ (chooseSlot env g s0).1.map = s0.map ∧
    (chooseSlot env g s0).1.drn = s0.drn ∧ (chooseSlot env g s0).1.hrv = s0.hrv ∧ (chooseSlot env g s0).1.fld = s0.fld ∧
    (chooseSlot env g s0).1.bed = s0.bed ∧ (chooseSlot env g s0).1.pip = s0.pip ∧ (chooseSlot env g s0).1.heads = s0.heads ∧
    (chooseSlot env g s0).1.sem = s0.sem ∧ (chooseSlot env g s0).1.pans = s0.pans ∧ (chooseSlot env g s0).1.dmc = s0.dmc ∧
    (chooseSlot env g s0).1.trn = s0.trn ∧ (chooseSlot env g s0).1.thm = s0.thm ∧ (chooseSlot env g s0).1.brl = s0.brl ∧
    (chooseSlot env g s0).1.svc = s0.svc ∧ (chooseSlot env g s0).1.pins = s0.pins ∧ (chooseSlot env g s0).1.lay = s0.lay ∧
    (chooseSlot env g s0).1.jrn = s0.jrn ∧ (chooseSlot env g s0).1.replies = s0.replies ∧ (chooseSlot env g s0).1.dram = s0.dram ∧
    (chooseSlot env g s0).1.poison = s0.poison ∧ (chooseSlot env g s0).1.serial = s0.serial ∧
    (chooseSlot env g s0).1.boot = s0.boot ∧ (chooseSlot env g s0).1.free = s0.free ∧ (chooseSlot env g s0).1.pending = s0.pending := by
  refine ⟨?_, ?_, ?_, ?_, ?_, ?_, ?_, ?_, ?_, ?_, ?_, ?_, ?_, ?_, ?_, ?_, ?_, ?_, ?_, ?_, ?_, ?_, ?_, ?_, ?_, ?_, ?_, ?_, ?_⟩ <;> exact chooseSlot_only _ (fun _ _ _ _ => rfl) env g s0

theorem verifySlot_only {β : Type} (π : State → β) (hπ : ∀ s xcel xupd xkey, π { s with cel := xcel, upd := xupd, key := xkey } = π s) (env : StartEnv) (p : State × Bool) :
    π (verifySlot env p).1 = π p.1 := by
  unfold verifySlot; repeat' first | contradiction | (simp only [hπ, imageFailed_only π (fun s xkey => hπ s s.cel s.upd xkey), setMarker_only π (fun s xcel xupd => hπ s xcel xupd s.key), failUpdate_only π (fun s xcel xupd => hπ s xcel xupd s.key), apply_ite π, ite_self]; done) | split | refine (foldl_same π _ (fun s x => ?_) _ _).trans ?_ | refine (elim_same π _ _ _ (fun x => ?_)).trans ?_ | dsimp only

@[simp] theorem verifySlot_frame (env : StartEnv) (p : State × Bool) :
    (verifySlot env p).1.dev = p.1.dev ∧ (verifySlot env p).1.gov = p.1.gov ∧ (verifySlot env p).1.flt = p.1.flt ∧
    (verifySlot env p).1.tly = p.1.tly ∧ (verifySlot env p).1.sal = p.1.sal ∧ (verifySlot env p).1.map = p.1.map ∧
    (verifySlot env p).1.drn = p.1.drn ∧ (verifySlot env p).1.hrv = p.1.hrv ∧ (verifySlot env p).1.fld = p.1.fld ∧
    (verifySlot env p).1.bed = p.1.bed ∧ (verifySlot env p).1.pip = p.1.pip ∧ (verifySlot env p).1.heads = p.1.heads ∧
    (verifySlot env p).1.sem = p.1.sem ∧ (verifySlot env p).1.pans = p.1.pans ∧ (verifySlot env p).1.dmc = p.1.dmc ∧
    (verifySlot env p).1.trn = p.1.trn ∧ (verifySlot env p).1.thm = p.1.thm ∧ (verifySlot env p).1.brl = p.1.brl ∧
    (verifySlot env p).1.svc = p.1.svc ∧ (verifySlot env p).1.pins = p.1.pins ∧ (verifySlot env p).1.lay = p.1.lay ∧
    (verifySlot env p).1.jrn = p.1.jrn ∧ (verifySlot env p).1.replies = p.1.replies ∧ (verifySlot env p).1.dram = p.1.dram ∧
    (verifySlot env p).1.poison = p.1.poison ∧ (verifySlot env p).1.serial = p.1.serial ∧ (verifySlot env p).1.boot = p.1.boot ∧
    (verifySlot env p).1.free = p.1.free ∧ (verifySlot env p).1.pending = p.1.pending := by
  refine ⟨?_, ?_, ?_, ?_, ?_, ?_, ?_, ?_, ?_, ?_, ?_, ?_, ?_, ?_, ?_, ?_, ?_, ?_, ?_, ?_, ?_, ?_, ?_, ?_, ?_, ?_, ?_, ?_, ?_⟩ <;> exact verifySlot_only _ (fun _ _ _ _ => rfl) env p

theorem runSlot_only {β : Type} (π : State → β) (hπ : ∀ s xupd, π { s with upd := xupd } = π s) (b : Bool) (s : State) :
    π (runSlot b s) = π s := by
  unfold runSlot; repeat' first | contradiction | (simp only [hπ, apply_ite π, ite_self]; done) | split | refine (foldl_same π _ (fun s x => ?_) _ _).trans ?_ | refine (elim_same π _ _ _ (fun x => ?_)).trans ?_ | dsimp only

@[simp] theorem runSlot_frame (b : Bool) (s : State) :
    (runSlot b s).dev = s.dev ∧ (runSlot b s).gov = s.gov ∧ (runSlot b s).flt = s.flt ∧ (runSlot b s).tly = s.tly ∧
    (runSlot b s).sal = s.sal ∧ (runSlot b s).map = s.map ∧ (runSlot b s).drn = s.drn ∧ (runSlot b s).hrv = s.hrv ∧
    (runSlot b s).fld = s.fld ∧ (runSlot b s).bed = s.bed ∧ (runSlot b s).pip = s.pip ∧ (runSlot b s).heads = s.heads ∧
    (runSlot b s).sem = s.sem ∧ (runSlot b s).pans = s.pans ∧ (runSlot b s).dmc = s.dmc ∧ (runSlot b s).trn = s.trn ∧
    (runSlot b s).thm = s.thm ∧ (runSlot b s).cel = s.cel ∧ (runSlot b s).key = s.key ∧ (runSlot b s).brl = s.brl ∧
    (runSlot b s).svc = s.svc ∧ (runSlot b s).pins = s.pins ∧ (runSlot b s).lay = s.lay ∧ (runSlot b s).jrn = s.jrn ∧
    (runSlot b s).replies = s.replies ∧ (runSlot b s).dram = s.dram ∧ (runSlot b s).poison = s.poison ∧
    (runSlot b s).serial = s.serial ∧ (runSlot b s).boot = s.boot ∧ (runSlot b s).free = s.free ∧ (runSlot b s).pending = s.pending := by
  refine ⟨?_, ?_, ?_, ?_, ?_, ?_, ?_, ?_, ?_, ?_, ?_, ?_, ?_, ?_, ?_, ?_, ?_, ?_, ?_, ?_, ?_, ?_, ?_, ?_, ?_, ?_, ?_, ?_, ?_, ?_, ?_⟩ <;> exact runSlot_only _ (fun _ _ => rfl) b s

theorem stepFuses_only {β : Type} (π : State → β) (hπ : ∀ s xkey, π { s with key := xkey } = π s) (s : State) :
    π (stepFuses s) = π s := by
  unfold stepFuses; repeat' first | contradiction | (simp only [hπ, apply_ite π, ite_self]; done) | split | refine (foldl_same π _ (fun s x => ?_) _ _).trans ?_ | refine (elim_same π _ _ _ (fun x => ?_)).trans ?_ | dsimp only

@[simp] theorem stepFuses_frame (s : State) :
    (stepFuses s).dev = s.dev ∧ (stepFuses s).gov = s.gov ∧ (stepFuses s).flt = s.flt ∧ (stepFuses s).tly = s.tly ∧
    (stepFuses s).sal = s.sal ∧ (stepFuses s).map = s.map ∧ (stepFuses s).drn = s.drn ∧ (stepFuses s).hrv = s.hrv ∧
    (stepFuses s).fld = s.fld ∧ (stepFuses s).bed = s.bed ∧ (stepFuses s).pip = s.pip ∧ (stepFuses s).heads = s.heads ∧
    (stepFuses s).sem = s.sem ∧ (stepFuses s).pans = s.pans ∧ (stepFuses s).dmc = s.dmc ∧ (stepFuses s).trn = s.trn ∧
    (stepFuses s).thm = s.thm ∧ (stepFuses s).cel = s.cel ∧ (stepFuses s).upd = s.upd ∧ (stepFuses s).brl = s.brl ∧
    (stepFuses s).svc = s.svc ∧ (stepFuses s).pins = s.pins ∧ (stepFuses s).lay = s.lay ∧ (stepFuses s).jrn = s.jrn ∧
    (stepFuses s).replies = s.replies ∧ (stepFuses s).dram = s.dram ∧ (stepFuses s).poison = s.poison ∧
    (stepFuses s).serial = s.serial ∧ (stepFuses s).boot = s.boot ∧ (stepFuses s).free = s.free ∧ (stepFuses s).pending = s.pending := by
  refine ⟨?_, ?_, ?_, ?_, ?_, ?_, ?_, ?_, ?_, ?_, ?_, ?_, ?_, ?_, ?_, ?_, ?_, ?_, ?_, ?_, ?_, ?_, ?_, ?_, ?_, ?_, ?_, ?_, ?_, ?_, ?_⟩ <;> exact stepFuses_only _ (fun _ _ => rfl) s

theorem putTherm_only {β : Type} (π : State → β) (hπ : ∀ s xthm, π { s with thm := xthm } = π s) (t : ThermParams) (s : State) :
    π (putTherm t s) = π s := by
  simp only [putTherm, hπ, apply_ite π, ite_self]

@[simp] theorem putTherm_frame (t : ThermParams) (s : State) :
    (putTherm t s).dev = s.dev ∧ (putTherm t s).gov = s.gov ∧ (putTherm t s).flt = s.flt ∧ (putTherm t s).tly = s.tly ∧
    (putTherm t s).sal = s.sal ∧ (putTherm t s).map = s.map ∧ (putTherm t s).drn = s.drn ∧ (putTherm t s).hrv = s.hrv ∧
    (putTherm t s).fld = s.fld ∧ (putTherm t s).bed = s.bed ∧ (putTherm t s).pip = s.pip ∧ (putTherm t s).heads = s.heads ∧
    (putTherm t s).sem = s.sem ∧ (putTherm t s).pans = s.pans ∧ (putTherm t s).dmc = s.dmc ∧ (putTherm t s).trn = s.trn ∧
    (putTherm t s).cel = s.cel ∧ (putTherm t s).upd = s.upd ∧ (putTherm t s).key = s.key ∧ (putTherm t s).brl = s.brl ∧
    (putTherm t s).svc = s.svc ∧ (putTherm t s).pins = s.pins ∧ (putTherm t s).lay = s.lay ∧ (putTherm t s).jrn = s.jrn ∧
    (putTherm t s).replies = s.replies ∧ (putTherm t s).dram = s.dram ∧ (putTherm t s).poison = s.poison ∧
    (putTherm t s).serial = s.serial ∧ (putTherm t s).boot = s.boot ∧ (putTherm t s).free = s.free ∧
    (putTherm t s).pending = s.pending := by
  refine ⟨?_, ?_, ?_, ?_, ?_, ?_, ?_, ?_, ?_, ?_, ?_, ?_, ?_, ?_, ?_, ?_, ?_, ?_, ?_, ?_, ?_, ?_, ?_, ?_, ?_, ?_, ?_, ?_, ?_, ?_, ?_⟩ <;> exact putTherm_only _ (fun _ _ => rfl) t s

theorem matchCalib_only {β : Type} (π : State → β) (hπ : ∀ s xcel, π { s with cel := xcel } = π s) (env : StartEnv) (s : State) :
    π (matchCalib env s) = π s := by
  unfold matchCalib; repeat' first | contradiction | (simp only [hπ, wearSector_only π hπ, apply_ite π, ite_self]; done) | split | refine (foldl_same π _ (fun s x => ?_) _ _).trans ?_ | refine (elim_same π _ _ _ (fun x => ?_)).trans ?_ | dsimp only

@[simp] theorem matchCalib_frame (env : StartEnv) (s : State) :
    (matchCalib env s).dev = s.dev ∧ (matchCalib env s).gov = s.gov ∧ (matchCalib env s).flt = s.flt ∧
    (matchCalib env s).tly = s.tly ∧ (matchCalib env s).sal = s.sal ∧ (matchCalib env s).map = s.map ∧
    (matchCalib env s).drn = s.drn ∧ (matchCalib env s).hrv = s.hrv ∧ (matchCalib env s).fld = s.fld ∧
    (matchCalib env s).bed = s.bed ∧ (matchCalib env s).pip = s.pip ∧ (matchCalib env s).heads = s.heads ∧
    (matchCalib env s).sem = s.sem ∧ (matchCalib env s).pans = s.pans ∧ (matchCalib env s).dmc = s.dmc ∧
    (matchCalib env s).trn = s.trn ∧ (matchCalib env s).thm = s.thm ∧ (matchCalib env s).upd = s.upd ∧
    (matchCalib env s).key = s.key ∧ (matchCalib env s).brl = s.brl ∧ (matchCalib env s).svc = s.svc ∧
    (matchCalib env s).pins = s.pins ∧ (matchCalib env s).lay = s.lay ∧ (matchCalib env s).jrn = s.jrn ∧
    (matchCalib env s).replies = s.replies ∧ (matchCalib env s).dram = s.dram ∧ (matchCalib env s).poison = s.poison ∧
    (matchCalib env s).serial = s.serial ∧ (matchCalib env s).boot = s.boot ∧ (matchCalib env s).free = s.free ∧
    (matchCalib env s).pending = s.pending := by
  refine ⟨?_, ?_, ?_, ?_, ?_, ?_, ?_, ?_, ?_, ?_, ?_, ?_, ?_, ?_, ?_, ?_, ?_, ?_, ?_, ?_, ?_, ?_, ?_, ?_, ?_, ?_, ?_, ?_, ?_, ?_, ?_⟩ <;> exact matchCalib_only _ (fun _ _ => rfl) env s

theorem putLayout_only {β : Type} (π : State → β) (hπ : ∀ s xflt xhrv xpip xsem xdmc xthm xupd xsvc xlay, π { s with flt := xflt, hrv := xhrv, pip := xpip, sem := xsem, dmc := xdmc, thm := xthm, upd := xupd, svc := xsvc, lay := xlay } = π s) (l : Layout) (s : State) :
    π (putLayout l s) = π s := by
  simp only [putLayout, hπ, putTherm_only π (fun s xthm => hπ s s.flt s.hrv s.pip s.sem s.dmc xthm s.upd s.svc s.lay), apply_ite π, ite_self]

@[simp] theorem putLayout_frame (l : Layout) (s : State) :
    (putLayout l s).dev = s.dev ∧ (putLayout l s).gov = s.gov ∧ (putLayout l s).tly = s.tly ∧ (putLayout l s).sal = s.sal ∧
    (putLayout l s).map = s.map ∧ (putLayout l s).drn = s.drn ∧ (putLayout l s).fld = s.fld ∧ (putLayout l s).bed = s.bed ∧
    (putLayout l s).heads = s.heads ∧ (putLayout l s).pans = s.pans ∧ (putLayout l s).trn = s.trn ∧ (putLayout l s).cel = s.cel ∧
    (putLayout l s).key = s.key ∧ (putLayout l s).brl = s.brl ∧ (putLayout l s).pins = s.pins ∧ (putLayout l s).jrn = s.jrn ∧
    (putLayout l s).replies = s.replies ∧ (putLayout l s).dram = s.dram ∧ (putLayout l s).poison = s.poison ∧
    (putLayout l s).serial = s.serial ∧ (putLayout l s).boot = s.boot ∧ (putLayout l s).free = s.free ∧
    (putLayout l s).pending = s.pending := by
  refine ⟨?_, ?_, ?_, ?_, ?_, ?_, ?_, ?_, ?_, ?_, ?_, ?_, ?_, ?_, ?_, ?_, ?_, ?_, ?_, ?_, ?_, ?_, ?_⟩ <;> exact putLayout_only _ (fun _ _ _ _ _ _ _ _ _ _ => rfl) l s

theorem refuseToArm_only {β : Type} (π : State → β) (hπ : ∀ s xgov xupd, π { s with gov := xgov, upd := xupd } = π s) (s : State) :
    π (refuseToArm s) = π s := by
  simp only [refuseToArm, hπ, apply_ite π, ite_self]

@[simp] theorem refuseToArm_frame (s : State) :
    (refuseToArm s).dev = s.dev ∧ (refuseToArm s).flt = s.flt ∧ (refuseToArm s).tly = s.tly ∧ (refuseToArm s).sal = s.sal ∧
    (refuseToArm s).map = s.map ∧ (refuseToArm s).drn = s.drn ∧ (refuseToArm s).hrv = s.hrv ∧ (refuseToArm s).fld = s.fld ∧
    (refuseToArm s).bed = s.bed ∧ (refuseToArm s).pip = s.pip ∧ (refuseToArm s).heads = s.heads ∧ (refuseToArm s).sem = s.sem ∧
    (refuseToArm s).pans = s.pans ∧ (refuseToArm s).dmc = s.dmc ∧ (refuseToArm s).trn = s.trn ∧ (refuseToArm s).thm = s.thm ∧
    (refuseToArm s).cel = s.cel ∧ (refuseToArm s).key = s.key ∧ (refuseToArm s).brl = s.brl ∧ (refuseToArm s).svc = s.svc ∧
    (refuseToArm s).pins = s.pins ∧ (refuseToArm s).lay = s.lay ∧ (refuseToArm s).jrn = s.jrn ∧
    (refuseToArm s).replies = s.replies ∧ (refuseToArm s).dram = s.dram ∧ (refuseToArm s).poison = s.poison ∧
    (refuseToArm s).serial = s.serial ∧ (refuseToArm s).boot = s.boot ∧ (refuseToArm s).free = s.free ∧
    (refuseToArm s).pending = s.pending := by
  refine ⟨?_, ?_, ?_, ?_, ?_, ?_, ?_, ?_, ?_, ?_, ?_, ?_, ?_, ?_, ?_, ?_, ?_, ?_, ?_, ?_, ?_, ?_, ?_, ?_, ?_, ?_, ?_, ?_, ?_, ?_⟩ <;> exact refuseToArm_only _ (fun _ _ _ => rfl) s

theorem bootLayout_only {β : Type} (π : State → β) (hπ : ∀ s xgov xflt xhrv xpip xsem xdmc xthm xcel xupd xkey xsvc xlay, π { s with gov := xgov, flt := xflt, hrv := xhrv, pip := xpip, sem := xsem, dmc := xdmc, thm := xthm, cel := xcel, upd := xupd, key := xkey, svc := xsvc, lay := xlay } = π s) (env : StartEnv) (s : State) :
    π (bootLayout env s) = π s := by
  unfold bootLayout; repeat' first | contradiction | (simp only [hπ, verifyFail_only π (fun s xkey => hπ s s.gov s.flt s.hrv s.pip s.sem s.dmc s.thm s.cel s.upd xkey s.svc s.lay), failUpdate_only π (fun s xcel xupd => hπ s s.gov s.flt s.hrv s.pip s.sem s.dmc s.thm xcel xupd s.key s.svc s.lay), putLayout_only π (fun s xflt xhrv xpip xsem xdmc xthm xupd xsvc xlay => hπ s s.gov xflt xhrv xpip xsem xdmc xthm s.cel xupd s.key xsvc xlay), refuseToArm_only π (fun s xgov xupd => hπ s xgov s.flt s.hrv s.pip s.sem s.dmc s.thm s.cel xupd s.key s.svc s.lay), apply_ite π, ite_self]; done) | split | refine (foldl_same π _ (fun s x => ?_) _ _).trans ?_ | refine (elim_same π _ _ _ (fun x => ?_)).trans ?_ | dsimp only

@[simp] theorem bootLayout_frame (env : StartEnv) (s : State) :
    (bootLayout env s).dev = s.dev ∧ (bootLayout env s).tly = s.tly ∧ (bootLayout env s).sal = s.sal ∧
    (bootLayout env s).map = s.map ∧ (bootLayout env s).drn = s.drn ∧ (bootLayout env s).fld = s.fld ∧
    (bootLayout env s).bed = s.bed ∧ (bootLayout env s).heads = s.heads ∧ (bootLayout env s).pans = s.pans ∧
    (bootLayout env s).trn = s.trn ∧ (bootLayout env s).brl = s.brl ∧ (bootLayout env s).pins = s.pins ∧
    (bootLayout env s).jrn = s.jrn ∧ (bootLayout env s).replies = s.replies ∧ (bootLayout env s).dram = s.dram ∧
    (bootLayout env s).poison = s.poison ∧ (bootLayout env s).serial = s.serial ∧ (bootLayout env s).boot = s.boot ∧
    (bootLayout env s).free = s.free ∧ (bootLayout env s).pending = s.pending := by
  refine ⟨?_, ?_, ?_, ?_, ?_, ?_, ?_, ?_, ?_, ?_, ?_, ?_, ?_, ?_, ?_, ?_, ?_, ?_, ?_, ?_⟩ <;> exact bootLayout_only _ (fun _ _ _ _ _ _ _ _ _ _ _ _ _ => rfl) env s

theorem putRetained_only {β : Type} (π : State → β) (hπ : ∀ s xgov xtly xsal xdrn xpip xsem xpans xdmc xtrn xthm, π { s with gov := xgov, tly := xtly, sal := xsal, drn := xdrn, pip := xpip, sem := xsem, pans := xpans, dmc := xdmc, trn := xtrn, thm := xthm } = π s) (v : Retained) (s : State) :
    π (putRetained v s) = π s := by
  unfold putRetained; repeat' first | contradiction | (simp only [hπ, foldl_same π, apply_ite π, ite_self]; done) | split | refine (foldl_same π _ (fun s x => ?_) _ _).trans ?_ | refine (elim_same π _ _ _ (fun x => ?_)).trans ?_ | dsimp only

@[simp] theorem putRetained_frame (v : Retained) (s : State) :
    (putRetained v s).dev = s.dev ∧ (putRetained v s).flt = s.flt ∧ (putRetained v s).map = s.map ∧ (putRetained v s).hrv = s.hrv ∧
    (putRetained v s).fld = s.fld ∧ (putRetained v s).bed = s.bed ∧ (putRetained v s).heads = s.heads ∧
    (putRetained v s).cel = s.cel ∧ (putRetained v s).upd = s.upd ∧ (putRetained v s).key = s.key ∧ (putRetained v s).brl = s.brl ∧
    (putRetained v s).svc = s.svc ∧ (putRetained v s).pins = s.pins ∧ (putRetained v s).lay = s.lay ∧
    (putRetained v s).jrn = s.jrn ∧ (putRetained v s).replies = s.replies ∧ (putRetained v s).dram = s.dram ∧
    (putRetained v s).poison = s.poison ∧ (putRetained v s).serial = s.serial ∧ (putRetained v s).boot = s.boot ∧
    (putRetained v s).free = s.free ∧ (putRetained v s).pending = s.pending := by
  refine ⟨?_, ?_, ?_, ?_, ?_, ?_, ?_, ?_, ?_, ?_, ?_, ?_, ?_, ?_, ?_, ?_, ?_, ?_, ?_, ?_, ?_, ?_⟩ <;> exact putRetained_only _ (fun _ _ _ _ _ _ _ _ _ _ _ => rfl) v s

theorem readableAreas_only {β : Type} (π : State → β) (hπ : ∀ s xupd, π { s with upd := xupd } = π s) (env : StartEnv) (s : State) :
    π (readableAreas env s) = π s := by
  simp only [readableAreas, hπ, apply_ite π, ite_self]

@[simp] theorem readableAreas_frame (env : StartEnv) (s : State) :
    (readableAreas env s).dev = s.dev ∧ (readableAreas env s).gov = s.gov ∧ (readableAreas env s).flt = s.flt ∧
    (readableAreas env s).tly = s.tly ∧ (readableAreas env s).sal = s.sal ∧ (readableAreas env s).map = s.map ∧
    (readableAreas env s).drn = s.drn ∧ (readableAreas env s).hrv = s.hrv ∧ (readableAreas env s).fld = s.fld ∧
    (readableAreas env s).bed = s.bed ∧ (readableAreas env s).pip = s.pip ∧ (readableAreas env s).heads = s.heads ∧
    (readableAreas env s).sem = s.sem ∧ (readableAreas env s).pans = s.pans ∧ (readableAreas env s).dmc = s.dmc ∧
    (readableAreas env s).trn = s.trn ∧ (readableAreas env s).thm = s.thm ∧ (readableAreas env s).cel = s.cel ∧
    (readableAreas env s).key = s.key ∧ (readableAreas env s).brl = s.brl ∧ (readableAreas env s).svc = s.svc ∧
    (readableAreas env s).pins = s.pins ∧ (readableAreas env s).lay = s.lay ∧ (readableAreas env s).jrn = s.jrn ∧
    (readableAreas env s).replies = s.replies ∧ (readableAreas env s).dram = s.dram ∧ (readableAreas env s).poison = s.poison ∧
    (readableAreas env s).serial = s.serial ∧ (readableAreas env s).boot = s.boot ∧ (readableAreas env s).free = s.free ∧
    (readableAreas env s).pending = s.pending := by
  refine ⟨?_, ?_, ?_, ?_, ?_, ?_, ?_, ?_, ?_, ?_, ?_, ?_, ?_, ?_, ?_, ?_, ?_, ?_, ?_, ?_, ?_, ?_, ?_, ?_, ?_, ?_, ?_, ?_, ?_, ?_, ?_⟩ <;> exact readableAreas_only _ (fun _ _ => rfl) env s

theorem loadCopy_only {β : Type} (π : State → β) (hπ : ∀ s xgov xtly xsal xdrn xpip xsem xpans xdmc xtrn xthm xcel xupd, π { s with gov := xgov, tly := xtly, sal := xsal, drn := xdrn, pip := xpip, sem := xsem, pans := xpans, dmc := xdmc, trn := xtrn, thm := xthm, cel := xcel, upd := xupd } = π s) (n : Nat) (c : SettingsCopy) (s : State) :
    π (loadCopy n c s) = π s := by
  unfold loadCopy; repeat' first | contradiction | (simp only [hπ, eraseArea_only π (fun s xcel xupd => hπ s s.gov s.tly s.sal s.drn s.pip s.sem s.pans s.dmc s.trn s.thm xcel xupd), putRetained_only π (fun s xgov xtly xsal xdrn xpip xsem xpans xdmc xtrn xthm => hπ s xgov xtly xsal xdrn xpip xsem xpans xdmc xtrn xthm s.cel s.upd), apply_ite π, ite_self]; done) | split | refine (foldl_same π _ (fun s x => ?_) _ _).trans ?_ | refine (elim_same π _ _ _ (fun x => ?_)).trans ?_ | dsimp only

@[simp] theorem loadCopy_frame (n : Nat) (c : SettingsCopy) (s : State) :
    (loadCopy n c s).dev = s.dev ∧ (loadCopy n c s).flt = s.flt ∧ (loadCopy n c s).map = s.map ∧ (loadCopy n c s).hrv = s.hrv ∧
    (loadCopy n c s).fld = s.fld ∧ (loadCopy n c s).bed = s.bed ∧ (loadCopy n c s).heads = s.heads ∧ (loadCopy n c s).key = s.key ∧
    (loadCopy n c s).brl = s.brl ∧ (loadCopy n c s).svc = s.svc ∧ (loadCopy n c s).pins = s.pins ∧ (loadCopy n c s).lay = s.lay ∧
    (loadCopy n c s).jrn = s.jrn ∧ (loadCopy n c s).replies = s.replies ∧ (loadCopy n c s).dram = s.dram ∧
    (loadCopy n c s).poison = s.poison ∧ (loadCopy n c s).serial = s.serial ∧ (loadCopy n c s).boot = s.boot ∧
    (loadCopy n c s).free = s.free ∧ (loadCopy n c s).pending = s.pending := by
  refine ⟨?_, ?_, ?_, ?_, ?_, ?_, ?_, ?_, ?_, ?_, ?_, ?_, ?_, ?_, ?_, ?_, ?_, ?_, ?_, ?_⟩ <;> exact loadCopy_only _ (fun _ _ _ _ _ _ _ _ _ _ _ _ _ => rfl) n c s

theorem loadCold_only {β : Type} (π : State → β) (hπ : ∀ s xgov xtly xsal xdrn xpip xsem xpans xdmc xtrn xthm xupd, π { s with gov := xgov, tly := xtly, sal := xsal, drn := xdrn, pip := xpip, sem := xsem, pans := xpans, dmc := xdmc, trn := xtrn, thm := xthm, upd := xupd } = π s) (s : State) :
    π (loadCold s) = π s := by
  simp only [loadCold, hπ, putRetained_only π (fun s xgov xtly xsal xdrn xpip xsem xpans xdmc xtrn xthm => hπ s xgov xtly xsal xdrn xpip xsem xpans xdmc xtrn xthm s.upd), apply_ite π, ite_self]

@[simp] theorem loadCold_frame (s : State) :
    (loadCold s).dev = s.dev ∧ (loadCold s).flt = s.flt ∧ (loadCold s).map = s.map ∧ (loadCold s).hrv = s.hrv ∧
    (loadCold s).fld = s.fld ∧ (loadCold s).bed = s.bed ∧ (loadCold s).heads = s.heads ∧ (loadCold s).cel = s.cel ∧
    (loadCold s).key = s.key ∧ (loadCold s).brl = s.brl ∧ (loadCold s).svc = s.svc ∧ (loadCold s).pins = s.pins ∧
    (loadCold s).lay = s.lay ∧ (loadCold s).jrn = s.jrn ∧ (loadCold s).replies = s.replies ∧ (loadCold s).dram = s.dram ∧
    (loadCold s).poison = s.poison ∧ (loadCold s).serial = s.serial ∧ (loadCold s).boot = s.boot ∧ (loadCold s).free = s.free ∧
    (loadCold s).pending = s.pending := by
  refine ⟨?_, ?_, ?_, ?_, ?_, ?_, ?_, ?_, ?_, ?_, ?_, ?_, ?_, ?_, ?_, ?_, ?_, ?_, ?_, ?_, ?_⟩ <;> exact loadCold_only _ (fun _ _ _ _ _ _ _ _ _ _ _ _ => rfl) s

theorem unreadableSettings_only {β : Type} (π : State → β) (hπ : ∀ s xgov xtly xsal xdrn xpip xsem xpans xdmc xtrn xthm xcel xupd, π { s with gov := xgov, tly := xtly, sal := xsal, drn := xdrn, pip := xpip, sem := xsem, pans := xpans, dmc := xdmc, trn := xtrn, thm := xthm, cel := xcel, upd := xupd } = π s) (s : State) :
    π (unreadableSettings s) = π s := by
  unfold unreadableSettings; repeat' first | contradiction | (simp only [hπ, failUpdate_only π (fun s xcel xupd => hπ s s.gov s.tly s.sal s.drn s.pip s.sem s.pans s.dmc s.trn s.thm xcel xupd), refuseToArm_only π (fun s xgov xupd => hπ s xgov s.tly s.sal s.drn s.pip s.sem s.pans s.dmc s.trn s.thm s.cel xupd), loadCold_only π (fun s xgov xtly xsal xdrn xpip xsem xpans xdmc xtrn xthm xupd => hπ s xgov xtly xsal xdrn xpip xsem xpans xdmc xtrn xthm s.cel xupd), apply_ite π, ite_self]; done) | split | refine (foldl_same π _ (fun s x => ?_) _ _).trans ?_ | refine (elim_same π _ _ _ (fun x => ?_)).trans ?_ | dsimp only

@[simp] theorem unreadableSettings_frame (s : State) :
    (unreadableSettings s).dev = s.dev ∧ (unreadableSettings s).flt = s.flt ∧ (unreadableSettings s).map = s.map ∧
    (unreadableSettings s).hrv = s.hrv ∧ (unreadableSettings s).fld = s.fld ∧ (unreadableSettings s).bed = s.bed ∧
    (unreadableSettings s).heads = s.heads ∧ (unreadableSettings s).key = s.key ∧ (unreadableSettings s).brl = s.brl ∧
    (unreadableSettings s).svc = s.svc ∧ (unreadableSettings s).pins = s.pins ∧ (unreadableSettings s).lay = s.lay ∧
    (unreadableSettings s).jrn = s.jrn ∧ (unreadableSettings s).replies = s.replies ∧ (unreadableSettings s).dram = s.dram ∧
    (unreadableSettings s).poison = s.poison ∧ (unreadableSettings s).serial = s.serial ∧ (unreadableSettings s).boot = s.boot ∧
    (unreadableSettings s).free = s.free ∧ (unreadableSettings s).pending = s.pending := by
  refine ⟨?_, ?_, ?_, ?_, ?_, ?_, ?_, ?_, ?_, ?_, ?_, ?_, ?_, ?_, ?_, ?_, ?_, ?_, ?_, ?_⟩ <;> exact unreadableSettings_only _ (fun _ _ _ _ _ _ _ _ _ _ _ _ _ => rfl) s

theorem migrate_only {β : Type} (π : State → β) (hπ : ∀ s xgov xtly xsal xdrn xpip xsem xpans xdmc xtrn xthm xcel xupd, π { s with gov := xgov, tly := xtly, sal := xsal, drn := xdrn, pip := xpip, sem := xsem, pans := xpans, dmc := xdmc, trn := xtrn, thm := xthm, cel := xcel, upd := xupd } = π s) (s : State) :
    π (migrate s) = π s := by
  unfold migrate; repeat' first | contradiction | (simp only [hπ, eraseArea_only π (fun s xcel xupd => hπ s s.gov s.tly s.sal s.drn s.pip s.sem s.pans s.dmc s.trn s.thm xcel xupd), putRetained_only π (fun s xgov xtly xsal xdrn xpip xsem xpans xdmc xtrn xthm => hπ s xgov xtly xsal xdrn xpip xsem xpans xdmc xtrn xthm s.cel s.upd), unreadableSettings_only π hπ, apply_ite π, ite_self]; done) | split | refine (foldl_same π _ (fun s x => ?_) _ _).trans ?_ | refine (elim_same π _ _ _ (fun x => ?_)).trans ?_ | dsimp only

@[simp] theorem migrate_frame (s : State) :
    (migrate s).dev = s.dev ∧ (migrate s).flt = s.flt ∧ (migrate s).map = s.map ∧ (migrate s).hrv = s.hrv ∧
    (migrate s).fld = s.fld ∧ (migrate s).bed = s.bed ∧ (migrate s).heads = s.heads ∧ (migrate s).key = s.key ∧
    (migrate s).brl = s.brl ∧ (migrate s).svc = s.svc ∧ (migrate s).pins = s.pins ∧ (migrate s).lay = s.lay ∧
    (migrate s).jrn = s.jrn ∧ (migrate s).replies = s.replies ∧ (migrate s).dram = s.dram ∧ (migrate s).poison = s.poison ∧
    (migrate s).serial = s.serial ∧ (migrate s).boot = s.boot ∧ (migrate s).free = s.free ∧ (migrate s).pending = s.pending := by
  refine ⟨?_, ?_, ?_, ?_, ?_, ?_, ?_, ?_, ?_, ?_, ?_, ?_, ?_, ?_, ?_, ?_, ?_, ?_, ?_, ?_⟩ <;> exact migrate_only _ (fun _ _ _ _ _ _ _ _ _ _ _ _ _ => rfl) s

theorem firstPans_only {β : Type} (π : State → β) (hπ : ∀ s xpans, π { s with pans := xpans } = π s) (s : State) :
    π (firstPans s) = π s := by
  unfold firstPans; repeat' first | contradiction | (simp only [hπ, apply_ite π, ite_self]; done) | split | refine (foldl_same π _ (fun s x => ?_) _ _).trans ?_ | refine (elim_same π _ _ _ (fun x => ?_)).trans ?_ | dsimp only

@[simp] theorem firstPans_frame (s : State) :
    (firstPans s).dev = s.dev ∧ (firstPans s).gov = s.gov ∧ (firstPans s).flt = s.flt ∧ (firstPans s).tly = s.tly ∧
    (firstPans s).sal = s.sal ∧ (firstPans s).map = s.map ∧ (firstPans s).drn = s.drn ∧ (firstPans s).hrv = s.hrv ∧
    (firstPans s).fld = s.fld ∧ (firstPans s).bed = s.bed ∧ (firstPans s).pip = s.pip ∧ (firstPans s).heads = s.heads ∧
    (firstPans s).sem = s.sem ∧ (firstPans s).dmc = s.dmc ∧ (firstPans s).trn = s.trn ∧ (firstPans s).thm = s.thm ∧
    (firstPans s).cel = s.cel ∧ (firstPans s).upd = s.upd ∧ (firstPans s).key = s.key ∧ (firstPans s).brl = s.brl ∧
    (firstPans s).svc = s.svc ∧ (firstPans s).pins = s.pins ∧ (firstPans s).lay = s.lay ∧ (firstPans s).jrn = s.jrn ∧
    (firstPans s).replies = s.replies ∧ (firstPans s).dram = s.dram ∧ (firstPans s).poison = s.poison ∧
    (firstPans s).serial = s.serial ∧ (firstPans s).boot = s.boot ∧ (firstPans s).free = s.free ∧ (firstPans s).pending = s.pending := by
  refine ⟨?_, ?_, ?_, ?_, ?_, ?_, ?_, ?_, ?_, ?_, ?_, ?_, ?_, ?_, ?_, ?_, ?_, ?_, ?_, ?_, ?_, ?_, ?_, ?_, ?_, ?_, ?_, ?_, ?_, ?_, ?_⟩ <;> exact firstPans_only _ (fun _ _ => rfl) s

theorem grantPans_only {β : Type} (π : State → β) (hπ : ∀ s xpans, π { s with pans := xpans } = π s) (s : State) :
    π (grantPans s) = π s := by
  unfold grantPans; repeat' first | contradiction | (simp only [hπ, foldl_same π, apply_ite π, ite_self]; done) | split | refine (foldl_same π _ (fun s x => ?_) _ _).trans ?_ | refine (elim_same π _ _ _ (fun x => ?_)).trans ?_ | dsimp only

@[simp] theorem grantPans_frame (s : State) :
    (grantPans s).dev = s.dev ∧ (grantPans s).gov = s.gov ∧ (grantPans s).flt = s.flt ∧ (grantPans s).tly = s.tly ∧
    (grantPans s).sal = s.sal ∧ (grantPans s).map = s.map ∧ (grantPans s).drn = s.drn ∧ (grantPans s).hrv = s.hrv ∧
    (grantPans s).fld = s.fld ∧ (grantPans s).bed = s.bed ∧ (grantPans s).pip = s.pip ∧ (grantPans s).heads = s.heads ∧
    (grantPans s).sem = s.sem ∧ (grantPans s).dmc = s.dmc ∧ (grantPans s).trn = s.trn ∧ (grantPans s).thm = s.thm ∧
    (grantPans s).cel = s.cel ∧ (grantPans s).upd = s.upd ∧ (grantPans s).key = s.key ∧ (grantPans s).brl = s.brl ∧
    (grantPans s).svc = s.svc ∧ (grantPans s).pins = s.pins ∧ (grantPans s).lay = s.lay ∧ (grantPans s).jrn = s.jrn ∧
    (grantPans s).replies = s.replies ∧ (grantPans s).dram = s.dram ∧ (grantPans s).poison = s.poison ∧
    (grantPans s).serial = s.serial ∧ (grantPans s).boot = s.boot ∧ (grantPans s).free = s.free ∧ (grantPans s).pending = s.pending := by
  refine ⟨?_, ?_, ?_, ?_, ?_, ?_, ?_, ?_, ?_, ?_, ?_, ?_, ?_, ?_, ?_, ?_, ?_, ?_, ?_, ?_, ?_, ?_, ?_, ?_, ?_, ?_, ?_, ?_, ?_, ?_, ?_⟩ <;> exact grantPans_only _ (fun _ _ => rfl) s

theorem checkMarks_only {β : Type} (π : State → β) (hπ : ∀ s xdmc, π { s with dmc := xdmc } = π s) (s : State) :
    π (checkMarks s) = π s := by
  unfold checkMarks; repeat' first | contradiction | (simp only [hπ, apply_ite π, ite_self]; done) | split | refine (foldl_same π _ (fun s x => ?_) _ _).trans ?_ | refine (elim_same π _ _ _ (fun x => ?_)).trans ?_ | dsimp only

@[simp] theorem checkMarks_frame (s : State) :
    (checkMarks s).dev = s.dev ∧ (checkMarks s).gov = s.gov ∧ (checkMarks s).flt = s.flt ∧ (checkMarks s).tly = s.tly ∧
    (checkMarks s).sal = s.sal ∧ (checkMarks s).map = s.map ∧ (checkMarks s).drn = s.drn ∧ (checkMarks s).hrv = s.hrv ∧
    (checkMarks s).fld = s.fld ∧ (checkMarks s).bed = s.bed ∧ (checkMarks s).pip = s.pip ∧ (checkMarks s).heads = s.heads ∧
    (checkMarks s).sem = s.sem ∧ (checkMarks s).pans = s.pans ∧ (checkMarks s).trn = s.trn ∧ (checkMarks s).thm = s.thm ∧
    (checkMarks s).cel = s.cel ∧ (checkMarks s).upd = s.upd ∧ (checkMarks s).key = s.key ∧ (checkMarks s).brl = s.brl ∧
    (checkMarks s).svc = s.svc ∧ (checkMarks s).pins = s.pins ∧ (checkMarks s).lay = s.lay ∧ (checkMarks s).jrn = s.jrn ∧
    (checkMarks s).replies = s.replies ∧ (checkMarks s).dram = s.dram ∧ (checkMarks s).poison = s.poison ∧
    (checkMarks s).serial = s.serial ∧ (checkMarks s).boot = s.boot ∧ (checkMarks s).free = s.free ∧
    (checkMarks s).pending = s.pending := by
  refine ⟨?_, ?_, ?_, ?_, ?_, ?_, ?_, ?_, ?_, ?_, ?_, ?_, ?_, ?_, ?_, ?_, ?_, ?_, ?_, ?_, ?_, ?_, ?_, ?_, ?_, ?_, ?_, ?_, ?_, ?_, ?_⟩ <;> exact checkMarks_only _ (fun _ _ => rfl) s

theorem checkK_only {β : Type} (π : State → β) (hπ : ∀ s xdrn, π { s with drn := xdrn } = π s) (s : State) :
    π (checkK s) = π s := by
  unfold checkK; repeat' first | contradiction | (simp only [hπ, refreshK_only π hπ, apply_ite π, ite_self]; done) | split | refine (foldl_same π _ (fun s x => ?_) _ _).trans ?_ | refine (elim_same π _ _ _ (fun x => ?_)).trans ?_ | dsimp only

@[simp] theorem checkK_frame (s : State) :
    (checkK s).dev = s.dev ∧ (checkK s).gov = s.gov ∧ (checkK s).flt = s.flt ∧ (checkK s).tly = s.tly ∧ (checkK s).sal = s.sal ∧
    (checkK s).map = s.map ∧ (checkK s).hrv = s.hrv ∧ (checkK s).fld = s.fld ∧ (checkK s).bed = s.bed ∧ (checkK s).pip = s.pip ∧
    (checkK s).heads = s.heads ∧ (checkK s).sem = s.sem ∧ (checkK s).pans = s.pans ∧ (checkK s).dmc = s.dmc ∧
    (checkK s).trn = s.trn ∧ (checkK s).thm = s.thm ∧ (checkK s).cel = s.cel ∧ (checkK s).upd = s.upd ∧ (checkK s).key = s.key ∧
    (checkK s).brl = s.brl ∧ (checkK s).svc = s.svc ∧ (checkK s).pins = s.pins ∧ (checkK s).lay = s.lay ∧ (checkK s).jrn = s.jrn ∧
    (checkK s).replies = s.replies ∧ (checkK s).dram = s.dram ∧ (checkK s).poison = s.poison ∧ (checkK s).serial = s.serial ∧
    (checkK s).boot = s.boot ∧ (checkK s).free = s.free ∧ (checkK s).pending = s.pending := by
  refine ⟨?_, ?_, ?_, ?_, ?_, ?_, ?_, ?_, ?_, ?_, ?_, ?_, ?_, ?_, ?_, ?_, ?_, ?_, ?_, ?_, ?_, ?_, ?_, ?_, ?_, ?_, ?_, ?_, ?_, ?_, ?_⟩ <;> exact checkK_only _ (fun _ _ => rfl) s

theorem reanchorStart_only {β : Type} (π : State → β) (hπ : ∀ s xsal, π { s with sal := xsal } = π s) (s : State) :
    π (reanchorStart s) = π s := by
  unfold reanchorStart; repeat' first | contradiction | (simp only [hπ, apply_ite π, ite_self]; done) | split | refine (foldl_same π _ (fun s x => ?_) _ _).trans ?_ | refine (elim_same π _ _ _ (fun x => ?_)).trans ?_ | dsimp only

@[simp] theorem reanchorStart_frame (s : State) :
    (reanchorStart s).dev = s.dev ∧ (reanchorStart s).gov = s.gov ∧ (reanchorStart s).flt = s.flt ∧ (reanchorStart s).tly = s.tly ∧
    (reanchorStart s).map = s.map ∧ (reanchorStart s).drn = s.drn ∧ (reanchorStart s).hrv = s.hrv ∧ (reanchorStart s).fld = s.fld ∧
    (reanchorStart s).bed = s.bed ∧ (reanchorStart s).pip = s.pip ∧ (reanchorStart s).heads = s.heads ∧
    (reanchorStart s).sem = s.sem ∧ (reanchorStart s).pans = s.pans ∧ (reanchorStart s).dmc = s.dmc ∧
    (reanchorStart s).trn = s.trn ∧ (reanchorStart s).thm = s.thm ∧ (reanchorStart s).cel = s.cel ∧ (reanchorStart s).upd = s.upd ∧
    (reanchorStart s).key = s.key ∧ (reanchorStart s).brl = s.brl ∧ (reanchorStart s).svc = s.svc ∧
    (reanchorStart s).pins = s.pins ∧ (reanchorStart s).lay = s.lay ∧ (reanchorStart s).jrn = s.jrn ∧
    (reanchorStart s).replies = s.replies ∧ (reanchorStart s).dram = s.dram ∧ (reanchorStart s).poison = s.poison ∧
    (reanchorStart s).serial = s.serial ∧ (reanchorStart s).boot = s.boot ∧ (reanchorStart s).free = s.free ∧
    (reanchorStart s).pending = s.pending := by
  refine ⟨?_, ?_, ?_, ?_, ?_, ?_, ?_, ?_, ?_, ?_, ?_, ?_, ?_, ?_, ?_, ?_, ?_, ?_, ?_, ?_, ?_, ?_, ?_, ?_, ?_, ?_, ?_, ?_, ?_, ?_, ?_⟩ <;> exact reanchorStart_only _ (fun _ _ => rfl) s

theorem startPoints_only {β : Type} (π : State → β) (hπ : ∀ s xdrn, π { s with drn := xdrn } = π s) (s : State) :
    π (startPoints s) = π s := by
  simp only [startPoints, hπ, apply_ite π, ite_self]

@[simp] theorem startPoints_frame (s : State) :
    (startPoints s).dev = s.dev ∧ (startPoints s).gov = s.gov ∧ (startPoints s).flt = s.flt ∧ (startPoints s).tly = s.tly ∧
    (startPoints s).sal = s.sal ∧ (startPoints s).map = s.map ∧ (startPoints s).hrv = s.hrv ∧ (startPoints s).fld = s.fld ∧
    (startPoints s).bed = s.bed ∧ (startPoints s).pip = s.pip ∧ (startPoints s).heads = s.heads ∧ (startPoints s).sem = s.sem ∧
    (startPoints s).pans = s.pans ∧ (startPoints s).dmc = s.dmc ∧ (startPoints s).trn = s.trn ∧ (startPoints s).thm = s.thm ∧
    (startPoints s).cel = s.cel ∧ (startPoints s).upd = s.upd ∧ (startPoints s).key = s.key ∧ (startPoints s).brl = s.brl ∧
    (startPoints s).svc = s.svc ∧ (startPoints s).pins = s.pins ∧ (startPoints s).lay = s.lay ∧ (startPoints s).jrn = s.jrn ∧
    (startPoints s).replies = s.replies ∧ (startPoints s).dram = s.dram ∧ (startPoints s).poison = s.poison ∧
    (startPoints s).serial = s.serial ∧ (startPoints s).boot = s.boot ∧ (startPoints s).free = s.free ∧
    (startPoints s).pending = s.pending := by
  refine ⟨?_, ?_, ?_, ?_, ?_, ?_, ?_, ?_, ?_, ?_, ?_, ?_, ?_, ?_, ?_, ?_, ?_, ?_, ?_, ?_, ?_, ?_, ?_, ?_, ?_, ?_, ?_, ?_, ?_, ?_, ?_⟩ <;> exact startPoints_only _ (fun _ _ => rfl) s

theorem startBucket_only {β : Type} (π : State → β) (hπ : ∀ s xdrn, π { s with drn := xdrn } = π s) (s : State) :
    π (startBucket s) = π s := by
  simp only [startBucket, hπ, apply_ite π, ite_self]

@[simp] theorem startBucket_frame (s : State) :
    (startBucket s).dev = s.dev ∧ (startBucket s).gov = s.gov ∧ (startBucket s).flt = s.flt ∧ (startBucket s).tly = s.tly ∧
    (startBucket s).sal = s.sal ∧ (startBucket s).map = s.map ∧ (startBucket s).hrv = s.hrv ∧ (startBucket s).fld = s.fld ∧
    (startBucket s).bed = s.bed ∧ (startBucket s).pip = s.pip ∧ (startBucket s).heads = s.heads ∧ (startBucket s).sem = s.sem ∧
    (startBucket s).pans = s.pans ∧ (startBucket s).dmc = s.dmc ∧ (startBucket s).trn = s.trn ∧ (startBucket s).thm = s.thm ∧
    (startBucket s).cel = s.cel ∧ (startBucket s).upd = s.upd ∧ (startBucket s).key = s.key ∧ (startBucket s).brl = s.brl ∧
    (startBucket s).svc = s.svc ∧ (startBucket s).pins = s.pins ∧ (startBucket s).lay = s.lay ∧ (startBucket s).jrn = s.jrn ∧
    (startBucket s).replies = s.replies ∧ (startBucket s).dram = s.dram ∧ (startBucket s).poison = s.poison ∧
    (startBucket s).serial = s.serial ∧ (startBucket s).boot = s.boot ∧ (startBucket s).free = s.free ∧
    (startBucket s).pending = s.pending := by
  refine ⟨?_, ?_, ?_, ?_, ?_, ?_, ?_, ?_, ?_, ?_, ?_, ?_, ?_, ?_, ?_, ?_, ?_, ?_, ?_, ?_, ?_, ?_, ?_, ?_, ?_, ?_, ?_, ?_, ?_, ?_, ?_⟩ <;> exact startBucket_only _ (fun _ _ => rfl) s

theorem signJournal_only {β : Type} (π : State → β) (hπ : ∀ s xcel xkey, π { s with cel := xcel, key := xkey } = π s) (x0 : List JRec) (s : State) :
    π (signJournal x0 s).1 = π s := by
  induction x0 generalizing s with
  | nil => rfl
  | cons r t ih =>
    cases r with
    | salRec r =>
      unfold signJournal
      split
      · exact ih s
      · exact (ih _).trans (signBoth_only π hπ s)
    | saveRec r lms =>
      unfold signJournal
      refine (ih _).trans ?_
      split
      · rfl
      · exact signLate_only π hπ s
    | _ => unfold signJournal; exact ih s

@[simp] theorem signJournal_frame (x0 : List JRec) (s : State) :
    (signJournal x0 s).1.dev = s.dev ∧ (signJournal x0 s).1.gov = s.gov ∧ (signJournal x0 s).1.flt = s.flt ∧
    (signJournal x0 s).1.tly = s.tly ∧ (signJournal x0 s).1.sal = s.sal ∧ (signJournal x0 s).1.map = s.map ∧
    (signJournal x0 s).1.drn = s.drn ∧ (signJournal x0 s).1.hrv = s.hrv ∧ (signJournal x0 s).1.fld = s.fld ∧
    (signJournal x0 s).1.bed = s.bed ∧ (signJournal x0 s).1.pip = s.pip ∧ (signJournal x0 s).1.heads = s.heads ∧
    (signJournal x0 s).1.sem = s.sem ∧ (signJournal x0 s).1.pans = s.pans ∧ (signJournal x0 s).1.dmc = s.dmc ∧
    (signJournal x0 s).1.trn = s.trn ∧ (signJournal x0 s).1.thm = s.thm ∧ (signJournal x0 s).1.upd = s.upd ∧
    (signJournal x0 s).1.brl = s.brl ∧ (signJournal x0 s).1.svc = s.svc ∧ (signJournal x0 s).1.pins = s.pins ∧
    (signJournal x0 s).1.lay = s.lay ∧ (signJournal x0 s).1.jrn = s.jrn ∧ (signJournal x0 s).1.replies = s.replies ∧
    (signJournal x0 s).1.dram = s.dram ∧ (signJournal x0 s).1.poison = s.poison ∧ (signJournal x0 s).1.serial = s.serial ∧
    (signJournal x0 s).1.boot = s.boot ∧ (signJournal x0 s).1.free = s.free ∧ (signJournal x0 s).1.pending = s.pending := by
  refine ⟨?_, ?_, ?_, ?_, ?_, ?_, ?_, ?_, ?_, ?_, ?_, ?_, ?_, ?_, ?_, ?_, ?_, ?_, ?_, ?_, ?_, ?_, ?_, ?_, ?_, ?_, ?_, ?_, ?_, ?_⟩ <;> exact signJournal_only _ (fun _ _ _ => rfl) x0 s

theorem signOwed_only {β : Type} (π : State → β) (hπ : ∀ s xsal xcel xkey xjrn, π { s with sal := xsal, cel := xcel, key := xkey, jrn := xjrn } = π s) (s : State) :
    π (signOwed s) = π s := by
  simp only [signOwed, hπ, signJournal_only π (fun s xcel xkey => hπ s s.sal xcel xkey s.jrn), apply_ite π, ite_self]

@[simp] theorem signOwed_frame (s : State) :
    (signOwed s).dev = s.dev ∧ (signOwed s).gov = s.gov ∧ (signOwed s).flt = s.flt ∧ (signOwed s).tly = s.tly ∧
    (signOwed s).map = s.map ∧ (signOwed s).drn = s.drn ∧ (signOwed s).hrv = s.hrv ∧ (signOwed s).fld = s.fld ∧
    (signOwed s).bed = s.bed ∧ (signOwed s).pip = s.pip ∧ (signOwed s).heads = s.heads ∧ (signOwed s).sem = s.sem ∧
    (signOwed s).pans = s.pans ∧ (signOwed s).dmc = s.dmc ∧ (signOwed s).trn = s.trn ∧ (signOwed s).thm = s.thm ∧
    (signOwed s).upd = s.upd ∧ (signOwed s).brl = s.brl ∧ (signOwed s).svc = s.svc ∧ (signOwed s).pins = s.pins ∧
    (signOwed s).lay = s.lay ∧ (signOwed s).replies = s.replies ∧ (signOwed s).dram = s.dram ∧ (signOwed s).poison = s.poison ∧
    (signOwed s).serial = s.serial ∧ (signOwed s).boot = s.boot ∧ (signOwed s).free = s.free ∧ (signOwed s).pending = s.pending := by
  refine ⟨?_, ?_, ?_, ?_, ?_, ?_, ?_, ?_, ?_, ?_, ?_, ?_, ?_, ?_, ?_, ?_, ?_, ?_, ?_, ?_, ?_, ?_, ?_, ?_, ?_, ?_, ?_, ?_⟩ <;> exact signOwed_only _ (fun _ _ _ _ _ => rfl) s

theorem replaceKeys_only {β : Type} (π : State → β) (hπ : ∀ s xpip xcel xkey xfree, π { s with pip := xpip, cel := xcel, key := xkey, free := xfree } = π s) (s : State) :
    π (replaceKeys s) = π s := by
  unfold replaceKeys; repeat' first | contradiction | (simp only [hπ, appendKeys_only π (fun s xcel xkey => hπ s s.pip xcel xkey s.free), loadKeys_only π (fun s xpip => hπ s xpip s.cel s.key s.free), apply_ite π, ite_self]; done) | split | refine (foldl_same π _ (fun s x => ?_) _ _).trans ?_ | refine (elim_same π _ _ _ (fun x => ?_)).trans ?_ | dsimp only

@[simp] theorem replaceKeys_frame (s : State) :
    (replaceKeys s).dev = s.dev ∧ (replaceKeys s).gov = s.gov ∧ (replaceKeys s).flt = s.flt ∧ (replaceKeys s).tly = s.tly ∧
    (replaceKeys s).sal = s.sal ∧ (replaceKeys s).map = s.map ∧ (replaceKeys s).drn = s.drn ∧ (replaceKeys s).hrv = s.hrv ∧
    (replaceKeys s).fld = s.fld ∧ (replaceKeys s).bed = s.bed ∧ (replaceKeys s).heads = s.heads ∧ (replaceKeys s).sem = s.sem ∧
    (replaceKeys s).pans = s.pans ∧ (replaceKeys s).dmc = s.dmc ∧ (replaceKeys s).trn = s.trn ∧ (replaceKeys s).thm = s.thm ∧
    (replaceKeys s).upd = s.upd ∧ (replaceKeys s).brl = s.brl ∧ (replaceKeys s).svc = s.svc ∧ (replaceKeys s).pins = s.pins ∧
    (replaceKeys s).lay = s.lay ∧ (replaceKeys s).jrn = s.jrn ∧ (replaceKeys s).replies = s.replies ∧
    (replaceKeys s).dram = s.dram ∧ (replaceKeys s).poison = s.poison ∧ (replaceKeys s).serial = s.serial ∧
    (replaceKeys s).boot = s.boot ∧ (replaceKeys s).pending = s.pending := by
  refine ⟨?_, ?_, ?_, ?_, ?_, ?_, ?_, ?_, ?_, ?_, ?_, ?_, ?_, ?_, ?_, ?_, ?_, ?_, ?_, ?_, ?_, ?_, ?_, ?_, ?_, ?_, ?_, ?_⟩ <;> exact replaceKeys_only _ (fun _ _ _ _ _ => rfl) s

theorem learnK_only {β : Type} (π : State → β) (hπ : ∀ s xdrn xfree, π { s with drn := xdrn, free := xfree } = π s) (r : SaveRecord) (s : State) :
    π (learnK r s) = π s := by
  unfold learnK; repeat' first | contradiction | (simp only [hπ, refreshK_only π (fun s xdrn => hπ s xdrn s.free), apply_ite π, ite_self]; done) | split | refine (foldl_same π _ (fun s x => ?_) _ _).trans ?_ | refine (elim_same π _ _ _ (fun x => ?_)).trans ?_ | dsimp only

@[simp] theorem learnK_frame (r : SaveRecord) (s : State) :
    (learnK r s).dev = s.dev ∧ (learnK r s).gov = s.gov ∧ (learnK r s).flt = s.flt ∧ (learnK r s).tly = s.tly ∧
    (learnK r s).sal = s.sal ∧ (learnK r s).map = s.map ∧ (learnK r s).hrv = s.hrv ∧ (learnK r s).fld = s.fld ∧
    (learnK r s).bed = s.bed ∧ (learnK r s).pip = s.pip ∧ (learnK r s).heads = s.heads ∧ (learnK r s).sem = s.sem ∧
    (learnK r s).pans = s.pans ∧ (learnK r s).dmc = s.dmc ∧ (learnK r s).trn = s.trn ∧ (learnK r s).thm = s.thm ∧
    (learnK r s).cel = s.cel ∧ (learnK r s).upd = s.upd ∧ (learnK r s).key = s.key ∧ (learnK r s).brl = s.brl ∧
    (learnK r s).svc = s.svc ∧ (learnK r s).pins = s.pins ∧ (learnK r s).lay = s.lay ∧ (learnK r s).jrn = s.jrn ∧
    (learnK r s).replies = s.replies ∧ (learnK r s).dram = s.dram ∧ (learnK r s).poison = s.poison ∧
    (learnK r s).serial = s.serial ∧ (learnK r s).boot = s.boot ∧ (learnK r s).pending = s.pending := by
  refine ⟨?_, ?_, ?_, ?_, ?_, ?_, ?_, ?_, ?_, ?_, ?_, ?_, ?_, ?_, ?_, ?_, ?_, ?_, ?_, ?_, ?_, ?_, ?_, ?_, ?_, ?_, ?_, ?_, ?_, ?_⟩ <;> exact learnK_only _ (fun _ _ _ => rfl) r s

theorem hrvFrom_only {β : Type} (π : State → β) (hπ : ∀ s xhrv xfree, π { s with hrv := xhrv, free := xfree } = π s) (r : SaveRecord) (x : Option SalRec) (s : State) :
    π (hrvFrom r x s) = π s := by
  unfold hrvFrom; repeat' first | contradiction | (simp only [hπ, apply_ite π, ite_self]; done) | split | refine (foldl_same π _ (fun s x => ?_) _ _).trans ?_ | refine (elim_same π _ _ _ (fun x => ?_)).trans ?_ | dsimp only

@[simp] theorem hrvFrom_frame (r : SaveRecord) (x : Option SalRec) (s : State) :
    (hrvFrom r x s).dev = s.dev ∧ (hrvFrom r x s).gov = s.gov ∧ (hrvFrom r x s).flt = s.flt ∧ (hrvFrom r x s).tly = s.tly ∧
    (hrvFrom r x s).sal = s.sal ∧ (hrvFrom r x s).map = s.map ∧ (hrvFrom r x s).drn = s.drn ∧ (hrvFrom r x s).fld = s.fld ∧
    (hrvFrom r x s).bed = s.bed ∧ (hrvFrom r x s).pip = s.pip ∧ (hrvFrom r x s).heads = s.heads ∧ (hrvFrom r x s).sem = s.sem ∧
    (hrvFrom r x s).pans = s.pans ∧ (hrvFrom r x s).dmc = s.dmc ∧ (hrvFrom r x s).trn = s.trn ∧ (hrvFrom r x s).thm = s.thm ∧
    (hrvFrom r x s).cel = s.cel ∧ (hrvFrom r x s).upd = s.upd ∧ (hrvFrom r x s).key = s.key ∧ (hrvFrom r x s).brl = s.brl ∧
    (hrvFrom r x s).svc = s.svc ∧ (hrvFrom r x s).pins = s.pins ∧ (hrvFrom r x s).lay = s.lay ∧ (hrvFrom r x s).jrn = s.jrn ∧
    (hrvFrom r x s).replies = s.replies ∧ (hrvFrom r x s).dram = s.dram ∧ (hrvFrom r x s).poison = s.poison ∧
    (hrvFrom r x s).serial = s.serial ∧ (hrvFrom r x s).boot = s.boot ∧ (hrvFrom r x s).pending = s.pending := by
  refine ⟨?_, ?_, ?_, ?_, ?_, ?_, ?_, ?_, ?_, ?_, ?_, ?_, ?_, ?_, ?_, ?_, ?_, ?_, ?_, ?_, ?_, ?_, ?_, ?_, ?_, ?_, ?_, ?_, ?_, ?_⟩ <;> exact hrvFrom_only _ (fun _ _ _ => rfl) r x s

theorem countOutcome_only {β : Type} (π : State → β) (hπ : ∀ s xgov xdrn xfld xcel xupd xkey xjrn xfree, π { s with gov := xgov, drn := xdrn, fld := xfld, cel := xcel, upd := xupd, key := xkey, jrn := xjrn, free := xfree } = π s) (s : State) :
    π (countOutcome s) = π s := by
  unfold countOutcome; repeat' first | contradiction | with_reducible rfl | with_reducible refine (State.journal_only π (fun s xjrn => hπ s s.gov s.drn s.fld s.cel s.upd s.key xjrn s.free) _ _).trans ?_ | with_reducible refine (signLate_only π (fun s xcel xkey => hπ s s.gov s.drn s.fld xcel s.upd xkey s.jrn s.free) _).trans ?_ | with_reducible refine (learnK_only π (fun s xdrn xfree => hπ s s.gov xdrn s.fld s.cel s.upd s.key s.jrn xfree) _ _).trans ?_ | with_reducible refine (foldl_same π _ (fun s x => ?_) _ _).trans ?_ | with_reducible refine (elim_same π _ _ _ (fun x => ?_)).trans ?_ | split | with_reducible refine (hπ _ _ _ _ _ _ _ _ _).trans ?_ | dsimp only

@[simp] theorem countOutcome_frame (s : State) :
    (countOutcome s).dev = s.dev ∧ (countOutcome s).flt = s.flt ∧ (countOutcome s).tly = s.tly ∧ (countOutcome s).sal = s.sal ∧
    (countOutcome s).map = s.map ∧ (countOutcome s).hrv = s.hrv ∧ (countOutcome s).bed = s.bed ∧ (countOutcome s).pip = s.pip ∧
    (countOutcome s).heads = s.heads ∧ (countOutcome s).sem = s.sem ∧ (countOutcome s).pans = s.pans ∧
    (countOutcome s).dmc = s.dmc ∧ (countOutcome s).trn = s.trn ∧ (countOutcome s).thm = s.thm ∧ (countOutcome s).brl = s.brl ∧
    (countOutcome s).svc = s.svc ∧ (countOutcome s).pins = s.pins ∧ (countOutcome s).lay = s.lay ∧
    (countOutcome s).replies = s.replies ∧ (countOutcome s).dram = s.dram ∧ (countOutcome s).poison = s.poison ∧
    (countOutcome s).serial = s.serial ∧ (countOutcome s).boot = s.boot ∧ (countOutcome s).pending = s.pending := by
  refine ⟨?_, ?_, ?_, ?_, ?_, ?_, ?_, ?_, ?_, ?_, ?_, ?_, ?_, ?_, ?_, ?_, ?_, ?_, ?_, ?_, ?_, ?_, ?_, ?_⟩ <;> exact countOutcome_only _ (fun _ _ _ _ _ _ _ _ _ => rfl) s

theorem censusBlocks_only {β : Type} (π : State → β) (hπ : ∀ s xbed, π { s with bed := xbed } = π s) (s : State) :
    π (censusBlocks s) = π s := by
  unfold censusBlocks; repeat' first | contradiction | (simp only [hπ, blkUpd_only π hπ, foldl_same π, apply_ite π, ite_self]; done) | split | refine (foldl_same π _ (fun s x => ?_) _ _).trans ?_ | refine (elim_same π _ _ _ (fun x => ?_)).trans ?_ | with_reducible refine (blkUpd_only π (fun s xbed => hπ s xbed) _ _ _ _ _).trans ?_ | with_reducible refine (hπ _ _).trans ?_ | dsimp only

@[simp] theorem censusBlocks_frame (s : State) :
    (censusBlocks s).dev = s.dev ∧ (censusBlocks s).gov = s.gov ∧ (censusBlocks s).flt = s.flt ∧ (censusBlocks s).tly = s.tly ∧
    (censusBlocks s).sal = s.sal ∧ (censusBlocks s).map = s.map ∧ (censusBlocks s).drn = s.drn ∧ (censusBlocks s).hrv = s.hrv ∧
    (censusBlocks s).fld = s.fld ∧ (censusBlocks s).pip = s.pip ∧ (censusBlocks s).heads = s.heads ∧ (censusBlocks s).sem = s.sem ∧
    (censusBlocks s).pans = s.pans ∧ (censusBlocks s).dmc = s.dmc ∧ (censusBlocks s).trn = s.trn ∧ (censusBlocks s).thm = s.thm ∧
    (censusBlocks s).cel = s.cel ∧ (censusBlocks s).upd = s.upd ∧ (censusBlocks s).key = s.key ∧ (censusBlocks s).brl = s.brl ∧
    (censusBlocks s).svc = s.svc ∧ (censusBlocks s).pins = s.pins ∧ (censusBlocks s).lay = s.lay ∧ (censusBlocks s).jrn = s.jrn ∧
    (censusBlocks s).replies = s.replies ∧ (censusBlocks s).dram = s.dram ∧ (censusBlocks s).poison = s.poison ∧
    (censusBlocks s).serial = s.serial ∧ (censusBlocks s).boot = s.boot ∧ (censusBlocks s).free = s.free ∧
    (censusBlocks s).pending = s.pending := by
  refine ⟨?_, ?_, ?_, ?_, ?_, ?_, ?_, ?_, ?_, ?_, ?_, ?_, ?_, ?_, ?_, ?_, ?_, ?_, ?_, ?_, ?_, ?_, ?_, ?_, ?_, ?_, ?_, ?_, ?_, ?_, ?_⟩ <;> exact censusBlocks_only _ (fun _ _ => rfl) s

theorem reserveBlocks_only {β : Type} (π : State → β) (hπ : ∀ s xbed, π { s with bed := xbed } = π s) (st : BlkState) (n : Nat) (ch : Nat) (die : Nat) (s : State) :
    π (reserveBlocks st n ch die s) = π s := by
  unfold reserveBlocks; repeat' first | contradiction | (simp only [hπ, blkUpd_only π hπ, foldl_same π, apply_ite π, ite_self]; done) | split | refine (foldl_same π _ (fun s x => ?_) _ _).trans ?_ | refine (elim_same π _ _ _ (fun x => ?_)).trans ?_ | dsimp only

@[simp] theorem reserveBlocks_frame (st : BlkState) (n : Nat) (ch : Nat) (die : Nat) (s : State) :
    (reserveBlocks st n ch die s).dev = s.dev ∧ (reserveBlocks st n ch die s).gov = s.gov ∧
    (reserveBlocks st n ch die s).flt = s.flt ∧ (reserveBlocks st n ch die s).tly = s.tly ∧
    (reserveBlocks st n ch die s).sal = s.sal ∧ (reserveBlocks st n ch die s).map = s.map ∧
    (reserveBlocks st n ch die s).drn = s.drn ∧ (reserveBlocks st n ch die s).hrv = s.hrv ∧
    (reserveBlocks st n ch die s).fld = s.fld ∧ (reserveBlocks st n ch die s).pip = s.pip ∧
    (reserveBlocks st n ch die s).heads = s.heads ∧ (reserveBlocks st n ch die s).sem = s.sem ∧
    (reserveBlocks st n ch die s).pans = s.pans ∧ (reserveBlocks st n ch die s).dmc = s.dmc ∧
    (reserveBlocks st n ch die s).trn = s.trn ∧ (reserveBlocks st n ch die s).thm = s.thm ∧
    (reserveBlocks st n ch die s).cel = s.cel ∧ (reserveBlocks st n ch die s).upd = s.upd ∧
    (reserveBlocks st n ch die s).key = s.key ∧ (reserveBlocks st n ch die s).brl = s.brl ∧
    (reserveBlocks st n ch die s).svc = s.svc ∧ (reserveBlocks st n ch die s).pins = s.pins ∧
    (reserveBlocks st n ch die s).lay = s.lay ∧ (reserveBlocks st n ch die s).jrn = s.jrn ∧
    (reserveBlocks st n ch die s).replies = s.replies ∧ (reserveBlocks st n ch die s).dram = s.dram ∧
    (reserveBlocks st n ch die s).poison = s.poison ∧ (reserveBlocks st n ch die s).serial = s.serial ∧
    (reserveBlocks st n ch die s).boot = s.boot ∧ (reserveBlocks st n ch die s).free = s.free ∧
    (reserveBlocks st n ch die s).pending = s.pending := by
  refine ⟨?_, ?_, ?_, ?_, ?_, ?_, ?_, ?_, ?_, ?_, ?_, ?_, ?_, ?_, ?_, ?_, ?_, ?_, ?_, ?_, ?_, ?_, ?_, ?_, ?_, ?_, ?_, ?_, ?_, ?_, ?_⟩ <;> exact reserveBlocks_only _ (fun _ _ => rfl) st n ch die s

theorem reserveAll_only {β : Type} (π : State → β) (hπ : ∀ s xbed, π { s with bed := xbed } = π s) (s : State) :
    π (reserveAll s) = π s := by
  unfold reserveAll; repeat' first | contradiction | (simp only [hπ, reserveBlocks_only π hπ, foldl_same π, apply_ite π, ite_self]; done) | split | refine (foldl_same π _ (fun s x => ?_) _ _).trans ?_ | refine (elim_same π _ _ _ (fun x => ?_)).trans ?_ | dsimp only

@[simp] theorem reserveAll_frame (s : State) :
    (reserveAll s).dev = s.dev ∧ (reserveAll s).gov = s.gov ∧ (reserveAll s).flt = s.flt ∧ (reserveAll s).tly = s.tly ∧
    (reserveAll s).sal = s.sal ∧ (reserveAll s).map = s.map ∧ (reserveAll s).drn = s.drn ∧ (reserveAll s).hrv = s.hrv ∧
    (reserveAll s).fld = s.fld ∧ (reserveAll s).pip = s.pip ∧ (reserveAll s).heads = s.heads ∧ (reserveAll s).sem = s.sem ∧
    (reserveAll s).pans = s.pans ∧ (reserveAll s).dmc = s.dmc ∧ (reserveAll s).trn = s.trn ∧ (reserveAll s).thm = s.thm ∧
    (reserveAll s).cel = s.cel ∧ (reserveAll s).upd = s.upd ∧ (reserveAll s).key = s.key ∧ (reserveAll s).brl = s.brl ∧
    (reserveAll s).svc = s.svc ∧ (reserveAll s).pins = s.pins ∧ (reserveAll s).lay = s.lay ∧ (reserveAll s).jrn = s.jrn ∧
    (reserveAll s).replies = s.replies ∧ (reserveAll s).dram = s.dram ∧ (reserveAll s).poison = s.poison ∧
    (reserveAll s).serial = s.serial ∧ (reserveAll s).boot = s.boot ∧ (reserveAll s).free = s.free ∧
    (reserveAll s).pending = s.pending := by
  refine ⟨?_, ?_, ?_, ?_, ?_, ?_, ?_, ?_, ?_, ?_, ?_, ?_, ?_, ?_, ?_, ?_, ?_, ?_, ?_, ?_, ?_, ?_, ?_, ?_, ?_, ?_, ?_, ?_, ?_, ?_, ?_⟩ <;> exact reserveAll_only _ (fun _ _ => rfl) s

theorem census_only {β : Type} (π : State → β) (hπ : ∀ s xdev xbed, π { s with dev := xdev, bed := xbed } = π s) (env : StartEnv) (s0 : State) :
    π (census env s0) = π s0 := by
  unfold census; repeat' first | contradiction | (simp only [hπ, censusBlocks_only π (fun s xbed => hπ s s.dev xbed), reserveAll_only π (fun s xbed => hπ s s.dev xbed), foldl_same π, apply_ite π, ite_self]; done) | split | refine (foldl_same π _ (fun s x => ?_) _ _).trans ?_ | refine (elim_same π _ _ _ (fun x => ?_)).trans ?_ | dsimp only

@[simp] theorem census_frame (env : StartEnv) (s0 : State) :
    (census env s0).gov = s0.gov ∧ (census env s0).flt = s0.flt ∧ (census env s0).tly = s0.tly ∧ (census env s0).sal = s0.sal ∧
    (census env s0).map = s0.map ∧ (census env s0).drn = s0.drn ∧ (census env s0).hrv = s0.hrv ∧ (census env s0).fld = s0.fld ∧
    (census env s0).pip = s0.pip ∧ (census env s0).heads = s0.heads ∧ (census env s0).sem = s0.sem ∧
    (census env s0).pans = s0.pans ∧ (census env s0).dmc = s0.dmc ∧ (census env s0).trn = s0.trn ∧ (census env s0).thm = s0.thm ∧
    (census env s0).cel = s0.cel ∧ (census env s0).upd = s0.upd ∧ (census env s0).key = s0.key ∧ (census env s0).brl = s0.brl ∧
    (census env s0).svc = s0.svc ∧ (census env s0).pins = s0.pins ∧ (census env s0).lay = s0.lay ∧ (census env s0).jrn = s0.jrn ∧
    (census env s0).replies = s0.replies ∧ (census env s0).dram = s0.dram ∧ (census env s0).poison = s0.poison ∧
    (census env s0).serial = s0.serial ∧ (census env s0).boot = s0.boot ∧ (census env s0).free = s0.free ∧
    (census env s0).pending = s0.pending := by
  refine ⟨?_, ?_, ?_, ?_, ?_, ?_, ?_, ?_, ?_, ?_, ?_, ?_, ?_, ?_, ?_, ?_, ?_, ?_, ?_, ?_, ?_, ?_, ?_, ?_, ?_, ?_, ?_, ?_, ?_, ?_⟩ <;> exact census_only _ (fun _ _ _ => rfl) env s0

theorem eraseRows_only {β : Type} (π : State → β) (hπ : ∀ s xbed, π { s with bed := xbed } = π s) (x0 : Nat) (x1 : Nat) (s : State) :
    π (eraseRows x0 x1 s) = π s := by
  induction x0 generalizing x1 s with
  | zero => first | rfl | (unfold eraseRows; repeat' first | rfl | (simp only [hπ, eraseBlank_only π hπ, apply_ite π, ite_self]; done) | split | dsimp only)
  | succ n ih => unfold eraseRows; repeat' first | contradiction | (simp only [hπ, eraseBlank_only π hπ, apply_ite π, ite_self, ih]; done) | (rw [ih]; simp only [hπ, eraseBlank_only π hπ, apply_ite π, ite_self]; done) | (rw [ih]; done) | refine (ih _).trans ?_ | refine (ih _ _).trans ?_ | split | refine (foldl_same π _ (fun s x => ?_) _ _).trans ?_ | dsimp only

@[simp] theorem eraseRows_frame (x0 : Nat) (x1 : Nat) (s : State) :
    (eraseRows x0 x1 s).dev = s.dev ∧ (eraseRows x0 x1 s).gov = s.gov ∧ (eraseRows x0 x1 s).flt = s.flt ∧
    (eraseRows x0 x1 s).tly = s.tly ∧ (eraseRows x0 x1 s).sal = s.sal ∧ (eraseRows x0 x1 s).map = s.map ∧
    (eraseRows x0 x1 s).drn = s.drn ∧ (eraseRows x0 x1 s).hrv = s.hrv ∧ (eraseRows x0 x1 s).fld = s.fld ∧
    (eraseRows x0 x1 s).pip = s.pip ∧ (eraseRows x0 x1 s).heads = s.heads ∧ (eraseRows x0 x1 s).sem = s.sem ∧
    (eraseRows x0 x1 s).pans = s.pans ∧ (eraseRows x0 x1 s).dmc = s.dmc ∧ (eraseRows x0 x1 s).trn = s.trn ∧
    (eraseRows x0 x1 s).thm = s.thm ∧ (eraseRows x0 x1 s).cel = s.cel ∧ (eraseRows x0 x1 s).upd = s.upd ∧
    (eraseRows x0 x1 s).key = s.key ∧ (eraseRows x0 x1 s).brl = s.brl ∧ (eraseRows x0 x1 s).svc = s.svc ∧
    (eraseRows x0 x1 s).pins = s.pins ∧ (eraseRows x0 x1 s).lay = s.lay ∧ (eraseRows x0 x1 s).jrn = s.jrn ∧
    (eraseRows x0 x1 s).replies = s.replies ∧ (eraseRows x0 x1 s).dram = s.dram ∧ (eraseRows x0 x1 s).poison = s.poison ∧
    (eraseRows x0 x1 s).serial = s.serial ∧ (eraseRows x0 x1 s).boot = s.boot ∧ (eraseRows x0 x1 s).free = s.free ∧
    (eraseRows x0 x1 s).pending = s.pending := by
  refine ⟨?_, ?_, ?_, ?_, ?_, ?_, ?_, ?_, ?_, ?_, ?_, ?_, ?_, ?_, ?_, ?_, ?_, ?_, ?_, ?_, ?_, ?_, ?_, ?_, ?_, ?_, ?_, ?_, ?_, ?_, ?_⟩ <;> exact eraseRows_only _ (fun _ _ => rfl) x0 x1 s

theorem retireWorn_only {β : Type} (π : State → β) (hπ : ∀ s xbed xjrn, π { s with bed := xbed, jrn := xjrn } = π s) (s : State) :
    π (retireWorn s) = π s := by
  unfold retireWorn; repeat' first | contradiction | (simp only [hπ, retireBlock_only π hπ, foldl_same π, apply_ite π, ite_self]; done) | split | refine (foldl_same π _ (fun s x => ?_) _ _).trans ?_ | refine (elim_same π _ _ _ (fun x => ?_)).trans ?_ | dsimp only

@[simp] theorem retireWorn_frame (s : State) :
    (retireWorn s).dev = s.dev ∧ (retireWorn s).gov = s.gov ∧ (retireWorn s).flt = s.flt ∧ (retireWorn s).tly = s.tly ∧
    (retireWorn s).sal = s.sal ∧ (retireWorn s).map = s.map ∧ (retireWorn s).drn = s.drn ∧ (retireWorn s).hrv = s.hrv ∧
    (retireWorn s).fld = s.fld ∧ (retireWorn s).pip = s.pip ∧ (retireWorn s).heads = s.heads ∧ (retireWorn s).sem = s.sem ∧
    (retireWorn s).pans = s.pans ∧ (retireWorn s).dmc = s.dmc ∧ (retireWorn s).trn = s.trn ∧ (retireWorn s).thm = s.thm ∧
    (retireWorn s).cel = s.cel ∧ (retireWorn s).upd = s.upd ∧ (retireWorn s).key = s.key ∧ (retireWorn s).brl = s.brl ∧
    (retireWorn s).svc = s.svc ∧ (retireWorn s).pins = s.pins ∧ (retireWorn s).lay = s.lay ∧ (retireWorn s).replies = s.replies ∧
    (retireWorn s).dram = s.dram ∧ (retireWorn s).poison = s.poison ∧ (retireWorn s).serial = s.serial ∧
    (retireWorn s).boot = s.boot ∧ (retireWorn s).free = s.free ∧ (retireWorn s).pending = s.pending := by
  refine ⟨?_, ?_, ?_, ?_, ?_, ?_, ?_, ?_, ?_, ?_, ?_, ?_, ?_, ?_, ?_, ?_, ?_, ?_, ?_, ?_, ?_, ?_, ?_, ?_, ?_, ?_, ?_, ?_, ?_, ?_⟩ <;> exact retireWorn_only _ (fun _ _ _ => rfl) s

theorem freeCkpts_only {β : Type} (π : State → β) (hπ : ∀ s xbed, π { s with bed := xbed } = π s) (s : State) :
    π (freeCkpts s) = π s := by
  unfold freeCkpts; repeat' first | contradiction | (simp only [hπ, apply_ite π, ite_self]; done) | split | refine (foldl_same π _ (fun s x => ?_) _ _).trans ?_ | refine (elim_same π _ _ _ (fun x => ?_)).trans ?_ | dsimp only

@[simp] theorem freeCkpts_frame (s : State) :
    (freeCkpts s).dev = s.dev ∧ (freeCkpts s).gov = s.gov ∧ (freeCkpts s).flt = s.flt ∧ (freeCkpts s).tly = s.tly ∧
    (freeCkpts s).sal = s.sal ∧ (freeCkpts s).map = s.map ∧ (freeCkpts s).drn = s.drn ∧ (freeCkpts s).hrv = s.hrv ∧
    (freeCkpts s).fld = s.fld ∧ (freeCkpts s).pip = s.pip ∧ (freeCkpts s).heads = s.heads ∧ (freeCkpts s).sem = s.sem ∧
    (freeCkpts s).pans = s.pans ∧ (freeCkpts s).dmc = s.dmc ∧ (freeCkpts s).trn = s.trn ∧ (freeCkpts s).thm = s.thm ∧
    (freeCkpts s).cel = s.cel ∧ (freeCkpts s).upd = s.upd ∧ (freeCkpts s).key = s.key ∧ (freeCkpts s).brl = s.brl ∧
    (freeCkpts s).svc = s.svc ∧ (freeCkpts s).pins = s.pins ∧ (freeCkpts s).lay = s.lay ∧ (freeCkpts s).jrn = s.jrn ∧
    (freeCkpts s).replies = s.replies ∧ (freeCkpts s).dram = s.dram ∧ (freeCkpts s).poison = s.poison ∧
    (freeCkpts s).serial = s.serial ∧ (freeCkpts s).boot = s.boot ∧ (freeCkpts s).free = s.free ∧ (freeCkpts s).pending = s.pending := by
  refine ⟨?_, ?_, ?_, ?_, ?_, ?_, ?_, ?_, ?_, ?_, ?_, ?_, ?_, ?_, ?_, ?_, ?_, ?_, ?_, ?_, ?_, ?_, ?_, ?_, ?_, ?_, ?_, ?_, ?_, ?_, ?_⟩ <;> exact freeCkpts_only _ (fun _ _ => rfl) s

theorem eraseCkpts_only {β : Type} (π : State → β) (hπ : ∀ s xbed, π { s with bed := xbed } = π s) (s : State) :
    π (eraseCkpts s) = π s := by
  unfold eraseCkpts; repeat' first | contradiction | (simp only [hπ, blkUpd_only π hπ, foldl_same π, apply_ite π, ite_self]; done) | split | refine (foldl_same π _ (fun s x => ?_) _ _).trans ?_ | refine (elim_same π _ _ _ (fun x => ?_)).trans ?_ | dsimp only

@[simp] theorem eraseCkpts_frame (s : State) :
    (eraseCkpts s).dev = s.dev ∧ (eraseCkpts s).gov = s.gov ∧ (eraseCkpts s).flt = s.flt ∧ (eraseCkpts s).tly = s.tly ∧
    (eraseCkpts s).sal = s.sal ∧ (eraseCkpts s).map = s.map ∧ (eraseCkpts s).drn = s.drn ∧ (eraseCkpts s).hrv = s.hrv ∧
    (eraseCkpts s).fld = s.fld ∧ (eraseCkpts s).pip = s.pip ∧ (eraseCkpts s).heads = s.heads ∧ (eraseCkpts s).sem = s.sem ∧
    (eraseCkpts s).pans = s.pans ∧ (eraseCkpts s).dmc = s.dmc ∧ (eraseCkpts s).trn = s.trn ∧ (eraseCkpts s).thm = s.thm ∧
    (eraseCkpts s).cel = s.cel ∧ (eraseCkpts s).upd = s.upd ∧ (eraseCkpts s).key = s.key ∧ (eraseCkpts s).brl = s.brl ∧
    (eraseCkpts s).svc = s.svc ∧ (eraseCkpts s).pins = s.pins ∧ (eraseCkpts s).lay = s.lay ∧ (eraseCkpts s).jrn = s.jrn ∧
    (eraseCkpts s).replies = s.replies ∧ (eraseCkpts s).dram = s.dram ∧ (eraseCkpts s).poison = s.poison ∧
    (eraseCkpts s).serial = s.serial ∧ (eraseCkpts s).boot = s.boot ∧ (eraseCkpts s).free = s.free ∧
    (eraseCkpts s).pending = s.pending := by
  refine ⟨?_, ?_, ?_, ?_, ?_, ?_, ?_, ?_, ?_, ?_, ?_, ?_, ?_, ?_, ?_, ?_, ?_, ?_, ?_, ?_, ?_, ?_, ?_, ?_, ?_, ?_, ?_, ?_, ?_, ?_, ?_⟩ <;> exact eraseCkpts_only _ (fun _ _ => rfl) s

theorem putLine_only {β : Type} (π : State → β) (hπ : ∀ s xmap, π { s with map := xmap } = π s) (n : Nat) (es : List HmEntry) (s : State) :
    π (putLine n es s) = π s := by
  unfold putLine; repeat' first | contradiction | (simp only [hπ, foldl_same π, apply_ite π, ite_self]; done) | split | refine (foldl_same π _ (fun s x => ?_) _ _).trans ?_ | refine (elim_same π _ _ _ (fun x => ?_)).trans ?_ | dsimp only

@[simp] theorem putLine_frame (n : Nat) (es : List HmEntry) (s : State) :
    (putLine n es s).dev = s.dev ∧ (putLine n es s).gov = s.gov ∧ (putLine n es s).flt = s.flt ∧ (putLine n es s).tly = s.tly ∧
    (putLine n es s).sal = s.sal ∧ (putLine n es s).drn = s.drn ∧ (putLine n es s).hrv = s.hrv ∧ (putLine n es s).fld = s.fld ∧
    (putLine n es s).bed = s.bed ∧ (putLine n es s).pip = s.pip ∧ (putLine n es s).heads = s.heads ∧ (putLine n es s).sem = s.sem ∧
    (putLine n es s).pans = s.pans ∧ (putLine n es s).dmc = s.dmc ∧ (putLine n es s).trn = s.trn ∧ (putLine n es s).thm = s.thm ∧
    (putLine n es s).cel = s.cel ∧ (putLine n es s).upd = s.upd ∧ (putLine n es s).key = s.key ∧ (putLine n es s).brl = s.brl ∧
    (putLine n es s).svc = s.svc ∧ (putLine n es s).pins = s.pins ∧ (putLine n es s).lay = s.lay ∧ (putLine n es s).jrn = s.jrn ∧
    (putLine n es s).replies = s.replies ∧ (putLine n es s).dram = s.dram ∧ (putLine n es s).poison = s.poison ∧
    (putLine n es s).serial = s.serial ∧ (putLine n es s).boot = s.boot ∧ (putLine n es s).free = s.free ∧
    (putLine n es s).pending = s.pending := by
  refine ⟨?_, ?_, ?_, ?_, ?_, ?_, ?_, ?_, ?_, ?_, ?_, ?_, ?_, ?_, ?_, ?_, ?_, ?_, ?_, ?_, ?_, ?_, ?_, ?_, ?_, ?_, ?_, ?_, ?_, ?_, ?_⟩ <;> exact putLine_only _ (fun _ _ => rfl) n es s

theorem restoreRst_only {β : Type} (π : State → β) (hπ : ∀ s xmap xfld, π { s with map := xmap, fld := xfld } = π s) (img : Option Ckpt) (s : State) :
    π (restoreRst img s) = π s := by
  unfold restoreRst; repeat' first | contradiction | (simp only [hπ, foldl_same π, apply_ite π, ite_self]; done) | split | refine (foldl_same π _ (fun s x => ?_) _ _).trans ?_ | refine (elim_same π _ _ _ (fun x => ?_)).trans ?_ | dsimp only

@[simp] theorem restoreRst_frame (img : Option Ckpt) (s : State) :
    (restoreRst img s).dev = s.dev ∧ (restoreRst img s).gov = s.gov ∧ (restoreRst img s).flt = s.flt ∧
    (restoreRst img s).tly = s.tly ∧ (restoreRst img s).sal = s.sal ∧ (restoreRst img s).drn = s.drn ∧
    (restoreRst img s).hrv = s.hrv ∧ (restoreRst img s).bed = s.bed ∧ (restoreRst img s).pip = s.pip ∧
    (restoreRst img s).heads = s.heads ∧ (restoreRst img s).sem = s.sem ∧ (restoreRst img s).pans = s.pans ∧
    (restoreRst img s).dmc = s.dmc ∧ (restoreRst img s).trn = s.trn ∧ (restoreRst img s).thm = s.thm ∧
    (restoreRst img s).cel = s.cel ∧ (restoreRst img s).upd = s.upd ∧ (restoreRst img s).key = s.key ∧
    (restoreRst img s).brl = s.brl ∧ (restoreRst img s).svc = s.svc ∧ (restoreRst img s).pins = s.pins ∧
    (restoreRst img s).lay = s.lay ∧ (restoreRst img s).jrn = s.jrn ∧ (restoreRst img s).replies = s.replies ∧
    (restoreRst img s).dram = s.dram ∧ (restoreRst img s).poison = s.poison ∧ (restoreRst img s).serial = s.serial ∧
    (restoreRst img s).boot = s.boot ∧ (restoreRst img s).free = s.free ∧ (restoreRst img s).pending = s.pending := by
  refine ⟨?_, ?_, ?_, ?_, ?_, ?_, ?_, ?_, ?_, ?_, ?_, ?_, ?_, ?_, ?_, ?_, ?_, ?_, ?_, ?_, ?_, ?_, ?_, ?_, ?_, ?_, ?_, ?_, ?_, ?_⟩ <;> exact restoreRst_only _ (fun _ _ _ => rfl) img s

theorem rebuildMap_only {β : Type} (π : State → β) (hπ : ∀ s xmap xdrn xfld, π { s with map := xmap, drn := xdrn, fld := xfld } = π s) (s : State) :
    π (rebuildMap s).1 = π s := by
  unfold rebuildMap; repeat' first | contradiction | (simp only [hπ, putLine_only π (fun s xmap => hπ s xmap s.drn s.fld), restoreRst_only π (fun s xmap xfld => hπ s xmap s.drn xfld), foldl_same π, apply_ite π, ite_self]; done) | split | refine (foldl_same π _ (fun s x => ?_) _ _).trans ?_ | refine (elim_same π _ _ _ (fun x => ?_)).trans ?_ | with_reducible refine (putLine_only π (fun s xmap => hπ s xmap s.drn s.fld) _ _ _).trans ?_ | with_reducible refine (restoreRst_only π (fun s xmap xfld => hπ s xmap s.drn xfld) _ _).trans ?_ | with_reducible refine (hπ _ _ _ _).trans ?_ | dsimp only

@[simp] theorem rebuildMap_frame (s : State) :
    (rebuildMap s).1.dev = s.dev ∧ (rebuildMap s).1.gov = s.gov ∧ (rebuildMap s).1.flt = s.flt ∧ (rebuildMap s).1.tly = s.tly ∧
    (rebuildMap s).1.sal = s.sal ∧ (rebuildMap s).1.hrv = s.hrv ∧ (rebuildMap s).1.bed = s.bed ∧ (rebuildMap s).1.pip = s.pip ∧
    (rebuildMap s).1.heads = s.heads ∧ (rebuildMap s).1.sem = s.sem ∧ (rebuildMap s).1.pans = s.pans ∧
    (rebuildMap s).1.dmc = s.dmc ∧ (rebuildMap s).1.trn = s.trn ∧ (rebuildMap s).1.thm = s.thm ∧ (rebuildMap s).1.cel = s.cel ∧
    (rebuildMap s).1.upd = s.upd ∧ (rebuildMap s).1.key = s.key ∧ (rebuildMap s).1.brl = s.brl ∧ (rebuildMap s).1.svc = s.svc ∧
    (rebuildMap s).1.pins = s.pins ∧ (rebuildMap s).1.lay = s.lay ∧ (rebuildMap s).1.jrn = s.jrn ∧
    (rebuildMap s).1.replies = s.replies ∧ (rebuildMap s).1.dram = s.dram ∧ (rebuildMap s).1.poison = s.poison ∧
    (rebuildMap s).1.serial = s.serial ∧ (rebuildMap s).1.boot = s.boot ∧ (rebuildMap s).1.free = s.free ∧
    (rebuildMap s).1.pending = s.pending := by
  refine ⟨?_, ?_, ?_, ?_, ?_, ?_, ?_, ?_, ?_, ?_, ?_, ?_, ?_, ?_, ?_, ?_, ?_, ?_, ?_, ?_, ?_, ?_, ?_, ?_, ?_, ?_, ?_, ?_, ?_⟩ <;> exact rebuildMap_only _ (fun _ _ _ _ => rfl) s

theorem loseAtStart_only {β : Type} (π : State → β) (hπ : ∀ s xmap xdrn xfld xheads xdmc xpoison, π { s with map := xmap, drn := xdrn, fld := xfld, heads := xheads, dmc := xdmc, poison := xpoison } = π s) (s : State) (g : Nat) :
    π (loseAtStart s g) = π s := by
  simp only [loseAtStart, hπ, rstUpd_only π (fun s xmap => hπ s xmap s.drn s.fld s.heads s.dmc s.poison), hmPut_only π (fun s xmap xdrn => hπ s xmap xdrn s.fld s.heads s.dmc s.poison), setLost_only π (fun s xdrn xfld xheads xdmc xpoison => hπ s s.map xdrn xfld xheads xdmc xpoison), setRestored_only π (fun s xmap xfld => hπ s xmap s.drn xfld s.heads s.dmc s.poison), apply_ite π, ite_self]

@[simp] theorem loseAtStart_frame (s : State) (g : Nat) :
    (loseAtStart s g).dev = s.dev ∧ (loseAtStart s g).gov = s.gov ∧ (loseAtStart s g).flt = s.flt ∧ (loseAtStart s g).tly = s.tly ∧
    (loseAtStart s g).sal = s.sal ∧ (loseAtStart s g).hrv = s.hrv ∧ (loseAtStart s g).bed = s.bed ∧ (loseAtStart s g).pip = s.pip ∧
    (loseAtStart s g).sem = s.sem ∧ (loseAtStart s g).pans = s.pans ∧ (loseAtStart s g).trn = s.trn ∧
    (loseAtStart s g).thm = s.thm ∧ (loseAtStart s g).cel = s.cel ∧ (loseAtStart s g).upd = s.upd ∧ (loseAtStart s g).key = s.key ∧
    (loseAtStart s g).brl = s.brl ∧ (loseAtStart s g).svc = s.svc ∧ (loseAtStart s g).pins = s.pins ∧
    (loseAtStart s g).lay = s.lay ∧ (loseAtStart s g).jrn = s.jrn ∧ (loseAtStart s g).replies = s.replies ∧
    (loseAtStart s g).dram = s.dram ∧ (loseAtStart s g).serial = s.serial ∧ (loseAtStart s g).boot = s.boot ∧
    (loseAtStart s g).free = s.free ∧ (loseAtStart s g).pending = s.pending := by
  refine ⟨?_, ?_, ?_, ?_, ?_, ?_, ?_, ?_, ?_, ?_, ?_, ?_, ?_, ?_, ?_, ?_, ?_, ?_, ?_, ?_, ?_, ?_, ?_, ?_, ?_, ?_⟩ <;> exact loseAtStart_only _ (fun _ _ _ _ _ _ _ => rfl) s g

theorem nextMapRow_only {β : Type} (π : State → β) (hπ : ∀ s xbed, π { s with bed := xbed } = π s) (s : State) :
    π (nextMapRow s) = π s := by
  unfold nextMapRow; repeat' first | contradiction | (simp only [hπ, rowUpd_only π hπ, openNext_only π hπ, apply_ite π, ite_self]; done) | split | refine (foldl_same π _ (fun s x => ?_) _ _).trans ?_ | refine (elim_same π _ _ _ (fun x => ?_)).trans ?_ | dsimp only

@[simp] theorem nextMapRow_frame (s : State) :
    (nextMapRow s).dev = s.dev ∧ (nextMapRow s).gov = s.gov ∧ (nextMapRow s).flt = s.flt ∧ (nextMapRow s).tly = s.tly ∧
    (nextMapRow s).sal = s.sal ∧ (nextMapRow s).map = s.map ∧ (nextMapRow s).drn = s.drn ∧ (nextMapRow s).hrv = s.hrv ∧
    (nextMapRow s).fld = s.fld ∧ (nextMapRow s).pip = s.pip ∧ (nextMapRow s).heads = s.heads ∧ (nextMapRow s).sem = s.sem ∧
    (nextMapRow s).pans = s.pans ∧ (nextMapRow s).dmc = s.dmc ∧ (nextMapRow s).trn = s.trn ∧ (nextMapRow s).thm = s.thm ∧
    (nextMapRow s).cel = s.cel ∧ (nextMapRow s).upd = s.upd ∧ (nextMapRow s).key = s.key ∧ (nextMapRow s).brl = s.brl ∧
    (nextMapRow s).svc = s.svc ∧ (nextMapRow s).pins = s.pins ∧ (nextMapRow s).lay = s.lay ∧ (nextMapRow s).jrn = s.jrn ∧
    (nextMapRow s).replies = s.replies ∧ (nextMapRow s).dram = s.dram ∧ (nextMapRow s).poison = s.poison ∧
    (nextMapRow s).serial = s.serial ∧ (nextMapRow s).boot = s.boot ∧ (nextMapRow s).free = s.free ∧
    (nextMapRow s).pending = s.pending := by
  refine ⟨?_, ?_, ?_, ?_, ?_, ?_, ?_, ?_, ?_, ?_, ?_, ?_, ?_, ?_, ?_, ?_, ?_, ?_, ?_, ?_, ?_, ?_, ?_, ?_, ?_, ?_, ?_, ?_, ?_, ?_, ?_⟩ <;> exact nextMapRow_only _ (fun _ _ => rfl) s

theorem writePages_only {β : Type} (π : State → β) (hπ : ∀ s xmap xdrn xhrv xbed, π { s with map := xmap, drn := xdrn, hrv := xhrv, bed := xbed } = π s) (n : Nat) (s : State) :
    π (writePages n s) = π s := by
  unfold writePages; repeat' first | contradiction | with_reducible rfl | with_reducible refine (segmentNow_only π (fun s xmap xdrn xhrv xbed => hπ s xmap xdrn xhrv xbed) _ _).trans ?_ | with_reducible refine (foldl_same π _ (fun s x => ?_) _ _).trans ?_ | with_reducible refine (elim_same π _ _ _ (fun x => ?_)).trans ?_ | split | with_reducible refine (hπ _ _ _ _ _).trans ?_ | dsimp only

@[simp] theorem writePages_frame (n : Nat) (s : State) :
    (writePages n s).dev = s.dev ∧ (writePages n s).gov = s.gov ∧ (writePages n s).flt = s.flt ∧ (writePages n s).tly = s.tly ∧
    (writePages n s).sal = s.sal ∧ (writePages n s).fld = s.fld ∧ (writePages n s).pip = s.pip ∧ (writePages n s).heads = s.heads ∧
    (writePages n s).sem = s.sem ∧ (writePages n s).pans = s.pans ∧ (writePages n s).dmc = s.dmc ∧ (writePages n s).trn = s.trn ∧
    (writePages n s).thm = s.thm ∧ (writePages n s).cel = s.cel ∧ (writePages n s).upd = s.upd ∧ (writePages n s).key = s.key ∧
    (writePages n s).brl = s.brl ∧ (writePages n s).svc = s.svc ∧ (writePages n s).pins = s.pins ∧ (writePages n s).lay = s.lay ∧
    (writePages n s).jrn = s.jrn ∧ (writePages n s).replies = s.replies ∧ (writePages n s).dram = s.dram ∧
    (writePages n s).poison = s.poison ∧ (writePages n s).serial = s.serial ∧ (writePages n s).boot = s.boot ∧
    (writePages n s).free = s.free ∧ (writePages n s).pending = s.pending := by
  refine ⟨?_, ?_, ?_, ?_, ?_, ?_, ?_, ?_, ?_, ?_, ?_, ?_, ?_, ?_, ?_, ?_, ?_, ?_, ?_, ?_, ?_, ?_, ?_, ?_, ?_, ?_, ?_, ?_⟩ <;> exact writePages_only _ (fun _ _ _ _ _ => rfl) n s

theorem writeLines_only {β : Type} (π : State → β) (hπ : ∀ s xmap xdrn xhrv xbed, π { s with map := xmap, drn := xdrn, hrv := xhrv, bed := xbed } = π s) (x0 : Nat) (s : State) :
    π (writeLines x0 s) = π s := by
  induction x0 generalizing s with
  | zero => first | rfl | (unfold writeLines; repeat' first | rfl | (simp only [hπ, nextMapRow_only π (fun s xbed => hπ s s.map s.drn s.hrv xbed), writePages_only π hπ, apply_ite π, ite_self]; done) | split | dsimp only)
  | succ n ih => unfold writeLines; repeat' first | contradiction | (simp only [hπ, nextMapRow_only π (fun s xbed => hπ s s.map s.drn s.hrv xbed), writePages_only π hπ, apply_ite π, ite_self, ih]; done) | (rw [ih]; simp only [hπ, nextMapRow_only π (fun s xbed => hπ s s.map s.drn s.hrv xbed), writePages_only π hπ, apply_ite π, ite_self]; done) | (rw [ih]; done) | refine (ih _).trans ?_ | refine (ih _ _).trans ?_ | split | refine (foldl_same π _ (fun s x => ?_) _ _).trans ?_ | dsimp only

@[simp] theorem writeLines_frame (x0 : Nat) (s : State) :
    (writeLines x0 s).dev = s.dev ∧ (writeLines x0 s).gov = s.gov ∧ (writeLines x0 s).flt = s.flt ∧ (writeLines x0 s).tly = s.tly ∧
    (writeLines x0 s).sal = s.sal ∧ (writeLines x0 s).fld = s.fld ∧ (writeLines x0 s).pip = s.pip ∧
    (writeLines x0 s).heads = s.heads ∧ (writeLines x0 s).sem = s.sem ∧ (writeLines x0 s).pans = s.pans ∧
    (writeLines x0 s).dmc = s.dmc ∧ (writeLines x0 s).trn = s.trn ∧ (writeLines x0 s).thm = s.thm ∧ (writeLines x0 s).cel = s.cel ∧
    (writeLines x0 s).upd = s.upd ∧ (writeLines x0 s).key = s.key ∧ (writeLines x0 s).brl = s.brl ∧ (writeLines x0 s).svc = s.svc ∧
    (writeLines x0 s).pins = s.pins ∧ (writeLines x0 s).lay = s.lay ∧ (writeLines x0 s).jrn = s.jrn ∧
    (writeLines x0 s).replies = s.replies ∧ (writeLines x0 s).dram = s.dram ∧ (writeLines x0 s).poison = s.poison ∧
    (writeLines x0 s).serial = s.serial ∧ (writeLines x0 s).boot = s.boot ∧ (writeLines x0 s).free = s.free ∧
    (writeLines x0 s).pending = s.pending := by
  refine ⟨?_, ?_, ?_, ?_, ?_, ?_, ?_, ?_, ?_, ?_, ?_, ?_, ?_, ?_, ?_, ?_, ?_, ?_, ?_, ?_, ?_, ?_, ?_, ?_, ?_, ?_, ?_, ?_⟩ <;> exact writeLines_only _ (fun _ _ _ _ _ => rfl) x0 s

theorem loseAll_only {β : Type} (π : State → β) (hπ : ∀ s xgov xmap xdrn xhrv xfld xbed xheads xdmc xpoison, π { s with gov := xgov, map := xmap, drn := xdrn, hrv := xhrv, fld := xfld, bed := xbed, heads := xheads, dmc := xdmc, poison := xpoison } = π s) (used : Option Ckpt) (latest : Bool) (s : State) :
    π (loseAll used latest s) = π s := by
  unfold loseAll; repeat' first | contradiction | with_reducible rfl | with_reducible refine (closedParity_only π (fun s xdrn xhrv xbed => hπ s s.gov s.map xdrn xhrv s.fld xbed s.heads s.dmc s.poison) _).trans ?_ | with_reducible refine (loseAtStart_only π (fun s xmap xdrn xfld xheads xdmc xpoison => hπ s s.gov xmap xdrn s.hrv xfld s.bed xheads xdmc xpoison) _ _).trans ?_ | with_reducible refine (writeLines_only π (fun s xmap xdrn xhrv xbed => hπ s s.gov xmap xdrn xhrv s.fld xbed s.heads s.dmc s.poison) _ _).trans ?_ | with_reducible refine (foldl_same π _ (fun s x => ?_) _ _).trans ?_ | with_reducible refine (elim_same π _ _ _ (fun x => ?_)).trans ?_ | split | with_reducible refine (hπ _ _ _ _ _ _ _ _ _ _).trans ?_ | dsimp only

@[simp] theorem loseAll_frame (used : Option Ckpt) (latest : Bool) (s : State) :
    (loseAll used latest s).dev = s.dev ∧ (loseAll used latest s).flt = s.flt ∧ (loseAll used latest s).tly = s.tly ∧
    (loseAll used latest s).sal = s.sal ∧ (loseAll used latest s).pip = s.pip ∧ (loseAll used latest s).sem = s.sem ∧
    (loseAll used latest s).pans = s.pans ∧ (loseAll used latest s).trn = s.trn ∧ (loseAll used latest s).thm = s.thm ∧
    (loseAll used latest s).cel = s.cel ∧ (loseAll used latest s).upd = s.upd ∧ (loseAll used latest s).key = s.key ∧
    (loseAll used latest s).brl = s.brl ∧ (loseAll used latest s).svc = s.svc ∧ (loseAll used latest s).pins = s.pins ∧
    (loseAll used latest s).lay = s.lay ∧ (loseAll used latest s).jrn = s.jrn ∧ (loseAll used latest s).replies = s.replies ∧
    (loseAll used latest s).dram = s.dram ∧ (loseAll used latest s).serial = s.serial ∧ (loseAll used latest s).boot = s.boot ∧
    (loseAll used latest s).free = s.free ∧ (loseAll used latest s).pending = s.pending := by
  refine ⟨?_, ?_, ?_, ?_, ?_, ?_, ?_, ?_, ?_, ?_, ?_, ?_, ?_, ?_, ?_, ?_, ?_, ?_, ?_, ?_, ?_, ?_, ?_⟩ <;> exact loseAll_only _ (fun _ _ _ _ _ _ _ _ _ _ => rfl) used latest s

theorem mapReady_only {β : Type} (π : State → β) (hπ : ∀ s xmap, π { s with map := xmap } = π s) (s : State) :
    π (mapReady s) = π s := by
  simp only [mapReady, hπ, apply_ite π, ite_self]

@[simp] theorem mapReady_frame (s : State) :
    (mapReady s).dev = s.dev ∧ (mapReady s).gov = s.gov ∧ (mapReady s).flt = s.flt ∧ (mapReady s).tly = s.tly ∧
    (mapReady s).sal = s.sal ∧ (mapReady s).drn = s.drn ∧ (mapReady s).hrv = s.hrv ∧ (mapReady s).fld = s.fld ∧
    (mapReady s).bed = s.bed ∧ (mapReady s).pip = s.pip ∧ (mapReady s).heads = s.heads ∧ (mapReady s).sem = s.sem ∧
    (mapReady s).pans = s.pans ∧ (mapReady s).dmc = s.dmc ∧ (mapReady s).trn = s.trn ∧ (mapReady s).thm = s.thm ∧
    (mapReady s).cel = s.cel ∧ (mapReady s).upd = s.upd ∧ (mapReady s).key = s.key ∧ (mapReady s).brl = s.brl ∧
    (mapReady s).svc = s.svc ∧ (mapReady s).pins = s.pins ∧ (mapReady s).lay = s.lay ∧ (mapReady s).jrn = s.jrn ∧
    (mapReady s).replies = s.replies ∧ (mapReady s).dram = s.dram ∧ (mapReady s).poison = s.poison ∧
    (mapReady s).serial = s.serial ∧ (mapReady s).boot = s.boot ∧ (mapReady s).free = s.free ∧ (mapReady s).pending = s.pending := by
  refine ⟨?_, ?_, ?_, ?_, ?_, ?_, ?_, ?_, ?_, ?_, ?_, ?_, ?_, ?_, ?_, ?_, ?_, ?_, ?_, ?_, ?_, ?_, ?_, ?_, ?_, ?_, ?_, ?_, ?_, ?_, ?_⟩ <;> exact mapReady_only _ (fun _ _ => rfl) s

theorem restoreStart_only {β : Type} (π : State → β) (hπ : ∀ s xgov xmap xdrn xhrv xfld xbed xheads xdmc xpoison, π { s with gov := xgov, map := xmap, drn := xdrn, hrv := xhrv, fld := xfld, bed := xbed, heads := xheads, dmc := xdmc, poison := xpoison } = π s) (s : State) :
    π (restoreStart s) = π s := by
  unfold restoreStart; repeat' first | contradiction | (simp only [hπ, rebuildMap_only π (fun s xmap xdrn xfld => hπ s s.gov xmap xdrn s.hrv xfld s.bed s.heads s.dmc s.poison), loseAll_only π hπ, mapReady_only π (fun s xmap => hπ s s.gov xmap s.drn s.hrv s.fld s.bed s.heads s.dmc s.poison), apply_ite π, ite_self]; done) | with_reducible refine (rebuildMap_only π (fun s xmap xdrn xfld => hπ s s.gov xmap xdrn s.hrv xfld s.bed s.heads s.dmc s.poison) _).trans ?_ | with_reducible refine (loseAll_only π (fun s xgov xmap xdrn xhrv xfld xbed xheads xdmc xpoison => hπ s xgov xmap xdrn xhrv xfld xbed xheads xdmc xpoison) _ _ _).trans ?_ | with_reducible refine (mapReady_only π (fun s xmap => hπ s s.gov xmap s.drn s.hrv s.fld s.bed s.heads s.dmc s.poison) _).trans ?_ | with_reducible refine (hπ _ _ _ _ _ _ _ _ _ _).trans ?_ | refine (foldl_same π _ (fun s x => ?_) _ _).trans ?_ | refine (elim_same π _ _ _ (fun x => ?_)).trans ?_ | split | dsimp only

@[simp] theorem restoreStart_frame (s : State) :
    (restoreStart s).dev = s.dev ∧ (restoreStart s).flt = s.flt ∧ (restoreStart s).tly = s.tly ∧ (restoreStart s).sal = s.sal ∧
    (restoreStart s).pip = s.pip ∧ (restoreStart s).sem = s.sem ∧ (restoreStart s).pans = s.pans ∧ (restoreStart s).trn = s.trn ∧
    (restoreStart s).thm = s.thm ∧ (restoreStart s).cel = s.cel ∧ (restoreStart s).upd = s.upd ∧ (restoreStart s).key = s.key ∧
    (restoreStart s).brl = s.brl ∧ (restoreStart s).svc = s.svc ∧ (restoreStart s).pins = s.pins ∧ (restoreStart s).lay = s.lay ∧
    (restoreStart s).jrn = s.jrn ∧ (restoreStart s).replies = s.replies ∧ (restoreStart s).dram = s.dram ∧
    (restoreStart s).serial = s.serial ∧ (restoreStart s).boot = s.boot ∧ (restoreStart s).free = s.free ∧
    (restoreStart s).pending = s.pending := by
  refine ⟨?_, ?_, ?_, ?_, ?_, ?_, ?_, ?_, ?_, ?_, ?_, ?_, ?_, ?_, ?_, ?_, ?_, ?_, ?_, ?_, ?_, ?_, ?_⟩ <;> exact restoreStart_only _ (fun _ _ _ _ _ _ _ _ _ _ => rfl) s

theorem zeroRows_only {β : Type} (π : State → β) (hπ : ∀ s xdrn xhrv xbed, π { s with drn := xdrn, hrv := xhrv, bed := xbed } = π s) (x0 : Nat) (x1 : Nat) (x2 : Nat) (s : State) :
    π (zeroRows x0 x1 x2 s) = π s := by
  induction x0 generalizing x1 x2 s with
  | zero => first | rfl | (unfold zeroRows; repeat' first | rfl | (simp only [hπ, rowUpd_only π (fun s xbed => hπ s s.drn s.hrv xbed), countBytes_only π (fun s xdrn xhrv => hπ s xdrn xhrv s.bed), nextMapRow_only π (fun s xbed => hπ s s.drn s.hrv xbed), apply_ite π, ite_self]; done) | split | dsimp only)
  | succ n ih => unfold zeroRows; repeat' first | contradiction | (simp only [hπ, rowUpd_only π (fun s xbed => hπ s s.drn s.hrv xbed), countBytes_only π (fun s xdrn xhrv => hπ s xdrn xhrv s.bed), nextMapRow_only π (fun s xbed => hπ s s.drn s.hrv xbed), apply_ite π, ite_self, ih]; done) | (rw [ih]; simp only [hπ, rowUpd_only π (fun s xbed => hπ s s.drn s.hrv xbed), countBytes_only π (fun s xdrn xhrv => hπ s xdrn xhrv s.bed), nextMapRow_only π (fun s xbed => hπ s s.drn s.hrv xbed), apply_ite π, ite_self]; done) | (rw [ih]; done) | refine (ih _).trans ?_ | refine (ih _ _).trans ?_ | split | refine (foldl_same π _ (fun s x => ?_) _ _).trans ?_ | dsimp only

@[simp] theorem zeroRows_frame (x0 : Nat) (x1 : Nat) (x2 : Nat) (s : State) :
    (zeroRows x0 x1 x2 s).dev = s.dev ∧ (zeroRows x0 x1 x2 s).gov = s.gov ∧ (zeroRows x0 x1 x2 s).flt = s.flt ∧
    (zeroRows x0 x1 x2 s).tly = s.tly ∧ (zeroRows x0 x1 x2 s).sal = s.sal ∧ (zeroRows x0 x1 x2 s).map = s.map ∧
    (zeroRows x0 x1 x2 s).fld = s.fld ∧ (zeroRows x0 x1 x2 s).pip = s.pip ∧ (zeroRows x0 x1 x2 s).heads = s.heads ∧
    (zeroRows x0 x1 x2 s).sem = s.sem ∧ (zeroRows x0 x1 x2 s).pans = s.pans ∧ (zeroRows x0 x1 x2 s).dmc = s.dmc ∧
    (zeroRows x0 x1 x2 s).trn = s.trn ∧ (zeroRows x0 x1 x2 s).thm = s.thm ∧ (zeroRows x0 x1 x2 s).cel = s.cel ∧
    (zeroRows x0 x1 x2 s).upd = s.upd ∧ (zeroRows x0 x1 x2 s).key = s.key ∧ (zeroRows x0 x1 x2 s).brl = s.brl ∧
    (zeroRows x0 x1 x2 s).svc = s.svc ∧ (zeroRows x0 x1 x2 s).pins = s.pins ∧ (zeroRows x0 x1 x2 s).lay = s.lay ∧
    (zeroRows x0 x1 x2 s).jrn = s.jrn ∧ (zeroRows x0 x1 x2 s).replies = s.replies ∧ (zeroRows x0 x1 x2 s).dram = s.dram ∧
    (zeroRows x0 x1 x2 s).poison = s.poison ∧ (zeroRows x0 x1 x2 s).serial = s.serial ∧ (zeroRows x0 x1 x2 s).boot = s.boot ∧
    (zeroRows x0 x1 x2 s).free = s.free ∧ (zeroRows x0 x1 x2 s).pending = s.pending := by
  refine ⟨?_, ?_, ?_, ?_, ?_, ?_, ?_, ?_, ?_, ?_, ?_, ?_, ?_, ?_, ?_, ?_, ?_, ?_, ?_, ?_, ?_, ?_, ?_, ?_, ?_, ?_, ?_, ?_, ?_⟩ <;> exact zeroRows_only _ (fun _ _ _ _ => rfl) x0 x1 x2 s

theorem zeroSegments_only {β : Type} (π : State → β) (hπ : ∀ s xdrn xhrv xbed, π { s with drn := xdrn, hrv := xhrv, bed := xbed } = π s) (s : State) :
    π (zeroSegments s) = π s := by
  simp only [zeroSegments, hπ, fullRows_only π (fun s xbed => hπ s s.drn s.hrv xbed), zeroRows_only π hπ, apply_ite π, ite_self]

@[simp] theorem zeroSegments_frame (s : State) :
    (zeroSegments s).dev = s.dev ∧ (zeroSegments s).gov = s.gov ∧ (zeroSegments s).flt = s.flt ∧ (zeroSegments s).tly = s.tly ∧
    (zeroSegments s).sal = s.sal ∧ (zeroSegments s).map = s.map ∧ (zeroSegments s).fld = s.fld ∧ (zeroSegments s).pip = s.pip ∧
    (zeroSegments s).heads = s.heads ∧ (zeroSegments s).sem = s.sem ∧ (zeroSegments s).pans = s.pans ∧
    (zeroSegments s).dmc = s.dmc ∧ (zeroSegments s).trn = s.trn ∧ (zeroSegments s).thm = s.thm ∧ (zeroSegments s).cel = s.cel ∧
    (zeroSegments s).upd = s.upd ∧ (zeroSegments s).key = s.key ∧ (zeroSegments s).brl = s.brl ∧ (zeroSegments s).svc = s.svc ∧
    (zeroSegments s).pins = s.pins ∧ (zeroSegments s).lay = s.lay ∧ (zeroSegments s).jrn = s.jrn ∧
    (zeroSegments s).replies = s.replies ∧ (zeroSegments s).dram = s.dram ∧ (zeroSegments s).poison = s.poison ∧
    (zeroSegments s).serial = s.serial ∧ (zeroSegments s).boot = s.boot ∧ (zeroSegments s).free = s.free ∧
    (zeroSegments s).pending = s.pending := by
  refine ⟨?_, ?_, ?_, ?_, ?_, ?_, ?_, ?_, ?_, ?_, ?_, ?_, ?_, ?_, ?_, ?_, ?_, ?_, ?_, ?_, ?_, ?_, ?_, ?_, ?_, ?_, ?_, ?_, ?_⟩ <;> exact zeroSegments_only _ (fun _ _ _ _ => rfl) s

theorem resetMap_only {β : Type} (π : State → β) (hπ : ∀ s xmap xdrn xhrv xfld xbed xpoison, π { s with map := xmap, drn := xdrn, hrv := xhrv, fld := xfld, bed := xbed, poison := xpoison } = π s) (s : State) :
    π (resetMap s) = π s := by
  simp only [resetMap, hπ, zeroSegments_only π (fun s xdrn xhrv xbed => hπ s s.map xdrn xhrv s.fld xbed s.poison), apply_ite π, ite_self]

@[simp] theorem resetMap_frame (s : State) :
    (resetMap s).dev = s.dev ∧ (resetMap s).gov = s.gov ∧ (resetMap s).flt = s.flt ∧ (resetMap s).tly = s.tly ∧
    (resetMap s).sal = s.sal ∧ (resetMap s).pip = s.pip ∧ (resetMap s).heads = s.heads ∧ (resetMap s).sem = s.sem ∧
    (resetMap s).pans = s.pans ∧ (resetMap s).dmc = s.dmc ∧ (resetMap s).trn = s.trn ∧ (resetMap s).thm = s.thm ∧
    (resetMap s).cel = s.cel ∧ (resetMap s).upd = s.upd ∧ (resetMap s).key = s.key ∧ (resetMap s).brl = s.brl ∧
    (resetMap s).svc = s.svc ∧ (resetMap s).pins = s.pins ∧ (resetMap s).lay = s.lay ∧ (resetMap s).jrn = s.jrn ∧
    (resetMap s).replies = s.replies ∧ (resetMap s).dram = s.dram ∧ (resetMap s).serial = s.serial ∧ (resetMap s).boot = s.boot ∧
    (resetMap s).free = s.free ∧ (resetMap s).pending = s.pending := by
  refine ⟨?_, ?_, ?_, ?_, ?_, ?_, ?_, ?_, ?_, ?_, ?_, ?_, ?_, ?_, ?_, ?_, ?_, ?_, ?_, ?_, ?_, ?_, ?_, ?_, ?_, ?_⟩ <;> exact resetMap_only _ (fun _ _ _ _ _ _ _ => rfl) s

theorem makeKeys_only {β : Type} (π : State → β) (hπ : ∀ s xpip xcel xkey xfree, π { s with pip := xpip, cel := xcel, key := xkey, free := xfree } = π s) (s : State) :
    π (makeKeys s) = π s := by
  unfold makeKeys; repeat' first | contradiction | (simp only [hπ, appendKeys_only π (fun s xcel xkey => hπ s s.pip xcel xkey s.free), loadKeys_only π (fun s xpip => hπ s xpip s.cel s.key s.free), apply_ite π, ite_self]; done) | split | refine (foldl_same π _ (fun s x => ?_) _ _).trans ?_ | refine (elim_same π _ _ _ (fun x => ?_)).trans ?_ | dsimp only

@[simp] theorem makeKeys_frame (s : State) :
    (makeKeys s).dev = s.dev ∧ (makeKeys s).gov = s.gov ∧ (makeKeys s).flt = s.flt ∧ (makeKeys s).tly = s.tly ∧
    (makeKeys s).sal = s.sal ∧ (makeKeys s).map = s.map ∧ (makeKeys s).drn = s.drn ∧ (makeKeys s).hrv = s.hrv ∧
    (makeKeys s).fld = s.fld ∧ (makeKeys s).bed = s.bed ∧ (makeKeys s).heads = s.heads ∧ (makeKeys s).sem = s.sem ∧
    (makeKeys s).pans = s.pans ∧ (makeKeys s).dmc = s.dmc ∧ (makeKeys s).trn = s.trn ∧ (makeKeys s).thm = s.thm ∧
    (makeKeys s).upd = s.upd ∧ (makeKeys s).brl = s.brl ∧ (makeKeys s).svc = s.svc ∧ (makeKeys s).pins = s.pins ∧
    (makeKeys s).lay = s.lay ∧ (makeKeys s).jrn = s.jrn ∧ (makeKeys s).replies = s.replies ∧ (makeKeys s).dram = s.dram ∧
    (makeKeys s).poison = s.poison ∧ (makeKeys s).serial = s.serial ∧ (makeKeys s).boot = s.boot ∧ (makeKeys s).pending = s.pending := by
  refine ⟨?_, ?_, ?_, ?_, ?_, ?_, ?_, ?_, ?_, ?_, ?_, ?_, ?_, ?_, ?_, ?_, ?_, ?_, ?_, ?_, ?_, ?_, ?_, ?_, ?_, ?_, ?_, ?_⟩ <;> exact makeKeys_only _ (fun _ _ _ _ _ => rfl) s

theorem markFactory_only {β : Type} (π : State → β) (hπ : ∀ s xbed xjrn, π { s with bed := xbed, jrn := xjrn } = π s) (l : List (Nat × Nat × Nat)) (s : State) :
    π (markFactory l s) = π s := by
  unfold markFactory; repeat' first | contradiction | (simp only [hπ, State.journal_only π (fun s xjrn => hπ s s.bed xjrn), blkUpd_only π (fun s xbed => hπ s xbed s.jrn), chanUpd_only π (fun s xbed => hπ s xbed s.jrn), foldl_same π, apply_ite π, ite_self]; done) | split | refine (foldl_same π _ (fun s x => ?_) _ _).trans ?_ | refine (elim_same π _ _ _ (fun x => ?_)).trans ?_ | dsimp only

@[simp] theorem markFactory_frame (l : List (Nat × Nat × Nat)) (s : State) :
    (markFactory l s).dev = s.dev ∧ (markFactory l s).gov = s.gov ∧ (markFactory l s).flt = s.flt ∧ (markFactory l s).tly = s.tly ∧
    (markFactory l s).sal = s.sal ∧ (markFactory l s).map = s.map ∧ (markFactory l s).drn = s.drn ∧ (markFactory l s).hrv = s.hrv ∧
    (markFactory l s).fld = s.fld ∧ (markFactory l s).pip = s.pip ∧ (markFactory l s).heads = s.heads ∧
    (markFactory l s).sem = s.sem ∧ (markFactory l s).pans = s.pans ∧ (markFactory l s).dmc = s.dmc ∧
    (markFactory l s).trn = s.trn ∧ (markFactory l s).thm = s.thm ∧ (markFactory l s).cel = s.cel ∧ (markFactory l s).upd = s.upd ∧
    (markFactory l s).key = s.key ∧ (markFactory l s).brl = s.brl ∧ (markFactory l s).svc = s.svc ∧
    (markFactory l s).pins = s.pins ∧ (markFactory l s).lay = s.lay ∧ (markFactory l s).replies = s.replies ∧
    (markFactory l s).dram = s.dram ∧ (markFactory l s).poison = s.poison ∧ (markFactory l s).serial = s.serial ∧
    (markFactory l s).boot = s.boot ∧ (markFactory l s).free = s.free ∧ (markFactory l s).pending = s.pending := by
  refine ⟨?_, ?_, ?_, ?_, ?_, ?_, ?_, ?_, ?_, ?_, ?_, ?_, ?_, ?_, ?_, ?_, ?_, ?_, ?_, ?_, ?_, ?_, ?_, ?_, ?_, ?_, ?_, ?_, ?_, ?_⟩ <;> exact markFactory_only _ (fun _ _ _ => rfl) l s

theorem openAccess_only {β : Type} (π : State → β) (hπ : ∀ s xgov xjrn, π { s with gov := xgov, jrn := xjrn } = π s) (s : State) :
    π (openAccess s) = π s := by
  unfold openAccess; repeat' first | contradiction | (simp only [hπ, releaseAccess_only π hπ, apply_ite π, ite_self]; done) | split | refine (foldl_same π _ (fun s x => ?_) _ _).trans ?_ | refine (elim_same π _ _ _ (fun x => ?_)).trans ?_ | dsimp only

@[simp] theorem openAccess_frame (s : State) :
    (openAccess s).dev = s.dev ∧ (openAccess s).flt = s.flt ∧ (openAccess s).tly = s.tly ∧ (openAccess s).sal = s.sal ∧
    (openAccess s).map = s.map ∧ (openAccess s).drn = s.drn ∧ (openAccess s).hrv = s.hrv ∧ (openAccess s).fld = s.fld ∧
    (openAccess s).bed = s.bed ∧ (openAccess s).pip = s.pip ∧ (openAccess s).heads = s.heads ∧ (openAccess s).sem = s.sem ∧
    (openAccess s).pans = s.pans ∧ (openAccess s).dmc = s.dmc ∧ (openAccess s).trn = s.trn ∧ (openAccess s).thm = s.thm ∧
    (openAccess s).cel = s.cel ∧ (openAccess s).upd = s.upd ∧ (openAccess s).key = s.key ∧ (openAccess s).brl = s.brl ∧
    (openAccess s).svc = s.svc ∧ (openAccess s).pins = s.pins ∧ (openAccess s).lay = s.lay ∧ (openAccess s).replies = s.replies ∧
    (openAccess s).dram = s.dram ∧ (openAccess s).poison = s.poison ∧ (openAccess s).serial = s.serial ∧
    (openAccess s).boot = s.boot ∧ (openAccess s).free = s.free ∧ (openAccess s).pending = s.pending := by
  refine ⟨?_, ?_, ?_, ?_, ?_, ?_, ?_, ?_, ?_, ?_, ?_, ?_, ?_, ?_, ?_, ?_, ?_, ?_, ?_, ?_, ?_, ?_, ?_, ?_, ?_, ?_, ?_, ?_, ?_, ?_⟩ <;> exact openAccess_only _ (fun _ _ _ => rfl) s

theorem reverify_only {β : Type} (π : State → β) (hπ : ∀ s xcel xupd xkey, π { s with cel := xcel, upd := xupd, key := xkey } = π s) (env : StartEnv) (s : State) :
    π (reverify env s) = π s := by
  unfold reverify; repeat' first | contradiction | (simp only [hπ, imageFailed_only π (fun s xkey => hπ s s.cel s.upd xkey), setMarker_only π (fun s xcel xupd => hπ s xcel xupd s.key), failUpdate_only π (fun s xcel xupd => hπ s xcel xupd s.key), apply_ite π, ite_self]; done) | split | refine (foldl_same π _ (fun s x => ?_) _ _).trans ?_ | refine (elim_same π _ _ _ (fun x => ?_)).trans ?_ | dsimp only

@[simp] theorem reverify_frame (env : StartEnv) (s : State) :
    (reverify env s).dev = s.dev ∧ (reverify env s).gov = s.gov ∧ (reverify env s).flt = s.flt ∧ (reverify env s).tly = s.tly ∧
    (reverify env s).sal = s.sal ∧ (reverify env s).map = s.map ∧ (reverify env s).drn = s.drn ∧ (reverify env s).hrv = s.hrv ∧
    (reverify env s).fld = s.fld ∧ (reverify env s).bed = s.bed ∧ (reverify env s).pip = s.pip ∧ (reverify env s).heads = s.heads ∧
    (reverify env s).sem = s.sem ∧ (reverify env s).pans = s.pans ∧ (reverify env s).dmc = s.dmc ∧ (reverify env s).trn = s.trn ∧
    (reverify env s).thm = s.thm ∧ (reverify env s).brl = s.brl ∧ (reverify env s).svc = s.svc ∧ (reverify env s).pins = s.pins ∧
    (reverify env s).lay = s.lay ∧ (reverify env s).jrn = s.jrn ∧ (reverify env s).replies = s.replies ∧
    (reverify env s).dram = s.dram ∧ (reverify env s).poison = s.poison ∧ (reverify env s).serial = s.serial ∧
    (reverify env s).boot = s.boot ∧ (reverify env s).free = s.free ∧ (reverify env s).pending = s.pending := by
  refine ⟨?_, ?_, ?_, ?_, ?_, ?_, ?_, ?_, ?_, ?_, ?_, ?_, ?_, ?_, ?_, ?_, ?_, ?_, ?_, ?_, ?_, ?_, ?_, ?_, ?_, ?_, ?_, ?_, ?_⟩ <;> exact reverify_only _ (fun _ _ _ _ => rfl) env s

theorem copyBundle_only {β : Type} (π : State → β) (hπ : ∀ s xcel xupd xkey, π { s with cel := xcel, upd := xupd, key := xkey } = π s) (s : State) :
    π (copyBundle s) = π s := by
  unfold copyBundle; repeat' first | contradiction | (simp only [hπ, imageFailed_only π (fun s xkey => hπ s s.cel s.upd xkey), setMarker_only π (fun s xcel xupd => hπ s xcel xupd s.key), eraseSlot_only π (fun s xcel xupd => hπ s xcel xupd s.key), failUpdate_only π (fun s xcel xupd => hπ s xcel xupd s.key), apply_ite π, ite_self]; done) | split | refine (foldl_same π _ (fun s x => ?_) _ _).trans ?_ | refine (elim_same π _ _ _ (fun x => ?_)).trans ?_ | dsimp only

@[simp] theorem copyBundle_frame (s : State) :
    (copyBundle s).dev = s.dev ∧ (copyBundle s).gov = s.gov ∧ (copyBundle s).flt = s.flt ∧ (copyBundle s).tly = s.tly ∧
    (copyBundle s).sal = s.sal ∧ (copyBundle s).map = s.map ∧ (copyBundle s).drn = s.drn ∧ (copyBundle s).hrv = s.hrv ∧
    (copyBundle s).fld = s.fld ∧ (copyBundle s).bed = s.bed ∧ (copyBundle s).pip = s.pip ∧ (copyBundle s).heads = s.heads ∧
    (copyBundle s).sem = s.sem ∧ (copyBundle s).pans = s.pans ∧ (copyBundle s).dmc = s.dmc ∧ (copyBundle s).trn = s.trn ∧
    (copyBundle s).thm = s.thm ∧ (copyBundle s).brl = s.brl ∧ (copyBundle s).svc = s.svc ∧ (copyBundle s).pins = s.pins ∧
    (copyBundle s).lay = s.lay ∧ (copyBundle s).jrn = s.jrn ∧ (copyBundle s).replies = s.replies ∧ (copyBundle s).dram = s.dram ∧
    (copyBundle s).poison = s.poison ∧ (copyBundle s).serial = s.serial ∧ (copyBundle s).boot = s.boot ∧
    (copyBundle s).free = s.free ∧ (copyBundle s).pending = s.pending := by
  refine ⟨?_, ?_, ?_, ?_, ?_, ?_, ?_, ?_, ?_, ?_, ?_, ?_, ?_, ?_, ?_, ?_, ?_, ?_, ?_, ?_, ?_, ?_, ?_, ?_, ?_, ?_, ?_, ?_, ?_⟩ <;> exact copyBundle_only _ (fun _ _ _ _ => rfl) s

theorem releaseHeads_only {β : Type} (π : State → β) (hπ : ∀ s xheads, π { s with heads := xheads } = π s) (s : State) :
    π (releaseHeads s) = π s := by
  simp only [releaseHeads, hπ, apply_ite π, ite_self]

@[simp] theorem releaseHeads_frame (s : State) :
    (releaseHeads s).dev = s.dev ∧ (releaseHeads s).gov = s.gov ∧ (releaseHeads s).flt = s.flt ∧ (releaseHeads s).tly = s.tly ∧
    (releaseHeads s).sal = s.sal ∧ (releaseHeads s).map = s.map ∧ (releaseHeads s).drn = s.drn ∧ (releaseHeads s).hrv = s.hrv ∧
    (releaseHeads s).fld = s.fld ∧ (releaseHeads s).bed = s.bed ∧ (releaseHeads s).pip = s.pip ∧ (releaseHeads s).sem = s.sem ∧
    (releaseHeads s).pans = s.pans ∧ (releaseHeads s).dmc = s.dmc ∧ (releaseHeads s).trn = s.trn ∧ (releaseHeads s).thm = s.thm ∧
    (releaseHeads s).cel = s.cel ∧ (releaseHeads s).upd = s.upd ∧ (releaseHeads s).key = s.key ∧ (releaseHeads s).brl = s.brl ∧
    (releaseHeads s).svc = s.svc ∧ (releaseHeads s).pins = s.pins ∧ (releaseHeads s).lay = s.lay ∧ (releaseHeads s).jrn = s.jrn ∧
    (releaseHeads s).replies = s.replies ∧ (releaseHeads s).dram = s.dram ∧ (releaseHeads s).poison = s.poison ∧
    (releaseHeads s).serial = s.serial ∧ (releaseHeads s).boot = s.boot ∧ (releaseHeads s).free = s.free ∧
    (releaseHeads s).pending = s.pending := by
  refine ⟨?_, ?_, ?_, ?_, ?_, ?_, ?_, ?_, ?_, ?_, ?_, ?_, ?_, ?_, ?_, ?_, ?_, ?_, ?_, ?_, ?_, ?_, ?_, ?_, ?_, ?_, ?_, ?_, ?_, ?_, ?_⟩ <;> exact releaseHeads_only _ (fun _ _ => rfl) s

theorem bootTick_only {β : Type} (π : State → β) (hπ : ∀ s xgov, π { s with gov := xgov } = π s) (s : State) :
    π (bootTick s) = π s := by
  simp only [bootTick, hπ, budgetTick_only π hπ, holdoffTick_only π hπ, apply_ite π, ite_self]

@[simp] theorem bootTick_frame (s : State) :
    (bootTick s).dev = s.dev ∧ (bootTick s).flt = s.flt ∧ (bootTick s).tly = s.tly ∧ (bootTick s).sal = s.sal ∧
    (bootTick s).map = s.map ∧ (bootTick s).drn = s.drn ∧ (bootTick s).hrv = s.hrv ∧ (bootTick s).fld = s.fld ∧
    (bootTick s).bed = s.bed ∧ (bootTick s).pip = s.pip ∧ (bootTick s).heads = s.heads ∧ (bootTick s).sem = s.sem ∧
    (bootTick s).pans = s.pans ∧ (bootTick s).dmc = s.dmc ∧ (bootTick s).trn = s.trn ∧ (bootTick s).thm = s.thm ∧
    (bootTick s).cel = s.cel ∧ (bootTick s).upd = s.upd ∧ (bootTick s).key = s.key ∧ (bootTick s).brl = s.brl ∧
    (bootTick s).svc = s.svc ∧ (bootTick s).pins = s.pins ∧ (bootTick s).lay = s.lay ∧ (bootTick s).jrn = s.jrn ∧
    (bootTick s).replies = s.replies ∧ (bootTick s).dram = s.dram ∧ (bootTick s).poison = s.poison ∧
    (bootTick s).serial = s.serial ∧ (bootTick s).boot = s.boot ∧ (bootTick s).free = s.free ∧ (bootTick s).pending = s.pending := by
  refine ⟨?_, ?_, ?_, ?_, ?_, ?_, ?_, ?_, ?_, ?_, ?_, ?_, ?_, ?_, ?_, ?_, ?_, ?_, ?_, ?_, ?_, ?_, ?_, ?_, ?_, ?_, ?_, ?_, ?_, ?_, ?_⟩ <;> exact bootTick_only _ (fun _ _ => rfl) s

theorem waitGroup_only {β : Type} (π : State → β) (hπ : ∀ s xbrl xboot, π { s with brl := xbrl, boot := xboot } = π s) (env : StartEnv) (s : State) :
    π (waitGroup env s) = π s := by
  simp only [waitGroup, hπ, apply_ite π, ite_self]

@[simp] theorem waitGroup_frame (env : StartEnv) (s : State) :
    (waitGroup env s).dev = s.dev ∧ (waitGroup env s).gov = s.gov ∧ (waitGroup env s).flt = s.flt ∧ (waitGroup env s).tly = s.tly ∧
    (waitGroup env s).sal = s.sal ∧ (waitGroup env s).map = s.map ∧ (waitGroup env s).drn = s.drn ∧ (waitGroup env s).hrv = s.hrv ∧
    (waitGroup env s).fld = s.fld ∧ (waitGroup env s).bed = s.bed ∧ (waitGroup env s).pip = s.pip ∧
    (waitGroup env s).heads = s.heads ∧ (waitGroup env s).sem = s.sem ∧ (waitGroup env s).pans = s.pans ∧
    (waitGroup env s).dmc = s.dmc ∧ (waitGroup env s).trn = s.trn ∧ (waitGroup env s).thm = s.thm ∧ (waitGroup env s).cel = s.cel ∧
    (waitGroup env s).upd = s.upd ∧ (waitGroup env s).key = s.key ∧ (waitGroup env s).svc = s.svc ∧
    (waitGroup env s).pins = s.pins ∧ (waitGroup env s).lay = s.lay ∧ (waitGroup env s).jrn = s.jrn ∧
    (waitGroup env s).replies = s.replies ∧ (waitGroup env s).dram = s.dram ∧ (waitGroup env s).poison = s.poison ∧
    (waitGroup env s).serial = s.serial ∧ (waitGroup env s).free = s.free ∧ (waitGroup env s).pending = s.pending := by
  refine ⟨?_, ?_, ?_, ?_, ?_, ?_, ?_, ?_, ?_, ?_, ?_, ?_, ?_, ?_, ?_, ?_, ?_, ?_, ?_, ?_, ?_, ?_, ?_, ?_, ?_, ?_, ?_, ?_, ?_, ?_⟩ <;> exact waitGroup_only _ (fun _ _ _ => rfl) env s

theorem raiseOwed_only {β : Type} (π : State → β) (hπ : ∀ s xheads xpans, π { s with heads := xheads, pans := xpans } = π s) (h : Head) (s : State) :
    π (raiseOwed h s) = π s := by
  unfold raiseOwed; repeat' first | contradiction | (simp only [hπ, eventTo_only π (fun s xheads => hπ s xheads s.pans), foldl_same π, apply_ite π, ite_self]; done) | split | refine (foldl_same π _ (fun s x => ?_) _ _).trans ?_ | refine (elim_same π _ _ _ (fun x => ?_)).trans ?_ | with_reducible refine (eventTo_only π (fun s xheads => hπ s xheads s.pans) _ _ _ _).trans ?_ | with_reducible refine (hπ _ _ _).trans ?_ | dsimp only

@[simp] theorem raiseOwed_frame (h : Head) (s : State) :
    (raiseOwed h s).dev = s.dev ∧ (raiseOwed h s).gov = s.gov ∧ (raiseOwed h s).flt = s.flt ∧ (raiseOwed h s).tly = s.tly ∧
    (raiseOwed h s).sal = s.sal ∧ (raiseOwed h s).map = s.map ∧ (raiseOwed h s).drn = s.drn ∧ (raiseOwed h s).hrv = s.hrv ∧
    (raiseOwed h s).fld = s.fld ∧ (raiseOwed h s).bed = s.bed ∧ (raiseOwed h s).pip = s.pip ∧ (raiseOwed h s).sem = s.sem ∧
    (raiseOwed h s).dmc = s.dmc ∧ (raiseOwed h s).trn = s.trn ∧ (raiseOwed h s).thm = s.thm ∧ (raiseOwed h s).cel = s.cel ∧
    (raiseOwed h s).upd = s.upd ∧ (raiseOwed h s).key = s.key ∧ (raiseOwed h s).brl = s.brl ∧ (raiseOwed h s).svc = s.svc ∧
    (raiseOwed h s).pins = s.pins ∧ (raiseOwed h s).lay = s.lay ∧ (raiseOwed h s).jrn = s.jrn ∧
    (raiseOwed h s).replies = s.replies ∧ (raiseOwed h s).dram = s.dram ∧ (raiseOwed h s).poison = s.poison ∧
    (raiseOwed h s).serial = s.serial ∧ (raiseOwed h s).boot = s.boot ∧ (raiseOwed h s).free = s.free ∧
    (raiseOwed h s).pending = s.pending := by
  refine ⟨?_, ?_, ?_, ?_, ?_, ?_, ?_, ?_, ?_, ?_, ?_, ?_, ?_, ?_, ?_, ?_, ?_, ?_, ?_, ?_, ?_, ?_, ?_, ?_, ?_, ?_, ?_, ?_, ?_, ?_⟩ <;> exact raiseOwed_only _ (fun _ _ _ => rfl) h s

theorem cellChange_only {β : Type} (π : State → β) (hπ : ∀ s xflt xtly xdrn xheads xsem, π { s with flt := xflt, tly := xtly, drn := xdrn, heads := xheads, sem := xsem } = π s) (n : Nat) (st : CellState) (s : State) :
    π (cellChange n st s) = π s := by
  unfold cellChange; repeat' first | contradiction | (simp only [hπ, endPause_only π (fun s xflt xtly xdrn xheads => hπ s xflt xtly xdrn xheads s.sem), cellUpd_only π (fun s xsem => hπ s s.flt s.tly s.drn s.heads xsem), apply_ite π, ite_self]; done) | split | refine (foldl_same π _ (fun s x => ?_) _ _).trans ?_ | refine (elim_same π _ _ _ (fun x => ?_)).trans ?_ | dsimp only

@[simp] theorem cellChange_frame (n : Nat) (st : CellState) (s : State) :
    (cellChange n st s).dev = s.dev ∧ (cellChange n st s).gov = s.gov ∧ (cellChange n st s).sal = s.sal ∧
    (cellChange n st s).map = s.map ∧ (cellChange n st s).hrv = s.hrv ∧ (cellChange n st s).fld = s.fld ∧
    (cellChange n st s).bed = s.bed ∧ (cellChange n st s).pip = s.pip ∧ (cellChange n st s).pans = s.pans ∧
    (cellChange n st s).dmc = s.dmc ∧ (cellChange n st s).trn = s.trn ∧ (cellChange n st s).thm = s.thm ∧
    (cellChange n st s).cel = s.cel ∧ (cellChange n st s).upd = s.upd ∧ (cellChange n st s).key = s.key ∧
    (cellChange n st s).brl = s.brl ∧ (cellChange n st s).svc = s.svc ∧ (cellChange n st s).pins = s.pins ∧
    (cellChange n st s).lay = s.lay ∧ (cellChange n st s).jrn = s.jrn ∧ (cellChange n st s).replies = s.replies ∧
    (cellChange n st s).dram = s.dram ∧ (cellChange n st s).poison = s.poison ∧ (cellChange n st s).serial = s.serial ∧
    (cellChange n st s).boot = s.boot ∧ (cellChange n st s).free = s.free ∧ (cellChange n st s).pending = s.pending := by
  refine ⟨?_, ?_, ?_, ?_, ?_, ?_, ?_, ?_, ?_, ?_, ?_, ?_, ?_, ?_, ?_, ?_, ?_, ?_, ?_, ?_, ?_, ?_, ?_, ?_, ?_, ?_, ?_⟩ <;> exact cellChange_only _ (fun _ _ _ _ _ _ => rfl) n st s

theorem semResult_only {β : Type} (π : State → β) (hπ : ∀ s xsem, π { s with sem := xsem } = π s) (h : Head) (code : Nat) (n : Nat) (s : State) :
    π (semResult h code n s) = π s := by
  simp only [semResult, hπ, apply_ite π, ite_self]

@[simp] theorem semResult_frame (h : Head) (code : Nat) (n : Nat) (s : State) :
    (semResult h code n s).dev = s.dev ∧ (semResult h code n s).gov = s.gov ∧ (semResult h code n s).flt = s.flt ∧
    (semResult h code n s).tly = s.tly ∧ (semResult h code n s).sal = s.sal ∧ (semResult h code n s).map = s.map ∧
    (semResult h code n s).drn = s.drn ∧ (semResult h code n s).hrv = s.hrv ∧ (semResult h code n s).fld = s.fld ∧
    (semResult h code n s).bed = s.bed ∧ (semResult h code n s).pip = s.pip ∧ (semResult h code n s).heads = s.heads ∧
    (semResult h code n s).pans = s.pans ∧ (semResult h code n s).dmc = s.dmc ∧ (semResult h code n s).trn = s.trn ∧
    (semResult h code n s).thm = s.thm ∧ (semResult h code n s).cel = s.cel ∧ (semResult h code n s).upd = s.upd ∧
    (semResult h code n s).key = s.key ∧ (semResult h code n s).brl = s.brl ∧ (semResult h code n s).svc = s.svc ∧
    (semResult h code n s).pins = s.pins ∧ (semResult h code n s).lay = s.lay ∧ (semResult h code n s).jrn = s.jrn ∧
    (semResult h code n s).replies = s.replies ∧ (semResult h code n s).dram = s.dram ∧ (semResult h code n s).poison = s.poison ∧
    (semResult h code n s).serial = s.serial ∧ (semResult h code n s).boot = s.boot ∧ (semResult h code n s).free = s.free ∧
    (semResult h code n s).pending = s.pending := by
  refine ⟨?_, ?_, ?_, ?_, ?_, ?_, ?_, ?_, ?_, ?_, ?_, ?_, ?_, ?_, ?_, ?_, ?_, ?_, ?_, ?_, ?_, ?_, ?_, ?_, ?_, ?_, ?_, ?_, ?_, ?_, ?_⟩ <;> exact semResult_only _ (fun _ _ => rfl) h code n s

theorem semTie_only {β : Type} (π : State → β) (hπ : ∀ s xflt xtly xdrn xheads xsem, π { s with flt := xflt, tly := xtly, drn := xdrn, heads := xheads, sem := xsem } = π s) (h : Head) (n : Nat) (s : State) :
    π (semTie h n s) = π s := by
  unfold semTie; repeat' first | contradiction | (simp only [hπ, cellUpd_only π (fun s xsem => hπ s s.flt s.tly s.drn s.heads xsem), cellChange_only π hπ, semResult_only π (fun s xsem => hπ s s.flt s.tly s.drn s.heads xsem), apply_ite π, ite_self]; done) | split | refine (foldl_same π _ (fun s x => ?_) _ _).trans ?_ | refine (elim_same π _ _ _ (fun x => ?_)).trans ?_ | dsimp only

@[simp] theorem semTie_frame (h : Head) (n : Nat) (s : State) :
    (semTie h n s).dev = s.dev ∧ (semTie h n s).gov = s.gov ∧ (semTie h n s).sal = s.sal ∧ (semTie h n s).map = s.map ∧
    (semTie h n s).hrv = s.hrv ∧ (semTie h n s).fld = s.fld ∧ (semTie h n s).bed = s.bed ∧ (semTie h n s).pip = s.pip ∧
    (semTie h n s).pans = s.pans ∧ (semTie h n s).dmc = s.dmc ∧ (semTie h n s).trn = s.trn ∧ (semTie h n s).thm = s.thm ∧
    (semTie h n s).cel = s.cel ∧ (semTie h n s).upd = s.upd ∧ (semTie h n s).key = s.key ∧ (semTie h n s).brl = s.brl ∧
    (semTie h n s).svc = s.svc ∧ (semTie h n s).pins = s.pins ∧ (semTie h n s).lay = s.lay ∧ (semTie h n s).jrn = s.jrn ∧
    (semTie h n s).replies = s.replies ∧ (semTie h n s).dram = s.dram ∧ (semTie h n s).poison = s.poison ∧
    (semTie h n s).serial = s.serial ∧ (semTie h n s).boot = s.boot ∧ (semTie h n s).free = s.free ∧
    (semTie h n s).pending = s.pending := by
  refine ⟨?_, ?_, ?_, ?_, ?_, ?_, ?_, ?_, ?_, ?_, ?_, ?_, ?_, ?_, ?_, ?_, ?_, ?_, ?_, ?_, ?_, ?_, ?_, ?_, ?_, ?_, ?_⟩ <;> exact semTie_only _ (fun _ _ _ _ _ _ => rfl) h n s

theorem panEvents_only {β : Type} (π : State → β) (hπ : ∀ s xheads, π { s with heads := xheads } = π s) (h : Head) (n : Nat) (gen : Nat) (release : Bool) (add : Bool) (s : State) :
    π (panEvents h n gen release add s) = π s := by
  unfold panEvents; repeat' first | contradiction | (simp only [hπ, eventTo_only π hπ, apply_ite π, ite_self]; done) | split | refine (foldl_same π _ (fun s x => ?_) _ _).trans ?_ | refine (elim_same π _ _ _ (fun x => ?_)).trans ?_ | dsimp only

@[simp] theorem panEvents_frame (h : Head) (n : Nat) (gen : Nat) (release : Bool) (add : Bool) (s : State) :
    (panEvents h n gen release add s).dev = s.dev ∧ (panEvents h n gen release add s).gov = s.gov ∧
    (panEvents h n gen release add s).flt = s.flt ∧ (panEvents h n gen release add s).tly = s.tly ∧
    (panEvents h n gen release add s).sal = s.sal ∧ (panEvents h n gen release add s).map = s.map ∧
    (panEvents h n gen release add s).drn = s.drn ∧ (panEvents h n gen release add s).hrv = s.hrv ∧
    (panEvents h n gen release add s).fld = s.fld ∧ (panEvents h n gen release add s).bed = s.bed ∧
    (panEvents h n gen release add s).pip = s.pip ∧ (panEvents h n gen release add s).sem = s.sem ∧
    (panEvents h n gen release add s).pans = s.pans ∧ (panEvents h n gen release add s).dmc = s.dmc ∧
    (panEvents h n gen release add s).trn = s.trn ∧ (panEvents h n gen release add s).thm = s.thm ∧
    (panEvents h n gen release add s).cel = s.cel ∧ (panEvents h n gen release add s).upd = s.upd ∧
    (panEvents h n gen release add s).key = s.key ∧ (panEvents h n gen release add s).brl = s.brl ∧
    (panEvents h n gen release add s).svc = s.svc ∧ (panEvents h n gen release add s).pins = s.pins ∧
    (panEvents h n gen release add s).lay = s.lay ∧ (panEvents h n gen release add s).jrn = s.jrn ∧
    (panEvents h n gen release add s).replies = s.replies ∧ (panEvents h n gen release add s).dram = s.dram ∧
    (panEvents h n gen release add s).poison = s.poison ∧ (panEvents h n gen release add s).serial = s.serial ∧
    (panEvents h n gen release add s).boot = s.boot ∧ (panEvents h n gen release add s).free = s.free ∧
    (panEvents h n gen release add s).pending = s.pending := by
  refine ⟨?_, ?_, ?_, ?_, ?_, ?_, ?_, ?_, ?_, ?_, ?_, ?_, ?_, ?_, ?_, ?_, ?_, ?_, ?_, ?_, ?_, ?_, ?_, ?_, ?_, ?_, ?_, ?_, ?_, ?_, ?_⟩ <;> exact panEvents_only _ (fun _ _ => rfl) h n gen release add s

theorem acceptPan_only {β : Type} (π : State → β) (hπ : ∀ s xpans, π { s with pans := xpans } = π s) (h : Head) (n : Nat) (s : State) :
    π (acceptPan h n s) = π s := by
  simp only [acceptPan, hπ, apply_ite π, ite_self]

@[simp] theorem acceptPan_frame (h : Head) (n : Nat) (s : State) :
    (acceptPan h n s).dev = s.dev ∧ (acceptPan h n s).gov = s.gov ∧ (acceptPan h n s).flt = s.flt ∧ (acceptPan h n s).tly = s.tly ∧
    (acceptPan h n s).sal = s.sal ∧ (acceptPan h n s).map = s.map ∧ (acceptPan h n s).drn = s.drn ∧ (acceptPan h n s).hrv = s.hrv ∧
    (acceptPan h n s).fld = s.fld ∧ (acceptPan h n s).bed = s.bed ∧ (acceptPan h n s).pip = s.pip ∧
    (acceptPan h n s).heads = s.heads ∧ (acceptPan h n s).sem = s.sem ∧ (acceptPan h n s).dmc = s.dmc ∧
    (acceptPan h n s).trn = s.trn ∧ (acceptPan h n s).thm = s.thm ∧ (acceptPan h n s).cel = s.cel ∧ (acceptPan h n s).upd = s.upd ∧
    (acceptPan h n s).key = s.key ∧ (acceptPan h n s).brl = s.brl ∧ (acceptPan h n s).svc = s.svc ∧
    (acceptPan h n s).pins = s.pins ∧ (acceptPan h n s).lay = s.lay ∧ (acceptPan h n s).jrn = s.jrn ∧
    (acceptPan h n s).replies = s.replies ∧ (acceptPan h n s).dram = s.dram ∧ (acceptPan h n s).poison = s.poison ∧
    (acceptPan h n s).serial = s.serial ∧ (acceptPan h n s).boot = s.boot ∧ (acceptPan h n s).free = s.free ∧
    (acceptPan h n s).pending = s.pending := by
  refine ⟨?_, ?_, ?_, ?_, ?_, ?_, ?_, ?_, ?_, ?_, ?_, ?_, ?_, ?_, ?_, ?_, ?_, ?_, ?_, ?_, ?_, ?_, ?_, ?_, ?_, ?_, ?_, ?_, ?_, ?_, ?_⟩ <;> exact acceptPan_only _ (fun _ _ => rfl) h n s

theorem releasePan_only {β : Type} (π : State → β) (hπ : ∀ s xheads xpans, π { s with heads := xheads, pans := xpans } = π s) (h : Head) (n : Nat) (s : State) :
    π (releasePan h n s) = π s := by
  unfold releasePan; repeat' first | contradiction | (simp only [hπ, panEvents_only π (fun s xheads => hπ s xheads s.pans), apply_ite π, ite_self]; done) | split | refine (foldl_same π _ (fun s x => ?_) _ _).trans ?_ | refine (elim_same π _ _ _ (fun x => ?_)).trans ?_ | dsimp only

@[simp] theorem releasePan_frame (h : Head) (n : Nat) (s : State) :
    (releasePan h n s).dev = s.dev ∧ (releasePan h n s).gov = s.gov ∧ (releasePan h n s).flt = s.flt ∧
    (releasePan h n s).tly = s.tly ∧ (releasePan h n s).sal = s.sal ∧ (releasePan h n s).map = s.map ∧
    (releasePan h n s).drn = s.drn ∧ (releasePan h n s).hrv = s.hrv ∧ (releasePan h n s).fld = s.fld ∧
    (releasePan h n s).bed = s.bed ∧ (releasePan h n s).pip = s.pip ∧ (releasePan h n s).sem = s.sem ∧
    (releasePan h n s).dmc = s.dmc ∧ (releasePan h n s).trn = s.trn ∧ (releasePan h n s).thm = s.thm ∧
    (releasePan h n s).cel = s.cel ∧ (releasePan h n s).upd = s.upd ∧ (releasePan h n s).key = s.key ∧
    (releasePan h n s).brl = s.brl ∧ (releasePan h n s).svc = s.svc ∧ (releasePan h n s).pins = s.pins ∧
    (releasePan h n s).lay = s.lay ∧ (releasePan h n s).jrn = s.jrn ∧ (releasePan h n s).replies = s.replies ∧
    (releasePan h n s).dram = s.dram ∧ (releasePan h n s).poison = s.poison ∧ (releasePan h n s).serial = s.serial ∧
    (releasePan h n s).boot = s.boot ∧ (releasePan h n s).free = s.free ∧ (releasePan h n s).pending = s.pending := by
  refine ⟨?_, ?_, ?_, ?_, ?_, ?_, ?_, ?_, ?_, ?_, ?_, ?_, ?_, ?_, ?_, ?_, ?_, ?_, ?_, ?_, ?_, ?_, ?_, ?_, ?_, ?_, ?_, ?_, ?_, ?_⟩ <;> exact releasePan_only _ (fun _ _ _ => rfl) h n s

theorem eraseCopies_only {β : Type} (π : State → β) (hπ : ∀ s xcel xupd, π { s with cel := xcel, upd := xupd } = π s) (slot : Bool) (s : State) :
    π (eraseCopies slot s) = π s := by
  unfold eraseCopies; repeat' first | contradiction | (simp only [hπ, eraseArea_only π hπ, foldl_same π, apply_ite π, ite_self]; done) | split | refine (foldl_same π _ (fun s x => ?_) _ _).trans ?_ | refine (elim_same π _ _ _ (fun x => ?_)).trans ?_ | dsimp only

@[simp] theorem eraseCopies_frame (slot : Bool) (s : State) :
    (eraseCopies slot s).dev = s.dev ∧ (eraseCopies slot s).gov = s.gov ∧ (eraseCopies slot s).flt = s.flt ∧
    (eraseCopies slot s).tly = s.tly ∧ (eraseCopies slot s).sal = s.sal ∧ (eraseCopies slot s).map = s.map ∧
    (eraseCopies slot s).drn = s.drn ∧ (eraseCopies slot s).hrv = s.hrv ∧ (eraseCopies slot s).fld = s.fld ∧
    (eraseCopies slot s).bed = s.bed ∧ (eraseCopies slot s).pip = s.pip ∧ (eraseCopies slot s).heads = s.heads ∧
    (eraseCopies slot s).sem = s.sem ∧ (eraseCopies slot s).pans = s.pans ∧ (eraseCopies slot s).dmc = s.dmc ∧
    (eraseCopies slot s).trn = s.trn ∧ (eraseCopies slot s).thm = s.thm ∧ (eraseCopies slot s).key = s.key ∧
    (eraseCopies slot s).brl = s.brl ∧ (eraseCopies slot s).svc = s.svc ∧ (eraseCopies slot s).pins = s.pins ∧
    (eraseCopies slot s).lay = s.lay ∧ (eraseCopies slot s).jrn = s.jrn ∧ (eraseCopies slot s).replies = s.replies ∧
    (eraseCopies slot s).dram = s.dram ∧ (eraseCopies slot s).poison = s.poison ∧ (eraseCopies slot s).serial = s.serial ∧
    (eraseCopies slot s).boot = s.boot ∧ (eraseCopies slot s).free = s.free ∧ (eraseCopies slot s).pending = s.pending := by
  refine ⟨?_, ?_, ?_, ?_, ?_, ?_, ?_, ?_, ?_, ?_, ?_, ?_, ?_, ?_, ?_, ?_, ?_, ?_, ?_, ?_, ?_, ?_, ?_, ?_, ?_, ?_, ?_, ?_, ?_, ?_⟩ <;> exact eraseCopies_only _ (fun _ _ _ => rfl) slot s

theorem checkTarget_only {β : Type} (π : State → β) (hπ : ∀ s xcel xupd xkey, π { s with cel := xcel, upd := xupd, key := xkey } = π s) (s : State) :
    π (checkTarget s) = π s := by
  unfold checkTarget; repeat' first | contradiction | (simp only [hπ, imageFailed_only π (fun s xkey => hπ s s.cel s.upd xkey), setMarker_only π (fun s xcel xupd => hπ s xcel xupd s.key), failUpdate_only π (fun s xcel xupd => hπ s xcel xupd s.key), apply_ite π, ite_self]; done) | split | refine (foldl_same π _ (fun s x => ?_) _ _).trans ?_ | refine (elim_same π _ _ _ (fun x => ?_)).trans ?_ | dsimp only

@[simp] theorem checkTarget_frame (s : State) :
    (checkTarget s).dev = s.dev ∧ (checkTarget s).gov = s.gov ∧ (checkTarget s).flt = s.flt ∧ (checkTarget s).tly = s.tly ∧
    (checkTarget s).sal = s.sal ∧ (checkTarget s).map = s.map ∧ (checkTarget s).drn = s.drn ∧ (checkTarget s).hrv = s.hrv ∧
    (checkTarget s).fld = s.fld ∧ (checkTarget s).bed = s.bed ∧ (checkTarget s).pip = s.pip ∧ (checkTarget s).heads = s.heads ∧
    (checkTarget s).sem = s.sem ∧ (checkTarget s).pans = s.pans ∧ (checkTarget s).dmc = s.dmc ∧ (checkTarget s).trn = s.trn ∧
    (checkTarget s).thm = s.thm ∧ (checkTarget s).brl = s.brl ∧ (checkTarget s).svc = s.svc ∧ (checkTarget s).pins = s.pins ∧
    (checkTarget s).lay = s.lay ∧ (checkTarget s).jrn = s.jrn ∧ (checkTarget s).replies = s.replies ∧
    (checkTarget s).dram = s.dram ∧ (checkTarget s).poison = s.poison ∧ (checkTarget s).serial = s.serial ∧
    (checkTarget s).boot = s.boot ∧ (checkTarget s).free = s.free ∧ (checkTarget s).pending = s.pending := by
  refine ⟨?_, ?_, ?_, ?_, ?_, ?_, ?_, ?_, ?_, ?_, ?_, ?_, ?_, ?_, ?_, ?_, ?_, ?_, ?_, ?_, ?_, ?_, ?_, ?_, ?_, ?_, ?_, ?_, ?_⟩ <;> exact checkTarget_only _ (fun _ _ _ _ => rfl) s

theorem markReceived_only {β : Type} (π : State → β) (hπ : ∀ s xcel xupd, π { s with cel := xcel, upd := xupd } = π s) (s : State) :
    π (markReceived s) = π s := by
  simp only [markReceived, hπ, setMarker_only π hπ, apply_ite π, ite_self]

@[simp] theorem markReceived_frame (s : State) :
    (markReceived s).dev = s.dev ∧ (markReceived s).gov = s.gov ∧ (markReceived s).flt = s.flt ∧ (markReceived s).tly = s.tly ∧
    (markReceived s).sal = s.sal ∧ (markReceived s).map = s.map ∧ (markReceived s).drn = s.drn ∧ (markReceived s).hrv = s.hrv ∧
    (markReceived s).fld = s.fld ∧ (markReceived s).bed = s.bed ∧ (markReceived s).pip = s.pip ∧ (markReceived s).heads = s.heads ∧
    (markReceived s).sem = s.sem ∧ (markReceived s).pans = s.pans ∧ (markReceived s).dmc = s.dmc ∧ (markReceived s).trn = s.trn ∧
    (markReceived s).thm = s.thm ∧ (markReceived s).key = s.key ∧ (markReceived s).brl = s.brl ∧ (markReceived s).svc = s.svc ∧
    (markReceived s).pins = s.pins ∧ (markReceived s).lay = s.lay ∧ (markReceived s).jrn = s.jrn ∧
    (markReceived s).replies = s.replies ∧ (markReceived s).dram = s.dram ∧ (markReceived s).poison = s.poison ∧
    (markReceived s).serial = s.serial ∧ (markReceived s).boot = s.boot ∧ (markReceived s).free = s.free ∧
    (markReceived s).pending = s.pending := by
  refine ⟨?_, ?_, ?_, ?_, ?_, ?_, ?_, ?_, ?_, ?_, ?_, ?_, ?_, ?_, ?_, ?_, ?_, ?_, ?_, ?_, ?_, ?_, ?_, ?_, ?_, ?_, ?_, ?_, ?_, ?_⟩ <;> exact markReceived_only _ (fun _ _ _ => rfl) s

theorem eraseSpare_only {β : Type} (π : State → β) (hπ : ∀ s xcel xupd, π { s with cel := xcel, upd := xupd } = π s) (s : State) :
    π (eraseSpare s) = π s := by
  unfold eraseSpare; repeat' first | contradiction | (simp only [hπ, eraseArea_only π hπ, apply_ite π, ite_self]; done) | split | refine (foldl_same π _ (fun s x => ?_) _ _).trans ?_ | refine (elim_same π _ _ _ (fun x => ?_)).trans ?_ | dsimp only

@[simp] theorem eraseSpare_frame (s : State) :
    (eraseSpare s).dev = s.dev ∧ (eraseSpare s).gov = s.gov ∧ (eraseSpare s).flt = s.flt ∧ (eraseSpare s).tly = s.tly ∧
    (eraseSpare s).sal = s.sal ∧ (eraseSpare s).map = s.map ∧ (eraseSpare s).drn = s.drn ∧ (eraseSpare s).hrv = s.hrv ∧
    (eraseSpare s).fld = s.fld ∧ (eraseSpare s).bed = s.bed ∧ (eraseSpare s).pip = s.pip ∧ (eraseSpare s).heads = s.heads ∧
    (eraseSpare s).sem = s.sem ∧ (eraseSpare s).pans = s.pans ∧ (eraseSpare s).dmc = s.dmc ∧ (eraseSpare s).trn = s.trn ∧
    (eraseSpare s).thm = s.thm ∧ (eraseSpare s).key = s.key ∧ (eraseSpare s).brl = s.brl ∧ (eraseSpare s).svc = s.svc ∧
    (eraseSpare s).pins = s.pins ∧ (eraseSpare s).lay = s.lay ∧ (eraseSpare s).jrn = s.jrn ∧ (eraseSpare s).replies = s.replies ∧
    (eraseSpare s).dram = s.dram ∧ (eraseSpare s).poison = s.poison ∧ (eraseSpare s).serial = s.serial ∧
    (eraseSpare s).boot = s.boot ∧ (eraseSpare s).free = s.free ∧ (eraseSpare s).pending = s.pending := by
  refine ⟨?_, ?_, ?_, ?_, ?_, ?_, ?_, ?_, ?_, ?_, ?_, ?_, ?_, ?_, ?_, ?_, ?_, ?_, ?_, ?_, ?_, ?_, ?_, ?_, ?_, ?_, ?_, ?_, ?_, ?_⟩ <;> exact eraseSpare_only _ (fun _ _ _ => rfl) s

theorem scheduleOp_only {β : Type} (π : State → β) (hπ : ∀ s xcel xupd xkey xbrl, π { s with cel := xcel, upd := xupd, key := xkey, brl := xbrl } = π s) (version : Nat) (s : State) :
    π (scheduleOp version s).1 = π s := by
  unfold scheduleOp; repeat' first | contradiction | (simp only [hπ, imageFailed_only π (fun s xkey => hπ s s.cel s.upd xkey s.brl), setMarker_only π (fun s xcel xupd => hπ s xcel xupd s.key s.brl), failUpdate_only π (fun s xcel xupd => hπ s xcel xupd s.key s.brl), eraseSpare_only π (fun s xcel xupd => hπ s xcel xupd s.key s.brl), apply_ite π, ite_self]; done) | split | refine (foldl_same π _ (fun s x => ?_) _ _).trans ?_ | refine (elim_same π _ _ _ (fun x => ?_)).trans ?_ | dsimp only

@[simp] theorem scheduleOp_frame (version : Nat) (s : State) :
    (scheduleOp version s).1.dev = s.dev ∧ (scheduleOp version s).1.gov = s.gov ∧ (scheduleOp version s).1.flt = s.flt ∧
    (scheduleOp version s).1.tly = s.tly ∧ (scheduleOp version s).1.sal = s.sal ∧ (scheduleOp version s).1.map = s.map ∧
    (scheduleOp version s).1.drn = s.drn ∧ (scheduleOp version s).1.hrv = s.hrv ∧ (scheduleOp version s).1.fld = s.fld ∧
    (scheduleOp version s).1.bed = s.bed ∧ (scheduleOp version s).1.pip = s.pip ∧ (scheduleOp version s).1.heads = s.heads ∧
    (scheduleOp version s).1.sem = s.sem ∧ (scheduleOp version s).1.pans = s.pans ∧ (scheduleOp version s).1.dmc = s.dmc ∧
    (scheduleOp version s).1.trn = s.trn ∧ (scheduleOp version s).1.thm = s.thm ∧ (scheduleOp version s).1.svc = s.svc ∧
    (scheduleOp version s).1.pins = s.pins ∧ (scheduleOp version s).1.lay = s.lay ∧ (scheduleOp version s).1.jrn = s.jrn ∧
    (scheduleOp version s).1.replies = s.replies ∧ (scheduleOp version s).1.dram = s.dram ∧
    (scheduleOp version s).1.poison = s.poison ∧ (scheduleOp version s).1.serial = s.serial ∧
    (scheduleOp version s).1.boot = s.boot ∧ (scheduleOp version s).1.free = s.free ∧ (scheduleOp version s).1.pending = s.pending := by
  refine ⟨?_, ?_, ?_, ?_, ?_, ?_, ?_, ?_, ?_, ?_, ?_, ?_, ?_, ?_, ?_, ?_, ?_, ?_, ?_, ?_, ?_, ?_, ?_, ?_, ?_, ?_, ?_, ?_⟩ <;> exact scheduleOp_only _ (fun _ _ _ _ _ => rfl) version s

theorem cancelOp_only {β : Type} (π : State → β) (hπ : ∀ s xcel xupd xbrl, π { s with cel := xcel, upd := xupd, brl := xbrl } = π s) (s : State) :
    π (cancelOp s).1 = π s := by
  unfold cancelOp; repeat' first | contradiction | (simp only [hπ, setMarker_only π (fun s xcel xupd => hπ s xcel xupd s.brl), failUpdate_only π (fun s xcel xupd => hπ s xcel xupd s.brl), apply_ite π, ite_self]; done) | split | refine (foldl_same π _ (fun s x => ?_) _ _).trans ?_ | refine (elim_same π _ _ _ (fun x => ?_)).trans ?_ | dsimp only

@[simp] theorem cancelOp_frame (s : State) :
    (cancelOp s).1.dev = s.dev ∧ (cancelOp s).1.gov = s.gov ∧ (cancelOp s).1.flt = s.flt ∧ (cancelOp s).1.tly = s.tly ∧
    (cancelOp s).1.sal = s.sal ∧ (cancelOp s).1.map = s.map ∧ (cancelOp s).1.drn = s.drn ∧ (cancelOp s).1.hrv = s.hrv ∧
    (cancelOp s).1.fld = s.fld ∧ (cancelOp s).1.bed = s.bed ∧ (cancelOp s).1.pip = s.pip ∧ (cancelOp s).1.heads = s.heads ∧
    (cancelOp s).1.sem = s.sem ∧ (cancelOp s).1.pans = s.pans ∧ (cancelOp s).1.dmc = s.dmc ∧ (cancelOp s).1.trn = s.trn ∧
    (cancelOp s).1.thm = s.thm ∧ (cancelOp s).1.key = s.key ∧ (cancelOp s).1.svc = s.svc ∧ (cancelOp s).1.pins = s.pins ∧
    (cancelOp s).1.lay = s.lay ∧ (cancelOp s).1.jrn = s.jrn ∧ (cancelOp s).1.replies = s.replies ∧ (cancelOp s).1.dram = s.dram ∧
    (cancelOp s).1.poison = s.poison ∧ (cancelOp s).1.serial = s.serial ∧ (cancelOp s).1.boot = s.boot ∧
    (cancelOp s).1.free = s.free ∧ (cancelOp s).1.pending = s.pending := by
  refine ⟨?_, ?_, ?_, ?_, ?_, ?_, ?_, ?_, ?_, ?_, ?_, ?_, ?_, ?_, ?_, ?_, ?_, ?_, ?_, ?_, ?_, ?_, ?_, ?_, ?_, ?_, ?_, ?_, ?_⟩ <;> exact cancelOp_only _ (fun _ _ _ _ => rfl) s

theorem endStaging_only {β : Type} (π : State → β) (hπ : ∀ s xlay, π { s with lay := xlay } = π s) (s : State) :
    π (endStaging s) = π s := by
  simp only [endStaging, hπ, apply_ite π, ite_self]

@[simp] theorem endStaging_frame (s : State) :
    (endStaging s).dev = s.dev ∧ (endStaging s).gov = s.gov ∧ (endStaging s).flt = s.flt ∧ (endStaging s).tly = s.tly ∧
    (endStaging s).sal = s.sal ∧ (endStaging s).map = s.map ∧ (endStaging s).drn = s.drn ∧ (endStaging s).hrv = s.hrv ∧
    (endStaging s).fld = s.fld ∧ (endStaging s).bed = s.bed ∧ (endStaging s).pip = s.pip ∧ (endStaging s).heads = s.heads ∧
    (endStaging s).sem = s.sem ∧ (endStaging s).pans = s.pans ∧ (endStaging s).dmc = s.dmc ∧ (endStaging s).trn = s.trn ∧
    (endStaging s).thm = s.thm ∧ (endStaging s).cel = s.cel ∧ (endStaging s).upd = s.upd ∧ (endStaging s).key = s.key ∧
    (endStaging s).brl = s.brl ∧ (endStaging s).svc = s.svc ∧ (endStaging s).pins = s.pins ∧ (endStaging s).jrn = s.jrn ∧
    (endStaging s).replies = s.replies ∧ (endStaging s).dram = s.dram ∧ (endStaging s).poison = s.poison ∧
    (endStaging s).serial = s.serial ∧ (endStaging s).boot = s.boot ∧ (endStaging s).free = s.free ∧
    (endStaging s).pending = s.pending := by
  refine ⟨?_, ?_, ?_, ?_, ?_, ?_, ?_, ?_, ?_, ?_, ?_, ?_, ?_, ?_, ?_, ?_, ?_, ?_, ?_, ?_, ?_, ?_, ?_, ?_, ?_, ?_, ?_, ?_, ?_, ?_, ?_⟩ <;> exact endStaging_only _ (fun _ _ => rfl) s

theorem commitLayout_only {β : Type} (π : State → β) (hπ : ∀ s xkey xlay xreplies, π { s with key := xkey, lay := xlay, replies := xreplies } = π s) (h : Head) (c : LayoutChunk) (commitOk : Bool) (s : State) :
    π (commitLayout h c commitOk s) = π s := by
  unfold commitLayout; repeat' first | contradiction | (simp only [hπ, reply_only π (fun s xreplies => hπ s s.key s.lay xreplies), verifyFail_only π (fun s xkey => hπ s xkey s.lay s.replies), endStaging_only π (fun s xlay => hπ s s.key xlay s.replies), apply_ite π, ite_self]; done) | split | refine (foldl_same π _ (fun s x => ?_) _ _).trans ?_ | refine (elim_same π _ _ _ (fun x => ?_)).trans ?_ | dsimp only

@[simp] theorem commitLayout_frame (h : Head) (c : LayoutChunk) (commitOk : Bool) (s : State) :
    (commitLayout h c commitOk s).dev = s.dev ∧ (commitLayout h c commitOk s).gov = s.gov ∧
    (commitLayout h c commitOk s).flt = s.flt ∧ (commitLayout h c commitOk s).tly = s.tly ∧
    (commitLayout h c commitOk s).sal = s.sal ∧ (commitLayout h c commitOk s).map = s.map ∧
    (commitLayout h c commitOk s).drn = s.drn ∧ (commitLayout h c commitOk s).hrv = s.hrv ∧
    (commitLayout h c commitOk s).fld = s.fld ∧ (commitLayout h c commitOk s).bed = s.bed ∧
    (commitLayout h c commitOk s).pip = s.pip ∧ (commitLayout h c commitOk s).heads = s.heads ∧
    (commitLayout h c commitOk s).sem = s.sem ∧ (commitLayout h c commitOk s).pans = s.pans ∧
    (commitLayout h c commitOk s).dmc = s.dmc ∧ (commitLayout h c commitOk s).trn = s.trn ∧
    (commitLayout h c commitOk s).thm = s.thm ∧ (commitLayout h c commitOk s).cel = s.cel ∧
    (commitLayout h c commitOk s).upd = s.upd ∧ (commitLayout h c commitOk s).brl = s.brl ∧
    (commitLayout h c commitOk s).svc = s.svc ∧ (commitLayout h c commitOk s).pins = s.pins ∧
    (commitLayout h c commitOk s).jrn = s.jrn ∧ (commitLayout h c commitOk s).dram = s.dram ∧
    (commitLayout h c commitOk s).poison = s.poison ∧ (commitLayout h c commitOk s).serial = s.serial ∧
    (commitLayout h c commitOk s).boot = s.boot ∧ (commitLayout h c commitOk s).free = s.free ∧
    (commitLayout h c commitOk s).pending = s.pending := by
  refine ⟨?_, ?_, ?_, ?_, ?_, ?_, ?_, ?_, ?_, ?_, ?_, ?_, ?_, ?_, ?_, ?_, ?_, ?_, ?_, ?_, ?_, ?_, ?_, ?_, ?_, ?_, ?_, ?_, ?_⟩ <;> exact commitLayout_only _ (fun _ _ _ _ => rfl) h c commitOk s

theorem secretFail_only {β : Type} (π : State → β) (hπ : ∀ s xfld, π { s with fld := xfld } = π s) (s : State) :
    π (secretFail s) = π s := by
  simp only [secretFail, hπ, apply_ite π, ite_self]

@[simp] theorem secretFail_frame (s : State) :
    (secretFail s).dev = s.dev ∧ (secretFail s).gov = s.gov ∧ (secretFail s).flt = s.flt ∧ (secretFail s).tly = s.tly ∧
    (secretFail s).sal = s.sal ∧ (secretFail s).map = s.map ∧ (secretFail s).drn = s.drn ∧ (secretFail s).hrv = s.hrv ∧
    (secretFail s).bed = s.bed ∧ (secretFail s).pip = s.pip ∧ (secretFail s).heads = s.heads ∧ (secretFail s).sem = s.sem ∧
    (secretFail s).pans = s.pans ∧ (secretFail s).dmc = s.dmc ∧ (secretFail s).trn = s.trn ∧ (secretFail s).thm = s.thm ∧
    (secretFail s).cel = s.cel ∧ (secretFail s).upd = s.upd ∧ (secretFail s).key = s.key ∧ (secretFail s).brl = s.brl ∧
    (secretFail s).svc = s.svc ∧ (secretFail s).pins = s.pins ∧ (secretFail s).lay = s.lay ∧ (secretFail s).jrn = s.jrn ∧
    (secretFail s).replies = s.replies ∧ (secretFail s).dram = s.dram ∧ (secretFail s).poison = s.poison ∧
    (secretFail s).serial = s.serial ∧ (secretFail s).boot = s.boot ∧ (secretFail s).free = s.free ∧
    (secretFail s).pending = s.pending := by
  refine ⟨?_, ?_, ?_, ?_, ?_, ?_, ?_, ?_, ?_, ?_, ?_, ?_, ?_, ?_, ?_, ?_, ?_, ?_, ?_, ?_, ?_, ?_, ?_, ?_, ?_, ?_, ?_, ?_, ?_, ?_, ?_⟩ <;> exact secretFail_only _ (fun _ _ => rfl) s

theorem rewrap_only {β : Type} (π : State → β) (hπ : ∀ s xpip xcel xkey, π { s with pip := xpip, cel := xcel, key := xkey } = π s) (secret : Option (BitVec 256)) (s : State) :
    π (rewrap secret s) = π s := by
  unfold rewrap; repeat' first | contradiction | (simp only [hπ, appendKeys_only π (fun s xcel xkey => hπ s s.pip xcel xkey), apply_ite π, ite_self]; done) | split | refine (foldl_same π _ (fun s x => ?_) _ _).trans ?_ | refine (elim_same π _ _ _ (fun x => ?_)).trans ?_ | dsimp only

@[simp] theorem rewrap_frame (secret : Option (BitVec 256)) (s : State) :
    (rewrap secret s).dev = s.dev ∧ (rewrap secret s).gov = s.gov ∧ (rewrap secret s).flt = s.flt ∧ (rewrap secret s).tly = s.tly ∧
    (rewrap secret s).sal = s.sal ∧ (rewrap secret s).map = s.map ∧ (rewrap secret s).drn = s.drn ∧ (rewrap secret s).hrv = s.hrv ∧
    (rewrap secret s).fld = s.fld ∧ (rewrap secret s).bed = s.bed ∧ (rewrap secret s).heads = s.heads ∧
    (rewrap secret s).sem = s.sem ∧ (rewrap secret s).pans = s.pans ∧ (rewrap secret s).dmc = s.dmc ∧
    (rewrap secret s).trn = s.trn ∧ (rewrap secret s).thm = s.thm ∧ (rewrap secret s).upd = s.upd ∧ (rewrap secret s).brl = s.brl ∧
    (rewrap secret s).svc = s.svc ∧ (rewrap secret s).pins = s.pins ∧ (rewrap secret s).lay = s.lay ∧
    (rewrap secret s).jrn = s.jrn ∧ (rewrap secret s).replies = s.replies ∧ (rewrap secret s).dram = s.dram ∧
    (rewrap secret s).poison = s.poison ∧ (rewrap secret s).serial = s.serial ∧ (rewrap secret s).boot = s.boot ∧
    (rewrap secret s).free = s.free ∧ (rewrap secret s).pending = s.pending := by
  refine ⟨?_, ?_, ?_, ?_, ?_, ?_, ?_, ?_, ?_, ?_, ?_, ?_, ?_, ?_, ?_, ?_, ?_, ?_, ?_, ?_, ?_, ?_, ?_, ?_, ?_, ?_, ?_, ?_, ?_⟩ <;> exact rewrap_only _ (fun _ _ _ _ => rfl) secret s

theorem sanProgress_only {β : Type} (π : State → β) (hπ : ∀ s xheads, π { s with heads := xheads } = π s) (step : Nat) (s : State) :
    π (sanProgress step s) = π s := by
  unfold sanProgress; repeat' first | contradiction | (simp only [hπ, apply_ite π, ite_self]; done) | split | refine (foldl_same π _ (fun s x => ?_) _ _).trans ?_ | refine (elim_same π _ _ _ (fun x => ?_)).trans ?_ | dsimp only

@[simp] theorem sanProgress_frame (step : Nat) (s : State) :
    (sanProgress step s).dev = s.dev ∧ (sanProgress step s).gov = s.gov ∧ (sanProgress step s).flt = s.flt ∧
    (sanProgress step s).tly = s.tly ∧ (sanProgress step s).sal = s.sal ∧ (sanProgress step s).map = s.map ∧
    (sanProgress step s).drn = s.drn ∧ (sanProgress step s).hrv = s.hrv ∧ (sanProgress step s).fld = s.fld ∧
    (sanProgress step s).bed = s.bed ∧ (sanProgress step s).pip = s.pip ∧ (sanProgress step s).sem = s.sem ∧
    (sanProgress step s).pans = s.pans ∧ (sanProgress step s).dmc = s.dmc ∧ (sanProgress step s).trn = s.trn ∧
    (sanProgress step s).thm = s.thm ∧ (sanProgress step s).cel = s.cel ∧ (sanProgress step s).upd = s.upd ∧
    (sanProgress step s).key = s.key ∧ (sanProgress step s).brl = s.brl ∧ (sanProgress step s).svc = s.svc ∧
    (sanProgress step s).pins = s.pins ∧ (sanProgress step s).lay = s.lay ∧ (sanProgress step s).jrn = s.jrn ∧
    (sanProgress step s).replies = s.replies ∧ (sanProgress step s).dram = s.dram ∧ (sanProgress step s).poison = s.poison ∧
    (sanProgress step s).serial = s.serial ∧ (sanProgress step s).boot = s.boot ∧ (sanProgress step s).free = s.free ∧
    (sanProgress step s).pending = s.pending := by
  refine ⟨?_, ?_, ?_, ?_, ?_, ?_, ?_, ?_, ?_, ?_, ?_, ?_, ?_, ?_, ?_, ?_, ?_, ?_, ?_, ?_, ?_, ?_, ?_, ?_, ?_, ?_, ?_, ?_, ?_, ?_, ?_⟩ <;> exact sanProgress_only _ (fun _ _ => rfl) step s

theorem answerHeld_only {β : Type} (π : State → β) (hπ : ∀ s xreplies, π { s with replies := xreplies } = π s) (s : State) (q : HostReq) :
    π (answerHeld s q) = π s := by
  unfold answerHeld; repeat' first | contradiction | (simp only [hπ, replyCxl_only π hπ, memAnswer_only π hπ, apply_ite π, ite_self]; done) | split | refine (foldl_same π _ (fun s x => ?_) _ _).trans ?_ | refine (elim_same π _ _ _ (fun x => ?_)).trans ?_ | dsimp only

@[simp] theorem answerHeld_frame (s : State) (q : HostReq) :
    (answerHeld s q).dev = s.dev ∧ (answerHeld s q).gov = s.gov ∧ (answerHeld s q).flt = s.flt ∧ (answerHeld s q).tly = s.tly ∧
    (answerHeld s q).sal = s.sal ∧ (answerHeld s q).map = s.map ∧ (answerHeld s q).drn = s.drn ∧ (answerHeld s q).hrv = s.hrv ∧
    (answerHeld s q).fld = s.fld ∧ (answerHeld s q).bed = s.bed ∧ (answerHeld s q).pip = s.pip ∧ (answerHeld s q).heads = s.heads ∧
    (answerHeld s q).sem = s.sem ∧ (answerHeld s q).pans = s.pans ∧ (answerHeld s q).dmc = s.dmc ∧ (answerHeld s q).trn = s.trn ∧
    (answerHeld s q).thm = s.thm ∧ (answerHeld s q).cel = s.cel ∧ (answerHeld s q).upd = s.upd ∧ (answerHeld s q).key = s.key ∧
    (answerHeld s q).brl = s.brl ∧ (answerHeld s q).svc = s.svc ∧ (answerHeld s q).pins = s.pins ∧ (answerHeld s q).lay = s.lay ∧
    (answerHeld s q).jrn = s.jrn ∧ (answerHeld s q).dram = s.dram ∧ (answerHeld s q).poison = s.poison ∧
    (answerHeld s q).serial = s.serial ∧ (answerHeld s q).boot = s.boot ∧ (answerHeld s q).free = s.free ∧
    (answerHeld s q).pending = s.pending := by
  refine ⟨?_, ?_, ?_, ?_, ?_, ?_, ?_, ?_, ?_, ?_, ?_, ?_, ?_, ?_, ?_, ?_, ?_, ?_, ?_, ?_, ?_, ?_, ?_, ?_, ?_, ?_, ?_, ?_, ?_, ?_, ?_⟩ <;> exact answerHeld_only _ (fun _ _ => rfl) s q

theorem sanErase_only {β : Type} (π : State → β) (hπ : ∀ s xpip xheads xcel xkey, π { s with pip := xpip, heads := xheads, cel := xcel, key := xkey } = π s) (s : State) :
    π (sanErase s) = π s := by
  simp only [sanErase, hπ, appendKeys_only π (fun s xcel xkey => hπ s s.pip s.heads xcel xkey), sanProgress_only π (fun s xheads => hπ s s.pip xheads s.cel s.key), apply_ite π, ite_self]

@[simp] theorem sanErase_frame (s : State) :
    (sanErase s).dev = s.dev ∧ (sanErase s).gov = s.gov ∧ (sanErase s).flt = s.flt ∧ (sanErase s).tly = s.tly ∧
    (sanErase s).sal = s.sal ∧ (sanErase s).map = s.map ∧ (sanErase s).drn = s.drn ∧ (sanErase s).hrv = s.hrv ∧
    (sanErase s).fld = s.fld ∧ (sanErase s).bed = s.bed ∧ (sanErase s).sem = s.sem ∧ (sanErase s).pans = s.pans ∧
    (sanErase s).dmc = s.dmc ∧ (sanErase s).trn = s.trn ∧ (sanErase s).thm = s.thm ∧ (sanErase s).upd = s.upd ∧
    (sanErase s).brl = s.brl ∧ (sanErase s).svc = s.svc ∧ (sanErase s).pins = s.pins ∧ (sanErase s).lay = s.lay ∧
    (sanErase s).jrn = s.jrn ∧ (sanErase s).replies = s.replies ∧ (sanErase s).dram = s.dram ∧ (sanErase s).poison = s.poison ∧
    (sanErase s).serial = s.serial ∧ (sanErase s).boot = s.boot ∧ (sanErase s).free = s.free ∧ (sanErase s).pending = s.pending := by
  refine ⟨?_, ?_, ?_, ?_, ?_, ?_, ?_, ?_, ?_, ?_, ?_, ?_, ?_, ?_, ?_, ?_, ?_, ?_, ?_, ?_, ?_, ?_, ?_, ?_, ?_, ?_, ?_, ?_⟩ <;> exact sanErase_only _ (fun _ _ _ _ _ => rfl) s

theorem sanReset_only {β : Type} (π : State → β) (hπ : ∀ s xmap xdrn xhrv xfld xbed xheads xpoison, π { s with map := xmap, drn := xdrn, hrv := xhrv, fld := xfld, bed := xbed, heads := xheads, poison := xpoison } = π s) (s : State) :
    π (sanReset s) = π s := by
  simp only [sanReset, hπ, resetMap_only π (fun s xmap xdrn xhrv xfld xbed xpoison => hπ s xmap xdrn xhrv xfld xbed s.heads xpoison), sanProgress_only π (fun s xheads => hπ s s.map s.drn s.hrv s.fld s.bed xheads s.poison), apply_ite π, ite_self]

@[simp] theorem sanReset_frame (s : State) :
    (sanReset s).dev = s.dev ∧ (sanReset s).gov = s.gov ∧ (sanReset s).flt = s.flt ∧ (sanReset s).tly = s.tly ∧
    (sanReset s).sal = s.sal ∧ (sanReset s).pip = s.pip ∧ (sanReset s).sem = s.sem ∧ (sanReset s).pans = s.pans ∧
    (sanReset s).dmc = s.dmc ∧ (sanReset s).trn = s.trn ∧ (sanReset s).thm = s.thm ∧ (sanReset s).cel = s.cel ∧
    (sanReset s).upd = s.upd ∧ (sanReset s).key = s.key ∧ (sanReset s).brl = s.brl ∧ (sanReset s).svc = s.svc ∧
    (sanReset s).pins = s.pins ∧ (sanReset s).lay = s.lay ∧ (sanReset s).jrn = s.jrn ∧ (sanReset s).replies = s.replies ∧
    (sanReset s).dram = s.dram ∧ (sanReset s).serial = s.serial ∧ (sanReset s).boot = s.boot ∧ (sanReset s).free = s.free ∧
    (sanReset s).pending = s.pending := by
  refine ⟨?_, ?_, ?_, ?_, ?_, ?_, ?_, ?_, ?_, ?_, ?_, ?_, ?_, ?_, ?_, ?_, ?_, ?_, ?_, ?_, ?_, ?_, ?_, ?_, ?_⟩ <;> exact sanReset_only _ (fun _ _ _ _ _ _ _ _ => rfl) s

theorem spdmSay_only {β : Type} (π : State → β) (hπ : ∀ s xreplies, π { s with replies := xreplies } = π s) (h : Head) (req : Nat) (ok : Bool) (p : Payload) (s : State) :
    π (spdmSay h req ok p s) = π s := by
  simp only [spdmSay, hπ, apply_ite π, ite_self]

@[simp] theorem spdmSay_frame (h : Head) (req : Nat) (ok : Bool) (p : Payload) (s : State) :
    (spdmSay h req ok p s).dev = s.dev ∧ (spdmSay h req ok p s).gov = s.gov ∧ (spdmSay h req ok p s).flt = s.flt ∧
    (spdmSay h req ok p s).tly = s.tly ∧ (spdmSay h req ok p s).sal = s.sal ∧ (spdmSay h req ok p s).map = s.map ∧
    (spdmSay h req ok p s).drn = s.drn ∧ (spdmSay h req ok p s).hrv = s.hrv ∧ (spdmSay h req ok p s).fld = s.fld ∧
    (spdmSay h req ok p s).bed = s.bed ∧ (spdmSay h req ok p s).pip = s.pip ∧ (spdmSay h req ok p s).heads = s.heads ∧
    (spdmSay h req ok p s).sem = s.sem ∧ (spdmSay h req ok p s).pans = s.pans ∧ (spdmSay h req ok p s).dmc = s.dmc ∧
    (spdmSay h req ok p s).trn = s.trn ∧ (spdmSay h req ok p s).thm = s.thm ∧ (spdmSay h req ok p s).cel = s.cel ∧
    (spdmSay h req ok p s).upd = s.upd ∧ (spdmSay h req ok p s).key = s.key ∧ (spdmSay h req ok p s).brl = s.brl ∧
    (spdmSay h req ok p s).svc = s.svc ∧ (spdmSay h req ok p s).pins = s.pins ∧ (spdmSay h req ok p s).lay = s.lay ∧
    (spdmSay h req ok p s).jrn = s.jrn ∧ (spdmSay h req ok p s).dram = s.dram ∧ (spdmSay h req ok p s).poison = s.poison ∧
    (spdmSay h req ok p s).serial = s.serial ∧ (spdmSay h req ok p s).boot = s.boot ∧ (spdmSay h req ok p s).free = s.free ∧
    (spdmSay h req ok p s).pending = s.pending := by
  refine ⟨?_, ?_, ?_, ?_, ?_, ?_, ?_, ?_, ?_, ?_, ?_, ?_, ?_, ?_, ?_, ?_, ?_, ?_, ?_, ?_, ?_, ?_, ?_, ?_, ?_, ?_, ?_, ?_, ?_, ?_, ?_⟩ <;> exact spdmSay_only _ (fun _ _ => rfl) h req ok p s

theorem spdmError_only {β : Type} (π : State → β) (hπ : ∀ s xreplies, π { s with replies := xreplies } = π s) (h : Head) (req : Nat) (s : State) :
    π (spdmError h req s) = π s := by
  simp only [spdmError, hπ, spdmSay_only π hπ, apply_ite π, ite_self]

@[simp] theorem spdmError_frame (h : Head) (req : Nat) (s : State) :
    (spdmError h req s).dev = s.dev ∧ (spdmError h req s).gov = s.gov ∧ (spdmError h req s).flt = s.flt ∧
    (spdmError h req s).tly = s.tly ∧ (spdmError h req s).sal = s.sal ∧ (spdmError h req s).map = s.map ∧
    (spdmError h req s).drn = s.drn ∧ (spdmError h req s).hrv = s.hrv ∧ (spdmError h req s).fld = s.fld ∧
    (spdmError h req s).bed = s.bed ∧ (spdmError h req s).pip = s.pip ∧ (spdmError h req s).heads = s.heads ∧
    (spdmError h req s).sem = s.sem ∧ (spdmError h req s).pans = s.pans ∧ (spdmError h req s).dmc = s.dmc ∧
    (spdmError h req s).trn = s.trn ∧ (spdmError h req s).thm = s.thm ∧ (spdmError h req s).cel = s.cel ∧
    (spdmError h req s).upd = s.upd ∧ (spdmError h req s).key = s.key ∧ (spdmError h req s).brl = s.brl ∧
    (spdmError h req s).svc = s.svc ∧ (spdmError h req s).pins = s.pins ∧ (spdmError h req s).lay = s.lay ∧
    (spdmError h req s).jrn = s.jrn ∧ (spdmError h req s).dram = s.dram ∧ (spdmError h req s).poison = s.poison ∧
    (spdmError h req s).serial = s.serial ∧ (spdmError h req s).boot = s.boot ∧ (spdmError h req s).free = s.free ∧
    (spdmError h req s).pending = s.pending := by
  refine ⟨?_, ?_, ?_, ?_, ?_, ?_, ?_, ?_, ?_, ?_, ?_, ?_, ?_, ?_, ?_, ?_, ?_, ?_, ?_, ?_, ?_, ?_, ?_, ?_, ?_, ?_, ?_, ?_, ?_, ?_, ?_⟩ <;> exact spdmError_only _ (fun _ _ => rfl) h req s

theorem spdmFree_only {β : Type} (π : State → β) (hπ : ∀ s xreplies xfree, π { s with replies := xreplies, free := xfree } = π s) (h : Head) (req : Nat) (s : State) :
    π (spdmFree h req s) = π s := by
  simp only [spdmFree, hπ, spdmSay_only π (fun s xreplies => hπ s xreplies s.free), apply_ite π, ite_self]

@[simp] theorem spdmFree_frame (h : Head) (req : Nat) (s : State) :
    (spdmFree h req s).dev = s.dev ∧ (spdmFree h req s).gov = s.gov ∧ (spdmFree h req s).flt = s.flt ∧
    (spdmFree h req s).tly = s.tly ∧ (spdmFree h req s).sal = s.sal ∧ (spdmFree h req s).map = s.map ∧
    (spdmFree h req s).drn = s.drn ∧ (spdmFree h req s).hrv = s.hrv ∧ (spdmFree h req s).fld = s.fld ∧
    (spdmFree h req s).bed = s.bed ∧ (spdmFree h req s).pip = s.pip ∧ (spdmFree h req s).heads = s.heads ∧
    (spdmFree h req s).sem = s.sem ∧ (spdmFree h req s).pans = s.pans ∧ (spdmFree h req s).dmc = s.dmc ∧
    (spdmFree h req s).trn = s.trn ∧ (spdmFree h req s).thm = s.thm ∧ (spdmFree h req s).cel = s.cel ∧
    (spdmFree h req s).upd = s.upd ∧ (spdmFree h req s).key = s.key ∧ (spdmFree h req s).brl = s.brl ∧
    (spdmFree h req s).svc = s.svc ∧ (spdmFree h req s).pins = s.pins ∧ (spdmFree h req s).lay = s.lay ∧
    (spdmFree h req s).jrn = s.jrn ∧ (spdmFree h req s).dram = s.dram ∧ (spdmFree h req s).poison = s.poison ∧
    (spdmFree h req s).serial = s.serial ∧ (spdmFree h req s).boot = s.boot ∧ (spdmFree h req s).pending = s.pending := by
  refine ⟨?_, ?_, ?_, ?_, ?_, ?_, ?_, ?_, ?_, ?_, ?_, ?_, ?_, ?_, ?_, ?_, ?_, ?_, ?_, ?_, ?_, ?_, ?_, ?_, ?_, ?_, ?_, ?_, ?_, ?_⟩ <;> exact spdmFree_only _ (fun _ _ _ => rfl) h req s

theorem spdmSet_only {β : Type} (π : State → β) (hπ : ∀ s xkey, π { s with key := xkey } = π s) (h : Head) (v : Spdm) (s : State) :
    π (spdmSet h v s) = π s := by
  simp only [spdmSet, hπ, apply_ite π, ite_self]

@[simp] theorem spdmSet_frame (h : Head) (v : Spdm) (s : State) :
    (spdmSet h v s).dev = s.dev ∧ (spdmSet h v s).gov = s.gov ∧ (spdmSet h v s).flt = s.flt ∧ (spdmSet h v s).tly = s.tly ∧
    (spdmSet h v s).sal = s.sal ∧ (spdmSet h v s).map = s.map ∧ (spdmSet h v s).drn = s.drn ∧ (spdmSet h v s).hrv = s.hrv ∧
    (spdmSet h v s).fld = s.fld ∧ (spdmSet h v s).bed = s.bed ∧ (spdmSet h v s).pip = s.pip ∧ (spdmSet h v s).heads = s.heads ∧
    (spdmSet h v s).sem = s.sem ∧ (spdmSet h v s).pans = s.pans ∧ (spdmSet h v s).dmc = s.dmc ∧ (spdmSet h v s).trn = s.trn ∧
    (spdmSet h v s).thm = s.thm ∧ (spdmSet h v s).cel = s.cel ∧ (spdmSet h v s).upd = s.upd ∧ (spdmSet h v s).brl = s.brl ∧
    (spdmSet h v s).svc = s.svc ∧ (spdmSet h v s).pins = s.pins ∧ (spdmSet h v s).lay = s.lay ∧ (spdmSet h v s).jrn = s.jrn ∧
    (spdmSet h v s).replies = s.replies ∧ (spdmSet h v s).dram = s.dram ∧ (spdmSet h v s).poison = s.poison ∧
    (spdmSet h v s).serial = s.serial ∧ (spdmSet h v s).boot = s.boot ∧ (spdmSet h v s).free = s.free ∧
    (spdmSet h v s).pending = s.pending := by
  refine ⟨?_, ?_, ?_, ?_, ?_, ?_, ?_, ?_, ?_, ?_, ?_, ?_, ?_, ?_, ?_, ?_, ?_, ?_, ?_, ?_, ?_, ?_, ?_, ?_, ?_, ?_, ?_, ?_, ?_, ?_, ?_⟩ <;> exact spdmSet_only _ (fun _ _ => rfl) h v s

theorem spdmBytes_only {β : Type} (π : State → β) (hπ : ∀ s xkey xreplies, π { s with key := xkey, replies := xreplies } = π s) (h : Head) (req : Nat) (large : Bool) (bs : List Nat) (s : State) :
    π (spdmBytes h req large bs s) = π s := by
  unfold spdmBytes; repeat' first | contradiction | (simp only [hπ, spdmSay_only π (fun s xreplies => hπ s s.key xreplies), spdmSet_only π (fun s xkey => hπ s xkey s.replies), apply_ite π, ite_self]; done) | split | refine (foldl_same π _ (fun s x => ?_) _ _).trans ?_ | refine (elim_same π _ _ _ (fun x => ?_)).trans ?_ | dsimp only

@[simp] theorem spdmBytes_frame (h : Head) (req : Nat) (large : Bool) (bs : List Nat) (s : State) :
    (spdmBytes h req large bs s).dev = s.dev ∧ (spdmBytes h req large bs s).gov = s.gov ∧
    (spdmBytes h req large bs s).flt = s.flt ∧ (spdmBytes h req large bs s).tly = s.tly ∧
    (spdmBytes h req large bs s).sal = s.sal ∧ (spdmBytes h req large bs s).map = s.map ∧
    (spdmBytes h req large bs s).drn = s.drn ∧ (spdmBytes h req large bs s).hrv = s.hrv ∧
    (spdmBytes h req large bs s).fld = s.fld ∧ (spdmBytes h req large bs s).bed = s.bed ∧
    (spdmBytes h req large bs s).pip = s.pip ∧ (spdmBytes h req large bs s).heads = s.heads ∧
    (spdmBytes h req large bs s).sem = s.sem ∧ (spdmBytes h req large bs s).pans = s.pans ∧
    (spdmBytes h req large bs s).dmc = s.dmc ∧ (spdmBytes h req large bs s).trn = s.trn ∧
    (spdmBytes h req large bs s).thm = s.thm ∧ (spdmBytes h req large bs s).cel = s.cel ∧
    (spdmBytes h req large bs s).upd = s.upd ∧ (spdmBytes h req large bs s).brl = s.brl ∧
    (spdmBytes h req large bs s).svc = s.svc ∧ (spdmBytes h req large bs s).pins = s.pins ∧
    (spdmBytes h req large bs s).lay = s.lay ∧ (spdmBytes h req large bs s).jrn = s.jrn ∧
    (spdmBytes h req large bs s).dram = s.dram ∧ (spdmBytes h req large bs s).poison = s.poison ∧
    (spdmBytes h req large bs s).serial = s.serial ∧ (spdmBytes h req large bs s).boot = s.boot ∧
    (spdmBytes h req large bs s).free = s.free ∧ (spdmBytes h req large bs s).pending = s.pending := by
  refine ⟨?_, ?_, ?_, ?_, ?_, ?_, ?_, ?_, ?_, ?_, ?_, ?_, ?_, ?_, ?_, ?_, ?_, ?_, ?_, ?_, ?_, ?_, ?_, ?_, ?_, ?_, ?_, ?_, ?_, ?_⟩ <;> exact spdmBytes_only _ (fun _ _ _ => rfl) h req large bs s

theorem brlPortUpd_only {β : Type} (π : State → β) (hπ : ∀ s xbrl, π { s with brl := xbrl } = π s) (port1 : Bool) (f : BrlPort → BrlPort) (s : State) :
    π (brlPortUpd port1 f s) = π s := by
  unfold brlPortUpd; repeat' first | contradiction | (simp only [hπ, apply_ite π, ite_self]; done) | split | refine (foldl_same π _ (fun s x => ?_) _ _).trans ?_ | refine (elim_same π _ _ _ (fun x => ?_)).trans ?_ | dsimp only

@[simp] theorem brlPortUpd_frame (port1 : Bool) (f : BrlPort → BrlPort) (s : State) :
    (brlPortUpd port1 f s).dev = s.dev ∧ (brlPortUpd port1 f s).gov = s.gov ∧ (brlPortUpd port1 f s).flt = s.flt ∧
    (brlPortUpd port1 f s).tly = s.tly ∧ (brlPortUpd port1 f s).sal = s.sal ∧ (brlPortUpd port1 f s).map = s.map ∧
    (brlPortUpd port1 f s).drn = s.drn ∧ (brlPortUpd port1 f s).hrv = s.hrv ∧ (brlPortUpd port1 f s).fld = s.fld ∧
    (brlPortUpd port1 f s).bed = s.bed ∧ (brlPortUpd port1 f s).pip = s.pip ∧ (brlPortUpd port1 f s).heads = s.heads ∧
    (brlPortUpd port1 f s).sem = s.sem ∧ (brlPortUpd port1 f s).pans = s.pans ∧ (brlPortUpd port1 f s).dmc = s.dmc ∧
    (brlPortUpd port1 f s).trn = s.trn ∧ (brlPortUpd port1 f s).thm = s.thm ∧ (brlPortUpd port1 f s).cel = s.cel ∧
    (brlPortUpd port1 f s).upd = s.upd ∧ (brlPortUpd port1 f s).key = s.key ∧ (brlPortUpd port1 f s).svc = s.svc ∧
    (brlPortUpd port1 f s).pins = s.pins ∧ (brlPortUpd port1 f s).lay = s.lay ∧ (brlPortUpd port1 f s).jrn = s.jrn ∧
    (brlPortUpd port1 f s).replies = s.replies ∧ (brlPortUpd port1 f s).dram = s.dram ∧ (brlPortUpd port1 f s).poison = s.poison ∧
    (brlPortUpd port1 f s).serial = s.serial ∧ (brlPortUpd port1 f s).boot = s.boot ∧ (brlPortUpd port1 f s).free = s.free ∧
    (brlPortUpd port1 f s).pending = s.pending := by
  refine ⟨?_, ?_, ?_, ?_, ?_, ?_, ?_, ?_, ?_, ?_, ?_, ?_, ?_, ?_, ?_, ?_, ?_, ?_, ?_, ?_, ?_, ?_, ?_, ?_, ?_, ?_, ?_, ?_, ?_, ?_, ?_⟩ <;> exact brlPortUpd_only _ (fun _ _ => rfl) port1 f s

theorem unitUpd_only {β : Type} (π : State → β) (hπ : ∀ s xbrl, π { s with brl := xbrl } = π s) (u : Nat) (f : BrlUnit → BrlUnit) (s : State) :
    π (unitUpd u f s) = π s := by
  simp only [unitUpd, hπ, apply_ite π, ite_self]

@[simp] theorem unitUpd_frame (u : Nat) (f : BrlUnit → BrlUnit) (s : State) :
    (unitUpd u f s).dev = s.dev ∧ (unitUpd u f s).gov = s.gov ∧ (unitUpd u f s).flt = s.flt ∧ (unitUpd u f s).tly = s.tly ∧
    (unitUpd u f s).sal = s.sal ∧ (unitUpd u f s).map = s.map ∧ (unitUpd u f s).drn = s.drn ∧ (unitUpd u f s).hrv = s.hrv ∧
    (unitUpd u f s).fld = s.fld ∧ (unitUpd u f s).bed = s.bed ∧ (unitUpd u f s).pip = s.pip ∧ (unitUpd u f s).heads = s.heads ∧
    (unitUpd u f s).sem = s.sem ∧ (unitUpd u f s).pans = s.pans ∧ (unitUpd u f s).dmc = s.dmc ∧ (unitUpd u f s).trn = s.trn ∧
    (unitUpd u f s).thm = s.thm ∧ (unitUpd u f s).cel = s.cel ∧ (unitUpd u f s).upd = s.upd ∧ (unitUpd u f s).key = s.key ∧
    (unitUpd u f s).svc = s.svc ∧ (unitUpd u f s).pins = s.pins ∧ (unitUpd u f s).lay = s.lay ∧ (unitUpd u f s).jrn = s.jrn ∧
    (unitUpd u f s).replies = s.replies ∧ (unitUpd u f s).dram = s.dram ∧ (unitUpd u f s).poison = s.poison ∧
    (unitUpd u f s).serial = s.serial ∧ (unitUpd u f s).boot = s.boot ∧ (unitUpd u f s).free = s.free ∧
    (unitUpd u f s).pending = s.pending := by
  refine ⟨?_, ?_, ?_, ?_, ?_, ?_, ?_, ?_, ?_, ?_, ?_, ?_, ?_, ?_, ?_, ?_, ?_, ?_, ?_, ?_, ?_, ?_, ?_, ?_, ?_, ?_, ?_, ?_, ?_, ?_, ?_⟩ <;> exact unitUpd_only _ (fun _ _ => rfl) u f s

theorem brlSend_only {β : Type} (π : State → β) (hπ : ∀ s xbrl, π { s with brl := xbrl } = π s) (fs : List BrlFrame) (s : State) :
    π (brlSend fs s) = π s := by
  simp only [brlSend, hπ, apply_ite π, ite_self]

@[simp] theorem brlSend_frame (fs : List BrlFrame) (s : State) :
    (brlSend fs s).dev = s.dev ∧ (brlSend fs s).gov = s.gov ∧ (brlSend fs s).flt = s.flt ∧ (brlSend fs s).tly = s.tly ∧
    (brlSend fs s).sal = s.sal ∧ (brlSend fs s).map = s.map ∧ (brlSend fs s).drn = s.drn ∧ (brlSend fs s).hrv = s.hrv ∧
    (brlSend fs s).fld = s.fld ∧ (brlSend fs s).bed = s.bed ∧ (brlSend fs s).pip = s.pip ∧ (brlSend fs s).heads = s.heads ∧
    (brlSend fs s).sem = s.sem ∧ (brlSend fs s).pans = s.pans ∧ (brlSend fs s).dmc = s.dmc ∧ (brlSend fs s).trn = s.trn ∧
    (brlSend fs s).thm = s.thm ∧ (brlSend fs s).cel = s.cel ∧ (brlSend fs s).upd = s.upd ∧ (brlSend fs s).key = s.key ∧
    (brlSend fs s).svc = s.svc ∧ (brlSend fs s).pins = s.pins ∧ (brlSend fs s).lay = s.lay ∧ (brlSend fs s).jrn = s.jrn ∧
    (brlSend fs s).replies = s.replies ∧ (brlSend fs s).dram = s.dram ∧ (brlSend fs s).poison = s.poison ∧
    (brlSend fs s).serial = s.serial ∧ (brlSend fs s).boot = s.boot ∧ (brlSend fs s).free = s.free ∧
    (brlSend fs s).pending = s.pending := by
  refine ⟨?_, ?_, ?_, ?_, ?_, ?_, ?_, ?_, ?_, ?_, ?_, ?_, ?_, ?_, ?_, ?_, ?_, ?_, ?_, ?_, ?_, ?_, ?_, ?_, ?_, ?_, ?_, ?_, ?_, ?_, ?_⟩ <;> exact brlSend_only _ (fun _ _ => rfl) fs s

theorem ringWhole_only {β : Type} (π : State → β) (hπ : ∀ s xflt xbrl, π { s with flt := xflt, brl := xbrl } = π s) (gen : BitVec 16) (index : Nat) (digests : List (BitVec 384)) (s : State) :
    π (ringWhole gen index digests s) = π s := by
  unfold ringWhole; repeat' first | contradiction | (simp only [hπ, fltFall_only π (fun s xflt => hπ s xflt s.brl), foldl_same π, apply_ite π, ite_self]; done) | split | refine (foldl_same π _ (fun s x => ?_) _ _).trans ?_ | refine (elim_same π _ _ _ (fun x => ?_)).trans ?_ | dsimp only

@[simp] theorem ringWhole_frame (gen : BitVec 16) (index : Nat) (digests : List (BitVec 384)) (s : State) :
    (ringWhole gen index digests s).dev = s.dev ∧ (ringWhole gen index digests s).gov = s.gov ∧
    (ringWhole gen index digests s).tly = s.tly ∧ (ringWhole gen index digests s).sal = s.sal ∧
    (ringWhole gen index digests s).map = s.map ∧ (ringWhole gen index digests s).drn = s.drn ∧
    (ringWhole gen index digests s).hrv = s.hrv ∧ (ringWhole gen index digests s).fld = s.fld ∧
    (ringWhole gen index digests s).bed = s.bed ∧ (ringWhole gen index digests s).pip = s.pip ∧
    (ringWhole gen index digests s).heads = s.heads ∧ (ringWhole gen index digests s).sem = s.sem ∧
    (ringWhole gen index digests s).pans = s.pans ∧ (ringWhole gen index digests s).dmc = s.dmc ∧
    (ringWhole gen index digests s).trn = s.trn ∧ (ringWhole gen index digests s).thm = s.thm ∧
    (ringWhole gen index digests s).cel = s.cel ∧ (ringWhole gen index digests s).upd = s.upd ∧
    (ringWhole gen index digests s).key = s.key ∧ (ringWhole gen index digests s).svc = s.svc ∧
    (ringWhole gen index digests s).pins = s.pins ∧ (ringWhole gen index digests s).lay = s.lay ∧
    (ringWhole gen index digests s).jrn = s.jrn ∧ (ringWhole gen index digests s).replies = s.replies ∧
    (ringWhole gen index digests s).dram = s.dram ∧ (ringWhole gen index digests s).poison = s.poison ∧
    (ringWhole gen index digests s).serial = s.serial ∧ (ringWhole gen index digests s).boot = s.boot ∧
    (ringWhole gen index digests s).free = s.free ∧ (ringWhole gen index digests s).pending = s.pending := by
  refine ⟨?_, ?_, ?_, ?_, ?_, ?_, ?_, ?_, ?_, ?_, ?_, ?_, ?_, ?_, ?_, ?_, ?_, ?_, ?_, ?_, ?_, ?_, ?_, ?_, ?_, ?_, ?_, ?_, ?_, ?_⟩ <;> exact ringWhole_only _ (fun _ _ _ => rfl) gen index digests s

theorem ownStage_only {β : Type} (π : State → β) (hπ : ∀ s xdrn xhrv xbed xbrl, π { s with drn := xdrn, hrv := xhrv, bed := xbed, brl := xbrl } = π s) (s : State) :
    π (ownStage s) = π s := by
  unfold ownStage; repeat' first | contradiction | (simp only [hπ, writeUpdate_only π (fun s xdrn xhrv xbed => hπ s xdrn xhrv xbed s.brl), apply_ite π, ite_self]; done) | split | refine (foldl_same π _ (fun s x => ?_) _ _).trans ?_ | refine (elim_same π _ _ _ (fun x => ?_)).trans ?_ | dsimp only

@[simp] theorem ownStage_frame (s : State) :
    (ownStage s).dev = s.dev ∧ (ownStage s).gov = s.gov ∧ (ownStage s).flt = s.flt ∧ (ownStage s).tly = s.tly ∧
    (ownStage s).sal = s.sal ∧ (ownStage s).map = s.map ∧ (ownStage s).fld = s.fld ∧ (ownStage s).pip = s.pip ∧
    (ownStage s).heads = s.heads ∧ (ownStage s).sem = s.sem ∧ (ownStage s).pans = s.pans ∧ (ownStage s).dmc = s.dmc ∧
    (ownStage s).trn = s.trn ∧ (ownStage s).thm = s.thm ∧ (ownStage s).cel = s.cel ∧ (ownStage s).upd = s.upd ∧
    (ownStage s).key = s.key ∧ (ownStage s).svc = s.svc ∧ (ownStage s).pins = s.pins ∧ (ownStage s).lay = s.lay ∧
    (ownStage s).jrn = s.jrn ∧ (ownStage s).replies = s.replies ∧ (ownStage s).dram = s.dram ∧ (ownStage s).poison = s.poison ∧
    (ownStage s).serial = s.serial ∧ (ownStage s).boot = s.boot ∧ (ownStage s).free = s.free ∧ (ownStage s).pending = s.pending := by
  refine ⟨?_, ?_, ?_, ?_, ?_, ?_, ?_, ?_, ?_, ?_, ?_, ?_, ?_, ?_, ?_, ?_, ?_, ?_, ?_, ?_, ?_, ?_, ?_, ?_, ?_, ?_, ?_, ?_⟩ <;> exact ownStage_only _ (fun _ _ _ _ _ => rfl) s

theorem selectWrite_only {β : Type} (π : State → β) (hπ : ∀ s xmap xcel, π { s with map := xmap, cel := xcel } = π s) (port : Port) (cellar : Bool) (value : Nat) (s : State) :
    π (selectWrite port cellar value s) = π s := by
  unfold selectWrite; repeat' first | contradiction | (simp only [hπ, apply_ite π, ite_self]; done) | split | refine (foldl_same π _ (fun s x => ?_) _ _).trans ?_ | refine (elim_same π _ _ _ (fun x => ?_)).trans ?_ | dsimp only

@[simp] theorem selectWrite_frame (port : Port) (cellar : Bool) (value : Nat) (s : State) :
    (selectWrite port cellar value s).dev = s.dev ∧ (selectWrite port cellar value s).gov = s.gov ∧
    (selectWrite port cellar value s).flt = s.flt ∧ (selectWrite port cellar value s).tly = s.tly ∧
    (selectWrite port cellar value s).sal = s.sal ∧ (selectWrite port cellar value s).drn = s.drn ∧
    (selectWrite port cellar value s).hrv = s.hrv ∧ (selectWrite port cellar value s).fld = s.fld ∧
    (selectWrite port cellar value s).bed = s.bed ∧ (selectWrite port cellar value s).pip = s.pip ∧
    (selectWrite port cellar value s).heads = s.heads ∧ (selectWrite port cellar value s).sem = s.sem ∧
    (selectWrite port cellar value s).pans = s.pans ∧ (selectWrite port cellar value s).dmc = s.dmc ∧
    (selectWrite port cellar value s).trn = s.trn ∧ (selectWrite port cellar value s).thm = s.thm ∧
    (selectWrite port cellar value s).upd = s.upd ∧ (selectWrite port cellar value s).key = s.key ∧
    (selectWrite port cellar value s).brl = s.brl ∧ (selectWrite port cellar value s).svc = s.svc ∧
    (selectWrite port cellar value s).pins = s.pins ∧ (selectWrite port cellar value s).lay = s.lay ∧
    (selectWrite port cellar value s).jrn = s.jrn ∧ (selectWrite port cellar value s).replies = s.replies ∧
    (selectWrite port cellar value s).dram = s.dram ∧ (selectWrite port cellar value s).poison = s.poison ∧
    (selectWrite port cellar value s).serial = s.serial ∧ (selectWrite port cellar value s).boot = s.boot ∧
    (selectWrite port cellar value s).free = s.free ∧ (selectWrite port cellar value s).pending = s.pending := by
  refine ⟨?_, ?_, ?_, ?_, ?_, ?_, ?_, ?_, ?_, ?_, ?_, ?_, ?_, ?_, ?_, ?_, ?_, ?_, ?_, ?_, ?_, ?_, ?_, ?_, ?_, ?_, ?_, ?_, ?_, ?_⟩ <;> exact selectWrite_only _ (fun _ _ _ => rfl) port cellar value s

theorem assignAddr_only {β : Type} (π : State → β) (hπ : ∀ s xsvc, π { s with svc := xsvc } = π s) (address : Nat) (s : State) :
    π (assignAddr address s) = π s := by
  simp only [assignAddr, hπ, apply_ite π, ite_self]

@[simp] theorem assignAddr_frame (address : Nat) (s : State) :
    (assignAddr address s).dev = s.dev ∧ (assignAddr address s).gov = s.gov ∧ (assignAddr address s).flt = s.flt ∧
    (assignAddr address s).tly = s.tly ∧ (assignAddr address s).sal = s.sal ∧ (assignAddr address s).map = s.map ∧
    (assignAddr address s).drn = s.drn ∧ (assignAddr address s).hrv = s.hrv ∧ (assignAddr address s).fld = s.fld ∧
    (assignAddr address s).bed = s.bed ∧ (assignAddr address s).pip = s.pip ∧ (assignAddr address s).heads = s.heads ∧
    (assignAddr address s).sem = s.sem ∧ (assignAddr address s).pans = s.pans ∧ (assignAddr address s).dmc = s.dmc ∧
    (assignAddr address s).trn = s.trn ∧ (assignAddr address s).thm = s.thm ∧ (assignAddr address s).cel = s.cel ∧
    (assignAddr address s).upd = s.upd ∧ (assignAddr address s).key = s.key ∧ (assignAddr address s).brl = s.brl ∧
    (assignAddr address s).pins = s.pins ∧ (assignAddr address s).lay = s.lay ∧ (assignAddr address s).jrn = s.jrn ∧
    (assignAddr address s).replies = s.replies ∧ (assignAddr address s).dram = s.dram ∧ (assignAddr address s).poison = s.poison ∧
    (assignAddr address s).serial = s.serial ∧ (assignAddr address s).boot = s.boot ∧ (assignAddr address s).free = s.free ∧
    (assignAddr address s).pending = s.pending := by
  refine ⟨?_, ?_, ?_, ?_, ?_, ?_, ?_, ?_, ?_, ?_, ?_, ?_, ?_, ?_, ?_, ?_, ?_, ?_, ?_, ?_, ?_, ?_, ?_, ?_, ?_, ?_, ?_, ?_, ?_, ?_, ?_⟩ <;> exact assignAddr_only _ (fun _ _ => rfl) address s

theorem cccAnswer_only {β : Type} (π : State → β) (hπ : ∀ s xsvc xfree, π { s with svc := xsvc, free := xfree } = π s) (width : Nat) (s : State) :
    π (cccAnswer width s) = π s := by
  simp only [cccAnswer, hπ, apply_ite π, ite_self]

@[simp] theorem cccAnswer_frame (width : Nat) (s : State) :
    (cccAnswer width s).dev = s.dev ∧ (cccAnswer width s).gov = s.gov ∧ (cccAnswer width s).flt = s.flt ∧
    (cccAnswer width s).tly = s.tly ∧ (cccAnswer width s).sal = s.sal ∧ (cccAnswer width s).map = s.map ∧
    (cccAnswer width s).drn = s.drn ∧ (cccAnswer width s).hrv = s.hrv ∧ (cccAnswer width s).fld = s.fld ∧
    (cccAnswer width s).bed = s.bed ∧ (cccAnswer width s).pip = s.pip ∧ (cccAnswer width s).heads = s.heads ∧
    (cccAnswer width s).sem = s.sem ∧ (cccAnswer width s).pans = s.pans ∧ (cccAnswer width s).dmc = s.dmc ∧
    (cccAnswer width s).trn = s.trn ∧ (cccAnswer width s).thm = s.thm ∧ (cccAnswer width s).cel = s.cel ∧
    (cccAnswer width s).upd = s.upd ∧ (cccAnswer width s).key = s.key ∧ (cccAnswer width s).brl = s.brl ∧
    (cccAnswer width s).pins = s.pins ∧ (cccAnswer width s).lay = s.lay ∧ (cccAnswer width s).jrn = s.jrn ∧
    (cccAnswer width s).replies = s.replies ∧ (cccAnswer width s).dram = s.dram ∧ (cccAnswer width s).poison = s.poison ∧
    (cccAnswer width s).serial = s.serial ∧ (cccAnswer width s).boot = s.boot ∧ (cccAnswer width s).pending = s.pending := by
  refine ⟨?_, ?_, ?_, ?_, ?_, ?_, ?_, ?_, ?_, ?_, ?_, ?_, ?_, ?_, ?_, ?_, ?_, ?_, ?_, ?_, ?_, ?_, ?_, ?_, ?_, ?_, ?_, ?_, ?_, ?_⟩ <;> exact cccAnswer_only _ (fun _ _ _ => rfl) width s

theorem cccConstant_only {β : Type} (π : State → β) (hπ : ∀ s xsvc, π { s with svc := xsvc } = π s) (which : Nat) (width : Nat) (s : State) :
    π (cccConstant which width s) = π s := by
  simp only [cccConstant, hπ, apply_ite π, ite_self]

@[simp] theorem cccConstant_frame (which : Nat) (width : Nat) (s : State) :
    (cccConstant which width s).dev = s.dev ∧ (cccConstant which width s).gov = s.gov ∧ (cccConstant which width s).flt = s.flt ∧
    (cccConstant which width s).tly = s.tly ∧ (cccConstant which width s).sal = s.sal ∧ (cccConstant which width s).map = s.map ∧
    (cccConstant which width s).drn = s.drn ∧ (cccConstant which width s).hrv = s.hrv ∧ (cccConstant which width s).fld = s.fld ∧
    (cccConstant which width s).bed = s.bed ∧ (cccConstant which width s).pip = s.pip ∧
    (cccConstant which width s).heads = s.heads ∧ (cccConstant which width s).sem = s.sem ∧
    (cccConstant which width s).pans = s.pans ∧ (cccConstant which width s).dmc = s.dmc ∧ (cccConstant which width s).trn = s.trn ∧
    (cccConstant which width s).thm = s.thm ∧ (cccConstant which width s).cel = s.cel ∧ (cccConstant which width s).upd = s.upd ∧
    (cccConstant which width s).key = s.key ∧ (cccConstant which width s).brl = s.brl ∧ (cccConstant which width s).pins = s.pins ∧
    (cccConstant which width s).lay = s.lay ∧ (cccConstant which width s).jrn = s.jrn ∧
    (cccConstant which width s).replies = s.replies ∧ (cccConstant which width s).dram = s.dram ∧
    (cccConstant which width s).poison = s.poison ∧ (cccConstant which width s).serial = s.serial ∧
    (cccConstant which width s).boot = s.boot ∧ (cccConstant which width s).free = s.free ∧
    (cccConstant which width s).pending = s.pending := by
  refine ⟨?_, ?_, ?_, ?_, ?_, ?_, ?_, ?_, ?_, ?_, ?_, ?_, ?_, ?_, ?_, ?_, ?_, ?_, ?_, ?_, ?_, ?_, ?_, ?_, ?_, ?_, ?_, ?_, ?_, ?_, ?_⟩ <;> exact cccConstant_only _ (fun _ _ => rfl) which width s

theorem tapBypass_only {β : Type} (π : State → β) (hπ : ∀ s xpins, π { s with pins := xpins } = π s) (s : State) :
    π (tapBypass s) = π s := by
  simp only [tapBypass, hπ, apply_ite π, ite_self]

@[simp] theorem tapBypass_frame (s : State) :
    (tapBypass s).dev = s.dev ∧ (tapBypass s).gov = s.gov ∧ (tapBypass s).flt = s.flt ∧ (tapBypass s).tly = s.tly ∧
    (tapBypass s).sal = s.sal ∧ (tapBypass s).map = s.map ∧ (tapBypass s).drn = s.drn ∧ (tapBypass s).hrv = s.hrv ∧
    (tapBypass s).fld = s.fld ∧ (tapBypass s).bed = s.bed ∧ (tapBypass s).pip = s.pip ∧ (tapBypass s).heads = s.heads ∧
    (tapBypass s).sem = s.sem ∧ (tapBypass s).pans = s.pans ∧ (tapBypass s).dmc = s.dmc ∧ (tapBypass s).trn = s.trn ∧
    (tapBypass s).thm = s.thm ∧ (tapBypass s).cel = s.cel ∧ (tapBypass s).upd = s.upd ∧ (tapBypass s).key = s.key ∧
    (tapBypass s).brl = s.brl ∧ (tapBypass s).svc = s.svc ∧ (tapBypass s).lay = s.lay ∧ (tapBypass s).jrn = s.jrn ∧
    (tapBypass s).replies = s.replies ∧ (tapBypass s).dram = s.dram ∧ (tapBypass s).poison = s.poison ∧
    (tapBypass s).serial = s.serial ∧ (tapBypass s).boot = s.boot ∧ (tapBypass s).free = s.free ∧ (tapBypass s).pending = s.pending := by
  refine ⟨?_, ?_, ?_, ?_, ?_, ?_, ?_, ?_, ?_, ?_, ?_, ?_, ?_, ?_, ?_, ?_, ?_, ?_, ?_, ?_, ?_, ?_, ?_, ?_, ?_, ?_, ?_, ?_, ?_, ?_, ?_⟩ <;> exact tapBypass_only _ (fun _ _ => rfl) s

end Sys2Proof.Machine
end

