-- ==== Sys2Proof/Laws/Table.lean ====
section
/-!
SUPPORT. Reading after writing in tables and in DRAM, and the canonical form that every table and memory operation keeps.
-/
namespace Sys2Proof.Machine

variable {α : Type}

theorem tblGet_ins (d v : α) (i j : Nat) (t : Tbl α) : tblGet d (tblIns i v t) j = if j = i then v else tblGet d t j := by
  induction t with
  | nil => simp [tblIns, tblGet, eq_comm (a := i)]
  | cons e t ih =>
    obtain ⟨k, w⟩ := e
    unfold tblIns
    split
    · by_cases h : j = i
      · simp [tblGet, h]
      · simp [tblGet, h, Ne.symm h]
    · split
      · rename_i h1 h2
        subst h2
        by_cases h : j = i
        · simp [tblGet, h]
        · simp [tblGet, h, Ne.symm h]
      · rename_i h1 h2
        by_cases hk : k = j
        · subst hk; simp [tblGet, Ne.symm h2]
        · simp [tblGet, hk, ih]

theorem tblGet_del (d : α) (i j : Nat) (t : Tbl α) : tblGet d (tblDel i t) j = if j = i then d else tblGet d t j := by
  induction t with
  | nil => simp [tblDel, tblGet]
  | cons e t ih =>
    obtain ⟨k, w⟩ := e
    by_cases hk : k = i
    · subst hk
      have : tblDel k ((k, w) :: t) = tblDel k t := by simp [tblDel]
      rw [this, ih]
      by_cases h : j = k
      · simp [h]
      · simp [tblGet, h, Ne.symm h]
    · have : tblDel i ((k, w) :: t) = (k, w) :: tblDel i t := by simp [tblDel, hk]
      rw [this]
      by_cases hj : k = j
      · subst hj; simp [tblGet, hk]
      · simp [tblGet, hj, ih]

/-- An entry reads as it was put, and every other entry as before. -/
theorem tblGet_put [DecidableEq α] (d : α) (i : Nat) (v : α) (t : Tbl α) (j : Nat) :
    tblGet d (tblPut d i v t) j = if j = i then v else tblGet d t j := by
  unfold tblPut
  split
  · rename_i h; rw [tblGet_del, h]
  · exact tblGet_ins d v i j t

theorem tblGet_upd [DecidableEq α] (d : α) (i : Nat) (f : α → α) (t : Tbl α) (j : Nat) :
    tblGet d (tblUpd d i f t) j = if j = i then f (tblGet d t i) else tblGet d t j := tblGet_put d i _ t j

/-- Every entry of a table that is changed alike reads changed. -/
theorem tblGet_map {β : Type} [DecidableEq β] (d : α) (f : α → β) (t : Tbl α) (i : Nat) :
    tblGet (f d) (tblMap (f d) f t) i = f (tblGet d t i) := by
  induction t with
  | nil => rfl
  | cons e t ih =>
    unfold tblMap at *
    rw [List.foldr_cons, tblGet_put]
    by_cases h : i = e.1
    · simp [h, tblGet]
    · simp [h, tblGet, Ne.symm h, ih]

section
variable [DecidableEq α] (d : α)

theorem tblWfFrom_weaken (lo : Option Nat) (t : Tbl α) (h : tblWfFrom d lo t = true) : tblWfFrom d none t = true := by
  cases t with
  | nil => rfl
  | cons e t => simp [tblWfFrom] at *; exact ⟨h.1.2, h.2⟩

theorem tblWfFrom_lower (a b : Nat) (hab : a ≤ b) (t : Tbl α) (h : tblWfFrom d (some b) t = true) : tblWfFrom d (some a) t = true := by
  cases t with
  | nil => rfl
  | cons e t => simp [tblWfFrom] at *; exact ⟨⟨by omega, h.1.2⟩, h.2⟩

theorem tblWfFrom_filter (p : Nat × α → Bool) (t : Tbl α) : ∀ lo, tblWfFrom d lo t = true → tblWfFrom d lo (t.filter p) = true := by
  induction t with
  | nil => intro _ _; rfl
  | cons e t ih =>
    intro lo h
    obtain ⟨k, w⟩ := e
    simp only [tblWfFrom, Bool.and_eq_true] at h
    by_cases hp : p (k, w)
    · simp only [List.filter_cons, hp, if_true, tblWfFrom, Bool.and_eq_true]
      exact ⟨h.1, ih _ h.2⟩
    · simp only [List.filter_cons, hp]
      have h3 := ih _ h.2
      cases lo with
      | none => exact tblWfFrom_weaken d _ _ h3
      | some l => exact tblWfFrom_lower d l k (Nat.le_of_lt (by simp at h; exact h.1.1)) _ h3

theorem tblWfFrom_ins (i : Nat) (v : α) (hv : v ≠ d) (t : Tbl α) : ∀ lo, (∀ l, lo = some l → l < i) → tblWfFrom d lo t = true →
    tblWfFrom d lo (tblIns i v t) = true := by
  induction t with
  | nil => intro lo hl _; cases lo <;> simp [tblIns, tblWfFrom, hv] ; exact hl _ rfl
  | cons e t ih =>
    intro lo hl h
    obtain ⟨k, w⟩ := e
    simp only [tblWfFrom, Bool.and_eq_true] at h
    unfold tblIns
    split
    · rename_i hik
      simp only [tblWfFrom, Bool.and_eq_true, h.1.2, h.2, decide_eq_true_eq]
      refine ⟨⟨?_, by simpa using hv⟩, ⟨by simpa using hik, by simpa using h.1.2⟩, trivial⟩
      cases lo with
      | none => rfl
      | some l => simpa using hl l rfl
    · split
      · rename_i _ hk
        subst hk
        simp only [tblWfFrom, Bool.and_eq_true]
        exact ⟨⟨h.1.1, by simpa using hv⟩, h.2⟩
      · rename_i h1 h2
        simp only [tblWfFrom, Bool.and_eq_true]
        exact ⟨h.1, ih _ (by intro l e; cases e; omega) h.2⟩

/-- A table in canonical form stays in it when an entry is put. -/
theorem tblWf_put (i : Nat) (v : α) (t : Tbl α) (h : tblWf d t = true) : tblWf d (tblPut d i v t) = true := by
  unfold tblPut
  split
  · exact tblWfFrom_filter d _ t none h
  · rename_i hv; exact tblWfFrom_ins d i v hv t none (by simp) h

theorem tblWf_filter (p : Nat × α → Bool) (t : Tbl α) (h : tblWf d t = true) : tblWf d (t.filter p) = true :=
  tblWfFrom_filter d p t none h

end

end Sys2Proof.Machine
end

