-- ==== Sys2Proof/Laws/Dram.lean ====
section
/-!
SUPPORT. What reads and writes of DRAM lines do to their channel and to the machine.
-/
namespace Sys2Proof.Machine

theorem dchan_upd (c k : Nat) (f : DmcChan → DmcChan) (s : State) :
    (dchanUpd c f s).dchan k = if k = c then f (s.dchan c) else s.dchan k := by
  unfold dchanUpd State.dchan
  exact tblGet_upd _ _ _ _ _

/-- A request that wakes a channel fails none. -/
theorem wakeChan_failed (c k : Nat) (s : State) : ((wakeChan c s).dchan k).failed = (s.dchan k).failed := by
  unfold wakeChan
  split
  · rw [dchan_upd]
    split
    · rename_i h; rw [h]
    · rfl
  · rfl

/-- A row opened, kept or closed fails no channel. -/
theorem touchRow_failed (rq l k : Nat) (s : State) : ((touchRow rq l s).dchan k).failed = (s.dchan k).failed := by
  unfold touchRow
  dsimp only
  rw [dchan_upd]
  split
  · rename_i h; rw [h]
  · rfl

/-- A clean read of a line reaches its channel alone; it answers poison where the channel has failed or the line is poisoned
(R297, R319). -/
theorem readLine_clean (rq l : Nat) (s : State) :
    (∃ d, (readLine rq l .clean s).1 = { s with dmc := d }) ∧
    (∀ k, ((readLine rq l .clean s).1.dchan k).failed = (s.dchan k).failed) ∧
    (readLine rq l .clean s).2 = ((s.dchan (s.site (l * lineBytes)).channel).failed || s.poison.contains l) := by
  unfold readLine
  dsimp only
  generalize hc : (s.site (l * lineBytes)).channel = c
  generalize hu : dchanUpd c (fun x => { x with tickRd := x.tickRd + 64 }) (touchRow rq l (wakeChan c s)) = u
  have u1 : ∃ d, u = { s with dmc := d } := by
    rw [← hu]
    unfold wakeChan dchanUpd
    split <;> exact ⟨_, rfl⟩
  have uf : ∀ k, (u.dchan k).failed = (s.dchan k).failed := by
    intro k
    rw [← hu, dchan_upd]
    split
    · rename_i h; subst h; exact (touchRow_failed _ _ _ _).trans (wakeChan_failed _ _ _)
    · exact (touchRow_failed _ _ _ _).trans (wakeChan_failed _ _ _)
  have up : u.poison = s.poison := by obtain ⟨d, e⟩ := u1; rw [e]
  clear hu
  split
  · rename_i h
    exact ⟨u1, uf, by rw [uf] at h; rw [h]; rfl⟩
  · rename_i h
    rw [uf] at h
    simp only [Bool.not_eq_true] at h
    split
    · rename_i hp
      rw [up] at hp
      refine ⟨?_, ?_, by rw [h, hp]; rfl⟩
      · obtain ⟨d, e⟩ := u1
        rw [e]
        exact ⟨_, rfl⟩
      · intro k
        rw [dchan_upd]
        split
        · rename_i hk; subst hk; exact uf _
        · exact uf k
    · rename_i hp
      rw [up] at hp
      exact ⟨u1, uf, by rw [h]; simpa using hp⟩

/-- Clean reads of the lines of a list. -/
def readsOf (rq g : Nat) (l : List Nat) (t : State × Bool) : State × Bool :=
  l.foldl (fun t k => ((readLine rq (g * 64 + k) .clean t.1).1, t.2 || (readLine rq (g * 64 + k) .clean t.1).2)) t

theorem readsOf_clean (rq g : Nat) (s : State) (l : List Nat) : ∀ t : State × Bool, (∃ d, t.1 = { s with dmc := d }) →
    (∀ k, (t.1.dchan k).failed = (s.dchan k).failed) →
    (∃ d, (readsOf rq g l t).1 = { s with dmc := d }) ∧
    (readsOf rq g l t).2 = (t.2 || l.any fun k =>
      ((s.dchan (s.site ((g * 64 + k) * lineBytes)).channel).failed || s.poison.contains (g * 64 + k))) := by
  induction l with
  | nil => intro t h _; exact ⟨h, by simp [readsOf]⟩
  | cons k l ih =>
    intro t h hf
    obtain ⟨⟨d, e1⟩, e2, e3⟩ := readLine_clean rq (g * 64 + k) t.1
    have hs : t.1.site ((g * 64 + k) * lineBytes) = s.site ((g * 64 + k) * lineBytes) := by obtain ⟨d, e⟩ := h; rw [e]; rfl
    have hp : t.1.poison = s.poison := by obtain ⟨d, e⟩ := h; rw [e]
    rw [hs, hp, hf] at e3
    have := ih ((readLine rq (g * 64 + k) .clean t.1).1, t.2 || (readLine rq (g * 64 + k) .clean t.1).2)
      (by obtain ⟨d', e⟩ := h; rw [e1, e]; exact ⟨_, rfl⟩) (fun j => (e2 j).trans (hf j))
    refine ⟨this.1, ?_⟩
    rw [List.any_cons, ← Bool.or_assoc, ← e3]
    exact this.2

/-- Clean reads of a granule's lines reach the channels alone; together they answer poison where one of them does. -/
theorem readGranule_clean (g : Nat) (s : State) :
    (∃ d, (readGranule g [] s).1 = { s with dmc := d }) ∧
    (readGranule g [] s).2 = (List.range 64).any fun k =>
      ((s.dchan (s.site ((g * 64 + k) * lineBytes)).channel).failed || s.poison.contains (g * 64 + k)) := by
  unfold readGranule
  dsimp only
  generalize hr : (if s.saving then 3 else 2) = rq
  generalize hv : ((s.drn.path.find? fun i => i.granule == g).elim s fun i => countL3 rq i.us 0 64 s) = v
  have v1 : ∃ d, v = { s with dmc := d } ∧ d.chans = s.dmc.chans := by
    rw [← hv]
    cases s.drn.path.find? fun i => i.granule == g with
    | none => exact ⟨s.dmc, rfl, rfl⟩
    | some i =>
      show ∃ d, countL3 rq i.us 0 64 s = { s with dmc := d } ∧ d.chans = s.dmc.chans
      unfold countL3
      split <;> exact ⟨_, rfl, rfl⟩
  obtain ⟨d, e, ec⟩ := v1
  have vf : ∀ k, (v.dchan k).failed = (s.dchan k).failed := by intro k; unfold State.dchan; rw [e]; dsimp only; rw [ec]
  have h := readsOf_clean rq g s (List.range 64) (v, false) ⟨d, e⟩ vf
  exact ⟨h.1, h.2.trans (Bool.false_or _)⟩

end Sys2Proof.Machine
end

