-- ==== Sys2Proof/Laws/Exec.lean ====
section
/-!
SUPPORT. Each arm of exec as a rewriting: the command at hand is its meaning.
-/
namespace Sys2Proof.Machine

variable (s : State)

@[simp] theorem exec_vaonRise {recoverLow} : exec (.vaonRise recoverLow) s = execVaonRise recoverLow s := rfl
@[simp] theorem exec_vaonFall : exec .vaonFall s = execVaonFall s := rfl
@[simp] theorem exec_mainDomainRelease : exec .mainDomainRelease s = execMainDomainRelease s := rfl
@[simp] theorem exec_mainRailFail : exec .mainRailFail s = execMainRailFail s := rfl
@[simp] theorem exec_startDevice {env} : exec (.startDevice env) s = execStartDevice env s := rfl
@[simp] theorem exec_trainingCheckpoint {channel step set result} : exec (.trainingCheckpoint channel step set result) s = execTrainingCheckpoint channel step set result s := rfl
@[simp] theorem exec_hostReady : exec .hostReady s = execHostReady s := rfl
@[simp] theorem exec_powerGood {elapsedMs} : exec (.powerGood elapsedMs) s = execPowerGood elapsedMs s := rfl
@[simp] theorem exec_pinReset : exec .pinReset s = execPinReset s := rfl
@[simp] theorem exec_rstNReject : exec .rstNReject s = execRstNReject s := rfl
@[simp] theorem exec_headReset {head} : exec (.headReset head) s = execHeadReset head s := rfl
@[simp] theorem exec_powerFailDetection {vmain sinceNs} : exec (.powerFailDetection vmain sinceNs) s = execPowerFailDetection vmain sinceNs s := rfl
@[simp] theorem exec_glitchReject : exec .glitchReject s = execGlitchReject s := rfl
@[simp] theorem exec_harvestNow {head gen sealCritical} : exec (.harvestNow head gen sealCritical) s = execHarvestNow head gen sealCritical s := rfl
@[simp] theorem exec_econsPublish {phyAOff phyBOff} : exec (.econsPublish phyAOff phyBOff) s = execEconsPublish phyAOff phyBOff s := rfl
@[simp] theorem exec_dataPhaseEnd {phyAOff phyBOff} : exec (.dataPhaseEnd phyAOff phyBOff) s = execDataPhaseEnd phyAOff phyBOff s := rfl
@[simp] theorem exec_tailComplete {canSign copyA copyB} : exec (.tailComplete canSign copyA copyB) s = execTailComplete canSign copyA copyB s := rfl
@[simp] theorem exec_sealSave {backA backB recordOk} : exec (.sealSave backA backB recordOk) s = execSealSave backA backB recordOk s := rfl
@[simp] theorem exec_vabsRelease : exec .vabsRelease s = execVabsRelease s := rfl
@[simp] theorem exec_governorTick : exec .governorTick s = execGovernorTick s := rfl
@[simp] theorem exec_armDevice : exec .armDevice s = execArmDevice s := rfl
@[simp] theorem exec_wearDayBoundary : exec .wearDayBoundary s = execWearDayBoundary s := rfl
@[simp] theorem exec_wearHourlyCommit : exec .wearHourlyCommit s = execWearHourlyCommit s := rfl
@[simp] theorem exec_salSample {vbkUv ibk} : exec (.salSample vbkUv ibk) s = execSalSample vbkUv ibk s := rfl
@[simp] theorem exec_eusePublish {ntc0 ntc1 vmainUv adcFail} : exec (.eusePublish ntc0 ntc1 vmainUv adcFail) s = execEusePublish ntc0 ntc1 vmainUv adcFail s := rfl
@[simp] theorem exec_packRemoved : exec .packRemoved s = execPackRemoved s := rfl
@[simp] theorem exec_socReanchor : exec .socReanchor s = execSocReanchor s := rfl
@[simp] theorem exec_pmbusPoll {target reading nacks sdaHeld} : exec (.pmbusPoll target reading nacks sdaHeld) s = execPmbusPoll target reading nacks sdaHeld s := rfl
@[simp] theorem exec_pmbusTargetAbsent {target} : exec (.pmbusTargetAbsent target) s = execPmbusTargetAbsent target s := rfl
@[simp] theorem exec_learnInterval : exec .learnInterval s = execLearnInterval s := rfl
@[simp] theorem exec_startLearn {port} : exec (.startLearn port) s = execStartLearn port s := rfl
@[simp] theorem exec_abortLearn {port} : exec (.abortLearn port) s = execAbortLearn port s := rfl
@[simp] theorem exec_newSource {port} : exec (.newSource port) s = execNewSource port s := rfl
@[simp] theorem exec_learnL1BacklogMet : exec .learnL1BacklogMet s = execLearnL1BacklogMet s := rfl
@[simp] theorem exec_learnL1Timeout : exec .learnL1Timeout s = execLearnL1Timeout s := rfl
@[simp] theorem exec_learnEsrMeasure : exec .learnEsrMeasure s = execLearnEsrMeasure s := rfl
@[simp] theorem exec_learnDischargeEnd : exec .learnDischargeEnd s = execLearnDischargeEnd s := rfl
@[simp] theorem exec_learnDischargeTimeout : exec .learnDischargeTimeout s = execLearnDischargeTimeout s := rfl
@[simp] theorem exec_learnRestEnd : exec .learnRestEnd s = execLearnRestEnd s := rfl
@[simp] theorem exec_learnComplete : exec .learnComplete s = execLearnComplete s := rfl
@[simp] theorem exec_sealNonce {head gen} : exec (.sealNonce head gen) s = execSealNonce head gen s := rfl
@[simp] theorem exec_sealBreak {head gen token strapLow} : exec (.sealBreak head gen token strapLow) s = execSealBreak head gen token strapLow s := rfl
@[simp] theorem exec_sealClose {head gen} : exec (.sealClose head gen) s = execSealClose head gen s := rfl
@[simp] theorem exec_sealAbandon {cause} : exec (.sealAbandon cause) s = execSealAbandon cause s := rfl
@[simp] theorem exec_calibrationWrite {port offset value} : exec (.calibrationWrite port offset value) s = execCalibrationWrite port offset value s := rfl
@[simp] theorem exec_nonceExpiry {kind port} : exec (.nonceExpiry kind port) s = execNonceExpiry kind port s := rfl
@[simp] theorem exec_markGranule {granule damage} : exec (.markGranule granule damage) s = execMarkGranule granule damage s := rfl
@[simp] theorem exec_claimGranule {touch} : exec (.claimGranule touch) s = execClaimGranule touch s := rfl
@[simp] theorem exec_commitGranule {touch entry} : exec (.commitGranule touch entry) s = execCommitGranule touch entry s := rfl
@[simp] theorem exec_abandonGranule {granule} : exec (.abandonGranule granule) s = execAbandonGranule granule s := rfl
@[simp] theorem exec_cacheFillComplete {region uncorrectable} : exec (.cacheFillComplete region uncorrectable) s = execCacheFillComplete region uncorrectable s := rfl
@[simp] theorem exec_epochAdvance : exec .epochAdvance s = execEpochAdvance s := rfl
@[simp] theorem exec_auditRegion {region damage} : exec (.auditRegion region damage) s = execAuditRegion region damage s := rfl
@[simp] theorem exec_drainSlot {quota} : exec (.drainSlot quota) s = execDrainSlot quota s := rfl
@[simp] theorem exec_drainReadComplete {granule errors length lane} : exec (.drainReadComplete granule errors length lane) s = execDrainReadComplete granule errors length lane s := rfl
@[simp] theorem exec_partialPageTimeout {rowSeq channel stripe} : exec (.partialPageTimeout rowSeq channel stripe) s = execPartialPageTimeout rowSeq channel stripe s := rfl
@[simp] theorem exec_pageProgramComplete {rowSeq channel stripe tenthUs} : exec (.pageProgramComplete rowSeq channel stripe tenthUs) s = execPageProgramComplete rowSeq channel stripe tenthUs s := rfl
@[simp] theorem exec_programFail {rowSeq channel stripe} : exec (.programFail rowSeq channel stripe) s = execProgramFail rowSeq channel stripe s := rfl
@[simp] theorem exec_drainTimeout {granule} : exec (.drainTimeout granule) s = execDrainTimeout granule s := rfl
@[simp] theorem exec_stripeTimeout {rowSeq stripe} : exec (.stripeTimeout rowSeq stripe) s = execStripeTimeout rowSeq stripe s := rfl
@[simp] theorem exec_mapSegmentTimeout : exec .mapSegmentTimeout s = execMapSegmentTimeout s := rfl
@[simp] theorem exec_lostPage {rowSeq channel stripe} : exec (.lostPage rowSeq channel stripe) s = execLostPage rowSeq channel stripe s := rfl
@[simp] theorem exec_pauseDrain {port} : exec (.pauseDrain port) s = execPauseDrain port s := rfl
@[simp] theorem exec_resumeDrain {port} : exec (.resumeDrain port) s = execResumeDrain port s := rfl
@[simp] theorem exec_pauseMaxExpiry : exec .pauseMaxExpiry s = execPauseMaxExpiry s := rfl
@[simp] theorem exec_hostMemRead {head hpa tag dram latencyNs} : exec (.hostMemRead head hpa tag dram latencyNs) s = execHostMemRead head hpa tag dram latencyNs s := rfl
@[simp] theorem exec_hostMemWrite {head hpa tag data poison posted mergeBad} : exec (.hostMemWrite head hpa tag data poison posted mergeBad) s = execHostMemWrite head hpa tag data poison posted mergeBad s := rfl
@[simp] theorem exec_demandFetchComplete {granule outcome us} : exec (.demandFetchComplete granule outcome us) s = execDemandFetchComplete granule outcome us s := rfl
@[simp] theorem exec_postedCreditResume : exec .postedCreditResume s = execPostedCreditResume s := rfl
@[simp] theorem exec_globalPersistentFlush {head} : exec (.globalPersistentFlush head) s = execGlobalPersistentFlush head s := rfl
@[simp] theorem exec_backgroundRestoreGranule {outcome} : exec (.backgroundRestoreGranule outcome) s = execBackgroundRestoreGranule outcome s := rfl
@[simp] theorem exec_zeroStreamGranule : exec .zeroStreamGranule s = execZeroStreamGranule s := rfl
@[simp] theorem exec_nandReadComplete {rowSeq channel stripe ladder check tenthUs} : exec (.nandReadComplete rowSeq channel stripe ladder check tenthUs) s = execNandReadComplete rowSeq channel stripe ladder check tenthUs s := rfl
@[simp] theorem exec_rakeMove {item} : exec (.rakeMove item) s = execRakeMove item s := rfl
@[simp] theorem exec_rowErase {rowSeq} : exec (.rowErase rowSeq) s = execRowErase rowSeq s := rfl
@[simp] theorem exec_eraseComplete {channel die block ok} : exec (.eraseComplete channel die block ok) s = execEraseComplete channel die block ok s := rfl
@[simp] theorem exec_storePatrol {queue} : exec (.storePatrol queue) s = execStorePatrol queue s := rfl
@[simp] theorem exec_zqCalibration : exec .zqCalibration s = execZqCalibration s := rfl
@[simp] theorem exec_dieResetTimeout {channel die} : exec (.dieResetTimeout channel die) s = execDieResetTimeout channel die s := rfl
@[simp] theorem exec_writeBatch {channel ns} : exec (.writeBatch channel ns) s = execWriteBatch channel ns s := rfl
@[simp] theorem exec_deviceMark {channel k device} : exec (.deviceMark channel k device) s = execDeviceMark channel k device s := rfl
@[simp] theorem exec_refresh {channel due} : exec (.refresh channel due) s = execRefresh channel due s := rfl
@[simp] theorem exec_mr4Poll {channel rate} : exec (.mr4Poll channel rate) s = execMr4Poll channel rate s := rfl
@[simp] theorem exec_patrolScrub {dram} : exec (.patrolScrub dram) s = execPatrolScrub dram s := rfl
@[simp] theorem exec_shadowSetChange {set firmware} : exec (.shadowSetChange set firmware) s = execShadowSetChange set firmware s := rfl
@[simp] theorem exec_idleSelfRefresh {channel} : exec (.idleSelfRefresh channel) s = execIdleSelfRefresh channel s := rfl
@[simp] theorem exec_dramChannelFailure {channel cause} : exec (.dramChannelFailure channel cause) s = execDramChannelFailure channel cause s := rfl
@[simp] theorem exec_panPolicyWrite {port reg value} : exec (.panPolicyWrite port reg value) s = execPanPolicyWrite port reg value s := rfl
@[simp] theorem exec_dqsTrack {channel device drift} : exec (.dqsTrack channel device drift) s = execDqsTrack channel device drift s := rfl
@[simp] theorem exec_fullNext {port} : exec (.fullNext port) s = execFullNext port s := rfl
@[simp] theorem exec_trnCancel {port} : exec (.trnCancel port) s = execTrnCancel port s := rfl
@[simp] theorem exec_thermalSample {readings} : exec (.thermalSample readings) s = execThermalSample readings s := rfl
@[simp] theorem exec_throttleStepAdvance : exec .throttleStepAdvance s = execThrottleStepAdvance s := rfl
@[simp] theorem exec_throttleStepBack : exec .throttleStepBack s = execThrottleStepBack s := rfl
@[simp] theorem exec_thermalRestart : exec .thermalRestart s = execThermalRestart s := rfl
@[simp] theorem exec_fastSamplingEnd : exec .fastSamplingEnd s = execFastSamplingEnd s := rfl
@[simp] theorem exec_faultEvent {source unit detail edge} : exec (.faultEvent source unit detail edge) s = execFaultEvent source unit detail edge s := rfl
@[simp] theorem exec_blockResetComplete {block ok} : exec (.blockResetComplete block ok) s = execBlockResetComplete block ok s := rfl
@[simp] theorem exec_wirefault {line on} : exec (.wirefault line on) s = execWirefault line on s := rfl
@[simp] theorem exec_faultWindowExpiry {source} : exec (.faultWindowExpiry source) s = execFaultWindowExpiry source s := rfl
@[simp] theorem exec_trapReturn : exec .trapReturn s = execTrapReturn s := rfl
@[simp] theorem exec_acknowledgeClass {port mask} : exec (.acknowledgeClass port mask) s = execAcknowledgeClass port mask s := rfl
@[simp] theorem exec_clearSticky {port isSevere word mask} : exec (.clearSticky port isSevere word mask) s = execClearSticky port isSevere word mask s := rfl
@[simp] theorem exec_clearFirst {port} : exec (.clearFirst port) s = execClearFirst port s := rfl
@[simp] theorem exec_tallyTrigger {code level arg} : exec (.tallyTrigger code level arg) s = execTallyTrigger code level arg s := rfl
@[simp] theorem exec_tallyRecordWrite {reserveOk} : exec (.tallyRecordWrite reserveOk) s = execTallyRecordWrite reserveOk s := rfl
@[simp] theorem exec_tallyMirror {ok} : exec (.tallyMirror ok) s = execTallyMirror ok s := rfl
@[simp] theorem exec_softwareTrigger {port value} : exec (.softwareTrigger port value) s = execSoftwareTrigger port value s := rfl
@[simp] theorem exec_cellarProgram {user sector word data} : exec (.cellarProgram user sector word data) s = execCellarProgram user sector word data s := rfl
@[simp] theorem exec_cellarProgramDone {steps ok} : exec (.cellarProgramDone steps ok) s = execCellarProgramDone steps ok s := rfl
@[simp] theorem exec_cellarErase {user sector} : exec (.cellarErase user sector) s = execCellarErase user sector s := rfl
@[simp] theorem exec_cellarEraseDone {steps ok} : exec (.cellarEraseDone steps ok) s = execCellarEraseDone steps ok s := rfl
@[simp] theorem exec_cellarRead {sector word attempts fetch waitUs} : exec (.cellarRead sector word attempts fetch waitUs) s = execCellarRead sector word attempts fetch waitUs s := rfl
@[simp] theorem exec_wdCountClear : exec .wdCountClear s = execWdCountClear s := rfl
@[simp] theorem exec_confirmTrial : exec .confirmTrial s = execConfirmTrial s := rfl
@[simp] theorem exec_linkUp {head rate width ide} : exec (.linkUp head rate width ide) s = execLinkUp head rate width ide s := rfl
@[simp] theorem exec_linkDown {head} : exec (.linkDown head) s = execLinkDown head s := rfl
@[simp] theorem exec_graceExpiry {head} : exec (.graceExpiry head) s = execGraceExpiry head s := rfl
@[simp] theorem exec_semAcquire {head cell gen tie} : exec (.semAcquire head cell gen tie) s = execSemAcquire head cell gen tie s := rfl
@[simp] theorem exec_semRelease {head cell gen} : exec (.semRelease head cell gen) s = execSemRelease head cell gen s := rfl
@[simp] theorem exec_getChapenVersion {head} : exec (.getChapenVersion head) s = execGetChapenVersion head s := rfl
@[simp] theorem exec_setChapenVersion {head major minor} : exec (.setChapenVersion head major minor) s = execSetChapenVersion head major minor s := rfl
@[simp] theorem exec_getPersistenceStatus {head} : exec (.getPersistenceStatus head) s = execGetPersistenceStatus head s := rfl
@[simp] theorem exec_releaseHeldAccess {head gen} : exec (.releaseHeldAccess head gen) s = execReleaseHeldAccess head gen s := rfl
@[simp] theorem exec_getPanRoles {head first count} : exec (.getPanRoles head first count) s = execGetPanRoles head first count s := rfl
@[simp] theorem exec_setPanRoles {head gen force changes commitOk} : exec (.setPanRoles head gen force changes commitOk) s = execSetPanRoles head gen force changes commitOk s := rfl
@[simp] theorem exec_unlockDevice {head gen secret} : exec (.unlockDevice head gen secret) s = execUnlockDevice head gen secret s := rfl
@[simp] theorem exec_setUnlockSecret {head gen current new commitOk} : exec (.setUnlockSecret head gen current new commitOk) s = execSetUnlockSecret head gen current new commitOk s := rfl
@[simp] theorem exec_sanitize {head gen confirmation} : exec (.sanitize head gen confirmation) s = execSanitize head gen confirmation s := rfl
@[simp] theorem exec_cryptoErase {interrupted} : exec (.cryptoErase interrupted) s = execCryptoErase interrupted s := rfl
@[simp] theorem exec_tallyClearNonce {head gen} : exec (.tallyClearNonce head gen) s = execTallyClearNonce head gen s := rfl
@[simp] theorem exec_clearTally {head gen token commitOk} : exec (.clearTally head gen token commitOk) s = execClearTally head gen token commitOk s := rfl
@[simp] theorem exec_getUpdateStatus {head} : exec (.getUpdateStatus head) s = execGetUpdateStatus head s := rfl
@[simp] theorem exec_scheduleActivation {head gen version} : exec (.scheduleActivation head gen version) s = execScheduleActivation head gen version s := rfl
@[simp] theorem exec_cancelActivation {head gen} : exec (.cancelActivation head gen) s = execCancelActivation head gen s := rfl
@[simp] theorem exec_stageLayout {head gen chunk commitOk} : exec (.stageLayout head gen chunk commitOk) s = execStageLayout head gen chunk commitOk s := rfl
@[simp] theorem exec_readJournal {head typ seq count} : exec (.readJournal head typ seq count) s = execReadJournal head typ seq count s := rfl
@[simp] theorem exec_unsupportedCommand {head opcode} : exec (.unsupportedCommand head opcode) s = execUnsupportedCommand head opcode s := rfl
@[simp] theorem exec_getEventRecords {head log} : exec (.getEventRecords head log) s = execGetEventRecords head log s := rfl
@[simp] theorem exec_clearEventRecords {head log handles} : exec (.clearEventRecords head log handles) s = execClearEventRecords head log handles s := rfl
@[simp] theorem exec_getEventInterruptPolicy {head} : exec (.getEventInterruptPolicy head) s = execGetEventInterruptPolicy head s := rfl
@[simp] theorem exec_setEventInterruptPolicy {head policy} : exec (.setEventInterruptPolicy head policy) s = execSetEventInterruptPolicy head policy s := rfl
@[simp] theorem exec_getFwInfo {head} : exec (.getFwInfo head) s = execGetFwInfo head s := rfl
@[simp] theorem exec_getTimestamp {head} : exec (.getTimestamp head) s = execGetTimestamp head s := rfl
@[simp] theorem exec_setTimestamp {head value} : exec (.setTimestamp head value) s = execSetTimestamp head value s := rfl
@[simp] theorem exec_getSupportedLogs {head} : exec (.getSupportedLogs head) s = execGetSupportedLogs head s := rfl
@[simp] theorem exec_getLog {head offset length} : exec (.getLog head offset length) s = execGetLog head offset length s := rfl
@[simp] theorem exec_identifyMemoryDevice {head} : exec (.identifyMemoryDevice head) s = execIdentifyMemoryDevice head s := rfl
@[simp] theorem exec_getHealthInfo {head} : exec (.getHealthInfo head) s = execGetHealthInfo head s := rfl
@[simp] theorem exec_getAlertConfiguration {head} : exec (.getAlertConfiguration head) s = execGetAlertConfiguration head s := rfl
@[simp] theorem exec_setAlertConfiguration {head cfg} : exec (.setAlertConfiguration head cfg) s = execSetAlertConfiguration head cfg s := rfl
@[simp] theorem exec_setShutdownState {head state} : exec (.setShutdownState head state) s = execSetShutdownState head state s := rfl
@[simp] theorem exec_getPoisonList {head dpa length} : exec (.getPoisonList head dpa length) s = execGetPoisonList head dpa length s := rfl
@[simp] theorem exec_injectPoison {head dpa} : exec (.injectPoison head dpa) s = execInjectPoison head dpa s := rfl
@[simp] theorem exec_clearPoison {head dpa data} : exec (.clearPoison head dpa data) s = execClearPoison head dpa data s := rfl
@[simp] theorem exec_getDynamicCapacityConfiguration {head} : exec (.getDynamicCapacityConfiguration head) s = execGetDynamicCapacityConfiguration head s := rfl
@[simp] theorem exec_getDynamicCapacityExtentList {head first count} : exec (.getDynamicCapacityExtentList head first count) s = execGetDynamicCapacityExtentList head first count s := rfl
@[simp] theorem exec_addDynamicCapacityResponse {head pans} : exec (.addDynamicCapacityResponse head pans) s = execAddDynamicCapacityResponse head pans s := rfl
@[simp] theorem exec_releaseDynamicCapacity {head pans} : exec (.releaseDynamicCapacity head pans) s = execReleaseDynamicCapacity head pans s := rfl
@[simp] theorem exec_malformedMailboxCommand {head opcode} : exec (.malformedMailboxCommand head opcode) s = execMalformedMailboxCommand head opcode s := rfl
@[simp] theorem exec_getVersion {head} : exec (.getVersion head) s = execGetVersion head s := rfl
@[simp] theorem exec_getCapabilities {head} : exec (.getCapabilities head) s = execGetCapabilities head s := rfl
@[simp] theorem exec_negotiateAlgorithms {head common} : exec (.negotiateAlgorithms head common) s = execNegotiateAlgorithms head common s := rfl
@[simp] theorem exec_getDigests {head} : exec (.getDigests head) s = execGetDigests head s := rfl
@[simp] theorem exec_getCertificate {head slot offset length large} : exec (.getCertificate head slot offset length large) s = execGetCertificate head slot offset length large s := rfl
@[simp] theorem exec_challenge {head} : exec (.challenge head) s = execChallenge head s := rfl
@[simp] theorem exec_getMeasurements {head index sign large} : exec (.getMeasurements head index sign large) s = execGetMeasurements head index sign large s := rfl
@[simp] theorem exec_keyExchange {head} : exec (.keyExchange head) s = execKeyExchange head s := rfl
@[simp] theorem exec_spdmFinish {head verified} : exec (.spdmFinish head verified) s = execSpdmFinish head verified s := rfl
@[simp] theorem exec_heartbeat {head} : exec (.heartbeat head) s = execHeartbeat head s := rfl
@[simp] theorem exec_keyUpdate {head} : exec (.keyUpdate head) s = execKeyUpdate head s := rfl
@[simp] theorem exec_endSession {head} : exec (.endSession head) s = execEndSession head s := rfl
@[simp] theorem exec_chunkSend {head chunk last} : exec (.chunkSend head chunk last) s = execChunkSend head chunk last s := rfl
@[simp] theorem exec_chunkGet {head length} : exec (.chunkGet head length) s = execChunkGet head length s := rfl
@[simp] theorem exec_ideKeyManagement {head} : exec (.ideKeyManagement head) s = execIdeKeyManagement head s := rfl
@[simp] theorem exec_cdatTableAccess {head} : exec (.cdatTableAccess head) s = execCdatTableAccess head s := rfl
@[simp] theorem exec_readStatus : exec .readStatus s = execReadStatus s := rfl
@[simp] theorem exec_readFrame : exec .readFrame s = execReadFrame s := rfl
@[simp] theorem exec_portReset : exec .portReset s = execPortReset s := rfl
@[simp] theorem exec_rakeFrameError {err} : exec (.rakeFrameError err) s = execRakeFrameError err s := rfl
@[simp] theorem exec_hello {tag high minor low} : exec (.hello tag high minor low) s = execHello tag high minor low s := rfl
@[simp] theorem exec_identify {tag} : exec (.identify tag) s = execIdentify tag s := rfl
@[simp] theorem exec_regRead {tag offset count} : exec (.regRead tag offset count) s = execRegRead tag offset count s := rfl
@[simp] theorem exec_regWrite {tag offset value} : exec (.regWrite tag offset value) s = execRegWrite tag offset value s := rfl
@[simp] theorem exec_getNonce {tag kind} : exec (.getNonce tag kind) s = execGetNonce tag kind s := rfl
@[simp] theorem exec_rakeSealBreak {tag token strapLow} : exec (.rakeSealBreak tag token strapLow) s = execRakeSealBreak tag token strapLow s := rfl
@[simp] theorem exec_rakeSealClose {tag} : exec (.rakeSealClose tag) s = execRakeSealClose tag s := rfl
@[simp] theorem exec_factoryReset {tag token} : exec (.factoryReset tag token) s = execFactoryReset tag token s := rfl
@[simp] theorem exec_calibrate {tag token osc bg} : exec (.calibrate tag token osc bg) s = execCalibrate tag token osc bg s := rfl
@[simp] theorem exec_installOwner {tag record wellFormed} : exec (.installOwner tag record wellFormed) s = execInstallOwner tag record wellFormed s := rfl
@[simp] theorem exec_transferOwner {tag token record} : exec (.transferOwner tag token record) s = execTransferOwner tag token record s := rfl
@[simp] theorem exec_dlBegin {tag length version} : exec (.dlBegin tag length version) s = execDlBegin tag length version s := rfl
@[simp] theorem exec_dlData {tag offset length image ok} : exec (.dlData tag offset length image ok) s = execDlData tag offset length image ok s := rfl
@[simp] theorem exec_dlEnd {tag} : exec (.dlEnd tag) s = execDlEnd tag s := rfl
@[simp] theorem exec_schedule {tag version} : exec (.schedule tag version) s = execSchedule tag version s := rfl
@[simp] theorem exec_cancel {tag} : exec (.cancel tag) s = execCancel tag s := rfl
@[simp] theorem exec_updateStatus {tag} : exec (.updateStatus tag) s = execUpdateStatus tag s := rfl
@[simp] theorem exec_bundleBegin {tag length} : exec (.bundleBegin tag length) s = execBundleBegin tag length s := rfl
@[simp] theorem exec_bundleData {tag offset length header} : exec (.bundleData tag offset length header) s = execBundleData tag offset length header s := rfl
@[simp] theorem exec_bundleEnd {tag digestOk image} : exec (.bundleEnd tag digestOk image) s = execBundleEnd tag digestOk image s := rfl
@[simp] theorem exec_journalRead {tag typ seq count} : exec (.journalRead tag typ seq count) s = execJournalRead tag typ seq count s := rfl
@[simp] theorem exec_registerWrite {port offset size value} : exec (.registerWrite port offset size value) s = execRegisterWrite port offset size value s := rfl
@[simp] theorem exec_telemetryPageRead {page pecError} : exec (.telemetryPageRead page pecError) s = execTelemetryPageRead page pecError s := rfl
@[simp] theorem exec_entdaa {address} : exec (.entdaa address) s = execEntdaa address s := rfl
@[simp] theorem exec_setdasa {static address} : exec (.setdasa static address) s = execSetdasa static address s := rfl
@[simp] theorem exec_rstdaa : exec .rstdaa s = execRstdaa s := rfl
@[simp] theorem exec_setnewda {address} : exec (.setnewda address) s = execSetnewda address s := rfl
@[simp] theorem exec_getpid : exec .getpid s = execGetpid s := rfl
@[simp] theorem exec_getbcr : exec .getbcr s = execGetbcr s := rfl
@[simp] theorem exec_getdcr : exec .getdcr s = execGetdcr s := rfl
@[simp] theorem exec_getstatus : exec .getstatus s = execGetstatus s := rfl
@[simp] theorem exec_getmwl : exec .getmwl s = execGetmwl s := rfl
@[simp] theorem exec_getmrl : exec .getmrl s = execGetmrl s := rfl
@[simp] theorem exec_enec {events} : exec (.enec events) s = execEnec events s := rfl
@[simp] theorem exec_disec {events} : exec (.disec events) s = execDisec events s := rfl
@[simp] theorem exec_aonClockStop : exec .aonClockStop s = execAonClockStop s := rfl
@[simp] theorem exec_aonClockRestore : exec .aonClockRestore s = execAonClockRestore s := rfl
@[simp] theorem exec_extest {rstLow} : exec (.extest rstLow) s = execExtest rstLow s := rfl
@[simp] theorem exec_idcode : exec .idcode s = execIdcode s := rfl
@[simp] theorem exec_samplePreload {value} : exec (.samplePreload value) s = execSamplePreload value s := rfl
@[simp] theorem exec_clamp {rstLow} : exec (.clamp rstLow) s = execClamp rstLow s := rfl
@[simp] theorem exec_highz {rstLow} : exec (.highz rstLow) s = execHighz rstLow s := rfl
@[simp] theorem exec_bypass {code} : exec (.bypass code) s = execBypass code s := rfl
@[simp] theorem exec_brinePortTrained {port1} : exec (.brinePortTrained port1) s = execBrinePortTrained port1 s := rfl
@[simp] theorem exec_brinePortDown {port1} : exec (.brinePortDown port1) s = execBrinePortDown port1 s := rfl
@[simp] theorem exec_idleFrame {port1 sent} : exec (.idleFrame port1 sent) s = execIdleFrame port1 sent s := rfl
@[simp] theorem exec_brineHello {port1 major minor groupId peer} : exec (.brineHello port1 major minor groupId peer) s = execBrineHello port1 major minor groupId peer s := rfl
@[simp] theorem exec_ringWhole : exec .ringWhole s = execRingWhole s := rfl
@[simp] theorem exec_joinFrame {gen units index digests} : exec (.joinFrame gen units index digests) s = execJoinFrame gen units index digests s := rfl
@[simp] theorem exec_statusFrame {unit state localOk eNeed chargeUc backlog} : exec (.statusFrame unit state localOk eNeed chargeUc backlog) s = execStatusFrame unit state localOk eNeed chargeUc backlog s := rfl
@[simp] theorem exec_armFrame {armed whole unitBits eUse chargeUc} : exec (.armFrame armed whole unitBits eUse chargeUc) s = execArmFrame armed whole unitBits eUse chargeUc s := rfl
@[simp] theorem exec_armTimeout : exec .armTimeout s = execArmTimeout s := rfl
@[simp] theorem exec_statusTimeout {unit} : exec (.statusTimeout unit) s = execStatusTimeout unit s := rfl
@[simp] theorem exec_trigFrame {unit cause} : exec (.trigFrame unit cause) s = execTrigFrame unit cause s := rfl
@[simp] theorem exec_goFrame {cause origin event sinceNs} : exec (.goFrame cause origin event sinceNs) s = execGoFrame cause origin event sinceNs s := rfl
@[simp] theorem exec_shareFrame {eT event} : exec (.shareFrame eT event) s = execShareFrame eT event s := rfl
@[simp] theorem exec_markerFrame {unit state version pendingSave devState} : exec (.markerFrame unit state version pendingSave devState) s = execMarkerFrame unit state version pendingSave devState s := rfl
@[simp] theorem exec_startFrame {codes} : exec (.startFrame codes) s = execStartFrame codes s := rfl
@[simp] theorem exec_groupStartTimeout : exec .groupStartTimeout s = execGroupStartTimeout s := rfl
@[simp] theorem exec_schedFrame {cancel version} : exec (.schedFrame cancel version) s = execSchedFrame cancel version s := rfl
@[simp] theorem exec_stageFrame {offset seq length spells entry} : exec (.stageFrame offset seq length spells entry) s = execStageFrame offset seq length spells entry s := rfl
@[simp] theorem exec_stageAckFrame {unit bytes status} : exec (.stageAckFrame unit bytes status) s = execStageAckFrame unit bytes status s := rfl
@[simp] theorem exec_staleFrame {frameGen} : exec (.staleFrame frameGen) s = execStaleFrame frameGen s := rfl
@[simp] theorem exec_hdmDecoderCommit {head index decoder} : exec (.hdmDecoderCommit head index decoder) s = execHdmDecoderCommit head index decoder s := rfl
@[simp] theorem exec_badOp {tag op} : exec (.badOp tag op) s = execBadOp tag op s := rfl
@[simp] theorem exec_discardedFrame {port1} : exec (.discardedFrame port1) s = execDiscardedFrame port1 s := rfl
@[simp] theorem exec_mainPowerReturned : exec .mainPowerReturned s = execMainPowerReturned s := rfl

end Sys2Proof.Machine
end

