-- ==== Sys2Proof/Laws/Faults.lean ====
section
/-!
SUPPORT. What an event of the Fault Collector can do: a reaction of level 2 or less, and any event while a save runs.
-/
namespace Sys2Proof.Machine

/-- A reaction of level 2 or less reaches the Collector's own registers and the heads' MSI-X vectors only (R369). -/
theorem fltReact_low {β : Type} (π : State → β)
    (h : ∀ (s : State) f a b, π { s with flt := f, heads := ⟨{ s.heads.a with msix := a }, { s.heads.b with msix := b }⟩ } = π s)
    (src l : Nat) (s : State) (hl : l ≤ 2) : π (fltReact src l s) = π s := by
  match l, hl with
  | 0, _ => rfl
  | 1, _ =>
    have e : ∀ x : HeadSt, (if x.up then { x with msix := setAdd 3 x.msix } else x) =
        { x with msix := if x.up then setAdd 3 x.msix else x.msix } := by intro x; split <;> rfl
    simp only [fltReact, reactLow, State.msix, e]
    exact h s _ _ _
  | 2, _ => exact h s _ s.heads.a.msix s.heads.b.msix

/-- What a Tally trigger of a change of state reaches: Tally, the Collector's own registers and the heads' MSI-X vectors (R369, R390). -/
theorem tlyTell_low {β : Type} (π : State → β)
    (h : ∀ (s : State) xf xt a b, π { s with flt := xf, tly := xt, heads := ⟨{ s.heads.a with msix := a }, { s.heads.b with msix := b }⟩ } = π s)
    (code arg : Nat) (s : State) : π (tlyTell code arg s) = π s := by
  have h1 : ∀ (s : State) xf xt, π { s with flt := xf, tly := xt } = π s := fun s xf xt => h s xf xt s.heads.a.msix s.heads.b.msix
  have h2 : ∀ (s : State) f a b, π { s with flt := f, heads := ⟨{ s.heads.a with msix := a }, { s.heads.b with msix := b }⟩ } = π s :=
    fun s f a b => h s f s.tly a b
  have k := tlyPut_only π h1 code 7 arg s
  unfold tlyTell
  dsimp only
  split
  · exact k
  · rename_i l _
    split
    · rename_i hl
      have e : ∀ u, reactLow l u = fltReact 0 l u := by
        intro u
        match l, hl with
        | 0, _ => rfl
        | 1, _ => rfl
        | 2, _ => rfl
      rw [e]
      exact (fltReact_low π h2 0 l _ hl).trans k
    · exact k

/-- No condition begins or ends with a Tally trigger. -/
theorem tlyTell_live (code arg : Nat) (s : State) : (tlyTell code arg s).flt.live = s.flt.live := by
  have hr : ∀ n u, (fltRecord n u).1.flt.live = u.flt.live := fun _ _ => rfl
  have hp : (tlyPut code 7 arg s).1.flt.live = s.flt.live := by
    unfold tlyPut tlyDrop
    split
    · rfl
    · dsimp only
      split
      · rfl
      · exact hr 0xE1 _
  unfold tlyTell reactLow
  dsimp only
  split
  · exact hp
  · split
    · split <;> exact hp
    · exact hp

/-- While a save runs, an event of a source that is not harvest-fatal is recorded, told to Tally and deferred, and nothing else (R378). -/
theorem fltRaise_saving {β : Type} (π : State → β)
    (h : ∀ (s : State) xf xt a b xp d, π { s with
      flt := xf, tly := xt, heads := ⟨{ s.heads.a with msix := a }, { s.heads.b with msix := b }⟩, pins := xp,
      hrv := { s.hrv with deferred := d } } = π s)
    (src arg : Nat) (s : State) (hs : s.saving = true) (hf : ∀ r, srcRow src = some r → r.hf = 0) : π (fltRaise src arg s) = π s := by
  have h1 : ∀ (s : State) xf, π { s with flt := xf } = π s :=
    fun s xf => h s xf s.tly s.heads.a.msix s.heads.b.msix s.pins s.hrv.deferred
  have h2 : ∀ (s : State) f a b, π { s with flt := f, heads := ⟨{ s.heads.a with msix := a }, { s.heads.b with msix := b }⟩ } = π s :=
    fun s f a b => h s f s.tly a b s.pins s.hrv.deferred
  have h3 : ∀ (s : State) xp, π { s with pins := xp } = π s :=
    fun s xp => h s s.flt s.tly s.heads.a.msix s.heads.b.msix xp s.hrv.deferred
  have h4 : ∀ (s : State) xf xt, π { s with flt := xf, tly := xt } = π s :=
    fun s xf xt => h s xf xt s.heads.a.msix s.heads.b.msix s.pins s.hrv.deferred
  have h5 : ∀ (s : State) d, π { s with hrv := { s.hrv with deferred := d } } = π s :=
    fun s d => h s s.flt s.tly s.heads.a.msix s.heads.b.msix s.pins d
  have he1 : ∀ l (s : State), l ≤ 2 → π (fltReact 0xE1 l s) = π s := fun l s hl => fltReact_low π h2 0xE1 l s hl
  unfold fltRaise
  cases hr : srcRow src with
  | none => rfl
  | some row =>
    have hz : row.hf = 0 := hf row hr
    dsimp only
    split
    · rfl
    · simp only [show (row.hf ≠ 0) = False by simp [hz], if_false]
      have fin : ∀ w : State, w.saving = true → π w = π s →
          π (if w.saving && decide (3 ≤ (fltRecord src s).2) then
              { w with hrv := { w.hrv with deferred := satAdd 8 w.hrv.deferred 1 } }
            else if w.alive then fltReact src (fltRecord src s).2 w else w) = π s := by
        intro w ws wp
        have wa : w.alive = true := by
          simp [State.saving, State.alive] at *; rcases ws with h | h <;> simp [h]
        by_cases hl : 3 ≤ (fltRecord src s).2
        · simp only [ws, hl, decide_true, Bool.and_self, if_true]
          exact (h5 w _).trans wp
        · simp only [ws, hl, decide_false, Bool.and_false, wa, if_true, Bool.false_eq_true, if_false]
          exact (fltReact_low π h2 src _ w (by omega)).trans wp
      generalize hu : (tlyPut src (fltRecord src s).2 arg (setErrN (fltRecord src s).1)).1 = u
      have us : u.saving = true := by
        rw [← hu, tlyPut_only State.saving (fun _ _ _ => rfl), setErrN_only State.saving (fun _ _ => rfl),
          fltRecord_only State.saving (fun _ _ => rfl)]; exact hs
      have up : π u = π s := by
        rw [← hu, tlyPut_only π h4, setErrN_only π h3, fltRecord_only π h1]
      generalize (tlyPut src (fltRecord src s).2 arg (setErrN (fltRecord src s).1)).2 = o
      cases o with
      | none => exact fin u us up
      | some l =>
        by_cases hl : l ≤ 2
        · simp only [hl, if_true]
          exact fin _ ((fltReact_low State.saving (fun _ _ _ _ => rfl) 0xE1 l u hl).trans us) ((he1 l u hl).trans up)
        · simp only [hl, if_false]
          exact fin u us up

/-- With room in the trigger FIFO a Tally trigger is a trigger that waits, and nothing else (R386, R390). -/
theorem tlyPut_room (code level arg : Nat) (s : State) (h : s.tly.fifo.length < 32) :
    tlyPut code level arg s =
      ({ s with tly := { s.tly with fifo := s.tly.fifo ++ [⟨code, level, s.dev.st.code, arg⟩] } }, none) := if_pos h

theorem tlyTrigger_room (code arg : Nat) (s : State) (h : s.tly.fifo.length < 32) :
    tlyTrigger code arg s = { s with tly := { s.tly with fifo := s.tly.fifo ++ [⟨code, 7, s.dev.st.code, arg⟩] } } := by
  unfold tlyTrigger
  rw [tlyPut_room code 7 arg s h]

/-- An event that takes level 2 or less, with room in the trigger FIFO and no save to act on, reaches the Collector, Tally, ERR_N and
the MSI-X vectors, and nothing else (R369, R386). -/
theorem fltRaise_low {β : Type} (π : State → β)
    (h : ∀ (s : State) xf xt a b xp, π { s with
      flt := xf, tly := xt, heads := ⟨{ s.heads.a with msix := a }, { s.heads.b with msix := b }⟩, pins := xp } = π s)
    (src arg : Nat) (s : State) (hs : s.saving = false) (hl : (fltRecord src s).2 ≤ 2) (hr : s.tly.fifo.length < 32) :
    π (fltRaise src arg s) = π s := by
  have h1 : ∀ (s : State) xf, π { s with flt := xf } = π s := fun s xf => h s xf s.tly s.heads.a.msix s.heads.b.msix s.pins
  have h2 : ∀ (s : State) f a b, π { s with flt := f, heads := ⟨{ s.heads.a with msix := a }, { s.heads.b with msix := b }⟩ } = π s :=
    fun s f a b => h s f s.tly a b s.pins
  have h3 : ∀ (s : State) xp, π { s with pins := xp } = π s := fun s xp => h s s.flt s.tly s.heads.a.msix s.heads.b.msix xp
  have h4 : ∀ (s : State) xt, π { s with tly := xt } = π s := fun s xt => h s s.flt xt s.heads.a.msix s.heads.b.msix s.pins
  unfold fltRaise
  cases hrow : srcRow src with
  | none => rfl
  | some row =>
    dsimp only
    split
    · rfl
    · have hf : (setErrN (fltRecord src s).1).tly = s.tly := by simp
      rw [tlyPut_room _ _ _ _ (by rw [hf]; exact hr)]
      dsimp only
      generalize hu : ({ setErrN (fltRecord src s).1 with
        tly := { (setErrN (fltRecord src s).1).tly with
          fifo := (setErrN (fltRecord src s).1).tly.fifo ++
            [⟨src, (fltRecord src s).2, (setErrN (fltRecord src s).1).dev.st.code, arg⟩] } } : State) = u
      have us : u.saving = false := by rw [← hu]; show (setErrN (fltRecord src s).1).saving = false
                                       rw [setErrN_only State.saving (fun _ _ => rfl), fltRecord_only State.saving (fun _ _ => rfl)]; exact hs
      have up : π u = π s := by rw [← hu, h4, setErrN_only π h3, fltRecord_only π h1]
      have hv : (if row.hf ≠ 0 then salvage row.hf arg u else u) = u := by
        split
        · unfold salvage; simp [us]
        · rfl
      rw [hv]
      simp only [us, Bool.false_and, Bool.false_eq_true, if_false]
      split
      · exact (fltReact_low π h2 src _ u hl).trans up
      · exact up

/-- A condition that stands as it stood raises nothing (R366). -/
theorem fltCond_settled {β : Type} (π : State → β) (h : ∀ s xf, π { s with flt := xf } = π s) (src : Nat) (on : Bool) (s : State)
    (hs : on = true → s.flt.live.contains src = true) : π (fltCond src on s) = π s := by
  unfold fltCond
  cases on with
  | false => exact h s _
  | true =>
    show π (fltRise src 0 s) = π s
    unfold fltRise
    rw [if_pos (hs rfl)]

/-- A condition that stands as it stood: only the Collector's record of it may change (R366). -/
theorem fltCond_eq (src : Nat) (on : Bool) (s : State) (hs : on = true → s.flt.live.contains src = true) :
    fltCond src on s = { s with flt := (fltCond src on s).flt } := by
  unfold fltCond
  cases on with
  | false => rfl
  | true =>
    show fltRise src 0 s = { s with flt := (fltRise src 0 s).flt }
    unfold fltRise
    rw [if_pos (hs rfl)]

/-- Such a condition leaves every other one standing. -/
theorem fltCond_live (src n : Nat) (on : Bool) (s : State) (hn : n ≠ src) (hs : on = true → s.flt.live.contains src = true)
    (hl : s.flt.live.contains n = true) : (fltCond src on s).flt.live.contains n = true := by
  unfold fltCond
  cases on with
  | false => simp [fltFall, setDel] at *; exact ⟨hl, hn⟩
  | true =>
    show (fltRise src 0 s).flt.live.contains n = true
    unfold fltRise
    rw [if_pos (hs rfl)]; exact hl

end Sys2Proof.Machine
end

