-- ==== Sys2Proof/Laws/Map.lean ====
section
/-!
SUPPORT. What the operations of the Salinity Map do to the true ledger lines (R93).
-/
namespace Sys2Proof.Machine

theorem lineSet_bit (l b k : Nat) : (lineSet l b).testBit k = (decide (k = b) || l.testBit k) := by
  unfold lineSet
  rw [Nat.testBit_or, Nat.testBit_two_pow, Bool.or_comm]
  simp [eq_comm]

theorem lineClr_bit (l b k : Nat) : (lineClr l b).testBit k = (!decide (k = b) && l.testBit k) := by
  unfold lineClr
  rw [Nat.testBit_xor, Nat.testBit_or, Nat.testBit_two_pow]
  by_cases h : b = k <;> simp [h, eq_comm]

theorem cached_map (f : LcEntry → LcEntry) (hf : ∀ e, (f e).region = e.region) (r : Nat) (l : List LcEntry) :
    (l.map f).find? (fun e => e.region == r) = (l.find? fun e => e.region == r).map f := by
  induction l with
  | nil => rfl
  | cons e l ih =>
    simp only [List.map_cons, List.find?_cons, hf]
    split <;> simp [ih]

/-- A region's true line read from the map alone. -/
def lineRead (m : SMap) (r : Nat) : Nat :=
  match m.cache.find? fun e => e.region == r with
  | some e => if e.filling then tblGet 0 m.lines r else e.line
  | none => tblGet 0 m.lines r

theorem lineOf_read (s : State) (r : Nat) : s.lineOf r = lineRead s.map r := rfl

theorem regions_map (s : State) (m : SMap) : ({ s with map := m } : State).regions = s.regions := rfl

/-- The line of a ready cache entry is its region's true line. -/
theorem line_of_cached {r : Nat} {e : LcEntry} {s : State} (hc : s.cached r = some e) (hf : e.filling = false) : e.line = s.lineOf r := by
  unfold State.lineOf
  rw [hc]
  simp [hf]

/-- A write-back changes no line. -/
theorem lineOf_writeBack (r r' : Nat) (s : State) : (writeBack r s).lineOf r' = s.lineOf r' := by
  unfold writeBack
  split
  · rfl
  · rename_i e he
    split
    · rfl
    · rename_i hf
      rw [lineOf_read, lineOf_read]
      unfold lineRead
      dsimp only
      rw [cached_map _ (by intro e; split <;> rfl)]
      unfold State.cached at he
      cases hc : s.map.cache.find? (fun e => e.region == r') with
      | none =>
        have hne : r' ≠ r := by intro h; rw [h] at hc; rw [hc] at he; cases he
        simp only [Option.map_none]
        rw [tblGet_put, if_neg hne]
      | some x =>
        simp only [Option.map_some]
        by_cases hne : r' = r
        · subst hne
          rw [hc] at he; cases he
          split <;> simp_all
        · rw [tblGet_put, if_neg hne]
          split <;> rfl

theorem lineOf_capDirty (r : Nat) (s : State) : (capDirty s).lineOf r = s.lineOf r := by
  unfold capDirty
  split
  · split
    · rfl
    · exact lineOf_writeBack _ _ _
  · rfl

theorem find_other (r r' : Nat) (h : r' ≠ r) (l : List LcEntry) :
    (l.filter fun x => x.region != r).find? (fun e => e.region == r') = l.find? fun e => e.region == r' := by
  induction l with
  | nil => rfl
  | cons e l ih =>
    by_cases h1 : e.region = r
    · simp [h1, Ne.symm h, ih]
    · by_cases h2 : e.region = r' <;> simp [h1, h2, h, ih]

theorem find_same (r : Nat) (l : List LcEntry) : (l.filter fun x => x.region != r).find? (fun e => e.region == r) = none := by
  rw [List.find?_eq_none]
  intro x hx
  simpa using (List.mem_filter.1 hx).2

/-- A use of an entry changes no entry, only their order. -/
theorem cached_use (r r' : Nat) (s : State) : (useLine r s).cached r' = s.cached r' := by
  unfold useLine State.cached
  dsimp only
  rw [List.find?_append]
  by_cases h : r' = r
  · subst h
    cases hc : s.map.cache.find? (fun e => e.region == r') with
    | none => simp only [Option.toList_none, List.find?_nil, Option.none_or]; exact find_same _ _
    | some e =>
      have he : (e.region == r') = true := by have t := List.find?_some hc; simpa using t
      simp only [Option.toList_some, List.find?_cons, he, Option.some_or]
  · rw [find_other r r' h]
    cases hc : s.map.cache.find? (fun e => e.region == r) with
    | none => simp only [Option.toList_none, List.find?_nil, Option.none_or]
    | some e =>
      have he : (e.region == r) = true := by have t := List.find?_some hc; simpa using t
      have hn : (e.region == r') = false := by simp at he ⊢; omega
      simp only [Option.toList_some, List.find?_cons, hn, List.find?_nil, Option.none_or]

theorem lineOf_use (r r' : Nat) (s : State) : (useLine r s).lineOf r' = s.lineOf r' := by
  unfold State.lineOf
  rw [cached_use]
  rfl

/-- A region's changed line, in its entry or in the DRAM ledger; every other line stays. -/
theorem lineOf_setLine (r l r' : Nat) (s : State) : (setLine r l s).lineOf r' = if r' = r then l else s.lineOf r' := by
  unfold setLine
  split
  · rename_i h
    rw [lineOf_read, lineOf_read]
    unfold lineRead
    dsimp only
    rw [cached_map _ (by intro e; split <;> rfl)]
    unfold State.cached at h
    cases hc : s.map.cache.find? (fun e => e.region == r') with
    | none =>
      have hne : r' ≠ r := by intro e; rw [e] at hc; rw [hc] at h; cases h
      simp only [Option.map_none, if_neg hne]
    | some x =>
      have hx : (x.region == r') = true := by have t := List.find?_some hc; simpa using t
      have hx : x.region = r' := by simpa using hx
      simp only [Option.map_some]
      by_cases hne : r' = r
      · subst hne
        rw [hc] at h
        simp only [Option.any_some, Bool.not_eq_true'] at h
        simp [hx, h]
      · simp [hx, hne]
  · rename_i h
    rw [lineOf_read, lineOf_read]
    unfold lineRead
    dsimp only
    rw [tblGet_put]
    by_cases hne : r' = r
    · subst hne
      unfold State.cached at h
      cases hc : s.map.cache.find? (fun e => e.region == r') with
      | none => rfl
      | some x => rw [hc] at h; simp at h; simp [h]
    · simp [hne]

/-- A region's entry of the Region Summary Table is no part of a line. -/
theorem lineOf_rstUpd (r r' : Nat) (f : RstEntry → RstEntry) (s : State) : (rstUpd r f s).lineOf r' = s.lineOf r' := by
  unfold rstUpd
  split <;> rfl

theorem lineOf_map_total (n r : Nat) (s : State) : ({ s with map := { s.map with total := n } } : State).lineOf r = s.lineOf r := rfl

theorem same_granule {g g' : Nat} (h1 : regionOf g' = regionOf g) (h2 : bitOf g' = bitOf g) : g' = g := by
  unfold regionOf bitOf regionGranules at *; omega

theorem rstUpd_eq {r : Nat} {s : State} (f : RstEntry → RstEntry) (h : r < s.regions) :
    rstUpd r f s = { s with map := { s.map with rst := tblUpd s.map.rstBase r f s.map.rst } } := if_pos h

/-- A region's entry after a change of it. -/
theorem rstOf_upd {r : Nat} {s : State} (f : RstEntry → RstEntry) (h : r < s.regions) : (rstUpd r f s).rstOf r = f (s.rstOf r) := by
  rw [rstUpd_eq f h]
  unfold State.rstOf
  rw [if_pos (by exact h), if_pos h]
  dsimp only
  rw [tblGet_upd, if_pos rfl]

/-- What a changed line and the cap leave alone in the map. -/
def MapRest (s t : State) : Prop :=
  t.map.total = s.map.total ∧ t.map.rst = s.map.rst ∧ t.map.rstBase = s.map.rstBase ∧ t.map.inflight = s.map.inflight ∧
  t.map.hmap = s.map.hmap ∧ t.map.epoch = s.map.epoch ∧ t.map.claimWait = s.map.claimWait ∧ t.map.lastAnswer = s.map.lastAnswer ∧
  t.map.stalled = s.map.stalled ∧ t.map.repairs = s.map.repairs

theorem capDirty_keeps (s : State) : MapRest s (capDirty s) := by
  unfold MapRest capDirty writeBack; (repeat' split) <;> simp

theorem setLine_keeps (r l : Nat) (s : State) : MapRest s (setLine r l s) := by
  unfold MapRest setLine; split <;> simp

theorem useLine_keeps (r : Nat) (s : State) : MapRest s (useLine r s) := by
  unfold MapRest useLine; simp

theorem regions_setLine (r l : Nat) (s : State) : (setLine r l s).regions = s.regions := by unfold setLine; split <;> rfl

/-- A line's change counted in its region's entry and in the total, and the cap kept (R92, R93). -/
def lineChange (r l : Nat) (f : Nat → Nat) (s : State) : State :=
  let t := rstUpd r (fun x => { x with dirty := f x.dirty }) (setLine r l s)
  capDirty { t with map := { t.map with total := f t.map.total } }

theorem setBit_change (g : Nat) (s : State) : setBit g s = if s.dirtyBit g then s
    else lineChange (regionOf g) (lineSet (s.lineOf (regionOf g)) (bitOf g)) (· + 1) s := rfl

theorem clrBit_change (g : Nat) (s : State) : clrBit g s = if s.dirtyBit g then
    lineChange (regionOf g) (lineClr (s.lineOf (regionOf g)) (bitOf g)) (· - 1) s else s := rfl

theorem lineOf_change (r l r' : Nat) (f : Nat → Nat) (s : State) : (lineChange r l f s).lineOf r' = if r' = r then l else s.lineOf r' := by
  unfold lineChange
  rw [lineOf_capDirty, lineOf_map_total, lineOf_rstUpd, lineOf_setLine]

/-- What such a change does besides. -/
theorem change_keeps (r l : Nat) (f : Nat → Nat) (s : State) (hr : r < s.regions) :
    (lineChange r l f s).map.total = f s.map.total ∧
    (lineChange r l f s).rstOf r = { s.rstOf r with dirty := f (s.rstOf r).dirty } ∧
    (lineChange r l f s).map.inflight = s.map.inflight ∧ (lineChange r l f s).map.hmap = s.map.hmap ∧
    (lineChange r l f s).map.epoch = s.map.epoch ∧ (lineChange r l f s).map.claimWait = s.map.claimWait ∧
    (lineChange r l f s).map.stalled = s.map.stalled ∧ (lineChange r l f s).map.repairs = s.map.repairs := by
  obtain ⟨b1, b2, b3, b4, b5, b6, b7, b8, b9, b10⟩ := setLine_keeps r l s
  have hr' : r < (setLine r l s).regions := by rw [regions_setLine]; exact hr
  unfold lineChange
  rw [rstUpd_eq _ hr']
  dsimp only
  obtain ⟨a1, a2, a3, a4, a5, a6, a7, a8, a9, a10⟩ := capDirty_keeps ({ setLine r l s with
    map := { (setLine r l s).map with
      rst := tblUpd (setLine r l s).map.rstBase r (fun x => { x with dirty := f x.dirty }) (setLine r l s).map.rst
      total := f (setLine r l s).map.total } } : State)
  refine ⟨a1.trans (by rw [b1]), ?_, a4.trans b4, a5.trans b5, a6.trans b6, a7.trans b7, a9.trans b9, a10.trans b10⟩
  unfold State.rstOf
  rw [capDirty_only State.regions (fun _ _ => rfl), a2, a3, if_pos (by exact hr'), if_pos hr]
  dsimp only
  rw [tblGet_upd, if_pos rfl, b2, b3]

/-- A bit set at the ordering point: that bit and no other (R83). -/
theorem setBit_bit (g g' : Nat) (s : State) : (setBit g s).dirtyBit g' = (decide (g' = g) || s.dirtyBit g') := by
  rw [setBit_change]
  split
  · rename_i hb
    by_cases hg : g' = g
    · subst hg; simp [hb]
    · simp [hg]
  · unfold State.dirtyBit
    rw [lineOf_change]
    by_cases hr : regionOf g' = regionOf g
    · rw [if_pos hr, lineSet_bit, hr]
      by_cases hg : g' = g
      · subst hg; simp
      · have : bitOf g' ≠ bitOf g := fun e => hg (same_granule hr e)
        simp [hg, this]
    · rw [if_neg hr]
      have hg : g' ≠ g := fun e => hr (by rw [e])
      simp [hg]

/-- A bit cleared at the ordering point: that bit and no other (R83). -/
theorem clrBit_bit (g g' : Nat) (s : State) : (clrBit g s).dirtyBit g' = (!decide (g' = g) && s.dirtyBit g') := by
  rw [clrBit_change]
  split
  · unfold State.dirtyBit
    rw [lineOf_change]
    by_cases hr : regionOf g' = regionOf g
    · rw [if_pos hr, lineClr_bit, hr]
      by_cases hg : g' = g
      · subst hg; simp
      · have : bitOf g' ≠ bitOf g := fun e => hg (same_granule hr e)
        simp [hg, this]
    · rw [if_neg hr]
      have hg : g' ≠ g := fun e => hr (by rw [e])
      simp [hg]
  · rename_i hb
    by_cases hg : g' = g
    · subst hg; simpa using hb
    · simp [hg]

/-- What setting a bit does to the counts (R93), and what it leaves. -/
theorem setBit_keeps (g : Nat) (s : State) (hr : regionOf g < s.regions) :
    (setBit g s).map.total + (if s.dirtyBit g then 1 else 0) = s.map.total + 1 ∧
    ((setBit g s).rstOf (regionOf g)).dirty + (if s.dirtyBit g then 1 else 0) = (s.rstOf (regionOf g)).dirty + 1 ∧
    (setBit g s).map.inflight = s.map.inflight ∧ (setBit g s).map.hmap = s.map.hmap ∧ (setBit g s).map.epoch = s.map.epoch ∧
    (setBit g s).map.claimWait = s.map.claimWait ∧ (setBit g s).map.stalled = s.map.stalled ∧ (setBit g s).map.repairs = s.map.repairs := by
  rw [setBit_change]
  split
  · simp
  · obtain ⟨a1, a2, a3, a4, a5, a6, a7, a8⟩ := change_keeps (regionOf g) (lineSet (s.lineOf (regionOf g)) (bitOf g)) (· + 1) s hr
    exact ⟨a1, by rw [a2], a3, a4, a5, a6, a7, a8⟩

/-- What clearing a bit does to the counts. -/
theorem clrBit_keeps (g : Nat) (s : State) (hr : regionOf g < s.regions) (hd : s.dirtyBit g = true) (h0 : 0 < s.map.total)
    (h1 : 0 < (s.rstOf (regionOf g)).dirty) :
    (clrBit g s).map.total + 1 = s.map.total ∧ ((clrBit g s).rstOf (regionOf g)).dirty + 1 = (s.rstOf (regionOf g)).dirty ∧
    (clrBit g s).map.inflight = s.map.inflight ∧ (clrBit g s).map.hmap = s.map.hmap := by
  rw [clrBit_change, if_pos hd]
  obtain ⟨a1, a2, a3, a4, _⟩ := change_keeps (regionOf g) (lineClr (s.lineOf (regionOf g)) (bitOf g)) (· - 1) s hr
  exact ⟨by rw [a1]; omega, by rw [a2]; dsimp only; omega, a3, a4⟩

/-- A filled entry stays one when a line changes. -/
theorem cached_setLine (r l r' : Nat) (s : State) (h : (s.cached r').any (fun c => !c.filling) = true) :
    ((setLine r l s).cached r').any (fun c => !c.filling) = true := by
  unfold setLine
  split
  · unfold State.cached at *
    dsimp only
    rw [cached_map _ (by intro e; split <;> rfl)]
    cases hc : s.map.cache.find? (fun e => e.region == r') with
    | none => rw [hc] at h; cases h
    | some x => rw [hc] at h; simp only [Option.map_some, Option.any_some] at *; split <;> exact h
  · exact h

theorem cached_capDirty (r : Nat) (s : State) :
    ((capDirty s).cached r).any (fun c => !c.filling) = (s.cached r).any (fun c => !c.filling) := by
  unfold capDirty
  split
  · split
    · rfl
    · unfold writeBack
      split
      · rfl
      · split
        · rfl
        · unfold State.cached
          dsimp only
          rw [cached_map _ (by intro e; split <;> rfl)]
          cases s.map.cache.find? (fun e => e.region == r) with
          | none => rfl
          | some x => simp only [Option.map_some, Option.any_some]; split <;> rfl
  · rfl

theorem cached_rstUpd (r r' : Nat) (f : RstEntry → RstEntry) (s : State) : (rstUpd r f s).cached r' = s.cached r' := by
  unfold rstUpd; split <;> rfl

theorem setBit_ready (g r : Nat) (s : State) (h : (s.cached r).any (fun c => !c.filling) = true) :
    ((setBit g s).cached r).any (fun c => !c.filling) = true := by
  rw [setBit_change]
  split
  · exact h
  · unfold lineChange
    rw [cached_capDirty]
    have e : ∀ (v : State) (n : Nat), ({ v with map := { v.map with total := n } } : State).cached r = v.cached r := fun _ _ => rfl
    dsimp only
    rw [e, cached_rstUpd]
    exact cached_setLine _ _ _ _ h

/-- The granules of the last region are whole (R78). -/
theorem region_inside {g : Nat} {s : State} (h : g < s.granules) : regionOf g < s.regions := by
  have h : g < s.panCount * 262144 := h
  show g / 512 < s.panCount * 262144 / 512
  omega

/-- An operation on a ready line takes effect at once (R83, R89). -/
theorem admit_resident {o : MapOp} {e : LcEntry} {s : State} (hc : s.cached (regionOf o.granule) = some e)
    (hf : e.filling = false) : admitOp o s = applyOp o (useLine (regionOf o.granule) s) := by
  unfold admitOp
  simp only [hc, hf, Bool.false_eq_true, if_false]

/-- A lookup counts, and does nothing else. -/
theorem countLookup_keeps (o : MapOp) (s : State) :
    MapRest s (countLookup o s) ∧ (countLookup o s).map.cache = s.map.cache ∧ (countLookup o s).map.lines = s.map.lines := by
  unfold MapRest countLookup
  dsimp only
  split
  · simp
  · dsimp only
    split <;> simp

theorem mapOp_resident {o : MapOp} {e : LcEntry} {s : State} (h : o.granule < s.granules) (hc : s.cached (regionOf o.granule) = some e)
    (hf : e.filling = false) : mapOp o s = applyOp o (useLine (regionOf o.granule) (countLookup o s)) := by
  unfold mapOp
  rw [if_neg (by omega)]
  refine admit_resident (e := e) ?_ hf
  rw [← hc]
  exact congrArg (fun l => l.find? fun e => e.region == regionOf o.granule) (countLookup_keeps o s).2.1

theorem lineOf_lookup (o : MapOp) (r : Nat) (s : State) : (countLookup o s).lineOf r = s.lineOf r := by
  rw [lineOf_read, lineOf_read]
  unfold lineRead
  rw [(countLookup_keeps o s).2.1, (countLookup_keeps o s).2.2]

/-- An abandoned granule of a ready line: its bit is set, no other bit moves, and it leaves the in-flight table (R83, R87). -/
theorem abandon_resident {g : Nat} {e : LcEntry} {s : State} (h : g < s.granules) (hc : s.cached (regionOf g) = some e)
    (hf : e.filling = false) (hw : s.map.claimWait = []) :
    (∀ x, (abandonOp g s).dirtyBit x = (decide (x = g) || s.dirtyBit x)) ∧ (abandonOp g s).map.inflight = setDel g s.map.inflight ∧
    (abandonOp g s).map.hmap = s.map.hmap ∧ (abandonOp g s).map.claimWait = [] ∧
    (abandonOp g s).drn = { s.drn with path := s.drn.path.filter fun i => i.granule != g } := by
  unfold abandonOp
  have h1 : g < (dropCopies g s).granules := h
  have hc1 : (dropCopies g s).cached (regionOf g) = some e := hc
  rw [mapOp_resident (o := .abandon g) (e := e) h1 hc1 hf]
  show _ ∧ _
  have e0 : countLookup (.abandon g) (dropCopies g s) = dropCopies g s := rfl
  rw [e0]
  obtain ⟨u1, u2, u3, u4, u5, u6, u7, u8, u9, u10⟩ := useLine_keeps (regionOf g) (dropCopies g s)
  have ub : ∀ x, (useLine (regionOf g) (dropCopies g s)).dirtyBit x = s.dirtyBit x := fun x => by
    unfold State.dirtyBit; rw [lineOf_use]; rfl
  have ur : regionOf g < (useLine (regionOf g) (dropCopies g s)).regions := region_inside h
  have ud : (useLine (regionOf g) (dropCopies g s)).drn = (dropCopies g s).drn := rfl
  show _ ∧ _
  unfold applyOp MapOp.granule
  dsimp only
  generalize useLine (regionOf g) (dropCopies g s) = v at *
  have kb := fun x => setBit_bit g x v
  obtain ⟨_, _, k1, k2, _, k4, _⟩ := setBit_keeps g v ur
  have kd : (setBit g v).drn = v.drn := setBit_only State.drn (fun _ _ => rfl) g v
  generalize setBit g v = w at *
  have cw : (leaveTable g w).map.claimWait = [] := k4.trans (u7.trans hw)
  have e1 : retryClaims (leaveTable g w) = { leaveTable g w with map := { (leaveTable g w).map with claimWait := [] } } := by
    unfold retryClaims; rw [cw]; rfl
  rw [e1]
  refine ⟨fun x => (kb x).trans (by rw [ub]), ?_, k2.trans u5, rfl, ?_⟩
  · show setDel g w.map.inflight = _
    rw [k1, u4]
    rfl
  · show w.drn = _
    rw [kd, ud]
    rfl

/-- A COMMIT with no CLAIM waiting: the granule leaves the in-flight table and the drain path, and nothing else changes (R83). -/
theorem commitOp_alone {g : Nat} {s : State} (h : s.map.claimWait = []) :
    commitOp g s = { s with
      map := { s.map with inflight := setDel g s.map.inflight, claimWait := [] }
      drn := { s.drn with path := s.drn.path.filter fun i => i.granule != g } } := by
  have e : ∀ u : State, u.map.claimWait = [] → retryClaims u = { u with map := { u.map with claimWait := [] } } := by
    intro u k; unfold retryClaims; rw [k]; rfl
  exact e _ h

/-- A MARK at a resident line: its bit is set, no other bit moves, every resident line stays resident (R83, R89). -/
theorem mark_resident {g : Nat} {s : State} (h : g < s.granules) (hr : s.resident (regionOf g) = true) :
    (∀ x, (mapOp (.mark g) s).dirtyBit x = (decide (x = g) || s.dirtyBit x)) ∧ (mapOp (.mark g) s).map.hmap = s.map.hmap ∧
    ∀ r, s.resident r = true → (mapOp (.mark g) s).resident r = true := by
  obtain ⟨e, hc, hf⟩ : ∃ e, s.cached (regionOf g) = some e ∧ e.filling = false := by
    unfold State.resident at hr
    cases hc : s.cached (regionOf g) with
    | none => rw [hc] at hr; cases hr
    | some e => rw [hc] at hr; exact ⟨e, rfl, by simpa using hr⟩
  rw [mapOp_resident (o := .mark g) h hc hf]
  show _ ∧ _
  unfold applyOp MapOp.granule
  dsimp only
  have e0 := countLookup_keeps (.mark g) s
  have dv : ∀ x, (useLine (regionOf g) (countLookup (.mark g) s)).dirtyBit x = s.dirtyBit x := by
    intro x; unfold State.dirtyBit; rw [lineOf_use, lineOf_lookup]
  have rv : ∀ r, s.resident r = true → (useLine (regionOf g) (countLookup (.mark g) s)).resident r = true := by
    intro r h; unfold State.resident at *; rw [cached_use]; unfold State.cached at *; rw [e0.2.1]; exact h
  have hv : (useLine (regionOf g) (countLookup (.mark g) s)).map.hmap = s.map.hmap := by
    rw [(useLine_keeps _ _).2.2.2.2.1, e0.1.2.2.2.2.1]
  have gv : regionOf g < (useLine (regionOf g) (countLookup (.mark g) s)).regions := by
    have : (countLookup (.mark g) s).regions = s.regions := countLookup_only State.regions (fun _ _ => rfl) _ _
    show regionOf g < (countLookup (.mark g) s).regions
    rw [this]; exact region_inside h
  generalize useLine (regionOf g) (countLookup (.mark g) s) = v at *
  have kb := fun x => setBit_bit g x v
  obtain ⟨_, _, _, k2, _⟩ := setBit_keeps g v gv
  have ks := fun r h => setBit_ready g r v h
  generalize setBit g v = w at *
  refine ⟨fun x => ?_, ?_, fun r h => ?_⟩
  · unfold State.dirtyBit markEntry; rw [lineOf_rstUpd]; exact (kb x).trans (by rw [dv]; rfl)
  · rw [← hv, ← k2]; unfold markEntry rstUpd; split <;> rfl
  · have := ks r (rv r h)
    unfold State.resident State.cached markEntry rstUpd at *
    split <;> exact this

/-- No fill is pending. -/
def NoFill (s : State) : Prop := ∀ e ∈ s.map.cache, e.filling = false

theorem writeBack_noFill {s : State} (r : Nat) (h : NoFill s) : NoFill (writeBack r s) := by
  unfold writeBack
  split
  · exact h
  · split
    · exact h
    · intro x hx
      obtain ⟨y, hy, e⟩ := List.mem_map.1 hx
      rw [← e]; split <;> exact h y hy

theorem capDirty_noFill {s : State} (h : NoFill s) : NoFill (capDirty s) := by
  unfold capDirty
  split
  · split
    · exact h
    · exact writeBack_noFill _ h
  · exact h

theorem useLine_noFill {s : State} (r : Nat) (h : NoFill s) : NoFill (useLine r s) := by
  intro x hx
  rcases List.mem_append.1 hx with hx | hx
  · exact h x (List.mem_of_find?_eq_some (Option.mem_toList.1 hx))
  · exact h x (List.mem_filter.1 hx).1

theorem rstUpd_noFill {s : State} (r : Nat) (f : RstEntry → RstEntry) (h : NoFill s) : NoFill (rstUpd r f s) := by
  unfold rstUpd; split <;> exact h

theorem setBit_noFill {s : State} (g : Nat) (h : NoFill s) : NoFill (setBit g s) := by
  rw [setBit_change]
  split
  · exact h
  · refine capDirty_noFill ?_
    refine rstUpd_noFill _ _ ?_
    unfold setLine
    split
    · intro x hx
      obtain ⟨y, hy, e⟩ := List.mem_map.1 hx
      rw [← e]; split <;> exact h y hy
    · exact h

/-- Nothing is done where no fill is pending. -/
theorem fillAll_idle {s : State} (h : NoFill s) : fillAll s = s := by
  have e : (s.map.cache.filter fun e => e.filling) = [] := List.filter_eq_nil_iff.2 fun x hx => by simp [h x hx]
  show fillRounds (s.map.stalled.length + s.map.claimWait.length + 1 + 1) s = s
  rw [fillRounds, e, if_pos rfl]

end Sys2Proof.Machine
end

