-- ==== Sys2Proof/Laws/Memory.lean ====
section
/-!
SUPPORT. DRAM: a read after a write, the bytes a write leaves alone, and the canonical form every memory operation keeps.
-/
namespace Sys2Proof.Machine

/-- A byte written reads back; a byte outside the write is as before. -/
theorem memPutBytes_get (bs : List Byte) : ∀ (a : Nat) (m : List Host.Cell) (x : Nat),
    tblGet 0 (memPutBytes a bs m) x = if a ≤ x ∧ x < a + bs.length then bs.getD (x - a) 0 else tblGet 0 m x := by
  induction bs with
  | nil => intro a m x; rw [if_neg (by simp)]; rfl
  | cons b bs ih =>
    intro a m x
    rw [memPutBytes, ih, tblGet_put]
    simp only [List.length_cons]
    by_cases h1 : a + 1 ≤ x ∧ x < a + 1 + bs.length
    · rw [if_pos h1, if_pos (by omega)]
      have : x - a = (x - (a + 1)) + 1 := by omega
      simp [this]
    · rw [if_neg h1]
      by_cases h2 : x = a
      · subst h2; simp
      · rw [if_neg h2, if_neg (by omega)]

theorem byteAt_putBytes (s : State) (a x : Nat) (bs : List Byte) :
    (s.putBytes a bs).byteAt x = if a ≤ x ∧ x < a + bs.length then bs.getD (x - a) 0 else s.byteAt x := memPutBytes_get bs a s.dram x

theorem memPutBytes_wf (bs : List Byte) : ∀ (a : Nat) (m : List Host.Cell), Memory.wf m = true → Memory.wf (memPutBytes a bs m) = true := by
  induction bs with
  | nil => intro _ _ h; exact h
  | cons b bs ih => intro a m h; exact ih _ _ (tblWf_put 0 a b m h)

theorem memClear_wf (lo n : Nat) (m : List Host.Cell) (h : Memory.wf m = true) : Memory.wf (memClear lo n m) = true := tblWf_filter 0 _ m h

theorem memPutCells_wf (base : Nat) (cs : GranuleBytes) : ∀ m : List Host.Cell, Memory.wf m = true → Memory.wf (memPutCells base cs m) = true := by
  induction cs with
  | nil => intro _ h; exact h
  | cons c cs ih => intro m h; exact ih _ (tblWf_put 0 _ _ m h)

theorem putBytes_wf (s : State) (a : Nat) (bs : List Byte) (h : Memory.wf s.dram = true) : Memory.wf (s.putBytes a bs).dram = true :=
  memPutBytes_wf bs a s.dram h

theorem putGranule_wf (s : State) (g : Nat) (b : GranuleBytes) (h : Memory.wf s.dram = true) : Memory.wf (s.putGranule g b).dram = true :=
  memPutCells_wf _ _ _ (memClear_wf _ _ _ h)

/-- A cleared range reads 0; a byte outside it is as before. -/
theorem memClear_get (lo n x : Nat) (m : List Host.Cell) :
    tblGet 0 (memClear lo n m) x = if lo ≤ x ∧ x < lo + n then 0 else tblGet 0 m x := by
  unfold memClear
  induction m with
  | nil => simp [tblGet]
  | cons c m ih =>
    rw [List.filter_cons]
    by_cases hk : c.1 < lo ∨ lo + n ≤ c.1
    · rw [if_pos (by simpa using hk)]
      by_cases hx : c.1 = x
      · simp only [tblGet, hx, if_pos]
        rw [if_neg (by omega)]
      · simp only [tblGet, hx, if_false, ih]
    · rw [if_neg (by simpa using hk), ih]
      by_cases hx : c.1 = x
      · rw [if_pos (by omega), if_pos (by omega)]
      · simp only [tblGet, hx, if_false]

/-- Bytes put at offsets below n from a base leave every byte outside that range. -/
theorem memPutCells_out (base n x : Nat) (cs : GranuleBytes) : ∀ m : List Host.Cell, (∀ c ∈ cs, c.1 < n) → x < base ∨ base + n ≤ x →
    tblGet 0 (memPutCells base cs m) x = tblGet 0 m x := by
  induction cs with
  | nil => intro _ _ _; rfl
  | cons c cs ih =>
    intro m h hx
    rw [memPutCells, ih _ (fun d hd => h d (List.mem_cons_of_mem _ hd)) hx, tblGet_put]
    have := h c List.mem_cons_self
    rw [if_neg (by omega)]

/-- A granule written whole leaves every byte of the others. -/
theorem byteAt_putGranule_out (s : State) (g x : Nat) (b : GranuleBytes) (h : x < g * granuleBytes ∨ g * granuleBytes + granuleBytes ≤ x) :
    (s.putGranule g b).byteAt x = s.byteAt x := by
  unfold State.putGranule State.byteAt
  rw [memPutCells_out _ granuleBytes x _ _ (fun c hc => by simpa using (List.mem_filter.mp hc).2) h, memClear_get, if_neg (by omega)]

/-- A granule of no bytes reads zero. -/
theorem byteAt_putGranule_zero (s : State) (g k : Nat) (h : k < granuleBytes) :
    (s.putGranule g []).byteAt (g * granuleBytes + k) = 0 := by
  unfold State.putGranule State.byteAt
  show tblGet 0 (memClear _ _ _) _ = 0
  rw [memClear_get, if_pos (by omega)]

/-- Reset memory lists nothing. -/
theorem reset_wf : Memory.wf State.reset.dram = true := by decide

end Sys2Proof.Machine
end

