-- ==== Sys2Proof/Laws/HostMem.lean ====
section
/-!
SUPPORT. What the reads and writes of host memory can do: a line read with each outcome (R296 to R300), the gate's lookup (R174), the commit of
a posted write (R84, R133, R301), and a granule restored (R173).
-/
namespace Sys2Proof.Machine

/-! ### Sets of numbers -/

theorem setAdd_contains (n x : Nat) (l : NSet) : (setAdd n l).contains x = (x == n || l.contains x) := by
  induction l with
  | nil => by_cases h : x = n <;> simp [setAdd, h]
  | cons m t ih =>
    unfold setAdd
    split
    · by_cases h : x = n <;> simp [h]
    · split
      · rename_i h; subst h; by_cases h : x = n <;> simp [h]
      · rw [List.contains_cons, List.contains_cons, ih]
        cases (x == m) <;> cases (x == n) <;> simp

theorem setDel_contains (n x : Nat) (l : NSet) : (setDel n l).contains x = (x != n && l.contains x) := by
  rw [Bool.eq_iff_iff]
  simp [setDel, and_comm]

/-! ### Heads' links -/

theorem get_set_up (p : PerHead HeadSt) (h k : Head) (x : HeadSt) (hx : x.up = (p.get h).up) : ((p.set h x).get k).up = (p.get k).up := by
  cases h <;> cases k <;> simp_all [PerHead.get, PerHead.set]

theorem setLog_up (x : HeadSt) (l : EvLog) (r : EvLogState) : (x.setLog l r).up = x.up := by cases l <;> rfl

/-- An event record changes no link. -/
theorem eventTo_up (h k : Head) (l : EvLog) (b : EvBody) (s : State) : ((eventTo h l b s).heads.get k).up = (s.heads.get k).up := by
  unfold eventTo
  dsimp only
  split
  · refine get_set_up _ _ _ _ ?_
    split
    · exact setLog_up _ _ _
    · exact setLog_up _ _ _
  · rfl

/-- The poison lists' overflow stamps change no link. -/
theorem stampOverflow_up (k : Head) (s : State) : ((stampOverflow s).heads.get k).up = (s.heads.get k).up := by
  unfold stampOverflow
  cases k <;> (simp only [PerHead.get]; split <;> rfl)

/-! ### Reads (R296 to R300) -/

/-- What an event of level 2 or less leaves alone. -/
def EventFree {β : Type} (π : State → β) : Prop :=
  ∀ (s : State) xf xt a b xp, π { s with
    flt := xf, tly := xt, heads := ⟨{ s.heads.a with msix := a }, { s.heads.b with msix := b }⟩, pins := xp } = π s

theorem fltRecord_level (src : Nat) (s t : State) (h : t.flt = s.flt) : (fltRecord src t).2 = (fltRecord src s).2 := by
  have c0 : t.srcCfg src = s.srcCfg src := by unfold State.srcCfg; rw [h]
  have n0 : t.srcN src = s.srcN src := by unfold State.srcN; rw [c0, h]
  unfold fltRecord; dsimp only; rw [c0, n0, h]

/-- A mild event of a state with the same counters and FIFO. -/
theorem fltRaise_mild {β : Type} (π : State → β) (h : EventFree π) (src arg : Nat) {s t : State} (hf : t.flt = s.flt) (ht : t.tly = s.tly)
    (hs : t.saving = false) (hm : s.mild src = true) : π (fltRaise src arg t) = π t := by
  simp only [State.mild, Bool.and_eq_true, decide_eq_true_eq] at hm
  exact fltRaise_low π h src arg t hs (by rw [fltRecord_level src s t hf]; exact hm.1) (by rw [ht]; exact hm.2)

/-- A line's read with each outcome (R297, R299, R300, R319): poison comes from a failed channel, a poisoned line or an uncorrectable error, which
alone makes its line poisoned; beside the channels, what an event of level 2 or less reaches changes. -/
theorem readLine_spec (rq l : Nat) (r : DramRead) (s : State) (hs : s.saving = false) (hc : ∀ d, r = .corrected d → s.mild 0x40 = true)
    (hu : ∀ d, r = .uncorrected d → s.mild 0x41 = true) :
    let failed := (s.dchan (s.site (l * lineBytes)).channel).failed
    (readLine rq l r s).2 = (failed || s.poison.contains l || badRead r) ∧
    (readLine rq l r s).1.poison = (if !failed && !s.poison.contains l && badRead r then setAdd l s.poison else s.poison) ∧
    (∀ k, ((readLine rq l r s).1.dchan k).failed = (s.dchan k).failed) ∧
    (readLine rq l r s).1.dmc.posted = s.dmc.posted ∧
    ∀ {β : Type} (π : State → β), EventFree π → (∀ (s : State) d p, π { s with dmc := d, poison := p } = π s) →
      π (readLine rq l r s).1 = π s := by
  obtain ⟨⟨d0, c1⟩, c2, c3⟩ := readLine_clean rq l s
  have cp : (readLine rq l .clean s).1.dmc.posted = s.dmc.posted := by
    unfold readLine
    dsimp only
    have hw : ∀ c (v : State), (wakeChan c v).dmc.posted = v.dmc.posted := by intro c v; unfold wakeChan; split <;> rfl
    split
    · show (wakeChan _ s).dmc.posted = _; exact hw _ _
    · split
      · show (wakeChan _ s).dmc.posted = _; exact hw _ _
      · show (wakeChan _ s).dmc.posted = _; exact hw _ _
  have base : ∀ {β : Type} (π : State → β), (∀ (s : State) d p, π { s with dmc := d, poison := p } = π s) →
      π (readLine rq l .clean s).1 = π s := by
    intro β π h; rw [c1]; exact h s d0 s.poison
  by_cases hg : (readLine rq l .clean s).2 = true
  · -- poison without the read's own outcome
    have e : readLine rq l r s = readLine rq l .clean s := by
      rw [c3] at hg
      unfold readLine at *
      dsimp only at *
      generalize dchanUpd (s.site (l * lineBytes)).channel (fun x => { x with tickRd := x.tickRd + 64 }) (touchRow rq l (wakeChan (s.site (l * lineBytes)).channel s)) = u at *
      by_cases h1 : (u.dchan (s.site (l * lineBytes)).channel).failed = true
      · simp only [h1, if_true]
      · by_cases h2 : u.poison.contains l = true
        · simp only [h1, h2, if_true]
        · exfalso
          rw [if_neg h1, if_neg h2] at c1 c2
          have p1 : u.poison = s.poison := by
            show ((u, false) : State × Bool).1.poison = _; rw [c1]
          have p2 := c2 (s.site (l * lineBytes)).channel
          rw [p1] at h2
          rw [p2] at h1
          simp only [Bool.not_eq_true] at h1 h2
          rw [h1, h2] at hg
          exact absurd hg (by decide)
    rw [e]
    rw [c3] at hg
    refine ⟨by rw [c3, hg]; rfl, ?_, c2, cp, fun π _ h => base π h⟩
    have : (!(s.dchan (s.site (l * lineBytes)).channel).failed && !s.poison.contains l && badRead r) = false := by
      revert hg
      cases (s.dchan (s.site (l * lineBytes)).channel).failed <;> cases s.poison.contains l <;> simp
    rw [this, c1]; rfl
  · -- the read's own outcome
    have hf : ((s.dchan (s.site (l * lineBytes)).channel).failed = false) ∧ s.poison.contains l = false := by
      rw [c3] at hg
      revert hg
      cases (s.dchan (s.site (l * lineBytes)).channel).failed <;> cases s.poison.contains l <;> simp
    obtain ⟨f1, f2⟩ := hf
    have st : ∃ u, (∀ k, (u.dchan k).failed = (s.dchan k).failed) ∧ (∃ d, u = { s with dmc := d }) ∧ u.dmc.posted = s.dmc.posted ∧
        readLine rq l r s = match r with
          | .clean => (u, false)
          | .bitmap _ => (u, false)
          | .corrected d => (readCorrected l d u, false)
          | .uncorrected d => (readUncorrected l d { u with poison := setAdd l u.poison }, true) := by
      refine ⟨(readLine rq l .clean s).1, c2, ⟨d0, c1⟩, cp, ?_⟩
      unfold readLine at *
      dsimp only at *
      generalize dchanUpd (s.site (l * lineBytes)).channel (fun x => { x with tickRd := x.tickRd + 64 }) (touchRow rq l (wakeChan (s.site (l * lineBytes)).channel s)) = u at *
      by_cases h1 : (u.dchan (s.site (l * lineBytes)).channel).failed = true
      · simp only [h1, if_true] at hg; simp at hg
      · by_cases h2 : u.poison.contains l = true
        · simp only [h1, h2, if_true] at hg; simp at hg
        · rw [if_neg h1, if_neg h2, if_neg h1, if_neg h2] <;> (cases r <;> rfl)
    obtain ⟨u, u1, ⟨d, u2⟩, u3, e⟩ := st
    have us : u.saving = false := by rw [u2]; exact hs
    rw [e, f1, f2]
    have ub : ∀ {β : Type} (π : State → β), (∀ (s : State) d p, π { s with dmc := d, poison := p } = π s) → π u = π s := by
      intro β π h; rw [u2]; exact h s d s.poison
    cases r with
    | clean => exact ⟨rfl, by rw [u2]; rfl, u1, u3, fun π _ h => ub π h⟩
    | bitmap k => exact ⟨rfl, by rw [u2]; rfl, u1, u3, fun π _ h => ub π h⟩
    | corrected k =>
      have m := hc k rfl
      dsimp only
      unfold readCorrected
      dsimp only
      generalize hw : ({ dchanUpd (u.site (l * lineBytes)).channel (fun c => errSite (u.site (l * lineBytes)) k false { c with ce := satAdd 32 c.ce 1 }) u with dmc := _ } : State) = w
      have w1 : ∃ d, w = { u with dmc := d } ∧ d.posted = u.dmc.posted := by rw [← hw]; exact ⟨_, rfl, rfl⟩
      have wf : ∀ k, (w.dchan k).failed = (u.dchan k).failed := by
        intro j; rw [← hw]
        show ((dchanUpd (u.site (l * lineBytes)).channel (fun c => errSite (u.site (l * lineBytes)) k false { c with ce := satAdd 32 c.ce 1 }) u).dchan j).failed = _
        rw [dchan_upd]; split
        · rename_i h; rw [h]; rfl
        · rfl
      obtain ⟨dw, w1, w2⟩ := w1
      have R : ∀ {β : Type} (π : State → β), EventFree π → π (fltRaise 0x40 (u.site (l * lineBytes)).channel w) = π w :=
        fun π h => fltRaise_mild π h 0x40 _ (by rw [w1, u2]) (by rw [w1, u2]) (by rw [w1]; exact us) m
      refine ⟨rfl, ?_, ?_, ?_, ?_⟩
      · rw [R State.poison (fun _ _ _ _ _ _ => rfl), w1, u2]; rfl
      · intro j; rw [R (fun s => (s.dchan j).failed) (fun _ _ _ _ _ _ => rfl), wf, u1]
      · rw [R (fun s => s.dmc.posted) (fun _ _ _ _ _ _ => rfl), w1]; exact w2.trans u3
      · intro β π h1 h2
        rw [R π h1, w1]
        exact (h2 u dw u.poison).trans (ub π h2)
    | uncorrected k =>
      have m := hu k rfl
      dsimp only
      unfold readUncorrected
      dsimp only
      generalize hw : dchanUpd _ _ ({ u with poison := setAdd l u.poison } : State) = w
      have w1 : ∃ d, w = { u with poison := setAdd l u.poison, dmc := d } ∧ d.posted = u.dmc.posted := by rw [← hw]; exact ⟨_, rfl, rfl⟩
      have wf : ∀ k, (w.dchan k).failed = (u.dchan k).failed := by
        intro j; rw [← hw, dchan_upd]; split
        · rename_i h; rw [h]; rfl
        · rfl
      obtain ⟨dw, w1, w2⟩ := w1
      have R : ∀ {β : Type} (π : State → β), EventFree π → π (fltRaise 0x41 (u.site (l * lineBytes)).channel w) = π w :=
        fun π h => fltRaise_mild π h 0x41 _ (by rw [w1, u2]) (by rw [w1, u2]) (by rw [w1]; exact us) m
      refine ⟨rfl, ?_, ?_, ?_, ?_⟩
      · show (fltRaise 0x41 (u.site (l * lineBytes)).channel w).poison = _
        rw [R State.poison (fun _ _ _ _ _ _ => rfl), w1, u2]; rfl
      · intro j
        show ((fltRaise 0x41 (u.site (l * lineBytes)).channel w).dchan j).failed = _
        rw [R (fun s => (s.dchan j).failed) (fun _ _ _ _ _ _ => rfl), wf, u1]
      · show (fltRaise 0x41 (u.site (l * lineBytes)).channel w).dmc.posted = _
        rw [R (fun s => s.dmc.posted) (fun _ _ _ _ _ _ => rfl), w1]; exact w2.trans u3
      · intro β π h1 h2
        show π (fltRaise 0x41 (u.site (l * lineBytes)).channel w) = _
        rw [R π h1, w1]
        exact (h2 u dw (setAdd l u.poison)).trans (ub π h2)

/-! ### Commits (R84, R133, R186, R187, R301) -/

/-- What a step of the channels alone leaves: their state of failure and the posted writes. -/
def ChanStep (s t : State) : Prop :=
  (∃ d, t = { s with dmc := d }) ∧ (∀ k, (t.dchan k).failed = (s.dchan k).failed) ∧ t.dmc.posted = s.dmc.posted ∧
  t.dmc.current = s.dmc.current ∧ t.dmc.postedLimitKib = s.dmc.postedLimitKib ∧ t.dmc.postedHeld = s.dmc.postedHeld

theorem ChanStep.refl (s : State) : ChanStep s s := ⟨⟨s.dmc, rfl⟩, fun _ => rfl, rfl, rfl, rfl, rfl⟩

theorem ChanStep.trans {s t u : State} (h : ChanStep s t) (k : ChanStep t u) : ChanStep s u := by
  obtain ⟨⟨d, h1⟩, h2, h3, h4, h5, h6⟩ := h
  obtain ⟨⟨e, k1⟩, k2, k3, k4, k5, k6⟩ := k
  exact ⟨⟨e, by rw [k1, h1]⟩, fun j => (k2 j).trans (h2 j), k3.trans h3, k4.trans h4, k5.trans h5, k6.trans h6⟩

/-- A change of a channel that fails none. -/
theorem dchanUpd_step (c : Nat) (f : DmcChan → DmcChan) (hf : ∀ x, (f x).failed = x.failed) (s : State) : ChanStep s (dchanUpd c f s) := by
  refine ⟨⟨_, rfl⟩, ?_, rfl, rfl, rfl, rfl⟩
  intro k
  rw [dchan_upd]
  split
  · rename_i h; rw [hf, h]
  · rfl

theorem wakeChan_step (c : Nat) (s : State) : ChanStep s (wakeChan c s) := by
  unfold wakeChan
  split
  · exact dchanUpd_step _ _ (by intro; rfl) _
  · exact ChanStep.refl s

theorem touchRow_step (rq l : Nat) (s : State) : ChanStep s (touchRow rq l s) := dchanUpd_step _ _ (by intro; rfl) _

theorem queueLine_step (rq l : Nat) (s : State) : ChanStep s (queueLine rq l s) := by
  unfold queueLine
  dsimp only
  refine ChanStep.trans (t := { s with dmc := { s.dmc with writeBacks := setDel l s.dmc.writeBacks } }) ⟨⟨_, rfl⟩, fun _ => rfl, rfl, rfl, rfl, rfl⟩ ?_
  exact (wakeChan_step _ _).trans (dchanUpd_step _ _ (by intro; rfl) _)

/-- A clean read reaches the channels alone. -/
theorem readLine_step (rq l : Nat) (s : State) : ChanStep s (readLine rq l .clean s).1 := by
  unfold readLine
  dsimp only
  have k : ChanStep s (dchanUpd (s.site (l * lineBytes)).channel (fun x => { x with tickRd := x.tickRd + 64 })
      (touchRow rq l (wakeChan (s.site (l * lineBytes)).channel s))) :=
    (wakeChan_step _ _).trans ((touchRow_step _ _ _).trans (dchanUpd_step _ _ (by intro; rfl) _))
  split
  · exact k
  · split
    · exact k.trans (dchanUpd_step _ _ (by intro; rfl) _)
    · exact k

/-- A tracker entry costs clean reads and changes nothing else (R187). -/
theorem trackLost_step (rq g : Nat) (s : State) : ∃ u tr, ChanStep s u ∧ trackLost rq g s = { u with fld := { s.fld with tracker := tr } } := by
  unfold trackLost
  split
  · exact ⟨s, s.fld.tracker, ChanStep.refl s, rfl⟩
  · dsimp only
    have k : ∀ (l : List Nat) (t : State × List Nat), ChanStep s t.1 →
        ChanStep s (l.foldl (fun (t : State × List Nat) l =>
          let u := readLine rq l .clean t.1
          (u.1, if u.2 then t.2 ++ [l] else t.2)) t).1 := by
      intro l
      induction l with
      | nil => intro t h; exact h
      | cons a l ih =>
        intro t h
        rw [List.foldl_cons]
        exact ih _ (h.trans (readLine_step _ _ _))
    have h : ChanStep s (readTracker rq g s).1 := k (granuleLines g) (s, []) (ChanStep.refl s)
    refine ⟨(readTracker rq g s).1, ((g, (readTracker rq g s).2) :: (readTracker rq g s).1.fld.tracker).take 4096, h, ?_⟩
    obtain ⟨⟨d, e⟩, _⟩ := h
    have e' : (readTracker rq g s).1.fld = s.fld := by rw [e]
    rw [e']

/-- Following a lost granule's lines touches the lost set, its tracker and the poison lists' stamps only (R186, R187). -/
theorem lostCheck_step (line : Nat) (s : State) : ∃ ls tr hs, lostCheck line s = { s with fld := { s.fld with lost := ls, tracker := tr }, heads := hs } ∧
    (∀ k : Head, (hs.get k).up = (s.heads.get k).up) ∧ ∀ g, s.fld.lost.contains g = false → ls.contains g = false := by
  unfold lostCheck
  dsimp only
  split
  · exact ⟨s.fld.lost, s.fld.tracker, s.heads, rfl, fun _ => rfl, fun _ h => h⟩
  · split <;> split
    all_goals first
      | exact ⟨_, _, _, rfl, fun k => stampOverflow_up k _, fun g h => by rw [setDel_contains, h, Bool.and_false]⟩
      | exact ⟨s.fld.lost, _, s.heads, rfl, fun _ => rfl, fun _ h => h⟩

/-- A posted write's commit (R84, R301, R319): its bytes and its line's poison, unless its channel has failed; its granule's MARK either way; no
link, no posted write and no channel's state of failure changes. -/
theorem commitPosted_spec (p : Posted) (s : State) :
    let failed := (s.dchan (s.site p.dpa).channel).failed
    let t := commitPosted p s
    t.dram = (if failed then s.dram else memPutBytes p.dpa p.data s.dram) ∧
    t.poison = (if failed then s.poison else poisonAfter (p.dpa / lineBytes) (p.data.length = 64) p.poison p.mergeBad s.poison) ∧
    (∃ v, t.map = (mapOp (.mark (p.dpa / granuleBytes)) v).map ∧ v.map = s.map ∧ v.lay = s.lay ∧ v.granules = s.granules ∧ v.regions = s.regions) ∧
    (∀ k, (t.dchan k).failed = (s.dchan k).failed) ∧ t.dmc.posted = s.dmc.posted ∧ t.dmc.current = s.dmc.current ∧
    t.dmc.postedLimitKib = s.dmc.postedLimitKib ∧ t.dmc.postedHeld = s.dmc.postedHeld ∧ (∀ k, (t.heads.get k).up = (s.heads.get k).up) ∧
    ∃ ls tr, t.fld = { s.fld with lost := ls, tracker := tr } ∧ ∀ g, s.fld.lost.contains g = false → ls.contains g = false := by
  unfold commitPosted
  dsimp only
  generalize (if s.saving then 3 else p.head.code) = rq
  obtain ⟨u, tr, ⟨⟨d, u1⟩, u2, u3, u4, u5, u6⟩, e⟩ := trackLost_step rq (p.dpa / granuleBytes) s
  rw [e]
  have fs : (({ u with fld := { s.fld with tracker := tr } } : State).dchan (({ u with fld := { s.fld with tracker := tr } } : State).site p.dpa).channel).failed = (s.dchan (s.site p.dpa).channel).failed := by
    show (u.dchan (u.site p.dpa).channel).failed = _
    have : u.site p.dpa = s.site p.dpa := by rw [u1]; rfl
    rw [this, u2]
  rw [fs]
  generalize hv : (if (s.dchan (s.site p.dpa).channel).failed = true then ({ u with fld := { s.fld with tracker := tr } } : State) else _) = v
  have v0 : v.dram = (if (s.dchan (s.site p.dpa).channel).failed then s.dram else memPutBytes p.dpa p.data s.dram) ∧
      v.poison = (if (s.dchan (s.site p.dpa).channel).failed then s.poison else poisonAfter (p.dpa / lineBytes) (p.data.length = 64) p.poison p.mergeBad s.poison) ∧
      v.map = s.map ∧ v.lay = s.lay ∧ v.heads = s.heads ∧ v.fld = { s.fld with tracker := tr } ∧ (∀ k, (v.dchan k).failed = (s.dchan k).failed) ∧
      v.dmc.posted = s.dmc.posted ∧ v.dmc.current = s.dmc.current ∧ v.dmc.postedLimitKib = s.dmc.postedLimitKib ∧ v.dmc.postedHeld = s.dmc.postedHeld := by
    rw [← hv]
    split
    · refine ⟨by rw [u1], by rw [u1], by rw [u1], by rw [u1], by rw [u1], rfl, u2, u3, u4, u5, u6⟩
    · obtain ⟨⟨d', q1⟩, q2, q3, q4, q5, q6⟩ := queueLine_step rq (p.dpa / lineBytes) (({ u with fld := { s.fld with tracker := tr } } : State).putBytes p.dpa p.data)
      generalize queueLine rq (p.dpa / lineBytes) (({ u with fld := { s.fld with tracker := tr } } : State).putBytes p.dpa p.data) = q at *
      refine ⟨?_, ?_, ?_, ?_, ?_, ?_, fun k => (q2 k).trans (u2 k), q3.trans u3, q4.trans u4, q5.trans u5, q6.trans u6⟩
      · show q.dram = _; rw [q1, u1]; rfl
      · show poisonAfter _ _ _ _ q.poison = _; rw [q1, u1]; rfl
      · show q.map = _; rw [q1, u1]; rfl
      · show q.lay = _; rw [q1, u1]; rfl
      · show q.heads = _; rw [q1, u1]; rfl
      · show q.fld = _; rw [q1, u1]; rfl
  clear hv
  obtain ⟨v1, v2, v3, v4, v5, v6, v7, v8, v9, v10, v11⟩ := v0
  have m : ∀ {β : Type} (π : State → β), (∀ s xmap xdrn, π { s with map := xmap, drn := xdrn } = π s) → π (mapOp (.mark (p.dpa / granuleBytes)) v) = π v :=
    fun π h => mapOp_only π h _ v
  obtain ⟨ls, tr', hs, l1, l2, l3⟩ := lostCheck_step (p.dpa / lineBytes) (mapOp (.mark (p.dpa / granuleBytes)) v)
  rw [l1]
  refine ⟨?_, ?_, ⟨v, rfl, v3, v4, ?_, ?_⟩, ?_, ?_, ?_, ?_, ?_, ?_, ls, tr', ?_, ?_⟩
  · exact (m State.dram (fun _ _ _ => rfl)).trans v1
  · exact (m State.poison (fun _ _ _ => rfl)).trans v2
  · exact congrArg (fun l : Lay => ({ s with lay := l } : State).granules) v4
  · exact congrArg (fun l : Lay => ({ s with lay := l } : State).regions) v4
  · intro k; exact (m (fun s => (s.dchan k).failed) (fun _ _ _ => rfl)).trans (v7 k)
  · exact (m (fun s => s.dmc.posted) (fun _ _ _ => rfl)).trans v8
  · exact (m (fun s => s.dmc.current) (fun _ _ _ => rfl)).trans v9
  · exact (m (fun s => s.dmc.postedLimitKib) (fun _ _ _ => rfl)).trans v10
  · exact (m (fun s => s.dmc.postedHeld) (fun _ _ _ => rfl)).trans v11
  · intro k; show (hs.get k).up = _; rw [l2, m State.heads (fun _ _ _ => rfl), v5]
  · show ({ (mapOp (.mark (p.dpa / granuleBytes)) v).fld with lost := ls, tracker := tr' } : Fld) = _
    rw [m State.fld (fun _ _ _ => rfl), v6]
  · intro g hg
    refine l3 g ?_
    rw [m State.fld (fun _ _ _ => rfl), v6]; exact hg

/-- A gate lookup other than one whose bitmap line is uncorrectable: the gate's cache and the channels alone (R174). -/
theorem gateLook_step (g : Nat) (r : DramRead) (s : State) (h : ∀ d, r ≠ .bitmap d) :
    ∃ u gc, ChanStep s u ∧ gateLook g r s = { u with fld := { s.fld with gateCache := gc } } := by
  unfold gateLook
  dsimp only
  split
  · exact ⟨s, s.fld.gateCache, ChanStep.refl s, rfl⟩
  · split
    · exact ⟨s, _, ChanStep.refl s, rfl⟩
    · generalize hc : (State.site _ _).channel = c
      have k : ChanStep s (dchanUpd c (fun x => { x with tickRd := x.tickRd + 64 }) (wakeChan c s)) :=
        (wakeChan_step _ _).trans (dchanUpd_step _ _ (by intro; rfl) _)
      refine ⟨_, gateFill (regionOf g) s.fld.gateCache, k, ?_⟩
      have : dchanUpd c (fun x => { x with tickRd := x.tickRd + 64 }) (wakeChan c { s with fld := { s.fld with gateCache := gateFill (regionOf g) s.fld.gateCache } }) =
          { dchanUpd c (fun x => { x with tickRd := x.tickRd + 64 }) (wakeChan c s) with fld := { s.fld with gateCache := gateFill (regionOf g) s.fld.gateCache } } := by
        unfold wakeChan
        have e : (({ s with fld := { s.fld with gateCache := gateFill (regionOf g) s.fld.gateCache } } : State).dchan c).idleRefresh = (s.dchan c).idleRefresh := rfl
        rw [e]
        split <;> rfl
      cases r with
      | bitmap d => exact absurd rfl (h d)
      | clean => exact this
      | corrected d => exact this
      | uncorrected d => exact this

/-- A commit whose granule's line is resident: it does not stall, its granule is dirty after it, no other bit moves, and what was resident stays so
(R84, R91). -/
theorem commitPosted_resident {p : Posted} {s : State} (h : p.dpa / granuleBytes < s.granules)
    (hr : s.resident (regionOf (p.dpa / granuleBytes)) = true) :
    s.stallsCommit p = false ∧ (∀ x, (commitPosted p s).dirtyBit x = (decide (x = p.dpa / granuleBytes) || s.dirtyBit x)) ∧
    (∀ r, s.resident r = true → (commitPosted p s).resident r = true) ∧ (commitPosted p s).map.hmap = s.map.hmap := by
  obtain ⟨_, _, ⟨v, e, v1, v2, v3, v4⟩, _⟩ := commitPosted_spec p s
  have vr : ∀ r, v.resident r = s.resident r := by intro r; unfold State.resident State.cached; rw [v1]
  obtain ⟨m1, m2, m3⟩ := mark_resident (g := p.dpa / granuleBytes) (s := v) (by rw [v3]; exact h) (by rw [vr]; exact hr)
  refine ⟨?_, fun x => ?_, fun r k => ?_, by rw [e, m2, v1]⟩
  · unfold State.stallsCommit State.opStalls
    have : (s.cached (regionOf (MapOp.mark (p.dpa / granuleBytes)).granule)).isNone = false := by
      unfold State.resident at hr
      show (s.cached (regionOf (p.dpa / granuleBytes))).isNone = false
      cases hc : s.cached (regionOf (p.dpa / granuleBytes)) with
      | none => rw [hc] at hr; cases hr
      | some e => rfl
    dsimp only
    rw [this]; rfl
  · have a : (commitPosted p s).dirtyBit x = (mapOp (.mark (p.dpa / granuleBytes)) v).dirtyBit x := by
      unfold State.dirtyBit; rw [lineOf_read, lineOf_read, e]
    rw [a, m1]
    have b : v.dirtyBit x = s.dirtyBit x := by unfold State.dirtyBit; rw [lineOf_read, lineOf_read, v1]
    rw [b]
  · have a : (commitPosted p s).resident r = (mapOp (.mark (p.dpa / granuleBytes)) v).resident r := by
      unfold State.resident State.cached; rw [e]
    rw [a]; exact m3 r (by rw [vr]; exact k)

/-- What the commits of posted writes leave alone: links, and the posted writes themselves. -/
theorem commits_up (k : Head) (n : Nat) (only : Option Head) (s : State) :
    ((commitRounds only n s).heads.get k).up = (s.heads.get k).up := by
  have one : ∀ s : State, ((commitAllPosted only s).heads.get k).up = (s.heads.get k).up := by
    intro s
    unfold commitAllPosted
    dsimp only
    have f : ∀ (l : List Posted) (t : State × List Posted),
        (((l.foldl (fun (t : State × List Posted) p =>
          if t.2 ≠ [] || t.1.stallsCommit p then (t.1, t.2 ++ [p]) else (commitPosted p t.1, t.2)) t).1).heads.get k).up = (t.1.heads.get k).up := by
      intro l
      induction l with
      | nil => intro t; rfl
      | cons p l ih =>
        intro t
        rw [List.foldl_cons, ih]
        split
        · rfl
        · exact (commitPosted_spec p t.1).2.2.2.2.2.2.2.2.1 k
    exact f _ _
  induction n generalizing s with
  | zero => rfl
  | succ n ih =>
    unfold commitRounds
    dsimp only
    have two : ∀ (c : Prop) [Decidable c] (a b : State), (a.heads.get k).up = (s.heads.get k).up → (b.heads.get k).up = (s.heads.get k).up →
        ((if c then a else b).heads.get k).up = (s.heads.get k).up := by intro c _ a b ha hb; split <;> assumption
    refine two _ _ _ ?_ (one s)
    rw [ih, fillAll_only State.heads (fun _ _ _ => rfl), one]

/-! ### Many commits (R20, R84, R133) -/

/-- Posted writes have been committed whole: bytes, poison, marks; and what stays. -/
structure Posts (s t : State) (l : List Posted) : Prop where
  dram : t.dram = (s.posting l).dram
  poison : t.poison = (s.posting l).poison
  dirty : ∀ x, t.dirtyBit x = ((l.any fun p => p.dpa / granuleBytes == x) || s.dirtyBit x)
  hmap : t.map.hmap = s.map.hmap
  resident : ∀ r, s.resident r = true → t.resident r = true
  lay : t.lay = s.lay
  failed : ∀ k, (t.dchan k).failed = (s.dchan k).failed
  posted : t.dmc.posted = s.dmc.posted
  current : t.dmc.current = s.dmc.current
  limit : t.dmc.postedLimitKib = s.dmc.postedLimitKib
  withheld : t.dmc.postedHeld = s.dmc.postedHeld
  up : ∀ k, (t.heads.get k).up = (s.heads.get k).up
  lost : ∀ g, s.fld.lost.contains g = false → t.fld.lost.contains g = false

theorem posting_append (s : State) (l m : List Posted) : s.posting (l ++ m) = (s.posting l).posting m := by
  unfold State.posting; rw [List.foldl_append]

theorem posting_same (l : List Posted) : ∀ s t : State, t.dram = s.dram → t.poison = s.poison → t.lay = s.lay →
    (∀ k, (t.dchan k).failed = (s.dchan k).failed) →
    (t.posting l).dram = (s.posting l).dram ∧ (t.posting l).poison = (s.posting l).poison := by
  induction l with
  | nil => intro s t h1 h2 _ _; exact ⟨h1, h2⟩
  | cons p l ih =>
    intro s t h1 h2 h3 h4
    have e : t.site p.dpa = s.site p.dpa := congrArg (fun x => ({ s with lay := x } : State).site p.dpa) h3
    unfold State.posting
    rw [List.foldl_cons, List.foldl_cons, e, h4]
    split
    · exact ih s t h1 h2 h3 h4
    · refine ih _ _ ?_ ?_ h3 h4
      · show memPutBytes _ _ _ = memPutBytes _ _ _; rw [h1]
      · show poisonAfter _ _ _ _ _ = poisonAfter _ _ _ _ _; rw [h2]

theorem posting_frame (l : List Posted) : ∀ s : State, (s.posting l).lay = s.lay ∧ (s.posting l).dmc = s.dmc := by
  induction l with
  | nil => intro s; exact ⟨rfl, rfl⟩
  | cons p l ih =>
    intro s
    unfold State.posting
    rw [List.foldl_cons]
    split
    · exact ih s
    · exact ih _

theorem Posts.refl (s : State) : Posts s s [] :=
  ⟨rfl, rfl, fun _ => rfl, rfl, fun _ h => h, rfl, fun _ => rfl, rfl, rfl, rfl, rfl, fun _ => rfl, fun _ h => h⟩

theorem Posts.trans {s t u : State} {l m : List Posted} (h : Posts s t l) (k : Posts t u m) : Posts s u (l ++ m) := by
  have c := posting_same m (s.posting l) t h.dram h.poison (by rw [(posting_frame l s).1]; exact h.lay)
    (fun j => by rw [h.failed]; show _ = ((s.posting l).dmc |> fun d => ({ s with dmc := d } : State).dchan j).failed; rw [(posting_frame l s).2])
  refine ⟨?_, ?_, fun x => ?_, k.hmap.trans h.hmap, fun r a => k.resident r (h.resident r a), k.lay.trans h.lay, fun j => (k.failed j).trans (h.failed j),
    k.posted.trans h.posted, k.current.trans h.current, k.limit.trans h.limit, k.withheld.trans h.withheld, fun j => (k.up j).trans (h.up j),
    fun g a => k.lost g (h.lost g a)⟩
  · rw [posting_append, k.dram, c.1]
  · rw [posting_append, k.poison, c.2]
  · rw [k.dirty, h.dirty, List.any_append]
    cases (l.any fun p => p.dpa / granuleBytes == x) <;> cases (m.any fun p => p.dpa / granuleBytes == x) <;> rfl

theorem commitPosted_posts {p : Posted} {s : State} (h : p.dpa / granuleBytes < s.granules)
    (hr : s.resident (regionOf (p.dpa / granuleBytes)) = true) : Posts s (commitPosted p s) [p] := by
  obtain ⟨c1, c2, ⟨v, e, v1, v2, v3, v4⟩, c4, c5, c6, c7, c8, c9, ls, tr, c10, c11⟩ := commitPosted_spec p s
  obtain ⟨_, r2, r3, r4⟩ := commitPosted_resident h hr
  have lay : (commitPosted p s).lay = s.lay :=
    commitPosted_only State.lay (fun _ _ _ _ _ _ _ _ => rfl) p s
  refine ⟨?_, ?_, fun x => ?_, r4, r3, lay, c4, c5, c6, c7, c8, c9, fun g hg => by rw [c10]; exact c11 g hg⟩
  · rw [c1]; unfold State.posting; simp only [List.foldl_cons, List.foldl_nil]; split <;> rfl
  · rw [c2]; unfold State.posting; simp only [List.foldl_cons, List.foldl_nil]; split <;> rfl
  · rw [r2, List.any_cons, List.any_nil, Bool.or_false]
    congr 1
    exact decide_eq_decide.mpr eq_comm

theorem residentFor_posts {s t : State} {l m : List Posted} (h : Posts s t l) (k : s.residentFor m) : t.residentFor m := by
  intro p hp
  obtain ⟨a, b⟩ := k p hp
  refine ⟨?_, h.resident _ b⟩
  have : t.granules = s.granules := congrArg (fun x => ({ s with lay := x } : State).granules) h.lay
  rw [this]; exact a

/-- The commits of writes whose lines are all resident: none stalls. -/
theorem commitFold_posts (l : List Posted) : ∀ s : State, s.residentFor l →
    let t := l.foldl (fun (t : State × List Posted) p =>
      if t.2 ≠ [] || t.1.stallsCommit p then (t.1, t.2 ++ [p]) else (commitPosted p t.1, t.2)) (s, [])
    t.2 = [] ∧ Posts s t.1 l := by
  induction l with
  | nil => intro s _; exact ⟨rfl, Posts.refl s⟩
  | cons p l ih =>
    intro s h
    dsimp only
    rw [List.foldl_cons]
    obtain ⟨a, b⟩ := h p (List.mem_cons_self ..)
    have k := commitPosted_posts a b
    have ns := (commitPosted_resident a b).1
    simp only [ns, ne_eq, not_true_eq_false, decide_false, Bool.or_false, Bool.false_eq_true, if_false]
    obtain ⟨i1, i2⟩ := ih (commitPosted p s) (residentFor_posts k fun q hq => h q (List.mem_cons_of_mem _ hq))
    exact ⟨i1, k.trans i2⟩

/-- The posted writes of one head, or all, are committed at once where their lines are resident (R20, R84, R133). -/
theorem commitPostedNow_posts {only : Option Head} {s : State} (h : s.residentFor (s.dmc.posted.filter (postedBy only))) :
    ∃ u, Posts s u (s.dmc.posted.filter (postedBy only)) ∧
      commitPostedNow only s = { u with dmc := { u.dmc with posted := s.dmc.posted.filter fun p => !postedBy only p } } := by
  have k : ∃ u, Posts s u (s.dmc.posted.filter (postedBy only)) ∧
      commitAllPosted only s = { u with dmc := { u.dmc with posted := s.dmc.posted.filter fun p => !postedBy only p } } := by
    unfold commitAllPosted
    dsimp only
    obtain ⟨a, b⟩ := commitFold_posts _ s h
    rw [a]
    exact ⟨_, b, rfl⟩
  obtain ⟨u, k1, k2⟩ := k
  refine ⟨u, k1, ?_⟩
  unfold commitPostedNow commitRounds
  dsimp only
  rw [k2]
  have z : ((s.dmc.posted.filter fun p => !postedBy only p).any (postedBy only)) = false := by
    rw [List.any_eq_false]; intro p hp; simp at hp; simp [hp.2]
  rw [if_neg (by rw [z]; decide)]

/-! ### Granules restored and granules lost (R173, R178, R184, R185) -/

/-- A granule's 64 lines enter the write queues: the channels and the tick's bytes alone. -/
theorem queueGranule_step (g : Nat) (s : State) : ∃ f, ChanStep (tickUpd f s) (queueGranule g s) := by
  refine ⟨fun t => { t with restDram := t.restDram + 4096 }, ?_⟩
  unfold queueGranule
  dsimp only
  have k : ∀ (rq : Nat) (l : List Nat) (u v : State), ChanStep u v →
      ChanStep u (l.foldl (fun s l => if (s.dchan (s.site (l * lineBytes)).channel).failed then s else queueLine rq l s) v) := by
    intro rq l
    induction l with
    | nil => intro u v h; exact h
    | cons a l ih =>
      intro u v h
      rw [List.foldl_cons]
      refine ih _ _ ?_
      split
      · exact h
      · exact h.trans (queueLine_step _ _ _)
  exact k _ _ _ _ (ChanStep.refl _)

/-- An RST entry's change reaches no bit, no Harvest Map entry and no total. -/
theorem rstUpd_keeps (r : Nat) (f : RstEntry → RstEntry) (s : State) :
    (∀ x, (rstUpd r f s).dirtyBit x = s.dirtyBit x) ∧ (∀ x, (rstUpd r f s).hmOf x = s.hmOf x) ∧ (rstUpd r f s).map.total = s.map.total ∧
    (rstUpd r f s).map.hmap = s.map.hmap ∧ (rstUpd r f s).fld = s.fld := by
  have h : (rstUpd r f s).map.total = s.map.total ∧ (rstUpd r f s).map.hmap = s.map.hmap ∧ (rstUpd r f s).fld = s.fld := by
    unfold rstUpd; split <;> exact ⟨rfl, rfl, rfl⟩
  refine ⟨fun x => ?_, fun x => ?_, h⟩
  · unfold State.dirtyBit; rw [lineOf_rstUpd]
  · unfold State.hmOf; rw [h.2.1]

/-- A granule's restore bit is set: no other bit of it, no ledger bit and no Harvest Map entry moves. -/
theorem setRestored_spec (g : Nat) (s : State) :
    let t := setRestored g s
    (∀ x, t.restoredBit x = (x == g || s.restoredBit x)) ∧ (∀ x, t.dirtyBit x = s.dirtyBit x) ∧ (∀ x, t.hmOf x = s.hmOf x) ∧
    t.map.total = s.map.total ∧ t.map.hmap = s.map.hmap ∧ t.fld = { s.fld with restored := t.fld.restored } := by
  have key : ∀ (v : State), v.fld.restored = { s.fld.restored with exc := if s.fld.restored.base then setDel g s.fld.restored.exc else setAdd g s.fld.restored.exc } →
      ∀ x, v.restoredBit x = (x == g || s.restoredBit x) := by
    intro v hv x
    unfold State.restoredBit
    rw [hv]
    dsimp only
    cases hb : s.fld.restored.base
    · simp only [Bool.false_eq_true, if_false]
      rw [setAdd_contains]; simp
    · simp only [if_true]
      rw [setDel_contains]
      cases hx : (x == g) <;> cases hc : s.fld.restored.exc.contains x <;> simp_all
  unfold setRestored
  dsimp only
  generalize hv : ({ s with fld := _ } : State) = v
  have v1 : v.fld.restored = { s.fld.restored with exc := if s.fld.restored.base then setDel g s.fld.restored.exc else setAdd g s.fld.restored.exc } := by rw [← hv]
  have v2 : v.map = s.map ∧ v.lay = s.lay ∧ v.fld = { s.fld with restored := v.fld.restored } := by rw [← hv]; exact ⟨rfl, rfl, rfl⟩
  clear hv
  obtain ⟨v2, v3, v4⟩ := v2
  have vd : ∀ x, v.dirtyBit x = s.dirtyBit x := by intro x; unfold State.dirtyBit; rw [lineOf_read, lineOf_read, v2]
  have vh : ∀ x, v.hmOf x = s.hmOf x := by intro x; unfold State.hmOf; rw [v2]
  obtain ⟨k1, k2, k3, k4, k5⟩ := rstUpd_keeps (regionOf g) (fun e => { e with restored := true }) v
  split
  · refine ⟨fun x => ?_, fun x => (k1 x).trans (vd x), fun x => (k2 x).trans (vh x), by rw [k3, v2], by rw [k4, v2], by rw [k5]; exact v4⟩
    rw [← key v v1 x]; unfold State.restoredBit; rw [k5]
  · exact ⟨key v v1, vd, vh, by rw [v2], by rw [v2], v4⟩

/-- A granule's content is filled in (R178): its bytes, its poison and its restore bit alone. -/
theorem fillGranule_spec (g : Nat) (b : GranuleBytes) (s : State) :
    let t := fillGranule g b s
    t.dram = (s.putGranule g b).dram ∧ t.poison = s.poison.filter (fun l => l / 64 != g) ∧
    (∀ x, t.restoredBit x = (x == g || s.restoredBit x)) ∧ (∀ x, t.dirtyBit x = s.dirtyBit x) ∧ (∀ x, t.hmOf x = s.hmOf x) ∧
    t.map.total = s.map.total ∧ t.map.hmap = s.map.hmap ∧ t.fld = { s.fld with restored := t.fld.restored } ∧
    (∀ k, (t.dchan k).failed = (s.dchan k).failed) ∧ t.dmc.posted = s.dmc.posted ∧
    ∀ {β : Type} (π : State → β), (∀ (s : State) m x f d a p, π { s with map := m, drn := x, fld := f, dmc := d, dram := a, poison := p } = π s) → π t = π s := by
  unfold fillGranule
  obtain ⟨f, ⟨d, q1⟩, q2, q3, _⟩ := queueGranule_step g ((s.putGranule g b).poisonGranule g false)
  obtain ⟨r1, r2, r3, r4, r5, r6⟩ := setRestored_spec g (queueGranule g ((s.putGranule g b).poisonGranule g false))
  have ro : ∀ {β : Type} (π : State → β), (∀ s xmap xfld, π { s with map := xmap, fld := xfld } = π s) → π (setRestored g (queueGranule g ((s.putGranule g b).poisonGranule g false))) = π (queueGranule g ((s.putGranule g b).poisonGranule g false)) :=
    fun π h => setRestored_only π h _ _
  generalize setRestored g (queueGranule g ((s.putGranule g b).poisonGranule g false)) = t at *
  refine ⟨?_, ?_, fun x => ?_, fun x => ?_, fun x => ?_, ?_, ?_, ?_, fun k => ?_, ?_, fun π h => ?_⟩
  · rw [ro State.dram (fun _ _ _ => rfl), q1]; rfl
  · rw [ro State.poison (fun _ _ _ => rfl), q1]; rfl
  · rw [r1, q1]; rfl
  · rw [r2, q1]; rfl
  · rw [r3, q1]; rfl
  · rw [r4, q1]; rfl
  · rw [r5, q1]; rfl
  · rw [r6, q1]; rfl
  · rw [ro (fun s => (s.dchan k).failed) (fun _ _ _ => rfl), q2]; rfl
  · rw [ro (fun s => s.dmc.posted) (fun _ _ _ => rfl), q3]; rfl
  · rw [ro π (fun u m f => h u m u.drn f u.dmc u.dram u.poison), q1]
    exact h s s.map (tickUpd f s).drn s.fld d ((s.putGranule g b).poisonGranule g false).dram ((s.putGranule g b).poisonGranule g false).poison

/-- A granule's lines take the poison encoding and its lost bit is set (R184). -/
theorem setLost_spec (g : Nat) (a : State) :
    (∀ x, (setLost g a).restoredBit x = a.restoredBit x) ∧ (∀ x, (setLost g a).dirtyBit x = a.dirtyBit x) ∧
    (∀ x, (setLost g a).hmOf x = a.hmOf x) ∧ (setLost g a).fld = { a.fld with lost := setAdd g a.fld.lost } ∧
    (setLost g a).dmc.posted = a.dmc.posted ∧ (∀ k, ((setLost g a).dchan k).failed = (a.dchan k).failed) ∧
    ∀ k, ((setLost g a).heads.get k).up = (a.heads.get k).up := by
  unfold setLost
  dsimp only
  have z : ∃ p, a.poisonGranule g true = { a with poison := p } := ⟨_, rfl⟩
  obtain ⟨p, z⟩ := z
  rw [z]
  obtain ⟨f, ⟨d, q1⟩, q2, q3, _⟩ := queueGranule_step g { a with poison := p }
  have q2' : ∀ k, ((queueGranule g { a with poison := p }).dchan k).failed = (a.dchan k).failed := fun k => q2 k
  have q3' : (queueGranule g { a with poison := p }).dmc.posted = a.dmc.posted := q3
  clear q2 q3
  generalize queueGranule g { a with poison := p } = q at *
  have q4 : q.fld = a.fld ∧ q.map = a.map ∧ q.lay = a.lay ∧ q.heads = a.heads := by rw [q1]; exact ⟨rfl, rfl, rfl, rfl⟩
  obtain ⟨q4, q5, q6, q7⟩ := q4
  clear q1
  generalize hw : ({ q with fld := _ } : State) = w
  have w1 : w.fld = { a.fld with lost := setAdd g a.fld.lost } ∧ w.map = a.map ∧ w.lay = a.lay ∧ w.heads = a.heads ∧ w.dmc = q.dmc := by
    rw [← hw]; exact ⟨by rw [q4], q5, q6, q7, rfl⟩
  clear hw
  obtain ⟨w1, w2, w3, w4, w5⟩ := w1
  have so := fun {β : Type} (π : State → β) (h : ∀ s xheads, π { s with heads := xheads } = π s) => stampOverflow_only π h w
  have sm := so State.map (fun _ _ => rfl)
  have sf := so State.fld (fun _ _ => rfl)
  have sd := so State.dmc (fun _ _ => rfl)
  refine ⟨fun x => ?_, fun x => ?_, fun x => ?_, sf.trans w1, by rw [sd, w5]; exact q3', fun k => ?_, fun k => ?_⟩
  · unfold State.restoredBit; rw [sf, w1]
  · unfold State.dirtyBit; rw [lineOf_read, lineOf_read, sm, w2]
  · unfold State.hmOf; rw [sm, w2]
  · unfold State.dchan; rw [sd, w5]; exact q2' k
  · rw [stampOverflow_up, w4]

/-- A granule is lost (R184, R185): its entry, its lost bit and its restore bit; no byte and no ledger bit. -/
theorem loseGranule_spec (g : Nat) (s : State) :
    let t := loseGranule g s
    (∀ x, t.restoredBit x = (x == g || s.restoredBit x)) ∧ (∀ x, t.dirtyBit x = s.dirtyBit x) ∧
    (∀ x, t.hmOf x = if x = g then { state := .lost } else s.hmOf x) ∧
    t.fld = { s.fld with lost := setAdd g s.fld.lost, restored := t.fld.restored, unreadable := t.fld.unreadable } ∧
    t.dmc.posted = s.dmc.posted ∧ (∀ k, (t.dchan k).failed = (s.dchan k).failed) ∧ ∀ k, (t.heads.get k).up = (s.heads.get k).up := by
  unfold loseGranule
  dsimp only
  have a1 : (∀ x, (hmPut g { state := .lost } s).hmOf x = if x = g then { state := .lost } else s.hmOf x) := by
    intro x; unfold State.hmOf hmPut; dsimp only; rw [tblGet_put ({} : HmEntry)]
  have a2 : ∀ x, (hmPut g { state := .lost } s).dirtyBit x = s.dirtyBit x := fun _ => rfl
  have a3 : ∀ x, (hmPut g { state := .lost } s).restoredBit x = s.restoredBit x := fun _ => rfl
  obtain ⟨b1, b2, b3, b4, b5, b6, b7⟩ := setLost_spec g (hmPut g { state := .lost } s)
  generalize setLost g (hmPut g { state := .lost } s) = c at *
  have b4' : c.fld = { s.fld with lost := setAdd g s.fld.lost } := b4
  obtain ⟨k1, k2, k3, k4, k5⟩ := rstUpd_keeps (regionOf g) (fun e => { e with lost := true }) c
  have ko := fun {β : Type} (π : State → β) (h : ∀ s xmap, π { s with map := xmap } = π s) => rstUpd_only π h (regionOf g) (fun e => { e with lost := true }) c
  have kd := ko State.dmc (fun _ _ => rfl)
  have kh := ko State.heads (fun _ _ => rfl)
  generalize rstUpd (regionOf g) (fun e => { e with lost := true }) c = v at *
  generalize hd : ({ v with fld := _ } : State) = e
  have e1 : e.fld = { s.fld with lost := setAdd g s.fld.lost, unreadable := e.fld.unreadable } ∧ e.map = v.map ∧ e.lay = v.lay ∧
      e.heads = v.heads ∧ e.dmc = v.dmc := by rw [← hd]; exact ⟨by rw [k5, b4'], rfl, rfl, rfl, rfl⟩
  clear hd
  obtain ⟨e1, e2, e3, e4, e5⟩ := e1
  obtain ⟨r1, r2, r3, r4, r5, r6⟩ := setRestored_spec g e
  have ro := fun {β : Type} (π : State → β) (h : ∀ s xmap xfld, π { s with map := xmap, fld := xfld } = π s) => setRestored_only π h g e
  have rd := ro State.dmc (fun _ _ _ => rfl)
  have rh := ro State.heads (fun _ _ _ => rfl)
  generalize setRestored g e = t at *
  have ee : ∀ x, e.restoredBit x = s.restoredBit x := by
    intro x; rw [← a3 x]; unfold State.restoredBit; rw [e1]; rfl
  have ed : ∀ x, e.dirtyBit x = v.dirtyBit x := by
    intro x; unfold State.dirtyBit; rw [lineOf_read, lineOf_read, e2]
  refine ⟨fun x => by rw [r1, ee], fun x => ?_, fun x => ?_, ?_, ?_, fun k => ?_, fun k => ?_⟩
  · rw [r2, ed, k1, b2]; rfl
  · rw [r3, ← a1 x, ← b3 x, ← k2 x]; unfold State.hmOf; rw [e2]
  · rw [r6, e1]
  · rw [rd, e5, kd]; exact b5
  · unfold State.dchan; rw [rd, e5, kd]; exact b6 k
  · rw [rh, e4, kh]; exact b7 k

end Sys2Proof.Machine
end

