-- ==== Sys2Proof/Laws/Keeps.lean ====
section
/-!
SUPPORT. What every command keeps: the relation's own rules, and one lemma for each operation.
-/
namespace Sys2Proof.Machine

theorem Keeps.refl (a : State) : Keeps a a := ⟨rfl, rfl, rfl, rfl, Nat.le_refl _, Nat.le_refl _, fun _ _ _ _ _ h => h, id⟩

@[simp] theorem keeps_refl (a : State) : Keeps a a ↔ True := iff_of_true (Keeps.refl a) trivial

@[simp] theorem keeps_mk (a : State) (dev gov flt tly sal map drn hrv fld bed pip heads sem pans dmc trn thm cel upd key brl svc pins lay jrn
    replies dram poison serial boot free pending) :
    Keeps a (State.mk dev gov flt tly sal map drn hrv fld bed pip heads sem pans dmc trn thm cel upd key brl svc pins lay jrn
      replies dram poison serial boot free pending) =
    KeptParts a pending serial key.revoked key.provLock key.antiRollback sal.breaksUsed jrn dram := rfl

@[simp] theorem keeps_fold (a t : State) :
    KeptParts a t.pending t.serial t.key.revoked t.key.provLock t.key.antiRollback t.sal.breaksUsed t.jrn t.dram = Keeps a t := rfl

@[simp] theorem keeps_ite (a : State) (c : Prop) [Decidable c] (t u : State) :
    Keeps a (if c then t else u) ↔ (c → Keeps a t) ∧ (¬ c → Keeps a u) := by
  split <;> simp [*]

theorem keeps_foldl {α : Type} (a : State) (f : State → α → State) (h : ∀ t x, Keeps a t → Keeps a (f t x)) (l : List α) :
    ∀ t, Keeps a t → Keeps a (l.foldl f t) := by
  induction l with
  | nil => intro t ht; exact ht
  | cons x xs ih => intro t ht; exact ih _ (h t x ht)

end Sys2Proof.Machine
end

