-- ==== Sys2Proof/Laws/Ports.lean ====
section
/-!
SUPPORT. When a vendor command, a guarded command and a Rake Port operation reach their own effect.
-/
namespace Sys2Proof.Machine

/-- A vendor command of a served head runs, unless it is of version 2.0 and the head speaks 1.x (R276). -/
theorem vendor_served {h : Head} {op : Nat} {v2 : Bool} {k : State → State} {s : State} (hs : s.served h = true)
    (hv : v2 = true → (s.heads.get h).cmdMajor ≠ 1) : vendor h op v2 k s = k s := by
  unfold vendor
  rw [hs]
  cases v2 with
  | false => rfl
  | true => simp [hv rfl]

/-- A guarded command with the cell's generation, from its holder, runs (R277). -/
theorem guarded_served {h : Head} {cell op : Nat} {gen : BitVec 16} {v2 : Bool} {k : State → State} {s : State} (hs : s.served h = true)
    (hv : v2 = true → (s.heads.get h).cmdMajor ≠ 1) (hg : (s.cell cell).gen = gen) (hh : s.holds h cell = true) :
    guarded h cell gen op v2 k s = k s := by
  unfold guarded
  rw [vendor_served hs hv]
  simp [hg, hh]

/-- With another generation it is refused with status 1 and nothing else than R288's record (R277). -/
theorem guarded_stale {h : Head} {cell op : Nat} {gen : BitVec 16} {v2 : Bool} {k : State → State} {s : State} (hs : s.served h = true)
    (hv : v2 = true → (s.heads.get h).cmdMajor ≠ 1) (hg : (s.cell cell).gen ≠ gen) :
    guarded h cell gen op v2 k s = reply h op 1 .empty (staleReject h cell s) := by
  unfold guarded
  rw [vendor_served hs hv]
  simp [hg]

/-- From a head that does not hold the cell it is refused with status 2 (R277). -/
theorem guarded_notHeld {h : Head} {cell op : Nat} {gen : BitVec 16} {v2 : Bool} {k : State → State} {s : State} (hs : s.served h = true)
    (hv : v2 = true → (s.heads.get h).cmdMajor ≠ 1) (hg : (s.cell cell).gen = gen) (hh : s.holds h cell = false) :
    guarded h cell gen op v2 k s = reply h op 2 .empty s := by
  unfold guarded
  rw [vendor_served hs hv]
  simp [hg, hh]

/-- A Rake Port operation after HELLO, with no answer waiting, of the negotiated version and in a state that serves it, runs
(R509 to R515). -/
theorem rakeOp_served {op tag since : Nat} {states : State → Bool} {k : State → State} {s : State} (ha : s.rakeServes = true)
    (hr : s.svc.response = none) (hn : s.svc.negotiated = true) (hv : since ≤ s.svc.major * 256 + s.svc.minor)
    (hst : states (frameAccepted s) = true) : rakeOp op tag since states k s = k (frameAccepted s) := by
  unfold rakeOp
  have h2 : (frameAccepted s).svc.negotiated = true := hn
  have h3 : ¬ (frameAccepted s).svc.major * 256 + (frameAccepted s).svc.minor < since := Nat.not_lt.mpr hv
  simp only [ha, hr]
  simp [h2, h3, hst]

/-- One that waits for a cell runs while no head holds it (R517). -/
theorem rakeCell_free {op tag cell : Nat} {k : State → State} {s : State} (h : s.held cell = false) : rakeCell op tag cell k s = k s := by
  simp [rakeCell, h]

end Sys2Proof.Machine
end

