-- ==== Sys2Proof/Laws/Save.lean ====
section
/-!
SUPPORT. What the operations of a save can do: pacing, the end of the data phase, the PHYs, and the open-image marker.
-/
namespace Sys2Proof.Machine

/-- Words of a JOURNAL area with one record more (R414). -/
theorem journalWords_append (l : List JRec) (r : JRec) : journalWords (l ++ [r]) = journalWords l + r.words := by
  simp [journalWords, List.foldl_append]

/-- A record is appended and nothing taken away while no sector is due to be erased (R413). -/
theorem journal_room (s : State) (r : JRec) (h : journalWords s.jrn + r.words + 1024 ≤ 262144) : (s.journal r).jrn = s.jrn ++ [r] := by
  unfold State.journal
  dsimp only
  split
  · rfl
  · exact if_pos (by rw [journalWords_append]; exact h)

/-- A Salinometer record takes at most 134 words (R75). -/
theorem salRec_words (r : SalRec) : (JRec.salRec r).words ≤ 134 := by
  simp only [JRec.words]; split <;> omega

/-- Pacing fixes the allowance and the points only (R140). -/
theorem setPoints_points {β : Type} (π : State → β)
    (h : ∀ (s : State) a b c d, π { s with hrv := { s.hrv with allowance := a, pM1 := b, pM2 := c, pM3 := d } } = π s) (s : State) :
    π (setPoints s) = π s := h s _ _ _ _

/-- SALVAGE moves the points and E_salv only (R153). -/
theorem repace_points {β : Type} (π : State → β)
    (h : ∀ (s : State) a b c d e, π { s with hrv := { s.hrv with allowance := a, pM1 := b, pM2 := c, pM3 := d, eSalv := e } } = π s)
    (s : State) : π (repace s) = π s := by
  unfold repace
  split
  · exact h s _ _ _ _ _
  · rfl

theorem repace_idle (s : State) (h : s.dev.st ≠ .salvage) : repace s = s := if_neg h

/-- The end of the data phase, once: what it marks, and what the save keeps (R142). -/
theorem endData_marks (b : Bool) (s : State) (h : s.hrv.m3 = false) :
    (endData b s).hrv.m3 = true ∧ (endData b s).hrv.m3Point = (s.hrv.m3Point || b) ∧ (endData b s).hrv.eM3 = s.sal.econs ∧
    (endData b s).hrv.m1 = s.hrv.m1 ∧ (endData b s).hrv.m2 = s.hrv.m2 ∧ (endData b s).hrv.phyForced = s.hrv.phyForced ∧
    (endData b s).hrv.trigger = s.hrv.trigger ∧ (endData b s).hrv.planned = s.hrv.planned ∧
    (endData b s).hrv.saveSeq = s.hrv.saveSeq ∧ (endData b s).hrv.armedAtTrigger = s.hrv.armedAtTrigger := by
  have e : endData b s = markEnd b (dropInside s) := if_neg (by simp [h])
  have k : (dropInside s).hrv = s.hrv := by simp
  have k2 : (dropInside s).sal = s.sal := by simp
  rw [e]
  generalize dropInside s = u at k k2
  simp [markEnd, k, k2]

theorem endData_again (b : Bool) (s : State) (h : s.hrv.m3 = true) : endData b s = s := if_pos h

/-- The PHYs go off; a forced one raises its source, which in a save is only recorded and deferred (R141). -/
theorem confirmPhys_same {β : Type} (π : State → β)
    (h : ∀ (s : State) xf xt a b xp d, π { s with
      flt := xf, tly := xt, heads := ⟨{ s.heads.a with msix := a }, { s.heads.b with msix := b }⟩, pins := xp,
      hrv := { s.hrv with deferred := d } } = π s) (a b : Bool) (s : State) (hs : s.saving = true) :
    π (confirmPhys a b s) = π (physOff (!a || !b) s) := by
  have h70 : ∀ r, srcRow 0x70 = some r → r.hf = 0 := by decide +revert
  have h71 : ∀ r, srcRow 0x71 = some r → r.hf = 0 := by decide +revert
  have k : ∀ u : State, u.saving = true →
      π (if b then (if a then u else fltRaise 0x70 0 u) else fltRaise 0x71 0 (if a then u else fltRaise 0x70 0 u)) = π u := by
    intro u hu
    have hu2 : (fltRaise 0x70 0 u).saving = true := (fltRaise_saving State.saving (fun _ _ _ _ _ _ _ => rfl) 0x70 0 u hu h70).trans hu
    have x70 := fltRaise_saving π h 0x70 0 u hu h70
    have x71 := fltRaise_saving π h 0x71 0 u hu h71
    have x7 := fltRaise_saving π h 0x71 0 _ hu2 h71
    cases a <;> cases b
    · simpa using x7.trans x70
    · simpa using x70
    · simpa using x71
    · simp
  exact k (physOff (!a || !b) s) hs

/-- In a save what follows a change of the store writes no block table: it changes the store and what waits for it only (R209). -/
theorem settle_save {β : Type} (π : State → β) (h : ∀ (s : State) a b, π { s with drn := a, bed := b } = π s) (s : State)
    (hs : s.running = false) : π (settle s) = π s := by
  unfold settle
  split
  · have hb : ∀ (s : State) b, π { s with bed := b } = π s := fun s b => h s s.drn b
    generalize hu : openRows (fullRows (sendPages (stageWaiting (sendPages (segmentsDue s))))) = u
    have r : ∀ {γ : Type} (ρ : State → γ), (∀ (s : State) a b, ρ { s with drn := a, bed := b } = ρ s) → ρ u = ρ s := by
      intro γ ρ k
      have kb : ∀ (s : State) b, ρ { s with bed := b } = ρ s := fun s b => k s s.drn b
      rw [← hu]
      refine (openRows_only ρ kb _).trans ((fullRows_only ρ kb _).trans ((sendPages_only ρ kb _).trans ?_))
      exact (stageWaiting_only ρ k _).trans ((sendPages_only ρ kb _).trans (segmentsDue_only ρ k _))
    have ru : u.running = false := (r State.running (fun _ _ _ => rfl)).trans hs
    have e : tableDue u = u := by unfold tableDue; rw [ru]; simp
    rw [e]
    exact r π h
  · rfl

theorem saving_not_running {s : State} (h : s.saving = true) : s.running = false := by
  simp only [State.saving, State.running, Bool.or_eq_true, decide_eq_true_eq] at *
  rcases h with h | h <;> simp [h]

/-- Appending to an area's copy leaves its values, its slot and whether it can be taken; nothing of the update record changes but that area. -/
theorem appendCopy_area (n w : Nat) (c : SettingsCopy) (s : State) :
    ∃ c', (appendCopy n w c s).upd = s.upd.setArea n (some c') ∧ c'.vals = c.vals ∧ c'.slot = c.slot ∧ c'.released = c.released ∧
      c'.readable = c.readable ∧ c'.age = c.age := by
  refine ⟨({ c with next := c.next + w } : SettingsCopy).rebase, ?_, ?_⟩
  · unfold appendCopy Upd.setArea
    dsimp only
    rw [foldl_same State.upd _ (fun s x => wearSector_only State.upd (fun _ _ => rfl) _ _)]
  · unfold SettingsCopy.rebase
    split <;> exact ⟨rfl, rfl, rfl, rfl, rfl⟩

theorem areaCopy_set (u : Upd) (n : Nat) (c : Option SettingsCopy) : (u.setArea n c).areaCopy n = c := by
  unfold Upd.setArea Upd.areaCopy
  split <;> rfl

/-- A copy replaced by one of the same slot and age is in force as that one was. -/
theorem areaFor_set {u : Upd} {n : Nat} {slot : Bool} {c c' : SettingsCopy} (h : u.areaCopy n = some c) (h1 : c'.slot = c.slot)
    (h2 : c'.released = c.released) (h3 : c'.readable = c.readable) (h4 : c'.age = c.age) :
    (u.setArea n (some c')).areaFor slot = u.areaFor slot := by
  unfold Upd.areaCopy at h
  by_cases hn : n = 0
  · rw [if_pos hn] at h
    simp only [Upd.setArea, if_pos hn, Upd.areaFor, copyFits, h, h1, h2, h3, h4, Option.map_some, Option.getD_some]
  · rw [if_neg hn] at h
    simp only [Upd.setArea, if_neg hn, Upd.areaFor, copyFits, h, h1, h2, h3, h4, Option.map_some, Option.getD_some]

/-- Closing the marker leaves no open image (R40). -/
theorem imageMarker_close (l : List JRec) : imageMarker (closeImage l) ≠ some false := by
  induction l with
  | nil => simp [closeImage, imageMarker]
  | cons r t ih =>
    cases r
    case openImage =>
      show ((imageMarker (closeImage t)).orElse fun _ => some true) ≠ some false
      cases h : imageMarker (closeImage t) with
      | none => simp
      | some b => cases b <;> simp_all
    all_goals exact ih

/-- Writing the marker opens the image (R40). -/
theorem imageMarker_open (l : List JRec) : imageMarker (l ++ [.openImage false]) = some false := by
  induction l with
  | nil => rfl
  | cons r t ih =>
    cases r
    case openImage => show ((imageMarker (t ++ [.openImage false])).orElse fun _ => some _) = some false; rw [ih]; rfl
    all_goals exact ih

theorem closeImage_length (l : List JRec) : (closeImage l).length = l.length := List.length_map _

/-- The end of the data phase keeps how the save began (R142). -/
theorem endData_keep (b : Bool) (s : State) : (endData b s).hrv.trigger = s.hrv.trigger ∧ (endData b s).hrv.armedAtTrigger = s.hrv.armedAtTrigger ∧ (endData b s).hrv.saveSeq = s.hrv.saveSeq := by
  unfold endData; split <;> simp [markEnd]
/-- So does a sanitize that a save meets (R159). -/
theorem sanitizeAtSave_keep (s : State) : (sanitizeAtSave s).hrv.trigger = s.hrv.trigger ∧ (sanitizeAtSave s).hrv.armedAtTrigger = s.hrv.armedAtTrigger ∧ (sanitizeAtSave s).hrv.saveSeq = s.hrv.saveSeq := by
  unfold sanitizeAtSave; (repeat' split) <;> simp
/-- And pacing (R140). -/
theorem setPoints_keep (s : State) : (setPoints s).hrv.trigger = s.hrv.trigger ∧ (setPoints s).hrv.armedAtTrigger = s.hrv.armedAtTrigger ∧ (setPoints s).hrv.saveSeq = s.hrv.saveSeq := by
  simp [setPoints]
/-- The last act of a save's start: the data phase ends at once, or the bed settles. -/
theorem endDataIf (c : Prop) [Decidable c] (b : Bool) (u : State) (hu : u.saving = true) : (if c then endData b u else settle u).dev = u.dev ∧ (if c then endData b u else settle u).sal = u.sal ∧ (if c then endData b u else settle u).gov = u.gov ∧ (if c then endData b u else settle u).jrn = u.jrn ∧ (if c then endData b u else settle u).hrv.trigger = u.hrv.trigger ∧ (if c then endData b u else settle u).hrv.armedAtTrigger = u.hrv.armedAtTrigger ∧ (if c then endData b u else settle u).hrv.saveSeq = u.hrv.saveSeq := by
  have r := saving_not_running hu
  split
  · simp [endData_keep]
  · refine ⟨?_, ?_, ?_, ?_, ?_, ?_, ?_⟩
    · simp
    · simp
    · simp
    · simp
    · exact settle_save (fun s => s.hrv.trigger) (fun _ _ _ => rfl) u r
    · exact settle_save (fun s => s.hrv.armedAtTrigger) (fun _ _ _ => rfl) u r
    · exact settle_save (fun s => s.hrv.saveSeq) (fun _ _ _ => rfl) u r
/-- What a trigger begins (R127, R139): HARVEST with HOLD_EN asserted, the trigger and the armed flag latched, access held, and the save-start
marker in JOURNAL under the next sequence number. -/
theorem beginSave_spec (tr : Trigger) (n : Nat) (s : State) :
    (beginSave tr n s).dev.st = .harvest ∧ (beginSave tr n s).sal.holdEn = true ∧ (beginSave tr n s).hrv.trigger = tr.code ∧
    (beginSave tr n s).hrv.armedAtTrigger = decide (s.dev.st = .armed) ∧ (beginSave tr n s).gov.accessHeld = true ∧
    (beginSave tr n s).hrv.saveSeq = s.hrv.nextSeq ∧
    (beginSave tr n s).jrn.getLast? = some (.saveStart s.hrv.nextSeq tr.code (decide (s.dev.st = .armed))) := by
  unfold beginSave
  dsimp only
  generalize hv : (cascadeTrigger tr (disarmStop 9 (holdSettings (endPause 5 (salCut s))))) = v
  have vh : v.hrv.nextSeq = s.hrv.nextSeq := by rw [← hv]; simp
  rw [vh]
  generalize hu : (setPoints _) = u
  have u1 : u.dev.st = .harvest ∧ u.sal.holdEn = true ∧ u.hrv.trigger = tr.code ∧ u.hrv.armedAtTrigger = decide (s.dev.st = .armed) ∧ u.gov.accessHeld = true ∧ u.hrv.saveSeq = s.hrv.nextSeq := by
    rw [← hu]; simp [setPoints_keep, sanitizeAtSave_keep, vh]
  generalize hw : u.journal (.saveStart s.hrv.nextSeq tr.code (decide (s.dev.st = .armed))) = w
  have w1 : w.dev.st = .harvest ∧ w.sal.holdEn = true ∧ w.hrv.trigger = tr.code ∧ w.hrv.armedAtTrigger = decide (s.dev.st = .armed) ∧ w.gov.accessHeld = true ∧ w.hrv.saveSeq = s.hrv.nextSeq ∧ w.jrn.getLast? = some (.saveStart s.hrv.nextSeq tr.code (decide (s.dev.st = .armed))) := by
    rw [← hw]; exact ⟨u1.1, u1.2.1, u1.2.2.1, u1.2.2.2.1, u1.2.2.2.2.1, u1.2.2.2.2.2, by simp [State.journal, State.saving, u1.1]⟩
  have ws : w.saving = true := by simp [State.saving, w1.1]
  obtain ⟨e1, e2, e3, e4, e5, e6, e7⟩ := endDataIf ((w.hrv.sanitized || !v.sal.valid) = true) (!w.hrv.sanitized) w ws
  rw [e1, e2, e3, e4, e5, e6, e7]
  exact ⟨w1.1, w1.2.1, w1.2.2.1, w1.2.2.2.1, w1.2.2.2.2.1, w1.2.2.2.2.2.1, w1.2.2.2.2.2.2⟩

/-- A save that a GO begins is not planned, and leaves the Brine Line's event and frames as they are (R157, R500). -/
theorem beginSave_go (n : Nat) (s : State) :
    (beginSave .go n s).hrv.planned = false ∧ (beginSave .go n s).brl.event = s.brl.event ∧ (beginSave .go n s).brl.goSeen = s.brl.goSeen ∧
    (beginSave .go n s).brl.sent = s.brl.sent := by
  unfold beginSave
  dsimp only
  generalize hv : (cascadeTrigger .go (disarmStop 9 (holdSettings (endPause 5 (salCut s))))) = v
  have vb : v.brl = s.brl := by rw [← hv]; simp [cascadeTrigger]
  generalize hu : (setPoints _) = u
  have u1 : u.dev.st = .harvest ∧ u.hrv.planned = false ∧ u.brl.event = v.brl.event ∧ u.brl.goSeen = v.brl.goSeen ∧ u.brl.sent = v.brl.sent := by
    have e : ∀ t : State, (sanitizeAtSave t).hrv.planned = t.hrv.planned := by
      intro t; unfold sanitizeAtSave; (repeat' split) <;> simp
    rw [← hu]; simp [setPoints, e]
  generalize hw : u.journal _ = w
  have w1 : w.dev.st = .harvest ∧ w.hrv = u.hrv ∧ w.brl = u.brl := by rw [← hw]; exact ⟨u1.1, rfl, rfl⟩
  have ws : w.saving = true := by simp [State.saving, w1.1]
  have k : ∀ (c : Prop) [Decidable c] (b : Bool), (if c then endData b w else settle w).hrv.planned = w.hrv.planned ∧
      (if c then endData b w else settle w).brl = w.brl := by
    intro c _ b
    split
    · exact ⟨by unfold endData; split <;> simp [markEnd], by simp⟩
    · exact ⟨settle_save (fun s => s.hrv.planned) (fun _ _ _ => rfl) w (saving_not_running ws), by simp⟩
  obtain ⟨k1, k2⟩ := k ((w.hrv.sanitized || !v.sal.valid) = true) (!w.hrv.sanitized)
  rw [k1, k2, w1.2.1, w1.2.2, u1.2.1, u1.2.2.1, u1.2.2.2.1, u1.2.2.2.2, vb]
  exact ⟨rfl, rfl, rfl, rfl⟩

end Sys2Proof.Machine
end

