-- ==== Sys2Proof/Laws/Staging.lean ====
section
/-!
SUPPORT. What placing a record in write staging can do (R201, R206, R229): the pages staged before stay, the record is on a page after, and
the records that wait are those that waited, with one more where no place was found.
-/
namespace Sys2Proof.Machine

/-- What opening rows leaves alone. -/
def SameStaging (s t : State) : Prop := t.bed.staged = s.bed.staged ∧ t.bed.stageQ = s.bed.stageQ

theorem SameStaging.trans {s t u : State} (h : SameStaging s t) (k : SameStaging t u) : SameStaging s u := ⟨k.1.trans h.1, k.2.trans h.2⟩

theorem eraseBlank_staging (lane : Nat) (s : State) : SameStaging s (eraseBlank lane s) := by
  unfold eraseBlank
  dsimp only
  split
  · constructor
    · refine (foldl_same (fun s => s.bed.staged) _ ?_ _ _).trans rfl
      intros; rfl
    · refine (foldl_same (fun s => s.bed.stageQ) _ ?_ _ _).trans rfl
      intros; rfl
  · exact ⟨rfl, rfl⟩

theorem openIn_staging (cls : RowClass) (lane : Nat) (s : State) : SameStaging s (openIn cls lane s) := by
  unfold openIn
  dsimp only
  generalize hv : (if s.laneRows lane = 0 && !s.saving then eraseBlank lane s else s) = v
  have e : SameStaging s v := by rw [← hv]; split; (exact eraseBlank_staging _ _); exact ⟨rfl, rfl⟩
  split
  · exact e
  · refine e.trans ⟨?_, ?_⟩
    · refine foldl_same (fun s => s.bed.staged) _ ?_ _ _
      intros; rfl
    · refine foldl_same (fun s => s.bed.stageQ) _ ?_ _ _
      intros; rfl

theorem rowFor_staging (cls : RowClass) (lane : Nat) (s : State) : SameStaging s (rowFor cls lane s).1 := by
  unfold rowFor
  split
  · exact ⟨rfl, rfl⟩
  · dsimp only
    split
    · exact openIn_staging _ _ _
    · exact openIn_staging _ _ _

/-- A new page is the last of write staging. -/
theorem newPage_staging {cls : RowClass} {lane : Nat} {kind : PageKind} {use : ByteUse} {s : State} {t : State × StorePage}
    (h : newPage cls lane kind use s = some t) : t.1.bed.staged = s.bed.staged ++ [t.2] ∧ t.1.bed.stageQ = s.bed.stageQ := by
  have key : ∀ s1 : State, SameStaging s s1 → (match (rowFor cls lane s1).2 with
      | none => none
      | some r =>
        if s1.rowPages r ≤ r.cursor || !(rowFor cls lane s1).1.bufferFree then none
        else
          let t := takePage r kind use (rowFor cls lane s1).1
          some ({ t.1 with bed := { t.1.bed with staged := t.1.bed.staged ++ [t.2] } }, t.2)) = some t →
      t.1.bed.staged = s.bed.staged ++ [t.2] ∧ t.1.bed.stageQ = s.bed.stageQ := by
    intro s1 e h
    have e2 := e.trans (rowFor_staging cls lane s1)
    split at h
    · cases h
    · split at h
      · cases h
      · injection h with h
        rw [← h]
        exact ⟨by show (rowFor cls lane s1).1.bed.staged ++ _ = _; rw [e2.1], e2.2⟩
  refine key _ ?_ h
  split
  · split
    · exact ⟨rfl, rfl⟩
    · exact ⟨rfl, rfl⟩
  · exact ⟨rfl, rfl⟩

/-- The pages that carry a record of a granule. -/
def State.carries (s : State) (g : Nat) : Prop := ∃ q ∈ s.bed.staged, ∃ y ∈ q.recs, y.granule = g

theorem samePage_self (p : StorePage) : samePage p p = true := by simp [samePage]

/-- A page that is given more records carries them. -/
theorem stagedUpd_carries {p : StorePage} {f : StorePage → StorePage} {g : Nat} {s : State} (hp : p ∈ s.bed.staged)
    (hf : ∃ y ∈ (f p).recs, y.granule = g) : (stagedUpd p f s).carries g := by
  refine ⟨f p, ?_, hf⟩
  show f p ∈ s.bed.staged.map _
  refine List.mem_map.2 ⟨p, hp, ?_⟩
  rw [if_pos (samePage_self p)]

/-- A change of pages that keeps their records keeps what they carry. -/
theorem stagedUpd_keeps {p : StorePage} {f : StorePage → StorePage} {g : Nat} {s : State} (hf : ∀ q, (f q).recs = q.recs) (h : s.carries g) :
    (stagedUpd p f s).carries g := by
  obtain ⟨q, hq, y, hy, e⟩ := h
  refine ⟨if samePage p q then f q else q, List.mem_map.2 ⟨q, hq, rfl⟩, y, ?_, e⟩
  split
  · rw [hf]; exact hy
  · exact hy

/-- A record put on a page of write staging is carried (R201). -/
theorem putRec_staging {cls : RowClass} {lane : Nat} {p : StorePage} {x : GranRec} {s t : State} (h : putRec cls lane p x s = some t)
    (hp : p ∈ s.bed.staged) : t.carries x.granule ∧ t.bed.stageQ = s.bed.stageQ := by
  unfold putRec at h
  dsimp only at h
  split at h
  · injection h with h
    rw [← h]
    exact ⟨stagedUpd_carries hp ⟨_, List.mem_append_right _ (List.mem_singleton.2 rfl), rfl⟩, rfl⟩
  · obtain ⟨u, hu, e⟩ := Option.map_eq_some_iff.1 h
    obtain ⟨k1, k2⟩ := newPage_staging hu
    rw [← e]
    refine ⟨stagedUpd_keeps (fun _ => rfl) ?_, k2⟩
    obtain ⟨q, hq, w⟩ := stagedUpd_carries (g := x.granule) (f := fun q => { q with
        recs := q.recs ++ [{ x with slot := p.used, itag := p.recTag s.pip.kx s.pip.km { x with slot := p.used } }]
        firstSlot := if p.firstSlot = 0 then p.used else p.firstSlot, used := s.slots + 1, closed := true, spills := true }) hp
      ⟨_, List.mem_append_right _ (List.mem_singleton.2 rfl), rfl⟩
    exact ⟨q, by rw [k1]; exact List.mem_append_left _ hq, w⟩

theorem stageIn_staging {cls : RowClass} {lane : Nat} {x : GranRec} {s t : State} (h : stageIn cls lane x s = some t) :
    t.carries x.granule ∧ t.bed.stageQ = s.bed.stageQ := by
  unfold stageIn at h
  dsimp only at h
  have fresh : ∀ (v : State) (use : ByteUse), v.bed.stageQ = s.bed.stageQ →
      ((newPage cls lane .data use v).bind fun t => putRec cls lane t.2 x t.1) = some t →
      t.carries x.granule ∧ t.bed.stageQ = s.bed.stageQ := by
    intro v use hv h
    obtain ⟨u, hu, h⟩ := Option.bind_eq_some_iff.1 h
    obtain ⟨k1, k2⟩ := newPage_staging hu
    obtain ⟨a, b⟩ := putRec_staging h (by rw [k1]; simp)
    exact ⟨a, b.trans (k2.trans hv)⟩
  split at h
  · exact fresh s _ rfl h
  · rename_i r p hm
    have hp : p ∈ s.bed.staged := by
      obtain ⟨r', _, e⟩ := Option.bind_eq_some_iff.1 hm
      obtain ⟨p', e1, e2⟩ := Option.map_eq_some_iff.1 e
      injection e2 with _ e2
      rw [← e2]
      exact List.mem_of_find?_eq_some e1
    split at h
    · exact fresh (closePage p s) _ rfl h
    · exact putRec_staging h hp

/-- A record that is staged is on a page of write staging, and no record waits that did not (R206). -/
theorem stageRec_staging {lane : Nat} {x : GranRec} {s t : State} (h : stageRec lane x s = some t) :
    t.carries x.granule ∧ t.bed.stageQ = s.bed.stageQ := by
  obtain ⟨d, _, h⟩ := List.exists_of_findSome?_eq_some h
  exact stageIn_staging h

/-- A record that leaves Panhouse is in write staging, or is the last of those that wait for a place (R229). -/
theorem placeRec_staging (lane : Nat) (x : GranRec) (s : State) :
    ((∃ t, placeRec lane x s = pathStep x.granule .staged t ∧ t.drn = s.drn ∧ t.carries x.granule ∧ t.bed.stageQ = s.bed.stageQ)) ∨
    placeRec lane x s = pathStep x.granule .waiting { s with bed := { s.bed with stageQ := s.bed.stageQ ++ [(lane, x)] } } := by
  unfold placeRec
  split
  · rename_i t h
    left
    split at h
    · exact ⟨t, rfl, stageRec_only State.drn (fun _ _ => rfl) h, stageRec_staging h⟩
    · cases h
  · right; rfl

end Sys2Proof.Machine
end

