-- ==== Sys2Proof/Laws/State.lean ====
section
/-!
SUPPORT. Each field of a state after any record update: the update writes a whole state, and the field reads what stands in its place.
-/
namespace Sys2Proof.Machine

variable (dev : Dev) (gov : Gov) (flt : Flt) (tly : Tly) (sal : Sal) (map : SMap) (drn : Drn) (hrv : Hrv) (fld : Fld) (bed : Bed) (pip : Pip)
  (heads : PerHead HeadSt) (sem : Sem) (pans : Tbl Pan) (dmc : Dmc) (trn : Trn) (thm : Thm) (cel : Cel) (upd : Upd) (key : Key) (brl : Brl)
  (svc : Svc) (pins : Pins) (lay : Lay) (jrn : List JRec) (replies : Replies) (dram : List Host.Cell) (poison : NSet) (serial : Nat)
  (boot : Option StartEnv) (free : Nat) (pending : List Instr)

@[simp] theorem state_dev : (State.mk dev gov flt tly sal map drn hrv fld bed pip heads sem pans dmc trn thm cel upd key brl svc pins lay jrn replies dram poison serial boot free pending).dev = dev := rfl
@[simp] theorem state_gov : (State.mk dev gov flt tly sal map drn hrv fld bed pip heads sem pans dmc trn thm cel upd key brl svc pins lay jrn replies dram poison serial boot free pending).gov = gov := rfl
@[simp] theorem state_flt : (State.mk dev gov flt tly sal map drn hrv fld bed pip heads sem pans dmc trn thm cel upd key brl svc pins lay jrn replies dram poison serial boot free pending).flt = flt := rfl
@[simp] theorem state_tly : (State.mk dev gov flt tly sal map drn hrv fld bed pip heads sem pans dmc trn thm cel upd key brl svc pins lay jrn replies dram poison serial boot free pending).tly = tly := rfl
@[simp] theorem state_sal : (State.mk dev gov flt tly sal map drn hrv fld bed pip heads sem pans dmc trn thm cel upd key brl svc pins lay jrn replies dram poison serial boot free pending).sal = sal := rfl
@[simp] theorem state_map : (State.mk dev gov flt tly sal map drn hrv fld bed pip heads sem pans dmc trn thm cel upd key brl svc pins lay jrn replies dram poison serial boot free pending).map = map := rfl
@[simp] theorem state_drn : (State.mk dev gov flt tly sal map drn hrv fld bed pip heads sem pans dmc trn thm cel upd key brl svc pins lay jrn replies dram poison serial boot free pending).drn = drn := rfl
@[simp] theorem state_hrv : (State.mk dev gov flt tly sal map drn hrv fld bed pip heads sem pans dmc trn thm cel upd key brl svc pins lay jrn replies dram poison serial boot free pending).hrv = hrv := rfl
@[simp] theorem state_fld : (State.mk dev gov flt tly sal map drn hrv fld bed pip heads sem pans dmc trn thm cel upd key brl svc pins lay jrn replies dram poison serial boot free pending).fld = fld := rfl
@[simp] theorem state_bed : (State.mk dev gov flt tly sal map drn hrv fld bed pip heads sem pans dmc trn thm cel upd key brl svc pins lay jrn replies dram poison serial boot free pending).bed = bed := rfl
@[simp] theorem state_pip : (State.mk dev gov flt tly sal map drn hrv fld bed pip heads sem pans dmc trn thm cel upd key brl svc pins lay jrn replies dram poison serial boot free pending).pip = pip := rfl
@[simp] theorem state_heads : (State.mk dev gov flt tly sal map drn hrv fld bed pip heads sem pans dmc trn thm cel upd key brl svc pins lay jrn replies dram poison serial boot free pending).heads = heads := rfl
@[simp] theorem state_sem : (State.mk dev gov flt tly sal map drn hrv fld bed pip heads sem pans dmc trn thm cel upd key brl svc pins lay jrn replies dram poison serial boot free pending).sem = sem := rfl
@[simp] theorem state_pans : (State.mk dev gov flt tly sal map drn hrv fld bed pip heads sem pans dmc trn thm cel upd key brl svc pins lay jrn replies dram poison serial boot free pending).pans = pans := rfl
@[simp] theorem state_dmc : (State.mk dev gov flt tly sal map drn hrv fld bed pip heads sem pans dmc trn thm cel upd key brl svc pins lay jrn replies dram poison serial boot free pending).dmc = dmc := rfl
@[simp] theorem state_trn : (State.mk dev gov flt tly sal map drn hrv fld bed pip heads sem pans dmc trn thm cel upd key brl svc pins lay jrn replies dram poison serial boot free pending).trn = trn := rfl
@[simp] theorem state_thm : (State.mk dev gov flt tly sal map drn hrv fld bed pip heads sem pans dmc trn thm cel upd key brl svc pins lay jrn replies dram poison serial boot free pending).thm = thm := rfl
@[simp] theorem state_cel : (State.mk dev gov flt tly sal map drn hrv fld bed pip heads sem pans dmc trn thm cel upd key brl svc pins lay jrn replies dram poison serial boot free pending).cel = cel := rfl
@[simp] theorem state_upd : (State.mk dev gov flt tly sal map drn hrv fld bed pip heads sem pans dmc trn thm cel upd key brl svc pins lay jrn replies dram poison serial boot free pending).upd = upd := rfl
@[simp] theorem state_key : (State.mk dev gov flt tly sal map drn hrv fld bed pip heads sem pans dmc trn thm cel upd key brl svc pins lay jrn replies dram poison serial boot free pending).key = key := rfl
@[simp] theorem state_brl : (State.mk dev gov flt tly sal map drn hrv fld bed pip heads sem pans dmc trn thm cel upd key brl svc pins lay jrn replies dram poison serial boot free pending).brl = brl := rfl
@[simp] theorem state_svc : (State.mk dev gov flt tly sal map drn hrv fld bed pip heads sem pans dmc trn thm cel upd key brl svc pins lay jrn replies dram poison serial boot free pending).svc = svc := rfl
@[simp] theorem state_pins : (State.mk dev gov flt tly sal map drn hrv fld bed pip heads sem pans dmc trn thm cel upd key brl svc pins lay jrn replies dram poison serial boot free pending).pins = pins := rfl
@[simp] theorem state_lay : (State.mk dev gov flt tly sal map drn hrv fld bed pip heads sem pans dmc trn thm cel upd key brl svc pins lay jrn replies dram poison serial boot free pending).lay = lay := rfl
@[simp] theorem state_jrn : (State.mk dev gov flt tly sal map drn hrv fld bed pip heads sem pans dmc trn thm cel upd key brl svc pins lay jrn replies dram poison serial boot free pending).jrn = jrn := rfl
@[simp] theorem state_replies : (State.mk dev gov flt tly sal map drn hrv fld bed pip heads sem pans dmc trn thm cel upd key brl svc pins lay jrn replies dram poison serial boot free pending).replies = replies := rfl
@[simp] theorem state_dram : (State.mk dev gov flt tly sal map drn hrv fld bed pip heads sem pans dmc trn thm cel upd key brl svc pins lay jrn replies dram poison serial boot free pending).dram = dram := rfl
@[simp] theorem state_poison : (State.mk dev gov flt tly sal map drn hrv fld bed pip heads sem pans dmc trn thm cel upd key brl svc pins lay jrn replies dram poison serial boot free pending).poison = poison := rfl
@[simp] theorem state_serial : (State.mk dev gov flt tly sal map drn hrv fld bed pip heads sem pans dmc trn thm cel upd key brl svc pins lay jrn replies dram poison serial boot free pending).serial = serial := rfl
@[simp] theorem state_boot : (State.mk dev gov flt tly sal map drn hrv fld bed pip heads sem pans dmc trn thm cel upd key brl svc pins lay jrn replies dram poison serial boot free pending).boot = boot := rfl
@[simp] theorem state_free : (State.mk dev gov flt tly sal map drn hrv fld bed pip heads sem pans dmc trn thm cel upd key brl svc pins lay jrn replies dram poison serial boot free pending).free = free := rfl
@[simp] theorem state_pending : (State.mk dev gov flt tly sal map drn hrv fld bed pip heads sem pans dmc trn thm cel upd key brl svc pins lay jrn replies dram poison serial boot free pending).pending = pending := rfl

/-- A field's update leaves every other field as it was: what a frame of one block says. -/
theorem state_eta (s : State) : State.mk s.dev s.gov s.flt s.tly s.sal s.map s.drn s.hrv s.fld s.bed s.pip s.heads s.sem s.pans s.dmc s.trn
    s.thm s.cel s.upd s.key s.brl s.svc s.pins s.lay s.jrn s.replies s.dram s.poison s.serial s.boot s.free s.pending = s := rfl

end Sys2Proof.Machine
end

