-- ==== Sys2Proof/Machine/Package.lean ====
section
/-!
DEFINITION. The package (R536 to R543): ball names and regions, the control region's signals, signal groups, straps and supplies; and the
state each group of pins has with the device state (R547).
-/
namespace Sys2Proof.Machine

/-! ### Balls (R537 to R539) -/

/-- Letters of the row names: no I, O, Q, R, S, X or Z. -/
def rowLetters : List String :=
  ["A", "B", "C", "D", "E", "F", "G", "H", "J", "K"] ++ ["L", "M", "N", "P", "T", "U", "V", "W", "Y"]

/-- The 52 rows in order, from the corner of ball A1. -/
def ballRows : List String :=
  rowLetters ++ rowLetters.map (fun x => "A" ++ x) ++ (rowLetters.take 14).map (fun x => "B" ++ x)

/-- A ball's name; rows count from 0, columns from 1. -/
def ballName (row col : Nat) : String := (ballRows[row]?).getD "" ++ toString col

/-- The regions of R538. -/
inductive BallRegion where
  | headA | headB | dramWest | dramEast | control | core
  deriving DecidableEq, Repr

/-- The region of a ball of the package. -/
def ballRegion (row col : Nat) : Option BallRegion :=
  if 52 ≤ row || col = 0 || 52 < col then none
  else if row < 6 then some (if col ≤ 26 then .headA else .headB)
  else if col ≤ 14 then some .dramWest
  else if 39 ≤ col then some .dramEast
  else some (if row < 10 then .control else .core)

/-- The control region's rows G, H, J and K, columns 15 to 38 (R539). -/
def controlRows : List (List String) :=
  [ ["VAON", "VAON", "PFAIL_N", "VMAIN_SENSE", "HOLD_EN", "CALLOAD", "BK_VSENSE", "BK_ISENSE_P", "BK_ISENSE_N", "BK_NTC0", "BK_NTC1", "VSS"] ++
      ["PM_SCL", "PM_SDA", "OSC32K_IN", "OSC32K_OUT", "VSS", "THERM_TRIP_N", "ERR_N", "RST_N", "RECOVER_N", "SEAL_N", "VAON", "VAON"],
    ["CASC_ROLE[0]", "CASC_ROLE[1]", "TEST_MODE", "OSC25_IN", "OSC25_OUT", "VSS", "JT_TCK", "JT_TMS", "JT_TDI", "JT_TDO", "JT_TRST_N", "VDD_IO"] ++
      ["CAL_DDR0", "CAL_DDR1", "CAL_NAND0", "CAL_NAND1", "CAL_SERDES", "VDD_IO", "TH0", "TH1", "TH2", "TH3", "VSS", "VDD_IO"],
    ["TD0_P", "TD0_N", "TD1_P", "TD1_N", "TD2_P", "TD2_N", "TD3_P", "TD3_N", "TD4_P", "TD4_N", "TD5_P", "TD5_N"] ++
      ["TD6_P", "TD6_N", "TD7_P", "TD7_N", "VDD_IO", "MG_SCL", "MG_SDA", "RK_SCK", "RK_CS_N", "RK_ATTN_N", "VDD_IO", "VSS"],
    ["RK_IO[0]", "RK_IO[1]", "RK_IO[2]", "RK_IO[3]", "VDD_IO"] ++ (List.range 16).map (fun k => "GPIO" ++ toString k) ++ ["VDD_IO", "VDD_IO", "VSS"] ]

/-- The signal or supply of a ball of the control region. -/
def controlSignal (row col : Nat) : Option String :=
  if ballRegion row col = some .control then ((controlRows[row - 6]?).getD [])[col - 15]? else none

/-! ### Signals, straps and supplies (R540, R541, R543, R545) -/

/-- Signal groups: name, balls, whether the group works from VAON alone. -/
def signalGroups : List (String × Nat × Bool) :=
  [ ("Heads", 134, false), ("DRAM", 1184, false), ("NAND", 640, false), ("Brine Line", 16, false), ("Remote diodes", 16, true),
    ("Thermistors", 4, true), ("Salinometer sense", 6, true), ("Always-on control", 10, true) ] ++
  [ ("PMBus", 2, true), ("Rake Port", 7, false), ("Telemetry", 2, false), ("GPIO", 16, false), ("Main clock", 2, false),
    ("Always-on clock", 2, true), ("Boundary scan", 5, false), ("Calibration", 5, false), ("Test", 1, false) ]

/-- The level an open strap or control input takes by its internal pull (R541). -/
def openLevel : String → Option Bool
  | "CASC_ROLE[0]" => some false | "CASC_ROLE[1]" => some false | "RECOVER_N" => some true | "SEAL_N" => some true
  | "PFAIL_N" => some true | "RST_N" => some true | "TEST_MODE" => some false | "JT_TRST_N" => some false
  | _ => none

/-- A main rail (R543): nominal and tolerance, currents running and in a save, balls. -/
structure Rail where
  name : String
  mv : Nat
  tolPercent : Nat
  runMa : Nat
  saveMa : Nat
  balls : Nat
  deriving DecidableEq, Repr

def mainRails : List Rail :=
  [ ⟨"VDD_CORE", 750, 3, 45000, 27500, 160⟩, ⟨"VDD_SRAM", 800, 3, 6000, 4000, 16⟩, ⟨"VDDQ_DDR", 1100, 3, 8000, 5000, 88⟩,
    ⟨"VDDA_SD075", 750, 3, 6000, 100, 16⟩, ⟨"VDDA_SD090", 900, 3, 4000, 100, 20⟩, ⟨"VDDA_SD120", 1200, 3, 1500, 100, 8⟩,
    ⟨"VCCQ_NAND", 1200, 5, 3500, 3500, 64⟩, ⟨"VDD_IO", 1800, 5, 300, 300, 8⟩ ]

/-- VAON's operating range, mV, and balls; balls of VSS (R543). -/
def vaonRange : Nat × Nat := (2400, 5500)
def vaonBalls : Nat := 4
def vssBalls : Nat := 268

/-- The supervisor threshold of a rail, µV: 92% of its nominal value (R545). -/
def Rail.supervisorUv (r : Rail) : Nat := r.mv * 920

/-- A rail lies within its tolerance, µV (R543, R544). -/
def Rail.inTolerance (r : Rail) (uv : Nat) : Bool :=
  r.mv * (100 - r.tolPercent) * 10 ≤ uv && uv ≤ r.mv * (100 + r.tolPercent) * 10

/-! ### Pins by state (R547) -/

/-- What a group of pins does. -/
inductive PinMode where
  | unpowered | idle | active | shed | resetLevels | served | highZ
  deriving DecidableEq, Repr

/-- Head pins: transmitters in electrical idle until the head leaves reset, shed from H2 of a save. -/
def State.headPins (s : State) (h : Head) : PinMode :=
  match s.dev.st with
  | .off => .unpowered
  | .sealed => .unpowered
  | .halt => .resetLevels
  | _ => if (s.heads.get h).phyOff then .shed else if (s.heads.get h).inReset then .idle else .active

/-- DRAM pins: at reset levels until B9 and from H5 of a save. -/
def State.dramPins (s : State) : PinMode :=
  match s.dev.st with
  | .off => .unpowered
  | .sealed => .unpowered
  | .halt => .resetLevels
  | _ => if s.dmc.powered then .active else .resetLevels

/-- Pins of a NAND channel: at reset levels until it has been trained. -/
def State.nandPins (s : State) (c : Nat) : PinMode :=
  match s.dev.st with
  | .off => .unpowered
  | .sealed => .unpowered
  | .halt => .resetLevels
  | _ => if (tblGet ({} : BedChan) s.bed.chans c).active then .active else .resetLevels

/-- RK_ and MG_ pins: served wherever the main domain runs (R510, R518). -/
def State.sidePins (s : State) : PinMode :=
  match s.dev.st with
  | .off => .unpowered
  | .sealed => .unpowered
  | .halt => .highZ
  | _ => .served

/-- A boundary-register pin, over what the device itself does (R555). -/
def State.scanned (s : State) (p : PinMode) : PinMode := if s.pins.scanFloats then .highZ else p

end Sys2Proof.Machine
end

