-- ==== Sys2Proof/Tests/Card.lean ====
section
/-!
SUPPORT. A card for the tests: the Salt Flat 512 layout and what a start of it finds, from the manual's worked values.
-/
namespace Sys2Proof.Tests
open Sys2Proof.Machine

/-- OCV_TABLE of Salt Flat 512 (chapter 02). -/
def ocvTable : List OcvPoint :=
  [⟨0, 3150, true⟩, ⟨40000000, 3190, true⟩, ⟨80000000, 3218, true⟩, ⟨120000000, 3240, true⟩, ⟨180000000, 3256, true⟩,
   ⟨260000000, 3266, false⟩, ⟨360000000, 3274, false⟩, ⟨460000000, 3281, false⟩, ⟨560000000, 3288, true⟩, ⟨660000000, 3310, true⟩,
   ⟨740000000, 3316, false⟩, ⟨820000000, 3321, false⟩, ⟨880000000, 3326, false⟩, ⟨930000000, 3333, true⟩, ⟨970000000, 3342, true⟩,
   ⟨1000000000, 3350, true⟩]

/-- The backup source of Salt Flat 512 (R50). -/
def cardProfile : Profile :=
  { kind := 2, ident := 1, series := 2, vCeil := 3450, vFloor := 3150, vAbs := 2500, ocv := ocvTable, cNom := 0, eNom := 240000
    esrNom := 40000, pSave := 105000
    derate := [(-640, 0), (-320, 550), (0, 800), (160, 920), (400, 1000), (720, 1000), (960, 950), (1360, 0)]
    chargeMv := 6900, chargeMa := 1000, chargeTmin := 0, chargeTmax := 720, learnDays := 30, learnDepth := 400
    learnTmin := 160, learnTmax := 640, learnRestS := 600, ntc0 := some ⟨3435, 10000⟩, ntc1 := some ⟨3435, 10000⟩, plausLo := 5000, plausHi := 7400 }

/-- NAND of Salt Flat 512 (R197). -/
def cardNand : NandParams :=
  { dies := 8, planes := 2, planePage := 16384, spare := 2208, pages := 384, blocks := 1852, minGood := 1820, luns := 4, mode := 0
    rate := 3600, maxRate := 3600, pslcEntry := [0xDA], tReadTyp := 350, tReadMax := 600, tProgTyp := 700, tProgMax := 1200, tEraseTyp := 30000
    tEraseMax := 80000, tSuspendMax := 250, tSoftMax := 350, pslcPe := 50000
    iterWarn := 6000, retryWarn := 50, relocate := 4, softCmd := [], retry := List.replicate 12 [(0x89, 0)], ident := 1, rakeBg := 4, spareMinGib := 96, updateBlocks := 0 }

/-- DRAM of Salt Flat 512 (R292, chapter 10). -/
def cardDram : DramParams :=
  { channels := 8, ranks := 2, stack := 1, density32 := false, chanGib := 64, ways := 8, grainLog := 12
    hash0 := 0x1249248000, hash1 := 0x2492490000, hash2 := 0x4924920000, headClosed := false, panAttr := []
    qos := [150, 150, 2000, 0, 1000, 300, 300, 20000], scrubHours := 24, sets := [0], idleMs := 0 }

/-- The layout of Salt Flat 512. -/
def card : Layout :=
  { schema := 3, signedBy := 1, digest := 0, profile := cardProfile
    pmbus := [⟨0x40, .charger, true⟩, ⟨0x41, .converter, true⟩], pmbusKhz := 400
    gov := { kInit := 1468, eff := [(4800, 911), (5600, 911), (6400, 920), (7200, 925)], eFixed := 12000, eCkpt := 9000, bMaxGib := 32
             bGuardGib := 8, bMinGib := 1, cap0 := 8, cap1 := 32, wLife := 209715200, yLife := 5, pauseMax := 60, allowUnarmed := false
             holdoffMs := 10 }
    map := { epochMs := 1000, hotEpochs := 2, auditS := 10, dirtyCap := 8192 }
    m1Frac := 128, m2Frac := 192, nand := cardNand, compress := true, dram := cardDram
    pans := [(0, .headA), (1, .headB), (2, .shared)], graceMs := 2000, therm := { enable := [0, 1, 2, 3], thresh := [], restartC := 90 }
    fltCfg := [], tlyMap := [], tlyLists := [], confirmMin := 60, cascade := none, gpio := [], gpioInvert := [], smbus := 0x4C }

/-- What an untroubled start finds. -/
def cardEnv : StartEnv :=
  { recoverLow := false, role := 0
    conversions := List.replicate 3 ((List.range 12).map fun n => (n, ThmReading.measured 640))
    headerOk := true, fuseBad := false, calib0Bad := false, calib1Bad := false, rbgOk := true, certOk := true, slotABad := false, slotBBad := false, layoutBad := false
    area0Bad := false, area1Bad := false, skipped := 0, tallyOk := true, ringTestOk := true, vbkUv := 837500, bootUs := 150000
    censusUs := 141000, eraseUs := 40000
    dram := { rcd := [], modeRegs := [], crcBad := [], formatBad := [], margins := [] }
    untrained := [], deadDies := [], factoryBad := [], censusBad := false, eraseFails := [], badCopies := [] }

end Sys2Proof.Tests
end

