-- ==== Sys2Proof/WellFormed.lean ====
section
/-!
DEFINITION. Which commands an interface can carry: operands within the fields and ranges the manual gives them. The machine is total; a
command outside these ranges is no command of the interface.
-/
namespace Sys2Proof

/-- The points of a trim table rise (R360). -/
def trimRises : List (Int × Nat) → Bool
  | a :: b :: t => a.1 < b.1 && trimRises (b :: t)
  | _ => true

/-- The operands lie within the ranges of their interface: registers of R525 and R527, cells of R269, pans of R4, channels of R195 and
R292, sectors of R401, sources of R365, Rake Port fields of R511, I3C and JTAG codes of R518 and R555, ring units of R486. -/
def wellFormed : Instr → Bool
  | .trainingCheckpoint channel step set _ => channel < 8 && 1 ≤ step && step ≤ 6 && set < 4
  | .pmbusPoll target _ _ _ => target < 4
  | .pmbusTargetAbsent target => target < 4
  | .calibrate _ _ osc bg => osc.length = 8 && bg.length = 8 && trimRises osc && trimRises bg
  | .calibrationWrite _ offset value => 0x100 ≤ offset && offset ≤ 0x124 && offset % 4 = 0 && value < 2 ^ 32
  | .partialPageTimeout _ channel _ => channel < 32
  | .pageProgramComplete _ channel _ _ => channel < 32
  | .programFail _ channel _ => channel < 32
  | .lostPage _ channel _ => channel < 32
  | .hostMemWrite _ hpa _ data _ _ _ => data ≠ [] && hpa % 64 + data.length ≤ 64
  | .nandReadComplete _ channel _ _ _ _ => channel < 32
  | .eraseComplete channel die block _ => channel < 32 && die < 16 && block < 32768
  | .dieResetTimeout channel die => channel < 32 && die < 16
  | .writeBatch channel ns => channel < 8 && ns < 1000
  | .deviceMark channel k device => channel < 8 && k < 8 && device < 10
  | .refresh channel due => channel < 8 && due.rank < 4 && due.bank < 4
  | .mr4Poll channel _ => channel < 8
  | .shadowSetChange set _ => set < 4
  | .idleSelfRefresh channel => channel < 8
  | .dramChannelFailure channel cause => channel < 8 && 1 ≤ cause && cause ≤ 3
  | .panPolicyWrite _ reg value => reg < 64 && value < 2 ^ 32
  | .dqsTrack channel _ _ => channel < 8
  | .thermalSample readings => readings.all fun r => r.1 < 24
  | .faultEvent source _ _ _ => source < 256
  | .wirefault line _ => line < 256
  | .faultWindowExpiry source => source < 256
  | .acknowledgeClass _ mask => mask < 2 ^ 16
  | .clearSticky _ _ word mask => word < 8 && mask < 2 ^ 32
  | .tallyTrigger code level _ => code < 512 && level < 8
  | .softwareTrigger _ value => value < 16
  | .cellarProgram _ sector word _ => sector < 2048 && word < 1024
  | .cellarErase _ sector => sector < 2048
  | .cellarRead sector word _ _ _ => sector < 2048 && word < 1024
  | .linkUp _ rate width _ => rate < 6 && width < 4
  | .semAcquire _ cell _ _ => cell < 32
  | .semRelease _ cell _ => cell < 32
  | .setChapenVersion _ major minor => major < 256 && minor < 256
  | .getPanRoles _ first _ => first < 1024
  | .setPanRoles _ _ _ changes _ => changes.all fun c => c.pan < 1024 && c.state < 5 && c.gen < 2 ^ 16
  | .unsupportedCommand _ opcode => opcode < 2 ^ 16
  | .setEventInterruptPolicy _ policy => policy.length = 5 && policy.all fun b => b < 256
  | .setTimestamp _ value => value < 2 ^ 64
  | .injectPoison _ dpa => dpa % 64 = 0
  | .clearPoison _ dpa data => dpa % 64 = 0 && data.length = 64
  | .malformedMailboxCommand _ opcode => opcode < 2 ^ 16
  | .hello tag high minor low => tag < 2 ^ 16 && high < 256 && minor < 256 && low < 256
  | .identify tag => tag < 2 ^ 16
  | .regRead tag offset count => tag < 2 ^ 16 && offset < 2 ^ 32 && count < 2 ^ 32
  | .regWrite tag offset value => tag < 2 ^ 16 && offset < 2 ^ 32 && value < 2 ^ 32
  | .getNonce tag kind => tag < 2 ^ 16 && kind < 256
  | .dlBegin tag length version => tag < 2 ^ 16 && length < 2 ^ 32 && version < 2 ^ 64
  | .dlData tag offset _ _ _ => tag < 2 ^ 16 && offset < 2 ^ 32
  | .schedule tag version => tag < 2 ^ 16 && version < 2 ^ 32
  | .bundleBegin tag length => tag < 2 ^ 16 && length < 2 ^ 32
  | .bundleData tag offset _ _ => tag < 2 ^ 16 && offset < 2 ^ 32
  | .journalRead tag _ _ _ => tag < 2 ^ 16
  | .registerWrite _ offset size value => offset + size ≤ 2 ^ 24 && value < 2 ^ (8 * size)
  | .telemetryPageRead page _ => page < 256
  | .entdaa address => address < 128
  | .setdasa static address => static < 128 && address < 128
  | .setnewda address => address < 128
  | .enec events => events < 256
  | .disec events => events < 256
  | .bypass code => code < 256 && !([0, 1, 2, 4, 5].contains code)
  | .setUnlockSecret _ _ current new _ => current.isSome || new.isSome
  | .brineHello _ major minor _ peer => major < 256 && minor < 256 && peer.role < 4
  | .joinFrame _ units index _ => units ≤ 4 && index < 4
  | .statusFrame unit state _ _ _ _ => unit < 4 && state < 256
  | .statusTimeout unit => unit < 4
  | .trigFrame unit cause => unit < 4 && cause < 256
  | .markerFrame unit _ _ _ _ => unit < 4
  | .stageAckFrame unit _ _ => unit < 4
  | .hdmDecoderCommit _ index _ => index < 4
  | .badOp tag op => tag < 2 ^ 16 && op < 2 ^ 16
  | .vaonRise _ | .vaonFall | .mainDomainRelease | .mainRailFail | .startDevice _ | .hostReady | .powerGood _ | .pinReset
  | .rstNReject | .headReset _ | .powerFailDetection _ _ | .glitchReject | .harvestNow _ _ _ | .econsPublish _ _
  | .dataPhaseEnd _ _ | .tailComplete _ _ _ | .sealSave _ _ _ | .vabsRelease | .governorTick | .armDevice | .wearDayBoundary
  | .wearHourlyCommit | .salSample _ _ | .eusePublish _ _ _ _ | .packRemoved | .socReanchor | .learnInterval | .startLearn _
  | .abortLearn _ | .newSource _ | .learnL1BacklogMet | .learnL1Timeout | .learnEsrMeasure | .learnDischargeEnd
  | .learnDischargeTimeout | .learnRestEnd | .learnComplete | .sealNonce _ _ | .sealBreak _ _ _ _ | .sealClose _ _
  | .sealAbandon _ | .nonceExpiry _ _ | .markGranule _ _ | .claimGranule _ | .commitGranule _ _ | .abandonGranule _
  | .cacheFillComplete _ _ | .epochAdvance | .auditRegion _ _ | .drainSlot _ | .drainReadComplete _ _ _ _ | .drainTimeout _
  | .stripeTimeout _ _ | .mapSegmentTimeout | .pauseDrain _ | .resumeDrain _ | .pauseMaxExpiry | .hostMemRead _ _ _ _ _
  | .demandFetchComplete _ _ _ | .postedCreditResume | .globalPersistentFlush _ | .backgroundRestoreGranule _
  | .zeroStreamGranule | .rakeMove _ | .rowErase _ | .storePatrol _ | .zqCalibration | .patrolScrub _ | .fullNext _
  | .trnCancel _ | .throttleStepAdvance | .throttleStepBack | .thermalRestart | .fastSamplingEnd | .blockResetComplete _ _
  | .trapReturn | .clearFirst _ | .tallyRecordWrite _ | .tallyMirror _ | .cellarProgramDone _ _ | .cellarEraseDone _ _
  | .wdCountClear | .confirmTrial | .linkDown _ | .graceExpiry _ | .getChapenVersion _ | .getPersistenceStatus _
  | .releaseHeldAccess _ _ | .unlockDevice _ _ _ | .sanitize _ _ _ | .cryptoErase _
  | .tallyClearNonce _ _ | .clearTally _ _ _ _ | .getUpdateStatus _ | .scheduleActivation _ _ _ | .cancelActivation _ _
  | .stageLayout _ _ _ _ | .readJournal _ _ _ _ | .getEventRecords _ _ | .clearEventRecords _ _ _ | .getEventInterruptPolicy _
  | .getFwInfo _ | .getTimestamp _ | .getSupportedLogs _ | .getLog _ _ _ | .identifyMemoryDevice _ | .getHealthInfo _
  | .getAlertConfiguration _ | .setAlertConfiguration _ _ | .setShutdownState _ _ | .getPoisonList _ _ _
  | .getDynamicCapacityConfiguration _ | .getDynamicCapacityExtentList _ _ _ | .addDynamicCapacityResponse _ _
  | .releaseDynamicCapacity _ _ | .getVersion _ | .getCapabilities _ | .negotiateAlgorithms _ _ | .getDigests _
  | .getCertificate _ _ _ _ _ | .challenge _ | .getMeasurements _ _ _ _ | .keyExchange _ | .spdmFinish _ _ | .heartbeat _
  | .keyUpdate _ | .endSession _ | .chunkSend _ _ _ | .chunkGet _ _ | .ideKeyManagement _ | .cdatTableAccess _ | .readStatus
  | .readFrame | .portReset | .rakeFrameError _ | .rakeSealBreak _ _ _ | .rakeSealClose _ | .factoryReset _ _
  | .installOwner _ _ _ | .transferOwner _ _ _ | .dlEnd _ | .cancel _ | .updateStatus _ | .bundleEnd _ _ _
  | .rstdaa | .getpid | .getbcr | .getdcr | .getstatus | .getmwl | .getmrl | .aonClockStop | .aonClockRestore | .extest _
  | .idcode | .samplePreload _ | .clamp _ | .highz _ | .brinePortTrained _ | .brinePortDown _ | .idleFrame _ _ | .ringWhole
  | .armFrame _ _ _ _ _ | .armTimeout | .goFrame _ _ _ _ | .shareFrame _ _ | .startFrame _ | .groupStartTimeout | .schedFrame _ _
  | .stageFrame _ _ _ _ _ | .staleFrame _ | .discardedFrame _ | .mainPowerReturned => true

end Sys2Proof
end

