-- ==== Sys2Proof/Tests/Slice0.lean ====
section
/-!
SUPPORT. The model's own tests: ill-formed commands are refused, every statement's premises are met by a state that is shown, and
single commands on small states against the manual's values.
-/
namespace Sys2Proof.Tests
open Sys2Proof.Machine

/-- The state after a command that answers one. -/
def after (i : Instr) (s : State) : State :=
  match exec i s with
  | .next t => t
  | _ => s

/-- OFF. -/
def dark : State := { dev := { st := .off, startDue := false, mainUp := false } }

/-- The machine right after reset. -/
def cold : State := State.reset

/-- VAON up, the main domain still held. -/
def unpowered : State := { dev := { mainUp := false } }

/-- A linked head. -/
def linked : HeadSt := { inReset := false, up := true, down := false }

/-- ARMED, both heads linked, pans 0 to 3 shared, no layout's values beyond that. -/
def armed : State :=
  { dev := { st := .armed, startDue := false, hostReady := true, loaded := true }
    gov := { accessHeld := false, pdom := true }
    sal := { valid := true, holdArm := true }
    heads := ⟨linked, linked⟩ }

/-- The same, UNARMED. -/
def unarmed : State := { armed with dev := { armed.dev with st := .unarmed } }

/-- HARVEST, at its start. -/
def saveNow : State := { armed with dev := { armed.dev with st := .harvest }, hrv := { phase := 1, trigger := 1, saveSeq := 1 } }

/-- SEALED after a save of a trigger code. -/
def sealedBy (k : Nat) : State := { dev := { st := .sealed, startDue := false, savedBy := k } }

/-- A fault HALT with the main domain held. -/
def deadHalt : State := { dev := { st := .halt, halt := .fault, startDue := false, mainUp := false } }

/-- A thermal HALT. -/
def hot : State := { dev := { st := .halt, halt := .thermal, startDue := false } }

/-- ARMED, cell 1 held by Head A. -/
def holding : State := { armed with sem := { armed.sem with cells := [(1, { state := .heldA })] } }

/-- ARMED under the layout of Salt Flat 512. -/
def carded : State := { armed with lay := { armed.lay with inForce := some card } }

/-- The same, cell 1 held by Head A. -/
def cardHeld : State := { carded with sem := holding.sem }

/-! ### Ill-formed commands, one for each range, and a well-formed neighbour -/

/-- A token that verifies nothing. -/
def blankToken : Token := { nonce := 0, identity := 0, signedBy := 0, ecdsaOk := false, lmsOk := false, count := 0, digestOk := false }

/-- A training outcome that is all clear. -/
def passed : TrainResult :=
  { ok := true, failRank := 0, failSub := 0, errors := 0, firstLane := 0, values := [], margins := 0, committed := true }

theorem test_ill_formed_dram : ([.trainingCheckpoint 8 1 0 passed, .trainingCheckpoint 0 0 0 passed, .trainingCheckpoint 0 7 0 passed,
    .trainingCheckpoint 0 1 4 passed, .writeBatch 8 0, .writeBatch 0 1000, .deviceMark 8 0 0, .deviceMark 0 8 0, .deviceMark 0 0 10, .refresh 8 ⟨0, 0, .issued⟩, .refresh 0 ⟨4, 0, .issued⟩, .refresh 0 ⟨0, 4, .issued⟩,
    .mr4Poll 8 1, .shadowSetChange 4 true, .idleSelfRefresh 8, .dramChannelFailure 8 1, .dramChannelFailure 0 0,
    .dramChannelFailure 0 4, .panPolicyWrite .headA 64 0, .panPolicyWrite .headA 0 (2 ^ 32), .dqsTrack 8 0 0] : List Instr).any
    wellFormed = false := by decide

theorem test_ill_formed_store : ([.partialPageTimeout 0 32 0, .pageProgramComplete 0 32 0 0, .programFail 0 32 0, .lostPage 0 32 0,
    .nandReadComplete 0 32 0 .rebuilt .ok 0, .eraseComplete 32 0 0 true, .eraseComplete 0 16 0 true, .eraseComplete 0 0 32768 true,
    .dieResetTimeout 32 0, .dieResetTimeout 0 16, .cellarProgram .firmware 2048 0 0, .cellarProgram .firmware 0 1024 0,
    .cellarErase .firmware 2048, .cellarRead 2048 0 1 false 0, .cellarRead 0 1024 1 false 0] : List Instr).any wellFormed = false := by
  decide

theorem test_ill_formed_watch : ([.pmbusPoll 4 none 0 false, .pmbusTargetAbsent 4, .calibrationWrite .headA 0xFC 0,
    .calibrationWrite .headA 0x128 0, .calibrationWrite .headA 0x102 0, .calibrationWrite .headA 0x100 (2 ^ 32), .thermalSample [(24, .invalid)],
    .faultEvent 256 0 0 .rises, .wirefault 256 true, .faultWindowExpiry 256, .acknowledgeClass .headA (2 ^ 16),
    .clearSticky .headA false 8 0, .clearSticky .headA false 0 (2 ^ 32), .tallyTrigger 512 0 0, .tallyTrigger 0 8 0,
    .softwareTrigger .headA 16] : List Instr).any wellFormed = false := by decide

theorem test_ill_formed_heads : ([.hostMemWrite .a 0 0 [] false false false, .hostMemWrite .a 63 0 [1, 2] false false false,
    .linkUp .a 6 0 false, .linkUp .a 0 4 false, .semAcquire .a 32 0 false, .semRelease .a 32 0, .setChapenVersion .a 256 0,
    .setChapenVersion .a 1 256, .getPanRoles .a 1024 1, .setPanRoles .a 0 false [⟨1024, 0, 0⟩] true,
    .setPanRoles .a 0 false [⟨0, 5, 0⟩] true, .setPanRoles .a 0 false [⟨0, 0, 2 ^ 16⟩] true, .unsupportedCommand .a (2 ^ 16),
    .setEventInterruptPolicy .a [0], .setEventInterruptPolicy .a [256, 0, 0, 0, 0], .setTimestamp .a (2 ^ 64), .injectPoison .a 1,
    .clearPoison .a 1 [], .clearPoison .a 0 [], .malformedMailboxCommand .a (2 ^ 16), .hdmDecoderCommit .a 4 ⟨0, 0, 0, 1, 0, 0⟩] : List Instr).any
    wellFormed = false := by decide

theorem test_ill_formed_rake : ([.hello (2 ^ 16) 2 1 1, .hello 0 256 1 1, .hello 0 2 256 1, .hello 0 2 1 256, .identify (2 ^ 16),
    .regRead (2 ^ 16) 0 1, .regRead 0 (2 ^ 32) 1, .regRead 0 0 (2 ^ 32), .regWrite (2 ^ 16) 0 0, .regWrite 0 (2 ^ 32) 0,
    .regWrite 0 0 (2 ^ 32), .getNonce (2 ^ 16) 0, .getNonce 0 256, .dlBegin (2 ^ 16) 1 1, .dlBegin 0 (2 ^ 32) 1, .dlBegin 0 1 (2 ^ 64),
    .dlData (2 ^ 16) 0 1 none true, .dlData 0 (2 ^ 32) 1 none true, .schedule (2 ^ 16) 1, .schedule 0 (2 ^ 32), .bundleBegin (2 ^ 16) 1,
    .bundleBegin 0 (2 ^ 32), .bundleData (2 ^ 16) 0 1 none, .bundleData 0 (2 ^ 32) 1 none, .journalRead (2 ^ 16) 1 0 1, .badOp (2 ^ 16) 0,
    .badOp 0 (2 ^ 16)] : List Instr).any wellFormed = false := by decide

theorem test_ill_formed_ports : ([.registerWrite .headA (2 ^ 24 - 3) 4 0, .registerWrite .headA 0 4 (2 ^ 32), .telemetryPageRead 256 false,
    .entdaa 128, .setdasa 128 0, .setdasa 0 128, .setnewda 128, .enec 256, .disec 256, .bypass 256, .bypass 2, .brineHello false 256 0 0 ⟨0, 0⟩,
    .brineHello false 0 256 0 ⟨0, 0⟩, .brineHello false 0 0 0 ⟨4, 0⟩, .setUnlockSecret .a 0 none none true, .joinFrame 0 5 0 [], .joinFrame 0 4 4 [], .statusFrame 4 0 true 0 0 0,
    .statusFrame 0 256 true 0 0 0, .statusTimeout 4, .trigFrame 4 0, .trigFrame 0 256, .markerFrame 4 0 0 false 0,
    .stageAckFrame 4 0 0] : List Instr).any wellFormed = false := by decide

theorem test_well_formed_neighbours : ([.trainingCheckpoint 7 6 3 passed, .deviceMark 7 7 9, .dramChannelFailure 7 3,
    .panPolicyWrite .headA 63 (2 ^ 32 - 1), .eraseComplete 31 15 32767 true, .cellarProgram .firmware 2047 1023 0, .pmbusPoll 3 none 0 false,
    .calibrationWrite .headA 0x124 0, .thermalSample [(23, .invalid)], .faultEvent 255 0 0 .rises, .tallyTrigger 511 7 0,
    .hostMemWrite .a 63 0 [1] false false false, .semAcquire .a 31 0 false, .setPanRoles .a 0 false [⟨1023, 4, 0⟩] true,
    .hdmDecoderCommit .a 3 ⟨0, 0, 0, 1, 0, 0⟩, .regWrite 65535 0 0, .registerWrite .headA (2 ^ 24 - 4) 4 0, .bypass 3, .joinFrame 0 4 3 [],
    .rakeSealBreak 0 blankToken true] : List Instr).all wellFormed = true := by decide

/-! ### PowerUpAndDown -/

/-- R15: VAON_FALL in ARMED, and back; the premises of PowerUpAndDown. -/
theorem test_met_PowerUpAndDown : dark.dev.st = .off ∧ (∀ e ∈ dark.cel.sectors, e.2.flag = false) ∧ dark.cel.retireOwed = [] ∧
    armed.dev.st ≠ .off := by decide
theorem test_vaon_rise_recover : ((after (.vaonRise true) dark).dev.st, (after (.vaonRise true) dark).upd.recoveryCause) = (.recovery, 1) := by decide

/-! ### MainRails -/

/-- R544, R545: the premises of MainRails, clause by clause. -/
theorem test_met_MainRails :
    (unpowered.dev.mainUp = false ∧ unpowered.dev.st = .boot) ∧
    (deadHalt.dev.mainUp = false ∧ deadHalt.dev.st = .halt ∧ deadHalt.dev.halt = .fault) ∧
    (armed.dev.mainUp = true ∧ resettable armed = true) ∧ (saveNow.dev.mainUp = true ∧ saveNow.saving = true) := by decide

/-! ### PowerGoodRestarts -/

theorem test_met_PowerGoodRestarts :
    [1, 3, 5].all (fun k => (sealedBy k).dev.st = .sealed ∧ (sealedBy k).sal.cal.pgMs ≤ 100 ∧ (sealedBy k).dev.savedBy = k) := by decide
/-- R62 at the sealed time of Salt Flat 512, 100 ms: one millisecond less does nothing. -/
theorem test_power_good_time : ((after (.powerGood 100) (sealedBy 1)).dev.st, (after (.powerGood 99) (sealedBy 1)).dev.st) = (.boot, .sealed) := by decide

/-! ### ResetPin -/

/-- R549: the premises of ResetPin, state by state. -/
theorem test_met_ResetPin :
    resettable armed = true ∧ (deadHalt.dev.st = .halt ∧ deadHalt.dev.halt = .fault) ∧ saveNow.saving = true ∧
    ((sealedBy 5).dev.st = .sealed ∧ (sealedBy 5).dev.savedBy = 5) ∧ ((sealedBy 1).dev.st = .sealed ∧ (sealedBy 1).dev.savedBy ≠ 5) ∧
    (hot.dev.st = .halt ∧ hot.dev.halt = .thermal) ∧ dark.dev.st = .off := by decide

/-! ### HeadResetIsOneHeads -/

theorem test_met_HeadResetIsOneHeads : armed.saving = false ∧ armed.alive = true ∧ (armed.heads.get .b).up = true := by decide

/-! ### PowerFailDetections -/

theorem test_met_PowerFailDetections :
    (armed.running = true ∧ armed.sal.holdArm = true) ∧ (cold.dev.st ≠ .off ∧ cold.saving = false ∧ cold.sal.holdArm = false) ∧
    saveNow.saving = true := by decide
/-- R57, R77: GLITCHES saturates at its 16 bits. -/
theorem test_glitch_saturates : (after .glitchReject { cold with sal := { cold.sal with glitches := 65535 } }).sal.glitches = 65535 := by decide

/-! ### EnergyCountsAsZero -/

theorem test_met_EnergyCountsAsZero :
    ({ armed with dev := { armed.dev with aonUs := 4001 } } : State).sal.euseAtUs + 4000 < 4001 ∧ armed.sal.valid = true ∧
    armed.dev.aonUs ≤ armed.sal.euseAtUs + 4000 := by decide

/-! ### GovernorTick -/

theorem test_met_GovernorTick : (armed.ticks = true ∧ armed.calmTick = true) ∧ armed.disarmCause ((storeTick (budgetTick armed)).conditions 0) ≠ 0 := by decide
/-- R25: with no layout in force condition 1 fails, so ARMED is left at once. -/
theorem test_tick_disarms : ((after .governorTick armed).dev.st, (after .governorTick armed).gov.lastDisarm) = (.unarmed, 1) := by decide

/-! ### ArmingAndWear -/

/-- UNARMED, every condition holding for the holdoff. -/
def ready : State := { unarmed with gov := { unarmed.gov with cond := ⟨true, true, true, true, true, true⟩, holdoffDone := true, accessHeld := true } }
/-- A settings copy in force for SLOT_A. -/
def withArea (s : State) : State := { s with upd := { s.upd with area0 := some { slot := false, schema := 3, age := 1, vals := {} } } }
theorem test_met_ArmingAndWear :
    (ready.dev.st = .unarmed ∧ ready.gov.cond.all = true ∧ ready.gov.holdoffDone = true ∧ ready.tly.fifo.length < 31 ∧
      ready.pip.sanStep = 0 ∧ ready.gov.accessHeld = true ∧ ready.journalRoom = true) ∧
    (armed.ticks = true ∧ armed.settled 0xF3 armed.wearOut = true) ∧
    ((withArea armed).dev.loaded = true ∧ (withArea armed).upd.refuseArm = false ∧ (withArea armed).upd.settingsHeld = false ∧
      (withArea armed).upd.areaFor (withArea armed).upd.running = some 0 ∧ ((withArea armed).upd.areaCopy 0).isSome = true) := by decide
theorem test_arm_opens_image : (after .armDevice ready).jrn = [.openImage false] := by decide

/-! ### SampleIntegrates -/

theorem test_met_SampleIntegrates :
    (armed.salRuns = true ∧ armed.sal.soc ≤ 1000000000 ∧ armed.sal.callOad = false) ∧
    ({ armed with sal := { armed.sal with callOad := true } } : State).sal.callOad = true ∧
    ({ card with profile := { cardProfile with kind := 3 } } : Layout).profile.battery = false := by decide

/-! ### PublishReading -/

/-- Gain 1, offset 0. -/
def unitCal : AdcCal := { gain := 0x8000, offset := 0 }
theorem test_met_PublishReading :
    (armed.salRuns = true ∧ armed.settled 0x92 false = true ∧ armed.settled 0x93 false = true ∧
      ntcBroken (none : Option Thermistor).isSome (ntcTemp unitCal none (some 100000)) = false ∧ armed.profile = none) ∧
    (let s : State := { carded with flt := { carded.flt with live := [0x92, 0x93] } }
     s.salRuns = true ∧ s.settled 0x92 true = true ∧ s.settled 0x93 true = true) := by
  decide
/-- 100 mV over 10 kΩ at 10 µA is 25 °C; a short or an open input is no reading. -/
theorem test_ntc_25 : ntcTemp unitCal (some { beta := 3435, ohm25 := 10000 }) (some 100000) = some 400 ∧
    ntcBroken true (ntcTemp unitCal (some { beta := 3435, ohm25 := 10000 }) none) = true := by decide

/-! ### SourceAndCharge -/

theorem test_met_SourceAndCharge :
    (carded.profile = some cardProfile ∧ carded.salRuns = true ∧ carded.sal.vbkMv < cardProfile.plausLo) ∧
    (cardHeld.profile = some cardProfile ∧ cardHeld.windowOpen Head.a.port = true ∧ cardHeld.holds .a 1 = true) ∧
    (carded.saving = false ∧ carded.sal.callOad = false) ∧
    (let s : State := { carded with flt := { carded.flt with live := [0x90, 0x91] } }
     s.pmbList[0]? = some ⟨0x40, .charger, true⟩ ∧ s.pmbList[1]? = some ⟨0x41, .converter, true⟩ ∧
       s.settled 0x90 true = true ∧ s.settled 0x91 true = true ∧ s.settled 0x93 s.sal.adcFail = true ∧ 1 < s.pmbList.length ∧
       s.pmbOf .converter = some 1 ∧ (s.pmb 0).voutMode = none) := by decide

/-! ### LearningCycle -/

/-- A learning cycle at a step, cell 1 held by Head A. -/
def learning (n : Nat) : State := { cardHeld with sal := { cardHeld.sal with learn := { cardHeld.sal.learn with step := n } } }
theorem test_met_LearningCycle :
    (cardHeld.profile = some cardProfile ∧ cardHeld.sal.learn.step = 0 ∧ cardHeld.salRuns = true ∧ cardHeld.saving = false ∧
      cardHeld.windowOpen Head.a.port = true ∧ cardHeld.holds .a 1 = true ∧ cardHeld.learnOk = false) ∧
    ((learning 1).alive = true ∧ (learning 1).saving = false ∧ (learning 1).sal.learn.step = 1 ∧ (learning 4).sal.learn.step = 4 ∧
      (learning 4).windowOpen Head.a.port = true ∧ (learning 4).holds .a 1 = true) ∧
    ({ cardHeld with sal := { cardHeld.sal with chargeDone := true, rested := true, ntc0 := some 400, ntc1 := some 400, euseComputed := 100000 }
                     drn := { cardHeld.drn with k := 1 } } : State).learnOk = true := by decide

/-! ### LearningSteps -/

theorem test_met_LearningSteps :
    ((learning 1).sal.learn.step = 1 ∧ (learning 1).map.total ≤ (learning 1).bceilOf (learning 1).euseNow) ∧
    ((learning 3).sal.learn.step = 3 ∧ (learning 4).sal.learn.step = 4 ∧ (learning 5).sal.learn.step = 5 ∧
      (learning 7).sal.learn.step = 7) ∧
    ((learning 4).profile = some cardProfile ∧ (learning 4).sal.vbkMv ≤ cardProfile.vFloor * cardProfile.series) ∧
    (cardProfile.anchors 6300 = true ∧ cardProfile.anchors 6540 = false ∧ cardProfile.kind ≠ 3 ∧
      cardProfile.anchors (learning 5).vOc = true ∧
      (measuredCap cardProfile { (learning 5).sal.learn with ocvL2 := 6620, chargeUc := 1000000000 } (learning 5).vOc).isSome = true) ∧
    ((learning 7).alive = true ∧ (learning 7).saving = false) := by decide
/-- R53: a better ESR moves by at most 5 percent. -/
theorem test_esr_after : (esrAfter 40000 20000, esrAfter 40000 50000, capAfter 1000 2000, capAfter 1000 900) = (38000, 50000, 1050, 900) := by decide

/-! ### SealBreakOpens -/

/-- A seal token and the state it is good in. -/
def sealToken : Token := { nonce := 5, identity := 0, signedBy := 1, ecdsaOk := true, lmsOk := true, count := 0, digestOk := true }
def sealReady (p : Port) : State :=
  { holding with key := { holding.key with nonces := [(.seal, p, ⟨5, 0⟩)], owner := some { gen := 1, ecdsa := 0, lms := 0 }, rbgOk := true } }
set_option exponentiation.threshold 1024 in
theorem test_met_SealBreakOpens :
    (let s := sealReady .headA
     s.served .a = true ∧ s.holds .a 1 = true ∧ s.key.rbgOk = true ∧ s.nonceOf .seal Head.a.port = some sealToken.nonce ∧
       s.key.owner = some { gen := 1, ecdsa := 0, lms := 0 } ∧ sealToken.signedBy = 1 ∧
       sealToken.identity = s.key.identity ∧ s.sal.breaksUsed = 0 ∧ s.journalRoom = true ∧ s.nonceOf .seal Head.a.port ≠ some 6) ∧
    (let s : State := { sealReady .headA with sal := { holding.sal with breaksUsed := 16 } }
     s.served .a = true ∧ s.holds .a 1 = true ∧ 16 ≤ s.sal.breaksUsed) ∧
    (let s : State := { sealReady .rake with sem := {}, svc := { holding.svc with negotiated := true, major := 2 } }
     s.running = true ∧ s.dev.startDue = false ∧ s.svc.response = none ∧ s.held 1 = false ∧ s.nonceOf .seal .rake = some 5) := by
  set_option maxRecDepth 4000 in decide

/-! ### SealCloses -/

/-- An open seal with its staged copy. -/
def sealOpened : State := { holding with sal := { holding.sal with sealOpen := true } }
theorem test_met_SealCloses :
    (sealOpened.alive = true ∧ sealOpened.saving = false ∧ sealOpened.served .a = true ∧ sealOpened.holds .a 1 = true ∧
      sealOpened.sal.sealOpen = true ∧ sealOpened.sal.staged.uvMv < sealOpened.sal.staged.pgMv ∧ sealOpened.windowOpen Head.a.port = true) ∧
    (let s : State := { sealOpened with sal := { sealOpened.sal with staged := { sealOpened.sal.staged with pgMv := 0 } } }
     s.served .a = true ∧ s.holds .a 1 = true ∧ s.sal.sealOpen = true ∧ s.sal.staged.pgMv ≤ s.sal.staged.uvMv) ∧
    (10 ≤ sealOpened.sal.staged.pgMs ∧ sealOpened.sal.staged.pgMs ≤ 1000) ∧
    (holding.alive = true ∧ holding.served .a = true ∧ holding.holds .a 1 = true ∧ holding.sal.sealOpen = false) ∧
    (let s : State := { sealOpened with sem := {}, svc := { sealOpened.svc with negotiated := true, major := 2 } }
     s.running = true ∧ s.dev.startDue = false ∧ s.svc.response = none ∧ s.held 1 = false ∧ s.windowOpen .rake = true) ∧
    ((NonceKind.seal, Port.headA) ≠ (NonceKind.seal, Port.rake)) := by decide

/-! ### MarkAndClaim -/

/-- A card whose map works, one region's line in the cache with the bits of a number set. -/
def mapped (line : Nat) : State :=
  { carded with
    map := { carded.map with
      ready := true, total := 1, rst := [(0, { carded.map.rstBase with dirty := 1 })]
      cache := [⟨0, line, false, false, [], 0⟩] } }
set_option maxRecDepth 8000 in
theorem test_met_MarkAndClaim :
    ((mapped 8).mapOn = true ∧ 3 < (mapped 8).granules ∧ (mapped 8).cached (regionOf 3) = some ⟨0, 8, false, false, [], 0⟩ ∧
      (mapped 8).dirtyBit 3 = true ∧ (mapped 8).dirtyBit 4 = false ∧ (mapped 8).map.inflight.contains 3 = false ∧
      (mapped 8).map.inflight.length < 8192 ∧ 0 < (mapped 8).map.total ∧ 0 < ((mapped 8).rstOf (regionOf 3)).dirty) ∧
    (let s : State := { mapped 8 with map := { (mapped 8).map with inflight := [3] } }
     s.mapOn = true ∧ s.map.inflight.contains 3 = true ∧ s.map.claimWait = [] ∧ s.dirtyBit 3 = true ∧ s.abandoning 3 = false) ∧
    (mapRepair 0 (.mapEntry 4 0) (mapped 8)).mapOn = true ∧ 4 < (mapRepair 0 (.mapEntry 4 0) (mapped 8)).granules := by decide
theorem test_met_full_table :
    (List.replicate 8192 (5 : Nat)).length = 8192 ∧ (List.replicate 8192 (5 : Nat)).contains 3 = false := by
  constructor
  · exact List.length_replicate
  · rw [List.contains_eq_any_beq, List.any_eq_false]; intro x hx; rw [List.eq_of_mem_replicate hx]; decide
theorem test_mark_counts : ((after (.markGranule 4 .none) (mapped 8)).map.total, (after (.markGranule 3 .none) (mapped 8)).map.total) = (2, 1) := by decide

/-! ### EpochAuditFill -/

/-- The same map with region 0's line on its way from DRAM, a mark of granule 5 waiting for it. -/
def filling : State :=
  { mapped 0 with
    map := { (mapped 0).map with
      rst := [(0, { carded.map.rstBase with dirty := 2 })], lines := [(0, 6)], cache := [⟨0, 0, false, true, [.mark 5], 0⟩] } }
set_option maxRecDepth 8000 in
theorem test_met_EpochAuditFill :
    ((mapped 8).running = true ∧ (mapped 8).map.ready = true ∧ 0 < (mapped 8).regions ∧
      lineCount ((mapped 8).lineOf 0) = ((mapped 8).rstOf 0).dirty) ∧
    (lineCount ((mapped 9).lineOf 0) ≠ ((mapped 9).rstOf 0).dirty ∧ ((mapped 9).cached 0).any (·.filling) = false ∧
      (mapped 9).mild 0x80 = true) ∧
    (0 < filling.regions ∧ regionOf 5 = 0 ∧ filling.cached 0 = some ⟨0, 0, false, true, [.mark 5], 0⟩ ∧ filling.map.stalled = [] ∧
      filling.map.claimWait = [] ∧ filling.saving = false ∧ filling.mild 0x80 = true) := by decide

/-! ### DrainPath -/

/-- Granule 3 in flight, its DRAM read issued. -/
def draining : State :=
  { mapped 0 with
    map := { (mapped 0).map with inflight := [3] }
    drn := { (mapped 0).drn with path := [⟨3, .reading, 0⟩] } }
/-- Its record on a closed page of an open row. -/
def drainPage : StorePage :=
  { rowSeq := 7, channel := 1, stripe := 0, kind := .data, tag := 1, lines := [], used := 18, spills := false, closed := true, sent := true
    recs := [{ granule := 3, slot := 1, length := 64, raw := true, fast := false, tag := 1, body := [] }] }
def drainRow : BedRow :=
  { seq := 7, lane := 0, cls := .data, blocks := [(0, 9), (1, 9)], state := .opened, cursor := 1, parityDone := [], queued := 0 }
def programming : State := { draining with bed := { draining.bed with rows := [drainRow], staged := [drainPage] } }
theorem test_met_DrainPath :
    (draining.running = true ∧ (draining.drn.path.any fun i => i.granule == 3 && i.step = .reading) = true ∧
      (∀ k, k < 64 → draining.poison.contains (3 * 64 + k) = false ∧
        (draining.dchan (draining.site ((3 * 64 + k) * 64)).channel).failed = false)) ∧
    (({ draining with poison := [195] } : State).poison.contains (3 * 64 + 3) = true ∧ draining.map.claimWait = []) ∧
    (programming.stagedAt 7 1 0 = some drainPage ∧ drainPage.sent = true ∧ programming.row 7 = some drainRow ∧
      drainPage.spills = false ∧ programming.map.inflight.contains 3 = true ∧ programming.bed.pages = [] ∧
      (programming.chan 1).dieFails = [] ∧ programming.mild 0x52 = true) ∧
    (3 < programming.granules ∧ programming.cached (regionOf 3) = some ⟨0, 0, false, false, [], 0⟩) := by decide

/-! ### StoreTimersAndPause -/

/-- The row of `drainRow` with an open map row beside it, and drainPage on the media. -/
def storing : State :=
  { programming with
    bed := { programming.bed with
      rows := [drainRow, { drainRow with seq := 8, cls := .map, cursor := 0, blocks := [(0, 10), (1, 10)] }]
      staged := [], pages := [drainPage] }
    map := { programming.map with hmap := [(3, { state := .stored, loc := programming.locOf drainRow drainPage 1, length := 64, raw := true })] }
    drn := { programming.drn with delta := [0], path := [] } }
/-- The page of `storing` with its record a raking copy of one on channel 0. -/
def movedPage : StorePage := { drainPage with recs := drainPage.recs.map fun x => { x with src := some (storing.locOf drainRow { drainPage with channel := 0 } 1) } }
def movedStore : State := { storing with bed := { storing.bed with pages := [movedPage, { drainPage with channel := 0 }] } }
theorem test_met_StoreTimersAndPause :
    (movedStore.running = true ∧ movedStore.row 7 = some drainRow ∧
      (movedStore.bed.pages.find? fun p => p.rowSeq == 7 && p.channel == 1 && p.stripe == 0) = some movedPage ∧ movedPage.recs.length = 1 ∧
      names (movedStore.hmOf 3) (movedStore.locOf drainRow movedPage 1) = true ∧
      (movedStore.recAt (storing.locOf drainRow { drainPage with channel := 0 } 1)).map (fun y => y.granule) = some 3 ∧
      movedStore.locOf drainRow movedPage 1 ≠ storing.locOf drainRow { drainPage with channel := 0 } 1 ∧
      (∀ q ∈ movedStore.bed.pages, q.spills = false)) ∧
    (storing.running = true ∧ storing.row 7 = some drainRow ∧ drainRow.parityDone.contains 0 = false) ∧
    (let w := { drainRow with blocks := [(0, 9), (1, 9), (2, 9)] }
     let s : State := { storing with bed := { storing.bed with rows := [w] } }
     s.row 7 = some w ∧ w.state = .opened ∧ 0 * (w.width - 1) < w.cursor ∧ w.cursor < (0 + 1) * (w.width - 1)) ∧
    (storing.drn.delta ≠ [] ∧ storing.segmentLines ≠ 0 ∧ storing.bufferFree = true ∧
      (storing.openRow .map 0).map (fun w => decide (w.cursor < storing.rowPages w)) = some true) ∧
    ((storing.bed.pages.find? fun p => p.rowSeq == 7 && p.channel == 1 && p.stripe == 0) = some drainPage ∧
      storing.inPage drainRow drainPage = [3] ∧ (∀ x ∈ drainPage.recs, x.src = none) ∧ 3 < storing.granules ∧ storing.restoredBit 3 = true ∧
      storing.cached (regionOf 3) = some ⟨0, 0, false, false, [], 0⟩ ∧ (storing.map.cache.any fun e => e.filling) = false ∧
      ({ storing with fld := { storing.fld with restored := { storing.fld.restored with exc := [3] } } } : State).restoredBit 3 = false) ∧
    (let s : State := { storing with sem := holding.sem, drn := { storing.drn with bwh := 2 } }
     s.windowOpen .headA = true ∧ s.holds .a 1 = true ∧ s.drn.paused = false ∧ s.tly.fifo.length < 32 ∧ s.map.total < s.drn.bwh) := by decide

/-! ### PlannedShutdown -/

/-- The premises of PlannedShutdown: cell 1 held by Head A at generation 0, while the device runs and while it cannot save. -/
theorem test_met_PlannedShutdown :
    (holding.served .a = true ∧ (holding.cell 1).gen = 0 ∧ holding.holds .a 1 = true ∧ holding.running = true ∧
      holding.sal.holdArm = true ∧ holding.pip.sanStep = 0) ∧
    (let s := { holding with sal := { holding.sal with holdArm := false } }
     s.served .a = true ∧ s.holds .a 1 = true ∧ s.sal.holdArm = false) := by decide

/-! ### SavePacing -/

theorem test_met_SavePacing :
    (saveNow.saving = true ∧ saveNow.hrv.m3 = false ∧ saveNow.hrv.thermalEnd = false ∧ saveNow.hrv.endNow = false ∧
      saveNow.backlogDone = true) ∧
    (let s := { saveNow with hrv := { saveNow.hrv with m3 := true } }; s.saving = true ∧ s.hrv.m3 = true) ∧
    (let s := { saveNow with hrv := { saveNow.hrv with thermalEnd := true } }; s.saving = true ∧ s.hrv.m3 = false) := by decide
/-- R60: 1 mJ is 1,000 steps of the accumulator's 1 µJ. -/
theorem test_econs_value : (after (.econsPublish true true) { saveNow with sal := { saveNow.sal with accUj := 1999 }, hrv := { saveNow.hrv with m3 := true } }).sal.econs = 1 := by decide

/-! ### CheckpointAndSeal -/

/-- A save at H4 with a checkpoint of its own on the media. -/
def tailDone : State :=
  { saveNow with
    hrv := { saveNow.hrv with phase := 5, m3 := true }
    bed := { saveNow.bed with ckpts := [{ saveNow.checkpoint true true with copyA := true }] } }
/-- The premises of CheckpointAndSeal. -/
theorem test_met_CheckpointAndSeal :
    (let s := { saveNow with hrv := { saveNow.hrv with phase := 4, m3 := true }, bed := { saveNow.bed with chans := [(0, { active := true })] } }
     s.saving = true ∧ s.hrv.m3 = true ∧ s.hrv.phase = 4 ∧ (runTail s).activeCh ≠ []) ∧
    (let s := { saveNow with hrv := { saveNow.hrv with phase := 4, m3 := true } }
     s.saving = true ∧ s.hrv.m3 = true ∧ s.hrv.phase = 4 ∧ (runTail s).activeCh = []) ∧
    (tailDone.saving = true ∧ tailDone.hrv.phase = 5 ∧ tailDone.hrv.failed = false ∧
      tailDone.bed.ckpts.map (fun c => c.hdr.saveSeq) = [tailDone.hrv.saveSeq] ∧ tailDone.pins.rstLatched = false ∧ tailDone.cel.op = .idle) := by decide

/-! ### HostMemory -/

/-- Head A decodes the card from host address 0, pan 0 its own. -/
def decoding : State :=
  { mapped 0 with
    pans := [(0, { state := .headA, acc := ⟨.write, .none⟩ })]
    heads := ⟨{ linked with credits := 5, decoders := [(0, some { hpaBase := 0, size := 2 ^ 30, ways := 1, gran := 256, position := 0, dpaBase := 0 })] },
      { linked with credits := 1 }⟩ }
/-- The same with a posted write of Head A on the line read, with its line's granule poisoned, and still to be restored. -/
def decodingPosted : State := { decoding with dmc := { decoding.dmc with posted := [⟨.a, 64, [9], false, false, 0⟩], postedHeld := true } }
def decodingUnrestored : State := { decoding with fld := { decoding.fld with restored := { base := false, exc := [] } } }
theorem test_met_HostMemory :
    (dark.memUp .a = false ∧ decoding.memUp .a = true ∧ (decoding.heads.get .a).credits ≠ 0 ∧ (linked.credits = 0 ∨ dark.memUp .b = false)) ∧
    (decoding.memUp .b = true ∧ (decoding.heads.get .b).credits ≠ 0 ∧ decoding.memCheck .b 70 (fun a => a ≠ .none) = .inl 2 ∧
      decoding.memCheck .b 70 (fun a => a = .write) = .inl 2 ∧ decoding.tly.fifo.length < 32) ∧
    (decodingPosted.memCheck .a 70 (fun a => a ≠ .none) = .inr 70 ∧ decodingPosted.restoredBit (70 / 4096) = true ∧
      decodingPosted.fld.lost.contains (70 / 4096) = false ∧ decodingPosted.mild 0x40 = true ∧ decodingPosted.mild 0x41 = true ∧
      (decodingPosted.dmc.posted.all fun p => decide (p.dpa / granuleBytes < decodingPosted.granules) &&
        decodingPosted.resident (regionOf (p.dpa / granuleBytes))) = true) ∧
    (decodingUnrestored.memUp .a = true ∧ decodingUnrestored.memCheck .a 4000 (fun a => a ≠ .none) = .inr 4000 ∧
      decodingUnrestored.memCheck .a 4000 (fun a => a = .write) = .inr 4000 ∧ decodingUnrestored.restoredBit (4000 / 4096) = false ∧
      (decodingUnrestored.rstOf (4000 / 2097152)).restored = false ∧ decodingUnrestored.fld.restored ≠ {} ∧
      decodingUnrestored.fld.gateCache.contains (4000 / 2097152) = false ∧ decodingUnrestored.dmc.posted = [] ∧ decodingUnrestored.mild 0x41 = true) ∧
    (decodingPosted.memCheck .a 127 (fun a => a = .write) = .inr 127 ∧ 127 / granuleBytes < decodingPosted.granules ∧
      decodingPosted.resident (regionOf (127 / granuleBytes)) = true ∧ decodingPosted.postedRoom .a = true ∧ (false && decodingPosted.postedRoom .a) = false) ∧
    (decodingPosted.running = true ∧ decodingPosted.dmc.postedHeld = true ∧
      decodingPosted.dmc.postedLimitKib = postedLimit decodingPosted.dmc.current ∧ decoding.dmc.postedHeld = false) := by decide
/-- R84, R301: the write stops at its line's end. -/
theorem test_write_in_line :
    ((after (.hostMemWrite .a 62 1 [1, 2, 3] false false false) decoding).dram, (after (.hostMemWrite .a 62 1 [1, 2, 3] false false false) decoding).map.total) =
      ([(62, 1), (63, 2)], 2) := by decide
set_option maxRecDepth 8000 in
/-- R84, R133: a read of a line finds the posted write to it. -/
theorem test_read_posted :
    ((after (.hostMemRead .a 70 7 .clean 100) decodingPosted).dmc.posted, (after (.hostMemRead .a 70 7 .clean 100) decodingPosted).dram,
      (after (.hostMemRead .a 70 7 .clean 100) decodingPosted).dirtyBit 0) = ([], [(64, 9)], true) := by decide

/-! ### RestoreGranules -/

/-- Restore under way: granule 3's record on drainPage, granule 4 ZERO, a read of granule 3 waiting. -/
def restoring : State :=
  { storing with
    fld := { storing.fld with
      restoring := true, restored := { base := true, exc := [3, 4] }
      fetches := [⟨3, [{ head := .a, isWrite := false, dpa := 12352, data := [], poison := false, tag := 5 }], none⟩] }
    pip := { storing.pip with keyLoaded := true } }
def unfetched : State := { restoring with fld := { restoring.fld with fetches := [] } }
/-- The record of `drainPage` with its tag under the keys of `restoring`, on its page. -/
def taggedRec : GranRec := { granule := 3, slot := 1, length := 64, raw := true, fast := false, tag := 1, body := [(7, 9)]
                             itag := drainPage.recTag 0 0 { granule := 3, slot := 1, length := 64, raw := true, fast := false, tag := 1, body := [(7, 9)] } }
def taggedPage : StorePage := { drainPage with recs := [taggedRec] }
def tagged (s : State) : State := { s with bed := { s.bed with pages := [taggedPage] } }
theorem test_met_record :
    (tagged unfetched).recIn ((tagged unfetched).hmOf 3).loc = some (taggedPage, taggedRec) ∧
    (tagged unfetched).recChecks taggedPage taggedRec 3 ((tagged unfetched).hmOf 3) = true ∧
    (tagged restoring).recIn ((tagged restoring).hmOf 3).loc = some (taggedPage, taggedRec) ∧
    (tagged restoring).recChecks taggedPage taggedRec 3 ((tagged restoring).hmOf 3) = true := by
  have e : taggedRec.itag = taggedPage.recTag 0 0 taggedRec := by
    simp only [StorePage.recTag, GranRec.head, GranRec.cipher, GranRec.payload, taggedRec, taggedPage]
  have c : ∀ s : State, s.pip.keyLoaded = true → s.pip.kx = 0 → s.pip.km = 0 → (s.hmOf 3).length = 64 → (s.hmOf 3).raw = true →
      s.recChecks taggedPage taggedRec 3 (s.hmOf 3) = true := by
    intro s h1 h2 h3 h4 h5
    unfold State.recChecks
    rw [h1, h2, h3, h4, h5, ← e, beq_self_eq_true]
    rfl
  exact ⟨rfl, c _ rfl rfl rfl rfl rfl, rfl, c _ rfl rfl rfl rfl rfl⟩
set_option maxRecDepth 8000 in
theorem test_met_RestoreGranules :
    (cold.running = false ∧ unfetched.running = true ∧ unfetched.fld.restoring = true ∧ unfetched.pip.sanStep = 0 ∧ unfetched.tly.fifo.length < 32 ∧
      unfetched.nextStored = some 3 ∧ unfetched.restoredBit 3 = false ∧ (unfetched.hmOf 3).state = .stored ∧ unfetched.granulesLeft ≠ 0 ∧
      (unfetched.fld.fetches.any fun f => f.granule == 3) = false) ∧
    (unfetched.nextZero = some 4 ∧ unfetched.restoredBit 4 = false ∧ (unfetched.hmOf 4).state = .zero) ∧
    ((restoring.fld.fetches.find? fun f => f.granule == 3).isSome = true ∧ restoring.fld.admission = [] ∧ 12352 / 4096 = 3 ∧
      (restoring.heads.get .a).up = true ∧ restoring.dmc.posted = [] ∧ restoring.fld.lost.contains 3 = false ∧
      (restoring.dchan (restoring.site (12352 / 64 * 64)).channel).failed = false ∧ restoring.nextStored = none) ∧
    (let s : State := { storing with lay := { storing.lay with inForce := some { card with nand := { cardNand with iterWarn := 0, retryWarn := 0 } } } }
     s.running = true ∧ s.row 7 = some drainRow ∧ (s.mediaPage drainRow 0 1).isSome = true ∧ s.row 9 = none ∧
      s.mediaPage drainRow 5 1 = none ∧ 1 < s.nand.relocate ∧ s.nand.iterWarn = 0 ∧ s.nand.retryWarn = 0 ∧ s.mild 0x53 = true ∧ s.mild 0x61 = true) := by decide

/-! ### StoreUpkeep -/

/-- storing with its row SPENT, a block in erasure, and channels 0 and 1 in service. -/
def raked : State :=
  { storing with
    bed := { storing.bed with
      rakeLevel := 1, storeReady := true, rows := [{ drainRow with state := .full }], pages := [{ drainPage with recs := [] }]
      blocks := [(blkKey 1 2 5, { state := .spent, erases := 7, erasing := true })]
      chans := [(0, { active := true, present := [0, 1, 2] }), (1, { active := true, present := [0, 1, 2] })] } }
def rowSpent : State := { raked with bed := { raked.bed with rows := [{ drainRow with state := .spent }] } }
theorem test_met_StoreUpkeep :
    (raked.rakes = true ∧ raked.victim = some { drainRow with state := .full } ∧ cold.rakes = false ∧
      (raked.latestTable.any fun p => p.rowSeq == 7) = false) ∧
    (let s := tagged { raked with map := { raked.map with rst := [] } }
     s.rakes = true ∧ s.victim = some { drainRow with state := .full } ∧ (s.hmOf 3).state = .stored ∧ taggedPage.rowSeq = 7 ∧
      s.restoredBit 3 = true ∧ (s.bed.staged.any fun q => q.recs.any fun y => y.src = some (s.hmOf 3).loc) = false) ∧
    ((spendRows rowSpent).row 7 = some { drainRow with state := .spent } ∧ rowSpent.bed.mismatch = false ∧
      rowSpent.readHeld { drainRow with state := .spent } = false ∧
      (∀ p ∈ drainRow.blocks, (rowSpent.blk p.1 0 p.2).failed = false)) ∧
    (let s : State := { rowSpent with
        bed := { rowSpent.bed with pages := [drainPage] }, fld := { rowSpent.fld with fetches := [⟨3, [], some (storing.hmOf 3).loc⟩] } }
     (spendRows s).row 7 = some { drainRow with state := .spent } ∧ s.readHeld { drainRow with state := .spent } = true) ∧
    ((raked.blk 1 2 5).erasing = true ∧ raked.alive = true ∧ raked.saving = false ∧ (raked.blk 1 2 5).erases + 1 < raked.nand.pslcPe ∧
      raked.bed.sinceTable < 4095 ∧ (raked.chan 1).dieFails = [] ∧ raked.mild 0x52 = true ∧
      ({ raked with bed := { raked.bed with blocks := [(blkKey 1 2 5, { state := .spent, erases := 49999, erasing := true })] } } : State).nand.pslcPe = 50000) ∧
    (raked.running = true ∧ raked.bed.storeReady = true ∧ (raked.chan 1).present.contains 2 = true ∧ (raked.chan 1).retired = [] ∧
      (∀ r ∈ raked.bed.rows, r.lane ≠ 2) ∧ raked.mild 0x51 = true) := by decide

/-! ### UnlockAndSanitize -/

/-- Head A holds cell 4; one blob, with a secret or without, its key set loaded or not. -/
def vault (secret loaded : Bool) : State :=
  { carded with
    sem := { carded.sem with cells := [(4, { state := .heldA })] }
    drn := { carded.drn with bwh := 5 }
    pip := { carded.pip with
      secretSet := secret, keyLoaded := loaded
      blobs := [{ gen := 6, wrap := 2, secret := secret, u := if secret then unlockU 7 else 0, kx := 9, km := 8 }] } }
/-- A sanitize accepted. -/
def erasing : State :=
  { vault true true with pip := { (vault true true).pip with sanStep := 1, sanUnlocked := true }, key := { armed.key with rbgOk := true } }
def erasing3 : State := { erasing with pip := { erasing.pip with sanStep := 3 } }
theorem test_met_right_secret (l : Bool) : (vault true l).opensWith 7 = true := by
  show (KeyBlob.tag _ _ (unlockU 7) == KeyBlob.tag _ _ (unlockU 7)) = true
  exact beq_self_eq_true _
theorem test_met_UnlockAndSanitize :
    ((vault true false).Guard .a 4 0 ∧ (vault true false).pip.secretSet = true ∧ (vault true false).pip.sanStep = 0 ∧
      (vault true false).fld.unlockFails < 8 ∧ 8 ≤ ({ vault true false with fld := { carded.fld with unlockFails := 8 } } : State).fld.unlockFails ∧
      ({ vault true false with pip := { (vault true false).pip with blobs := [] } } : State).opensWith 7 = false) ∧
    ((vault true true).Guard .a 4 0 ∧ (vault false true).Guard .a 4 0 ∧ (vault true true).tly.fifo.length + 2 ≤ 32 ∧ (vault true true).running = true ∧
      (vault true true).map.total < (vault true true).drn.bwh ∧ (vault true true).dmc.posted = [] ∧ (vault true true).key.keyUsed + 64 ≤ 1024) ∧
    (erasing.Guard .a 4 0 ∧ 0 < erasing.pip.sanStep ∧ erasing.pip.sanStep ≤ 2 ∧ erasing.running = true ∧ erasing.key.rbgOk = true ∧
      erasing.map.inflight = [] ∧ erasing.tly.fifo.length + 4 ≤ 32) ∧
    (erasing3.pip.sanStep = 3 ∧ ({ erasing3 with key := { erasing3.key with rbgOk := false } } : State).key.rbgOk = false ∧ cold.pip.sanStep = 0) := by decide
/-- R243, R244: another secret does not open the blob. -/
theorem test_met_wrong_secret : (vault true false).opensWith 8 = false := by decide +kernel

/-! ### Semaphore -/

theorem test_met_Semaphore :
    (armed.served .a = true ∧ armed.served .b = true ∧ (5 : BitVec 16) ≠ (armed.cell 31).gen ∧ armed.tly.fifo.length < 32 ∧ (armed.cell 31).state = .free) ∧
    (({ armed with heads := ⟨linked, {}⟩ } : State).served .b = false) ∧
    (holding.served .a = true ∧ holding.served .b = true ∧ (holding.cell 1).state = .heldA ∧ holding.drn.paused = false ∧
      ({ holding with drn := { holding.drn with paused := true } } : State).drn.paused = true) := by decide
/-- R271: PRI is 0 at start, so Head A wins the first tie whoever asks and Head B the next. -/
theorem test_tie_alternates :
    (let s := after (.semAcquire .b 9 0 true) armed
     let s := after (.semRelease .a 9 1) s
     let s := after (.semAcquire .a 9 2 true) s
     ((s.cell 9).state, (s.cell 9).gen, (s.sem.result.get .headA).code, (s.sem.result.get .headB).code)) = (.heldB, 3, 2, 1) := by decide

/-! ### LinksAndGrace -/

/-- Head A's link is down within its grace period. -/
def lostA : State := { holding with heads := ⟨{ linked with up := false, down := true, grace := true }, linked⟩ }
theorem test_met_LinksAndGrace :
    (lostA.heads.a.inReset = false ∧ lostA.heads.a.phyOff = false ∧ lostA.running = true ∧ lostA.heads.a.grace = true ∧
      lostA.heads.a.up = false ∧ lostA.saving = false ∧ lostA.alive = true ∧
      lostA.tly.fifo.length + ((List.range 32).filter fun n => lostA.holds .a n).length < 32 ∧ lostA.holds .a 1 = true ∧ lostA.holds .a 2 = false) ∧
    (({ lostA with dev := saveNow.dev } : State).saving = true ∧ armed.heads.a.up = true ∧ armed.served .a = true) ∧
    (carded.panCount = 510 ∧ (2 ^ 30 : Nat) % (1 * 2 ^ 30) = 0) ∧
    (({ lostA with fld := { lostA.fld with outcomeDue := true } } : State).fld.outcomeDue = true ∧ cold.heads.a.inReset = true ∧ cold.served .a = false) := by decide
/-- R274's worked example: a force-released cell is FREE with its generation stepped. -/
theorem test_grace_frees : ((after (.graceExpiry .a) lostA).cell 1, (after (.graceExpiry .a) lostA).sem.forced) = ({ gen := 1 }, 1) := by decide

/-! ### PanRoles -/

/-- Head A holds cell 0; pans 0 and 1 are Head A's and in use. -/
def roles (down : Bool) : State :=
  { carded with
    sem := { carded.sem with cells := [(0, { state := .heldB })] }
    heads := ⟨{ linked with up := !down, down := down }, linked⟩
    pans := [(0, { state := .headA, gen := 3, acc := ⟨.write, .none⟩ }), (1, { state := .headA, gen := 3, acc := ⟨.write, .none⟩ })] }
theorem test_met_PanRoles :
    ((roles false).Guard .b 0 0 ∧ (∀ c ∈ [(⟨0, 2, 3⟩ : PanChange), ⟨1, 4, 3⟩],
        c.pan < (roles false).panCount ∧ c.state ≤ 4 ∧ c.gen = ((roles false).pan c.pan).gen ∧ ((roles false).pan c.pan).losing = ⟨none, none⟩)) ∧
    ((roles true).Guard .b 0 0 ∧ ((roles true).heads.get .a).down = true ∧ ((roles true).pan 0).state.grants .b = .none ∧
      PanState.ofCode 2 = some .headB ∧ PanState.headB.grants .b = .write ∧ PanState.headB.grants .a = .none) ∧
    ((roles false).panCount ≤ 510 ∧ ((roles false).heads.get .a).down = false ∧ (Access.none).rank < (((roles false).pan 0).state.grants .a).rank ∧
      (2 : Nat) ≠ ((roles false).pan 0).gen ∧ (roles false).tly.fifo.length < 32) := by decide
/-- R274's worked example: FORCE takes a pan of a dead head; its generation steps from 3 to 4 and PENDING reads 0. -/
theorem test_force_takes :
    ((after (.setPanRoles .b 0 true [⟨0, 2, 3⟩] true) (roles true)).pan 0) =
      { state := .headB, gen := 4, acc := ⟨.none, .none⟩, offered := ⟨false, true⟩ } := by decide
theorem test_pending_shows : (after (.getPanRoles .b 0 2) (after (.setPanRoles .b 0 false [⟨0, 2, 3⟩] true) (roles false))).replies.mbox.b =
    some { opcode := 0xC120, code := 0, status := some 0, payload := .words [0x40102, 0x30001] } := by decide

/-! ### CapacityAnswers -/

/-- Pan 0 moves from Head A to Head B and waits for both hosts. -/
def moving : State := after (.setPanRoles .b 0 false [⟨0, 2, 3⟩] true) (roles false)
theorem test_met_CapacityAnswers :
    (moving.served .b = true ∧ 0 < moving.panCount ∧ (moving.pan 0).offered.get .b = true ∧ (moving.pan 0).gen = 4) ∧
    (moving.served .a = true ∧ (moving.pan 0).acc.get .a ≠ .none ∧ (moving.pan 0).losing.get .a ≠ none ∧
      (moving.pan 1).losing.get .a = none ∧ (moving.pan 1).acc.get .a ≠ .none) ∧
    ((moving.pan 5).offered.get .b = false ∧ (moving.pan 5).acc.get .b = .none ∧ (moving.pan 5).state.grants .b = .none) := by decide

/-! ### HeadCommands -/

/-- Access is held and may be released; Head A holds cell 1. -/
def barred : State := { cardHeld with gov := { cardHeld.gov with accessHeld := true }, pip := { cardHeld.pip with keyLoaded := true } }
theorem test_met_HeadCommands :
    (armed.served .a = true ∧ cold.served .a = false ∧ (5 : BitVec 16) ≠ (armed.cell 0).gen ∧ (5 : BitVec 16) ≠ (armed.cell 1).gen ∧
      armed.tly.fifo.length < 32 ∧ armed.holds .a 0 = false ∧ armed.holds .a 1 = false) ∧
    (holding.holds .a 1 = true ∧ holding.gov.accessHeld = false) ∧
    (barred.served .a = true ∧ barred.holds .a 1 = true ∧ barred.gov.accessHeld = true ∧ barred.layoutOk = true ∧ barred.bed.mismatch = false ∧
      barred.bed.censusFailed = false ∧ barred.fld.unlockWait = false ∧ barred.pip.keyLoaded = true ∧ barred.pip.sanStep = 0 ∧ barred.running = true ∧
      (let s : State := { barred with fld := { barred.fld with unlockWait := true } }; s.gov.accessHeld = true ∧ s.fld.unlockWait = true)) := by
  decide

/-! ### CxlAnswers -/

theorem test_met_CxlAnswers :
    (armed.served .a = true ∧ cold.served .a = false ∧ (armed.heads.get .a).stampBase = none) ∧
    (let x : HeadSt := { linked with stampBase := some (7, 0) }
     let s : State := { armed with heads := ⟨x, linked⟩, dev := { armed.dev with aonUs := 3 } }
     s.served .a = true ∧ (s.heads.get .a).stampBase = some (7, 0) ∧ 0 ≤ s.dev.aonUs ∧ 7 + (s.dev.aonUs - 0) * 1000 < 2 ^ 64) := by decide

/-! ### CxlSettings -/

/-- Head A may write pan 0, whose first granule is lost or not. -/
def poisoned (lost : Bool) : State :=
  { decoding with
    fld := { decoding.fld with lost := if lost then [0] else [] }, poison := if lost then List.range 64 else [1]
    dram := [(64, 7), (130, 9), (4100, 5)] }
theorem test_met_CxlSettings :
    (armed.served .a = true ∧ armed.tly.fifo.length < 32 ∧
      (let x := linked.setLog .info { recs := [{ handle := 3, stamp := 0, body := .releaseCapacity 0 0 }] }
       (∀ n ∈ [3], ∃ r ∈ (x.log .info).recs, r.handle = n) ∧ (∀ r ∈ (x.log .info).recs, r.handle ≠ 4)) ∧
      armed.access .a 0 ≠ .write) ∧
    ((poisoned true).served .a = true ∧ (poisoned true).access .a (70 / 2 ^ 30) = .write ∧ (poisoned true).mapOn = true ∧
      70 / 4096 < (poisoned true).granules ∧ (poisoned true).cached (regionOf (70 / 4096)) = some ⟨0, 0, false, false, [], 0⟩ ∧
      (poisoned true).dmc.posted = [] ∧ (poisoned true).restoredBit (70 / 4096) = true ∧
      ((poisoned true).dchan ((poisoned true).site (70 / 64 * 64)).channel).failed = false ∧ (poisoned true).fld.lost.contains 0 = true ∧
      (poisoned false).fld.lost.contains 0 = false ∧
      ({ poisoned true with fld := { (poisoned true).fld with restored := { base := false, exc := [] } } } : State).restoredBit (70 / 4096) = false) := by decide

/-! ### DramUpkeep -/

/-- DRAM powered and restored, the patrol at the first line. -/
def dramOn : State :=
  { decoding with
    dmc := { decoding.dmc with
      powered := true, trained := [0, 1], chans := [(2, { writeQ := [⟨2 ^ 13 + 5, 5, 0, false⟩], late := [(9, 4)], early := [(3, 1)] })] } }
/-- A queue of 200 lines. -/
def longQueue : State :=
  { dramOn with dmc := { dramOn.dmc with chans := [(2, { writeQ := (List.range 200).map fun k => ⟨k, 0, 0, false⟩ })] } }
theorem test_met_long_batch : longQueue.dchanOn 2 = true ∧ (longQueue.dchan 2).writeQ.Nodup ∧ 192 ≤ (longQueue.dchan 2).writeQ.length := by
  decide +kernel
theorem test_met_DramUpkeep :
    (dramOn.dchanOn 2 = true ∧ (dramOn.dchan 2).writeQ.Nodup ∧
      ((dramOn.dchan 2).writeQ.filter fun w => decide (dramOn.effective 0 w = 3)) ≠ [] ∧ tblGet 15 dramOn.dmc.marks (markKey 2 7) = 15 ∧ dramOn.mild 0x42 = true ∧
      (dramOn.dchan 3).writeQ.length < 192 ∧ ((dramOn.dchan 3).writeQ.filter fun w => decide (dramOn.effective 0 w = 3)) = [] ∧
      (dramOn.dchan 2).selfRefresh = false ∧ tblGet 0 (dramOn.dchan 2).late 9 = 4 ∧ tblGet 0 (dramOn.dchan 2).early 3 = 1 ∧ dramOn.mild 0x43 = true) ∧
    (dramOn.saving = false ∧ dramOn.dmc.changing = false ∧ dramOn.dmc.powered = true ∧ dramOn.dmc.scrubLine < dramOn.hostLines) ∧
    (let s : State := { dramOn with lay := { dramOn.lay with inForce := some { card with dram := { cardDram with idleMs := 5 } } } }
     s.dchanOn 3 = true ∧ (s.dchan 3).writeQ = []) ∧
    (dramOn.alive = true ∧ dramOn.trn.activity = 0 ∧ dramOn.setReady 0 = true ∧ dramOn.setReady 1 = false ∧
      ({ dramOn with dmc := { dramOn.dmc with current := 1 } } : State).dmc.current ≠ 0 % 4) ∧
    (dramOn.windowOpen .headA = true ∧ dramOn.panWritable .a 0 = true ∧ (∀ k, k < 16 → k ≠ 0 → bits 0xFFFFFFFE (2 * k) 2 = 3)) := by decide

/-! ### DramTraining -/

/-- A start's training: channel 0 at T2 of set 1, set 0 after it. -/
def training : State :=
  { carded with
    dev := { carded.dev with st := .boot }, boot := some cardEnv
    trn := { carded.trn with activity := 3, chans := [(0, { queue := [1, 0], mask := 1, tries := 3 })] } }
theorem test_met_DramTraining :
    (training.boot.isSome = true ∧ training.trn.activity = 3 ∧ training.dev.st = .boot ∧ 0 < training.dchans ∧
      (training.dchan 0).failed = false ∧ (training.tchan 0).queue = [1, 0] ∧ nextStep (training.tchan 0).mask = 2 ∧
      training.dmc.pending = none ∧ 3 ≤ (training.tchan 0).tries ∧ ([0] : List Nat) ≠ []) ∧
    (dramOn.running = true ∧ dramOn.dchanOn 2 = true ∧ dramOn.dmc.changing = false ∧
      Int.natAbs (tblGet 0 (dramOn.tchan 2).adjusted 4 + 5) ≤ 32 ∧ 32 < Int.natAbs (tblGet 0 (dramOn.tchan 2).adjusted 4 + 33) ∧
      (dramOn.tchan 2).outOfRange = false ∧ dramOn.mild 0x44 = true) ∧
    (holding.windowOpen .headA = true ∧ holding.holds .a 1 = true ∧ holding.windowOpen .headB = true ∧ holding.holds .b 1 = false ∧
      holding.tly.fifo.length < 32 ∧ holding.windowOpen .rake = true) := by decide

/-! ### ThermalGuard -/

def armedCool : State := { armed with flt := { armed.flt with live := [0xA0] } }
def throttled (n : Nat) : State :=
  { armedCool with thm := { armed.thm with step := n, headCap := stepCap n, level := 2, inputs := [(4, { temp := some 1616 })] } }
def sealedHot : State :=
  { dev := { st := .sealed, startDue := false, savedBy := 3 }, thm := { restartRun := true, restartS := 10 } }
/-- SHUT with THROTTLE beside it, in a state. -/
def shutIn (st : DevState) : State := { armedCool with dev := { armedCool.dev with st := st } }
theorem test_met_ThermalGuard :
    (armedCool.thm.enable.contains 4 = true ∧ (if 20 ≤ 4 then (-720 : Int) else -880) ≤ -300 ∧ armedCool.saving = false ∧ armedCool.mild 0xA1 = true) ∧
    (cold.coolsDown = false ∧ cold.dev.startDue = true ∧ (sealedBy 1).coolsDown = false ∧ (sealedBy 1).dev.st = .sealed) ∧
    (armedCool.coolsDown = false ∧ armedCool.dev.st = .armed ∧ armedCool.dev.startDue = false ∧
      ((convert [(4, .measured 2100)] armedCool).thmMeasured.find? fun e => decide (2000 ≤ e.2)) = some (4, 2100)) ∧
    (let u := convert [(4, .measured 1840)] (shutIn .unarmed)
     (shutIn .unarmed).coolsDown = false ∧ (u.thmMeasured.find? fun e => decide (2000 ≤ e.2)) = none ∧
     u.atOrAbove ThmThresh.shut 0 u.thmReads = [(4, 1840)] ∧ u.dev.st = .unarmed ∧ u.tly.fifo.length < 32) ∧
    (let u := convert [(4, .measured 1840)] armedCool
     (u.thmMeasured.find? fun e => decide (2000 ≤ e.2)) = none ∧ u.atOrAbove ThmThresh.shut 0 u.thmReads ≠ [] ∧ u.dev.st = .armed) ∧
    (let u := convert [(4, .measured 1940)] saveNow
     saveNow.coolsDown = false ∧ saveNow.dev.startDue = false ∧ (u.thmMeasured.find? fun e => decide (2000 ≤ e.2)) = none ∧ u.saving = true) ∧
    (let u := convert [(4, .measured 1610)] armed
     (u.thmMeasured.find? fun e => decide (2000 ≤ e.2)) = none ∧ u.atOrAbove ThmThresh.shut 0 u.thmReads = [] ∧ u.saving = false ∧
     u.mild 0xA0 = true ∧ u.tly.fifo.length < 30 ∧ u.atOrAbove ThmThresh.throttle 0 u.thmReads ≠ [] ∧ u.thm.step = 0) ∧
    (let u := convert [(4, .measured 640)] armed
     u.atOrAbove ThmThresh.warn 0 u.thmReads = [] ∧ ∀ e ∈ u.thmReads, e.2 ≤ u.limit (u.thresh e.1).warn - 80) ∧
    ((throttled 2).alive = true ∧ (throttled 2).atOrAbove ThmThresh.throttle 0 (throttled 2).thmReads ≠ [] ∧
      armed.atOrAbove ThmThresh.throttle 0 armed.thmReads = [] ∧
      (let s : State := { throttled 2 with thm := { (throttled 2).thm with inputs := [] } }
       s.throttleCool = true ∧ s.thm.level = s.thmLevel ∧ s.flt.live.contains 0xA0 = true) ∧
      (let s : State := { throttled 1 with thm := { (throttled 1).thm with inputs := [] } }
       s.throttleCool = true ∧ s.thm.level = s.thmLevel ∧ s.thm.step = 1) ∧ (throttled 1).throttleCool = false) ∧
    (hot.coolsDown = true ∧ sealedHot.coolsDown = true ∧ sealedHot.thm.restartRun = true ∧ 10 ≤ sealedHot.thm.restartS ∧
      sealedHot.dev.pgOk = false ∧ armed.coolsDown = false) ∧
    (armed.thmNear = false ∧ (throttled 2).thmNear = true) := by decide

/-! ### FaultEvents -/

theorem test_met_FaultEvents :
    ((0x44 : Nat) ∉ [0x20, 0x21, 0x30, 0x50, 0x60, 0xC2, 0xE0] ∧ (srcRow 0x44).isSome = true ∧ armed.alive = true ∧
      armed.flt.masked.contains 0x44 = false ∧ armed.saving = false ∧ armed.mild 0x44 = true) ∧
    ((srcRow 0x12).any (fun w => w.hf = 0 && !w.stop) = true ∧ (fltRecord 0x12 armed).2 = 4 ∧ armed.flt.haltPreReady = false ∧
      (srcRow 0xC0).any (fun w => w.hf = 0 && w.stop) = true ∧ (fltRecord 0xC0 armed).2 = 4) ∧
    (saveNow.dev.st = .harvest ∧ 3 ≤ (fltRecord 0x12 saveNow).2 ∧ saveNow.tly.fifo.length < 32 ∧ saveNow.hrv.endNow = false) ∧
    (armedCool.flt.live.contains 0xA0 = true ∧ ({ armed with flt := { armed.flt with masked := [0x44] } } : State).flt.masked.contains 0x44 = true) := by
  decide

/-! ### FaultClearing -/

def latched (live : NSet) : State :=
  { armed with flt := { armed.flt with sticky := [0x44, 0x54], live := live, first := { armed.flt.first with source := 0x44, valid := true } } }
theorem test_met_FaultClearing :
    (latched [0x54]).windowOpen .headA = true ∧ (latched [0x54]).flt.first.valid = true ∧
    (latched [0x54]).flt.live.contains (latched [0x54]).flt.first.source = false ∧
    (latched [0x44]).flt.live.contains (latched [0x44]).flt.first.source = true := by decide
/-- R377: of 0x44 and 0x54 only the first is clearable; both writes name both. -/
theorem test_sticky_live_stays :
    ((after (.clearSticky .headA false 2 0x00100010) (latched [0x54])).flt.sticky, (after (.clearSticky .headA false 2 0x00100010) (latched [0x54])).flt.clearRefused) =
      ([0x54], true) := by decide

/-! ### FaultHandling -/

theorem test_met_FaultHandling :
    (({ armed with flt := { armed.flt with resetting := [.tally] } } : State).flt.resetting.contains .tally = true) ∧
    (armed.alive = true ∧ armed.flt.masked.contains 0x44 = false ∧ armed.flt.live.contains 4 = false ∧ armed.flt.masked.contains 4 = false ∧
      (0x44 : Nat) / 16 ≠ 0x44 ∧ armed.mild 4 = true) ∧
    (({ armed with flt := { armed.flt with trap := true } } : State).flt.trapAgain = false ∧
      ({ armed with flt := { armed.flt with trap := true, trapAgain := true } } : State).flt.trap = true) ∧
    armed.windowOpen .headA = true ∧ armed.windowOpen .rake = true := by decide

/-! ### TallyRecords -/

/-- Tally ready with one trigger waiting, below its reservation. -/
def tallyOn : State :=
  { armed with
    tly := { armed.tly with
      ready := true, reserved := 0x300000, fifo := [⟨0x44, 1, 4, 2⟩], mirrorQ := [{ seq := 1, persist := true, fallback := false, list := 1, lost := 0, words := [], trig := 0x44, level := 2, state := 4 }] } }
theorem test_met_TallyRecords :
    (armed.alive = true ∧ tlyCode 0x44 = true ∧ armed.tly.fifo.length < 32) ∧
    (let s : State := { armed with tly := { armed.tly with dropped := true, fifo := List.replicate 32 ⟨0x44, 1, 4, 2⟩ } }
     32 ≤ s.tly.fifo.length ∧ s.tly.dropped = true) ∧
    (tallyOn.tly.ready = true ∧ tallyOn.tly.overflowDue = none ∧ tallyOn.tly.fifo = [⟨0x44, 1, 4, 2⟩] ∧ tallyOn.tly.fallback = false ∧
      tallyOn.tly.nextSeq + 65536 < tallyOn.tly.reserved) ∧
    (tallyOn.tly.mirrorQ.length = 1 ∧ tallyOn.saving = false ∧ tallyOn.mild 0xB0 = true) ∧
    (armed.windowOpen .headA = true ∧ (armed.tly.softAt.get .headA).all (fun u => u + 1000 ≤ armed.dev.aonUs) = true ∧
      ({ armed with tly := { armed.tly with softAt := ⟨some 0, none, none⟩ } } : State).dev.aonUs < 0 + 1000) := by decide
/-- The premise of room in JOURNAL, on a state of each statement that has it. -/
theorem test_met_journal_room :
    armed.journalRoom = true ∧ carded.journalRoom = true ∧ holding.journalRoom = true ∧ tallyOn.journalRoom = true ∧
      ({ armed with jrn := [.restore 3, .retirement 1 2 3 4 5] } : State).journalRoom = true := by decide
/-- R414: history goes first; a retirement and the latest restore marker stay. -/
theorem test_journal_erase :
    dropHistory 9 (inForce [] [.restore 3, .tallyRec { seq := 9, persist := true, fallback := false, list := 1, lost := 0, words := [], trig := 0x44, level := 2, state := 4 },
      .retirement 1 2 3 4 5, .restore 4].reverse).reverse = [.retirement 1 2 3 4 5, .restore 4] := by decide
/-- R385: the first record of a reservation at 0x100000 stands in slot 0. -/
theorem test_record_slot : (after (.tallyRecordWrite true) tallyOn).tly.ring.map (fun e => (e.1, e.2.seq, e.2.trig)) = [(0, 0x100000, 0x44)] := by decide

/-! ### TallyClearing -/

/-- Head A holds cell 3, a clear nonce outstanding for it. -/
def clearing : State :=
  { tallyOn with
    sem := { tallyOn.sem with cells := [(3, { state := .heldA })] }
    key := { tallyOn.key with
      rbgOk := true, owner := sealReady .headA |>.key.owner, nonces := [(.tallyClear, .headA, ⟨sealToken.nonce, 0⟩)] } }
set_option exponentiation.threshold 512 in
theorem test_met_TallyClearing :
    (clearing.Guard .a 3 0 ∧ clearing.key.rbgOk = true ∧ clearing.tokenStatus .tallyClear Head.a.port sealToken true = 0 ∧
      clearing.tly.nextSeq + 65536 < clearing.tly.reserved ∧
      clearing.nonceOf .tallyClear Head.a.port = some ({ sealToken with ecdsaOk := false } : Token).nonce) ∧
    (let s : State := { clearing with key := { clearing.key with rbgOk := false, nonces := [] } }
     s.Guard .a 3 0 ∧ s.key.rbgOk = false ∧ s.nonceOf .tallyClear Head.a.port = none) := by decide

/-! ### CellarRights -/

theorem test_met_CellarRights : armed.celUp = true ∧ (¬ (1188 ≤ 4 ∧ 4 < 1188 + 256)) ∧ (4 : Nat) < 2048 := by decide

/-! ### CellarWords -/

/-- A program of firmware's on JOURNAL sector 1200 under way. -/
def celProg (s : State) : State := { s with cel := { s.cel with op := .programming .firmware 1200 7 5 } }
def celErase (s : State) : State :=
  { s with cel := { s.cel with op := .erasing .firmware 1200, sectors := [(1200, { flag := true })], words := [(1200 * 1024 + 7, ⟨5, 2⟩)] } }
theorem test_met_CellarWords :
    (armed.celUp = true ∧ celMay .firmware 1200 = true ∧ armed.cel.op = .idle ∧ (armed.sector (armed.reached 1200)).flag = false ∧
      (armed.sector (armed.reached 1200)).worn = false ∧
      (let s : State := { armed with cel := { armed.cel with sectors := [(1200, { worn := true })] } }
       (s.sector (s.reached 1200)).worn = true ∧ s.celUp = true ∧ s.cel.op = .idle) ∧
      celAccepts (armed.celWord 1200 7) 5 = true ∧
      (let s : State := { armed with cel := { armed.cel with words := [(1200 * 1024 + 7, ⟨5, 0⟩)] } }
       celAccepts (s.celWord 1200 7) 5 = false ∧ (s.celWord 1200 7).count ≠ 3 ∧ s.cel.lines.contains (celLine 1200 7) = false ∧ s.mild 0xB0 = true)) ∧
    ((celProg armed).cel.op ≠ .idle ∧ (celProg armed).celUp = true ∧ (celProg armed).cel.lines.contains (celLine 1200 9) = false) ∧
    ((celProg armed).cel.queue = [] ∧ (celProg armed).mild 0xB2 = true ∧ (celProg armed).saving = false ∧ (celProg saveNow).saving = true) ∧
    (saveNow.celUp = true ∧ saveNow.saving = true ∧ (armed.sector (armed.reached 1200)).erases + 1 < 90000000) ∧
    ((celErase armed).cel.queue = [] ∧ ((celErase armed).sector ((celErase armed).reached 1200)).flag = true) := by decide
/-- R406, R407: a programmed word takes the all-zero program and then none. -/
theorem test_cell_counts :
    celAccepts ⟨5, 2⟩ 0 = true ∧ celAccepts ⟨0, 0⟩ 0 = false ∧ celAccepts ⟨5, 2⟩ 2 = false ∧ celAccepts erasedWord 9 = true := by decide

/-! ### StartAndConfirm -/

/-- A restore at the end of F4. -/
def f4Done : State :=
  { carded with
    dev := { carded.dev with st := .reflood, hostReady := false }
    fld := { carded.fld with f4Ended := true, kind := .saved, closesSeq := 4, outcomeDue := true, restored := { base := false } }
    pip := { carded.pip with keyLoaded := true } }
/-- An image on trial, host-ready. -/
def trialRun : State :=
  { armed with
    upd := { armed.upd with
      marker := { state := .trial, tslot := true }, running := true, bootDone := true
      slotB := some { factoryImage with svn := 9 }, area0 := some { slot := false, schema := 3, age := 1, vals := {} }
      area1 := some { slot := true, schema := 3, age := 2, vals := {} } } }
theorem test_met_StartAndConfirm :
    (cold.dev.st = .boot ∧ cold.dev.startDue = true ∧ cold.dev.mainUp = true ∧ cardEnv.fuseBad = false ∧ cold.flt.live.contains 0xA0 = false ∧
      cold.thm.calDerated = false ∧ cold.tly.fifo.length < 31 ∧ (∀ e ∈ cold.cel.sectors, e.2.flag = false) ∧ cold.cel.retireOwed = [] ∧ armed.dev.startDue = false ∧
      ({ cardEnv with recoverLow := true } : StartEnv).recoverLow = true ∧
      ({ cardEnv with headerOk := false, conversions := [] } : StartEnv).headerOk = false) ∧
    (cardEnv.recoverLow = false ∧ cardEnv.role = 0 ∧ cardEnv.headerOk = true ∧ cardEnv.calib0Bad = false ∧ cardEnv.rbgOk = true ∧
      cardEnv.slotABad = false ∧ factoryImage.formatOk = true ∧ factoryImage.device = 0x4816 ∧ factoryImage.revisions.testBit 1 = true ∧
      factoryImage.sigOk = true ∧ factoryImage.keyOk = true ∧ factoryImage.tagOk = true ∧ factoryImage.rootSet = 0) ∧
    (f4Done.dev.st = .reflood ∧ f4Done.fld.f4Ended = true ∧ f4Done.pip.keyLoaded = true ∧ f4Done.bed.mismatch = false ∧
      f4Done.bed.censusFailed = false ∧ armed.dev.st ≠ .reflood ∧ f4Done.brl.bundle = none ∧ f4Done.upd.marker.state ≠ .received ∧ f4Done.tly.fifo.length + 4 ≤ 32) ∧
    (trialRun.upd.bootDone = true ∧ trialRun.running = true ∧ trialRun.upd.running = trialRun.upd.marker.tslot ∧ trialRun.dev.hostReady = true ∧
      trialRun.upd.refuseArm = false ∧ (trialRun.upd.areaFor trialRun.upd.running).isSome = true ∧
      (trialRun.upd.slot trialRun.upd.marker.tslot).isSome = true) := by decide
theorem test_confirm : (let t := after .confirmTrial trialRun; (t.upd.marker.cslot, t.key.antiRollback, t.upd.area0, t.upd.area1.isSome)) =
    (true, 9, none, true) := by decide

/-! ### Downloads -/

/-- ARMED with the Rake Port negotiated at 2.1. -/
def tooled : State := { armed with svc := { armed.svc with negotiated := true, major := 2, minor := 1 } }
/-- A download of the factory image into SLOT_B, n bytes of it received. -/
def loading (i : Option Image) (n : Nat) : State :=
  { tooled with upd := { tooled.upd with
      marker := { state := .receiving, tslot := true }, announced := factoryImage.length, received := n, slotA := some factoryImage, slotB := i } }
theorem test_met_Downloads :
    (tooled.RakeReady 0x100 ∧ tooled.running = true ∧ tooled.upd.marker.state = .empty ∧ (loading none 16).RakeReady 0x100 ∧
      (loading none 16).upd.marker.state = .receiving ∧ (loading none 16).running = true) ∧
    (let s := loading (some factoryImage) factoryImage.length
     s.upd.received = s.upd.announced ∧ s.upd.slot s.upd.marker.tslot = some factoryImage ∧ factoryImage.formatOk = true ∧
      factoryImage.device = 0x4816 ∧ factoryImage.revisions.testBit 1 = true ∧ s.key.antiRollback ≤ factoryImage.svn ∧
      factoryImage.sigOk = true ∧ s.key.revoked.contains factoryImage.rootSet = false ∧ factoryImage.keyOk = true ∧ factoryImage.tagOk = true ∧
      ({ s.key with antiRollback := 60 } : Key).antiRollback = 60 ∧ factoryImage.svn < 60) ∧
    (let s : State := { loading (some factoryImage) factoryImage.length with dev := { armed.dev with st := .recovery } }
     s.RakeReady 0x100 ∧ imageCode s false factoryImage = 0 ∧ s.upd.received = s.upd.announced ∧ s.upd.recoveryCause ≠ 4 ∧ s.upd.recoveryCause ≠ 1) ∧
    (armed.served .a = true ∧ (armed.heads.get .a).cmdMajor ≠ 1) := by decide
theorem test_download : (let t := after (.dlData 5 6291440 16 (some factoryImage) true) (loading none 6291440)
    let t := after (.readFrame) t
    let t := after (.dlEnd 6) t
    (t.upd.marker.state, t.upd.marker.tver, t.svc.response)) =
      (.verified, factoryImage.version % 2 ^ 32, some ⟨0x32, 6, 0, .bytes [3, 0, 0, 0]⟩) := by decide

/-! ### Activation -/

/-- A verified image in SLOT_B; Head A holds cell 2 where it is held. -/
def verified (m : UpdState) (held : Bool) : State :=
  { tooled with
    sem := { armed.sem with cells := if held then [(2, { state := .heldA })] else [] }
    upd := { tooled.upd with
      marker := { state := m, tslot := true, tver := 7 }, slotA := some factoryImage, slotB := some factoryImage
      area0 := some { slot := false, schema := 3, age := 1, vals := {} }, area1 := some { slot := true, schema := 3, age := 0, vals := {} } } }
theorem test_met_Activation :
    ((verified .verified true).Guard .a 2 0 ∧ (verified .verified true).held 2 = true ∧ (verified .verified false).held 2 = false ∧
      (verified .verified false).RakeReady 0x100 ∧ (verified .verified false).running = true ∧
      imageCode (verified .verified true) false factoryImage = 0 ∧ (verified .verified true).upd.areaFor false = some 0) := by decide
theorem test_schedule_wrong_version : (after (.schedule 3 8) (verified .verified false)).svc.response = some ⟨0x33, 3, 0x11, .empty⟩ := by decide

/-! ### StagingAndJournal -/

/-- Head A holds cell 0 and has staged 100 bytes. -/
def staging : State :=
  { tooled with
    sem := { armed.sem with cells := [(0, { state := .heldA })] }, lay := { armed.lay with stagedHead := some .a, stagedBytes := 100 }
    upd := { armed.upd with slotA := some factoryImage }, key := { armed.key with owner := some ⟨card.signedBy, 0, 0⟩ } }
def lastChunk (l : Layout) : LayoutChunk := { offset := 100, length := 28, final := true, layout := some l, sigOk := true, valid := true }
def journaled : State := { tooled with jrn := [.tallyRec { seq := 9, persist := true, fallback := false, list := 1, lost := 0, words := [], trig := 0x44, level := 2, state := 4 }, .restore 3] }
theorem test_met_StagingAndJournal :
    (staging.Guard .a 0 0 ∧ (lastChunk card).length ≤ 16368 ∧ 100 + 28 ≤ 262144 ∧ staging.key.owner.any (fun o => o.gen == card.signedBy) = true) ∧
    (journaled.served .a = true ∧ journaled.RakeReady 0x201 ∧ journaled.running = true ∧ journaled.tly.fifo.length < 32 ∧
      (journaled.heads.get .a).cmdMajor ≠ 1) := by decide
set_option maxRecDepth 20000 in
theorem test_met_card_stages : (staging.image.any fun i => i.layoutMajor == card.schema) = true ∧ staging.layoutRules card = true := by decide

/-! ### OwnerRequests -/

/-- An owned device with a nonce of a kind outstanding for the Rake Port. -/
def owned (k : NonceKind) : State :=
  { tooled with
    key := { armed.key with rbgOk := true, owner := some ⟨4, 0, 0⟩, nonces := [(k, .rake, ⟨77, 0⟩)] }
    upd := { armed.upd with area0 := some { slot := false, schema := 3, age := 1, vals := {} } } }
def goodToken : Token := { nonce := 77, identity := armed.key.identity, signedBy := 4, ecdsaOk := true, lmsOk := true, count := 0, digestOk := true }
theorem test_met_OwnerRequests :
    ((owned .factory).RakeReady 0x200 ∧ (owned .factory).running = true ∧ (owned .factory).key.rbgOk = true ∧ armed.key.rbgOk = false ∧
      (owned .factory).upd.marker.state.open_ = true ∧ (owned .factory).held 0 = false ∧ (owned .factory).nonceOf .factory .rake = some 77 ∧
      (owned .factory).nonceOf .transfer .rake ≠ some 77 ∧ (owned .factory).dev.loaded = true ∧ (owned .factory).upd.refuseArm = false ∧
      (owned .factory).upd.areaFor (owned .factory).upd.running = some 0 ∧ ((owned .factory).upd.areaCopy 0).isSome = true) ∧
    ((owned .calibration).nonceOf .calibration .rake = some 77 ∧ (owned .transfer).nonceOf .transfer .rake = some 77 ∧ tooled.key.owner = none ∧
      goodToken.nonce = 77 ∧ goodToken.signedBy = 4 ∧ goodToken.digestOk = true ∧ (verified .verified true).held 2 = true) := by decide
theorem test_met_OwnerRequests_identity (k : NonceKind) : goodToken.identity = (owned k).key.identity := rfl
/-- R478: the nonce's 60 s have passed. -/
theorem test_nonce_lapses : (let s : State := { owned .transfer with dev := { armed.dev with aonUs := 60000001 } }
    (after (.transferOwner 1 goodToken ⟨0, 5, 6⟩) s).svc.response) = some ⟨0x26, 1, 6, .empty⟩ := by decide

/-! ### Attestation -/

/-- Head A's responder past ALGORITHMS, its session in a state. -/
def spdmAt (n : Nat) : State :=
  { armed with key := { armed.key with
      spdm := ⟨{ version := true, capabilities := true, algorithms := true, session := n, chunkOut := [7, 8] }, {}⟩, owner := some ⟨1, 6, 7⟩ } }
theorem test_met_Attestation :
    ((armed.heads.get .a).up = true ∧ (cold.heads.get .a).up = false ∧ (armed.key.spdm.get .a).version = false ∧
      (armed.key.spdm.get .a).chunkOut = [] ∧ (armed.key.spdm.get .a).capabilities = false) ∧
    (∀ n < 3, ((spdmAt n).heads.get .a).up = true ∧ ((spdmAt n).key.spdm.get .a).algorithms = true ∧ (spdmAt n).key.certOk = true ∧
      ((spdmAt n).key.spdm.get .a).session = n ∧ ((spdmAt n).key.spdm.get .a).chunkOut ≠ []) := by decide
theorem test_session : (let t := after (.spdmFinish .a true) (after (.keyExchange .a) (spdmAt 0))
    ((t.key.spdm.get .a).session, t.key.ecdsaSigs, (after (.ideKeyManagement .a) t).heads.a.ide)) = (2, 1, true) := by decide

/-! ### BrineRing -/

/-- A layout of a group of three, shared or not; a unit with a role whose ring is whole or not. -/
def groupCard (shared : Bool) : Layout :=
  { card with cascade := some { groupId := 5, units := 3, shared := shared, shares := [86, 85, 85], unitPSave := [1, 1, 1], aloneFrac := 0 } }
def unitOf (role : Nat) (whole shared : Bool) : State :=
  { carded with
    lay := { carded.lay with inForce := some (groupCard shared) }
    brl := { carded.brl with
      role := role, whole := whole, index := if role = 2 then 1 else 0
      port0 := { up := true, hello := true }, port1 := { up := true, hello := true } } }
theorem test_met_BrineRing :
    (∀ r ∈ [1, 2], ∀ w ∈ [true, false], (unitOf r w false).alive = true ∧ (unitOf r w false).brl.role = r ∧ (unitOf r w false).brl.whole = w ∧
      (unitOf r w false).brl.port1.up = true ∧ (unitOf r w false).brl.port0.hello = true ∧ (unitOf r w false).saving = false ∧
      (unitOf r w false).tly.fifo.length + 2 ≤ 32) ∧
    (∀ n ∈ ([0xD0, 0xD1] : List Nat), ((unitOf 1 true false).srcCfg n).base ≤ 2 ∧ ((unitOf 1 true false).srcCfg n).severe ≤ 2) ∧
    ((unitOf 1 true false).sharedMode = false ∧ (9 : BitVec 16) ≠ (unitOf 1 true false).brl.gen ∧
      ((groupCard false).cascade.map fun c => c.units) = some 3) ∧
    (let s : State := { unitOf 1 false false with brl := { (unitOf 1 false false).brl with port0 := {} } }
     s.alive = true ∧ s.brl.port0.up = false ∧ s.brl.port1.up = true) := by decide
set_option exponentiation.threshold 512 in
theorem test_join : (let t := after (.joinFrame 9 3 2 [0, 0, (unitOf 2 false false).key.identity]) (unitOf 2 false false); (t.brl.whole, t.brl.gen, t.brl.index)) = (true, 9, 2) := by decide

/-! ### LockstepSave -/

def memberSaving : State :=
  { unitOf 2 true true with dev := saveNow.dev, hrv := { saveNow.hrv with awaitShare := true }, brl := { (unitOf 2 true true).brl with event := 6 } }
/-- A master in a local save of its own, t0 at 0. -/
def masterSaving (us : Nat) : State :=
  { unitOf 1 true true with dev := { saveNow.dev with aonUs := us }, hrv := { saveNow.hrv with t0Us := 0, lockstep := false, goSent := false } }
theorem test_met_LockstepSave :
    (∀ r ∈ [1, 2], (unitOf r true false).alive = true ∧ (unitOf r true false).brl.role = r ∧ (unitOf r true false).brl.whole = true ∧
      (unitOf r true false).running = true ∧ (unitOf r true false).sal.holdArm = true ∧ (unitOf r true false).brl.goSeen ≠ some 7 ∧
      (unitOf r false false).brl.whole = false) ∧
    (∀ r ∈ [1, 2], let s : State := { unitOf r true false with sal := { armed.sal with holdArm := false } }
      s.alive = true ∧ s.brl.role = r ∧ s.brl.whole = true ∧ s.saving = false ∧ s.sal.holdArm = false ∧ s.brl.goSeen ≠ some 7) ∧
    (∀ us ∈ [5, 6], (masterSaving us).alive = true ∧ (masterSaving us).brl.role = 1 ∧ (masterSaving us).brl.whole = true ∧
      (masterSaving us).saving = true ∧ (masterSaving us).hrv.lockstep = false ∧ (masterSaving us).hrv.goSent = false ∧
      (masterSaving us).dev.aonUs - (masterSaving us).hrv.t0Us = us ∧
      ({ (masterSaving us).hrv with goSent := true } : Hrv).goSent = true) ∧
    (memberSaving.saving = true ∧ memberSaving.alive = true ∧ memberSaving.brl.role = 2 ∧ memberSaving.brl.whole = true ∧ memberSaving.brl.goSeen ≠ some 7 ∧
      memberSaving.brl.index = 1 ∧ memberSaving.hrv.awaitShare = true ∧ memberSaving.brl.event = 6) := by decide

/-! ### GroupUpdate -/

/-- A unit with the Rake Port negotiated, staging a bundle of 100 bytes with 40 done. -/
def staged (role done : Nat) : State :=
  let s : State := unitOf role true false
  { s with
    svc := tooled.svc
    brl := { s.brl with stageState := 1, stageTotal := 100, stageDone := done, stageSeq := 1 } }
/-- A unit that waits at B2 with no image at all. -/
def atB2 : State :=
  { cold with brl := { cold.brl with role := 2, waitB2 := true, index := 1 }, boot := some cardEnv, upd := { cold.upd with slotA := none } }
theorem test_met_GroupUpdate :
    ((unitOf 1 true false).alive = true ∧ (unitOf 1 true false).brl.waitB2 = false ∧ (unitOf 1 true false).dev.st ≠ .boot) ∧
    (let s : State := { atB2 with brl := { atB2.brl with whole := true } }
     s.alive = true ∧ s.brl.whole = true ∧ s.brl.role = 2 ∧ s.boot = some cardEnv ∧ [0, 3][s.brl.index]? = some 3) ∧
    (let s : State := { atB2 with upd := { atB2.upd with slotA := some factoryImage, marker := { state := .scheduled, tslot := true } } }
     s.brl.waitB2 = true ∧ s.boot = some cardEnv ∧ cardEnv.slotABad = false ∧ imageCode s false factoryImage = 0 ∧ s.lay = {}) ∧
    (atB2.brl.startCode = none ∧ atB2.upd.marker.state = .empty ∧ atB2.upd.slotB = none ∧ atB2.brl.whole = false) ∧
    ((staged 2 40).running = true ∧ (staged 2 40).brl.whole = true ∧ (staged 2 40).brl.stageState = 1 ∧ (staged 2 40).brl.stageDone = 40 ∧
      (staged 2 40).brl.stageSeq = 1 ∧ (staged 2 40).RakeReady 0x200 ∧ (staged 1 40).RakeReady 0x200 ∧ (staged 1 100).brl.stageDone = (staged 1 100).brl.stageTotal ∧
      (staged 2 40).bed.rakeLevel < 2) ∧
    (let s : State := { unitOf 2 true false with upd := (verified .verified false).upd }
     s.alive = true ∧ s.running = true ∧ s.upd.marker.state = .verified ∧ imageCode s false factoryImage = 0 ∧
       s.upd.slot s.upd.marker.tslot = some factoryImage ∧ s.brl.role = 2) := by decide

/-! ### RakePort -/

/-- An answer waits. -/
def answered : State := { tooled with svc := { tooled.svc with response := some ⟨2, 9, 0, .empty⟩, event := true } }
theorem test_met_RakePort :
    (armed.rakeServes = true ∧ answered.rakeServes = true ∧ answered.svc.response.isSome = true ∧ armed.svc.response = none ∧ armed.svc.negotiated = false ∧
      tooled.svc.negotiated = true ∧ tooled.svc.response = none ∧ (sealedBy 1).rakeServes = false ∧ cold.alive = true ∧ cold.rakeServes = false) ∧
    (let s : State := { tooled with svc := { tooled.svc with major := 1, minor := 0 } }
     s.svc.major * 256 + s.svc.minor < 0x200 ∧ 0x100 ≤ s.svc.major * 256 + s.svc.minor) ∧
    (let s : State := { tooled with dev := { armed.dev with st := .recovery } }
     s.rakeServes = true ∧ s.running = false ∧ s.svc.response = none) := by decide
/-- R513 with R7: a 1.x tool runs 1.0. -/
theorem test_hello : ((after (.hello 1 1 7 1) armed).svc.major, (after (.hello 1 3 0 1) armed).svc.minor, (after (.hello 1 9 9 3) armed).svc.negotiated) =
    (1, 1, false) := by decide
theorem test_status_byte : (after .readStatus answered).svc.statusByte = 0x35 := by decide

/-! ### RegisterAccess -/

theorem test_met_RegisterAccess :
    (tooled.RakeReady 0x100 ∧ tooled.dev.st ≠ .recovery ∧ tooled.running = true ∧
      ({ tooled with dev := { armed.dev with st := .recovery } } : State).RakeReady 0x100) ∧
    (armed.windowOpen .headA = true ∧ armed.windowOpen .headB = true ∧ armed.windowOpen .rake = true ∧ armed.tly.fifo.length < 32 ∧
      armed.holds .a 1 = false ∧ armed.holds .b 1 = false ∧ cold.windowOpen .headA = false) := by decide

/-! ### TelemetryTarget -/

def asI3c : State := { armed with svc := { armed.svc with i3c := true, dynAddr := 9, i3cEvents := 3 } }
theorem test_met_TelemetryTarget :
    (armed.alive = true ∧ armed.svc.i3c = false ∧ asI3c.alive = true ∧ asI3c.svc.i3c = true ∧ (sealedBy 1).alive = false ∧ armed.svc.staticAddr ≠ 5) := by
  decide
theorem test_disec : (after (.disec 1) asI3c).svc.i3cEvents = 2 := by decide

/-! ### ClockAndScan -/

theorem test_met_ClockAndScan :
    (armed.alive = true ∧ armed.pins.rcClock = false ∧ armed.saving = false ∧ armed.flt.masked.contains 0x94 = false ∧ armed.mild 0x94 = true) ∧
    (({ armed with pins := { armed.pins with rcClock := true } } : State).dev.st ≠ .off) ∧
    (armed.dev.mainUp = true ∧ armed.dev.st ≠ .off ∧ armed.dev.st ≠ .sealed ∧ saveNow.dev.mainUp = true ∧ saveNow.saving = true ∧
      saveNow.dev.st ≠ .sealed ∧ unpowered.dev.mainUp = false) := by decide

/-! ### StepRunsTheFront -/

theorem test_met_StepRunsTheFront : ({ armed with pending := [.governorTick, .readStatus] } : State).pending = .governorTick :: [.readStatus] ∧
    armed.pending = [] := by decide

/-! ### ResetState -/

theorem test_reset_queue : State.reset.pending = [] ∧ State.reset.dev.st = .boot := by decide

/-! ### StepKeepsSound -/

theorem test_met_StepKeepsSound : Memory.wf State.reset.dram = true ∧ step State.reset = .next State.reset := ⟨by decide, rfl⟩

end Sys2Proof.Tests
end

section
/-!
PROOFS. The governor's own usable-energy reading (R24): one equation per case of `State.ownEuse`, and the obligation assembled from them.
-/
namespace Sys2Proof.Machine

/-- R24: a reading marked invalid counts as zero, however lately it was published. -/
theorem ownEuse_of_invalid {s : State} (hinvalid : s.sal.valid = false) : s.ownEuse = 0 := by
  simp [State.ownEuse, hinvalid]

/-- R24: a reading more than 4 ms old counts as zero, whatever its mark. -/
theorem ownEuse_of_stale {s : State} (hstale : s.sal.euseAtUs + 4000 < s.dev.aonUs) : s.ownEuse = 0 := by
  have hlate : ¬ s.dev.aonUs ≤ s.sal.euseAtUs + 4000 := Nat.not_le.mpr hstale
  simp [State.ownEuse, hlate]

/-- R24: a valid reading counts in full up to and including an age of 4 ms. -/
theorem ownEuse_of_fresh {s : State} (hvalid : s.sal.valid = true) (hage : s.dev.aonUs ≤ s.sal.euseAtUs + 4000) :
    s.ownEuse = s.sal.euse := by
  simp [State.ownEuse, hvalid, hage]

/-- Settles O7, by the three cases of R24: an invalid, a stale and a fresh valid reading. -/
theorem energyCountsAsZero : Obligations.EnergyCountsAsZero := by
  unfold Obligations.EnergyCountsAsZero
  exact fun _ => ⟨ownEuse_of_invalid, ownEuse_of_stale, ownEuse_of_fresh⟩

end Sys2Proof.Machine
end

section
/-!
PROOFS. The semaphore (R269 to R271): what its operations do to the cells and to SEM_RESULT, one equation for each outcome of an acquire
and of a release, and the obligation assembled from them.
-/
namespace Sys2Proof.Machine

/-! ### One value per head and per port -/

theorem perHead_get_set {α : Type} (p : PerHead α) (h k : Head) (v : α) : (p.set h v).get k = if k = h then v else p.get k := by
  cases h <;> cases k <;> rfl

theorem perPort_get_set {α : Type} (p : PerPort α) (q r : Port) (v : α) : (p.set q v).get r = if r = q then v else p.get r := by
  cases q <;> cases r <;> rfl

theorem port_ne_port_other (h : Head) : h.port ≠ h.other.port := by cases h <;> decide

theorem heldBy_eq (h : Head) : heldBy h = if h = .a then .heldA else .heldB := by cases h <;> rfl

theorem heldBy_ne_free (h : Head) : heldBy h ≠ .free := by cases h <;> decide

theorem heldBy_ne_heldBy_other (h : Head) : heldBy h ≠ heldBy h.other := by cases h <;> decide

/-! ### What reaches the semaphore alone -/

/-- From one state to another nothing changes but the semaphore. -/
abbrev OnlySem (s t : State) : Prop := t = { s with sem := t.sem }

theorem OnlySem.trans {s t u : State} (hst : OnlySem s t) (htu : OnlySem t u) : OnlySem s u :=
  Eq.trans htu (congrArg (fun v : State => { v with sem := u.sem }) hst)

theorem onlySem_cellUpd (n : Nat) (f : Cell → Cell) (s : State) : OnlySem s (cellUpd n f s) := rfl

/-! ### The cells (R123, R269) -/

theorem holds_eq_true_iff {s : State} {h : Head} {n : Nat} : s.holds h n = true ↔ (s.cell n).state = heldBy h := by
  cases h <;> exact decide_eq_true_iff

theorem holds_eq_false_iff {s : State} {h : Head} {n : Nat} : s.holds h n = false ↔ (s.cell n).state ≠ heldBy h := by
  rw [← Bool.not_eq_true, holds_eq_true_iff]

theorem cell_cellUpd (n : Nat) (f : Cell → Cell) (s : State) (m : Nat) :
    (cellUpd n f s).cell m = if m = n then f (s.cell n) else s.cell m := tblGet_upd _ _ _ _ _

/-- A cell's new state and the step of its generation, by themselves (R269). -/
def setHolder (n : Nat) (st : CellState) (s : State) : State := cellUpd n (fun c => { c with state := st, gen := c.gen + 1 }) s

/-- With room in the trigger FIFO a change of state told to Tally reaches Tally alone (R386). -/
theorem tlyTell_room (code arg : Nat) (s : State) (hroom : s.tly.fifo.length < 32) :
    tlyTell code arg s = { s with tly := (tlyTell code arg s).tly } := by
  unfold tlyTell
  rw [tlyPut_room code 7 arg s hroom]

theorem endPause_of_not_paused {s : State} (cause : Nat) (hrun : s.drn.paused = false) : endPause cause s = s := by
  simp [endPause, hrun]

/-- The end of a pause reaches Tally and the drain (R123). -/
theorem endPause_of_paused {s : State} (cause : Nat) (hpaused : s.drn.paused = true) (hroom : s.tly.fifo.length < 32) :
    endPause cause s =
      { s with tly := (endPause cause s).tly, drn := { s.drn with paused := false, lastPauseEnd := cause } } := by
  have htold : endPause cause s = tlyTell 0x10A 0 { s with drn := { s.drn with paused := false, lastPauseEnd := cause } } :=
    if_pos hpaused
  rw [htold]
  exact tlyTell_room 0x10A 0 _ hroom

/-- A change of holder is that alone, unless it frees cell 1 in a pause. -/
theorem cellChange_eq_setHolder {n : Nat} {st : CellState} {s : State} (hstays : st ≠ .free ∨ n ≠ 1 ∨ s.drn.paused = false) :
    cellChange n st s = setHolder n st s := by
  unfold cellChange
  dsimp only
  split
  next hlapse =>
    obtain ⟨hn, hst⟩ : n = 1 ∧ st = .free := by simpa using hlapse
    exact endPause_of_not_paused 4 (by simpa [hn, hst] using hstays)
  next => rfl

theorem cellChange_sem (n : Nat) (st : CellState) (s : State) : (cellChange n st s).sem = (setHolder n st s).sem := by
  unfold cellChange
  dsimp only
  split
  · simp [setHolder]
  · rfl

/-- A change of holder acts on its cell alone: the new state, and the generation one up. -/
theorem cell_cellChange (n : Nat) (st : CellState) (s : State) (m : Nat) :
    (cellChange n st s).cell m = if m = n then { s.cell n with state := st, gen := (s.cell n).gen + 1 } else s.cell m := by
  unfold State.cell
  rw [cellChange_sem]
  exact cell_cellUpd n _ s m

theorem onlySem_cellChange {n : Nat} {st : CellState} {s : State} (hstays : st ≠ .free ∨ n ≠ 1 ∨ s.drn.paused = false) :
    OnlySem s (cellChange n st s) := by
  rw [cellChange_eq_setHolder hstays]
  exact onlySem_cellUpd n _ s

/-- Cell 1 freed in a pause also ends the pause, with cause 4 (R123). -/
theorem cellChange_lapses_pause {s : State} (hpaused : s.drn.paused = true) (hroom : s.tly.fifo.length < 32) :
    cellChange 1 .free s =
      { s with
        sem := (cellChange 1 .free s).sem, tly := (cellChange 1 .free s).tly
        drn := { s.drn with paused := false, lastPauseEnd := 4 } } := by
  rw [cellChange_sem]
  exact endPause_of_paused (s := setHolder 1 .free s) 4 hpaused hroom

/-! ### SEM_RESULT (R270) -/

/-- A head's SEM_RESULT shows an answer about a cell, with the generation that the cell has now. -/
abbrev ShowsAnswer (h : Head) (code n : Nat) (t : State) : Prop := t.sem.result.get h.port = ⟨code, n, (t.cell n).gen⟩

@[simp] theorem cell_semResult (h : Head) (code n : Nat) (s : State) (m : Nat) : (semResult h code n s).cell m = s.cell m := rfl

theorem onlySem_semResult (h : Head) (code n : Nat) (s : State) : OnlySem s (semResult h code n s) := rfl

theorem showsAnswer_semResult (h : Head) (code n : Nat) (s : State) : ShowsAnswer h code n (semResult h code n s) :=
  (perPort_get_set ..).trans (if_pos rfl)

/-- An answer to one head leaves what the other was shown. -/
theorem showsAnswer_semResult_other {h : Head} {code n : Nat} {s : State} (code' n' : Nat) (hshown : ShowsAnswer h code n s) :
    ShowsAnswer h code n (semResult h.other code' n' s) :=
  ((perPort_get_set ..).trans (if_neg (port_ne_port_other h))).trans hshown

/-- An answer alone: every cell and the rest of the machine stand. -/
theorem semResult_keeps (h : Head) (code n : Nat) (s : State) :
    ((∀ m, (semResult h code n s).cell m = s.cell m) ∧ OnlySem s (semResult h code n s)) ∧ ShowsAnswer h code n (semResult h code n s) :=
  ⟨⟨cell_semResult h code n s, onlySem_semResult h code n s⟩, showsAnswer_semResult h code n s⟩

/-- An answer after a change of holder: the cell changed, every other cell as it was. -/
theorem semResult_cellChange_cells (h : Head) (code n : Nat) (st : CellState) (s : State) :
    let t := semResult h code n (cellChange n st s)
    t.cell n = { s.cell n with state := st, gen := (s.cell n).gen + 1 } ∧ (∀ m, m ≠ n → t.cell m = s.cell m) ∧
      ShowsAnswer h code n t :=
  ⟨(cell_cellChange n st s n).trans (if_pos rfl), fun m hm => (cell_cellChange n st s m).trans (if_neg hm),
    showsAnswer_semResult h code n _⟩

/-! ### A stale generation (R266, R288) -/

theorem setLog_stale (x : HeadSt) (l : EvLog) (r : EvLogState) : (x.setLog l r).stale = x.stale := by cases l <;> rfl

/-- An event record counts no stale request. -/
theorem eventTo_stale (h k : Head) (l : EvLog) (b : EvBody) (s : State) :
    ((eventTo h l b s).heads.get k).stale = (s.heads.get k).stale := by
  unfold eventTo
  dsimp only
  split
  · rw [perHead_get_set]
    split
    next hk =>
      subst hk
      split <;> exact setLog_stale _ _ _
    next => rfl
  · rfl

theorem chapenEvent_stale (k : Head) (l : EvLog) (typ cause head object gb ga value : Nat) (s : State) :
    ((chapenEvent l typ cause head object gb ga value s).heads.get k).stale = (s.heads.get k).stale :=
  (eventTo_stale .b k _ _ _).trans (eventTo_stale .a k _ _ _)

theorem chapenEvent_reaches_heads (l : EvLog) (typ cause head object gb ga value : Nat) (s : State) :
    chapenEvent l typ cause head object gb ga value s =
      { s with heads := (chapenEvent l typ cause head object gb ga value s).heads } :=
  chapenEvent_only (fun u => { u with heads := (chapenEvent l typ cause head object gb ga value s).heads }) (fun _ _ => rfl) ..

/-- A head's registers once one more stale request is counted (R288). -/
def State.staleCounted (s : State) (h : Head) (object : Nat) : HeadSt :=
  let x := s.heads.get h
  { x with
    stale := satAdd 16 x.stale 1, staleLast := object % 65536
    suppress := tblPut {} 0 (suppressNext s.aonS (tblGet {} x.suppress 0)).1 x.suppress }

/-- A stale request is counted for its head; then it ends, or R288 has a record of it made. -/
theorem staleReject_cases (h : Head) (object : Nat) (s : State) :
    let u : State := { s with heads := s.heads.set h (s.staleCounted h object) }
    staleReject h object s = u ∨
      ∃ count, staleReject h object s = chapenEvent .info 0x05 0 h.code object 0 0 count (tlyTrigger 0x106 0 u) := by
  unfold staleReject
  dsimp only
  split
  next => exact Or.inl rfl
  next count _ => exact Or.inr ⟨count, rfl⟩

/-- With room in the trigger FIFO a stale request reaches Tally and the heads alone, and its head's count is one up. -/
theorem staleReject_room (h : Head) (object : Nat) {s : State} (hroom : s.tly.fifo.length < 32) :
    staleReject h object s = { s with heads := (staleReject h object s).heads, tly := (staleReject h object s).tly } ∧
      ((staleReject h object s).heads.get h).stale = satAdd 16 (s.heads.get h).stale 1 := by
  have hcount : ((s.heads.set h (s.staleCounted h object)).get h).stale = satAdd 16 (s.heads.get h).stale 1 := by
    rw [perHead_get_set, if_pos rfl]
    rfl
  have hcases := staleReject_cases h object s
  dsimp only at hcases
  generalize hu : ({ s with heads := s.heads.set h (s.staleCounted h object) } : State) = u at hcases
  rcases hcases with hend | ⟨count, hrecord⟩
  · rw [hend, ← hu]
    exact ⟨rfl, hcount⟩
  · have htrig := tlyTrigger_room 0x106 0 u (by rw [← hu]; exact hroom)
    have hreach := chapenEvent_reaches_heads .info 0x05 0 h.code object 0 0 count (tlyTrigger 0x106 0 u)
    have hstale := chapenEvent_stale h .info 0x05 0 h.code object 0 0 count (tlyTrigger 0x106 0 u)
    rw [← hrecord] at hreach hstale
    generalize staleReject h object s = t at hreach hstale
    rw [htrig, ← hu] at hreach hstale
    exact ⟨by rw [hreach], hstale.trans hcount⟩

/-- What a stale request answers: the cells stand, and nothing but the semaphore's answer and the counting of it happens. -/
theorem semResult_staleReject (h : Head) (n : Nat) {s : State} (hroom : s.tly.fifo.length < 32) :
    let t := semResult h 3 n (staleReject h n s)
    (∀ m, t.cell m = s.cell m) ∧ ShowsAnswer h 3 n t ∧ t = { s with heads := t.heads, tly := t.tly, sem := t.sem } ∧
      (t.heads.get h).stale = satAdd 16 (s.heads.get h).stale 1 := by
  obtain ⟨hreach, hcount⟩ := staleReject_room h n hroom
  refine ⟨fun m => ?_, showsAnswer_semResult h 3 n _, ?_, hcount⟩
  · rw [cell_semResult, hreach]
    rfl
  · exact congrArg (fun v : State => { v with sem := (semResult h 3 n (staleReject h n s)).sem }) hreach

/-! ### Ties (R271) -/

/-- The head that PRI names. -/
def State.tieWinner (s : State) (n : Nat) : Head := if (s.cell n).priB then .b else .a

/-- The cell of a tie goes to its winner, and PRI flips. -/
def grantTie (n : Nat) (s : State) : State :=
  cellUpd n (fun c => { c with priB := !c.priB }) (cellChange n (heldBy (s.tieWinner n)) s)

theorem cell_grantTie (n : Nat) (s : State) (m : Nat) :
    (grantTie n s).cell m =
      if m = n then { state := heldBy (s.tieWinner n), gen := (s.cell n).gen + 1, priB := !(s.cell n).priB } else s.cell m := by
  unfold grantTie
  rw [cell_cellUpd, cell_cellChange, cell_cellChange, if_pos rfl]
  split <;> rfl

theorem onlySem_grantTie (n : Nat) (s : State) : OnlySem s (grantTie n s) :=
  (onlySem_cellChange (Or.inl (heldBy_ne_free (s.tieWinner n)))).trans (onlySem_cellUpd n _ _)

/-- With both heads served the winner is answered GRANTED and the loser BUSY, whichever of them is the requester. -/
theorem semTie_of_served {s : State} {h : Head} (n : Nat) (hs : s.served h = true) (ho : s.served h.other = true) :
    semTie h n s = semResult (s.tieWinner n).other 2 n (semResult (s.tieWinner n) 1 n (grantTie n s)) := by
  have hloser : s.served (s.tieWinner n).other = true := by
    generalize s.tieWinner n = w
    cases h <;> cases w <;> assumption
  have honly := (onlySem_grantTie n s).trans (onlySem_semResult (s.tieWinner n) 1 n _)
  have hserved : (semResult (s.tieWinner n) 1 n (grantTie n s)).served (s.tieWinner n).other = true := by
    rw [honly]
    exact hloser
  exact if_pos (Bool.or_eq_true_iff.mpr (Or.inl hserved))

theorem semTie_outcome {s : State} {h : Head} (n : Nat) (hs : s.served h = true) (ho : s.served h.other = true) :
    let t := semTie h n s
    t.cell n = { state := heldBy (s.tieWinner n), gen := (s.cell n).gen + 1, priB := !(s.cell n).priB } ∧
      (∀ m, m ≠ n → t.cell m = s.cell m) ∧ ShowsAnswer (s.tieWinner n) 1 n t ∧ ShowsAnswer (s.tieWinner n).other 2 n t ∧
      OnlySem s t := by
  have hcells := cell_grantTie n s
  have honly := onlySem_grantTie n s
  rw [semTie_of_served n hs ho]
  generalize s.tieWinner n = w at hcells
  generalize grantTie n s = u at hcells honly
  exact ⟨(hcells n).trans (if_pos rfl), fun m hm => (hcells m).trans (if_neg hm),
    showsAnswer_semResult_other 2 n (showsAnswer_semResult w 1 n u), showsAnswer_semResult ..,
    (honly.trans (onlySem_semResult ..)).trans (onlySem_semResult ..)⟩

/-! ### One equation per outcome of a request (R270) -/

theorem semAcquire_stale {s : State} {h : Head} {n : Nat} {g : BitVec 16} (tie : Bool) (hg : g ≠ (s.cell n).gen) :
    semAcquire h n g tie s = semResult h 3 n (staleReject h n s) := if_pos hg.symm

theorem semRelease_stale {s : State} {h : Head} {n : Nat} {g : BitVec 16} (hg : g ≠ (s.cell n).gen) :
    semRelease h n g s = semResult h 3 n (staleReject h n s) := if_pos hg.symm

/-- Cells 5 to 7 are never granted (R269). -/
theorem semAcquire_reserved {s : State} {h : Head} {n : Nat} (tie : Bool) (hres : ¬ (n < 5 ∨ 8 ≤ n)) :
    semAcquire h n (s.cell n).gen tie s = semResult h 2 n s := by
  have hrange : 5 ≤ n ∧ n ≤ 7 := by omega
  simp [semAcquire, hrange]

/-- On a cell that is not reserved, a current request is decided by the cell's holder. -/
theorem semAcquire_current {s : State} {h : Head} {n : Nat} (tie : Bool) (hfree : n < 5 ∨ 8 ≤ n) :
    semAcquire h n (s.cell n).gen tie s =
      if s.holds h n then semResult h 1 n s
      else if s.holds h.other n then semResult h 2 n s
      else if tie && s.served h.other then semTie h n s
      else semResult h 1 n (cellChange n (heldBy h) s) := by
  have hrange : ¬ (5 ≤ n ∧ n ≤ 7) := by omega
  simp [semAcquire, hrange]

theorem semAcquire_holder {s : State} {h : Head} {n : Nat} (tie : Bool) (hfree : n < 5 ∨ 8 ≤ n)
    (hown : (s.cell n).state = heldBy h) : semAcquire h n (s.cell n).gen tie s = semResult h 1 n s := by
  rw [semAcquire_current tie hfree, if_pos (holds_eq_true_iff.mpr hown)]

theorem semAcquire_otherHolds {s : State} {h : Head} {n : Nat} (tie : Bool) (hfree : n < 5 ∨ 8 ≤ n)
    (hother : (s.cell n).state = heldBy h.other) : semAcquire h n (s.cell n).gen tie s = semResult h 2 n s := by
  have hnot : s.holds h n = false := holds_eq_false_iff.mpr (hother ▸ (heldBy_ne_heldBy_other h).symm)
  rw [semAcquire_current tie hfree, hnot, holds_eq_true_iff.mpr hother]
  rfl

/-- A free cell is contended only by a tie with the other head, served. -/
theorem semAcquire_free {s : State} {h : Head} {n : Nat} (tie : Bool) (hfree : n < 5 ∨ 8 ≤ n) (hst : (s.cell n).state = .free) :
    semAcquire h n (s.cell n).gen tie s =
      if tie && s.served h.other then semTie h n s else semResult h 1 n (cellChange n (heldBy h) s) := by
  have hnone : ∀ k, s.holds k n = false := fun k => holds_eq_false_iff.mpr (hst ▸ (heldBy_ne_free k).symm)
  rw [semAcquire_current tie hfree, hnone h, hnone h.other]
  rfl

theorem semRelease_holder {s : State} {h : Head} {n : Nat} (hown : (s.cell n).state = heldBy h) :
    semRelease h n (s.cell n).gen s = semResult h 5 n (cellChange n .free s) := by
  simp [semRelease, holds_eq_true_iff.mpr hown]

theorem semRelease_notHolder {s : State} {h : Head} {n : Nat} (hnot : (s.cell n).state ≠ heldBy h) :
    semRelease h n (s.cell n).gen s = semResult h 4 n s := by
  simp [semRelease, holds_eq_false_iff.mpr hnot]

/-! ### The commands -/

theorem yields_semAcquire {s : State} {h : Head} {n : Nat} {g : BitVec 16} {tie : Bool} {P : State → Prop} (hn : n < 32)
    (hs : s.served h = true) (hP : P (semAcquire h n g tie s)) : Yields (.semAcquire h n g tie) s P :=
  ⟨_, by simp [execSemAcquire, hs, Nat.mod_eq_of_lt hn], hP⟩

theorem yields_semRelease {s : State} {h : Head} {n : Nat} {g : BitVec 16} {P : State → Prop} (hn : n < 32)
    (hs : s.served h = true) (hP : P (semRelease h n g s)) : Yields (.semRelease h n g) s P :=
  ⟨_, by simp [execSemRelease, hs, Nat.mod_eq_of_lt hn], hP⟩

/-- A release by the holder that ends no pause (R270). -/
theorem yields_semRelease_holder {s : State} {h : Head} {n : Nat} (hn : n < 32) (hs : s.served h = true)
    (hown : (s.cell n).state = heldBy h) (hstays : n ≠ 1 ∨ s.drn.paused = false) :
    Yields (.semRelease h n (s.cell n).gen) s fun t =>
      t.cell n = { s.cell n with state := .free, gen := (s.cell n).gen + 1 } ∧ (∀ m, m ≠ n → t.cell m = s.cell m) ∧
        ShowsAnswer h 5 n t ∧ OnlySem s t := by
  refine yields_semRelease hn hs ?_
  rw [semRelease_holder hown]
  obtain ⟨hcell, hothers, hshown⟩ := semResult_cellChange_cells h 5 n .free s
  exact ⟨hcell, hothers, hshown, (onlySem_cellChange (Or.inr hstays)).trans (onlySem_semResult ..)⟩

/-- A release of cell 1 by its holder in a pause (R123, R270). -/
theorem yields_semRelease_lapse {s : State} {h : Head} (hs : s.served h = true) (hown : (s.cell 1).state = heldBy h)
    (hpaused : s.drn.paused = true) (hroom : s.tly.fifo.length < 32) :
    Yields (.semRelease h 1 (s.cell 1).gen) s fun t =>
      t.cell 1 = { s.cell 1 with state := .free, gen := (s.cell 1).gen + 1 } ∧ (∀ m, m ≠ 1 → t.cell m = s.cell m) ∧
        ShowsAnswer h 5 1 t ∧ t = { s with sem := t.sem, tly := t.tly, drn := { s.drn with paused := false, lastPauseEnd := 4 } } := by
  refine yields_semRelease (by omega) hs ?_
  rw [semRelease_holder hown]
  obtain ⟨hcell, hothers, hshown⟩ := semResult_cellChange_cells h 5 1 .free s
  exact ⟨hcell, hothers, hshown,
    congrArg (fun v : State => { v with sem := (semResult h 5 1 (cellChange 1 .free s)).sem }) (cellChange_lapses_pause hpaused hroom)⟩

/-- Settles O28, by the outcomes of R270 in the order of their checks: the generation, then the cell's holder, then a tie. -/
theorem semaphore : Obligations.Semaphore := by
  unfold Obligations.Semaphore
  intro s h n g hn hs
  simp only [← heldBy_eq]
  refine ⟨?stale, ?free, ?tie, ?holder, ?otherHolds, ?reserved, ?notHolder⟩
  case stale =>
    intro hg hroom tie
    have hanswer := semResult_staleReject h n hroom
    exact ⟨yields_semAcquire hn hs (semAcquire_stale tie hg ▸ hanswer), yields_semRelease hn hs (semRelease_stale hg ▸ hanswer)⟩
  case free =>
    intro hst hfree tie hsingle
    have hno : (tie && s.served h.other) = false := by
      rcases hsingle with ht | ho
      · rw [ht, Bool.false_and]
      · rw [ho, Bool.and_false]
    refine yields_semAcquire hn hs ?_
    rw [semAcquire_free tie hfree hst, hno]
    obtain ⟨hcell, hothers, hshown⟩ := semResult_cellChange_cells h 1 n (heldBy h) s
    exact ⟨hcell, hothers, hshown, (onlySem_cellChange (Or.inl (heldBy_ne_free h))).trans (onlySem_semResult ..)⟩
  case tie =>
    intro hst hfree ho
    refine yields_semAcquire hn hs ?_
    rw [semAcquire_free true hfree hst, ho]
    exact semTie_outcome n hs ho
  case holder =>
    intro hown tie
    refine ⟨fun hfree => ?_, yields_semRelease_holder hn hs hown, ?lapse⟩
    · exact yields_semAcquire hn hs (semAcquire_holder tie hfree hown ▸ semResult_keeps h 1 n s)
    case lapse =>
      rintro rfl hpaused hroom
      exact yields_semRelease_lapse hs hown hpaused hroom
  case otherHolds =>
    intro hother hfree tie
    exact yields_semAcquire hn hs (semAcquire_otherHolds tie hfree hother ▸ semResult_keeps h 2 n s)
  case reserved =>
    intro hres tie
    exact yields_semAcquire hn hs (semAcquire_reserved tie hres ▸ semResult_keeps h 2 n s)
  case notHolder =>
    intro hnot
    exact yields_semRelease hn hs (semRelease_notHolder hnot ▸ semResult_keeps h 4 n s)

end Sys2Proof.Machine
end

section
/-!
PROOFS. The Fault Collector's sticky bits (R366, R377): what an event that no reset follows sets, what a write of 1 clears and refuses, and
the obligation assembled from them.
-/
namespace Sys2Proof.Machine

/-! ### An event that no reset follows (R366, R369) -/

theorem saving_congr {s t : State} (hdev : t.dev = s.dev) : t.saving = s.saving := by simp [State.saving, hdev]

theorem alive_congr {s t : State} (hdev : t.dev = s.dev) : t.alive = s.alive := by simp [State.alive, hdev]

/-- An event of the source would now be taken in, outside a save, and no reset follows it. -/
structure MildEvent (src : Nat) (s : State) : Prop where
  assigned : (srcRow src).isSome = true
  alive : s.alive = true
  unmasked : s.flt.masked.contains src = false
  unsaving : s.saving = false
  mild : s.mild src = true

/-- The device's state, the Collector and Tally decide it. -/
theorem MildEvent.congr {src : Nat} {s t : State} (h : MildEvent src s) (hdev : t.dev = s.dev) (hflt : t.flt = s.flt)
    (htly : t.tly = s.tly) : MildEvent src t where
  assigned := h.assigned
  alive := (alive_congr hdev).trans h.alive
  unmasked := hflt ▸ h.unmasked
  unsaving := (saving_congr hdev).trans h.unsaving
  mild := by simpa [State.mild, fltRecord_level src s t hflt, htly] using h.mild

theorem MildEvent.level_le {src : Nat} {s : State} (h : MildEvent src s) : (fltRecord src s).2 ≤ 2 := by
  have hmild := h.mild
  simp only [State.mild, Bool.and_eq_true, decide_eq_true_eq] at hmild
  exact hmild.1

theorem MildEvent.room {src : Nat} {s : State} (h : MildEvent src s) : s.tly.fifo.length < 32 := by
  have hmild := h.mild
  simp only [State.mild, Bool.and_eq_true, decide_eq_true_eq] at hmild
  exact hmild.2

theorem salvage_of_not_saving (code unit : Nat) {s : State} (hsaving : s.saving = false) : salvage code unit s = s := by
  simp [salvage, hsaving]

/-- A reaction of level 2 or less touches no sticky bit (R369). -/
theorem fltReact_low_sticky (src : Nat) {level : Nat} (s : State) (hlow : level ≤ 2) :
    (fltReact src level s).flt.sticky = s.flt.sticky := by
  match level, hlow with
  | 0, _ => rfl
  | 1, _ => simp [fltReact, reactLow]
  | 2, _ => rfl

/-- The state once an event is recorded and ERR_N and Tally have it: its reaction is still to run. -/
def recorded (src arg : Nat) (s : State) : State :=
  (tlyPut src (fltRecord src s).2 arg (setErrN (fltRecord src s).1)).1

theorem recorded_dev (src arg : Nat) (s : State) : (recorded src arg s).dev = s.dev := by simp [recorded]

/-- With room in the trigger FIFO the event's own source is the only one recorded: none is dropped into 0xE1 (R390). -/
theorem recorded_sticky {src arg : Nat} {s : State} (hroom : s.tly.fifo.length < 32) :
    (recorded src arg s).flt.sticky = setAdd src s.flt.sticky := by
  unfold recorded
  rw [tlyPut_room _ _ _ _ (by simpa using hroom)]
  simp [fltRecord]

/-- A mild event is recorded, told to Tally and answered at its level, and nothing else. -/
theorem fltRaise_of_mild {src : Nat} (arg : Nat) {s : State} (h : MildEvent src s) :
    fltRaise src arg s = fltReact src (fltRecord src s).2 (recorded src arg s) := by
  obtain ⟨row, hrow⟩ := Option.isSome_iff_exists.mp h.assigned
  have hevaluated : (decide (s.dev.st = .off) || (!s.alive && !s.aonSource src) || s.flt.masked.contains src) = false := by
    have halive := h.alive
    have hon : s.dev.st ≠ .off := fun hoff => by simp [State.alive, hoff] at halive
    rw [decide_eq_false hon, halive, h.unmasked]
    rfl
  have hkept : (tlyPut src (fltRecord src s).2 arg (setErrN (fltRecord src s).1)).2 = none := by
    rw [tlyPut_room _ _ _ _ (by simpa using h.room)]
  have hquiet : (recorded src arg s).saving = false := (saving_congr (recorded_dev ..)).trans h.unsaving
  have hup : (recorded src arg s).alive = true := (alive_congr (recorded_dev ..)).trans h.alive
  have htold : (tlyPut src (fltRecord src s).2 arg (setErrN (fltRecord src s).1)).1 = recorded src arg s := rfl
  unfold fltRaise
  simp only [hrow, hevaluated, hkept, htold, salvage_of_not_saving _ _ hquiet, hquiet, hup, Bool.false_and, Bool.false_eq_true,
    if_false, if_true, ite_self]

theorem fltRaise_sticky_of_mild {src : Nat} (arg : Nat) {s : State} (h : MildEvent src s) :
    (fltRaise src arg s).flt.sticky = setAdd src s.flt.sticky := by
  rw [fltRaise_of_mild arg h, fltReact_low_sticky _ _ h.level_le, recorded_sticky h.room]

/-- A source whose fault means nothing by itself to the store, to training, to Panhouse, to the random generator or to Tally. -/
abbrev PlainSource (n : Nat) : Prop := n ∉ [0x20, 0x21, 0x30, 0x50, 0x60, 0xC2, 0xE0]

/-- Of the plain sources a failed LMS commit leaves a mark with the keys (R474), and none leaves another. -/
theorem sourceEffect_of_plain {source : Nat} (unit detail : Nat) (s : State) (hplain : PlainSource source) :
    sourceEffect source unit detail s = { s with key := (sourceEffect source unit detail s).key } := by
  simp only [PlainSource, List.mem_cons, List.not_mem_nil, or_false, not_or] at hplain
  obtain ⟨h20, h21, h30, h50, h60, hC2, hE0⟩ := hplain
  unfold sourceEffect
  simp only [h20, h21, h30, h50, h60, hC2, hE0, if_false]
  split
  · rfl
  · split <;> rfl

/-! ### What an event's sticky bit outlives (R377) -/

theorem occurrence_sets_sticky {n : Nat} (u d : Nat) {s : State} (hplain : PlainSource n) (h : MildEvent n s) :
    Yields (.faultEvent n u d .occurrence) s fun t => t.flt.sticky.contains n = true := by
  refine ⟨_, rfl, ?_⟩
  have heffect := sourceEffect_of_plain u d s hplain
  generalize sourceEffect n u d s = v at heffect ⊢
  have hevent : MildEvent n v := h.congr (by rw [heffect]) (by rw [heffect]) (by rw [heffect])
  have hsame : (endIfDue (repace (fltRaise n u v))).flt = (fltRaise n u v).flt := by simp
  show (endIfDue (repace (fltRaise n u v))).flt.sticky.contains n = true
  rw [hsame, fltRaise_sticky_of_mild u hevent, setAdd_contains, beq_self_eq_true, Bool.true_or]

theorem fall_keeps_sticky (n u d : Nat) (s : State) :
    Yields (.faultEvent n u d .falls) s fun t => t.flt.sticky = s.flt.sticky ∧ t.flt.severe = s.flt.severe := by
  refine ⟨_, rfl, ?_⟩
  split <;> exact ⟨rfl, rfl⟩

/-! ### A write to FLT_STICKY or FLT_SEVERE (R377) -/

/-- A write of a mask to one of the eight words names source n. -/
abbrev writeNames (word mask n : Nat) : Bool := n / 32 = word && mask.testBit (n % 32)

theorem maskSources_contains (word mask n : Nat) : (maskSources word mask).contains n = writeNames word mask n := by
  rw [Bool.eq_iff_iff]
  simp only [maskSources, List.contains_iff_mem, List.mem_map, List.mem_filter, List.mem_range, Bool.and_eq_true, decide_eq_true_eq]
  constructor
  · rintro ⟨k, ⟨hk, hbit⟩, rfl⟩
    have hword : (32 * word + k) / 32 = word := by omega
    have hpos : (32 * word + k) % 32 = k := by omega
    exact ⟨hword, hpos.symm ▸ hbit⟩
  · rintro ⟨hword, hbit⟩
    exact ⟨n % 32, ⟨by omega, hbit⟩, by omega⟩

/-- The sources a write names are numbers of the Collector's 256. -/
theorem maskSources_any {word : Nat} (mask : Nat) (p : Nat → Bool) (hword : word < 8) :
    (maskSources word mask).any p = (List.range 256).any fun n => writeNames word mask n && p n := by
  rw [Bool.eq_iff_iff, List.any_eq_true, List.any_eq_true]
  constructor
  · rintro ⟨n, hmem, hp⟩
    have hnamed : writeNames word mask n = true := maskSources_contains word mask n ▸ List.contains_iff_mem.mpr hmem
    have hn : n / 32 = word := by simpa using And.left (Bool.and_eq_true_iff.mp hnamed)
    exact ⟨n, List.mem_range.mpr (by omega), Bool.and_eq_true_iff.mpr ⟨hnamed, hp⟩⟩
  · rintro ⟨n, -, hboth⟩
    obtain ⟨hnamed, hp⟩ := Bool.and_eq_true_iff.mp hboth
    exact ⟨n, List.contains_iff_mem.mp ((maskSources_contains word mask n).trans hnamed), hp⟩

theorem filter_contains (l : NSet) (p : Nat → Bool) (n : Nat) : (l.filter p).contains n = (l.contains n && p n) := by
  rw [Bool.eq_iff_iff]
  simp [List.mem_filter]

/-- Of a set of bits a write clears those it names whose source is not live. -/
theorem cleared_contains (bits live : NSet) (word mask n : Nat) :
    (bits.filter fun k => !((maskSources word mask).filter fun j => !live.contains j).contains k).contains n =
      (bits.contains n && !(writeNames word mask n && !live.contains n)) := by
  rw [filter_contains, filter_contains, maskSources_contains]

theorem fltClear_reach (isSevere : Bool) (word mask : Nat) (s : State) :
    let t := fltClear isSevere word mask s
    t = { s with flt := t.flt, pins := t.pins } := rfl

theorem fltClear_refused (isSevere : Bool) {word : Nat} (mask : Nat) (s : State) (hword : word < 8) :
    (fltClear isSevere word mask s).flt.clearRefused =
      (s.flt.clearRefused || (List.range 256).any fun n => writeNames word mask n && s.flt.live.contains n) := by
  rw [← maskSources_any mask _ hword]
  cases isSevere <;> rfl

theorem fltClear_sticky_contains (word mask n : Nat) (s : State) :
    (fltClear false word mask s).flt.sticky.contains n =
      (s.flt.sticky.contains n && !(writeNames word mask n && !s.flt.live.contains n)) :=
  cleared_contains ..

theorem fltClear_severe_contains (word mask n : Nat) (s : State) :
    (fltClear true word mask s).flt.severe.contains n =
      (s.flt.severe.contains n && !(writeNames word mask n && !s.flt.live.contains n)) :=
  cleared_contains ..

/-- A write to FLT_STICKY leaves FLT_SEVERE. -/
theorem fltClear_sticky_keeps_severe (word mask : Nat) (s : State) : (fltClear false word mask s).flt.severe = s.flt.severe := rfl

/-- A write to FLT_SEVERE leaves FLT_STICKY. -/
theorem fltClear_severe_keeps_sticky (word mask : Nat) (s : State) : (fltClear true word mask s).flt.sticky = s.flt.sticky := rfl

/-- An open port's write to one of the eight words is carried out; no cell is looked at. -/
theorem yields_clearSticky {s : State} {p : Port} {isSevere : Bool} {w m : Nat} {P : State → Prop} (hopen : s.windowOpen p = true)
    (hw : w < 8) (hP : P (fltClear isSevere w m s)) : Yields (.clearSticky p isSevere w m) s P :=
  ⟨_, by simp [execClearSticky, hopen, hw], hP⟩

/-! ### A write to FLT_FIRST.VALID (R377) -/

theorem fltClearFirst_of_ended {s : State} (hvalid : s.flt.first.valid = true) (hended : s.flt.live.contains s.flt.first.source = false) :
    fltClearFirst s = { s with flt := { s.flt with first := {} } } := by
  simp only [fltClearFirst, hvalid, hended, Bool.not_true, Bool.false_eq_true, if_false]

theorem fltClearFirst_of_live {s : State} (hvalid : s.flt.first.valid = true) (hlive : s.flt.live.contains s.flt.first.source = true) :
    fltClearFirst s = { s with flt := { s.flt with clearRefused := true } } := by
  simp only [fltClearFirst, hvalid, hlive, Bool.not_true, Bool.false_eq_true, if_false, if_true]

theorem yields_clearFirst {s : State} {p : Port} {P : State → Prop} (hopen : s.windowOpen p = true) (hP : P (fltClearFirst s)) :
    Yields (.clearFirst p) s P :=
  ⟨_, by simp [execClearFirst, hopen], hP⟩

/-- Settles O39: an occurrence sets its bit and an end leaves it; a write clears what it names of a set of bits that is not live, and the
latch is one more bit under the same refusal. -/
theorem faultClearing : Obligations.FaultClearing := by
  unfold Obligations.FaultClearing
  refine ⟨?occurs, ?ends, ?write, ?latch⟩
  case occurs =>
    intro s n u d hrow hplain halive hmasked hsaving hmild
    exact occurrence_sets_sticky u d hplain ⟨hrow, halive, hmasked, hsaving, hmild⟩
  case ends =>
    intro s n u d
    exact fall_keeps_sticky n u d s
  case write =>
    intro s p w m hopen hw
    exact ⟨yields_clearSticky hopen hw
        ⟨fun n => fltClear_sticky_contains w m n s, fltClear_refused false m s hw, fltClear_sticky_keeps_severe w m s,
          fltClear_reach false w m s⟩,
      yields_clearSticky hopen hw
        ⟨fun n => fltClear_severe_contains w m n s, fltClear_refused true m s hw, fltClear_severe_keeps_sticky w m s,
          fltClear_reach true w m s⟩⟩
  case latch =>
    intro s p hopen hvalid
    exact ⟨fun hended => yields_clearFirst hopen (fltClearFirst_of_ended hvalid hended),
      fun hlive => yields_clearFirst hopen (fltClearFirst_of_live hvalid hlive)⟩

end Sys2Proof.Machine
end

section
/-!
PROOFS. Who may program and erase which sectors (R404, R405): what a requester's rights say of a sector's address, the answer to a request
outside them, and the obligation assembled from the two.
-/
namespace Sys2Proof.Machine

/-! ### What rights say of an address (R404) -/

/-- The sector stands between the two ends of the partition of that ID. -/
abbrev InPart (id sector : Nat) : Prop := (celPart id).1 ≤ sector ∧ sector < (celPart id).1 + (celPart id).2

/-- `partOf` answers 0 for an address no partition holds, so only an answer other than 0 places the sector. -/
theorem inPart_partOf {sector : Nat} (hnonzero : partOf sector ≠ 0) : InPart (partOf sector) sector := by
  unfold partOf at hnonzero ⊢
  generalize hfound : List.find? _ (List.range 12) = found at hnonzero ⊢
  cases found with
  | none => exact absurd rfl hnonzero
  | some id => simpa using List.find?_some hfound

/-- The header is locked at manufacture: no requester's rights name it. -/
theorem header_not_mem_celRights (u : CelUser) : 0 ∉ celRights u := by
  cases u <;> decide

theorem inPart_of_celMay {u : CelUser} {sector : Nat} (hmay : celMay u sector = true) : ∃ id ∈ celRights u, InPart id sector := by
  have hmem : partOf sector ∈ celRights u := List.contains_iff_mem.mp hmay
  exact ⟨partOf sector, hmem, inPart_partOf fun hheader => header_not_mem_celRights u (hheader ▸ hmem)⟩

theorem celMay_eq_false {u : CelUser} {sector : Nat} (houtside : ∀ id ∈ celRights u, ¬ InPart id sector) : celMay u sector = false :=
  Bool.eq_false_iff.mpr fun hmay =>
    let ⟨id, hmem, hin⟩ := inPart_of_celMay hmay
    houtside id hmem hin

/-! ### A request outside its rights (R405, R424) -/

theorem yields_cellarProgram_outside {s : State} {u : CelUser} {sector word : Nat} {d : BitVec 128} {P : State → Prop}
    (hsector : sector < 2048) (hword : word < 1024) (hup : s.celUp = true) (hmay : celMay u sector = false)
    (hP : P (celFail 2 sector word .prot s)) : Yields (.cellarProgram u sector word d) s P :=
  ⟨_, by simp [execCellarProgram, hsector, hword, hup, hmay], hP⟩

theorem yields_cellarErase_outside {s : State} {u : CelUser} {sector : Nat} {P : State → Prop}
    (hsector : sector < 2048) (hup : s.celUp = true) (hmay : celMay u sector = false)
    (hP : P (celFail 2 sector 0 .prot s)) : Yields (.cellarErase u sector) s P :=
  ⟨_, by simp [execCellarErase, hsector, hup, hmay], hP⟩

/-- Settles O43: a sector outside the address ranges of R404 stands in no partition of its requester's rights, and a request for it reaches
the answer PROT and nothing else. -/
theorem cellarRights : Obligations.CellarRights := by
  unfold Obligations.CellarRights
  intro within may s u n hn hup houtside
  have hmay : celMay u n = false := by
    apply celMay_eq_false
    -- requester by requester, the rights' partitions laid end to end are the ranges of the statement
    cases u <;>
      simp only [may, within, Bool.or_eq_false_iff, Bool.and_eq_false_iff, decide_eq_false_iff_not] at houtside <;>
      simp only [celRights, InPart, celPart, List.forall_mem_cons, List.not_mem_nil, false_implies, implies_true, and_true] <;>
      omega
  exact ⟨fun w d hw => yields_cellarProgram_outside hn hw hup hmay rfl, yields_cellarErase_outside hn hup hmay rfl⟩

end Sys2Proof.Machine
end

section
/-!
PROOFS. RST_N by the state its release finds (R549): one equation of `execPinReset` per row of the rule's table, what the reset and the start
those rows lead to leave behind, and the obligation assembled from them.
-/
namespace Sys2Proof.Machine

/-! ### The rows of R549 -/

/-- A save is none of the states a reset of the main domain acts in (R548). -/
theorem resettable_of_saving {s : State} (hsaving : s.saving = true) : resettable s = false := by
  simp only [State.saving, Bool.or_eq_true, decide_eq_true_eq] at hsaving
  rcases hsaving with hst | hst <;> simp [resettable, hst]

theorem execPinReset_of_resettable {s : State} (hup : resettable s = true) :
    execPinReset s = .next (mainReset 2 (salCut s)) := by
  rw [execPinReset, if_pos hup]

theorem execPinReset_faultHalt {s : State} (hst : s.dev.st = .halt) (hhalt : s.dev.halt = .fault) :
    execPinReset s = .next (mainReset 2 (salCut s)) := by
  simp [execPinReset, resettable, State.saving, hst, hhalt]

theorem execPinReset_of_saving {s : State} (hsaving : s.saving = true) :
    execPinReset s = .next { s with pins := { s.pins with rstLatched := true } } := by
  simp [execPinReset, resettable_of_saving hsaving, hsaving]

theorem execPinReset_sealed_planned {s : State} (hst : s.dev.st = .sealed) (hplanned : s.dev.savedBy = 5) :
    execPinReset s = .next (startFrom 2 s) := by
  simp [execPinReset, resettable, State.saving, hst, hplanned]

theorem execPinReset_sealed_other {s : State} (hst : s.dev.st = .sealed) (hother : s.dev.savedBy ≠ 5) :
    execPinReset s = .next s := by
  simp [execPinReset, resettable, State.saving, hst, hother]

theorem execPinReset_thermalHalt {s : State} (hst : s.dev.st = .halt) (hhalt : s.dev.halt = .thermal) :
    execPinReset s = .next s := by
  simp [execPinReset, resettable, State.saving, hst, hhalt]

theorem execPinReset_off {s : State} (hst : s.dev.st = .off) : execPinReset s = .next s := by
  simp [execPinReset, resettable, State.saving, hst]

/-! ### What the reset and the start leave behind -/

/-- A reset of the main domain makes a start due whatever the state it resets (R462, R548). -/
theorem mainReset_startDue (cause : Nat) (s : State) : StartDue cause (mainReset cause s) :=
  ⟨rfl, rfl, rfl, fun _ => rfl⟩

/-- The start that ends SEALED (R15). -/
theorem startFrom_sealed {s : State} (cause : Nat) (hst : s.dev.st = .sealed) :
    (startFrom cause s).dev.st = .boot ∧ (startFrom cause s).dev.startDue = true ∧ (startFrom cause s).upd.cause = cause := by
  rw [startFrom, if_pos hst]
  exact ⟨rfl, rfl, rfl⟩

/-- Settles O4, row by row of R549's table: a reset, a latch, a start from SEALED, or nothing. -/
theorem resetPin : Obligations.ResetPin := by
  unfold Obligations.ResetPin
  refine ⟨?runs, ?faultHalt, ?save, ?planned, ?otherSave, ?thermalHalt, ?off, ?rejected⟩
  case runs =>
    intro s hup
    exact ⟨_, execPinReset_of_resettable hup, mainReset_startDue 2 _⟩
  case faultHalt =>
    intro s hst hhalt
    exact ⟨_, execPinReset_faultHalt hst hhalt, mainReset_startDue 2 _⟩
  case save =>
    intro s hsaving
    exact ⟨_, execPinReset_of_saving hsaving, rfl⟩
  case planned =>
    intro s hst hplanned
    exact ⟨_, execPinReset_sealed_planned hst hplanned, startFrom_sealed 2 hst⟩
  case otherSave =>
    intro s hst hother
    exact ⟨_, execPinReset_sealed_other hst hother, rfl⟩
  case thermalHalt =>
    intro s hst hhalt
    exact ⟨_, execPinReset_thermalHalt hst hhalt, rfl⟩
  case off =>
    intro s hst
    exact ⟨_, execPinReset_off hst, rfl⟩
  case rejected =>
    intro s
    exact ⟨s, rfl, rfl⟩

end Sys2Proof.Machine
end

section
/-!
PROOFS. The queue (R427's machine as the model steps it) and the machine right after reset.
-/
namespace Sys2Proof.Machine

theorem step_front {s : State} {c : Instr} {rest : List Instr} (hfront : s.pending = c :: rest) :
    step s = exec c { s with pending := rest } := by
  simp [step, hfront]

theorem step_idle {s : State} (hidle : s.pending = []) : step s = .next s := by
  simp [step, hidle]

/-- Settles O58, by the two cases of the queue. -/
theorem stepRunsTheFront : Obligations.StepRunsTheFront := by
  unfold Obligations.StepRunsTheFront
  exact ⟨fun _ _ _ hfront => step_front hfront, fun _ hidle => step_idle hidle⟩

/-- Settles O59: each register of the machine right after reset stands at the value the statement names. -/
theorem resetState : Obligations.ResetState := by
  unfold Obligations.ResetState
  exact ⟨rfl, rfl, rfl, rfl, rfl, rfl, rfl, rfl, rfl, fun _ => rfl, rfl, rfl, rfl, rfl, rfl, rfl, fun _ => rfl⟩

end Sys2Proof.Machine
end

section
/-!
PROOFS. What every command keeps (R414, R463, R73): one lemma for each operation that the commands share, one for each command, and the
obligation assembled from them over the constructors of `Instr`.
-/
namespace Sys2Proof.Machine

/-! ### Folds, DRAM and JOURNAL -/

@[simp] theorem keeps_foldl_iff {α : Type} (a : State) (f : State → α → State) (l : List α) (s : State) (h : ∀ t x, Keeps a (f t x) = Keeps a t) :
    Keeps a (l.foldl f s) = Keeps a s := foldl_same (Keeps a) f h l s

theorem wf_memPutBytes (a : Nat) (bs : List Byte) (m : List Host.Cell) (hm : Memory.wf m = true) :
    Memory.wf (memPutBytes a bs m) = true := by
  induction bs generalizing a m with
  | nil => exact hm
  | cons b bs ih => exact ih _ _ (tblWf_put 0 a b m hm)

theorem wf_memPutCells (base : Nat) (cs : GranuleBytes) (m : List Host.Cell) (hm : Memory.wf m = true) :
    Memory.wf (memPutCells base cs m) = true := by
  induction cs generalizing m with
  | nil => exact hm
  | cons c cs ih => exact ih _ (tblWf_put 0 _ c.2 m hm)

/-- A change of DRAM that keeps its canonical form. -/
theorem keeps_dram {z s : State} {m : List Host.Cell} (hz : Keeps z s) (hm : Memory.wf s.dram = true → Memory.wf m = true) :
    Keeps z { s with dram := m } := by
  obtain ⟨h1, h2, h3, h4, h5, h6, h7, h8⟩ := hz
  exact ⟨h1, h2, h3, h4, h5, h6, h7, hm ∘ h8⟩

@[simp] theorem keeps_putBytes {z : State} (s : State) (a : Nat) (bs : List Byte) (hz : Keeps z s) : Keeps z (s.putBytes a bs) :=
  keeps_dram hz (wf_memPutBytes a bs s.dram)

@[simp] theorem keeps_putGranule {z : State} (s : State) (g : Nat) (body : GranuleBytes) (hz : Keeps z s) :
    Keeps z (s.putGranule g body) :=
  keeps_dram hz fun hm => wf_memPutCells _ _ _ (tblWf_filter 0 _ s.dram hm)

theorem dropHistory_lasting {n : Nat} {l : List (JRec × Bool)} {r : JRec} (hr : (r, true) ∈ l) : r ∈ dropHistory n l := by
  induction l generalizing n with
  | nil => cases hr
  | cons e l ih =>
    obtain ⟨q, keep⟩ := e
    unfold dropHistory
    rcases List.mem_cons.mp hr with hhead | htail
    · obtain ⟨rfl, rfl⟩ : r = q ∧ true = keep := by simpa using hhead
      simp
    · split
      · exact List.mem_cons_of_mem _ (ih htail)
      · exact ih htail

theorem inForce_retirement {seen : List Nat} {l : List JRec} {c d b k n : Nat} (hr : JRec.retirement c d b k n ∈ l) :
    (JRec.retirement c d b k n, true) ∈ inForce seen l := by
  induction l generalizing seen with
  | nil => cases hr
  | cons q l ih =>
    unfold inForce
    rcases List.mem_cons.mp hr with rfl | htail
    · simp [JRec.single, JRec.lasts]
    · split <;> exact List.mem_cons_of_mem _ (ih htail)

theorem fitJournal_retirement {l : List JRec} {c d b k n : Nat} (hr : JRec.retirement c d b k n ∈ l) :
    JRec.retirement c d b k n ∈ fitJournal l := by
  unfold fitJournal
  split
  · exact hr
  · refine dropHistory_lasting (List.mem_reverse.mpr (inForce_retirement (List.mem_reverse.mpr hr)))

/-- The block retirements a state started from stand in its JOURNAL (R414). -/
theorem Keeps.retirements {z s : State} (hz : Keeps z s) {c d b k n : Nat} (hr : JRec.retirement c d b k n ∈ z.jrn) :
    JRec.retirement c d b k n ∈ s.jrn := by
  obtain ⟨-, -, -, -, -, -, hjrn, -⟩ := hz
  exact hjrn c d b k n hr

/-- A change of JOURNAL that keeps the block retirements the machine started from. -/
theorem keeps_jrn {z s : State} {l : List JRec} (hz : Keeps z s)
    (hl : ∀ c d b k n, JRec.retirement c d b k n ∈ z.jrn → JRec.retirement c d b k n ∈ l) : Keeps z { s with jrn := l } := by
  obtain ⟨h1, h2, h3, h4, h5, h6, -, h8⟩ := hz
  exact ⟨h1, h2, h3, h4, h5, h6, hl, h8⟩

@[simp] theorem keeps_journal {z : State} (s : State) (r : JRec) (hz : Keeps z s) : Keeps z (s.journal r) := by
  refine keeps_jrn hz fun c d b k n hr => ?_
  split
  · exact List.mem_append_left _ (hz.retirements hr)
  · exact fitJournal_retirement (List.mem_append_left _ (hz.retirements hr))

/-- DRAM lost is in canonical form (R4). -/
@[simp] theorem keeps_dramLost {z s : State} (hz : Keeps z s) :
    KeptParts z s.pending s.serial s.key.revoked s.key.provLock s.key.antiRollback s.sal.breaksUsed s.jrn [] :=
  keeps_dram (m := []) hz fun _ => rfl

@[simp] theorem keeps_mainReset {z : State} (cause : Nat) (s : State) (hz : Keeps z s) : Keeps z (mainReset cause s) := by
  unfold mainReset
  simp [Sal.kept, Key.kept, hz]

/-! ### Operations that reach none of the kept parts -/

@[simp] theorem keeps_poisonGranule (z : State) (s : State) (g : Nat) (on : Bool) :
    Keeps z (State.poisonGranule s g on) = Keeps z s := State.poisonGranule_only (Keeps z) (fun _ _ => rfl) ..
@[simp] theorem keeps_draw (z : State) (s : State) :
    Keeps z (State.draw s) = Keeps z s := State.draw_only (Keeps z) (fun _ _ => rfl) ..
@[simp] theorem keeps_fltRecord (z : State) (src : Nat) (s : State) :
    Keeps z (fltRecord src s).1 = Keeps z s := fltRecord_only (Keeps z) (fun _ _ => rfl) ..
@[simp] theorem keeps_tlyDrop (z : State) (s : State) :
    Keeps z (tlyDrop s).1 = Keeps z s := tlyDrop_only (Keeps z) (fun _ _ _ => rfl) ..
@[simp] theorem keeps_tlyPut (z : State) (code : Nat) (level : Nat) (arg : Nat) (s : State) :
    Keeps z (tlyPut code level arg s).1 = Keeps z s := tlyPut_only (Keeps z) (fun _ _ _ => rfl) ..
@[simp] theorem keeps_eventTo (z : State) (h : Head) (l : EvLog) (b : EvBody) (s : State) :
    Keeps z (eventTo h l b s) = Keeps z s := eventTo_only (Keeps z) (fun _ _ => rfl) ..
@[simp] theorem keeps_chapenEvent (z : State) (l : EvLog) (typ : Nat) (cause : Nat) (head : Nat) (object : Nat) (gb : Nat) (ga : Nat) (value : Nat) (s : State) :
    Keeps z (chapenEvent l typ cause head object gb ga value s) = Keeps z s := chapenEvent_only (Keeps z) (fun _ _ => rfl) ..
@[simp] theorem keeps_reactLow (z : State) (level : Nat) (s : State) :
    Keeps z (reactLow level s) = Keeps z s := reactLow_only (Keeps z) (fun _ _ _ => rfl) ..
@[simp] theorem keeps_setBit (z : State) (g : Nat) (s : State) :
    Keeps z (setBit g s) = Keeps z s := setBit_only (Keeps z) (fun _ _ => rfl) ..
@[simp] theorem keeps_mapOp (z : State) (op : MapOp) (s : State) :
    Keeps z (mapOp op s) = Keeps z s := mapOp_only (Keeps z) (fun _ _ _ => rfl) ..
@[simp] theorem keeps_fillDone (z : State) (r : Nat) (s : State) :
    Keeps z (fillDone r s) = Keeps z s := fillDone_only (Keeps z) (fun _ _ _ => rfl) ..
@[simp] theorem keeps_fillAll (z : State) (s : State) :
    Keeps z (fillAll s) = Keeps z s := fillAll_only (Keeps z) (fun _ _ _ => rfl) ..
@[simp] theorem keeps_flushCache (z : State) (s : State) :
    Keeps z (flushCache s) = Keeps z s := flushCache_only (Keeps z) (fun _ _ => rfl) ..
@[simp] theorem keeps_abandonOp (z : State) (g : Nat) (s : State) :
    Keeps z (abandonOp g s) = Keeps z s := abandonOp_only (Keeps z) (fun _ _ _ _ => rfl) ..
@[simp] theorem keeps_abandonAll (z : State) (s : State) :
    Keeps z (abandonAll s) = Keeps z s := abandonAll_only (Keeps z) (fun _ _ _ _ => rfl) ..
@[simp] theorem keeps_commitOp (z : State) (g : Nat) (s : State) :
    Keeps z (commitOp g s) = Keeps z s := commitOp_only (Keeps z) (fun _ _ _ => rfl) ..
@[simp] theorem keeps_hmPut (z : State) (g : Nat) (e : HmEntry) (s : State) :
    Keeps z (hmPut g e s) = Keeps z s := hmPut_only (Keeps z) (fun _ _ _ => rfl) ..
@[simp] theorem keeps_wearSector (z : State) (n : Nat) (s : State) :
    Keeps z (wearSector n s) = Keeps z s := wearSector_only (Keeps z) (fun _ _ => rfl) ..
@[simp] theorem keeps_appendCopy (z : State) (area : Nat) (n : Nat) (c : SettingsCopy) (s : State) :
    Keeps z (appendCopy area n c s) = Keeps z s := appendCopy_only (Keeps z) (fun _ _ _ => rfl) ..
@[simp] theorem keeps_losePages (z : State) (l : List StorePage) (s : State) :
    Keeps z (losePages l s) = Keeps z s := losePages_only (Keeps z) (fun _ _ _ _ _ => rfl) ..
@[simp] theorem keeps_syncSettings (z : State) (s : State) :
    Keeps z (syncSettings s) = Keeps z s := syncSettings_only (Keeps z) (fun _ _ _ => rfl) ..
@[simp] theorem keeps_holdSettings (z : State) (s : State) :
    Keeps z (holdSettings s) = Keeps z s := holdSettings_only (Keeps z) (fun _ _ _ => rfl) ..
@[simp] theorem keeps_celLost (z : State) (s : State) :
    Keeps z (celLost s) = Keeps z s := celLost_only (Keeps z) (fun _ _ _ => rfl) ..
@[simp] theorem keeps_coreLost (z : State) (s : State) :
    Keeps z (coreLost s) = Keeps z s := coreLost_only (Keeps z) (fun _ _ => rfl) ..
@[simp] theorem keeps_setErrN (z : State) (s : State) :
    Keeps z (setErrN s) = Keeps z s := setErrN_only (Keeps z) (fun _ _ => rfl) ..
@[simp] theorem keeps_endPause (z : State) (cause : Nat) (s : State) :
    Keeps z (endPause cause s) = Keeps z s := endPause_only (Keeps z) (fun _ _ _ _ _ => rfl) ..
@[simp] theorem keeps_disarm (z : State) (cause : Nat) (s : State) :
    Keeps z (disarm cause s) = Keeps z s := disarm_only (Keeps z) (fun _ _ _ _ _ _ _ _ => rfl) ..
@[simp] theorem keeps_disarmStop (z : State) (cause : Nat) (s : State) :
    Keeps z (disarmStop cause s) = Keeps z s := disarmStop_only (Keeps z) (fun _ _ _ _ _ => rfl) ..
@[simp] theorem keeps_dropHeads (z : State) (s : State) :
    Keeps z (dropHeads s) = Keeps z s := dropHeads_only (Keeps z) (fun _ _ => rfl) ..
@[simp] theorem keeps_narrowRows (z : State) (s : State) :
    Keeps z (narrowRows s) = Keeps z s := narrowRows_only (Keeps z) (fun _ _ => rfl) ..
@[simp] theorem keeps_salvage (z : State) (code : Nat) (unit : Nat) (s : State) :
    Keeps z (salvage code unit s) = Keeps z s := salvage_only (Keeps z) (fun _ _ _ _ _ _ _ => rfl) ..
@[simp] theorem keeps_fltFall (z : State) (src : Nat) (s : State) :
    Keeps z (fltFall src s) = Keeps z s := fltFall_only (Keeps z) (fun _ _ => rfl) ..
@[simp] theorem keeps_dchanUpd (z : State) (c : Nat) (f : DmcChan → DmcChan) (s : State) :
    Keeps z (dchanUpd c f s) = Keeps z s := dchanUpd_only (Keeps z) (fun _ _ => rfl) ..
@[simp] theorem keeps_wakeChan (z : State) (c : Nat) (s : State) :
    Keeps z (wakeChan c s) = Keeps z s := wakeChan_only (Keeps z) (fun _ _ => rfl) ..
@[simp] theorem keeps_countL3 (z : State) (rq : Nat) (us : Nat) (ns : Nat) (n : Nat) (s : State) :
    Keeps z (countL3 rq us ns n s) = Keeps z s := countL3_only (Keeps z) (fun _ _ => rfl) ..
@[simp] theorem keeps_touchRow (z : State) (rq : Nat) (line : Nat) (s : State) :
    Keeps z (touchRow rq line s) = Keeps z s := touchRow_only (Keeps z) (fun _ _ => rfl) ..
@[simp] theorem keeps_queueLine (z : State) (rq : Nat) (line : Nat) (s : State) :
    Keeps z (queueLine rq line s) = Keeps z s := queueLine_only (Keeps z) (fun _ _ => rfl) ..
@[simp] theorem keeps_tickUpd (z : State) (f : TickBytes → TickBytes) (s : State) :
    Keeps z (tickUpd f s) = Keeps z s := tickUpd_only (Keeps z) (fun _ _ => rfl) ..
@[simp] theorem keeps_queueGranule (z : State) (g : Nat) (s : State) :
    Keeps z (queueGranule g s) = Keeps z s := queueGranule_only (Keeps z) (fun _ _ _ => rfl) ..
@[simp] theorem keeps_stampOverflow (z : State) (s : State) :
    Keeps z (stampOverflow s) = Keeps z s := stampOverflow_only (Keeps z) (fun _ _ => rfl) ..
@[simp] theorem keeps_setLost (z : State) (g : Nat) (s0 : State) :
    Keeps z (setLost g s0) = Keeps z s0 := setLost_only (Keeps z) (fun _ _ _ _ _ _ => rfl) ..
@[simp] theorem keeps_clearLost (z : State) (g : Nat) (s : State) :
    Keeps z (clearLost g s) = Keeps z s := clearLost_only (Keeps z) (fun _ _ _ => rfl) ..
@[simp] theorem keeps_trackLost (z : State) (rq : Nat) (g : Nat) (s : State) :
    Keeps z (trackLost rq g s) = Keeps z s := trackLost_only (Keeps z) (fun _ _ _ => rfl) ..
@[simp] theorem keeps_lostCheck (z : State) (line : Nat) (s : State) :
    Keeps z (lostCheck line s) = Keeps z s := lostCheck_only (Keeps z) (fun _ _ _ => rfl) ..
@[simp] theorem keeps_postedSync (z : State) (s : State) :
    Keeps z (postedSync s) = Keeps z s := postedSync_only (Keeps z) (fun _ _ => rfl) ..
@[simp] theorem keeps_dmcTick (z : State) (s : State) :
    Keeps z (dmcTick s) = Keeps z s := dmcTick_only (Keeps z) (fun _ _ => rfl) ..
@[simp] theorem keeps_changeSet (z : State) (n : Nat) (s : State) :
    Keeps z (changeSet n s) = Keeps z s := changeSet_only (Keeps z) (fun _ _ _ => rfl) ..
@[simp] theorem keeps_blkUpd (z : State) (ch : Nat) (die : Nat) (blk : Nat) (f : Blk → Blk) (s : State) :
    Keeps z (blkUpd ch die blk f s) = Keeps z s := blkUpd_only (Keeps z) (fun _ _ => rfl) ..
@[simp] theorem keeps_chanUpd (z : State) (c : Nat) (f : BedChan → BedChan) (s : State) :
    Keeps z (chanUpd c f s) = Keeps z s := chanUpd_only (Keeps z) (fun _ _ => rfl) ..
@[simp] theorem keeps_closePage (z : State) (p : StorePage) (s : State) :
    Keeps z (closePage p s) = Keeps z s := closePage_only (Keeps z) (fun _ _ => rfl) ..
@[simp] theorem keeps_openRows (z : State) (s : State) :
    Keeps z (openRows s) = Keeps z s := openRows_only (Keeps z) (fun _ _ => rfl) ..

theorem keeps_stageSegment {z : State} {use : ByteUse} {ns : List Nat} {s t : State}
    (h : stageSegment use ns s = some t) :
    Keeps z t = Keeps z s := stageSegment_only (Keeps z) (fun _ _ _ => rfl) h

@[simp] theorem keeps_spendRows (z : State) (s : State) :
    Keeps z (spendRows s) = Keeps z s := spendRows_only (Keeps z) (fun _ _ => rfl) ..
@[simp] theorem keeps_closedParity (z : State) (s : State) :
    Keeps z (closedParity s) = Keeps z s := closedParity_only (Keeps z) (fun _ _ _ _ => rfl) ..
@[simp] theorem keeps_pageDone (z : State) (p : StorePage) (s : State) :
    Keeps z (pageDone p s) = Keeps z s := pageDone_only (Keeps z) (fun _ _ _ _ _ => rfl) ..
@[simp] theorem keeps_pageFail (z : State) (p : StorePage) (s : State) :
    Keeps z (pageFail p s) = Keeps z s := pageFail_only (Keeps z) (fun _ _ _ _ _ => rfl) ..
@[simp] theorem keeps_writeBlockTable (z : State) (s : State) :
    Keeps z (writeBlockTable s) = Keeps z s := writeBlockTable_only (Keeps z) (fun _ _ _ _ _ => rfl) ..
@[simp] theorem keeps_settle (z : State) (s : State) :
    Keeps z (settle s) = Keeps z s := settle_only (Keeps z) (fun _ _ _ _ _ => rfl) ..
@[simp] theorem keeps_eraseUpdate (z : State) (s : State) :
    Keeps z (eraseUpdate s) = Keeps z s := eraseUpdate_only (Keeps z) (fun _ _ => rfl) ..
@[simp] theorem keeps_writeUpdate (z : State) (bytes : Nat) (s : State) :
    Keeps z (writeUpdate bytes s) = Keeps z s := writeUpdate_only (Keeps z) (fun _ _ _ _ => rfl) ..
@[simp] theorem keeps_setPoints (z : State) (s : State) :
    Keeps z (setPoints s) = Keeps z s := setPoints_only (Keeps z) (fun _ _ => rfl) ..
@[simp] theorem keeps_repace (z : State) (s : State) :
    Keeps z (repace s) = Keeps z s := repace_only (Keeps z) (fun _ _ _ _ _ _ _ => rfl) ..
@[simp] theorem keeps_sanitizeAtSave (z : State) (s : State) :
    Keeps z (sanitizeAtSave s) = Keeps z s := sanitizeAtSave_only (Keeps z) (fun _ _ _ => rfl) ..
@[simp] theorem keeps_sendGo (z : State) (cause : Nat) (origin : Nat) (s : State) :
    Keeps z (sendGo cause origin s) = Keeps z s := sendGo_only (Keeps z) (fun _ _ => rfl) ..
@[simp] theorem keeps_cascadeTrigger (z : State) (t : Trigger) (s : State) :
    Keeps z (cascadeTrigger t s) = Keeps z s := cascadeTrigger_only (Keeps z) (fun _ _ => rfl) ..
@[simp] theorem keeps_endData (z : State) (atPoint : Bool) (s : State) :
    Keeps z (endData atPoint s) = Keeps z s := endData_only (Keeps z) (fun _ _ _ _ _ => rfl) ..
@[simp] theorem keeps_dropMoves (z : State) (s : State) :
    Keeps z (dropMoves s) = Keeps z s := dropMoves_only (Keeps z) (fun _ _ => rfl) ..
@[simp] theorem keeps_physOff (z : State) (force : Bool) (s : State) :
    Keeps z (physOff force s) = Keeps z s := physOff_only (Keeps z) (fun _ _ _ => rfl) ..
@[simp] theorem keeps_writeCopies (z : State) (a : Bool) (b : Bool) (s : State) :
    Keeps z (writeCopies a b s) = Keeps z s := writeCopies_only (Keeps z) (fun _ _ _ _ _ => rfl) ..
@[simp] theorem keeps_dramRests (z : State) (s : State) :
    Keeps z (dramRests s) = Keeps z s := dramRests_only (Keeps z) (fun _ _ => rfl) ..
@[simp] theorem keeps_reply (z : State) (h : Head) (opcode : Nat) (status : Nat) (p : Payload) (s : State) :
    Keeps z (reply h opcode status p s) = Keeps z s := reply_only (Keeps z) (fun _ _ => rfl) ..
@[simp] theorem keeps_replyCxl (z : State) (h : Head) (opcode : Nat) (code : Nat) (p : Payload) (s : State) :
    Keeps z (replyCxl h opcode code p s) = Keeps z s := replyCxl_only (Keeps z) (fun _ _ => rfl) ..
@[simp] theorem keeps_rakeReply (z : State) (op : Nat) (tag : Nat) (status : Nat) (p : Payload) (s : State) :
    Keeps z (rakeReply op tag status p s) = Keeps z s := rakeReply_only (Keeps z) (fun _ _ => rfl) ..
@[simp] theorem keeps_frameAccepted (z : State) (s : State) :
    Keeps z (frameAccepted s) = Keeps z s := frameAccepted_only (Keeps z) (fun _ _ => rfl) ..
@[simp] theorem keeps_refreshK (z : State) (s : State) :
    Keeps z (refreshK s) = Keeps z s := refreshK_only (Keeps z) (fun _ _ => rfl) ..
@[simp] theorem keeps_creditSync (z : State) (s : State) :
    Keeps z (creditSync s) = Keeps z s := creditSync_only (Keeps z) (fun _ _ _ => rfl) ..
@[simp] theorem keeps_fullRegion (z : State) (r : Nat) (s : State) :
    Keeps z (fullRegion r s) = Keeps z s := fullRegion_only (Keeps z) (fun _ _ _ => rfl) ..
@[simp] theorem keeps_auditStep (z : State) (region : Nat) (s : State) :
    Keeps z (auditStep region s) = Keeps z s := auditStep_only (Keeps z) (fun _ _ => rfl) ..
@[simp] theorem keeps_budgetTick (z : State) (s : State) :
    Keeps z (budgetTick s) = Keeps z s := budgetTick_only (Keeps z) (fun _ _ => rfl) ..
@[simp] theorem keeps_bandTick (z : State) (s : State) :
    Keeps z (bandTick s) = Keeps z s := bandTick_only (Keeps z) (fun _ _ _ _ => rfl) ..
@[simp] theorem keeps_pdomSync (z : State) (s : State) :
    Keeps z (pdomSync s) = Keeps z s := pdomSync_only (Keeps z) (fun _ _ => rfl) ..
@[simp] theorem keeps_stageAck (z : State) (s : State) :
    Keeps z (stageAck s) = Keeps z s := stageAck_only (Keeps z) (fun _ _ => rfl) ..
@[simp] theorem keeps_cascadeTick (z : State) (s : State) :
    Keeps z (cascadeTick s) = Keeps z s := cascadeTick_only (Keeps z) (fun _ _ => rfl) ..
@[simp] theorem keeps_holdoffTick (z : State) (s : State) :
    Keeps z (holdoffTick s) = Keeps z s := holdoffTick_only (Keeps z) (fun _ _ => rfl) ..
@[simp] theorem keeps_commitHourly (z : State) (s : State) :
    Keeps z (commitHourly s) = Keeps z s := commitHourly_only (Keeps z) (fun _ _ _ => rfl) ..
@[simp] theorem keeps_batchSlots (z : State) (channel : Nat) (ns : Nat) (n : Nat) (s : State) :
    Keeps z (batchSlots channel ns n s) = Keeps z s := batchSlots_only (Keeps z) (fun _ _ => rfl) ..
@[simp] theorem keeps_scrubTo (z : State) (n : Nat) (s : State) :
    Keeps z (scrubTo n s) = Keeps z s := scrubTo_only (Keeps z) (fun _ _ => rfl) ..
@[simp] theorem keeps_setRestored (z : State) (g : Nat) (s : State) :
    Keeps z (setRestored g s) = Keeps z s := setRestored_only (Keeps z) (fun _ _ _ => rfl) ..
@[simp] theorem keeps_loseGranule (z : State) (g : Nat) (s : State) :
    Keeps z (loseGranule g s) = Keeps z s := loseGranule_only (Keeps z) (fun _ _ _ _ _ _ _ => rfl) ..
@[simp] theorem keeps_queueWriteBacks (z : State) (s : State) :
    Keeps z (queueWriteBacks s) = Keeps z s := queueWriteBacks_only (Keeps z) (fun _ _ => rfl) ..
@[simp] theorem keeps_endIfDue (z : State) (s : State) :
    Keeps z (endIfDue s) = Keeps z s := endIfDue_only (Keeps z) (fun _ _ _ _ _ => rfl) ..
@[simp] theorem keeps_tchanUpd (z : State) (c : Nat) (f : TrnChan → TrnChan) (s : State) :
    Keeps z (tchanUpd c f s) = Keeps z s := tchanUpd_only (Keeps z) (fun _ _ => rfl) ..
@[simp] theorem keeps_trainNext (z : State) (k : Nat) (s : State) (c : Nat) :
    Keeps z (trainNext k s c) = Keeps z s := trainNext_only (Keeps z) (fun _ _ => rfl) ..
@[simp] theorem keeps_pruneFaster (z : State) (k : Nat) (s : State) (c : Nat) :
    Keeps z (pruneFaster k s c) = Keeps z s := pruneFaster_only (Keeps z) (fun _ _ => rfl) ..
@[simp] theorem keeps_stepFailed (z : State) (c : Nat) (step : Nat) (k : Nat) (r : TrainResult) (s : State) :
    Keeps z (stepFailed c step k r s) = Keeps z s := stepFailed_only (Keeps z) (fun _ _ => rfl) ..
@[simp] theorem keeps_trnStatus (z : State) (s : State) :
    Keeps z (trnStatus s) = Keeps z s := trnStatus_only (Keeps z) (fun _ _ => rfl) ..
@[simp] theorem keeps_drainSlot (z : State) (quota : Nat) (s : State) :
    Keeps z (drainSlot quota s) = Keeps z s := drainSlot_only (Keeps z) (fun _ _ _ => rfl) ..
@[simp] theorem keeps_harvestSlot (z : State) (quota : Nat) (s : State) :
    Keeps z (harvestSlot quota s) = Keeps z s := harvestSlot_only (Keeps z) (fun _ _ _ _ _ => rfl) ..
@[simp] theorem keeps_dropDrain (z : State) (g : Nat) (s : State) :
    Keeps z (dropDrain g s) = Keeps z s := dropDrain_only (Keeps z) (fun _ _ _ _ _ => rfl) ..
@[simp] theorem keeps_poisonedGranule (z : State) (g : Nat) (s : State) :
    Keeps z (poisonedGranule g s) = Keeps z s := poisonedGranule_only (Keeps z) (fun _ _ _ _ _ => rfl) ..
@[simp] theorem keeps_stageGranule (z : State) (g : Nat) (length : Nat) (lane : Nat) (s : State) :
    Keeps z (stageGranule g length lane s) = Keeps z s := stageGranule_only (Keeps z) (fun _ _ _ _ _ _ => rfl) ..
@[simp] theorem keeps_lostPage (z : State) (r : BedRow) (p : StorePage) (s : State) :
    Keeps z (lostPage r p s) = Keeps z s := lostPage_only (Keeps z) (fun _ _ _ _ _ _ _ _ => rfl) ..
@[simp] theorem keeps_queueRow (z : State) (seq : Nat) (cls : Nat) (s : State) :
    Keeps z (queueRow seq cls s) = Keeps z s := queueRow_only (Keeps z) (fun _ _ => rfl) ..
@[simp] theorem keeps_loseRows (z : State) (ch : Nat) (hit : BedRow → Bool) (s : State) :
    Keeps z (loseRows ch hit s) = Keeps z s := loseRows_only (Keeps z) (fun _ _ _ _ _ _ _ _ => rfl) ..
@[simp] theorem keeps_loseChannels (z : State) (chs : List Nat) (cause : Nat) (s : State) :
    Keeps z (loseChannels chs cause s) = Keeps z s := loseChannels_only (Keeps z) (fun _ _ _ _ _ _ _ _ _ => rfl) ..
@[simp] theorem keeps_dropClaimed (z : State) (s : State) :
    Keeps z (dropClaimed s) = Keeps z s := dropClaimed_only (Keeps z) (fun _ _ _ _ _ => rfl) ..
@[simp] theorem keeps_memAnswer (z : State) (h : Head) (r : MemResp) (s : State) :
    Keeps z (memAnswer h r s) = Keeps z s := memAnswer_only (Keeps z) (fun _ _ => rfl) ..
@[simp] theorem keeps_clearAnswers (z : State) (s : State) :
    Keeps z (clearAnswers s) = Keeps z s := clearAnswers_only (Keeps z) (fun _ _ => rfl) ..
@[simp] theorem keeps_fetchJoin (z : State) (q : HostReq) (s : State) :
    Keeps z (fetchJoin q s) = Keeps z s := fetchJoin_only (Keeps z) (fun _ _ => rfl) ..
@[simp] theorem keeps_readLatency (z : State) (h : Head) (dpa : Nat) (ns : Nat) (s : State) :
    Keeps z (readLatency h dpa ns s) = Keeps z s := readLatency_only (Keeps z) (fun _ _ => rfl) ..
@[simp] theorem keeps_spendCredit (z : State) (h : Head) (s : State) :
    Keeps z (spendCredit h s) = Keeps z s := spendCredit_only (Keeps z) (fun _ _ => rfl) ..
@[simp] theorem keeps_unreadablePage (z : State) (r : BedRow) (p : StorePage) (s : State) :
    Keeps z (unreadablePage r p s) = Keeps z s := unreadablePage_only (Keeps z) (fun _ _ _ _ _ _ _ => rfl) ..
@[simp] theorem keeps_moveRec (z : State) (v : BedRow) (g : Nat) (s : State) :
    Keeps z (moveRec v g s) = Keeps z s := moveRec_only (Keeps z) (fun _ _ _ _ _ _ _ _ => rfl) ..
@[simp] theorem keeps_moveLines (z : State) (v : BedRow) (n : Nat) (s : State) :
    Keeps z (moveLines v n s) = Keeps z s := moveLines_only (Keeps z) (fun _ _ _ => rfl) ..
@[simp] theorem keeps_moveTable (z : State) (v : BedRow) (s : State) :
    Keeps z (moveTable v s) = Keeps z s := moveTable_only (Keeps z) (fun _ _ _ _ _ => rfl) ..
@[simp] theorem keeps_levelRows (z : State) (s : State) :
    Keeps z (levelRows s) = Keeps z s := levelRows_only (Keeps z) (fun _ _ => rfl) ..
@[simp] theorem keeps_trimSync (z : State) (s : State) :
    Keeps z (trimSync s) = Keeps z s := trimSync_only (Keeps z) (fun _ _ => rfl) ..
@[simp] theorem keeps_secondShed (z : State) (s : State) :
    Keeps z (secondShed s) = Keeps z s := secondShed_only (Keeps z) (fun _ _ _ _ _ => rfl) ..
@[simp] theorem keeps_saveThermal (z : State) (s : State) :
    Keeps z (saveThermal s) = Keeps z s := saveThermal_only (Keeps z) (fun _ _ _ _ _ => rfl) ..
@[simp] theorem keeps_passM1 (z : State) (s : State) :
    Keeps z (passM1 s) = Keeps z s := passM1_only (Keeps z) (fun _ _ _ => rfl) ..
@[simp] theorem keeps_readBack (z : State) (backA : Bool) (backB : Bool) (s : State) :
    Keeps z (readBack backA backB s) = Keeps z s := readBack_only (Keeps z) (fun _ _ _ => rfl) ..
@[simp] theorem keeps_ackEvents (z : State) (pick : Unack → Bool) (s : State) :
    Keeps z (ackEvents pick s) = Keeps z s := ackEvents_only (Keeps z) (fun _ _ => rfl) ..
@[simp] theorem keeps_tlyFall (z : State) (mirror : Bool) (s : State) :
    Keeps z (tlyFall mirror s) = Keeps z s := tlyFall_only (Keeps z) (fun _ _ => rfl) ..
@[simp] theorem keeps_pipeFailed (z : State) (detail : Nat) (s : State) :
    Keeps z (pipeFailed detail s) = Keeps z s := pipeFailed_only (Keeps z) (fun _ _ _ _ _ _ => rfl) ..
@[simp] theorem keeps_fltPendingWrite (z : State) (mask : Nat) (s : State) :
    Keeps z (fltPendingWrite mask s) = Keeps z s := fltPendingWrite_only (Keeps z) (fun _ _ => rfl) ..
@[simp] theorem keeps_fltClear (z : State) (isSevere : Bool) (word : Nat) (mask : Nat) (s : State) :
    Keeps z (fltClear isSevere word mask s) = Keeps z s := fltClear_only (Keeps z) (fun _ _ _ => rfl) ..
@[simp] theorem keeps_fltClearFirst (z : State) (s : State) :
    Keeps z (fltClearFirst s) = Keeps z s := fltClearFirst_only (Keeps z) (fun _ _ => rfl) ..
@[simp] theorem keeps_sectorUpd (z : State) (n : Nat) (f : CelSector → CelSector) (s : State) :
    Keeps z (sectorUpd n f s) = Keeps z s := sectorUpd_only (Keeps z) (fun _ _ => rfl) ..
@[simp] theorem keeps_putCelWord (z : State) (phys : Nat) (word : Nat) (w : CelWord) (s : State) :
    Keeps z (putCelWord phys word w s) = Keeps z s := putCelWord_only (Keeps z) (fun _ _ => rfl) ..
@[simp] theorem keeps_celAnswer (z : State) (a : CelAnswer) (s : State) :
    Keeps z (celAnswer a s) = Keeps z s := celAnswer_only (Keeps z) (fun _ _ => rfl) ..
@[simp] theorem keeps_celFail (z : State) (code : Nat) (sector : Nat) (word : Nat) (a : CelAnswer) (s : State) :
    Keeps z (celFail code sector word a s) = Keeps z s := celFail_only (Keeps z) (fun _ _ => rfl) ..
@[simp] theorem keeps_enqueueReq (z : State) (q : CelReq) (s : State) :
    Keeps z (enqueueReq q s) = Keeps z s := enqueueReq_only (Keeps z) (fun _ _ => rfl) ..
@[simp] theorem keeps_wornOut (z : State) (sector : Nat) (s : State) :
    Keeps z (wornOut sector s) = Keeps z s := wornOut_only (Keeps z) (fun _ _ => rfl) ..
@[simp] theorem keeps_oweRetire (z : State) (sector : Nat) (s : State) :
    Keeps z (oweRetire sector s) = Keeps z s := oweRetire_only (Keeps z) (fun _ _ => rfl) ..
@[simp] theorem keeps_clearSector (z : State) (n : Nat) (s : State) :
    Keeps z (clearSector n s) = Keeps z s := clearSector_only (Keeps z) (fun _ _ => rfl) ..
@[simp] theorem keeps_fillLine (z : State) (n : Nat) (s : State) :
    Keeps z (fillLine n s) = Keeps z s := fillLine_only (Keeps z) (fun _ _ _ => rfl) ..
@[simp] theorem keeps_putRecord (z : State) (r : TlyRec) (s : State) :
    Keeps z (putRecord r s) = Keeps z s := putRecord_only (Keeps z) (fun _ _ => rfl) ..
@[simp] theorem keeps_takeTrigger (z : State) (s : State) :
    Keeps z (takeTrigger s).1 = Keeps z s := takeTrigger_only (Keeps z) (fun _ _ => rfl) ..
@[simp] theorem keeps_ackRecord (z : State) (t : TlyTrig) (s : State) :
    Keeps z (ackRecord t s) = Keeps z s := ackRecord_only (Keeps z) (fun _ _ => rfl) ..
@[simp] theorem keeps_setMarker (z : State) (f : UpdMarker → UpdMarker) (s : State) :
    Keeps z (setMarker f s) = Keeps z s := setMarker_only (Keeps z) (fun _ _ _ => rfl) ..
@[simp] theorem keeps_failUpdate (z : State) (stage : Nat) (code : Nat) (s : State) :
    Keeps z (failUpdate stage code s) = Keeps z s := failUpdate_only (Keeps z) (fun _ _ _ => rfl) ..
@[simp] theorem keeps_scanSlots (z : State) (s : State) :
    Keeps z (scanSlots s) = Keeps z s := scanSlots_only (Keeps z) (fun _ _ => rfl) ..
@[simp] theorem keeps_loadKeys (z : State) (b : KeyBlob) (s : State) :
    Keeps z (loadKeys b s) = Keeps z s := loadKeys_only (Keeps z) (fun _ _ => rfl) ..
@[simp] theorem keeps_loadBlob (z : State) (s : State) :
    Keeps z (loadBlob s) = Keeps z s := loadBlob_only (Keeps z) (fun _ _ => rfl) ..
@[simp] theorem keeps_tallyStart (z : State) (ringOk : Bool) (testOk : Bool) (s : State) :
    Keeps z (tallyStart ringOk testOk s) = Keeps z s := tallyStart_only (Keeps z) (fun _ _ _ _ => rfl) ..
@[simp] theorem keeps_handOver (z : State) (s : State) :
    Keeps z (handOver s).1 = Keeps z s := handOver_only (Keeps z) (fun _ _ _ => rfl) ..
@[simp] theorem keeps_runSlot (z : State) (b : Bool) (s : State) :
    Keeps z (runSlot b s) = Keeps z s := runSlot_only (Keeps z) (fun _ _ => rfl) ..
@[simp] theorem keeps_putTherm (z : State) (t : ThermParams) (s : State) :
    Keeps z (putTherm t s) = Keeps z s := putTherm_only (Keeps z) (fun _ _ => rfl) ..
@[simp] theorem keeps_putLayout (z : State) (l : Layout) (s : State) :
    Keeps z (putLayout l s) = Keeps z s := putLayout_only (Keeps z) (fun _ _ _ _ _ _ _ _ _ _ => rfl) ..
@[simp] theorem keeps_refuseToArm (z : State) (s : State) :
    Keeps z (refuseToArm s) = Keeps z s := refuseToArm_only (Keeps z) (fun _ _ _ => rfl) ..
@[simp] theorem keeps_readableAreas (z : State) (env : StartEnv) (s : State) :
    Keeps z (readableAreas env s) = Keeps z s := readableAreas_only (Keeps z) (fun _ _ => rfl) ..
@[simp] theorem keeps_firstPans (z : State) (s : State) :
    Keeps z (firstPans s) = Keeps z s := firstPans_only (Keeps z) (fun _ _ => rfl) ..
@[simp] theorem keeps_grantPans (z : State) (s : State) :
    Keeps z (grantPans s) = Keeps z s := grantPans_only (Keeps z) (fun _ _ => rfl) ..
@[simp] theorem keeps_checkMarks (z : State) (s : State) :
    Keeps z (checkMarks s) = Keeps z s := checkMarks_only (Keeps z) (fun _ _ => rfl) ..
@[simp] theorem keeps_checkK (z : State) (s : State) :
    Keeps z (checkK s) = Keeps z s := checkK_only (Keeps z) (fun _ _ => rfl) ..
@[simp] theorem keeps_startPoints (z : State) (s : State) :
    Keeps z (startPoints s) = Keeps z s := startPoints_only (Keeps z) (fun _ _ => rfl) ..
@[simp] theorem keeps_startBucket (z : State) (s : State) :
    Keeps z (startBucket s) = Keeps z s := startBucket_only (Keeps z) (fun _ _ => rfl) ..
@[simp] theorem keeps_learnK (z : State) (r : SaveRecord) (s : State) :
    Keeps z (learnK r s) = Keeps z s := learnK_only (Keeps z) (fun _ _ _ => rfl) ..
@[simp] theorem keeps_hrvFrom (z : State) (r : SaveRecord) (x : Option SalRec) (s : State) :
    Keeps z (hrvFrom r x s) = Keeps z s := hrvFrom_only (Keeps z) (fun _ _ _ => rfl) ..
@[simp] theorem keeps_census (z : State) (env : StartEnv) (s0 : State) :
    Keeps z (census env s0) = Keeps z s0 := census_only (Keeps z) (fun _ _ _ => rfl) ..
@[simp] theorem keeps_eraseRows (z : State) (x0 : Nat) (x1 : Nat) (s : State) :
    Keeps z (eraseRows x0 x1 s) = Keeps z s := eraseRows_only (Keeps z) (fun _ _ => rfl) ..
@[simp] theorem keeps_freeCkpts (z : State) (s : State) :
    Keeps z (freeCkpts s) = Keeps z s := freeCkpts_only (Keeps z) (fun _ _ => rfl) ..
@[simp] theorem keeps_eraseCkpts (z : State) (s : State) :
    Keeps z (eraseCkpts s) = Keeps z s := eraseCkpts_only (Keeps z) (fun _ _ => rfl) ..
@[simp] theorem keeps_mapReady (z : State) (s : State) :
    Keeps z (mapReady s) = Keeps z s := mapReady_only (Keeps z) (fun _ _ => rfl) ..
@[simp] theorem keeps_restoreStart (z : State) (s : State) :
    Keeps z (restoreStart s) = Keeps z s := restoreStart_only (Keeps z) (fun _ _ _ _ _ _ _ _ _ _ => rfl) ..
@[simp] theorem keeps_resetMap (z : State) (s : State) :
    Keeps z (resetMap s) = Keeps z s := resetMap_only (Keeps z) (fun _ _ _ _ _ _ _ => rfl) ..
@[simp] theorem keeps_releaseHeads (z : State) (s : State) :
    Keeps z (releaseHeads s) = Keeps z s := releaseHeads_only (Keeps z) (fun _ _ => rfl) ..
@[simp] theorem keeps_bootTick (z : State) (s : State) :
    Keeps z (bootTick s) = Keeps z s := bootTick_only (Keeps z) (fun _ _ => rfl) ..
@[simp] theorem keeps_waitGroup (z : State) (env : StartEnv) (s : State) :
    Keeps z (waitGroup env s) = Keeps z s := waitGroup_only (Keeps z) (fun _ _ _ => rfl) ..
@[simp] theorem keeps_raiseOwed (z : State) (h : Head) (s : State) :
    Keeps z (raiseOwed h s) = Keeps z s := raiseOwed_only (Keeps z) (fun _ _ _ => rfl) ..
@[simp] theorem keeps_cellChange (z : State) (n : Nat) (st : CellState) (s : State) :
    Keeps z (cellChange n st s) = Keeps z s := cellChange_only (Keeps z) (fun _ _ _ _ _ _ => rfl) ..
@[simp] theorem keeps_semResult (z : State) (h : Head) (code : Nat) (n : Nat) (s : State) :
    Keeps z (semResult h code n s) = Keeps z s := semResult_only (Keeps z) (fun _ _ => rfl) ..
@[simp] theorem keeps_semTie (z : State) (h : Head) (n : Nat) (s : State) :
    Keeps z (semTie h n s) = Keeps z s := semTie_only (Keeps z) (fun _ _ _ _ _ _ => rfl) ..
@[simp] theorem keeps_panEvents (z : State) (h : Head) (n : Nat) (gen : Nat) (release : Bool) (add : Bool) (s : State) :
    Keeps z (panEvents h n gen release add s) = Keeps z s := panEvents_only (Keeps z) (fun _ _ => rfl) ..
@[simp] theorem keeps_acceptPan (z : State) (h : Head) (n : Nat) (s : State) :
    Keeps z (acceptPan h n s) = Keeps z s := acceptPan_only (Keeps z) (fun _ _ => rfl) ..
@[simp] theorem keeps_releasePan (z : State) (h : Head) (n : Nat) (s : State) :
    Keeps z (releasePan h n s) = Keeps z s := releasePan_only (Keeps z) (fun _ _ _ => rfl) ..
@[simp] theorem keeps_eraseCopies (z : State) (slot : Bool) (s : State) :
    Keeps z (eraseCopies slot s) = Keeps z s := eraseCopies_only (Keeps z) (fun _ _ _ => rfl) ..
@[simp] theorem keeps_markReceived (z : State) (s : State) :
    Keeps z (markReceived s) = Keeps z s := markReceived_only (Keeps z) (fun _ _ _ => rfl) ..
@[simp] theorem keeps_eraseSpare (z : State) (s : State) :
    Keeps z (eraseSpare s) = Keeps z s := eraseSpare_only (Keeps z) (fun _ _ _ => rfl) ..
@[simp] theorem keeps_cancelOp (z : State) (s : State) :
    Keeps z (cancelOp s).1 = Keeps z s := cancelOp_only (Keeps z) (fun _ _ _ _ => rfl) ..
@[simp] theorem keeps_endStaging (z : State) (s : State) :
    Keeps z (endStaging s) = Keeps z s := endStaging_only (Keeps z) (fun _ _ => rfl) ..
@[simp] theorem keeps_secretFail (z : State) (s : State) :
    Keeps z (secretFail s) = Keeps z s := secretFail_only (Keeps z) (fun _ _ => rfl) ..
@[simp] theorem keeps_sanProgress (z : State) (step : Nat) (s : State) :
    Keeps z (sanProgress step s) = Keeps z s := sanProgress_only (Keeps z) (fun _ _ => rfl) ..
@[simp] theorem keeps_answerHeld (z : State) (s : State) (q : HostReq) :
    Keeps z (answerHeld s q) = Keeps z s := answerHeld_only (Keeps z) (fun _ _ => rfl) ..
@[simp] theorem keeps_sanReset (z : State) (s : State) :
    Keeps z (sanReset s) = Keeps z s := sanReset_only (Keeps z) (fun _ _ _ _ _ _ _ _ => rfl) ..
@[simp] theorem keeps_spdmSay (z : State) (h : Head) (req : Nat) (ok : Bool) (p : Payload) (s : State) :
    Keeps z (spdmSay h req ok p s) = Keeps z s := spdmSay_only (Keeps z) (fun _ _ => rfl) ..
@[simp] theorem keeps_spdmError (z : State) (h : Head) (req : Nat) (s : State) :
    Keeps z (spdmError h req s) = Keeps z s := spdmError_only (Keeps z) (fun _ _ => rfl) ..
@[simp] theorem keeps_spdmFree (z : State) (h : Head) (req : Nat) (s : State) :
    Keeps z (spdmFree h req s) = Keeps z s := spdmFree_only (Keeps z) (fun _ _ _ => rfl) ..
@[simp] theorem keeps_brlPortUpd (z : State) (port1 : Bool) (f : BrlPort → BrlPort) (s : State) :
    Keeps z (brlPortUpd port1 f s) = Keeps z s := brlPortUpd_only (Keeps z) (fun _ _ => rfl) ..
@[simp] theorem keeps_unitUpd (z : State) (u : Nat) (f : BrlUnit → BrlUnit) (s : State) :
    Keeps z (unitUpd u f s) = Keeps z s := unitUpd_only (Keeps z) (fun _ _ => rfl) ..
@[simp] theorem keeps_brlSend (z : State) (fs : List BrlFrame) (s : State) :
    Keeps z (brlSend fs s) = Keeps z s := brlSend_only (Keeps z) (fun _ _ => rfl) ..
@[simp] theorem keeps_ringWhole (z : State) (gen : BitVec 16) (index : Nat) (digests : List (BitVec 384)) (s : State) :
    Keeps z (ringWhole gen index digests s) = Keeps z s := ringWhole_only (Keeps z) (fun _ _ _ => rfl) ..
@[simp] theorem keeps_ownStage (z : State) (s : State) :
    Keeps z (ownStage s) = Keeps z s := ownStage_only (Keeps z) (fun _ _ _ _ _ => rfl) ..
@[simp] theorem keeps_selectWrite (z : State) (port : Port) (cellar : Bool) (value : Nat) (s : State) :
    Keeps z (selectWrite port cellar value s) = Keeps z s := selectWrite_only (Keeps z) (fun _ _ _ => rfl) ..
@[simp] theorem keeps_assignAddr (z : State) (address : Nat) (s : State) :
    Keeps z (assignAddr address s) = Keeps z s := assignAddr_only (Keeps z) (fun _ _ => rfl) ..
@[simp] theorem keeps_cccAnswer (z : State) (width : Nat) (s : State) :
    Keeps z (cccAnswer width s) = Keeps z s := cccAnswer_only (Keeps z) (fun _ _ _ => rfl) ..
@[simp] theorem keeps_cccConstant (z : State) (which : Nat) (width : Nat) (s : State) :
    Keeps z (cccConstant which width s) = Keeps z s := cccConstant_only (Keeps z) (fun _ _ => rfl) ..
@[simp] theorem keeps_tapBypass (z : State) (s : State) :
    Keeps z (tapBypass s) = Keeps z s := tapBypass_only (Keeps z) (fun _ _ => rfl) ..

/-! ### Operations that reach the keys, the Salinometer, JOURNAL or DRAM, and those that call them -/

@[simp] theorem keeps_appendKeys (z : State) (n : Nat) (s : State) :
    Keeps z (appendKeys n s) = Keeps z s := by
  unfold appendKeys
  dsimp only
  split <;> simp

@[simp] theorem keeps_appendLms (z : State) (s : State) :
    Keeps z (appendLms s) = Keeps z s := by
  unfold appendLms
  dsimp only
  split <;> simp

@[simp] theorem keeps_mkSalRec (z : State) (typ cause eStart drawn ticks minMv peakMa : Nat) (tLow tHigh : Int) (capR esrR : Nat) (s : State) :
    Keeps z (mkSalRec typ cause eStart drawn ticks minMv peakMa tLow tHigh capR esrR s).1 = Keeps z s := by
  simp [mkSalRec]

@[simp] theorem keeps_learnRec (z : State) (result : Nat) (s : State) :
    Keeps z (learnRec result s).1 = Keeps z s := by
  simp [learnRec]

@[simp] theorem keeps_abandonRec (z : State) (s : State) :
    Keeps z (abandonRec s).1 = Keeps z s := by
  simp [abandonRec]

@[simp] theorem keeps_oweRec (z : State) (t : State × SalRec) : Keeps z (oweRec t) ↔ Keeps z t.1 := by
  simp [oweRec]

@[simp] theorem keeps_salCut (z s : State) : Keeps z (salCut s) ↔ Keeps z s := by
  have hlearn : Keeps z (if s.sal.learn.step = 0 then s else oweRec (learnRec 5 s)) ↔ Keeps z s := by split <;> simp
  unfold salCut
  dsimp only
  generalize (if s.sal.learn.step = 0 then s else oweRec (learnRec 5 s)) = t at hlearn ⊢
  have hseal : Keeps z (if t.sal.sealOpen then oweRec (abandonRec t) else t) ↔ Keeps z s := by split <;> simp [hlearn]
  generalize (if t.sal.sealOpen then oweRec (abandonRec t) else t) = u at hseal ⊢
  split <;> exact hseal

@[simp] theorem keeps_enterHalt {z : State} (kind : HaltKind) (s : State) (hz : Keeps z s) : Keeps z (enterHalt kind s) := by
  have hcut : Keeps z (dropHeads (endPause 5 (disarmStop 0x0A (salCut s)))) := by simpa using hz
  unfold enterHalt
  generalize dropHeads _ = t at hcut ⊢
  simp [hcut]

@[simp] theorem keeps_levelReset {z : State} (src cause : Nat) (s : State) (hz : Keeps z s) :
    Keeps z (levelReset src cause s) := by
  simp [levelReset, hz]

@[simp] theorem keeps_watchdogReset {z : State} (s : State) (hz : Keeps z s) : Keeps z (watchdogReset s) :=
  keeps_levelReset _ _ _ (by simpa using hz)

@[simp] theorem keeps_level4 {z : State} (src : Nat) (s : State) (hz : Keeps z s) : Keeps z (level4 src s) := by
  have hhalts : ∀ f : Flt, Keeps z (enterHalt .fault { s with flt := f }) := fun f => keeps_enterHalt _ _ hz
  unfold level4
  dsimp only
  split
  · exact hz
  · split
    · exact keeps_watchdogReset s hz
    · repeat' split
      all_goals first | exact hhalts _ | exact keeps_levelReset _ _ s hz

@[simp] theorem keeps_headDown (z : State) (h : Head) (reset : Bool) (s : State) :
    Keeps z (headDown h reset s) = Keeps z s := by
  unfold headDown
  dsimp only
  split <;> simp

@[simp] theorem keeps_blockReset (z : State) (b : FltBlock) (s : State) :
    Keeps z (blockReset b s) = Keeps z s := by
  unfold blockReset
  dsimp only
  (repeat' split) <;> simp [*]

@[simp] theorem keeps_fltReact {z : State} (src level : Nat) (s : State) (hz : Keeps z s) :
    Keeps z (fltReact src level s) := by
  unfold fltReact
  (repeat' split) <;> simp [*]

@[simp] theorem keeps_fltRaise {z : State} (src arg : Nat) (s : State) (hz : Keeps z s) :
    Keeps z (fltRaise src arg s) := by
  unfold fltRaise
  dsimp only
  (repeat' split) <;> simp [*]

@[simp] theorem keeps_fltRise {z : State} (src arg : Nat) (s : State) (hz : Keeps z s) : Keeps z (fltRise src arg s) := by
  unfold fltRise
  split
  · exact hz
  · exact keeps_fltRaise _ _ _ hz

@[simp] theorem keeps_fltCond {z : State} (src : Nat) (on : Bool) (s : State) (hz : Keeps z s) :
    Keeps z (fltCond src on s) := by
  simp [fltCond, hz]

@[simp] theorem keeps_tlyTrigger {z : State} (code arg : Nat) (s : State) (hz : Keeps z s) :
    Keeps z (tlyTrigger code arg s) := by
  unfold tlyTrigger
  dsimp only
  split <;> simp [hz]

@[simp] theorem keeps_violate {z : State} (h : Head) (kind : Nat) (s : State) (hz : Keeps z s) : Keeps z (violate h kind s) := by
  unfold violate
  dsimp only
  split
  · exact hz
  · rw [keeps_chapenEvent]
    exact keeps_tlyTrigger _ _ _ hz

@[simp] theorem keeps_staleReject {z : State} (h : Head) (object : Nat) (s : State) (hz : Keeps z s) :
    Keeps z (staleReject h object s) := by
  unfold staleReject
  dsimp only
  split
  · exact hz
  · rw [keeps_chapenEvent]
    exact keeps_tlyTrigger _ _ _ hz

@[simp] theorem keeps_regViolate {z : State} (p : Port) (kind : Nat) (s : State) (hz : Keeps z s) :
    Keeps z (regViolate p kind s) := by
  unfold regViolate
  split <;> simp [hz]

@[simp] theorem keeps_readCorrected {z : State} (line device : Nat) (s : State) (hz : Keeps z s) :
    Keeps z (readCorrected line device s) := by
  unfold readCorrected
  apply keeps_fltRaise
  simpa using hz

@[simp] theorem keeps_readUncorrected {z : State} (line device : Nat) (s : State) (hz : Keeps z s) :
    Keeps z (readUncorrected line device s) := by
  simp [readUncorrected, hz]

@[simp] theorem keeps_readLine {z : State} (rq line : Nat) (r : DramRead) (s : State) (hz : Keeps z s) :
    Keeps z (readLine rq line r s).1 := by
  unfold readLine
  dsimp only
  generalize hu : dchanUpd _ _ (touchRow rq line _) = u
  have hkept : Keeps z u := hu ▸ (by simpa using hz)
  split
  · exact hkept
  · split
    · simpa using hkept
    · split
      · exact hkept
      · exact hkept
      · exact keeps_readCorrected _ _ _ hkept
      · exact keeps_readUncorrected _ _ _ hkept

@[simp] theorem keeps_commitPosted {z : State} (p : Posted) (s : State) (hz : Keeps z s) : Keeps z (commitPosted p s) := by
  have hstored : ∀ (u : State) (rq : Nat), Keeps z u → Keeps z (queueLine rq (p.dpa / lineBytes) (u.putBytes p.dpa p.data)) :=
    fun u rq hu => by rw [keeps_queueLine]; exact keeps_putBytes _ _ _ hu
  unfold commitPosted
  dsimp only
  generalize hu : trackLost _ _ s = u
  have hkept : Keeps z u := hu ▸ (by simpa using hz)
  rw [keeps_lostCheck, keeps_mapOp]
  split
  · exact hkept
  · exact hstored u (if s.saving then 3 else p.head.code) hkept

@[simp] theorem keeps_commitAllPosted {z : State} (only : Option Head) (s : State) (hz : Keeps z s) :
    Keeps z (commitAllPosted only s) := by
  have hcommits : ∀ (l : List Posted) (t : State × List Posted), Keeps z t.1 → Keeps z (l.foldl (fun t p =>
      if t.2 ≠ [] || t.1.stallsCommit p then (t.1, t.2 ++ [p]) else (commitPosted p t.1, t.2)) t).1 := by
    intro l
    induction l with
    | nil => exact fun _ ht => ht
    | cons p l ih =>
      intro t ht
      refine ih _ ?_
      dsimp only
      split
      · exact ht
      · exact keeps_commitPosted p t.1 ht
  exact hcommits _ _ hz

@[simp] theorem keeps_commitRounds {z : State} (only : Option Head) (n : Nat) (s : State) (hz : Keeps z s) :
    Keeps z (commitRounds only n s) := by
  induction n generalizing s with
  | zero => exact hz
  | succ n ih =>
    have hround := keeps_commitAllPosted only s hz
    unfold commitRounds
    dsimp only
    split
    · exact ih _ (by simpa using hround)
    · exact hround

@[simp] theorem keeps_commitPostedNow {z : State} (only : Option Head) (s : State) (hz : Keeps z s) :
    Keeps z (commitPostedNow only s) := keeps_commitRounds only _ s hz

@[simp] theorem keeps_requestSet (z : State) (n : Nat) (s : State) :
    Keeps z (requestSet n s).1 = Keeps z s := by
  unfold requestSet
  dsimp only
  (repeat' split) <;> simp [*]

@[simp] theorem keeps_retireBlock {z : State} (ch die blk cause : Nat) (s : State) (hz : Keeps z s) :
    Keeps z (retireBlock ch die blk cause s) := by
  simp [retireBlock, hz]

@[simp] theorem keeps_storeTick {z : State} (s : State) (hz : Keeps z s) : Keeps z (storeTick s) := by
  unfold storeTick
  dsimp only
  split
  · exact hz
  · exact keeps_fltCond _ _ _ (keeps_fltCond _ _ _ (keeps_fltCond _ _ _ hz))

@[simp] theorem keeps_signEcdsa (z : State) (s : State) :
    Keeps z (signEcdsa s) = Keeps z s := by
  simp [signEcdsa]

@[simp] theorem keeps_signLms {z : State} (s : State) (hz : Keeps z s) :
    Keeps z (signLms s).1 := by
  unfold signLms
  split <;> simp [hz]

@[simp] theorem keeps_signLate {z : State} (s : State) (hz : Keeps z s) : Keeps z (signLate s).1 := by
  have hsigned := keeps_signLms s hz
  unfold signLate
  dsimp only
  split <;> exact hsigned

@[simp] theorem keeps_signBoth {z : State} (s : State) (hz : Keeps z s) :
    Keeps z (signBoth s).1 := by
  simp [signBoth, hz]

@[simp] theorem keeps_putSalRec {z : State} (t : State × SalRec) (hz : Keeps z t.1) : Keeps z (putSalRec t) := by
  unfold putSalRec
  dsimp only
  split
  · exact hz
  · exact keeps_journal _ _ (by simp [hz])

@[simp] theorem keeps_endLearn {z : State} (result : Nat) (s : State) (hz : Keeps z s) : Keeps z (endLearn result s) := by
  simp [endLearn, hz]
@[simp] theorem keeps_abandonSeal {z : State} (s : State) (hz : Keeps z s) : Keeps z (abandonSeal s) := by
  simp [abandonSeal, hz]

@[simp] theorem keeps_beginSave {z : State} (t : Trigger) (sinceNs : Nat) (s : State) (hz : Keeps z s) :
    Keeps z (beginSave t sinceNs s) := by
  unfold beginSave
  dsimp only
  generalize hv : cascadeTrigger t (disarmStop 9 (holdSettings (endPause 5 (salCut s)))) = v
  have hkept : Keeps z v := hv ▸ (by simpa using hz)
  generalize hw : dropMoves _ = w
  have hsaving : Keeps z w := by
    rw [← hw, keeps_dropMoves, keeps_flushCache, keeps_abandonAll, keeps_fillAll]
    apply keeps_commitPostedNow
    rw [keeps_fillAll, keeps_sanitizeAtSave]
    exact hkept
  have hmarked : ∀ (u : State) (r : JRec), Keeps z u → Keeps z ((setPoints u).journal r) :=
    fun u r hu => keeps_journal _ _ (by simpa using hu)
  split
  · rw [keeps_endData]
    exact hmarked _ _ hsaving
  · rw [keeps_settle]
    exact hmarked _ _ hsaving

theorem remark_retirement {seq code : Nat} {l : List JRec} {c d b k n : Nat} (hr : JRec.retirement c d b k n ∈ l) :
    JRec.retirement c d b k n ∈ remark seq code l := List.mem_map.mpr ⟨_, hr, rfl⟩

@[simp] theorem keeps_recordTrigger {z : State} (ts : List Trigger) (s : State) (hz : Keeps z s) : Keeps z (recordTrigger ts s) :=
  keeps_jrn (s := { s with hrv := (recordTrigger ts s).hrv, thm := (recordTrigger ts s).thm }) hz
    fun _ _ _ _ _ hr => remark_retirement (hz.retirements hr)

@[simp] theorem keeps_laterTrigger {z : State} (t : Trigger) (sinceNs : Nat) (s : State) (hz : Keeps z s) :
    Keeps z (laterTrigger t sinceNs s) := by
  simp [laterTrigger, hz]

@[simp] theorem keeps_confirmPhys {z : State} (aOff bOff : Bool) (s : State) (hz : Keeps z s) : Keeps z (confirmPhys aOff bOff s) := by
  cases aOff <;> cases bOff <;> simp [confirmPhys, hz]

@[simp] theorem keeps_confirmOnce {z : State} (aOff bOff : Bool) (s : State) (hz : Keeps z s) :
    Keeps z (confirmOnce aOff bOff s) := by
  simp [confirmOnce, hz]

@[simp] theorem keeps_vendor {z : State} {h : Head} {op : Nat} {v2 : Bool} {k : State → State} {s : State}
    (hk : ∀ t, Keeps z t → Keeps z (k t)) (hz : Keeps z s) : Keeps z (vendor h op v2 k s) := by
  unfold vendor
  split
  · exact hz
  · split
    · simpa using hz
    · exact hk s hz

@[simp] theorem keeps_guarded {z : State} {h : Head} {cell : Nat} {gen : BitVec 16} {op : Nat} {v2 : Bool} {k : State → State} {s : State}
    (hk : ∀ t, Keeps z t → Keeps z (k t)) (hz : Keeps z s) : Keeps z (guarded h cell gen op v2 k s) := by
  refine keeps_vendor (fun t ht => ?_) hz
  split
  · rw [keeps_reply]
    exact keeps_staleReject h cell t ht
  · split
    · simpa using ht
    · exact hk t ht

@[simp] theorem keeps_tellOutcome {z : State} (s : State) (hz : Keeps z s) : Keeps z (tellOutcome s) := by
  unfold tellOutcome
  split
  · rw [keeps_chapenEvent]
    exact keeps_tlyTrigger _ _ _ hz
  · exact hz

@[simp] theorem keeps_cxlCmd {z : State} {h : Head} {k : State → State} {s : State} (hk : ∀ t, Keeps z t → Keeps z (k t)) (hz : Keeps z s) :
    Keeps z (cxlCmd h k s) := by
  unfold cxlCmd
  split
  · exact hk s hz
  · exact hz

@[simp] theorem keeps_makeNonce (z : State) (k : NonceKind) (p : Port) (s : State) :
    Keeps z (makeNonce k p s).1 = Keeps z s := by
  unfold makeNonce
  split <;> simp

@[simp] theorem keeps_dropNonce (z : State) (k : NonceKind) (p : Port) (s : State) :
    Keeps z (dropNonce k p s) = Keeps z s := by
  simp [dropNonce]

@[simp] theorem keeps_verifyFail (z : State) (what : Nat) (s : State) :
    Keeps z (verifyFail what s) = Keeps z s := by
  simp [verifyFail]

@[simp] theorem keeps_imageFailed (z : State) (code : Nat) (s : State) :
    Keeps z (imageFailed code s) = Keeps z s := by
  simp [imageFailed]

@[simp] theorem keeps_tokenFailed (z : State) (code : Nat) (s : State) :
    Keeps z (tokenFailed code s) = Keeps z s := by
  unfold tokenFailed
  split <;> simp

@[simp] theorem keeps_rakeOp {z : State} {op tag since : Nat} {states : State → Bool} {k : State → State} {s : State}
    (hk : ∀ t, Keeps z t → Keeps z (k t)) (hz : Keeps z s) : Keeps z (rakeOp op tag since states k s) := by
  have haccepted : Keeps z (frameAccepted s) := by simpa using hz
  unfold rakeOp
  dsimp only
  (repeat' split) <;> first | exact hz | exact hk _ haccepted

@[simp] theorem keeps_rakeCell {z : State} {op tag cell : Nat} {k : State → State} {s : State} (hk : ∀ t, Keeps z t → Keeps z (k t))
    (hz : Keeps z s) : Keeps z (rakeCell op tag cell k s) := by
  unfold rakeCell
  split
  · simpa using hz
  · exact hk s hz

@[simp] theorem keeps_aonLost (z : State) (s : State) :
    Keeps z (aonLost s) = Keeps z s := by
  simp [aonLost]

@[simp] theorem keeps_enterRecovery (z : State) (cause : Nat) (s : State) :
    Keeps z (enterRecovery cause s) = Keeps z s := by
  simp [enterRecovery]

@[simp] theorem keeps_startFrom {z : State} (cause : Nat) (s : State) (hz : Keeps z s) :
    Keeps z (startFrom cause s) := by
  simp [startFrom, hz]

@[simp] theorem keeps_chargerSync (z : State) (s : State) :
    Keeps z (chargerSync s) = Keeps z s := by
  simp [chargerSync]

@[simp] theorem keeps_pmbSources {z : State} (s : State) (hz : Keeps z s) :
    Keeps z (pmbSources s) := by
  simp [pmbSources, hz]

@[simp] theorem keeps_validSync {z : State} (s : State) (hz : Keeps z s) : Keeps z (validSync s) :=
  keeps_fltCond _ _ _ (by simpa using hz)

@[simp] theorem keeps_newSource (z : State) (p : Profile) (s : State) :
    Keeps z (newSource p s) = Keeps z s := by
  simp [newSource]

@[simp] theorem keeps_sourceCheck (z : State) (s : State) :
    Keeps z (sourceCheck s) = Keeps z s := by
  unfold sourceCheck
  split <;> simp

@[simp] theorem keeps_newDay {z : State} (s : State) (hz : Keeps z s) : Keeps z (newDay s) :=
  keeps_fltCond _ _ _ (by simpa using hz)

@[simp] theorem keeps_trackTemps (z : State) (s : State) :
    Keeps z (trackTemps s) = Keeps z s := by
  unfold trackTemps
  split <;> simp

@[simp] theorem keeps_packReturn (z : State) (s : State) :
    Keeps z (packReturn s) = Keeps z s := by
  unfold packReturn
  (repeat' split) <;> simp [*]

@[simp] theorem keeps_beginLearn (z : State) (p : Profile) (s : State) :
    Keeps z (beginLearn p s) = Keeps z s := by
  simp [beginLearn]

@[simp] theorem keeps_learnWhenDue (z : State) (s : State) :
    Keeps z (learnWhenDue s) = Keeps z s := by
  unfold learnWhenDue
  (repeat' split) <;> simp [*]

@[simp] theorem keeps_chargeStatus (z : State) (done : Bool) (s : State) :
    Keeps z (chargeStatus done s) = Keeps z s := by
  simp [chargeStatus]

@[simp] theorem keeps_learnOrDefer (z : State) (s : State) :
    Keeps z (learnOrDefer s) = Keeps z s := by
  unfold learnOrDefer
  dsimp only
  (repeat' split) <;> simp [*]

@[simp] theorem keeps_learnCtl {z : State} {port : Port} {k : State → State} {s : State} (hk : ∀ t, Keeps z t → Keeps z (k t))
    (hz : Keeps z s) : Keeps z (learnCtl port k s) := by
  have hrefused : ∀ kind, Keeps z (regViolate port kind s) := fun kind => keeps_regViolate port kind s hz
  cases port <;> simp [learnCtl, hk s hz, hrefused]

@[simp] theorem keeps_openSeal {z : State} (port : Port) (s : State) (hz : Keeps z s) : Keeps z (openSeal port s) := by
  unfold openSeal
  dsimp only
  generalize hu : chargerSync _ = u
  have hended : Keeps z u := hu ▸ (by simp [hz])
  apply keeps_putSalRec
  rw [keeps_mkSalRec]
  obtain ⟨h1, h2, h3, h4, h5, h6, h7, h8⟩ := hended
  exact ⟨h1, h2, h3, h4, h5, Nat.le_succ_of_le h6, h7, h8⟩

@[simp] theorem keeps_sealBreakOp {z : State} (port : Port) (token : Token) (strapLow : Bool) (s : State) (hz : Keeps z s) :
    Keeps z (sealBreakOp port token strapLow s).1 := by
  unfold sealBreakOp
  dsimp only
  split
  · exact keeps_openSeal _ _ (by simpa using hz)
  · simpa using hz

@[simp] theorem keeps_closeSeal {z : State} (s : State) (hz : Keeps z s) : Keeps z (closeSeal s).1 :=
  keeps_putSalRec _ (by simpa using hz)

@[simp] theorem keeps_calRegWrite {z : State} (port : Port) (offset value : Nat) (s : State) (hz : Keeps z s) :
    Keeps z (calRegWrite port offset value s) := by
  simp [calRegWrite, hz]

@[simp] theorem keeps_repairTell {z : State} (cause r : Nat) (s : State) (hz : Keeps z s) : Keeps z (repairTell cause r s) :=
  keeps_fltRaise _ _ _ hz

@[simp] theorem keeps_repairLine {z : State} (cause r : Nat) (s : State) (hz : Keeps z s) :
    Keeps z (repairLine cause r s) := by
  simp [repairLine, hz]

@[simp] theorem keeps_repairMapLine {z : State} (n : Nat) (s : State) (hz : Keeps z s) :
    Keeps z (repairMapLine n s) := by
  simp [repairMapLine, hz]

@[simp] theorem keeps_repairMapEntry {z : State} (g word : Nat) (s : State) (hz : Keeps z s) :
    Keeps z (repairMapEntry g word s) := by
  simp [repairMapEntry, hz]

@[simp] theorem keeps_repairRst {z : State} (r : Nat) (s : State) (hz : Keeps z s) : Keeps z (repairRst r s) := by
  unfold repairRst
  dsimp only
  split
  · exact keeps_repairTell _ _ _ (by simpa using hz)
  · exact hz

@[simp] theorem keeps_mapRepair {z : State} (r : Nat) (d : MapDamage) (s : State) (hz : Keeps z s) :
    Keeps z (mapRepair r d s) := by
  unfold mapRepair
  split <;> simp [hz]

@[simp] theorem keeps_wearTick {z : State} (s : State) (hz : Keeps z s) : Keeps z (wearTick s) := keeps_fltCond _ _ _ hz

@[simp] theorem keeps_holdArmSync (z : State) (s : State) :
    Keeps z (holdArmSync s) = Keeps z s := by
  simp [holdArmSync]

@[simp] theorem keeps_releaseAccess {z : State} (s : State) (hz : Keeps z s) :
    Keeps z (releaseAccess s) := by
  simp [releaseAccess, hz]

@[simp] theorem keeps_enterArmed {z : State} (s : State) (hz : Keeps z s) : Keeps z (enterArmed s) := by
  have harmed : ∀ t, Keeps z t → Keeps z (if t.pip.sanStep = 0 then releaseAccess t else t) := fun t ht => by simp [ht]
  unfold enterArmed
  dsimp only
  rw [keeps_creditSync, keeps_pdomSync, keeps_holdArmSync]
  apply harmed
  rw [keeps_chapenEvent]
  apply keeps_tlyTrigger
  simpa using hz

@[simp] theorem keeps_scrubReserve {z : State} (n : Nat) (r : DramRead) (s : State) (hz : Keeps z s) :
    Keeps z (scrubReserve n r s) := by
  unfold scrubReserve
  split <;> simp [hz]

@[simp] theorem keeps_gateLook {z : State} (g : Nat) (dram : DramRead) (s : State) (hz : Keeps z s) :
    Keeps z (gateLook g dram s) := by
  unfold gateLook
  split <;> simp [hz]

@[simp] theorem keeps_failChannel {z : State} (channel cause : Nat) (s : State) (hz : Keeps z s) :
    Keeps z (failChannel channel cause s) := by
  unfold failChannel
  dsimp only
  split
  · exact hz
  · exact keeps_fltRaise _ _ _ (by simpa using hz)

@[simp] theorem keeps_panPolField {z : State} (h : Head) (p v : Nat) (s : State) (hz : Keeps z s) :
    Keeps z (panPolField h p v s) := by
  simp [panPolField, hz]

@[simp] theorem keeps_panPolicyWrite {z : State} (port : Port) (reg value : Nat) (s : State) (hz : Keeps z s) :
    Keeps z (panPolicyWrite port reg value s) := by
  have hfields : ∀ h, Keeps z ((List.range 16).foldl (fun s k => panPolField h (16 * reg + k) (bits value (2 * k) 2) s) s) :=
    fun h => keeps_foldl z _ (fun t _ ht => keeps_panPolField _ _ _ t ht) _ s hz
  cases port with
  | headA => exact hfields .a
  | headB => exact hfields .b
  | rake => exact keeps_regViolate _ _ s hz

@[simp] theorem keeps_actPending (z : State) (s : State) :
    Keeps z (actPending s) = Keeps z s := by
  unfold actPending
  dsimp only
  (repeat' split) <;> simp [*]

@[simp] theorem keeps_stepDone {z : State} (c step k : Nat) (r : TrainResult) (s : State) (hz : Keeps z s) :
    Keeps z (stepDone c step k r s) := by
  simp [stepDone, hz]

@[simp] theorem keeps_endSession {z : State} (s : State) (hz : Keeps z s) : Keeps z (endSession s) := by
  have hfailed : ∀ l : List Nat, Keeps z (l.foldl (fun s c =>
      if s.setsUp.any fun k => s.setValid c k then s else failChannel c 1 s) s) :=
    fun l => keeps_foldl z _ (fun t c ht => by simp [ht]) l s hz
  unfold endSession
  dsimp only
  generalize hu : List.foldl _ s _ = u
  have hkept : Keeps z u := hu ▸ hfailed _
  split <;> simpa using hkept

@[simp] theorem keeps_checkpoint {z : State} (c step k : Nat) (r : TrainResult) (s : State) (hz : Keeps z s) :
    Keeps z (checkpoint c step k r s) := by
  simp [checkpoint, hz]

@[simp] theorem keeps_trnCtl {z : State} (port : Port) (full : Bool) (s : State) (hz : Keeps z s) :
    Keeps z (trnCtl port full s) := by
  simp [trnCtl, hz]

@[simp] theorem keeps_readGranule {z : State} (g : Nat) (errors : List (Nat × DramRead)) (s : State) (hz : Keeps z s) :
    Keeps z (readGranule g errors s).1 := by
  have hreads : ∀ (rq : Nat) (l : List Nat) (t : State × Bool), Keeps z t.1 → Keeps z (l.foldl (fun (t : State × Bool) k =>
      let r := ((errors.find? fun e => e.1 == k).map fun e => e.2).getD .clean
      let u := readLine rq (g * 64 + k) r t.1
      (u.1, t.2 || u.2)) t).1 := by
    intro rq l
    induction l with
    | nil => exact fun _ ht => ht
    | cons k l ih => exact fun t ht => ih _ (keeps_readLine _ _ _ t.1 ht)
  refine hreads _ _ _ ?_
  rw [elim_same (Keeps z) _ s _ fun i => keeps_countL3 ..]
  exact hz

@[simp] theorem keeps_excludeIfTwo {z : State} (ch : Nat) (s : State) (hz : Keeps z s) :
    Keeps z (excludeIfTwo ch s) := by
  simp [excludeIfTwo, hz]

@[simp] theorem keeps_loseDie {z : State} (ch die : Nat) (s : State) (hz : Keeps z s) : Keeps z (loseDie ch die s) := by
  unfold loseDie
  dsimp only
  split
  · exact hz
  · apply keeps_excludeIfTwo
    apply keeps_fltRaise
    simpa using hz

@[simp] theorem keeps_dieFailure {z : State} (ch die blk : Nat) (s : State) (hz : Keeps z s) :
    Keeps z (dieFailure ch die blk s) := by
  simp [dieFailure, hz]

@[simp] theorem keeps_pauseDrain {z : State} (s : State) (hz : Keeps z s) :
    Keeps z (pauseDrain s) := by
  simp [pauseDrain, hz]

@[simp] theorem keeps_drnCtl {z : State} {port : Port} {k : State → State} {s : State} (hk : ∀ t, Keeps z t → Keeps z (k t))
    (hz : Keeps z s) : Keeps z (drnCtl port k s) := by
  have hrefused : ∀ kind, Keeps z (regViolate port kind s) := fun kind => keeps_regViolate port kind s hz
  cases port <;> simp [drnCtl, hk s hz, hrefused]

@[simp] theorem keeps_restoreEnd {z : State} (s : State) (hz : Keeps z s) : Keeps z (restoreEnd s) := by
  unfold restoreEnd
  split
  · rw [keeps_chapenEvent]
    exact keeps_tlyTrigger _ _ _ hz
  · exact hz

@[simp] theorem keeps_fillGranule {z : State} (g : Nat) (body : GranuleBytes) (s : State) (hz : Keeps z s) :
    Keeps z (fillGranule g body s) := by
  simp [fillGranule, hz]

@[simp] theorem keeps_restoreStored {z : State} (g : Nat) (o : FetchEnd) (loc : HmLoc) (s : State) (hz : Keeps z s) :
    Keeps z (restoreStored g o loc s) := by
  unfold restoreStored
  split <;> simp [hz]

@[simp] theorem keeps_restoreGranule {z : State} (g : Nat) (o : FetchEnd) (loc : HmLoc) (s : State) (hz : Keeps z s) :
    Keeps z (restoreGranule g o loc s) := by
  unfold restoreGranule
  dsimp only
  (repeat' split) <;> simp [*]

@[simp] theorem keeps_serveRead {z : State} (h : Head) (dpa tag : Nat) (r : DramRead) (s : State) (hz : Keeps z s) :
    Keeps z (serveRead h dpa tag r s) := by
  unfold serveRead
  dsimp only
  (repeat' split) <;> simp [*]

@[simp] theorem keeps_clearPoison {z : State} (head : Head) (line : Nat) (data : List Byte) (s : State) (hz : Keeps z s) :
    Keeps z (clearPoison head line data s) := by
  have hcommitted := keeps_commitPostedNow none s hz
  have hzeroed : ∀ (l : List Nat) (t : State), Keeps z t →
      Keeps z (l.foldl (fun s l => queueLine head.code l (s.putBytes (l * 64) (List.replicate 64 0))) t) :=
    fun l => keeps_foldl z _ (fun t l ht => by simp [ht]) l
  unfold clearPoison
  dsimp only
  split
  · rw [keeps_clearLost]
    apply keeps_commitPosted
    rw [keeps_poisonGranule]
    exact hzeroed _ _ hcommitted
  · exact keeps_commitPosted _ _ hcommitted

@[simp] theorem keeps_serveWrite {z : State} (q : HostReq) (posted mergeBad : Bool) (s : State) (hz : Keeps z s) :
    Keeps z (serveWrite q posted mergeBad s) := by
  simp [serveWrite, hz]

@[simp] theorem keeps_serveReq {z : State} (s : State) (q : HostReq) (hz : Keeps z s) :
    Keeps z (serveReq s q) := by
  simp [serveReq, hz]

@[simp] theorem keeps_regate {z : State} (s : State) (q : HostReq) (hz : Keeps z s) :
    Keeps z (regate s q) := by
  simp [regate, hz]

@[simp] theorem keeps_endFetch {z : State} (g : Nat) (o : FetchEnd) (us : Nat) (s : State) (hz : Keeps z s) :
    Keeps z (endFetch g o us s) := by
  unfold endFetch
  dsimp only
  split
  · exact hz
  · refine keeps_foldl z _ (fun t q ht => keeps_regate t q ht) _ _ (keeps_foldl z _ (fun t q ht => keeps_serveReq t q ht) _ _ ?_)
    exact keeps_restoreGranule _ _ _ _ (by simpa using hz)

@[simp] theorem keeps_hostWrite {z : State} (head : Head) (hpa tag : Nat) (data : List Byte) (poison posted mergeBad : Bool) (s : State) (hz : Keeps z s) :
    Keeps z (hostWrite head hpa tag data poison posted mergeBad s) := by
  unfold hostWrite
  split <;> simp [hz]

@[simp] theorem keeps_drainPosted {z : State} (kib n : Nat) (s : State) (hz : Keeps z s) : Keeps z (drainPosted kib n s) := by
  induction n generalizing s with
  | zero => exact hz
  | succ n ih =>
    unfold drainPosted
    split
    · exact hz
    · split
      · exact hz
      · exact ih _ (keeps_commitPosted _ _ hz)

@[simp] theorem keeps_advise {z : State} (s : State) (hz : Keeps z s) : Keeps z (advise s) :=
  keeps_fltCond _ _ _ (keeps_fltCond _ _ _ hz)

@[simp] theorem keeps_checkFail {z : State} (c : RecordCheck) (l : LadderEnd) (s : State) (hz : Keeps z s) :
    Keeps z (checkFail c l s) := by
  unfold checkFail
  cases c <;> dsimp only <;> split
  all_goals first | exact keeps_fltRaise _ _ _ hz | exact hz

@[simp] theorem keeps_eraseRow {z : State} (r : BedRow) (s : State) (hz : Keeps z s) : Keeps z (eraseRow r s) :=
  keeps_foldl z _ (fun t p ht => by simp [ht]) _ _ hz

@[simp] theorem keeps_requestStep (z : State) (s : State) :
    Keeps z (requestStep s) = Keeps z s := by
  unfold requestStep
  (repeat' split) <;> simp [*]

@[simp] theorem keeps_setStep {z : State} (n : Nat) (s : State) (hz : Keeps z s) : Keeps z (setStep n s) := by
  unfold setStep
  split
  · exact hz
  · rw [keeps_requestStep]
    exact keeps_tlyTrigger _ _ _ hz

@[simp] theorem keeps_levelSync {z : State} (s : State) (hz : Keeps z s) : Keeps z (levelSync s) := by
  unfold levelSync
  dsimp only
  split
  · exact hz
  · apply keeps_fltCond
    rw [keeps_chapenEvent]
    exact keeps_tlyTrigger _ _ _ hz

@[simp] theorem keeps_warnSync {z : State} (s : State) (hz : Keeps z s) : Keeps z (warnSync s) := by
  unfold warnSync
  dsimp only
  split
  · exact keeps_setStep _ _ hz
  · exact hz

@[simp] theorem keeps_thermalHalt {z : State} (cause : Nat) (e : Nat × Int) (s : State) (hz : Keeps z s) :
    Keeps z (thermalHalt cause e s) :=
  keeps_enterHalt .thermal { s with thm := _ } hz

@[simp] theorem keeps_shutSync {z : State} (s : State) (hz : Keeps z s) : Keeps z (shutSync s) := by
  unfold shutSync
  dsimp only
  split
  · exact hz
  · split
    · exact keeps_beginSave _ _ _ hz
    · split
      · exact keeps_laterTrigger _ _ _ hz
      · exact hz
    · split
      · exact keeps_laterTrigger _ _ _ hz
      · exact hz
    · exact keeps_thermalHalt _ _ _ hz
    · exact keeps_thermalHalt _ _ _ hz
    · exact keeps_thermalHalt _ _ _ hz
    · exact keeps_thermalHalt _ _ _ hz
    · exact hz

@[simp] theorem keeps_convert {z : State} (readings : List (Nat × ThmReading)) (s : State) (hz : Keeps z s) :
    Keeps z (convert readings s) := by
  unfold convert
  dsimp only
  refine keeps_foldl z _ (fun t _ ht => keeps_fltRaise _ _ t ht) _ _ ?_
  rw [keeps_trimSync]
  split <;> exact hz

@[simp] theorem keeps_stoppedSample {z : State} (readings : List (Nat × ThmReading)) (s : State) (hz : Keeps z s) :
    Keeps z (stoppedSample readings s) :=
  keeps_convert readings { s with dev := _ } hz

@[simp] theorem keeps_runningSample {z : State} (readings : List (Nat × ThmReading)) (s : State) (hz : Keeps z s) :
    Keeps z (runningSample readings s) := by
  have hconverted := keeps_convert readings s hz
  unfold runningSample
  dsimp only
  split
  · exact keeps_thermalHalt _ _ _ hconverted
  · apply keeps_levelSync
    apply keeps_shutSync
    split
    · rw [keeps_saveThermal]
      exact keeps_warnSync _ hconverted
    · exact keeps_warnSync _ hconverted

@[simp] theorem keeps_passM2 {z : State} (phyAOff phyBOff : Bool) (s : State) (hz : Keeps z s) : Keeps z (passM2 phyAOff phyBOff s) := by
  unfold passM2
  split
  · rw [keeps_secondShed]
    exact keeps_confirmPhys _ _ _ hz
  · exact hz

@[simp] theorem keeps_milestones {z : State} (phyAOff phyBOff : Bool) (s : State) (hz : Keeps z s) :
    Keeps z (milestones phyAOff phyBOff s) := by
  unfold milestones
  dsimp only
  generalize hu : passM2 phyAOff phyBOff (passM1 s) = u
  have hpassed : Keeps z u := hu ▸ keeps_passM2 _ _ _ (by simpa using hz)
  have hended : ∀ (b : Bool) (v : State), Keeps z v → Keeps z (endData b (confirmOnce phyAOff phyBOff v)) :=
    fun b v hv => by rw [keeps_endData]; exact keeps_confirmOnce _ _ _ hv
  repeat' split
  all_goals first | exact hended _ _ hpassed | exact hpassed

@[simp] theorem keeps_saveSalRecord (z : State) (s : State) :
    Keeps z (saveSalRecord s).1 = Keeps z s := by
  simp [saveSalRecord]

theorem closeImage_retirement {l : List JRec} {c d b k n : Nat} (hr : JRec.retirement c d b k n ∈ l) :
    JRec.retirement c d b k n ∈ closeImage l := List.mem_map.mpr ⟨_, hr, rfl⟩

/-- The marker's closing takes no record away (R40). -/
theorem keeps_closeImage {z s : State} (hz : Keeps z s) : Keeps z { s with jrn := closeImage s.jrn } :=
  keeps_jrn hz fun _ _ _ _ _ hr => closeImage_retirement (hz.retirements hr)

@[simp] theorem keeps_enterSealed {z : State} (recordOk : Bool) (s : State) (hz : Keeps z s) : Keeps z (enterSealed recordOk s) := by
  unfold enterSealed
  dsimp only
  generalize hu : (if s.hrv.isSealed = true then _ else s) = u
  have hlocated : Keeps z u := by
    subst hu
    split
    · split
      · exact hz
      · exact keeps_journal _ _ hz
    · exact hz
  have hrecord : Keeps z (saveSalRecord u).1 := by simpa using hlocated
  generalize hv : (if recordOk = true then _ else (saveSalRecord u).1) = v
  have hrecorded : Keeps z v := by
    subst hv
    split
    · split
      · exact keeps_closeImage (keeps_journal _ _ hrecord)
      · exact keeps_journal _ _ hrecord
    · exact hrecord
  have hreset : Keeps z (coreLost (mainReset 0 v)) := by simp [hrecorded]
  split
  · exact keeps_startFrom _ _ hreset
  · exact hreset

@[simp] theorem keeps_sourceEffect {z : State} (source unit detail : Nat) (s : State) (hz : Keeps z s) :
    Keeps z (sourceEffect source unit detail s) := by
  simp [sourceEffect, hz]

@[simp] theorem keeps_beginErase {z : State} (u : CelUser) (sector : Nat) (s : State) (hz : Keeps z s) :
    Keeps z (beginErase u sector s) := by
  unfold beginErase
  dsimp only
  split
  · exact keeps_fltRaise _ _ _ hz
  · exact hz

@[simp] theorem keeps_startReq {z : State} (q : CelReq) (s : State) (hz : Keeps z s) :
    Keeps z (startReq q s).1 := by
  unfold startReq
  dsimp only
  (repeat' split) <;> simp [*]

@[simp] theorem keeps_runQueue {z : State} (l : List CelReq) (s : State) (hz : Keeps z s) : Keeps z (runQueue l s) := by
  induction l generalizing s with
  | nil => exact hz
  | cons q l ih =>
    have hstarted := keeps_startReq q s hz
    unfold runQueue
    dsimp only
    split
    · exact hstarted
    · exact ih _ hstarted

@[simp] theorem keeps_takeReq {z : State} (q : CelReq) (s : State) (hz : Keeps z s) :
    Keeps z (takeReq q s) := by
  simp [takeReq, hz]

@[simp] theorem keeps_retireSector {z : State} (sector : Nat) (keep : Bool) (s : State) (hz : Keeps z s) :
    Keeps z (retireSector sector keep s).1 := by
  unfold retireSector
  dsimp only
  split
  · apply keeps_fltRaise
    generalize hu : List.foldl _ s _ = u
    have hcopied : Keeps z u := hu ▸ keeps_foldl z _ (fun t e ht => by simpa using ht) _ s hz
    split <;> simpa using hcopied
  · exact hz

@[simp] theorem keeps_countProgram {z : State} (steps : Nat) (s : State) (hz : Keeps z s) : Keeps z (countProgram steps s) := by
  unfold countProgram
  dsimp only
  split
  · exact keeps_fltRaise _ _ _ hz
  · exact hz

@[simp] theorem keeps_programFailed {z : State} (sector word : Nat) (d : BitVec 128) (s : State) (hz : Keeps z s) :
    Keeps z (programFailed sector word d s) := by
  unfold programFailed
  split <;> simp [hz]

@[simp] theorem keeps_celScan {z : State} (s : State) (hz : Keeps z s) : Keeps z (celScan s) := by
  have herased : ∀ (l : List Nat) (t : State), Keeps z t → Keeps z (l.foldl (fun s n =>
      let s := fltRaise 0xB1 0 s
      if (s.sector n).worn then s
      else sectorUpd n (fun x => { x with flag := false, erases := min (2 ^ 27 - 1) (x.erases + 1) }) (clearSector n s)) t) :=
    fun l => keeps_foldl z _ (fun t n ht => by simp [ht]) l
  have hretired : ∀ (l : List Nat) (t : State), Keeps z t → Keeps z (l.foldl (fun s n =>
      let t := retireSector n true s; if t.2 then t.1 else wornOut n s) t) :=
    fun l => keeps_foldl z _ (fun t n ht => by simp [ht]) l
  exact hretired _ _ (herased _ _ hz)

@[simp] theorem keeps_reserveNear {z : State} (ok : Bool) (s : State) (hz : Keeps z s) : Keeps z (reserveNear ok s) := by
  have hbase := fun r => keeps_journal s r hz
  unfold reserveNear
  dsimp only
  split
  · exact hz
  · split
    · exact hbase _
    · exact keeps_fltRaise _ _ _ hz

@[simp] theorem keeps_writeRecord {z : State} (reserveOk : Bool) (s : State) (hz : Keeps z s) : Keeps z (writeRecord reserveOk s) := by
  have htaken : Keeps z (takeTrigger s).1 := by simpa using hz
  unfold writeRecord
  dsimp only
  split
  · exact hz
  · have hreserved := keeps_reserveNear reserveOk _ htaken
    split
    · simpa using hreserved
    · have hdropped : Keeps z (tlyDrop (reserveNear reserveOk (takeTrigger s).1)).1 := by simpa using hreserved
      generalize tlyDrop (reserveNear reserveOk (takeTrigger s).1) = d at hdropped ⊢
      split
      · exact hdropped
      · exact keeps_fltReact _ _ _ hdropped

@[simp] theorem keeps_softTrigger {z : State} (port : Port) (value : Nat) (s : State) (hz : Keeps z s) :
    Keeps z (softTrigger port value s) := by
  unfold softTrigger
  dsimp only
  split
  · split
    · exact keeps_tlyTrigger _ _ _ hz
    · exact hz
  · split
    · exact keeps_tlyTrigger _ _ _ hz
    · exact hz

@[simp] theorem keeps_clearRing {z : State} (head : Head) (s : State) (hz : Keeps z s) : Keeps z (clearRing head s) :=
  keeps_journal s _ hz
@[simp] theorem keeps_wireAgain {z : State} (s : State) (hz : Keeps z s) : Keeps z (wireAgain s) :=
  keeps_foldl z _ (fun t _ ht => keeps_fltRise _ _ t ht) _ s hz

@[simp] theorem keeps_planeScan {z : State} (s : State) (hz : Keeps z s) :
    Keeps z (planeScan s) := by
  simp [planeScan, hz]

@[simp] theorem keeps_bootOne {z : State} (env : StartEnv) (s : State) (hz : Keeps z s) :
    Keeps z (bootOne env s) := by
  simp [bootOne, hz]

@[simp] theorem keeps_activateSlot (z : State) (env : StartEnv) (s : State) :
    Keeps z (activateSlot env s).1 = Keeps z s := by
  unfold activateSlot
  dsimp only
  split <;> simp

@[simp] theorem keeps_chooseSlot (z : State) (env : StartEnv) (g : GroupCode) (s0 : State) :
    Keeps z (chooseSlot env g s0).1 = Keeps z s0 := by
  unfold chooseSlot
  dsimp only
  (repeat' split) <;> simp [*]

@[simp] theorem keeps_verifySlot {z : State} (env : StartEnv) (t : State × Bool) (hz : Keeps z t.1) : Keeps z (verifySlot env t).1 := by
  have hcounted : ∀ code, Keeps z (imageFailed code t.1) := fun code => by simpa using hz
  unfold verifySlot
  dsimp only
  (repeat' split) <;> simp only [keeps_imageFailed, keeps_failUpdate]
  all_goals first | exact hz | exact (keeps_setMarker z _ _).mpr (hcounted _)

@[simp] theorem keeps_stepFuses {z : State} (s : State) (hz : Keeps z s) : Keeps z (stepFuses s) := by
  unfold stepFuses
  split
  · exact hz
  · split
    · exact hz
    · obtain ⟨h1, h2, h3, h4, h5, h6, h7, h8⟩ := hz
      exact ⟨h1, h2, h3, h4, Nat.le_trans h5 (Nat.le_max_left _ _), h6, h7, h8⟩

@[simp] theorem keeps_bootThermal {z : State} (env : StartEnv) (s : State) (hz : Keeps z s) : Keeps z (bootThermal env s) := by
  unfold bootThermal
  dsimp only
  generalize hu : putTherm _ _ = u
  have hset : Keeps z u := hu ▸ (by simpa using hz)
  refine keeps_foldl z _ (fun t l ht => keeps_convert l t ht) _ _ ?_
  split
  · exact hset
  · exact keeps_fltRise _ _ _ hset

@[simp] theorem keeps_bootLayout (z : State) (env : StartEnv) (s : State) :
    Keeps z (bootLayout env s) = Keeps z s := by
  unfold bootLayout
  (repeat' split) <;> simp [*]

@[simp] theorem keeps_putRetained (z : State) (v : Retained) (s : State) :
    Keeps z (putRetained v s) = Keeps z s := by
  simp [putRetained]

@[simp] theorem keeps_loadCopy (z : State) (n : Nat) (c : SettingsCopy) (s : State) :
    Keeps z (loadCopy n c s) = Keeps z s := by
  unfold loadCopy
  split <;> simp

@[simp] theorem keeps_loadCold (z : State) (s : State) :
    Keeps z (loadCold s) = Keeps z s := by
  simp [loadCold]

@[simp] theorem keeps_unreadableSettings (z : State) (s : State) :
    Keeps z (unreadableSettings s) = Keeps z s := by
  unfold unreadableSettings
  split <;> simp

@[simp] theorem keeps_migrate (z : State) (s : State) :
    Keeps z (migrate s) = Keeps z s := by
  unfold migrate
  dsimp only
  (repeat' split) <;> simp [*]

@[simp] theorem keeps_loseFields {z : State} (env : StartEnv) (slot : Bool) (s : State) (hz : Keeps z s) :
    Keeps z (loseFields env slot s) := by
  unfold loseFields
  dsimp only
  split
  · exact hz
  · split
    · exact hz
    · exact keeps_fltRaise _ _ _ hz

@[simp] theorem keeps_readSettings {z : State} (env : StartEnv) (s : State) (hz : Keeps z s) : Keeps z (readSettings env s) := by
  have hread : Keeps z (readableAreas env s) := by simpa using hz
  unfold readSettings
  dsimp only
  apply keeps_loseFields
  split
  · exact keeps_fltRaise _ _ _ hread
  · exact hread

@[simp] theorem keeps_loadSettings {z : State} (env : StartEnv) (s : State) (hz : Keeps z s) :
    Keeps z (loadSettings env s) := by
  unfold loadSettings
  dsimp only
  (repeat' split) <;> simp [*]

@[simp] theorem keeps_reanchorStart (z : State) (s : State) :
    Keeps z (reanchorStart s) = Keeps z s := by
  unfold reanchorStart
  dsimp only
  (repeat' split) <;> simp [*]

@[simp] theorem keeps_bootValues {z : State} (env : StartEnv) (s : State) (hz : Keeps z s) :
    Keeps z (bootValues env s) := by
  simp [bootValues, hz]

theorem signJournal_retirement {l : List JRec} {c d b k n : Nat} (s : State) (hr : JRec.retirement c d b k n ∈ l) :
    JRec.retirement c d b k n ∈ (signJournal l s).2 := by
  induction l generalizing s with
  | nil => cases hr
  | cons r l ih =>
    have htail : JRec.retirement c d b k n ∈ l → ∀ t q, JRec.retirement c d b k n ∈ q :: (signJournal l t).2 :=
      fun hl t q => List.mem_cons_of_mem _ (ih t hl)
    rcases List.mem_cons.mp hr with rfl | hl
    · exact List.mem_cons_self
    · cases r <;> simp only [signJournal]
      case salRec => split <;> exact htail hl _ _
      all_goals exact htail hl _ _

@[simp] theorem keeps_signJournal {z : State} (l : List JRec) (s : State) (hz : Keeps z s) : Keeps z (signJournal l s).1 := by
  induction l generalizing s with
  | nil => exact hz
  | cons r l ih =>
    cases r <;> simp only [signJournal]
    case salRec =>
      split
      · exact ih s hz
      · exact ih _ (by simp [hz])
    case saveRec =>
      split
      · exact ih s hz
      · exact ih _ (by simp [hz])
    all_goals exact ih s hz

@[simp] theorem keeps_signOwed {z : State} (s : State) (hz : Keeps z s) : Keeps z (signOwed s) := by
  have hsigned : ∀ l, Keeps z (signJournal l { s with sal := { s.sal with owed := [] } }).1 := fun l => keeps_signJournal l _ hz
  exact keeps_jrn (hsigned _) fun c d b k n hr => fitJournal_retirement (signJournal_retirement _ (List.mem_append_left _ (hz.retirements hr)))

@[simp] theorem keeps_replaceKeys (z s : State) : Keeps z (replaceKeys s) ↔ Keeps z s := by
  unfold replaceKeys
  dsimp only
  rw [keeps_loadKeys]
  exact iff_of_eq (keeps_appendKeys z _ { s with pip := { s.pip with blobs := [] } })

@[simp] theorem keeps_countOutcome {z : State} (s : State) (hz : Keeps z s) : Keeps z (countOutcome s) := by
  have hclosed := keeps_closeImage hz
  unfold countOutcome
  dsimp only
  split
  · split
    · exact hclosed
    · apply keeps_journal
      apply keeps_signLate
      rw [keeps_learnK]
      exact hclosed
  · exact hclosed

@[simp] theorem keeps_bootJournal {z : State} (env : StartEnv) (s : State) (hz : Keeps z s) : Keeps z (bootJournal env s) := by
  unfold bootJournal
  dsimp only
  generalize hu : (if (s.key.sanOpen && s.key.rbgOk) = true then replaceKeys _ else _) = u
  have hkeys : Keeps z u := by
    subst hu
    split
    · rw [keeps_replaceKeys]
      exact hz
    · exact hz
  generalize hv : (if (signOwed u).upd.cause = 5 then signOwed u else countOutcome (signOwed u)) = v
  have hcounted : Keeps z v := by
    subst hv
    split
    · exact keeps_signOwed u hkeys
    · exact keeps_countOutcome _ (keeps_signOwed u hkeys)
  simp only [keeps_mk, keeps_fold]
  split
  · exact hcounted
  · rw [keeps_hrvFrom]
    exact hcounted

@[simp] theorem keeps_retireWorn {z : State} (s : State) (hz : Keeps z s) : Keeps z (retireWorn s) := by
  unfold retireWorn
  split
  · exact hz
  · exact keeps_foldl z _ (fun t e ht => keeps_retireBlock _ _ _ _ t ht) _ s hz

@[simp] theorem keeps_failErases {z : State} (l : NSet) (s : State) (hz : Keeps z s) : Keeps z (failErases l s) := by
  refine keeps_foldl z _ (fun t k ht => ?_) _ s hz
  dsimp only
  split
  · apply keeps_fltRaise
    apply keeps_retireBlock
    simpa using ht
  · exact ht

@[simp] theorem keeps_startErases {z : State} (env : StartEnv) (s : State) (hz : Keeps z s) : Keeps z (startErases env s) := by
  unfold startErases
  dsimp only
  split
  · exact hz
  · rw [keeps_openRows]
    show Keeps z (writeBlockTable _)
    rw [keeps_writeBlockTable, keeps_freeCkpts]
    apply keeps_retireWorn
    rw [keeps_eraseCkpts, keeps_eraseRows]
    exact keeps_failErases _ s hz

@[simp] theorem keeps_makeKeys (z s : State) : Keeps z (makeKeys s) ↔ Keeps z s := by
  unfold makeKeys
  dsimp only
  split
  · rfl
  · rw [keeps_loadKeys]
    exact iff_of_eq (keeps_appendKeys z blobWords s)

@[simp] theorem keeps_markFactory {z : State} (l : List (Nat × Nat × Nat)) (s : State) (hz : Keeps z s) : Keeps z (markFactory l s) :=
  keeps_foldl z _ (fun t x ht => keeps_journal _ _ (by simpa using ht)) l s hz

@[simp] theorem keeps_initStore {z : State} (env : StartEnv) (s : State) (hz : Keeps z s) : Keeps z (initStore env s) := by
  apply keeps_journal
  apply keeps_startErases
  rw [keeps_resetMap, keeps_makeKeys]
  exact keeps_markFactory _ s hz

@[simp] theorem keeps_resumeSanitize {z : State} (env : StartEnv) (s : State) (hz : Keeps z s) : Keeps z (resumeSanitize env s) := by
  have herased : Keeps z (startErases env (resetMap s)) := keeps_startErases _ _ (by simpa using hz)
  unfold resumeSanitize
  dsimp only
  split
  · exact herased
  · show Keeps z (appendKeys 1 _)
    rw [keeps_appendKeys]
    exact keeps_journal _ _ herased

@[simp] theorem keeps_openAccess {z : State} (s : State) (hz : Keeps z s) :
    Keeps z (openAccess s) := by
  simp [openAccess, hz]

@[simp] theorem keeps_leaveStart {z : State} (s : State) (hz : Keeps z s) : Keeps z (leaveStart s) := by
  unfold leaveStart
  dsimp only
  generalize hu : holdArmSync _ = u
  have hopened : Keeps z u := by
    rw [← hu, keeps_holdArmSync, keeps_pdomSync]
    exact keeps_openAccess _ hz
  split
  · exact keeps_enterArmed u hopened
  · exact hopened

@[simp] theorem keeps_reverify (z : State) (env : StartEnv) (s : State) :
    Keeps z (reverify env s) = Keeps z s := by
  simp [reverify]

@[simp] theorem keeps_copyBundle (z : State) (s : State) :
    Keeps z (copyBundle s) = Keeps z s := by
  unfold copyBundle
  dsimp only
  (repeat' split) <;> simp [*]

@[simp] theorem keeps_endBoot {z : State} (env : StartEnv) (s : State) (hz : Keeps z s) :
    Keeps z (endBoot env s) := by
  simp [endBoot, hz]

@[simp] theorem keeps_handoverReset {z : State} (s : State) (hz : Keeps z s) : Keeps z (handoverReset s) := by
  simp [handoverReset, hz]

@[simp] theorem keeps_afterSession {z : State} (env : StartEnv) (s : State) (hz : Keeps z s) : Keeps z (afterSession env s) := by
  unfold afterSession
  dsimp only
  generalize hu : census env s = u
  have hcensus : Keeps z u := hu ▸ (by simpa using hz)
  split
  · apply keeps_endBoot
    apply keeps_storeTick
    split
    · exact keeps_resumeSanitize _ _ hcensus
    · rw [keeps_mapReady]
      exact keeps_startErases _ _ hcensus
  · apply keeps_endBoot
    apply keeps_storeTick
    split
    · exact hcensus
    · exact keeps_initStore _ _ hcensus
  · have hstore : Keeps z (storeTick (startErases env (restoreStart u))) :=
      keeps_storeTick _ (keeps_startErases _ _ (by simpa using hcensus))
    generalize storeTick _ = w at hstore ⊢
    split
    · exact keeps_handoverReset w hstore
    · simpa using hstore

@[simp] theorem keeps_runSession {z : State} (env : StartEnv) (s : State) (hz : Keeps z s) :
    Keeps z (runSession env s) := by
  simp [runSession, hz]

@[simp] theorem keeps_startSession {z : State} (env : StartEnv) (s : State) (hz : Keeps z s) :
    Keeps z (startSession env s) := by
  simp [startSession, hz]

@[simp] theorem keeps_bootSlot {z : State} (env : StartEnv) (b : Bool) (s : State) (hz : Keeps z s) : Keeps z (bootSlot env b s) := by
  have hslot : Keeps z (stepFuses (runSlot b s)) := keeps_stepFuses _ (by rw [keeps_runSlot]; exact hz)
  unfold bootSlot
  dsimp only
  generalize hu : bootJournal env _ = u
  have hjournal : Keeps z u := hu ▸ keeps_bootJournal _ _ (keeps_bootValues _ _ hslot)
  split
  · exact keeps_startSession _ _ hjournal
  · apply keeps_endBoot
    rw [keeps_putTherm]
    exact hjournal

@[simp] theorem keeps_bootTwo {z : State} (env : StartEnv) (g : GroupCode) (s : State) (hz : Keeps z s) : Keeps z (bootTwo env g s) := by
  have hverified : Keeps z (verifySlot env (chooseSlot env g s)).1 := keeps_verifySlot _ _ (by simpa using hz)
  unfold bootTwo
  dsimp only
  split
  · rw [keeps_enterRecovery]
    exact hverified
  · exact keeps_bootSlot _ _ _ hverified

@[simp] theorem keeps_bootAll {z : State} (env : StartEnv) (s : State) (hz : Keeps z s) : Keeps z (bootAll env s) := by
  unfold bootAll
  dsimp only
  generalize hu : tallyStart _ _ _ = u
  have htally : Keeps z u := hu ▸ (by simpa using hz)
  split
  · exact keeps_fltRaise _ _ _ htally
  split
  · rw [keeps_enterRecovery]
    exact keeps_planeScan _ htally
  have hthermal := keeps_bootThermal env u htally
  split
  · exact keeps_thermalHalt _ _ _ hthermal
  have hlevels := keeps_levelSync _ (keeps_warnSync _ hthermal)
  split
  · rw [keeps_enterRecovery]
    exact hlevels
  generalize hv : bootOne env _ = v
  have hone : Keeps z v := hv ▸ keeps_bootOne _ _ hlevels
  split
  · simpa using hone
  split
  · simpa using hone
  · exact keeps_bootTwo _ _ _ hone

@[simp] theorem keeps_hostReadyNow {z : State} (s : State) (hz : Keeps z s) : Keeps z (hostReadyNow s) := by
  unfold hostReadyNow
  dsimp only
  generalize hu : (if (s.bed.mismatch || s.bed.censusFailed) = true then s else _) = u
  have hmarked : Keeps z u := by
    subst hu
    split
    · exact hz
    · rw [keeps_freeCkpts]
      exact keeps_journal _ _ hz
  generalize hv : tellOutcome _ = v
  have htold : Keeps z v := hv ▸ keeps_tellOutcome _ (keeps_leaveStart _ hmarked)
  apply keeps_restoreEnd
  split
  · rw [keeps_copyBundle]
    exact htold
  · rw [keeps_copyBundle, keeps_reverify]
    exact htold

@[simp] theorem keeps_semAcquire {z : State} (h : Head) (n : Nat) (gen : BitVec 16) (tie : Bool) (s : State) (hz : Keeps z s) :
    Keeps z (semAcquire h n gen tie s) := by
  simp [semAcquire, hz]

@[simp] theorem keeps_semRelease {z : State} (h : Head) (n : Nat) (gen : BitVec 16) (s : State) (hz : Keeps z s) :
    Keeps z (semRelease h n gen s) := by
  simp [semRelease, hz]

@[simp] theorem keeps_forceRelease {z : State} (h : Head) (n : Nat) (s : State) (hz : Keeps z s) : Keeps z (forceRelease h n s) := by
  have hfreed : Keeps z (cellChange n .free s) := by simpa using hz
  unfold forceRelease
  dsimp only
  rw [keeps_eventTo]
  exact keeps_tlyTrigger _ _ _ hfreed

@[simp] theorem keeps_applyPan {z : State} (force : Bool) (n : Nat) (st : PanState) (s : State) (hz : Keeps z s) :
    Keeps z (applyPan force n st s) := by
  simp [applyPan, hz]

@[simp] theorem keeps_setPanRoles {z : State} (h : Head) (force : Bool) (changes : List PanChange) (commitOk : Bool) (s : State)
    (hz : Keeps z s) : Keeps z (setPanRoles h force changes commitOk s) := by
  unfold setPanRoles
  dsimp only
  split
  · exact keeps_violate _ _ _ (by simpa using hz)
  split
  · rw [keeps_reply]
    split
    · exact keeps_staleReject _ _ _ hz
    · exact hz
  split
  · simpa using hz
  · rw [keeps_reply, keeps_stampOverflow]
    exact keeps_foldl z _ (fun t c ht => by simp [ht]) _ s hz

@[simp] theorem keeps_checkTarget (z : State) (s : State) :
    Keeps z (checkTarget s) = Keeps z s := by
  unfold checkTarget
  dsimp only
  (repeat' split) <;> simp [*]

@[simp] theorem keeps_scheduleOp (z : State) (version : Nat) (s : State) :
    Keeps z (scheduleOp version s).1 = Keeps z s := by
  unfold scheduleOp
  dsimp only
  (repeat' split) <;> simp [*]

@[simp] theorem keeps_commitLayout (z : State) (h : Head) (c : LayoutChunk) (commitOk : Bool) (s : State) :
    Keeps z (commitLayout h c commitOk s) = Keeps z s := by
  unfold commitLayout
  dsimp only
  (repeat' split) <;> simp [*]

@[simp] theorem keeps_tokenOp {z : State} {op tag : Nat} {k : NonceKind} {token : Token} {fieldsOk : Bool} {f : State → State} {s : State}
    (hf : ∀ t, Keeps z t → Keeps z (f t)) (hz : Keeps z s) : Keeps z (tokenOp op tag k token fieldsOk f s) := by
  unfold tokenOp
  dsimp only
  split
  · simpa using hz
  · exact hf _ (by simpa using hz)

theorem keeps_askFactory {z s t : State} (ht : askFactory s = some t) : Keeps z t ↔ Keeps z s := by
  unfold askFactory at ht
  dsimp only at ht
  split at ht
  · cases ht
  · obtain ⟨c, -, rfl⟩ := Option.map_eq_some_iff.mp ht
    simp

@[simp] theorem keeps_malformed {z : State} (h : Head) (opcode : Nat) (s : State) (hz : Keeps z s) :
    Keeps z (malformed h opcode s) := by
  simp [malformed, hz]

@[simp] theorem keeps_rewrap (z : State) (secret : Option (BitVec 256)) (s : State) : Keeps z (rewrap secret s) ↔ Keeps z s := by
  unfold rewrap
  dsimp only
  split
  · rfl
  · exact iff_of_eq (keeps_appendKeys z blobWords s)

@[simp] theorem keeps_sanFirst {z : State} (s : State) (hz : Keeps z s) :
    Keeps z (sanFirst s) := by
  simp [sanFirst, hz]

@[simp] theorem keeps_sanErase (z s : State) : Keeps z (sanErase s) ↔ Keeps z s := by
  unfold sanErase
  rw [keeps_sanProgress]
  exact iff_of_eq (keeps_appendKeys z 1 s)

@[simp] theorem keeps_sanEnd {z : State} (s : State) (hz : Keeps z s) : Keeps z (sanEnd s) := by
  unfold sanEnd
  dsimp only
  generalize hu : endPause 1 _ = u
  have hpaused : Keeps z u := by
    rw [← hu, keeps_endPause, keeps_appendKeys]
    exact keeps_journal _ _ hz
  generalize hv : sanProgress 6 _ = v
  have hended : Keeps z v := by
    rw [← hv, keeps_sanProgress]
    exact hpaused
  apply keeps_restoreEnd
  rw [keeps_pdomSync]
  split
  · exact keeps_releaseAccess _ hended
  · split
    · exact keeps_openAccess _ hended
    · exact hended

@[simp] theorem keeps_spdmDo {z : State} {h : Head} {k : Spdm → State → State} {s : State} (hk : ∀ x t, Keeps z t → Keeps z (k x t))
    (hz : Keeps z s) : Keeps z (spdmDo h k s) := by
  unfold spdmDo
  split
  · exact hk _ s hz
  · exact hz

@[simp] theorem keeps_spdmSet (z : State) (h : Head) (v : Spdm) (s : State) :
    Keeps z (spdmSet h v s) = Keeps z s := by
  simp [spdmSet]

@[simp] theorem keeps_spdmAttest {z : State} {h : Head} {req : Nat} {k : Spdm → State → State} {s : State}
    (hk : ∀ x t, Keeps z t → Keeps z (k x t)) (hz : Keeps z s) : Keeps z (spdmAttest h req k s) :=
  keeps_spdmDo (fun x t ht => by split; exact hk x t ht; simpa using ht) hz

@[simp] theorem keeps_spdmBytes (z : State) (h : Head) (req : Nat) (large : Bool) (bs : List Nat) (s : State) :
    Keeps z (spdmBytes h req large bs s) = Keeps z s := by
  unfold spdmBytes
  split <;> simp

@[simp] theorem keeps_spdmIn {z : State} {h : Head} {req : Nat} {k : Spdm → State → State} {s : State}
    (hk : ∀ x t, Keeps z t → Keeps z (k x t)) (hz : Keeps z s) : Keeps z (spdmIn h req k s) :=
  keeps_spdmDo (fun x t ht => by split; exact hk x t ht; simpa using ht) hz

@[simp] theorem keeps_ringBroken {z : State} (first : Bool) (s : State) (hz : Keeps z s) : Keeps z (ringBroken first s) := by
  unfold ringBroken
  dsimp only
  split
  · split
    · exact keeps_fltRise _ _ _ hz
    · exact hz
  · exact hz

@[simp] theorem keeps_groupSave {z : State} (cause sinceNs : Nat) (s : State) (hz : Keeps z s) :
    Keeps z (groupSave cause sinceNs s) := by
  simp [groupSave, hz]

@[simp] theorem keeps_startWith {z : State} (code : Nat) (s : State) (hz : Keeps z s) : Keeps z (startWith code s) := by
  unfold startWith
  dsimp only
  split
  · exact hz
  · split
    · exact hz
    · exact keeps_bootTwo _ _ _ hz

@[simp] theorem keeps_answerMarkers {z : State} (s : State) (hz : Keeps z s) :
    Keeps z (answerMarkers s) := by
  simp [answerMarkers, hz]

@[simp] theorem keeps_bundleOp {z : State} {op tag : Nat} {k : State → State} {s : State}
    (hk : ∀ t, Keeps z t → Keeps z (k t)) (hz : Keeps z s) : Keeps z (bundleOp op tag k s) :=
  keeps_rakeOp (fun t ht => by split; exact hk t ht; simpa using ht) hz

@[simp] theorem keeps_semReqWrite {z : State} (h : Head) (value : Nat) (s : State) (hz : Keeps z s) :
    Keeps z (semReqWrite h value s) := by
  unfold semReqWrite
  dsimp only
  (repeat' split) <;> simp [*]

@[simp] theorem keeps_semReqOf {z : State} (port : Port) (value : Nat) (s : State) (hz : Keeps z s) :
    Keeps z (semReqOf port value s) := by
  unfold semReqOf
  split <;> simp [hz]

@[simp] theorem keeps_drnCtlWrite {z : State} (port : Port) (value : Nat) (s : State) (hz : Keeps z s) :
    Keeps z (drnCtlWrite port value s) := by
  refine keeps_drnCtl (fun t ht => ?_) hz
  split <;> simp [ht]

@[simp] theorem keeps_learnCtlWrite {z : State} (port : Port) (value : Nat) (s : State) (hz : Keeps z s) :
    Keeps z (learnCtlWrite port value s) := by
  refine keeps_learnCtl (fun t ht => ?_) hz
  dsimp only
  generalize hu : (if value.testBit 0 = true then learnOrDefer t else t) = u
  have hstarted : Keeps z u := by subst hu; split <;> simp [ht]
  generalize hv : (if value.testBit 1 = true then chargerSync (endLearn 7 u) else u) = v
  have haborted : Keeps z v := by subst hv; split <;> simp [hstarted]
  split
  · split <;> simp [haborted]
  · exact haborted

@[simp] theorem keeps_trnCtlWrite {z : State} (port : Port) (value : Nat) (s : State) (hz : Keeps z s) :
    Keeps z (trnCtlWrite port value s) := by
  simp [trnCtlWrite, hz]

@[simp] theorem keeps_pfCountWrite {z : State} (port : Port) (value : Nat) (s : State) (hz : Keeps z s) :
    Keeps z (pfCountWrite port value s) := by
  unfold pfCountWrite
  split <;> simp [hz]

@[simp] theorem keeps_gpioOutWrite {z : State} (port : Port) (value : Nat) (s : State) (hz : Keeps z s) :
    Keeps z (gpioOutWrite port value s) := by
  unfold gpioOutWrite
  split <;> simp [hz]

@[simp] theorem keeps_writeReg {z : State} (port : Port) (a value : Nat) (s : State) (hz : Keeps z s) :
    Keeps z (writeReg port a value s) := by
  simp [writeReg, hz]

@[simp] theorem keeps_windowWrite {z : State} (port : Port) (offset size value : Nat) (s : State) (hz : Keeps z s) :
    Keeps z (windowWrite port offset size value s) := by
  simp [windowWrite, hz]

@[simp] theorem keeps_ccc {z : State} {f : State → State} {s : State} (hf : ∀ t, Keeps z t → Keeps z (f t)) (hz : Keeps z s) :
    Keeps z (ccc f s) := by
  unfold ccc
  split
  · exact hf s hz
  · exact hz

@[simp] theorem keeps_tapTakes {z : State} {rstLow : Bool} {f : State → State} {s : State} (hf : ∀ t, Keeps z t → Keeps z (f t))
    (hz : Keeps z s) : Keeps z (tapTakes rstLow f s) := by
  unfold tapTakes
  split
  · exact hz
  · split
    · exact hf s hz
    · simpa using hz

/-! ### The commands -/

/-- Whatever next state a command answers keeps what the command found. -/
def KeepsAll (s : State) (o : Host.Outcome State Fault Refusal) : Prop := ∀ t, o = .next t → Keeps s t

@[simp] theorem keepsAll_next (s t : State) : KeepsAll s (.next t) ↔ Keeps s t := by simp [KeepsAll]
@[simp] theorem keepsAll_fault (s : State) (f : Fault) : KeepsAll s (.fault f) := by simp [KeepsAll]

@[simp] theorem keepsAll_ite (s : State) (c : Prop) [Decidable c] (o p : Host.Outcome State Fault Refusal) :
    KeepsAll s (if c then o else p) ↔ (c → KeepsAll s o) ∧ (¬ c → KeepsAll s p) := by
  split <;> simp [*]

/-- A head's answer to a request for a nonce (R477). -/
theorem keeps_nonceAnswer {z s : State} {k : NonceKind} (h : Head) (op : Nat) (hz : Keeps z s) :
    Keeps z (match makeNonce k h.port s with
      | (s, some n) => reply h op 0 (.nonce n) s
      | (s, none) => reply h op 4 .empty s) := by
  have hmade : Keeps z (makeNonce k h.port s).1 := by simpa using hz
  split
  next hmake =>
    rw [hmake] at hmade
    simpa using hmade
  next hmake =>
    rw [hmake] at hmade
    simpa using hmade

@[simp] theorem keepsAll_execVaonFall (s : State) : KeepsAll s (execVaonFall s) := by
  unfold execVaonFall
  split
  · simp
  · have hlost : Keeps s (aonLost (coreLost (mainReset 0 (salCut (celLost s))))) := by
      rw [keeps_aonLost, keeps_coreLost]
      exact keeps_mainReset _ _ (by simp)
    rw [keepsAll_next]
    exact hlost

@[simp] theorem keepsAll_execMainDomainRelease (s : State) : KeepsAll s (execMainDomainRelease s) := by
  unfold execMainDomainRelease
  dsimp only
  (repeat' split) <;> rw [keepsAll_next]
  · exact Keeps.refl s
  · exact keeps_startFrom _ _ (Keeps.refl s)
  · exact keeps_startFrom _ _ (Keeps.refl s)
  · exact Keeps.refl s

@[simp] theorem keepsAll_execMainRailFail (s : State) : KeepsAll s (execMainRailFail s) := by
  have hlost : Keeps s (celLost s) := by simp
  unfold execMainRailFail
  dsimp only
  (repeat' split) <;> rw [keepsAll_next]
  · exact Keeps.refl s
  · rw [keeps_coreLost]
    exact keeps_enterHalt _ _ hlost
  · rw [keeps_coreLost]
    apply keeps_mainReset
    rw [keeps_salCut]
    exact hlost
  · rw [keeps_coreLost]
    exact hlost

@[simp] theorem keepsAll_execPowerGood (elapsedMs : Nat) (s : State) : KeepsAll s (execPowerGood elapsedMs s) := by
  unfold execPowerGood
  dsimp only
  (repeat' split) <;> rw [keepsAll_next]
  all_goals first | exact Keeps.refl s | exact keeps_startFrom _ _ (Keeps.refl s)

@[simp] theorem keepsAll_execPinReset (s : State) : KeepsAll s (execPinReset s) := by simp [execPinReset]
@[simp] theorem keepsAll_execRstNReject (s : State) : KeepsAll s (execRstNReject s) := by simp [execRstNReject]
@[simp] theorem keepsAll_execHeadReset (head : Head) (s : State) : KeepsAll s (execHeadReset head s) := by simp [execHeadReset]

@[simp] theorem keepsAll_execPowerFailDetection (vmain : Bool) (sinceNs : Nat) (s : State) : KeepsAll s (execPowerFailDetection vmain sinceNs s) := by
  unfold execPowerFailDetection
  dsimp only
  (repeat' split) <;> rw [keepsAll_next]
  · exact Keeps.refl s
  · exact keeps_laterTrigger _ _ _ (Keeps.refl s)
  · exact keeps_laterTrigger _ _ _ (Keeps.refl s)
  · exact keeps_beginSave _ _ _ (Keeps.refl s)
  · exact keeps_beginSave _ _ _ (Keeps.refl s)
  · exact Keeps.refl s

@[simp] theorem keepsAll_execGlitchReject (s : State) : KeepsAll s (execGlitchReject s) := by simp [execGlitchReject]
@[simp] theorem keepsAll_execMainPowerReturned (s : State) : KeepsAll s (execMainPowerReturned s) := by simp [execMainPowerReturned]
@[simp] theorem keepsAll_execSalSample (vbkUv : Nat) (ibk : Int) (s : State) : KeepsAll s (execSalSample vbkUv ibk s) := by
  simp [execSalSample]

@[simp] theorem keepsAll_execEusePublish (ntc0 ntc1 : Option Nat) (vmainUv : Nat) (adcFail : Bool) (s : State) : KeepsAll s (execEusePublish ntc0 ntc1 vmainUv adcFail s) := by
  unfold execEusePublish
  dsimp only
  split
  · generalize hu : packReturn _ = u
    have hpack : Keeps s u := by
      rw [← hu, keeps_packReturn, keeps_sourceCheck, keeps_trackTemps]
      exact keeps_fltCond _ _ _ (Keeps.refl s)
    have hvalid : Keeps s (chargerSync (validSync u)) := by
      rw [keeps_chargerSync]
      exact keeps_validSync u hpack
    split <;> rw [keepsAll_next]
    · rw [keeps_learnWhenDue]
      exact hvalid
    · exact hvalid
  · simp

@[simp] theorem keepsAll_execPackRemoved (s : State) : KeepsAll s (execPackRemoved s) := by
  unfold execPackRemoved
  split <;> simp

@[simp] theorem keepsAll_execSocReanchor (s : State) : KeepsAll s (execSocReanchor s) := by
  unfold execSocReanchor
  split <;> simp

@[simp] theorem keepsAll_execPmbusPoll (target : Nat) (reading : Option PmbReading) (nacks : Nat) (sdaHeld : Bool) (s : State) : KeepsAll s (execPmbusPoll target reading nacks sdaHeld s) := by
  unfold execPmbusPoll
  dsimp only
  split
  · simp
  · split
    · split
      · exact (keepsAll_next _ _).mpr (Keeps.refl s)
      · rw [keepsAll_next, keeps_chargerSync]
        apply keeps_validSync
        apply keeps_pmbSources
        split
        · rw [keeps_chargeStatus]
          exact Keeps.refl s
        · exact Keeps.refl s
    · simp

@[simp] theorem keepsAll_execPmbusTargetAbsent (target : Nat) (s : State) : KeepsAll s (execPmbusTargetAbsent target s) := by
  unfold execPmbusTargetAbsent
  dsimp only
  split <;> rw [keepsAll_next]
  · exact keeps_validSync _ (keeps_pmbSources _ (Keeps.refl s))
  · exact Keeps.refl s

@[simp] theorem keepsAll_execLearnInterval (s : State) : KeepsAll s (execLearnInterval s) := by simp [execLearnInterval]
@[simp] theorem keepsAll_execStartLearn (port : Port) (s : State) : KeepsAll s (execStartLearn port s) := by simp [execStartLearn]

@[simp] theorem keepsAll_execAbortLearn (port : Port) (s : State) : KeepsAll s (execAbortLearn port s) := by
  unfold execAbortLearn
  split <;> rw [keepsAll_next]
  · exact keeps_learnCtl (fun t ht => by simp [ht]) (Keeps.refl s)
  · exact Keeps.refl s

@[simp] theorem keepsAll_execNewSource (port : Port) (s : State) : KeepsAll s (execNewSource port s) := by
  unfold execNewSource
  rw [keepsAll_next]
  split
  · exact keeps_learnCtl (fun t ht => by split <;> simp [ht]) (Keeps.refl s)
  · exact Keeps.refl s

@[simp] theorem keepsAll_execLearnL1BacklogMet (s : State) : KeepsAll s (execLearnL1BacklogMet s) := by simp [execLearnL1BacklogMet]
@[simp] theorem keepsAll_execLearnL1Timeout (s : State) : KeepsAll s (execLearnL1Timeout s) := by simp [execLearnL1Timeout]
@[simp] theorem keepsAll_execLearnEsrMeasure (s : State) : KeepsAll s (execLearnEsrMeasure s) := by simp [execLearnEsrMeasure]
@[simp] theorem keepsAll_execLearnDischargeEnd (s : State) : KeepsAll s (execLearnDischargeEnd s) := by simp [execLearnDischargeEnd]
@[simp] theorem keepsAll_execLearnDischargeTimeout (s : State) : KeepsAll s (execLearnDischargeTimeout s) := by
  simp [execLearnDischargeTimeout]

@[simp] theorem keepsAll_execLearnRestEnd (s : State) : KeepsAll s (execLearnRestEnd s) := by
  unfold execLearnRestEnd
  split <;> simp

@[simp] theorem keepsAll_execLearnComplete (s : State) : KeepsAll s (execLearnComplete s) := by simp [execLearnComplete]
@[simp] theorem keepsAll_execSealNonce (head : Head) (gen : BitVec 16) (s : State) : KeepsAll s (execSealNonce head gen s) :=
  (keepsAll_next _ _).mpr (keeps_guarded (fun _ ht => keeps_nonceAnswer head 0xC130 ht) (Keeps.refl s))
@[simp] theorem keepsAll_execSealBreak (head : Head) (gen : BitVec 16) (token : Token) (strapLow : Bool) (s : State) : KeepsAll s (execSealBreak head gen token strapLow s) :=
  (keepsAll_next _ _).mpr (keeps_guarded (fun t ht => by simp [ht]) (Keeps.refl s))
@[simp] theorem keepsAll_execSealClose (head : Head) (gen : BitVec 16) (s : State) : KeepsAll s (execSealClose head gen s) :=
  (keepsAll_next _ _).mpr (keeps_guarded (fun t ht => by simp [ht]) (Keeps.refl s))
@[simp] theorem keepsAll_execRakeSealBreak (tag : Nat) (token : Token) (strapLow : Bool) (s : State) : KeepsAll s (execRakeSealBreak tag token strapLow s) :=
  (keepsAll_next _ _).mpr (keeps_rakeOp (fun _ ht => keeps_rakeCell (fun t ht => by simp [ht]) ht) (Keeps.refl s))
@[simp] theorem keepsAll_execRakeSealClose (tag : Nat) (s : State) : KeepsAll s (execRakeSealClose tag s) :=
  (keepsAll_next _ _).mpr (keeps_rakeOp (fun _ ht => keeps_rakeCell (fun t ht => by simp [ht]) ht) (Keeps.refl s))
@[simp] theorem keepsAll_execSealAbandon (cause : SealLoss) (s : State) : KeepsAll s (execSealAbandon cause s) := by simp [execSealAbandon]
@[simp] theorem keepsAll_execCalibrationWrite (port : Port) (offset value : Nat) (s : State) : KeepsAll s (execCalibrationWrite port offset value s) := by
  simp [execCalibrationWrite]
@[simp] theorem keepsAll_execNonceExpiry (kind : NonceKind) (port : Port) (s : State) : KeepsAll s (execNonceExpiry kind port s) := by
  simp [execNonceExpiry]
@[simp] theorem keepsAll_execMarkGranule (granule : Nat) (damage : MapDamage) (s : State) : KeepsAll s (execMarkGranule granule damage s) := by
  simp [execMarkGranule]
@[simp] theorem keepsAll_execClaimGranule (touch : MapTouch) (s : State) : KeepsAll s (execClaimGranule touch s) := by
  simp [execClaimGranule]
@[simp] theorem keepsAll_execCommitGranule (touch : MapTouch) (entry : HmEntry) (s : State) : KeepsAll s (execCommitGranule touch entry s) := by
  simp [execCommitGranule]
@[simp] theorem keepsAll_execAbandonGranule (granule : Nat) (s : State) : KeepsAll s (execAbandonGranule granule s) := by
  simp [execAbandonGranule]

@[simp] theorem keepsAll_execCacheFillComplete (region : Nat) (uncorrectable : Bool) (s : State) : KeepsAll s (execCacheFillComplete region uncorrectable s) := by
  unfold execCacheFillComplete
  split <;> simp

@[simp] theorem keepsAll_execEpochAdvance (s : State) : KeepsAll s (execEpochAdvance s) := by simp [execEpochAdvance]
@[simp] theorem keepsAll_execAuditRegion (region : Nat) (damage : MapDamage) (s : State) : KeepsAll s (execAuditRegion region damage s) := by
  simp [execAuditRegion]
@[simp] theorem keepsAll_execGovernorTick (s : State) : KeepsAll s (execGovernorTick s) := by simp [execGovernorTick]
@[simp] theorem keepsAll_execArmDevice (s : State) : KeepsAll s (execArmDevice s) := by simp [execArmDevice]

@[simp] theorem keepsAll_execWearDayBoundary (s : State) : KeepsAll s (execWearDayBoundary s) := by
  unfold execWearDayBoundary
  rw [keepsAll_next]
  split
  · exact keeps_newDay _ (Keeps.refl s)
  · split <;> exact Keeps.refl s

@[simp] theorem keepsAll_execWearHourlyCommit (s : State) : KeepsAll s (execWearHourlyCommit s) := by
  unfold execWearHourlyCommit
  dsimp only
  split
  · generalize hu : (if s.drn.hourOverrun ≠ 0 then tlyTrigger _ _ _ else _) = u
    have htold : Keeps s u := by
      subst hu
      split
      · exact keeps_tlyTrigger _ _ _ (Keeps.refl s)
      · exact Keeps.refl s
    rw [keepsAll_next]
    split
    · exact htold
    · simpa using htold
  · simp

@[simp] theorem keepsAll_execWriteBatch (channel ns : Nat) (s : State) : KeepsAll s (execWriteBatch channel ns s) := by
  simp [execWriteBatch]

@[simp] theorem keepsAll_execDeviceMark (channel k device : Nat) (s : State) : KeepsAll s (execDeviceMark channel k device s) := by
  unfold execDeviceMark
  dsimp only
  split <;> rw [keepsAll_next]
  · exact keeps_fltRaise 0x42 channel _ (Keeps.refl s)
  · exact Keeps.refl s

@[simp] theorem keepsAll_execRefresh (channel : Nat) (due : RefreshDue) (s : State) : KeepsAll s (execRefresh channel due s) := by
  simp [execRefresh]
@[simp] theorem keepsAll_execMr4Poll (channel rate : Nat) (s : State) : KeepsAll s (execMr4Poll channel rate s) := by simp [execMr4Poll]
@[simp] theorem keepsAll_execPatrolScrub (dram : DramRead) (s : State) : KeepsAll s (execPatrolScrub dram s) := by simp [execPatrolScrub]
@[simp] theorem keepsAll_execShadowSetChange (set : Nat) (_firmware : Bool) (s : State) : KeepsAll s (execShadowSetChange set _firmware s) := by
  simp [execShadowSetChange]
@[simp] theorem keepsAll_execIdleSelfRefresh (channel : Nat) (s : State) : KeepsAll s (execIdleSelfRefresh channel s) := by
  simp [execIdleSelfRefresh]
@[simp] theorem keepsAll_execDramChannelFailure (channel cause : Nat) (s : State) : KeepsAll s (execDramChannelFailure channel cause s) := by
  simp [execDramChannelFailure]
@[simp] theorem keepsAll_execPanPolicyWrite (port : Port) (reg value : Nat) (s : State) : KeepsAll s (execPanPolicyWrite port reg value s) := by
  simp [execPanPolicyWrite]

@[simp] theorem keepsAll_execDqsTrack (channel device : Nat) (drift : Int) (s : State) : KeepsAll s (execDqsTrack channel device drift s) := by
  unfold execDqsTrack
  dsimp only
  split
  · generalize hu : tchanUpd _ _ _ = u
    have hdrift : Keeps s u := hu ▸ (by simp)
    split <;> rw [keepsAll_next]
    · exact keeps_fltRaise _ _ _ hdrift
    · exact hdrift
  · simp

@[simp] theorem keepsAll_execFullNext (port : Port) (s : State) : KeepsAll s (execFullNext port s) := by simp [execFullNext]
@[simp] theorem keepsAll_execTrnCancel (port : Port) (s : State) : KeepsAll s (execTrnCancel port s) := by simp [execTrnCancel]
@[simp] theorem keepsAll_execDrainSlot (quota : Nat) (s : State) : KeepsAll s (execDrainSlot quota s) := by simp [execDrainSlot]
@[simp] theorem keepsAll_execDrainReadComplete (granule : Nat) (errors : List (Nat × DramRead)) (length lane : Nat) (s : State) : KeepsAll s (execDrainReadComplete granule errors length lane s) := by
  simp [execDrainReadComplete]

@[simp] theorem keepsAll_execPartialPageTimeout (rowSeq channel stripe : Nat) (s : State) : KeepsAll s (execPartialPageTimeout rowSeq channel stripe s) := by
  unfold execPartialPageTimeout
  split <;> simp

@[simp] theorem keepsAll_execPageProgramComplete (rowSeq channel stripe tenthUs : Nat) (s : State) : KeepsAll s (execPageProgramComplete rowSeq channel stripe tenthUs s) := by
  unfold execPageProgramComplete
  split <;> simp

@[simp] theorem keepsAll_execDrainTimeout (granule : Nat) (s : State) : KeepsAll s (execDrainTimeout granule s) := by
  simp [execDrainTimeout]

@[simp] theorem keepsAll_execStripeTimeout (rowSeq stripe : Nat) (s : State) : KeepsAll s (execStripeTimeout rowSeq stripe s) := by
  unfold execStripeTimeout
  split <;> simp

@[simp] theorem keepsAll_execMapSegmentTimeout (s : State) : KeepsAll s (execMapSegmentTimeout s) := by
  unfold execMapSegmentTimeout
  split <;> rw [keepsAll_next]
  · rw [keeps_settle]
    cases hstaged : stageSegment .drain (s.drn.delta.take s.segmentLines) s with
    | none => exact Keeps.refl s
    | some t => exact (keeps_stageSegment hstaged).mpr (Keeps.refl s)
  · exact Keeps.refl s

@[simp] theorem keepsAll_execLostPage (rowSeq channel stripe : Nat) (s : State) : KeepsAll s (execLostPage rowSeq channel stripe s) := by
  unfold execLostPage
  split
  · simp
  · split
    · simp
    · split <;> simp

@[simp] theorem keepsAll_execProgramFail (rowSeq channel stripe : Nat) (s : State) : KeepsAll s (execProgramFail rowSeq channel stripe s) := by
  unfold execProgramFail
  dsimp only
  (repeat' split) <;> simp [*]

@[simp] theorem keepsAll_execPauseDrain (port : Port) (s : State) : KeepsAll s (execPauseDrain port s) := by
  unfold execPauseDrain
  split <;> rw [keepsAll_next]
  · exact keeps_drnCtl (fun t ht => by simp [ht]) (Keeps.refl s)
  · exact Keeps.refl s

@[simp] theorem keepsAll_execResumeDrain (port : Port) (s : State) : KeepsAll s (execResumeDrain port s) := by simp [execResumeDrain]
@[simp] theorem keepsAll_execPauseMaxExpiry (s : State) : KeepsAll s (execPauseMaxExpiry s) := by simp [execPauseMaxExpiry]
@[simp] theorem keepsAll_execDemandFetchComplete (granule : Nat) (outcome : FetchEnd) (us : Nat) (s : State) : KeepsAll s (execDemandFetchComplete granule outcome us s) := by
  simp [execDemandFetchComplete]

@[simp] theorem keepsAll_execBackgroundRestoreGranule (outcome : FetchEnd) (s : State) : KeepsAll s (execBackgroundRestoreGranule outcome s) := by
  unfold execBackgroundRestoreGranule
  split
  · split <;> simp
  · simp

@[simp] theorem keepsAll_execZeroStreamGranule (s : State) : KeepsAll s (execZeroStreamGranule s) := by
  unfold execZeroStreamGranule
  split
  · split <;> simp
  · simp

@[simp] theorem keepsAll_execHostMemRead (head : Head) (hpa tag : Nat) (dram : DramRead) (latencyNs : Nat) (s : State) : KeepsAll s (execHostMemRead head hpa tag dram latencyNs s) := by
  unfold execHostMemRead
  dsimp only
  (repeat' split) <;> simp [*]

@[simp] theorem keepsAll_execHostMemWrite (head : Head) (hpa tag : Nat) (data : List Byte) (poison posted mergeBad : Bool) (s : State) : KeepsAll s (execHostMemWrite head hpa tag data poison posted mergeBad s) := by
  simp [execHostMemWrite]

@[simp] theorem keepsAll_execPostedCreditResume (s : State) : KeepsAll s (execPostedCreditResume s) := by
  unfold execPostedCreditResume
  dsimp only
  split <;> rw [keepsAll_next]
  · rw [keeps_creditSync, keeps_postedSync]
    exact keeps_drainPosted _ _ _ (Keeps.refl s)
  · exact Keeps.refl s

@[simp] theorem keepsAll_execGlobalPersistentFlush (head : Head) (s : State) : KeepsAll s (execGlobalPersistentFlush head s) := by
  simp [execGlobalPersistentFlush]

@[simp] theorem keepsAll_execNandReadComplete (rowSeq channel stripe : Nat) (ladder : LadderEnd) (check : RecordCheck) (tenthUs : Nat) (s : State) : KeepsAll s (execNandReadComplete rowSeq channel stripe ladder check tenthUs s) := by
  unfold execNandReadComplete
  dsimp only
  split
  · split
    · generalize hu : tickUpd _ _ = u
      have hcounted : Keeps s u := hu ▸ (by simp)
      have hadvised : Keeps s (advise (checkFail check ladder u)) := keeps_advise _ (keeps_checkFail _ _ _ hcounted)
      generalize advise (checkFail check ladder u) = v at hadvised ⊢
      generalize hw : (if (decide (v.nand.relocate ≤ ladderStep ladder) || decide (check ≠ RecordCheck.ok)) = true then queueRow rowSeq 2 v else v) = w
      have hqueued : Keeps s w := by
        subst hw
        split
        · simpa using hadvised
        · exact hadvised
      rw [keepsAll_next]
      split
      · rw [keeps_unreadablePage]
        exact keeps_fltRaise _ _ _ hqueued
      · exact hqueued
    · simp
  · simp

@[simp] theorem keepsAll_execRakeMove (item : RakeItem) (s : State) : KeepsAll s (execRakeMove item s) := by
  unfold execRakeMove
  dsimp only
  (repeat' split) <;> simp [*]

@[simp] theorem keepsAll_execRowErase (rowSeq : Nat) (s : State) : KeepsAll s (execRowErase rowSeq s) := by
  unfold execRowErase
  dsimp only
  split <;> simp

@[simp] theorem keepsAll_execEraseComplete (channel die block : Nat) (ok : Bool) (s : State) : KeepsAll s (execEraseComplete channel die block ok s) := by
  unfold execEraseComplete
  dsimp only
  split
  · split <;> rw [keepsAll_next]
    · generalize hu : blkUpd _ _ _ _ _ = u
      have herased : Keeps s u := hu ▸ (by simp)
      rw [keeps_levelRows, keeps_settle]
      generalize hv : (if (decide (u.nand.pslcPe ≠ 0) && decide (u.nand.pslcPe ≤ (s.blk channel die block).erases + 1)) = true then retireBlock channel die block 2 u else u) = v
      have hretired : Keeps s v := by
        subst hv
        split
        · exact keeps_retireBlock _ _ _ _ _ herased
        · exact herased
      exact hretired
    · apply keeps_dieFailure
      apply keeps_fltRaise
      apply keeps_retireBlock
      simp
  · simp

@[simp] theorem keepsAll_execStorePatrol (queue : NSet) (s : State) : KeepsAll s (execStorePatrol queue s) := by simp [execStorePatrol]
@[simp] theorem keepsAll_execZqCalibration (s : State) : KeepsAll s (execZqCalibration s) := by simp [execZqCalibration]
@[simp] theorem keepsAll_execDieResetTimeout (channel die : Nat) (s : State) : KeepsAll s (execDieResetTimeout channel die s) := by
  simp [execDieResetTimeout]
@[simp] theorem keepsAll_execThermalSample (readings : List (Nat × ThmReading)) (s : State) : KeepsAll s (execThermalSample readings s) := by
  simp [execThermalSample]
@[simp] theorem keepsAll_execThrottleStepAdvance (s : State) : KeepsAll s (execThrottleStepAdvance s) := by simp [execThrottleStepAdvance]

@[simp] theorem keepsAll_execThrottleStepBack (s : State) : KeepsAll s (execThrottleStepBack s) := by
  unfold execThrottleStepBack
  dsimp only
  split <;> rw [keepsAll_next]
  · exact keeps_levelSync _ (keeps_setStep _ _ (Keeps.refl s))
  · exact Keeps.refl s

@[simp] theorem keepsAll_execThermalRestart (s : State) : KeepsAll s (execThermalRestart s) := by
  unfold execThermalRestart
  dsimp only
  split
  · split <;> rw [keepsAll_next]
    · exact keeps_startFrom _ _ (Keeps.refl s)
    · split
      · exact keeps_startFrom _ _ (Keeps.refl s)
      · exact Keeps.refl s
  · simp

@[simp] theorem keepsAll_execFastSamplingEnd (s : State) : KeepsAll s (execFastSamplingEnd s) := by simp [execFastSamplingEnd]
@[simp] theorem keepsAll_execHarvestNow (head : Head) (gen : BitVec 16) (sealCritical : Bool) (s : State) : KeepsAll s (execHarvestNow head gen sealCritical s) :=
  (keepsAll_next _ _).mpr (keeps_guarded (fun t ht => by simp [ht]) (Keeps.refl s))

@[simp] theorem keepsAll_execEconsPublish (phyAOff phyBOff : Bool) (s : State) : KeepsAll s (execEconsPublish phyAOff phyBOff s) := by
  unfold execEconsPublish
  dsimp only
  split <;> rw [keepsAll_next]
  · exact Keeps.refl s
  · split
    · exact keeps_confirmOnce _ _ _ (Keeps.refl s)
    · apply keeps_milestones
      rw [keeps_repace]
      exact Keeps.refl s

@[simp] theorem keepsAll_execDataPhaseEnd (phyAOff phyBOff : Bool) (s : State) : KeepsAll s (execDataPhaseEnd phyAOff phyBOff s) := by
  unfold execDataPhaseEnd
  split <;> rw [keepsAll_next]
  · rw [keeps_endData]
    exact keeps_confirmOnce _ _ _ (Keeps.refl s)
  · exact Keeps.refl s

@[simp] theorem keepsAll_execTailComplete (canSign copyA copyB : Bool) (s : State) : KeepsAll s (execTailComplete canSign copyA copyB s) := by
  simp [execTailComplete]

@[simp] theorem keepsAll_execSealSave (backA backB recordOk : Bool) (s : State) : KeepsAll s (execSealSave backA backB recordOk s) := by
  unfold execSealSave
  dsimp only
  have hsealed : ∀ h : Hrv, Keeps s (enterSealed recordOk { readBack backA backB s with hrv := h }) := fun h => by
    apply keeps_enterSealed
    show Keeps s (readBack backA backB s)
    simp
  split <;> split <;> rw [keepsAll_next]
  all_goals first | exact hsealed _ | exact Keeps.refl s

@[simp] theorem keepsAll_execVabsRelease (s : State) : KeepsAll s (execVabsRelease s) := by
  unfold execVabsRelease
  dsimp only
  split <;> rw [keepsAll_next]
  · exact keeps_enterHalt .vabs s (Keeps.refl s)
  · exact Keeps.refl s

@[simp] theorem keepsAll_execFaultEvent (source unit detail : Nat) (edge : SrcEdge) (s : State) : KeepsAll s (execFaultEvent source unit detail edge s) := by
  unfold execFaultEvent
  split <;> simp

@[simp] theorem keepsAll_execBlockResetComplete (block : FltBlock) (ok : Bool) (s : State) : KeepsAll s (execBlockResetComplete block ok s) := by
  simp [execBlockResetComplete]

@[simp] theorem keepsAll_execWirefault (line : Nat) (on : Bool) (s : State) : KeepsAll s (execWirefault line on s) := by
  unfold execWirefault
  dsimp only
  split
  · simp
  · split
    · split
      · simp
      · rw [keepsAll_next]
        exact keeps_fltRise _ _ _ (Keeps.refl s)
    · rw [keepsAll_next]
      split <;> exact Keeps.refl s

@[simp] theorem keepsAll_execFaultWindowExpiry (source : Nat) (s : State) : KeepsAll s (execFaultWindowExpiry source s) := by
  simp [execFaultWindowExpiry]
@[simp] theorem keepsAll_execTrapReturn (s : State) : KeepsAll s (execTrapReturn s) := by simp [execTrapReturn]
@[simp] theorem keepsAll_execAcknowledgeClass (port : Port) (mask : Nat) (s : State) : KeepsAll s (execAcknowledgeClass port mask s) := by
  simp [execAcknowledgeClass]
@[simp] theorem keepsAll_execClearSticky (port : Port) (isSevere : Bool) (word mask : Nat) (s : State) : KeepsAll s (execClearSticky port isSevere word mask s) := by
  simp [execClearSticky]
@[simp] theorem keepsAll_execClearFirst (port : Port) (s : State) : KeepsAll s (execClearFirst port s) := by simp [execClearFirst]
@[simp] theorem keepsAll_execCellarProgram (user : CelUser) (sector word : Nat) (data : BitVec 128) (s : State) : KeepsAll s (execCellarProgram user sector word data s) := by
  simp [execCellarProgram]
@[simp] theorem keepsAll_execCellarErase (user : CelUser) (sector : Nat) (s : State) : KeepsAll s (execCellarErase user sector s) := by
  simp [execCellarErase]

@[simp] theorem keepsAll_execCellarProgramDone (steps : Nat) (ok : Bool) (s : State) : KeepsAll s (execCellarProgramDone steps ok s) := by
  unfold execCellarProgramDone
  dsimp only
  split
  · have hcounted := keeps_countProgram (min 8 steps) s (Keeps.refl s)
    rw [keepsAll_next]
    apply keeps_runQueue
    split
    · rw [keeps_celAnswer, keeps_putCelWord]
      exact hcounted
    · exact keeps_programFailed _ _ _ _ hcounted
  · simp

@[simp] theorem keepsAll_execCellarEraseDone (steps : Nat) (ok : Bool) (s : State) : KeepsAll s (execCellarEraseDone steps ok s) := by
  unfold execCellarEraseDone
  dsimp only
  split
  · rw [keepsAll_next]
    apply keeps_runQueue
    split
    · simp
    · split
      · simp
      · split
        · rw [keeps_celAnswer]
          exact keeps_retireSector _ _ _ (Keeps.refl s)
        · apply keeps_fltRaise
          simp
  · simp

@[simp] theorem keepsAll_execCellarRead (sector word attempts : Nat) (fetch : Bool) (waitUs : Nat) (s : State) : KeepsAll s (execCellarRead sector word attempts fetch waitUs s) := by
  simp [execCellarRead]

@[simp] theorem keepsAll_execTallyTrigger (code level arg : Nat) (s : State) : KeepsAll s (execTallyTrigger code level arg s) := by
  unfold execTallyTrigger
  dsimp only
  (repeat' split) <;> simp [*]

@[simp] theorem keepsAll_execTallyRecordWrite (reserveOk : Bool) (s : State) : KeepsAll s (execTallyRecordWrite reserveOk s) := by
  simp [execTallyRecordWrite]

@[simp] theorem keepsAll_execTallyMirror (ok : Bool) (s : State) : KeepsAll s (execTallyMirror ok s) := by
  unfold execTallyMirror
  dsimp only
  split
  · simp
  · split
    · simp
    · split <;> rw [keepsAll_next]
      · exact keeps_journal s _ (Keeps.refl s)
      · exact keeps_fltRaise _ _ _ (Keeps.refl s)

@[simp] theorem keepsAll_execSoftwareTrigger (port : Port) (value : Nat) (s : State) : KeepsAll s (execSoftwareTrigger port value s) := by
  simp [execSoftwareTrigger]
@[simp] theorem keepsAll_execTallyClearNonce (head : Head) (gen : BitVec 16) (s : State) : KeepsAll s (execTallyClearNonce head gen s) :=
  (keepsAll_next _ _).mpr (keeps_guarded (fun _ ht => keeps_nonceAnswer head 0xC150 ht) (Keeps.refl s))
@[simp] theorem keepsAll_execClearTally (head : Head) (gen : BitVec 16) (token : Token) (commitOk : Bool) (s : State) : KeepsAll s (execClearTally head gen token commitOk s) :=
  (keepsAll_next _ _).mpr (keeps_guarded (fun t ht => by simp [ht]) (Keeps.refl s))
@[simp] theorem keepsAll_execStartDevice (env : StartEnv) (s : State) : KeepsAll s (execStartDevice env s) := by simp [execStartDevice]
@[simp] theorem keepsAll_execVaonRise (recoverLow : Bool) (s : State) : KeepsAll s (execVaonRise recoverLow s) := by simp [execVaonRise]

@[simp] theorem keepsAll_execTrainingCheckpoint (channel step set : Nat) (result : TrainResult) (s : State) : KeepsAll s (execTrainingCheckpoint channel step set result s) := by
  unfold execTrainingCheckpoint
  split <;> simp

@[simp] theorem keepsAll_execHostReady (s : State) : KeepsAll s (execHostReady s) := by simp [execHostReady]
@[simp] theorem keepsAll_execLinkUp (head : Head) (rate width : Nat) (ide : Bool) (s : State) : KeepsAll s (execLinkUp head rate width ide s) := by
  simp [execLinkUp]
@[simp] theorem keepsAll_execLinkDown (head : Head) (s : State) : KeepsAll s (execLinkDown head s) := by simp [execLinkDown]
@[simp] theorem keepsAll_execSemAcquire (head : Head) (cell : Nat) (gen : BitVec 16) (tie : Bool) (s : State) : KeepsAll s (execSemAcquire head cell gen tie s) := by
  simp [execSemAcquire]
@[simp] theorem keepsAll_execSemRelease (head : Head) (cell : Nat) (gen : BitVec 16) (s : State) : KeepsAll s (execSemRelease head cell gen s) := by
  simp [execSemRelease]

@[simp] theorem keepsAll_execGraceExpiry (head : Head) (s : State) : KeepsAll s (execGraceExpiry head s) := by
  unfold execGraceExpiry
  dsimp only
  split <;> rw [keepsAll_next]
  · exact keeps_foldl s _ (fun t n ht => keeps_forceRelease head n t ht) _ _ (Keeps.refl s)
  · exact Keeps.refl s

@[simp] theorem keepsAll_execHdmDecoderCommit (head : Head) (index : Nat) (decoder : Decoder) (s : State) : KeepsAll s (execHdmDecoderCommit head index decoder s) := by
  simp [execHdmDecoderCommit]
@[simp] theorem keepsAll_execGetChapenVersion (head : Head) (s : State) : KeepsAll s (execGetChapenVersion head s) := by
  simp [execGetChapenVersion]

@[simp] theorem keepsAll_execSetChapenVersion (head : Head) (major minor : Nat) (s : State) : KeepsAll s (execSetChapenVersion head major minor s) := by
  unfold execSetChapenVersion
  split <;> simp

@[simp] theorem keepsAll_execGetPersistenceStatus (head : Head) (s : State) : KeepsAll s (execGetPersistenceStatus head s) := by
  simp [execGetPersistenceStatus]

@[simp] theorem keepsAll_execReleaseHeldAccess (head : Head) (gen : BitVec 16) (s : State) : KeepsAll s (execReleaseHeldAccess head gen s) := by
  refine (keepsAll_next _ _).mpr (keeps_guarded (fun t ht => ?_) (Keeps.refl s))
  (repeat' split) <;> rw [keeps_reply]
  · exact ht
  · exact ht
  · exact ht
  · rw [keeps_pdomSync]
    exact keeps_releaseAccess _ ht

@[simp] theorem keepsAll_execSetPanRoles (head : Head) (gen : BitVec 16) (force : Bool) (changes : List PanChange) (commitOk : Bool) (s : State) : KeepsAll s (execSetPanRoles head gen force changes commitOk s) :=
  (keepsAll_next _ _).mpr (keeps_guarded (fun t ht => by simp [ht]) (Keeps.refl s))
@[simp] theorem keepsAll_execGetPanRoles (head : Head) (first count : Nat) (s : State) : KeepsAll s (execGetPanRoles head first count s) :=
  (keepsAll_next _ _).mpr (keeps_vendor (fun t ht => by simp [ht]) (Keeps.refl s))
@[simp] theorem keepsAll_execAddDynamicCapacityResponse (head : Head) (pans : List (Nat × Nat)) (s : State) : KeepsAll s (execAddDynamicCapacityResponse head pans s) :=
  (keepsAll_next _ _).mpr (keeps_cxlCmd (fun t ht => by simp [ht]) (Keeps.refl s))
@[simp] theorem keepsAll_execReleaseDynamicCapacity (head : Head) (pans : List (Nat × Nat)) (s : State) : KeepsAll s (execReleaseDynamicCapacity head pans s) :=
  (keepsAll_next _ _).mpr (keeps_cxlCmd (fun t ht => by simp [ht]) (Keeps.refl s))
@[simp] theorem keepsAll_execWdCountClear (s : State) : KeepsAll s (execWdCountClear s) := by simp [execWdCountClear]
@[simp] theorem keepsAll_execConfirmTrial (s : State) : KeepsAll s (execConfirmTrial s) := by simp [execConfirmTrial]
@[simp] theorem keepsAll_execDlBegin (tag length version : Nat) (s : State) : KeepsAll s (execDlBegin tag length version s) :=
  (keepsAll_next _ _).mpr (keeps_rakeOp (fun t ht => by simp [ht]) (Keeps.refl s))
@[simp] theorem keepsAll_execDlData (tag offset length : Nat) (image : Option Image) (ok : Bool) (s : State) : KeepsAll s (execDlData tag offset length image ok s) :=
  (keepsAll_next _ _).mpr (keeps_rakeOp (fun t ht => by simp [ht]) (Keeps.refl s))
@[simp] theorem keepsAll_execDlEnd (tag : Nat) (s : State) : KeepsAll s (execDlEnd tag s) :=
  (keepsAll_next _ _).mpr (keeps_rakeOp (fun t ht => by simp [ht]) (Keeps.refl s))
@[simp] theorem keepsAll_execScheduleActivation (head : Head) (gen : BitVec 16) (version : Nat) (s : State) : KeepsAll s (execScheduleActivation head gen version s) := by
  simp [execScheduleActivation]
@[simp] theorem keepsAll_execCancelActivation (head : Head) (gen : BitVec 16) (s : State) : KeepsAll s (execCancelActivation head gen s) := by
  simp [execCancelActivation]
@[simp] theorem keepsAll_execSchedule (tag version : Nat) (s : State) : KeepsAll s (execSchedule tag version s) :=
  (keepsAll_next _ _).mpr (keeps_rakeOp (fun _ ht => keeps_rakeCell (fun t ht => by simp [ht]) ht) (Keeps.refl s))
@[simp] theorem keepsAll_execCancel (tag : Nat) (s : State) : KeepsAll s (execCancel tag s) :=
  (keepsAll_next _ _).mpr (keeps_rakeOp (fun _ ht => keeps_rakeCell (fun t ht => by simp [ht]) ht) (Keeps.refl s))
@[simp] theorem keepsAll_execGetUpdateStatus (head : Head) (s : State) : KeepsAll s (execGetUpdateStatus head s) := by
  simp [execGetUpdateStatus]
@[simp] theorem keepsAll_execUpdateStatus (tag : Nat) (s : State) : KeepsAll s (execUpdateStatus tag s) := by simp [execUpdateStatus]
@[simp] theorem keepsAll_execStageLayout (head : Head) (gen : BitVec 16) (chunk : LayoutChunk) (commitOk : Bool) (s : State) : KeepsAll s (execStageLayout head gen chunk commitOk s) :=
  (keepsAll_next _ _).mpr (keeps_guarded (fun t ht => by simp [ht]) (Keeps.refl s))
@[simp] theorem keepsAll_execReadJournal (head : Head) (typ seq count : Nat) (s : State) : KeepsAll s (execReadJournal head typ seq count s) :=
  (keepsAll_next _ _).mpr (keeps_vendor (fun t ht => by simp [ht]) (Keeps.refl s))

@[simp] theorem keepsAll_execJournalRead (tag typ seq count : Nat) (s : State) : KeepsAll s (execJournalRead tag typ seq count s) := by
  unfold execJournalRead
  split <;> simp

@[simp] theorem keepsAll_execGetNonce (tag kind : Nat) (s : State) : KeepsAll s (execGetNonce tag kind s) := by
  refine (keepsAll_next _ _).mpr (keeps_rakeOp (fun t ht => ?_) (Keeps.refl s))
  split
  · rw [keeps_rakeReply]
    exact ht
  next k _ =>
    have hmade : Keeps s (makeNonce k .rake t).1 := by simpa using ht
    split
    next hmake =>
      rw [hmake] at hmade
      simpa using hmade
    next hmake =>
      rw [hmake] at hmade
      simpa using hmade

@[simp] theorem keepsAll_execFactoryReset (tag : Nat) (token : Token) (s : State) : KeepsAll s (execFactoryReset tag token s) := by
  refine (keepsAll_next _ _).mpr (keeps_rakeOp (fun t ht => keeps_rakeCell (fun t ht => ?_) ht) (Keeps.refl s))
  split
  · simpa using ht
  · refine keeps_tokenOp (fun t ht => ?_) ht
    split
    · simpa using ht
    next hasked =>
      rw [keeps_rakeReply, keeps_askFactory hasked]
      exact ht

@[simp] theorem keepsAll_execCalibrate (tag : Nat) (token : Token) (osc bg : List (Int × Nat)) (s : State) : KeepsAll s (execCalibrate tag token osc bg s) :=
  (keepsAll_next _ _).mpr (keeps_rakeOp (fun _ ht => keeps_rakeCell (fun t ht => by simp [ht]) ht) (Keeps.refl s))

@[simp] theorem keepsAll_execInstallOwner (tag : Nat) (record : OwnerRec) (wellFormed : Bool) (s : State) : KeepsAll s (execInstallOwner tag record wellFormed s) := by
  refine (keepsAll_next _ _).mpr (keeps_rakeOp (fun t ht => ?_) (Keeps.refl s))
  split
  · simpa using ht
  · split <;> rw [keeps_rakeReply]
    · simpa using ht
    · exact (keeps_appendKeys s ownerWords t).mpr ht

@[simp] theorem keepsAll_execTransferOwner (tag : Nat) (token : Token) (record : OwnerRec) (s : State) : KeepsAll s (execTransferOwner tag token record s) := by
  refine (keepsAll_next _ _).mpr (keeps_rakeOp (fun t ht => keeps_rakeCell (fun t ht => keeps_tokenOp (fun t ht => ?_) ht) ht) (Keeps.refl s))
  rw [keeps_rakeReply]
  exact (keeps_appendKeys s ownerWords t).mpr ht

@[simp] theorem keepsAll_execUnsupportedCommand (head : Head) (opcode : Nat) (s : State) : KeepsAll s (execUnsupportedCommand head opcode s) := by
  unfold execUnsupportedCommand
  split <;> simp

@[simp] theorem keepsAll_execMalformedMailboxCommand (head : Head) (opcode : Nat) (s : State) : KeepsAll s (execMalformedMailboxCommand head opcode s) :=
  (keepsAll_next _ _).mpr (keeps_cxlCmd (fun t ht => by simp [ht]) (Keeps.refl s))
@[simp] theorem keepsAll_execGetEventRecords (head : Head) (log : EvLog) (s : State) : KeepsAll s (execGetEventRecords head log s) := by
  simp [execGetEventRecords]

@[simp] theorem keepsAll_execClearEventRecords (head : Head) (log : EvLog) (handles : Option (List Nat)) (s : State) : KeepsAll s (execClearEventRecords head log handles s) := by
  refine (keepsAll_next _ _).mpr (keeps_cxlCmd (fun t ht => ?_) (Keeps.refl s))
  split <;> simp [ht]

@[simp] theorem keepsAll_execGetEventInterruptPolicy (head : Head) (s : State) : KeepsAll s (execGetEventInterruptPolicy head s) := by
  simp [execGetEventInterruptPolicy]
@[simp] theorem keepsAll_execSetEventInterruptPolicy (head : Head) (policy : List Nat) (s : State) : KeepsAll s (execSetEventInterruptPolicy head policy s) :=
  (keepsAll_next _ _).mpr (keeps_cxlCmd (fun t ht => by simp [ht]) (Keeps.refl s))
@[simp] theorem keepsAll_execGetFwInfo (head : Head) (s : State) : KeepsAll s (execGetFwInfo head s) := by simp [execGetFwInfo]
@[simp] theorem keepsAll_execGetTimestamp (head : Head) (s : State) : KeepsAll s (execGetTimestamp head s) := by simp [execGetTimestamp]
@[simp] theorem keepsAll_execSetTimestamp (head : Head) (value : Nat) (s : State) : KeepsAll s (execSetTimestamp head value s) := by
  simp [execSetTimestamp]
@[simp] theorem keepsAll_execGetSupportedLogs (head : Head) (s : State) : KeepsAll s (execGetSupportedLogs head s) := by
  simp [execGetSupportedLogs]

@[simp] theorem keepsAll_execGetLog (head : Head) (offset length : Nat) (s : State) : KeepsAll s (execGetLog head offset length s) := by
  unfold execGetLog
  split <;> simp

@[simp] theorem keepsAll_execIdentifyMemoryDevice (head : Head) (s : State) : KeepsAll s (execIdentifyMemoryDevice head s) := by
  simp [execIdentifyMemoryDevice]
@[simp] theorem keepsAll_execGetHealthInfo (head : Head) (s : State) : KeepsAll s (execGetHealthInfo head s) := by simp [execGetHealthInfo]
@[simp] theorem keepsAll_execGetAlertConfiguration (head : Head) (s : State) : KeepsAll s (execGetAlertConfiguration head s) := by
  simp [execGetAlertConfiguration]
@[simp] theorem keepsAll_execSetAlertConfiguration (head : Head) (cfg : List Nat) (s : State) : KeepsAll s (execSetAlertConfiguration head cfg s) := by
  simp [execSetAlertConfiguration]

@[simp] theorem keepsAll_execSetShutdownState (head : Head) (state : Nat) (s : State) : KeepsAll s (execSetShutdownState head state s) := by
  unfold execSetShutdownState
  split <;> simp

@[simp] theorem keepsAll_execGetPoisonList (head : Head) (dpa length : Nat) (s : State) : KeepsAll s (execGetPoisonList head dpa length s) := by
  simp [execGetPoisonList]
@[simp] theorem keepsAll_execInjectPoison (head : Head) (dpa : Nat) (s : State) : KeepsAll s (execInjectPoison head dpa s) :=
  (keepsAll_next _ _).mpr (keeps_cxlCmd (fun t ht => by simp [ht]) (Keeps.refl s))
@[simp] theorem keepsAll_execClearPoison (head : Head) (dpa : Nat) (data : List Byte) (s : State) : KeepsAll s (execClearPoison head dpa data s) :=
  (keepsAll_next _ _).mpr (keeps_cxlCmd (fun t ht => by simp [ht]) (Keeps.refl s))
@[simp] theorem keepsAll_execGetDynamicCapacityConfiguration (head : Head) (s : State) : KeepsAll s (execGetDynamicCapacityConfiguration head s) := by
  simp [execGetDynamicCapacityConfiguration]
@[simp] theorem keepsAll_execGetDynamicCapacityExtentList (head : Head) (first count : Nat) (s : State) : KeepsAll s (execGetDynamicCapacityExtentList head first count s) :=
  (keepsAll_next _ _).mpr (keeps_cxlCmd (fun t ht => by simp [ht]) (Keeps.refl s))
@[simp] theorem keepsAll_execCdatTableAccess (head : Head) (s : State) : KeepsAll s (execCdatTableAccess head s) := by
  simp [execCdatTableAccess]
@[simp] theorem keepsAll_execUnlockDevice (head : Head) (gen : BitVec 16) (secret : BitVec 256) (s : State) : KeepsAll s (execUnlockDevice head gen secret s) :=
  (keepsAll_next _ _).mpr (keeps_guarded (fun t ht => by simp [ht]) (Keeps.refl s))
@[simp] theorem keepsAll_execSetUnlockSecret (head : Head) (gen : BitVec 16) (current new : Option (BitVec 256)) (commitOk : Bool) (s : State) : KeepsAll s (execSetUnlockSecret head gen current new commitOk s) :=
  (keepsAll_next _ _).mpr (keeps_guarded (fun t ht => by simp [ht]) (Keeps.refl s))
@[simp] theorem keepsAll_execSanitize (head : Head) (gen : BitVec 16) (confirmation : Nat) (s : State) : KeepsAll s (execSanitize head gen confirmation s) :=
  (keepsAll_next _ _).mpr (keeps_guarded (fun t ht => by simp [ht]) (Keeps.refl s))
@[simp] theorem keepsAll_execCryptoErase (interrupted : Bool) (s : State) : KeepsAll s (execCryptoErase interrupted s) := by
  simp [execCryptoErase]
@[simp] theorem keepsAll_execGetVersion (head : Head) (s : State) : KeepsAll s (execGetVersion head s) := by simp [execGetVersion]
@[simp] theorem keepsAll_execGetCapabilities (head : Head) (s : State) : KeepsAll s (execGetCapabilities head s) :=
  (keepsAll_next _ _).mpr (keeps_spdmDo (fun x t ht => by simp [ht]) (Keeps.refl s))
@[simp] theorem keepsAll_execNegotiateAlgorithms (head : Head) (common : Bool) (s : State) : KeepsAll s (execNegotiateAlgorithms head common s) :=
  (keepsAll_next _ _).mpr (keeps_spdmDo (fun x t ht => by simp [ht]) (Keeps.refl s))
@[simp] theorem keepsAll_execGetDigests (head : Head) (s : State) : KeepsAll s (execGetDigests head s) := by simp [execGetDigests]
@[simp] theorem keepsAll_execGetCertificate (head : Head) (slot offset length : Nat) (large : Bool) (s : State) : KeepsAll s (execGetCertificate head slot offset length large s) := by
  simp [execGetCertificate]
@[simp] theorem keepsAll_execChallenge (head : Head) (s : State) : KeepsAll s (execChallenge head s) := by simp [execChallenge]
@[simp] theorem keepsAll_execGetMeasurements (head : Head) (index : Nat) (sign large : Bool) (s : State) : KeepsAll s (execGetMeasurements head index sign large s) :=
  (keepsAll_next _ _).mpr (keeps_spdmDo (fun x t ht => by simp [ht]) (Keeps.refl s))
@[simp] theorem keepsAll_execKeyExchange (head : Head) (s : State) : KeepsAll s (execKeyExchange head s) := by simp [execKeyExchange]

@[simp] theorem keepsAll_execSpdmFinish (head : Head) (verified : Bool) (s : State) : KeepsAll s (execSpdmFinish head verified s) := by
  unfold execSpdmFinish
  split <;> simp

@[simp] theorem keepsAll_execHeartbeat (head : Head) (s : State) : KeepsAll s (execHeartbeat head s) := by simp [execHeartbeat]
@[simp] theorem keepsAll_execKeyUpdate (head : Head) (s : State) : KeepsAll s (execKeyUpdate head s) := by simp [execKeyUpdate]
@[simp] theorem keepsAll_execEndSession (head : Head) (s : State) : KeepsAll s (execEndSession head s) := by simp [execEndSession]
@[simp] theorem keepsAll_execChunkSend (head : Head) (chunk : List Nat) (last : Bool) (s : State) : KeepsAll s (execChunkSend head chunk last s) :=
  (keepsAll_next _ _).mpr (keeps_spdmDo (fun x t ht => by simp [ht]) (Keeps.refl s))
@[simp] theorem keepsAll_execChunkGet (head : Head) (length : Nat) (s : State) : KeepsAll s (execChunkGet head length s) :=
  (keepsAll_next _ _).mpr (keeps_spdmDo (fun x t ht => by simp [ht]) (Keeps.refl s))

@[simp] theorem keepsAll_execIdeKeyManagement (head : Head) (s : State) : KeepsAll s (execIdeKeyManagement head s) := by
  refine (keepsAll_next _ _).mpr (keeps_spdmIn (fun x t ht => ?_) (Keeps.refl s))
  rw [keeps_spdmSay]
  exact (keeps_spdmSet s head _ t).mpr ht

@[simp] theorem keepsAll_execBrinePortTrained (port1 : Bool) (s : State) : KeepsAll s (execBrinePortTrained port1 s) := by
  simp [execBrinePortTrained]
@[simp] theorem keepsAll_execBrinePortDown (port1 : Bool) (s : State) : KeepsAll s (execBrinePortDown port1 s) := by
  simp [execBrinePortDown]
@[simp] theorem keepsAll_execIdleFrame (port1 sent : Bool) (s : State) : KeepsAll s (execIdleFrame port1 sent s) := by simp [execIdleFrame]
@[simp] theorem keepsAll_execDiscardedFrame (port1 : Bool) (s : State) : KeepsAll s (execDiscardedFrame port1 s) := by
  simp [execDiscardedFrame]
@[simp] theorem keepsAll_execBrineHello (port1 : Bool) (major minor groupId : Nat) (peer : HelloPeer) (s : State) : KeepsAll s (execBrineHello port1 major minor groupId peer s) := by
  simp [execBrineHello]

@[simp] theorem keepsAll_execStaleFrame (frameGen : BitVec 16) (s : State) : KeepsAll s (execStaleFrame frameGen s) := by
  unfold execStaleFrame
  dsimp only
  split
  · split <;> rw [keepsAll_next]
    · exact Keeps.refl s
    · rw [keeps_chapenEvent]
      exact keeps_tlyTrigger _ _ _ (Keeps.refl s)
  · simp

@[simp] theorem keepsAll_execRingWhole (s : State) : KeepsAll s (execRingWhole s) := by simp [execRingWhole]
@[simp] theorem keepsAll_execJoinFrame (gen : BitVec 16) (units index : Nat) (digests : List (BitVec 384)) (s : State) : KeepsAll s (execJoinFrame gen units index digests s) := by
  simp [execJoinFrame]
@[simp] theorem keepsAll_execStatusFrame (unit state : Nat) (localOk : Bool) (eNeed : Nat) (chargeUc : Int) (backlog : Nat) (s : State) : KeepsAll s (execStatusFrame unit state localOk eNeed chargeUc backlog s) := by
  simp [execStatusFrame]
@[simp] theorem keepsAll_execArmFrame (armed whole : Bool) (unitBits eUse : Nat) (chargeUc : Int) (s : State) : KeepsAll s (execArmFrame armed whole unitBits eUse chargeUc s) := by
  simp [execArmFrame]
@[simp] theorem keepsAll_execArmTimeout (s : State) : KeepsAll s (execArmTimeout s) := by simp [execArmTimeout]
@[simp] theorem keepsAll_execStatusTimeout (unit : Nat) (s : State) : KeepsAll s (execStatusTimeout unit s) := by simp [execStatusTimeout]
@[simp] theorem keepsAll_execTrigFrame (unit cause : Nat) (s : State) : KeepsAll s (execTrigFrame unit cause s) := by simp [execTrigFrame]

@[simp] theorem keepsAll_execGoFrame (cause origin event sinceNs : Nat) (s : State) : KeepsAll s (execGoFrame cause origin event sinceNs s) := by
  unfold execGoFrame
  dsimp only
  split
  · (repeat' split) <;> rw [keepsAll_next]
    · exact keeps_laterTrigger _ _ _ (Keeps.refl s)
    · exact keeps_laterTrigger _ _ _ (Keeps.refl s)
    · exact keeps_groupSave _ _ _ (Keeps.refl s)
    · exact Keeps.refl s
  · simp

@[simp] theorem keepsAll_execShareFrame (eT event : Nat) (s : State) : KeepsAll s (execShareFrame eT event s) := by simp [execShareFrame]
@[simp] theorem keepsAll_execMarkerFrame (unit : Nat) (state version : Nat) (pendingSave : Bool) (devState : Nat) (s : State) : KeepsAll s (execMarkerFrame unit state version pendingSave devState s) := by
  simp [execMarkerFrame]
@[simp] theorem keepsAll_execStartFrame (codes : List Nat) (s : State) : KeepsAll s (execStartFrame codes s) := by simp [execStartFrame]

@[simp] theorem keepsAll_execGroupStartTimeout (s : State) : KeepsAll s (execGroupStartTimeout s) := by
  unfold execGroupStartTimeout
  dsimp only
  split
  · split
    · simp
    · rw [keepsAll_next]
      exact keeps_bootTwo _ _ _ (keeps_ringBroken true s (Keeps.refl s))
  · simp

@[simp] theorem keepsAll_execSchedFrame (cancel : Bool) (version : Nat) (s : State) : KeepsAll s (execSchedFrame cancel version s) := by
  simp [execSchedFrame]
@[simp] theorem keepsAll_execBundleBegin (tag length : Nat) (s : State) : KeepsAll s (execBundleBegin tag length s) :=
  (keepsAll_next _ _).mpr (keeps_bundleOp (fun t ht => by simp [ht]) (Keeps.refl s))
@[simp] theorem keepsAll_execBundleData (tag offset length : Nat) (header : Option BundleHeader) (s : State) : KeepsAll s (execBundleData tag offset length header s) :=
  (keepsAll_next _ _).mpr (keeps_bundleOp (fun t ht => by simp [ht]) (Keeps.refl s))
@[simp] theorem keepsAll_execBundleEnd (tag : Nat) (digestOk : Bool) (image : Option Image) (s : State) : KeepsAll s (execBundleEnd tag digestOk image s) :=
  (keepsAll_next _ _).mpr (keeps_bundleOp (fun t ht => by simp [ht]) (Keeps.refl s))
@[simp] theorem keepsAll_execStageFrame (offset seq length : Nat) (spells : StageSpells) (entry : Option Image) (s : State) : KeepsAll s (execStageFrame offset seq length spells entry s) := by
  simp [execStageFrame]
@[simp] theorem keepsAll_execStageAckFrame (unit bytes status : Nat) (s : State) : KeepsAll s (execStageAckFrame unit bytes status s) := by
  simp [execStageAckFrame]
@[simp] theorem keepsAll_execRegisterWrite (port : Port) (offset size value : Nat) (s : State) : KeepsAll s (execRegisterWrite port offset size value s) := by
  simp [execRegisterWrite]
@[simp] theorem keepsAll_execReadStatus (s : State) : KeepsAll s (execReadStatus s) := by simp [execReadStatus]
@[simp] theorem keepsAll_execReadFrame (s : State) : KeepsAll s (execReadFrame s) := by simp [execReadFrame]
@[simp] theorem keepsAll_execPortReset (s : State) : KeepsAll s (execPortReset s) := by simp [execPortReset]

@[simp] theorem keepsAll_execRakeFrameError (err : RakeError) (s : State) : KeepsAll s (execRakeFrameError err s) := by
  unfold execRakeFrameError
  dsimp only
  (repeat' split) <;> simp [*]

@[simp] theorem keepsAll_execHello (tag high minor low : Nat) (s : State) : KeepsAll s (execHello tag high minor low s) := by
  unfold execHello
  split <;> simp

@[simp] theorem keepsAll_execIdentify (tag : Nat) (s : State) : KeepsAll s (execIdentify tag s) := by simp [execIdentify]
@[simp] theorem keepsAll_execRegRead (tag offset count : Nat) (s : State) : KeepsAll s (execRegRead tag offset count s) :=
  (keepsAll_next _ _).mpr (keeps_rakeOp (fun t ht => by simp [ht]) (Keeps.refl s))
@[simp] theorem keepsAll_execRegWrite (tag offset value : Nat) (s : State) : KeepsAll s (execRegWrite tag offset value s) :=
  (keepsAll_next _ _).mpr (keeps_rakeOp (fun t ht => by simp [ht]) (Keeps.refl s))
@[simp] theorem keepsAll_execBadOp (tag op : Nat) (s : State) : KeepsAll s (execBadOp tag op s) := by simp [execBadOp]
@[simp] theorem keepsAll_execTelemetryPageRead (page : Nat) (pecError : Bool) (s : State) : KeepsAll s (execTelemetryPageRead page pecError s) := by
  simp [execTelemetryPageRead]
@[simp] theorem keepsAll_execEntdaa (address : Nat) (s : State) : KeepsAll s (execEntdaa address s) := by simp [execEntdaa]
@[simp] theorem keepsAll_execSetdasa (static address : Nat) (s : State) : KeepsAll s (execSetdasa static address s) := by
  simp [execSetdasa]
@[simp] theorem keepsAll_execRstdaa (s : State) : KeepsAll s (execRstdaa s) := by simp [execRstdaa]
@[simp] theorem keepsAll_execSetnewda (address : Nat) (s : State) : KeepsAll s (execSetnewda address s) := by simp [execSetnewda]
@[simp] theorem keepsAll_execGetpid (s : State) : KeepsAll s (execGetpid s) := by simp [execGetpid]
@[simp] theorem keepsAll_execGetbcr (s : State) : KeepsAll s (execGetbcr s) := by simp [execGetbcr]
@[simp] theorem keepsAll_execGetdcr (s : State) : KeepsAll s (execGetdcr s) := by simp [execGetdcr]
@[simp] theorem keepsAll_execGetstatus (s : State) : KeepsAll s (execGetstatus s) := by simp [execGetstatus]
@[simp] theorem keepsAll_execGetmwl (s : State) : KeepsAll s (execGetmwl s) := by simp [execGetmwl]
@[simp] theorem keepsAll_execGetmrl (s : State) : KeepsAll s (execGetmrl s) := by simp [execGetmrl]
@[simp] theorem keepsAll_execEnec (events : Nat) (s : State) : KeepsAll s (execEnec events s) :=
  (keepsAll_next _ _).mpr (keeps_ccc (fun t ht => by simp [ht]) (Keeps.refl s))
@[simp] theorem keepsAll_execDisec (events : Nat) (s : State) : KeepsAll s (execDisec events s) :=
  (keepsAll_next _ _).mpr (keeps_ccc (fun t ht => by simp [ht]) (Keeps.refl s))

@[simp] theorem keepsAll_execAonClockStop (s : State) : KeepsAll s (execAonClockStop s) := by
  unfold execAonClockStop
  rw [keepsAll_next]
  split
  · exact Keeps.refl s
  · exact keeps_fltRaise _ _ _ (Keeps.refl s)

@[simp] theorem keepsAll_execAonClockRestore (s : State) : KeepsAll s (execAonClockRestore s) := by simp [execAonClockRestore]
@[simp] theorem keepsAll_execExtest (rstLow : Bool) (s : State) : KeepsAll s (execExtest rstLow s) :=
  (keepsAll_next _ _).mpr (keeps_tapTakes (fun t ht => by simp [ht]) (Keeps.refl s))
@[simp] theorem keepsAll_execIdcode (s : State) : KeepsAll s (execIdcode s) := by simp [execIdcode]
@[simp] theorem keepsAll_execSamplePreload (value : Nat) (s : State) : KeepsAll s (execSamplePreload value s) := by
  simp [execSamplePreload]
@[simp] theorem keepsAll_execClamp (rstLow : Bool) (s : State) : KeepsAll s (execClamp rstLow s) :=
  (keepsAll_next _ _).mpr (keeps_tapTakes (fun t ht => by simp [ht]) (Keeps.refl s))
@[simp] theorem keepsAll_execHighz (rstLow : Bool) (s : State) : KeepsAll s (execHighz rstLow s) :=
  (keepsAll_next _ _).mpr (keeps_tapTakes (fun t ht => by simp [ht]) (Keeps.refl s))
@[simp] theorem keepsAll_execBypass (code : Nat) (s : State) : KeepsAll s (execBypass code s) := by simp [execBypass]
/-- Every next state a command answers keeps what the command found. -/
theorem exec_keeps (c : Instr) (s : State) : KeepsAll s (exec c s) := by
  cases c <;> simp

/-- Settles O60: the command at the front keeps what it finds, and a step that idles changes nothing. -/
theorem stepKeepsSound : Obligations.StepKeepsSound := by
  unfold Obligations.StepKeepsSound
  intro s t hstep
  unfold step at hstep
  split at hstep
  next hidle =>
    obtain rfl : s = t := by simpa using hstep
    simp [hidle]
  next c rest hfront =>
    obtain ⟨hpending, hserial, hrevoked, hlock, hrollback, hbreaks, hjrn, hwf⟩ := exec_keeps c { s with pending := rest } t hstep
    exact ⟨hwf, hserial, hrevoked, hlock, hrollback, hbreaks, hjrn, by rw [hpending, hfront]; rfl⟩

end Sys2Proof.Machine
end

section
/-!
PROOFS. Supply and reset of the whole device (R15, R257, R544 to R549): what VAON, the main domain's release and a main rail's fall lead to,
power-good in SEALED, and one head's conventional reset.
-/
namespace Sys2Proof.Machine

/-! ### VAON rises (R15) -/

theorem tlyTell_ready (code arg : Nat) (s : State) : (tlyTell code arg s).tly.ready = s.tly.ready := by
  have hput : (tlyPut code 7 arg s).1.tly.ready = s.tly.ready := by
    unfold tlyPut tlyDrop
    dsimp only
    repeat' split
    all_goals rfl
  unfold tlyTell
  dsimp only
  split
  · exact hput
  · split
    · rw [(reactLow_frame _ _).2.2.1]
      exact hput
    · exact hput

/-- With no sector flagged and no retirement owed the status planes' scan reaches the Salt Cellar alone (R412, R421). -/
theorem celScan_clean {s : State} (hflags : ∀ e ∈ s.cel.sectors, e.2.flag = false) (howed : s.cel.retireOwed = []) :
    celScan s = { s with cel := (celScan s).cel } := by
  have hnone : (s.cel.sectors.filter fun e => e.2.flag) = [] := by simpa using hflags
  unfold celScan
  simp [hnone, howed]

/-- Then it reaches the Salt Cellar and the record of the slots (R412). -/
theorem planeScan_clean {s : State} (hflags : ∀ e ∈ s.cel.sectors, e.2.flag = false) (howed : s.cel.retireOwed = []) :
    planeScan s = { s with cel := (planeScan s).cel, upd := (planeScan s).upd } := by
  unfold planeScan
  split
  · have hscan := celScan_clean (s := scanSlots s) hflags howed
    rw [hscan]
    rfl
  · rfl

theorem execVaonRise_off {s : State} (hoff : s.dev.st = .off) (low : Bool) :
    ∃ v : State, v = { s with
        dev := { st := .boot, startDue := true, mainUp := false }, pins := { s.pins with recover := low }
        sal := { s.sal with domainKey := some s.key.salKey } } ∧
      execVaonRise low s = .next (if low then enterRecovery 1 (planeScan (tallyStart false true v)) else v) :=
  ⟨_, rfl, by rw [execVaonRise, if_pos hoff]⟩

theorem yields_vaonRise_start {s : State} (hoff : s.dev.st = .off) : Yields (.vaonRise false) s fun t =>
    t.dev.st = .boot ∧ t.dev.startDue = true ∧ t.pins.recover = false ∧ t.bed = s.bed ∧ t.jrn = s.jrn ∧
      ∀ a, t.byteAt a = s.byteAt a := by
  obtain ⟨v, hv, hnext⟩ := execVaonRise_off hoff false
  refine ⟨v, hnext, ?_⟩
  rw [hv]
  exact ⟨rfl, rfl, rfl, rfl, rfl, fun _ => rfl⟩

/-- RECOVERY entered at once: heads down, the reason kept (R15, R460). -/
theorem yields_vaonRise_recovery {s : State} (hoff : s.dev.st = .off) (hflags : ∀ e ∈ s.cel.sectors, e.2.flag = false)
    (howed : s.cel.retireOwed = []) : Yields (.vaonRise true) s fun t =>
    t.dev.st = .recovery ∧ t.dev.startDue = false ∧ t.pins.recover = true ∧ t.upd.recoveryCause = 1 ∧ t.tly.ready = true ∧
      t.bed = s.bed ∧ t.jrn = s.jrn ∧ ∀ a, t.byteAt a = s.byteAt a := by
  obtain ⟨v, hv, hnext⟩ := execVaonRise_off hoff true
  refine ⟨_, hnext, ?_⟩
  have hcel : (tallyStart false true v).cel = s.cel := by rw [hv]; simp
  have hready : (tallyStart false true v).tly.ready = true := tlyTell_ready _ _ _
  have hscan := planeScan_clean (s := tallyStart false true v) (by rwa [hcel]) (by rwa [hcel])
  rw [hscan]
  refine ⟨rfl, rfl, ?_, rfl, ?_, ?_, ?_, fun a => ?_⟩
  · simp [enterRecovery, hv]
  · simpa [enterRecovery] using hready
  · simp [hv]
  · simp [hv]
  · simp [State.byteAt, hv]

/-! ### VAON falls (R15) -/

/-- What VAON's fall leaves: OFF over what is fused, in the Salt Cellar or on the media. -/
theorem execVaonFall_on {s : State} (hon : s.dev.st ≠ .off) :
    execVaonFall s = .next { aonLost (coreLost (mainReset 0 (salCut (celLost s)))) with
      dev := { st := .off, startDue := false, mainUp := false } } := by
  rw [execVaonFall, if_neg hon]

theorem salCut_breaksUsed (s : State) : (salCut s).sal.breaksUsed = s.sal.breaksUsed := by
  have hlearn : (if s.sal.learn.step = 0 then s else oweRec (learnRec 5 s)).sal.breaksUsed = s.sal.breaksUsed := by split <;> rfl
  unfold salCut
  dsimp only
  generalize (if s.sal.learn.step = 0 then s else oweRec (learnRec 5 s)) = u at *
  have hseal : (if u.sal.sealOpen then oweRec (abandonRec u) else u).sal.breaksUsed = u.sal.breaksUsed := by split <;> rfl
  generalize (if u.sal.sealOpen then oweRec (abandonRec u) else u) = v at *
  split
  · exact hseal.trans hlearn
  · exact hseal.trans hlearn

theorem yields_vaonFall {s : State} (hon : s.dev.st ≠ .off) : Yields .vaonFall s fun t =>
    t.dev.st = .off ∧ t.dev.aonUs = 0 ∧ (∀ a, t.byteAt a = 0) ∧ t.jrn = s.jrn ∧ t.bed.pages = s.bed.pages ∧
      t.bed.ckpts = s.bed.ckpts ∧ t.key.owner = s.key.owner ∧ t.key.antiRollback = s.key.antiRollback ∧
      t.sal.breaksUsed = s.sal.breaksUsed ∧ t.pip.blobs = s.pip.blobs := by
  have hbreaks : (salCut (celLost s)).sal.breaksUsed = s.sal.breaksUsed := by rw [salCut_breaksUsed]; simp
  refine ⟨_, execVaonFall_on hon, rfl, rfl, fun _ => rfl, ?_, ?_, ?_, ?_, ?_, ?_, ?_⟩
  all_goals simp [aonLost, coreLost, mainReset, Bed.media, Key.kept, Sal.kept, hbreaks]

/-- Settles O1. -/
theorem powerUpAndDown : Obligations.PowerUpAndDown := by
  unfold Obligations.PowerUpAndDown
  exact ⟨fun _ hoff => yields_vaonRise_start hoff, fun _ hoff hflags howed => yields_vaonRise_recovery hoff hflags howed,
    fun _ hon => yields_vaonFall hon⟩

/-! ### The main domain's release and a main rail's fall (R15, R544) -/

theorem execMainDomainRelease_plain {s : State} (hdown : s.dev.mainUp = false) (hoff : s.dev.st ≠ .off) (hhalt : s.dev.st ≠ .halt)
    (hsealed : s.dev.st ≠ .sealed) : execMainDomainRelease s =
      .next { s with dev := { s.dev with mainUp := true }, pins := { s.pins with mainPower := true } } := by
  simp [execMainDomainRelease, hdown, hoff, hhalt, hsealed]

theorem startFrom_faultHalt {s : State} (cause : Nat) (hst : s.dev.st = .halt) : startFrom cause s = mainReset cause (salCut s) := by
  simp [startFrom, hst]

theorem execMainDomainRelease_faultHalt {s : State} (hdown : s.dev.mainUp = false) (hst : s.dev.st = .halt) (hhalt : s.dev.halt = .fault) :
    execMainDomainRelease s = .next (mainReset 3 (salCut
      { s with dev := { s.dev with mainUp := true }, pins := { s.pins with mainPower := true } })) := by
  simp [execMainDomainRelease, hdown, hst, hhalt, startFrom]

theorem mainReset_mainUp (cause : Nat) (s : State) : (mainReset cause s).dev.mainUp = s.dev.mainUp := by
  simp [mainReset]

theorem saving_not_off {s : State} (h : s.saving = true) : s.dev.st ≠ .off := by
  rintro hoff
  simp [State.saving, hoff] at h

theorem resettable_not_off {s : State} (h : resettable s = true) : s.dev.st ≠ .off := by
  rintro hoff
  simp [resettable, hoff] at h

theorem resettable_not_saving {s : State} (h : resettable s = true) : s.saving = false := by
  unfold resettable at h
  unfold State.saving
  cases hst : s.dev.st <;> simp [hst] at h ⊢

theorem execMainRailFail_reset {s : State} (hup : s.dev.mainUp = true) (h : resettable s = true) : execMainRailFail s =
    .next (coreLost (mainReset 3 (salCut { celLost s with dev := { s.dev with mainUp := false } }))) := by
  simp [execMainRailFail, hup, h, resettable_not_off h, resettable_not_saving h]

theorem execMainRailFail_saving {s : State} (hup : s.dev.mainUp = true) (h : s.saving = true) : execMainRailFail s =
    .next (coreLost (enterHalt .fault { celLost s with dev := { s.dev with mainUp := false } })) := by
  simp [execMainRailFail, hup, h, saving_not_off h]

theorem yields_mainRailFail_reset {s : State} (hup : s.dev.mainUp = true) (h : resettable s = true) : Yields .mainRailFail s fun t =>
    StartDue 3 t ∧ t.dev.mainUp = false ∧ t.tly.ring = [] ∧ t.jrn = s.jrn ∧ t.bed.pages = s.bed.pages := by
  refine ⟨_, execMainRailFail_reset hup h, mainReset_startDue 3 _, ?_, rfl, ?_, ?_⟩
  · simp [coreLost, mainReset]
  · simp [coreLost, mainReset]
  · simp [coreLost, mainReset, Bed.media]

/-- Settles O2. -/
theorem mainRailsReleaseAndFall : Obligations.MainRails := by
  unfold Obligations.MainRails
  refine ⟨fun s hdown hoff hhalt hsealed => ⟨_, execMainDomainRelease_plain hdown hoff hhalt hsealed, rfl⟩,
    fun s hdown hst hhalt => ⟨_, execMainDomainRelease_faultHalt hdown hst hhalt, mainReset_startDue 3 _, ?_⟩,
    fun s hup h => yields_mainRailFail_reset hup h, fun s hup h => ⟨_, execMainRailFail_saving hup h, ?_⟩⟩
  · simp [mainReset_mainUp]
  · exact ⟨rfl, rfl, rfl, rfl, rfl, rfl, fun _ => rfl, rfl, rfl⟩

/-! ### Power-good in SEALED (R15, R62) -/

/-- The state with power-good seen after `ms` milliseconds (R62). -/
def powerGoodSeen (ms : Nat) (s : State) : State := { s with
  dev := { s.dev with pgOk := true, aonUs := s.dev.aonUs + ms * 1000 }, pins := { s.pins with mainPower := true }
  sal := { s.sal with pgSinceStart := true } }

/-- Whether the trigger of the save that sealed the device lets power-good start it (R15). -/
def restartReady (s : State) : Bool :=
  if s.dev.savedBy = 3 then s.dev.coolOk else if s.dev.savedBy = 5 then s.dev.cycled else true

theorem execPowerGood_sealed {s : State} {ms : Nat} (hst : s.dev.st = .sealed) (hms : s.sal.cal.pgMs ≤ ms) :
    execPowerGood ms s = .next (if restartReady s then startFrom 1 (powerGoodSeen ms s) else powerGoodSeen ms s) := by
  unfold execPowerGood restartReady powerGoodSeen
  simp only [hst, hms]
  split <;> rename_i hs
  · split <;> rename_i h3
    · split <;> simp_all
    · split <;> rename_i h5
      · split <;> simp_all
      · simp_all
  · simp at hs

theorem startFrom_powerGoodSeen {s : State} (ms : Nat) (hst : s.dev.st = .sealed) :
    (startFrom 1 (powerGoodSeen ms s)).dev.st = .boot ∧ (startFrom 1 (powerGoodSeen ms s)).dev.startDue = true ∧
    (startFrom 1 (powerGoodSeen ms s)).upd.cause = 1 ∧ (startFrom 1 (powerGoodSeen ms s)).dev.aonUs = s.dev.aonUs + ms * 1000 ∧
    (startFrom 1 (powerGoodSeen ms s)).bed = s.bed ∧ (startFrom 1 (powerGoodSeen ms s)).jrn = s.jrn ∧
    (startFrom 1 (powerGoodSeen ms s)).lay = s.lay := by
  have hst' : (powerGoodSeen ms s).dev.st = .sealed := hst
  rw [startFrom, if_pos hst']
  exact ⟨rfl, rfl, rfl, rfl, rfl, rfl, rfl⟩

/-- Settles O3, by what each save's trigger asks before a restart. -/
theorem powerGoodRestarts : Obligations.PowerGoodRestarts := by
  unfold Obligations.PowerGoodRestarts
  intro s ms hst hms
  have hnext := execPowerGood_sealed hst hms
  obtain ⟨hboot, hdue, hcause, haon, hbed, hjrn, hlay⟩ := startFrom_powerGoodSeen ms hst
  refine ⟨fun h3 h5 => ⟨_, hnext, ?_⟩, fun h3 => ⟨_, hnext, ?_⟩, fun h5 => ⟨_, hnext, ?_⟩, ⟨_, hnext, ?_⟩⟩
  · simp [restartReady, h3, h5, hboot, hdue, hcause]
  · cases hcool : s.dev.coolOk <;> simp [restartReady, h3, hcool, hboot]
    exact ⟨hst, rfl⟩
  · cases hcyc : s.dev.cycled <;> simp [restartReady, h5, hcyc, hboot]
    exact ⟨hst, rfl⟩
  · cases restartReady s
    · exact ⟨rfl, rfl, rfl, rfl⟩
    · exact ⟨haon, hbed, hjrn, hlay⟩

/-! ### One head's conventional reset (R257) -/

theorem execHeadReset_alive {s : State} (h : Head) (hsave : s.saving = false) (halive : s.alive = true) :
    execHeadReset h s = .next (headDown h true s) := by
  simp [execHeadReset, hsave, halive]

theorem headDown_reset_head (h : Head) (s : State) : ((headDown h true s).heads.get h).up = false ∧
    ((headDown h true s).heads.get h).decoders = [] ∧ ((headDown h true s).heads.get h).cmdMajor = 2 ∧
    ((headDown h true s).heads.get h).cmdMinor = 0 ∧
    ((s.heads.get h).up = true → ((headDown h true s).heads.get h).grace = true ∧
      ((headDown h true s).heads.get h).downUs = s.dev.aonUs) := by
  have hheads : (headDown h true s).heads.get h = ({ s.heads.get h with
      up := false, down := true, grace := (s.heads.get h).grace || (s.heads.get h).up
      downUs := if (s.heads.get h).up then s.dev.aonUs else (s.heads.get h).downUs
      downs := if (s.heads.get h).up then satAdd 16 (s.heads.get h).downs 1 else (s.heads.get h).downs
      ide := false, rate := 0, width := 0, stampBase := none, cmdMajor := 2, cmdMinor := 0, decoders := [] }) := by
    unfold headDown
    simp only [↓reduceIte]
    split <;> simp [perHead_get_set]
  rw [hheads]
  exact ⟨rfl, rfl, rfl, rfl, fun hup => by simp [hup]⟩

theorem headDown_reset_rest (h : Head) (s : State) : (headDown h true s).key.spdm.get h = {} ∧
    (headDown h true s).heads.get h.other = s.heads.get h.other ∧ (headDown h true s).key.spdm.get h.other = s.key.spdm.get h.other ∧
    (∀ a, (headDown h true s).byteAt a = s.byteAt a) ∧
    headDown h true s = { s with
      heads := (headDown h true s).heads, key := { s.key with spdm := (headDown h true s).key.spdm }, lay := (headDown h true s).lay
      fld := { s.fld with admission := (headDown h true s).fld.admission, fetches := (headDown h true s).fld.fetches } } := by
  have hne : h.other ≠ h := by cases h <;> simp [Head.other]
  unfold headDown
  simp only [↓reduceIte]
  split
  · exact ⟨by simp [perHead_get_set], by simp [perHead_get_set, hne], by simp [perHead_get_set, hne], fun _ => rfl, rfl⟩
  · exact ⟨by simp [perHead_get_set], by simp [perHead_get_set, hne], by simp [perHead_get_set, hne], fun _ => rfl, rfl⟩

/-- Settles O5. -/
theorem headResetIsOneHeads : Obligations.HeadResetIsOneHeads := by
  unfold Obligations.HeadResetIsOneHeads
  intro s h hsave halive
  obtain ⟨hup, hdec, hmaj, hmin, hgrace⟩ := headDown_reset_head h s
  obtain ⟨hspdm, hother, hspdmo, hbyte, heq⟩ := headDown_reset_rest h s
  exact ⟨_, execHeadReset_alive h hsave halive, hup, hdec, hmaj, hmin, hgrace, hspdm, hother, hspdmo, hbyte, heq⟩

/-! ### Power-fail detection (R41 to R46, R56 to R58) -/

theorem satAdd_16_1 (n : Nat) : satAdd 16 n 1 = min 65535 (n + 1) := rfl

theorem running_spec {s : State} (h : s.running = true) : s.dev.st ≠ .off ∧ s.saving = false := by
  unfold State.running at h
  unfold State.saving
  cases hst : s.dev.st <;> simp [hst] at h ⊢

theorem execPowerFailDetection_armed {s : State} (v : Bool) (n : Nat) (hrun : s.running = true) (harm : s.sal.holdArm = true) :
    execPowerFailDetection v n s = .next (beginSave (if v then Trigger.vmain else Trigger.pfail) n
      { s with pins := { s.pins with mainPower := false }, dev := { s.dev with cycled := true } }) := by
  obtain ⟨hoff, hsave⟩ := running_spec hrun
  simp [execPowerFailDetection, hoff, hsave, harm, hrun]

theorem execPowerFailDetection_unarmed {s : State} (v : Bool) (n : Nat) (hoff : s.dev.st ≠ .off) (hsave : s.saving = false)
    (harm : s.sal.holdArm = false) : execPowerFailDetection v n s =
      .next { s with
        pins := { s.pins with mainPower := false }, dev := { s.dev with cycled := true }
        sal := { s.sal with unarmedPf := satAdd 16 s.sal.unarmedPf 1, pgSinceStart := false } } := by
  simp [execPowerFailDetection, hoff, hsave, harm]

theorem yields_powerFailDetection_armed {s : State} (v : Bool) (n : Nat) (hrun : s.running = true) (harm : s.sal.holdArm = true) :
    Yields (.powerFailDetection v n) s fun t =>
      t.dev.st = .harvest ∧ t.sal.holdEn = true ∧ t.hrv.trigger = (if v then 2 else 1) ∧
      t.hrv.armedAtTrigger = decide (s.dev.st = .armed) ∧ t.gov.accessHeld = true ∧ t.hrv.saveSeq = s.hrv.nextSeq ∧
      t.jrn.getLast? = some (.saveStart s.hrv.nextSeq (if v then 2 else 1) (decide (s.dev.st = .armed))) := by
  have hcode : (if v then Trigger.vmain else Trigger.pfail).code = if v then 2 else 1 := by cases v <;> rfl
  refine ⟨_, execPowerFailDetection_armed v n hrun harm, ?_⟩
  rw [← hcode]
  exact beginSave_spec _ n _

/-- Settles O6. -/
theorem powerFailDetections : Obligations.PowerFailDetections := by
  unfold Obligations.PowerFailDetections
  refine ⟨fun s v n hrun harm => yields_powerFailDetection_armed v n hrun harm,
    fun s v n hoff hsave harm => ⟨_, execPowerFailDetection_unarmed v n hoff hsave harm, rfl, ?_, rfl, fun _ => rfl⟩,
    fun s hoff => ⟨_, if_neg hoff, ?_⟩, fun s hsave => ⟨_, if_pos hsave, rfl⟩⟩
  · simp [satAdd_16_1]
  · simp [satAdd_16_1]

end Sys2Proof.Machine
end

section
/-!
PROOFS. The Rake Port (R508 to R516): what every request meets before it runs, the port's own instructions, HELLO and IDENTIFY.
-/
namespace Sys2Proof.Machine

/-! ### What every request meets before it runs (R509, R513 to R515) -/

theorem rakeOp_unserved {op tag since : Nat} {states : State → Bool} {k : State → State} {s : State} (h : s.rakeServes = false) :
    rakeOp op tag since states k s = s := by
  simp [rakeOp, h]

theorem rakeOp_waiting {op tag since : Nat} {states : State → Bool} {k : State → State} {s : State} (h : s.rakeServes = true)
    (hwait : s.svc.response.isSome = true) : rakeOp op tag since states k s =
      { s with svc := { s.svc with frameErr := true, errors := satAdd 8 s.svc.errors 1 } } := by
  simp [rakeOp, h, hwait]

theorem rakeOp_unnegotiated {op tag since : Nat} {states : State → Bool} {k : State → State} {s : State} (h : s.rakeServes = true)
    (hfree : s.svc.response = none) (h1 : op ≠ 1) (h2 : op ≠ 2) (hneg : s.svc.negotiated = false) :
    rakeOp op tag since states k s = rakeReply op tag 0x104 .empty (frameAccepted s) := by
  simp [rakeOp, h, hfree, h1, h2, frameAccepted, hneg]

theorem rakeOp_tooNew {op tag since : Nat} {states : State → Bool} {k : State → State} {s : State} (h : s.rakeServes = true)
    (hfree : s.svc.response = none) (hneg : s.svc.negotiated = true) (hnew : s.svc.major * 256 + s.svc.minor < since) :
    rakeOp op tag since states k s = rakeReply op tag 0xE .empty (frameAccepted s) := by
  simp [rakeOp, h, hfree, frameAccepted, hneg, hnew]

theorem rakeOp_wrongState {op tag since : Nat} {states : State → Bool} {k : State → State} {s : State} (h : s.rakeServes = true)
    (hfree : s.svc.response = none) (hneg : s.svc.negotiated = true) (hold : since ≤ s.svc.major * 256 + s.svc.minor)
    (hst : states (frameAccepted s) = false) :
    rakeOp op tag since states k s = rakeReply op tag 0x103 .empty (frameAccepted s) := by
  simp only [rakeOp, h, hfree]
  simp [show (frameAccepted s).svc = { s.svc with frameErr := false } from rfl, hneg, Nat.not_lt.mpr hold, hst]

/-- HELLO and IDENTIFY, present since version 0, run on a free port whatever was negotiated (R513). -/
theorem rakeOp_always {op tag : Nat} {k : State → State} {s : State} (h : s.rakeServes = true) (hfree : s.svc.response = none)
    (hop : op = 1 ∨ op = 2) : rakeOp op tag 0 State.rakeServes k s = k (frameAccepted s) := by
  have hserves : (frameAccepted s).rakeServes = true := h
  rcases hop with rfl | rfl <;> simp [rakeOp, h, hfree, hserves]

theorem rakeReply_frameAccepted (op tag status : Nat) (p : Payload) (s : State) :
    rakeReply op tag status p (frameAccepted s) = { s with svc := (rakeReply op tag status p (frameAccepted s)).svc } ∧
      (rakeReply op tag status p (frameAccepted s)).RakeAnswered op tag status p := ⟨rfl, rfl⟩

/-! ### The operations of R514 -/

/-- The operations beside HELLO and IDENTIFY, as the obligation lists them: command, code, version it is present since, whether the state
serves it. -/
def rakeOperations (s : State) (tag a b : Nat) (x : Token) : List (Instr × Nat × Nat × Bool) :=
  let run := s.running
  let dl := run || decide (s.dev.st = .recovery)
  [(.regRead tag a b, 0x10, 0x100, true), (.regWrite tag a b, 0x11, 0x100, run || decide (s.dev.st = .reflood)), (.getNonce tag a, 0x20, 0x100, run),
    (.rakeSealBreak tag x true, 0x21, 0x100, run), (.rakeSealClose tag, 0x22, 0x100, run), (.factoryReset tag x, 0x23, 0x100, run),
    (.calibrate tag x [] [], 0x24, 0x200, run), (.installOwner tag ⟨a, 0, 0⟩ true, 0x25, 0x100, run), (.transferOwner tag x ⟨a, 0, 0⟩, 0x26, 0x200, run),
    (.dlBegin tag a b, 0x30, 0x100, dl), (.dlData tag a b none true, 0x31, 0x100, dl), (.dlEnd tag, 0x32, 0x100, dl),
    (.schedule tag a, 0x33, 0x100, run), (.cancel tag, 0x34, 0x100, run), (.updateStatus tag, 0x35, 0x100, true),
    (.bundleBegin tag a, 0x38, 0x200, run), (.bundleData tag a b none, 0x39, 0x200, run), (.bundleEnd tag true none, 0x3A, 0x200, run),
    (.journalRead tag a b 1, 0x40, 0x201, run)]

/-- Each operation is a request of its own code and version. -/
theorem rakeOperations_request {s : State} {tag a b : Nat} {x : Token} {e : Instr × Nat × Nat × Bool}
    (he : e ∈ rakeOperations s tag a b x) : ∃ states k, exec e.1 s = .next (rakeOp e.2.1 tag e.2.2.1 states k s) := by
  simp only [rakeOperations, List.mem_cons, List.not_mem_nil, or_false] at he
  rcases he with rfl | rfl | rfl | rfl | rfl | rfl | rfl | rfl | rfl | rfl | rfl | rfl | rfl | rfl | rfl | rfl | rfl | rfl | rfl
  all_goals exact ⟨_, _, rfl⟩

/-- On a serving port it is one of its states too. -/
theorem rakeOperations_spec {s : State} {tag a b : Nat} {x : Token} (hserves : s.rakeServes = true) {e : Instr × Nat × Nat × Bool}
    (he : e ∈ rakeOperations s tag a b x) : ∃ states k, exec e.1 s = .next (rakeOp e.2.1 tag e.2.2.1 states k s) ∧
      states (frameAccepted s) = e.2.2.2 ∧ e.2.1 ≠ 1 ∧ e.2.1 ≠ 2 := by
  simp only [rakeOperations, List.mem_cons, List.not_mem_nil, or_false] at he
  rcases he with rfl | rfl | rfl | rfl | rfl | rfl | rfl | rfl | rfl | rfl | rfl | rfl | rfl | rfl | rfl | rfl | rfl | rfl | rfl
  all_goals refine ⟨_, _, rfl, ?_, Nat.ne_of_beq_eq_false rfl, Nat.ne_of_beq_eq_false rfl⟩
  any_goals rfl
  all_goals exact hserves

/-! ### HELLO, IDENTIFY and unknown operations (R513 to R515) -/

/-- The version HELLO settles on (R513), as the obligation writes it. -/
theorem commonVersion_eq (high minor low : Nat) : commonVersion high minor low =
    if low ≤ 2 ∧ 2 ≤ high then some (2, if high = 2 ∧ minor = 0 then 0 else 1) else if low ≤ 1 ∧ 1 ≤ high then some (1, 0) else none := by
  have hminor : (if high = 2 then min 1 minor else 1) = if high = 2 ∧ minor = 0 then 0 else 1 := by
    split <;> rename_i hh
    · cases minor <;> simp [hh]
    · simp [hh]
  simp [commonVersion, hminor]

theorem execHello_some {s : State} {tag high minor low : Nat} {v : Nat × Nat} (h : s.rakeServes = true) (hfree : s.svc.response = none)
    (hv : commonVersion high minor low = some v) : execHello tag high minor low s =
      .next (rakeReply 1 tag 0 (.bytes [2, 1, 1, v.1, v.2, 0, 0, 0])
        { frameAccepted s with svc := { (frameAccepted s).svc with negotiated := true, major := v.1, minor := v.2 } }) := by
  rw [execHello, rakeOp_always h hfree (.inl rfl), hv]

theorem execHello_none {s : State} {tag high minor low : Nat} (h : s.rakeServes = true) (hfree : s.svc.response = none)
    (hv : commonVersion high minor low = none) : execHello tag high minor low s =
      .next (rakeReply 1 tag 0xE .empty
        { frameAccepted s with svc := { (frameAccepted s).svc with negotiated := false, major := 0, minor := 0 } }) := by
  rw [execHello, rakeOp_always h hfree (.inl rfl), hv]

theorem leBytes_length (n v : Nat) : (leBytes n v).length = n := by simp [leBytes]

/-- Pieces of one length add up. -/
theorem length_flatMap_alike {α β : Type} {n : Nat} {f : α → List β} (hf : ∀ a, (f a).length = n) (l : List α) :
    (l.flatMap f).length = n * l.length := by
  induction l with
  | nil => rfl
  | cons a l ih => rw [List.flatMap_cons, List.length_append, hf, ih, List.length_cons, Nat.mul_succ, Nat.add_comm]

theorem flatMap_leBytes_length (n : Nat) (l : List Nat) : (l.flatMap (leBytes n)).length = n * l.length :=
  length_flatMap_alike (leBytes_length n) l

theorem readRegs_length (p : Port) (a n : Nat) (s : State) : (readRegs p a n s).length = n := by simp [readRegs]

theorem execIdentify_free {s : State} {tag : Nat} (h : s.rakeServes = true) (hfree : s.svc.response = none) : execIdentify tag s =
    .next (rakeReply 2 tag 0 (.bytes ((readRegs .rake 0 16 (frameAccepted s)).flatMap (leBytes 4) ++
      beBytes 48 s.key.identity.toNat)) (frameAccepted s)) := by
  rw [execIdentify, rakeOp_always h hfree (.inr rfl)]
  rfl

theorem execBadOp_free {s : State} {tag op : Nat} (hop : op ∉ rakeOps) (h : s.rakeServes = true) (hfree : s.svc.response = none) :
    execBadOp tag op s = .next (rakeReply op tag (if s.svc.negotiated then 0x101 else 0x104) .empty (frameAccepted s)) := by
  have h1 : op ≠ 1 := by rintro rfl; exact hop (by decide)
  have h2 : op ≠ 2 := by rintro rfl; exact hop (by decide)
  have hserves : (frameAccepted s).rakeServes = true := h
  rw [execBadOp, if_neg (by simpa using hop)]
  cases hneg : s.svc.negotiated
  · rw [rakeOp_unnegotiated h hfree h1 h2 hneg]
    rfl
  · rw [rakeOp_served h hfree hneg (Nat.zero_le _) hserves]
    rfl

/-- READ_STATUS's byte (R509). -/
theorem rakeStatus_eq (s : State) : s.rakeStatus = (if s.svc.response.isSome then 1 else 0) + (if s.svc.event then 4 else 0) +
    (if s.svc.frameErr then 8 else 0) + 16 * s.dev.st.code := by
  have hcode : s.dev.st.code < 16 := by cases s.dev.st <;> decide
  unfold State.rakeStatus
  simp only [pack, b2n]
  cases s.svc.response.isSome <;> cases s.svc.event <;> cases s.svc.frameErr <;> simp <;> omega

/-- A frame whose CRC fails, on a port where no answer waits (R512). -/
theorem execRakeFrameError_badCrc {s : State} (h : s.rakeServes = true) (hfree : s.svc.response = none) :
    ∃ f : RakeFrame, f.status = 0x100 ∧ execRakeFrameError .badCrc s = .next { s with
      svc := { s.svc with errors := satAdd 8 s.svc.errors 1, response := some f, frameErr := false }, free := s.free + 2 } := by
  refine ⟨⟨((Config.number s.free).setWidth 16).toNat, ((Config.number (s.free + 1)).setWidth 16).toNat, 0x100, .empty⟩, rfl, ?_⟩
  simp [execRakeFrameError, h, hfree]

theorem execRakeFrameError_dropped {s : State} (e : RakeError) (h : s.rakeServes = true)
    (he : e ≠ .badCrc ∨ s.svc.response.isSome = true) : execRakeFrameError e s = .next { s with
      svc := { s.svc with frameErr := true, errors := satAdd 8 s.svc.errors 1 } } := by
  cases e
  case badCrc =>
    have hwait : s.svc.response.isSome = true := he.resolve_left (fun hne => hne rfl)
    simp [execRakeFrameError, h, hwait]
  all_goals simp [execRakeFrameError, h]

/-! ### The obligation's clauses -/

theorem yields_hello {s : State} (tag high minor low : Nat) (h : s.rakeServes = true) (hfree : s.svc.response = none) :
    let version : Option (Nat × Nat) :=
      if low ≤ 2 ∧ 2 ≤ high then some (2, if high = 2 ∧ minor = 0 then 0 else 1) else if low ≤ 1 ∧ 1 ≤ high then some (1, 0) else none
    (∀ v, version = some v → Yields (.hello tag high minor low) s fun t =>
      t = { s with svc := t.svc } ∧ t.svc.negotiated = true ∧ t.svc.major = v.1 ∧ t.svc.minor = v.2 ∧
        t.RakeAnswered 1 tag 0 (.bytes [2, 1, 1, v.1, v.2, 0, 0, 0])) ∧
    (version = none → Yields (.hello tag high minor low) s fun t =>
      t = { s with svc := t.svc } ∧ t.svc.negotiated = false ∧ t.RakeAnswered 1 tag 0xE .empty) := by
  intro version
  have hversion : commonVersion high minor low = version := commonVersion_eq high minor low
  exact ⟨fun v hv => ⟨_, execHello_some h hfree (hversion.trans hv), rfl, rfl, rfl, rfl, rfl⟩,
    fun hv => ⟨_, execHello_none h hfree (hversion.trans hv), rfl, rfl, rfl⟩⟩

theorem yields_identify {s : State} (tag : Nat) (h : s.rakeServes = true) (hfree : s.svc.response = none) :
    Yields (.identify tag) s fun t => t = { s with svc := t.svc } ∧ t.svc.negotiated = s.svc.negotiated ∧ ∃ bs, bs.length = 64 ∧
      t.RakeAnswered 2 tag 0 (.bytes (bs ++ beBytes 48 s.key.identity.toNat)) := by
  refine ⟨_, execIdentify_free h hfree, rfl, rfl, _, ?_, rfl⟩
  rw [flatMap_leBytes_length, readRegs_length]

/-- The codes of R514, as the obligation lists them. -/
theorem yields_badOp {s : State} (tag : Nat) {op : Nat} (hop : op ∉ rakeOps) (h : s.rakeServes = true) (hfree : s.svc.response = none) :
    (s.svc.negotiated = true → Yields (.badOp tag op) s fun t => t = { s with svc := t.svc } ∧ t.RakeAnswered op tag 0x101 .empty) ∧
    (s.svc.negotiated = false → Yields (.badOp tag op) s fun t => t = { s with svc := t.svc } ∧ t.RakeAnswered op tag 0x104 .empty) := by
  have hnext := execBadOp_free (tag := tag) hop h hfree
  refine ⟨fun hneg => ⟨_, hnext, ?_⟩, fun hneg => ⟨_, hnext, ?_⟩⟩
  · rw [hneg]
    exact rakeReply_frameAccepted ..
  · rw [hneg]
    exact rakeReply_frameAccepted ..

/-- What an operation meets on a port where no answer waits (R513 to R515). -/
theorem yields_rakeOperation {s : State} {tag a b : Nat} {x : Token} (h : s.rakeServes = true) (hfree : s.svc.response = none)
    {e : Instr × Nat × Nat × Bool} (he : e ∈ rakeOperations s tag a b x) :
    (s.svc.negotiated = false → Yields e.1 s fun t => t = { s with svc := t.svc } ∧ t.RakeAnswered e.2.1 tag 0x104 .empty) ∧
    (s.svc.negotiated = true → s.svc.major * 256 + s.svc.minor < e.2.2.1 → Yields e.1 s fun t =>
      t = { s with svc := t.svc } ∧ t.RakeAnswered e.2.1 tag 0xE .empty) ∧
    (s.svc.negotiated = true → e.2.2.1 ≤ s.svc.major * 256 + s.svc.minor → e.2.2.2 = false → Yields e.1 s fun t =>
      t = { s with svc := t.svc } ∧ t.RakeAnswered e.2.1 tag 0x103 .empty) := by
  obtain ⟨states, k, hexec, hstates, h1, h2⟩ := rakeOperations_spec h he
  refine ⟨fun hneg => ⟨_, hexec.trans (congrArg _ (rakeOp_unnegotiated h hfree h1 h2 hneg)), rakeReply_frameAccepted ..⟩,
    fun hneg hnew => ⟨_, hexec.trans (congrArg _ (rakeOp_tooNew h hfree hneg hnew)), rakeReply_frameAccepted ..⟩,
    fun hneg hold hst => ⟨_, hexec.trans (congrArg _ (rakeOp_wrongState h hfree hneg hold (hstates.trans hst))),
      rakeReply_frameAccepted ..⟩⟩

theorem yields_rakeOperation_waiting {s : State} {tag a b : Nat} {x : Token} (h : s.rakeServes = true)
    (hwait : s.svc.response.isSome = true) {e : Instr × Nat × Nat × Bool} (he : e ∈ rakeOperations s tag a b x) :
    Yields e.1 s fun t => t = { s with svc := { s.svc with frameErr := true, errors := satAdd 8 s.svc.errors 1 } } := by
  obtain ⟨states, k, hexec, -, -, -⟩ := rakeOperations_spec h he
  exact ⟨_, hexec.trans (congrArg _ (rakeOp_waiting h hwait)), rfl⟩

theorem yields_rakeOperation_unserved {s : State} {tag a b : Nat} {x : Token} (h : s.rakeServes = false)
    {e : Instr × Nat × Nat × Bool} (he : e ∈ rakeOperations s tag a b x) : Yields e.1 s fun t => t = s := by
  obtain ⟨states, k, hexec⟩ := rakeOperations_request he
  exact ⟨_, hexec.trans (congrArg _ (rakeOp_unserved h)), rfl⟩

/-- Settles O54. -/
theorem rakePort : Obligations.RakePort := by
  unfold Obligations.RakePort
  refine ⟨fun s h => ⟨⟨_, congrArg Host.Outcome.next (if_pos h), ?_⟩, ⟨_, congrArg Host.Outcome.next (if_pos h), rfl⟩,
      ⟨_, congrArg Host.Outcome.next (if_pos h), rfl⟩, fun e he => ⟨_, execRakeFrameError_dropped e h he, rfl⟩, fun hfree => ?_⟩,
    fun s tag h hfree => ⟨fun high minor low => yields_hello tag high minor low h hfree, yields_identify tag h hfree,
      fun op hop => yields_badOp tag hop h hfree, fun a b x e he => yields_rakeOperation h hfree he⟩,
    fun s tag a b x h hwait e he => yields_rakeOperation_waiting h hwait he,
    fun s tag a b x h => ?_⟩
  · rw [rakeStatus_eq]
  · obtain ⟨f, hf, hnext⟩ := execRakeFrameError_badCrc h hfree
    exact ⟨_, hnext, ⟨f, rfl, hf⟩, rfl, rfl, rfl⟩
  · have hno : ¬ s.rakeServes = true := by simp [h]
    have hnext : ∀ u : State, Host.Outcome.next (if s.rakeServes then u else s) = (.next s : Host.Outcome State Fault Refusal) :=
      fun u => congrArg Host.Outcome.next (if_neg hno)
    exact ⟨⟨_, hnext _, rfl⟩, ⟨_, hnext _, rfl⟩, ⟨_, hnext _, rfl⟩, ⟨_, congrArg Host.Outcome.next (rakeOp_unserved h), rfl⟩, fun e he => yields_rakeOperation_unserved h he⟩

end Sys2Proof.Machine
end

section
/-!
PROOFS. Refutations by one state: running with a start due. The obligations on Rake Port requests ask that the device is alive and the
port's frame is free (`State.RakeReady`); they do not ask that no start is due, and then the port does not answer (R508, R509).
-/
namespace Sys2Proof.Machine

/-- Running, version 2.1 negotiated, no answer waiting, and a start due. -/
def startDueTool : State := { State.reset with
  dev := { State.reset.dev with st := .unarmed, startDue := true }, svc := { negotiated := true, major := 2, minor := 1 } }

theorem startDueTool_ready {since : Nat} (h : since ≤ 0x201) : startDueTool.RakeReady since := ⟨rfl, rfl, rfl, h⟩

theorem startDueTool_running : startDueTool.running = true := rfl

/-- A request of the Rake Port leaves this state as it is, so it has no answer. -/
theorem startDueTool_unanswered {i : Instr} {P : State → Prop} {op tag since : Nat} {states : State → Bool} {k : State → State}
    (hexec : exec i startDueTool = .next (rakeOp op tag since states k startDueTool))
    (hP : ∀ t, P t → t.svc.response.isSome = true) : ¬ Yields i startDueTool P := by
  rintro ⟨t, hnext, ht⟩
  rw [hexec, rakeOp_unserved rfl] at hnext
  obtain rfl := Host.Outcome.next.inj hnext
  exact Bool.false_ne_true (hP _ ht)

/-- Refutes O46: with a start due UPDATE_STATUS is not answered. -/
theorem not_downloads : ¬ Obligations.Downloads := by
  unfold Obligations.Downloads
  rintro ⟨-, -, -, -, hstatus, -⟩
  refine startDueTool_unanswered rfl ?_ (hstatus startDueTool 0 (startDueTool_ready (by decide)))
  rintro t ⟨-, hanswer⟩
  rw [hanswer]
  rfl

/-- Refutes O47: with a start due SCHEDULE is not answered. -/
theorem not_activation : ¬ Obligations.Activation := by
  unfold Obligations.Activation
  rintro ⟨-, hrake⟩
  obtain ⟨hfree, -⟩ := hrake startDueTool 0 0 (startDueTool_ready (by decide)) startDueTool_running
  refine startDueTool_unanswered rfl ?_ (hfree rfl).1
  rintro t ⟨c, -, hanswer⟩
  rw [hanswer]
  rfl

/-- Refutes O48: with a start due JOURNAL_READ is not answered. -/
theorem not_stagingAndJournal : ¬ Obligations.StagingAndJournal := by
  unfold Obligations.StagingAndJournal
  rintro ⟨-, -, -, -, hbad⟩
  refine startDueTool_unanswered rfl ?_ (hbad startDueTool 0 0 0 0 (startDueTool_ready (Nat.le_refl _)) startDueTool_running (.inl rfl))
  rintro t ⟨-, hanswer⟩
  rw [hanswer]
  rfl

/-- Refutes O49: with a start due INSTALL_OWNER is not answered. -/
theorem not_ownerRequests : ¬ Obligations.OwnerRequests := by
  unfold Obligations.OwnerRequests
  rintro ⟨-, -, -, -, hinstall⟩
  obtain ⟨-, -, hbad⟩ := hinstall startDueTool 0 ⟨0, 0, 0⟩ false ⟨startDueTool_ready (by decide), startDueTool_running⟩
  refine startDueTool_unanswered rfl ?_ (hbad rfl)
  rintro t ⟨-, hanswer⟩
  rw [hanswer]
  rfl

/-- Refutes O53: with a start due BUNDLE_BEGIN is not answered NOT_MASTER. -/
theorem not_groupUpdate : ¬ Obligations.GroupUpdate := by
  unfold Obligations.GroupUpdate
  rintro ⟨-, -, -, -, -, -, -, -, hbundle⟩
  obtain ⟨hmember, -⟩ := hbundle startDueTool 0 0 0 none false none (startDueTool_ready (by decide)) startDueTool_running
  refine startDueTool_unanswered rfl ?_ (hmember (by decide)).1
  rintro t ⟨-, hanswer⟩
  rw [hanswer]
  rfl

/-- Refutes O55: with a start due REG_READ of no registers is not answered OVERSIZE. -/
theorem not_registerAccess : ¬ Obligations.RegisterAccess := by
  unfold Obligations.RegisterAccess
  rintro ⟨hread, -⟩
  obtain ⟨-, hsize, -⟩ := hread startDueTool 0 0 0 (startDueTool_ready (by decide))
  refine startDueTool_unanswered rfl ?_ (hsize (.inl rfl))
  rintro t ⟨-, hanswer⟩
  rw [hanswer]
  rfl

end Sys2Proof.Machine
end

section
/-!
PROOFS. A save that the holder of cell 1 asks for (R129), the always-on clock (R551), the boundary-scan port (R555) and the telemetry
target (R518 to R520).
-/
namespace Sys2Proof.Machine

/-! ### Harvest Now (R129) -/

theorem sanitizeAtSave_planned (s : State) : (sanitizeAtSave s).hrv.planned = s.hrv.planned := by
  unfold sanitizeAtSave
  (repeat' split) <;> rfl

/-- The last act of a save's start keeps how it began and what was answered. -/
theorem endDataIf_planned (c : Prop) [Decidable c] (b : Bool) {w : State} (hw : w.saving = true) :
    (if c then endData b w else settle w).hrv.planned = w.hrv.planned ∧
      (if c then endData b w else settle w).replies = w.replies := by
  split
  · refine ⟨?_, by simp⟩
    unfold endData
    split <;> simp [markEnd]
  · exact ⟨settle_save (fun s => s.hrv.planned) (fun _ _ _ => rfl) w (saving_not_running hw), by simp⟩

/-- A save is planned exactly where Harvest Now began it, and no mailbox answer changes (R128, R129). -/
theorem beginSave_planned (tr : Trigger) (n : Nat) (s : State) :
    (beginSave tr n s).hrv.planned = decide (tr = .harvestNow) ∧ (beginSave tr n s).replies = s.replies := by
  unfold beginSave
  dsimp only
  generalize hv : cascadeTrigger tr (disarmStop 9 (holdSettings (endPause 5 (salCut s)))) = v
  have hreplies : v.replies = s.replies := by rw [← hv]; simp
  generalize hu : setPoints _ = u
  have hplanned : u.hrv.planned = decide (tr = .harvestNow) ∧ u.dev.st = .harvest ∧ u.replies = v.replies := by
    rw [← hu]
    simp [setPoints, sanitizeAtSave_planned]
  obtain ⟨hplanned, hst, hsame⟩ := hplanned
  generalize hw : u.journal _ = w
  have hfields : w.hrv = u.hrv ∧ w.dev = u.dev ∧ w.replies = u.replies := by rw [← hw]; exact ⟨rfl, rfl, rfl⟩
  obtain ⟨hhrv, hdev, hrep⟩ := hfields
  obtain ⟨hend, hendReplies⟩ := endDataIf_planned ((w.hrv.sanitized || !v.sal.valid) = true) (!w.hrv.sanitized)
    (show w.saving = true by simp [State.saving, hdev, hst])
  rw [hend, hendReplies, hhrv, hrep, hsame]
  exact ⟨hplanned, hreplies⟩

/-- Harvest Now with its guard passed (R129, R276). -/
theorem execHarvestNow_guarded {s : State} {h : Head} {gen : BitVec 16} (c : Bool) (hserved : s.served h = true)
    (hgen : (s.cell 1).gen = gen) (hholds : s.holds h 1 = true) : execHarvestNow h gen c s =
      .next (if !s.running || !s.sal.holdArm then reply h 0xC111 3 .empty s
        else if c || s.pip.sanStep ≠ 0 then reply h 0xC111 4 .empty s
        else beginSave .harvestNow 0 (reply h 0xC111 0 .empty s)) := by
  rw [execHarvestNow, guarded_served hserved (fun hno => absurd hno Bool.false_ne_true) hgen hholds]

/-- Settles O21. -/
theorem plannedShutdown : Obligations.PlannedShutdown := by
  unfold Obligations.PlannedShutdown
  intro s h gen hserved hgen hholds
  have hnext := fun c => execHarvestNow_guarded c hserved hgen hholds
  refine ⟨fun hrun harm hsan => ?_, fun c hno => ?_, fun c hrun harm hbusy => ?_⟩
  · refine ⟨beginSave .harvestNow 0 (reply h 0xC111 0 .empty s), by simp [hnext, hrun, harm, hsan], ?_⟩
    obtain ⟨hst, hhold, htrigger, -, hheld, -, -⟩ := beginSave_spec .harvestNow 0 (reply h 0xC111 0 .empty s)
    obtain ⟨hplanned, hreplies⟩ := beginSave_planned .harvestNow 0 (reply h 0xC111 0 .empty s)
    refine ⟨hst, htrigger, hplanned, hhold, hheld, ?_⟩
    rw [hreplies]
    simp [reply, perHead_get_set, cxlCode]
  · refine ⟨_, hnext c, if_pos ?_⟩
    rcases hno with hno | hno <;> simp [hno]
  · refine ⟨_, hnext c, ?_⟩
    rw [if_neg (by simp [hrun, harm]), if_pos (by simpa using hbusy)]

/-! ### The always-on clock (R551) -/

theorem execAonClockStop_on {s : State} (hon : s.dev.st ≠ .off) (hclock : s.pins.rcClock = false) :
    execAonClockStop s = .next (fltRaise 0x94 0 { s with pins := { s.pins with rcClock := true } }) := by
  simp [execAonClockStop, hon, hclock]

theorem alive_not_off {s : State} (h : s.alive = true) : s.dev.st ≠ .off := by
  intro hoff
  simp [State.alive, hoff] at h

theorem fltRaise_rcClock_of_mild {src : Nat} (arg : Nat) {s : State} (h : MildEvent src s) :
    (fltRaise src arg s).pins.rcClock = s.pins.rcClock := by
  rw [fltRaise_of_mild arg h, fltReact_low (fun u => u.pins.rcClock) (fun _ _ _ _ => rfl) _ _ _ h.level_le]
  simp [recorded, setErrN]

/-- A stopped clock's event is mild: it is recorded, and beside the Collector, Tally and the pins only vectors are pending (R369). -/
theorem yields_aonClockStop {s : State} (halive : s.alive = true) (hclock : s.pins.rcClock = false) (hsave : s.saving = false)
    (hmask : s.flt.masked.contains 0x94 = false) (hmild : s.mild 0x94 = true) : Yields .aonClockStop s fun t =>
      t.pins.rcClock = true ∧ t.flt.sticky.contains 0x94 = true ∧ t.dev = s.dev ∧ t.map = s.map ∧ t.bed = s.bed ∧
        t.jrn = s.jrn ∧ ∀ x, t.byteAt x = s.byteAt x := by
  refine ⟨_, execAonClockStop_on (alive_not_off halive) hclock, ?_⟩
  have hevent : MildEvent 0x94 { s with pins := { s.pins with rcClock := true } } :=
    MildEvent.congr ⟨by decide, halive, hmask, hsave, hmild⟩ rfl rfl rfl
  have hkept : ∀ {β : Type} (π : State → β) (_ : ∀ (s : State) xf xt a b xp, π { s with
      flt := xf, tly := xt, heads := ⟨{ s.heads.a with msix := a }, { s.heads.b with msix := b }⟩, pins := xp } = π s), _ :=
    fun π hπ => fltRaise_low π hπ 0x94 0 { s with pins := { s.pins with rcClock := true } } hevent.unsaving hevent.level_le hevent.room
  refine ⟨?_, ?_, hkept (fun u => u.dev) (fun _ _ _ _ _ _ => rfl), hkept (fun u => u.map) (fun _ _ _ _ _ _ => rfl),
    hkept (fun u => u.bed) (fun _ _ _ _ _ _ => rfl), hkept (fun u => u.jrn) (fun _ _ _ _ _ _ => rfl),
    fun x => hkept (fun u => u.byteAt x) (fun _ _ _ _ _ _ => rfl)⟩
  · rw [fltRaise_rcClock_of_mild 0 hevent]
  · rw [fltRaise_sticky_of_mild 0 hevent, setAdd_contains, beq_self_eq_true, Bool.true_or]

/-! ### The boundary-scan port (R555) -/

theorem tapOn_of {s : State} (hup : s.dev.mainUp = true) (hoff : s.dev.st ≠ .off) (hsealed : s.dev.st ≠ .sealed) : s.tapOn = true := by
  simp [State.tapOn, hup, hoff, hsealed]

theorem tapTakes_released {s : State} {rstLow : Bool} {f : State → State} (hon : s.tapOn = true) (hno : rstLow = false ∨ s.saving = true) :
    tapTakes rstLow f s = tapBypass s := by
  rcases hno with hno | hno <;> simp [tapTakes, hon, hno]

theorem tapTakes_taken {s : State} {f : State → State} (hon : s.tapOn = true) (hsave : s.saving = false) :
    tapTakes true f s = f s := by
  simp [tapTakes, hon, hsave]

theorem tapTakes_off {s : State} {rstLow : Bool} {f : State → State} (hoff : s.tapOn = false) : tapTakes rstLow f s = s := by
  simp [tapTakes, hoff]

theorem execBypass_unlisted {s : State} {c : Nat} (hon : s.tapOn = true) (hc : c < 256) (hlist : c ∉ [0x00, 0x01, 0x02, 0x04, 0x05]) :
    execBypass c s = .next (tapBypass s) := by
  rw [execBypass, if_pos]
  rw [Nat.mod_eq_of_lt hc]
  simpa [hon] using hlist

/-- Settles O57. -/
theorem clockAndScan : Obligations.ClockAndScan := by
  unfold Obligations.ClockAndScan
  refine ⟨fun s => yields_aonClockStop, fun s hon hclock => ⟨⟨s, by simp [execAonClockStop, hclock], rfl⟩,
      ⟨_, congrArg Host.Outcome.next (if_pos (by simp [hon, hclock])), rfl, rfl, rfl⟩⟩, fun s hup hoff hsealed => ?_, fun s r hdown => ?_⟩
  · have hon := tapOn_of hup hoff hsealed
    have hreleased : ∀ {r f}, r = false ∨ s.saving = true → Host.Outcome.next (tapTakes r f s) =
        (.next (tapBypass s) : Host.Outcome State Fault Refusal) := fun h => congrArg _ (tapTakes_released hon h)
    have htaken : ∀ {f}, s.saving = false → Host.Outcome.next (tapTakes true f s) =
        (.next (f s) : Host.Outcome State Fault Refusal) := fun h => congrArg _ (tapTakes_taken hon h)
    exact ⟨⟨_, congrArg Host.Outcome.next (if_pos hon), rfl⟩,
      fun v => ⟨_, congrArg Host.Outcome.next (if_pos hon), rfl, rfl, rfl, rfl, rfl⟩,
      fun c hc hlist => ⟨_, execBypass_unlisted hon hc hlist, rfl⟩,
      fun hsave => ⟨⟨_, htaken hsave, rfl, rfl, rfl, rfl⟩, ⟨_, htaken hsave, rfl⟩, ⟨_, htaken hsave, rfl⟩⟩,
      fun r hno => ⟨⟨_, hreleased hno, rfl⟩, ⟨_, hreleased hno, rfl⟩, ⟨_, hreleased hno, rfl⟩⟩⟩
  · have hoff : s.tapOn = false := by simp [State.tapOn, hdown]
    exact ⟨⟨_, congrArg Host.Outcome.next (if_neg (by simp [hoff])), rfl⟩, ⟨_, congrArg Host.Outcome.next (tapTakes_off hoff), rfl⟩,
      ⟨_, congrArg Host.Outcome.next (tapTakes_off hoff), rfl⟩⟩

/-! ### Telemetry pages (R519, R520) -/

theorem beBytes_length (n v : Nat) : (beBytes n v).length = n := by simp [beBytes, leBytes_length]

theorem pageRegs_length (s : State) (l : List Nat) : (pageRegs s l).length = 4 * l.length := by
  exact length_flatMap_alike (fun a => leBytes_length 4 (readReg .rake a s)) l

theorem pagePmb_length (s : State) (n : Nat) : (pagePmb s n).length = 8 := by
  unfold pagePmb
  dsimp only
  split
  · simp [leBytes_length]
  · simp

theorem pageBytes_length (s : State) {p : Nat} (hp : p ≤ 7) : (pageBytes s p).length = 32 := by
  match p, hp with
  | 0, _ => simp [pageBytes, leBytes_length, beBytes_length]
  | 1, _ | 3, _ | 7, _ => simp [pageBytes, pageRegs_length]
  | 2, _ | 4, _ => simp [pageBytes, pageRegs_length]
  | 5, _ => simp [pageBytes, pageRegs_length, leBytes_length]
  | 6, _ => simp [pageBytes, pagePmb_length]

theorem pageBytes_above {p : Nat} (hp : 7 < p) (s : State) : pageBytes s p = [] := by
  match p, hp with
  | n + 8, _ => rfl

theorem execTelemetryPageRead_page {s : State} (p : Nat) (halive : s.alive = true) : execTelemetryPageRead p false s = .next { s with
    svc := { s.svc with page := pageBytes s p, reads := if p ≤ 7 then satAdd 24 s.svc.reads 1 else s.svc.reads }
    free := if p = 2 then s.free + 24 else s.free } := by
  simp [execTelemetryPageRead, halive]

theorem execTelemetryPageRead_wrongPec {s : State} (p : Nat) (halive : s.alive = true) : execTelemetryPageRead p true s = .next { s with
    svc := { s.svc with page := [], pecErr := satAdd 8 s.svc.pecErr 1 } } := by
  simp [execTelemetryPageRead, halive]

/-- A page of 0x00 to 0x07 is handed out and counted (R519, R520). -/
theorem yields_telemetryPageRead {s : State} {p : Nat} (halive : s.alive = true) (hp : p ≤ 7) :
    Yields (.telemetryPageRead p false) s fun t =>
      t.svc.page = pageBytes s p ∧ t.svc.page.length = 32 ∧ t.svc.reads = satAdd 24 s.svc.reads 1 ∧ (p ≠ 2 → t = { s with svc := t.svc }) ∧
      t = { s with svc := { s.svc with page := t.svc.page, reads := t.svc.reads }, free := t.free } :=
  ⟨_, execTelemetryPageRead_page p halive, rfl, pageBytes_length s hp, if_pos hp, fun h2 => by simp [h2], rfl⟩

theorem yields_telemetryPageRead_above {s : State} {p : Nat} (halive : s.alive = true) (hp : 7 < p) :
    Yields (.telemetryPageRead p false) s fun t => t = { s with svc := { s.svc with page := [] } } := by
  refine ⟨_, execTelemetryPageRead_page p halive, ?_⟩
  have h7 : ¬ p ≤ 7 := Nat.not_le.mpr hp
  have h2 : p ≠ 2 := by omega
  simp [pageBytes_above hp, h7, h2]

/-! ### The I3C target (R518) -/

theorem ccc_target {f : State → State} {s : State} (halive : s.alive = true) (hi3c : s.svc.i3c = true) : ccc f s = f s := by
  simp [ccc, halive, hi3c]

theorem ccc_other {f : State → State} {s : State} (h : s.svc.i3c = false) : ccc f s = s := by simp [ccc, h]

theorem setWidth_512_lt {n w : Nat} (x : BitVec n) : ((x.setWidth w).setWidth 512).toNat < 2 ^ w := by
  rw [BitVec.toNat_setWidth]
  exact Nat.lt_of_le_of_lt (Nat.mod_le _ _) (x.setWidth w).isLt

theorem cccConstant_tells (which w : Nat) (s : State) :
    (∃ n : BitVec 512, n.toNat < 2 ^ w ∧ cccConstant which w s =
      { s with svc := { s.svc with i3cAnswer := .blob n }, free := (cccConstant which w s).free }) ∧ (cccConstant which w s).free = s.free :=
  ⟨⟨_, setWidth_512_lt _, rfl⟩, rfl⟩

theorem maskOf_range_succ (f : Nat → Bool) (n : Nat) :
    maskOf ((List.range (n + 1)).filter f) = maskOf ((List.range n).filter f) + if f n then 2 ^ n else 0 := by
  unfold maskOf
  rw [List.range_succ, List.filter_append, List.foldl_append]
  cases hf : f n <;> simp [hf]

theorem maskOf_range_lt (f : Nat → Bool) (n : Nat) : maskOf ((List.range n).filter f) < 2 ^ n := by
  induction n with
  | zero => simp [maskOf]
  | succ n ih =>
    rw [maskOf_range_succ, Nat.pow_succ]
    split <;> omega

/-- A mask of the bits below a width has exactly those bits. -/
theorem maskOf_range_testBit (f : Nat → Bool) {n k : Nat} (hk : k < n) : (maskOf ((List.range n).filter f)).testBit k = f k := by
  induction n with
  | zero => exact absurd hk (Nat.not_lt_zero k)
  | succ n ih =>
    rw [maskOf_range_succ]
    rcases Nat.lt_succ_iff_lt_or_eq.mp hk with hlt | rfl
    · split
      · rw [Nat.add_comm, Nat.testBit_two_pow_add_gt hlt, ih hlt]
      · exact ih hlt
    · have hbelow := Nat.testBit_lt_two_pow (maskOf_range_lt f k)
      split <;> rename_i hf
      · rw [Nat.add_comm, Nat.testBit_two_pow_add_eq, hbelow, hf]
        rfl
      · rw [Nat.add_zero, hbelow, Bool.not_eq_true _ |>.mp hf]

theorem execEntdaa_new {s : State} {a : Nat} (halive : s.alive = true) (hi3c : s.svc.i3c = false) (ha : a < 128) :
    execEntdaa a s = .next { s with svc := { s.svc with i3c := true, dynAddr := a } } := by
  simp [execEntdaa, halive, hi3c, assignAddr, Nat.mod_eq_of_lt ha]

theorem execSetdasa_new {s : State} {a : Nat} (halive : s.alive = true) (hi3c : s.svc.i3c = false) (ha : a < 128) :
    execSetdasa s.svc.staticAddr a s = .next { s with svc := { s.svc with i3c := true, dynAddr := a } } := by
  simp [execSetdasa, halive, hi3c, assignAddr, Nat.mod_eq_of_lt ha]

theorem assignAddr_target {s : State} {a : Nat} (hi3c : s.svc.i3c = true) (ha : a < 128) :
    assignAddr a s = { s with svc := { s.svc with dynAddr := a } } := by
  simp [assignAddr, ← hi3c, Nat.mod_eq_of_lt ha]

/-- A target without a dynamic address takes one, and answers no code (R518). -/
theorem yields_i3c_static {s : State} {a : Nat} (halive : s.alive = true) (ha : a < 128) (hi3c : s.svc.i3c = false) :
    (Yields (.entdaa a) s fun t => t = { s with svc := { s.svc with i3c := true, dynAddr := a } }) ∧
    (Yields (.setdasa s.svc.staticAddr a) s fun t => t = { s with svc := { s.svc with i3c := true, dynAddr := a } }) ∧
    (∀ b, b ≠ s.svc.staticAddr → Yields (.setdasa b a) s fun t => t = s) ∧
    (Yields (.setnewda a) s fun t => t = s) ∧ (Yields .getpid s fun t => t = s) ∧ Yields (.enec a) s fun t => t = s := by
  have hother : ∀ f, Host.Outcome.next (ccc f s) = (.next s : Host.Outcome State Fault Refusal) := fun f => congrArg _ (ccc_other hi3c)
  exact ⟨⟨_, execEntdaa_new halive hi3c ha, rfl⟩, ⟨_, execSetdasa_new halive hi3c ha, rfl⟩,
    fun b hb => ⟨_, congrArg Host.Outcome.next (if_neg (by simp [hb])), rfl⟩, ⟨_, hother _, rfl⟩, ⟨_, hother _, rfl⟩, ⟨_, hother _, rfl⟩⟩

/-- A target with a dynamic address answers the codes (R518). -/
theorem yields_i3c_dynamic {s : State} {a : Nat} (halive : s.alive = true) (ha : a < 128) (hi3c : s.svc.i3c = true) :
    let tells : Nat → State → Prop := fun w t => ∃ n : BitVec 512, n.toNat < 2 ^ w ∧
      t = { s with svc := { s.svc with i3cAnswer := .blob n }, free := t.free }
    (Yields (.setnewda a) s fun t => t = { s with svc := { s.svc with dynAddr := a } }) ∧
    (Yields .getpid s fun t => tells 48 t ∧ t.free = s.free) ∧ (Yields .getbcr s fun t => tells 8 t ∧ t.free = s.free) ∧
    (Yields .getdcr s fun t => tells 8 t ∧ t.free = s.free) ∧ (Yields .getmwl s fun t => tells 16 t ∧ t.free = s.free) ∧
    (Yields .getmrl s fun t => tells 16 t ∧ t.free = s.free) ∧ (Yields .getstatus s fun t => tells 16 t) ∧
    (∀ e, Yields (.enec e) s fun t => t = { s with svc := { s.svc with i3cEvents := t.svc.i3cEvents } } ∧
      ∀ k, k < 8 → t.svc.i3cEvents.testBit k = (s.svc.i3cEvents.testBit k || e.testBit k)) ∧
    (∀ e, Yields (.disec e) s fun t => t = { s with svc := { s.svc with i3cEvents := t.svc.i3cEvents } } ∧
      ∀ k, k < 8 → t.svc.i3cEvents.testBit k = (s.svc.i3cEvents.testBit k && !e.testBit k)) := by
  intro tells
  have htaken : ∀ f, Host.Outcome.next (ccc f s) = (.next (f s) : Host.Outcome State Fault Refusal) :=
    fun f => congrArg _ (ccc_target halive hi3c)
  refine ⟨⟨_, htaken _, assignAddr_target hi3c ha⟩, ⟨_, htaken _, cccConstant_tells 0 _ s⟩,
    ⟨_, htaken _, cccConstant_tells 1 _ s⟩, ⟨_, htaken _, cccConstant_tells 2 _ s⟩,
    ⟨_, htaken _, cccConstant_tells 3 _ s⟩, ⟨_, htaken _, cccConstant_tells 4 _ s⟩,
    ⟨_, htaken _, _, setWidth_512_lt _, rfl⟩, fun e => ⟨_, htaken _, rfl, fun k hk => ?_⟩,
    fun e => ⟨_, htaken _, rfl, fun k hk => maskOf_range_testBit _ hk⟩⟩
  rw [Nat.testBit_or, show (256 : Nat) = 2 ^ 8 from rfl, Nat.testBit_mod_two_pow]
  simp [hk]

/-- Settles O56. -/
theorem telemetryTarget : Obligations.TelemetryTarget := by
  unfold Obligations.TelemetryTarget
  refine ⟨fun s halive => ⟨fun p hp => ?_, fun p hp => yields_telemetryPageRead_above halive hp,
      fun p => ⟨_, execTelemetryPageRead_wrongPec p halive, rfl⟩, ⟨_, congrArg Host.Outcome.next (if_pos halive), rfl⟩,
      fun a ha hi3c => yields_i3c_static halive ha hi3c, fun a ha hi3c => yields_i3c_dynamic halive ha hi3c⟩,
    ⟨((Config.i3cConstant 0).setWidth 48).setWidth 512, fun s halive hi3c => ⟨_, congrArg Host.Outcome.next (ccc_target halive hi3c), rfl⟩⟩,
    fun s a hdead => ?_⟩
  · obtain ⟨t, hnext, hpage, hlength, hreads, hframe, hfields⟩ := yields_telemetryPageRead halive hp
    refine ⟨t, hnext, hlength, hreads, hframe, hfields, ?_, ?_, ?_, ?_, ?_⟩
    · rintro rfl
      rw [hpage]
      rfl
    · rintro rfl
      rw [hpage]
      rfl
    · rintro rfl
      rw [hpage]
      rfl
    · rintro rfl
      rw [hpage]
      rfl
    · rintro rfl
      rw [hpage]
      rfl
  · have hno : ¬ s.alive = true := by simp [hdead]
    exact ⟨⟨_, congrArg Host.Outcome.next (if_pos (by simp [hdead])), rfl⟩, ⟨_, congrArg Host.Outcome.next (if_neg (by simp [hdead])), rfl⟩,
      ⟨_, congrArg Host.Outcome.next (if_neg hno), rfl⟩⟩

end Sys2Proof.Machine
end

section
/-!
PROOFS. The Fault Collector (R365 to R371, R378, R381): what an event records and what its level does, and how events are acknowledged.
-/
namespace Sys2Proof.Machine

/-! ### An event that no reset follows (R366, R369) -/

/-- A reaction of level 2 or less in the Collector's own registers (R369). -/
theorem fltReact_low_flt (src : Nat) {level : Nat} (s : State) (hlow : level ≤ 2) : (fltReact src level s).flt = { s.flt with
    supIrq := s.flt.supIrq || level == 1, trap := s.flt.trap || level == 2
    trapAgain := s.flt.trapAgain || (level == 2 && s.flt.trap) } := by
  match level, hlow with
  | 0, _ => simp [fltReact, reactLow]
  | 1, _ => simp [fltReact, reactLow, State.msix]
  | 2, _ => simp [fltReact, reactLow]

/-- With room in the trigger FIFO the Collector has the event and Tally its trigger, and nothing is dropped (R366, R386). -/
theorem recorded_room {src arg : Nat} {s : State} (hroom : s.tly.fifo.length < 32) :
    (recorded src arg s).flt = (fltRecord src s).1.flt ∧
    (recorded src arg s).tly = { s.tly with fifo := s.tly.fifo ++ [⟨src, (fltRecord src s).2, s.dev.st.code, arg⟩] } := by
  unfold recorded
  rw [tlyPut_room _ _ _ _ (by simpa using hroom)]
  exact ⟨rfl, rfl⟩

/-- The Collector once a mild event is taken in: recorded, and answered at its level. -/
theorem fltRaise_flt_of_mild {src : Nat} (arg : Nat) {s : State} (h : MildEvent src s) :
    let f := (fltRecord src s).1.flt
    (fltRaise src arg s).flt = { f with
      supIrq := f.supIrq || (fltRecord src s).2 == 1, trap := f.trap || (fltRecord src s).2 == 2
      trapAgain := f.trapAgain || ((fltRecord src s).2 == 2 && f.trap) } := by
  rw [fltRaise_of_mild arg h, fltReact_low_flt _ _ h.level_le, (recorded_room h.room).1]

theorem fltReact_low_tly (src : Nat) {level : Nat} (s : State) (hlow : level ≤ 2) : (fltReact src level s).tly = s.tly :=
  fltReact_low (fun u => u.tly) (fun _ _ _ _ => rfl) src level s hlow

theorem fltRaise_tly_of_mild {src : Nat} (arg : Nat) {s : State} (h : MildEvent src s) : (fltRaise src arg s).tly =
    { s.tly with fifo := s.tly.fifo ++ [⟨src, (fltRecord src s).2, s.dev.st.code, arg⟩] } := by
  rw [fltRaise_of_mild arg h, fltReact_low_tly _ _ h.level_le, (recorded_room h.room).2]

/-- A mild event reaches the Collector, Tally, the pins and the heads' vectors alone. -/
theorem fltRaise_keeps_of_mild {β : Type} {src : Nat} (arg : Nat) {s : State} (h : MildEvent src s) (π : State → β)
    (hπ : ∀ (s : State) xf xt a b xp, π { s with
      flt := xf, tly := xt, heads := ⟨{ s.heads.a with msix := a }, { s.heads.b with msix := b }⟩, pins := xp } = π s) :
    π (fltRaise src arg s) = π s :=
  fltRaise_low π hπ src arg s h.unsaving h.level_le h.room

/-- What the Collector's record of an event holds (R366, R367, R377). -/
theorem fltRecord_seen (n : Nat) (s : State) :
    (fltRecord n s).1.flt.sticky = setAdd n s.flt.sticky ∧
    (tblGet {} (fltRecord n s).1.flt.counts n).total = satAdd 24 (tblGet {} s.flt.counts n).total 1 ∧
    (fltRecord n s).1.flt.unack = s.flt.unack ++ [⟨n / 16, (fltRecord n s).2, n⟩] ∧
    (s.flt.first.valid = false → (fltRecord n s).1.flt.first.source = n ∧ (fltRecord n s).1.flt.first.level = (fltRecord n s).2 ∧
      (fltRecord n s).1.flt.first.state = s.dev.st.code ∧ (fltRecord n s).1.flt.first.valid = true) ∧
    (s.flt.first.valid = true → (fltRecord n s).1.flt.first = { s.flt.first with overflow := true }) := by
  refine ⟨rfl, ?_, rfl, fun hempty => ?_, fun hvalid => ?_⟩
  · simp only [fltRecord, tblGet_put, if_true]
  · simp [fltRecord, hempty]
  · simp [fltRecord, hvalid]

/-- Masks, conditions and lines are no part of an event's record. -/
theorem fltRecord_keeps (n : Nat) (s : State) : (fltRecord n s).1.flt.masked = s.flt.masked ∧ (fltRecord n s).1.flt.live = s.flt.live ∧
    (fltRecord n s).1.flt.wireLine = s.flt.wireLine ∧ (fltRecord n s).1.flt.wireGroups = s.flt.wireGroups ∧
    (fltRecord n s).1.flt.supIrq = s.flt.supIrq ∧ (fltRecord n s).1.flt.trap = s.flt.trap :=
  ⟨rfl, rfl, rfl, rfl, rfl, rfl⟩

theorem setAdd_contains_self (n : Nat) (l : NSet) : (setAdd n l).contains n = true := by
  rw [setAdd_contains, beq_self_eq_true, Bool.true_or]

/-! ### A source's own event (R366, R369, R378) -/

theorem endIfDue_unsaving {s : State} (h : s.saving = false) : endIfDue s = s := by simp [endIfDue, h]

theorem repace_of_ne {s : State} (h : s.dev.st ≠ .salvage) : repace s = s := by simp [repace, h]

theorem unsaving_not_salvage {s : State} (h : s.saving = false) : s.dev.st ≠ .salvage := by
  intro hst
  simp [State.saving, hst] at h

/-- Outside a save nothing follows an event but its level's reaction. -/
theorem endIfDue_repace_unsaving {s : State} (h : s.saving = false) : endIfDue (repace s) = s := by
  rw [repace_of_ne (unsaving_not_salvage h), endIfDue_unsaving h]

theorem yields_event_mild {s : State} {n : Nat} (u d : Nat) (hplain : PlainSource n) (h : MildEvent n s) :
    Yields (.faultEvent n u d .occurrence) s fun t =>
      (t.flt.sticky.contains n = true ∧ (tblGet {} t.flt.counts n).total = satAdd 24 (tblGet {} s.flt.counts n).total 1 ∧
        t.flt.unack = s.flt.unack ++ [⟨n / 16, (fltRecord n s).2, n⟩] ∧
        (s.flt.first.valid = false → t.flt.first.source = n ∧ t.flt.first.level = (fltRecord n s).2 ∧
          t.flt.first.state = s.dev.st.code ∧ t.flt.first.valid = true) ∧
        (s.flt.first.valid = true → t.flt.first = { s.flt.first with overflow := true })) ∧
      ((fltRecord n s).2 = 1 → t.flt.supIrq = true) ∧ ((fltRecord n s).2 = 2 → t.flt.trap = true) ∧
      ((fltRecord n s).2 = 0 → t.flt.trap = s.flt.trap) ∧
      t.tly.fifo = s.tly.fifo ++ [⟨n, (fltRecord n s).2, s.dev.st.code, u⟩] ∧
      t.dev = s.dev ∧ t.map = s.map ∧ t.bed = s.bed ∧ t.jrn = s.jrn ∧ ∀ x, t.byteAt x = s.byteAt x := by
  refine ⟨_, rfl, ?_⟩
  have heffect := sourceEffect_of_plain u d s hplain
  generalize sourceEffect n u d s = v at heffect ⊢
  have hlevel : fltRecord n v = ({ v with flt := (fltRecord n s).1.flt }, (fltRecord n s).2) := by rw [heffect]; rfl
  have hevent : MildEvent n v := h.congr (by rw [heffect]) (by rw [heffect]) (by rw [heffect])
  have hdev : (fltRaise n u v).dev = v.dev := fltRaise_keeps_of_mild u hevent (fun w => w.dev) fun _ _ _ _ _ _ => rfl
  rw [endIfDue_repace_unsaving ((saving_congr hdev).trans hevent.unsaving)]
  have hflt := fltRaise_flt_of_mild u hevent
  have htly := fltRaise_tly_of_mild u hevent
  rw [hlevel] at hflt htly
  obtain ⟨hsticky, hcount, hunack, hempty, hfull⟩ := fltRecord_seen n s
  refine ⟨?_, ?_, ?_, ?_, ?_, ?_⟩
  · rw [hflt]
    exact ⟨by rw [← setAdd_contains_self n s.flt.sticky, ← hsticky], hcount, hunack, hempty, hfull⟩
  · rw [hflt]
    intro hl
    simp [hl]
  · rw [hflt]
    intro hl
    simp [hl]
  · rw [hflt]
    intro hl
    simp [hl, (fltRecord_keeps n s).2.2.2.2.2]
  · rw [htly, heffect]
  · refine ⟨?_, ?_, ?_, ?_, fun x => ?_⟩
    · rw [hdev, heffect]
    · rw [fltRaise_keeps_of_mild u hevent (fun w => w.map) fun _ _ _ _ _ _ => rfl, heffect]
    · rw [fltRaise_keeps_of_mild u hevent (fun w => w.bed) fun _ _ _ _ _ _ => rfl, heffect]
    · rw [fltRaise_keeps_of_mild u hevent (fun w => w.jrn) fun _ _ _ _ _ _ => rfl, heffect]
    · rw [fltRaise_keeps_of_mild u hevent (fun w => w.byteAt x) fun _ _ _ _ _ _ => rfl, heffect]
      rfl

/-! ### A fault HALT's own registers (R372, R390) -/

/-- A trigger of a change of state reaches, of the Collector, the record of a dropped trigger's event and its reaction (R390). -/
theorem tlyTell_flt {β : Type} (π : Flt → β) (hrecord : ∀ n u, π (fltRecord n u).1.flt = π u.flt)
    (hreact : ∀ f a b c, π { f with supIrq := a, trap := b, trapAgain := c } = π f) (code arg : Nat) (s : State) :
    π (tlyTell code arg s).flt = π s.flt := by
  have hput : π (tlyPut code 7 arg s).1.flt = π s.flt := by
    unfold tlyPut tlyDrop
    split
    · rfl
    · dsimp only
      split
      · rfl
      · exact hrecord 0xE1 _
  have hlow : ∀ (l : Nat) (u : State), π (reactLow l u).flt = π u.flt := by
    intro l u
    match l with
    | 0 => rfl
    | 1 => exact hreact u.flt true u.flt.trap u.flt.trapAgain
    | _ + 2 => exact hreact u.flt u.flt.supIrq true (u.flt.trapAgain || u.flt.trap)
  unfold tlyTell
  dsimp only
  split
  · exact hput
  · split
    · exact (hlow _ _).trans hput
    · exact hput

theorem tlyTell_halts (code arg : Nat) (s : State) : (tlyTell code arg s).flt.haltSource = s.flt.haltSource ∧
    (tlyTell code arg s).flt.haltCause = s.flt.haltCause :=
  ⟨tlyTell_flt (fun f => f.haltSource) (fun _ _ => rfl) (fun _ _ _ _ => rfl) code arg s,
    tlyTell_flt (fun f => f.haltCause) (fun _ _ => rfl) (fun _ _ _ _ => rfl) code arg s⟩

theorem enterHalt_halts (kind : HaltKind) (s : State) : (enterHalt kind s).flt.haltSource = s.flt.haltSource ∧
    (enterHalt kind s).flt.haltCause = s.flt.haltCause := by
  have hdisarm : ∀ u : State, (disarmStop 0x0A u).flt.haltSource = u.flt.haltSource ∧
      (disarmStop 0x0A u).flt.haltCause = u.flt.haltCause := by
    intro u
    unfold disarmStop
    split
    · exact tlyTell_halts 0x103 0 u
    · exact ⟨rfl, rfl⟩
  have hpause : ∀ u : State, (endPause 5 u).flt.haltSource = u.flt.haltSource ∧ (endPause 5 u).flt.haltCause = u.flt.haltCause := by
    intro u
    unfold endPause
    split
    · exact tlyTell_halts 0x10A 0 _
    · exact ⟨rfl, rfl⟩
  have hflt : (enterHalt kind s).flt = (endPause 5 (disarmStop 0x0A (salCut s))).flt := rfl
  rw [hflt, (hpause _).1, (hpause _).2, (hdisarm _).1, (hdisarm _).2]
  simp

theorem enterHalt_fault (s : State) : (enterHalt .fault s).dev.st = .halt ∧ (enterHalt .fault s).dev.halt = .fault ∧
    (enterHalt .fault s).pins.errLow = true := ⟨rfl, rfl, rfl⟩

/-! ### An event of level 4 outside a save (R369, R372) -/

/-- An event taken in outside a save, with room for its trigger: recorded and answered at its level. -/
theorem fltRaise_taken {src : Nat} (arg : Nat) {s : State} (hassigned : (srcRow src).isSome = true) (halive : s.alive = true)
    (hmask : s.flt.masked.contains src = false) (hsave : s.saving = false) (hroom : s.tly.fifo.length < 32) :
    fltRaise src arg s = fltReact src (fltRecord src s).2 (recorded src arg s) := by
  obtain ⟨row, hrow⟩ := Option.isSome_iff_exists.mp hassigned
  have hevaluated : (decide (s.dev.st = .off) || (!s.alive && !s.aonSource src) || s.flt.masked.contains src) = false := by
    rw [decide_eq_false (alive_not_off halive), halive, hmask]
    rfl
  have hkept : (tlyPut src (fltRecord src s).2 arg (setErrN (fltRecord src s).1)).2 = none := by
    rw [tlyPut_room _ _ _ _ (by simpa using hroom)]
  have htold : (tlyPut src (fltRecord src s).2 arg (setErrN (fltRecord src s).1)).1 = recorded src arg s := rfl
  have hquiet : (recorded src arg s).saving = false := (saving_congr (recorded_dev ..)).trans hsave
  have hup : (recorded src arg s).alive = true := (alive_congr (recorded_dev ..)).trans halive
  unfold fltRaise
  simp only [hrow, hevaluated, hkept, htold, salvage_of_not_saving _ _ hquiet, hquiet, hup, Bool.false_and, Bool.false_eq_true,
    if_false, if_true, ite_self]

theorem levelReset_startDue (src cause : Nat) (s : State) : StartDue cause (levelReset src cause s) :=
  mainReset_startDue cause (salCut s)

theorem levelReset_sticky (src cause : Nat) (s : State) : (levelReset src cause s).flt.sticky = s.flt.sticky := by
  have hflt : (levelReset src cause s).flt.sticky = (syncSettings (salCut s)).flt.sticky := rfl
  rw [hflt]
  simp

/-- Level 4 of a source that resets, in ARMED or UNARMED (R369, R372). -/
theorem level4_reset {src : Nat} {s : State} {w : SrcRow} (hrow : srcRow src = some w) (hstop : w.stop = false) (hdog : src ≠ 0x11)
    (hrun : s.running = true) (hpre : s.flt.haltPreReady = false) : level4 src s = levelReset src 3 s := by
  have hup : resettable s = true := by
    unfold State.running at hrun
    unfold resettable
    cases hst : s.dev.st <;> simp [hst] at hrun ⊢
  have hrec : s.dev.st ≠ .recovery := by
    intro hst
    simp [State.running, hst] at hrun
  simp [level4, hup, hdog, hrow, hstop, hrec, hpre]

/-- Level 4 of a Stop source (R372). -/
theorem level4_stop {src : Nat} {s : State} {w : SrcRow} (hrow : srcRow src = some w) (hstop : w.stop = true) (hdog : src ≠ 0x11)
    (hrun : s.running = true) : level4 src s = enterHalt .fault { s with flt := { s.flt with haltSource := src, haltCause := 3 } } := by
  have hup : resettable s = true := by
    unfold State.running at hrun
    unfold resettable
    cases hst : s.dev.st <;> simp [hst] at hrun ⊢
  simp [level4, hup, hdog, hrow, hstop]

/-- The state of an event's record keeps whether the device runs and what a HALT before host-ready left (R372). -/
theorem recorded_level4 {src arg : Nat} {s : State} (hroom : s.tly.fifo.length < 32) (hrun : s.running = true) :
    (recorded src arg s).running = true ∧ (recorded src arg s).flt.haltPreReady = s.flt.haltPreReady ∧
      (recorded src arg s).flt.sticky = setAdd src s.flt.sticky := by
  obtain ⟨hflt, -⟩ := recorded_room (src := src) (arg := arg) hroom
  refine ⟨?_, by rw [hflt]; rfl, recorded_sticky hroom⟩
  simpa [State.running, recorded_dev] using hrun

/-- What a running device's event of level 4 comes to, its source having no block of its own to mend (R369, R372). -/
theorem faultEvent_level4 {s : State} {n : Nat} (u d : Nat) {w : SrcRow} (hplain : PlainSource n) (hrow : srcRow n = some w)
    (hrun : s.running = true) (hmask : s.flt.masked.contains n = false) (hlevel : (fltRecord n s).2 = 4)
    (hroom : s.tly.fifo.length < 32) : ∃ v : State, v.running = true ∧ v.flt.haltPreReady = s.flt.haltPreReady ∧
      v.flt.sticky = setAdd n s.flt.sticky ∧
      execFaultEvent n u d .occurrence s = .next (endIfDue (repace (level4 n v))) := by
  have heffect := sourceEffect_of_plain u d s hplain
  have hexec : execFaultEvent n u d .occurrence s = .next (endIfDue (repace (fltRaise n u (sourceEffect n u d s)))) := rfl
  rw [hexec]
  generalize sourceEffect n u d s = v at heffect ⊢
  have hvrun : v.running = true := by rw [heffect]; exact hrun
  have hvroom : v.tly.fifo.length < 32 := by rw [heffect]; exact hroom
  have hvlevel : (fltRecord n v).2 = 4 := by rw [heffect]; exact hlevel
  have hvflt : v.flt = s.flt := by rw [heffect]
  have hvalive : v.alive = true := by
    unfold State.running at hvrun
    unfold State.alive
    cases hst : v.dev.st <;> simp [hst] at hvrun ⊢
  have htaken := fltRaise_taken u (by rw [hrow]; rfl) hvalive (by rw [hvflt]; exact hmask) (running_spec hvrun).2 hvroom
  obtain ⟨hrrun, hrpre, hrsticky⟩ := recorded_level4 (src := n) (arg := u) hvroom hvrun
  refine ⟨recorded n u v, hrrun, by rw [hrpre, hvflt], by rw [hrsticky, hvflt], ?_⟩
  rw [htaken, hvlevel]
  rfl

/-- In a save the record of an event of level 3 or more marks its source deferred (R378). -/
theorem fltRecord_deferred {n : Nat} {s : State} (hsave : s.saving = true) (hlevel : 3 ≤ (fltRecord n s).2) :
    (fltRecord n s).1.flt.deferred = setAdd n s.flt.deferred := by
  have hmark : (fltRecord n s).1.flt.deferred =
      if (s.saving && decide (3 ≤ (fltRecord n s).2)) = true then setAdd n s.flt.deferred else s.flt.deferred := rfl
  rw [hmark, if_pos (by simp [hsave, hlevel])]

/-- An event of level 3 or more in HARVEST is recorded and deferred, and nothing else (R378). -/
theorem yields_event_deferred {s : State} {n : Nat} (u d : Nat) {w : SrcRow} (hplain : PlainSource n) (hrow : srcRow n = some w)
    (hhf : w.hf = 0) (hst : s.dev.st = .harvest) (hmask : s.flt.masked.contains n = false) (hlevel : 3 ≤ (fltRecord n s).2)
    (hroom : s.tly.fifo.length < 32) (hend : s.hrv.endNow = false) : Yields (.faultEvent n u d .occurrence) s fun t =>
      t.hrv = { s.hrv with deferred := satAdd 8 s.hrv.deferred 1 } ∧ t.flt.deferred.contains n = true ∧ t.dev = s.dev ∧ t.map = s.map ∧
      t.bed = s.bed ∧ ∀ x, t.byteAt x = s.byteAt x := by
  refine ⟨_, rfl, ?_⟩
  have heffect := sourceEffect_of_plain u d s hplain
  have hsave : s.saving = true := by simp [State.saving, hst]
  generalize sourceEffect n u d s = v at heffect ⊢
  have hvroom : v.tly.fifo.length < 32 := by rw [heffect]; exact hroom
  have hvlevel : 3 ≤ (fltRecord n v).2 := by rw [heffect]; exact hlevel
  have hvst : v.dev.st = .harvest := by rw [heffect]; exact hst
  have hvsave : v.saving = true := by simp [State.saving, hvst]
  have hvmask : v.flt.masked.contains n = false := by rw [heffect]; exact hmask
  obtain ⟨hflt, -⟩ := recorded_room (src := n) (arg := u) hvroom
  have hraise : fltRaise n u v = { recorded n u v with
      hrv := { (recorded n u v).hrv with deferred := satAdd 8 (recorded n u v).hrv.deferred 1 } } := by
    have hevaluated : (decide (v.dev.st = .off) || (!v.alive && !v.aonSource n) || v.flt.masked.contains n) = false := by
      have halive : v.alive = true := by simp [State.alive, hvst]
      rw [decide_eq_false (alive_not_off halive), halive, hvmask]
      rfl
    have hkept : (tlyPut n (fltRecord n v).2 u (setErrN (fltRecord n v).1)).2 = none := by
      rw [tlyPut_room _ _ _ _ (by simpa using hvroom)]
    have htold : (tlyPut n (fltRecord n v).2 u (setErrN (fltRecord n v).1)).1 = recorded n u v := rfl
    have hrsave : (recorded n u v).saving = true := (saving_congr (recorded_dev ..)).trans hvsave
    unfold fltRaise
    simp only [hrow, hevaluated, hkept, htold, hhf, hrsave, hvlevel, decide_true, Bool.and_self, ne_eq, not_true_eq_false,
      Bool.false_eq_true, if_false, if_true]
  have hdev : (fltRaise n u v).dev = v.dev := by rw [hraise]; exact recorded_dev ..
  have hhrv : (recorded n u v).hrv = s.hrv := by rw [show (recorded n u v).hrv = v.hrv by simp [recorded], heffect]
  have hfinal : endIfDue (repace (fltRaise n u v)) = fltRaise n u v := by
    rw [repace_of_ne (by rw [hdev, hvst]; decide)]
    unfold endIfDue
    rw [if_neg]
    rw [hraise, hhrv]
    simp [hend]
  rw [hfinal, hraise]
  refine ⟨?_, ?_, ?_, ?_, ?_, fun x => ?_⟩
  · rw [hhrv]
  · show (recorded n u v).flt.deferred.contains n = true
    rw [hflt, fltRecord_deferred hvsave hvlevel, setAdd_contains_self]
  · show (recorded n u v).dev = s.dev
    rw [recorded_dev, heffect]
  · show (recorded n u v).map = s.map
    rw [show (recorded n u v).map = v.map by simp [recorded], heffect]
  · show (recorded n u v).bed = s.bed
    rw [show (recorded n u v).bed = v.bed by simp [recorded], heffect]
  · show (recorded n u v).byteAt x = s.byteAt x
    rw [show (recorded n u v).byteAt x = v.byteAt x by simp [recorded, State.byteAt], heffect]
    rfl

/-- Settles O38. -/
theorem faultEvents : Obligations.FaultEvents := by
  unfold Obligations.FaultEvents
  refine ⟨fun s n u d hplain hassigned halive hmask hsave hmild => yields_event_mild u d hplain ⟨hassigned, halive, hmask, hsave, hmild⟩,
    fun s n u d w hplain hrow hhf hdog hst hmask hlevel hroom hpre => ?_,
    fun s n u d w hplain hrow hhf hst hmask hlevel hroom hend => yields_event_deferred u d hplain hrow hhf hst hmask hlevel hroom hend,
    fun s n u d hlive => ⟨s, if_pos hlive, rfl⟩, fun s n u d hplain hmask hsave => ⟨s, ?_, rfl⟩,
    fun s n u d hn => ⟨fltFall n s, by simp [execFaultEvent, hn], rfl⟩⟩
  · have hrun : s.running = true := by
      rcases hst with hst | hst <;> simp [State.running, hst]
    obtain ⟨v, hvrun, hvpre, hvsticky, hnext⟩ := faultEvent_level4 u d hplain hrow hrun hmask hlevel hroom
    refine ⟨fun hstop => ⟨_, hnext, ?_⟩, fun hstop => ⟨_, hnext, ?_⟩⟩
    · rw [level4_reset hrow hstop hdog hvrun (hvpre.trans hpre), endIfDue_repace_unsaving (by simp [State.saving, (levelReset_startDue n 3 v).1])]
      refine ⟨levelReset_startDue n 3 v, ?_⟩
      rw [levelReset_sticky, hvsticky, setAdd_contains_self]
    · rw [level4_stop hrow hstop hdog hvrun, endIfDue_repace_unsaving (by simp [State.saving, (enterHalt_fault _).1])]
      obtain ⟨hhalt, hkind, herr⟩ := enterHalt_fault { v with flt := { v.flt with haltSource := n, haltCause := 3 } }
      obtain ⟨hsource, hcause⟩ := enterHalt_halts .fault { v with flt := { v.flt with haltSource := n, haltCause := 3 } }
      exact ⟨hhalt, hkind, hsource, hcause, herr⟩
  · have hnone : sourceEffect n u d s = s := by
      unfold sourceEffect
      rw [if_pos (by rw [hmask, Bool.true_or])]
    have hraise : fltRaise n u s = s := by
      unfold fltRaise
      split
      · rfl
      · rw [if_pos (by rw [hmask, Bool.or_true])]
    show Host.Outcome.next (endIfDue (repace (fltRaise n u (sourceEffect n u d s)))) = _
    rw [hnone, hraise, endIfDue_repace_unsaving hsave]

/-! ### Acknowledging events (R371) -/

theorem ackEvents_unack (pick : Unack → Bool) (s : State) (u : Unack) :
    u ∈ (ackEvents pick s).flt.unack ↔ u ∈ s.flt.unack ∧ ¬ pick u = true := by
  simp [ackEvents]

/-- The supervisor's interrupt goes once no level-1 event is left (R371). -/
theorem ackEvents_supIrq {pick : Unack → Bool} {s : State} (h : ∀ u ∈ s.flt.unack, u.level = 1 → pick u = true) :
    (ackEvents pick s).flt.supIrq = false := by
  have hnone : ((s.flt.unack.filter fun u => !pick u).any fun u => u.level == 1) = false := by
    rw [List.any_eq_false]
    intro u hu
    obtain ⟨hmem, hpick⟩ := List.mem_filter.mp hu
    intro hlevel
    simp [h u hmem (by simpa using hlevel)] at hpick
  show (s.flt.supIrq && (s.flt.unack.filter fun u => !pick u).any fun u => u.level == 1) = false
  rw [hnone, Bool.and_false]

/-- The level-3 events of a block (R371). -/
def blockLevel3 (b : FltBlock) (u : Unack) : Bool :=
  u.level == 3 && (match srcRow u.src with | none => false | some r => r.block == b)

theorem blockLevel3_iff (b : FltBlock) (u : Unack) :
    blockLevel3 b u = true ↔ u.level = 3 ∧ (srcRow u.src).any (fun r => r.block = b) = true := by
  unfold blockLevel3
  cases srcRow u.src <;> simp

/-- The state once a block's reset has completed, before what Tally's own reset ends (R371). -/
def blockAcked (b : FltBlock) (s : State) : State :=
  ackEvents (blockLevel3 b) { s with flt := { s.flt with resetting := s.flt.resetting.filter (· != b) } }

theorem execBlockResetComplete_due {s : State} {b : FltBlock} (ok : Bool) (h : s.flt.resetting.contains b = true) :
    execBlockResetComplete b ok s = .next (if b = .tally then { blockAcked b s with tly := { s.tly with
      ready := true, fallback := s.tly.fallback && !ok, ring := if s.tly.fallback then [] else s.tly.ring } } else blockAcked b s) := by
  unfold execBlockResetComplete
  rw [if_pos h]
  dsimp only
  split <;> rfl

theorem yields_blockResetComplete {s : State} {b : FltBlock} (ok : Bool) (h : s.flt.resetting.contains b = true) :
    Yields (.blockResetComplete b ok) s fun t =>
      t = { s with flt := t.flt, tly := t.tly } ∧ t.flt.resetting.contains b = false ∧
      (∀ u, u ∈ t.flt.unack ↔ u ∈ s.flt.unack ∧ ¬(u.level = 3 ∧ (srcRow u.src).any fun r => r.block = b)) ∧
      (b ≠ .tally → t.tly = s.tly) ∧
      (b = .tally → t.tly.ready = true ∧ t.tly.fallback = (s.tly.fallback && !ok) ∧
        t.tly.ring = if s.tly.fallback then [] else s.tly.ring) := by
  have hgone : (blockAcked b s).flt.resetting.contains b = false := by simp [blockAcked, ackEvents]
  have hunack : ∀ u, u ∈ (blockAcked b s).flt.unack ↔
      u ∈ s.flt.unack ∧ ¬(u.level = 3 ∧ (srcRow u.src).any fun r => r.block = b) := by
    intro u
    rw [blockAcked, ackEvents_unack, blockLevel3_iff]
  refine ⟨_, execBlockResetComplete_due ok h, ?_⟩
  by_cases hb : b = .tally
  · rw [if_pos hb]
    exact ⟨rfl, hgone, hunack, fun hne => absurd hb hne, fun _ => ⟨rfl, rfl, rfl⟩⟩
  · rw [if_neg hb]
    exact ⟨rfl, hgone, hunack, fun _ => rfl, fun heq => absurd heq hb⟩

/-! ### A line in mismatch (R365, R381) -/

theorem setDel_contains_of_not {n k : Nat} {l : NSet} (h : l.contains k = false) : (setDel n l).contains k = false := by
  simp only [List.contains_eq_mem, decide_eq_false_iff_not] at h ⊢
  intro hmem
  exact h (List.mem_filter.mp hmem).1

theorem wireSource_assigned {k : Nat} (hk : k < 16) : (srcRow k).isSome = true := by
  have hall : ∀ k < 16, (srcRow k).isSome = true := by decide
  exact hall k hk

/-- The state with a line masked and its group's condition standing, before the group's event is taken in. -/
def lineMasked (n : Nat) (s : State) : State := { s with flt := { s.flt with
  masked := setAdd n s.flt.masked, wireLine := n, wireGroups := setAdd (n / 16) s.flt.wireGroups
  live := setAdd (n / 16) (setDel n s.flt.live) } }

theorem execWirefault_on {s : State} {n : Nat} (hn : n < 256) (halive : s.alive = true) (hmask : s.flt.masked.contains n = false)
    (hlive : s.flt.live.contains (n / 16) = false) : execWirefault n true s = .next (fltRaise (n / 16) 0 (lineMasked n s)) := by
  have hlive' := setDel_contains_of_not (n := n) hlive
  unfold execWirefault
  rw [if_neg (by simp [alive_not_off halive, halive, hn]), if_pos rfl, if_neg (by rw [hmask]; exact Bool.false_ne_true)]
  have hno : ¬ (setDel n s.flt.live).contains (n / 16) = true := by rw [hlive']; exact Bool.false_ne_true
  exact congrArg Host.Outcome.next (if_neg hno)

theorem lineMasked_mild {s : State} {n : Nat} (hn : n < 256) (halive : s.alive = true) (hsave : s.saving = false)
    (hgroup : s.flt.masked.contains (n / 16) = false) (hne : n / 16 ≠ n) (hmild : s.mild (n / 16) = true) :
    MildEvent (n / 16) (lineMasked n s) where
  assigned := wireSource_assigned (by omega)
  alive := halive
  unmasked := by
    show (setAdd n s.flt.masked).contains (n / 16) = false
    rw [setAdd_contains, hgroup, Bool.or_false]
    simpa using hne
  unsaving := hsave
  mild := hmild

theorem yields_wirefault_on {s : State} {n : Nat} (hn : n < 256) (halive : s.alive = true) (hmask : s.flt.masked.contains n = false)
    (hsave : s.saving = false) (hlive : s.flt.live.contains (n / 16) = false) (hgroup : s.flt.masked.contains (n / 16) = false)
    (hne : n / 16 ≠ n) (hmild : s.mild (n / 16) = true) : Yields (.wirefault n true) s fun t =>
      t.flt.masked.contains n = true ∧ t.flt.wireLine = n ∧ t.flt.wireGroups.contains (n / 16) = true ∧
      t.flt.live.contains (n / 16) = true ∧ t.flt.sticky.contains (n / 16) = true ∧ t.dev = s.dev ∧ t.map = s.map ∧
      ∀ x, t.byteAt x = s.byteAt x := by
  have hevent := lineMasked_mild hn halive hsave hgroup hne hmild
  refine ⟨_, execWirefault_on hn halive hmask hlive, ?_⟩
  dsimp only
  rw [fltRaise_flt_of_mild 0 hevent]
  exact ⟨setAdd_contains_self n _, rfl, setAdd_contains_self (n / 16) _, setAdd_contains_self (n / 16) _,
    setAdd_contains_self (n / 16) _, fltRaise_keeps_of_mild 0 hevent (fun w => w.dev) fun _ _ _ _ _ _ => rfl,
    fltRaise_keeps_of_mild 0 hevent (fun w => w.map) fun _ _ _ _ _ _ => rfl,
    fun x => fltRaise_keeps_of_mild 0 hevent (fun w => w.byteAt x) fun _ _ _ _ _ _ => rfl⟩

theorem execWirefault_off {s : State} {n : Nat} (hn : n < 256) (halive : s.alive = true) : execWirefault n false s =
    .next { s with flt := { s.flt with
      masked := setDel n s.flt.masked
      live := if (setDel n s.flt.masked).any (fun m => m / 16 == n / 16) then s.flt.live else setDel (n / 16) s.flt.live } } := by
  unfold execWirefault
  rw [if_neg (by simp [alive_not_off halive, halive, hn])]
  simp only [Bool.false_eq_true, if_false, wireSource]
  by_cases hany : ((setDel n s.flt.masked).any fun m => m / 16 == n / 16) = true
  · exact congrArg Host.Outcome.next ((if_pos hany).trans (by rw [if_pos hany]))
  · exact congrArg Host.Outcome.next ((if_neg hany).trans (by rw [if_neg hany]; rfl))

/-! ### The obligation's clauses -/

theorem yields_faultWindowExpiry (s : State) (n : Nat) : Yields (.faultWindowExpiry n) s fun t =>
    t = { s with flt := { s.flt with counts := t.flt.counts } } ∧
    tblGet {} t.flt.counts n = { tblGet {} s.flt.counts n with window := 0 } ∧
    ∀ x, x ≠ n → tblGet {} t.flt.counts x = tblGet {} s.flt.counts x := by
  refine ⟨_, rfl, rfl, ?_, fun x hx => ?_⟩
  · rw [tblGet_upd, if_pos rfl]
  · rw [tblGet_upd, if_neg hx]

theorem yields_trapReturn {s : State} (htrap : s.flt.trap = true) :
    (s.flt.trapAgain = true → Yields .trapReturn s fun t => t = { s with flt := { s.flt with trapAgain := false } }) ∧
    (s.flt.trapAgain = false → Yields .trapReturn s fun t =>
      t = { s with flt := t.flt } ∧ t.flt.trap = false ∧ t.flt.sticky = s.flt.sticky ∧
      ∀ u, u ∈ t.flt.unack ↔ u ∈ s.flt.unack ∧ u.level ≠ 2) := by
  refine ⟨fun hagain => ⟨_, by simp [execTrapReturn, htrap, hagain], rfl⟩,
    fun hagain => ⟨ackEvents (fun u => u.level == 2) { s with flt := { s.flt with trap := false } },
      by simp [execTrapReturn, htrap, hagain], rfl, rfl, rfl, fun u => ?_⟩⟩
  rw [ackEvents_unack]
  simp

theorem yields_acknowledgeClass {s : State} {p : Port} (m : Nat) (hopen : s.windowOpen p = true) :
    Yields (.acknowledgeClass p m) s fun t =>
      t = { s with flt := t.flt } ∧ t.flt.sticky = s.flt.sticky ∧
      (∀ u, u ∈ t.flt.unack ↔ u ∈ s.flt.unack ∧ ¬(u.level = 1 ∧ m.testBit u.cls = true)) ∧
      ((∀ u ∈ s.flt.unack, u.level = 1 → m.testBit u.cls = true) → t.flt.supIrq = false) := by
  refine ⟨_, congrArg Host.Outcome.next (if_pos hopen), rfl, rfl, fun u => ?_, fun hall => ackEvents_supIrq fun u hu hlevel => ?_⟩
  · rw [fltPendingWrite, ackEvents_unack]
    simp
  · simp [hlevel, hall u hu hlevel]

/-- Settles O40. -/
theorem faultHandling : Obligations.FaultHandling := by
  unfold Obligations.FaultHandling
  exact ⟨fun s b ok h => yields_blockResetComplete ok h,
    fun s n hn halive hmask hsave hlive hgroup hne hmild => yields_wirefault_on hn halive hmask hsave hlive hgroup hne hmild,
    fun s n hn halive => ⟨_, execWirefault_off hn halive, rfl⟩, fun s n => yields_faultWindowExpiry s n,
    fun s htrap => yields_trapReturn htrap, fun s p m hopen => yields_acknowledgeClass m hopen⟩

end Sys2Proof.Machine
end

section
/-!
PROOFS. Tally (R383 to R399): triggers, records, mirroring, and clearing with a token.
-/
namespace Sys2Proof.Machine

/-! ### JOURNAL with room (R414) -/

theorem JRec.words_le (r : JRec) : r.words ≤ 150 := by
  cases r
  case saveRec _ lms => cases lms <;> simp [JRec.words]
  case salRec r => cases hsigned : r.signed <;> simp [JRec.words, hsigned]
  all_goals simp [JRec.words]

theorem journal_of_journalRoom {s : State} (r : JRec) (h : s.journalRoom = true) : (s.journal r).jrn = s.jrn ++ [r] := by
  have hwords := JRec.words_le r
  have hroom : journalWords s.jrn + 4096 ≤ 262144 := by simpa [State.journalRoom] using h
  exact journal_room s r (by omega)

/-! ### Triggers (R386, R390, R391) -/

theorem execTallyTrigger_room {s : State} {c : Nat} (l a : Nat) (halive : s.alive = true) (hcode : tlyCode c = true)
    (hroom : s.tly.fifo.length < 32) : execTallyTrigger c l a s = .next { s with
      tly := { s.tly with fifo := s.tly.fifo ++ [⟨c, if c < 0x100 then l % 8 else 7, s.dev.st.code, a⟩] } } := by
  rw [execTallyTrigger, if_pos (by rw [halive, hcode]; rfl), tlyPut_room _ _ _ _ hroom]

theorem execTallyTrigger_full {s : State} {c : Nat} (l a : Nat) (halive : s.alive = true) (hcode : tlyCode c = true)
    (hfull : 32 ≤ s.tly.fifo.length) (hdropped : s.tly.dropped = true) : execTallyTrigger c l a s = .next { s with
      tly := { s.tly with lostCount := satAdd 6 s.tly.lostCount 1, lostTotal := satAdd 32 s.tly.lostTotal 1 } } := by
  simp [execTallyTrigger, halive, hcode, tlyPut, Nat.not_lt.mpr hfull, tlyDrop, hdropped]

theorem windowOpen_alive {s : State} {p : Port} (h : s.windowOpen p = true) : s.alive = true := by
  cases p <;> simp [State.windowOpen] at h
  · exact h.1
  · exact h.1
  · rcases h with h | h
    · unfold State.running at h
      unfold State.alive
      cases hst : s.dev.st <;> simp [hst] at h ⊢
    · simp [State.alive, h]

theorem yields_softwareTrigger {s : State} {p : Port} (v : Nat) (hopen : s.windowOpen p = true) (hroom : s.tly.fifo.length < 32) :
    ((s.tly.softAt.get p).all (fun u => u + 1000 ≤ s.dev.aonUs) = true → Yields (.softwareTrigger p v) s fun t =>
      t = { s with tly := { s.tly with
        fifo := s.tly.fifo ++ [⟨0x1F0 + v % 16, 7, s.dev.st.code, 0⟩], softAt := s.tly.softAt.set p (some s.dev.aonUs) } }) ∧
    (∀ u, s.tly.softAt.get p = some u → s.dev.aonUs < u + 1000 → Yields (.softwareTrigger p v) s fun t => t = s) := by
  have hnext : exec (.softwareTrigger p v) s = .next (softTrigger p v s) := congrArg Host.Outcome.next (if_pos hopen)
  refine ⟨fun hold => ⟨_, hnext, ?_⟩, fun u hu hearly => ⟨_, hnext, ?_⟩⟩
  · unfold softTrigger
    dsimp only
    rw [if_pos]
    · exact tlyTrigger_room _ _ _ hroom
    · cases hu : s.tly.softAt.get p <;> simp_all
  · simp [softTrigger, hu, Nat.not_le.mpr hearly]

/-! ### Records (R383 to R385, R389) -/

/-- The state with the oldest trigger taken from the FIFO. -/
def triggerTaken (rest : List TlyTrig) (s : State) : State :=
  { s with tly := { s.tly with fifo := rest, dropped := s.tly.dropped && rest ≠ [] } }

theorem reserveNear_far {s : State} (ok : Bool) (h : s.tly.nextSeq + 65536 < s.tly.reserved) : reserveNear ok s = s := by
  simp [reserveNear, h]

theorem writeRecord_next {s : State} (ok : Bool) {x : TlyTrig} {rest : List TlyTrig} (hdue : s.tly.overflowDue = none)
    (hfifo : s.tly.fifo = x :: rest) (hfar : s.tly.nextSeq + 65536 < s.tly.reserved) :
    writeRecord ok s = ackRecord x (putRecord ((triggerTaken rest s).mkRecord x) (triggerTaken rest s)) := by
  have htake : takeTrigger s = (triggerTaken rest s, some x) := by simp [takeTrigger, hdue, hfifo, triggerTaken]
  have hfar' : (triggerTaken rest s).tly.nextSeq + 65536 < (triggerTaken rest s).tly.reserved := hfar
  have hlow : (triggerTaken rest s).tly.nextSeq < (triggerTaken rest s).tly.reserved := by omega
  unfold writeRecord
  rw [htake]
  dsimp only
  rw [reserveNear_far ok hfar', if_pos hlow]

/-- A record goes to its ring slot outside fall-back (R384). -/
theorem putRecord_ring {r : TlyRec} {s : State} (hfall : s.tly.fallback = false) :
    (putRecord r s).tly.ring = tblIns (r.seq % 1024) r s.tly.ring ∧ (putRecord r s).tly.nextSeq = r.seq + 1 ∧
    (putRecord r s).tly.fifo = s.tly.fifo ∧ (putRecord r s).tly.lostCount = 0 ∧ (putRecord r s).tly.reserved = s.tly.reserved ∧
    putRecord r s = { s with tly := (putRecord r s).tly } := by
  unfold putRecord mirrorPut
  simp only [hfall, Bool.or_false, Bool.false_eq_true, if_false]
  split
  · split
    · exact ⟨rfl, rfl, rfl, rfl, rfl, rfl⟩
    · split <;> exact ⟨rfl, rfl, rfl, rfl, rfl, rfl⟩
  · exact ⟨rfl, rfl, rfl, rfl, rfl, rfl⟩

theorem ackRecord_tly (t : TlyTrig) (s : State) : (ackRecord t s).tly = s.tly ∧ ackRecord t s = { s with flt := (ackRecord t s).flt } := by
  unfold ackRecord
  split <;> exact ⟨rfl, rfl⟩

/-- The ring read by slot, the map of records into options being the obligation's. -/
theorem ring_slot (l : Tbl TlyRec) (i k : Nat) (r : TlyRec) :
    tblGet none ((tblIns i r l).map fun e => (e.1, some e.2)) k =
      if k = i then some r else tblGet none (l.map fun e => (e.1, some e.2)) k := by
  have hmap : ∀ l : Tbl TlyRec, (tblIns i r l).map (fun e => (e.1, some e.2)) = tblIns i (some r) (l.map fun e => (e.1, some e.2)) := by
    intro l
    induction l with
    | nil => rfl
    | cons e t ih =>
      obtain ⟨j, w⟩ := e
      simp only [tblIns, List.map_cons]
      split
      · rfl
      · split
        · rfl
        · rw [List.map_cons, ih]
  rw [hmap, tblGet_ins]

theorem yields_tallyRecordWrite {s : State} (b : Bool) {x : TlyTrig} {rest : List TlyTrig} (halive : s.alive = true)
    (hready : s.tly.ready = true) (hdue : s.tly.overflowDue = none) (hfifo : s.tly.fifo = x :: rest) (hfall : s.tly.fallback = false)
    (hfar : s.tly.nextSeq + 65536 < s.tly.reserved) : Yields (.tallyRecordWrite b) s fun t =>
      (∃ r, tblGet none (t.tly.ring.map fun e => (e.1, some e.2)) (s.tly.nextSeq % 1024) = some r ∧ r.seq = s.tly.nextSeq ∧
        r.trig = x.code ∧ r.level = x.level ∧ r.state = x.state ∧ r.list = (s.tlyMapOf x.code x.level).1 ∧
        r.persist = (s.tlyMapOf x.code x.level).2 ∧ r.words.length = (s.snapList r.list x.arg).length) ∧
      (∀ k, k ≠ s.tly.nextSeq % 1024 → tblGet none (t.tly.ring.map fun e => (e.1, some e.2)) k =
        tblGet none (s.tly.ring.map fun e => (e.1, some e.2)) k) ∧
      t.tly.nextSeq = s.tly.nextSeq + 1 ∧ t.tly.fifo = rest ∧ t.tly.lostCount = 0 ∧ t.tly.reserved = s.tly.reserved ∧
      t = { s with tly := t.tly, flt := t.flt } := by
  refine ⟨_, congrArg Host.Outcome.next (if_pos (by simp [halive, hready])), ?_⟩
  dsimp only
  rw [writeRecord_next b hdue hfifo hfar]
  obtain ⟨htly, hframe⟩ := ackRecord_tly x (putRecord ((triggerTaken rest s).mkRecord x) (triggerTaken rest s))
  obtain ⟨hring, hseq, hfifo', hlost, hres, hput⟩ := putRecord_ring (r := (triggerTaken rest s).mkRecord x)
    (s := triggerTaken rest s) hfall
  rw [htly, hring, hseq, hfifo', hlost, hres]
  refine ⟨⟨(triggerTaken rest s).mkRecord x, ?_, rfl, rfl, rfl, rfl, rfl, rfl, List.length_map _⟩, fun k hk => ?_, rfl, rfl, rfl, rfl, ?_⟩
  · rw [ring_slot]
    exact if_pos rfl
  · rw [ring_slot]
    exact if_neg hk
  · rw [hframe, hput]
    rfl

/-! ### Mirroring (R395) -/

theorem execTallyMirror_next {s : State} {r : TlyRec} {rest : List TlyRec} (hq : s.tly.mirrorQ = r :: rest) (hsave : s.saving = false)
    (halive : s.alive = true) (ok : Bool) : execTallyMirror ok s = .next (if ok then
      { s.journal (.tallyRec r) with tly := { s.tly with mirrorQ := rest, mirrored := satAdd 16 s.tly.mirrored 1 } }
      else fltRaise 0xB0 0 { s with tly := { s.tly with
        mirrorQ := rest, mirrorDropped := satAdd 16 s.tly.mirrorDropped 1 } }) := by
  unfold execTallyMirror
  rw [hq]
  dsimp only
  rw [if_neg (by simp [hsave, halive])]
  cases ok <;> rfl

/-- A masked source's event is not taken in (R365). -/
theorem fltRaise_masked {src : Nat} (arg : Nat) {s : State} (hmask : s.flt.masked.contains src = true) : fltRaise src arg s = s := by
  unfold fltRaise
  split
  · rfl
  · rw [if_pos (by rw [hmask, Bool.or_true])]

theorem yields_tallyMirror_failed {s : State} {r : TlyRec} {rest : List TlyRec} (hq : s.tly.mirrorQ = r :: rest)
    (hsave : s.saving = false) (halive : s.alive = true) (hmild : s.mild 0xB0 = true) : Yields (.tallyMirror false) s fun t =>
      t.tly.mirrorQ = rest ∧ t.tly.mirrorDropped = satAdd 16 s.tly.mirrorDropped 1 ∧ t.jrn = s.jrn ∧ t.dev = s.dev ∧ t.map = s.map ∧
      ∀ y, t.byteAt y = s.byteAt y := by
  refine ⟨_, execTallyMirror_next hq hsave halive false, ?_⟩
  rw [if_neg Bool.false_ne_true]
  generalize hv : ({ s with tly := { s.tly with
    mirrorQ := rest, mirrorDropped := satAdd 16 s.tly.mirrorDropped 1 } } : State) = v
  have hfields : v.tly.mirrorQ = rest ∧ v.tly.mirrorDropped = satAdd 16 s.tly.mirrorDropped 1 ∧ v.jrn = s.jrn ∧ v.dev = s.dev ∧
      v.map = s.map ∧ ∀ y, v.byteAt y = s.byteAt y := by
    rw [← hv]
    exact ⟨rfl, rfl, rfl, rfl, rfl, fun _ => rfl⟩
  cases hmask : v.flt.masked.contains 0xB0
  · have hevent : MildEvent 0xB0 v := by
      rw [← hv] at hmask ⊢
      exact ⟨by decide, halive, hmask, hsave, hmild⟩
    obtain ⟨hmirror, hdropped, hjrn, hdev, hmap, hbyte⟩ := hfields
    rw [fltRaise_tly_of_mild 0 hevent]
    exact ⟨hmirror, hdropped, (fltRaise_keeps_of_mild 0 hevent (fun w => w.jrn) fun _ _ _ _ _ _ => rfl).trans hjrn,
      (fltRaise_keeps_of_mild 0 hevent (fun w => w.dev) fun _ _ _ _ _ _ => rfl).trans hdev,
      (fltRaise_keeps_of_mild 0 hevent (fun w => w.map) fun _ _ _ _ _ _ => rfl).trans hmap,
      fun y => (fltRaise_keeps_of_mild 0 hevent (fun w => w.byteAt y) fun _ _ _ _ _ _ => rfl).trans (hbyte y)⟩
  · rw [fltRaise_masked 0 hmask]
    exact hfields

/-- Settles O41. -/
theorem tallyRecords : Obligations.TallyRecords := by
  unfold Obligations.TallyRecords
  refine ⟨fun s c l a halive hcode => ⟨fun hroom => ⟨_, execTallyTrigger_room l a halive hcode hroom, rfl⟩,
      fun hfull hdropped => ⟨_, execTallyTrigger_full l a halive hcode hfull hdropped, rfl⟩⟩,
    fun s b x rest halive hready hdue hfifo hfall hfar => yields_tallyRecordWrite b halive hready hdue hfifo hfall hfar,
    fun s r rest hq hsave halive => ⟨⟨_, execTallyMirror_next hq hsave halive true, fun hroom => ?_, rfl⟩,
      yields_tallyMirror_failed hq hsave halive⟩, fun s p v hopen hroom => yields_softwareTrigger v hopen hroom⟩
  exact journal_of_journalRoom _ hroom

/-! ### Clearing (R396, R397) -/

theorem makeNonce_working {s : State} (k : NonceKind) (p : Port) (h : s.key.rbgOk = true) : makeNonce k p s =
    ({ s with
        key := { s.key with nonces := (k, p, ⟨Config.nonce s.free, s.dev.aonUs⟩) :: s.key.nonces.filter fun n => !(n.1 = k && n.2.1 = p) }
        free := s.free + 1 }, some (Config.nonce s.free)) := by
  simp [makeNonce, h]

theorem makeNonce_failed {s : State} (k : NonceKind) (p : Port) (h : s.key.rbgOk = false) : makeNonce k p s = (s, none) := by
  simp [makeNonce, h]

/-- The nonce made is the outstanding one of its kind and port (R478). -/
theorem nonceOf_makeNonce {s : State} (k : NonceKind) (p : Port) (h : s.key.rbgOk = true) :
    (makeNonce k p s).1.nonceOf k p = some (Config.nonce s.free) := by
  rw [makeNonce_working k p h]
  simp [State.nonceOf]

/-- A nonce used up is no longer outstanding (R478). -/
theorem find?_dropped (l : List (NonceKind × Port × Nonce)) (k : NonceKind) (p : Port) (now : Nat) :
    (l.filter fun n => !(n.1 = k && n.2.1 = p)).find? (fun n => n.1 = k && n.2.1 = p && now ≤ n.2.2.issuedUs + 60000000) = none := by
  rw [List.find?_eq_none]
  intro n hn
  have hkind := (List.mem_filter.mp hn).2
  intro hfound
  simp only [Bool.and_eq_true, decide_eq_true_eq] at hfound
  simp [hfound.1.1, hfound.1.2] at hkind

theorem nonceOf_dropNonce (k : NonceKind) (p : Port) (s : State) : (dropNonce k p s).nonceOf k p = none := by
  unfold dropNonce State.nonceOf
  dsimp only
  rw [find?_dropped]
  rfl

theorem tokenStatus_none {s : State} {k : NonceKind} {p : Port} (t : Token) (ok : Bool) (h : s.nonceOf k p = none) :
    s.tokenStatus k p t ok = 6 := by
  simp [State.tokenStatus, h]

theorem tokenStatus_ecdsa {s : State} {k : NonceKind} {p : Port} {t : Token} (ok : Bool) (h : s.nonceOf k p = some t.nonce)
    (hbad : t.ecdsaOk = false) : s.tokenStatus k p t ok = 5 := by
  simp [State.tokenStatus, h, hbad]

theorem execTallyClearNonce_made {s : State} {h : Head} {gen : BitVec 16} (hguard : s.Guard h 3 gen) (hrbg : s.key.rbgOk = true) :
    execTallyClearNonce h gen s =
      .next (reply h 0xC150 0 (.nonce (Config.nonce s.free)) (makeNonce .tallyClear h.port s).1) := by
  obtain ⟨hserved, hmajor, hgen, hholds⟩ := hguard
  rw [execTallyClearNonce, guarded_served hserved (fun _ => hmajor) hgen hholds, makeNonce_working _ _ hrbg]

theorem execTallyClearNonce_failed {s : State} {h : Head} {gen : BitVec 16} (hguard : s.Guard h 3 gen) (hrbg : s.key.rbgOk = false) :
    execTallyClearNonce h gen s = .next (reply h 0xC150 4 .empty s) := by
  obtain ⟨hserved, hmajor, hgen, hholds⟩ := hguard
  rw [execTallyClearNonce, guarded_served hserved (fun _ => hmajor) hgen hholds, makeNonce_failed _ _ hrbg]

/-- An answer to a head stands in its mailbox, and a Success is CXL's 0 (R279). -/
theorem reply_answered (h : Head) (op status : Nat) (p : Payload) (s : State) : (reply h op status p s).Answered h op status p :=
  (perHead_get_set ..).trans (if_pos rfl)

theorem reply_frame_eq (h : Head) (op status : Nat) (p : Payload) (s : State) :
    reply h op status p s = { s with replies := (reply h op status p s).replies } := rfl

theorem execClearTally_refused {s : State} {h : Head} {gen : BitVec 16} {k : Token} {ok : Bool} {c : Nat} (hguard : s.Guard h 3 gen)
    (hc : s.tokenStatus .tallyClear h.port k true = c) (hbad : c = 5 ∨ c = 6) :
    execClearTally h gen k ok s = .next (reply h 0xC151 c .empty (verifyFail 3 s)) := by
  obtain ⟨hserved, hmajor, hgen, hholds⟩ := hguard
  rw [execClearTally, guarded_served hserved (fun _ => hmajor) hgen hholds]
  dsimp only
  rw [hc, if_pos (by omega), tokenFailed, if_pos (by simpa using hbad)]

theorem execClearTally_cleared {s : State} {h : Head} {gen : BitVec 16} {k : Token} (hguard : s.Guard h 3 gen)
    (hc : s.tokenStatus .tallyClear h.port k true = 0) (hfar : s.tly.nextSeq + 65536 < s.tly.reserved) :
    let t := clearRing h (dropNonce .tallyClear h.port s)
    execClearTally h gen k true s =
      .next (reply h 0xC151 0 (.words [t.tly.cleared % 2 ^ 32, t.tly.cleared / 2 ^ 32 % 65536]) t) := by
  obtain ⟨hserved, hmajor, hgen, hholds⟩ := hguard
  have hfar' : (dropNonce .tallyClear h.port s).tly.nextSeq + 65536 < (dropNonce .tallyClear h.port s).tly.reserved := hfar
  have hlow : (dropNonce .tallyClear h.port s).tly.nextSeq < (dropNonce .tallyClear h.port s).tly.reserved := by omega
  rw [execClearTally, guarded_served hserved (fun _ => hmajor) hgen hholds]
  dsimp only
  rw [hc, if_neg (by simp), reserveNear_far true hfar', if_pos (by rw [Bool.true_and]; exact decide_eq_true hlow)]

theorem yields_clearTally {s : State} {h : Head} {gen : BitVec 16} {k : Token} (hguard : s.Guard h 3 gen)
    (hc : s.tokenStatus .tallyClear h.port k true = 0) (hfar : s.tly.nextSeq + 65536 < s.tly.reserved) :
    Yields (.clearTally h gen k true) s fun t =>
      t.tly.ring = [] ∧ t.tly.cleared = s.tly.nextSeq - 1 ∧ t.tly.nextSeq = s.tly.nextSeq + 1 ∧
      (s.journalRoom = true → ∃ r, t.jrn = s.jrn ++ [.tallyRec r] ∧ r.seq = s.tly.nextSeq ∧ r.trig = 0x100) ∧
      t.Answered h 0xC151 0 (.words [(s.tly.nextSeq - 1) % 2 ^ 32, (s.tly.nextSeq - 1) / 2 ^ 32 % 65536]) ∧
      t.nonceOf .tallyClear h.port = none ∧ t.dev = s.dev ∧ t.map = s.map := by
  refine ⟨_, execClearTally_cleared hguard hc hfar, rfl, rfl, rfl, fun hroom => ?_, reply_answered .., ?_, rfl, rfl⟩
  · exact ⟨_, journal_of_journalRoom (s := dropNonce .tallyClear h.port s) _ hroom, rfl, rfl⟩
  · exact nonceOf_dropNonce .tallyClear h.port s

/-- Settles O42. -/
theorem tallyClearing : Obligations.TallyClearing := by
  unfold Obligations.TallyClearing
  intro s h gen hguard
  refine ⟨fun hrbg => ⟨_, execTallyClearNonce_made hguard hrbg, _, reply_answered .., nonceOf_makeNonce .tallyClear h.port hrbg, ?_, ?_⟩,
    fun hrbg => ⟨_, execTallyClearNonce_failed hguard hrbg, reply_answered .., reply_frame_eq ..⟩,
    fun k hc hfar => yields_clearTally hguard hc hfar,
    fun k ok hnone => ⟨_, execClearTally_refused hguard (tokenStatus_none k true hnone) (.inr rfl), reply_answered .., rfl, rfl⟩,
    fun k ok hsome hbad => ⟨_, execClearTally_refused hguard (tokenStatus_ecdsa true hsome hbad) (.inl rfl), reply_answered .., rfl, rfl⟩⟩
  · rw [makeNonce_working _ _ hrbg]
    rfl
  · rw [makeNonce_working _ _ hrbg]
    rfl

end Sys2Proof.Machine
end

section
/-!
PROOFS. The Brine Line (R485 to R502): lockstep saves, and the ring with its ports.
-/
namespace Sys2Proof.Machine

/-! ### A group save (R500 to R502) -/

theorem sendGo_eq (c u : Nat) (s : State) : sendGo c u s = { s with brl := (sendGo c u s).brl } ∧
    (sendGo c u s).brl.event = (s.brl.event + 1) % 2 ^ 32 ∧ (sendGo c u s).brl.goSeen = some ((s.brl.event + 1) % 2 ^ 32) ∧
    (sendGo c u s).brl.sent.head? = some (.go c u ((s.brl.event + 1) % 2 ^ 32)) ∧
    (sendGo c u s).brl.absorbed = s.brl.absorbed := ⟨rfl, rfl, rfl, rfl, rfl⟩

/-- What a unit is in once a group trigger has begun its save under EVENT `e`. -/
def SavesWith (s t : State) (e : Nat) : Prop :=
  t.dev.st = .harvest ∧ t.hrv.trigger = 4 ∧ t.sal.holdEn = true ∧ t.gov.accessHeld = true ∧
    t.hrv.saveSeq = s.hrv.nextSeq ∧ t.brl.event = e ∧ t.brl.goSeen = some e

theorem groupSave_saves (c n : Nat) {s : State} {e : Nat} (hevent : s.brl.event = e) (hseen : s.brl.goSeen = some e) :
    SavesWith s (groupSave c n s) e ∧ (groupSave c n s).brl.sent = s.brl.sent ∧ (groupSave c n s).hrv.planned = decide (c = 5) := by
  obtain ⟨hst, hhold, htrigger, -, hheld, hseq, -⟩ := beginSave_spec .go n s
  obtain ⟨hplanned, hev, hgo, hsent⟩ := beginSave_go n s
  have hsaves : SavesWith s (beginSave .go n s) e := ⟨hst, htrigger, hhold, hheld, hseq, hev.trans hevent, hgo.trans hseen⟩
  unfold groupSave
  generalize beginSave .go n s = v at hsaves hplanned hsent
  dsimp only
  split <;> rename_i hc
  · exact ⟨hsaves, hsent, (decide_eq_true hc).symm⟩
  · exact ⟨hsaves, hsent, hplanned.trans (decide_eq_false hc).symm⟩

theorem onRing_of {s : State} (halive : s.alive = true) (hrole : s.brl.role ≠ 0) : s.onRing = true := by
  simp [State.onRing, halive, hrole]

/-- A trigger in a master's running device (R501). -/
theorem execTrigFrame_unsaving {s : State} (u c : Nat) (halive : s.alive = true) (hrole : s.brl.role = 1) (hwhole : s.brl.whole = true)
    (hsave : s.saving = false) : execTrigFrame u c s =
      .next (if s.sal.holdArm && s.running then groupSave c 0 (sendGo c u s) else sendGo c u s) := by
  have hring := onRing_of halive (by omega : s.brl.role ≠ 0)
  unfold execTrigFrame
  rw [if_pos (by simp [hring, hrole, hwhole]), if_pos (by simp [hsave])]
  rfl

theorem execTrigFrame_local {s : State} (u c : Nat) (halive : s.alive = true) (hrole : s.brl.role = 1) (hwhole : s.brl.whole = true)
    (hsave : s.saving = true) (hlock : s.hrv.lockstep = false) (hsent : s.hrv.goSent = false) : execTrigFrame u c s =
      .next (laterTrigger .go ((s.dev.aonUs - s.hrv.t0Us) * 1000) (sendGo c u { s with hrv := { s.hrv with goSent := true } })) := by
  have hring := onRing_of halive (by omega : s.brl.role ≠ 0)
  unfold execTrigFrame
  rw [if_pos (by simp [hring, hrole, hwhole]), if_neg (by simp [hsave]), if_pos (by simp [hlock, hsent])]
  rfl

theorem execTrigFrame_grouped {s : State} (u c : Nat) (hsave : s.saving = true) (hdone : s.hrv.lockstep = true ∨ s.hrv.goSent = true) :
    execTrigFrame u c s = .next s := by
  unfold execTrigFrame
  rw [if_neg (c := (!s.saving) = true) (by simp [hsave]), if_neg (c := (!s.hrv.lockstep && !s.hrv.goSent) = true)
    (by rcases hdone with h | h <;> simp [h]), ite_self]

theorem execTrigFrame_unheard {s : State} (u c : Nat) (h : ¬ (s.alive = true ∧ s.brl.role = 1 ∧ s.brl.whole = true)) :
    execTrigFrame u c s = .next s := by
  unfold execTrigFrame
  rw [if_neg]
  intro hon
  simp only [State.onRing, Bool.and_eq_true, decide_eq_true_eq] at hon
  exact h ⟨hon.1.1.1, hon.1.2, hon.2⟩

theorem laterTrigger_go_near {n : Nat} (hn : n ≤ 5000) (s : State) : laterTrigger .go n s =
    { s with brl := { s.brl with absorbed := satAdd 8 s.brl.absorbed 1 } } := by
  simp [laterTrigger, hn]

theorem laterTrigger_go_far {n : Nat} (hn : 5000 < n) (s : State) : laterTrigger .go n s =
    { s with hrv := { s.hrv with second := satAdd 8 s.hrv.second 1 } } := by
  have h5 : ¬ n ≤ 5000 := by omega
  have h2 : ¬ n ≤ 2000 := by omega
  simp [laterTrigger, h5, h2]

/-- The unit with a GO taken note of (R493, R500). -/
def goMet (e : Nat) (s : State) : State := { s with brl := { s.brl with event := e, goSeen := some e } }

theorem execGoFrame_heard {s : State} (c o e n : Nat) (halive : s.alive = true) (hrole : s.brl.role = 2) (hwhole : s.brl.whole = true)
    (hnew : s.brl.goSeen ≠ some e) : execGoFrame c o e n s =
      if s.saving then .next (laterTrigger .go (if o = s.brl.index then 0 else n) (goMet e s))
      else if s.sal.holdArm && s.running then .next (groupSave c 0 (goMet e s))
      else .next { goMet e s with brl := { (goMet e s).brl with ignored := satAdd 8 s.brl.ignored 1 } } := by
  have hring := onRing_of halive (by omega : s.brl.role ≠ 0)
  unfold execGoFrame
  rw [if_pos (by simp [hring, hrole, hwhole, hnew])]
  rfl

theorem execGoFrame_unheard {s : State} (c o e n : Nat)
    (h : ¬ (s.alive = true ∧ s.brl.role = 2 ∧ s.brl.whole = true ∧ s.brl.goSeen ≠ some e)) : execGoFrame c o e n s = .next s := by
  unfold execGoFrame
  rw [if_neg]
  intro hon
  simp only [State.onRing, Bool.and_eq_true, decide_eq_true_eq] at hon
  exact h ⟨hon.1.1.1.1, hon.1.1.2, hon.1.2, hon.2⟩

theorem saving_alive {s : State} (h : s.saving = true) : s.alive = true := by
  unfold State.saving at h
  unfold State.alive
  cases hst : s.dev.st <;> simp [hst] at h ⊢

theorem execShareFrame_heard {s : State} (x : Nat) (hrole : s.brl.role ≠ 0) (hwhole : s.brl.whole = true)
    (hsave : s.saving = true) (hwait : s.hrv.awaitShare = true) : execShareFrame x s.brl.event s =
      .next (setPoints { s with hrv := { s.hrv with eT := x, awaitShare := false } }) := by
  have hring := onRing_of (saving_alive hsave) hrole
  unfold execShareFrame
  rw [if_pos (by simp [hring, hwhole, hsave, hwait])]

theorem execShareFrame_unheard {s : State} (x e : Nat) (h : ¬ (s.brl.role ≠ 0 ∧ s.brl.whole = true ∧ s.saving = true ∧
    s.hrv.awaitShare = true ∧ s.brl.event = e)) : execShareFrame x e s = .next s := by
  unfold execShareFrame
  rw [if_neg]
  intro hon
  simp only [State.onRing, Bool.and_eq_true, decide_eq_true_eq] at hon
  exact h ⟨hon.1.1.1.1.2, hon.1.1.1.2, hon.1.1.2, hon.1.2, hon.2⟩

theorem yields_trigFrame (s : State) (u c : Nat) :
    let ev := (s.brl.event + 1) % 2 ^ 32
    let sends : State → Prop := fun t => t.brl.event = ev ∧ t.brl.sent.head? = some (.go c u ev)
    let heard := s.alive = true ∧ s.brl.role = 1 ∧ s.brl.whole = true
    let gone := { s.hrv with goSent := true }
    let goes := s.running = true ∧ s.sal.holdArm = true
    (heard → goes → Yields (.trigFrame u c) s fun t => SavesWith s t ev ∧ sends t ∧ t.hrv.planned = decide (c = 5)) ∧
    (heard → s.saving = false → ¬ goes → Yields (.trigFrame u c) s fun t => sends t ∧ t = { s with brl := t.brl }) ∧
    (heard → s.saving = true → s.hrv.lockstep = false → s.hrv.goSent = false → s.dev.aonUs - s.hrv.t0Us ≤ 5 →
      Yields (.trigFrame u c) s fun t => sends t ∧ t.brl.absorbed = satAdd 8 s.brl.absorbed 1 ∧ t = { s with brl := t.brl, hrv := gone }) ∧
    (heard → s.saving = true → s.hrv.lockstep = false → s.hrv.goSent = false → 5 < s.dev.aonUs - s.hrv.t0Us →
      Yields (.trigFrame u c) s fun t => sends t ∧ t = { s with brl := t.brl, hrv := { gone with second := satAdd 8 s.hrv.second 1 } }) ∧
    (heard → s.saving = true → s.hrv.lockstep = true ∨ s.hrv.goSent = true → Yields (.trigFrame u c) s fun t => t = s) ∧
    (¬ heard → Yields (.trigFrame u c) s fun t => t = s) := by
  intro ev sends heard gone goes
  refine ⟨?_, ?_, ?_, ?_, ?_, fun h => ⟨s, execTrigFrame_unheard u c h, rfl⟩⟩
  · rintro ⟨halive, hrole, hwhole⟩ ⟨hrun, harm⟩
    have hnext := execTrigFrame_unsaving u c halive hrole hwhole (running_spec hrun).2
    obtain ⟨hsaves, hsent, hplanned⟩ := groupSave_saves c 0 (s := sendGo c u s) rfl rfl
    refine ⟨groupSave c 0 (sendGo c u s), by rw [exec_trigFrame, hnext, harm, hrun]; rfl, hsaves, ⟨hsaves.2.2.2.2.2.1, ?_⟩, hplanned⟩
    rw [hsent]
    rfl
  · rintro ⟨halive, hrole, hwhole⟩ hsave hno
    have hnext := execTrigFrame_unsaving u c halive hrole hwhole hsave
    have hquiet : (s.sal.holdArm && s.running) = false := by
      cases harm : s.sal.holdArm
      · rfl
      · cases hrun : s.running
        · rfl
        · exact absurd ⟨hrun, harm⟩ hno
    exact ⟨sendGo c u s, by rw [exec_trigFrame, hnext, hquiet]; rfl, ⟨rfl, rfl⟩, rfl⟩
  · rintro ⟨halive, hrole, hwhole⟩ hsave hlock hsent hnear
    refine ⟨_, execTrigFrame_local u c halive hrole hwhole hsave hlock hsent, ?_⟩
    rw [laterTrigger_go_near (by omega)]
    exact ⟨⟨rfl, rfl⟩, rfl, rfl⟩
  · rintro ⟨halive, hrole, hwhole⟩ hsave hlock hsent hfar
    refine ⟨_, execTrigFrame_local u c halive hrole hwhole hsave hlock hsent, ?_⟩
    rw [laterTrigger_go_far (by omega)]
    exact ⟨⟨rfl, rfl⟩, rfl⟩
  · rintro - hsave hdone
    exact ⟨s, execTrigFrame_grouped u c hsave hdone, rfl⟩

theorem yields_goFrame (s : State) (c o e n : Nat) :
    let heard := s.alive = true ∧ s.brl.role = 2 ∧ s.brl.whole = true ∧ s.brl.goSeen ≠ some e
    let met := { s.brl with event := e, goSeen := some e }
    let goes := s.running = true ∧ s.sal.holdArm = true
    (heard → goes → Yields (.goFrame c o e n) s fun t => SavesWith s t e ∧ t.hrv.planned = decide (c = 5)) ∧
    (heard → s.saving = false → ¬ goes → Yields (.goFrame c o e n) s fun t =>
      t = { s with brl := { met with ignored := satAdd 8 s.brl.ignored 1 } }) ∧
    (heard → s.saving = true → o = s.brl.index ∨ n ≤ 5000 → Yields (.goFrame c o e n) s fun t =>
      t = { s with brl := { met with absorbed := satAdd 8 s.brl.absorbed 1 } }) ∧
    (heard → s.saving = true → o ≠ s.brl.index → 5000 < n → Yields (.goFrame c o e n) s fun t =>
      t = { s with brl := met, hrv := { s.hrv with second := satAdd 8 s.hrv.second 1 } }) ∧
    (¬ heard → Yields (.goFrame c o e n) s fun t => t = s) := by
  intro heard met goes
  refine ⟨?_, ?_, ?_, ?_, fun h => ⟨s, execGoFrame_unheard c o e n h, rfl⟩⟩
  · rintro ⟨halive, hrole, hwhole, hnew⟩ ⟨hrun, harm⟩
    obtain ⟨hsaves, -, hplanned⟩ := groupSave_saves c 0 (s := goMet e s) rfl rfl
    refine ⟨groupSave c 0 (goMet e s), ?_, hsaves, hplanned⟩
    simp [execGoFrame_heard c o e n halive hrole hwhole hnew, (running_spec hrun).2, harm, hrun]
  · rintro ⟨halive, hrole, hwhole, hnew⟩ hsave hno
    have hquiet : (s.sal.holdArm && s.running) = false := by
      cases harm : s.sal.holdArm
      · rfl
      · cases hrun : s.running
        · rfl
        · exact absurd ⟨hrun, harm⟩ hno
    refine ⟨{ goMet e s with brl := { (goMet e s).brl with ignored := satAdd 8 s.brl.ignored 1 } }, ?_, rfl⟩
    rw [exec_goFrame, execGoFrame_heard c o e n halive hrole hwhole hnew, hsave, hquiet]
    rfl
  · rintro ⟨halive, hrole, hwhole, hnew⟩ hsave hnear
    have hnear' : (if o = s.brl.index then 0 else n) ≤ 5000 := by
      split
      · exact Nat.zero_le _
      · exact hnear.resolve_left ‹_›
    refine ⟨_, ?_, (laterTrigger_go_near hnear' (goMet e s)).trans rfl⟩
    rw [exec_goFrame, execGoFrame_heard c o e n halive hrole hwhole hnew, if_pos hsave]
  · rintro ⟨halive, hrole, hwhole, hnew⟩ hsave hother hfar
    refine ⟨_, ?_, (laterTrigger_go_far hfar (goMet e s)).trans rfl⟩
    rw [exec_goFrame, execGoFrame_heard c o e n halive hrole hwhole hnew, if_pos hsave, if_neg hother]

/-- Settles O52. -/
theorem lockstepSave : Obligations.LockstepSave := by
  unfold Obligations.LockstepSave
  refine ⟨fun s u c => yields_trigFrame s u c, fun s c o e n => yields_goFrame s c o e n, fun s x e => ⟨?_, fun h => ?_⟩⟩
  · rintro ⟨hrole, hwhole, hsave, hwait, rfl⟩
    exact ⟨_, execShareFrame_heard x hrole hwhole hsave hwait, rfl⟩
  · exact ⟨s, execShareFrame_unheard x e h, rfl⟩

end Sys2Proof.Machine
end

section
/-!
PROOFS. The Brine Line's ring (R485 to R499): its ports, how it forms, what keeps it whole, and how it breaks.
-/
namespace Sys2Proof.Machine

/-! ### A condition that begins at a low level (R366, R496) -/

theorem fltRecord_level_le {n : Nat} {s : State} (hbase : (s.srcCfg n).base ≤ 2) (hsevere : (s.srcCfg n).severe ≤ 2) :
    (fltRecord n s).2 ≤ 2 := by
  have hstep : ∀ (l : Nat) (raised : Bool), l ≤ 2 → (if raised && l < max 2 (s.srcCfg n).severe then l + 1 else l) ≤ 2 := by
    intro l raised hl
    split <;> rename_i hc
    · simp only [Bool.and_eq_true, decide_eq_true_eq] at hc
      omega
    · exact hl
  refine hstep _ _ ?_
  split
  · exact hsevere
  · exact hbase

/-- A source's condition may begin with no more than a record: outside a save, on a live device, with a place for its trigger, at a low level. -/
structure LowSource (n : Nat) (s : State) : Prop where
  assigned : (srcRow n).isSome = true
  alive : s.alive = true
  unsaving : s.saving = false
  room : s.tly.fifo.length < 32
  base : (s.srcCfg n).base ≤ 2
  severe : (s.srcCfg n).severe ≤ 2

/-- What a condition that begins at a low level leaves: it stands, and beside the Collector, Tally, the pins and the heads' vectors nothing changes. -/
theorem fltRise_low {n : Nat} (arg : Nat) {s : State} (h : LowSource n s) :
    (fltRise n arg s).flt.live.contains n = true ∧ (∀ k, s.flt.live.contains k = true → (fltRise n arg s).flt.live.contains k = true) ∧
    (fltRise n arg s).flt.cfg = s.flt.cfg ∧ (fltRise n arg s).tly.fifo.length ≤ s.tly.fifo.length + 1 ∧
    ∀ {β : Type} (π : State → β) (_ : ∀ (s : State) xf xt a b xp, π { s with
      flt := xf, tly := xt, heads := ⟨{ s.heads.a with msix := a }, { s.heads.b with msix := b }⟩, pins := xp } = π s),
      π (fltRise n arg s) = π s := by
  unfold fltRise
  split
  · rename_i hlive
    exact ⟨hlive, fun _ hk => hk, rfl, Nat.le_succ _, fun _ _ => rfl⟩
  · generalize hu : ({ s with flt := { s.flt with live := setAdd n s.flt.live } } : State) = u
    have hlive : u.flt.live = setAdd n s.flt.live := by rw [← hu]
    have hcfg : u.flt.cfg = s.flt.cfg := by rw [← hu]
    have htly : u.tly = s.tly := by rw [← hu]
    have hstands : u.flt.live.contains n = true := by rw [hlive, setAdd_contains_self]
    have hkept : ∀ k, s.flt.live.contains k = true → u.flt.live.contains k = true := by
      intro k hk
      rw [hlive, setAdd_contains, hk, Bool.or_true]
    have hsame : ∀ {β : Type} (π : State → β) (_ : ∀ (s : State) xf xt a b xp, π { s with
        flt := xf, tly := xt, heads := ⟨{ s.heads.a with msix := a }, { s.heads.b with msix := b }⟩, pins := xp } = π s),
        π u = π s := by
      intro β π hπ
      rw [← hu]
      exact hπ s _ s.tly s.heads.a.msix s.heads.b.msix s.pins
    cases hmask : u.flt.masked.contains n
    · have hevent : MildEvent n u := by
        have hlevel : (fltRecord n u).2 ≤ 2 := fltRecord_level_le (by rw [← hu]; exact h.base) (by rw [← hu]; exact h.severe)
        have hroom : u.tly.fifo.length < 32 := by rw [htly]; exact h.room
        refine ⟨h.assigned, by rw [← hu]; exact h.alive, hmask, by rw [← hu]; exact h.unsaving, ?_⟩
        simp [State.mild, hlevel, hroom]
      refine ⟨?_, fun k hk => ?_, ?_, ?_, fun π hπ => (fltRaise_keeps_of_mild arg hevent π hπ).trans (hsame π hπ)⟩
      · rw [fltRaise_flt_of_mild arg hevent]
        exact hstands
      · rw [fltRaise_flt_of_mild arg hevent]
        exact hkept k hk
      · rw [fltRaise_flt_of_mild arg hevent]
        exact hcfg
      · rw [fltRaise_tly_of_mild arg hevent, ← htly]
        simp
    · rw [fltRaise_masked arg hmask]
      exact ⟨hstands, hkept, hcfg, by rw [htly]; exact Nat.le_succ _, fun π hπ => hsame π hπ⟩

/-- A source is as low after another's rise, but for the place it took. -/
theorem LowSource.after {n m : Nat} (arg : Nat) {s : State} (hn : LowSource n s) (hm : LowSource m s) (hroom : s.tly.fifo.length + 2 ≤ 32) :
    LowSource m (fltRise n arg s) := by
  obtain ⟨-, -, hcfg, hlen, hsame⟩ := fltRise_low arg hn
  have hsrc : (fltRise n arg s).srcCfg m = s.srcCfg m := by unfold State.srcCfg; rw [hcfg]
  exact ⟨hm.assigned, (hsame (fun u => u.alive) fun _ _ _ _ _ _ => rfl).trans hm.alive,
    (hsame (fun u => u.saving) fun _ _ _ _ _ _ => rfl).trans hm.unsaving, by omega, by rw [hsrc]; exact hm.base, by rw [hsrc]; exact hm.severe⟩

/-- Nothing that the Collector's reactions of low level reach is among these. -/
theorem LowSource.brl {n m : Nat} {s : State} (h : LowSource n s) (b : Brl) (hm : m = n) : LowSource m { s with brl := b } := by
  subst hm
  exact ⟨h.assigned, h.alive, h.unsaving, h.room, h.base, h.severe⟩

/-! ### Ports (R488 to R490, R492) -/

theorem brlPortUpd_ports (p : Bool) (f : BrlPort → BrlPort) (s : State) :
    (brlPortUpd p f s).brlPort p = f (s.brlPort p) ∧ (brlPortUpd p f s).brlPort (!p) = s.brlPort (!p) := by
  cases p <;> exact ⟨rfl, rfl⟩

/-- Beside the port nothing of the Brine Line changes with it. -/
theorem brlPortUpd_brl (p : Bool) (f : BrlPort → BrlPort) (s : State) :
    brlPortUpd p f s = { s with brl := { s.brl with
      port0 := (brlPortUpd p f s).brl.port0, port1 := (brlPortUpd p f s).brl.port1 } } := by
  cases p <;> rfl

theorem setDel_contains_self (n : Nat) (l : NSet) : (setDel n l).contains n = false := by simp [setDel]

theorem yields_brinePortTrained {s : State} (p : Bool) (hon : s.onRing = true) (hdown : (s.brlPort p).up = false) :
    Yields (.brinePortTrained p) s fun t =>
      t.brlPort p = { s.brlPort p with up := true, mismatch := 0, hello := false } ∧ t.brlPort (!p) = s.brlPort (!p) ∧
      t.brl.sent = [.hello] ∧ t = { s with brl := t.brl, flt := t.flt } ∧
      ((s.brlPort (!p)).up = true → t.flt.live.contains 0xD0 = false) := by
  have hother : (brlSend [.hello] (brlPortUpd p (fun p => { p with up := true, mismatch := 0, hello := false }) s)).brlPort (!p) =
      s.brlPort (!p) := (brlPortUpd_ports p _ s).2
  have hnext : exec (.brinePortTrained p) s = .next (if (s.brlPort (!p)).up
      then fltFall 0xD0 (brlSend [.hello] (brlPortUpd p (fun p => { p with up := true, mismatch := 0, hello := false }) s))
      else brlSend [.hello] (brlPortUpd p (fun p => { p with up := true, mismatch := 0, hello := false }) s)) := by
    rw [exec_brinePortTrained, execBrinePortTrained, if_pos (by simp [hon, hdown])]
    dsimp only
    rw [hother]
  refine ⟨_, hnext, ?_⟩
  cases hup : (s.brlPort (!p)).up
  · cases p <;> exact ⟨rfl, rfl, rfl, rfl, fun h => absurd h Bool.false_ne_true⟩
  · have hgone := setDel_contains_self 0xD0 s.flt.live
    cases p <;> exact ⟨rfl, rfl, rfl, rfl, fun _ => hgone⟩

/-! ### Breaking the ring (R496, R497) -/

/-- The Brine Line of a unit that has found the ring broken. -/
def brokenBrl (b : Brl) : Brl := { b with
  whole := false, joined := false, groupArmed := false, fallback := true, breaks := satAdd 8 b.breaks 1
  stageState := if b.stageState = 1 then 3 else b.stageState }

/-- The obligation's words for it. -/
def Broke (s t : State) : Prop := t.brl.whole = false ∧ t.brl.joined = false ∧ t.brl.groupArmed = false ∧ t.brl.fallback = true ∧
  t.brl.breaks = satAdd 8 s.brl.breaks 1 ∧ (s.brl.stageState = 1 → t.brl.stageState = 3)

theorem broke_of_brl {s t : State} (h : t.brl = brokenBrl s.brl) : Broke s t := by
  rw [Broke, h]
  exact ⟨rfl, rfl, rfl, rfl, rfl, fun hst => if_pos hst⟩

theorem ringBroken_whole {s : State} (first : Bool) (h : s.brl.whole = true) : ringBroken first s =
    if first then fltRise 0xD1 0 { s with brl := brokenBrl s.brl } else { s with brl := brokenBrl s.brl } := by
  unfold ringBroken
  rw [if_pos h]
  rfl

theorem ringBroken_broken {s : State} (first : Bool) (h : s.brl.whole = false) : ringBroken first s = s := by
  simp [ringBroken, h]

/-- Where the ring's break raises 0xD1 at a low level. -/
def RestSame (s t : State) : Prop := t.dev = s.dev ∧ t.map = s.map ∧ t.bed = s.bed ∧ t.upd = s.upd ∧ t.jrn = s.jrn ∧
  ∀ x, t.byteAt x = s.byteAt x

theorem fltRise_low_rest {n : Nat} (arg : Nat) {s : State} (h : LowSource n s) : RestSame s (fltRise n arg s) ∧
    (fltRise n arg s).brl = s.brl := by
  obtain ⟨-, -, -, -, hsame⟩ := fltRise_low arg h
  exact ⟨⟨hsame (fun u => u.dev) fun _ _ _ _ _ _ => rfl, hsame (fun u => u.map) fun _ _ _ _ _ _ => rfl,
    hsame (fun u => u.bed) fun _ _ _ _ _ _ => rfl, hsame (fun u => u.upd) fun _ _ _ _ _ _ => rfl,
    hsame (fun u => u.jrn) fun _ _ _ _ _ _ => rfl, fun x => hsame (fun u => u.byteAt x) fun _ _ _ _ _ _ => rfl⟩,
    hsame (fun u => u.brl) fun _ _ _ _ _ _ => rfl⟩

theorem RestSame.trans {s t u : State} (h : RestSame s t) (k : RestSame t u) : RestSame s u := by
  obtain ⟨h1, h2, h3, h4, h5, h6⟩ := h
  obtain ⟨k1, k2, k3, k4, k5, k6⟩ := k
  exact ⟨k1.trans h1, k2.trans h2, k3.trans h3, k4.trans h4, k5.trans h5, fun x => (k6 x).trans (h6 x)⟩

theorem ringBroken_first {s : State} (hwhole : s.brl.whole = true) (h : LowSource 0xD1 s) :
    (ringBroken true s).brl = brokenBrl s.brl ∧ (ringBroken true s).flt.live.contains 0xD1 = true ∧ RestSame s (ringBroken true s) := by
  rw [ringBroken_whole true hwhole, if_pos rfl]
  have hlow : LowSource 0xD1 { s with brl := brokenBrl s.brl } := h.brl _ rfl
  obtain ⟨hrest, hbrl⟩ := fltRise_low_rest 0 hlow
  exact ⟨hbrl, (fltRise_low 0 hlow).1, hrest⟩

/-- A ring broken by what the ARM frame says raises nothing (R496, R499). -/
theorem ringBroken_told {s : State} (hwhole : s.brl.whole = true) : ringBroken false s = { s with brl := brokenBrl s.brl } := by
  rw [ringBroken_whole false hwhole]
  rfl

/-- What low says of the two sources the Brine Line raises. -/
theorem lowSource_of_low {s : State} {n : Nat} (halive : s.alive = true) (hsave : s.saving = false) (hroom : s.tly.fifo.length + 2 ≤ 32)
    (hcfg : ∀ n ∈ ([0xD0, 0xD1] : List Nat), (s.srcCfg n).base ≤ 2 ∧ (s.srcCfg n).severe ≤ 2) (hn : n ∈ ([0xD0, 0xD1] : List Nat)) :
    LowSource n s := by
  have hassigned : ∀ n ∈ ([0xD0, 0xD1] : List Nat), (srcRow n).isSome = true := by decide
  exact ⟨hassigned n hn, halive, hsave, by omega, (hcfg n hn).1, (hcfg n hn).2⟩

theorem yields_brinePortDown {s : State} (p : Bool) (hon : s.onRing = true) (hup : (s.brlPort p).up = true)
    (h0 : LowSource 0xD0 s) (h1 : LowSource 0xD1 s) (hroom : s.tly.fifo.length + 2 ≤ 32) : Yields (.brinePortDown p) s fun t =>
      t.brlPort p = { s.brlPort p with up := false, hello := false, downs := satAdd 16 (s.brlPort p).downs 1 } ∧
      t.brlPort (!p) = s.brlPort (!p) ∧ t.flt.live.contains 0xD0 = true ∧ t.brl.startCode = none ∧ RestSame s t ∧
      (s.brl.whole = true → Broke s t ∧ t.flt.live.contains 0xD1 = true) ∧
      (s.brl.whole = false → t.brl.breaks = s.brl.breaks) := by
  obtain ⟨hport, hother⟩ := brlPortUpd_ports p (fun p => { p with up := false, hello := false, downs := satAdd 16 p.downs 1 }) s
  have hbrl := brlPortUpd_brl p (fun p => { p with up := false, hello := false, downs := satAdd 16 p.downs 1 }) s
  have hnext : exec (.brinePortDown p) s = .next (let v := ringBroken true (fltRise 0xD0 (b2n p)
      (brlPortUpd p (fun p => { p with up := false, hello := false, downs := satAdd 16 p.downs 1 }) s))
      { v with brl := { v.brl with startCode := none } }) := by
    rw [exec_brinePortDown, execBrinePortDown, if_pos (by simp [hon, hup])]
  refine ⟨_, hnext, ?_⟩
  generalize brlPortUpd p _ s = u at hport hother hbrl ⊢
  have hu0 : LowSource 0xD0 u := by rw [hbrl]; exact h0.brl _ rfl
  have hu1 : LowSource 0xD1 u := by rw [hbrl]; exact h1.brl _ rfl
  have hroomU : u.tly.fifo.length + 2 ≤ 32 := by rw [hbrl]; exact hroom
  have hrestU : RestSame s u := by rw [hbrl]; exact ⟨rfl, rfl, rfl, rfl, rfl, fun _ => rfl⟩
  obtain ⟨hrestV, hbrlV⟩ := fltRise_low_rest (b2n p) hu0
  obtain ⟨hlive, hlives, -, -, -⟩ := fltRise_low (b2n p) hu0
  have hv1 : LowSource 0xD1 (fltRise 0xD0 (b2n p) u) := hu0.after (b2n p) hu1 hroomU
  generalize fltRise 0xD0 (b2n p) u = v at hrestV hbrlV hlive hv1 ⊢
  have hports : ∀ (w : State) q, w.brl.port0 = u.brl.port0 → w.brl.port1 = u.brl.port1 → w.brlPort q = u.brlPort q := by
    intro w q hw0 hw1
    cases q
    · exact hw0
    · exact hw1
  cases hwhole : s.brl.whole
  · have hno : v.brl.whole = false := by rw [hbrlV, hbrl]; exact hwhole
    rw [ringBroken_broken true hno]
    refine ⟨(hports _ p (congrArg Brl.port0 hbrlV) (congrArg Brl.port1 hbrlV)).trans hport, (hports _ (!p) (congrArg Brl.port0 hbrlV) (congrArg Brl.port1 hbrlV)).trans hother,
      hlive, rfl, hrestU.trans hrestV, fun h => absurd h Bool.false_ne_true, fun _ => ?_⟩
    change v.brl.breaks = s.brl.breaks
    rw [hbrlV, hbrl]
  · have hyes : v.brl.whole = true := by rw [hbrlV, hbrl]; exact hwhole
    obtain ⟨hbroken, hlive1, hrestW⟩ := ringBroken_first hyes hv1
    have hstill : (ringBroken true v).flt.live.contains 0xD0 = true := by
      rw [ringBroken_whole true hyes, if_pos rfl]
      exact (fltRise_low 0 (hv1.brl (brokenBrl v.brl) rfl)).2.1 0xD0 hlive
    generalize ringBroken true v = w at hbroken hlive1 hrestW hstill ⊢
    have hw : w.brl = brokenBrl u.brl := by rw [hbroken, hbrlV]
    have hw0 : w.brl.port0 = u.brl.port0 := by rw [hw]; rfl
    have hw1 : w.brl.port1 = u.brl.port1 := by rw [hw]; rfl
    refine ⟨(hports _ p hw0 hw1).trans hport, (hports _ (!p) hw0 hw1).trans hother,
      hstill, rfl, hrestU.trans (hrestV.trans hrestW), fun _ => ⟨?_, hlive1⟩, fun h => absurd h.symm Bool.false_ne_true⟩
    have hbreaks : u.brl.breaks = s.brl.breaks := by rw [hbrl]
    have hstage : u.brl.stageState = s.brl.stageState := by rw [hbrl]
    refine ⟨congrArg Brl.whole hw, congrArg Brl.joined hw, congrArg Brl.groupArmed hw, congrArg Brl.fallback hw,
      (congrArg Brl.breaks hw).trans (by rw [← hbreaks]; rfl), fun hst => (congrArg Brl.stageState hw).trans (if_pos (hstage.trans hst))⟩

/-! ### HELLO and frames that are not taken (R490, R492, R494) -/

theorem yields_brineHello {s : State} (p : Bool) (major minor group : Nat) (peer : HelloPeer) (hon : s.onRing = true)
    (hup : (s.brlPort p).up = true) :
    let own := (s.cascadeCfg.map fun c => c.groupId).getD 0
    let cause := if major ≠ 1 then 1 else if group ≠ own then 2 else 0
    Yields (.brineHello p major minor group peer) s fun t =>
      t.brlPort p = { s.brlPort p with mismatch := cause, hello := decide (cause = 0 ∧ peer.role ≠ 0), identity := peer.identity } ∧
      t.brlPort (!p) = s.brlPort (!p) ∧ t.brl.whole = s.brl.whole ∧ t = { s with brl := t.brl } := by
  intro own cause
  obtain ⟨hport, hother⟩ := brlPortUpd_ports p
    (fun q => { q with mismatch := cause, hello := cause = 0 && peer.role ≠ 0, identity := peer.identity }) s
  have hbrl := brlPortUpd_brl p
    (fun q => { q with mismatch := cause, hello := cause = 0 && peer.role ≠ 0, identity := peer.identity }) s
  have hnext : exec (.brineHello p major minor group peer) s = .next (
      let u := brlPortUpd p (fun q => { q with mismatch := cause, hello := cause = 0 && peer.role ≠ 0, identity := peer.identity }) s
      if cause = 0 then { u with brl := { u.brl with minor := min minor 0 } } else u) := by
    rw [exec_brineHello, execBrineHello, if_pos (by simp [hon, hup])]
  refine ⟨_, hnext, ?_⟩
  have hhello : (decide (cause = 0) && decide (peer.role ≠ 0)) = decide (cause = 0 ∧ peer.role ≠ 0) := by simp
  generalize brlPortUpd p _ s = u at hport hother hbrl ⊢
  rw [hhello] at hport
  have hwhole : u.brl.whole = s.brl.whole := by rw [hbrl]
  have honly : u = { s with brl := u.brl } := by rw [hbrl]
  dsimp only
  split
  · refine ⟨?_, ?_, hwhole, ?_⟩
    · exact hport
    · exact hother
    · rw [honly]
  · exact ⟨hport, hother, hwhole, honly⟩

/-- A stale frame's Chapen event reaches the heads alone, and its trigger Tally (R288, R494). -/
theorem yields_staleFrame {s : State} {g : BitVec 16} (hon : s.onRing = true) (hg : g ≠ s.brl.gen) (hroom : s.tly.fifo.length < 32) :
    Yields (.staleFrame g) s fun t =>
      t.brl = { s.brl with stale := satAdd 8 s.brl.stale 1, suppress := t.brl.suppress } ∧
      t = { s with brl := t.brl, tly := t.tly, heads := t.heads } := by
  obtain ⟨p, r, hr⟩ : ∃ p r, suppressNext s.aonS s.brl.suppress = (p, r) := ⟨_, _, rfl⟩
  generalize hu : ({ s with brl := { s.brl with stale := satAdd 8 s.brl.stale 1, suppress := p } } : State) = u
  have hnext : exec (.staleFrame g) s = match r with
      | none => .next u
      | some n => .next (chapenEvent .info 0x05 0 0xFF 0 0 0 n (tlyTrigger 0x106 0 u)) := by
    rw [exec_staleFrame, execStaleFrame, if_pos (by simp [hon, hg])]
    simp only [hr]
    rw [← hu]
    cases r <;> rfl
  cases r with
  | none =>
    refine ⟨u, hnext, ?_, ?_⟩
    · rw [← hu]
    · rw [← hu]
  | some n =>
    have htold : tlyTrigger 0x106 0 u = { u with tly := (tlyTrigger 0x106 0 u).tly } := by
      rw [tlyTrigger_room _ _ _ (by rw [← hu]; exact hroom)]
    refine ⟨_, hnext, ?_, ?_⟩
    · rw [chapenEvent_reaches_heads, htold, ← hu]
    · rw [chapenEvent_reaches_heads, htold, ← hu]

/-! ### Forming the ring (R495) -/

theorem tblGet_foldl_upd {α : Type} [DecidableEq α] (d : α) (f : Nat → α → α) (t : Tbl α) (n k : Nat) :
    tblGet d ((List.range n).foldl (fun t u => tblUpd d u (f u) t) t) k = if k < n then f k (tblGet d t k) else tblGet d t k := by
  induction n with
  | zero => simp
  | succ n ih =>
    rw [List.range_succ, List.foldl_append, List.foldl_cons, List.foldl_nil, tblGet_upd]
    by_cases hk : k = n
    · subst hk
      rw [if_pos rfl, ih, if_neg (Nat.lt_irrefl k), if_pos (Nat.lt_succ_self k)]
    · rw [if_neg hk, ih]
      have hiff : k < n + 1 ↔ k < n := by omega
      simp only [hiff]

/-- Every unit of the ring is present, with its digest (R495). -/
theorem ringWhole_unit (gen : BitVec 16) (index : Nat) (ds : List (BitVec 384)) (s : State) {u : Nat} (hu : u < s.unitCount) :
    (tblGet ({} : BrlUnit) (ringWhole gen index ds s).brl.units u).present = true ∧
      (tblGet ({} : BrlUnit) (ringWhole gen index ds s).brl.units u).identity = ds[u]?.getD 0 := by
  have hunits : (ringWhole gen index ds s).brl.units = (List.range s.unitCount).foldl
      (fun t u => tblUpd {} u (fun x => { x with present := true, marker := none, identity := ds[u]?.getD 0 }) t) s.brl.units := rfl
  rw [hunits, tblGet_foldl_upd, if_pos hu]
  exact ⟨rfl, rfl⟩

theorem portsOk_of {s : State} (h : s.brl.port0.up = true ∧ s.brl.port1.up = true ∧ s.brl.port0.hello = true ∧ s.brl.port1.hello = true) :
    s.portsOk = true := by
  obtain ⟨h0, h1, h2, h3⟩ := h
  simp [State.portsOk, h0, h1, h2, h3]

theorem unitCount_of {s : State} {c : Cascade} (h : s.cascadeCfg = some c) : s.unitCount = c.units := by
  simp [State.unitCount, h]

/-- The digests the master's JOIN carries (R495). -/
theorem ringDigests_spec (s : State) : s.ringDigests[0]? = some s.key.identity ∧
    (1 < s.unitCount → s.unitCount ≤ 4 → s.ringDigests.length = s.unitCount ∧ s.ringDigests[1]? = some s.brl.port0.identity) ∧
    (2 < s.unitCount → s.unitCount ≤ 4 → s.ringDigests[s.unitCount - 1]? = some s.brl.port1.identity) := by
  have hfour : ∀ n, 1 < n → n ≤ 4 → n = 2 ∨ n = 3 ∨ n = 4 := by omega
  refine ⟨?_, fun h1 h4 => ?_, fun h2 h4 => ?_⟩
  · unfold State.ringDigests
    split <;> rfl
  · rcases hfour _ h1 h4 with h | h | h
    · simp [State.ringDigests, h]
    · simp [State.ringDigests, h]
    · simp [State.ringDigests, h]
  · rcases hfour _ (by omega) h4 with h | h | h
    · omega
    · simp [State.ringDigests, h]
    · simp [State.ringDigests, h]

theorem execRingWhole_forms {s : State} (hon : s.onRing = true) (hrole : s.brl.role = 1) (hports : s.portsOk = true)
    (hno : s.brl.whole = false) (hunits : 0 < s.unitCount) : execRingWhole s =
      .next (brlSend [.join (s.brl.gen + 1) s.unitCount s.ringDigests]
        (unitUpd 0 (fun x => { x with marker := some s.ownMarker }) (ringWhole (s.brl.gen + 1) 0 s.ringDigests s.draw))) := by
  have hne : s.unitCount ≠ 0 := by omega
  unfold execRingWhole
  rw [if_pos (by simp [hon, hrole, hports, hno, hne])]
  rfl

theorem unitUpd_unit (u : Nat) (f : BrlUnit → BrlUnit) (s : State) (k : Nat) :
    tblGet {} (unitUpd u f s).brl.units k = if k = u then f (tblGet {} s.brl.units u) else tblGet {} s.brl.units k :=
  tblGet_upd ..

theorem yields_ringWhole {s : State} {c : Cascade} (hon : s.onRing = true) (hrole : s.brl.role = 1)
    (hports : s.portsOk = true) (hno : s.brl.whole = false) (hcfg : s.cascadeCfg = some c) (hunits : 0 < c.units) :
    Yields .ringWhole s fun t =>
      t.brl.whole = true ∧ t.brl.joined = true ∧ t.brl.gen = s.brl.gen + 1 ∧ t.brl.index = 0 ∧ t.brl.groupArmed = false ∧
      (∃ ds : List (BitVec 384), t.brl.sent = [.join (s.brl.gen + 1) c.units ds] ∧ ds[0]? = some s.key.identity ∧
        (1 < c.units → c.units ≤ 4 → ds.length = c.units ∧ ds[1]? = some s.brl.port0.identity) ∧
        (2 < c.units → c.units ≤ 4 → ds[c.units - 1]? = some s.brl.port1.identity) ∧
        ∀ u < c.units, (tblGet ({} : BrlUnit) t.brl.units u).present = true ∧ (tblGet ({} : BrlUnit) t.brl.units u).identity = ds[u]?.getD 0) ∧
      t = { s with brl := t.brl, flt := t.flt, free := s.free + 1 } := by
  have hcount := unitCount_of hcfg
  obtain ⟨hfirst, hnext1, hlast⟩ := ringDigests_spec s
  rw [hcount] at hnext1 hlast
  refine ⟨_, execRingWhole_forms hon hrole hports hno (by omega), rfl, rfl, rfl, rfl, rfl,
    ⟨s.ringDigests, by rw [hcount]; rfl, hfirst, hnext1, hlast, fun u hu => ?_⟩, rfl⟩
  have hunit := ringWhole_unit (s.brl.gen + 1) 0 s.ringDigests s.draw (u := u) (by rw [← hcount] at hu; exact hu)
  have hupd := unitUpd_unit 0 (fun x => { x with marker := some s.ownMarker }) (ringWhole (s.brl.gen + 1) 0 s.ringDigests s.draw) u
  have hsent : ∀ v : State, ∀ fs, (brlSend fs v).brl.units = v.brl.units := fun _ _ => rfl
  rw [hsent, hupd]
  split <;> rename_i hzero
  · subst hzero
    exact hunit
  · exact hunit

/-- A JOIN that agrees with what HELLO reported (R495). -/
theorem digestsAgree_iff (s : State) (n i : Nat) (d : List (BitVec 384)) : s.digestsAgree n i d = true ↔
    d.length = n ∧ d[i]? = some s.key.identity ∧ d[(i + 1) % n]? = some s.brl.port0.identity ∧
      d[(i + n - 1) % n]? = some s.brl.port1.identity := by
  simp [State.digestsAgree, and_assoc]

theorem execJoinFrame_agrees {s : State} {g : BitVec 16} {n i : Nat} {d : List (BitVec 384)} (hon : s.onRing = true)
    (hrole : s.brl.role = 2) (hports : s.portsOk = true) (h0 : 0 < i) (hi : i < n) (hn : n = s.unitCount)
    (hd : s.digestsAgree n i d = true) : execJoinFrame g n i d s =
      .next (brlSend [.marker s.upd.marker.word (b2n s.pendingTest) s.dev.st.code] (ringWhole g i d s)) := by
  unfold execJoinFrame
  rw [if_pos (by simp [hon, hrole, hports, h0, hi, hd, ← hn])]
  rfl

theorem execJoinFrame_differs {s : State} {g : BitVec 16} {n i : Nat} {d : List (BitVec 384)}
    (h : ¬ (n = s.unitCount ∧ s.digestsAgree n i d = true)) : execJoinFrame g n i d s = .next s := by
  unfold execJoinFrame
  rw [if_neg]
  intro hall
  simp only [Bool.and_eq_true, decide_eq_true_eq] at hall
  exact h ⟨hall.1.1.1.2, hall.2⟩

theorem yields_joinFrame {s : State} {c : Cascade} (g : BitVec 16) (n i : Nat) (d : List (BitVec 384)) (hon : s.onRing = true)
    (hrole : s.brl.role = 2) (hports : s.portsOk = true) (hcfg : s.cascadeCfg = some c) (h0 : 0 < i) (hi : i < n) :
    let agree := n = c.units ∧ d.length = n ∧ d[i]? = some s.key.identity ∧ d[(i + 1) % n]? = some s.brl.port0.identity ∧
      d[(i + n - 1) % n]? = some s.brl.port1.identity
    (agree → Yields (.joinFrame g n i d) s fun t =>
      t.brl.whole = true ∧ t.brl.joined = true ∧ t.brl.gen = g ∧ t.brl.index = i ∧ t.brl.groupArmed = false ∧
      t.brl.sent = [.marker s.upd.marker.word (b2n s.pendingTest) s.dev.st.code] ∧
      (∀ u < n, (tblGet ({} : BrlUnit) t.brl.units u).identity = d[u]?.getD 0) ∧
      t = { s with brl := t.brl, flt := t.flt }) ∧
    (¬ agree → Yields (.joinFrame g n i d) s fun t => t = s) := by
  intro agree
  have hcount := unitCount_of hcfg
  refine ⟨?_, fun hno => ⟨s, execJoinFrame_differs ?_, rfl⟩⟩
  · rintro ⟨hn, hd⟩
    refine ⟨_, execJoinFrame_agrees hon hrole hports h0 hi (hn.trans hcount.symm) ((digestsAgree_iff s n i d).mpr hd),
      rfl, rfl, rfl, rfl, rfl, rfl, fun u hu => ?_, rfl⟩
    exact (ringWhole_unit g i d s (by omega)).2
  · rintro ⟨hn, hd⟩
    exact hno ⟨hn.trans hcount, (digestsAgree_iff s n i d).mp hd⟩

/-! ### Group arming (R496, R498, R499) -/

theorem execStatusFrame_heard {s : State} (u st : Nat) (ok : Bool) (e : Nat) (q : Int) (b : Nat) (hon : s.onRing = true)
    (hrole : s.brl.role = 1) (hwhole : s.brl.whole = true) (h0 : 0 < u) (hu : u < s.unitCount) : execStatusFrame u st ok e q b s =
      .next (let v := unitUpd u (fun x => { x with
          present := true, localOk := ok, state := st % 16, eNeed := e, chargeUc := q, backlog := b }) s
        if v.sharedMode then { v with sal := { v.sal with soc := v.socAfter (4 * q) } } else v) := by
  unfold execStatusFrame
  rw [if_pos (by simp [hon, hrole, hwhole, h0, hu])]

theorem yields_statusFrame {s : State} {c : Cascade} (u st : Nat) (ok : Bool) (e : Nat) (q : Int) (b : Nat) (hon : s.onRing = true)
    (hrole : s.brl.role = 1) (hwhole : s.brl.whole = true) (hcfg : s.cascadeCfg = some c) (h0 : 0 < u) (hu : u < c.units) :
    Yields (.statusFrame u st ok e q b) s fun t =>
      (let x := tblGet {} t.brl.units u; x.present = true ∧ x.localOk = ok ∧ x.state = st % 16 ∧ x.eNeed = e ∧ x.chargeUc = q ∧ x.backlog = b) ∧
      (∀ k, k ≠ u → tblGet {} t.brl.units k = tblGet {} s.brl.units k) ∧ (s.sharedMode = false → t = { s with brl := t.brl }) ∧
      t = { s with brl := t.brl, sal := { s.sal with soc := t.sal.soc } } ∧ t.brl.groupArmed = s.brl.groupArmed := by
  refine ⟨_, execStatusFrame_heard u st ok e q b hon hrole hwhole h0 (by rw [unitCount_of hcfg]; exact hu), ?_⟩
  have hunit := unitUpd_unit u (fun x => { x with
    present := true, localOk := ok, state := st % 16, eNeed := e, chargeUc := q, backlog := b }) s
  generalize hv : unitUpd u _ s = v at hunit ⊢
  have honly : v = { s with brl := v.brl } := by rw [← hv]; rfl
  have hshared : v.sharedMode = s.sharedMode := by rw [← hv]; rfl
  have harmed : v.brl.groupArmed = s.brl.groupArmed := by rw [← hv]; rfl
  have hsal : v.sal = s.sal := by rw [honly]
  have hself := (hunit u).trans (if_pos rfl)
  have hrest : ∀ k, k ≠ u → tblGet {} v.brl.units k = tblGet {} s.brl.units k := fun k hk => (hunit k).trans (if_neg hk)
  dsimp only
  rw [hshared]
  cases hmode : s.sharedMode
  · refine ⟨?_, hrest, fun _ => honly, ?_, harmed⟩
    · rw [if_neg Bool.false_ne_true, hself]
      exact ⟨rfl, rfl, rfl, rfl, rfl, rfl⟩
    · rw [if_neg Bool.false_ne_true]
      conv => lhs; rw [honly]
      rw [hsal]
  · refine ⟨?_, hrest, fun h => absurd h.symm Bool.false_ne_true, ?_, harmed⟩
    · rw [if_pos rfl, hself]
      exact ⟨rfl, rfl, rfl, rfl, rfl, rfl⟩
    · rw [if_pos rfl]
      generalize v.socAfter (4 * q) = x
      rw [honly]

theorem yields_armFrame {s : State} (a : Bool) (w e : Nat) (q : Int) (hon : s.onRing = true) (hrole : s.brl.role = 2)
    (hwhole : s.brl.whole = true) :
    (Yields (.armFrame a true w e q) s fun t =>
      t.brl.groupArmed = a ∧ t.brl.eGroup = e ∧ t.brl.armUs = s.dev.aonUs ∧ t.brl.whole = true ∧ t = { s with brl := t.brl }) ∧
    (Yields (.armFrame a false w e q) s fun t => Broke s t ∧ t = { s with brl := t.brl }) := by
  have hheard : (s.onRing && s.brl.role = 2 && s.brl.whole) = true := by simp [hon, hrole, hwhole]
  refine ⟨⟨_, (if_pos hheard).trans (if_neg Bool.false_ne_true), rfl, rfl, rfl, hwhole, rfl⟩, ⟨_, (if_pos hheard).trans (if_pos rfl), ?_⟩⟩
  rw [ringBroken_told hwhole]
  exact ⟨broke_of_brl rfl, rfl⟩

theorem yields_statusTimeout {s : State} {c : Cascade} {u : Nat} (hon : s.onRing = true) (hrole : s.brl.role = 1)
    (hwhole : s.brl.whole = true) (hcfg : s.cascadeCfg = some c) (h0 : 0 < u) (hu : u < c.units) (hlow : LowSource 0xD1 s) :
    Yields (.statusTimeout u) s fun t =>
      Broke s t ∧ t.flt.live.contains 0xD1 = true ∧ RestSame s t ∧ ∃ w n, t.brl.sent = [.arm false false w 0 0 n] := by
  have hu' : u < s.unitCount := by rw [unitCount_of hcfg]; exact hu
  have hheard : (s.onRing && s.brl.role = 1 && s.brl.whole && 0 < u && u < s.unitCount) = true := by
    simp [hon, hrole, hwhole, h0, hu']
  refine ⟨_, if_pos hheard, ?_⟩
  obtain ⟨hbrl, hlive, hrest⟩ := ringBroken_first hwhole hlow
  generalize ringBroken true s = v at hbrl hlive hrest ⊢
  obtain ⟨h1, h2, h3, h4, h5, h6⟩ := broke_of_brl (s := s) hbrl
  exact ⟨⟨h1, h2, h3, h4, h5, h6⟩, hlive, hrest, _, _, rfl⟩

/-- Settles O51, one lemma per command of the ring. -/
theorem brineRing : Obligations.BrineRing := by
  unfold Obligations.BrineRing
  refine ⟨fun s p ⟨halive, hrole⟩ hdown => yields_brinePortTrained p (onRing_of halive hrole) hdown,
    fun s p ⟨halive, hrole⟩ hup ⟨hsave, hroom, hcfg⟩ => yields_brinePortDown p (onRing_of halive hrole) hup
      (lowSource_of_low halive hsave hroom hcfg (by decide)) (lowSource_of_low halive hsave hroom hcfg (by decide)) hroom,
    fun s p ⟨halive, hrole⟩ hup => ⟨⟨s, ?_, rfl⟩, ⟨_, ?_, rfl⟩,
      fun ma mi g r => yields_brineHello p ma mi g r (onRing_of halive hrole) hup⟩,
    fun s p ⟨halive, hrole⟩ => ?_,
    fun s g ⟨halive, hrole⟩ hg hroom => yields_staleFrame (onRing_of halive hrole) hg hroom,
    fun s _ => ⟨s, if_neg (by simp), rfl⟩,
    fun s c ⟨halive, hrole⟩ h1 hports hno hcfg hunits =>
      yields_ringWhole (onRing_of halive hrole) h1 (portsOk_of hports) hno hcfg hunits,
    fun s c g n i d ⟨halive, hrole⟩ h2 hports hcfg h0 hi =>
      yields_joinFrame g n i d (onRing_of halive hrole) h2 (portsOk_of hports) hcfg h0 hi,
    fun s c u st ok e q b ⟨halive, hrole⟩ h1 hwhole hcfg h0 hu =>
      yields_statusFrame u st ok e q b (onRing_of halive hrole) h1 hwhole hcfg h0 hu,
    fun s a w e q ⟨halive, hrole⟩ h2 hwhole => yields_armFrame a w e q (onRing_of halive hrole) h2 hwhole,
    fun s ⟨halive, hrole⟩ ⟨hsave, hroom, hcfg⟩ hwhole h2 => ?_, fun s hno => ⟨s, ?_, rfl⟩,
    fun s c u ⟨halive, hrole⟩ ⟨hsave, hroom, hlow⟩ hwhole h1 hcfg h0 hu => yields_statusTimeout (onRing_of halive hrole) h1 hwhole hcfg h0 hu
      (lowSource_of_low halive hsave hroom hlow (by decide))⟩
  · exact congrArg Host.Outcome.next (if_neg (by simp))
  · exact congrArg Host.Outcome.next (if_pos (by rw [onRing_of halive hrole, Bool.true_and, Bool.and_true]; exact hup))
  · obtain ⟨hport, hother⟩ := brlPortUpd_ports p (fun q => { q with crcErrors := satAdd 13 q.crcErrors 1 }) s
    exact ⟨_, congrArg Host.Outcome.next (if_pos (onRing_of halive hrole)), hport, hother, by cases p <;> rfl⟩
  · obtain ⟨hbrl, hlive, hrest⟩ := ringBroken_first hwhole (lowSource_of_low halive hsave hroom hcfg (by decide))
    exact ⟨_, congrArg Host.Outcome.next (if_pos (by simp [onRing_of halive hrole, h2])), broke_of_brl hbrl, hlive, hrest⟩
  · show Host.Outcome.next (if _ then ringBroken true s else s) = _
    rw [ringBroken_broken true hno, ite_self]

end Sys2Proof.Machine
end

section
/-!
PROOFS. Vendor commands of a head (R276 to R280), the guard of its cells, held access (R36), and what a host answers to capacity events (R267).
-/
namespace Sys2Proof.Machine

/-! ### Access released (R36, R40) -/

/-- A record whose kind JOURNAL keeps one of stays when older ones are dropped (R414). -/
theorem dropHistory_append_kept (n : Nat) (l : List (JRec × Bool)) (r : JRec) :
    ∃ l', dropHistory n (l ++ [(r, true)]) = l' ++ [r] := by
  induction l generalizing n with
  | nil => exact ⟨[], by simp [dropHistory]⟩
  | cons e t ih =>
    obtain ⟨q, keep⟩ := e
    rw [List.cons_append, dropHistory]
    split
    · obtain ⟨l', hl'⟩ := ih n
      exact ⟨q :: l', by rw [hl', List.cons_append]⟩
    · exact ih _

theorem fitJournal_open (l : List JRec) : ∃ l', fitJournal (l ++ [.openImage false]) = l' ++ [.openImage false] := by
  unfold fitJournal
  split
  · exact ⟨l, rfl⟩
  · rw [List.reverse_append, List.reverse_singleton, List.singleton_append]
    have hkeep : inForce [] (.openImage false :: l.reverse) = (.openImage false, true) :: inForce [4] l.reverse := rfl
    rw [hkeep, List.reverse_cons]
    exact dropHistory_append_kept 1024 _ _

theorem imageOpen_journal (s : State) : (s.journal (.openImage false)).imageOpen = true := by
  have hlast : ∃ l', (s.journal (.openImage false)).jrn = l' ++ [.openImage false] := by
    unfold State.journal
    dsimp only
    split
    · exact ⟨s.jrn, rfl⟩
    · exact fitJournal_open s.jrn
  obtain ⟨l', hl'⟩ := hlast
  simp [State.imageOpen, hl', imageMarker_open]

/-- Access released: the open-image marker stands (R36, R40). -/
theorem releaseAccess_held {s : State} (h : s.gov.accessHeld = true) : (releaseAccess s).gov = { s.gov with accessHeld := false } ∧
    (releaseAccess s).imageOpen = true ∧ releaseAccess s = { s with gov := (releaseAccess s).gov, jrn := (releaseAccess s).jrn } := by
  unfold releaseAccess
  rw [if_pos h]
  cases hstands : s.imageOpen && openAfterInit s.jrn
  · exact ⟨rfl, imageOpen_journal s, rfl⟩
  · exact ⟨rfl, (Bool.and_eq_true _ _ ▸ hstands).1, rfl⟩

/-! ### The guard of a cell (R276, R279) -/

/-- A reply over a stale request: the head's registers, Tally and the answer (R288). -/
theorem reply_stale {s : State} (h : Head) (op cell : Nat) (hroom : s.tly.fifo.length < 32) :
    let t := reply h op 1 .empty (staleReject h cell s)
    t.Answered h op 1 .empty ∧ t = { s with heads := t.heads, tly := t.tly, replies := t.replies } := by
  intro t
  refine ⟨reply_answered .., ?_⟩
  have hstale := (staleReject_room h cell hroom).1
  generalize hv : staleReject h cell s = v at hstale
  show reply h op 1 .empty (staleReject h cell s) = _
  simp only [t, hv]
  rw [hstale]
  rfl

/-- Whether Release Held Access is refused by its rule, in the obligation's words. -/
theorem releaseRefused_iff (s : State) : s.releaseRefused = true ↔ s.layoutOk = false ∨ s.bed.mismatch = true ∨ s.bed.censusFailed = true ∨
    s.fld.unlockWait = true ∨ s.pip.keyLoaded = false ∨ s.pip.sanStep ≠ 0 := by
  simp [State.releaseRefused, or_assoc]

theorem execReleaseHeldAccess_guarded {s : State} {h : Head} (hserved : s.served h = true) (hholds : s.holds h 1 = true) :
    execReleaseHeldAccess h (s.cell 1).gen s = .next (if !s.gov.accessHeld then reply h 0xC112 3 .empty s
      else if s.releaseRefused then reply h 0xC112 0x11 .empty s
      else if !s.running then reply h 0xC112 3 .empty s
      else reply h 0xC112 0 .empty (pdomSync (releaseAccess { s with gov := { s.gov with released := true } }))) := by
  rw [execReleaseHeldAccess, guarded_served hserved (fun hno => absurd hno Bool.false_ne_true) rfl hholds]

theorem yields_releaseHeldAccess_released {s : State} {h : Head} (hserved : s.served h = true) (hholds : s.holds h 1 = true)
    (hheld : s.gov.accessHeld = true) (hok : s.releaseRefused = false) (hrun : s.running = true) :
    Yields (.releaseHeldAccess h (s.cell 1).gen) s fun t =>
      t.Answered h 0xC112 0 .empty ∧ t.gov.accessHeld = false ∧ t.gov.released = true ∧ t.gov.pdom = decide (s.dev.st = .armed) ∧
      t.imageOpen = true ∧ t = { s with gov := t.gov, jrn := t.jrn, replies := t.replies } := by
  obtain ⟨hgov, hopen, hframe⟩ := releaseAccess_held (s := { s with gov := { s.gov with released := true } }) hheld
  refine ⟨reply h 0xC112 0 .empty (pdomSync (releaseAccess { s with gov := { s.gov with released := true } })), ?_, reply_answered .., ?_⟩
  · rw [exec_releaseHeldAccess, execReleaseHeldAccess_guarded hserved hholds, hheld, hok, hrun]
    rfl
  · generalize releaseAccess _ = v at hgov hopen hframe
    have hdev : v.dev = s.dev := by rw [hframe]
    refine ⟨?_, ?_, ?_, hopen, ?_⟩
    · show v.gov.accessHeld = false
      rw [hgov]
    · show v.gov.released = true
      rw [hgov]
    · show (decide (v.dev.st = .armed) && !v.gov.accessHeld) = decide (s.dev.st = .armed)
      rw [hgov, hdev]
      simp
    · rw [reply_frame_eq]
      unfold pdomSync
      rw [hframe]

/-! ### Versions (R276, R278) -/

theorem execSetChapenVersion_known {s : State} {h : Head} {m : Nat} (n : Nat) (hserved : s.served h = true) (hm : m = 1 ∨ m = 2) :
    execSetChapenVersion h m n s = .next (reply h 0xC101 0 (.bytes [m, 0])
      { s with heads := s.heads.set h { s.heads.get h with cmdMajor := m, cmdMinor := 0 } }) := by
  have hminor : (if n = 0 then n else 0) = 0 := by split <;> simp_all
  rw [execSetChapenVersion, vendor_served hserved (fun hno => absurd hno Bool.false_ne_true), if_pos (by rcases hm with rfl | rfl <;> rfl)]
  dsimp only
  rw [hminor]

theorem execSetChapenVersion_unknown {s : State} {h : Head} {m : Nat} (n : Nat) (hserved : s.served h = true) (h1 : m ≠ 1) (h2 : m ≠ 2) :
    execSetChapenVersion h m n s = .next (reply h 0xC101 0xE .empty s) := by
  rw [execSetChapenVersion, vendor_served hserved (fun hno => absurd hno Bool.false_ne_true), if_neg (by simp [h1, h2])]

theorem vendor_unserved {h : Head} {op : Nat} {v2 : Bool} {k : State → State} {s : State} (hs : s.served h = false) :
    vendor h op v2 k s = s := by
  simp [vendor, hs]

theorem head_other_ne (h : Head) : h.other ≠ h := by cases h <;> simp [Head.other]

/-- Settles O32, each command by its guard and its branch. -/
theorem headCommands : Obligations.HeadCommands := by
  unfold Obligations.HeadCommands
  intro s h told
  have hany : ∀ {P : Prop}, false = true → P := fun hno => absurd hno Bool.false_ne_true
  refine ⟨fun hserved => ⟨⟨_, congrArg Host.Outcome.next (vendor_served hserved hany), rfl, reply_answered ..⟩,
      fun m n hm => ⟨_, execSetChapenVersion_known n hserved hm, reply_answered .., ?_, ?_, rfl⟩,
      fun m n h1 h2 => ⟨_, execSetChapenVersion_unknown n hserved h1 h2, rfl, reply_answered ..⟩,
      ⟨_, congrArg Host.Outcome.next (vendor_served hserved hany), rfl, reply_answered ..⟩,
      fun g f l ok hg hroom => ?_,
      fun f l ok hno => ⟨_, congrArg Host.Outcome.next (guarded_notHeld hserved hany rfl hno), rfl, reply_answered ..⟩,
      fun g hg hroom => ⟨_, congrArg Host.Outcome.next (guarded_stale hserved hany (Ne.symm hg)), reply_stale h 0xC112 1 hroom⟩,
      fun hno => ⟨_, congrArg Host.Outcome.next (guarded_notHeld hserved hany rfl hno), rfl, reply_answered ..⟩,
      fun hholds => ⟨fun hfree => ⟨_, execReleaseHeldAccess_guarded hserved hholds, ?_⟩, fun hheld href => ⟨_, execReleaseHeldAccess_guarded hserved hholds, ?_⟩,
        fun hheld hok hrun => yields_releaseHeldAccess_released hserved hholds hheld ?_ hrun⟩⟩,
    fun hno g => ⟨⟨_, congrArg Host.Outcome.next (vendor_unserved hno), rfl⟩, ⟨_, congrArg Host.Outcome.next (vendor_unserved hno), rfl⟩,
      ⟨_, congrArg Host.Outcome.next (vendor_unserved hno), rfl⟩⟩⟩
  · exact (perHead_get_set ..).trans (if_pos rfl)
  · exact (perHead_get_set ..).trans (if_neg (head_other_ne h))
  · obtain ⟨hanswer, hframe⟩ := reply_stale h 0xC121 0 hroom
    exact ⟨_, congrArg Host.Outcome.next (guarded_stale hserved hany (Ne.symm hg)), hanswer, by rw [hframe], hframe⟩
  · rw [if_pos (by simp [hfree])]
    exact ⟨rfl, reply_answered ..⟩
  · rw [if_neg (by simp [hheld]), if_pos ((releaseRefused_iff s).mpr href)]
    exact ⟨rfl, reply_answered ..⟩
  · rw [Bool.eq_false_iff]
    exact fun href => hok ((releaseRefused_iff s).mp href)

end Sys2Proof.Machine
end

section
/-!
PROOFS. Pan ownership (R262 to R268, R275): what a host's answers to capacity events do, and what Set Pan Roles does to each pan.
-/
namespace Sys2Proof.Machine

/-! ### A host's answers to capacity events (R259, R267) -/

theorem perHead_set_set {α : Type} (p : PerHead α) (h : Head) (v w : α) : (p.set h v).set h w = p.set h w := by cases h <;> rfl

theorem perHead_get_other {α : Type} (p : PerHead α) (h : Head) (v : α) : (p.set h v).get h.other = p.get h.other :=
  (perHead_get_set ..).trans (if_neg (head_other_ne h))

theorem perHead_get_self {α : Type} (p : PerHead α) (h : Head) (v : α) : (p.set h v).get h = v :=
  (perHead_get_set ..).trans (if_pos rfl)

/-- An operation that gives one pan `f` of itself and leaves the others. -/
def PanStep (op : Nat → State → State) (f : Pan → Pan) : Prop :=
  ∀ n s m, (op n s).pan m = if m = n then f (s.pan m) else s.pan m

/-- Run over a list, an idempotent step gives each named pan `f` of itself. -/
theorem PanStep.foldl {op : Nat → State → State} {f : Pan → Pan} (h : PanStep op f) (hf : ∀ p, f (f p) = f p) {α : Type} (key : α → Nat)
    (l : List α) (s : State) (m : Nat) :
    (l.foldl (fun s e => op (key e) s) s).pan m = if m ∈ l.map key then f (s.pan m) else s.pan m := by
  induction l generalizing s with
  | nil => simp
  | cons e t ih =>
    rw [List.foldl_cons, ih, h, List.map_cons]
    by_cases hm : m = key e
    · rw [if_pos hm, hf, ite_self, if_pos (List.mem_cons.mpr (Or.inl hm))]
    · rw [if_neg hm]
      have hiff : m ∈ key e :: t.map key ↔ m ∈ t.map key := by simp [hm]
      simp only [hiff]

/-- A pan whose offered extent a head accepts (R267). -/
def accepted (h : Head) (p : Pan) : Pan := { p with acc := p.acc.set h (p.state.grants h), offered := p.offered.set h false }

theorem acceptPan_step (h : Head) : PanStep (acceptPan h) (accepted h) := by
  intro n s m
  have hpans : (acceptPan h n s).pan m = tblGet {} (tblUpd {} n (accepted h) s.pans) m := rfl
  rw [hpans, tblGet_upd]
  split <;> rename_i hm
  · subst hm
    rfl
  · rfl

theorem accepted_accepted (h : Head) (p : Pan) : accepted h (accepted h p) = accepted h p := by
  simp [accepted, perHead_set_set]

/-- A pan whose pending loss takes effect for a head (R267). -/
def released (h : Head) (p : Pan) : Pan :=
  if (p.losing.get h).isSome then { p with
    acc := p.acc.set h .none, losing := p.losing.set h none, offered := p.offered.set h (decide (p.state.grants h ≠ .none)) } else p

theorem released_of_none {h : Head} {p : Pan} (hno : p.losing.get h = none) : released h p = p := by simp [released, hno]

theorem released_of_some {h : Head} {p : Pan} (hsome : p.losing.get h ≠ none) : released h p = { p with
    acc := p.acc.set h .none, losing := p.losing.set h none, offered := p.offered.set h (decide (p.state.grants h ≠ .none)) } := by
  rw [released, if_pos (Option.isSome_iff_ne_none.mpr hsome)]

theorem released_released (h : Head) (p : Pan) : released h (released h p) = released h p := by
  by_cases hno : p.losing.get h = none
  · rw [released_of_none hno, released_of_none hno]
  · rw [released_of_some hno]
    exact released_of_none (perHead_get_self ..)

theorem releasePan_step (h : Head) : PanStep (releasePan h) (released h) := by
  intro n s m
  unfold releasePan
  dsimp only
  split <;> rename_i hsome
  · have hpans : ∀ (u : State) g a, (panEvents h n g false a u).pan m = u.pan m := by
      intro u g a
      simp [State.pan]
    rw [hpans]
    refine (tblGet_put ({} : Pan) n _ s.pans m).trans ?_
    split <;> rename_i hm
    · subst hm
      exact (if_pos hsome).symm
    · rfl
  · split <;> rename_i hm
    · subst hm
      exact (if_neg hsome).symm
    · rfl

theorem foldl_acceptPan_frame (h : Head) (l : List (Nat × Nat)) (s : State) :
    l.foldl (fun s e => acceptPan h e.1 s) s = { s with pans := (l.foldl (fun s e => acceptPan h e.1 s) s).pans } := by
  induction l generalizing s with
  | nil => rfl
  | cons e t ih =>
    rw [List.foldl_cons, ih]
    rfl

theorem releasePan_frame_eq (h : Head) (n : Nat) (s : State) :
    releasePan h n s = { s with pans := (releasePan h n s).pans, heads := (releasePan h n s).heads } :=
  releasePan_only (fun u => { u with pans := (releasePan h n s).pans, heads := (releasePan h n s).heads }) (fun _ _ _ => rfl) h n s

theorem foldl_releasePan_frame (h : Head) (l : List (Nat × Nat)) (s : State) :
    l.foldl (fun s e => releasePan h e.1 s) s = { s with
      pans := (l.foldl (fun s e => releasePan h e.1 s) s).pans, heads := (l.foldl (fun s e => releasePan h e.1 s) s).heads } := by
  induction l generalizing s with
  | nil => rfl
  | cons e t ih =>
    rw [List.foldl_cons, ih]
    generalize List.foldl _ _ t = v
    rw [releasePan_frame_eq]

/-- What an answer leaves of every pan: state, generation, the other head's access, and a pan not named whole. -/
def PansSame (h : Head) (l : List (Nat × Nat)) (s t : State) : Prop := ∀ p, (t.pan p).state = (s.pan p).state ∧
  (t.pan p).gen = (s.pan p).gen ∧ (t.pan p).acc.get h.other = (s.pan p).acc.get h.other ∧ (p ∉ l.map Prod.fst → t.pan p = s.pan p)

theorem pansSame_of_step {h : Head} {l : List (Nat × Nat)} {s t : State} {f : Pan → Pan}
    (hpan : ∀ m, t.pan m = if m ∈ l.map Prod.fst then f (s.pan m) else s.pan m)
    (hf : ∀ p, (f p).state = p.state ∧ (f p).gen = p.gen ∧ (f p).acc.get h.other = p.acc.get h.other) : PansSame h l s t := by
  intro p
  rw [hpan]
  by_cases hp : p ∈ l.map Prod.fst
  · rw [if_pos hp]
    exact ⟨(hf _).1, (hf _).2.1, (hf _).2.2, fun hno => absurd hp hno⟩
  · rw [if_neg hp]
    exact ⟨rfl, rfl, rfl, fun _ => rfl⟩

theorem accepted_same (h : Head) (p : Pan) : (accepted h p).state = p.state ∧ (accepted h p).gen = p.gen ∧
    (accepted h p).acc.get h.other = p.acc.get h.other := ⟨rfl, rfl, perHead_get_other ..⟩

theorem released_same (h : Head) (p : Pan) : (released h p).state = p.state ∧ (released h p).gen = p.gen ∧
    (released h p).acc.get h.other = p.acc.get h.other := by
  unfold released
  split
  · exact ⟨rfl, rfl, perHead_get_other ..⟩
  · exact ⟨rfl, rfl, rfl⟩

theorem cxlCmd_served {h : Head} {k : State → State} {s : State} (hs : s.served h = true) : cxlCmd h k s = k s := by simp [cxlCmd, hs]

theorem replyCxl_answered (h : Head) (op code : Nat) (p : Payload) (s : State) : (replyCxl h op code p s).AnsweredCxl h op code p :=
  (perHead_get_set ..).trans (if_pos rfl)

theorem replyCxl_frame_eq (h : Head) (op code : Nat) (p : Payload) (s : State) :
    replyCxl h op code p s = { s with replies := (replyCxl h op code p s).replies } := rfl

theorem execAddDynamicCapacityResponse_served {s : State} {h : Head} (l : List (Nat × Nat)) (hserved : s.served h = true) :
    execAddDynamicCapacityResponse h l s = .next (if (l.all fun e => e.1 < s.panCount && (s.pan e.1).offered.get h && (s.pan e.1).gen == e.2)
      then replyCxl h 0x4802 0 .empty (l.foldl (fun s e => acceptPan h e.1 s) s) else replyCxl h 0x4802 2 .empty s) :=
  congrArg Host.Outcome.next (cxlCmd_served hserved)

theorem execReleaseDynamicCapacity_served {s : State} {h : Head} (l : List (Nat × Nat)) (hserved : s.served h = true) :
    execReleaseDynamicCapacity h l s = .next (if (l.all fun e => e.1 < s.panCount
        && (decide ((s.pan e.1).acc.get h ≠ .none) || decide ((s.pan e.1).state.grants h ≠ .none)))
      then replyCxl h 0x4803 0 .empty (l.foldl (fun s e => releasePan h e.1 s) s) else replyCxl h 0x4803 2 .empty s) :=
  congrArg Host.Outcome.next (cxlCmd_served hserved)

theorem yields_addDynamicCapacityResponse {s : State} {h : Head} {l : List (Nat × Nat)} (hserved : s.served h = true)
    (hoffered : ∀ e ∈ l, e.1 < s.panCount ∧ (s.pan e.1).offered.get h = true ∧ (s.pan e.1).gen = e.2) :
    Yields (.addDynamicCapacityResponse h l) s fun t =>
      PansSame h l s t ∧ (∀ p, p ∈ l.map Prod.fst → (t.pan p).acc.get h = (s.pan p).state.grants h ∧ (t.pan p).offered.get h = false) ∧
      t.AnsweredCxl h 0x4802 0 .empty ∧ t = { s with pans := t.pans, replies := t.replies } := by
  refine ⟨_, (execAddDynamicCapacityResponse_served l hserved).trans (congrArg Host.Outcome.next (if_pos ?_)), ?_⟩
  · simpa [and_assoc] using hoffered
  · have hpan := (acceptPan_step h).foldl (accepted_accepted h) Prod.fst l s
    have hframe := foldl_acceptPan_frame h l s
    generalize l.foldl (fun s e => acceptPan h e.1 s) s = v at hpan hframe ⊢
    refine ⟨pansSame_of_step (t := replyCxl h 0x4802 0 .empty v) hpan (accepted_same h), fun p hp => ?_, replyCxl_answered .., ?_⟩
    · have hp' : (replyCxl h 0x4802 0 .empty v).pan p = accepted h (s.pan p) := (hpan p).trans (if_pos hp)
      rw [hp']
      exact ⟨perHead_get_self .., perHead_get_self ..⟩
    · rw [replyCxl_frame_eq, hframe]

theorem yields_releaseDynamicCapacity {s : State} {h : Head} {l : List (Nat × Nat)} (hserved : s.served h = true)
    (hhas : ∀ e ∈ l, e.1 < s.panCount ∧ ((s.pan e.1).acc.get h ≠ .none ∨ (s.pan e.1).state.grants h ≠ .none)) :
    Yields (.releaseDynamicCapacity h l) s fun t =>
      PansSame h l s t ∧
      (∀ p, p ∈ l.map Prod.fst → (s.pan p).losing.get h ≠ none → (t.pan p).acc.get h = .none ∧ (t.pan p).losing.get h = none ∧
        ((t.pan p).offered.get h = true ↔ (s.pan p).state.grants h ≠ .none)) ∧
      (∀ p, p ∈ l.map Prod.fst → (s.pan p).losing.get h = none → t.pan p = s.pan p) ∧
      t.AnsweredCxl h 0x4803 0 .empty ∧ t = { s with pans := t.pans, heads := t.heads, replies := t.replies } := by
  refine ⟨_, (execReleaseDynamicCapacity_served l hserved).trans (congrArg Host.Outcome.next (if_pos ?_)), ?_⟩
  · simpa using hhas
  · have hpan := (releasePan_step h).foldl (released_released h) Prod.fst l s
    have hframe := foldl_releasePan_frame h l s
    generalize l.foldl (fun s e => releasePan h e.1 s) s = v at hpan hframe ⊢
    have hnamed : ∀ p, p ∈ l.map Prod.fst → (replyCxl h 0x4803 0 .empty v).pan p = released h (s.pan p) :=
      fun p hp => (hpan p).trans (if_pos hp)
    refine ⟨pansSame_of_step (t := replyCxl h 0x4803 0 .empty v) hpan (released_same h), fun p hp hsome => ?_, fun p hp hnone => ?_,
      replyCxl_answered .., ?_⟩
    · rw [hnamed p hp, released_of_some hsome]
      refine ⟨perHead_get_self .., perHead_get_self .., ?_⟩
      dsimp only
      rw [perHead_get_self, decide_eq_true_iff]
    · rw [hnamed p hp, released_of_none hnone]
    · rw [replyCxl_frame_eq, hframe]

/-- Settles O31. -/
theorem capacityAnswers : Obligations.CapacityAnswers := by
  unfold Obligations.CapacityAnswers
  intro s h l hserved
  refine ⟨fun hoffered => yields_addDynamicCapacityResponse hserved hoffered, fun hno => ?_,
    fun hhas => yields_releaseDynamicCapacity hserved hhas, fun hno => ?_⟩
  · refine ⟨_, (execAddDynamicCapacityResponse_served l hserved).trans (congrArg Host.Outcome.next (if_neg fun hall => hno ?_)),
      replyCxl_answered .., rfl⟩
    simpa [and_assoc] using hall
  · refine ⟨_, (execReleaseDynamicCapacity_served l hserved).trans (congrArg Host.Outcome.next (if_neg fun hall => hno ?_)),
      replyCxl_answered .., rfl⟩
    simpa using hall

/-! ### One pan's new state as each head sees it (R267) -/

/-- What a head's view of a change leaves of the other head, of the state and of the generation. -/
theorem panHead_other (now : Nat) (force : Bool) (h : Head) (g0 g1 : Access) (p : Pan) :
    (panHead now force h g0 g1 p).1.acc.get h.other = p.acc.get h.other ∧
    (panHead now force h g0 g1 p).1.losing.get h.other = p.losing.get h.other ∧
    (panHead now force h g0 g1 p).1.offered.get h.other = p.offered.get h.other := by
  unfold panHead
  dsimp only
  repeat' split
  all_goals simp only [perHead_get_other, and_self]

/-- Without FORCE and with no loss pending: a narrowing waits, an offer waits, a widening of what the head has applies at once. -/
theorem panHead_asked (now : Nat) (h : Head) (g0 g1 : Access) {p : Pan} (hno : p.losing.get h = none) :
    (panHead now false h g0 g1 p).1.acc.get h =
      (if g1.rank < g0.rank ∨ (g0 = .none ∧ g1 ≠ .none) then p.acc.get h else if p.acc.get h = .none then .none else g1) ∧
    (panHead now false h g0 g1 p).1.losing.get h = (if g1.rank < g0.rank ∧ p.acc.get h ≠ .none then some now else none) ∧
    (g0 = .none → g1 ≠ .none → (panHead now false h g0 g1 p).1.offered.get h = true) := by
  unfold panHead
  dsimp only
  rw [hno, if_neg (by simp)]
  by_cases hless : g1.rank < g0.rank
  · have hzero : g0 ≠ .none := by
      rintro rfl
      exact absurd hless (Nat.not_lt_zero _)
    by_cases hacc : p.acc.get h = .none
    · simp [hless, hacc, hzero, perHead_get_self]
    · simp [hless, hacc, hzero, perHead_get_self]
  · by_cases hnew : g0 = .none ∧ g1 ≠ .none
    · obtain ⟨rfl, hne⟩ := hnew
      simp [hless, hne, perHead_get_self, hno]
    · have hoff : ¬ (decide (g0 = .none) && decide (g1 ≠ .none)) = true := by simpa using hnew
      rw [if_neg hless, if_neg hoff]
      simp [hless, hnew, perHead_get_self, hno]
      intro h0 h1
      exact absurd ⟨h0, h1⟩ hnew

/-- A pan in its new state (R262, R265, R267). -/
def panTaken (now : Nat) (force : Bool) (st : PanState) (p : Pan) : Pan :=
  let a := panHead now force .a (p.state.grants .a) (st.grants .a) p
  let b := panHead now force .b (p.state.grants .b) (st.grants .b) a.1
  { b.1 with state := st, gen := (p.gen + 1) % 65536 }

/-- Each head's part of the new pan is that head's own view. -/
theorem panTaken_head (now : Nat) (force : Bool) (st : PanState) (p : Pan) (k : Head) : ∃ q : Pan,
    q.acc.get k = p.acc.get k ∧ q.losing.get k = p.losing.get k ∧ q.offered.get k = p.offered.get k ∧
    (panTaken now force st p).acc.get k = (panHead now force k (p.state.grants k) (st.grants k) q).1.acc.get k ∧
    (panTaken now force st p).losing.get k = (panHead now force k (p.state.grants k) (st.grants k) q).1.losing.get k ∧
    (panTaken now force st p).offered.get k = (panHead now force k (p.state.grants k) (st.grants k) q).1.offered.get k := by
  cases k
  · obtain ⟨hacc, hlosing, hoffered⟩ := panHead_other now force .b (p.state.grants .b) (st.grants .b)
      (panHead now force .a (p.state.grants .a) (st.grants .a) p).1
    exact ⟨p, rfl, rfl, rfl, hacc, hlosing, hoffered⟩
  · obtain ⟨hacc, hlosing, hoffered⟩ := panHead_other now force .a (p.state.grants .a) (st.grants .a) p
    exact ⟨_, hacc, hlosing, hoffered, rfl, rfl, rfl⟩

/-- What an entry of Set Pan Roles makes of its pan. -/
def panChanged (now : Nat) (force : Bool) (st : PanState) (p : Pan) : Pan := if p.state = st then p else panTaken now force st p

theorem panTaken_state (now : Nat) (force : Bool) (st : PanState) (p : Pan) :
    (panTaken now force st p).state = st ∧ (panTaken now force st p).gen = (p.gen + 1) % 65536 := ⟨rfl, rfl⟩

theorem applyPan_frame_eq (force : Bool) (n : Nat) (st : PanState) {s : State} (hroom : s.tly.fifo.length < 32) :
    applyPan force n st s = { s with
      pans := (applyPan force n st s).pans, heads := (applyPan force n st s).heads, tly := (applyPan force n st s).tly } ∧
    (applyPan force n st s).tly.fifo.length ≤ s.tly.fifo.length + 1 ∧
    ∀ m, (applyPan force n st s).pan m = if m = n then panChanged s.dev.aonUs force st (s.pan n) else s.pan m := by
  unfold applyPan panChanged
  dsimp only
  split <;> rename_i hst
  · refine ⟨rfl, Nat.le_succ _, fun m => ?_⟩
    split <;> rename_i hm
    · rw [hm]
    · rfl
  · generalize hu : ({ s with pans := tblPut {} n _ s.pans } : State) = u
    have hupan : ∀ m, u.pan m = if m = n then panTaken s.dev.aonUs force st (s.pan n) else s.pan m := by
      intro m
      rw [← hu]
      exact tblGet_put ({} : Pan) n _ s.pans m
    have hustate : u = { s with pans := u.pans } := by rw [← hu]
    generalize (panHead s.dev.aonUs force .a ((s.pan n).state.grants .a) (st.grants .a) (s.pan n)).2.1 = ra
    generalize (panHead s.dev.aonUs force .a ((s.pan n).state.grants .a) (st.grants .a) (s.pan n)).2.2 = aa
    generalize (panHead s.dev.aonUs force .b _ _ _).2.1 = rb
    generalize (panHead s.dev.aonUs force .b _ _ _).2.2 = ab
    have hevents : ∀ (h : Head) g r a (w : State), panEvents h n g r a w = { w with heads := (panEvents h n g r a w).heads } :=
      fun h g r a w => panEvents_only (fun x => { x with heads := (panEvents h n g r a w).heads }) (fun _ _ => rfl) h n g r a w
    generalize hv : panEvents .b n _ rb ab (panEvents .a n _ ra aa u) = v
    have hvstate : v = { u with heads := v.heads } := by
      rw [← hv, hevents .b, hevents .a]
    have hvroom : v.tly.fifo.length < 32 := by rw [hvstate, hustate]; exact hroom
    rw [tlyTrigger_room 0x105 0 v hvroom]
    have hreach : ∀ (g0 g : Nat) (w : State), ∃ hs, chapenEvent .info 0x04 0 0xFF n g0 g 0 w = { w with heads := hs } :=
      fun g0 g w => ⟨_, chapenEvent_reaches_heads ..⟩
    obtain ⟨hs, hw⟩ := hreach (s.pan n).gen (((s.pan n).gen + 1) % 65536)
      { v with tly := { v.tly with fifo := v.tly.fifo ++ [⟨0x105, 7, v.dev.st.code, 0⟩] } }
    rw [hw]
    refine ⟨?_, ?_, fun m => ?_⟩
    · rw [hvstate, hustate]
    · rw [hvstate, hustate]
      simp
    · rw [← hupan]
      have hpans : v.pans = u.pans := by rw [hvstate]
      show tblGet {} v.pans m = tblGet {} u.pans m
      rw [hpans]

/-! ### A list of changes (R280) -/

/-- The state an entry names; the check has refused an unknown one. -/
def panTarget (c : PanChange) : PanState := (PanState.ofCode c.state).getD .unassigned

/-- The changes applied in order. -/
def applyPans (force : Bool) (l : List PanChange) (s : State) : State :=
  l.foldl (fun s c => applyPan force c.pan (panTarget c) s) s

theorem applyPans_spec (force : Bool) {l : List PanChange} (hnodup : (l.map PanChange.pan).Nodup) {s : State}
    (hroom : s.tly.fifo.length + l.length ≤ 32) :
    (∀ c ∈ l, (applyPans force l s).pan c.pan = panChanged s.dev.aonUs force (panTarget c) (s.pan c.pan)) ∧
    (∀ p, p ∉ l.map PanChange.pan → (applyPans force l s).pan p = s.pan p) ∧
    applyPans force l s = { s with
      pans := (applyPans force l s).pans, heads := (applyPans force l s).heads, tly := (applyPans force l s).tly } := by
  induction l generalizing s with
  | nil => exact ⟨fun c hc => absurd hc List.not_mem_nil, fun _ _ => rfl, rfl⟩
  | cons c t ih =>
    rw [List.length_cons] at hroom
    obtain ⟨hstate, hlen, hpan⟩ := applyPan_frame_eq force c.pan (panTarget c) (s := s) (by omega)
    rw [List.map_cons, List.nodup_cons] at hnodup
    obtain ⟨hnot, hrest⟩ := hnodup
    have hfold : applyPans force (c :: t) s = applyPans force t (applyPan force c.pan (panTarget c) s) := rfl
    rw [hfold]
    generalize applyPan force c.pan (panTarget c) s = u at hstate hlen hpan ⊢
    obtain ⟨hnamed, hother, hframe⟩ := ih hrest (s := u) (by omega)
    have hnow : u.dev.aonUs = s.dev.aonUs := by rw [hstate]
    refine ⟨fun d hd => ?_, fun p hp => ?_, ?_⟩
    · rcases List.mem_cons.mp hd with rfl | hmem
      · rw [hother d.pan hnot, hpan, if_pos rfl]
      · have hne : d.pan ≠ c.pan := fun heq => hnot (heq ▸ List.mem_map_of_mem hmem)
        rw [hnamed d hmem, hnow, hpan, if_neg hne]
    · rw [List.map_cons, List.mem_cons, not_or] at hp
      rw [hother p hp.2, hpan, if_neg hp.1]
    · rw [hframe, hstate]

/-! ### The check of the entries (R275, R279) -/

theorem panState_ofCode_code (p : PanState) : PanState.ofCode p.code = some p := by cases p <;> rfl

theorem panState_ofCode_le {n : Nat} (hn : n ≤ 4) : ∃ p, PanState.ofCode n = some p ∧ p.code = n := by
  match n, hn with
  | 0, _ | 1, _ | 2, _ | 3, _ | 4, _ => exact ⟨_, rfl, rfl⟩

theorem panState_ofCode_gt {n : Nat} (hn : 4 < n) : PanState.ofCode n = none := by
  match n, hn with
  | m + 5, _ => rfl

/-- An entry whose state is known names it by its code. -/
theorem target_code {c : PanChange} (hc : c.state ≤ 4) : (panTarget c).code = c.state ∧ PanState.ofCode c.state = some (panTarget c) := by
  obtain ⟨p, hp, hcode⟩ := panState_ofCode_le hc
  rw [panTarget, hp]
  exact ⟨hcode, rfl⟩

theorem state_eq_target_iff {c : PanChange} (hc : c.state ≤ 4) (p : PanState) : p = (panTarget c) ↔ p.code = c.state := by
  obtain ⟨hcode, htarget⟩ := target_code hc
  constructor
  · rintro rfl
    exact hcode
  · intro h
    rw [← h, panState_ofCode_code] at htarget
    exact Option.some.inj htarget

/-- An entry as it stands (R275). -/
def GoodEntry (s : State) (c : PanChange) : Prop := c.pan < s.panCount ∧ c.state ≤ 4 ∧ c.gen = (s.pan c.pan).gen

theorem panEntry_good {s : State} {force : Bool} {before : List Nat} {c : PanChange} (hgood : GoodEntry s c) (hnew : c.pan ∉ before)
    (hforce : force = true → s.forceOk c.pan (panTarget c) = true) : s.panEntry force before c = 0 := by
  obtain ⟨hpan, hstate, hgen⟩ := hgood
  unfold State.panEntry
  rw [(target_code hstate).2]
  dsimp only
  rw [if_neg (by simp [hnew, hpan]), if_neg (by simp [hgen]), if_neg]
  cases force
  · simp
  · simp [hforce rfl]

/-- Good entries of different pans pass, and the next entry decides. -/
theorem panCheck_append {s : State} (force : Bool) {l : List PanChange} (r : List PanChange) (before : List Nat)
    (hgood : ∀ c ∈ l, GoodEntry s c) (hforce : force = true → ∀ c ∈ l, s.forceOk c.pan (panTarget c) = true)
    (hnodup : (l.map PanChange.pan).Nodup) (hnew : ∀ c ∈ l, c.pan ∉ before) :
    s.panCheck force before (l ++ r) = s.panCheck force ((l.map PanChange.pan).reverse ++ before) r := by
  induction l generalizing before with
  | nil => rfl
  | cons c t ih =>
    rw [List.map_cons, List.nodup_cons] at hnodup
    obtain ⟨hnot, hrest⟩ := hnodup
    have hzero := panEntry_good (force := force) (hgood c List.mem_cons_self) (hnew c List.mem_cons_self)
      fun hf => hforce hf c List.mem_cons_self
    rw [List.cons_append, State.panCheck, hzero, if_neg (by simp), ih (c.pan :: before) (fun d hd => hgood d (List.mem_cons_of_mem c hd))
      (fun hf d hd => hforce hf d (List.mem_cons_of_mem c hd)) hrest, List.map_cons, List.reverse_cons, List.append_assoc]
    · rfl
    · intro d hd
      rw [List.mem_cons, not_or]
      exact ⟨fun heq => hnot (heq ▸ List.mem_map_of_mem hd), hnew d (List.mem_cons_of_mem c hd)⟩

theorem panCheck_good {s : State} (force : Bool) {l : List PanChange} (hgood : ∀ c ∈ l, GoodEntry s c)
    (hforce : force = true → ∀ c ∈ l, s.forceOk c.pan (panTarget c) = true) (hnodup : (l.map PanChange.pan).Nodup) :
    s.panCheck force [] l = none := by
  have happend := panCheck_append force [] [] hgood hforce hnodup fun _ _ => List.not_mem_nil
  rw [List.append_nil] at happend
  rw [happend]
  rfl

theorem panCheck_cons {s : State} (force : Bool) (before : List Nat) (c : PanChange) (r : List PanChange)
    (hbad : s.panEntry force before c ≠ 0) : s.panCheck force before (c :: r) = some (c.pan, s.panEntry force before c) := by
  rw [State.panCheck, if_pos hbad]

/-! ### What Set Pan Roles answers (R280) -/

theorem setPanRoles_of_size {l : List PanChange} (h : Head) (force ok : Bool) (s : State) (hsize : l ≠ [] ∧ l.length ≤ 256) :
    setPanRoles h force l ok s = match s.panCheck force [] l with
      | some (p, st) => reply h 0xC121 st .empty (if st = 1 then staleReject h p s else s)
      | none => if !ok then reply h 0xC121 0x10 .empty s else
          reply h 0xC121 0 (.words (l.map fun c => ((applyPans force l s).pan c.pan).gen)) (stampOverflow (applyPans force l s)) := by
  unfold setPanRoles
  rw [if_neg (by simp [hsize.1, Nat.not_lt.mpr hsize.2])]
  rfl

theorem execSetPanRoles_guarded {s : State} {h : Head} (force : Bool) (l : List PanChange) (ok : Bool)
    (hguard : s.Guard h 0 (s.cell 0).gen) : execSetPanRoles h (s.cell 0).gen force l ok s = .next (setPanRoles h force l ok s) :=
  congrArg Host.Outcome.next (guarded_served hguard.1 (fun hno => absurd hno Bool.false_ne_true) rfl hguard.2.2.2)

theorem setPanRoles_applied {h : Head} {force : Bool} {l : List PanChange} {s : State} (hsize : l ≠ [] ∧ l.length ≤ 256)
    (hcheck : s.panCheck force [] l = none) : setPanRoles h force l true s =
      reply h 0xC121 0 (.words (l.map fun c => ((applyPans force l s).pan c.pan).gen)) (stampOverflow (applyPans force l s)) := by
  rw [setPanRoles_of_size h force true s hsize, hcheck]
  rfl

theorem stampOverflow_pan (s : State) (p : Nat) : (stampOverflow s).pan p = s.pan p := by simp [State.pan]

theorem stampOverflow_frame_eq (s : State) : stampOverflow s = { s with heads := (stampOverflow s).heads } := rfl

/-- The obligation's words on a named pan, from what its change leaves. -/
theorem panChanged_asked {now : Nat} {c : PanChange} {p : Pan} (hstate : c.state ≤ 4) (hgen : c.gen = p.gen) (hno : p.losing = ⟨none, none⟩) :
    let q := panChanged now false (panTarget c) p
    q.state.code = c.state ∧ q.gen = (if p.state.code = c.state then c.gen else (c.gen + 1) % 65536) ∧
    ∀ k, let g0 := p.state.grants k
      let g1 := q.state.grants k
      let acc := p.acc.get k
      (p.state.code ≠ c.state →
        q.acc.get k = (if g1.rank < g0.rank ∨ (g0 = .none ∧ g1 ≠ .none) then acc else if acc = .none then .none else g1) ∧
        (q.losing.get k = if g1.rank < g0.rank ∧ acc ≠ .none then some now else none) ∧
        (g0 = .none → g1 ≠ .none → q.offered.get k = true)) ∧
      (p.state.code = c.state → q = p) := by
  intro q
  have hiff := state_eq_target_iff hstate p.state
  by_cases hsame : p.state.code = c.state
  · have hq : q = p := if_pos (hiff.mpr hsame)
    rw [hq, if_pos hsame]
    exact ⟨hsame, hgen.symm, fun k => ⟨fun hne => absurd hsame hne, fun _ => rfl⟩⟩
  · have hq : q = panTaken now false (panTarget c) p := if_neg fun heq => hsame (hiff.mp heq)
    obtain ⟨hst, hg⟩ := panTaken_state now false (panTarget c) p
    rw [hq, if_neg hsame, hst, hg, hgen]
    refine ⟨(target_code hstate).1, rfl, fun k => ⟨fun _ => ?_, fun heq => absurd heq hsame⟩⟩
    obtain ⟨r, hacc, hlosing, -, hacc', hlosing', hoffered'⟩ := panTaken_head now false (panTarget c) p k
    have hnone : p.losing.get k = none := by rw [hno]; cases k <;> rfl
    obtain ⟨h1, h2, h3⟩ := panHead_asked now k (p.state.grants k) ((panTarget c).grants k) (p := r) (hlosing.trans hnone)
    rw [hacc', hlosing', hoffered', h1, h2, hacc]
    exact ⟨rfl, rfl, h3⟩

theorem yields_setPanRoles {s : State} {h : Head} {l : List PanChange} (hguard : s.Guard h 0 (s.cell 0).gen)
    (hnodup : (l.map PanChange.pan).Nodup) (hgood : ∀ c ∈ l, GoodEntry s c) (hsize : l ≠ [] ∧ l.length ≤ 256)
    (hroom : s.tly.fifo.length + l.length ≤ 32) :
    Yields (.setPanRoles h (s.cell 0).gen false l true) s fun t =>
      (∀ c ∈ l, t.pan c.pan = panChanged s.dev.aonUs false (panTarget c) (s.pan c.pan)) ∧
      (∀ p, p ∉ l.map PanChange.pan → t.pan p = s.pan p) ∧ t.Answered h 0xC121 0 (.words (l.map fun c => (t.pan c.pan).gen)) ∧
      t = { s with pans := t.pans, heads := t.heads, tly := t.tly, replies := t.replies } := by
  have hcheck := panCheck_good false hgood (fun hf => absurd hf Bool.false_ne_true) hnodup
  obtain ⟨hnamed, hother, hframe⟩ := applyPans_spec false hnodup (s := s) hroom
  refine ⟨_, (execSetPanRoles_guarded false l true hguard).trans (congrArg Host.Outcome.next (setPanRoles_applied hsize hcheck)), ?_⟩
  generalize applyPans false l s = v at hnamed hother hframe ⊢
  have hpan : ∀ ws p, (reply h 0xC121 0 ws (stampOverflow v)).pan p = v.pan p := fun _ p => stampOverflow_pan v p
  refine ⟨fun c hc => (hpan _ _).trans (hnamed c hc), fun p hp => (hpan _ _).trans (hother p hp), ?_, ?_⟩
  · simp only [hpan]
    exact reply_answered ..
  · rw [reply_frame_eq, stampOverflow_frame_eq, hframe]

/-- FORCE may take a pan whose losing head is down (R275). -/
theorem forceOk_of_down {s : State} {h : Head} {n : Nat} {st : PanState} (hdown : (s.heads.get h.other).down = true)
    (hno : (s.pan n).losing = ⟨none, none⟩) (hgain : ((s.pan n).state.grants h).rank ≤ (st.grants h).rank) : s.forceOk n st = true := by
  unfold State.forceOk
  have hnot := Nat.not_lt.mpr hgain
  cases h <;> simp_all [bothHeads, PerHead.get, Head.other]

/-- The head that has a pan under FORCE loses it at once, and the gaining head is offered it (R267). -/
theorem panTaken_forced {now : Nat} {h : Head} {st : PanState} {p : Pan} (hno : p.losing = ⟨none, none⟩)
    (hnone : p.state.grants h = .none) (hgain : st.grants h = .write) (hlost : st.grants h.other = .none) :
    (panTaken now true st p).acc.get h.other = .none ∧ (panTaken now true st p).offered.get h = true ∧
    (panTaken now true st p).losing = ⟨none, none⟩ := by
  have hself : ∀ q : Pan, q.losing = ⟨none, none⟩ → panHead now true h .none .write q = ({ q with offered := q.offered.set h true }, false, true) := by
    intro q hq
    have hget : q.losing.get h = none := by rw [hq]; cases h <;> rfl
    simp [panHead, hget, Access.rank]
  have hother : ∀ g0 (q : Pan), q.losing = ⟨none, none⟩ → (panHead now true h.other g0 .none q).1.acc = q.acc.set h.other .none ∧
      (panHead now true h.other g0 .none q).1.losing = ⟨none, none⟩ ∧
      (panHead now true h.other g0 .none q).1.offered.get h = q.offered.get h := by
    intro g0 q hq
    have hget : q.losing.get h.other = none := by rw [hq]; cases h <;> rfl
    have hset : q.losing.set h.other none = ⟨none, none⟩ := by rw [hq]; cases h <;> rfl
    have hoff : (q.offered.set h.other false).get h = q.offered.get h := by cases h <;> rfl
    unfold panHead
    dsimp only
    rw [hget, if_neg (by simp)]
    split
    · exact ⟨rfl, hset, hoff⟩
    · simp [hq]
  cases h
  · obtain ⟨hacc, hlosing, hoff⟩ := hother (p.state.grants .b) { p with offered := p.offered.set .a true } hno
    unfold panTaken
    dsimp only
    rw [hnone, hgain, hself p hno]
    change st.grants .b = .none at hlost
    rw [hlost]
    exact ⟨congrArg PerHead.b hacc, hoff, hlosing⟩
  · obtain ⟨hacc, hlosing, hoff⟩ := hother (p.state.grants .a) p hno
    unfold panTaken
    dsimp only
    change st.grants .a = .none at hlost
    have hmine := hself (panHead now true .a (p.state.grants .a) .none p).1 hlosing
    rw [hnone, hgain, hlost, hmine]
    exact ⟨congrArg PerHead.a hacc, rfl, hlosing⟩

theorem yields_setPanRoles_forced {s : State} {h : Head} {c : PanChange} (hguard : s.Guard h 0 (s.cell 0).gen) (hgood : GoodEntry s c)
    (hroom : s.tly.fifo.length < 32) (hdown : (s.heads.get h.other).down = true) (hno : (s.pan c.pan).losing = ⟨none, none⟩)
    (hchange : (s.pan c.pan).state.code ≠ c.state) (hnone : (s.pan c.pan).state.grants h = .none)
    (hgain : (panTarget c).grants h = .write) (hlost : (panTarget c).grants h.other = .none) :
    Yields (.setPanRoles h (s.cell 0).gen true [c] true) s fun t =>
      (t.pan c.pan).state.code = c.state ∧ (t.pan c.pan).acc.get h.other = .none ∧ (t.pan c.pan).offered.get h = true ∧
      (t.pan c.pan).losing = ⟨none, none⟩ ∧ t.Answered h 0xC121 0 (.words [(c.gen + 1) % 65536]) := by
  obtain ⟨hpan, hstate, hgen⟩ := hgood
  have hforce : s.forceOk c.pan (panTarget c) = true := forceOk_of_down hdown hno (by rw [hnone]; exact Nat.zero_le _)
  have hcheck : s.panCheck true [] [c] = none := panCheck_good true (by simpa using ⟨hpan, hstate, hgen⟩)
    (fun _ d hd => by rw [List.mem_singleton.mp hd]; exact hforce) (List.pairwise_singleton _ _)
  obtain ⟨hnamed, -, -⟩ := applyPans_spec true (l := [c]) (List.pairwise_singleton _ _) (s := s) (by rw [List.length_singleton]; omega)
  have htaken : (applyPans true [c] s).pan c.pan = panTaken s.dev.aonUs true (panTarget c) (s.pan c.pan) :=
    (hnamed c List.mem_cons_self).trans (if_neg fun heq => hchange ((state_eq_target_iff hstate _).mp heq))
  refine ⟨_, (execSetPanRoles_guarded true [c] true hguard).trans
    (congrArg Host.Outcome.next (setPanRoles_applied ⟨List.cons_ne_nil _ _, by simp⟩ hcheck)), ?_⟩
  generalize applyPans true [c] s = v at htaken ⊢
  have hv : ∀ ws, (reply h 0xC121 0 ws (stampOverflow v)).pan c.pan = panTaken s.dev.aonUs true (panTarget c) (s.pan c.pan) :=
    fun _ => (stampOverflow_pan v c.pan).trans htaken
  obtain ⟨hst, hg⟩ := panTaken_state s.dev.aonUs true (panTarget c) (s.pan c.pan)
  obtain ⟨hacc, hoffered, hlosing⟩ := panTaken_forced (now := s.dev.aonUs) hno hnone hgain hlost
  rw [List.map_singleton, htaken, hg, ← hgen]
  rw [hv, hst, hacc, hoffered, hlosing]
  exact ⟨(target_code hstate).1, rfl, rfl, rfl, reply_answered ..⟩

/-- The first bad entry's own status: an unknown state, a pan out of range or named before, another generation, FORCE on a pan that is not
free to be taken (R275, R279). -/
theorem panEntry_badRole {s : State} {force : Bool} {before : List Nat} {c : PanChange}
    (h : s.panCount ≤ c.pan ∨ c.pan ∈ before ∨ 4 < c.state) : s.panEntry force before c = 0xC := by
  unfold State.panEntry
  rcases Nat.lt_or_ge 4 c.state with hgt | hle
  · rw [panState_ofCode_gt hgt]
  · rw [(target_code hle).2]
    dsimp only
    rw [if_pos]
    rcases h with h | h | h
    · simp [h]
    · simp [h]
    · omega

theorem panEntry_stale {s : State} {force : Bool} {before : List Nat} {c : PanChange} (hpan : c.pan < s.panCount)
    (hnew : c.pan ∉ before) (hstate : c.state ≤ 4) (hgen : c.gen ≠ (s.pan c.pan).gen) : s.panEntry force before c = 1 := by
  unfold State.panEntry
  rw [(target_code hstate).2]
  dsimp only
  rw [if_neg (by simp [hnew, hpan]), if_pos (Ne.symm hgen)]

theorem panEntry_headActive {s : State} {before : List Nat} {c : PanChange} (hgood : GoodEntry s c) (hnew : c.pan ∉ before)
    (hforce : s.forceOk c.pan (panTarget c) = false) : s.panEntry true before c = 0xD := by
  obtain ⟨hpan, hstate, hgen⟩ := hgood
  unfold State.panEntry
  rw [(target_code hstate).2]
  dsimp only
  rw [if_neg (by simp [hnew, hpan]), if_neg (by simp [hgen]), if_pos (by simp [hforce])]

theorem forceOk_active {s : State} {n : Nat} {st : PanState} {k : Head} (hno : (s.pan n).losing = ⟨none, none⟩)
    (hup : (s.heads.get k).down = false) (hless : (st.grants k).rank < ((s.pan n).state.grants k).rank) : s.forceOk n st = false := by
  unfold State.forceOk
  cases k <;> simp_all [bothHeads, PerHead.get]

/-- A bad entry after good ones decides the answer. -/
theorem setPanRoles_fails {s : State} {h : Head} {force ok : Bool} {l r : List PanChange} {c : PanChange}
    (hsize : l ++ c :: r ≠ [] ∧ (l ++ c :: r).length ≤ 256) (hgood : ∀ c ∈ l, GoodEntry s c) (hnodup : (l.map PanChange.pan).Nodup)
    (hforce : force = true → l = []) {n : Nat} (hn : n ≠ 0) (hbad : ∀ before, (∀ p, p ∈ before ↔ p ∈ l.map PanChange.pan) →
      s.panEntry force before c = n) : setPanRoles h force (l ++ c :: r) ok s =
        reply h 0xC121 n .empty (if n = 1 then staleReject h c.pan s else s) := by
  have hentry := hbad ((l.map PanChange.pan).reverse ++ []) (by simp)
  have hcheck : s.panCheck force [] (l ++ c :: r) = some (c.pan, n) := by
    rw [panCheck_append force (c :: r) [] hgood (fun hf d hd => by rw [hforce hf] at hd; exact absurd hd List.not_mem_nil) hnodup
      fun _ _ => List.not_mem_nil, panCheck_cons force _ c r (by rw [hentry]; exact hn), hentry]
  rw [setPanRoles_of_size h force ok s hsize, hcheck]

/-- A pan's word in Get Pan Roles (R278). -/
def panWord (p : Pan) : Nat := p.state.code + (if p.pending then 256 else 0) + p.gen * 65536

theorem pending_iff (p : Pan) : p.pending = true ↔ p.losing ≠ ⟨none, none⟩ := by
  obtain ⟨st, gen, acc, offered, ⟨a, b⟩, owed⟩ := p
  cases a <;> cases b <;> simp [Pan.pending]

theorem panWord_fields (p : Pan) : panWord p % 256 = p.state.code ∧ (panWord p / 256 % 2 = 1 ↔ p.losing ≠ ⟨none, none⟩) ∧
    panWord p / 65536 = p.gen := by
  have hcode : p.state.code < 256 := by cases p.state <;> decide
  rw [← pending_iff]
  unfold panWord
  cases p.pending
  · refine ⟨?_, ?_, ?_⟩ <;> simp <;> omega
  · refine ⟨?_, ?_, ?_⟩ <;> simp <;> omega

theorem execGetPanRoles_inRange {s : State} {h : Head} {f n : Nat} (hserved : s.served h = true) (h0 : 0 < n) (hn : n ≤ 1020)
    (hcount : f + n ≤ s.panCount) : execGetPanRoles h f n s =
      .next (reply h 0xC120 0 (.words ((List.range n).map fun k => panWord (s.pan (f + k)))) s) := by
  have hne : n ≠ 0 := by omega
  rw [execGetPanRoles, vendor_served hserved (fun hno => absurd hno Bool.false_ne_true), if_neg (by simp [hne, Nat.not_lt.mpr hn]),
    if_neg (Nat.not_lt.mpr hcount)]
  rfl

/-- Settles O30. -/
theorem panRoles : Obligations.PanRoles := by
  unfold Obligations.PanRoles
  refine ⟨fun s h l hguard ⟨hnodup, hgood⟩ hsize hroom hlosing => ?_, fun s h c hguard ⟨_, hgood⟩ hroom hdown hno hchange hgrants => ?_,
    fun s h force l c r hguard hsize ⟨hnodup, hgood⟩ hforce => ⟨fun hrole ok => ?_, fun hpan hnew hstate hgen hroom ok => ?_⟩,
    fun s h c r hguard hsize ⟨_, hgood⟩ hno ⟨k, p, hup, hp, hless⟩ ok => ?_, fun s h l hguard ⟨hnodup, hgood⟩ hsize => ?_,
    fun s h f n hserved h0 hn hcount => ?_⟩
  · obtain ⟨t, hnext, hnamed, hother, hanswer, hframe⟩ := yields_setPanRoles hguard hnodup hgood hsize hroom
    refine ⟨t, hnext, fun c hc => ?_, hother, hanswer, hframe⟩
    obtain ⟨-, hstate, hgen⟩ := hgood c hc
    rw [hnamed c hc]
    exact panChanged_asked hstate hgen (hlosing c hc)
  · have hentry : GoodEntry s c := hgood c List.mem_cons_self
    obtain ⟨hnone, hgain, hlost⟩ := hgrants (panTarget c) (target_code hentry.2.1).2
    exact yields_setPanRoles_forced hguard hentry hroom hdown hno hchange hnone hgain hlost
  · refine ⟨_, (execSetPanRoles_guarded force _ ok hguard).trans (congrArg Host.Outcome.next
      (setPanRoles_fails hsize hgood hnodup hforce (n := 0xC) (by decide) fun before hbefore => panEntry_badRole ?_)),
      reply_answered .., rfl, rfl⟩
    rw [hbefore]
    exact hrole
  · obtain ⟨hanswer, hframe⟩ := reply_stale h 0xC121 c.pan hroom
    refine ⟨_, (execSetPanRoles_guarded force _ ok hguard).trans (congrArg Host.Outcome.next
      (setPanRoles_fails hsize hgood hnodup hforce (n := 1) (by decide) fun before hbefore =>
        panEntry_stale hpan (fun hmem => hnew ((hbefore _).mp hmem)) hstate hgen)), hanswer, ?_, hframe⟩
    have hpans := congrArg State.pans hframe
    exact hpans
  · have hentry : GoodEntry s c := hgood c List.mem_cons_self
    have htarget : panTarget c = p := by rw [panTarget, hp]; rfl
    refine ⟨_, (execSetPanRoles_guarded true _ ok hguard).trans (congrArg Host.Outcome.next
      (setPanRoles_fails (l := []) hsize (fun _ hd => absurd hd List.not_mem_nil) List.nodup_nil (fun _ => rfl) (n := 0xD) (by decide)
        fun before hbefore => panEntry_headActive hentry (fun hmem => List.not_mem_nil ((hbefore _).mp hmem)) ?_)), rfl, reply_answered ..⟩
    rw [htarget]
    exact forceOk_active hno hup hless
  · have hcheck := panCheck_good false hgood (fun hf => absurd hf Bool.false_ne_true) hnodup
    refine ⟨_, (execSetPanRoles_guarded false l false hguard).trans (congrArg Host.Outcome.next ?_), rfl, reply_answered ..⟩
    rw [setPanRoles_of_size h false false s hsize, hcheck]
    rfl
  · refine ⟨_, execGetPanRoles_inRange hserved h0 hn hcount, rfl, _, reply_answered .., by simp, fun k hk => ?_⟩
    refine ⟨panWord (s.pan (f + k)), by simp [hk], panWord_fields _⟩

end Sys2Proof.Machine
end

section
/-!
PROOFS. Links, grace periods and decoders (R256 to R260, R272, R289).
-/
namespace Sys2Proof.Machine

/-! ### What event records leave of a head (R284) -/

/-- A head with the same registers, but for its event logs, its handles and its pending vectors. -/
def SameLink (x y : HeadSt) : Prop := y = { x with
  info := y.info, warning := y.warning, failure := y.failure, fatal := y.fatal, dynCap := y.dynCap, nextHandle := y.nextHandle
  msix := y.msix }

theorem SameLink.refl (x : HeadSt) : SameLink x x := rfl

theorem SameLink.trans {x y z : HeadSt} (h : SameLink x y) (k : SameLink y z) : SameLink x z := by
  unfold SameLink at *
  rw [k, h]

theorem SameLink.link {x y : HeadSt} (h : SameLink x y) : y.up = x.up ∧ y.down = x.down ∧ y.grace = x.grace ∧ y.credits = x.credits ∧
    y.ide = x.ide := by
  rw [h]
  exact ⟨rfl, rfl, rfl, rfl, rfl⟩

theorem sameLink_setLog (x : HeadSt) (l : EvLog) (v : EvLogState) : SameLink x (x.setLog l v) ∧
    (l ≠ .dynCap → (x.setLog l v).dynCap = x.dynCap) := by
  cases l
  case dynCap => exact ⟨rfl, fun h => absurd rfl h⟩
  all_goals exact ⟨rfl, fun _ => rfl⟩

/-- An event record reaches one head's logs, and that head's only. -/
theorem eventTo_heads (h : Head) (l : EvLog) (b : EvBody) (s : State) :
    (∀ k, SameLink (s.heads.get k) ((eventTo h l b s).heads.get k)) ∧
    (l ≠ .dynCap → ∀ k, ((eventTo h l b s).heads.get k).dynCap = (s.heads.get k).dynCap) ∧
    (∀ k, k ≠ h → (eventTo h l b s).heads.get k = s.heads.get k) := by
  unfold eventTo
  dsimp only
  split
  · have hlog := sameLink_setLog (s.heads.get h) l (logAdd (s.stamp h) (s.heads.get h).nextHandle b ((s.heads.get h).log l))
    generalize (s.heads.get h).setLog l (logAdd (s.stamp h) (s.heads.get h).nextHandle b ((s.heads.get h).log l)) = y at hlog ⊢
    obtain ⟨hsame, hdyn⟩ := hlog
    refine ⟨fun k => ?_, fun hl k => ?_, fun k hk => ?_⟩
    · rw [perHead_get_set]
      split <;> rename_i hk
      · subst hk
        refine hsame.trans ?_
        split <;> exact rfl
      · exact SameLink.refl _
    · rw [perHead_get_set]
      split <;> rename_i hk
      · subst hk
        refine Eq.trans ?_ (hdyn hl)
        split <;> rfl
      · rfl
    · rw [perHead_get_set, if_neg hk]
  · exact ⟨fun k => SameLink.refl _, fun _ k => rfl, fun k _ => rfl⟩

theorem eventTo_frame_eq (h : Head) (l : EvLog) (b : EvBody) (s : State) :
    eventTo h l b s = { s with heads := (eventTo h l b s).heads } :=
  eventTo_only (fun u => { u with heads := (eventTo h l b s).heads }) (fun _ _ => rfl) h l b s

theorem chapenEvent_heads (l : EvLog) (typ cause head object gb ga value : Nat) (s : State) (hl : l ≠ .dynCap) (k : Head) :
    SameLink (s.heads.get k) ((chapenEvent l typ cause head object gb ga value s).heads.get k) ∧
    ((chapenEvent l typ cause head object gb ga value s).heads.get k).dynCap = (s.heads.get k).dynCap := by
  obtain ⟨hsameA, hdynA, -⟩ := eventTo_heads .a l (EvBody.chapen typ cause head s.dev.st.code object gb ga s.gov.armGen.toNat value) s
  obtain ⟨hsameB, hdynB, -⟩ := eventTo_heads .b l (EvBody.chapen typ cause head s.dev.st.code object gb ga s.gov.armGen.toNat value)
    (eventTo .a l (EvBody.chapen typ cause head s.dev.st.code object gb ga s.gov.armGen.toNat value) s)
  exact ⟨(hsameA k).trans (hsameB k), (hdynB hl k).trans (hdynA hl k)⟩

/-! ### A Release Capacity owed since the last stop (R289) -/

/-- A pan with nothing owed to a head. -/
def unowed (h : Head) (p : Pan) : Pan := { p with owed := p.owed.set h false }

theorem unowed_of_false {h : Head} {p : Pan} (hno : p.owed.get h = false) : unowed h p = p := by
  obtain ⟨st, gen, acc, offered, losing, ⟨a, b⟩⟩ := p
  cases h <;> simp_all [unowed, PerHead.set, PerHead.get]

theorem tblGet_default_or_mem {α : Type} (d : α) (t : Tbl α) (i : Nat) : tblGet d t i = d ∨ (i, tblGet d t i) ∈ t := by
  induction t with
  | nil => exact Or.inl rfl
  | cons e t ih =>
    obtain ⟨k, v⟩ := e
    rw [tblGet]
    split <;> rename_i hk
    · subst hk
      exact Or.inr List.mem_cons_self
    · exact ih.imp id (List.mem_cons_of_mem _)

/-- Folding an idempotent change of one entry over keys. -/
theorem tblGet_foldl_keys {α β : Type} [DecidableEq α] (d : α) (f : α → α) (hf : ∀ x, f (f x) = f x) (key : β → Nat) (l : List β)
    (t : Tbl α) (i : Nat) :
    tblGet d (l.foldl (fun t e => tblUpd d (key e) f t) t) i = if i ∈ l.map key then f (tblGet d t i) else tblGet d t i := by
  induction l generalizing t with
  | nil => simp
  | cons e r ih =>
    rw [List.foldl_cons, ih, tblGet_upd, List.map_cons]
    by_cases hi : i = key e
    · rw [if_pos hi, hi, hf, ite_self, if_pos List.mem_cons_self]
    · rw [if_neg hi]
      have hiff : i ∈ key e :: r.map key ↔ i ∈ r.map key := by simp [hi]
      simp only [hiff]

theorem foldl_eventTo_heads {β : Type} (h : Head) (b : β → EvBody) (l : List β) (s : State) :
    (∀ k, SameLink (s.heads.get k) ((l.foldl (fun s e => eventTo h .dynCap (b e) s) s).heads.get k)) ∧
    (∀ k, k ≠ h → (l.foldl (fun s e => eventTo h .dynCap (b e) s) s).heads.get k = s.heads.get k) ∧
    l.foldl (fun s e => eventTo h .dynCap (b e) s) s = { s with heads := (l.foldl (fun s e => eventTo h .dynCap (b e) s) s).heads } := by
  induction l generalizing s with
  | nil => exact ⟨fun _ => SameLink.refl _, fun _ _ => rfl, rfl⟩
  | cons e r ih =>
    obtain ⟨hsame, hother, hframe⟩ := ih (eventTo h .dynCap (b e) s)
    obtain ⟨hsame1, -, hother1⟩ := eventTo_heads h .dynCap (b e) s
    refine ⟨fun k => (hsame1 k).trans (hsame k), fun k hk => (hother k hk).trans (hother1 k hk), ?_⟩
    rw [List.foldl_cons, hframe]
    generalize List.foldl _ _ r = v
    rw [eventTo_frame_eq]

theorem raiseOwed_spec (h : Head) (s : State) :
    (∀ p, (raiseOwed h s).pan p = unowed h (s.pan p)) ∧ (∀ k, SameLink (s.heads.get k) ((raiseOwed h s).heads.get k)) ∧
    (∀ k, k ≠ h → (raiseOwed h s).heads.get k = s.heads.get k) ∧
    ((∀ e ∈ s.pans, e.2.owed.get h = false) → (raiseOwed h s).heads = s.heads) ∧
    raiseOwed h s = { s with heads := (raiseOwed h s).heads, pans := (raiseOwed h s).pans } := by
  unfold raiseOwed
  dsimp only
  generalize hdue : ((s.pans.filter fun e => e.2.owed.get h).map fun e => (e.1, e.2.gen)) = due
  obtain ⟨hsame, hother, hframe⟩ := foldl_eventTo_heads h (fun e : Nat × Nat => EvBody.releaseCapacity e.1 e.2) due s
  have hempty : (∀ e ∈ s.pans, e.2.owed.get h = false) → due = [] := by
    intro hnone
    rw [← hdue, List.map_eq_nil_iff, List.filter_eq_nil_iff]
    intro e he
    simp [hnone e he]
  have hpans : (due.foldl (fun s e => eventTo h .dynCap (.releaseCapacity e.1 e.2) s) s).pans = s.pans := by rw [hframe]
  refine ⟨fun p => ?_, hsame, hother, fun hnone => ?_, ?_⟩
  · show tblGet {} (due.foldl _ (due.foldl (fun s e => eventTo h .dynCap (.releaseCapacity e.1 e.2) s) s).pans) p = _
    rw [hpans]
    refine (tblGet_foldl_keys ({} : Pan) (unowed h) (fun x => by simp [unowed, perHead_set_set]) Prod.fst due s.pans p).trans ?_
    split <;> rename_i hmem
    · rfl
    · refine (unowed_of_false ?_).symm
      rcases tblGet_default_or_mem ({} : Pan) s.pans p with hdef | hin
      · show (tblGet {} s.pans p).owed.get h = false
        rw [hdef]
        cases h <;> rfl
      · refine Bool.eq_false_iff.mpr fun howed => ?_
        refine hmem ?_
        rw [← hdue, List.map_map]
        exact List.mem_map.mpr ⟨_, List.mem_filter.mpr ⟨hin, howed⟩, rfl⟩
  · rw [hempty hnone]
    rfl
  · generalize List.foldl _ _ due = w at hframe ⊢
    rw [hframe]

/-! ### Links (R256, R257, R272, R289) -/

/-- A head that has linked. -/
def linkedHead (h : Head) (r w : Nat) (i : Bool) (s : State) : HeadSt := { s.heads.get h with
  up := true, down := false, grace := false, credits := headCredits, rate := r % 8, width := w % 4
  ide := i && (s.key.spdm.get h).ideKeys }

theorem execLinkUp_links {s : State} {h : Head} (r w : Nat) (i : Bool) (hreset : (s.heads.get h).inReset = false)
    (hphy : (s.heads.get h).phyOff = false) (hst : s.running = true ∨ (s.dev.st = .reflood ∧ s.fld.f4Ended = true)) :
    execLinkUp h r w i s = .next (let u := raiseOwed h { s with heads := s.heads.set h (linkedHead h r w i s) }
      if u.running then tellOutcome u else u) := by
  unfold execLinkUp
  dsimp only
  rw [if_neg]
  · rfl
  · rcases hst with hst | hst
    · simp [hreset, hphy, hst]
    · simp [hreset, hphy, hst]

theorem execLinkUp_refused {s : State} {h : Head} (r w : Nat) (i : Bool) (hno : (s.heads.get h).inReset = true ∨
    (s.heads.get h).phyOff = true ∨ (s.running = false ∧ ¬ (s.dev.st = .reflood ∧ s.fld.f4Ended = true))) :
    execLinkUp h r w i s = .next s := by
  unfold execLinkUp
  dsimp only
  rw [if_pos]
  rcases hno with hno | hno | ⟨hrun, hno⟩
  · simp [hno]
  · simp [hno]
  · have hrestore : (decide (s.dev.st = .reflood) && s.fld.f4Ended) = false := by
      rw [Bool.eq_false_iff]
      intro hboth
      exact hno (by simpa using hboth)
    rw [hrun, hrestore]
    simp

/-- The outcome of a save, told with room for its trigger: Tally, the heads' logs and the debt (R387). -/
theorem tellOutcome_due {s : State} (hdue : s.fld.outcomeDue = true) (hroom : s.tly.fifo.length < 32) :
    (∀ k, SameLink (s.heads.get k) ((tellOutcome s).heads.get k) ∧ ((tellOutcome s).heads.get k).dynCap = (s.heads.get k).dynCap) ∧
    tellOutcome s = { s with
      heads := (tellOutcome s).heads, tly := (tellOutcome s).tly, fld := { s.fld with outcomeDue := false } } := by
  have hlog : ∀ o : Nat, (if o = 2 || o = 3 then EvLog.failure else EvLog.info) ≠ .dynCap := by
    intro o
    split <;> decide
  unfold tellOutcome
  rw [if_pos hdue]
  dsimp only
  have htrig := tlyTrigger_room 0x10B 0 { s with fld := { s.fld with outcomeDue := false } } hroom
  rw [htrig]
  refine ⟨fun k => chapenEvent_heads _ _ _ _ _ _ _ _ _ (hlog _) k, ?_⟩
  have hframe := chapenEvent_reaches_heads (if s.gov.lastSave.outcome = 2 || s.gov.lastSave.outcome = 3 then EvLog.failure else .info) 0x07
    s.gov.lastSave.outcome 0xFF 0 0 0 s.gov.lost { s with
      fld := { s.fld with outcomeDue := false }, tly := { s.tly with fifo := s.tly.fifo ++ [⟨0x10B, 7, s.dev.st.code, 0⟩] } }
  generalize chapenEvent _ _ _ _ _ _ _ _ _ = v at hframe ⊢
  rw [hframe]

theorem tellOutcome_none {s : State} (hno : s.fld.outcomeDue = false) : tellOutcome s = s := by simp [tellOutcome, hno]

theorem yields_linkUp {s : State} {h : Head} (r w : Nat) (i : Bool) (hreset : (s.heads.get h).inReset = false)
    (hphy : (s.heads.get h).phyOff = false) (hst : s.running = true ∨ (s.dev.st = .reflood ∧ s.fld.f4Ended = true))
    (hroom : s.fld.outcomeDue = true → s.tly.fifo.length < 32) : Yields (.linkUp h r w i) s fun t =>
      (t.heads.get h).up = true ∧ (t.heads.get h).down = false ∧ (t.heads.get h).grace = false ∧
      (t.heads.get h).credits = headCredits ∧ ((t.heads.get h).ide = (i && (s.key.spdm.get h).ideKeys)) ∧
      (∀ p, t.pan p = { s.pan p with owed := (s.pan p).owed.set h false }) ∧
      ((∀ e ∈ s.pans, e.2.owed.get h = false) → (t.heads.get h).dynCap = (s.heads.get h).dynCap) ∧
      (s.running = false ∨ s.fld.outcomeDue = false →
        t.heads.get h.other = s.heads.get h.other ∧ t = { s with heads := t.heads, pans := t.pans }) ∧
      (s.running = true → s.fld.outcomeDue = true → s.tly.fifo.length < 32 →
        t = { s with heads := t.heads, pans := t.pans, tly := t.tly, fld := { s.fld with outcomeDue := false } }) := by
  refine ⟨_, execLinkUp_links r w i hreset hphy hst, ?_⟩
  obtain ⟨hpan, hsame, hother, hquiet, hframe⟩ := raiseOwed_spec h { s with heads := s.heads.set h (linkedHead h r w i s) }
  generalize raiseOwed h { s with heads := s.heads.set h (linkedHead h r w i s) } = u at hpan hsame hother hquiet hframe ⊢
  have hlinked : SameLink (linkedHead h r w i s) (u.heads.get h) := by
    have := hsame h
    rwa [show (s.heads.set h (linkedHead h r w i s)).get h = linkedHead h r w i s from perHead_get_self ..] at this
  have hfar : u.heads.get h.other = s.heads.get h.other := (hother h.other (head_other_ne h)).trans (perHead_get_other ..)
  have hdyn : (∀ e ∈ s.pans, e.2.owed.get h = false) → (u.heads.get h).dynCap = (s.heads.get h).dynCap := by
    intro hnone
    rw [hquiet hnone]
    exact (congrArg HeadSt.dynCap (perHead_get_self s.heads h (linkedHead h r w i s))).trans rfl
  have hrun : u.running = s.running := by rw [hframe]; rfl
  have hdue : u.fld = s.fld := by rw [hframe]
  have htly : u.tly = s.tly := by rw [hframe]
  dsimp only
  rw [hrun]
  by_cases htold : s.running = true ∧ s.fld.outcomeDue = true
  · obtain ⟨hyes, howed⟩ := htold
    obtain ⟨hheads, hstate⟩ := tellOutcome_due (s := u) (by rw [hdue]; exact howed) (by rw [htly]; exact hroom howed)
    rw [if_pos hyes]
    generalize tellOutcome u = v at hheads hstate ⊢
    obtain ⟨hup, hdown, hgrace, hcredits, hide⟩ := (hlinked.trans (hheads h).1).link
    refine ⟨hup, hdown, hgrace, hcredits, hide, fun p => ?_, fun hnone => (hheads h).2.trans (hdyn hnone), fun hno => ?_, fun _ _ _ => ?_⟩
    · rw [← show unowed h (s.pan p) = { s.pan p with owed := (s.pan p).owed.set h false } from rfl]
      rw [show v.pan p = u.pan p by rw [hstate]; rfl]
      exact hpan p
    · rcases hno with hno | hno
      · exact absurd (hyes.symm.trans hno).symm Bool.false_ne_true
      · exact absurd (howed.symm.trans hno).symm Bool.false_ne_true
    · rw [hstate, hframe]
  · have hsilent : (if s.running = true then tellOutcome u else u) = u := by
      split <;> rename_i hyes
      · refine tellOutcome_none ?_
        rw [hdue, Bool.eq_false_iff]
        exact fun howed => htold ⟨hyes, howed⟩
      · rfl
    rw [hsilent]
    obtain ⟨hup, hdown, hgrace, hcredits, hide⟩ := hlinked.link
    refine ⟨hup, hdown, hgrace, hcredits, hide, hpan, hdyn, fun _ => ⟨hfar, ?_⟩, fun hyes howed _ => absurd ⟨hyes, howed⟩ htold⟩
    rw [hframe]

theorem yields_linkDown {s : State} {h : Head} (hup : (s.heads.get h).up = true) : Yields (.linkDown h) s fun t =>
    (t.heads.get h).up = false ∧ (t.heads.get h).down = true ∧ (t.heads.get h).grace = true ∧ (t.heads.get h).downUs = s.dev.aonUs ∧
    (t.heads.get h).cmdMajor = 2 ∧ (t.heads.get h).cmdMinor = 0 ∧ (t.heads.get h).stampBase = none ∧
    (t.heads.get h).decoders = (s.heads.get h).decoders ∧ (t.heads.get h).downs = satAdd 16 (s.heads.get h).downs 1 ∧
    t.heads.get h.other = s.heads.get h.other ∧ t = { s with heads := t.heads, fld := t.fld, lay := t.lay } := by
  refine ⟨_, congrArg Host.Outcome.next (if_pos hup), ?_⟩
  have hheads : (headDown h false s).heads = s.heads.set h { s.heads.get h with
      up := false, down := true, grace := true, downUs := s.dev.aonUs, downs := satAdd 16 (s.heads.get h).downs 1
      ide := false, rate := 0, width := 0, stampBase := none, cmdMajor := 2, cmdMinor := 0 } := by
    unfold headDown
    simp only [hup, Bool.or_true, if_true, Bool.false_eq_true, if_false]
    split <;> rfl
  have hframe : headDown h false s = { s with
      heads := (headDown h false s).heads, fld := (headDown h false s).fld, lay := (headDown h false s).lay } := by
    unfold headDown
    simp only [Bool.false_eq_true, if_false]
    split <;> rfl
  have hmine := (congrArg (fun x => PerHead.get x h) hheads).trans (perHead_get_self ..)
  have hother : (headDown h false s).heads.get h.other = s.heads.get h.other := by rw [hheads, perHead_get_other]
  generalize headDown h false s = t at hmine hother hframe ⊢
  dsimp only at hmine ⊢
  rw [hmine]
  refine ⟨rfl, rfl, rfl, rfl, rfl, rfl, rfl, rfl, rfl, hother, hframe⟩

/-! ### Grace periods (R272) -/

/-- Triggers of a forced release in the FIFO. -/
def forcedTriggers (l : List TlyTrig) : Nat := (l.filter fun r => r.code = 0x104).length

theorem forcedTriggers_append (l r : List TlyTrig) : forcedTriggers (l ++ r) = forcedTriggers l + forcedTriggers r := by
  simp [forcedTriggers]

/-- What one step of a grace period's end has done to `s`, given the triggers a pause's end may add. -/
structure Freed (h : Head) (n : Nat) (s t : State) : Prop where
  frame : t = { s with heads := t.heads, sem := t.sem, drn := t.drn, tly := t.tly }
  cells : ∀ m, t.cell m = if m = n then { s.cell n with state := .free, gen := (s.cell n).gen + 1 } else s.cell m
  forced : t.sem.forced = satAdd 16 s.sem.forced 1
  own : t.heads.get h = s.heads.get h
  triggers : forcedTriggers t.tly.fifo = forcedTriggers s.tly.fifo + 1
  room : t.tly.fifo.length + b2n t.drn.paused ≤ s.tly.fifo.length + b2n s.drn.paused + 1
  pause : n = 1 → t.drn.paused = false
  drain : n ≠ 1 → t.drn = s.drn
  still : s.drn.paused = false → t.drn.paused = false

/-- Freeing a cell with a place in the FIFO for the pause it may end. -/
theorem cellChange_free {n : Nat} {s : State} (hroom : s.tly.fifo.length + b2n s.drn.paused < 32) :
    let t := cellChange n .free s
    t = { s with sem := t.sem, drn := t.drn, tly := t.tly } ∧ t.sem.forced = s.sem.forced ∧
    forcedTriggers t.tly.fifo = forcedTriggers s.tly.fifo ∧
    t.tly.fifo.length + b2n t.drn.paused ≤ s.tly.fifo.length + b2n s.drn.paused ∧
    (n = 1 → t.drn.paused = false) ∧ (n ≠ 1 → t.drn = s.drn) ∧ (s.drn.paused = false → t.drn.paused = false) := by
  intro t
  by_cases hends : n = 1 ∧ s.drn.paused = true
  · obtain ⟨hn, hpaused⟩ := hends
    have hplace : (setHolder n .free s).tly.fifo.length < 32 := by
      have : (setHolder n .free s).tly = s.tly := rfl
      rw [this]
      omega
    have ht : t = endPause 4 (setHolder n .free s) := by simp only [t, cellChange, setHolder, hn]; rfl
    have hend : endPause 4 (setHolder n .free s) =
        tlyTell 0x10A 0 { setHolder n .free s with drn := { (setHolder n .free s).drn with paused := false, lastPauseEnd := 4 } } :=
      if_pos hpaused
    have htell : ∀ u : State, u.tly.fifo.length < 32 → tlyTell 0x10A 0 u =
        { u with tly := { u.tly with fifo := u.tly.fifo ++ [⟨0x10A, 7, u.dev.st.code, 0⟩] } } := by
      intro u hu
      unfold tlyTell
      rw [tlyPut_room _ _ _ _ hu]
    have htold := htell { setHolder n .free s with drn := { (setHolder n .free s).drn with paused := false, lastPauseEnd := 4 } } hplace
    rw [ht, hend, htold]
    refine ⟨rfl, rfl, ?_, ?_, fun _ => rfl, fun hne => absurd hn hne, fun _ => rfl⟩
    · show forcedTriggers (s.tly.fifo ++ _) = _
      rw [forcedTriggers_append]
      rfl
    · show (s.tly.fifo ++ [_]).length + b2n false ≤ s.tly.fifo.length + b2n s.drn.paused
      rw [hpaused]
      simp [b2n]
  · have hstays : CellState.free ≠ .free ∨ n ≠ 1 ∨ s.drn.paused = false := by
      by_cases hn : n = 1
      · exact Or.inr (Or.inr (by rw [Bool.eq_false_iff]; exact fun hp => hends ⟨hn, hp⟩))
      · exact Or.inr (Or.inl hn)
    have ht : t = setHolder n .free s := cellChange_eq_setHolder hstays
    rw [ht]
    refine ⟨rfl, rfl, rfl, Nat.le_refl _, fun hn => ?_, fun _ => rfl, fun hp => hp⟩
    exact Bool.eq_false_iff.mpr fun hp => hends ⟨hn, hp⟩

theorem forceRelease_freed {h : Head} {n : Nat} {s : State} (hroom : s.tly.fifo.length + b2n s.drn.paused < 32) :
    Freed h n s (forceRelease h n s) := by
  obtain ⟨hframe, hforced, htriggers, hlen, hpause, hdrain, hstill⟩ := cellChange_free (n := n) hroom
  have hcells := cell_cellChange n .free s
  have hrelease : forceRelease h n s = (let u := cellChange n .free s
      let v := tlyTrigger 0x104 0 { u with sem := { u.sem with
        forced := satAdd 16 u.sem.forced 1, lastCell := n, lastHead := decide (h = .b) } }
      eventTo h.other .warning (.chapen 0x03 0 h.code v.dev.st.code n (s.cell n).gen.toNat ((s.cell n).gen + 1).toNat v.gov.armGen.toNat 0) v) := rfl
  rw [hrelease]
  generalize cellChange n .free s = u at hframe hforced htriggers hlen hpause hdrain hstill hcells ⊢
  dsimp only at hframe hforced htriggers hlen hpause hdrain hstill ⊢
  have hplace : u.tly.fifo.length < 32 := by omega
  rw [tlyTrigger_room 0x104 0 { u with sem := { u.sem with
    forced := satAdd 16 u.sem.forced 1, lastCell := n, lastHead := decide (h = .b) } } hplace]
  generalize hv : ({ u with
    sem := { u.sem with forced := satAdd 16 u.sem.forced 1, lastCell := n, lastHead := decide (h = .b) }
    tly := { u.tly with fifo := u.tly.fifo ++ [⟨0x104, 7, u.dev.st.code, 0⟩] } } : State) = v
  have hevent : ∀ b, eventTo h.other .warning b v = { v with heads := (eventTo h.other .warning b v).heads } ∧
      (eventTo h.other .warning b v).heads.get h = v.heads.get h := fun b =>
    ⟨eventTo_frame_eq .., (eventTo_heads h.other .warning b v).2.2 h (Ne.symm (head_other_ne h))⟩
  generalize EvBody.chapen 3 0 h.code v.dev.st.code n (s.cell n).gen.toNat ((s.cell n).gen + 1).toNat v.gov.armGen.toNat 0 = b
  obtain ⟨hstate, hown⟩ := hevent b
  generalize eventTo h.other .warning b v = w at hstate hown
  have hheads : u.heads = s.heads := by rw [hframe]
  subst hv
  refine ⟨?_, fun m => ?_, ?_, ?_, ?_, ?_, fun hn => ?_, fun hn => ?_, fun hp => ?_⟩
  · rw [hstate, hframe]
  · rw [← hcells m, hstate]
    rfl
  · rw [hstate, ← hforced]
  · rw [hown, ← hheads]
  · rw [hstate, ← htriggers]
    exact forcedTriggers_append _ _
  · rw [hstate]
    simp only [List.length_append, List.length_singleton]
    omega
  · rw [hstate]
    exact hpause hn
  · rw [hstate]
    exact hdrain hn
  · rw [hstate]
    exact hstill hp

/-- The end of a grace period over a list of different cells. -/
theorem foldl_forceRelease {h : Head} {l : List Nat} (hnodup : l.Nodup) {s : State}
    (hroom : s.tly.fifo.length + b2n s.drn.paused + l.length ≤ 32) :
    let t := l.foldl (fun s n => forceRelease h n s) s
    t = { s with heads := t.heads, sem := t.sem, drn := t.drn, tly := t.tly } ∧
    (∀ m, t.cell m = if m ∈ l then { s.cell m with state := .free, gen := (s.cell m).gen + 1 } else s.cell m) ∧
    (s.sem.forced + l.length < 65536 → t.sem.forced = s.sem.forced + l.length) ∧ t.heads.get h = s.heads.get h ∧
    forcedTriggers t.tly.fifo = forcedTriggers s.tly.fifo + l.length ∧ (1 ∉ l → t.drn = s.drn) ∧
    (1 ∈ l → t.drn.paused = false) ∧ (s.drn.paused = false → t.drn.paused = false) := by
  induction l generalizing s with
  | nil => exact ⟨rfl, fun m => by simp, fun _ => rfl, rfl, rfl, fun _ => rfl, fun h1 => absurd h1 List.not_mem_nil, id⟩
  | cons n r ih =>
    rw [List.length_cons] at hroom
    have hfreed : Freed h n s (forceRelease h n s) := forceRelease_freed (by omega)
    rw [List.nodup_cons] at hnodup
    obtain ⟨hnot, hrest⟩ := hnodup
    rw [List.foldl_cons]
    generalize forceRelease h n s = u at hfreed ⊢
    have hnext := ih hrest (s := u) (by have := hfreed.room; omega)
    generalize List.foldl (fun s n => forceRelease h n s) u r = t at hnext ⊢
    obtain ⟨hframe, hcells, hforced, hown, htriggers, hdrain, hpause, hstill⟩ := hnext
    refine ⟨?_, fun m => ?_, fun hlow => ?_, hown.trans hfreed.own, ?_, fun h1 => ?_, fun h1 => ?_, fun hp => hstill (hfreed.still hp)⟩
    · rw [hframe, hfreed.frame]
    · rw [hcells, hfreed.cells]
      by_cases hm : m = n
      · subst hm
        rw [if_neg hnot, if_pos rfl, if_pos List.mem_cons_self]
      · have hiff : m ∈ n :: r ↔ m ∈ r := by simp [hm]
        simp only [hm, hiff, if_false]
    · rw [List.length_cons] at hlow ⊢
      have hone : u.sem.forced = s.sem.forced + 1 := by
        rw [hfreed.forced]
        show min 65535 (s.sem.forced + 1) = _
        omega
      rw [hforced (by omega), hone]
      omega
    · rw [htriggers, hfreed.triggers, List.length_cons]
      omega
    · rw [List.mem_cons, not_or] at h1
      rw [hdrain h1.2, hfreed.drain (Ne.symm h1.1)]
    · rcases List.mem_cons.mp h1 with hn | hr
      · exact hstill (hfreed.pause hn.symm)
      · exact hpause hr

theorem yields_graceExpiry {s : State} {h : Head} (hgrace : (s.heads.get h).grace = true) (hup : (s.heads.get h).up = false)
    (hsaving : s.saving = false) (halive : s.alive = true)
    (hroom : s.tly.fifo.length + ((List.range 32).filter fun n => s.holds h n).length < 32) :
    let held := (List.range 32).filter fun n => s.holds h n
    Yields (.graceExpiry h) s fun t =>
        (∀ n, n < 32 → t.cell n =
          if s.holds h n then { s.cell n with state := .free, gen := (s.cell n).gen + 1 } else s.cell n) ∧
        (s.sem.forced + held.length < 65536 → t.sem.forced = s.sem.forced + held.length) ∧
        (t.tly.fifo.filter fun r => r.code = 0x104).length = (s.tly.fifo.filter fun r => r.code = 0x104).length + held.length ∧
        (t.heads.get h).grace = false ∧ (s.holds h 1 = false → t.drn = s.drn) ∧ (s.holds h 1 = true → t.drn.paused = false) ∧
        t = { s with heads := t.heads, sem := t.sem, drn := t.drn, tly := t.tly } := by
  intro held
  have hcond : ((s.heads.get h).grace && !(s.heads.get h).up && !s.saving && s.alive) = true := by
    rw [hgrace, hup, hsaving, halive]
    rfl
  have hplace : s.tly.fifo.length + b2n s.drn.paused + held.length ≤ 32 := by
    have hone : b2n s.drn.paused ≤ 1 := by cases s.drn.paused <;> decide
    change s.tly.fifo.length + held.length < 32 at hroom
    omega
  let begun : State := { s with heads := s.heads.set h { s.heads.get h with grace := false } }
  have hfreed := foldl_forceRelease (h := h) (l := held) (List.nodup_range.filter _) (s := begun) hplace
  have hexec : exec (.graceExpiry h) s = .next (held.foldl (fun s n => forceRelease h n s) begun) := if_pos hcond
  have hmem : ∀ n, n < 32 → (n ∈ held ↔ s.holds h n = true) := by
    intro n hn
    simp [held, hn]
  generalize held.foldl (fun s n => forceRelease h n s) begun = t at hfreed hexec
  obtain ⟨hframe, hcells, hforced, hown, htriggers, hdrain, hpause, -⟩ := hfreed
  refine ⟨t, hexec, fun n hn => ?_, hforced, htriggers, ?_, fun hno => hdrain ?_, fun hyes => hpause ?_, hframe⟩
  · rw [hcells n]
    simp only [hmem n hn]
    rfl
  · rw [hown]
    exact congrArg HeadSt.grace (perHead_get_self s.heads h _)
  · rw [hmem 1 (by decide), hno]
    exact Bool.false_ne_true
  · exact (hmem 1 (by decide)).mpr hyes

theorem execGraceExpiry_none {s : State} {h : Head} (hno : (s.heads.get h).grace = false ∨ (s.heads.get h).up = true ∨
    s.saving = true ∨ s.alive = false) : exec (.graceExpiry h) s = .next s := by
  refine if_neg ?_
  rcases hno with hno | hno | hno | hno <;> simp [hno]

/-! ### HDM decoders (R260) -/

theorem execHdmDecoderCommit_fits {s : State} {h : Head} {i : Nat} {d : Decoder} (hserved : s.served h = true) (hi : i < 4)
    (hok : s.decoderOk d = true) : Yields (.hdmDecoderCommit h i d) s fun t =>
      tblGet none (t.heads.get h).decoders i = some d ∧
      (∀ k, k ≠ i → tblGet none (t.heads.get h).decoders k = tblGet none (s.heads.get h).decoders k) ∧
      t.replies.decoderError.get h = false ∧ t.heads.get h.other = s.heads.get h.other ∧
      t = { s with heads := t.heads, replies := t.replies } := by
  have hgate : (!s.served h || decide (4 ≤ i)) = false := by simp [hserved, hi]
  refine ⟨{ s with
    heads := s.heads.set h { s.heads.get h with decoders := tblPut none i (some d) (s.heads.get h).decoders }
    replies := { s.replies with decoderError := s.replies.decoderError.set h false } }, ?_, ?_⟩
  · show execHdmDecoderCommit h i d s = _
    unfold execHdmDecoderCommit
    rw [hgate, if_neg Bool.false_ne_true]
    dsimp only
    rw [hok, if_pos rfl]
    rfl
  · have hhead := perHead_get_self s.heads h { s.heads.get h with decoders := tblPut none i (some d) (s.heads.get h).decoders }
    refine ⟨?_, fun k hk => ?_, perHead_get_self .., perHead_get_other .., rfl⟩
    · dsimp only
      rw [hhead, tblGet_put, if_pos rfl]
    · dsimp only
      rw [hhead, tblGet_put, if_neg hk]

theorem execHdmDecoderCommit_misfit {s : State} {h : Head} {i : Nat} {d : Decoder} (hserved : s.served h = true) (hi : i < 4)
    (hok : s.decoderOk d = false) : exec (.hdmDecoderCommit h i d) s =
      .next { s with replies := { s.replies with decoderError := s.replies.decoderError.set h true } } := by
  have hgate : (!s.served h || decide (4 ≤ i)) = false := by simp [hserved, hi]
  show execHdmDecoderCommit h i d s = _
  unfold execHdmDecoderCommit
  rw [hgate, if_neg Bool.false_ne_true]
  dsimp only
  rw [hok, if_neg Bool.false_ne_true]
  rfl

theorem decoderOk_iff (s : State) (d : Decoder) : s.decoderOk d = true ↔
    ([1, 2, 4, 8].contains d.ways = true ∧ [256, 512, 1024, 2048, 4096, 8192, 16384].contains d.gran = true ∧
      d.position < d.ways ∧ 0 < d.size / d.ways ∧ d.size % (d.ways * 2 ^ 30) = 0 ∧ d.dpaBase % 2 ^ 30 = 0 ∧
      (d.dpaBase + d.size / d.ways) / 2 ^ 30 ≤ s.panCount) := by
  simp only [State.decoderOk, Bool.and_eq_true, decide_eq_true_eq, and_assoc]

/-- Settles O29: each command by the one operation behind it, a link by what raising owed releases and telling an outcome leave, and
a grace period by the cells it frees one after the other. -/
theorem linksAndGrace : Obligations.LinksAndGrace := by
  unfold Obligations.LinksAndGrace
  intro s h x held
  refine ⟨fun r w i => yields_linkUp r w i, fun r w i => execLinkUp_refused r w i, yields_linkDown, fun hup => ?_,
    execGraceExpiry_none, yields_graceExpiry, fun i d hno => ?_, fun i d hserved hi => ?_⟩
  · exact ⟨s, congrArg Host.Outcome.next (if_neg (ne_true_of_eq_false hup)), rfl⟩
  · refine if_pos ?_
    rcases hno with hno | hno <;> simp [hno]
  · intro fits
    refine ⟨fun hfits => ?_, fun hmisfit => ?_⟩
    · exact execHdmDecoderCommit_fits hserved hi ((decoderOk_iff s d).mpr hfits)
    · exact ⟨_, execHdmDecoderCommit_misfit hserved hi (Bool.eq_false_iff.mpr fun hok => hmisfit ((decoderOk_iff s d).mp hok)), rfl⟩

end Sys2Proof.Machine
end

section
/-!
PROOFS. DRAM training (R324 to R340).
-/
namespace Sys2Proof.Machine

/-! ### A register violation with room for its trigger (R261, R386) -/

/-- With room in the trigger FIFO a violation reaches Tally and the heads alone. -/
theorem violate_room (h : Head) (kind : Nat) {s : State} (hroom : s.tly.fifo.length < 32) :
    violate h kind s = { s with heads := (violate h kind s).heads, tly := (violate h kind s).tly } := by
  unfold violate
  dsimp only
  split
  · rfl
  · generalize hu : ({ s with heads := _ } : State) = u
    rw [tlyTrigger_room 0x107 0 u (by rw [← hu]; exact hroom), chapenEvent_reaches_heads]
    generalize (chapenEvent _ _ _ _ _ _ _ _ _).heads = v
    subst hu
    rfl

theorem regViolate_head_room (h : Head) (kind : Nat) {s : State} (hroom : s.tly.fifo.length < 32) :
    regViolate h.port kind s = { s with heads := (regViolate h.port kind s).heads, tly := (regViolate h.port kind s).tly } := by
  cases h <;> exact violate_room _ kind hroom

/-! ### Tracking control (R332, R340) -/

theorem trnCtl_holder {s : State} {h : Head} (full : Bool) (hholds : s.holds h 1 = true) :
    trnCtl h.port full s = { s with trn := { s.trn with fullNext := full } } := by
  cases h <;> exact if_pos hholds

theorem trnCtl_outsider {s : State} {h : Head} (full : Bool) (hholds : s.holds h 1 = false) :
    trnCtl h.port full s = regViolate h.port 4 s := by
  cases h <;> exact if_neg (ne_true_of_eq_false hholds)

/-! ### Channels and records of training -/

theorem tchan_tchanUpd (c : Nat) (f : TrnChan → TrnChan) (s : State) (x : Nat) :
    (tchanUpd c f s).tchan x = if x = c then f (s.tchan c) else s.tchan x :=
  tblGet_upd ({} : TrnChan) c f s.trn.chans x

/-- TRN_STATUS names a set and a step of its own, and leaves the channels and the records. -/
theorem trnStatus_trn (s : State) : ∃ k step, trnStatus s = { s with trn := { s.trn with set := k, step := step } } := by
  unfold trnStatus
  dsimp only
  split
  · exact ⟨0, 0, rfl⟩
  · exact ⟨_, _, rfl⟩

/-- A checkpoint of the step in hand of the set in hand. -/
theorem checkpoint_inHand {s : State} {c step k : Nat} {rest : List Nat} (r : TrainResult) (hact : s.trn.activity = 3)
    (hfailed : (s.dchan c).failed = false) (hqueue : (s.tchan c).queue = k :: rest) (hstep : nextStep (s.tchan c).mask = step) :
    checkpoint c step k r s =
      let u := tchanUpd c (fun x => { x with cmpErrors := min 65535 r.errors, cmpLane := r.firstLane % 64, cmpSub := r.failSub % 2 }) s
      trnStatus (if r.ok && (step ≠ 6 || marginsPass (worstMargin u.ranks r.margins)) then actPending (stepDone c step k r u)
        else stepFailed c step k r u) := by
  have hhand : (decide (s.trn.activity = 3) && decide ((s.tchan c).queue.head? = some k) && decide (nextStep (s.tchan c).mask = step) &&
      !(s.dchan c).failed) = true := by simp [hact, hfailed, hqueue, hstep]
  exact if_pos hhand

/-- A session goes on while a channel has a set to train. -/
theorem runSession_unfinished {env : StartEnv} {t : State} {c : Nat} (hc : c < t.dchans) (hfailed : (t.dchan c).failed = false)
    (hqueue : (t.tchan c).queue ≠ []) : runSession env t = { t with boot := some env } := by
  refine if_neg fun hover => hqueue ?_
  unfold State.sessionOver at hover
  have hmem : c ∈ t.dramActive := List.mem_filter.mpr ⟨List.mem_range.mpr hc, by simp [hfailed]⟩
  simpa using List.all_eq_true.mp hover c hmem

theorem execTrainingCheckpoint_inSession {s : State} {env : StartEnv} (c step k : Nat) (r : TrainResult) (hboot : s.boot = some env)
    (hact : s.trn.activity = 3) (hst : s.dev.st = .boot ∨ s.dev.st = .reflood) :
    exec (.trainingCheckpoint c step k r) s = .next (runSession env (checkpoint c step k r s)) := by
  have hin : (decide (s.trn.activity = 3) && (decide (s.dev.st = .boot) || decide (s.dev.st = .reflood))) = true := by
    rcases hst with hst | hst <;> simp [hact, hst]
  show execTrainingCheckpoint c step k r s = _
  unfold execTrainingCheckpoint
  rw [hboot]
  exact if_pos hin

/-- A checkpoint that leaves the rest of the device as it was and its channel with a set to train keeps the session going. -/
theorem execTrainingCheckpoint_goes {s t : State} {env : StartEnv} {c step k : Nat} {r : TrainResult} (hboot : s.boot = some env)
    (hact : s.trn.activity = 3) (hst : s.dev.st = .boot ∨ s.dev.st = .reflood) (hc : c < s.dchans) (hfailed : (s.dchan c).failed = false)
    (ht : checkpoint c step k r s = t) (hframe : t = { s with trn := t.trn }) (hqueue : (t.tchan c).queue ≠ []) :
    exec (.trainingCheckpoint c step k r) s = .next t := by
  rw [execTrainingCheckpoint_inSession c step k r hboot hact hst, ht,
    runSession_unfinished (by rw [hframe]; exact hc) (by rw [hframe]; exact hfailed) hqueue, hframe, ← hboot]

/-- A step before T6 that succeeds commits its record (R324, R327). -/
theorem stepDone_committed {c step k : Nat} {r : TrainResult} {s : State} (hlow : step < 6) (hcommitted : r.committed = true) :
    let t := stepDone c step k r s
    t = { s with trn := t.trn } ∧ t.tchan c = { s.tchan c with
      mask := (s.tchan c).mask ||| 2 ^ (step - 1), tries := 0, fresh := setAdd k (s.tchan c).fresh } ∧
    t.trnRec c k = { steps := (s.tchan c).mask ||| 2 ^ (step - 1), fingerprint := s.fingerprint k (s.tchan c).ident
                     values := r.values, margins := r.margins, exists_ := true, hottest := s.passHottest c k, invalidated := false } := by
  intro t
  generalize hrec : ({ steps := (s.tchan c).mask ||| 2 ^ (step - 1), fingerprint := s.fingerprint k (s.tchan c).ident
                       values := r.values, margins := r.margins, exists_ := true, hottest := s.passHottest c k
                       invalidated := false } : TrnRec) = made
  have ht : t = tchanUpd c (fun x => { x with mask := (s.tchan c).mask ||| 2 ^ (step - 1), tries := 0, fresh := setAdd k x.fresh })
      { s with trn := { s.trn with recs := tblPut {} (trnKey c k) made s.trn.recs } } := by
    rw [← hrec]
    simp only [t, stepDone, hcommitted, if_true, if_neg (Nat.ne_of_lt hlow)]
  rw [ht]
  refine ⟨rfl, (tchan_tchanUpd ..).trans (if_pos rfl), ?_⟩
  exact (tblGet_put ({} : TrnRec) (trnKey c k) made s.trn.recs (trnKey c k)).trans (if_pos rfl)

theorem yields_checkpoint_done {s : State} {c step k : Nat} {rest : List Nat} {r : TrainResult} (hboot : s.boot.isSome = true)
    (hact : s.trn.activity = 3) (hst : s.dev.st = .boot ∨ s.dev.st = .reflood) (hc : c < s.dchans) (hfailed : (s.dchan c).failed = false)
    (hqueue : (s.tchan c).queue = k :: rest) (hstep : nextStep (s.tchan c).mask = step) (hlow : step < 6) (hok : r.ok = true)
    (hcommitted : r.committed = true) (hpending : s.dmc.pending = none) : Yields (.trainingCheckpoint c step k r) s fun t =>
      t = { s with trn := t.trn } ∧ (t.tchan c).mask = (s.tchan c).mask ||| 2 ^ (step - 1) ∧ (t.tchan c).queue = k :: rest ∧
      t.trnRec c k = { steps := (s.tchan c).mask ||| 2 ^ (step - 1), fingerprint := s.fingerprint k (s.tchan c).ident
                       values := r.values, margins := r.margins, exists_ := true, hottest := s.passHottest c k, invalidated := false } := by
  obtain ⟨env, henv⟩ := Option.isSome_iff_exists.mp hboot
  have hhand := checkpoint_inHand r hact hfailed hqueue hstep
  dsimp only at hhand
  generalize hu : tchanUpd c (fun x => { x with cmpErrors := min 65535 r.errors, cmpLane := r.firstLane % 64, cmpSub := r.failSub % 2 }) s = u
    at hhand
  have huchan : u.tchan c = { s.tchan c with cmpErrors := min 65535 r.errors, cmpLane := r.firstLane % 64, cmpSub := r.failSub % 2 } := by
    rw [← hu, tchan_tchanUpd, if_pos rfl]
  have huframe : u = { s with trn := u.trn } := by rw [← hu]; rfl
  have hurecs : u.trn.recs = s.trn.recs := by rw [← hu]; rfl
  have hpass : (r.ok && (decide (step ≠ 6) || marginsPass (worstMargin u.ranks r.margins))) = true := by
    simp [hok, Nat.ne_of_lt hlow]
  obtain ⟨hdframe, hdchan, hdrec⟩ := stepDone_committed (c := c) (k := k) (r := r) (s := u) hlow hcommitted
  have hpend : (stepDone c step k r u).dmc.pending = none := by rw [hdframe, huframe]; exact hpending
  have hquiet : actPending (stepDone c step k r u) = stepDone c step k r u := by
    unfold actPending
    rw [hpend]
  rw [if_pos hpass, hquiet] at hhand
  generalize stepDone c step k r u = v at hhand hdframe hdchan hdrec
  obtain ⟨shown, at_, htrn⟩ := trnStatus_trn v
  rw [htrn] at hhand
  have hchan : ({ v with trn := { v.trn with set := shown, step := at_ } } : State).tchan c = v.tchan c := rfl
  have hframe : ({ v with trn := { v.trn with set := shown, step := at_ } } : State) =
      { s with trn := { v.trn with set := shown, step := at_ } } := by rw [hdframe, huframe]
  have hleft : (v.tchan c).queue = k :: rest := by rw [hdchan, huchan]; exact hqueue
  refine ⟨_, execTrainingCheckpoint_goes henv hact hst hc hfailed hhand hframe ?_, hframe, ?_, hleft, ?_⟩
  · rw [hchan, hleft]
    exact List.cons_ne_nil _ _
  · rw [hchan, hdchan, huchan]
  · refine Eq.trans hdrec ?_
    have hhot : u.passHottest c k = s.passHottest c k := by
      have hdie : u.onDie = s.onDie := by rw [huframe]; rfl
      unfold State.passHottest State.trnRec
      rw [huchan, hurecs, hdie]
    have hprint : u.fingerprint k (s.tchan c).ident = s.fingerprint k (s.tchan c).ident := by rw [huframe]; rfl
    rw [huchan, hhot, ← hprint]

/-- A channel whose step has failed (R325). -/
theorem stepFailed_tchan (c step k : Nat) (r : TrainResult) (s : State) : (stepFailed c step k r s).tchan c =
    let again := (s.tchan c).tries < 3
    let rest := (s.tchan c).queue.drop 1
    { s.tchan c with
      failStep := step, failSet := k, failRank := r.failRank % 4, failSub := r.failSub % 2
      retries := if again then satAdd 4 (s.tchan c).retries 1 else (s.tchan c).retries
      failedSets := if again then (s.tchan c).failedSets else setAdd k (s.tchan c).failedSets
      tries := if again then (s.tchan c).tries + 1 else 0
      queue := if again then (s.tchan c).queue else rest
      mask := if again then (s.tchan c).mask else (rest.head?).elim 0 fun j => s.resumeMask c j } :=
  (tchan_tchanUpd ..).trans (if_pos rfl)

/-- A step that fails is tried again three times (R325); then the set has failed there. -/
theorem yields_checkpoint_failed {s : State} {c step k : Nat} {rest : List Nat} {r : TrainResult} (hboot : s.boot.isSome = true)
    (hact : s.trn.activity = 3) (hst : s.dev.st = .boot ∨ s.dev.st = .reflood) (hc : c < s.dchans) (hfailed : (s.dchan c).failed = false)
    (hqueue : (s.tchan c).queue = k :: rest) (hstep : nextStep (s.tchan c).mask = step) (hbad : r.ok = false)
    (hgoes : (s.tchan c).tries < 3 ∨ rest ≠ []) : Yields (.trainingCheckpoint c step k r) s fun t =>
      t = { s with trn := t.trn } ∧ t.trn.recs = s.trn.recs ∧
      ((s.tchan c).tries < 3 → (t.tchan c).tries = (s.tchan c).tries + 1 ∧ (t.tchan c).queue = k :: rest ∧
        (t.tchan c).failStep = step ∧ (t.tchan c).failSet = k) ∧
      (3 ≤ (s.tchan c).tries → (t.tchan c).failedSets = setAdd k (s.tchan c).failedSets ∧ (t.tchan c).queue = rest ∧
        (t.tchan c).tries = 0) := by
  obtain ⟨env, henv⟩ := Option.isSome_iff_exists.mp hboot
  have hhand := checkpoint_inHand r hact hfailed hqueue hstep
  dsimp only at hhand
  generalize hu : tchanUpd c (fun x => { x with cmpErrors := min 65535 r.errors, cmpLane := r.firstLane % 64, cmpSub := r.failSub % 2 }) s = u
    at hhand
  have huchan : u.tchan c = { s.tchan c with cmpErrors := min 65535 r.errors, cmpLane := r.firstLane % 64, cmpSub := r.failSub % 2 } := by
    rw [← hu, tchan_tchanUpd, if_pos rfl]
  have huframe : u = { s with trn := u.trn } := by rw [← hu]; rfl
  have hurecs : u.trn.recs = s.trn.recs := by rw [← hu]; rfl
  have hno : ¬ (r.ok && (decide (step ≠ 6) || marginsPass (worstMargin u.ranks r.margins))) = true := by simp [hbad]
  rw [if_neg hno] at hhand
  have hvframe : stepFailed c step k r u = { u with trn := (stepFailed c step k r u).trn } := rfl
  have hvrecs : (stepFailed c step k r u).trn.recs = u.trn.recs := rfl
  have hvchan := stepFailed_tchan c step k r u
  rw [huchan] at hvchan
  simp only [hqueue, List.drop_one, List.tail_cons] at hvchan
  generalize stepFailed c step k r u = v at hhand hvframe hvrecs hvchan
  obtain ⟨shown, at_, htrn⟩ := trnStatus_trn v
  rw [htrn] at hhand
  have hframe : ({ v with trn := { v.trn with set := shown, step := at_ } } : State) =
      { s with trn := { v.trn with set := shown, step := at_ } } := by rw [hvframe, huframe]
  have hchan : ({ v with trn := { v.trn with set := shown, step := at_ } } : State).tchan c = v.tchan c := rfl
  refine ⟨_, execTrainingCheckpoint_goes henv hact hst hc hfailed hhand hframe ?_, hframe, hvrecs.trans hurecs, fun hfew => ?_, fun hmany => ?_⟩
  · rw [hchan, hvchan]
    dsimp only
    split
    · exact List.cons_ne_nil _ _
    · rename_i hmany
      exact hgoes.resolve_left (by simpa using hmany)
  · rw [hchan, hvchan]
    simp [hfew]
  · rw [hchan, hvchan]
    simp [Nat.not_lt.mpr hmany]

/-! ### Drift (R333 to R335) -/

/-- The channel after a drift of `v` at device `d`. -/
def tracked (d run : Nat) (total : Int) (out : Bool) (x : TrnChan) : TrnChan := { x with
  adjusts := satAdd 16 x.adjusts 1, adjusted := tblPut 0 d total x.adjusted
  driftMax := max x.driftMax (min 255 total.natAbs), outOfRange := x.outOfRange || out
  result := if out then tblPut 0 run 3 x.result else x.result }

theorem execDqsTrack_drifts {s : State} {c d : Nat} {v : Int} (hrun : s.running = true) (hon : s.dchanOn c = true)
    (hsteady : s.dmc.changing = false) (hfar : 4 < v.natAbs) :
    exec (.dqsTrack c d v) s = (let total := tblGet 0 (s.tchan c).adjusted d + v
      let out := decide (32 < total.natAbs) && !(s.tchan c).outOfRange
      let run := (s.dchan c).set
      let u := tchanUpd c (tracked d run total out) s
      if out then .next (fltRaise 0x44 c { u with
          trn := { u.trn with recs := tblUpd {} (trnKey c run) (fun r => { r with invalidated := true }) u.trn.recs }
          dmc := { u.dmc with trained := setDel run u.dmc.trained } })
      else .next u) := by
  refine if_pos ?_
  simp [hrun, hon, hsteady, hfar]

theorem yields_dqsTrack_within {s : State} {c d : Nat} {v : Int} (hrun : s.running = true) (hon : s.dchanOn c = true)
    (hsteady : s.dmc.changing = false) (hfar : 4 < v.natAbs) (hlow : (tblGet 0 (s.tchan c).adjusted d + v).natAbs ≤ 32) :
    Yields (.dqsTrack c d v) s fun t =>
      t = { s with trn := t.trn } ∧ tblGet 0 (t.tchan c).adjusted d = tblGet 0 (s.tchan c).adjusted d + v ∧
      (t.tchan c).adjusts = satAdd 16 (s.tchan c).adjusts 1 ∧ (∀ x, x ≠ c → t.tchan x = s.tchan x) ∧ t.trn.recs = s.trn.recs := by
  have hin : (decide (32 < (tblGet 0 (s.tchan c).adjusted d + v).natAbs) && !(s.tchan c).outOfRange) = false := by
    rw [decide_eq_false (Nat.not_lt.mpr hlow)]
    rfl
  have hexec := execDqsTrack_drifts hrun hon hsteady hfar (d := d)
  dsimp only at hexec
  rw [hin, if_neg Bool.false_ne_true] at hexec
  refine ⟨_, hexec, rfl, ?_, ?_, fun x hx => ?_, rfl⟩
  · rw [tchan_tchanUpd, if_pos rfl]
    exact (tblGet_put ..).trans (if_pos rfl)
  · rw [tchan_tchanUpd, if_pos rfl]
    rfl
  · rw [tchan_tchanUpd, if_neg hx]

theorem yields_dqsTrack_beyond {s : State} {c d : Nat} {v : Int} (hrun : s.running = true) (hon : s.dchanOn c = true)
    (hsteady : s.dmc.changing = false) (hfar : 4 < v.natAbs) (hhigh : 32 < (tblGet 0 (s.tchan c).adjusted d + v).natAbs)
    (hfirst : (s.tchan c).outOfRange = false) (hmild : s.mild 0x44 = true) : Yields (.dqsTrack c d v) s fun t =>
      (t.tchan c).outOfRange = true ∧ tblGet 0 (t.tchan c).result (s.dchan c).set = 3 ∧
      (t.trnRec c (s.dchan c).set).invalidated = true ∧ t.dmc.trained.contains (s.dchan c).set = false ∧
      t.map = s.map ∧ t.dev = s.dev ∧ ∀ x, t.byteAt x = s.byteAt x := by
  have hout : (decide (32 < (tblGet 0 (s.tchan c).adjusted d + v).natAbs) && !(s.tchan c).outOfRange) = true := by
    rw [decide_eq_true hhigh, hfirst]
    rfl
  have hexec := execDqsTrack_drifts hrun hon hsteady hfar (d := d)
  dsimp only at hexec
  rw [hout, if_pos rfl] at hexec
  generalize hu : tchanUpd c (tracked d (s.dchan c).set (tblGet 0 (s.tchan c).adjusted d + v) true) s = u at hexec
  have hchan : u.tchan c = tracked d (s.dchan c).set (tblGet 0 (s.tchan c).adjusted d + v) true (s.tchan c) := by
    rw [← hu, tchan_tchanUpd, if_pos rfl]
  have hframe : u = { s with trn := u.trn } := by rw [← hu]; rfl
  generalize hw : ({ u with
    trn := { u.trn with recs := tblUpd {} (trnKey c (s.dchan c).set) (fun r => { r with invalidated := true }) u.trn.recs }
    dmc := { u.dmc with trained := setDel (s.dchan c).set u.dmc.trained } } : State) = w at hexec
  have hkeeps : ∀ {β : Type} (π : State → β), EventFree π → π (fltRaise 0x44 c w) = π w := fun π hπ =>
    fltRaise_mild π hπ 0x44 c (by rw [← hw, hframe]) (by rw [← hw, hframe])
      (by rw [← hw, hframe]; exact (running_spec hrun).2) hmild
  refine ⟨_, hexec, ?_, ?_, ?_, ?_, ?_, ?_, fun x => ?_⟩
  · rw [hkeeps (fun t => (t.tchan c).outOfRange) fun _ _ _ _ _ _ => rfl, ← hw]
    show (u.tchan c).outOfRange = true
    rw [hchan]
    exact Bool.or_true _
  · rw [hkeeps (fun t => tblGet 0 (t.tchan c).result (s.dchan c).set) fun _ _ _ _ _ _ => rfl, ← hw]
    show tblGet 0 (u.tchan c).result (s.dchan c).set = 3
    rw [hchan]
    exact (tblGet_put 0 (s.dchan c).set 3 (s.tchan c).result (s.dchan c).set).trans (if_pos rfl)
  · rw [hkeeps (fun t => t.trnRec c (s.dchan c).set) fun _ _ _ _ _ _ => rfl, ← hw]
    exact congrArg TrnRec.invalidated ((tblGet_upd ({} : TrnRec) (trnKey c (s.dchan c).set) (fun r => { r with invalidated := true })
      u.trn.recs (trnKey c (s.dchan c).set)).trans (if_pos rfl))
  · rw [hkeeps (fun t => t.dmc) fun _ _ _ _ _ _ => rfl, ← hw]
    exact setDel_contains_self ..
  · rw [hkeeps (fun t => t.map) fun _ _ _ _ _ _ => rfl, ← hw, hframe]
  · rw [hkeeps (fun t => t.dev) fun _ _ _ _ _ _ => rfl, ← hw, hframe]
  · rw [hkeeps (fun t => t.byteAt x) fun _ _ _ _ _ _ => rfl, ← hw, hframe]
    rfl

/-- Settles O36: a checkpoint of the step in hand by the record or the retry it makes, drift by its total, and tracking control by the
holder of cell 1. -/
theorem dramTraining : Obligations.DramTraining := by
  unfold Obligations.DramTraining
  refine ⟨fun s c step k rest r hboot hact hst hc hfailed hqueue hstep => ⟨?_, ?_, ?_⟩,
    fun s c d v hrun hon hsteady hfar => ⟨yields_dqsTrack_within hrun hon hsteady hfar, yields_dqsTrack_beyond hrun hon hsteady hfar⟩,
    fun s h hopen => ⟨fun hholds => ?_, fun hholds hroom => ?_⟩, fun s hopen => ⟨?_, ?_⟩⟩
  · exact yields_checkpoint_done hboot hact hst hc hfailed hqueue hstep
  · intro hbad hfew
    obtain ⟨t, hexec, hframe, hrecs, hagain, -⟩ := yields_checkpoint_failed hboot hact hst hc hfailed hqueue hstep hbad (Or.inl hfew)
    obtain ⟨htries, hleft, hfailStep, hfailSet⟩ := hagain hfew
    exact ⟨t, hexec, hframe, htries, hleft, hfailStep, hfailSet, hrecs⟩
  · intro hbad hmany hrest
    obtain ⟨t, hexec, hframe, hrecs, -, hlast⟩ := yields_checkpoint_failed hboot hact hst hc hfailed hqueue hstep hbad (Or.inr hrest)
    obtain ⟨hsets, hleft, htries⟩ := hlast hmany
    exact ⟨t, hexec, hframe, hsets, hleft, htries, hrecs⟩
  · exact ⟨⟨_, congrArg Host.Outcome.next ((if_pos hopen).trans (trnCtl_holder true hholds)), rfl⟩,
      ⟨_, congrArg Host.Outcome.next ((if_pos hopen).trans (trnCtl_holder false hholds)), rfl⟩⟩
  · have hframe := regViolate_head_room h 4 hroom
    exact ⟨⟨_, congrArg Host.Outcome.next ((if_pos hopen).trans (trnCtl_outsider true hholds)), hframe⟩,
      ⟨_, congrArg Host.Outcome.next ((if_pos hopen).trans (trnCtl_outsider false hholds)), hframe⟩⟩
  · exact ⟨_, congrArg Host.Outcome.next (if_pos hopen), rfl⟩
  · exact ⟨_, congrArg Host.Outcome.next (if_pos hopen), rfl⟩

end Sys2Proof.Machine
end

section
/-!
PROOFS. The Salinometer: samples, publications, PMBus targets and learning cycles (R48 to R69, R76).
-/
namespace Sys2Proof.Machine

/-! ### A sample (R48, R51, R60) -/

/-- The Salinometer after a sample. -/
def sampled (s : State) (v : Nat) (i : Int) : Sal :=
  let mv := railMv s.sal.cal.vbk s.sal.cal.ratioVbk v
  let ma := shuntMa s.sal.cal i
  let uj := (mv : Int) * ma * 250 / 1000000
  let charge := ma / 4
  { s.sal with
    vbkMv := mv, ibkMa := ma, soc := s.socAfter ma, tickChargeUc := charge
    accUj := (s.sal.accUj + uj).toNat, saveChargeUc := (s.sal.saveChargeUc + charge).toNat
    saveMinMv := min s.sal.saveMinMv mv, savePeakMa := max s.sal.savePeakMa ma.toNat
    learn := if s.sal.callOad then learnSample uj charge mv ma s.sal.learn else s.sal.learn }

theorem execSalSample_runs {s : State} (v : Nat) (i : Int) (hruns : s.salRuns = true) :
    exec (.salSample v i) s = .next { s with sal := sampled s v i, dev := { s.dev with aonUs := s.dev.aonUs + 250 } } := if_pos hruns

/-- A source that is no battery counts no charge (R50). -/
theorem socAfter_of_not_battery {s : State} {p : Profile} (ma : Int) (hp : s.profile = some p) (hno : p.battery = false) :
    s.socAfter ma = s.sal.soc := by
  unfold State.socAfter
  rw [hp]
  simp [hno]

theorem socAfter_le {s : State} (ma : Int) (hsoc : s.sal.soc ≤ 1000000000) : s.socAfter ma ≤ 1000000000 := by
  unfold State.socAfter
  split
  · exact hsoc
  · split
    · exact Nat.min_le_left _ _
    · exact hsoc

/-- Settles O10: a sample is one update of the Salinometer and of AON time. -/
theorem sampleIntegrates : Obligations.SampleIntegrates := by
  unfold Obligations.SampleIntegrates
  intro s v i hruns
  refine ⟨_, execSalSample_runs v i hruns, rfl, rfl, rfl, rfl, fun p hp hno => socAfter_of_not_battery _ hp hno, socAfter_le _,
    fun hopen => ?_, fun hclosed => ?_, rfl⟩
  · simp [sampled, hopen]
  · simp [sampled, hclosed, learnSample]

/-! ### A publication (R49, R51, R54, R56, R65, R67) -/

/-- What supervision of the source leaves: beside the Salinometer, the Collector and the governor's k (R111) the device is as it was, and
the readings, the published value and the learning step stay. -/
structure Supervised (s t : State) : Prop where
  frame : t = { s with
    sal := t.sal, flt := t.flt, drn := { s.drn with k := t.drn.k, eta := t.drn.eta, eFixed := t.drn.eFixed, eCkpt := t.drn.eCkpt } }
  readings : t.sal.ntc0 = s.sal.ntc0 ∧ t.sal.ntc1 = s.sal.ntc1 ∧ t.sal.adcFail = s.sal.adcFail
  published : t.sal.euse = s.sal.euse ∧ t.sal.euseAtUs = s.sal.euseAtUs
  step : t.sal.learn.step = s.sal.learn.step

theorem Supervised.refl (s : State) : Supervised s s := ⟨rfl, ⟨rfl, rfl, rfl⟩, ⟨rfl, rfl⟩, rfl⟩

theorem Supervised.trans {s t u : State} (h : Supervised s t) (k : Supervised t u) : Supervised s u where
  frame := by rw [k.frame, h.frame]
  readings := ⟨k.readings.1.trans h.readings.1, k.readings.2.1.trans h.readings.2.1, k.readings.2.2.trans h.readings.2.2⟩
  published := ⟨k.published.1.trans h.published.1, k.published.2.trans h.published.2⟩
  step := k.step.trans h.step

theorem Supervised.profile {s t : State} (h : Supervised s t) : t.profile = s.profile := by
  rw [h.frame]
  rfl

theorem supervised_trackTemps (s : State) : Supervised s (trackTemps s) := by
  unfold trackTemps
  split
  · exact Supervised.refl s
  · refine ⟨rfl, ⟨rfl, rfl, rfl⟩, ⟨rfl, rfl⟩, ?_⟩
    dsimp only
    split <;> rfl

theorem refreshK_eq (s : State) : refreshK s = { s with drn := { s.drn with
    k := (refreshK s).drn.k, eta := (refreshK s).drn.eta, eFixed := (refreshK s).drn.eFixed, eCkpt := (refreshK s).drn.eCkpt } } := by
  unfold refreshK
  split <;> rfl

theorem newSource_sal (p : Profile) (s : State) : (newSource p s).sal = { s.sal with
    capacity := p.eNom * 8 / 10, esr := p.esrNom * 5 / 4, learnedUnder := some (p.kind, p.ident), learnedOnce := false
    soc := p.reanchor s.vOc, learnDue := true, reportReset := true, packRemoved := false, aonHours := 0
    learnRefUs := s.dev.aonUs } := by
  unfold newSource
  rw [refreshK_eq]

theorem newSource_frame_eq (p : Profile) (s : State) : newSource p s = { s with sal := (newSource p s).sal, drn := { s.drn with
    k := (newSource p s).drn.k, eta := (newSource p s).drn.eta, eFixed := (newSource p s).drn.eFixed
    eCkpt := (newSource p s).drn.eCkpt } } := by
  unfold newSource
  generalize hu : ({ s with sal := _ } : State) = u
  have hk := refreshK_eq u
  generalize refreshK u = v at hk ⊢
  rw [hk, ← hu]

theorem supervised_newSource (p : Profile) (s : State) : Supervised s (newSource p s) := by
  have hsal := newSource_sal p s
  have hframe := newSource_frame_eq p s
  have hflt : (newSource p s).flt = s.flt := by rw [hframe]
  refine ⟨?_, ?_, ?_, ?_⟩
  · rw [hflt]
    exact hframe
  · rw [hsal]
    exact ⟨rfl, rfl, rfl⟩
  · rw [hsal]
    exact ⟨rfl, rfl⟩
  · rw [hsal]

/-- A source whose kind or identifier is not the recorded one is new; so the profile's own is recorded (R54). -/
theorem sourceCheck_supervised (s : State) : Supervised s (sourceCheck s) ∧
    ∀ p, s.profile = some p → (sourceCheck s).sal.learnedUnder = some (p.kind, p.ident) := by
  unfold sourceCheck
  cases hp : s.profile with
  | none => exact ⟨Supervised.refl s, fun p h => absurd h (by simp)⟩
  | some p =>
    dsimp only
    split
    · rename_i hsame
      refine ⟨Supervised.refl s, fun q hq => ?_⟩
      cases hq
      exact hsame
    · refine ⟨supervised_newSource p s, fun q hq => ?_⟩
      cases hq
      rw [newSource_sal]

theorem packReturn_supervised (s : State) : Supervised s (packReturn s) ∧
    ∀ p, s.profile = some p → s.sal.learnedUnder = some (p.kind, p.ident) → (packReturn s).sal.learnedUnder = some (p.kind, p.ident) := by
  unfold packReturn
  cases hp : s.profile with
  | none => exact ⟨Supervised.refl s, fun p h => absurd h (by simp)⟩
  | some p =>
    dsimp only
    split
    · refine ⟨supervised_newSource p s, fun q hq _ => ?_⟩
      cases hq
      rw [newSource_sal]
    · exact ⟨Supervised.refl s, fun q hq hsame => hsame⟩

/-- Validity and the charger, where source 0x93 stands as it stood. -/
theorem chargerSync_validSync {s : State} (hsettled : s.sal.adcFail = true → s.flt.live.contains 0x93 = true) :
    chargerSync (validSync s) = { s with flt := (validSync s).flt, sal := { s.sal with
      valid := decide (s.invalidCause = 0), invalidCause := s.invalidCause, charging := s.chargerAllowed } } := by
  have hcond := fltCond_eq 0x93 s.sal.adcFail
    { s with sal := { s.sal with valid := decide (s.invalidCause = 0), invalidCause := s.invalidCause } } hsettled
  change validSync s = { s with
    sal := { s.sal with valid := decide (s.invalidCause = 0), invalidCause := s.invalidCause }, flt := (validSync s).flt } at hcond
  generalize validSync s = v at hcond ⊢
  rw [hcond]
  rfl

/-- A first cycle on a new source begins with its draw taken off what is published (R54, R67). -/
theorem learnWhenDue_cases (s : State) : learnWhenDue s = s ∨
    (∃ p, s.profile = some p ∧ s.sal.learn.step = 0 ∧ learnWhenDue s = beginLearn p s) := by
  unfold learnWhenDue
  cases hp : s.profile with
  | none => exact Or.inl rfl
  | some p =>
    dsimp only
    split
    · rename_i hdue
      simp only [Bool.and_eq_true, decide_eq_true_eq] at hdue
      exact Or.inr ⟨p, rfl, hdue.1.2, rfl⟩
    · exact Or.inl rfl

/-- A cycle that begins publishes what is left of its reading (R67). -/
theorem beginLearn_published {s : State} (p : Profile) (hvalid : s.sal.valid = true) (hread : s.sal.euseComputed = s.euseComputed) :
    (beginLearn p s).sal.euse = (beginLearn p s).projected (beginLearn p s).euseComputed := by
  have hdraw : (beginLearn p s).projected (beginLearn p s).euseComputed = s.euseComputed - (s.learnDraw p - 0 / 1000) := rfl
  have hstart : s.learnEuse = s.euseComputed := (if_pos hvalid).trans hread
  rw [hdraw, Nat.zero_div, Nat.sub_zero, ← hstart]
  rfl

/-- A cycle's first step leaves the charger as it may be (R65). -/
theorem beginLearn_charger {s : State} (p : Profile) (hidle : s.sal.learn.step = 0) :
    (beginLearn p s).chargerAllowed = s.chargerAllowed := by
  unfold State.chargerAllowed
  rw [hidle]
  rfl

theorem ntcValid_outside (on : Bool) {x : Int} (h : 1520 < x ∨ x < -720) : ntcValid on (some x) = none := by
  refine if_neg ?_
  simp only [Bool.and_eq_true, decide_eq_true_eq]
  omega

theorem ntcTemp_open (c : AdcCal) (p : Option Thermistor) : ntcTemp c p none = none := by cases p <;> rfl

/-- The state of a publication before its reading is judged. -/
def supervise (a b : Option Nat) (v : Nat) (f : Bool) (s : State) : State :=
  let p0 := s.profile.bind fun p => p.ntc0
  let p1 := s.profile.bind fun p => p.ntc1
  let t0 := ntcTemp s.sal.cal.ntc0 p0 a
  let t1 := ntcTemp s.sal.cal.ntc1 p1 b
  packReturn (sourceCheck (trackTemps (fltCond 0x92 (ntcBroken p0.isSome t0 || ntcBroken p1.isSome t1) { s with sal := { s.sal with
    ntcRead := true, ntc0 := ntcValid p0.isSome t0, ntc1 := ntcValid p1.isSome t1, adcFail := f
    vmainMv := railMv s.sal.cal.vmain s.sal.cal.ratioVmain v } })))

/-- What the reading of a publication is taken from. -/
theorem supervise_spec {s : State} (a b : Option Nat) (v : Nat) (f : Bool)
    (hntc : s.settled 0x92 (ntcBroken (s.profile.bind fun p => p.ntc0).isSome (ntcTemp s.sal.cal.ntc0 (s.profile.bind fun p => p.ntc0) a) ||
      ntcBroken (s.profile.bind fun p => p.ntc1).isSome (ntcTemp s.sal.cal.ntc1 (s.profile.bind fun p => p.ntc1) b)) = true)
    (hadc : s.settled 0x93 f = true) :
    let t := supervise a b v f s
    t = { s with
      sal := t.sal, flt := t.flt, drn := { s.drn with k := t.drn.k, eta := t.drn.eta, eFixed := t.drn.eFixed, eCkpt := t.drn.eCkpt } } ∧
    t.sal.ntc0 = ntcValid (s.profile.bind fun p => p.ntc0).isSome (ntcTemp s.sal.cal.ntc0 (s.profile.bind fun p => p.ntc0) a) ∧
    t.sal.ntc1 = ntcValid (s.profile.bind fun p => p.ntc1).isSome (ntcTemp s.sal.cal.ntc1 (s.profile.bind fun p => p.ntc1) b) ∧
    t.sal.adcFail = f ∧ t.sal.euse = s.sal.euse ∧ t.sal.euseAtUs = s.sal.euseAtUs ∧ t.sal.learn.step = s.sal.learn.step ∧
    (∀ p, s.profile = some p → t.sal.learnedUnder = some (p.kind, p.ident)) ∧ (f = true → t.flt.live.contains 0x93 = true) := by
  unfold supervise
  dsimp only
  generalize hbroken : (ntcBroken (s.profile.bind fun p => p.ntc0).isSome _ || ntcBroken (s.profile.bind fun p => p.ntc1).isSome _) = broken
    at hntc ⊢
  generalize hread : ({ s with sal := { s.sal with ntcRead := true, ntc0 := _, ntc1 := _, adcFail := f, vmainMv := _ } } : State) = u
  have hlive92 : broken = true → u.flt.live.contains 0x92 = true := fun hon => by
    rw [← hread]
    simpa [State.settled, hon] using hntc
  have hlive93 : f = true → u.flt.live.contains 0x93 = true := fun hon => by
    rw [← hread]
    simpa [State.settled, hon] using hadc
  have hcond := fltCond_eq 0x92 broken u hlive92
  have hstands := fun hon => fltCond_live 0x92 0x93 broken u (by decide) hlive92 (hlive93 hon)
  generalize fltCond 0x92 broken u = w at hcond hstands ⊢
  obtain ⟨hsource, hrecorded⟩ := sourceCheck_supervised (trackTemps w)
  obtain ⟨hpack, hkept⟩ := packReturn_supervised (sourceCheck (trackTemps w))
  have htrack := supervised_trackTemps w
  have hall := (htrack.trans hsource).trans hpack
  have hprofile : w.profile = s.profile := by
    rw [hcond, ← hread]
    rfl
  have hflt : (packReturn (sourceCheck (trackTemps w))).flt = w.flt := by simp
  refine ⟨?_, ?_, ?_, ?_, ?_, ?_, ?_, fun p hp => ?_, fun hon => ?_⟩
  · rw [hall.frame, hcond, ← hread]
  · rw [hall.readings.1, hcond, ← hread]
  · rw [hall.readings.2.1, hcond, ← hread]
  · rw [hall.readings.2.2, hcond, ← hread]
  · rw [hall.published.1, hcond, ← hread]
  · rw [hall.published.2, hcond, ← hread]
  · rw [hall.step, hcond, ← hread]
  · have hw : (trackTemps w).profile = some p := htrack.profile.trans (hprofile.trans hp)
    exact hkept p (hsource.profile.trans hw) (hrecorded p hw)
  · rw [hflt]
    exact hstands hon

theorem execEusePublish_runs {s : State} (a b : Option Nat) (v : Nat) (f : Bool) (hruns : s.salRuns = true) :
    exec (.eusePublish a b v f) s = (let u := chargerSync (validSync (supervise a b v f s))
      if u.sal.valid then .next (learnWhenDue { u with sal := { u.sal with
        euseComputed := u.euseComputed, euse := u.projected u.euseComputed, euseAtUs := u.dev.aonUs } }) else .next u) := if_pos hruns

/-- Settles O11: the publication judges the supervised reading, and a first learning cycle takes its draw off it. -/
theorem publishReading : Obligations.PublishReading := by
  unfold Obligations.PublishReading
  intro s a b v f hruns p0 p1 r0 r1 hntc hadc
  obtain ⟨hframe, hntc0, hntc1, hfail, heuse, hat, hstep, hsource, hlive⟩ := supervise_spec a b v f hntc hadc
  have hexec := execEusePublish_runs a b v f hruns
  generalize supervise a b v f s = u at hframe hntc0 hntc1 hfail heuse hat hstep hsource hlive hexec
  rw [chargerSync_validSync (fun hon => hlive (hfail ▸ hon))] at hexec
  generalize (validSync u).flt = flt at hexec
  have hopen : a = none → u.sal.ntc0 = none := fun ha => by rw [hntc0, ha, ntcTemp_open]; rfl
  have houtside : ∀ x, r0 = some x → 1520 < x ∨ x < -720 → u.sal.ntc0 = none := fun x hx hout => by
    rw [hntc0]
    exact (congrArg (ntcValid p0.isSome) hx).trans (ntcValid_outside _ hout)
  have hcause : f = true → u.invalidCause = 1 := fun hon => by
    unfold State.invalidCause
    rw [hfail, hon]
    split <;> rfl
  dsimp only at hexec
  by_cases hvalid : u.invalidCause = 0
  · have hwell : f ≠ true := fun hon => absurd (hvalid.symm.trans (hcause hon)) (by decide)
    rw [if_pos (decide_eq_true hvalid)] at hexec
    generalize hpub : ({ u with flt := flt, sal := { u.sal with
      valid := _, invalidCause := _, charging := _, euseComputed := _, euse := _, euseAtUs := _ } } : State) = w at hexec
    rcases learnWhenDue_cases w with hno | ⟨p, hp, hidle, hbegin⟩
    · rw [hno] at hexec
      subst hpub
      refine ⟨_, hexec, rfl, rfl, fun _ => ⟨rfl, ?_⟩, fun hinvalid => absurd hvalid (of_decide_eq_false hinvalid), fun hon => absurd hon hwell,
        hntc0, hntc1, hopen, houtside, rfl, hsource, Or.inl hstep, ?_⟩
      · rw [hframe]
      · rw [hframe]
    · rw [hbegin] at hexec
      subst hpub
      have hfresh : s.sal.learn.step = 0 := hstep.symm.trans hidle
      refine ⟨_, hexec, rfl, rfl, fun _ => ⟨?_, ?_⟩, fun hinvalid => absurd hvalid (of_decide_eq_false hinvalid), fun hon => absurd hon hwell,
        hntc0, hntc1, hopen, houtside, ?_, hsource, Or.inr ⟨hfresh, rfl, decide_eq_true hvalid⟩, ?_⟩
      · exact beginLearn_published p (decide_eq_true hvalid) rfl
      · rw [hframe]
        rfl
      · exact (beginLearn_charger p hidle).symm
      · rw [hframe]
        rfl
  · rw [if_neg (by simpa using hvalid)] at hexec
    refine ⟨_, hexec, rfl, rfl, fun hyes => absurd (of_decide_eq_true hyes) hvalid, fun _ => ⟨heuse, hat⟩,
      fun hon => ⟨decide_eq_false hvalid, hcause hon⟩, hntc0, hntc1, hopen, houtside, rfl, hsource, Or.inl hstep, ?_⟩
    rw [hframe]

end Sys2Proof.Machine
end

section
/-!
PROOFS. Sources, PMBus targets and learning cycles (R53 to R55, R63 to R69, R76).
-/
namespace Sys2Proof.Machine

/-! ### Salinometer records (R76) -/

theorem signBoth_nonces (s : State) : (signBoth s).1.key.nonces = s.key.nonces := by
  have hwear : ∀ n (u : State), (wearSector n u).key = u.key := fun n u => by simp
  have hlms : ∀ u : State, (signLms u).1.key.nonces = u.key.nonces := by
    intro u
    unfold signLms
    split
    · rfl
    · dsimp only
      split
      · rfl
      · unfold appendLms
        dsimp only
        split
        · rw [hwear]
        · rfl
  unfold signBoth signLate
  dsimp only
  split <;> exact hlms _

/-- A record of a live device outside a save goes to JOURNAL at once, and touches neither the Salinometer nor a nonce. -/
theorem putSalRec_live {t : State × SalRec} (halive : t.1.alive = true) (hsaving : t.1.saving = false) :
    (putSalRec t).sal = t.1.sal ∧ (putSalRec t).key.nonces = t.1.key.nonces ∧
    (journalWords t.1.jrn + 1174 ≤ 262144 → ∃ b, (putSalRec t).jrn = t.1.jrn ++ [.salRec { t.2 with signed := b }]) := by
  have hput : putSalRec t = (signBoth t.1).1.journal (.salRec { t.2 with signed := (signBoth t.1).2 }) := by
    refine if_neg ?_
    rw [halive, hsaving]
    exact Bool.false_ne_true
  have hjrn : (signBoth t.1).1.jrn = t.1.jrn := by simp
  rw [hput]
  refine ⟨?_, signBoth_nonces t.1, fun hroom => ⟨(signBoth t.1).2, ?_⟩⟩
  · show (signBoth t.1).1.sal = _
    simp
  · have hwords := JRec.words_le (.salRec { t.2 with signed := (signBoth t.1).2 })
    rw [journal_room _ _ (by rw [hjrn]; omega), hjrn]

/-- Room in JOURNAL is room for a record of a running device. -/
theorem words_of_journalRoom {s : State} (hroom : s.journalRoom = true) : journalWords s.jrn + 1174 ≤ 262144 := by
  have hwords : journalWords s.jrn + 4096 ≤ 262144 := by simpa [State.journalRoom] using hroom
  omega

/-! ### The end of a learning cycle (R68, R69) -/

/-- The result stands: the cycle had come to L7. -/
def LearnRun.stands (l : LearnRun) (n : Nat) : Bool := l.step = 7 && (n = 0 || n = 5)

/-- The end of a running cycle: its record, and a Salinometer with no cycle. -/
theorem endLearn_ends {n : Nat} {s : State} (hstep : s.sal.learn.step ≠ 0) (halive : s.alive = true) (hsaving : s.saving = false) :
    let l := s.sal.learn
    let t := endLearn n s
    t.sal = { s.sal with
      callOad := false, learn := {}, learnDue := false
      lastResult := if LearnRun.stands l n then (if l.capSkipped then 2 else 1) else n
      learnedOnce := s.sal.learnedOnce || LearnRun.stands l n, aonHours := if LearnRun.stands l n then 0 else s.sal.aonHours
      learnRefUs := if LearnRun.stands l n then s.dev.aonUs else s.sal.learnRefUs
      recSeq := t.sal.recSeq, reportReset := t.sal.reportReset } ∧
    t.key.nonces = s.key.nonces ∧
    (s.journalRoom = true → ∃ r : SalRec, r.typ = (if LearnRun.stands l n then 2 else 3) ∧
      r.cause = (if LearnRun.stands l n then (if l.capSkipped then 2 else 1) else n) ∧ r.eStart = l.eAtStart ∧
      r.esrResult = (if LearnRun.stands l n then l.esrMeasured else 0) ∧ t.jrn = s.jrn ++ [.salRec r]) := by
  intro l t
  have ht : t = putSalRec (learnRec n s) := if_neg hstep
  obtain ⟨hsal, hnonces, hjrn⟩ := putSalRec_live (t := learnRec n s) halive hsaving
  rw [ht]
  refine ⟨?_, hnonces, fun hroom => ?_⟩
  · rw [hsal]
    rfl
  · obtain ⟨b, hb⟩ := hjrn (words_of_journalRoom hroom)
    exact ⟨_, rfl, rfl, rfl, rfl, hb⟩

theorem endLearn_idle {n : Nat} {s : State} (hstep : s.sal.learn.step = 0) : endLearn n s = s := if_pos hstep

/-! ### Writes of SAL_LEARN_CTL (R66, R77) -/

theorem learnCtl_holder {s : State} {h : Head} (k : State → State) (hholds : s.holds h 1 = true) : learnCtl h.port k s = k s := by
  cases h <;> exact if_pos hholds

theorem learnOrDefer_spec {s : State} {p : Profile} (hp : s.profile = some p) (hidle : s.sal.learn.step = 0) :
    let t := learnOrDefer s
    (s.learnOk = true → t.sal.learn.step = 1 ∧ t.sal.learn.eDraw = s.learnEuse * p.learnDepth / 1000 ∧
      t.sal.euse = s.learnEuse - t.sal.learn.eDraw ∧ t.sal.learnDue = false ∧ t.sal.deferrals = 0 ∧ t = { s with sal := t.sal }) ∧
    (s.learnOk = false → t = { s with sal := { s.sal with deferrals := min 255 (s.sal.deferrals + 1) } }) := by
  intro t
  have ht : t = if s.learnOk then beginLearn p s else { s with sal := { s.sal with deferrals := satAdd 8 s.sal.deferrals 1 } } := by
    simp only [t, learnOrDefer, hp, hidle, ne_eq, not_true_eq_false, if_false]
  refine ⟨fun hok => ?_, fun hno => ?_⟩
  · rw [ht, if_pos hok]
    exact ⟨rfl, rfl, rfl, rfl, rfl, rfl⟩
  · rw [ht, if_neg (ne_true_of_eq_false hno)]
    rfl

/-- A cycle that ends early (R68, R69). -/
theorem aborted_spec {n : Nat} {s : State} (hstep : s.sal.learn.step ≠ 0) (hearly : LearnRun.stands s.sal.learn n = false)
    (halive : s.alive = true) (hsaving : s.saving = false) :
    let t := chargerSync (endLearn n s)
    t.sal.learn = {} ∧ t.sal.lastResult = n ∧ t.sal.callOad = false ∧ t.sal.charging = t.chargerAllowed ∧
    t.sal.capacity = s.sal.capacity ∧ t.sal.esr = s.sal.esr ∧ t.sal.cal = s.sal.cal ∧
    (s.journalRoom = true → ∃ r : SalRec, r.typ = 3 ∧ r.cause = n ∧ r.eStart = s.sal.learn.eAtStart ∧ t.jrn = s.jrn ++ [.salRec r]) ∧
    t.dev = s.dev ∧ t.map = s.map ∧ ∀ x, t.byteAt x = s.byteAt x := by
  intro t
  obtain ⟨hsal, -, hjrn⟩ := endLearn_ends (n := n) hstep halive hsaving
  rw [hearly] at hsal hjrn
  have hdev : (endLearn n s).dev = s.dev := by simp
  have hmap : (endLearn n s).map = s.map := by simp
  have hbyte : ∀ x, (endLearn n s).byteAt x = s.byteAt x := fun x => endLearn_only (fun u => u.byteAt x) (fun _ _ _ _ _ _ => rfl) n s
  have htsal : t.sal = { (endLearn n s).sal with charging := (endLearn n s).chargerAllowed } := rfl
  refine ⟨?_, ?_, ?_, rfl, ?_, ?_, ?_, fun hroom => ?_, hdev, hmap, hbyte⟩
  · rw [htsal, hsal]
  · rw [htsal, hsal]
    rfl
  · rw [htsal, hsal]
  · rw [htsal, hsal]
  · rw [htsal, hsal]
  · rw [htsal, hsal]
  · obtain ⟨r, htyp, hcause, hstart, -, hlog⟩ := hjrn hroom
    exact ⟨r, htyp, hcause, hstart, hlog⟩

/-- Settles O13: a start by R66's conditions, and the early ends by the one rule for them. -/
theorem learningCycle : Obligations.LearningCycle := by
  unfold Obligations.LearningCycle
  refine ⟨fun s p hp hidle => ⟨fun hruns hsaving => ?_, fun h hopen hholds => ?_⟩,
    fun s halive hsaving => ⟨fun h hstep hopen hholds => ?_, fun hstep => ?_, fun hstep => ?_⟩⟩
  · have hcond : (s.salRuns && !s.saving) = true := by simp [hruns, hsaving]
    exact ⟨_, congrArg Host.Outcome.next (if_pos hcond), learnOrDefer_spec hp hidle⟩
  · exact ⟨_, congrArg Host.Outcome.next ((if_pos hopen).trans (learnCtl_holder learnOrDefer hholds)), learnOrDefer_spec hp hidle⟩
  · refine ⟨_, congrArg Host.Outcome.next ((if_pos hopen).trans (learnCtl_holder _ hholds)), aborted_spec hstep ?_ halive hsaving⟩
    simp [LearnRun.stands]
  · refine ⟨_, congrArg Host.Outcome.next (if_pos hstep), aborted_spec (by omega) ?_ halive hsaving⟩
    simp [LearnRun.stands]
  · refine ⟨_, congrArg Host.Outcome.next (if_pos hstep), aborted_spec (by omega) ?_ halive hsaving⟩
    simp [LearnRun.stands]

/-! ### The steps of a cycle (R53, R68) -/

/-- A capacity that L6 measures moves the capacity by R53; one at a voltage that does not anchor is skipped. -/
def restSkips (p : Profile) (s : State) : Bool := p.kind ≠ 3 && !(p.anchors s.sal.learn.ocvL2 && p.anchors s.vOc)

/-- L5 to L7, before k follows and the charger is switched. -/
def rested (p : Profile) (s : State) : State :=
  let m := (measuredCap p s.sal.learn s.vOc).getD (Config.number s.free).toNat
  { s with
    free := if (measuredCap p s.sal.learn s.vOc).isNone && !restSkips p s then s.free + 1 else s.free
    sal := { s.sal with
      capacity := if restSkips p s then s.sal.capacity else capAfter s.sal.capacity m
      esr := esrAfter s.sal.esr s.sal.learn.esrMeasured, rested := true
      soc := if p.battery && p.anchors s.vOc then p.socAt s.vOc else s.sal.soc
      learn := { s.sal.learn with
        step := 7, capSkipped := restSkips p s, capResult := if restSkips p s then 0 else m } } }

theorem execLearnRestEnd_rests {s : State} {p : Profile} (hp : s.profile = some p) (hstep : s.sal.learn.step = 5) :
    exec .learnRestEnd s = .next (chargerSync (refreshK (rested p s))) := by
  show execLearnRestEnd s = _
  unfold execLearnRestEnd
  rw [hp]
  dsimp only
  rw [if_pos hstep]
  cases hm : measuredCap p s.sal.learn s.vOc <;> simp [rested, restSkips, hm]

theorem yields_learnRestEnd {s : State} {p : Profile} (hp : s.profile = some p) (hstep : s.sal.learn.step = 5) :
    Yields .learnRestEnd s fun t =>
      t.sal.learn.step = 7 ∧ t.sal.rested = true ∧ t.sal.charging = t.chargerAllowed ∧ t.sal.cal = s.sal.cal ∧
      (s.sal.esr ≤ s.sal.learn.esrMeasured → t.sal.esr = s.sal.learn.esrMeasured) ∧
      (s.sal.learn.esrMeasured < s.sal.esr →
        t.sal.esr = max ((3 * s.sal.esr + s.sal.learn.esrMeasured) / 4) (s.sal.esr * 95 / 100)) ∧
      (p.kind ≠ 3 → p.anchors s.sal.learn.ocvL2 = false ∨ p.anchors s.vOc = false →
        t.sal.learn.capSkipped = true ∧ t.sal.capacity = s.sal.capacity) ∧
      (∀ m, p.kind = 3 ∨ (p.anchors s.sal.learn.ocvL2 = true ∧ p.anchors s.vOc = true) →
        measuredCap p s.sal.learn s.vOc = some m →
        t.sal.capacity = (if m ≤ s.sal.capacity then m else min ((3 * s.sal.capacity + m) / 4) (s.sal.capacity * 105 / 100))) ∧
      t.jrn = s.jrn ∧ t.dev = s.dev ∧ t.map = s.map ∧ ∀ x, t.byteAt x = s.byteAt x := by
  have hexec := execLearnRestEnd_rests hp hstep
  have hk := refreshK_eq (rested p s)
  generalize refreshK (rested p s) = u at hexec hk
  have hsal : u.sal = (rested p s).sal := by rw [hk]
  refine ⟨_, hexec, ?_, ?_, rfl, ?_, fun hworse => ?_, fun hbetter => ?_, fun hkind hno => ?_, fun m hgood hm => ?_, ?_, ?_, ?_, fun x => ?_⟩
  · show u.sal.learn.step = 7
    rw [hsal]
    rfl
  · show u.sal.rested = true
    rw [hsal]
    rfl
  · show u.sal.cal = _
    rw [hsal]
    rfl
  · show u.sal.esr = _
    rw [hsal]
    exact if_pos hworse
  · show u.sal.esr = _
    rw [hsal]
    exact if_neg (Nat.not_le.mpr hbetter)
  · have hskip : restSkips p s = true := by
      rcases hno with hno | hno <;> simp [restSkips, hkind, hno]
    show u.sal.learn.capSkipped = true ∧ u.sal.capacity = _
    rw [hsal]
    exact ⟨hskip, if_pos hskip⟩
  · have hskip : restSkips p s = false := by
      rcases hgood with hkind | ⟨hfirst, hlast⟩
      · simp [restSkips, hkind]
      · simp [restSkips, hfirst, hlast]
    show u.sal.capacity = _
    rw [hsal]
    show (if restSkips p s then s.sal.capacity else capAfter s.sal.capacity ((measuredCap p s.sal.learn s.vOc).getD _)) = _
    rw [hskip, hm]
    rfl
  · show u.jrn = _
    rw [hk]
    rfl
  · show u.dev = _
    rw [hk]
    rfl
  · show u.map = _
    rw [hk]
    rfl
  · show u.byteAt x = _
    rw [hk]
    rfl

theorem yields_learnComplete {s : State} (hstep : s.sal.learn.step = 7) (hdone : s.sal.chargeDone = true) (halive : s.alive = true)
    (hsaving : s.saving = false) : Yields .learnComplete s fun t =>
      t.sal.learn = {} ∧ t.sal.learnedOnce = true ∧ t.sal.lastResult = (if s.sal.learn.capSkipped then 2 else 1) ∧
      t.sal.capacity = s.sal.capacity ∧ t.sal.esr = s.sal.esr ∧ t.sal.learnRefUs = s.dev.aonUs ∧
      (s.journalRoom = true → ∃ r : SalRec, r.typ = 2 ∧ r.esrResult = s.sal.learn.esrMeasured ∧ t.jrn = s.jrn ++ [.salRec r]) ∧
      t.dev = s.dev ∧ t.map = s.map ∧ ∀ x, t.byteAt x = s.byteAt x := by
  have hcond : (decide (s.sal.learn.step = 7) && s.sal.chargeDone) = true := by simp [hstep, hdone]
  have hstands : LearnRun.stands s.sal.learn 0 = true := by simp [LearnRun.stands, hstep]
  obtain ⟨hsal, -, hjrn⟩ := endLearn_ends (n := 0) (s := s) (by omega) halive hsaving
  rw [hstands] at hsal hjrn
  have hdev : (endLearn 0 s).dev = s.dev := by simp
  have hmap : (endLearn 0 s).map = s.map := by simp
  have hbyte : ∀ x, (endLearn 0 s).byteAt x = s.byteAt x := fun x => endLearn_only (fun u => u.byteAt x) (fun _ _ _ _ _ _ => rfl) 0 s
  refine ⟨endLearn 0 s, if_pos hcond, ?_⟩
  generalize endLearn 0 s = t at hsal hjrn hdev hmap hbyte
  rw [hsal]
  refine ⟨rfl, Bool.or_true _, rfl, rfl, rfl, rfl, fun hroom => ?_, hdev, hmap, hbyte⟩
  obtain ⟨r, htyp, -, -, hesr, hlog⟩ := hjrn hroom
  exact ⟨r, htyp, hesr, hlog⟩

/-- Settles O14: step by step through R68. -/
theorem learningSteps : Obligations.LearningSteps := by
  unfold Obligations.LearningSteps
  refine ⟨fun s hstep hbacklog => ?_, fun s hstep => ?_, fun s p hp hstep hend => ?_, fun s p hp hstep => yields_learnRestEnd hp hstep,
    fun s hstep hdone halive hsaving => yields_learnComplete hstep hdone halive hsaving⟩
  · have hcond : (decide (s.sal.learn.step = 1) && decide (s.map.total ≤ s.bceilOf s.euseNow)) = true := by simp [hstep, hbacklog]
    exact ⟨_, if_pos hcond, rfl, rfl, rfl, rfl, rfl, rfl, rfl⟩
  · by_cases hcurrent : 0 < s.sal.ibkMa
    · exact ⟨_, (if_pos hstep).trans (if_pos hcurrent), rfl, rfl, rfl, fun _ => rfl, rfl⟩
    · exact ⟨_, (if_pos hstep).trans (if_neg hcurrent), rfl, rfl, rfl, fun h => absurd h hcurrent, rfl⟩
  · have hcond : (decide (s.sal.learn.step = 4) && (decide (s.sal.learn.eDraw ≤ s.sal.learn.drawnUj / 1000) ||
        decide (s.sal.vbkMv ≤ (s.profile.map fun p => p.vFloor * p.series).getD 0))) = true := by
      rw [hp]
      rcases hend with hend | hend <;> simp [hstep, hend]
    exact ⟨_, if_pos hcond, rfl, rfl, rfl⟩

/-! ### The pack, a new source and the PMBus targets (R54, R55, R63 to R65) -/

theorem yields_packRemoved {s : State} {p : Profile} (hp : s.profile = some p) (hruns : s.salRuns = true) (hlow : s.sal.vbkMv < p.plausLo) :
    Yields .packRemoved s fun t => t = { s with sal := { s.sal with packRemoved := true } } := by
  refine ⟨_, ?_, rfl⟩
  show execPackRemoved s = _
  unfold execPackRemoved
  rw [hp]
  refine if_pos ?_
  simp [hruns, hlow]

theorem yields_newSource {s : State} {p : Profile} {h : Head} (hp : s.profile = some p) (hopen : s.windowOpen h.port = true)
    (hholds : s.holds h 1 = true) : Yields (.newSource h.port) s fun t =>
      t.sal.capacity = p.eNom * 8 / 10 ∧ t.sal.esr = p.esrNom * 5 / 4 ∧ t.sal.learnDue = true ∧
      t.sal.learnedUnder = some (p.kind, p.ident) ∧ t.sal.cal = s.sal.cal ∧
      t = { s with sal := t.sal, drn := { s.drn with k := t.drn.k, eta := t.drn.eta, eFixed := t.drn.eFixed, eCkpt := t.drn.eCkpt } } := by
  have hexec : exec (.newSource h.port) s = .next (newSource p s) := by
    refine congrArg Host.Outcome.next ((if_pos hopen).trans ((learnCtl_holder _ hholds).trans ?_))
    rw [hp]
  refine ⟨_, hexec, ?_⟩
  have hsal := newSource_sal p s
  have hframe := newSource_frame_eq p s
  generalize newSource p s = t at hsal hframe ⊢
  refine ⟨?_, ?_, ?_, ?_, ?_, hframe⟩ <;> rw [hsal]

theorem yields_socReanchor {s : State} {p : Profile} (hp : s.profile = some p) (hruns : s.salRuns = true) (hsaving : s.saving = false)
    (hopen : s.sal.callOad = false) : Yields .socReanchor s fun t =>
      t.sal.soc = (if p.battery = true ∧ p.anchors s.vOc = true then p.socAt s.vOc else s.sal.soc) ∧
      t = { s with sal := { s.sal with rested := true, soc := t.sal.soc } } := by
  refine ⟨{ s with sal := { s.sal with
    rested := true, soc := if p.battery && p.anchors s.vOc then p.socAt s.vOc else s.sal.soc } }, ?_, ?_, rfl⟩
  · show execSocReanchor s = _
    unfold execSocReanchor
    rw [hp]
    refine if_pos ?_
    simp [hruns, hsaving, hopen]
  · show (if (p.battery && p.anchors s.vOc) = true then _ else _) = _
    simp only [Bool.and_eq_true]

/-- The charger's and the converter's sources, where each stands as it stood (R64). -/
theorem pmbSources_settled {s : State} (hcharger : s.settled 0x90 (s.pmbBad .charger) = true)
    (hconverter : s.settled 0x91 (s.pmbBad .converter) = true) :
    pmbSources s = { s with flt := (pmbSources s).flt } ∧
    (s.flt.live.contains 0x93 = true → (pmbSources s).flt.live.contains 0x93 = true) := by
  have hlive : ∀ {n : Nat} {on : Bool}, s.settled n on = true → on = true → s.flt.live.contains n = true := fun hsettled hon => by
    simpa [State.settled, hon] using hsettled
  have hfirst := fltCond_eq 0x90 (s.pmbBad .charger) s (hlive hcharger)
  have hstands : ∀ n, n ≠ 0x90 → s.flt.live.contains n = true → (fltCond 0x90 (s.pmbBad .charger) s).flt.live.contains n = true :=
    fun n hn => fltCond_live 0x90 n (s.pmbBad .charger) s hn (hlive hcharger)
  unfold pmbSources
  generalize fltCond 0x90 (s.pmbBad .charger) s = u at hfirst hstands ⊢
  have hbad := fun hon => hstands 0x91 (by decide) (hlive hconverter hon)
  have hsecond := fltCond_eq 0x91 (s.pmbBad .converter) u hbad
  refine ⟨?_, fun h93 => fltCond_live 0x91 0x93 (s.pmbBad .converter) u (by decide) hbad (hstands 0x93 (by decide) h93)⟩
  generalize fltCond 0x91 (s.pmbBad .converter) u = v at hsecond ⊢
  rw [hsecond, hfirst]

/-- The Salinometer judged again once a target has spoken or is absent: validity and sources. -/
theorem validSync_pmbSources {s : State} (hcharger : s.settled 0x90 (s.pmbBad .charger) = true)
    (hconverter : s.settled 0x91 (s.pmbBad .converter) = true) (hadc : s.settled 0x93 s.sal.adcFail = true) :
    validSync (pmbSources s) = { s with flt := (validSync (pmbSources s)).flt, sal := { s.sal with
      valid := decide (s.invalidCause = 0), invalidCause := s.invalidCause } } := by
  obtain ⟨hframe, hlive⟩ := pmbSources_settled hcharger hconverter
  generalize pmbSources s = u at hframe hlive ⊢
  have hfail : u.sal.adcFail = true → u.flt.live.contains 0x93 = true := fun hon => by
    refine hlive ?_
    have hon' : s.sal.adcFail = true := by rwa [hframe] at hon
    simpa [State.settled, hon'] using hadc
  have hcond := fltCond_eq 0x93 u.sal.adcFail
    { u with sal := { u.sal with valid := decide (u.invalidCause = 0), invalidCause := u.invalidCause } } hfail
  change validSync u = { u with
    sal := { u.sal with valid := decide (u.invalidCause = 0), invalidCause := u.invalidCause }, flt := (validSync u).flt } at hcond
  generalize validSync u = v at hcond ⊢
  rw [hcond, hframe]
  rfl

/-- The state with a target's answer in its registers, once the poll's tries are counted. -/
def answered (n : Nat) (x : PmbTarget) (r : PmbReading) (k : Nat) (b : Bool) (s : State) : State :=
  { s with
    svc := { s.svc with
      nacks := satAdd 16 s.svc.nacks k, recoveries := if b then satAdd 8 s.svc.recoveries 1 else s.svc.recoveries }
    sal := { s.sal with pmb := tblPut {} n (pmbAfter (s.chargeFor x.role) (s.pmb n) r) s.sal.pmb } }

theorem execPmbusPoll_answered {s : State} {n : Nat} {x : PmbTarget} (r : PmbReading) (k : Nat) (b : Bool) (hx : s.pmbList[n]? = some x)
    (hruns : s.salRuns = true) (hsaving : s.saving = false) :
    exec (.pmbusPoll n (some r) k b) s = .next (chargerSync (validSync (pmbSources (
      if x.role = .charger then chargeStatus r.chargeDone (answered n x r k b s) else answered n x r k b s)))) := by
  have hcond : (s.salRuns && !s.saving) = true := by simp [hruns, hsaving]
  show execPmbusPoll n (some r) k b s = _
  unfold execPmbusPoll
  rw [hx]
  exact if_pos hcond

theorem yields_pmbusPoll {s : State} {n : Nat} {x : PmbTarget} {r : PmbReading} {k : Nat} {b : Bool} (hx : s.pmbList[n]? = some x)
    (hruns : s.salRuns = true) (hsaving : s.saving = false)
    (hcharger : (answered n x r k b s).settled 0x90 ((answered n x r k b s).pmbBad .charger) = true)
    (hconverter : (answered n x r k b s).settled 0x91 ((answered n x r k b s).pmbBad .converter) = true)
    (hadc : s.settled 0x93 s.sal.adcFail = true) : Yields (.pmbusPoll n (some r) k b) s fun t =>
      t.sal.pmb = tblPut {} n (pmbAfter (s.chargeFor x.role) (s.pmb n) r) s.sal.pmb ∧
      (x.role = .charger → t.sal.chargeDone = r.chargeDone) ∧
      (∀ p, x.role = .charger → s.profile = some p → (s.pmb n).voutMode = none →
        (t.pmb n).voutCommand = some p.chargeMv ∧ (t.pmb n).iLimit = some p.chargeMa) ∧
      (∀ p, x.role = .charger → r.chargeDone = true → s.profile = some p → p.battery = true → t.sal.soc = 1000000000) ∧
      (x.role ≠ .charger → t.sal.soc = s.sal.soc ∧ t.sal.chargeDone = s.sal.chargeDone) ∧
      t.sal.valid = decide (t.sal.invalidCause = 0) ∧ t.svc.nacks = satAdd 16 s.svc.nacks k ∧
      t = { s with svc := t.svc, sal := t.sal, flt := t.flt } := by
  have hexec := execPmbusPoll_answered r k b hx hruns hsaving
  generalize hu : (if x.role = .charger then chargeStatus r.chargeDone (answered n x r k b s) else answered n x r k b s) = u at hexec
  have hufacts : u = { answered n x r k b s with sal := u.sal } ∧ u.sal.pmb = (answered n x r k b s).sal.pmb ∧ u.sal.adcFail = s.sal.adcFail ∧
      (x.role = .charger → u.sal.chargeDone = r.chargeDone ∧
        u.sal.soc = if r.chargeDone && (s.profile.map fun p => p.battery).getD false then ppb else s.sal.soc) ∧
      (x.role ≠ .charger → u.sal.soc = s.sal.soc ∧ u.sal.chargeDone = s.sal.chargeDone) := by
    rw [← hu]
    split <;> rename_i hrole
    · exact ⟨rfl, rfl, rfl, fun _ => ⟨rfl, rfl⟩, fun hne => absurd hrole hne⟩
    · exact ⟨rfl, rfl, rfl, fun heq => absurd heq hrole, fun _ => ⟨rfl, rfl⟩⟩
  clear hu
  obtain ⟨hframe, hpmb, hfail, hcharge, hother⟩ := hufacts
  have hbad : ∀ role, u.pmbBad role = (answered n x r k b s).pmbBad role := fun role => by
    unfold State.pmbBad State.pmb
    rw [hpmb, show u.pmbOf role = (answered n x r k b s).pmbOf role by rw [hframe]; rfl]
  have hflt : u.flt = s.flt := by rw [hframe]; rfl
  have hsync := validSync_pmbSources (s := u) (by rw [hbad]; unfold State.settled at *; rw [hflt]; exact hcharger)
    (by rw [hbad]; unfold State.settled at *; rw [hflt]; exact hconverter) (by unfold State.settled at *; rw [hfail, hflt]; exact hadc)
  generalize validSync (pmbSources u) = v at hsync hexec
  have hsal : (chargerSync v).sal = { u.sal with
      valid := decide (u.invalidCause = 0), invalidCause := u.invalidCause, charging := v.chargerAllowed } := by
    rw [hsync]
    rfl
  have hstate : chargerSync v = { u with flt := (chargerSync v).flt, sal := (chargerSync v).sal } := by
    rw [hsync]
    rfl
  refine ⟨_, hexec, ?_⟩
  generalize chargerSync v = t at hsal hstate
  have htpmb : t.sal.pmb = tblPut {} n (pmbAfter (s.chargeFor x.role) (s.pmb n) r) s.sal.pmb := by
    rw [hsal]
    exact hpmb
  have hown : t.pmb n = pmbAfter (s.chargeFor x.role) (s.pmb n) r := by
    unfold State.pmb
    rw [htpmb, tblGet_put, if_pos rfl]
    rfl
  refine ⟨htpmb, fun hrole => ?_, fun p hrole hp hfirst => ?_, fun p hrole hdone hp hbattery => ?_, fun hrole => ?_, ?_, ?_, ?_⟩
  · rw [hsal]
    exact (hcharge hrole).1
  · rw [hown, hrole]
    simp [pmbAfter, hfirst, State.chargeFor, hp]
  · rw [hsal]
    refine (hcharge hrole).2.trans ?_
    rw [hdone, hp]
    simp [hbattery, ppb]
  · rw [hsal]
    exact hother hrole
  · rw [hsal]
  · rw [hstate, hframe]
    rfl
  · rw [hstate, hframe]
    rfl

/-- A target's registers once it has been silent for 1 s (R64). -/
def PmbState.gone (x : PmbState) : PmbState := { x with
  present := false, absent := true, fault := false, milli := [], vin := 0, vout := 0, iout := 0, temp := 0 }

/-- Without its converter a reading is not valid (R56). -/
theorem invalidCause_of_converter {s : State} {n : Nat} (hof : s.pmbOf .converter = some n) (habsent : (s.pmb n).absent = true) :
    s.invalidCause ≠ 0 := by
  unfold State.invalidCause
  rw [hof]
  simp only [habsent, if_true]
  split
  · split <;> decide
  · split
    · decide
    · split
      · decide
      · split <;> decide

theorem yields_pmbusTargetAbsent {s : State} {n : Nat} (hn : n < s.pmbList.length) (hruns : s.salRuns = true) (hsaving : s.saving = false)
    (hcharger : s.settled 0x90 (s.pmbBad .charger || s.pmbOf .charger == some n) = true)
    (hconverter : s.settled 0x91 (s.pmbBad .converter || s.pmbOf .converter == some n) = true)
    (hadc : s.settled 0x93 s.sal.adcFail = true) : Yields (.pmbusTargetAbsent n) s fun t =>
      (t.pmb n).present = false ∧ (t.pmb n).absent = true ∧ (t.pmb n).vout = 0 ∧ (∀ m, m ≠ n → t.pmb m = s.pmb m) ∧
      (s.pmbOf .converter = some n → t.sal.valid = false) ∧ t = { s with sal := t.sal, flt := t.flt } := by
  have hcond : (decide (n < s.pmbList.length) && s.salRuns && !s.saving) = true := by simp [hn, hruns, hsaving]
  have hexec : exec (.pmbusTargetAbsent n) s = .next (validSync (pmbSources { s with
      sal := { s.sal with pmb := tblPut {} n (s.pmb n).gone s.sal.pmb } })) := if_pos hcond
  generalize hu : ({ s with sal := { s.sal with pmb := tblPut {} n (s.pmb n).gone s.sal.pmb } } : State) = u at hexec
  have hpmb : ∀ m, u.pmb m = if m = n then (s.pmb n).gone else s.pmb m := fun m => by
    rw [← hu]
    exact tblGet_put ({} : PmbState) n (s.pmb n).gone s.sal.pmb m
  have hof : ∀ role, u.pmbOf role = s.pmbOf role := fun role => by rw [← hu]; rfl
  have hbad : ∀ role, u.pmbBad role = true → (s.pmbBad role || s.pmbOf role == some n) = true := fun role => by
    unfold State.pmbBad
    rw [hof]
    cases s.pmbOf role with
    | none => exact fun h => absurd h Bool.false_ne_true
    | some m =>
      dsimp only
      rw [hpmb m]
      split <;> rename_i hm
      · subst hm
        simp
      · intro h
        rw [h]
        rfl
  have hflt : u.flt = s.flt := by rw [← hu]
  have hsettled : ∀ role src, s.settled src (s.pmbBad role || s.pmbOf role == some n) = true → u.settled src (u.pmbBad role) = true :=
    fun role src h => by
      unfold State.settled at *
      rw [hflt]
      cases hon : u.pmbBad role with
      | false => rfl
      | true =>
        rw [hbad role hon] at h
        exact h
  have hsync := validSync_pmbSources (hsettled _ _ hcharger) (hsettled _ _ hconverter) (by
    unfold State.settled at *
    rw [hflt, show u.sal.adcFail = s.sal.adcFail by rw [← hu]]
    exact hadc)
  refine ⟨_, hexec, ?_⟩
  generalize validSync (pmbSources u) = t at hsync
  have htpmb : ∀ m, t.pmb m = if m = n then (s.pmb n).gone else s.pmb m := fun m => by
    rw [← hpmb m, hsync]
    rfl
  refine ⟨?_, ?_, ?_, fun m hm => ?_, fun hconv => ?_, ?_⟩
  · rw [htpmb, if_pos rfl]
    rfl
  · rw [htpmb, if_pos rfl]
    rfl
  · rw [htpmb, if_pos rfl]
    rfl
  · rw [htpmb, if_neg hm]
  · rw [hsync]
    refine decide_eq_false (invalidCause_of_converter ((hof _).trans hconv) ?_)
    rw [hpmb, if_pos rfl]
    rfl
  · rw [hsync, ← hu]

/-- Settles O12: the pack, the new source and the anchor each by its command, a poll and an absence by the target's registers. -/
theorem sourceAndCharge : Obligations.SourceAndCharge := by
  unfold Obligations.SourceAndCharge
  exact ⟨fun s p hp hruns hlow => yields_packRemoved hp hruns hlow, fun s p h hp hopen hholds => yields_newSource hp hopen hholds,
    fun s p hp hruns hsaving hopen => yields_socReanchor hp hruns hsaving hopen,
    fun s n x r k b hx hruns hsaving hcharger hconverter hadc => yields_pmbusPoll hx hruns hsaving hcharger hconverter hadc,
    fun s n hn hruns hsaving hcharger hconverter hadc => yields_pmbusTargetAbsent hn hruns hsaving hcharger hconverter hadc⟩

end Sys2Proof.Machine
end

section
/-!
PROOFS. Seal breaks, seal closes and the sealed calibration (R62, R70 to R73, R77, R478).
-/
namespace Sys2Proof.Machine

/-! ### Requests that are served -/

/-- A request that meets nothing to stop it runs (R513, R514). -/
theorem rakeOp_runs {op tag since : Nat} {states : State → Bool} {k : State → State} {s : State} (hserves : s.rakeServes = true)
    (hfree : s.svc.response = none) (hneg : s.svc.negotiated = true) (hold : since ≤ s.svc.major * 256 + s.svc.minor)
    (hst : states (frameAccepted s) = true) : rakeOp op tag since states k s = k (frameAccepted s) := by
  simp only [rakeOp, hserves, hfree]
  simp [show (frameAccepted s).svc = { s.svc with frameErr := false } from rfl, hneg, Nat.not_lt.mpr hold, hst]

theorem rakeServes_of_running {s : State} (hrun : s.running = true) (hstart : s.dev.startDue = false) : s.rakeServes = true := by
  have halive : s.alive = true := by
    unfold State.running at hrun
    unfold State.alive
    cases hst : s.dev.st <;> simp_all
  unfold State.rakeServes
  rw [halive, hstart]
  rfl

/-- A cell's operation of the Rake Port on a running device, present since version 1 and with the cell free. -/
theorem rakeOp_cell {op tag cell : Nat} {k : State → State} {s : State} (hrun : s.running = true) (hstart : s.dev.startDue = false)
    (hfree : s.svc.response = none) (hneg : s.svc.negotiated = true) (hmajor : 1 ≤ s.svc.major) (hcell : s.held cell = false) :
    rakeOp op tag 0x100 State.running (rakeCell op tag cell k) s = k (frameAccepted s) := by
  rw [rakeOp_runs (rakeServes_of_running hrun hstart) hfree hneg (by omega) hrun]
  exact if_neg (ne_true_of_eq_false hcell)

/-- A served head is a live device's, and no save runs. -/
theorem served_live {s : State} {h : Head} (hserved : s.served h = true) : s.alive = true ∧ s.saving = false := by
  simp only [State.served, State.running, Bool.and_eq_true, Bool.or_eq_true, decide_eq_true_eq] at hserved
  unfold State.alive State.saving
  rcases hserved.2 with hst | hst
  · rcases hst with hst | hst <;> simp [hst]
  · simp [hst.1]

theorem running_live {s : State} (hrun : s.running = true) : s.alive = true ∧ s.saving = false := by
  unfold State.running at hrun
  unfold State.alive State.saving
  cases hst : s.dev.st <;> simp_all

/-! ### Seal breaks (R72) -/

/-- A token that opens the seal. -/
def State.sealToken (s : State) (p : Port) (k : Token) : Prop :=
  s.nonceOf .seal p = some k.nonce ∧ k.identity = s.key.identity ∧ k.ecdsaOk = true ∧ k.lmsOk = true ∧
  (∃ o, s.key.owner = some o ∧ o.gen = k.signedBy) ∧ k.count = s.sal.breaksUsed ∧ s.sal.breaksUsed < 16

theorem tokenStatus_stands {s : State} {kind : NonceKind} {p : Port} {k : Token} {fields : Bool} (hnonce : s.nonceOf kind p = some k.nonce) :
    s.tokenStatus kind p k fields = (if k.identity == s.key.identity && fields && k.ecdsaOk && k.lmsOk &&
      s.key.owner.any (·.gen == k.signedBy) then 0 else 5) := by
  unfold State.tokenStatus
  rw [hnonce]
  exact if_neg fun hne => hne rfl

theorem tokenStatus_other {s : State} {kind : NonceKind} {p : Port} {k : Token} (fields : Bool) (hnonce : s.nonceOf kind p ≠ some k.nonce) :
    s.tokenStatus kind p k fields = 6 := by
  unfold State.tokenStatus
  cases hn : s.nonceOf kind p with
  | none => rfl
  | some n => exact if_pos fun heq => hnonce (by rw [hn, heq])

/-- The checks of a break that reach its token. -/
theorem sealCheck_token {s : State} {p : Port} {k : Token} (hleft : s.sal.breaksUsed < 16) (hsaving : s.saving = false) :
    sealCheck p k true s = s.tokenStatus .seal p k (k.count = s.sal.breaksUsed) := by
  have hno : ¬ 16 ≤ s.sal.breaksUsed := Nat.not_le.mpr hleft
  simp [sealCheck, hno, hsaving]

theorem sealCheck_good {s : State} {p : Port} {k : Token} (hgood : s.sealToken p k) (hsaving : s.saving = false) :
    sealCheck p k true s = 0 := by
  obtain ⟨hnonce, hid, hecdsa, hlms, ⟨o, ho, hgen⟩, hcount, hleft⟩ := hgood
  rw [sealCheck_token hleft hsaving, tokenStatus_stands hnonce]
  simp [hid, hecdsa, hlms, ho, hgen, hcount]

theorem sealCheck_bad {s : State} {p : Port} {k : Token} (hnonce : s.nonceOf .seal p = some k.nonce) (hleft : s.sal.breaksUsed < 16)
    (hsaving : s.saving = false) (hbad : ¬ s.sealToken p k) : sealCheck p k true s = 5 := by
  rw [sealCheck_token hleft hsaving, tokenStatus_stands hnonce]
  refine if_neg fun hall => hbad ?_
  simp only [Bool.and_eq_true, beq_iff_eq, decide_eq_true_eq] at hall
  obtain ⟨⟨⟨⟨hid, hcount⟩, hecdsa⟩, hlms⟩, howner⟩ := hall
  refine ⟨hnonce, hid, hecdsa, hlms, ?_, hcount, hleft⟩
  cases ho : s.key.owner with
  | none => simp [ho] at howner
  | some o => exact ⟨o, rfl, by simpa [ho] using howner⟩

/-- What an opened seal is. -/
def Opened (p : Port) (s t : State) : Prop :=
  t.sal.breaksUsed = s.sal.breaksUsed + 1 ∧ t.sal.sealOpen = true ∧ t.sal.staged = s.sal.cal ∧ t.sal.cal = s.sal.cal ∧
  t.sal.learn.step = 0 ∧ t.nonceOf .seal p = none ∧
  (s.journalRoom = true → ∃ l, ∃ r : SalRec, r.typ = 4 ∧ r.breaks = s.sal.breaksUsed + 1 ∧ t.jrn = s.jrn ++ l ++ [.salRec r]) ∧
  t.dev = s.dev ∧ ∀ x, t.byteAt x = s.byteAt x

/-- A learning cycle that a break ends, if one runs (R72): at most one record, and no cycle. -/
theorem endLearn_broken {n : Nat} {s : State} (halive : s.alive = true) (hsaving : s.saving = false) :
    let t := endLearn n s
    t.sal.breaksUsed = s.sal.breaksUsed ∧ t.sal.cal = s.sal.cal ∧ t.sal.learn.step = 0 ∧ t.key.nonces = s.key.nonces ∧
    (s.journalRoom = true → ∃ l, t.jrn = s.jrn ++ l ∧ journalWords t.jrn ≤ journalWords s.jrn + 150) := by
  intro t
  by_cases hstep : s.sal.learn.step = 0
  · have ht : t = s := endLearn_idle hstep
    rw [ht]
    exact ⟨rfl, rfl, hstep, rfl, fun _ => ⟨[], by simp, by omega⟩⟩
  · obtain ⟨hsal, hnonces, hjrn⟩ := endLearn_ends (n := n) hstep halive hsaving
    change t.sal = _ at hsal
    change s.journalRoom = true → ∃ r : SalRec, _ ∧ _ ∧ _ ∧ _ ∧ t.jrn = _ at hjrn
    refine ⟨?_, ?_, ?_, hnonces, fun hroom => ?_⟩
    · rw [hsal]
    · rw [hsal]
    · rw [hsal]
    · obtain ⟨r, -, -, -, -, hlog⟩ := hjrn hroom
      refine ⟨_, hlog, ?_⟩
      have hwords := JRec.words_le (.salRec r)
      rw [hlog, journalWords_append]
      omega

/-- What opens the seal: the count, the open copy and its record (R72). -/
theorem openSeal_opened {p : Port} {s : State} (halive : s.alive = true) (hsaving : s.saving = false) : Opened p s (openSeal p s) := by
  obtain ⟨hbreaks, hcal, hstep, hnonces, hjrn⟩ := endLearn_broken (n := 6) (s := dropNonce .seal p s) halive hsaving
  have hdev : (endLearn 6 (dropNonce .seal p s)).dev = s.dev := by simp
  have hbyte : ∀ x, (endLearn 6 (dropNonce .seal p s)).byteAt x = s.byteAt x := fun x =>
    endLearn_only (fun u => u.byteAt x) (fun _ _ _ _ _ _ => rfl) 6 (dropNonce .seal p s)
  have hopen : openSeal p s = (let u := chargerSync (endLearn 6 (dropNonce .seal p s))
      putSalRec (mkSalRec 4 0 0 0 0 0 0 0 0 0 0 { u with
        sal := { u.sal with breaksUsed := u.sal.breaksUsed + 1, sealOpen := true, staged := u.sal.cal } })) := rfl
  rw [hopen]
  generalize endLearn 6 (dropNonce .seal p s) = u at hbreaks hcal hstep hnonces hjrn hdev hbyte ⊢
  dsimp only
  generalize hrec : mkSalRec 4 0 0 0 0 0 0 0 0 0 0 { chargerSync u with sal := _ } = t
  have htdev : t.1.dev = s.dev := by rw [← hrec]; exact hdev
  have htsal : t.1.sal = { u.sal with
      charging := u.chargerAllowed, breaksUsed := u.sal.breaksUsed + 1, sealOpen := true, staged := u.sal.cal
      recSeq := t.1.sal.recSeq, reportReset := t.1.sal.reportReset } := by rw [← hrec]; rfl
  have htyp : t.2.typ = 4 ∧ t.2.breaks = u.sal.breaksUsed + 1 := by rw [← hrec]; exact ⟨rfl, rfl⟩
  have htkey : t.1.key = u.key := by rw [← hrec]; rfl
  have htjrn : t.1.jrn = u.jrn := by rw [← hrec]; rfl
  have htbyte : ∀ x, t.1.byteAt x = s.byteAt x := fun x => by rw [← hrec]; exact hbyte x
  clear hrec
  obtain ⟨hsal, hkept, hlog⟩ := putSalRec_live (t := t) ((alive_congr htdev).trans halive) ((saving_congr htdev).trans hsaving)
  have hpdev : (putSalRec t).dev = t.1.dev := by simp
  have hpbyte : ∀ x, (putSalRec t).byteAt x = t.1.byteAt x := fun x =>
    putSalRec_only (fun u => u.byteAt x) (fun _ _ _ _ _ => rfl) t
  generalize putSalRec t = v at hsal hkept hlog hpdev hpbyte ⊢
  refine ⟨?_, ?_, ?_, ?_, ?_, ?_, fun hroom => ?_, hpdev.trans htdev, fun x => (hpbyte x).trans (htbyte x)⟩
  · rw [hsal, htsal]
    exact congrArg (· + 1) hbreaks
  · rw [hsal, htsal]
  · rw [hsal, htsal]
    exact hcal
  · rw [hsal, htsal]
    exact hcal
  · rw [hsal, htsal]
    exact hstep
  · have hnone := nonceOf_dropNonce .seal p s
    unfold State.nonceOf at hnone ⊢
    rw [hkept, htkey, hnonces, hpdev, htdev]
    exact hnone
  · obtain ⟨l, hl, hwords⟩ := hjrn hroom
    have hspace : journalWords s.jrn + 4096 ≤ 262144 := by simpa [State.journalRoom] using hroom
    change journalWords u.jrn ≤ journalWords s.jrn + 150 at hwords
    obtain ⟨b, hb⟩ := hlog (by rw [htjrn]; omega)
    refine ⟨l, { t.2 with signed := b }, htyp.1, htyp.2.trans (congrArg (· + 1) hbreaks), ?_⟩
    rw [hb, htjrn, hl]
    rfl

/-- A break that stands opens the seal, whatever was last seen of the strap. -/
theorem sealBreakOp_good {p : Port} {k : Token} {s : State} (halive : s.alive = true) (hsaving : s.saving = false)
    (hgood : s.sealToken p k) : (sealBreakOp p k true s).2 = 0 ∧ Opened p s (sealBreakOp p k true s).1 := by
  have hcheck : sealCheck p k true { s with sal := { s.sal with sealStrap := true } } = 0 := sealCheck_good hgood hsaving
  have hopen : sealBreakOp p k true s = (openSeal p { s with sal := { s.sal with sealStrap := true } }, 0) := if_pos hcheck
  rw [hopen]
  exact ⟨rfl, openSeal_opened (s := { s with sal := { s.sal with sealStrap := true } }) halive hsaving⟩

/-- A break that is refused changes the failure count where its token failed. -/
theorem sealBreakOp_refused {p : Port} {k : Token} {low : Bool} {c : Nat} {s : State}
    (hc : sealCheck p k low { s with sal := { s.sal with sealStrap := low } } = c) (hbad : c ≠ 0) :
    sealBreakOp p k low s = (tokenFailed c { s with sal := { s.sal with sealStrap := low } }, c) := by
  unfold sealBreakOp
  dsimp only
  rw [hc, if_neg hbad]

theorem execSealBreak_guarded {s : State} {h : Head} (k : Token) (low : Bool) (hserved : s.served h = true) (hholds : s.holds h 1 = true) :
    exec (.sealBreak h (s.cell 1).gen k low) s = .next (let t := sealBreakOp h.port k low s
      reply h 0xC131 t.2 (if t.2 = 0 then .bytes [t.1.sal.breaksUsed] else .empty) t.1) :=
  congrArg Host.Outcome.next (guarded_served hserved (fun h => absurd h Bool.false_ne_true) rfl hholds)

theorem yields_sealBreak_refused {s : State} {h : Head} {k : Token} {low : Bool} {c : Nat} (hserved : s.served h = true)
    (hholds : s.holds h 1 = true) (hc : sealCheck h.port k low { s with sal := { s.sal with sealStrap := low } } = c) (hbad : c ≠ 0) :
    exec (.sealBreak h (s.cell 1).gen k low) s =
      .next (reply h 0xC131 c .empty (tokenFailed c { s with sal := { s.sal with sealStrap := low } })) := by
  rw [execSealBreak_guarded k low hserved hholds, sealBreakOp_refused hc hbad]
  dsimp only
  rw [if_neg hbad]

/-- Settles O15: a break's answer is its check's, and one that stands opens the seal. -/
theorem sealBreakOpens : Obligations.SealBreakOpens := by
  unfold Obligations.SealBreakOpens
  intro s good opened strapped
  refine ⟨fun h hserved hholds => ?_, fun tag k hrun hstart hfree hneg hmajor hcell hgood => ?_⟩
  · obtain ⟨halive, hsaving⟩ := served_live hserved
    refine ⟨fun hrbg => ?_, fun k hgood => ?_, fun k => ?_, fun k hused => ?_, fun k hleft hother => ?_, fun k hnonce hleft hbad => ?_⟩
    · have hexec : exec (.sealNonce h (s.cell 1).gen) s =
          .next (reply h 0xC130 0 (.nonce (Config.nonce s.free)) (makeNonce .seal h.port s).1) := by
        refine congrArg Host.Outcome.next ((guarded_served hserved (fun h => absurd h Bool.false_ne_true) rfl hholds).trans ?_)
        rw [makeNonce_working .seal h.port hrbg]
      refine ⟨_, hexec, Config.nonce s.free, nonceOf_makeNonce .seal h.port hrbg, reply_answered .., ?_⟩
      simp
    · obtain ⟨hok, hopened⟩ := sealBreakOp_good halive hsaving (p := h.port) (k := k) hgood
      have hexec := execSealBreak_guarded k true hserved hholds
      generalize sealBreakOp h.port k true s = t at hok hopened hexec
      dsimp only at hexec
      rw [hok, if_pos rfl, hopened.1] at hexec
      exact ⟨_, hexec, hopened, reply_answered ..⟩
    · exact ⟨_, yields_sealBreak_refused hserved hholds (c := 7) rfl (by decide), rfl⟩
    · refine ⟨_, yields_sealBreak_refused hserved hholds (c := 8) ?_ (by decide), rfl⟩
      exact if_pos hused
    · refine ⟨_, yields_sealBreak_refused hserved hholds (c := 6) ?_ (by decide), rfl⟩
      exact (sealCheck_token hleft hsaving).trans (tokenStatus_other _ hother)
    · refine ⟨_, yields_sealBreak_refused hserved hholds (c := 5) ?_ (by decide), rfl⟩
      exact sealCheck_bad (s := strapped true) hnonce hleft hsaving hbad
  · obtain ⟨halive, hsaving⟩ := running_live hrun
    obtain ⟨hok, hopened⟩ := sealBreakOp_good (s := frameAccepted s) halive hsaving (p := .rake) (k := k) hgood
    have hexec : exec (.rakeSealBreak tag k true) s = .next (let t := sealBreakOp .rake k true (frameAccepted s)
        rakeReply 0x21 tag t.2 (if t.2 = 0 then .bytes [t.1.sal.breaksUsed] else .empty) t.1) :=
      congrArg Host.Outcome.next (rakeOp_cell hrun hstart hfree hneg hmajor hcell)
    generalize sealBreakOp .rake k true (frameAccepted s) = t at hok hopened hexec
    dsimp only at hexec
    rw [hok, if_pos rfl, hopened.1] at hexec
    exact ⟨_, hexec, hopened, rfl⟩

end Sys2Proof.Machine
end

section
/-!
PROOFS. Closing the seal, and writes of the sealed calibration (R62, R72, R73, R77, R478).
-/
namespace Sys2Proof.Machine

/-- A seal record of a live device goes to JOURNAL at once (R72, R76). -/
theorem putSealRec {t : State × SalRec} {s : State} (halive : t.1.alive = true) (hsaving : t.1.saving = false)
    (hframe : t.1 = { s with sal := t.1.sal, free := t.1.free }) :
    (putSalRec t).sal = t.1.sal ∧ (putSalRec t).dev = s.dev ∧ (putSalRec t).map = s.map ∧
    (∀ x, (putSalRec t).byteAt x = s.byteAt x) ∧
    (s.journalRoom = true → ∃ b, (putSalRec t).jrn = s.jrn ++ [.salRec { t.2 with signed := b }]) := by
  obtain ⟨hsal, -, hlog⟩ := putSalRec_live halive hsaving
  have hpdev : (putSalRec t).dev = t.1.dev := by simp
  have hpmap : (putSalRec t).map = t.1.map := by simp
  have hpbyte : ∀ x, (putSalRec t).byteAt x = t.1.byteAt x := fun x =>
    putSalRec_only (fun u => u.byteAt x) (fun _ _ _ _ _ => rfl) t
  have hjrn : t.1.jrn = s.jrn := by rw [hframe]
  refine ⟨hsal, hpdev.trans ?_, hpmap.trans ?_, fun x => (hpbyte x).trans ?_, fun hroom => ?_⟩
  · rw [hframe]
  · rw [hframe]
  · rw [hframe]
    rfl
  · rw [hjrn] at hlog
    exact hlog (words_of_journalRoom hroom)

/-- What a committed close leaves (R72). -/
theorem closeSeal_spec {s : State} (halive : s.alive = true) (hsaving : s.saving = false) :
    let t := (closeSeal s).1
    t.sal.cal = s.sal.staged ∧ t.sal.sealOpen = false ∧ t.sal.lastClose = 1 ∧ t.sal.breaksUsed = s.sal.breaksUsed ∧
    (s.journalRoom = true → ∃ r : SalRec, r.typ = 5 ∧ r.cause = 0 ∧ t.jrn = s.jrn ++ [.salRec r]) ∧ t.dev = s.dev ∧ t.map = s.map ∧
    ∀ x, t.byteAt x = s.byteAt x := by
  intro t
  obtain ⟨hsal, hdev, hmap, hbyte, hlog⟩ := putSealRec (s := s)
    (t := mkSalRec 5 0 0 0 0 0 0 0 0 0 0 { s with sal := { s.sal with cal := s.sal.staged, sealOpen := false, lastClose := 1 } })
    halive hsaving rfl
  have htsal : t.sal = _ := hsal
  refine ⟨?_, ?_, ?_, ?_, fun hroom => ?_, hdev, hmap, hbyte⟩
  · rw [htsal]
    rfl
  · rw [htsal]
    rfl
  · rw [htsal]
    rfl
  · rw [htsal]
    rfl
  · obtain ⟨b, hb⟩ := hlog hroom
    exact ⟨_, rfl, rfl, hb⟩

theorem yields_sealAbandon {s : State} (c : SealLoss) (halive : s.alive = true) (hsaving : s.saving = false) (hopen : s.sal.sealOpen = true) :
    Yields (.sealAbandon c) s fun t =>
      t.sal.cal = s.sal.cal ∧ t.sal.staged = s.sal.cal ∧ t.sal.sealOpen = false ∧ t.sal.lastClose = 2 ∧
      t.sal.breaksUsed = s.sal.breaksUsed ∧ (s.journalRoom = true → ∃ r : SalRec, r.typ = 5 ∧ r.cause = 1 ∧ t.jrn = s.jrn ++ [.salRec r]) ∧
      t.dev = s.dev ∧ ∀ x, t.byteAt x = s.byteAt x := by
  obtain ⟨low, hseen⟩ : ∃ b, (if c = .strap then { s with sal := { s.sal with sealStrap := false } } else s) =
      { s with sal := { s.sal with sealStrap := b } } := by
    split
    · exact ⟨false, rfl⟩
    · exact ⟨s.sal.sealStrap, rfl⟩
  have hexec : exec (.sealAbandon c) s = .next (putSalRec (abandonRec { s with sal := { s.sal with sealStrap := low } })) := by
    rw [← hseen]
    refine congrArg Host.Outcome.next (if_pos ?_)
    rw [hseen]
    exact hopen
  obtain ⟨hsal, hdev, -, hbyte, hlog⟩ := putSealRec (s := s) (t := abandonRec { s with sal := { s.sal with sealStrap := low } })
    halive hsaving rfl
  refine ⟨_, hexec, ?_⟩
  generalize putSalRec (abandonRec { s with sal := { s.sal with sealStrap := low } }) = t at hsal hdev hbyte hlog
  refine ⟨?_, ?_, ?_, ?_, ?_, fun hroom => ?_, hdev, hbyte⟩
  · rw [hsal]
    rfl
  · rw [hsal]
    rfl
  · rw [hsal]
    rfl
  · rw [hsal]
    rfl
  · rw [hsal]
    rfl
  · obtain ⟨b, hb⟩ := hlog hroom
    exact ⟨_, rfl, rfl, hb⟩

/-! ### The answer of a close (R62, R77) -/

theorem sealCloseStatus_good {s : State} (hopen : s.sal.sealOpen = true) (hmv : s.sal.staged.uvMv < s.sal.staged.pgMv)
    (hlow : 10 ≤ s.sal.staged.pgMs) (hhigh : s.sal.staged.pgMs ≤ 1000) : sealCloseStatus s = 0 := by
  have h1 : ¬ s.sal.staged.pgMv ≤ s.sal.staged.uvMv := by omega
  have h2 : ¬ s.sal.staged.pgMs < 10 := by omega
  have h3 : ¬ 1000 < s.sal.staged.pgMs := by omega
  simp [sealCloseStatus, hopen, h1, h2, h3]

theorem sealCloseStatus_bad {s : State} (hopen : s.sal.sealOpen = true)
    (hbad : s.sal.staged.pgMv ≤ s.sal.staged.uvMv ∨ s.sal.staged.pgMs < 10 ∨ 1000 < s.sal.staged.pgMs) : sealCloseStatus s = 0x11 := by
  rcases hbad with hbad | hbad | hbad <;> simp [sealCloseStatus, hopen, hbad]

theorem execSealClose_guarded {s : State} {h : Head} (hserved : s.served h = true) (hholds : s.holds h 1 = true) :
    exec (.sealClose h (s.cell 1).gen) s = .next (
      if sealCloseStatus s = 0 then reply h 0xC132 0 (.blob ((closeSeal s).2.setWidth 512)) (closeSeal s).1
      else reply h 0xC132 (sealCloseStatus s) .empty s) :=
  congrArg Host.Outcome.next (guarded_served hserved (fun h => absurd h Bool.false_ne_true) rfl hholds)

/-! ### Writes of the sealed calibration (R72, R77) -/

theorem calRegWrite_open {s : State} {p : Port} (o v : Nat) (hopen : s.sal.sealOpen = true)
    (hmay : p = .rake ∨ (∃ h : Head, p = h.port ∧ s.holds h 1 = true)) :
    calRegWrite p o v s = { s with sal := { s.sal with staged := calWrite o v s.sal.staged } } := by
  unfold calRegWrite
  rw [hopen]
  rcases hmay with rfl | ⟨h, rfl, hholds⟩
  · rfl
  · cases h <;> exact if_pos hholds

theorem calRegWrite_closed {s : State} (p : Port) (o v : Nat) (hclosed : s.sal.sealOpen = false) : calRegWrite p o v s = regViolate p 5 s := by
  unfold calRegWrite
  rw [hclosed]
  rfl

/-- The nonces of the others stand when one lapses (R478). -/
theorem nonceOf_dropNonce_other {k k' : NonceKind} {p p' : Port} (s : State) (hother : (k', p') ≠ (k, p)) :
    (dropNonce k p s).nonceOf k' p' = s.nonceOf k' p' := by
  unfold dropNonce State.nonceOf
  dsimp only
  rw [List.find?_filter]
  refine congrArg _ (congrArg (fun f => s.key.nonces.find? f) (funext fun n => ?_))
  have hapart : n.1 = k' → n.2.1 = p' → ¬ (n.1 = k ∧ n.2.1 = p) := fun hk hp heq =>
    hother (by rw [← hk, ← hp, heq.1, heq.2])
  rw [Bool.eq_iff_iff]
  simp only [Bool.not_eq_true', decide_eq_true_eq, ← Bool.decide_and, decide_eq_false_iff_not]
  exact ⟨And.right, fun h => ⟨hapart h.1.1 h.1.2, h⟩⟩

/-- Settles O16: closes by their answer, an abandoned seal by its record, writes by the staged set they reach. -/
theorem sealCloses : Obligations.SealCloses := by
  unfold Obligations.SealCloses
  intro s halive hsaving committed
  refine ⟨fun h hserved hholds => ⟨fun hopen hmv hlow hhigh => ?_, fun hopen hbad => ?_, fun hclosed => ?_⟩,
    fun tag hrun hstart hfree hneg hmajor hcell hopen hmv hlow hhigh => ?_, fun c hopen => yields_sealAbandon c halive hsaving hopen,
    fun p o v hwindow hopen hmay => ?_, fun p o v hwindow hclosed => ?_, fun k p => ?_⟩
  · have hclose := closeSeal_spec halive hsaving
    have hexec := execSealClose_guarded hserved hholds
    rw [sealCloseStatus_good hopen hmv hlow hhigh, if_pos rfl] at hexec
    generalize (closeSeal s).1 = t at hclose hexec
    exact ⟨_, hexec, hclose, _, reply_answered ..⟩
  · have hexec := execSealClose_guarded hserved hholds
    rw [sealCloseStatus_bad hopen hbad, if_neg (by decide)] at hexec
    exact ⟨_, hexec, rfl⟩
  · have hexec := execSealClose_guarded hserved hholds
    have hstatus : sealCloseStatus s = 3 := by simp [sealCloseStatus, hclosed]
    rw [hstatus, if_neg (by decide)] at hexec
    exact ⟨_, hexec, rfl⟩
  · have hclose := closeSeal_spec (s := frameAccepted s) halive hsaving
    have hexec : exec (.rakeSealClose tag) s = .next (
        if sealCloseStatus (frameAccepted s) = 0 then
          rakeReply 0x22 tag 0 (.blob ((closeSeal (frameAccepted s)).2.setWidth 512)) (closeSeal (frameAccepted s)).1
        else rakeReply 0x22 tag (sealCloseStatus (frameAccepted s)) .empty (frameAccepted s)) :=
      congrArg Host.Outcome.next (rakeOp_cell hrun hstart hfree hneg hmajor hcell)
    rw [sealCloseStatus_good (s := frameAccepted s) hopen hmv hlow hhigh, if_pos rfl] at hexec
    generalize (closeSeal (frameAccepted s)).1 = t at hclose hexec
    exact ⟨_, hexec, hclose, _, rfl⟩
  · refine ⟨_, congrArg Host.Outcome.next ((if_pos hwindow).trans (calRegWrite_open o v hopen hmay)), rfl, fun ho => ?_⟩
    subst ho
    exact ⟨rfl, rfl⟩
  · exact ⟨_, congrArg Host.Outcome.next ((if_pos hwindow).trans (calRegWrite_closed p o v hclosed)), rfl⟩
  · exact ⟨_, rfl, nonceOf_dropNonce k p s, fun k' p' hother => nonceOf_dropNonce_other s hother, rfl⟩

end Sys2Proof.Machine
end

section
/-!
PROOFS. The ordering point, epochs, audits and fills of the Salinity Map (R83 to R100).
-/
namespace Sys2Proof.Machine

/-! ### Lookups (R89) -/

/-- The state in which an operation on a resident line takes effect. -/
def looked (o : MapOp) (s : State) : State := useLine (regionOf o.granule) (countLookup o s)

theorem MapRest.trans {s t u : State} (h : MapRest s t) (k : MapRest t u) : MapRest s u := by
  unfold MapRest at *
  obtain ⟨h1, h2, h3, h4, h5, h6, h7, h8, h9, h10⟩ := h
  obtain ⟨k1, k2, k3, k4, k5, k6, k7, k8, k9, k10⟩ := k
  exact ⟨k1.trans h1, k2.trans h2, k3.trans h3, k4.trans h4, k5.trans h5, k6.trans h6, k7.trans h7, k8.trans h8, k9.trans h9, k10.trans h10⟩

theorem looked_spec (o : MapOp) (s : State) : MapRest s (looked o s) ∧ (∀ x, (looked o s).dirtyBit x = s.dirtyBit x) ∧
    looked o s = { s with map := (looked o s).map } := by
  refine ⟨(countLookup_keeps o s).1.trans (useLine_keeps _ _), fun x => ?_, ?_⟩
  · unfold State.dirtyBit looked
    rw [lineOf_use, lineOf_lookup]
  · exact congrArg (fun u : State => { u with map := (looked o s).map })
      (countLookup_only (fun u => { u with map := s.map }) (fun _ _ => rfl) o s)

/-- Setting a bit changes the map alone. -/
theorem setBit_map (g : Nat) (s : State) : setBit g s = { s with map := (setBit g s).map } :=
  setBit_only (fun u => { u with map := (setBit g s).map }) (fun _ _ => rfl) g s

theorem clrBit_map (g : Nat) (s : State) : clrBit g s = { s with map := (clrBit g s).map } :=
  clrBit_only (fun u => { u with map := (clrBit g s).map }) (fun _ _ => rfl) g s

/-- A region's entry as a mark leaves it (R83). -/
theorem markEntry_spec {r : Nat} {s : State} (hr : r < s.regions) :
    let t := markEntry r s
    t = { s with map := t.map } ∧ t.rstOf r = s.withHot { s.rstOf r with epoch := s.map.epoch, zero := false } ∧
    t.map.total = s.map.total ∧ t.map.inflight = s.map.inflight ∧ t.map.hmap = s.map.hmap ∧ (∀ x, t.dirtyBit x = s.dirtyBit x) ∧
    ∀ x, t.cached x = s.cached x := by
  intro t
  have ht : t = { s with map := { s.map with
      rst := tblUpd s.map.rstBase r (fun x => s.withHot { x with epoch := s.map.epoch, zero := false }) s.map.rst } } := rstUpd_eq _ hr
  refine ⟨?_, rstOf_upd _ hr, ?_, ?_, ?_, fun x => ?_, fun x => ?_⟩
  · rw [ht]
  · rw [ht]
  · rw [ht]
  · rw [ht]
  · unfold State.dirtyBit
    rw [show t.lineOf (regionOf x) = s.lineOf (regionOf x) from lineOf_rstUpd ..]
  · exact cached_rstUpd ..

/-! ### MARK and CLAIM at a resident line (R83, R86) -/

/-- The device but for its map and the drain path. -/
def BesideMap (s t : State) : Prop := t.dev = s.dev ∧ t.jrn = s.jrn ∧ ∀ x, t.byteAt x = s.byteAt x

theorem besideMap_of_frame {s t : State} (h : t = { s with map := t.map, drn := t.drn, bed := t.bed }) : BesideMap s t := by
  refine ⟨?_, ?_, fun x => ?_⟩
  · rw [h]
  · rw [h]
  · rw [h]
    rfl

/-- What an ordering-point operation on granule `g` has made of its bit, its region's count and the total. -/
def Counted (g n : Nat) (s t : State) : Prop :=
  t.map.total + (if s.dirtyBit g then 1 else 0) = s.map.total + n ∧
  (t.rstOf (regionOf g)).dirty + (if s.dirtyBit g then 1 else 0) = (s.rstOf (regionOf g)).dirty + n

theorem mark_spec {g : Nat} {e : LcEntry} {s : State} (hg : g < s.granules) (he : s.cached (regionOf g) = some e)
    (hf : e.filling = false) :
    let t := mapOp (.mark g) s
    t.dirtyBit g = true ∧ (∀ x, x ≠ g → t.dirtyBit x = s.dirtyBit x) ∧ BesideMap s t ∧ Counted g 1 s t ∧
    (t.rstOf (regionOf g)).epoch = s.map.epoch ∧ t.map.inflight = s.map.inflight ∧ t.map.hmap = s.map.hmap := by
  intro t
  obtain ⟨⟨htotal, hrst, hbase, hflight, hhmap, hepoch, -⟩, hbits, hframe⟩ := looked_spec (.mark g) s
  have ht : t = markEntry (regionOf g) (setBit g (looked (.mark g) s)) := mapOp_resident (o := .mark g) hg he hf
  generalize looked (.mark g) s = u at htotal hrst hbase hflight hhmap hepoch hbits hframe ht
  have hr : regionOf g < u.regions := by
    rw [hframe]
    exact region_inside hg
  have hentry : u.rstOf (regionOf g) = s.rstOf (regionOf g) := by
    unfold State.rstOf
    rw [hrst, hbase, show u.regions = s.regions by rw [hframe]; rfl]
  obtain ⟨hstotal, hsdirty, hsflight, hshmap, hsepoch, -⟩ := setBit_keeps g u hr
  have hsframe := setBit_map g u
  have hsbits := fun x => setBit_bit g x u
  generalize setBit g u = v at ht hstotal hsdirty hsflight hshmap hsepoch hsframe hsbits
  have hrv : regionOf g < v.regions := by
    rw [hsframe]
    exact hr
  obtain ⟨hmframe, hmentry, hmtotal, hmflight, hmhmap, hmbits, -⟩ := markEntry_spec hrv
  rw [← ht] at hmframe hmentry hmtotal hmflight hmhmap hmbits
  refine ⟨?_, fun x hx => ?_, besideMap_of_frame ?_, ⟨?_, ?_⟩, ?_, ?_, ?_⟩
  · rw [hmbits, hsbits]
    simp
  · rw [hmbits, hsbits, hbits, decide_eq_false hx, Bool.false_or]
  · rw [hmframe, hsframe, hframe]
  · rw [hmtotal, ← htotal, ← hbits]
    exact hstotal
  · rw [hmentry, ← hbits, ← hentry]
    exact hsdirty
  · rw [hmentry]
    exact hsepoch.trans hepoch
  · rw [hmflight, hsflight, hflight]
  · rw [hmhmap, hshmap, hhmap]

theorem claim_resident {g : Nat} {e : LcEntry} {s : State} (hg : g < s.granules) (he : s.cached (regionOf g) = some e)
    (hf : e.filling = false) : mapOp (.claim g) s = claimIn g (looked (.claim g) s) := mapOp_resident (o := .claim g) hg he hf

/-- A claim that is not granted answers, and changes no bit. -/
theorem claim_refused {g : Nat} {a : ClaimAnswer} {w : List Nat} {e : LcEntry} {s : State} (hg : g < s.granules)
    (he : s.cached (regionOf g) = some e) (hf : e.filling = false)
    (hanswer : claimIn g (looked (.claim g) s) = { looked (.claim g) s with
      map := { (looked (.claim g) s).map with lastAnswer := some a, claimWait := (looked (.claim g) s).map.claimWait ++ w } }) :
    let t := mapOp (.claim g) s
    t.map.lastAnswer = some a ∧ (∀ x, t.dirtyBit x = s.dirtyBit x) ∧ BesideMap s t ∧ t.map.inflight = s.map.inflight ∧
    t.map.claimWait = s.map.claimWait ++ w := by
  intro t
  obtain ⟨⟨-, -, -, hflight, -, -, hwait, -⟩, hbits, hframe⟩ := looked_spec (.claim g) s
  have ht : t = _ := (claim_resident hg he hf).trans hanswer
  generalize looked (.claim g) s = u at hflight hwait hbits hframe ht
  rw [ht]
  refine ⟨rfl, hbits, besideMap_of_frame ?_, hflight, ?_⟩
  · rw [hframe]
  · show u.map.claimWait ++ w = _
    rw [hwait]

theorem claim_granted {g : Nat} {e : LcEntry} {s : State} (hg : g < s.granules) (he : s.cached (regionOf g) = some e)
    (hf : e.filling = false) (hbit : s.dirtyBit g = true) (hout : s.map.inflight.contains g = false) (hplace : s.map.inflight.length < 8192)
    (htotal0 : 0 < s.map.total) (hdirty0 : 0 < (s.rstOf (regionOf g)).dirty) :
    let t := mapOp (.claim g) s
    t.map.lastAnswer = some .grant ∧ t.dirtyBit g = false ∧ (∀ x, x ≠ g → t.dirtyBit x = s.dirtyBit x) ∧ BesideMap s t ∧ Counted g 0 s t ∧
    t.map.inflight = setAdd g s.map.inflight ∧ t.drn.path = s.drn.path ++ [⟨g, .claimed, s.dev.aonUs⟩] := by
  intro t
  obtain ⟨⟨htotal, hrst, hbase, hflight, -⟩, hbits, hframe⟩ := looked_spec (.claim g) s
  have ht : t = claimIn g (looked (.claim g) s) := claim_resident hg he hf
  generalize looked (.claim g) s = u at htotal hrst hbase hflight hbits hframe ht
  have hr : regionOf g < u.regions := by
    rw [hframe]
    exact region_inside hg
  have hentry : u.rstOf (regionOf g) = s.rstOf (regionOf g) := by
    unfold State.rstOf
    rw [hrst, hbase, show u.regions = s.regions by rw [hframe]; rfl]
  have hubit : u.dirtyBit g = true := (hbits g).trans hbit
  have hgrant : t = { clrBit g u with
      map := { (clrBit g u).map with
        inflight := setAdd g (clrBit g u).map.inflight, lastAnswer := some .grant
        peak := max (clrBit g u).map.peak ((clrBit g u).map.inflight.length + 1) }
      drn := { (clrBit g u).drn with path := (clrBit g u).drn.path ++ [⟨g, .claimed, (clrBit g u).dev.aonUs⟩] } } := by
    have hset : (u.lineOf (regionOf g)).testBit (bitOf g) = true := hubit
    have hfree : ¬ 8192 ≤ u.map.inflight.length := by
      rw [hflight]
      omega
    have hnot : u.map.inflight.contains g = false := by rw [hflight]; exact hout
    rw [ht]
    unfold claimIn
    rw [hset, hnot, if_neg hfree]
    rfl
  obtain ⟨hctotal, hcdirty, hcflight, -⟩ := clrBit_keeps g u hr hubit (by rw [htotal]; exact htotal0) (by rw [hentry]; exact hdirty0)
  have hcframe := clrBit_map g u
  have hcbits := fun x => clrBit_bit g x u
  generalize clrBit g u = v at hgrant hctotal hcdirty hcflight hcframe hcbits
  have htbits : ∀ x, t.dirtyBit x = v.dirtyBit x := fun x => by rw [hgrant]; rfl
  rw [hentry] at hcdirty
  rw [htotal] at hctotal
  refine ⟨?_, ?_, fun x hx => ?_, besideMap_of_frame ?_, ⟨?_, ?_⟩, ?_, ?_⟩
  · rw [hgrant]
  · rw [htbits, hcbits]
    simp
  · rw [htbits, hcbits, hbits, decide_eq_false hx, Bool.not_false, Bool.true_and]
  · rw [hgrant, hcframe, hframe]
  · rw [hbit, hgrant]
    exact hctotal
  · rw [hbit, show t.rstOf (regionOf g) = v.rstOf (regionOf g) by rw [hgrant]; rfl]
    exact hcdirty
  · rw [hgrant]
    show setAdd g v.map.inflight = _
    rw [hcflight, hflight]
  · rw [hgrant, hcframe, hframe]

/-! ### ABANDON and COMMIT (R83, R87) -/

theorem abandon_spec {g : Nat} {e : LcEntry} {s : State} (hg : g < s.granules) (he : s.cached (regionOf g) = some e)
    (hf : e.filling = false) (hwait : s.map.claimWait = []) :
    let t := abandonOp g s
    t.dirtyBit g = true ∧ (∀ x, x ≠ g → t.dirtyBit x = s.dirtyBit x) ∧ BesideMap s t ∧ Counted g 1 s t ∧
    t.map.inflight.contains g = false ∧ t.map.hmap = s.map.hmap := by
  intro t
  obtain ⟨hbits, hflight, hhmap, -, -⟩ := abandon_resident hg he hf hwait
  have ht : t = retryClaims (leaveTable g (setBit g (useLine (regionOf g) (dropCopies g s)))) := by
    show retryClaims (mapOp (.abandon g) (dropCopies g s)) = _
    rw [mapOp_resident (o := .abandon g) (s := dropCopies g s) hg he hf]
    rfl
  obtain ⟨hutotal, hurst, hubase, -⟩ := useLine_keeps (regionOf g) (dropCopies g s)
  have hubits : ∀ x, (useLine (regionOf g) (dropCopies g s)).dirtyBit x = s.dirtyBit x := fun x => by
    unfold State.dirtyBit
    rw [lineOf_use]
    rfl
  have hur : regionOf g < (useLine (regionOf g) (dropCopies g s)).regions := region_inside hg
  have huwait : (useLine (regionOf g) (dropCopies g s)).map.claimWait = [] := hwait
  have huframe : useLine (regionOf g) (dropCopies g s) = { s with
    map := (useLine (regionOf g) (dropCopies g s)).map, drn := (useLine (regionOf g) (dropCopies g s)).drn
    bed := (useLine (regionOf g) (dropCopies g s)).bed } := rfl
  generalize useLine (regionOf g) (dropCopies g s) = u at ht hutotal hurst hubase hubits hur huwait huframe
  obtain ⟨hstotal, hsdirty, -, -, -, hswait, -⟩ := setBit_keeps g u hur
  have hsframe := setBit_map g u
  generalize setBit g u = v at ht hstotal hsdirty hswait hsframe
  have hend : t = { v with map := { v.map with inflight := setDel g v.map.inflight, claimWait := [] } } := by
    rw [ht]
    unfold retryClaims
    rw [show (leaveTable g v).map.claimWait = [] from hswait.trans huwait]
    rfl
  have hentry : u.rstOf (regionOf g) = s.rstOf (regionOf g) := by
    unfold State.rstOf
    rw [hurst, hubase, show u.regions = s.regions by rw [huframe]; rfl]
    rfl
  change (∀ x, t.dirtyBit x = _) at hbits
  refine ⟨?_, fun x hx => ?_, besideMap_of_frame ?_, ⟨?_, ?_⟩, ?_, hhmap⟩
  · rw [hbits]
    simp
  · rw [hbits, decide_eq_false hx, Bool.false_or]
  · rw [hend, hsframe, huframe]
  · rw [hubits, hutotal] at hstotal
    rw [hend]
    exact hstotal
  · rw [hubits, hentry] at hsdirty
    rw [show t.rstOf (regionOf g) = v.rstOf (regionOf g) by rw [hend]; rfl]
    exact hsdirty
  · change t.map.inflight = _ at hflight
    rw [hflight]
    exact setDel_contains_self ..

theorem commit_spec {g : Nat} (m : HmEntry) {s : State} (hwait : s.map.claimWait = []) :
    let t := commitOp g (hmPut g m s)
    t.hmOf g = m ∧ (∀ x, x ≠ g → t.hmOf x = s.hmOf x) ∧ (∀ x, t.dirtyBit x = s.dirtyBit x) ∧ BesideMap s t ∧
    t.map.inflight.contains g = false := by
  intro t
  have ht : t = _ := commitOp_alone (s := hmPut g m s) hwait
  have hentry : ∀ x, t.hmOf x = if x = g then m else s.hmOf x := fun x => by
    rw [ht]
    exact tblGet_put ({} : HmEntry) g m s.map.hmap x
  refine ⟨(hentry g).trans (if_pos rfl), fun x hx => (hentry x).trans (if_neg hx), fun x => ?_, besideMap_of_frame ?_, ?_⟩
  · rw [ht]
    rfl
  · rw [ht]
    rfl
  · rw [ht]
    exact setDel_contains_self ..

/-- Settles O17: each operation at a resident line by its effect there; damage met is repaired first. -/
theorem markAndClaim : Obligations.MarkAndClaim := by
  unfold Obligations.MarkAndClaim
  refine ⟨fun s g e hon hg he hf => ?_, fun s g d hon hg => ?_⟩
  · intro others rest step
    have hrun : (s.mapOn && decide (g < s.granules)) = true := by simp [hon, hg]
    refine ⟨⟨_, if_pos hrun, mark_spec hg he hf⟩, fun hbit => ?_, fun hbit hin => ?_, fun hbit hout hfull => ?_,
      fun hbit hout hplace htotal hdirty => ⟨_, if_pos hrun, claim_granted hg he hf hbit hout hplace htotal hdirty⟩,
      fun hin hwait => ⟨?_, fun hkeep m => ?_⟩⟩
    · have hspec := claim_refused (a := .clean) (w := []) hg he hf (by
        have hclear : ((looked (.claim g) s).lineOf (regionOf g)).testBit (bitOf g) = false := ((looked_spec (.claim g) s).2.1 g).trans hbit
        unfold claimIn
        rw [hclear, List.append_nil]
        rfl)
      obtain ⟨hanswer, hbits, hrest, hflight, -⟩ := hspec
      exact ⟨_, if_pos hrun, hanswer, (hbits g).trans hbit, fun x _ => hbits x, hrest, hflight⟩
    · have hspec := claim_refused (a := .busy) (w := []) hg he hf (by
        have hset : ((looked (.claim g) s).lineOf (regionOf g)).testBit (bitOf g) = true := ((looked_spec (.claim g) s).2.1 g).trans hbit
        have hthere : (looked (.claim g) s).map.inflight.contains g = true := by
          rw [(looked_spec (.claim g) s).1.2.2.2.1]
          exact hin
        unfold claimIn
        rw [hset, hthere, List.append_nil]
        rfl)
      obtain ⟨hanswer, hbits, hrest, hflight, -⟩ := hspec
      exact ⟨_, if_pos hrun, hanswer, (hbits g).trans hbit, fun x _ => hbits x, hrest, hflight⟩
    · have hspec := claim_refused (a := .waiting) (w := [g]) hg he hf (by
        have hset : ((looked (.claim g) s).lineOf (regionOf g)).testBit (bitOf g) = true := ((looked_spec (.claim g) s).2.1 g).trans hbit
        have hflight := (looked_spec (.claim g) s).1.2.2.2.1
        unfold claimIn
        rw [hset, hflight, hout, if_pos hfull]
        rfl)
      obtain ⟨hanswer, hbits, hrest, hflight, hwait⟩ := hspec
      exact ⟨_, if_pos hrun, hanswer, (hbits g).trans hbit, fun x _ => hbits x, hrest, hflight, hwait⟩
    · have hcond : (s.mapOn && s.map.inflight.contains g) = true := by
        rw [hon, hin]
        rfl
      exact ⟨_, if_pos hcond, abandon_spec hg he hf hwait⟩
    · have hcond : (s.mapOn && s.map.inflight.contains g && !s.abandoning g) = true := by
        rw [hon, hin, hkeep]
        rfl
      exact ⟨_, if_pos hcond, commit_spec m hwait⟩
  · intro u huon hug
    have hrun : (s.mapOn && decide (g < s.granules)) = true := by simp [hon, hg]
    have hurun : (u.mapOn && decide (g < u.granules)) = true := by simp [huon, hug]
    exact ⟨(if_pos hrun).trans (if_pos hurun).symm, (if_pos hrun).trans (if_pos hurun).symm⟩

end Sys2Proof.Machine
end

section
/-!
PROOFS. Epochs, audits, repairs and fills of the Salinity Map (R91 to R100).
-/
namespace Sys2Proof.Machine

/-! ### Epochs (R95, R96) -/

/-- A table mapped entry by entry, its default with it. -/
theorem tblGet_tblMap {α β : Type} [DecidableEq β] (d : α) (f : α → β) (t : Tbl α) (i : Nat) :
    tblGet (f d) (tblMap (f d) f t) i = f (tblGet d t i) := by
  induction t with
  | nil => rfl
  | cons e r ih =>
    obtain ⟨k, v⟩ := e
    have hcons : tblMap (f d) f ((k, v) :: r) = tblPut (f d) k (f v) (tblMap (f d) f r) := rfl
    rw [hcons, tblGet_put]
    by_cases hk : i = k
    · subst hk
      simp [tblGet]
    · rw [if_neg hk, ih]
      simp [tblGet, Ne.symm hk]

theorem ageOf_swept {cur epoch : Nat} (hcur : cur < 256) : ageOf cur (if 192 < ageOf cur epoch then (cur + 256 - 192) % 256 else epoch) ≤ 192 := by
  split <;> rename_i h
  · unfold ageOf
    omega
  · omega

/-- An entry after the sweep keeps its count, is no older than 192 epochs, and is hot by its age (R95, R96). -/
theorem sweepEntry_spec {s : State} (e : RstEntry) (hepoch : s.map.epoch < 256) :
    (sweepEntry s e).dirty = e.dirty ∧ ageOf s.map.epoch (sweepEntry s e).epoch ≤ 192 ∧
    (sweepEntry s e).hot = decide (ageOf s.map.epoch (sweepEntry s e).epoch < s.hotEpochs) := by
  have hage : (sweepEntry s e).epoch = if 192 < ageOf s.map.epoch e.epoch then (s.map.epoch + 256 - 192) % 256 else e.epoch := by
    unfold sweepEntry State.withHot
    dsimp only
    split <;> rfl
  have hhot : (sweepEntry s e).hot = decide (ageOf s.map.epoch (sweepEntry s e).epoch < s.hotEpochs) := rfl
  refine ⟨?_, ?_, hhot⟩
  · unfold sweepEntry State.withHot
    dsimp only
    split <;> rfl
  · rw [hage]
    exact ageOf_swept hepoch

/-- The epoch and the advance counter a step on. -/
def stepped (s : State) : State :=
  { s with map := { s.map with epoch := (s.map.epoch + 1) % 256, advances := (s.map.advances + 1) % 2 ^ 24 } }

/-- The Region Summary Table swept. -/
def swept (s : State) : State :=
  { s with map := { s.map with
    rst := tblMap (sweepEntry s s.map.rstBase) (sweepEntry s) s.map.rst, rstBase := sweepEntry s s.map.rstBase } }

theorem rstOf_swept {r : Nat} {s : State} (hr : r < s.regions) : (swept s).rstOf r = sweepEntry s (s.rstOf r) := by
  unfold State.rstOf
  rw [if_pos hr]
  exact (if_pos hr).trans (tblGet_tblMap s.map.rstBase (sweepEntry s) s.map.rst r)

theorem yields_epochAdvance {s : State} (hrun : s.running = true) : Yields .epochAdvance s fun t =>
      t.map.epoch = (s.map.epoch + 1) % 256 ∧ t.map.total = s.map.total ∧ t.map.cache = s.map.cache ∧ t.map.lines = s.map.lines ∧
      (∀ r, r < s.regions → (t.rstOf r).dirty = (s.rstOf r).dirty ∧ ageOf t.map.epoch (t.rstOf r).epoch ≤ 192 ∧
        (t.rstOf r).hot = decide (ageOf t.map.epoch (t.rstOf r).epoch < s.hotEpochs)) ∧
      (∀ r, t.lineOf r = s.lineOf r) ∧ t = { s with map := t.map } := by
  have hexec : exec .epochAdvance s = .next (swept (stepped s)) := if_pos hrun
  refine ⟨_, hexec, rfl, rfl, rfl, rfl, fun r hr => ?_, fun r => rfl, rfl⟩
  rw [rstOf_swept (s := stepped s) hr]
  exact sweepEntry_spec (s := stepped s) (s.rstOf r) (Nat.mod_lt _ (by decide))

/-! ### Repairs (R91, R100) -/

theorem lineCount_fullLine : lineCount fullLine = 512 := by
  have hbit : ∀ b ∈ List.range 512, fullLine.testBit b = true := fun b hb => by
    rw [fullLine, Nat.testBit_two_pow_sub_one]
    exact decide_eq_true (List.mem_range.mp hb)
  have hcount : ∀ (l : List Nat) (n : Nat), (∀ b ∈ l, fullLine.testBit b = true) →
      l.foldl (fun n b => if fullLine.testBit b then n + 1 else n) n = n + l.length := by
    intro l
    induction l with
    | nil => exact fun n _ => rfl
    | cons b r ih =>
      intro n hall
      rw [List.foldl_cons, if_pos (hall b List.mem_cons_self), ih _ fun c hc => hall c (List.mem_cons_of_mem _ hc), List.length_cons]
      omega
  refine (hcount _ 0 hbit).trans ?_
  rw [List.length_range]

/-- A line set to all ones with its count, the cap kept; a fill under way has yet to return. -/
def filledUp (r : Nat) (s : State) : State :=
  let u := rstUpd r (fun x => { x with dirty := 512 }) (setLine r fullLine s)
  capDirty { u with map := { u.map with total := u.map.total + (512 - (s.rstOf r).dirty) } }

theorem fullRegion_eq (r : Nat) (s : State) : fullRegion r s = fillDone r (filledUp r s) := rfl

/-- A write-back clears the dirty mark of an entry, and nothing that such a `π` sees. -/
theorem cached_writeBack_map (r r' : Nat) (s : State) (π : LcEntry → Bool × List MapOp)
    (hπ : ∀ e : LcEntry, π { e with dirty := false } = π e) :
    ((writeBack r s).cached r').map π = (s.cached r').map π := by
  unfold writeBack
  split
  · rfl
  · split
    · rfl
    · unfold State.cached
      dsimp only
      rw [cached_map _ (by intro e; split <;> rfl), Option.map_map]
      refine congrArg (fun f => Option.map f _) (funext fun e => ?_)
      dsimp only [Function.comp]
      split
      · exact hπ e
      · rfl

/-- Whether a line's fill is under way, and what waits for it. -/
def LcEntry.fill (e : LcEntry) : Bool × List MapOp := (e.filling, e.waiting)

theorem cached_setLine_fill (r l r' : Nat) (s : State) : ((setLine r l s).cached r').map LcEntry.fill = (s.cached r').map LcEntry.fill := by
  unfold setLine
  split
  · unfold State.cached
    dsimp only
    rw [cached_map _ (by intro e; split <;> rfl), Option.map_map]
    refine congrArg (fun f => Option.map f _) (funext fun e => ?_)
    dsimp only [Function.comp]
    split <;> rfl
  · rfl

theorem cached_capDirty_fill (r : Nat) (s : State) : ((capDirty s).cached r).map LcEntry.fill = (s.cached r).map LcEntry.fill := by
  unfold capDirty
  split
  · split
    · rfl
    · exact cached_writeBack_map _ _ _ _ fun e => rfl
  · rfl

theorem filledUp_spec {r : Nat} {s : State} (hr : r < s.regions) :
    (filledUp r s).lineOf r = fullLine ∧ ((filledUp r s).rstOf r).dirty = 512 ∧
    ((filledUp r s).cached r).map LcEntry.fill = (s.cached r).map LcEntry.fill ∧
    (filledUp r s).map.repairs = s.map.repairs ∧ (filledUp r s).map.stalled = s.map.stalled ∧
    (filledUp r s).map.claimWait = s.map.claimWait ∧ filledUp r s = { s with map := (filledUp r s).map } := by
  have hr' : r < (setLine r fullLine s).regions := by
    rw [regions_setLine]
    exact hr
  obtain ⟨-, hsrst, hsbase, -, -, -, hswait, -, hsstalled, hsrepairs⟩ := setLine_keeps r fullLine s
  have hsline : (setLine r fullLine s).lineOf r = fullLine := (lineOf_setLine ..).trans (if_pos rfl)
  have hsfill := cached_setLine_fill r fullLine r s
  have hsframe : setLine r fullLine s = { s with map := (setLine r fullLine s).map } :=
    setLine_only (fun u => { u with map := (setLine r fullLine s).map }) (fun _ _ => rfl) r fullLine s
  unfold filledUp
  generalize setLine r fullLine s = u at hr' hsrst hsbase hswait hsstalled hsrepairs hsline hsfill hsframe ⊢
  rw [rstUpd_eq _ hr']
  dsimp only
  generalize hv : ({ u with map := { u.map with rst := _, total := _ } } : State) = v
  have hvline : v.lineOf r = fullLine := by rw [← hv]; exact hsline
  have hvfill : (v.cached r).map LcEntry.fill = (s.cached r).map LcEntry.fill := by rw [← hv]; exact hsfill
  have hvrst : (v.rstOf r).dirty = 512 := by
    rw [← hv]
    have hentry := (tblGet_upd u.map.rstBase r (fun x => { x with dirty := 512 }) u.map.rst r).trans (if_pos rfl)
    exact congrArg RstEntry.dirty (Eq.trans (if_pos hr') hentry)
  obtain ⟨-, hcrst, hcbase, -, -, -, hcwait, -, hcstalled, hcrepairs⟩ := capDirty_keeps v
  have hcframe : capDirty v = { v with map := (capDirty v).map } :=
    capDirty_only (fun u => { u with map := (capDirty v).map }) (fun _ _ => rfl) v
  refine ⟨(lineOf_capDirty ..).trans hvline, ?_, (cached_capDirty_fill ..).trans hvfill, ?_, ?_, ?_, ?_⟩
  · unfold State.rstOf at hvrst ⊢
    rw [hcrst, hcbase, show (capDirty v).regions = v.regions by rw [hcframe]; rfl]
    exact hvrst
  · rw [hcrepairs, ← hv]
    exact hsrepairs
  · rw [hcstalled, ← hv]
    exact hsstalled
  · rw [hcwait, ← hv]
    exact hswait
  · rw [hcframe, ← hv, hsframe]

/-- A fill that returns with nothing waiting anywhere: its line is the DRAM ledger's. -/
theorem fillDone_quiet {r : Nat} {e : LcEntry} {s : State} (he : s.cached r = some e) (hfilling : e.filling = true) (hwaiting : e.waiting = [])
    (hstalled : s.map.stalled = []) (hwait : s.map.claimWait = []) :
    let t := fillDone r s
    t.lineOf r = s.lineOf r ∧ t.rstOf r = s.rstOf r ∧ t.map.repairs = s.map.repairs ∧ t = { s with map := t.map } := by
  intro t
  have ht : t = { s with map := { s.map with
      cache := s.map.cache.map fun x => if x.region = r then
        { x with line := tblGet 0 s.map.lines r, filling := false, waiting := [] } else x
      stalled := [], claimWait := [] } } := by
    simp only [t, fillDone, he, hfilling, hwaiting, hstalled, List.foldl_nil, if_true, retryClaims, hwait]
  rw [ht]
  refine ⟨?_, rfl, rfl, rfl⟩
  have hregion : (e.region == r) = true := by simpa using List.find?_some he
  rw [lineOf_read, lineOf_read]
  unfold lineRead
  dsimp only
  rw [cached_map _ (by intro e; split <;> rfl), show s.map.cache.find? (fun e => e.region == r) = some e from he]
  have hsame : e.region = r := by simpa using hregion
  dsimp only [Option.map_some]
  rw [if_pos hsame, if_pos hfilling]
  rfl

theorem fillDone_none {r : Nat} {s : State} (hno : (s.cached r).any (·.filling) = false) : fillDone r s = s := by
  unfold fillDone
  cases he : s.cached r with
  | none => rfl
  | some e =>
    rw [he] at hno
    exact if_neg (ne_true_of_eq_false hno)

/-- What a repair of a line leaves (R91, R100). -/
def Repaired (r c : Nat) (s t : State) : Prop :=
  t.lineOf r = fullLine ∧ (t.rstOf r).dirty = 512 ∧ t.map.repairs = satAdd 16 s.map.repairs 1 ∧ t.map.lastCause = c ∧
  t.map.repairRegion = r ∧ t.dev = s.dev ∧ t.jrn = s.jrn ∧ ∀ x, t.byteAt x = s.byteAt x

/-- A full line repaired and told, at level 2 or less. -/
theorem repairTell_repaired {r c : Nat} {s v : State} (hline : v.lineOf r = fullLine) (hdirty : (v.rstOf r).dirty = 512)
    (hrepairs : v.map.repairs = s.map.repairs) (hframe : v = { s with map := v.map }) (hsaving : s.saving = false)
    (hmild : s.mild 0x80 = true) : Repaired r c s (repairTell c r v) := by
  generalize hw : ({ v with map := { v.map with
    repairs := satAdd 16 v.map.repairs 1, lastCause := c, repairRegion := r } } : State) = w
  have htell : repairTell c r v = fltRaise 0x80 0 w := by rw [← hw]; rfl
  have hkeeps : ∀ {β : Type} (π : State → β), EventFree π → π (fltRaise 0x80 0 w) = π w := fun π hπ =>
    fltRaise_mild π hπ 0x80 0 (by rw [← hw, hframe]) (by rw [← hw, hframe]) (by rw [← hw, hframe]; exact hsaving) hmild
  have hmap : (fltRaise 0x80 0 w).map = w.map := hkeeps (fun u => u.map) fun _ _ _ _ _ _ => rfl
  rw [htell]
  refine ⟨?_, ?_, ?_, ?_, ?_, ?_, ?_, fun x => ?_⟩
  · rw [hkeeps (fun u => u.lineOf r) fun _ _ _ _ _ _ => rfl, ← hw]
    exact hline
  · rw [hkeeps (fun u => (u.rstOf r).dirty) fun _ _ _ _ _ _ => rfl, ← hw]
    exact hdirty
  · rw [hmap, ← hw, ← hrepairs]
  · rw [hmap, ← hw]
  · rw [hmap, ← hw]
  · rw [hkeeps (fun u => u.dev) fun _ _ _ _ _ _ => rfl, ← hw, hframe]
  · rw [hkeeps (fun u => u.jrn) fun _ _ _ _ _ _ => rfl, ← hw, hframe]
  · rw [hkeeps (fun u => u.byteAt x) fun _ _ _ _ _ _ => rfl, ← hw, hframe]
    rfl

/-- A repair while no fill of the region is under way (R100). -/
theorem repairLine_repaired {r c : Nat} {s : State} (hr : r < s.regions) (hno : (s.cached r).any (·.filling) = false)
    (hsaving : s.saving = false) (hmild : s.mild 0x80 = true) : Repaired r c s (repairLine c r s) := by
  obtain ⟨hline, hdirty, hfill, hrepairs, -, -, hframe⟩ := filledUp_spec hr
  have hstill : ((filledUp r s).cached r).any (·.filling) = false := by
    cases hc : (filledUp r s).cached r with
    | none => rfl
    | some e =>
      cases hs : s.cached r with
      | none => rw [hc, hs] at hfill; simp at hfill
      | some e' =>
        rw [hc, hs] at hfill
        rw [hs] at hno
        have hsame : e.filling = e'.filling := congrArg Prod.fst (Option.some.inj hfill)
        exact hsame.trans hno
  have hrepair : repairLine c r s = repairTell c r (filledUp r s) := by
    unfold repairLine
    rw [if_pos hr, fullRegion_eq, fillDone_none hstill]
  rw [hrepair]
  exact repairTell_repaired hline hdirty hrepairs hframe hsaving hmild

/-! ### Audits (R99) -/

theorem execAuditRegion_audits {s : State} {r : Nat} (d : MapDamage) (hrun : s.running = true) (hready : s.map.ready = true)
    (hr : r < s.regions) : exec (.auditRegion r d) s = .next (let u := mapRepair r d (auditStep r s)
      if lineCount (u.lineOf r) = (u.rstOf r).dirty then u else repairLine 1 r u) := by
  refine if_pos ?_
  simp [hrun, hready, hr]

theorem yields_auditRegion_agrees {s : State} {r : Nat} (hrun : s.running = true) (hready : s.map.ready = true) (hr : r < s.regions)
    (hagree : lineCount (s.lineOf r) = (s.rstOf r).dirty) : Yields (.auditRegion r .none) s fun t =>
        let a := s.map.audited ||| 2 ^ r
        (a ≠ 2 ^ s.regions - 1 → t.map.audited = a ∧ t.map.passes = s.map.passes) ∧
        (a = 2 ^ s.regions - 1 → t.map.audited = 0 ∧ t.map.passes = (s.map.passes + 1) % 2 ^ 24) ∧
        t = { s with map := { s.map with passes := t.map.passes, audited := t.map.audited } } := by
  have hexec := execAuditRegion_audits .none hrun hready hr
  dsimp only [mapRepair] at hexec
  have hsame : lineCount ((auditStep r s).lineOf r) = ((auditStep r s).rstOf r).dirty := hagree
  rw [if_pos hsame] at hexec
  exact ⟨_, hexec, fun hgoes => ⟨if_neg hgoes, if_neg hgoes⟩, fun hdone => ⟨if_pos hdone, if_pos hdone⟩, rfl⟩

theorem yields_auditRegion_repairs {s : State} {r c : Nat} {d : MapDamage} (hrun : s.running = true) (hready : s.map.ready = true)
    (hr : r < s.regions) (hwhy : d = .none ∧ lineCount (s.lineOf r) ≠ (s.rstOf r).dirty ∧ c = 1 ∨ d = .lineUncorrectable ∧ c = 2 ∨
      d = .cacheUncorrectable ∧ c = 3) (hno : (s.cached r).any (·.filling) = false) (hmild : s.mild 0x80 = true) :
    Yields (.auditRegion r d) s (Repaired r c s) := by
  have hexec := execAuditRegion_audits d hrun hready hr
  have hrepaired : Repaired r c s (repairLine c r (auditStep r s)) :=
    repairLine_repaired (s := auditStep r s) hr hno (running_spec hrun).2 hmild
  have hfull : lineCount ((repairLine c r (auditStep r s)).lineOf r) = ((repairLine c r (auditStep r s)).rstOf r).dirty := by
    rw [hrepaired.1, hrepaired.2.1, lineCount_fullLine]
  rcases hwhy with ⟨rfl, hdiffer, rfl⟩ | ⟨rfl, rfl⟩ | ⟨rfl, rfl⟩
  · have hstill : ¬ lineCount ((auditStep r s).lineOf r) = ((auditStep r s).rstOf r).dirty := hdiffer
    dsimp only [mapRepair] at hexec
    rw [if_neg hstill] at hexec
    exact ⟨_, hexec, hrepaired⟩
  · dsimp only [mapRepair] at hexec
    rw [if_pos hfull] at hexec
    exact ⟨_, hexec, hrepaired⟩
  · dsimp only [mapRepair] at hexec
    rw [if_pos hfull] at hexec
    exact ⟨_, hexec, hrepaired⟩

/-! ### Fills (R91) -/

theorem execCacheFillComplete_filling {s : State} {r : Nat} {e : LcEntry} (bad : Bool) (he : s.cached r = some e)
    (hfilling : e.filling = true) : exec (.cacheFillComplete r bad) s = .next (if bad then repairLine 2 r s else fillDone r s) := by
  show execCacheFillComplete r bad s = _
  unfold execCacheFillComplete
  rw [he]
  dsimp only
  rw [if_pos hfilling]
  cases bad <;> rfl

theorem yields_fill_bad {s : State} {r : Nat} {e : LcEntry} (hr : r < s.regions) (hsaving : s.saving = false) (he : s.cached r = some e)
    (hfilling : e.filling = true) (hwaiting : e.waiting = []) (hstalled : s.map.stalled = []) (hwait : s.map.claimWait = [])
    (hmild : s.mild 0x80 = true) : Yields (.cacheFillComplete r true) s (Repaired r 2 s) := by
  refine ⟨_, execCacheFillComplete_filling true he hfilling, ?_⟩
  obtain ⟨hline, hdirty, hfill, hrepairs, hstalled', hwait', hframe⟩ := filledUp_spec hr
  have hrepair : repairLine 2 r s = repairTell 2 r (fillDone r (filledUp r s)) := if_pos hr
  rw [if_pos rfl, hrepair]
  generalize filledUp r s = u at hline hdirty hfill hrepairs hstalled' hwait' hframe
  rw [he] at hfill
  obtain ⟨e', he', hsame⟩ := Option.map_eq_some_iff.mp hfill
  have hdone := fillDone_quiet he' ((congrArg Prod.fst hsame).trans hfilling) ((congrArg Prod.snd hsame).trans hwaiting)
    (hstalled'.trans hstalled) (hwait'.trans hwait)
  dsimp only at hdone
  generalize fillDone r u = v at hdone
  obtain ⟨hvline, hvrst, hvrepairs, hvframe⟩ := hdone
  refine repairTell_repaired (hvline.trans hline) ?_ (hvrepairs.trans hrepairs) ?_ hsaving hmild
  · rw [hvrst]
    exact hdirty
  · rw [hvframe, hframe]

theorem yields_fill_mark {s : State} {r g : Nat} {e : LcEntry} (hr : r < s.regions) (hg : regionOf g = r) (he : s.cached r = some e)
    (hfilling : e.filling = true) (hwaiting : e.waiting = [.mark g]) (hstalled : s.map.stalled = []) (hwait : s.map.claimWait = []) :
    Yields (.cacheFillComplete r false) s fun t =>
        t.dirtyBit g = true ∧ (∀ x, regionOf x = r → x ≠ g → t.dirtyBit x = (tblGet 0 s.map.lines r).testBit (bitOf x)) ∧
        (t.cached r).any (fun c => !c.filling) = true ∧ t.dev = s.dev ∧ t.jrn = s.jrn ∧ ∀ x, t.byteAt x = s.byteAt x := by
  refine ⟨_, execCacheFillComplete_filling false he hfilling, ?_⟩
  have hfilled : fillDone r s = (let u := { s with map := { s.map with cache := s.map.cache.map fun x => if x.region = r then
        { x with line := tblGet 0 s.map.lines r, filling := false, waiting := [] } else x } }
      let v := admitOp (.mark g) u
      retryClaims (v.map.stalled.foldl (fun s op => admitOp op s) { v with map := { v.map with stalled := [] } })) := by
    simp only [fillDone, he, hfilling, hwaiting, List.foldl_cons, List.foldl_nil, if_true]
  have hframe : fillDone r s = { s with map := (fillDone r s).map, drn := (fillDone r s).drn } :=
    fillDone_only (fun u => { u with map := (fillDone r s).map, drn := (fillDone r s).drn }) (fun _ _ _ => rfl) r s
  generalize hu : ({ s with map := { s.map with cache := _ } } : State) = u at hfilled
  have hregion : e.region = r := by simpa using List.find?_some he
  have hucached : u.cached r = some { e with line := tblGet 0 s.map.lines r, filling := false, waiting := [] } := by
    rw [← hu]
    unfold State.cached
    dsimp only
    rw [cached_map _ (by intro e; split <;> rfl), show s.map.cache.find? (fun e => e.region == r) = some e from he]
    exact congrArg some (if_pos hregion)
  have hustalled : u.map.stalled = [] ∧ u.map.claimWait = [] ∧ u.regions = s.regions := by
    rw [← hu]
    exact ⟨hstalled, hwait, rfl⟩
  obtain ⟨hust, huwait, hureg⟩ := hustalled
  clear hu
  subst hg
  have hadmit : admitOp (.mark g) u = markEntry (regionOf g) (setBit g (useLine (regionOf g) u)) := admit_resident hucached rfl
  have hkeeps := useLine_keeps (regionOf g) u
  have hline : (useLine (regionOf g) u).lineOf (regionOf g) = tblGet 0 s.map.lines (regionOf g) := by
    rw [lineOf_use, ← line_of_cached hucached rfl]
  have hready : ((useLine (regionOf g) u).cached (regionOf g)).any (fun c => !c.filling) = true := by
    rw [cached_use, hucached]
    rfl
  have hwreg : regionOf g < (useLine (regionOf g) u).regions := by
    have hsame : (useLine (regionOf g) u).regions = u.regions := rfl
    rw [hsame, hureg]
    exact hr
  generalize useLine (regionOf g) u = w at hadmit hkeeps hline hready hwreg
  obtain ⟨-, -, -, -, -, -, hwwait, -, hwstalled, -⟩ := hkeeps
  obtain ⟨-, -, -, -, -, hswait, hsstalled, -⟩ := setBit_keeps g w hwreg
  have hsbits := fun x => setBit_bit g x w
  have hsready := setBit_ready g (regionOf g) w hready
  have hsframe := setBit_map g w
  generalize setBit g w = v at hadmit hswait hsstalled hsbits hsready hsframe
  have hvreg : regionOf g < v.regions := by
    rw [hsframe]
    exact hwreg
  obtain ⟨-, -, -, -, -, hmbits, hmcached⟩ := markEntry_spec hvreg
  have hmrest : (markEntry (regionOf g) v).map.stalled = [] ∧ (markEntry (regionOf g) v).map.claimWait = [] := by
    unfold markEntry
    rw [rstUpd_eq _ hvreg]
    exact ⟨hsstalled.trans (hwstalled.trans hust), hswait.trans (hwwait.trans huwait)⟩
  dsimp only at hfilled
  rw [hadmit] at hfilled
  generalize markEntry (regionOf g) v = m at hfilled hmbits hmcached hmrest
  have hend : fillDone (regionOf g) s = { m with map := { m.map with stalled := [], claimWait := [] } } := by
    rw [hfilled, hmrest.1, List.foldl_nil]
    unfold retryClaims
    dsimp only
    rw [hmrest.2]
    rfl
  rw [if_neg Bool.false_ne_true]
  generalize fillDone (regionOf g) s = t at hend hframe
  have htbits : ∀ x, t.dirtyBit x = (decide (x = g) || w.dirtyBit x) := fun x => by
    rw [← hsbits, ← hmbits, hend]
    rfl
  have htcached : t.cached (regionOf g) = v.cached (regionOf g) := by
    rw [← hmcached, hend]
    rfl
  obtain ⟨hdev, hjrn, hbytes⟩ := besideMap_of_frame (s := s) (t := t) (by rw [hframe])
  refine ⟨?_, fun x hx hne => ?_, ?_, hdev, hjrn, hbytes⟩
  · rw [htbits]
    simp
  · rw [htbits, decide_eq_false hne, Bool.false_or]
    unfold State.dirtyBit
    rw [hx, hline]
  · rw [htcached]
    exact hsready

/-- Settles O18: the sweep entry by entry, an audit by its comparison, repairs and fills by the line they leave. -/
theorem epochAuditFill : Obligations.EpochAuditFill := by
  unfold Obligations.EpochAuditFill
  exact ⟨fun s hrun => yields_epochAdvance hrun, fun s r hrun hready hr hagree => yields_auditRegion_agrees hrun hready hr hagree,
    fun s r d c hrun hready hr hwhy hno hmild => yields_auditRegion_repairs hrun hready hr hwhy hno hmild,
    fun s r e hr hsaving he hfilling hwaiting hstalled hwait hmild => yields_fill_bad hr hsaving he hfilling hwaiting hstalled hwait hmild,
    fun s r g e hr hg he hfilling hwaiting hstalled hwait => yields_fill_mark hr hg he hfilling hwaiting hstalled hwait⟩

end Sys2Proof.Machine
end

section
/-!
PROOFS. The governor's tick (R22 to R30, R44, R115 to R121).
-/
namespace Sys2Proof.Machine

/-! ### The conditions (R22, R23) -/

/-- No cause to disarm is every condition met (R22, R44). -/
theorem all_of_disarmCause {s : State} {e : Nat} (h : s.disarmCause (s.conditions e) ≠ 0) : (s.conditions e).all = false := by
  refine Bool.eq_false_iff.mpr fun hall => ?_
  simp only [ArmCond.all, Bool.and_eq_true] at hall
  obtain ⟨⟨⟨⟨⟨hlayout, hstore⟩, hfree⟩, henergy⟩, hceil⟩, hgroup⟩ := hall
  have hrefuse : s.upd.refuseArm = false := by
    have hok : s.storeOk = true := hstore
    simp only [State.storeOk, Bool.and_eq_true, Bool.not_eq_true'] at hok
    exact hok.2
  exact h (by simp [State.disarmCause, hlayout, hstore, hfree, henergy, hceil, hgroup, hrefuse])

/-! ### The steps of a tick -/

/-- The store's health and room, where its sources stand as they stood (R123, R214). -/
theorem storeTick_calm {s : State} (h54 : s.settled 0x54 (s.layoutOk && s.health.1 = 1) = true)
    (h55 : s.settled 0x55 (s.layoutOk && s.health.1 = 2) = true) (hF2 : s.settled 0xF2 (s.layoutOk && s.spareShort) = true) :
    storeTick s = { s with bed := (storeTick s).bed, flt := (storeTick s).flt } ∧
    (s.flt.live.contains 0xF3 = true → (storeTick s).flt.live.contains 0xF3 = true) := by
  unfold storeTick
  cases hl : s.layoutOk with
  | false => exact ⟨rfl, id⟩
  | true =>
    dsimp only
    rw [if_neg (show ¬ (!true) = true by decide)]
    have hlive : ∀ {n : Nat} {b : Bool}, s.settled n (s.layoutOk && b) = true → b = true → s.flt.live.contains n = true :=
      fun hset hb => by simpa [State.settled, hl, hb] using hset
    generalize hu : ({ s with bed := _ } : State) = u
    have huflt : u.flt = s.flt := by rw [← hu]
    have h1 : decide (s.health.1 = 1) = true → u.flt.live.contains 0x54 = true := fun hb => by rw [huflt]; exact hlive h54 hb
    have he1 := fltCond_eq 0x54 (decide (s.health.1 = 1)) u h1
    have hk1 := fun n hn => fltCond_live 0x54 n (decide (s.health.1 = 1)) u hn h1
    generalize fltCond 0x54 (decide (s.health.1 = 1)) u = v at he1 hk1 ⊢
    have h2 : decide (s.health.1 = 2) = true → v.flt.live.contains 0x55 = true := fun hb =>
      hk1 0x55 (by decide) (by rw [huflt]; exact hlive h55 hb)
    have he2 := fltCond_eq 0x55 (decide (s.health.1 = 2)) v h2
    have hk2 := fun n hn => fltCond_live 0x55 n (decide (s.health.1 = 2)) v hn h2
    generalize fltCond 0x55 (decide (s.health.1 = 2)) v = w at he2 hk2 ⊢
    have h3 : s.spareShort = true → w.flt.live.contains 0xF2 = true := fun hb =>
      hk2 0xF2 (by decide) (hk1 0xF2 (by decide) (by rw [huflt]; exact hlive hF2 hb))
    have he3 := fltCond_eq 0xF2 s.spareShort w h3
    have hk3 := fltCond_live 0xF2 0xF3 s.spareShort w (by decide) h3
    generalize fltCond 0xF2 s.spareShort w = x at he3 hk3 ⊢
    refine ⟨?_, fun hs => hk3 (hk2 0xF3 (by decide) (hk1 0xF3 (by decide) (by rw [huflt]; exact hs)))⟩
    rw [he3, he2, he1, ← hu]

/-- ARMED is left at a tick with a cause (R22). -/
def disarmIf (c : Nat) (s : State) : State := if c ≠ 0 then disarm c s else s

theorem disarmIf_stays {c : Nat} {s : State} (h : s.dev.st ≠ .armed ∨ c = 0) : disarmIf c s = s := by
  unfold disarmIf
  rcases h with hst | hc
  · split
    · exact if_neg hst
    · rfl
  · exact if_neg fun hne => hne hc

theorem disarmIf_leaves {c : Nat} {s : State} (hst : s.dev.st = .armed) (hc : c ≠ 0) :
    (disarmIf c s).dev = { s.dev with st := .unarmed } ∧
    (disarmIf c s).gov = { s.gov with
      lastDisarm := c, holdoffDone := false, heldTicks := 0, pdom := false, backpressure := false } := by
  have hleft : disarmIf c s = disarm c s := if_pos hc
  rw [hleft]
  unfold disarm
  rw [if_pos hst]
  have hdev : (endPause 5 (tlyTell 0x103 0 s)).dev = s.dev := by simp
  have hgov : (endPause 5 (tlyTell 0x103 0 s)).gov = s.gov := by simp
  generalize endPause 5 (tlyTell 0x103 0 s) = u at hdev hgov ⊢
  dsimp only
  refine ⟨?_, ?_⟩
  · refine (chapenEvent_only State.dev (fun _ _ => rfl) ..).trans ?_
    rw [← hdev]
  · refine (chapenEvent_only State.gov (fun _ _ => rfl) ..).trans ?_
    rw [← hgov]

theorem disarmIf_only {β : Type} (π : State → β) (hπ : ∀ s xdev xgov xflt xtly xdrn xheads xsvc, π { s with
    dev := xdev, gov := xgov, flt := xflt, tly := xtly, drn := xdrn, heads := xheads, svc := xsvc } = π s) (c : Nat) (s : State) :
    π (disarmIf c s) = π s := by
  unfold disarmIf
  split
  · exact disarm_only π hπ c s
  · rfl

theorem endPause_wear (c : Nat) (s : State) : (endPause c s).flt.live = s.flt.live ∧ (endPause c s).drn.wUsed = s.drn.wUsed := by
  unfold endPause
  split
  · exact ⟨tlyTell_live .., (congrArg Drn.wUsed (tlyTell_only State.drn (fun _ _ _ _ => rfl) ..)).trans rfl⟩
  · exact ⟨rfl, rfl⟩

/-- A disarm neither ends nor begins a standing condition, and counts no wear. -/
theorem disarmIf_wear (c : Nat) (s : State) : (disarmIf c s).flt.live = s.flt.live ∧ (disarmIf c s).drn.wUsed = s.drn.wUsed := by
  unfold disarmIf
  split
  · unfold disarm
    split
    · obtain ⟨hlive, hwear⟩ := endPause_wear 5 (tlyTell 0x103 0 s)
      have hdrn : (tlyTell 0x103 0 s).drn = s.drn := by simp
      refine ⟨?_, ?_⟩
      · exact (congrArg Flt.live (chapenEvent_only State.flt (fun _ _ => rfl) ..)).trans (hlive.trans (tlyTell_live ..))
      · refine (congrArg Drn.wUsed (chapenEvent_only State.drn (fun _ _ => rfl) ..)).trans (hwear.trans ?_)
        rw [hdrn]
    · exact ⟨rfl, rfl⟩
  · exact ⟨rfl, rfl⟩

theorem bandTick_spec (s : State) : ∃ bp : Bool, (bandTick s).gov = { s.gov with backpressure := bp } ∧
    (s.dev.st ≠ .armed → bp = false) ∧ (bandTick s).drn.wUsed = s.drn.wUsed := by
  refine ⟨_, rfl, fun hst => ?_, rfl⟩
  show backpressureNext (decide (s.dev.st = .armed)) _ _ _ = false
  rw [decide_eq_false hst]
  rfl

/-- The wear account of a tick, where its source stands as it stood (R118 to R121). -/
theorem wearTick_calm {s : State} (hF3 : s.wearOut = true → s.flt.live.contains 0xF3 = true) :
    wearTick s = { s with
      drn := (wearTick s).drn, bed := (wearTick s).bed, pip := (wearTick s).pip, fld := (wearTick s).fld, flt := (wearTick s).flt
      gov := { s.gov with wearOver := (wearTick s).gov.wearOver } } := by
  unfold wearTick
  dsimp only
  generalize hu : ({ s with drn := _, bed := _, pip := _, fld := _, gov := _ } : State) = u
  have hwear : u.wearOut = s.wearOut := by rw [← hu]; rfl
  have hflt : u.flt = s.flt := by rw [← hu]
  have hcond := fltCond_eq 0xF3 u.wearOut u (by rw [hwear, hflt]; exact hF3)
  generalize fltCond 0xF3 u.wearOut u = v at hcond ⊢
  rw [hcond, ← hu]

/-! ### The tick -/

/-- The conditions of a tick. -/
def judged (s : State) : State :=
  let u := storeTick (budgetTick s)
  { u with gov := { u.gov with cond := u.conditions u.gov.euse } }

/-- What follows the conditions and the disarm. -/
def settledTick (s : State) : State :=
  let v := dmcTick (wearTick (bandTick (holdoffTick s)))
  let w := if v.drn.paused && v.drn.bwh ≤ v.map.total then endPause 2 v else v
  cascadeTick (pdomSync (holdArmSync w))

theorem execGovernorTick_ticks {s : State} (h : s.ticks = true) : exec .governorTick s =
    .next (settledTick (disarmIf ((judged s).disarmCause (judged s).gov.cond) (judged s))) := if_pos h

/-- What the governor's tick cannot reach (R22 to R30, R115 to R123). -/
def TickFree {β : Type} (π : State → β) : Prop :=
  ∀ (s : State) a b c d e f g h i j k l m n, π { s with
    dev := a, gov := b, flt := c, tly := d, drn := e, heads := f, svc := g, bed := h, pip := i, fld := j, dmc := k, sal := l, brl := m
    pins := n } = π s

theorem judged_calm {s : State} (hcalm : s.calmTick = true) :
    judged s = { s with bed := (judged s).bed, flt := (judged s).flt, gov := (judged s).gov } ∧
    (judged s).gov = { s.gov with
      euse := s.euseNow, eneed := s.eneedOf s.map.total, bsup := min 0x10000000 (s.bsupOf s.euseNow), bceil := s.bceilOf s.euseNow
      backlog := s.map.total, cond := (storeTick (budgetTick s)).conditions s.euseNow } ∧
    (s.flt.live.contains 0xF3 = true → (judged s).flt.live.contains 0xF3 = true) ∧
    (judged s).conditions s.euseNow = (storeTick (budgetTick s)).conditions s.euseNow := by
  simp only [State.calmTick, Bool.and_eq_true] at hcalm
  obtain ⟨⟨⟨h54, h55⟩, hF2⟩, -⟩ := hcalm
  obtain ⟨hstore, hlive⟩ := storeTick_calm (s := budgetTick s) h54 h55 hF2
  have hgov : (storeTick (budgetTick s)).gov = (budgetTick s).gov := by rw [hstore]
  have hcond : (storeTick (budgetTick s)).conditions (storeTick (budgetTick s)).gov.euse =
      (storeTick (budgetTick s)).conditions s.euseNow := by rw [hgov]; rfl
  unfold judged
  dsimp only
  rw [hcond]
  refine ⟨?_, ?_, hlive, rfl⟩
  · generalize (storeTick (budgetTick s)).conditions s.euseNow = c
    generalize storeTick (budgetTick s) = u at hstore ⊢
    rw [hstore]
    rfl
  · rw [hgov]
    rfl

theorem settledTick_spec {s : State} (hF3 : s.wearOut = true → s.flt.live.contains 0xF3 = true) :
    (settledTick s).dev = s.dev ∧
    (∃ bp worn pdom : Bool, (settledTick s).gov = { s.gov with
      heldTicks := if s.gov.cond.all then s.gov.heldTicks + 1 else 0
      holdoffDone := s.gov.cond.all && decide (s.govParams.holdoffMs * 4 ≤ if s.gov.cond.all then s.gov.heldTicks + 1 else 0)
      backpressure := bp, wearOver := worn, pdom := pdom } ∧ (s.dev.st ≠ .armed → bp = false ∧ pdom = false)) ∧
    ∀ {β : Type} (π : State → β), TickFree π → π (settledTick s) = π s := by
  obtain ⟨bp, hbgov, hbp, hbwear⟩ := bandTick_spec (holdoffTick s)
  have hbdev : (bandTick (holdoffTick s)).dev = s.dev := rfl
  have hblay : (bandTick (holdoffTick s)).lay = s.lay := rfl
  have hbflt : (bandTick (holdoffTick s)).flt = s.flt := rfl
  have hbframe : ∀ {β : Type} (π : State → β), TickFree π → π (bandTick (holdoffTick s)) = π s := fun π hπ =>
    (bandTick_only π (fun u _ _ _ => hπ u u.dev _ u.flt u.tly _ _ u.svc u.bed u.pip u.fld u.dmc u.sal u.brl u.pins) _).trans
      (holdoffTick_only π (fun u _ => hπ u u.dev _ u.flt u.tly u.drn u.heads u.svc u.bed u.pip u.fld u.dmc u.sal u.brl u.pins) s)
  unfold settledTick
  generalize bandTick (holdoffTick s) = b at hbgov hbwear hbdev hblay hbflt hbframe ⊢
  have hwearOut : b.wearOut = s.wearOut := by
    have hsame : ∀ u : State, u.wearOut = (u.lay.inForce.isSome && decide (u.govParams.wLife ≤ u.drn.wUsed / 2 ^ 30)) := fun _ => rfl
    have hpar : b.govParams = s.govParams := by unfold State.govParams; rw [hblay]
    rw [hsame, hsame, hblay, hpar, hbwear]
    rfl
  have hwear := wearTick_calm (s := b) (by rw [hwearOut, hbflt]; exact hF3)
  generalize wearTick b = w at hwear ⊢
  dsimp only
  have hend : ∀ v : State, (let x := if v.drn.paused && v.drn.bwh ≤ v.map.total then endPause 2 v else v
      x.dev = v.dev ∧ x.gov = v.gov ∧ ∀ {β : Type} (π : State → β), TickFree π → π x = π v) := by
    intro v
    dsimp only
    split
    · refine ⟨by simp, by simp, fun π hπ => ?_⟩
      exact endPause_only π (fun u _ _ _ _ => hπ u u.dev u.gov _ _ _ _ u.svc u.bed u.pip u.fld u.dmc u.sal u.brl u.pins) 2 v
    · exact ⟨rfl, rfl, fun _ _ => rfl⟩
  obtain ⟨hxdev, hxgov, hxframe⟩ := hend (dmcTick w)
  generalize (if (dmcTick w).drn.paused && (dmcTick w).drn.bwh ≤ (dmcTick w).map.total then endPause 2 (dmcTick w) else dmcTick w) = x
    at hxdev hxgov hxframe ⊢
  have hdmc : (dmcTick w).dev = w.dev ∧ (dmcTick w).gov = w.gov := ⟨rfl, rfl⟩
  have hdev : x.dev = s.dev := by rw [hxdev, hdmc.1, hwear, hbdev]
  have hgov : x.gov = { b.gov with wearOver := w.gov.wearOver } := by rw [hxgov, hdmc.2, hwear]
  have hcdev : (cascadeTick (pdomSync (holdArmSync x))).dev = (pdomSync (holdArmSync x)).dev := cascadeTick_only State.dev (fun _ _ => rfl) _
  have hcgov : (cascadeTick (pdomSync (holdArmSync x))).gov = (pdomSync (holdArmSync x)).gov := cascadeTick_only State.gov (fun _ _ => rfl) _
  refine ⟨hcdev.trans hdev, ⟨bp, w.gov.wearOver, decide (x.dev.st = .armed) && !x.gov.accessHeld, ?_, fun hst => ⟨hbp hst, ?_⟩⟩,
    fun π hπ => ?_⟩
  · rw [hcgov]
    show ({ x.gov with pdom := decide (x.dev.st = .armed) && !x.gov.accessHeld } : Gov) = _
    generalize (decide (x.dev.st = .armed) && !x.gov.accessHeld) = p
    rw [hgov, hbgov]
    rfl
  · rw [hdev, decide_eq_false hst]
    rfl
  · calc π (cascadeTick (pdomSync (holdArmSync x)))
        = π (pdomSync (holdArmSync x)) := cascadeTick_only π
          (fun u _ => hπ u u.dev u.gov u.flt u.tly u.drn u.heads u.svc u.bed u.pip u.fld u.dmc u.sal _ u.pins) _
      _ = π (holdArmSync x) := pdomSync_only π
          (fun u _ => hπ u u.dev _ u.flt u.tly u.drn u.heads u.svc u.bed u.pip u.fld u.dmc u.sal u.brl u.pins) _
      _ = π x := holdArmSync_only π
          (fun u _ => hπ u u.dev u.gov u.flt u.tly u.drn u.heads u.svc u.bed u.pip u.fld u.dmc _ u.brl u.pins) _
      _ = π (dmcTick w) := hxframe π hπ
      _ = π w := dmcTick_only π
          (fun u _ => hπ u u.dev u.gov u.flt u.tly u.drn u.heads u.svc u.bed u.pip u.fld _ u.sal u.brl u.pins) _
      _ = π b := by
          rw [hwear]
          exact hπ b b.dev _ _ b.tly _ b.heads b.svc _ _ _ b.dmc b.sal b.brl b.pins
      _ = π s := hbframe π hπ

/-- Settles O8: the tick step by step, none of whose sources begins. -/
theorem governorTick : Obligations.GovernorTick := by
  unfold Obligations.GovernorTick
  intro s hticks hcalm
  refine ⟨_, execGovernorTick_ticks hticks, ?_⟩
  obtain ⟨hframe, hgov, hlive, hcond⟩ := judged_calm hcalm
  have hsettled : s.settled 0xF3 s.wearOut = true := by
    simp only [State.calmTick, Bool.and_eq_true] at hcalm
    exact hcalm.2
  have hcause : (judged s).disarmCause (judged s).gov.cond = s.disarmCause ((storeTick (budgetTick s)).conditions s.euseNow) := by
    rw [hgov]
    unfold State.disarmCause
    rw [show (judged s).upd = s.upd by rw [hframe], show (judged s).sal = s.sal by rw [hframe]]
  have hall : s.disarmCause ((storeTick (budgetTick s)).conditions s.euseNow) ≠ 0 →
      ((storeTick (budgetTick s)).conditions s.euseNow).all = false := fun hne => by
    rw [← hcond]
    refine all_of_disarmCause ?_
    rw [← hcause, hgov] at hne
    rw [hcond]
    exact hne
  rw [hcause]
  dsimp only
  generalize (storeTick (budgetTick s)).conditions s.euseNow = c at hgov hall ⊢
  generalize hu : judged s = u at hframe hgov hlive ⊢
  have hust : u.dev.st = s.dev.st := by rw [hframe]
  have hparams : u.govParams = s.govParams := by rw [hframe]; rfl
  obtain ⟨hdlive, hdwear⟩ := disarmIf_wear (s.disarmCause c) u
  have hdlay : (disarmIf (s.disarmCause c) u).lay = u.lay := disarmIf_only State.lay (fun _ _ _ _ _ _ _ _ => rfl) _ _
  have hwearOut : (disarmIf (s.disarmCause c) u).wearOut = s.wearOut := by
    have hsame : ∀ u : State, u.wearOut = (u.lay.inForce.isSome && decide (u.govParams.wLife ≤ u.drn.wUsed / 2 ^ 30)) := fun _ => rfl
    have hpar : (disarmIf (s.disarmCause c) u).govParams = u.govParams := by unfold State.govParams; rw [hdlay]
    rw [hsame, hdlay, hpar, hdwear, hframe]
    rfl
  obtain ⟨htdev, ⟨bp, worn, pdom, htgov, hoff⟩, htfree⟩ := settledTick_spec (s := disarmIf (s.disarmCause c) u) (fun hout => by
    rw [hdlive]
    refine hlive ?_
    rw [hwearOut] at hout
    simpa [State.settled, hout] using hsettled)
  have hfree : ∀ {β : Type} (π : State → β), TickFree π → π (settledTick (disarmIf (s.disarmCause c) u)) = π s := fun π hπ =>
    (htfree π hπ).trans ((disarmIf_only π (fun u a b c d e f g =>
      hπ u a b c d e f g u.bed u.pip u.fld u.dmc u.sal u.brl u.pins) _ u).trans (by
        rw [hframe]
        exact hπ s s.dev _ _ s.tly s.drn s.heads s.svc _ s.pip s.fld s.dmc s.sal s.brl s.pins))
  have hkept := And.intro (hfree State.jrn fun _ _ _ _ _ _ _ _ _ _ _ _ _ _ _ => rfl)
    (And.intro (hfree State.map fun _ _ _ _ _ _ _ _ _ _ _ _ _ _ _ => rfl) (And.intro (hfree State.key fun _ _ _ _ _ _ _ _ _ _ _ _ _ _ _ => rfl)
    (And.intro (hfree State.pans fun _ _ _ _ _ _ _ _ _ _ _ _ _ _ _ => rfl) (And.intro (hfree State.sem fun _ _ _ _ _ _ _ _ _ _ _ _ _ _ _ => rfl)
    (fun a => hfree (fun v => v.byteAt a) fun _ _ _ _ _ _ _ _ _ _ _ _ _ _ _ => rfl)))))
  generalize settledTick (disarmIf (s.disarmCause c) u) = t at htdev htgov hkept ⊢
  have hdparams : (disarmIf (s.disarmCause c) u).govParams = s.govParams := by
    unfold State.govParams at hparams ⊢
    rw [hdlay]
    exact hparams
  rw [hdparams] at htgov
  clear hfree htfree hwearOut hdlive hdwear hdlay hdparams
  by_cases hleft : s.dev.st = .armed ∧ s.disarmCause c ≠ 0
  · obtain ⟨hst, hc⟩ := hleft
    obtain ⟨hddev, hdgov⟩ := disarmIf_leaves (c := s.disarmCause c) (s := u) (hust.trans hst) hc
    rw [hdgov, hgov] at htgov
    rw [hddev] at htdev
    obtain ⟨rfl, rfl⟩ := hoff (by rw [hddev]; exact nofun)
    have hnot := hall hc
    dsimp only at htgov
    rw [hnot] at htgov
    rw [htgov, hnot]
    refine ⟨rfl, rfl, rfl, rfl, rfl, rfl, fun _ _ => ⟨?_, rfl, rfl, rfl⟩, fun hno => ?_, rfl, rfl, hkept⟩
    · rw [htdev]
    · rcases hno with hno | hno
      · exact absurd hst hno
      · exact absurd hno hc
  · have hstay : s.dev.st ≠ .armed ∨ s.disarmCause c = 0 := by
      by_cases hst : s.dev.st = .armed
      · exact Or.inr (Decidable.byContradiction fun hc => hleft ⟨hst, hc⟩)
      · exact Or.inl hst
    rw [disarmIf_stays (by rw [hust]; exact hstay), hgov] at htgov
    rw [disarmIf_stays (by rw [hust]; exact hstay)] at htdev
    dsimp only at htgov
    rw [htgov]
    refine ⟨rfl, rfl, rfl, rfl, rfl, rfl, fun hst hc => absurd ⟨hst, hc⟩ hleft, fun _ => ?_, rfl, rfl, hkept⟩
    rw [htdev]
    exact hust

end Sys2Proof.Machine
end

section
/-!
PROOFS. Entry into ARMED, days and hours of the wear account (R22, R34 to R37, R119, R436).
-/
namespace Sys2Proof.Machine

/-! ### Entry into ARMED (R22) -/

/-- Access as entry into ARMED leaves it, outside a sanitize. -/
theorem releaseAccess_spec (s : State) : (releaseAccess s).gov = { s.gov with accessHeld := false } ∧
    (s.gov.accessHeld = true → (releaseAccess s).imageOpen = true) := by
  cases hheld : s.gov.accessHeld with
  | true =>
    obtain ⟨hgov, hopen, -⟩ := releaseAccess_held hheld
    exact ⟨hgov, fun _ => hopen⟩
  | false =>
    have hsame : releaseAccess s = s := if_neg (ne_true_of_eq_false hheld)
    rw [hsame, ← hheld]
    exact ⟨rfl, fun h => absurd (hheld.symm.trans h) (by decide)⟩

theorem tlyTell_fifo (code arg : Nat) {s : State} (hroom : s.tly.fifo.length < 32) :
    (tlyTell code arg s).tly.fifo = s.tly.fifo ++ [⟨code, 7, s.dev.st.code, arg⟩] := by
  unfold tlyTell
  rw [tlyPut_room _ _ _ _ hroom]

theorem endPause_room {c : Nat} {s : State} (hroom : s.tly.fifo.length < 31) : (endPause c s).tly.fifo.length < 32 := by
  unfold endPause
  split
  · have htell := tlyTell_fifo 0x10A 0 (s := { s with drn := { s.drn with paused := false, lastPauseEnd := c } })
      (show s.tly.fifo.length < 32 by omega)
    rw [htell, List.length_append, List.length_singleton]
    exact Nat.succ_lt_succ hroom
  · omega

/-- What entry into ARMED cannot reach. -/
def ArmFree {β : Type} (π : State → β) : Prop :=
  ∀ (s : State) a b c d e f g h i, π { s with
    dev := a, gov := b, flt := c, tly := d, drn := e, heads := f, svc := g, jrn := h, sal := i } = π s

/-- ARMED before access is looked at: the state, ARM_GEN and the trigger of the change. -/
theorem armed_before {s : State} (hroom : s.tly.fifo.length < 31) :
    let u := endPause 5 s
    let v := tlyTrigger 0x102 0 { u with
      dev := { u.dev with st := .armed }, svc := { u.svc with event := true }, gov := { u.gov with armGen := u.gov.armGen + 1 } }
    let w := chapenEvent .info 0x01 0 0xFF 0 0 0 v.map.total v
    w.dev = { s.dev with st := .armed } ∧ w.gov = { s.gov with armGen := s.gov.armGen + 1 } ∧ w.jrn = s.jrn ∧ w.pip = s.pip ∧
    (∀ {β : Type} (π : State → β), ArmFree π → π w = π s) := by
  intro u v w
  have hudev : u.dev = s.dev := by simp [u]
  have hugov : u.gov = s.gov := by simp [u]
  have hujrn : u.jrn = s.jrn := by simp [u]
  have hupip : u.pip = s.pip := by simp [u]
  have hv := tlyTrigger_room 0x102 0 { u with
      dev := { u.dev with st := .armed }, svc := { u.svc with event := true }, gov := { u.gov with armGen := u.gov.armGen + 1 } }
    (endPause_room hroom)
  change v = _ at hv
  have hw : w = { v with heads := w.heads } := chapenEvent_reaches_heads ..
  clear_value w v
  refine ⟨?_, ?_, ?_, ?_, fun π hπ => ?_⟩
  · rw [hw, hv, ← hudev]
  · rw [hw, hv, ← hugov]
  · rw [hw, hv, ← hujrn]
  · rw [hw, hv, ← hupip]
  · rw [hw, hv]
    refine (hπ u { u.dev with st := .armed } { u.gov with armGen := u.gov.armGen + 1 } u.flt _ u.drn w.heads { u.svc with event := true }
      u.jrn u.sal).trans ?_
    exact endPause_only π (fun x _ _ _ _ => hπ x x.dev x.gov _ _ _ _ x.svc x.jrn x.sal) 5 s

/-- HOLD_ARM, PDOM and the credits of a state just entered. -/
theorem synced_spec {s : State} (hst : s.dev.st = .armed) :
    let t := creditSync (pdomSync (holdArmSync s))
    t.dev = s.dev ∧ t.sal.holdArm = true ∧ t.gov.armGen = s.gov.armGen ∧ t.gov.accessHeld = s.gov.accessHeld ∧
    t.gov.pdom = (!s.gov.accessHeld) ∧ t.jrn = s.jrn ∧ (∀ {β : Type} (π : State → β), ArmFree π → π t = π s) := by
  intro t
  refine ⟨rfl, ?_, rfl, rfl, ?_, rfl, fun π hπ => ?_⟩
  · show (decide (s.dev.st = .armed) || _ || _) = true
    rw [decide_eq_true hst]
    rfl
  · show (decide (s.dev.st = .armed) && !s.gov.accessHeld) = _
    rw [decide_eq_true hst]
    rfl
  · exact (creditSync_only π (fun x _ _ => hπ x x.dev _ x.flt x.tly x.drn _ x.svc x.jrn x.sal) _).trans
      ((pdomSync_only π (fun x _ => hπ x x.dev _ x.flt x.tly x.drn x.heads x.svc x.jrn x.sal) _).trans
        (holdArmSync_only π (fun x _ => hπ x x.dev x.gov x.flt x.tly x.drn x.heads x.svc x.jrn _) s))

theorem yields_armDevice {s : State} (hst : s.dev.st = .unarmed) (hcond : s.gov.cond.all = true) (hheld : s.gov.holdoffDone = true)
    (hroom : s.tly.fifo.length < 31) : Yields .armDevice s fun t =>
      t.dev.st = .armed ∧ t.gov.armGen = s.gov.armGen + 1 ∧ t.sal.holdArm = true ∧
      (s.pip.sanStep = 0 → t.gov.accessHeld = false ∧ t.gov.pdom = true ∧
        (s.gov.accessHeld = true → s.journalRoom = true → t.imageOpen = true)) ∧ t.map = s.map ∧ ∀ a, t.byteAt a = s.byteAt a := by
  have hready : (decide (s.dev.st = .unarmed) && s.gov.cond.all && s.gov.holdoffDone) = true := by simp [hst, hcond, hheld]
  obtain ⟨hdev, hgov, -, hpip, hfree⟩ := armed_before hroom
  have hexec : exec .armDevice s = .next (enterArmed s) := if_pos hready
  unfold enterArmed at hexec
  dsimp only at hexec hdev hgov hpip hfree
  generalize chapenEvent _ _ _ _ _ _ _ _ _ = w at hexec hdev hgov hpip hfree
  obtain ⟨x, hx, hxdev, hxgen, hxopen, hxfree⟩ : ∃ x, (if w.pip.sanStep = 0 then releaseAccess w else w) = x ∧ x.dev = w.dev ∧
      x.gov.armGen = w.gov.armGen ∧
      (s.pip.sanStep = 0 → x.gov.accessHeld = false ∧ (s.gov.accessHeld = true → x.imageOpen = true)) ∧
      ∀ {β : Type} (π : State → β), ArmFree π → π x = π w := by
    refine ⟨_, rfl, ?_⟩
    split <;> rename_i hsan
    · obtain ⟨hrgov, hropen⟩ := releaseAccess_spec w
      refine ⟨by simp, by rw [hrgov], fun _ => ⟨by rw [hrgov], fun h => hropen (by rw [hgov]; exact h)⟩, fun π hπ => ?_⟩
      exact releaseAccess_only π (fun y _ _ => hπ y y.dev _ y.flt y.tly y.drn y.heads y.svc _ y.sal) w
    · rw [hpip] at hsan
      exact ⟨rfl, rfl, fun h => absurd h hsan, fun _ _ => rfl⟩
  rw [hx] at hexec
  have hxst : x.dev.st = .armed := by rw [hxdev, hdev]
  obtain ⟨htdev, htarm, htgen, htheld, htpdom, htjrn, htfree⟩ := synced_spec hxst
  refine ⟨_, hexec, ?_⟩
  generalize creditSync (pdomSync (holdArmSync x)) = t at htdev htarm htgen htheld htpdom htjrn htfree ⊢
  have hall : ∀ {β : Type} (π : State → β), ArmFree π → π t = π s := fun π hπ =>
    (htfree π hπ).trans ((hxfree π hπ).trans (hfree π hπ))
  refine ⟨?_, ?_, htarm, fun hsan => ⟨?_, ?_, fun hwas _ => ?_⟩, hall State.map fun _ _ _ _ _ _ _ _ _ _ => rfl,
    fun a => hall (fun v => v.byteAt a) fun _ _ _ _ _ _ _ _ _ _ => rfl⟩
  · rw [htdev]
    exact hxst
  · rw [htgen, hxgen, hgov]
  · rw [htheld]
    exact (hxopen hsan).1
  · rw [htpdom, (hxopen hsan).1]
    rfl
  · unfold State.imageOpen
    rw [htjrn]
    exact (hxopen hsan).2 hwas

/-! ### Days (R119) -/

theorem yields_wearDayBoundary {s : State} (hticks : s.ticks = true) (hsettled : s.settled 0xF3 s.wearOut = true) :
    Yields .wearDayBoundary s fun t =>
      let d := { s.drn with dElapsed := min 65535 (s.drn.dElapsed + 1) }
      t = { s with drn := { d with aDay := ({ s with drn := d } : State).aDayOf }, flt := t.flt } := by
  have hexec : exec .wearDayBoundary s = .next (newDay { s with drn := { s.drn with dElapsed := satAdd 16 s.drn.dElapsed 1 } }) :=
    congrArg Host.Outcome.next (if_pos hticks)
  have hcond := fltCond_eq 0xF3 s.wearOut { s with drn := { s.drn with
    dElapsed := min 65535 (s.drn.dElapsed + 1)
    aDay := ({ s with drn := { s.drn with dElapsed := min 65535 (s.drn.dElapsed + 1) } } : State).aDayOf } }
    (fun hout => by simpa [State.settled, hout] using hsettled)
  exact ⟨_, hexec, hcond⟩

/-! ### Hours (R119, R436) -/

/-- The area in force depends on who owns each copy, whether it counts, and its age (R435). -/
theorem areaFor_congr {u v : Upd} {b : Bool} (h0 : copyFits b v.area0 = copyFits b u.area0) (h1 : copyFits b v.area1 = copyFits b u.area1)
    (ha : v.area0.map (·.age) = u.area0.map (·.age)) (hb : v.area1.map (·.age) = u.area1.map (·.age)) : v.areaFor b = u.areaFor b := by
  unfold Upd.areaFor
  rw [h0, h1, ha, hb]

/-- What a copy's place in its area does not touch. -/
def SameCopy (c d : SettingsCopy) : Prop := d.slot = c.slot ∧ d.released = c.released ∧ d.readable = c.readable ∧ d.age = c.age

/-- Words appended to the copy in force: it stays in force, with the values appended (R436, R437). -/
theorem appendCopy_inForce {n k : Nat} {c d : SettingsCopy} {s : State} (hfor : s.upd.areaFor s.upd.running = some n)
    (hcopy : s.upd.areaCopy n = some c) (hsame : SameCopy c d) :
    let t := appendCopy n k d s
    t.upd.running = s.upd.running ∧ t.upd.refuseArm = s.upd.refuseArm ∧ t.upd.areaFor t.upd.running = some n ∧
    ∃ e, t.upd.areaCopy n = some e ∧ e.vals = d.vals ∧ SameCopy c e := by
  intro t
  obtain ⟨hslot, hreleased, hreadable, hage⟩ := hsame
  have hrebase : ({ d with next := d.next + k } : SettingsCopy).rebase.vals = d.vals ∧
      SameCopy c ({ d with next := d.next + k } : SettingsCopy).rebase := by
    unfold SettingsCopy.rebase
    split <;> exact ⟨rfl, hslot, hreleased, hreadable, hage⟩
  have hupd : t.upd = if n = 0 then { s.upd with area0 := some ({ d with next := d.next + k } : SettingsCopy).rebase }
      else { s.upd with area1 := some ({ d with next := d.next + k } : SettingsCopy).rebase } := by
    have hwear : ∀ (l : List Nat) (f : Nat → Nat) (u : State), (l.foldl (fun u x => wearSector (f x) u) u).upd = u.upd := fun l f u =>
      foldl_same State.upd _ (fun u x => wearSector_only State.upd (fun _ _ => rfl) (f x) u) l u
    unfold t appendCopy
    dsimp only
    rw [hwear]
  generalize ({ d with next := d.next + k } : SettingsCopy).rebase = e at hrebase hupd
  obtain ⟨hvals, heslot, hereleased, hereadable, heage⟩ := hrebase
  have hfits : copyFits s.upd.running (some e) = copyFits s.upd.running (some c) := by
    simp only [copyFits, heslot, hereleased, hereadable]
  unfold Upd.areaCopy at hcopy ⊢
  rw [hupd]
  split <;> rename_i hn
  · rw [if_pos hn] at hcopy
    refine ⟨rfl, rfl, ?_, e, rfl, hvals, heslot, hereleased, hereadable, heage⟩
    have hwins := areaFor_congr (u := s.upd) (v := { s.upd with area0 := some e }) (b := s.upd.running)
      (by rw [hcopy]; exact hfits) rfl (by rw [hcopy]; exact congrArg some heage) rfl
    exact hwins.trans hfor
  · rw [if_neg hn] at hcopy
    refine ⟨rfl, rfl, ?_, e, rfl, hvals, heslot, hereleased, hereadable, heage⟩
    have hwins := areaFor_congr (u := s.upd) (v := { s.upd with area1 := some e }) (b := s.upd.running)
      rfl (by rw [hcopy]; exact hfits) rfl (by rw [hcopy]; exact congrArg some heage)
    exact hwins.trans hfor

theorem syncSettings_copy {n : Nat} {c : SettingsCopy} {s : State} (hloaded : s.dev.loaded = true) (harm : s.upd.refuseArm = false)
    (hfree : s.upd.settingsHeld = false) (hfor : s.upd.areaFor s.upd.running = some n) (hcopy : s.upd.areaCopy n = some c) :
    syncSettings s = appendCopy n (c.vals.changes (s.collect c.vals)) { c with vals := s.collect c.vals } s := by
  unfold syncSettings
  rw [hloaded, harm, hfree, hfor]
  dsimp only
  rw [hcopy]
  rfl

theorem commitHourly_copy {n : Nat} {c : SettingsCopy} {s : State} (hfor : s.upd.areaFor s.upd.running = some n)
    (hcopy : s.upd.areaCopy n = some c) :
    let v := { c.vals with wUsed := s.drn.wUsed, overrun := s.drn.overrun, dElapsed := s.drn.dElapsed }
    commitHourly s = appendCopy n (c.vals.changes v) { c with vals := v } s := by
  unfold commitHourly
  rw [hfor]
  dsimp only
  rw [hcopy]

theorem yields_wearHourlyCommit {s : State} {n : Nat} {c : SettingsCopy} (hticks : s.ticks = true) (hloaded : s.dev.loaded = true)
    (harm : s.upd.refuseArm = false) (hfree : s.upd.settingsHeld = false) (hroom : s.tly.fifo.length < 32)
    (hfor : s.upd.areaFor s.upd.running = some n) (hcopy : s.upd.areaCopy n = some c) : Yields .wearHourlyCommit s fun t =>
      t.drn = { s.drn with hourOverrun := 0 } ∧ t.dev = s.dev ∧ t.jrn = s.jrn ∧
      ∃ c', t.upd.areaCopy n = some c' ∧ c'.vals.wUsed = s.drn.wUsed ∧ c'.vals.overrun = s.drn.overrun ∧
        c'.vals.dElapsed = s.drn.dElapsed ∧ c'.vals.dsc = s.gov.dsc := by
  have hcond : (s.ticks && s.dev.loaded) = true := by rw [hticks, hloaded]; rfl
  obtain ⟨u, hu, hudrn, hudev, hujrn, huupd, hugov⟩ : ∃ u : State, (if s.drn.hourOverrun ≠ 0 then
      tlyTrigger 0x109 0 { s with drn := { s.drn with hourOverrun := 0 } } else { s with drn := { s.drn with hourOverrun := 0 } }) = u ∧
      u.drn = { s.drn with hourOverrun := 0 } ∧ u.dev = s.dev ∧ u.jrn = s.jrn ∧ u.upd = s.upd ∧ u.gov = s.gov := by
    refine ⟨_, rfl, ?_⟩
    split
    · have htrig := tlyTrigger_room 0x109 0 { s with drn := { s.drn with hourOverrun := 0 } } hroom
      rw [htrig]
      exact ⟨rfl, rfl, rfl, rfl, rfl⟩
    · exact ⟨rfl, rfl, rfl, rfl, rfl⟩
  have hexec : exec .wearHourlyCommit s = .next (if u.upd.refuseArm then u else commitHourly (syncSettings u)) := by
    rw [← hu]
    exact if_pos hcond
  rw [huupd, harm, if_neg Bool.false_ne_true] at hexec
  rw [← huupd] at hfor hcopy
  have hsync := syncSettings_copy (by rw [hudev]; exact hloaded) (by rw [huupd]; exact harm) (by rw [huupd]; exact hfree) hfor hcopy
  obtain ⟨-, -, hvfor, d, hvcopy, hdvals, -⟩ := appendCopy_inForce (k := c.vals.changes (u.collect c.vals))
    (d := { c with vals := u.collect c.vals }) hfor hcopy ⟨rfl, rfl, rfl, rfl⟩
  rw [← hsync] at hvfor hvcopy
  have hvdrn : (syncSettings u).drn = u.drn := by simp
  have hvdev : (syncSettings u).dev = u.dev := by simp
  have hvjrn : (syncSettings u).jrn = u.jrn := by simp
  rw [commitHourly_copy hvfor hvcopy] at hexec
  generalize syncSettings u = v at hexec hvfor hvcopy hvdrn hvdev hvjrn
  obtain ⟨-, -, -, e, hecopy, hevals, -⟩ := appendCopy_inForce
    (k := d.vals.changes { d.vals with wUsed := v.drn.wUsed, overrun := v.drn.overrun, dElapsed := v.drn.dElapsed })
    (d := { d with vals := { d.vals with wUsed := v.drn.wUsed, overrun := v.drn.overrun, dElapsed := v.drn.dElapsed } })
    hvfor hvcopy ⟨rfl, rfl, rfl, rfl⟩
  refine ⟨_, hexec, ?_, ?_, ?_, e, hecopy, ?_, ?_, ?_, ?_⟩
  · refine (appendCopy_only State.drn (fun _ _ _ => rfl) ..).trans ?_
    rw [hvdrn, hudrn]
  · refine (appendCopy_only State.dev (fun _ _ _ => rfl) ..).trans ?_
    rw [hvdev, hudev]
  · refine (appendCopy_only State.jrn (fun _ _ _ => rfl) ..).trans ?_
    rw [hvjrn, hujrn]
  · rw [hevals, hvdrn, hudrn]
  · rw [hevals, hvdrn, hudrn]
  · rw [hevals, hvdrn, hudrn]
  · rw [hevals, hdvals, ← hugov]
    rfl

/-- Settles O9: arming, the day and the hour, each by its command. -/
theorem armingAndWear : Obligations.ArmingAndWear := by
  unfold Obligations.ArmingAndWear
  exact ⟨fun s hst hcond hheld hroom => yields_armDevice hst hcond hheld hroom,
    fun s hticks hsettled => yields_wearDayBoundary hticks hsettled,
    fun s n c hticks hloaded harm hfree hroom hfor hcopy => yields_wearHourlyCommit hticks hloaded harm hfree hroom hfor hcopy⟩

end Sys2Proof.Machine
end

section
/-!
PROOFS. Each head's SPDM responder: what it needs, what it answers, what it keeps (R480, R481, R483).
-/
namespace Sys2Proof.Machine

/-! ### What an answer shows of the state it was given in -/

/-- The head's DOE mailbox holds an answer to a request. -/
def SpdmTells (h : Head) (req : Nat) (ok : Bool) (p : Payload) (t : State) : Prop := t.replies.doe.get h = some (.spdm req ok p)

/-- Nothing but the answers changed. -/
def OnlyTold (s t : State) : Prop := t = { s with replies := t.replies }

/-- An error was answered and nothing else changed. -/
def SpdmErred (s : State) (h : Head) (req : Nat) (t : State) : Prop := OnlyTold s t ∧ SpdmTells h req false .empty t

/-- The head's responder became `y`; the other head's stayed. -/
def SpdmBecame (s : State) (h : Head) (y : Spdm) (t : State) : Prop := t.key.spdm = s.key.spdm.set h y ∧
  t = { s with replies := t.replies, free := t.free, key := { s.key with spdm := t.key.spdm } }

/-- One ECDSA signature was counted and no LMS leaf was used. -/
def SpdmSigned (s t : State) : Prop :=
  t.key.ecdsaSigs = satAdd 16 s.key.ecdsaSigs 1 ∧ t.key.lmsSigs = s.key.lmsSigs ∧ t.key.lmsQ = s.key.lmsQ ∧
  t = { s with replies := t.replies, free := t.free, key := { s.key with spdm := t.key.spdm, ecdsaSigs := t.key.ecdsaSigs } }

theorem spdmSay_tells (h : Head) (req : Nat) (ok : Bool) (p : Payload) (s : State) : SpdmTells h req ok p (spdmSay h req ok p s) :=
  perHead_get_self ..

theorem spdmFree_tells (h : Head) (req : Nat) (s : State) : ∃ p, SpdmTells h req true p (spdmFree h req s) := ⟨_, perHead_get_self ..⟩

theorem spdmError_erred (h : Head) (req : Nat) (s : State) : SpdmErred s h req (spdmError h req s) := ⟨rfl, spdmSay_tells ..⟩

theorem spdmSay_became (h : Head) (req : Nat) (ok : Bool) (p : Payload) (y : Spdm) (s : State) :
    SpdmTells h req ok p (spdmSay h req ok p (spdmSet h y s)) ∧ SpdmBecame s h y (spdmSay h req ok p (spdmSet h y s)) :=
  ⟨spdmSay_tells .., rfl, rfl⟩

theorem spdmFree_became (h : Head) (req : Nat) (y : Spdm) (s : State) :
    (∃ p, SpdmTells h req true p (spdmFree h req (spdmSet h y s))) ∧ SpdmBecame s h y (spdmFree h req (spdmSet h y s)) :=
  ⟨spdmFree_tells .., rfl, rfl⟩

theorem spdmFree_signed (h : Head) (req : Nat) (s : State) :
    (∃ p, SpdmTells h req true p (spdmFree h req (signEcdsa s))) ∧ SpdmSigned s (spdmFree h req (signEcdsa s)) ∧
      (spdmFree h req (signEcdsa s)).key.spdm = s.key.spdm :=
  ⟨spdmFree_tells .., ⟨rfl, rfl, rfl, rfl⟩, rfl⟩

/-! ### The order requests need -/

/-- What the chain and a signature need: algorithms negotiated, and a chain that is valid. -/
def State.attests (s : State) (h : Head) : Prop := (s.key.spdm.get h).algorithms = true ∧ s.key.certOk = true

variable {h : Head} {s : State} {i : Instr} {P : State → Prop} {k : Spdm → State → State} {req : Nat}

/-- A linked head's responder takes the request. -/
theorem yields_spdmDo (hup : (s.heads.get h).up = true) (hexec : exec i s = .next (spdmDo h k s)) (hpost : P (k (s.key.spdm.get h) s)) :
    Yields i s P :=
  ⟨_, hexec.trans (congrArg Host.Outcome.next (if_pos hup)), hpost⟩

theorem yields_spdmDo_down (hup : (s.heads.get h).up = false) (hexec : exec i s = .next (spdmDo h k s)) : Yields i s fun t => t = s :=
  ⟨_, hexec.trans (congrArg Host.Outcome.next (if_neg (ne_true_of_eq_false hup))), rfl⟩

/-- A responder that chooses by a condition, where the condition holds. -/
theorem yields_spdmDo_pos {c : Prop} [Decidable c] {x y : State} (hup : (s.heads.get h).up = true) (hexec : exec i s = .next (spdmDo h k s))
    (hk : k (s.key.spdm.get h) s = if c then x else y) (hc : c) (hpost : P x) : Yields i s P :=
  yields_spdmDo hup hexec ((hk.trans (if_pos hc)).symm ▸ hpost)

theorem yields_spdmDo_neg {c : Prop} [Decidable c] {x y : State} (hup : (s.heads.get h).up = true) (hexec : exec i s = .next (spdmDo h k s))
    (hk : k (s.key.spdm.get h) s = if c then x else y) (hc : ¬ c) (hpost : P y) : Yields i s P :=
  yields_spdmDo hup hexec ((hk.trans (if_neg hc)).symm ▸ hpost)

theorem yields_spdmAttest (hup : (s.heads.get h).up = true) (hexec : exec i s = .next (spdmAttest h req k s)) (hatt : s.attests h)
    (hpost : P (k (s.key.spdm.get h) s)) : Yields i s P :=
  yields_spdmDo_pos hup hexec rfl (by rw [hatt.1, hatt.2]; rfl) hpost

theorem yields_spdmAttest_refused (hup : (s.heads.get h).up = true) (hexec : exec i s = .next (spdmAttest h req k s))
    (hatt : ¬ s.attests h) : Yields i s (SpdmErred s h req) :=
  yields_spdmDo_neg hup hexec rfl (fun hc => hatt (Bool.and_eq_true_iff.mp hc)) (spdmError_erred ..)

theorem yields_spdmIn (hup : (s.heads.get h).up = true) (hexec : exec i s = .next (spdmIn h req k s))
    (hin : (s.key.spdm.get h).session = 2) (hpost : P (k (s.key.spdm.get h) s)) : Yields i s P :=
  yields_spdmDo_pos hup hexec rfl hin hpost

theorem yields_spdmIn_refused (hup : (s.heads.get h).up = true) (hexec : exec i s = .next (spdmIn h req k s))
    (hin : (s.key.spdm.get h).session ≠ 2) : Yields i s (SpdmErred s h req) :=
  yields_spdmDo_neg hup hexec rfl hin (spdmError_erred ..)

/-! ### Version, capabilities, algorithms -/

theorem yields_getVersion (hup : (s.heads.get h).up = true) : Yields (.getVersion h) s fun t => SpdmTells h 0x84 true (.bytes [0x13]) t ∧
    SpdmBecame s h { version := true, ideKeys := (s.key.spdm.get h).ideKeys, keyGen := (s.key.spdm.get h).keyGen } t :=
  yields_spdmDo hup rfl (spdmSay_became ..)

theorem yields_getCapabilities (hup : (s.heads.get h).up = true) (hver : (s.key.spdm.get h).version = true) :
    Yields (.getCapabilities h) s fun t => (∃ p, SpdmTells h 0xE1 true p t) ∧
      SpdmBecame s h { s.key.spdm.get h with capabilities := true } t :=
  yields_spdmDo_pos hup rfl rfl hver (spdmFree_became ..)

theorem yields_getCapabilities_refused (hup : (s.heads.get h).up = true) (hver : (s.key.spdm.get h).version = false) :
    Yields (.getCapabilities h) s (SpdmErred s h 0xE1) :=
  yields_spdmDo_neg hup rfl rfl (ne_true_of_eq_false hver) (spdmError_erred ..)

theorem yields_negotiateAlgorithms (hup : (s.heads.get h).up = true) (hcap : (s.key.spdm.get h).capabilities = true) :
    Yields (.negotiateAlgorithms h true) s fun t => (∃ p, SpdmTells h 0xE3 true p t) ∧
      SpdmBecame s h { s.key.spdm.get h with algorithms := true } t :=
  yields_spdmDo_pos hup rfl rfl (by rw [hcap]; rfl) (spdmFree_became ..)

theorem yields_negotiateAlgorithms_refused {c : Bool} (hup : (s.heads.get h).up = true)
    (hlack : c = false ∨ (s.key.spdm.get h).capabilities = false) : Yields (.negotiateAlgorithms h c) s (SpdmErred s h 0xE3) := by
  refine yields_spdmDo_neg hup rfl rfl (fun hboth => ?_) (spdmError_erred ..)
  obtain ⟨hcap, hcommon⟩ := Bool.and_eq_true_iff.mp hboth
  rcases hlack with hc | hc
  · exact absurd (hcommon.symm.trans hc) (by decide)
  · exact absurd (hcap.symm.trans hc) (by decide)

/-! ### The certificate chain and what is signed -/

theorem yields_getDigests (hup : (s.heads.get h).up = true) (hatt : s.attests h) :
    Yields (.getDigests h) s fun t => (∃ p, SpdmTells h 0x81 true p t) ∧ OnlyTold s t :=
  yields_spdmAttest hup rfl hatt ⟨⟨_, spdmSay_tells ..⟩, rfl⟩

theorem yields_getCertificate (a n : Nat) (hup : (s.heads.get h).up = true) (hatt : s.attests h) :
    Yields (.getCertificate h 0 a n false) s fun t => OnlyTold s t ∧ ∃ bs, SpdmTells h 0x82 true (.bytes bs) t ∧ bs.length ≤ n := by
  refine yields_spdmAttest hup rfl hatt ⟨rfl, _, spdmSay_tells .., ?_⟩
  rw [List.length_map, List.length_range]
  exact Nat.min_le_left ..

theorem yields_getCertificate_otherSlot {slot : Nat} (a n : Nat) (l : Bool) (hup : (s.heads.get h).up = true) (hatt : s.attests h)
    (hslot : slot ≠ 0) : Yields (.getCertificate h slot a n l) s (SpdmErred s h 0x82) := by
  refine yields_spdmAttest hup rfl hatt ?_
  rw [if_pos hslot]
  exact spdmError_erred ..

theorem yields_challenge (hup : (s.heads.get h).up = true) (hatt : s.attests h) :
    Yields (.challenge h) s fun t => (∃ p, SpdmTells h 0x83 true p t) ∧ SpdmSigned s t ∧ t.key.spdm = s.key.spdm :=
  yields_spdmAttest hup rfl hatt (spdmFree_signed ..)

theorem yields_keyExchange (hup : (s.heads.get h).up = true) (hatt : s.attests h) (hsession : (s.key.spdm.get h).session ≠ 2) :
    Yields (.keyExchange h) s fun t => (∃ p, SpdmTells h 0xE4 true p t) ∧ SpdmSigned s t ∧ (t.key.spdm.get h).session = 1 ∧
      t.key.spdm.get h.other = s.key.spdm.get h.other ∧
      t.key.spdm.get h = { s.key.spdm.get h with session := 1, sessionId := (t.key.spdm.get h).sessionId } := by
  have hset := perHead_get_self s.key.spdm h { s.key.spdm.get h with session := 1, sessionId := Config.number s.free }
  refine yields_spdmAttest hup rfl hatt ?_
  rw [if_neg hsession]
  refine ⟨spdmFree_tells .., ⟨rfl, rfl, rfl, rfl⟩, congrArg Spdm.session hset, perHead_get_other .., ?_⟩
  refine hset.trans ?_
  rw [show (spdmFree h 0xE4 (signEcdsa (spdmSet h { s.key.spdm.get h with session := 1, sessionId := Config.number s.free }
    { s with free := s.free + 1 }))).key.spdm.get h = _ from hset]

theorem yields_keyExchange_established (hup : (s.heads.get h).up = true) (hatt : s.attests h) (hsession : (s.key.spdm.get h).session = 2) :
    Yields (.keyExchange h) s (SpdmErred s h 0xE4) := by
  refine yields_spdmAttest hup rfl hatt ?_
  rw [if_pos hsession]
  exact spdmError_erred ..

/-! ### Measurements (R481) -/

/-- The measurement blocks GET_MEASUREMENTS means by an index. -/
def State.measured (s : State) (index : Nat) : List (Nat × Nat) :=
  if index = 255 then s.measurements else s.measurements.filter fun e => e.1 == index

theorem measured_owner (s : State) : s.measured 5 = [(5, (s.key.owner.map fun o => o.digest.toNat).getD 0)] := rfl

theorem measured_close (s : State) : s.measured 6 = [(6, s.closeDigest)] := rfl

theorem measured_none {index : Nat} (habove : 6 < index) (hall : index ≠ 255) (s : State) : s.measured index = [] := by
  unfold State.measured
  rw [if_neg hall, List.filter_eq_nil_iff]
  intro e he hindex
  have hsmall : ∀ e ∈ s.measurements, e.1 ≤ 6 := by simp [State.measurements]
  have hle := hsmall e he
  rw [beq_iff_eq.mp hindex] at hle
  omega

theorem closeDigest_append {r : SalRec} {l : List JRec} (hjrn : s.jrn = l ++ [.salRec r]) (hclose : r.typ = 5) :
    s.closeDigest = r.digest.toNat := by
  unfold State.closeDigest
  rw [hjrn, List.foldl_append]
  exact if_pos hclose

theorem yields_getMeasurements_refused {index : Nat} {g : Bool} (l : Bool) (hup : (s.heads.get h).up = true)
    (hlack : (s.key.spdm.get h).algorithms = false ∨ (g = true ∧ s.key.certOk = false) ∨ (s.measured index = [] ∧ index ≠ 0)) :
    Yields (.getMeasurements h index g l) s (SpdmErred s h 0xE0) := by
  refine yields_spdmDo_pos hup rfl rfl ?_ (spdmError_erred ..)
  rcases hlack with halg | ⟨hsign, hcert⟩ | ⟨hnone, hindex⟩
  · rw [halg]
    rfl
  · rw [hsign, hcert, Bool.not_false, Bool.and_self, Bool.or_true, Bool.true_or]
  · exact Bool.or_eq_true_iff.mpr (.inr (Bool.and_eq_true_iff.mpr ⟨decide_eq_true hnone, decide_eq_true hindex⟩))

theorem yields_getMeasurements_count (hup : (s.heads.get h).up = true) (halg : (s.key.spdm.get h).algorithms = true) :
    Yields (.getMeasurements h 0 false false) s fun t => OnlyTold s t ∧ SpdmTells h 0xE0 true (.words [6]) t :=
  yields_spdmDo_neg hup rfl rfl (by rw [halg]; simp) ⟨rfl, spdmSay_tells ..⟩

theorem yields_getMeasurements_block {index : Nat} {e : Nat × Nat} (hup : (s.heads.get h).up = true)
    (halg : (s.key.spdm.get h).algorithms = true) (hindex : index ≠ 0) (hblock : s.measured index = [e]) :
    Yields (.getMeasurements h index false false) s fun t => OnlyTold s t ∧ SpdmTells h 0xE0 true (.pairs [e]) t := by
  have hsay : (if index = 0 then spdmSay h 0xE0 true (.words [6]) s else spdmSay h 0xE0 true (.pairs (s.measured index)) s) =
      spdmSay h 0xE0 true (.pairs [e]) s := by rw [if_neg hindex, hblock]
  have htaken : ¬ (!(s.key.spdm.get h).algorithms || (false && !s.key.certOk) ||
      (decide (s.measured index = []) && decide (index ≠ 0))) = true := by
    rw [halg, hblock]
    simp
  exact yields_spdmDo_neg hup rfl (congrArg (ite _ _) hsay) htaken ⟨rfl, spdmSay_tells ..⟩

/-- All six blocks, signed. -/
theorem yields_getMeasurements_all (hup : (s.heads.get h).up = true) (hatt : s.attests h) :
    Yields (.getMeasurements h 255 true false) s fun t => SpdmSigned s t ∧ t.key.spdm = s.key.spdm ∧
      ∃ l : List (Nat × Nat), SpdmTells h 0xE0 true (.pairs l) t ∧ l.map Prod.fst = [1, 2, 3, 4, 5, 6] := by
  obtain ⟨halg, hcert⟩ := hatt
  have htaken : ¬ (!(s.key.spdm.get h).algorithms || (true && !s.key.certOk) || (decide (s.measurements = []) && decide (255 ≠ 0))) = true := by
    rw [halg, hcert]
    simp [State.measurements]
  exact yields_spdmDo_neg hup rfl rfl htaken ⟨⟨rfl, rfl, rfl, rfl⟩, rfl, _, spdmSay_tells .., rfl⟩

/-! ### Sessions, chunks, the CDAT table -/

theorem yields_spdmFinish_verified (hup : (s.heads.get h).up = true) (hsession : (s.key.spdm.get h).session = 1) :
    Yields (.spdmFinish h true) s fun t => SpdmTells h 0xE5 true .empty t ∧
      SpdmBecame s h { s.key.spdm.get h with session := 2, heartbeats := 0 } t :=
  yields_spdmDo_neg hup rfl rfl (not_not_intro hsession) (spdmSay_became ..)

theorem yields_spdmFinish_unverified (hup : (s.heads.get h).up = true) (hsession : (s.key.spdm.get h).session = 1) :
    Yields (.spdmFinish h false) s fun t => SpdmTells h 0xE5 false .empty t ∧ SpdmBecame s h { s.key.spdm.get h with session := 0 } t :=
  yields_spdmDo_neg hup rfl rfl (not_not_intro hsession) (spdmSay_became ..)

theorem yields_spdmFinish_refused (v : Bool) (hup : (s.heads.get h).up = true) (hsession : (s.key.spdm.get h).session ≠ 1) :
    Yields (.spdmFinish h v) s (SpdmErred s h 0xE5) :=
  yields_spdmDo_pos hup rfl rfl hsession (spdmError_erred ..)

theorem yields_ideKeyManagement (hup : (s.heads.get h).up = true) (hin : (s.key.spdm.get h).session = 2) :
    Yields (.ideKeyManagement h) s fun t => SpdmTells h 0xFE true .empty t ∧
      t.key.spdm = s.key.spdm.set h { s.key.spdm.get h with ideKeys := true } ∧
      t.heads = s.heads.set h { s.heads.get h with ide := true } ∧
      t = { s with replies := t.replies, heads := t.heads, key := { s.key with spdm := t.key.spdm } } :=
  yields_spdmIn hup rfl hin ⟨spdmSay_tells .., rfl, rfl, rfl⟩

theorem yields_chunkSend (c : List Nat) (last : Bool) (hup : (s.heads.get h).up = true) (hcap : (s.key.spdm.get h).capabilities = true) :
    Yields (.chunkSend h c last) s fun t => SpdmTells h 0x85 true .empty t ∧
      SpdmBecame s h { s.key.spdm.get h with chunkIn := if last then [] else (s.key.spdm.get h).chunkIn ++ c } t :=
  yields_spdmDo_neg hup rfl rfl (by rw [hcap]; decide) (spdmSay_became ..)

theorem yields_chunkSend_refused (c : List Nat) (last : Bool) (hup : (s.heads.get h).up = true)
    (hcap : (s.key.spdm.get h).capabilities = false) : Yields (.chunkSend h c last) s (SpdmErred s h 0x85) :=
  yields_spdmDo_pos hup rfl rfl (by rw [hcap]; rfl) (spdmError_erred ..)

theorem yields_chunkGet {n : Nat} (hup : (s.heads.get h).up = true) (hn : 0 < n) (hout : (s.key.spdm.get h).chunkOut ≠ []) :
    Yields (.chunkGet h n) s fun t => SpdmTells h 0x86 true (.bytes ((s.key.spdm.get h).chunkOut.take n)) t ∧
      SpdmBecame s h { s.key.spdm.get h with chunkOut := (s.key.spdm.get h).chunkOut.drop n } t := by
  refine yields_spdmDo_neg hup rfl rfl (fun hnone => ?_) (spdmSay_became ..)
  rcases Bool.or_eq_true_iff.mp hnone with h0 | h0
  · exact hout (of_decide_eq_true h0)
  · exact Nat.ne_of_gt hn (of_decide_eq_true h0)

theorem yields_chunkGet_refused {n : Nat} (hup : (s.heads.get h).up = true) (hnone : (s.key.spdm.get h).chunkOut = [] ∨ n = 0) :
    Yields (.chunkGet h n) s (SpdmErred s h 0x86) :=
  yields_spdmDo_pos hup rfl rfl (Bool.or_eq_true_iff.mpr (hnone.imp decide_eq_true decide_eq_true)) (spdmError_erred ..)

theorem yields_cdatTableAccess (hup : (s.heads.get h).up = true) : Yields (.cdatTableAccess h) s fun t =>
    (∃ l, t.replies.doe.get h = some (.cdat l)) ∧ t = { s with replies := t.replies, free := t.free } :=
  ⟨_, if_pos hup, ⟨_, perHead_get_self ..⟩, rfl⟩

theorem yields_cdatTableAccess_down (hup : (s.heads.get h).up = false) : Yields (.cdatTableAccess h) s fun t => t = s :=
  ⟨s, if_neg (ne_true_of_eq_false hup), rfl⟩

end Sys2Proof.Machine
end

section
namespace Sys2Proof.Machine

/-- Settles O50: a linked head's responder request by request, and a head without a link. -/
theorem attestation : Obligations.Attestation := by
  unfold Obligations.Attestation
  refine ⟨fun s h hup => ?_, fun s h hup => ⟨yields_spdmDo_down hup rfl, yields_spdmDo_down hup rfl, yields_spdmDo_down hup rfl,
    yields_cdatTableAccess_down hup⟩⟩
  intro x tells told err now some_ signed attests
  refine ⟨yields_getVersion hup, fun hver => yields_getCapabilities hup hver, fun hver => yields_getCapabilities_refused hup hver,
    fun hcap => yields_negotiateAlgorithms hup hcap, fun c hlack => yields_negotiateAlgorithms_refused hup hlack,
    fun hatt => ?certified, fun hatt => ?uncertified, fun halg => ?measured, fun k g l hlack => ?unmeasured,
    fun hsession => ⟨yields_spdmFinish_verified hup hsession, yields_spdmFinish_unverified hup hsession⟩,
    fun v hsession => yields_spdmFinish_refused v hup hsession,
    fun hin => ⟨yields_spdmIn hup rfl hin (spdmSay_became ..), yields_spdmIn hup rfl hin (spdmSay_became ..),
      yields_spdmIn hup rfl hin (spdmSay_became ..), yields_ideKeyManagement hup hin⟩,
    fun hin => ⟨yields_spdmIn_refused hup rfl hin, yields_spdmIn_refused hup rfl hin, yields_spdmIn_refused hup rfl hin,
      yields_spdmIn_refused hup rfl hin⟩,
    fun hcap c last => yields_chunkSend c last hup hcap, fun hcap c last => yields_chunkSend_refused c last hup hcap,
    fun n hn hout => yields_chunkGet hup hn hout, fun n hnone => yields_chunkGet_refused hup hnone, yields_cdatTableAccess hup⟩
  case certified =>
    exact ⟨yields_getDigests hup hatt, fun a n => yields_getCertificate a n hup hatt,
      fun k a n l hk => yields_getCertificate_otherSlot a n l hup hatt hk, yields_challenge hup hatt,
      fun hsession => yields_keyExchange hup hatt hsession, fun hsession => yields_keyExchange_established hup hatt hsession⟩
  case uncertified =>
    exact ⟨yields_spdmAttest_refused hup rfl hatt, fun k a n l => yields_spdmAttest_refused hup rfl hatt,
      yields_spdmAttest_refused hup rfl hatt, yields_spdmAttest_refused hup rfl hatt⟩
  case measured =>
    refine ⟨yields_getMeasurements_count hup halg,
      yields_getMeasurements_block hup halg (by decide) (measured_owner s),
      fun r l hjrn hclose => ?_,
      fun k habove hall g l => yields_getMeasurements_refused l hup (.inr (.inr ⟨measured_none habove hall s, by omega⟩)),
      fun hcert => yields_getMeasurements_all hup ⟨halg, hcert⟩⟩
    have hblock := measured_close s
    rw [closeDigest_append hjrn hclose] at hblock
    exact yields_getMeasurements_block hup halg (by decide) hblock
  case unmeasured => exact yields_getMeasurements_refused l hup (hlack.imp id .inl)

end Sys2Proof.Machine
end

section
/-!
PROOFS. The Salt Cellar's words: programs, erases and reads (R401 to R417, R420 to R422).
-/
namespace Sys2Proof.Machine

/-! ### A request on an idle array (R406, R409, R411) -/

theorem cellarProgram_idle {u : CelUser} {n w : Nat} (d : BitVec 128) {s : State} (hn : n < 2048) (hw : w < 1024) (hup : s.celUp = true)
    (hmay : celMay u n = true) (hidle : s.cel.op = .idle) : exec (.cellarProgram u n w d) s = .next (startReq (.program u n w d) s).1 := by
  have hinside : ¬ (decide (2048 ≤ n) || decide (1024 ≤ w)) = true := by simp [hn, hw]
  have htake : takeReq (.program u n w d) s = (startReq (.program u n w d) s).1 := if_pos hidle
  change execCellarProgram u n w d s = _
  unfold execCellarProgram
  rw [if_neg hinside, hup, hmay, htake]
  rfl

theorem startReq_program (u : CelUser) (n w : Nat) (d : BitVec 128) (s : State) : startReq (.program u n w d) s =
    if (s.sector (s.reached n)).worn then (celFail 5 n w .verifyFail s, false)
    else if (s.sector (s.reached n)).flag then (celFail 4 n w .flagged s, false)
    else if !celAccepts (s.celWord n w) d then (celFail 1 n w .notErased s, false)
    else ({ s with cel := { s.cel with op := .programming u n w d, answer := .running } }, true) := rfl

theorem yields_cellarProgram_taken {u : CelUser} {n w : Nat} {d : BitVec 128} {s : State} (hn : n < 2048) (hw : w < 1024)
    (hup : s.celUp = true) (hmay : celMay u n = true) (hidle : s.cel.op = .idle) (hworn : (s.sector (s.reached n)).worn = false)
    (hflag : (s.sector (s.reached n)).flag = false) (htakes : celAccepts (s.celWord n w) d = true) :
    Yields (.cellarProgram u n w d) s fun t => t = { s with cel := { s.cel with op := .programming u n w d, answer := .running } } := by
  have hstart : (startReq (.program u n w d) s).1 = { s with cel := { s.cel with op := .programming u n w d, answer := .running } } := by
    rw [startReq_program, hworn, hflag, htakes]
    rfl
  exact ⟨_, (cellarProgram_idle d hn hw hup hmay hidle).trans (congrArg _ hstart), rfl⟩

theorem yields_cellarProgram_notErased {u : CelUser} {n w : Nat} {d : BitVec 128} {s : State} (hn : n < 2048) (hw : w < 1024)
    (hup : s.celUp = true) (hmay : celMay u n = true) (hidle : s.cel.op = .idle) (hworn : (s.sector (s.reached n)).worn = false)
    (hflag : (s.sector (s.reached n)).flag = false) (htakes : celAccepts (s.celWord n w) d = false) :
    Yields (.cellarProgram u n w d) s fun t => t.cel.answer = .notErased ∧ t.cel.lastCode = 1 ∧ t.cel.words = s.cel.words ∧
      t.cel.op = .idle ∧ t = { s with cel := t.cel } := by
  have hstart : (startReq (.program u n w d) s).1 = celFail 1 n w .notErased s := by
    rw [startReq_program, hworn, hflag, htakes]
    rfl
  exact ⟨_, (cellarProgram_idle d hn hw hup hmay hidle).trans (congrArg _ hstart), rfl, rfl, rfl, hidle, rfl⟩

theorem yields_cellarProgram_worn {u : CelUser} {n w : Nat} {d : BitVec 128} {s : State} (hn : n < 2048) (hw : w < 1024)
    (hup : s.celUp = true) (hmay : celMay u n = true) (hidle : s.cel.op = .idle) (hworn : (s.sector (s.reached n)).worn = true) :
    Yields (.cellarProgram u n w d) s fun t => t.cel.answer = .verifyFail ∧ t.cel.lastCode = 5 ∧ t.cel.words = s.cel.words ∧
      t = { s with cel := t.cel } := by
  have hstart : (startReq (.program u n w d) s).1 = celFail 5 n w .verifyFail s := by
    rw [startReq_program, hworn]
    rfl
  exact ⟨_, (cellarProgram_idle d hn hw hup hmay hidle).trans (congrArg _ hstart), rfl, rfl, rfl, rfl⟩

theorem yields_cellarErase_saving {u : CelUser} {n : Nat} {s : State} (hn : n < 2048) (hup : s.celUp = true) (hmay : celMay u n = true)
    (hsave : s.saving = true) : Yields (.cellarErase u n) s fun t => t.cel.answer = .refused ∧ t.cel.lastCode = 3 ∧
      t.cel.words = s.cel.words ∧ t.cel.sectors = s.cel.sectors ∧ t = { s with cel := t.cel } := by
  refine ⟨celFail 3 n 0 .refused s, ?_, rfl, rfl, rfl, rfl, rfl⟩
  change execCellarErase u n s = _
  unfold execCellarErase
  rw [if_neg (Nat.not_le.mpr hn), hup, hmay, hsave]
  rfl

theorem sectorUpd_sector (n : Nat) (f : CelSector → CelSector) (s : State) : (sectorUpd n f s).sector n = f (s.sector n) :=
  (tblGet_upd ({} : CelSector) n f s.cel.sectors n).trans (if_pos rfl)

/-- An erase that begins below the advisory count raises its sector's count, flags it and drops its cached lines. -/
theorem beginErase_spec {u : CelUser} {n : Nat} {s : State} (hcount : (s.sector (s.reached n)).erases + 1 < 90000000) :
    let t := beginErase u n s
    t.cel.op = .erasing u n ∧ (t.sector (s.reached n)).flag = true ∧
    (t.sector (s.reached n)).erases = (s.sector (s.reached n)).erases + 1 ∧ t.cel.words = s.cel.words ∧ t = { s with cel := t.cel } := by
  have hsector := sectorUpd_sector (s.reached n) (fun x => { x with erases := min (2 ^ 27 - 1) (x.erases + 1), flag := true }) s
  have hnext : min (2 ^ 27 - 1) ((s.sector (s.reached n)).erases + 1) = (s.sector (s.reached n)).erases + 1 := by omega
  have hbelow : decide (90000000 ≤ min (2 ^ 27 - 1) ((s.sector (s.reached n)).erases + 1)) = false := decide_eq_false (by omega)
  have hbegin : beginErase u n s =
      (let v := sectorUpd (s.reached n) (fun x => { x with erases := min (2 ^ 27 - 1) (x.erases + 1), flag := true }) s
      { v with cel := { v.cel with op := .erasing u n, answer := .running, lines := v.cel.lines.filter fun l => l / 256 != n } }) := by
    unfold beginErase
    refine if_neg ?_
    change ¬ (decide (90000000 ≤ ((sectorUpd (s.reached n) (fun x => { x with erases := min (2 ^ 27 - 1) (x.erases + 1), flag := true }) s).sector
      (s.reached n)).erases) && _) = true
    rw [hsector, hbelow, Bool.false_and]
    exact Bool.false_ne_true
  intro t
  rw [show t = _ from hbegin]
  exact ⟨rfl, congrArg CelSector.flag hsector, (congrArg CelSector.erases hsector).trans hnext, rfl, rfl⟩

theorem yields_cellarErase_begins {u : CelUser} {n : Nat} {s : State} (hn : n < 2048) (hup : s.celUp = true) (hmay : celMay u n = true)
    (hidle : s.cel.op = .idle) (hsave : s.saving = false) (hworn : (s.sector (s.reached n)).worn = false)
    (hcount : (s.sector (s.reached n)).erases + 1 < 90000000) : Yields (.cellarErase u n) s fun t =>
      t.cel.op = .erasing u n ∧ (t.sector (s.reached n)).flag = true ∧
      (t.sector (s.reached n)).erases = (s.sector (s.reached n)).erases + 1 ∧ t.cel.words = s.cel.words ∧ t = { s with cel := t.cel } := by
  have htake : takeReq (.erase u n) s = beginErase u n s := by
    unfold takeReq startReq
    dsimp only
    rw [if_pos hidle, hsave, hworn]
    rfl
  refine ⟨beginErase u n s, ?_, beginErase_spec hcount⟩
  change execCellarErase u n s = _
  unfold execCellarErase
  rw [if_neg (Nat.not_le.mpr hn), hup, hmay, hsave, htake]
  rfl

/-! ### The end of a program (R408, R418, R421) -/

/-- What the step means and their advisory change of the Salt Cellar. -/
theorem countProgram_cel {steps : Nat} {s : State}
    (hraise : ∀ v : State, v.flt = s.flt → v.tly = s.tly → v.dev = s.dev → (fltRaise 0xB2 0 v).cel = v.cel) :
    ∃ l adv, (countProgram steps s).cel = { s.cel with progSteps := l, programs := satAdd 24 s.cel.programs 1, stepAdv := adv } := by
  refine ⟨(steps :: s.cel.progSteps).take 4096,
    4 * ((steps :: s.cel.progSteps).take 4096).length < ((steps :: s.cel.progSteps).take 4096).foldl (· + ·) 0, ?_⟩
  unfold countProgram
  dsimp only
  split
  · exact hraise _ rfl rfl rfl
  · rfl

theorem countProgram_keeps {β : Type} {steps : Nat} {s : State} (π : State → β) (hcel : ∀ (v : State) c, π { v with cel := c } = π v)
    (hraise : ∀ v : State, v.flt = s.flt → v.tly = s.tly → v.dev = s.dev → π (fltRaise 0xB2 0 v) = π v) :
    π (countProgram steps s) = π s := by
  unfold countProgram
  dsimp only
  split
  · exact Eq.trans (hraise _ rfl rfl rfl) (hcel s _)
  · exact hcel s _

/-- A word put at a physical place is the word read there, and no other. -/
theorem putCelWord_words (phys word : Nat) (w : CelWord) (s : State) (x : Nat) :
    tblGet erasedWord (putCelWord phys word w s).cel.words x = if x = phys * 1024 + word then w else tblGet erasedWord s.cel.words x :=
  tblGet_put erasedWord (phys * 1024 + word) w s.cel.words x

theorem runQueue_nil (s : State) : runQueue [] s = { s with cel := { s.cel with op := .idle, queue := [] } } := rfl

theorem yields_cellarProgramDone {u : CelUser} {n w : Nat} {d : BitVec 128} (k : Nat) {s : State} (hop : s.cel.op = .programming u n w d)
    (hqueue : s.cel.queue = []) (hmild : s.mild 0xB2 = true) (hsave : s.saving = false) : Yields (.cellarProgramDone k true) s fun t =>
      t.celWord n w = { data := d, count := if (s.celWord n w).count = 3 then 2 else 0 } ∧
      (∀ x, x ≠ s.reached n * 1024 + w → tblGet erasedWord t.cel.words x = tblGet erasedWord s.cel.words x) ∧ t.cel.op = .idle ∧
      t.cel.sectors = s.cel.sectors ∧ t.cel.programs = satAdd 24 s.cel.programs 1 ∧ t.dev = s.dev ∧ t.map = s.map ∧ t.jrn = s.jrn := by
  have hraise : ∀ {β : Type} (π : State → β), EventFree π → ∀ v : State, v.flt = s.flt → v.tly = s.tly → v.dev = s.dev →
      π (fltRaise 0xB2 0 v) = π v := fun π hπ v hflt htly hdev =>
    fltRaise_mild π hπ 0xB2 0 hflt htly ((saving_congr hdev).trans hsave) hmild
  have hdev := countProgram_keeps (steps := min 8 k) State.dev (fun _ _ => rfl) (hraise State.dev fun _ _ _ _ _ _ => rfl)
  have hmap := countProgram_keeps (steps := min 8 k) State.map (fun _ _ => rfl) (hraise State.map fun _ _ _ _ _ _ => rfl)
  have hjrn := countProgram_keeps (steps := min 8 k) State.jrn (fun _ _ => rfl) (hraise State.jrn fun _ _ _ _ _ _ => rfl)
  obtain ⟨l, adv, hcel⟩ := countProgram_cel (steps := min 8 k) (hraise State.cel fun _ _ _ _ _ _ => rfl)
  have hexec : exec (.cellarProgramDone k true) s =
      .next (let v := countProgram (min 8 k) s
        runQueue v.cel.queue (celAnswer .ok (putCelWord (v.reached n) w (programmed (v.celWord n w) d) v))) := by
    change execCellarProgramDone k true s = _
    unfold execCellarProgramDone
    rw [hop]
    rfl
  generalize countProgram (min 8 k) s = v at *
  have hreached : v.reached n = s.reached n := by unfold State.reached State.sector; rw [hcel]
  have hword : v.celWord n w = s.celWord n w := by unfold State.celWord; rw [hreached, hcel]
  have hvqueue : v.cel.queue = [] := by rw [hcel]; exact hqueue
  dsimp only at hexec
  rw [hvqueue, hreached, hword] at hexec
  have hwords := putCelWord_words (s.reached n) w (programmed (s.celWord n w) d) v
  refine ⟨_, hexec, ?_, fun x hx => ?_, rfl, ?_, ?_, hdev, hmap, hjrn⟩
  · change tblGet erasedWord _ (v.reached n * 1024 + w) = _
    rw [hreached]
    exact (hwords _).trans (if_pos rfl)
  · refine (hwords x).trans ((if_neg hx).trans ?_)
    rw [hcel]
  · change v.cel.sectors = _
    rw [hcel]
  · change v.cel.programs = _
    rw [hcel]

/-- An event of the Salt Cellar's while a save runs is deferred (R378). -/
theorem fltRaise_cellar_saving {β : Type} (π : State → β) (hπ : ∀ (s : State) xf xt a b xp d, π { s with
      flt := xf, tly := xt, heads := ⟨{ s.heads.a with msix := a }, { s.heads.b with msix := b }⟩, pins := xp,
      hrv := { s.hrv with deferred := d } } = π s) {src : Nat} (hsrc : src = 0xB0 ∨ src = 0xB2) {s : State} (hsave : s.saving = true) :
    π (fltRaise src 0 s) = π s := by
  refine fltRaise_saving π hπ src 0 s hsave ?_
  rcases hsrc with rfl | rfl <;> (intro r hr; cases hr; rfl)

/-- A program that fails while a save runs leaves its word undefined and owes the sector's retirement (R421). -/
theorem programFailed_saving {n w : Nat} {d : BitVec 128} {s : State} (hsave : s.saving = true) :
    let t := programFailed n w d s
    t.cel.answer = .verifyFail ∧
    (∀ x, x ≠ s.reached n * 1024 + w → tblGet erasedWord t.cel.words x = tblGet erasedWord s.cel.words x) ∧
    t.cel.retireOwed = setAdd n s.cel.retireOwed ∧ t.cel.lastCode = 5 ∧ t.cel.sectors = s.cel.sectors ∧ t.cel.queue = s.cel.queue ∧
    t.dev = s.dev ∧ t.map = s.map := by
  let lost : CelWord := { data := Config.word s.free, count := if (s.celWord n w).count = 3 then 2 else 0 }
  have hfailed : programFailed n w d s =
      fltRaise 0xB0 0 (celFail 5 n w .verifyFail (oweRetire n (putCelWord (s.reached n) w lost s.draw))) := by
    unfold programFailed
    rw [if_pos hsave]
    exact if_neg Bool.false_ne_true
  have hwords := putCelWord_words (s.reached n) w lost s.draw
  obtain ⟨c, hput⟩ : ∃ c, putCelWord (s.reached n) w lost s.draw = { s.draw with cel := { s.cel with words := c } } := ⟨_, rfl⟩
  have howed : oweRetire n (putCelWord (s.reached n) w lost s.draw) =
      { s.draw with cel := { s.cel with words := c, retireOwed := setAdd n s.cel.retireOwed } } := by
    rw [hput]
    exact if_pos hsave
  rw [howed] at hfailed
  rw [hput] at hwords
  have hraised := fun {β : Type} π hπ => fltRaise_cellar_saving (β := β) π hπ (src := 0xB0) (.inl rfl) (s := celFail 5 n w .verifyFail
    { s.draw with cel := { s.cel with words := c, retireOwed := setAdd n s.cel.retireOwed } }) hsave
  have hcel := hraised State.cel fun _ _ _ _ _ _ _ => rfl
  have hdev := hraised State.dev fun _ _ _ _ _ _ _ => rfl
  have hmap := hraised State.map fun _ _ _ _ _ _ _ => rfl
  intro t
  rw [← hfailed] at hcel hdev hmap
  refine ⟨congrArg Cel.answer hcel, fun x hx => ?_, congrArg Cel.retireOwed hcel, congrArg Cel.lastCode hcel,
    Eq.trans (congrArg Cel.sectors hcel) rfl, Eq.trans (congrArg Cel.queue hcel) rfl, hdev, hmap⟩
  exact (congrArg (fun c => tblGet erasedWord (Cel.words c) x) hcel).trans ((hwords x).trans (if_neg hx))

theorem yields_cellarProgramDone_failed {u : CelUser} {n w : Nat} {d : BitVec 128} (k : Nat) {s : State}
    (hop : s.cel.op = .programming u n w d) (hqueue : s.cel.queue = []) (hsave : s.saving = true) :
    Yields (.cellarProgramDone k false) s fun t => t.cel.answer = .verifyFail ∧
      (∀ x, x ≠ s.reached n * 1024 + w → tblGet erasedWord t.cel.words x = tblGet erasedWord s.cel.words x) ∧
      t.cel.retireOwed = setAdd n s.cel.retireOwed ∧ t.cel.lastCode = 5 ∧ t.cel.sectors = s.cel.sectors ∧ t.dev = s.dev ∧ t.map = s.map := by
  have hdev := countProgram_keeps (steps := min 8 k) State.dev (fun _ _ => rfl) fun v _ _ hd =>
    fltRaise_cellar_saving State.dev (fun _ _ _ _ _ _ _ => rfl) (.inr rfl) ((saving_congr hd).trans hsave)
  have hmap := countProgram_keeps (steps := min 8 k) State.map (fun _ _ => rfl) fun v _ _ hd =>
    fltRaise_cellar_saving State.map (fun _ _ _ _ _ _ _ => rfl) (.inr rfl) ((saving_congr hd).trans hsave)
  obtain ⟨l, adv, hcel⟩ := countProgram_cel (steps := min 8 k) fun v _ _ hd =>
    fltRaise_cellar_saving State.cel (fun _ _ _ _ _ _ _ => rfl) (.inr rfl) ((saving_congr hd).trans hsave)
  have hexec : exec (.cellarProgramDone k false) s =
      .next (let v := countProgram (min 8 k) s
        let x := programFailed n w d v
        runQueue x.cel.queue x) := by
    change execCellarProgramDone k false s = _
    unfold execCellarProgramDone
    rw [hop]
    rfl
  generalize countProgram (min 8 k) s = v at *
  obtain ⟨hanswer, hwords, howed, hcode, hsectors, hkept, hfdev, hfmap⟩ :=
    programFailed_saving (n := n) (w := w) (d := d) ((saving_congr hdev).trans hsave)
  dsimp only at hexec
  generalize programFailed n w d v = z at *
  have hzqueue : z.cel.queue = [] := by rw [hkept, hcel]; exact hqueue
  have hreached : v.reached n = s.reached n := by unfold State.reached State.sector; rw [hcel]
  rw [hzqueue] at hexec
  refine ⟨_, hexec, hanswer, fun x hx => (hwords x (hreached ▸ hx)).trans ?_, ?_, hcode, hsectors.trans ?_, hfdev.trans hdev, hfmap.trans hmap⟩
  · rw [hcel]
  · refine howed.trans ?_
    rw [hcel]
  · rw [hcel]

/-! ### The end of an erase (R410) -/

theorem tblGet_filter {α : Type} (d : α) (p : Nat → Bool) (t : Tbl α) (x : Nat) :
    tblGet d (t.filter fun e => p e.1) x = if p x then tblGet d t x else d := by
  induction t with
  | nil => exact (ite_self d).symm
  | cons e t ih =>
    obtain ⟨k, v⟩ := e
    by_cases hk : k = x
    · subst hk
      cases hp : p k <;> simp [hp, tblGet, ih]
    · cases hp : p k <;> simp [hp, tblGet, ih, hk]

theorem clearSector_words (n : Nat) (s : State) (x : Nat) :
    tblGet erasedWord (clearSector n s).cel.words x = if x / 1024 = n then erasedWord else tblGet erasedWord s.cel.words x := by
  refine (tblGet_filter erasedWord (fun k => k / 1024 != n) s.cel.words x).trans ?_
  by_cases hx : x / 1024 = n
  · rw [if_pos hx, hx, bne_self_eq_false]
    rfl
  · rw [if_neg hx, if_pos (bne_iff_ne.mpr hx)]

theorem yields_cellarEraseDone {u : CelUser} {n : Nat} (k : Nat) {s : State} (hop : s.cel.op = .erasing u n) (hqueue : s.cel.queue = []) :
    Yields (.cellarEraseDone k true) s fun t =>
      (∀ x, tblGet erasedWord t.cel.words x = if x / 1024 = s.reached n then erasedWord else tblGet erasedWord s.cel.words x) ∧
      (t.sector (s.reached n)).flag = false ∧ t.cel.op = .idle ∧ t.cel.answer = .ok ∧ t = { s with cel := t.cel } := by
  obtain ⟨c, hcwords, hexec⟩ : ∃ c, c.words = s.cel.words ∧ exec (.cellarEraseDone k true) s = .next (runQueue s.cel.queue
      (celAnswer .ok (sectorUpd (s.reached n) (fun x => { x with flag := false }) (clearSector (s.reached n) { s with cel := c })))) := by
    refine ⟨{ s.cel with eraseSteps := (min 8 k :: s.cel.eraseSteps).take 64, erases := satAdd 8 s.cel.erases 1 }, rfl, ?_⟩
    change execCellarEraseDone k true s = _
    unfold execCellarEraseDone
    rw [hop]
    rfl
  rw [hqueue] at hexec
  have hwords := clearSector_words (s.reached n) { s with cel := c }
  have hflag := sectorUpd_sector (s.reached n) (fun x => { x with flag := false }) (clearSector (s.reached n) { s with cel := c })
  have hkept : (sectorUpd (s.reached n) (fun x => { x with flag := false }) (clearSector (s.reached n) { s with cel := c })).cel.words =
    (clearSector (s.reached n) { s with cel := c }).cel.words := rfl
  have hframe : ∃ y, sectorUpd (s.reached n) (fun x => { x with flag := false }) (clearSector (s.reached n) { s with cel := c }) =
    { s with cel := y } := ⟨_, rfl⟩
  generalize sectorUpd (s.reached n) (fun x => { x with flag := false }) (clearSector (s.reached n) { s with cel := c }) = v at *
  obtain ⟨y, rfl⟩ := hframe
  refine ⟨_, hexec, fun x => ?_, congrArg CelSector.flag hflag, rfl, rfl, rfl⟩
  exact (congrArg (fun z => tblGet erasedWord z x) hkept).trans ((hwords x).trans (by rw [hcwords]))

/-! ### Reads (R402, R412, R415 to R417) -/

/-- A read inside the array, by the four ways it can end. -/
theorem cellarRead_inside {n w : Nat} (a : Nat) (f : Bool) (x : Nat) {s : State} (hn : n < 2048) (hw : w < 1024) (hup : s.celUp = true) :
    exec (.cellarRead n w a f x) s =
    let c := s.celWord n w
    let d := if f = true then s.fetched n w c.data else c.data
    if s.cel.lines.contains (celLine n w) && !(s.sector (s.reached n)).flag then .next (celAnswer (.data d) s)
    else if s.cel.op ≠ .idle then
      .next { s with cel := { s.cel with
        answer := .waits, stalls := satAdd 16 s.cel.stalls 1, stallUs := max s.cel.stallUs (min s.cel.longestWait x) } }
    else if (s.sector (s.reached n)).flag then .next (celFail 6 n w .readFail s)
    else if c.count = 3 then .next (fillLine (celLine n w) (celAnswer (.data d) s))
    else if 5 ≤ a then .next (fltRaise 0xB0 0 (celFail 6 n w .readFail s))
    else .next (fillLine (celLine n w) (celAnswer (.data d) { s with cel := countRetry a s.cel })) := by
  have hinside : ¬ (decide (2048 ≤ n) || decide (1024 ≤ w)) = true := by simp [hn, hw]
  change execCellarRead n w a f x s = _
  unfold execCellarRead
  rw [if_neg hinside, hup]
  rfl

/-- A line that fills changes the cache and what is free, and nothing else. -/
theorem fillLine_cel (l : Nat) (s : State) :
    (fillLine l s).cel.answer = s.cel.answer ∧ (fillLine l s).cel.words = s.cel.words ∧ (fillLine l s).cel.sectors = s.cel.sectors ∧
    fillLine l s = { s with cel := (fillLine l s).cel, free := (fillLine l s).free } := by
  unfold fillLine
  dsimp only
  split <;> exact ⟨rfl, rfl, rfl, rfl⟩

theorem countRetry_words (a : Nat) (c : Cel) : (countRetry a c).words = c.words ∧ (countRetry a c).sectors = c.sectors := by
  unfold countRetry
  split <;> exact ⟨rfl, rfl⟩

/-- What a read that is answered leaves: the data, with every word and sector as it was. -/
def CellarReads (s : State) (d : BitVec 128) (t : State) : Prop :=
  t.cel.answer = .data d ∧ t.cel.words = s.cel.words ∧ t.cel.sectors = s.cel.sectors ∧ t = { s with cel := t.cel, free := t.free }

/-- A read whose miss fills its line, after its retries were counted. -/
theorem fillLine_reads (l : Nat) (d : BitVec 128) (c : Cel) (s : State) (hwords : c.words = s.cel.words) (hsectors : c.sectors = s.cel.sectors) :
    CellarReads s d (fillLine l (celAnswer (.data d) { s with cel := c })) := by
  obtain ⟨hanswer, hfwords, hfsectors, hframe⟩ := fillLine_cel l (celAnswer (.data d) { s with cel := c })
  generalize fillLine l (celAnswer (.data d) { s with cel := c }) = t at *
  exact ⟨hanswer, hfwords.trans hwords, hfsectors.trans hsectors, hframe⟩

theorem yields_cellarRead_answered {n w a : Nat} (f : Bool) (x : Nat) {s : State} (hn : n < 2048) (hw : w < 1024) (hup : s.celUp = true)
    (hidle : s.cel.op = .idle) (hflag : (s.sector (s.reached n)).flag = false) (hdecodes : a < 5 ∨ (s.celWord n w).count = 3) :
    Yields (.cellarRead n w a f x) s (CellarReads s (if f = true then s.fetched n w (s.celWord n w).data else (s.celWord n w).data)) := by
  have hexec := cellarRead_inside a f x hn hw hup
  dsimp only at hexec
  rw [hflag, hidle, Bool.not_false, Bool.and_true, if_neg (not_not_intro rfl), if_neg Bool.false_ne_true] at hexec
  generalize (if f = true then s.fetched n w (s.celWord n w).data else (s.celWord n w).data) = d at *
  cases hline : s.cel.lines.contains (celLine n w) with
  | true => exact ⟨_, hexec.trans (if_pos hline), rfl, rfl, rfl, rfl⟩
  | false =>
    rw [hline, if_neg Bool.false_ne_true] at hexec
    by_cases hcount : (s.celWord n w).count = 3
    · exact ⟨_, hexec.trans (if_pos hcount), fillLine_reads _ d s.cel s rfl rfl⟩
    · have hretry : ¬ 5 ≤ a := Nat.not_le.mpr (hdecodes.resolve_right hcount)
      obtain ⟨hwords, hsectors⟩ := countRetry_words a s.cel
      exact ⟨_, hexec.trans ((if_neg hcount).trans (if_neg hretry)), fillLine_reads _ d _ s hwords hsectors⟩

theorem yields_cellarRead_waits {n w : Nat} (a : Nat) (f : Bool) (x : Nat) {s : State} (hn : n < 2048) (hw : w < 1024) (hup : s.celUp = true)
    (hbusy : s.cel.op ≠ .idle) (hline : s.cel.lines.contains (celLine n w) = false) : Yields (.cellarRead n w a f x) s fun t =>
      t = { s with cel := { s.cel with
        answer := .waits, stalls := satAdd 16 s.cel.stalls 1, stallUs := max s.cel.stallUs (min s.cel.longestWait x) } } := by
  have hexec := cellarRead_inside a f x hn hw hup
  dsimp only at hexec
  rw [hline, Bool.false_and, if_neg Bool.false_ne_true, if_pos hbusy] at hexec
  exact ⟨_, hexec, rfl⟩

theorem yields_cellarRead_undecoded {n w a : Nat} (f : Bool) (x : Nat) {s : State} (hn : n < 2048) (hw : w < 1024) (hup : s.celUp = true)
    (hidle : s.cel.op = .idle) (hflag : (s.sector (s.reached n)).flag = false) (ha : 5 ≤ a) (hcount : (s.celWord n w).count ≠ 3)
    (hline : s.cel.lines.contains (celLine n w) = false) (hsave : s.saving = false) (hmild : s.mild 0xB0 = true) :
    Yields (.cellarRead n w a f x) s fun t =>
      t.cel = { s.cel with lastCode := 6, lastSector := n, lastWord := w, failCount := satAdd 8 s.cel.failCount 1, answer := .readFail } ∧
      t.dev = s.dev ∧ t.map = s.map := by
  have hexec := cellarRead_inside a f x hn hw hup
  dsimp only at hexec
  rw [hline, hflag, hidle, Bool.false_and, if_neg Bool.false_ne_true, if_neg (not_not_intro rfl), if_neg Bool.false_ne_true, if_neg hcount,
    if_pos ha] at hexec
  have hraise := fun {β : Type} π hπ =>
    fltRaise_mild (β := β) π hπ 0xB0 0 (s := s) (t := celFail 6 n w .readFail s) rfl rfl hsave hmild
  exact ⟨_, hexec, hraise State.cel fun _ _ _ _ _ _ => rfl, hraise State.dev fun _ _ _ _ _ _ => rfl, hraise State.map fun _ _ _ _ _ _ => rfl⟩

theorem yields_cellarRead_flagged {n w : Nat} (a : Nat) (f : Bool) (x : Nat) {s : State} (hn : n < 2048) (hw : w < 1024) (hup : s.celUp = true)
    (hidle : s.cel.op = .idle) (hflag : (s.sector (s.reached n)).flag = true) : Yields (.cellarRead n w a f x) s fun t =>
      t.cel.answer = .readFail ∧ t.cel.lastCode = 6 ∧ t.cel.words = s.cel.words ∧ t = { s with cel := t.cel } := by
  have hexec := cellarRead_inside a f x hn hw hup
  dsimp only at hexec
  rw [hflag, hidle, Bool.not_true, Bool.and_false, if_neg Bool.false_ne_true, if_neg (not_not_intro rfl), if_pos rfl] at hexec
  exact ⟨_, hexec, rfl, rfl, rfl, rfl⟩

theorem cellarAccess_outside {n w : Nat} (u : CelUser) (d : BitVec 128) (a : Nat) (f : Bool) (x : Nat) (s : State)
    (hout : 2048 ≤ n ∨ 1024 ≤ w) :
    exec (.cellarProgram u n w d) s = .fault .noSuchCell ∧ exec (.cellarRead n w a f x) s = .fault .noSuchCell := by
  have hcond : (decide (2048 ≤ n) || decide (1024 ≤ w)) = true := Bool.or_eq_true_iff.mpr (hout.imp decide_eq_true decide_eq_true)
  exact ⟨if_pos hcond, if_pos hcond⟩

/-- Settles O44: programs, erases and reads of the Salt Cellar, each by how it ends. -/
theorem cellarWords : Obligations.CellarWords := by
  unfold Obligations.CellarWords
  intro wordAt
  exact ⟨fun s u n w d hn hw hup hmay hidle hworn hflag =>
      ⟨fun htakes => yields_cellarProgram_taken hn hw hup hmay hidle hworn hflag htakes,
        fun htakes => yields_cellarProgram_notErased hn hw hup hmay hidle hworn hflag htakes⟩,
    fun s u n w d k hop hqueue hmild hsave => yields_cellarProgramDone k hop hqueue hmild hsave,
    fun s u n w d k hop hqueue hsave => yields_cellarProgramDone_failed k hop hqueue hsave,
    fun s u n hn hup hmay hidle => ⟨fun hsave => yields_cellarErase_saving hn hup hmay hsave,
      fun hsave hworn hcount => yields_cellarErase_begins hn hup hmay hidle hsave hworn hcount⟩,
    fun s u n w d hn hw hup hmay hidle hworn => yields_cellarProgram_worn hn hw hup hmay hidle hworn,
    fun s u n k hop hqueue => yields_cellarEraseDone k hop hqueue,
    fun s n w a x hn hw hup hidle hflag hdecodes f => yields_cellarRead_answered f x hn hw hup hidle hflag hdecodes,
    fun s n w a f x hn hw hup hbusy hline => yields_cellarRead_waits a f x hn hw hup hbusy hline,
    fun s n w a f x hn hw hup hidle hflag ha hcount hline hsave hmild =>
      yields_cellarRead_undecoded f x hn hw hup hidle hflag ha hcount hline hsave hmild,
    fun s n w a f x hn hw hup hidle hflag => yields_cellarRead_flagged a f x hn hw hup hidle hflag,
    fun s u n w d a h x hout => cellarAccess_outside u d a h x s hout,
    fun s u n hout => if_pos hout⟩

end Sys2Proof.Machine
end

section
/-!
PROOFS. A refutation by one state: a channel's write queue that holds a line of another channel. `Obligations.DramUpkeep` asks of a queue
only that no write stands in it twice; the row a column opens is that of the line's own channel (R304, R308).
-/
namespace Sys2Proof.Machine

/-- A source with nothing known of it. -/
def blankProfile : Profile :=
  { kind := 0, ident := 0, series := 0, vCeil := 0, vFloor := 0, vAbs := 0, ocv := [], cNom := 0, eNom := 0, esrNom := 0, pSave := 0, derate := []
    chargeMv := 0, chargeMa := 0, chargeTmin := 0, chargeTmax := 0, learnDays := 0, learnDepth := 0, learnTmin := 0, learnTmax := 0
    learnRestS := 0, ntc0 := none, ntc1 := none, plausLo := 0, plausHi := 0 }

/-- NAND parameters of no device. -/
def blankNand : NandParams :=
  { dies := 0, planes := 0, planePage := 0, spare := 0, pages := 0, blocks := 0, minGood := 0, luns := 0, mode := 0, rate := 0, maxRate := 0
    pslcEntry := [], tReadTyp := 0, tReadMax := 0, tProgTyp := 0, tProgMax := 0, tEraseTyp := 0, tEraseMax := 0, tSuspendMax := 0, tSoftMax := 0
    pslcPe := 0, iterWarn := 0, retryWarn := 0, relocate := 0, softCmd := [], retry := [], ident := 0, rakeBg := 0, spareMinGib := 0
    updateBlocks := 0 }

/-- Two DRAM channels that interleave nothing: the lines of the first 64 GiB are all on channel 0. -/
def twoChannels : DramParams :=
  { channels := 2, ranks := 1, stack := 1, density32 := false, chanGib := 64, ways := 1, grainLog := 0, hash0 := 0, hash1 := 0, hash2 := 0
    headClosed := false, panAttr := [], qos := [], scrubHours := 0, sets := [], idleMs := 0 }

/-- A layout that says nothing beyond its two channels. -/
def twoChannelLayout : Layout :=
  { schema := 3, signedBy := 0, digest := 0, profile := blankProfile, pmbus := [], pmbusKhz := 0
    gov := { kInit := 0, eff := [], eFixed := 0, eCkpt := 0, bMaxGib := 0, bGuardGib := 0, bMinGib := 0, cap0 := 0, cap1 := 0, wLife := 0
             yLife := 0, pauseMax := 0, allowUnarmed := false, holdoffMs := 0 }
    map := { epochMs := 0, hotEpochs := 0, auditS := 0, dirtyCap := 0 }, m1Frac := 0, m2Frac := 0, nand := blankNand, compress := false
    dram := twoChannels, pans := [], graceMs := 0, therm := { enable := [], thresh := [], restartC := 0 }, fltCfg := [], tlyMap := []
    tlyLists := [], confirmMin := 0, cascade := none, gpio := [], gpioInvert := [], smbus := 0 }

/-- A level-3 write to line 0, which is on channel 0, in the queue of channel 1; channel 0 has row 5 of bank 0 open. -/
def strayWrite : State :=
  { lay := { inForce := some twoChannelLayout }
    dmc := { powered := true, chans := [(0, { openRows := [(0, some (5, 0))] }), (1, { writeQ := [{ line := 0, rq := 5, us := 0 }] })] } }

/-- Channel 1's batch changes what channel 0 has open. -/
theorem strayWrite_batch : ∃ t, exec (.writeBatch 1 0) strayWrite = .next t ∧ (t.dchan 0).openRows ≠ (strayWrite.dchan 0).openRows :=
  ⟨_, rfl, by decide⟩

/-- Refutes O35: a batch of channel 1 that holds a line of channel 0 changes channel 0. -/
theorem not_dramUpkeep : ¬ Obligations.DramUpkeep := by
  unfold Obligations.DramUpkeep
  rintro ⟨hbatch, -⟩
  obtain ⟨htakes, -⟩ := hbatch strayWrite 1 0 (by decide) (by decide)
  obtain ⟨t, hexec, -, -, -, hone, -⟩ := htakes (.inr (by decide))
  obtain ⟨t', hexec', hrows⟩ := strayWrite_batch
  obtain rfl := Host.Outcome.next.inj (hexec.symm.trans hexec')
  exact hrows (congrArg DmcChan.openRows (hone 0 (by decide)))

end Sys2Proof.Machine
end

section
/-!
PROOFS. The CXL-defined queries: what each answers, with nothing else changed (R258, R279, R282 to R285).
-/
namespace Sys2Proof.Machine

/-- A query's outcome: an answer with a return code and a payload, and nothing else changed. -/
def CxlAnswered (h : Head) (op code : Nat) (p : Payload) (s t : State) : Prop :=
  t = { s with replies := t.replies } ∧ t.AnsweredCxl h op code p

theorem replyCxl_onlyAnswers (h : Head) (op code : Nat) (p : Payload) (s : State) : CxlAnswered h op code p s (replyCxl h op code p s) :=
  ⟨rfl, replyCxl_answered ..⟩

section
variable {i : Instr} {h : Head} {s : State}

/-- A served head's query that answers. -/
theorem yields_cxlQuery {k : State → State} {op code : Nat} {p : Payload} (hserved : s.served h = true)
    (hexec : exec i s = .next (cxlCmd h k s)) (hk : k s = replyCxl h op code p s) : Yields i s (CxlAnswered h op code p s) :=
  ⟨_, hexec.trans (congrArg Host.Outcome.next ((cxlCmd_served hserved).trans hk)), replyCxl_onlyAnswers ..⟩

theorem yields_cxlCmd_unserved {k : State → State} (hserved : s.served h = false) (hexec : exec i s = .next (cxlCmd h k s)) :
    Yields i s fun t => t = s :=
  ⟨s, hexec.trans (congrArg Host.Outcome.next (if_neg (ne_true_of_eq_false hserved))), rfl⟩

/-! ### Firmware, time, logs -/

theorem yields_getFwInfo (hserved : s.served h = true) : Yields (.getFwInfo h) s (CxlAnswered h 0x0200 0
    (.pairs [(2, if s.upd.running then 2 else 1), (1, ((s.upd.slot false).map fun i => i.version).getD 0),
      (2, ((s.upd.slot true).map fun i => i.version).getD 0)]) s) := by
  have hslot : b2n s.upd.running + 1 = if s.upd.running then 2 else 1 := by cases s.upd.running <;> rfl
  refine yields_cxlQuery hserved rfl ?_
  rw [hslot]

theorem yields_getTimestamp_unset (hserved : s.served h = true) (hunset : (s.heads.get h).stampBase = none) :
    Yields (.getTimestamp h) s (CxlAnswered h 0x0300 0 (.words [0, 0]) s) := by
  have hstamp : s.stamp h = 0 := by
    unfold State.stamp
    rw [hunset]
  exact yields_cxlQuery hserved rfl (congrArg (fun v => replyCxl h 0x0300 0 (.words [v % 2 ^ 32, v / 2 ^ 32]) s) hstamp)

theorem yields_getTimestamp_set {v u : Nat} (hserved : s.served h = true) (hset : (s.heads.get h).stampBase = some (v, u))
    (hfits : v + (s.dev.aonUs - u) * 1000 < 2 ^ 64) : Yields (.getTimestamp h) s fun t =>
      ∃ lo hi, CxlAnswered h 0x0300 0 (.words [lo, hi]) s t ∧ lo < 2 ^ 32 ∧ lo + hi * 2 ^ 32 = v + (s.dev.aonUs - u) * 1000 := by
  have hstamp : s.stamp h = v + (s.dev.aonUs - u) * 1000 := by
    unfold State.stamp
    rw [hset]
    exact Nat.mod_eq_of_lt hfits
  obtain ⟨t, hexec, hanswered⟩ : Yields (.getTimestamp h) s (CxlAnswered h 0x0300 0 (.words [s.stamp h % 2 ^ 32, s.stamp h / 2 ^ 32]) s) :=
    yields_cxlQuery hserved rfl rfl
  refine ⟨t, hexec, _, _, hanswered, Nat.mod_lt _ (by decide), ?_⟩
  rw [hstamp]
  exact Nat.mod_add_div' ..

theorem length_effectsLog : effectsLog.length = 164 := by
  unfold effectsLog
  rw [List.length_flatMap]
  rfl

theorem yields_getLog {a n : Nat} (hserved : s.served h = true) (hinside : a + n ≤ 164) : Yields (.getLog h a n) s fun t =>
    ∃ bs, CxlAnswered h 0x0401 0 (.bytes bs) s t ∧ bs.length = n := by
  obtain ⟨t, hexec, hanswered⟩ : Yields (.getLog h a n) s (CxlAnswered h 0x0401 0 (.bytes ((effectsLog.drop a).take n)) s) :=
    yields_cxlQuery hserved rfl (if_neg (Nat.not_lt.mpr hinside))
  refine ⟨t, hexec, _, hanswered, ?_⟩
  rw [List.length_take, List.length_drop, length_effectsLog]
  omega

/-! ### Health, poison, capacity -/

theorem lifeUsed_le (s : State) : s.lifeUsed ≤ 100 := by
  unfold State.lifeUsed percent
  split
  · exact Nat.zero_le _
  · exact Nat.min_le_left ..

theorem mediaStatus_eq (s : State) : s.mediaStatus =
    if s.gov.accessHeld = true ∨ s.fld.unlockWait = true then 1 else if s.dev.st = .armed then 0 else 2 := by
  unfold State.mediaStatus
  simp only [Bool.or_eq_true]

theorem yields_getHealthInfo (hserved : s.served h = true) : Yields (.getHealthInfo h) s fun t => ∃ temp,
    CxlAnswered h 0x4200 0 (.words [
      (if s.bed.health = 1 then 1 else if s.bed.health = 2 then 4 else 0),
      (if s.gov.accessHeld = true ∨ s.fld.unlockWait = true then 1 else if s.dev.st = .armed then 0 else 2),
      s.lifeUsed, temp, s.gov.dsc, s.dmc.hostCe]) s t ∧ s.lifeUsed ≤ 100 := by
  rw [← mediaStatus_eq s]
  obtain ⟨t, hexec, hanswered⟩ : Yields (.getHealthInfo h) s (CxlAnswered h 0x4200 0
      (.words [s.healthStatus, s.mediaStatus, s.lifeUsed, s.dieTemp, s.gov.dsc, s.dmc.hostCe]) s) := yields_cxlQuery hserved rfl rfl
  exact ⟨t, hexec, s.dieTemp, hanswered, lifeUsed_le s⟩

/-- The listed ranges that meet one asked for, as byte addresses and lengths (R187). -/
def State.poisonMeets (s : State) (h : Head) (a n : Nat) : List (Nat × Nat) :=
  (((s.poisonRanges h).take 4096).map fun r => (r.1 * granuleBytes, r.2 * granuleBytes)).filter fun r => r.1 < a + n && a < r.1 + r.2

theorem length_poisonMeets_le (s : State) (h : Head) (a n : Nat) : (s.poisonMeets h a n).length ≤ 4096 := by
  refine Nat.le_trans (List.length_filter_le ..) ?_
  rw [List.length_map, List.length_take]
  exact Nat.min_le_left ..

theorem poisonMeets_meets {a n : Nat} {r : Nat × Nat} (hr : r ∈ s.poisonMeets h a n) :
    r.1 % 4096 = 0 ∧ r.2 % 4096 = 0 ∧ r.1 < a + n ∧ a < r.1 + r.2 := by
  obtain ⟨hlisted, hmeets⟩ := List.mem_filter.mp hr
  obtain ⟨e, -, rfl⟩ := List.mem_map.mp hlisted
  obtain ⟨hbelow, habove⟩ := Bool.and_eq_true_iff.mp hmeets
  exact ⟨Nat.mul_mod_left .., Nat.mul_mod_left .., of_decide_eq_true hbelow, of_decide_eq_true habove⟩

theorem yields_getPoisonList (a n : Nat) (hserved : s.served h = true) : Yields (.getPoisonList h a n) s fun t =>
    ∃ rs, CxlAnswered h 0x4300 0 (.poison (s.heads.get h).poisonOverflow rs) s t ∧ rs.length ≤ 4096 ∧
      ∀ r ∈ rs, r.1 % 4096 = 0 ∧ r.2 % 4096 = 0 ∧ r.1 < a + n ∧ a < r.1 + r.2 := by
  obtain ⟨t, hexec, hanswered⟩ : Yields (.getPoisonList h a n) s (CxlAnswered h 0x4300 0
      (.poison (s.heads.get h).poisonOverflow (s.poisonMeets h a n)) s) := yields_cxlQuery hserved rfl rfl
  exact ⟨t, hexec, _, hanswered, length_poisonMeets_le .., fun r hr => poisonMeets_meets hr⟩

theorem yields_getDynamicCapacityExtentList {f : Nat} (n : Nat) (hserved : s.served h = true)
    (hf : f ≤ ((List.range s.panCount).filter fun n => decide ((s.pan n).state.grants h ≠ .none)).length) :
    Yields (.getDynamicCapacityExtentList h f n) s (CxlAnswered h 0x4801 0 (.pairs (((((List.range s.panCount).filter fun n =>
      decide ((s.pan n).state.grants h ≠ .none)).drop f).take n).map fun p => (p, (s.pan p).gen))) s) := by
  refine yields_cxlQuery hserved rfl ?_
  have hlength : ¬ (s.extents h).length < f := by
    unfold State.extents
    rw [List.length_map]
    exact Nat.not_lt.mpr hf
  dsimp only
  rw [if_neg hlength, State.extents, List.map_take, List.map_drop]

theorem yields_getDynamicCapacityExtentList_beyond {f : Nat} (n : Nat) (hserved : s.served h = true)
    (hf : ((List.range s.panCount).filter fun n => decide ((s.pan n).state.grants h ≠ .none)).length < f) :
    Yields (.getDynamicCapacityExtentList h f n) s (CxlAnswered h 0x4801 2 .empty s) := by
  refine yields_cxlQuery hserved rfl (if_pos ?_)
  unfold State.extents
  rw [List.length_map]
  exact hf

/-! ### Unknown opcodes (R279) -/

theorem yields_unsupportedCommand_vendor {op : Nat} (hserved : s.served h = true) (hlow : 0xC100 ≤ op) (hhigh : op ≤ 0xC1FF) :
    Yields (.unsupportedCommand h op) s fun t => t = { s with replies := t.replies } ∧ t.Answered h op 0xE .empty :=
  ⟨_, congrArg Host.Outcome.next ((cxlCmd_served hserved).trans
    (if_pos (Bool.and_eq_true_iff.mpr ⟨decide_eq_true hlow, decide_eq_true hhigh⟩))), rfl, reply_answered ..⟩

theorem yields_unsupportedCommand_other {op : Nat} (hserved : s.served h = true) (hother : op < 0xC100 ∨ 0xC1FF < op) :
    Yields (.unsupportedCommand h op) s (CxlAnswered h op 3 .empty s) := by
  refine yields_cxlQuery hserved rfl (if_neg fun hvendor => ?_)
  obtain ⟨hlow, hhigh⟩ := Bool.and_eq_true_iff.mp hvendor
  have hlow' := of_decide_eq_true hlow
  have hhigh' := of_decide_eq_true hhigh
  omega

end

/-- Settles O33: each query by its answer, and a head that is not served. -/
theorem cxlAnswers : Obligations.CxlAnswers := by
  unfold Obligations.CxlAnswers
  refine ⟨fun s h hserved => ?_, fun s h a hserved => ⟨yields_cxlCmd_unserved hserved rfl, yields_cxlCmd_unserved hserved rfl,
    yields_cxlCmd_unserved hserved rfl, yields_cxlCmd_unserved hserved rfl⟩⟩
  exact ⟨fun l => yields_cxlQuery hserved rfl rfl, yields_cxlQuery hserved rfl rfl, yields_getFwInfo hserved,
    fun hunset => yields_getTimestamp_unset hserved hunset, fun v u hset _ hfits => yields_getTimestamp_set hserved hset hfits,
    yields_cxlQuery hserved rfl rfl, fun a n hinside => yields_getLog hserved hinside,
    fun a n hbeyond => yields_cxlQuery hserved rfl (if_pos hbeyond), yields_cxlQuery hserved rfl rfl, yields_getHealthInfo hserved,
    yields_cxlQuery hserved rfl rfl, fun a n => yields_getPoisonList a n hserved, yields_cxlQuery hserved rfl rfl,
    fun f n hf => yields_getDynamicCapacityExtentList n hserved hf, fun f n hf => yields_getDynamicCapacityExtentList_beyond n hserved hf,
    fun op hlow hhigh => yields_unsupportedCommand_vendor hserved hlow hhigh, fun op hother => yields_unsupportedCommand_other hserved hother⟩

end Sys2Proof.Machine
end

section
/-!
PROOFS. A refutation by one state: a mailbox that still shows the answer to an earlier command. `Obligations.CxlSettings` asks that a head
whose Clear Poison waits at the fetch table has no answer in its mailbox; the model does not take back the answer to the command before.
-/
namespace Sys2Proof.Machine

/-- Head A may write pan 0, granule 0 is not restored, and the mailbox of Head A shows the answer to an earlier Get Timestamp. -/
def answeredBefore : State :=
  { dev := { st := .armed, startDue := false }
    heads := ⟨{ up := true }, {}⟩
    lay := { inForce := some twoChannelLayout }
    pans := [(0, { acc := ⟨.write, .none⟩ })]
    fld := { restored := { base := false } }
    replies := { mbox := ⟨some { opcode := 0x0300, code := 0, status := none, payload := .words [0, 0] }, none⟩ } }

/-- Clear Poison of granule 0 waits, with the earlier answer still in the mailbox. -/
theorem answeredBefore_clearPoison : ∃ t, exec (.clearPoison .a 0 (List.replicate 64 0)) answeredBefore = .next t ∧
    (t.replies.mbox.get .a).isSome = true :=
  ⟨_, rfl, by decide⟩

/-- Refutes O34: a Clear Poison that waits leaves the mailbox's earlier answer. -/
theorem not_cxlSettings : ¬ Obligations.CxlSettings := by
  unfold Obligations.CxlSettings
  intro hall
  obtain ⟨-, -, -, -, -, -, -, -, -, -, -, -, hwrite⟩ := hall answeredBefore .a (by decide)
  obtain ⟨hwaits, -⟩ := hwrite 0 ⟨0, 0, false, false, [], 0⟩ (by decide)
  obtain ⟨t, hexec, -, hnone, -⟩ := hwaits (List.replicate 64 0) (by decide) (by decide)
  obtain ⟨t', hexec', hsome⟩ := answeredBefore_clearPoison
  obtain rfl := Host.Outcome.next.inj (hexec.symm.trans hexec')
  rw [hnone] at hsome
  exact Bool.false_ne_true hsome

end Sys2Proof.Machine
end

section
/-!
PROOFS. What programs, parity and shedding reach in a save, and the pacing of a save (R140 to R142, R155).
-/
namespace Sys2Proof.Machine

/-! ### The store's work in a save

Programs, parity and shedding move the ledger, the drain's path and the store; of Harvest's own state they reach the counts and the shed step. -/

/-- What the store's work leaves alone. -/
def WorkFree {β : Type} (π : State → β) : Prop :=
  ∀ (s : State) m d b n k x, π { s with map := m, drn := d, bed := b, hrv := { s.hrv with bytes := n, saved := k, shed := x } } = π s

section
variable {β : Type} {π : State → β} (hπ : WorkFree π)
include hπ

theorem WorkFree.store (s : State) (m : SMap) (d : Drn) (b : Bed) : π { s with map := m, drn := d, bed := b } = π s :=
  hπ s m d b s.hrv.bytes s.hrv.saved s.hrv.shed

theorem WorkFree.bed (s : State) (b : Bed) : π { s with bed := b } = π s := hπ.store s s.map s.drn b

theorem WorkFree.marks (s : State) (m : SMap) (d : Drn) : π { s with map := m, drn := d } = π s := hπ.store s m d s.bed

theorem countBytes_work (use : ByteUse) (n : Nat) (s : State) : π (countBytes use n s) = π s := by
  have hcounts : (countBytes use n s).hrv =
      if s.saving && s.hrv.firstSent && !s.hrv.m3 then { s.hrv with bytes := s.hrv.bytes + n } else s.hrv := rfl
  have hhrv : ∃ k, (countBytes use n s).hrv = { s.hrv with bytes := k } := by
    rw [hcounts]
    split
    · exact ⟨_, rfl⟩
    · exact ⟨s.hrv.bytes, rfl⟩
  obtain ⟨k, hhrv⟩ := hhrv
  have hframe : countBytes use n s = { s with drn := (countBytes use n s).drn, hrv := (countBytes use n s).hrv } := rfl
  rw [hframe, hhrv]
  exact hπ s s.map _ s.bed k s.hrv.saved s.hrv.shed

theorem commitRec_work (r : BedRow) (p : StorePage) (x : GranRec) (s : State) : π (commitRec r p x s) = π s := by
  have hput : ∀ g e (v : State), π (hmPut g e v) = π v := fun g e v => hmPut_only π (fun v m d => hπ.marks v m d) g e v
  have hcommit : ∀ g (v : State), π (commitOp g v) = π v := fun g v => commitOp_only π (fun v m d => hπ.marks v m d) g v
  unfold commitRec
  split
  · split
    · exact hput ..
    · rfl
  · split
    · dsimp only
      split
      · exact (hπ _ _ _ _ _ _ _).trans ((hcommit ..).trans (hput ..))
      · exact (hπ.marks _ _ _).trans ((hcommit ..).trans (hput ..))
    · rfl

theorem parityCheck_work (seq stripe : Nat) (s : State) : π (parityCheck seq stripe s) = π s := by
  have hrow : ∀ n f (v : State), π (rowUpd n f v) = π v := fun n f v => rowUpd_only π hπ.bed n f v
  have htick : ∀ f (v : State), π (tickUpd f v) = π v := fun f v => tickUpd_only π (fun v d => hπ.marks v v.map d) f v
  unfold parityCheck
  split
  · rfl
  · dsimp only
    split
    · refine (countBytes_work hπ _ _ _).trans ((hπ.bed _ _).trans ((hrow ..).trans ?_))
      split
      · exact htick ..
      · rfl
    · rfl

theorem pageDone_work (p : StorePage) (s : State) : π (pageDone p s) = π s := by
  unfold pageDone
  split
  · rfl
  · rename_i r hr
    dsimp only
    refine (parityCheck_work hπ _ _ _).trans ((fullRows_only π hπ.bed _).trans ?_)
    have hbase : ∀ v : State, π ((p.whole).foldl (fun v x => commitRec r p x v) (countBytes p.use v.storePage v)) = π v := fun v =>
      (foldl_same π _ (fun v x => commitRec_work hπ r p x v) _ _).trans (countBytes_work hπ _ _ _)
    have hlast : ∀ (q : StorePage) (v : State), π (q.recs.getLast?.elim v fun x => commitRec r q x v) = π v := fun q v =>
      elim_same π _ _ _ (fun x => commitRec_work hπ r q x v)
    have hspill : ∀ (c : Bool) (v : State), π (if c = true then p.recs.getLast?.elim v fun x => commitRec r p x v else v) = π v := by
      intro c v
      split
      · exact hlast p v
      · rfl
    split
    · exact (hspill _ _).trans ((hbase _).trans (hπ.bed _ _))
    · exact (hlast _ _).trans ((hspill _ _).trans ((hbase _).trans (hπ.bed _ _)))

theorem closedParity_work (s : State) : π (closedParity s) = π s := by
  unfold closedParity
  refine (foldl_same π _ (fun v r => ?_) _ _).trans (foldl_same π _ (fun v p => parityCheck_work hπ (StorePage.rowSeq p) p.stripe v) _ _)
  split
  · exact parityCheck_work hπ _ _ _
  · rfl

theorem shedTo_work (step : Nat) (s : State) : π (shedTo step s) = π s := by
  unfold shedTo
  refine (narrowRows_only π hπ.bed _).trans ?_
  generalize hv : s.bed.staged.foldl (fun s p => if shedKeeps step p.channel then s else pageDone p s) s = v
  refine (hπ v v.map v.drn _ v.hrv.bytes v.hrv.saved step).trans ?_
  rw [← hv]
  refine foldl_same π _ (fun v p => ?_) _ _
  split
  · rfl
  · exact pageDone_work hπ p v

theorem secondShed_work (s : State) : π (secondShed s) = π s := by
  unfold secondShed
  split
  · exact shedTo_work hπ 2 s
  · rfl

theorem runTail_work (s : State) : π (runTail s) = π s := by
  unfold runTail
  exact (closedParity_work hπ _).trans ((hπ.bed _ _).trans (foldl_same π _ (fun v p => pageDone_work hπ _ v) _ _))

end

/-! ### The PHYs (R130, R141) -/

/-- What confirming the PHYs leaves alone. -/
def PhyFree {β : Type} (π : State → β) : Prop :=
  ∀ (s : State) xf xt xh xp d f, π { s with
    flt := xf, tly := xt, heads := xh, pins := xp, hrv := { s.hrv with deferred := d, phyForced := f } } = π s

theorem confirmPhys_free {β : Type} {π : State → β} (hπ : PhyFree π) (a b : Bool) {s : State} (hsave : s.saving = true) :
    π (confirmPhys a b s) = π s :=
  (confirmPhys_same π (fun s xf xt _ _ xp d => hπ s xf xt _ xp d s.hrv.phyForced) a b s hsave).trans
    (hπ s s.flt s.tly _ s.pins s.hrv.deferred _)

theorem confirmPhys_off (a b : Bool) {s : State} (hsave : s.saving = true) :
    (confirmPhys a b s).heads.a.phyOff = true ∧ (confirmPhys a b s).heads.b.phyOff = true ∧
    (confirmPhys a b s).hrv.phyForced = (s.hrv.phyForced || !a || !b) :=
  ⟨confirmPhys_same (fun s => s.heads.a.phyOff) (fun _ _ _ _ _ _ _ => rfl) a b s hsave,
    confirmPhys_same (fun s => s.heads.b.phyOff) (fun _ _ _ _ _ _ _ => rfl) a b s hsave,
    (confirmPhys_same (fun s => s.hrv.phyForced) (fun _ _ _ _ _ _ _ => rfl) a b s hsave).trans (Bool.or_assoc ..).symm⟩

theorem confirmOnce_free {β : Type} {π : State → β} (hπ : PhyFree π) (a b : Bool) {s : State} (hsave : s.saving = true) :
    π (confirmOnce a b s) = π s := by
  unfold confirmOnce
  split
  · rfl
  · exact confirmPhys_free hπ a b hsave

theorem confirmOnce_off (a b : Bool) {s : State} (hsave : s.saving = true) :
    (confirmOnce a b s).heads.a.phyOff = true ∧ (confirmOnce a b s).heads.b.phyOff = true := by
  unfold confirmOnce
  split
  case isTrue hoff => exact Bool.and_eq_true_iff.mp hoff
  case isFalse =>
    obtain ⟨ha, hb, -⟩ := confirmPhys_off a b hsave
    exact ⟨ha, hb⟩

theorem confirmOnce_same {a b : Bool} {s : State} (ha : s.heads.a.phyOff = true) (hb : s.heads.b.phyOff = true) : confirmOnce a b s = s :=
  if_pos (by rw [ha, hb]; rfl)

/-! ### Milestones and the end of the data phase (R140 to R142) -/

/-- What the milestones leave alone: the PHYs, the store's work, and Harvest's record of the milestones themselves are theirs. -/
def PaceFree {β : Type} (π : State → β) : Prop :=
  ∀ (s : State) xf xt xh xp xi m d b y, π { s with
    flt := xf, tly := xt, heads := xh, pins := xp, pip := xi, map := m, drn := d, bed := b, hrv := y } = π s

section
variable {β : Type} {π : State → β} (hπ : PaceFree π)
include hπ

theorem PaceFree.work : WorkFree π := fun s m d b n k x =>
  hπ s s.flt s.tly s.heads s.pins s.pip m d b { s.hrv with bytes := n, saved := k, shed := x }

theorem PaceFree.phys : PhyFree π := fun s xf xt xh xp d f =>
  hπ s xf xt xh xp s.pip s.map s.drn s.bed { s.hrv with deferred := d, phyForced := f }

theorem PaceFree.hrv (s : State) (y : Hrv) : π { s with hrv := y } = π s := hπ s s.flt s.tly s.heads s.pins s.pip s.map s.drn s.bed y

theorem repace_pace (s : State) : π (repace s) = π s := repace_points π (fun s _ _ _ _ _ => hπ.hrv s _) s

theorem passM1_pace (s : State) : π (passM1 s) = π s := by
  unfold passM1
  split
  · exact hπ s s.flt s.tly s.heads s.pins _ s.map s.drn s.bed _
  · rfl

theorem passM2_pace (a b : Bool) {s : State} (hsave : s.saving = true) : π (passM2 a b s) = π s := by
  unfold passM2
  split
  · refine (secondShed_work hπ.work _).trans (Eq.trans (confirmPhys_free hπ.phys a b ?_) (hπ.hrv s _))
    exact hsave
  · rfl

theorem endData_pace (p : Bool) (s : State) : π (endData p s) = π s :=
  endData_only π (fun s m d h b => hπ s s.flt s.tly s.heads s.pins s.pip m d b h) p s

end

theorem passM1_spec (s : State) :
    (passM1 s).hrv.m1 = (s.hrv.m1 || decide (s.hrv.pM1 ≤ s.sal.econs)) ∧
    (s.hrv.pM1 ≤ s.sal.econs → s.hrv.m1 = false → (passM1 s).pip.fast = true) ∧
    (∃ m e, (passM1 s).hrv = { s.hrv with m1 := m, eM1 := e }) ∧ (passM1 s).heads = s.heads := by
  have hpass : passM1 s = if s.hrv.pM1 ≤ s.sal.econs && !s.hrv.m1 then
    { s with hrv := { s.hrv with m1 := true, eM1 := s.sal.econs }, pip := { s.pip with fast := true } } else s := rfl
  by_cases hpoint : s.hrv.pM1 ≤ s.sal.econs
  · cases hm : s.hrv.m1 with
    | false =>
      rw [hpass, if_pos (by rw [decide_eq_true hpoint, hm]; rfl), decide_eq_true hpoint]
      exact ⟨rfl, fun _ _ => rfl, ⟨_, _, rfl⟩, rfl⟩
    | true =>
      rw [hpass, if_neg (by rw [hm, Bool.not_true, Bool.and_false]; decide)]
      exact ⟨hm, fun _ h => absurd h (by decide), ⟨_, _, rfl⟩, rfl⟩
  · rw [hpass, if_neg (by rw [decide_eq_false hpoint, Bool.false_and]; decide), decide_eq_false hpoint, Bool.or_false]
    exact ⟨rfl, fun h => absurd h hpoint, ⟨_, _, rfl⟩, rfl⟩

/-- What is left of Harvest's state when the counts, the shed step, the PHYs' part and M2 are set aside. -/
def Hrv.core (h : Hrv) : Hrv :=
  { h with bytes := 0, saved := 0, shed := 0, deferred := 0, phyForced := false, m2 := false, eM2 := 0 }

theorem passM2_spec (a b : Bool) {s : State} (hsave : s.saving = true) :
    (passM2 a b s).hrv.m2 = (s.hrv.m2 || decide (s.hrv.pM2 ≤ s.sal.econs)) ∧ (passM2 a b s).hrv.core = s.hrv.core ∧
    (passM2 a b s).pip = s.pip ∧
    (s.hrv.pM2 ≤ s.sal.econs → s.hrv.m2 = false → (passM2 a b s).heads.a.phyOff = true ∧ (passM2 a b s).heads.b.phyOff = true ∧
      (passM2 a b s).hrv.phyForced = (s.hrv.phyForced || !a || !b)) := by
  let v : State := { s with hrv := { s.hrv with m2 := true, eM2 := s.sal.econs } }
  have hpass : passM2 a b s = if s.hrv.pM2 ≤ s.sal.econs && !s.hrv.m2 then secondShed (confirmPhys a b v) else s := rfl
  by_cases hpoint : s.hrv.pM2 ≤ s.sal.econs
  · cases hm : s.hrv.m2 with
    | false =>
      rw [hpass, if_pos (by rw [decide_eq_true hpoint, hm]; rfl), decide_eq_true hpoint]
      have hwork := fun {β : Type} (π : State → β) hπ => secondShed_work (π := π) hπ (confirmPhys a b v)
      obtain ⟨hoffa, hoffb, hforced⟩ := confirmPhys_off (s := v) a b hsave
      refine ⟨?_, ?_, ?_, fun _ _ => ⟨?_, ?_, ?_⟩⟩
      · exact (hwork (fun s => s.hrv.m2) fun _ _ _ _ _ _ _ => rfl).trans
          (confirmPhys_free (π := fun s => s.hrv.m2) (fun _ _ _ _ _ _ _ => rfl) a b (s := v) hsave)
      · exact (hwork (fun s => s.hrv.core) fun _ _ _ _ _ _ _ => rfl).trans
          (confirmPhys_free (π := fun s => s.hrv.core) (fun _ _ _ _ _ _ _ => rfl) a b (s := v) hsave)
      · exact (hwork State.pip fun _ _ _ _ _ _ _ => rfl).trans
          (confirmPhys_free (π := State.pip) (fun _ _ _ _ _ _ _ => rfl) a b (s := v) hsave)
      · exact (hwork (fun s => s.heads.a.phyOff) fun _ _ _ _ _ _ _ => rfl).trans hoffa
      · exact (hwork (fun s => s.heads.b.phyOff) fun _ _ _ _ _ _ _ => rfl).trans hoffb
      · exact (hwork (fun s => s.hrv.phyForced) fun _ _ _ _ _ _ _ => rfl).trans hforced
    | true =>
      rw [hpass, if_neg (by rw [hm, Bool.not_true, Bool.and_false]; decide)]
      exact ⟨hm, rfl, rfl, fun _ h => absurd h (by decide)⟩
  · rw [hpass, if_neg (by rw [decide_eq_false hpoint, Bool.false_and]; decide), decide_eq_false hpoint, Bool.or_false]
    exact ⟨rfl, rfl, rfl, fun h => absurd h hpoint⟩

/-- The data phase ends once the PHYs are confirmed: at the M3 point or not, with the milestones and the energy as they stood. -/
theorem endConfirmed_spec (p a b : Bool) {s : State} (hsave : s.saving = true) (hm3 : s.hrv.m3 = false) :
    let t := endData p (confirmOnce a b s)
    t.hrv.m3 = true ∧ t.hrv.m3Point = (s.hrv.m3Point || p) ∧ t.hrv.eM3 = s.sal.econs ∧ t.hrv.m1 = s.hrv.m1 ∧ t.hrv.m2 = s.hrv.m2 ∧
    t.heads.a.phyOff = true ∧ t.heads.b.phyOff = true ∧ t.pip = s.pip ∧
    (s.heads.a.phyOff = true → s.heads.b.phyOff = true → t.hrv.phyForced = s.hrv.phyForced) := by
  have hconfirm := fun {β : Type} (π : State → β) hπ => confirmOnce_free (π := π) hπ a b hsave
  have hm3' := (hconfirm (fun s => s.hrv.m3) fun _ _ _ _ _ _ _ => rfl).trans hm3
  have hpoint := hconfirm (fun s => s.hrv.m3Point) fun _ _ _ _ _ _ _ => rfl
  have hecons := hconfirm (fun s => s.sal.econs) fun _ _ _ _ _ _ _ => rfl
  have hm1 := hconfirm (fun s => s.hrv.m1) fun _ _ _ _ _ _ _ => rfl
  have hm2 := hconfirm (fun s => s.hrv.m2) fun _ _ _ _ _ _ _ => rfl
  have hpip := hconfirm State.pip fun _ _ _ _ _ _ _ => rfl
  have hforced : s.heads.a.phyOff = true → s.heads.b.phyOff = true → (confirmOnce a b s).hrv.phyForced = s.hrv.phyForced :=
    fun ha hb => by rw [confirmOnce_same ha hb]
  obtain ⟨hoffa, hoffb⟩ := confirmOnce_off a b hsave
  generalize confirmOnce a b s = u at *
  obtain ⟨e1, e2, e3, e4, e5, e6, -⟩ := endData_marks p u hm3'
  have hheads : (endData p u).heads = u.heads := endData_only State.heads (fun _ _ _ _ _ => rfl) p u
  have hupip : (endData p u).pip = u.pip := endData_only State.pip (fun _ _ _ _ _ => rfl) p u
  exact ⟨e1, e2.trans (by rw [hpoint]), e3.trans hecons, e4.trans hm1, e5.trans hm2, by rw [hheads]; exact hoffa, by rw [hheads]; exact hoffb,
    hupip.trans hpip, fun ha hb => e6.trans (hforced ha hb)⟩

end Sys2Proof.Machine
end

section
/-!
PROOFS. A publication of SAL_ECONS in a save, and the end of an exhausted data phase (R140 to R142, R153, R155).
-/
namespace Sys2Proof.Machine

/-- After M1 and M2 a publication ends the data phase, at the M3 point or not, or leaves it running. -/
theorem milestones_cases (a b : Bool) (s : State) :
    let u := passM2 a b (passM1 s)
    (∃ e, milestones a b s = endData (decide (u.hrv.pM3 ≤ u.sal.econs)) (confirmOnce a b { u with hrv := { u.hrv with thermalEnd := e } })) ∨
    (milestones a b s = u ∧ ¬ u.hrv.pM3 ≤ u.sal.econs ∧ u.hrv.thermalEnd = false ∧ u.hrv.endNow = false) := by
  unfold milestones
  dsimp only
  generalize passM2 a b (passM1 s) = u
  by_cases hpoint : u.hrv.pM3 ≤ u.sal.econs
  · rw [if_pos hpoint, decide_eq_true hpoint]
    exact .inl ⟨false, rfl⟩
  · rw [if_neg hpoint, decide_eq_false hpoint]
    cases hthermal : u.hrv.thermalEnd with
    | true =>
      refine .inl ⟨true, ?_⟩
      rw [if_pos rfl, ← hthermal]
    | false =>
      rw [if_neg Bool.false_ne_true]
      split
      case isTrue => exact .inl ⟨false, rfl⟩
      case isFalse hdone =>
        refine .inr ⟨rfl, hpoint, rfl, ?_⟩
        cases hnow : u.hrv.endNow with
        | false => rfl
        | true => exact absurd (by rw [hnow, Bool.true_or]) hdone

/-- What the milestones that a publication crosses leave of a save that is still in its data phase. -/
theorem milestones_spec (a b : Bool) {s : State} (hsave : s.saving = true) (hm3 : s.hrv.m3 = false) :
    let e := s.sal.econs
    let t := milestones a b s
    t.hrv.m1 = (s.hrv.m1 || decide (s.hrv.pM1 ≤ e)) ∧ t.hrv.m2 = (s.hrv.m2 || decide (s.hrv.pM2 ≤ e)) ∧
    (s.hrv.pM3 ≤ e ∨ s.hrv.thermalEnd = true ∨ s.hrv.endNow = true → t.hrv.m3 = true ∧
      t.hrv.m3Point = (s.hrv.m3Point || decide (s.hrv.pM3 ≤ e)) ∧ t.hrv.eM3 = e ∧ t.heads.a.phyOff = true ∧ t.heads.b.phyOff = true) ∧
    (s.hrv.pM1 ≤ e → s.hrv.m1 = false → t.pip.fast = true) ∧
    (s.hrv.pM2 ≤ e → s.hrv.m2 = false → t.heads.a.phyOff = true ∧ t.heads.b.phyOff = true ∧
      t.hrv.phyForced = (s.hrv.phyForced || !a || !b)) := by
  intro e t
  have hpass1 := fun {β : Type} (π : State → β) hπ => passM1_pace (π := π) hπ s
  have hecons1 : (passM1 s).sal.econs = e := hpass1 (fun s => s.sal.econs) fun _ _ _ _ _ _ _ _ _ _ => rfl
  have hsave1 : (passM1 s).saving = true := (hpass1 State.saving fun _ _ _ _ _ _ _ _ _ _ => rfl).trans hsave
  obtain ⟨hm1, hfast, ⟨m, x, hhrv⟩, -⟩ := passM1_spec s
  have hcases := milestones_cases a b s
  have hpass2 := fun {β : Type} (π : State → β) hπ => passM2_pace (π := π) hπ a b hsave1
  obtain ⟨hm2, hcore, hpip, hoff⟩ := passM2_spec a b hsave1
  have hecons : (passM2 a b (passM1 s)).sal.econs = e := (hpass2 (fun s => s.sal.econs) fun _ _ _ _ _ _ _ _ _ _ => rfl).trans hecons1
  have hsave2 : (passM2 a b (passM1 s)).saving = true := (hpass2 State.saving fun _ _ _ _ _ _ _ _ _ _ => rfl).trans hsave1
  rw [hecons1, hhrv] at hm2 hoff
  rw [← hpip] at hfast
  dsimp only at hcases
  generalize passM2 a b (passM1 s) = u at *
  have hum1 : u.hrv.m1 = (s.hrv.m1 || decide (s.hrv.pM1 ≤ e)) := (congrArg Hrv.m1 hcore).trans hm1
  rw [hhrv] at hcore
  have hum3 : u.hrv.m3 = false := (congrArg Hrv.m3 hcore).trans hm3
  have hpm3 : u.hrv.pM3 = s.hrv.pM3 := (congrArg Hrv.pM3 hcore).trans rfl
  have hpt : u.hrv.m3Point = s.hrv.m3Point := (congrArg Hrv.m3Point hcore).trans rfl
  have hthermal : u.hrv.thermalEnd = s.hrv.thermalEnd := (congrArg Hrv.thermalEnd hcore).trans rfl
  have hnow : u.hrv.endNow = s.hrv.endNow := (congrArg Hrv.endNow hcore).trans rfl
  rcases hcases with ⟨y, hend⟩ | ⟨hrun, hpoint, hte, hen⟩
  · obtain ⟨e1, e2, e3, e4, e5, e6, e7, e8, e9⟩ := endConfirmed_spec (decide (u.hrv.pM3 ≤ u.sal.econs)) a b
      (s := { u with hrv := { u.hrv with thermalEnd := y } }) hsave2 hum3
    rw [show t = _ from hend]
    refine ⟨e4.trans hum1, e5.trans hm2, fun _ => ⟨e1, e2.trans ?_, e3.trans hecons, e6, e7⟩, fun hp hf => ?_, fun hp hf => ?_⟩
    · rw [hpm3, hecons]
      exact congrArg (· || _) hpt
    · rw [e8]
      exact hfast hp hf
    · obtain ⟨ha, hb, hforced⟩ := hoff hp hf
      exact ⟨e6, e7, (e9 ha hb).trans hforced⟩
  · rw [hpm3, hecons] at hpoint
    rw [hthermal] at hte
    rw [hnow] at hen
    rw [show t = u from hrun]
    refine ⟨hum1, hm2, fun hends => ?_, hfast, hoff⟩
    rcases hends with h | h | h
    · exact absurd h hpoint
    · exact absurd (hte.symm.trans h) (by decide)
    · exact absurd (hen.symm.trans h) (by decide)

theorem milestones_pace {β : Type} {π : State → β} (hπ : PaceFree π) (a b : Bool) {s : State} (hsave : s.saving = true) :
    π (milestones a b s) = π s := by
  have hsave1 : (passM1 s).saving = true := (passM1_pace (π := State.saving) (fun _ _ _ _ _ _ _ _ _ _ => rfl) s).trans hsave
  have hsave2 : (passM2 a b (passM1 s)).saving = true :=
    (passM2_pace (π := State.saving) (fun _ _ _ _ _ _ _ _ _ _ => rfl) a b hsave1).trans hsave1
  have hpassed : π (passM2 a b (passM1 s)) = π s := (passM2_pace hπ a b hsave1).trans (passM1_pace hπ s)
  have hcases := milestones_cases a b s
  dsimp only at hcases
  generalize passM2 a b (passM1 s) = u at *
  rcases hcases with ⟨y, hend⟩ | ⟨hrun, -⟩
  · rw [hend]
    refine (endData_pace hπ _ _).trans (Eq.trans (confirmOnce_free hπ.phys a b (s := { u with hrv := { u.hrv with thermalEnd := y } }) hsave2) ?_)
    exact (hπ.hrv u _).trans hpassed
  · rw [hrun]
    exact hpassed

/-! ### The commands -/

/-- A publication's first act: the accumulated energy in whole millijoules (R60). -/
def published (s : State) : State := { s with sal := { s.sal with econs := s.sal.accUj / 1000 } }

theorem econsPublish_saving (a b : Bool) {s : State} (hsave : s.saving = true) : exec (.econsPublish a b) s =
    .next (if s.hrv.m3 then confirmOnce a b (published s) else milestones a b (repace (published s))) := by
  change execEconsPublish a b s = _
  unfold execEconsPublish
  rw [hsave]
  rfl

/-- Harvest's state but for the PHYs' part. -/
def Hrv.paced (h : Hrv) : Hrv := { h with deferred := 0, phyForced := false }

theorem yields_econsPublish_after {a b : Bool} {s : State} (hsave : s.saving = true) (hm3 : s.hrv.m3 = true) :
    Yields (.econsPublish a b) s fun t =>
      t.sal = { s.sal with econs := s.sal.accUj / 1000 } ∧ t.hrv = { s.hrv with phyForced := t.hrv.phyForced, deferred := t.hrv.deferred } ∧
      t.dev = s.dev ∧ t.pip = s.pip ∧ t.map = s.map ∧ t.bed = s.bed ∧ t.jrn = s.jrn ∧ (∀ x, t.byteAt x = s.byteAt x) ∧
      t.heads.a.phyOff = true ∧ t.heads.b.phyOff = true ∧
      (s.heads.a.phyOff = true → s.heads.b.phyOff = true → t = { s with sal := { s.sal with econs := s.sal.accUj / 1000 } }) := by
  have hfree := fun {β : Type} (π : State → β) hπ => confirmOnce_free (π := π) hπ a b (s := published s) hsave
  have hpaced := hfree (fun s => s.hrv.paced) fun _ _ _ _ _ _ _ => rfl
  have hdram := hfree State.dram fun _ _ _ _ _ _ _ => rfl
  obtain ⟨hoffa, hoffb⟩ := confirmOnce_off a b (s := published s) hsave
  refine ⟨confirmOnce a b (published s), (econsPublish_saving a b hsave).trans (congrArg _ (if_pos hm3)), hfree State.sal fun _ _ _ _ _ _ _ => rfl,
    ?_, hfree State.dev fun _ _ _ _ _ _ _ => rfl, hfree State.pip fun _ _ _ _ _ _ _ => rfl, hfree State.map fun _ _ _ _ _ _ _ => rfl,
    hfree State.bed fun _ _ _ _ _ _ _ => rfl, hfree State.jrn fun _ _ _ _ _ _ _ => rfl, fun x => congrArg (fun m => tblGet 0 m x) hdram,
    hoffa, hoffb, fun ha hb => confirmOnce_same ha hb⟩
  generalize confirmOnce a b (published s) = t at hpaced
  exact congrArg (fun h : Hrv => { h with phyForced := t.hrv.phyForced, deferred := t.hrv.deferred }) hpaced

theorem published_repaced {s : State} : (repace (published s)).saving = s.saving ∧ (repace (published s)).sal.econs = s.sal.accUj / 1000 ∧
    (repace (published s)).hrv.m1 = s.hrv.m1 ∧ (repace (published s)).hrv.m2 = s.hrv.m2 ∧ (repace (published s)).hrv.m3 = s.hrv.m3 ∧
    (repace (published s)).hrv.m3Point = s.hrv.m3Point ∧ (repace (published s)).hrv.phyForced = s.hrv.phyForced ∧
    (repace (published s)).hrv.thermalEnd = s.hrv.thermalEnd ∧ (repace (published s)).hrv.endNow = s.hrv.endNow := by
  have hpoints := fun {β : Type} (π : State → β) h => repace_points π h (published s)
  exact ⟨hpoints State.saving fun _ _ _ _ _ _ => rfl, hpoints (fun s => s.sal.econs) fun _ _ _ _ _ _ => rfl,
    hpoints (fun s => s.hrv.m1) fun _ _ _ _ _ _ => rfl, hpoints (fun s => s.hrv.m2) fun _ _ _ _ _ _ => rfl,
    hpoints (fun s => s.hrv.m3) fun _ _ _ _ _ _ => rfl, hpoints (fun s => s.hrv.m3Point) fun _ _ _ _ _ _ => rfl,
    hpoints (fun s => s.hrv.phyForced) fun _ _ _ _ _ _ => rfl, hpoints (fun s => s.hrv.thermalEnd) fun _ _ _ _ _ _ => rfl,
    hpoints (fun s => s.hrv.endNow) fun _ _ _ _ _ _ => rfl⟩

/-- A publication in the data phase: the milestones of the save, paced anew where it is in SALVAGE. -/
theorem econsPublish_before (a b : Bool) {s : State} (hsave : s.saving = true) (hm3 : s.hrv.m3 = false) :
    exec (.econsPublish a b) s = .next (milestones a b (repace (published s))) :=
  (econsPublish_saving a b hsave).trans (congrArg _ (if_neg (ne_true_of_eq_false hm3)))

theorem yields_econsPublish_before {a b : Bool} {s : State} (hsave : s.saving = true) (hm3 : s.hrv.m3 = false) :
    Yields (.econsPublish a b) s fun t =>
      let e := s.sal.accUj / 1000
      let r := repace { s with sal := { s.sal with econs := e } }
      t.sal.econs = e ∧ t.hrv.m1 = (s.hrv.m1 || decide (r.hrv.pM1 ≤ e)) ∧ t.hrv.m2 = (s.hrv.m2 || decide (r.hrv.pM2 ≤ e)) ∧
      (r.hrv.pM3 ≤ e → t.hrv.m3 = true ∧ t.hrv.m3Point = true ∧ t.hrv.eM3 = e) ∧
      (r.hrv.pM1 ≤ e → s.hrv.m1 = false → t.pip.fast = true) ∧
      (r.hrv.pM2 ≤ e → s.hrv.m2 = false → t.heads.a.phyOff = true ∧ t.heads.b.phyOff = true ∧
        t.hrv.phyForced = (s.hrv.phyForced || !a || !b)) ∧
      t.dev.st = s.dev.st ∧ t.jrn = s.jrn ∧ ∀ x, t.byteAt x = s.byteAt x := by
  obtain ⟨rsave, recons, r1, r2, r3, -, rforced, -, -⟩ := published_repaced (s := s)
  obtain ⟨m1, m2, m3, mfast, moff⟩ := milestones_spec a b (rsave.trans hsave) (r3.trans hm3)
  have hpace := fun {β : Type} (π : State → β) (hπ : PaceFree π) =>
    (milestones_pace hπ a b (rsave.trans hsave)).trans (repace_pace hπ (published s))
  have hdram := hpace State.dram fun _ _ _ _ _ _ _ _ _ _ => rfl
  rw [r1, recons] at m1
  rw [r2, recons] at m2
  rw [recons] at m3
  rw [recons, r1] at mfast
  rw [recons, r2, rforced] at moff
  refine ⟨_, econsPublish_before a b hsave hm3, hpace (fun s => s.sal.econs) fun _ _ _ _ _ _ _ _ _ _ => rfl, m1, m2, fun hp => ?_, mfast, moff,
    hpace (fun s => s.dev.st) fun _ _ _ _ _ _ _ _ _ _ => rfl, hpace State.jrn fun _ _ _ _ _ _ _ _ _ _ => rfl,
    fun x => congrArg (fun m => tblGet 0 m x) hdram⟩
  obtain ⟨h3, hpoint, he, -⟩ := m3 (.inl hp)
  exact ⟨h3, hpoint.trans (by rw [show decide ((repace (published s)).hrv.pM3 ≤ s.sal.accUj / 1000) = true from decide_eq_true hp, Bool.or_true]), he⟩

theorem yields_econsPublish_ends {a b : Bool} {s : State} (hsave : s.saving = true) (hm3 : s.hrv.m3 = false)
    (hends : s.hrv.thermalEnd = true ∨ s.hrv.endNow = true) : Yields (.econsPublish a b) s fun t =>
      let e := s.sal.accUj / 1000
      let r := repace { s with sal := { s.sal with econs := e } }
      t.hrv.m3 = true ∧ t.hrv.m3Point = (s.hrv.m3Point || decide (r.hrv.pM3 ≤ e)) ∧ t.hrv.eM3 = e ∧
      t.heads.a.phyOff = true ∧ t.heads.b.phyOff = true := by
  obtain ⟨rsave, recons, -, -, r3, rpoint, -, rthermal, rnow⟩ := published_repaced (s := s)
  obtain ⟨-, -, m3, -⟩ := milestones_spec a b (rsave.trans hsave) (r3.trans hm3)
  rw [recons, rpoint, rthermal, rnow] at m3
  exact ⟨_, econsPublish_before a b hsave hm3, m3 (.inr hends)⟩

theorem yields_dataPhaseEnd {a b : Bool} {s : State} (hsave : s.saving = true) (hm3 : s.hrv.m3 = false) (hdone : s.backlogDone = true) :
    Yields (.dataPhaseEnd a b) s fun t =>
      t.hrv.m3 = true ∧ t.hrv.m3Point = s.hrv.m3Point ∧ t.hrv.eM3 = s.sal.econs ∧ t.dev.st = s.dev.st ∧ t.jrn = s.jrn ∧
      t.heads.a.phyOff = true ∧ t.heads.b.phyOff = true ∧ ∀ x, t.byteAt x = s.byteAt x := by
  let v : State := { s with hrv := { s.hrv with thermalEnd := false } }
  have hpace := fun {β : Type} (π : State → β) (hπ : PaceFree π) =>
    (endData_pace hπ false (confirmOnce a b v)).trans ((confirmOnce_free hπ.phys a b (s := v) hsave).trans (hπ.hrv s _))
  have hdram := hpace State.dram fun _ _ _ _ _ _ _ _ _ _ => rfl
  obtain ⟨e1, e2, e3, -, -, e6, e7, -, -⟩ := endConfirmed_spec false a b (s := v) hsave hm3
  exact ⟨_, if_pos (by rw [hsave, hm3, hdone]; rfl), e1, e2.trans (Bool.or_false _), e3, hpace (fun s => s.dev.st) fun _ _ _ _ _ _ _ _ _ _ => rfl,
    hpace State.jrn fun _ _ _ _ _ _ _ _ _ _ => rfl, e6, e7, fun x => congrArg (fun m => tblGet 0 m x) hdram⟩

/-- Settles O22: publications after M3 and before it, the ends that do not wait for a point, and an exhausted backlog. -/
theorem savePacing : Obligations.SavePacing := by
  unfold Obligations.SavePacing
  exact ⟨fun s a b hsave hm3 => yields_econsPublish_after hsave hm3, fun s a b hsave hm3 _ _ => yields_econsPublish_before hsave hm3,
    fun s a b hsave hm3 hends => yields_econsPublish_ends hsave hm3 hends, fun s a b hsave hm3 hdone => yields_dataPhaseEnd hsave hm3 hdone⟩

end Sys2Proof.Machine
end

section
/-!
PROOFS. The end of a save (R143 to R150, R157): the checkpoint written at the tail, read back and sealed, and V_ABS's release.
-/
namespace Sys2Proof.Machine

/-! ### The checkpoint is written (R143 to R149) -/

theorem writeCopies_ckpts (a b : Bool) (s : State) : (writeCopies a b s).bed.ckpts = s.checkpoint a b :: s.bed.ckpts := by
  unfold writeCopies
  dsimp only
  refine (congrArg (fun d : Bed => d.ckpts) (countBytes_only (fun v => v.bed) (fun _ _ _ => rfl) _ _ _)).trans ?_
  refine congrArg (s.checkpoint a b :: ·) (foldl_same (fun v => v.bed.ckpts) _ (fun v p => ?_) _ _)
  split
  · rfl
  · rfl

theorem writeCopies_phase (a b : Bool) (s : State) : (writeCopies a b s).hrv.phase = s.hrv.phase ∧ (writeCopies a b s).hrv.eTail = s.hrv.eTail := by
  have hcount : ∀ (use : ByteUse) n (v : State), (countBytes use n v).hrv.phase = v.hrv.phase ∧ (countBytes use n v).hrv.eTail = v.hrv.eTail := by
    intro use n v
    exact ⟨countBytes_work (π := fun v => v.hrv.phase) (fun _ _ _ _ _ _ _ => rfl) use n v,
      countBytes_work (π := fun v => v.hrv.eTail) (fun _ _ _ _ _ _ _ => rfl) use n v⟩
  have hblocks : ∀ l : List (Nat × Nat), (l.foldl (fun t p => match s.ckptBlock p.1 p.2 with
      | none => t
      | some k => blkUpd p.1 p.2 k (fun x => { x with state := .ckpt, holds := s.hrv.saveSeq }) t) s).hrv = s.hrv := by
    refine fun l => foldl_same (fun v => v.hrv) _ (fun v p => ?_) _ _
    split
    · rfl
    · rfl
  refine ⟨(hcount _ _ _).1.trans ?_, (hcount _ _ _).2.trans ?_⟩
  · exact congrArg Hrv.phase (hblocks (s.copyDies false ++ s.copyDies true))
  · exact congrArg Hrv.eTail (hblocks (s.copyDies false ++ s.copyDies true))

/-- The tail's end in Harvest's own registers: what it drew, H4 next, and what no page of the save took. -/
def Hrv.tailEnd (h : Hrv) (drawn left chans : Nat) : Hrv :=
  { h with eTail := drawn, phase := 5, bothOnOne := chans = 1, unsaved := left }

/-- The state the checkpoint is made of: the tail run, its end noted. -/
def State.tailed (s : State) : State :=
  { runTail s with hrv := (runTail s).hrv.tailEnd (runTail s).sal.econs (runTail s).map.total (runTail s).activeCh.length }

theorem execTailComplete_written {s : State} (a b : Bool) (hsave : s.saving = true) (hm3 : s.hrv.m3 = true) (hphase : s.hrv.phase = 4)
    (hch : (runTail s).activeCh ≠ []) : execTailComplete true a b s = .next (dramRests (writeCopies a b (signEcdsa s.tailed))) := by
  have hn : (runTail s).activeCh.length ≠ 0 := by simpa using hch
  unfold execTailComplete
  rw [if_pos (by simp [hsave, hm3, hphase])]
  exact if_pos (by simpa using hn)

theorem yields_tailComplete_written {s : State} (a b : Bool) (hsave : s.saving = true) (hm3 : s.hrv.m3 = true) (hphase : s.hrv.phase = 4)
    (hch : (runTail s).activeCh ≠ []) : Yields (.tailComplete true a b) s fun t =>
      let u := runTail s
      t.hrv.phase = 5 ∧ t.hrv.eTail = s.sal.econs ∧ t.dev.st = s.dev.st ∧ t.jrn = s.jrn ∧
      ∃ c, t.bed.ckpts = c :: u.bed.ckpts ∧ c.copyA = (a && decide (u.copyDies false ≠ [])) ∧ c.copyB = (b && decide (u.copyDies true ≠ [])) ∧
        c.hdr.saveSeq = s.hrv.saveSeq ∧ c.isSealed = false ∧
        c.hdr.unsaved = u.map.total ∧ c.hdr.outcome = (if u.map.total = 0 then 1 else 2) := by
  refine ⟨_, execTailComplete_written a b hsave hm3 hphase hch, ?_⟩
  have hsal : (runTail s).sal = s.sal := runTail_work (π := fun v => v.sal) (fun _ _ _ _ _ _ _ => rfl) s
  have hdev : (runTail s).dev = s.dev := runTail_work (π := fun v => v.dev) (fun _ _ _ _ _ _ _ => rfl) s
  have hjrn : (runTail s).jrn = s.jrn := runTail_work (π := fun v => v.jrn) (fun _ _ _ _ _ _ _ => rfl) s
  have hseq : (runTail s).hrv.saveSeq = s.hrv.saveSeq := runTail_work (π := fun v => v.hrv.saveSeq) (fun _ _ _ _ _ _ _ => rfl) s
  have hw := writeCopies_phase a b (signEcdsa s.tailed)
  have hckpts : (dramRests (writeCopies a b (signEcdsa s.tailed))).bed.ckpts = (signEcdsa s.tailed).checkpoint a b :: (runTail s).bed.ckpts := by
    rw [(dramRests_frame _).2.2.2.2.2.2.2.2.2.1, writeCopies_ckpts]
    rfl
  refine ⟨?_, ?_, ?_, ?_, _, hckpts, rfl, rfl, hseq, rfl, rfl, rfl⟩
  · simp only [dramRests_frame, hw.1]
    rfl
  · simp only [dramRests_frame, hw.2]
    exact congrArg Sal.econs hsal
  · simp only [dramRests_frame, writeCopies_frame]
    exact congrArg (fun d : Dev => d.st) hdev
  · simp only [dramRests_frame, writeCopies_frame]
    exact hjrn

theorem yields_tailComplete_failed {s : State} (c a b : Bool) (hsave : s.saving = true) (hm3 : s.hrv.m3 = true) (hphase : s.hrv.phase = 4)
    (hfail : c = false ∨ (runTail s).activeCh = []) : Yields (.tailComplete c a b) s fun t =>
      t.hrv.phase = 5 ∧ t.hrv.failed = true ∧ t.bed.ckpts = (runTail s).bed.ckpts := by
  have hno : ¬(c && decide ((runTail s).activeCh.length ≠ 0)) = true := by
    rcases hfail with hc | hch
    · simp [hc]
    · simp [hch]
  have hnext : execTailComplete c a b s = .next (dramRests { s.tailed with hrv := { s.tailed.hrv with failed := true } }) := by
    unfold execTailComplete
    rw [if_pos (by simp [hsave, hm3, hphase])]
    exact if_neg hno
  refine ⟨_, hnext, ?_⟩
  simp [State.tailed, Hrv.tailEnd]

/-! ### The seal (R150, R157) -/

/-- What the read-back makes of the newest checkpoint (R150). -/
def Ckpt.checked (c : Ckpt) (a b : Bool) : Ckpt :=
  { c with copyA := c.copyA && a, copyB := c.copyB && b, isSealed := (c.copyA && a) || (c.copyB && b) }

theorem readBack_own (a b : Bool) {s : State} {c : Ckpt} {cs : List Ckpt} (hckpts : s.bed.ckpts = c :: cs)
    (hseq : c.hdr.saveSeq = s.hrv.saveSeq) (hfail : s.hrv.failed = false) :
    readBack a b s = { s with
      bed := { s.bed with ckpts := if ((c.copyA && a) || (c.copyB && b)) then c.checked a b :: cs else cs }
      hrv := { s.hrv with isSealed := (c.copyA && a) || (c.copyB && b), failed := !((c.copyA && a) || (c.copyB && b)) } } := by
  unfold readBack
  rw [hckpts]
  exact if_pos (by simp [hseq, hfail])

theorem journal_of_saving {s : State} (r : JRec) (hsave : s.saving = true) : s.journal r = { s with jrn := s.jrn ++ [r] } := by
  unfold State.journal
  rw [if_pos hsave]

/-- JOURNAL once the locator of a sealed save stands in it (R150). -/
def State.locatorJournal (s : State) : List JRec :=
  if s.hrv.isSealed then
    match s.bed.ckpts with
    | [] => s.jrn
    | c :: _ => s.jrn ++ [.locator s.hrv.saveSeq c.hdr.locA c.hdr.locB]
  else s.jrn

/-- What the device writes down before it is SEALED: the locator and the save's record, the open image closed by a sealed save (R150, R157). -/
def State.lastRecords (s : State) (r : SalRec) : List JRec :=
  if s.hrv.isSealed then closeImage (s.locatorJournal ++ [.salRec r]) else s.locatorJournal ++ [.salRec r]

/-- SEALED from what the save left: main's reset, Tally's ring gone, the trigger kept (R14, R157). -/
def State.sealedFrom (s : State) (trigger : Nat) : State :=
  let t := coreLost (mainReset 0 s)
  { t with
    dev := { t.dev with st := .sealed, startDue := false, savedBy := trigger, cycled := s.dev.cycled }
    sal := { t.sal with reanchor := true }
    thm := { t.thm with
      trip := trigger = 3, enable := s.thm.enable, thresh := s.thm.thresh, restartC := s.thm.restartC, inputs := s.thm.inputs } }

/-- The locator written by a sealed save (R150). -/
def State.located (s : State) : State :=
  if s.hrv.isSealed then
    match s.bed.ckpts with
    | [] => s
    | c :: _ => s.journal (.locator s.hrv.saveSeq c.hdr.locA c.hdr.locB)
  else s

theorem located_saving {s : State} (hsave : s.saving = true) : s.located = { s with jrn := s.locatorJournal } := by
  unfold State.located State.locatorJournal
  split
  · split
    · rfl
    · exact journal_of_saving _ hsave
  · rfl

/-- The save's record written after the locator, and the open image closed by a sealed save (R157). -/
def State.recorded (s : State) : State :=
  let w := saveSalRecord s.located
  let u := w.1.journal (.salRec w.2)
  if s.hrv.isSealed then { u with jrn := closeImage u.jrn } else u

theorem enterSealed_eq (s : State) : enterSealed true s =
    if s.recorded.pins.rstLatched && decide (s.hrv.trigger = 5) then startFrom 2 (s.recorded.sealedFrom s.hrv.trigger)
    else s.recorded.sealedFrom s.hrv.trigger := rfl

theorem enterSealed_recorded {s : State} (hsave : s.saving = true) (hlatch : s.pins.rstLatched = false) :
    ∃ v : State, ∃ r : SalRec, enterSealed true s = v.sealedFrom s.hrv.trigger ∧ r.typ = 1 ∧ r.cause = s.hrv.trigger ∧
      v.jrn = s.lastRecords r ∧ v.bed = s.bed := by
  have hlocator : s.located = { s with jrn := s.locatorJournal } := located_saving hsave
  generalize hw : saveSalRecord { s with jrn := s.locatorJournal } = w
  have hkeep : w.1.dev = s.dev ∧ w.1.hrv = s.hrv ∧ w.1.pins = s.pins ∧ w.1.bed = s.bed ∧ w.1.jrn = s.locatorJournal ∧
      w.2.typ = 1 ∧ w.2.cause = s.hrv.trigger := by
    rw [← hw]
    exact ⟨rfl, rfl, rfl, rfl, rfl, rfl, rfl⟩
  obtain ⟨hdev, hhrv, hpins, hbed, hjrn, htyp, hcause⟩ := hkeep
  have hjournal := journal_of_saving (s := w.1) (.salRec w.2) ((saving_congr hdev).trans hsave)
  have hvjrn : s.recorded.jrn = s.lastRecords w.2 ∧ s.recorded.bed = s.bed ∧ s.recorded.pins = s.pins := by
    unfold State.recorded State.lastRecords
    rw [hlocator, hw]
    dsimp only
    rw [hjournal]
    split
    · exact ⟨congrArg (fun l => closeImage (l ++ [.salRec w.2])) hjrn, hbed, hpins⟩
    · exact ⟨congrArg (fun l => l ++ [.salRec w.2]) hjrn, hbed, hpins⟩
  obtain ⟨hvj, hvb, hvp⟩ := hvjrn
  refine ⟨s.recorded, w.2, ?_, htyp, hcause, hvj, hvb⟩
  rw [enterSealed_eq]
  exact if_neg (by simp [hvp, hlatch])

theorem sealedFrom_spec (v : State) (trigger : Nat) :
    (v.sealedFrom trigger).dev.st = .sealed ∧ (v.sealedFrom trigger).dev.savedBy = trigger ∧ (v.sealedFrom trigger).sal.holdEn = false ∧
    (∀ x, (v.sealedFrom trigger).byteAt x = 0) ∧ (v.sealedFrom trigger).bed.ckpts = v.bed.ckpts ∧ (v.sealedFrom trigger).jrn = v.jrn := by
  have hsync := syncSettings_only (fun u => (u.jrn, u.bed.ckpts)) (fun _ _ _ => rfl) v
  exact ⟨rfl, rfl, rfl, fun _ => rfl, congrArg (fun p : _ × _ => p.2) hsync, congrArg (fun p : _ × _ => p.1) hsync⟩

theorem execSealSave_erasing {s : State} (a b d : Bool) {x : CelUser} {y : Nat} (herase : s.cel.op = .erasing x y) : execSealSave a b d s = .next s := by
  unfold execSealSave
  rw [herase]
  exact if_neg (by simp)

/-- A save whose copies are read back: the record of the seal's instant. -/
def State.readAt (s : State) (a b : Bool) : State :=
  { readBack a b s with hrv := { (readBack a b s).hrv with
    phase := 6, eEnd := (readBack a b s).sal.econs, ckptUs := (readBack a b s).dev.aonUs - (readBack a b s).hrv.m3Us } }

theorem execSealSave_idle {s : State} (a b d : Bool) (hsave : s.saving = true) (hphase : s.hrv.phase = 5)
    (herase : ∀ x y, s.cel.op ≠ .erasing x y) : execSealSave a b d s = .next (enterSealed d (s.readAt a b)) := by
  unfold execSealSave
  refine if_pos ?_
  cases hop : s.cel.op with
  | erasing x y => exact absurd hop (herase x y)
  | idle => simp [hsave, hphase]
  | programming _ _ _ _ => simp [hsave, hphase]

theorem yields_sealSave {s : State} {c : Ckpt} {cs : List Ckpt} (a b : Bool) (hsave : s.saving = true) (hphase : s.hrv.phase = 5)
    (hfail : s.hrv.failed = false) (hckpts : s.bed.ckpts = c :: cs) (herase : ∀ x y, s.cel.op ≠ .erasing x y)
    (hseq : c.hdr.saveSeq = s.hrv.saveSeq) (hlatch : s.pins.rstLatched = false) : Yields (.sealSave a b true) s fun t =>
      let ok := (c.copyA && a) || (c.copyB && b)
      t.dev.st = .sealed ∧ t.dev.savedBy = s.hrv.trigger ∧ t.sal.holdEn = false ∧ (∀ x, t.byteAt x = 0) ∧
      t.bed.ckpts = (if ok then { c with copyA := c.copyA && a, copyB := c.copyB && b, isSealed := true } :: cs else cs) ∧
      (ok = true → t.imageOpen = false ∧ ∃ r : SalRec, r.typ = 1 ∧ r.cause = s.hrv.trigger ∧
        t.jrn = closeImage (s.jrn ++ [.locator s.hrv.saveSeq c.hdr.locA c.hdr.locB, .salRec r])) ∧
      (ok = false → ∃ r : SalRec, r.typ = 1 ∧ t.jrn = s.jrn ++ [.salRec r]) := by
  have hback := readBack_own a b hckpts hseq hfail
  have hread : (s.readAt a b).saving = true ∧ (s.readAt a b).pins.rstLatched = false ∧ (s.readAt a b).hrv.trigger = s.hrv.trigger ∧
      (s.readAt a b).hrv.saveSeq = s.hrv.saveSeq ∧ (s.readAt a b).jrn = s.jrn ∧
      (s.readAt a b).hrv.isSealed = ((c.copyA && a) || (c.copyB && b)) ∧
      (s.readAt a b).bed.ckpts = if ((c.copyA && a) || (c.copyB && b)) then c.checked a b :: cs else cs := by
    unfold State.readAt
    rw [hback]
    exact ⟨hsave, hlatch, rfl, rfl, rfl, rfl, rfl⟩
  obtain ⟨hrsave, hrlatch, htrig, hrseq, hrjrn, hok, hrck⟩ := hread
  obtain ⟨v, r, hseal, htyp, hcause, hjrn, hbed⟩ := enterSealed_recorded hrsave hrlatch
  rw [htrig] at hseal hcause
  obtain ⟨hst, hby, hhold, hbytes, hck, hj⟩ := sealedFrom_spec v s.hrv.trigger
  refine ⟨_, (execSealSave_idle a b true hsave hphase herase).trans (congrArg Host.Outcome.next hseal), hst, hby, hhold, hbytes, ?_, ?_, ?_⟩
  · rw [hck, hbed, hrck]
    split
    · rename_i hgood
      exact congrArg (· :: cs) (by unfold Ckpt.checked; rw [hgood])
    · rfl
  · intro hgood
    have hlast : v.jrn = closeImage (s.jrn ++ [.locator s.hrv.saveSeq c.hdr.locA c.hdr.locB, .salRec r]) := by
      rw [hjrn]
      unfold State.lastRecords State.locatorJournal
      rw [hok, hgood, if_pos rfl, if_pos rfl, hrck, if_pos hgood, hrjrn, hrseq]
      exact congrArg closeImage (List.append_assoc ..)
    refine ⟨?_, r, htyp, hcause, hj.trans hlast⟩
    unfold State.imageOpen
    rw [hj, hlast]
    exact decide_eq_false (imageMarker_close _)
  · intro hbad
    refine ⟨r, htyp, hj.trans (hjrn.trans ?_)⟩
    unfold State.lastRecords State.locatorJournal
    rw [hok, hbad, hrjrn]
    rfl

/-! ### V_ABS (R61, R157) -/

theorem yields_vabsRelease {s : State} (hsave : s.saving = true) : Yields .vabsRelease s fun t =>
      t.dev.st = .halt ∧ t.dev.halt = .vabs ∧ t.dev.savedBy = s.hrv.trigger ∧ t.sal.holdEn = false ∧ t.gov.accessHeld = true ∧
      t.jrn = s.jrn ∧ t.bed = s.bed ∧ ∀ x, t.byteAt x = 0 := by
  refine ⟨_, if_pos hsave, ?_⟩
  have hkeep := enterHalt_only (fun v => (v.jrn, v.bed)) (fun _ _ _ _ _ _ _ _ _ _ _ _ _ _ => rfl) .vabs s
  obtain ⟨hjrn, hbed⟩ := Prod.mk.inj hkeep
  have hstop : (enterHalt .vabs s).dev.st = .halt ∧ (enterHalt .vabs s).dev.halt = .vabs ∧ (enterHalt .vabs s).sal.holdEn = false ∧
      (enterHalt .vabs s).gov.accessHeld = true ∧ (enterHalt .vabs s).dram = [] := by
    unfold enterHalt
    simp
  obtain ⟨hst, hhalt, hhold, hheld, hdram⟩ := hstop
  refine ⟨hst, hhalt, rfl, hhold, hheld, hjrn, hbed, fun x => ?_⟩
  unfold State.byteAt
  rw [show ({ enterHalt .vabs s with dev := { (enterHalt .vabs s).dev with savedBy := s.hrv.trigger } } : State).dram = [] from hdram]
  rfl

/-- Settles O23, through what the copies, the read-back and the entry into SEALED each leave. -/
theorem checkpointAndSeal : Obligations.CheckpointAndSeal := by
  refine ⟨fun s a b hsave hm3 hphase hch => yields_tailComplete_written a b hsave hm3 hphase hch,
    fun s c a b hsave hm3 hphase hfail => yields_tailComplete_failed c a b hsave hm3 hphase hfail,
    fun s a b d x y herase => execSealSave_erasing a b d herase,
    fun s c cs a b hsave hphase hfail hckpts herase hseq hlatch => yields_sealSave a b hsave hphase hfail hckpts herase hseq hlatch,
    fun s hsave => yields_vabsRelease hsave⟩

end Sys2Proof.Machine
end

section
/-!
PROOFS. Thermal Guard (R343 to R356): conversion, the levels and throttle steps, SHUT and the absolute limit, and the restart of a stopped chip.
-/
namespace Sys2Proof.Machine

/-! ### Conversion (R343) -/

/-- The lowest reading that counts as good, of the sensors of DRAM and of the die (R343). -/
def goodFloor (n : Nat) : Int := if 20 ≤ n then -720 else -880

theorem inputAfter_good {n : Nat} {v : Int} (x : ThmInput) (hgood : goodFloor n ≤ v) :
    (inputAfter n (.measured v) x).temp = some (min v 2240) ∧ (inputAfter n (.measured v) x).clamped = decide (2240 < v) ∧
    (inputAfter n (.measured v) x).badRun = 0 ∧ (inputAfter n (.measured v) x).goodRun = x.goodRun + 1 ∧
    (inputAfter n (.measured v) x).broken = (x.broken && decide (x.goodRun < 2)) := by
  have hno : badReading n (.measured v) = false := decide_eq_false (by unfold goodFloor at hgood; omega)
  have hmend : decide (3 ≤ x.goodRun + 1) = !decide (x.goodRun < 2) := by
    by_cases h : x.goodRun < 2
    · simp [h]
    · simp [h]
      omega
  unfold inputAfter
  rw [hno]
  refine ⟨rfl, rfl, rfl, rfl, ?_⟩
  show (!(!x.broken || decide (3 ≤ x.goodRun + 1))) = _
  rw [hmend]
  cases x.broken <;> simp

theorem inputAfter_bad {n : Nat} {r : ThmReading} (x : ThmInput) (hbad : badReading n r = true) :
    inputAfter n r x = { x with badRun := x.badRun + 1, goodRun := 0, broken := x.broken || decide (2 ≤ x.badRun) } := by
  have hrun : decide (3 ≤ x.badRun + 1) = decide (2 ≤ x.badRun) := decide_eq_decide.mpr (by omega)
  unfold inputAfter
  rw [if_pos hbad, hrun]

/-- Thermal Guard's own registers as a conversion's readings leave them, before its new breaks are raised. -/
def State.tookReadings (s : State) (l : List (Nat × ThmReading)) : Tbl ThmInput :=
  (l.filter fun r => s.thm.enable.contains r.1).foldl (fun t r => tblUpd {} r.1 (inputAfter r.1 r.2) t) s.thm.inputs

/-- The inputs that break at a conversion. -/
def State.newBreaks (s : State) (l : List (Nat × ThmReading)) : List (Nat × ThmReading) :=
  (l.filter fun r => s.thm.enable.contains r.1).filter fun r => (tblGet {} (s.tookReadings l) r.1).broken && !(s.thmIn r.1).broken

theorem trimSync_thm (s : State) : ∃ a b, trimSync s = { s with thm := { s.thm with oscTrim := a, bgTrim := b } } := by
  unfold trimSync
  split
  · split
    · exact ⟨s.thm.oscTrim, s.thm.bgTrim, rfl⟩
    · exact ⟨_, _, rfl⟩
  · exact ⟨_, _, rfl⟩

/-- The readings taken in and the hottest of them named (R343, R363). -/
def State.named (s : State) (l : List (Nat × ThmReading)) : State :=
  let v : State := { s with thm := { s.thm with
    inputs := s.tookReadings l, breaks := satAdd 8 s.thm.breaks (s.newBreaks l).length } }
  let hot := v.thm.enable.foldl (fun (b : Option (Nat × Int)) n =>
    match (v.thmIn n).shows with
    | none => b
    | some t =>
      match b with
      | none => some (n, t)
      | some x => if x.2 < t then some (n, t) else b) none
  match hot with
  | none => v
  | some h => { v with thm := { v.thm with hottest := h.2, hottestInput := h.1 } }

theorem named_thm (l : List (Nat × ThmReading)) (s : State) : ∃ h n, s.named l = { s with thm := { s.thm with
    inputs := s.tookReadings l, breaks := satAdd 8 s.thm.breaks (s.newBreaks l).length, hottest := h, hottestInput := n } } := by
  unfold State.named
  dsimp only
  split
  · exact ⟨s.thm.hottest, s.thm.hottestInput, rfl⟩
  · exact ⟨_, _, rfl⟩

/-- A conversion: the readings taken in and the hottest named, then one event per new break. -/
theorem convert_eq (l : List (Nat × ThmReading)) (s : State) : ∃ v : State, convert l s = (s.newBreaks l).foldl (fun v _ => fltRaise 0xA1 0 v) v ∧
    v.thm.inputs = s.tookReadings l ∧ v.thm.breaks = satAdd 8 s.thm.breaks (s.newBreaks l).length ∧
    v = { s with thm := v.thm } := by
  refine ⟨trimSync (s.named l), rfl, ?_⟩
  obtain ⟨x, y, htrim⟩ := trimSync_thm (s.named l)
  obtain ⟨h, n, hname⟩ := named_thm l s
  rw [htrim, hname]
  exact ⟨rfl, rfl, rfl⟩

theorem tookReadings_one {n : Nat} (r : ThmReading) {s : State} (henable : s.thm.enable.contains n = true) :
    s.tookReadings [(n, r)] = tblUpd {} n (inputAfter n r) s.thm.inputs := by
  unfold State.tookReadings
  rw [List.filter_cons_of_pos (by exact henable)]
  rfl

theorem thmIn_tookReadings {n : Nat} (r : ThmReading) {s v : State} (henable : s.thm.enable.contains n = true)
    (hinputs : v.thm.inputs = s.tookReadings [(n, r)]) : v.thmIn n = inputAfter n r (s.thmIn n) := by
  unfold State.thmIn
  rw [hinputs, tookReadings_one r henable, tblGet_upd, if_pos rfl]

theorem newBreaks_one {n : Nat} (r : ThmReading) {s : State} (henable : s.thm.enable.contains n = true) :
    s.newBreaks [(n, r)] = if (inputAfter n r (s.thmIn n)).broken && !(s.thmIn n).broken then [(n, r)] else [] := by
  have hget : tblGet {} (s.tookReadings [(n, r)]) n = inputAfter n r (s.thmIn n) := by
    rw [tookReadings_one r henable, tblGet_upd, if_pos rfl]
    rfl
  unfold State.newBreaks
  rw [List.filter_cons_of_pos (by exact henable), List.filter_nil, List.filter_cons, List.filter_nil]
  rw [hget]

theorem convert_good {n : Nat} {v : Int} {s : State} (henable : s.thm.enable.contains n = true) (hgood : goodFloor n ≤ v) :
    ((convert [(n, .measured v)] s).thmIn n) = inputAfter n (.measured v) (s.thmIn n) := by
  obtain ⟨w, hconv, hinputs, -, -⟩ := convert_eq [(n, .measured v)] s
  have hnone : s.newBreaks [(n, .measured v)] = [] := by
    rw [newBreaks_one _ henable, if_neg]
    rw [(inputAfter_good _ hgood).2.2.2.2]
    cases (s.thmIn n).broken <;> simp
  rw [hconv, hnone]
  exact thmIn_tookReadings _ henable hinputs

theorem convert_bad {n : Nat} {r : ThmReading} {s : State} (henable : s.thm.enable.contains n = true) (hsave : s.saving = false)
    (hmild : s.mild 0xA1 = true) (hbad : badReading n r = true) :
    ((convert [(n, r)] s).thmIn n) = inputAfter n r (s.thmIn n) ∧ (convert [(n, r)] s).thm.breaks =
      satAdd 8 s.thm.breaks (if (s.thmIn n).broken = false ∧ 2 ≤ (s.thmIn n).badRun then 1 else 0) := by
  obtain ⟨w, hconv, hinputs, hbreaks, hw⟩ := convert_eq [(n, r)] s
  have hfresh : s.newBreaks [(n, r)] = if (s.thmIn n).broken = false ∧ 2 ≤ (s.thmIn n).badRun then [(n, r)] else [] := by
    rw [newBreaks_one r henable, inputAfter_bad _ hbad]
    cases (s.thmIn n).broken <;> simp
  have hflt : w.flt = s.flt := by rw [hw]
  have htly : w.tly = s.tly := by rw [hw]
  have hquiet : w.saving = false := (saving_congr (by rw [hw])).trans hsave
  have hthm : (convert [(n, r)] s).thm = w.thm := by
    rw [hconv, hfresh]
    split
    · exact fltRaise_mild (fun v => v.thm) (fun _ _ _ _ _ _ => rfl) 0xA1 0 hflt htly hquiet hmild
    · rfl
  refine ⟨?_, ?_⟩
  · have hin : (convert [(n, r)] s).thmIn n = w.thmIn n := by unfold State.thmIn; rw [hthm]
    exact hin.trans (thmIn_tookReadings r henable hinputs)
  · rw [hthm, hbreaks, hfresh]
    congr 1
    split <;> rfl

/-! ### The request of a throttle step (R350 to R352) -/

theorem postedSync_dmc (s : State) : postedSync s = { s with dmc := (postedSync s).dmc } := rfl

theorem changeSet_reach (n : Nat) (s : State) : changeSet n s = { s with dmc := (changeSet n s).dmc, trn := (changeSet n s).trn } := by
  unfold changeSet
  split
  · rfl
  · rfl

theorem requestSet_reach (n : Nat) (s : State) :
    (requestSet n s).1 = { s with dmc := (requestSet n s).1.dmc, trn := (requestSet n s).1.trn } := by
  unfold requestSet
  split
  · rfl
  · split
    · rfl
    · split
      · rfl
      · exact changeSet_reach n s

theorem requestStep_reach (s : State) : requestStep s = { s with dmc := (requestStep s).dmc, trn := (requestStep s).trn } := by
  unfold requestStep
  split
  · rfl
  · split
    · rfl
    · split
      · rfl
      · exact requestSet_reach _ s

theorem requestStep_saving {s : State} (hsave : s.saving = true) : requestStep s = s := by
  unfold requestStep
  exact if_pos (by rw [hsave]; rfl)

/-! ### Throttle steps and WARN with room for their triggers (R345, R350) -/

/-- What a throttle step reaches: Thermal Guard, Tally and the DRAM's shadow set. -/
def StepOnly (s t : State) : Prop := t = { s with thm := t.thm, tly := t.tly, dmc := t.dmc, trn := t.trn }

theorem StepOnly.trans {s t u : State} (hst : StepOnly s t) (htu : StepOnly t u) : StepOnly s u := by
  unfold StepOnly at *
  rw [htu, hst]

theorem StepOnly.thermal (s : State) (x : Thm) : StepOnly s { s with thm := x } := rfl

theorem StepOnly.keeps {β : Type} {π : State → β} {s t : State} (hst : StepOnly s t)
    (hπ : ∀ (s : State) a b c d, π { s with thm := a, tly := b, dmc := c, trn := d } = π s) : π t = π s := by
  unfold StepOnly at hst
  rw [hst]
  exact hπ ..

theorem StepOnly.dev {s t : State} (hst : StepOnly s t) : t.dev = s.dev := hst.keeps (π := State.dev) fun _ _ _ _ _ => rfl

/-- A throttle step's registers (R350). -/
def Thm.stepped (x : Thm) (n : Nat) : Thm := if x.step = n then x else { x with step := n, headCap := stepCap n }

theorem setStep_room (n : Nat) {s : State} (hroom : s.tly.fifo.length < 32) : StepOnly s (setStep n s) ∧
    (setStep n s).thm = s.thm.stepped n ∧ (setStep n s).tly.fifo.length ≤ s.tly.fifo.length + 1 := by
  unfold setStep Thm.stepped
  split
  · exact ⟨rfl, rfl, Nat.le_succ _⟩
  · generalize hv : tlyTrigger 0x108 0 { s with thm := { s.thm with step := n, headCap := stepCap n } } = v
    have htold : v = { s with thm := { s.thm with step := n, headCap := stepCap n }, tly := { s.tly with
        fifo := s.tly.fifo ++ [⟨0x108, 7, s.dev.st.code, 0⟩] } } := hv.symm.trans (tlyTrigger_room 0x108 0 _ hroom)
    have hreach := requestStep_reach v
    have honly : StepOnly v (requestStep v) := by
      unfold StepOnly
      rw [hreach]
    refine ⟨StepOnly.trans ?_ honly, ?_, ?_⟩
    · rw [htold]; rfl
    · rw [hreach, htold]
    · rw [hreach, htold]
      simp

/-- WARN's inputs and THROTTLE's as a sample leaves them (R345). -/
def State.warnedAfter (s : State) : NSet :=
  let set := ((s.atOrAbove ThmThresh.warn 0 s.thmReads).map fun e => e.1).foldl (fun w n => setAdd n w) s.thm.warned
  let near := (s.atOrAbove ThmThresh.warn 5 s.thmReads).filter fun e => e.2 ≠ s.limit (s.thresh e.1).warn - 80
  if near.any fun e => set.contains e.1 then set else []

def State.throttledAfter (s : State) : NSet :=
  ((s.atOrAbove ThmThresh.throttle 0 s.thmReads).map fun e => e.1).foldl (fun w n => setAdd n w) s.thm.throttledBy

theorem mem_foldl_setAdd {n : Nat} (l : List Nat) (w : NSet) : (l.foldl (fun w n => setAdd n w) w).contains n = (l.contains n || w.contains n) := by
  induction l generalizing w with
  | nil => rfl
  | cons m l ih =>
    rw [List.foldl_cons, ih, setAdd_contains, List.contains_cons]
    cases l.contains n <;> cases w.contains n <;> simp

theorem warnedAfter_reached {s : State} {e : Nat × Int} (he : e ∈ s.atOrAbove ThmThresh.warn 0 s.thmReads) :
    s.warnedAfter.contains e.1 = true := by
  have hset : (((s.atOrAbove ThmThresh.warn 0 s.thmReads).map fun e => e.1).foldl (fun w n => setAdd n w) s.thm.warned).contains e.1 = true := by
    rw [mem_foldl_setAdd, Bool.or_eq_true]
    exact .inl (List.contains_iff_mem.mpr (List.mem_map_of_mem he))
  obtain ⟨hread, hhot⟩ := List.mem_filter.mp he
  have hhot : s.limit (s.thresh e.1).warn - 0 * 16 ≤ e.2 := of_decide_eq_true hhot
  have hnear : e ∈ (s.atOrAbove ThmThresh.warn 5 s.thmReads).filter fun e => e.2 ≠ s.limit (s.thresh e.1).warn - 80 := by
    refine List.mem_filter.mpr ⟨List.mem_filter.mpr ⟨hread, decide_eq_true ?_⟩, decide_eq_true ?_⟩
    · omega
    · omega
  unfold State.warnedAfter
  dsimp only
  rw [if_pos (List.any_eq_true.mpr ⟨e, hnear, hset⟩)]
  exact hset

theorem warnedAfter_cool {s : State} (hcool : ∀ e ∈ s.thmReads, e.2 ≤ s.limit (s.thresh e.1).warn - 80) : s.warnedAfter = [] := by
  have hnear : ((s.atOrAbove ThmThresh.warn 5 s.thmReads).filter fun e => e.2 ≠ s.limit (s.thresh e.1).warn - 80) = [] := by
    refine List.filter_eq_nil_iff.mpr fun e he => ?_
    obtain ⟨hread, hhot⟩ := List.mem_filter.mp he
    have hhot : s.limit (s.thresh e.1).warn - 5 * 16 ≤ e.2 := of_decide_eq_true hhot
    have hle := hcool e hread
    simp only [ne_eq, decide_not, Bool.not_eq_true, Bool.not_eq_false', decide_eq_true_eq]
    omega
  unfold State.warnedAfter
  dsimp only
  rw [hnear]
  rfl

/-- A sample enters step 1 (R345, R350). -/
def State.entersStep (s : State) : Bool := s.atOrAbove ThmThresh.throttle 0 s.thmReads ≠ [] && s.thm.step = 0

/-- Thermal Guard's registers once WARN and THROTTLE are evaluated. -/
def State.warnedThm (s : State) : Thm :=
  let x : Thm := { s.thm with warned := s.warnedAfter, throttledBy := s.throttledAfter }
  if s.entersStep then { x with throttles := satAdd 8 s.thm.throttles 1, step := 1, headCap := 80 } else x

theorem entersStep_map (s : State) : (decide ((s.atOrAbove ThmThresh.throttle 0 s.thmReads).map (fun e => e.1) ≠ []) && decide (s.thm.step = 0)) =
    s.entersStep := by
  unfold State.entersStep
  congr 1
  exact decide_eq_decide.mpr (not_congr List.map_eq_nil_iff)

theorem warnSync_eq (s : State) : warnSync s = if s.entersStep then
      setStep 1 { s with thm := { s.thm with warned := s.warnedAfter, throttledBy := s.throttledAfter, throttles := satAdd 8 s.thm.throttles 1 } }
    else { s with thm := { s.thm with warned := s.warnedAfter, throttledBy := s.throttledAfter } } := by
  rw [← entersStep_map]
  rfl

theorem warnSync_room {s : State} (hroom : s.tly.fifo.length < 32) : StepOnly s (warnSync s) ∧
    (warnSync s).thm = s.warnedThm ∧ (warnSync s).tly.fifo.length ≤ s.tly.fifo.length + 1 := by
  rw [warnSync_eq]
  unfold State.warnedThm
  split
  · rename_i henter
    have hzero : s.thm.step = 0 := by
      unfold State.entersStep at henter
      simpa using (Bool.and_eq_true_iff.mp henter).2
    generalize hv : ({ s with thm := { s.thm with
      warned := s.warnedAfter, throttledBy := s.throttledAfter, throttles := satAdd 8 s.thm.throttles 1 } } : State) = v
    have hvs : StepOnly s v := by rw [← hv]; rfl
    have hvt : v.tly = s.tly := by rw [← hv]
    obtain ⟨honly, hthm, hfifo⟩ := setStep_room 1 (s := v) (by rwa [hvt])
    refine ⟨hvs.trans honly, ?_, by rwa [hvt] at hfifo⟩
    rw [hthm, ← hv]
    unfold Thm.stepped
    exact if_neg (by rw [hzero]; decide)
  · exact ⟨rfl, rfl, Nat.le_succ _⟩

/-! ### What the thresholds are compared with (R345, R358) -/

/-- Thermal Guard's table of inputs and thresholds. -/
def Thm.table (x : Thm) : Tbl ThmInput × NSet × Tbl ThmThresh × Bool := (x.inputs, x.enable, x.thresh, x.calDerated)

theorem reads_congr {s t : State} (hst : t.dev.st = s.dev.st) (htable : t.thm.table = s.thm.table) : t.thmReads = s.thmReads ∧
    ∀ f below l, t.atOrAbove f below l = s.atOrAbove f below l := by
  obtain ⟨hinputs, hrest⟩ := Prod.mk.inj htable
  obtain ⟨henable, hrest⟩ := Prod.mk.inj hrest
  obtain ⟨hthresh, hcal⟩ := Prod.mk.inj hrest
  refine ⟨?_, fun f below l => ?_⟩
  · unfold State.thmReads State.thmIn
    rw [hinputs, henable, hst]
  · unfold State.atOrAbove State.limit State.thresh
    rw [hthresh, hcal]

theorem warnedThm_table (s : State) : s.warnedThm.table = s.thm.table := by
  unfold State.warnedThm Thm.table
  dsimp only
  split <;> rfl

/-- Thermal Guard's registers that neither WARN, THROTTLE nor LEVEL are. -/
def Thm.stops (x : Thm) : Bool × Bool × Nat × ThmStop × Nat := (x.trip, x.shut, x.halts, x.lastStop, x.level)

theorem warnedThm_stops (s : State) : s.warnedThm.stops = s.thm.stops := by
  unfold State.warnedThm Thm.stops
  dsimp only
  split <;> rfl

/-! ### LEVEL (R345, R349) -/

theorem levelSync_same {s : State} (hlevel : s.thm.level = s.thmLevel) : levelSync s = s := by
  unfold levelSync
  exact if_pos hlevel.symm

/-- The state in which LEVEL's change has been told to Tally and the heads. -/
def State.levelTold (s : State) : State :=
  let v := tlyTrigger 0x108 0 { s with thm := { s.thm with level := s.thmLevel } }
  chapenEvent (if s.thm.level < s.thmLevel then .warning else .info) 0x09 s.thmLevel 0xFF v.thm.hottestInput 0 0 (asU64 v.thm.hottest) v

theorem levelSync_changed {s : State} (hlevel : s.thm.level ≠ s.thmLevel) :
    levelSync s = fltCond 0xA0 (decide (s.thmLevel ≠ 0)) s.levelTold := by
  unfold levelSync
  exact if_neg (Ne.symm hlevel)

/-- What LEVEL's change leaves alone while no save runs. -/
def LevelFree {β : Type} (π : State → β) : Prop :=
  ∀ (s : State) xf xt xh xp n, π { s with flt := xf, tly := xt, heads := xh, pins := xp, thm := { s.thm with level := n } } = π s

section
variable {β : Type} {π : State → β} (hπ : LevelFree π)
include hπ

theorem LevelFree.event : EventFree π := fun s xf xt _ _ xp => hπ s xf xt _ xp s.thm.level

theorem levelTold_free {s : State} (hroom : s.tly.fifo.length < 32) : π s.levelTold = π s := by
  unfold State.levelTold
  dsimp only
  refine (chapenEvent_only π (fun s xh => hπ s s.flt s.tly xh s.pins s.thm.level) ..).trans ?_
  exact (congrArg π (tlyTrigger_room 0x108 0 { s with thm := { s.thm with level := s.thmLevel } } hroom)).trans (hπ s s.flt _ s.heads s.pins _)

end

theorem levelTold_spec {s : State} (hroom : s.tly.fifo.length < 32) : s.levelTold.flt = s.flt ∧
    s.levelTold.thm = { s.thm with level := s.thmLevel } ∧ s.levelTold.dev = s.dev ∧
    s.levelTold.tly.fifo.length = s.tly.fifo.length + 1 := by
  unfold State.levelTold
  dsimp only
  simp only [chapenEvent_frame, tlyTrigger_room 0x108 0 { s with thm := { s.thm with level := s.thmLevel } } hroom]
  exact ⟨trivial, trivial, trivial, by simp⟩

/-- An event of level 2 or less as a condition begins or ends, with room for its trigger. -/
theorem fltCond_calm {β : Type} {π : State → β} (h : EventFree π) {src : Nat} (on : Bool) {s t : State} (hf : t.flt = s.flt)
    (hsave : t.saving = false) (hlow : (fltRecord src s).2 ≤ 2) (hroom : t.tly.fifo.length < 32) : π (fltCond src on t) = π t := by
  have hlive : ∀ l, π { t with flt := { t.flt with live := l } } = π t := fun l =>
    h t _ t.tly t.heads.a.msix t.heads.b.msix t.pins
  have hlevel : ∀ l, (fltRecord src { t with flt := { t.flt with live := l } }).2 = (fltRecord src s).2 := by
    intro l
    exact (show _ = (fltRecord src t).2 from rfl).trans (fltRecord_level src s t hf)
  unfold fltCond
  split
  · unfold fltRise
    split
    · rfl
    · exact (fltRaise_low π h src 0 { t with flt := { t.flt with live := setAdd src t.flt.live } } hsave
        (Nat.le_trans (Nat.le_of_eq (hlevel _)) hlow) hroom).trans (hlive _)
  · exact hlive _

theorem levelSync_free {β : Type} {π : State → β} (hπ : LevelFree π) {s v : State} (hflt : s.flt = v.flt) (hsave : s.saving = false)
    (hlow : (fltRecord 0xA0 v).2 ≤ 2) (hroom : s.tly.fifo.length < 31) : π (levelSync s) = π s := by
  by_cases hlevel : s.thm.level = s.thmLevel
  · rw [levelSync_same hlevel]
  · obtain ⟨hf, -, hdev, hfifo⟩ := levelTold_spec (s := s) (by omega)
    rw [levelSync_changed hlevel]
    exact (fltCond_calm hπ.event _ (hf.trans hflt) ((saving_congr hdev).trans hsave) hlow (by omega)).trans (levelTold_free hπ (by omega))

theorem levelSync_level {s v : State} (hflt : s.flt = v.flt) (hsave : s.saving = false)
    (hlow : (fltRecord 0xA0 v).2 ≤ 2) (hroom : s.tly.fifo.length < 31) : (levelSync s).thm = { s.thm with level := s.thmLevel } := by
  by_cases hlevel : s.thm.level = s.thmLevel
  · rw [levelSync_same hlevel, ← hlevel]
  · obtain ⟨hf, hthm, hdev, hfifo⟩ := levelTold_spec (s := s) (by omega)
    rw [levelSync_changed hlevel]
    exact (fltCond_calm (π := fun u => u.thm) (fun _ _ _ _ _ _ => rfl) _ (hf.trans hflt) ((saving_congr hdev).trans hsave) hlow
      (by omega)).trans hthm

/-- LEVEL's change where source 0xA0 stands already. -/
theorem levelSync_settled {β : Type} {π : State → β} (hπ : LevelFree π) {s : State} (hlive : s.flt.live.contains 0xA0 = true)
    (hroom : s.tly.fifo.length < 32) : π (levelSync s) = π s := by
  by_cases hlevel : s.thm.level = s.thmLevel
  · rw [levelSync_same hlevel]
  · obtain ⟨hf, -, -, -⟩ := levelTold_spec hroom
    rw [levelSync_changed hlevel]
    exact (fltCond_settled π (fun u xf => hπ u xf u.tly u.heads u.pins u.thm.level) _ _ _ (fun _ => by rw [hf]; exact hlive)).trans
      (levelTold_free hπ hroom)

theorem levelSync_settled_level {s : State} (hlive : s.flt.live.contains 0xA0 = true) (hroom : s.tly.fifo.length < 32) :
    (levelSync s).thm = { s.thm with level := s.thmLevel } := by
  by_cases hlevel : s.thm.level = s.thmLevel
  · rw [levelSync_same hlevel, ← hlevel]
  · obtain ⟨hf, hthm, -, -⟩ := levelTold_spec hroom
    rw [levelSync_changed hlevel]
    exact (fltCond_settled (fun u => u.thm) (fun _ _ => rfl) _ _ _ (fun _ => by rw [hf]; exact hlive)).trans hthm

/-! ### Thermal HALT (R353 to R355) -/

theorem thermalHalt_spec (c : Nat) (e : Nat × Int) (s : State) :
    (thermalHalt c e s).dev.st = .halt ∧ (thermalHalt c e s).dev.halt = .thermal ∧
    (thermalHalt c e s).thm.lastStop = ⟨c, e.1, s.dev.st.code, e.2⟩ ∧ (thermalHalt c e s).thm.level = 3 ∧
    (thermalHalt c e s).thm.trip = true ∧ (thermalHalt c e s).thm.halts = satAdd 8 s.thm.halts 1 ∧ ∀ x, (thermalHalt c e s).byteAt x = 0 := by
  unfold thermalHalt enterHalt
  simp [State.byteAt, tblGet]

theorem thermalHalt_level (c : Nat) (e : Nat × Int) (s : State) : (thermalHalt c e s).thmLevel = 3 := by
  have htrip := (thermalHalt_spec c e s).2.2.2.2.1
  unfold State.thmLevel
  rw [htrip]
  rfl

/-! ### A sample in a running state (R348 to R354) -/

/-- A conversion in a running state, with fast sampling noted (R347). -/
def State.sampled (s : State) : State := { s with thm := { s.thm with fast := s.thm.fast || s.thmNear } }

theorem sampled_reads (s : State) : s.sampled.thmMeasured = s.thmMeasured ∧ s.sampled.thmReads = s.thmReads ∧
    (∀ f below l, s.sampled.atOrAbove f below l = s.atOrAbove f below l) := ⟨rfl, rfl, fun _ _ _ => rfl⟩

/-- Thermal Guard converts in this state (R347). -/
def State.converts (s : State) : Prop :=
  s.coolsDown = false ∧ s.dev.st ≠ .off ∧ s.dev.st ≠ .sealed ∧ s.dev.st ≠ .halt ∧ s.dev.startDue = false

theorem execThermalSample_runs {s : State} (l : List (Nat × ThmReading)) (hruns : s.converts) :
    execThermalSample l s = .next (runningSample l s) := by
  obtain ⟨hcool, hoff, hsealed, hhalt, hstart⟩ := hruns
  unfold execThermalSample
  rw [if_neg (by rw [hcool]; decide), if_neg (by simp [hoff, hsealed, hhalt, hstart])]

theorem runningSample_absolute {l : List (Nat × ThmReading)} {s : State} {e : Nat × Int}
    (he : ((convert l s).thmMeasured.find? fun e => decide (2000 ≤ e.2)) = some e) :
    runningSample l s = thermalHalt 2 e (convert l s).sampled := by
  have hfind : ((convert l s).sampled.thmMeasured.find? fun e => decide (2000 ≤ e.2)) = some e := he
  unfold runningSample
  show (match (convert l s).sampled.thmMeasured.find? fun e => decide (2000 ≤ e.2) with | some e => _ | none => _) = _
  rw [hfind]
  rfl

theorem runningSample_below {l : List (Nat × ThmReading)} {s : State}
    (he : ((convert l s).thmMeasured.find? fun e => decide (2000 ≤ e.2)) = none) :
    runningSample l s = levelSync (shutSync (if (warnSync (convert l s).sampled).saving then saveThermal (warnSync (convert l s).sampled)
      else warnSync (convert l s).sampled)) := by
  have hfind : ((convert l s).sampled.thmMeasured.find? fun e => decide (2000 ≤ e.2)) = none := he
  unfold runningSample
  show (match (convert l s).sampled.thmMeasured.find? fun e => decide (2000 ≤ e.2) with | some e => _ | none => _) = _
  rw [hfind]
  rfl

/-- A sample outside a save, with room for its trigger: what WARN and THROTTLE leave. -/
theorem warnSync_sampled {u : State} (hroom : u.tly.fifo.length < 32) : StepOnly u (warnSync u.sampled) ∧
    (warnSync u.sampled).thm.table = u.thm.table ∧ (warnSync u.sampled).thm.stops = u.thm.stops ∧
    (∀ f below, (warnSync u.sampled).atOrAbove f below (warnSync u.sampled).thmReads = u.atOrAbove f below u.thmReads) ∧
    (warnSync u.sampled).tly.fifo.length ≤ u.tly.fifo.length + 1 := by
  obtain ⟨honly, hthm, hfifo⟩ := warnSync_room (s := u.sampled) hroom
  have htable : (warnSync u.sampled).thm.table = u.thm.table := by rw [hthm, warnedThm_table]; rfl
  have hdev : (warnSync u.sampled).dev = u.dev := honly.dev
  obtain ⟨hreads, habove⟩ := reads_congr (s := u) (congrArg (fun d : Dev => d.st) hdev) htable
  refine ⟨(StepOnly.thermal u _).trans honly, htable, ?_, fun f below => ?_, hfifo⟩
  · rw [hthm, warnedThm_stops]; rfl
  · rw [hreads]; exact habove f below _

/-- SHUT in UNARMED and in the states before it: thermal HALT (R353, R355). -/
theorem shutSync_stops {s : State} {e : Nat × Int} {r : List (Nat × Int)} (he : s.atOrAbove ThmThresh.shut 0 s.thmReads = e :: r)
    (hst : s.dev.st = .unarmed ∨ s.dev.st = .boot ∨ s.dev.st = .reflood ∨ s.dev.st = .recovery) :
    shutSync s = thermalHalt 1 e { s with thm := { s.thm with shut := true } } := by
  unfold shutSync
  rw [he]
  dsimp only
  rcases hst with h | h | h | h <;> rw [h]

theorem shutSync_saves {s : State} (he : s.atOrAbove ThmThresh.shut 0 s.thmReads ≠ []) (hst : s.dev.st = .armed) :
    shutSync s = beginSave .thermal 0 { s with thm := { s.thm with shut := true } } := by
  obtain ⟨e, r, her⟩ := List.exists_cons_of_ne_nil he
  unfold shutSync
  rw [her]
  dsimp only
  rw [hst]

theorem shutSync_below {s : State} (he : s.atOrAbove ThmThresh.shut 0 s.thmReads = []) :
    shutSync s = { s with thm := { s.thm with shut := false } } := by
  unfold shutSync
  rw [he]

theorem yields_sample_absolute {s : State} {l : List (Nat × ThmReading)} {e : Nat × Int} (hruns : s.converts)
    (he : ((convert l s).thmMeasured.find? fun e => decide (2000 ≤ e.2)) = some e) :
    Yields (.thermalSample l) s fun t => let u := convert l s
      t.dev.st = .halt ∧ t.dev.halt = .thermal ∧ t.thm.lastStop = ⟨2, e.1, u.dev.st.code, e.2⟩ ∧ t.thm.level = 3 ∧ t.thm.trip = true ∧
      t.thm.halts = satAdd 8 u.thm.halts 1 ∧ ∀ x, t.byteAt x = 0 :=
  ⟨_, (execThermalSample_runs l hruns).trans (congrArg Host.Outcome.next (runningSample_absolute he)), thermalHalt_spec 2 e _⟩

theorem yields_sample_shut {s : State} {l : List (Nat × ThmReading)} {e : Nat × Int} {r : List (Nat × Int)} (hruns : s.converts)
    (hlimit : ((convert l s).thmMeasured.find? fun e => decide (2000 ≤ e.2)) = none)
    (he : (convert l s).atOrAbove ThmThresh.shut 0 (convert l s).thmReads = e :: r)
    (hst : (convert l s).dev.st = .unarmed ∨ (convert l s).dev.st = .boot ∨ (convert l s).dev.st = .reflood ∨ (convert l s).dev.st = .recovery)
    (hroom : (convert l s).tly.fifo.length < 32) : Yields (.thermalSample l) s fun t =>
      t.dev.st = .halt ∧ t.dev.halt = .thermal ∧ t.thm.lastStop = ⟨1, e.1, (convert l s).dev.st.code, e.2⟩ ∧ t.thm.level = 3 ∧
      t.thm.trip = true ∧ ∀ x, t.byteAt x = 0 := by
  refine ⟨_, (execThermalSample_runs l hruns).trans (congrArg Host.Outcome.next (runningSample_below hlimit)), ?_⟩
  generalize convert l s = u at he hst hroom ⊢
  obtain ⟨honly, -, -, hreach, -⟩ := warnSync_sampled hroom
  generalize warnSync u.sampled = w at honly hreach ⊢
  have hdev : w.dev = u.dev := honly.dev
  have hquiet : w.saving = false := by
    unfold State.saving
    rw [hdev]
    rcases hst with h | h | h | h <;> rw [h] <;> rfl
  rw [hquiet, if_neg Bool.false_ne_true, shutSync_stops ((hreach _ _).trans he) (by rwa [hdev])]
  have hhalt := thermalHalt_spec 1 e { w with thm := { w.thm with shut := true } }
  have hlevel := thermalHalt_level 1 e { w with thm := { w.thm with shut := true } }
  obtain ⟨hst, hkind, hstop, hthree, htrip, -, hbytes⟩ := hhalt
  rw [levelSync_same (hthree.trans hlevel.symm)]
  exact ⟨hst, hkind, by rw [hstop]; exact congrArg (fun d : Dev => (⟨1, e.1, d.st.code, e.2⟩ : ThmStop)) hdev, hthree, htrip, hbytes⟩

theorem sampledThm_spec (u : State) :
    let enters := u.atOrAbove ThmThresh.throttle 0 u.thmReads ≠ [] ∧ u.thm.step = 0
    u.sampled.warnedThm.inputs = u.thm.inputs ∧ u.sampled.warnedThm.step = (if enters then 1 else u.thm.step) ∧
    u.sampled.warnedThm.headCap = (if enters then 80 else u.thm.headCap) ∧
    u.sampled.warnedThm.throttles = (if enters then satAdd 8 u.thm.throttles 1 else u.thm.throttles) ∧
    u.sampled.warnedThm.warned = u.sampled.warnedAfter := by
  have henters : (u.sampled.entersStep = true) ↔ (u.atOrAbove ThmThresh.throttle 0 u.thmReads ≠ [] ∧ u.thm.step = 0) := by
    show (decide (u.atOrAbove ThmThresh.throttle 0 u.thmReads ≠ []) && decide (u.thm.step = 0)) = true ↔ _
    rw [Bool.and_eq_true, decide_eq_true_eq, decide_eq_true_eq]
  unfold State.warnedThm
  dsimp only
  by_cases h : u.atOrAbove ThmThresh.throttle 0 u.thmReads ≠ [] ∧ u.thm.step = 0
  · rw [if_pos (henters.mpr h), if_pos h, if_pos h, if_pos h]
    exact ⟨rfl, rfl, rfl, rfl, rfl⟩
  · rw [if_neg (mt henters.mp h), if_neg h, if_neg h, if_neg h]
    exact ⟨rfl, rfl, rfl, rfl, rfl⟩

/-- What a sample below SHUT leaves alone of the device, and what it makes of Thermal Guard's registers (R345, R348, R353). -/
theorem yields_sample_below {s : State} {l : List (Nat × ThmReading)} (hruns : s.converts)
    (hlimit : ((convert l s).thmMeasured.find? fun e => decide (2000 ≤ e.2)) = none)
    (he : (convert l s).atOrAbove ThmThresh.shut 0 (convert l s).thmReads = []) (hsave : (convert l s).saving = false)
    (hmild : (convert l s).mild 0xA0 = true) (hroom : (convert l s).tly.fifo.length < 30) : Yields (.thermalSample l) s fun t =>
      let u := convert l s
      let enters := u.atOrAbove ThmThresh.throttle 0 u.thmReads ≠ [] ∧ u.thm.step = 0
      t.dev = u.dev ∧ t.map = u.map ∧ t.hrv = u.hrv ∧ t.jrn = u.jrn ∧ (∀ x, t.byteAt x = u.byteAt x) ∧ t.thm.inputs = u.thm.inputs ∧
      t.thm.shut = false ∧ t.thm.step = (if enters then 1 else u.thm.step) ∧ t.thm.headCap = (if enters then 80 else u.thm.headCap) ∧
      t.thm.throttles = (if enters then satAdd 8 u.thm.throttles 1 else u.thm.throttles) ∧ t.thm.level = t.thmLevel ∧
      (∀ e ∈ u.atOrAbove ThmThresh.warn 0 u.thmReads, t.thm.warned.contains e.1 = true) ∧
      ((∀ e ∈ u.thmReads, e.2 ≤ u.limit (u.thresh e.1).warn - 80) → t.thm.warned = []) := by
  refine ⟨_, (execThermalSample_runs l hruns).trans (congrArg Host.Outcome.next (runningSample_below hlimit)), ?_⟩
  generalize convert l s = u at he hsave hmild hroom ⊢
  obtain ⟨honly, -, -, hreach, hfifo⟩ := warnSync_sampled (u := u) (by omega)
  have hthm := (warnSync_room (s := u.sampled) (show u.tly.fifo.length < 32 by omega)).2.1
  generalize warnSync u.sampled = w at honly hreach hfifo hthm ⊢
  have hdev : w.dev = u.dev := honly.dev
  have hquiet : w.saving = false := (saving_congr hdev).trans hsave
  rw [hquiet, if_neg Bool.false_ne_true, shutSync_below ((hreach _ _).trans he)]
  generalize hv : ({ w with thm := { w.thm with shut := false } } : State) = v
  have hvflt : v.flt = u.flt := by rw [← hv]; exact honly.keeps (π := State.flt) fun _ _ _ _ _ => rfl
  have hvsave : v.saving = false := by rw [← hv]; exact hquiet
  have hvroom : v.tly.fifo.length < 31 := by rw [← hv]; show w.tly.fifo.length < 31; omega
  have hlow : (fltRecord 0xA0 u).2 ≤ 2 := by
    unfold State.mild at hmild
    simpa using (Bool.and_eq_true_iff.mp hmild).1
  have hkeep := levelSync_free (π := fun x => (x.dev, x.map, x.hrv, x.jrn, x.dram)) (fun _ _ _ _ _ _ => rfl) hvflt hvsave hlow hvroom
  have hlevel := levelSync_level hvflt hvsave hlow hvroom
  generalize levelSync v = t at hkeep hlevel ⊢
  have hvu : (v.dev, v.map, v.hrv, v.jrn, v.dram) = (u.dev, u.map, u.hrv, u.jrn, u.dram) := by
    rw [← hv]
    exact honly.keeps (π := fun x => (x.dev, x.map, x.hrv, x.jrn, x.dram)) fun _ _ _ _ _ => rfl
  have hvthm : v.thm = { u.sampled.warnedThm with shut := false } := by
    rw [← hv]
    exact congrArg (fun x : Thm => { x with shut := false }) hthm
  have hkeep := hkeep.trans hvu
  obtain ⟨hd, hkeep⟩ := Prod.mk.inj hkeep
  obtain ⟨hm, hkeep⟩ := Prod.mk.inj hkeep
  obtain ⟨hh, hkeep⟩ := Prod.mk.inj hkeep
  obtain ⟨hj, hb⟩ := Prod.mk.inj hkeep
  have hout := sampledThm_spec u
  obtain ⟨hinputs, hstep, hcap, hthrottles, hwarned⟩ := hout
  have htlevel : t.thm.level = t.thmLevel := by
    unfold State.thmLevel
    rw [hlevel]
    rfl
  rw [hvthm] at hlevel
  refine ⟨hd, hm, hh, hj, fun x => congrArg (fun m => tblGet 0 m x) hb, ?_, ?_, ?_, ?_, ?_, htlevel, fun e he => ?_, fun hcool => ?_⟩
  · rw [hlevel]; exact hinputs
  · rw [hlevel]
  · rw [hlevel]; exact hstep
  · rw [hlevel]; exact hcap
  · rw [hlevel]; exact hthrottles
  · rw [hlevel]
    exact (congrArg (fun w => List.contains w e.1) hwarned).trans (warnedAfter_reached (s := u.sampled) he)
  · rw [hlevel]
    exact hwarned.trans (warnedAfter_cool (s := u.sampled) hcool)

/-! ### A sample in a running save (R155) -/

/-- What Thermal Guard's levels and steps leave alone while a save runs. -/
def HeatFree {β : Type} (π : State → β) : Prop :=
  ∀ (s : State) xf xt xh xp d y w b st cap n lv sh, π { s with
    flt := xf, tly := xt, heads := xh, pins := xp, hrv := { s.hrv with deferred := d, phyForced := y }
    thm := { s.thm with warned := w, throttledBy := b, step := st, headCap := cap, throttles := n, level := lv, shut := sh } } = π s

theorem saving_states {s : State} (hsave : s.saving = true) : s.dev.st = .harvest ∨ s.dev.st = .salvage := by
  unfold State.saving at hsave
  simpa using hsave

theorem plain_sources : (∀ r, srcRow 0xA0 = some r → r.hf = 0) ∧ srcRow 0xE1 = some (plainRow 0xE1 .none 0 0 false) := by
  refine ⟨fun r hr => ?_, by decide⟩
  have hrow : srcRow 0xA0 = some (plainRow 0xA0 .none 1 0 false) := by decide
  rw [hrow] at hr
  cases hr
  rfl

/-- In a save the reaction to a trigger that found no room is a signal at most (R378, R390). -/
theorem fltReact_overflow_saving {β : Type} {π : State → β} (hπ : PhyFree π) (l : Nat) {s : State} (hsave : s.saving = true) :
    π (fltReact 0xE1 l s) = π s := by
  have hno : level4 0xE1 s = s := by
    unfold level4 resettable
    refine if_pos ?_
    rcases saving_states hsave with h | h <;> rw [h] <;> rfl
  by_cases hl : l ≤ 2
  · exact fltReact_low π (fun s f a b => hπ s f s.tly _ s.pins s.hrv.deferred s.hrv.phyForced) 0xE1 l s hl
  · match l, hl with
    | 3, _ =>
      refine congrArg π ?_
      unfold fltReact
      rw [plain_sources.2]
      exact hno
    | _ + 4, _ => exact congrArg π hno

theorem tlyTrigger_saving {β : Type} {π : State → β} (hπ : PhyFree π) (code arg : Nat) {s : State} (hsave : s.saving = true) :
    π (tlyTrigger code arg s) = π s := by
  have hput := tlyPut_only π (fun s xf xt => hπ s xf xt s.heads s.pins s.hrv.deferred s.hrv.phyForced) code 7 arg s
  have hstill : (tlyPut code 7 arg s).1.saving = true := (saving_congr (tlyPut_frame code 7 arg s).1).trans hsave
  unfold tlyTrigger
  dsimp only
  split
  · exact hput
  · exact (fltReact_overflow_saving hπ _ hstill).trans hput

section
variable {β : Type} {π : State → β} (hπ : HeatFree π)
include hπ

theorem HeatFree.phys : PhyFree π := fun s xf xt xh xp d y =>
  hπ s xf xt xh xp d y s.thm.warned s.thm.throttledBy s.thm.step s.thm.headCap s.thm.throttles s.thm.level s.thm.shut

theorem HeatFree.guard (s : State) (w b : NSet) (st cap n lv : Nat) (sh : Bool) : π { s with
    thm := { s.thm with warned := w, throttledBy := b, step := st, headCap := cap, throttles := n, level := lv, shut := sh } } = π s :=
  hπ s s.flt s.tly s.heads s.pins s.hrv.deferred s.hrv.phyForced w b st cap n lv sh

theorem setStep_saving (n : Nat) {s : State} (hsave : s.saving = true) : π (setStep n s) = π s := by
  unfold setStep
  split
  · rfl
  · generalize hv : ({ s with thm := { s.thm with step := n, headCap := stepCap n } } : State) = v
    have hvsave : v.saving = true := by rw [← hv]; exact hsave
    have hvπ : π v = π s := by rw [← hv]; exact hπ.guard s s.thm.warned s.thm.throttledBy n (stepCap n) s.thm.throttles s.thm.level s.thm.shut
    have htold : (tlyTrigger 0x108 0 v).saving = true := (tlyTrigger_saving (π := State.saving) (fun _ _ _ _ _ _ _ => rfl) 0x108 0 hvsave).trans hvsave
    rw [requestStep_saving htold]
    exact (tlyTrigger_saving hπ.phys 0x108 0 hvsave).trans hvπ

theorem warnSync_saving {s : State} (hsave : s.saving = true) : π (warnSync s) = π s := by
  rw [warnSync_eq]
  split
  · exact (setStep_saving hπ 1 (by exact hsave)).trans (hπ.guard s _ _ s.thm.step s.thm.headCap _ s.thm.level s.thm.shut)
  · exact hπ.guard s _ _ s.thm.step s.thm.headCap s.thm.throttles s.thm.level s.thm.shut

theorem levelTold_saving {s : State} (hsave : s.saving = true) : π s.levelTold = π s := by
  unfold State.levelTold
  refine (chapenEvent_only π (fun s xh => hπ.phys s s.flt s.tly xh s.pins s.hrv.deferred s.hrv.phyForced) ..).trans ?_
  exact (tlyTrigger_saving hπ.phys _ _ (by exact hsave)).trans
    (hπ.guard s s.thm.warned s.thm.throttledBy s.thm.step s.thm.headCap s.thm.throttles _ s.thm.shut)

end

theorem fltCond_saving {β : Type} {π : State → β} (hπ : PhyFree π) {src : Nat} (on : Bool) {s : State} (hsave : s.saving = true)
    (hplain : ∀ r, srcRow src = some r → r.hf = 0) : π (fltCond src on s) = π s := by
  have hlive : ∀ l, π { s with flt := { s.flt with live := l } } = π s := fun l =>
    hπ s _ s.tly s.heads s.pins s.hrv.deferred s.hrv.phyForced
  unfold fltCond
  split
  · unfold fltRise
    split
    · rfl
    · exact (fltRaise_saving π (fun s xf xt _ _ xp d => hπ s xf xt _ xp d s.hrv.phyForced) src 0
        { s with flt := { s.flt with live := setAdd src s.flt.live } } hsave hplain).trans (hlive _)
  · exact hlive _

theorem levelSync_saving {β : Type} {π : State → β} (hπ : HeatFree π) {s : State} (hsave : s.saving = true) : π (levelSync s) = π s := by
  by_cases hlevel : s.thm.level = s.thmLevel
  · rw [levelSync_same hlevel]
  · have htold : s.levelTold.saving = true := (levelTold_saving (π := State.saving) (fun _ _ _ _ _ _ _ _ _ _ _ _ _ _ => rfl) hsave).trans hsave
    rw [levelSync_changed hlevel]
    exact (fltCond_saving hπ.phys _ htold plain_sources.1).trans (levelTold_saving hπ hsave)

/-- What a sample's shedding leaves alone of a save, and the thermal end it notes (R155). -/
theorem saveThermal_spec (s : State) : (saveThermal s).dev = s.dev ∧ (saveThermal s).thm = s.thm ∧
    (saveThermal s).hrv.thermalEnd = (s.hrv.thermalEnd || (!s.hrv.m3 && decide (s.atOrAbove ThmThresh.shutSave 0 s.thmReads ≠ []))) := by
  unfold saveThermal
  dsimp only
  generalize hv : secondShed _ = v
  have hshed : ∀ {β : Type} {π : State → β}, WorkFree π → π v = π s := by
    intro β π hπ
    rw [← hv]
    refine (secondShed_work hπ _).trans ?_
    split
    · exact shedTo_work hπ 1 s
    · rfl
  have hdev : v.dev = s.dev := hshed (π := fun u => u.dev) fun _ _ _ _ _ _ _ => rfl
  have hthm : v.thm = s.thm := hshed (π := fun u => u.thm) fun _ _ _ _ _ _ _ => rfl
  have hm3 : v.hrv.m3 = s.hrv.m3 := hshed (π := fun u => u.hrv.m3) fun _ _ _ _ _ _ _ => rfl
  have hend : v.hrv.thermalEnd = s.hrv.thermalEnd := hshed (π := fun u => u.hrv.thermalEnd) fun _ _ _ _ _ _ _ => rfl
  obtain ⟨hreads, habove⟩ := reads_congr (s := s) (t := v) (congrArg (fun d : Dev => d.st) hdev) (congrArg Thm.table hthm)
  have hreach : v.atOrAbove ThmThresh.shutSave 0 v.thmReads = s.atOrAbove ThmThresh.shutSave 0 s.thmReads := by
    rw [hreads]; exact habove _ _ _
  rw [hreach, hm3]
  by_cases hc : (!s.hrv.m3 && decide (s.atOrAbove ThmThresh.shutSave 0 s.thmReads ≠ [])) = true
  · rw [if_pos hc, hc, Bool.or_true]
    exact ⟨hdev, hthm, rfl⟩
  · rw [if_neg hc, Bool.eq_false_iff.mpr hc, Bool.or_false]
    exact ⟨hdev, hthm, hend⟩

theorem laterTrigger_thermal (n : Nat) (s : State) : (laterTrigger .thermal n s).dev = s.dev ∧
    (laterTrigger .thermal n s).hrv.thermalEnd = s.hrv.thermalEnd := by
  unfold laterTrigger
  rw [if_neg (by rw [decide_eq_false (by decide)]; exact Bool.false_ne_true)]
  split <;> exact ⟨rfl, rfl⟩

theorem shutSync_saving {s : State} (hsave : s.saving = true) : (shutSync s).dev = s.dev ∧
    (shutSync s).hrv.thermalEnd = s.hrv.thermalEnd := by
  have hlater : ∀ (c : Bool) n, ((if c = true then laterTrigger .thermal n { s with thm := { s.thm with shut := true } }
      else { s with thm := { s.thm with shut := true } }).dev = s.dev) ∧
      ((if c = true then laterTrigger .thermal n { s with thm := { s.thm with shut := true } }
      else { s with thm := { s.thm with shut := true } }).hrv.thermalEnd = s.hrv.thermalEnd) := by
    intro c n
    split
    · exact laterTrigger_thermal n { s with thm := { s.thm with shut := true } }
    · exact ⟨rfl, rfl⟩
  unfold shutSync
  split
  · exact ⟨rfl, rfl⟩
  · dsimp only
    rcases saving_states hsave with h | h
    · rw [h]; exact hlater _ _
    · rw [h]; exact hlater _ _

theorem yields_sample_saving {s : State} {l : List (Nat × ThmReading)} (hruns : s.converts)
    (hlimit : ((convert l s).thmMeasured.find? fun e => decide (2000 ≤ e.2)) = none) (hsave : (convert l s).saving = true) :
    Yields (.thermalSample l) s fun t => let u := convert l s
      t.dev = u.dev ∧ t.hrv.thermalEnd = (u.hrv.thermalEnd || (!u.hrv.m3 && decide (u.atOrAbove ThmThresh.shutSave 0 u.thmReads ≠ []))) := by
  refine ⟨_, (execThermalSample_runs l hruns).trans (congrArg Host.Outcome.next (runningSample_below hlimit)), ?_⟩
  generalize convert l s = u at hsave ⊢
  have hwarn : ∀ {β : Type} {π : State → β}, HeatFree π → π (warnSync u.sampled) = π u.sampled := fun hπ =>
    warnSync_saving hπ (by exact hsave)
  have hdev : (warnSync u.sampled).dev = u.dev := hwarn (π := fun u => u.dev) fun _ _ _ _ _ _ _ _ _ _ _ _ _ _ => rfl
  have hm3 : (warnSync u.sampled).hrv.m3 = u.hrv.m3 := hwarn (π := fun u => u.hrv.m3) fun _ _ _ _ _ _ _ _ _ _ _ _ _ _ => rfl
  have hend : (warnSync u.sampled).hrv.thermalEnd = u.hrv.thermalEnd :=
    hwarn (π := fun u => u.hrv.thermalEnd) fun _ _ _ _ _ _ _ _ _ _ _ _ _ _ => rfl
  have htable : (warnSync u.sampled).thm.table = u.thm.table :=
    hwarn (π := fun u => u.thm.table) fun _ _ _ _ _ _ _ _ _ _ _ _ _ _ => rfl
  obtain ⟨hreads, habove⟩ := reads_congr (s := u) (congrArg (fun d : Dev => d.st) hdev) htable
  generalize warnSync u.sampled = w at hdev hm3 hend hreads habove ⊢
  have hwsave : w.saving = true := (saving_congr hdev).trans hsave
  obtain ⟨hdev2, -, hend2⟩ := saveThermal_spec w
  rw [hreads, habove, hm3, hend] at hend2
  rw [if_pos hwsave]
  have hvsave : (saveThermal w).saving = true := (saving_congr hdev2).trans hwsave
  obtain ⟨hdev3, hend3⟩ := shutSync_saving hvsave
  have hxsave : (shutSync (saveThermal w)).saving = true := (saving_congr hdev3).trans hvsave
  refine ⟨?_, ?_⟩
  · exact (levelSync_saving (π := fun u => u.dev) (fun _ _ _ _ _ _ _ _ _ _ _ _ _ _ => rfl) hxsave).trans (hdev3.trans (hdev2.trans hdev))
  · exact (levelSync_saving (π := fun u => u.hrv.thermalEnd) (fun _ _ _ _ _ _ _ _ _ _ _ _ _ _ => rfl) hxsave).trans (hend3.trans hend2)

/-- SHUT in ARMED starts a save of trigger 3 (R353). -/
theorem yields_sample_save {s : State} {l : List (Nat × ThmReading)} (hruns : s.converts)
    (hlimit : ((convert l s).thmMeasured.find? fun e => decide (2000 ≤ e.2)) = none)
    (he : (convert l s).atOrAbove ThmThresh.shut 0 (convert l s).thmReads ≠ []) (hst : (convert l s).dev.st = .armed)
    (hroom : (convert l s).tly.fifo.length < 32) : Yields (.thermalSample l) s fun t =>
      t.dev.st = .harvest ∧ t.hrv.trigger = 3 ∧ t.hrv.armedAtTrigger = true ∧ t.hrv.saveSeq = (convert l s).hrv.nextSeq := by
  refine ⟨_, (execThermalSample_runs l hruns).trans (congrArg Host.Outcome.next (runningSample_below hlimit)), ?_⟩
  generalize convert l s = u at he hst hroom ⊢
  obtain ⟨honly, -, -, hreach, -⟩ := warnSync_sampled hroom
  generalize warnSync u.sampled = w at honly hreach ⊢
  have hdev : w.dev = u.dev := honly.dev
  have hhrv : w.hrv = u.hrv := honly.keeps (π := State.hrv) fun _ _ _ _ _ => rfl
  have hwst : w.dev.st = .armed := by rw [hdev]; exact hst
  have hquiet : w.saving = false := by
    unfold State.saving
    rw [hwst]
    rfl
  rw [hquiet, if_neg Bool.false_ne_true, shutSync_saves (by rwa [hreach]) hwst]
  obtain ⟨hsst, -, htrig, harmed, -, hseq, -⟩ := beginSave_spec .thermal 0 { w with thm := { w.thm with shut := true } }
  generalize beginSave .thermal 0 { w with thm := { w.thm with shut := true } } = v at hsst htrig harmed hseq ⊢
  have hvsave : v.saving = true := by
    unfold State.saving
    rw [hsst]
    rfl
  have hkeep := levelSync_saving (π := fun u => (u.dev, u.hrv.trigger, u.hrv.armedAtTrigger, u.hrv.saveSeq))
    (fun _ _ _ _ _ _ _ _ _ _ _ _ _ _ => rfl) hvsave
  obtain ⟨hkd, hkeep⟩ := Prod.mk.inj hkeep
  obtain ⟨hkt, hkeep⟩ := Prod.mk.inj hkeep
  obtain ⟨hka, hks⟩ := Prod.mk.inj hkeep
  refine ⟨by rw [hkd]; exact hsst, hkt.trans htrig, hka.trans (harmed.trans (decide_eq_true hwst)), hks.trans (hseq.trans ?_)⟩
  exact congrArg Hrv.nextSeq hhrv

/-! ### Throttle steps on and back (R350, R351) -/

theorem yields_throttleStepAdvance {s : State} (halive : s.alive = true) (hpos : 0 < s.thm.step) (hlast : s.thm.step < 3)
    (hhot : s.atOrAbove ThmThresh.throttle 0 s.thmReads ≠ []) (hroom : s.tly.fifo.length < 32) : Yields .throttleStepAdvance s fun t =>
      t.thm.step = s.thm.step + 1 ∧ t.thm.headCap = (if s.thm.step = 1 then 48 else 24) ∧
      t = { s with thm := t.thm, tly := t.tly, dmc := t.dmc, trn := t.trn } := by
  obtain ⟨honly, hthm, -⟩ := setStep_room (s.thm.step + 1) hroom
  refine ⟨_, if_pos (by simp [halive, Nat.pos_iff_ne_zero.mp hpos, hlast, hhot]), ?_, ?_, honly⟩
  · rw [hthm]
    unfold Thm.stepped
    rw [if_neg (by omega)]
  · rw [hthm]
    unfold Thm.stepped
    rw [if_neg (by omega)]
    have hcase : s.thm.step = 1 ∨ s.thm.step = 2 := by omega
    rcases hcase with h | h <;> rw [h] <;> rfl

theorem execThrottleStepAdvance_idle {s : State} (hidle : s.alive = false ∨ s.thm.step = 0 ∨ 3 ≤ s.thm.step ∨
    s.atOrAbove ThmThresh.throttle 0 s.thmReads = []) : execThrottleStepAdvance s = .next s := by
  refine if_neg ?_
  rcases hidle with h | h | h | h
  · simp [h]
  · simp [h]
  · simp [Nat.not_lt.mpr h]
  · simp [h]

theorem execThrottleStepBack_cool {s : State} (halive : s.alive = true) (hstep : s.thm.step ≠ 0) (hcool : s.throttleCool = true) :
    execThrottleStepBack s = .next (levelSync { setStep (s.thm.step - 1) s with thm := { (setStep (s.thm.step - 1) s).thm with
      throttledBy := if (setStep (s.thm.step - 1) s).thm.step = 0 then [] else (setStep (s.thm.step - 1) s).thm.throttledBy } }) :=
  if_pos (by simp [halive, hstep, hcool])

theorem stepCap_back {n : Nat} (hn : 2 ≤ n) : stepCap (n - 1) = if n = 2 then 80 else if n = 3 then 48 else 24 := by
  match n, hn with
  | 2, _ => rfl
  | 3, _ => rfl
  | m + 4, _ =>
    rw [if_neg (by omega), if_neg (by omega)]
    rfl

theorem yields_throttleStepBack {s : State} (halive : s.alive = true) (hcool : s.throttleCool = true) (hroom : s.tly.fifo.length < 31)
    (hlevel : s.thm.level = s.thmLevel) (hstep : 2 ≤ s.thm.step) : Yields .throttleStepBack s fun t =>
      t.thm.step = s.thm.step - 1 ∧ t.thm.headCap = (if s.thm.step = 2 then 80 else if s.thm.step = 3 then 48 else 24) ∧
      t = { s with thm := t.thm, tly := t.tly, dmc := t.dmc, trn := t.trn } := by
  obtain ⟨honly, hthm, -⟩ := setStep_room (s := s) (s.thm.step - 1) (by omega)
  have hstepped : (setStep (s.thm.step - 1) s).thm = { s.thm with step := s.thm.step - 1, headCap := stepCap (s.thm.step - 1) } := by
    rw [hthm]
    exact if_neg (by omega)
  refine ⟨_, execThrottleStepBack_cool halive (by omega) hcool, ?_⟩
  generalize setStep (s.thm.step - 1) s = v at honly hstepped ⊢
  have hne : v.thm.step ≠ 0 := by rw [hstepped]; show s.thm.step - 1 ≠ 0; omega
  rw [if_neg hne]
  have hsame : v.thm.level = v.thmLevel := by
    have hold : s.thmLevel = if s.thm.trip || s.thm.shut then 3 else 2 := by
      unfold State.thmLevel
      rw [if_pos (show s.thm.step ≠ 0 by omega)]
    have hnew : v.thmLevel = if s.thm.trip || s.thm.shut then 3 else 2 := by
      unfold State.thmLevel
      rw [if_pos hne, hstepped]
    rw [hnew, ← hold, ← hlevel, hstepped]
  have hout : levelSync v = v := levelSync_same hsame
  refine ⟨?_, ?_, ?_⟩
  · exact (congrArg (fun u : State => u.thm.step) hout).trans (by rw [hstepped])
  · exact (congrArg (fun u : State => u.thm.headCap) hout).trans (by rw [hstepped]; exact stepCap_back hstep)
  · show StepOnly s (levelSync v)
    rw [hout]
    exact honly

theorem yields_throttleStepBack_last {s : State} (halive : s.alive = true) (hcool : s.throttleCool = true) (hroom : s.tly.fifo.length < 31)
    (hlive : s.flt.live.contains 0xA0 = true) (hstep : s.thm.step = 1) : Yields .throttleStepBack s fun t =>
      t.thm.step = 0 ∧ t.thm.headCap = 0 ∧ t.thm.throttledBy = [] ∧ t.thm.level = t.thmLevel ∧ t.dev = s.dev ∧ t.map = s.map ∧
      ∀ x, t.byteAt x = s.byteAt x := by
  obtain ⟨honly, hthm, hfifo⟩ := setStep_room (s := s) (s.thm.step - 1) (by omega)
  have hstepped : (setStep (s.thm.step - 1) s).thm = { s.thm with step := 0, headCap := 0 } := by
    rw [hthm, hstep]
    exact if_neg (by omega)
  refine ⟨_, execThrottleStepBack_cool halive (by omega) hcool, ?_⟩
  generalize setStep (s.thm.step - 1) s = v at honly hstepped hfifo ⊢
  have hflt : v.flt = s.flt := honly.keeps (π := State.flt) fun _ _ _ _ _ => rfl
  generalize hw : ({ v with thm := { v.thm with throttledBy := if v.thm.step = 0 then [] else v.thm.throttledBy } } : State) = w
  have hwthm : w.thm = { s.thm with step := 0, headCap := 0, throttledBy := [] } := by
    rw [← hw]
    dsimp only
    rw [hstepped]
    rfl
  have hwlive : w.flt.live.contains 0xA0 = true := by rw [← hw]; show v.flt.live.contains 0xA0 = true; rw [hflt]; exact hlive
  have hwroom : w.tly.fifo.length < 32 := by rw [← hw]; show v.tly.fifo.length < 32; omega
  have hkeep := levelSync_settled (π := fun u => (u.dev, u.map, u.dram)) (fun _ _ _ _ _ _ => rfl) hwlive hwroom
  have hkeep := hkeep.trans (show (w.dev, w.map, w.dram) = (s.dev, s.map, s.dram) by
    rw [← hw]
    exact honly.keeps (π := fun u => (u.dev, u.map, u.dram)) fun _ _ _ _ _ => rfl)
  obtain ⟨hd, hkeep⟩ := Prod.mk.inj hkeep
  obtain ⟨hm, hb⟩ := Prod.mk.inj hkeep
  have hout := levelSync_settled_level hwlive hwroom
  have hlevel : (levelSync w).thm.level = (levelSync w).thmLevel := by
    unfold State.thmLevel
    rw [hout]
    rfl
  refine ⟨?_, ?_, ?_, hlevel, hd, hm, fun x => congrArg (fun m => tblGet 0 m x) hb⟩
  · rw [hout, hwthm]
  · rw [hout, hwthm]
  · rw [hout, hwthm]

theorem execThrottleStepBack_idle {s : State} (hidle : s.alive = false ∨ s.thm.step = 0 ∨ s.throttleCool = false) :
    execThrottleStepBack s = .next s := by
  refine if_neg ?_
  rcases hidle with h | h | h <;> simp [h]

/-! ### A stopped chip (R347, R356) -/

theorem yields_sample_stopped {s : State} (l : List (Nat × ThmReading)) (hcool : s.coolsDown = true) : Yields (.thermalSample l) s fun t =>
      let u := convert l { s with dev := { s.dev with aonUs := s.dev.aonUs + 1000000 } }
      t.thm.restartRun = u.coolNow ∧
      t.thm.restartS = (if u.coolNow = true ∧ u.thm.restartRun = true then min 10 (u.thm.restartS + 1) else 0) ∧
      t.dev = u.dev ∧ t.thm.inputs = u.thm.inputs := by
  refine ⟨_, if_pos hcool, ?_⟩
  unfold stoppedSample
  dsimp only
  generalize convert l { s with dev := { s.dev with aonUs := s.dev.aonUs + 1000000 } } = u
  refine ⟨rfl, ?_, rfl, rfl⟩
  simp only [Bool.and_eq_true]

theorem startFrom_cause (c : Nat) (s : State) : (startFrom c s).dev.st = .boot ∧ (startFrom c s).dev.startDue = true ∧
    (startFrom c s).upd.cause = c := by
  unfold startFrom
  split
  · exact ⟨rfl, rfl, rfl⟩
  · obtain ⟨hst, hdue, hcause, -⟩ := mainReset_startDue c (salCut s)
    exact ⟨hst, hdue, hcause⟩

theorem thermalRestart_due {s : State} (hcool : s.coolsDown = true) (hrun : s.thm.restartRun = true) (hten : 10 ≤ s.thm.restartS) :
    (s.dev.st = .halt → s.dev.halt = .thermal → Yields .thermalRestart s (StartDue 6)) ∧
    (s.dev.st = .sealed ∨ s.dev.halt ≠ .thermal →
      (s.dev.pgOk = false → Yields .thermalRestart s fun t => t = { s with dev := { s.dev with coolOk := true } }) ∧
      (s.dev.pgOk = true → Yields .thermalRestart s fun t => t.dev.st = .boot ∧ t.dev.startDue = true ∧ t.upd.cause = 6)) := by
  have hdue : (s.coolsDown && s.thm.restartRun && decide (10 ≤ s.thm.restartS)) = true := by simp [hcool, hrun, hten]
  have hnext : execThermalRestart s = if s.dev.st = .halt && s.dev.halt = .thermal then .next (startFrom 6 s)
      else .next (if s.dev.pgOk then startFrom 6 { s with dev := { s.dev with coolOk := true } }
        else { s with dev := { s.dev with coolOk := true } }) := if_pos hdue
  refine ⟨fun hst hkind => ⟨startFrom 6 s, hnext.trans (if_pos (by simp [hst, hkind])), ?_⟩, fun hother => ?_⟩
  · have hreset : startFrom 6 s = mainReset 6 (salCut s) := if_neg (by rw [hst]; decide)
    rw [hreset]
    exact mainReset_startDue 6 _
  · have hno : ¬(decide (s.dev.st = .halt) && decide (s.dev.halt = .thermal)) = true := by
      rcases hother with h | h <;> simp [h]
    have hnext := hnext.trans (if_neg hno)
    refine ⟨fun hpg => ⟨_, hnext, ?_⟩, fun hpg => ⟨_, hnext, ?_⟩⟩
    · rw [hpg, if_neg Bool.false_ne_true]
    · rw [if_pos hpg]
      exact startFrom_cause 6 _

theorem execThermalRestart_idle {s : State} (hidle : s.coolsDown = false ∨ s.thm.restartRun = false ∨ s.thm.restartS < 10) :
    execThermalRestart s = .next s := by
  refine if_neg ?_
  rcases hidle with h | h | h
  · simp [h]
  · simp [h]
  · simp [Nat.not_le.mpr h]

/-- Settles O37, by the outcomes of a sample and of each timer. -/
theorem thermalGuard : Obligations.ThermalGuard := by
  unfold Obligations.ThermalGuard
  intro converts reach floor
  refine ⟨fun s n v henable hgood => ?_, fun s n r henable hsave hmild hbad => ?_, fun s l hcool hstop => ?_,
    fun s l e hruns he => yields_sample_absolute hruns he, fun s l hruns hlimit => ⟨?_, ?_, ?_, ?_⟩,
    fun s halive hpos hlast hhot hroom => yields_throttleStepAdvance halive hpos hlast hhot hroom,
    fun s hidle => execThrottleStepAdvance_idle hidle,
    fun s halive hcool hroom hlevel hlive => ⟨fun hstep => yields_throttleStepBack halive hcool hroom hlevel hstep,
      fun hstep => yields_throttleStepBack_last halive hcool hroom hlive hstep⟩,
    fun s hidle => execThrottleStepBack_idle hidle, fun s l hcool => yields_sample_stopped l hcool,
    fun s hcool hrun hten => thermalRestart_due hcool hrun hten, fun s hidle => execThermalRestart_idle hidle,
    fun s halive hfar => ⟨_, if_pos (by simp [halive, hfar]), rfl⟩, fun s hidle => ?_⟩
  · have hin := convert_good henable hgood
    obtain ⟨htemp, hclamp, hbad, hrun, hbroken⟩ := inputAfter_good (s.thmIn n) hgood
    exact ⟨hin ▸ htemp, hin ▸ hclamp, hin ▸ hbad, hin ▸ hrun, hin ▸ hbroken⟩
  · have hbadr : badReading n r = true := by
      rcases hbad with h | ⟨v, h, hv⟩
      · rw [h]; rfl
      · rw [h]; exact decide_eq_true hv
    obtain ⟨hin, hbreaks⟩ := convert_bad henable hsave hmild hbadr
    have hafter := hin.trans (inputAfter_bad (s.thmIn n) hbadr)
    refine ⟨by rw [hafter], by rw [hafter], by rw [hafter], by rw [hafter], hbreaks.trans ?_⟩
    split <;> rfl
  · refine (if_neg (by rw [hcool]; decide)).trans (if_pos ?_)
    rcases hstop with h | h | h | h <;> simp [h]
  · exact fun e r he hst hroom => yields_sample_shut hruns hlimit he hst hroom
  · exact fun he hst hroom => yields_sample_save hruns hlimit he hst hroom
  · exact fun hsave => yields_sample_saving hruns hlimit hsave
  · exact fun he hsave hmild hroom => yields_sample_below hruns hlimit he hsave hmild hroom
  · refine if_neg ?_
    rcases hidle with h | h <;> simp [h]

end Sys2Proof.Machine
end

section
/-!
PROOFS. Restore (R173 to R185, R221 to R241): a granule filled in from its record or by zeros, one that is lost, a demand fetch, and a page read.
-/
namespace Sys2Proof.Machine

/-! ### The end of restore (R178) -/

theorem chapenEvent_up (l : EvLog) (typ cause head object gb ga value : Nat) (s : State) (k : Head) :
    ((chapenEvent l typ cause head object gb ga value s).heads.get k).up = (s.heads.get k).up :=
  (eventTo_up .b k l _ _).trans (eventTo_up .a k l _ s)

/-- With room for its trigger restore's end reaches Tally, the heads' logs and the counters of restore. -/
theorem restoreEnd_room {s : State} (hroom : s.tly.fifo.length < 32) : ∃ h x on n r c, restoreEnd s = { s with
    heads := h, tly := x, fld := { s.fld with restoring := on, step := n, restored := r, doneCs := c } } ∧
    (r = s.fld.restored ∨ r = {}) ∧ ∀ k, (h.get k).up = (s.heads.get k).up := by
  unfold restoreEnd
  split
  · generalize hv : ({ s with fld := { s.fld with
      restoring := false, step := if s.fld.step = 6 then 7 else s.fld.step, restored := {}
      doneCs := min 65535 ((s.dev.aonUs - s.dev.startUs) / 10000) } } : State) = v
    have htold : tlyTrigger 0x10C 0 v = { v with tly := (tlyTrigger 0x10C 0 v).tly } := by
      rw [tlyTrigger_room 0x10C 0 v (by rw [← hv]; exact hroom)]
    generalize (tlyTrigger 0x10C 0 v).tly = x at htold
    rw [htold, chapenEvent_reaches_heads, ← hv]
    exact ⟨_, _, _, _, _, _, rfl, .inr rfl, fun k => chapenEvent_up ..⟩
  · exact ⟨s.heads, s.tly, s.fld.restoring, s.fld.step, s.fld.restored, s.fld.doneCs, rfl, .inl rfl, fun _ => rfl⟩

theorem restoreEnd_left {s : State} (hleft : s.granulesLeft ≠ 0) : restoreEnd s = s := by
  unfold restoreEnd
  rw [if_neg (by simp [hleft])]

theorem restoredBit_default (s : State) (g : Nat) (h : s.fld.restored = {}) : s.restoredBit g = true := by
  unfold State.restoredBit
  rw [h]
  rfl

/-! ### A granule filled in, and a granule lost (R173, R178, R184) -/

/-- A granule's content is in DRAM: nothing else of memory, the ledger or the map has moved. -/
structure FilledIn (g : Nat) (b : GranuleBytes) (s t : State) : Prop where
  dram : t.dram = (s.putGranule g b).dram
  poison : t.poison = s.poison.filter fun l => l / 64 != g
  bit : t.restoredBit g = true
  dirty : ∀ x, t.dirtyBit x = s.dirtyBit x
  total : t.map.total = s.map.total
  hmap : t.map.hmap = s.map.hmap
  dev : t.dev = s.dev
  bed : t.bed = s.bed
  lay : t.lay = s.lay
  replies : t.replies = s.replies
  lost : t.fld.lost = s.fld.lost
  fetches : t.fld.fetches = s.fld.fetches
  admission : t.fld.admission = s.fld.admission
  posted : t.dmc.posted = s.dmc.posted
  failed : ∀ k, (t.dchan k).failed = (s.dchan k).failed
  up : ∀ k, (t.heads.get k).up = (s.heads.get k).up

theorem filledIn_fillGranule (g : Nat) (b : GranuleBytes) (s : State) : FilledIn g b s (fillGranule g b s) := by
  obtain ⟨hdram, hpoison, hbit, hdirty, -, htotal, hhmap, hfld, hfailed, hposted, hkeep⟩ := fillGranule_spec g b s
  exact {
    dram := hdram, poison := hpoison, bit := by rw [hbit]; simp, dirty := hdirty, total := htotal, hmap := hhmap
    dev := hkeep (fun u => u.dev) fun _ _ _ _ _ _ _ => rfl, bed := hkeep (fun u => u.bed) fun _ _ _ _ _ _ _ => rfl
    lay := hkeep (fun u => u.lay) fun _ _ _ _ _ _ _ => rfl, replies := hkeep (fun u => u.replies) fun _ _ _ _ _ _ _ => rfl
    lost := by rw [hfld], fetches := by rw [hfld], admission := by rw [hfld], posted := hposted, failed := hfailed
    up := fun k => hkeep (fun u => (u.heads.get k).up) fun _ _ _ _ _ _ _ => rfl }

/-- Counts of the tick and of parity, and restore's end, change nothing of what a fill leaves. -/
theorem FilledIn.ended {g : Nat} {b : GranuleBytes} {s t : State} (h : FilledIn g b s t) (hroom : t.tly.fifo.length < 32) :
    FilledIn g b s (restoreEnd t) := by
  obtain ⟨x, y, on, n, r, c, hend, hr, hup⟩ := restoreEnd_room hroom
  rw [hend]
  exact {
    dram := h.dram, poison := h.poison, dirty := h.dirty, total := h.total, hmap := h.hmap, dev := h.dev, bed := h.bed, lay := h.lay
    replies := h.replies, lost := h.lost, fetches := h.fetches, admission := h.admission, posted := h.posted, failed := h.failed
    up := fun k => (hup k).trans (h.up k)
    bit := by
      rcases hr with hr | hr
      · rw [hr]; exact h.bit
      · exact restoredBit_default _ g hr }

theorem FilledIn.from {g : Nat} {b : GranuleBytes} {s v t : State} (d : Drn) (n : Nat) (hv : v = { s with drn := d, fld := { s.fld with parity := n } })
    (h : FilledIn g b v t) : FilledIn g b s t := by
  rw [hv] at h
  exact { h with }

/-- A granule is lost: its entry, its lost and its restore bit; no byte and no mark. -/
structure LostAt (g : Nat) (s t : State) : Prop where
  entry : (t.hmOf g).state = .lost
  others : ∀ y, y ≠ g → t.hmOf y = s.hmOf y
  lost : t.fld.lost = setAdd g s.fld.lost
  bit : t.restoredBit g = true
  dev : t.dev = s.dev
  dram : t.dram = s.dram
  dirty : ∀ y, t.dirtyBit y = s.dirtyBit y

theorem lostAt_loseGranule (g : Nat) (s : State) : LostAt g s (loseGranule g s) := by
  obtain ⟨hbit, hdirty, hhm, hfld, -, -, -⟩ := loseGranule_spec g s
  exact {
    entry := by rw [hhm, if_pos rfl], others := fun y hy => by rw [hhm, if_neg hy], lost := by rw [hfld]
    bit := by rw [hbit]; simp, dev := (loseGranule_frame g s).1, dirty := hdirty
    dram := loseGranule_only (fun u => u.dram) (fun _ _ _ _ _ _ _ => rfl) g s }

theorem LostAt.ended {g : Nat} {s t : State} (h : LostAt g s t) (hroom : t.tly.fifo.length < 32) : LostAt g s (restoreEnd t) := by
  obtain ⟨x, y, on, n, r, c, hend, hr, -⟩ := restoreEnd_room hroom
  rw [hend]
  exact {
    entry := h.entry, others := h.others, lost := h.lost, dev := h.dev, dram := h.dram, dirty := h.dirty
    bit := by
      rcases hr with hr | hr
      · rw [hr]; exact h.bit
      · exact restoredBit_default _ g hr }

/-- A granule's record is on the media and passes its checks (R173, R176). -/
def State.goodRecord (s : State) (g : Nat) (l : HmLoc) (p : StorePage) (x : GranRec) (o : FetchEnd) : Prop :=
  (s.hmOf g).state = .stored ∧ s.recIn l = some (p, x) ∧ s.recChecks p x g (s.hmOf g) = true ∧ o ≠ .unreadable

theorem restoreStored_good {s : State} {g : Nat} {l : HmLoc} {p : StorePage} {x : GranRec} {o : FetchEnd} (hgood : s.goodRecord g l p x o) :
    FilledIn g x.body s (restoreStored g o l s) := by
  obtain ⟨-, hrec, hchecks, hread⟩ := hgood
  have hdo : restoreStored g o l s = fillGranule g x.body (tickUpd (fun t => { t with decomp := t.decomp + 4096 })
      (if o = .rebuilt then { (tickUpd (fun t => { t with nandRead := t.nandRead + (64 + 64 * x.length), restNand := t.restNand + (64 + 64 * x.length) }) s)
        with fld := { s.fld with parity := satAdd 16 s.fld.parity 1 } }
      else tickUpd (fun t => { t with nandRead := t.nandRead + (64 + 64 * x.length), restNand := t.restNand + (64 + 64 * x.length) }) s)) := by
    unfold restoreStored
    rw [hrec]
    exact if_pos (by rw [Bool.and_eq_true]; exact ⟨hchecks, decide_eq_true hread⟩)
  rw [hdo]
  split
  · exact (filledIn_fillGranule g x.body _).from _ _ rfl
  · exact (filledIn_fillGranule g x.body _).from _ s.fld.parity rfl

theorem restoreStored_bad {s : State} {g : Nat} {l : HmLoc} {o : FetchEnd} (hstored : (s.hmOf g).state = .stored)
    (hbad : ∀ p x, ¬s.goodRecord g l p x o) : LostAt g s (restoreStored g o l s) := by
  unfold restoreStored
  split
  · exact lostAt_loseGranule g s
  · rename_i p x hrec
    dsimp only
    rw [if_neg]
    · have h := lostAt_loseGranule g (tickUpd (fun t => { t with
        nandRead := t.nandRead + (64 + 64 * x.length), restNand := t.restNand + (64 + 64 * x.length) }) s)
      exact { h with }
    · intro hall
      rw [Bool.and_eq_true] at hall
      exact hbad p x ⟨hstored, hrec, hall.1, of_decide_eq_true hall.2⟩

theorem restoreGranule_stored {s : State} {g : Nat} (o : FetchEnd) (l : HmLoc) (hbit : s.restoredBit g = false)
    (hstored : (s.hmOf g).state = .stored) : restoreGranule g o l s = restoreEnd (restoreStored g o l s) := by
  unfold restoreGranule
  rw [if_neg (by rw [hbit]; decide), hstored]

theorem restoreGranule_zero {s : State} {g : Nat} (o : FetchEnd) (l : HmLoc) (hbit : s.restoredBit g = false)
    (hzero : (s.hmOf g).state = .zero) : restoreGranule g o l s = restoreEnd (fillGranule g [] s) := by
  unfold restoreGranule
  rw [if_neg (by rw [hbit]; decide), hzero]

theorem restoreGranule_good {s : State} {g : Nat} {l : HmLoc} {p : StorePage} {x : GranRec} {o : FetchEnd} (hbit : s.restoredBit g = false)
    (hroom : s.tly.fifo.length < 32) (hgood : s.goodRecord g l p x o) : FilledIn g x.body s (restoreGranule g o l s) := by
  rw [restoreGranule_stored o l hbit hgood.1]
  exact (restoreStored_good hgood).ended (by rw [(restoreStored_frame g o l s).2.2.2.1]; exact hroom)

/-! ### Background restore and the zero stream (R221 to R226) -/

/-- What O25's statement says of memory beside the granule: every other byte, its restore bit and its poison. -/
theorem FilledIn.rest {g : Nat} {b : GranuleBytes} {s t : State} (h : FilledIn g b s t) :
    (∀ a, a < g * 4096 ∨ g * 4096 + 4096 ≤ a → t.byteAt a = s.byteAt a) ∧ t.restoredBit g = true ∧
    (∀ l, t.poison.contains l = (s.poison.contains l && decide (l / 64 ≠ g))) := by
  refine ⟨fun a ha => ?_, h.bit, fun l => ?_⟩
  · exact (congrArg (fun m => tblGet 0 m a) h.dram).trans (byteAt_putGranule_out s g a b ha)
  · rw [h.poison, Bool.eq_iff_iff]
    simp

theorem FilledIn.clean {g : Nat} {b : GranuleBytes} {s t : State} (h : FilledIn g b s t) :
    (∀ x, t.dirtyBit x = s.dirtyBit x) ∧ t.map.total = s.map.total ∧ t.map.hmap = s.map.hmap ∧ t.dev = s.dev ∧ t.bed = s.bed :=
  ⟨h.dirty, h.total, h.hmap, h.dev, h.bed⟩

theorem execBackgroundRestoreGranule_next {s : State} {o : FetchEnd} (hrun : s.running = true) (hon : s.fld.restoring = true)
    (hsan : s.pip.sanStep = 0) {g : Nat} (hnext : s.nextStored = some g) :
    execBackgroundRestoreGranule o s = .next (restoreGranule g o (s.hmOf g).loc s) := by
  unfold execBackgroundRestoreGranule
  rw [if_pos (by simp [hrun, hon, hsan]), hnext]

theorem execZeroStreamGranule_next {s : State} (hrun : s.running = true) (hon : s.fld.restoring = true) (hsan : s.pip.sanStep = 0) {g : Nat}
    (hnext : s.nextZero = some g) : execZeroStreamGranule s = .next (restoreGranule g .readable {} s) := by
  unfold execZeroStreamGranule
  rw [if_pos (by simp [hrun, hon, hsan]), hnext]

theorem restore_waits {s : State} (o : FetchEnd) (hwait : s.running = false ∨ s.fld.restoring = false ∨ s.pip.sanStep ≠ 0) :
    execBackgroundRestoreGranule o s = .next s ∧ execZeroStreamGranule s = .next s := by
  have hno : ¬(s.running && s.fld.restoring && decide (s.pip.sanStep = 0)) = true := by
    rcases hwait with h | h | h <;> simp [h]
  exact ⟨if_neg hno, if_neg hno⟩

theorem restore_nothing {s : State} (o : FetchEnd) (hrun : s.running = true) (hon : s.fld.restoring = true) (hsan : s.pip.sanStep = 0)
    (hleft : s.granulesLeft ≠ 0) : (s.nextStored = none → execBackgroundRestoreGranule o s = .next s) ∧
    (s.nextZero = none → execZeroStreamGranule s = .next s) := by
  have hyes : (s.running && s.fld.restoring && decide (s.pip.sanStep = 0)) = true := by simp [hrun, hon, hsan]
  refine ⟨fun hnone => ?_, fun hnone => ?_⟩
  · unfold execBackgroundRestoreGranule
    rw [if_pos hyes, hnone]
    exact congrArg Host.Outcome.next (restoreEnd_left hleft)
  · unfold execZeroStreamGranule
    rw [if_pos hyes, hnone]
    exact congrArg Host.Outcome.next (restoreEnd_left hleft)

/-! ### Demand fetches (R175, R184) -/

/-- A read of a restored, unpoisoned line with no posted write to commit answers its bytes; beside the channels only the answer changes. -/
theorem serveRead_data {s : State} (h : Head) (dpa tag : Nat) (hposted : s.dmc.posted = []) (hlost : s.fld.lost.contains (dpa / 4096) = false)
    (hfailed : (s.dchan (s.site (dpa / 64 * 64)).channel).failed = false) (hpoison : s.poison.contains (dpa / 64) = false)
    (hup : (s.heads.get h).up = true) : ∃ d, serveRead h dpa tag .clean s = { s with dmc := d, replies := { s.replies with
      mem := s.replies.mem.set h (s.replies.mem.get h ++ [.data tag (s.bytesAt (dpa / 64 * 64) 64)]) } } := by
  obtain ⟨⟨d, hread⟩, -, hbad⟩ := readLine_clean h.code (dpa / 64) s
  have hgood : (readLine h.code (dpa / 64) .clean s).2 = false := by
    rw [hbad, hpoison, Bool.or_false]
    exact hfailed
  have hdo : serveRead h dpa tag .clean s = memAnswer h (.data tag ((readLine h.code (dpa / 64) .clean s).1.bytesAt (dpa / 64 * 64) 64))
      (readLine h.code (dpa / 64) .clean s).1 := by
    unfold serveRead
    rw [hposted]
    show (if ((readLine h.code (dpa / 64) .clean s).2 || s.fld.lost.contains (dpa / 4096)) = true then _ else _) = _
    rw [hgood, hlost]
    rfl
  rw [hdo, hread]
  exact ⟨d, if_pos hup⟩

theorem restoreFetch_waits {s : State} {g : Nat} (o : FetchEnd) (us : Nat)
    (hwait : s.running = false ∨ s.pip.sanStep ≠ 0 ∨ (s.fld.fetches.any fun f => f.granule == g) = false) :
    execDemandFetchComplete g o us s = .next s := by
  refine congrArg Host.Outcome.next ?_
  rcases hwait with h | h | h
  · rw [h]; rfl
  · exact if_neg (by simp [h])
  · split
    · have hnone : (s.fld.fetches.find? fun f => f.granule == g) = none := List.find?_eq_none.mpr (by simpa using h)
      unfold endFetch
      rw [hnone]
    · rfl

theorem yields_demandFetch {s : State} {g : Nat} {o : FetchEnd} {p : StorePage} {x : GranRec} {q : HostReq} {loc : Option HmLoc} (us : Nat)
    (hrun : s.running = true) (hsan : s.pip.sanStep = 0) (hroom : s.tly.fifo.length < 32) (hbit : s.restoredBit g = false)
    (hfetch : (s.fld.fetches.find? fun f => f.granule == g) = some ⟨g, [q], loc⟩)
    (hgood : s.goodRecord g (loc.getD (s.hmOf g).loc) p x o) (hadm : s.fld.admission = []) (hread : q.isWrite = false)
    (hdpa : q.dpa / 4096 = g) (hup : (s.heads.get q.head).up = true) (hlost : s.fld.lost.contains g = false) (hposted : s.dmc.posted = [])
    (hchan : (s.dchan (s.site (q.dpa / 64 * 64)).channel).failed = false) : Yields (.demandFetchComplete g o us) s fun t =>
      t.dram = (s.putGranule g x.body).dram ∧
      ((∀ a, a < g * 4096 ∨ g * 4096 + 4096 ≤ a → t.byteAt a = s.byteAt a) ∧ t.restoredBit g = true ∧
        (∀ l, t.poison.contains l = (s.poison.contains l && decide (l / 64 ≠ g)))) ∧
      ((∀ x, t.dirtyBit x = s.dirtyBit x) ∧ t.map.total = s.map.total ∧ t.map.hmap = s.map.hmap ∧ t.dev = s.dev ∧ t.bed = s.bed) ∧
      t.fld.fetches = s.fld.fetches.filter (fun f => f.granule != g) ∧
      t.replies.mem.get q.head = [.data q.tag (t.bytesAt (q.dpa / 64 * 64) 64)] := by
  have hfill : FilledIn g x.body (clearAnswers s) (restoreGranule g o (loc.getD (s.hmOf g).loc) (clearAnswers s)) :=
    restoreGranule_good (s := clearAnswers s) hbit hroom hgood
  have hnext : execDemandFetchComplete g o us s = .next (endFetch g o us s) :=
    congrArg Host.Outcome.next (if_pos (by simp [hrun, hsan]))
  have hend : endFetch g o us s =
      let v := restoreGranule g o (loc.getD (s.hmOf g).loc) (clearAnswers s)
      v.fld.admission.foldl regate (serveReq { v with fld := { v.fld with
        fetches := v.fld.fetches.filter fun y => y.granule != g, admission := []
        dfUs := (us :: v.fld.dfUs).take 1024, dfMax := max v.fld.dfMax (min 65535 us) } } q) := by
    unfold endFetch
    rw [hfetch]
    rfl
  refine ⟨_, hnext, ?_⟩
  rw [hend]
  dsimp only
  generalize restoreGranule g o (loc.getD (s.hmOf g).loc) (clearAnswers s) = v at hfill ⊢
  rw [hfill.admission]
  show _ ∧ _
  rw [show (clearAnswers s).fld.admission = [] from hadm, List.foldl_nil]
  generalize hw : ({ v with fld := { v.fld with
    fetches := v.fld.fetches.filter fun y => y.granule != g, admission := []
    dfUs := (us :: v.fld.dfUs).take 1024, dfMax := max v.fld.dfMax (min 65535 us) } } : State) = w
  have hserve : serveReq w q = serveRead q.head q.dpa q.tag .clean w := by
    unfold serveReq
    rw [if_neg (by rw [hread]; decide)]
  have hwposted : w.dmc.posted = [] := by rw [← hw]; exact hfill.posted.trans hposted
  have hwlost : w.fld.lost.contains (q.dpa / 4096) = false := by
    rw [hdpa, ← hw]
    show v.fld.lost.contains g = false
    rw [hfill.lost]
    exact hlost
  have hsite : w.site (q.dpa / 64 * 64) = s.site (q.dpa / 64 * 64) := by
    have hlay : w.lay = s.lay := by rw [← hw]; exact hfill.lay
    unfold State.site
    rw [hlay]
  have hwchan : (w.dchan (w.site (q.dpa / 64 * 64)).channel).failed = false := by
    rw [hsite, ← hw]
    exact (hfill.failed _).trans hchan
  have hwpoison : w.poison.contains (q.dpa / 64) = false := by
    rw [← hw]
    show v.poison.contains (q.dpa / 64) = false
    rw [hfill.rest.2.2, show q.dpa / 64 / 64 = g by rw [Nat.div_div_eq_div_mul]; exact hdpa]
    simp
  have hwup : (w.heads.get q.head).up = true := by rw [← hw]; exact (hfill.up q.head).trans hup
  obtain ⟨d, hdata⟩ := serveRead_data q.head q.dpa q.tag hwposted hwlost hwchan hwpoison hwup
  rw [hserve, hdata]
  have hanswer : (w.replies.mem.get q.head) = [] := by
    rw [← hw]
    show v.replies.mem.get q.head = []
    rw [hfill.replies]
    cases q.head <;> rfl
  refine ⟨?_, ?_, ?_, ?_, ?_⟩
  · rw [← hw]; exact hfill.dram
  · rw [← hw]; exact hfill.rest
  · rw [← hw]; exact hfill.clean
  · rw [← hw]; exact congrArg (List.filter fun f => f.granule != g) hfill.fetches
  · dsimp only
    rw [hanswer, perHead_get_self]
    rfl

/-! ### A page read (R227 to R241) -/

theorem advise_quiet {s : State} (hi : s.nand.iterWarn = 0) (hr : s.nand.retryWarn = 0) : ∃ l, advise s = { s with
    bed := { s.bed with iterWarn := false, retryWarn := false }, flt := { s.flt with live := l } } := by
  unfold advise
  rw [hi, hr]
  exact ⟨_, rfl⟩

/-- What a page read reaches through an event of level 2 or less, the ledger, restore and DRAM's poison. -/
def ReadFree {β : Type} (π : State → β) : Prop :=
  ∀ (s : State) m d f h c p x t y, π { s with
    map := m, drn := d, fld := f, heads := h, dmc := c, poison := p, flt := x, tly := t, pins := y } = π s

theorem ReadFree.event {β : Type} {π : State → β} (h : ReadFree π) : EventFree π := fun s x t _ _ y =>
  h s s.map s.drn s.fld _ s.dmc s.poison x t y

theorem ReadFree.restore {β : Type} {π : State → β} (h : ReadFree π) (s : State) (m : SMap) (d : Drn) (f : Fld) (k : PerHead HeadSt)
    (c : Dmc) (p : NSet) : π { s with map := m, drn := d, fld := f, heads := k, dmc := c, poison := p } = π s :=
  h s m d f k c p s.flt s.tly s.pins

/-- The counts of a failed check (R233). -/
def Pip.checked (x : Pip) (c : RecordCheck) : Pip :=
  { x with
    failHeader := if c = .header then satAdd 16 x.failHeader 1 else x.failHeader
    failTag := if c = .tag then satAdd 16 x.failTag 1 else x.failTag }

/-- The channel's record of a read (R232). -/
def BedChan.readAt (c : BedChan) (l : LadderEnd) (us : Nat) : BedChan :=
  { c with
    decodes := ((ladderIter l, ladderStep l - 1) :: c.decodes).take 65536
    readTimes := (us :: c.readTimes).take 4096
    rebuilds := if ladderStep l = 4 then satAdd 16 c.rebuilds 1 else c.rebuilds }

/-- A page read taken in, before its check: the channel's record and the tick's bytes. -/
def State.readTaken (s : State) (c : Nat) (l : LadderEnd) (us : Nat) : State :=
  { s with
    bed := { s.bed with chans := tblUpd {} c (fun x => x.readAt l us) s.bed.chans }
    drn := { s.drn with tick := { s.drn.tick with nandRead := s.drn.tick.nandRead + s.storePage } } }

theorem checkFail_ok (l : LadderEnd) (s : State) : checkFail .ok l s = s := rfl

theorem checkFail_spec (x : RecordCheck) (l : LadderEnd) {s v : State} (hflt : s.flt = v.flt) (htly : s.tly = v.tly) (hsave : s.saving = false)
    (hmild : v.mild 0x61 = true) : (checkFail x l s).pip = s.pip.checked x ∧
    (l ≠ .first 0 → (checkFail x l s).flt = s.flt ∧ (checkFail x l s).tly = s.tly) ∧
    ∀ {β : Type} (π : State → β), EventFree π → (∀ s p, π { s with pip := p } = π s) → π (checkFail x l s) = π s := by
  have hbase : ∃ w : State, w = { s with pip := s.pip.checked x } ∧
      checkFail x l s = if x ≠ .ok && l = .first 0 then fltRaise 0x61 0 w else w := by
    refine ⟨_, rfl, ?_⟩
    unfold checkFail
    cases x <;> rfl
  obtain ⟨w, hw, hdo⟩ := hbase
  have hevent : ∀ {β : Type} (π : State → β), EventFree π → π (checkFail x l s) = π w := by
    intro β π hπ
    rw [hdo]
    split
    · exact fltRaise_mild π hπ 0x61 0 (by rw [hw]; exact hflt) (by rw [hw]; exact htly) (by rw [hw]; exact hsave) hmild
    · rfl
  refine ⟨?_, fun hl => ?_, fun π hπ hpip => ?_⟩
  · rw [hevent (fun u => u.pip) fun _ _ _ _ _ _ => rfl, hw]
  · rw [hdo, if_neg (by simp [hl]), hw]
    exact ⟨rfl, rfl⟩
  · rw [hevent π hπ, hw]
    exact hpip ..

theorem unreadablePage_read {β : Type} {π : State → β} (h : ReadFree π) (r : BedRow) (p : StorePage) (s : State) :
    π (unreadablePage r p s) = π s := unreadablePage_only π (fun s m d f k c x => h.restore s m d f k c x) r p s

theorem queueRow_rows (seq cls : Nat) (s : State) : (queueRow seq cls s).bed.pages = s.bed.pages ∧ (queueRow seq cls s).bed.chans = s.bed.chans ∧
    queueRow seq cls s = { s with bed := (queueRow seq cls s).bed } := by
  unfold queueRow rowUpd
  exact ⟨rfl, rfl, rfl⟩

theorem execNandReadComplete_read {s : State} {r c k : Nat} {w : BedRow} {p : StorePage} (l : LadderEnd) (x : RecordCheck) (us : Nat)
    (hup : s.running = true ∨ s.dev.st = .reflood) (hrow : s.row r = some w) (hpage : s.mediaPage w k c = some p) :
    execNandReadComplete r c k l x us s = .next (
      let v := advise (checkFail x l (s.readTaken c l us))
      let u := if v.nand.relocate ≤ ladderStep l || x ≠ .ok then queueRow r 2 v else v
      if ladderStep l = 5 then unreadablePage w p (fltRaise 0x53 c u) else u) := by
  unfold execNandReadComplete
  rw [hrow]
  simp only [Option.bind_some, hpage]
  refine if_pos ?_
  rcases hup with h | h <;> simp [h]

/-- The level of an event depends on no standing condition. -/
theorem fltRecord_level_live {src : Nat} {s t : State} {l : NSet} (hflt : t.flt = { s.flt with live := l }) :
    (fltRecord src t).2 = (fltRecord src s).2 :=
  (fltRecord_level src { s with flt := { s.flt with live := l } } t hflt).trans rfl

/-- The state in which a read has been taken in, checked and weighed against the warning levels. -/
def State.readWeighed (s : State) (c : Nat) (l : LadderEnd) (x : RecordCheck) (us : Nat) : State :=
  advise (checkFail x l (s.readTaken c l us))

section
variable {s : State} {c : Nat} {l : LadderEnd} {x : RecordCheck} {us : Nat}
variable (hi : s.nand.iterWarn = 0) (hr : s.nand.retryWarn = 0) (hsave : s.saving = false) (h61 : s.mild 0x61 = true)
include hi hr hsave h61

theorem readWeighed_checked : ∃ n, s.readWeighed c l x us = { checkFail x l (s.readTaken c l us) with
    bed := { (checkFail x l (s.readTaken c l us)).bed with iterWarn := false, retryWarn := false }
    flt := { (checkFail x l (s.readTaken c l us)).flt with live := n } } := by
  obtain ⟨-, -, hkeep⟩ := checkFail_spec x l (s := s.readTaken c l us) (v := s) rfl rfl hsave h61
  have hnand : (checkFail x l (s.readTaken c l us)).nand = s.nand := hkeep (fun u => u.nand) (fun _ _ _ _ _ _ => rfl) fun _ _ => rfl
  exact advise_quiet (by rw [hnand]; exact hi) (by rw [hnand]; exact hr)

theorem readWeighed_spec : (s.readWeighed c l x us).pip = s.pip.checked x ∧ (s.readWeighed c l x us).nand = s.nand ∧
    (s.readWeighed c l x us).bed.pages = s.bed.pages ∧ (s.readWeighed c l x us).dev = s.dev ∧
    ((s.readWeighed c l x us).chan c).decodes = ((ladderIter l, ladderStep l - 1) :: (s.chan c).decodes).take 65536 ∧
    (l ≠ .first 0 → (∃ n, (s.readWeighed c l x us).flt = { s.flt with live := n }) ∧ (s.readWeighed c l x us).tly = s.tly) := by
  obtain ⟨hpip, hsame, hkeep⟩ := checkFail_spec x l (s := s.readTaken c l us) (v := s) rfl rfl hsave h61
  obtain ⟨n, hv⟩ := readWeighed_checked (c := c) (l := l) (x := x) (us := us) hi hr hsave h61
  have hbed := hkeep (fun u => (u.bed, u.dev, u.lay)) (fun _ _ _ _ _ _ => rfl) fun _ _ => rfl
  obtain ⟨hb, hbed⟩ := Prod.mk.inj hbed
  obtain ⟨hd, hl⟩ := Prod.mk.inj hbed
  rw [hv]
  generalize checkFail x l (s.readTaken c l us) = w at hpip hsame hb hd hl ⊢
  have hpages : w.bed.pages = s.bed.pages := (congrArg Bed.pages hb).trans rfl
  refine ⟨hpip, ?_, hpages, hd, ?_, fun hne => ?_⟩
  · unfold State.nand
    rw [hl]
    rfl
  · unfold State.chan
    dsimp only
    rw [hb]
    show (tblGet {} (tblUpd {} c (fun x => x.readAt l us) s.bed.chans) c).decodes = _
    rw [tblGet_upd ({} : BedChan), if_pos rfl]
    rfl
  · obtain ⟨hf, ht⟩ := hsame hne
    exact ⟨⟨n, by rw [hf]; rfl⟩, ht⟩

theorem readWeighed_passed : s.readWeighed c l .ok us = { s with
    bed := (s.readWeighed c l .ok us).bed, drn := (s.readWeighed c l .ok us).drn, flt := (s.readWeighed c l .ok us).flt } ∧
    (s.readWeighed c l .ok us).bed.rows = s.bed.rows ∧ (s.readWeighed c l .ok us).drn.path = s.drn.path := by
  obtain ⟨n, hv⟩ := readWeighed_checked (c := c) (l := l) (x := .ok) (us := us) hi hr hsave h61
  rw [hv, checkFail_ok]
  exact ⟨rfl, rfl, rfl⟩

end

theorem nandReadComplete_nothing {s : State} {r c k : Nat} (l : LadderEnd) (x : RecordCheck) (us : Nat)
    (hnone : s.row r = none ∨ (∃ w, s.row r = some w ∧ s.mediaPage w k c = none) ∨ (s.running = false ∧ s.dev.st ≠ .reflood)) :
    execNandReadComplete r c k l x us s = .next s := by
  unfold execNandReadComplete
  rcases hnone with h | ⟨w, hw, hp⟩ | ⟨hrun, hst⟩
  · rw [h]
  · rw [hw]
    simp only [Option.bind_some, hp]
  · split
    · exact if_neg (by simp [hrun, hst])
    · rfl

theorem yields_nandReadComplete {s : State} {r c k : Nat} {w : BedRow} {p : StorePage} (l : LadderEnd) (x : RecordCheck) (us : Nat)
    (hup : s.running = true ∨ s.dev.st = .reflood) (hrow : s.row r = some w) (hpage : s.mediaPage w k c = some p)
    (hi : s.nand.iterWarn = 0) (hr : s.nand.retryWarn = 0) (h53 : s.mild 0x53 = true) (h61 : s.mild 0x61 = true) :
    Yields (.nandReadComplete r c k l x us) s fun t =>
      (t.chan c).decodes = ((ladderIter l, ladderStep l - 1) :: (s.chan c).decodes).take 65536 ∧ t.bed.pages = s.bed.pages ∧ t.dev = s.dev ∧
      t.pip = s.pip.checked x ∧
      (x = .ok → ladderStep l < s.nand.relocate → ladderStep l < 5 →
        t = { s with bed := t.bed, drn := t.drn, flt := t.flt } ∧ t.bed.rows = s.bed.rows ∧ t.drn.path = s.drn.path) := by
  have hsave : s.saving = false := by
    rcases hup with h | h
    · unfold State.running at h
      unfold State.saving
      cases hst : s.dev.st <;> simp [hst] at h ⊢
    · unfold State.saving
      rw [h]
      rfl
  refine ⟨_, execNandReadComplete_read l x us hup hrow hpage, ?_⟩
  obtain ⟨hpip, hnand, hpages, hdev, hdec, hcalm⟩ := readWeighed_spec (c := c) (l := l) (x := x) (us := us) hi hr hsave h61
  have hpassed := readWeighed_passed (c := c) (l := l) (us := us) hi hr hsave h61
  show (_ ∧ _)
  dsimp only
  rw [show advise (checkFail x l (s.readTaken c l us)) = s.readWeighed c l x us from rfl, hnand]
  generalize hu : (if (decide (s.nand.relocate ≤ ladderStep l) || decide (x ≠ .ok)) = true then queueRow r 2 (s.readWeighed c l x us)
    else s.readWeighed c l x us) = u
  have hqueued : u.bed.pages = s.bed.pages ∧ u.bed.chans = (s.readWeighed c l x us).bed.chans ∧
      u = { s.readWeighed c l x us with bed := u.bed } := by
    rw [← hu]
    split
    · obtain ⟨ha, hb, hc⟩ := queueRow_rows r 2 (s.readWeighed c l x us)
      exact ⟨ha.trans hpages, hb, hc⟩
    · exact ⟨hpages, rfl, rfl⟩
  obtain ⟨hup, huc, hub⟩ := hqueued
  have hread : ∀ {β : Type} (π : State → β), ReadFree π →
      π (if ladderStep l = 5 then unreadablePage w p (fltRaise 0x53 c u) else u) = π u := by
    intro β π hπ
    split
    · rename_i hfive
      have hne : l ≠ .first 0 := by
        intro h
        rw [h] at hfive
        exact absurd hfive (by decide)
      obtain ⟨⟨n, hflt⟩, htly⟩ := hcalm hne
      have hmild : (fltRecord 0x53 s).2 ≤ 2 ∧ s.tly.fifo.length < 32 := by
        unfold State.mild at h53
        simpa using h53
      refine (unreadablePage_read hπ w p _).trans (fltRaise_low π hπ.event 0x53 c u ?_ ?_ ?_)
      · rw [hub]; exact (saving_congr hdev).trans hsave
      · rw [fltRecord_level_live (s := s) (l := n) (by rw [hub]; exact hflt)]; exact hmild.1
      · rw [hub]; exact Nat.lt_of_le_of_lt (Nat.le_of_eq (congrArg (fun t : Tly => t.fifo.length) htly)) hmild.2
    · rfl
  refine ⟨?_, ?_, ?_, ?_, fun hok hstep hfive => ?_⟩
  · rw [hread (fun v => v.chan c) fun _ _ _ _ _ _ _ _ _ _ => rfl]
    unfold State.chan at hdec ⊢
    rw [huc]
    exact hdec
  · rw [hread (fun v => v.bed.pages) fun _ _ _ _ _ _ _ _ _ _ => rfl]
    exact hup
  · rw [hread (fun v => v.dev) fun _ _ _ _ _ _ _ _ _ _ => rfl, hub]
    exact hdev
  · rw [hread (fun v => v.pip) fun _ _ _ _ _ _ _ _ _ _ => rfl, hub]
    exact hpip
  · subst hok
    have hsame : u = s.readWeighed c l .ok us := by
      rw [← hu]
      exact if_neg (by simp [Nat.not_le.mpr hstep])
    rw [if_neg (Nat.ne_of_lt hfive), hsame]
    exact hpassed

/-- Settles O25, through what a fill, a loss and a page read each leave. -/
theorem restoreGranules : Obligations.RestoreGranules := by
  unfold Obligations.RestoreGranules
  intro clean rest good
  refine ⟨fun s o hwait => restore_waits o hwait, fun s g o us hwait => restoreFetch_waits o us hwait,
    fun s o g p x hrun hon hsan hroom hnext hbit hgood => ?_, fun s o g hrun hon hsan hroom hnext hbit hstored hbad => ?_,
    fun s g hrun hon hsan hroom hnext hbit hzero => ?_, fun s o hrun hon hsan hleft => restore_nothing o hrun hon hsan hleft,
    fun s g o p x q loc us hrun hsan hroom hbit hfetch hgood hadm hread hdpa hup hlost hposted hchan =>
      yields_demandFetch us hrun hsan hroom hbit hfetch hgood hadm hread hdpa hup hlost hposted hchan,
    fun s r c k l x us hnone => nandReadComplete_nothing l x us hnone,
    fun s r c k w p l x us hup hrow hpage hi hr h53 h61 => yields_nandReadComplete l x us hup hrow hpage hi hr h53 h61⟩
  · have hfill := restoreGranule_good hbit hroom hgood
    exact ⟨_, execBackgroundRestoreGranule_next hrun hon hsan hnext, hfill.dram, hfill.rest, hfill.clean⟩
  · have hlost : LostAt g s (restoreGranule g o (s.hmOf g).loc s) := by
      rw [restoreGranule_stored o _ hbit hstored]
      exact (restoreStored_bad hstored hbad).ended (by rw [(restoreStored_frame g o _ s).2.2.2.1]; exact hroom)
    exact ⟨_, execBackgroundRestoreGranule_next hrun hon hsan hnext, hlost.entry, hlost.others, hlost.lost, hlost.bit, hlost.dev,
      fun a => congrArg (fun m => tblGet 0 m a) hlost.dram, hlost.dirty⟩
  · have hfill : FilledIn g [] s (restoreGranule g .readable {} s) := by
      rw [restoreGranule_zero _ _ hbit hzero]
      refine (filledIn_fillGranule g [] s).ended ?_
      rw [(fillGranule_spec g [] s).2.2.2.2.2.2.2.2.2.2 (fun u => u.tly) fun _ _ _ _ _ _ _ => rfl]
      exact hroom
    exact ⟨_, execZeroStreamGranule_next hrun hon hsan hnext,
      fun k hk => (congrArg (fun m => tblGet 0 m (g * 4096 + k)) hfill.dram).trans (byteAt_putGranule_zero s g k hk), hfill.rest, hfill.clean⟩

end Sys2Proof.Machine
end

section
/-!
PROOFS. Host memory requests (R18, R20, R84, R132, R174 to R179, R297 to R303): the gate, a read, a write, a flush, and the credits' return.
-/
namespace Sys2Proof.Machine

/-! ### The gate's lookup and the channels (R174) -/

/-- The gate's cache and the channels alone have moved: no channel failed, and the posted writes stand. -/
structure Looked (s t : State) : Prop where
  only : ∃ d c, t = { s with dmc := d, fld := { s.fld with gateCache := c } }
  failed : ∀ k, (t.dchan k).failed = (s.dchan k).failed
  posted : t.dmc.posted = s.dmc.posted
  limit : t.dmc.postedLimitKib = s.dmc.postedLimitKib

theorem Looked.keeps {β : Type} {π : State → β} {s t : State} (h : Looked s t)
    (hπ : ∀ (s : State) d c, π { s with dmc := d, fld := { s.fld with gateCache := c } } = π s) : π t = π s := by
  obtain ⟨d, c, ht⟩ := h.only
  rw [ht]
  exact hπ ..

theorem Looked.trans {s t u : State} (h : Looked s t) (k : Looked t u) : Looked s u := by
  obtain ⟨d, c, ht⟩ := h.only
  obtain ⟨e, b, hu⟩ := k.only
  exact ⟨⟨e, b, by rw [hu, ht]⟩, fun j => (k.failed j).trans (h.failed j), k.posted.trans h.posted, k.limit.trans h.limit⟩

theorem ChanStep.looked {s t : State} (h : ChanStep s t) : Looked s t := by
  obtain ⟨⟨d, ht⟩, hfailed, hposted, -, hlimit, -⟩ := h
  exact ⟨⟨d, s.fld.gateCache, ht⟩, hfailed, hposted, hlimit⟩

theorem gateLook_looked (g : Nat) {r : DramRead} (s : State) (h : ∀ d, r ≠ .bitmap d) : Looked s (gateLook g r s) := by
  obtain ⟨u, c, ⟨⟨d, hu⟩, hfailed, hposted, -, hlimit, -⟩, hlook⟩ := gateLook_step g r s h
  rw [hlook]
  exact ⟨⟨d, c, by rw [hu]⟩, hfailed, hposted, hlimit⟩

theorem readLatency_looked (h : Head) (dpa ns : Nat) (s : State) : Looked s (readLatency h dpa ns s) := by
  have hchan : ∀ c f, (∀ x : DmcChan, (f x).failed = x.failed) → Looked s (dchanUpd c f s) := fun c f hf => (dchanUpd_step c f hf s).looked
  have hcount : ∀ (n : Nat) (t : State) (x : Tbl Nat), Looked s t →
      Looked s (if n ≤ ns then { t with dmc := { t.dmc with l3Count := x } } else t) := by
    intro n t x ht
    split
    · exact ht.trans ⟨⟨_, t.fld.gateCache, rfl⟩, fun _ => rfl, rfl, rfl⟩
    · exact ht
  exact hcount _ _ _ (hchan _ _ fun _ => rfl)

theorem Looked.restoredBit {s t : State} (h : Looked s t) (g : Nat) : t.restoredBit g = s.restoredBit g :=
  h.keeps (π := fun u => u.restoredBit g) fun _ _ _ => rfl

theorem Looked.posting {s t : State} (h : Looked s t) (l : List Posted) :
    (t.posting l).dram = (s.posting l).dram ∧ (t.posting l).poison = (s.posting l).poison :=
  posting_same l s t (h.keeps (π := fun u => u.dram) fun _ _ _ => rfl) (h.keeps (π := fun u => u.poison) fun _ _ _ => rfl)
    (h.keeps (π := fun u => u.lay) fun _ _ _ => rfl) h.failed

theorem Looked.residentFor {s t : State} (h : Looked s t) {l : List Posted} (hl : s.residentFor l) : t.residentFor l := by
  obtain ⟨d, c, ht⟩ := h.only
  rw [ht]
  exact hl

theorem clearAnswers_looked (s : State) (h : Head) : (clearAnswers s).replies.mem.get h = [] ∧
    ∀ l, ((clearAnswers s).posting l).dram = (s.posting l).dram ∧ ((clearAnswers s).posting l).poison = (s.posting l).poison :=
  ⟨by cases h <;> rfl, fun l => posting_same l s (clearAnswers s) rfl rfl rfl fun _ => rfl⟩

/-! ### Posted writes committed at once (R20, R84, R133) -/

/-- What commits leave alone. -/
def CommitFree {β : Type} (π : State → β) : Prop :=
  ∀ (s : State) m d f h c b p, π { s with map := m, drn := d, fld := f, heads := h, dmc := c, dram := b, poison := p } = π s

/-- A list of posted writes has been committed and others are left. -/
structure Committed (s t : State) (l left : List Posted) : Prop where
  dram : t.dram = (s.posting l).dram
  poison : t.poison = (s.posting l).poison
  dirty : ∀ x, t.dirtyBit x = ((l.any fun p => p.dpa / 4096 == x) || s.dirtyBit x)
  hmap : t.map.hmap = s.map.hmap
  resident : ∀ r, s.resident r = true → t.resident r = true
  failed : ∀ k, (t.dchan k).failed = (s.dchan k).failed
  posted : t.dmc.posted = left
  up : ∀ k, (t.heads.get k).up = (s.heads.get k).up
  lost : ∀ g, s.fld.lost.contains g = false → t.fld.lost.contains g = false
  free : ∀ {β : Type} (π : State → β), CommitFree π → π t = π s

theorem Committed.refl (s : State) : Committed s s [] s.dmc.posted :=
  ⟨rfl, rfl, fun _ => rfl, rfl, fun _ h => h, fun _ => rfl, rfl, fun _ => rfl, fun _ h => h, fun _ _ => rfl⟩

theorem commitPostedNow_committed {only : Option Head} {s : State} (h : s.residentFor (s.dmc.posted.filter (postedBy only))) :
    Committed s (commitPostedNow only s) (s.dmc.posted.filter (postedBy only)) (s.dmc.posted.filter fun p => !postedBy only p) := by
  have hfree : ∀ {β : Type} (π : State → β), CommitFree π → π (commitPostedNow only s) = π s := fun π hπ => commitPostedNow_only π hπ only s
  obtain ⟨u, hu, hnow⟩ := commitPostedNow_posts h
  rw [hnow] at hfree ⊢
  exact ⟨hu.dram, hu.poison, hu.dirty, hu.hmap, hu.resident, hu.failed, rfl, hu.up, hu.lost, hfree⟩

theorem commitPosted_committed {p : Posted} {s : State} (h : s.residentFor [p]) : Committed s (commitPosted p s) [p] s.dmc.posted := by
  obtain ⟨hin, hres⟩ := h p (List.mem_singleton_self p)
  have hu := commitPosted_posts hin hres
  exact ⟨hu.dram, hu.poison, hu.dirty, hu.hmap, hu.resident, hu.failed, hu.posted, hu.up, hu.lost,
    fun π hπ => commitPosted_only π (fun v m d f k c b p => hπ v m d f k c b p) p s⟩

theorem Committed.lay {s t : State} {l left : List Posted} (h : Committed s t l left) : t.lay = s.lay :=
  h.free (fun u => u.lay) fun _ _ _ _ _ _ _ _ => rfl

theorem Committed.site {s t : State} {l left : List Posted} (h : Committed s t l left) (a : Nat) : t.site a = s.site a :=
  congrArg (fun x => ({ s with lay := x } : State).site a) h.lay

theorem Committed.residentFor {s t : State} {l left m : List Posted} (h : Committed s t l left) (hm : s.residentFor m) : t.residentFor m := by
  intro p hp
  obtain ⟨hin, hres⟩ := hm p hp
  have hgran : t.granules = s.granules := congrArg (fun x => ({ s with lay := x } : State).granules) h.lay
  exact ⟨by rw [hgran]; exact hin, h.resident _ hres⟩

/-- Commits one after another are the commits of both lists. -/
theorem Committed.trans {s t u : State} {l m left rest : List Posted} (h : Committed s t l left) (k : Committed t u m rest) :
    Committed s u (l ++ m) rest := by
  obtain ⟨hlay, hdmc⟩ := posting_frame l s
  have hsame := posting_same m (s.posting l) t h.dram h.poison (by rw [hlay]; exact h.lay) fun j => by
    rw [h.failed]
    unfold State.dchan
    rw [hdmc]
  refine ⟨?_, ?_, fun x => ?_, k.hmap.trans h.hmap, fun r a => k.resident r (h.resident r a), fun j => (k.failed j).trans (h.failed j),
    k.posted, fun j => (k.up j).trans (h.up j), fun g a => k.lost g (h.lost g a), fun π hπ => (k.free π hπ).trans (h.free π hπ)⟩
  · rw [posting_append, k.dram, hsame.1]
  · rw [posting_append, k.poison, hsame.2]
  · rw [k.dirty, h.dirty, List.any_append, Bool.or_left_comm, Bool.or_assoc]

/-- Committed from a state that was only looked at. -/
theorem Committed.looked {s v t : State} {l left : List Posted} (hv : Looked s v) (h : Committed v t l left) :
    t.dram = (s.posting l).dram ∧ t.poison = (s.posting l).poison ∧
    (∀ x, t.dirtyBit x = ((l.any fun p => p.dpa / 4096 == x) || s.dirtyBit x)) ∧ t.map.hmap = s.map.hmap ∧
    (∀ k, (t.dchan k).failed = (s.dchan k).failed) ∧ (∀ k, (t.heads.get k).up = (s.heads.get k).up) ∧ t.dev = s.dev := by
  obtain ⟨hd, hp⟩ := hv.posting l
  refine ⟨h.dram.trans hd, h.poison.trans hp, fun x => ?_, h.hmap.trans ?_, fun k => (h.failed k).trans (hv.failed k),
    fun k => (h.up k).trans ?_, (h.free (fun u => u.dev) fun _ _ _ _ _ _ _ _ => rfl).trans ?_⟩
  · rw [h.dirty]
    exact congrArg _ (hv.keeps (π := fun u => u.dirtyBit x) fun _ _ _ => rfl)
  · exact hv.keeps (π := fun u => u.map.hmap) fun _ _ _ => rfl
  · exact hv.keeps (π := fun u => (u.heads.get k).up) fun _ _ _ => rfl
  · exact hv.keeps (π := fun u => u.dev) fun _ _ _ => rfl

/-! ### A read (R84, R186, R297, R299) -/

theorem mild_congr {src : Nat} {s t : State} (hf : t.flt = s.flt) (ht : t.tly = s.tly) : t.mild src = s.mild src := by
  unfold State.mild
  rw [fltRecord_level src s t hf, ht]

/-- The state in which a read's line is read: a posted write to the line is committed ahead of it. -/
def State.readAhead (s : State) (line : Nat) : State := if s.dmc.posted.any fun p => p.dpa / 64 == line then commitPostedNow none s else s

theorem postedBy_none (l : List Posted) : l.filter (postedBy none) = l ∧ (l.filter fun p => !postedBy none p) = [] :=
  ⟨List.filter_eq_self.mpr fun _ _ => rfl, List.filter_eq_nil_iff.mpr fun _ _ => by simp [postedBy]⟩

theorem readAhead_committed {s : State} {line : Nat} {l : List Posted}
    (hl : l = if s.dmc.posted.any (fun p => p.dpa / 64 == line) then s.dmc.posted else []) (hres : s.residentFor l) :
    Committed s (s.readAhead line) l (if l = [] then s.dmc.posted else []) := by
  unfold State.readAhead
  split
  · rename_i hany
    rw [if_pos hany] at hl
    obtain ⟨hall, hnone⟩ := postedBy_none s.dmc.posted
    have h := commitPostedNow_committed (only := none) (s := s) (by rw [hall, ← hl]; exact hres)
    rw [hall, hnone, ← hl] at h
    have hne : l ≠ [] := by
      rintro rfl
      rw [← hl] at hany
      exact absurd hany (by simp)
    rwa [if_neg hne]
  · rename_i hany
    rw [if_neg hany] at hl
    rw [hl]
    exact Committed.refl s

theorem memAnswer_up {h : Head} {r : MemResp} {s : State} (hup : (s.heads.get h).up = true) : memAnswer h r s =
    { s with replies := { s.replies with mem := s.replies.mem.set h (s.replies.mem.get h ++ [r]) } } := if_pos hup

/-- What a line's read leaves alone beside the channels, the poison and the heads' logs. -/
def LineFree {β : Type} (π : State → β) : Prop :=
  ∀ (s : State) xf xt xh xp d p, π { s with flt := xf, tly := xt, heads := xh, pins := xp, dmc := d, poison := p } = π s

/-- A served read (R186, R297, R299): the answer follows the line, its channel, its granule and the read itself. -/
theorem serveRead_spec (h : Head) (dpa tag : Nat) (r : DramRead) {s w : State} (hw : w = s.readAhead (dpa / 64)) (hsave : w.saving = false)
    (h40 : ∀ d, r = .corrected d → w.mild 0x40 = true) (h41 : ∀ d, r = .uncorrected d → w.mild 0x41 = true)
    (hup : (w.heads.get h).up = true) :
    let failed := (w.dchan (w.site (dpa / 64 * 64)).channel).failed
    let t := serveRead h dpa tag r s
    t.poison = (if !failed && !w.poison.contains (dpa / 64) && badRead r then setAdd (dpa / 64) w.poison else w.poison) ∧
    t.dmc.posted = w.dmc.posted ∧
    t.replies.mem.get h = w.replies.mem.get h ++ [if failed || w.poison.contains (dpa / 64) || badRead r || w.fld.lost.contains (dpa / 4096)
      then .poison tag else .data tag (w.bytesAt (dpa / 64 * 64) 64)] ∧
    ∀ {β : Type} (π : State → β), LineFree π → (∀ s x, π { s with replies := x } = π s) → π t = π w := by
  obtain ⟨hbad, hpoison, -, hposted, hfree⟩ := readLine_spec h.code (dpa / 64) r w hsave h40 h41
  have hlinefree : ∀ {β : Type} (π : State → β), LineFree π → π (readLine h.code (dpa / 64) r w).1 = π w := fun π hπ =>
    hfree π (fun v xf xt a b xp => hπ v xf xt _ xp v.dmc v.poison) fun v d p => hπ v v.flt v.tly v.heads v.pins d p
  have hreadup : (((readLine h.code (dpa / 64) r w).1.heads.get h).up) = true :=
    (hfree (fun u => (u.heads.get h).up) (fun v xf xt a b xp => by cases h <;> rfl) fun _ _ _ => rfl).trans hup
  generalize hread : readLine h.code (dpa / 64) r w = z at hbad hpoison hposted hfree hlinefree hreadup
  -- the answer's state: a corrected read is counted, an uncorrectable one is told to the head
  have hdo : ∃ y : State, serveRead h dpa tag r s = memAnswer h (if z.2 || w.fld.lost.contains (dpa / 4096) then .poison tag
        else .data tag (y.bytesAt (dpa / 64 * 64) 64)) y ∧
      y.poison = z.1.poison ∧ y.dmc.posted = z.1.dmc.posted ∧ (y.heads.get h).up = (z.1.heads.get h).up ∧
      ∀ {β : Type} (π : State → β), LineFree π → π y = π z.1 := by
    have hcount : ∃ x : State, (if (fixedRead r && !z.2 && !(w.dchan (w.site dpa).channel).failed) = true
        then (({ z.1 with dmc := { z.1.dmc with hostCe := z.1.dmc.hostCe + 1 } } : State), z.2) else z) = (x, z.2) ∧
        x.poison = z.1.poison ∧ x.dmc.posted = z.1.dmc.posted ∧ x.heads = z.1.heads ∧ ∀ {β : Type} (π : State → β), LineFree π → π x = π z.1 := by
      split
      · exact ⟨_, rfl, rfl, rfl, rfl, fun π hπ => hπ z.1 z.1.flt z.1.tly z.1.heads z.1.pins _ z.1.poison⟩
      · exact ⟨z.1, rfl, rfl, rfl, rfl, fun _ _ => rfl⟩
    obtain ⟨x, hx, hxp, hxd, hxh, hxf⟩ := hcount
    have htold : ∀ c : Bool, ∃ y : State, (if c = true then eventTo h .failure (.generalMedia (dpa / 64 * 64)) x else x) = y ∧
        y.poison = x.poison ∧ y.dmc.posted = x.dmc.posted ∧ (y.heads.get h).up = (x.heads.get h).up ∧
        ∀ {β : Type} (π : State → β), LineFree π → π y = π x := by
      intro c
      split
      · have honly : ∀ {β : Type} (π : State → β), (∀ s xh, π { s with heads := xh } = π s) →
            π (eventTo h .failure (.generalMedia (dpa / 64 * 64)) x) = π x := fun π hπ => eventTo_only π hπ ..
        exact ⟨_, rfl, honly (fun u => u.poison) fun _ _ => rfl, honly (fun u => u.dmc.posted) fun _ _ => rfl, eventTo_up ..,
          fun π hπ => honly π fun v xh => hπ v v.flt v.tly xh v.pins v.dmc v.poison⟩
      · exact ⟨x, rfl, rfl, rfl, rfl, fun _ _ => rfl⟩
    obtain ⟨y, hy, hyp, hyd, hyu, hyf⟩ := htold (badRead r && !w.poison.contains (dpa / 64) && !(w.dchan (w.site dpa).channel).failed)
    refine ⟨y, ?_, hyp.trans hxp, hyd.trans hxd, hyu.trans (by rw [hxh]), fun π hπ => (hyf π hπ).trans (hxf π hπ)⟩
    unfold serveRead
    dsimp only
    rw [show (if (s.dmc.posted.any fun p => p.dpa / lineBytes == dpa / lineBytes) = true then commitPostedNow none s else s) = w from hw.symm]
    rw [show readLine h.code (dpa / lineBytes) r w = z from hread]
    rw [hx]
    dsimp only
    rw [show (if (badRead r && !w.poison.contains (dpa / lineBytes) && !(w.dchan (w.site dpa).channel).failed) = true
      then eventTo h .failure (.generalMedia (dpa / lineBytes * lineBytes)) x else x) = y from hy]
    exact (apply_ite (fun a => memAnswer h a y) _ _ _).symm
  obtain ⟨y, hdo, hyp, hyd, hyu, hyf⟩ := hdo
  have hyup : (y.heads.get h).up = true := hyu.trans hreadup
  have hbytes : y.bytesAt (dpa / 64 * 64) 64 = w.bytesAt (dpa / 64 * 64) 64 :=
    (hyf (fun u => u.bytesAt (dpa / 64 * 64) 64) fun _ _ _ _ _ _ _ => rfl).trans
      (hlinefree (fun u => u.bytesAt (dpa / 64 * 64) 64) fun _ _ _ _ _ _ _ => rfl)
  have hreplies : y.replies = w.replies := (hyf (fun u => u.replies) fun _ _ _ _ _ _ _ => rfl).trans
    (hlinefree (fun u => u.replies) fun _ _ _ _ _ _ _ => rfl)
  dsimp only
  rw [hdo, memAnswer_up hyup]
  refine ⟨hyp.trans hpoison, hyd.trans hposted, ?_, fun π hπ hrep => (hrep _ _).trans ((hyf π hπ).trans (hlinefree π hπ))⟩
  show (y.replies.mem.set h _).get h = _
  rw [perHead_get_self, hreplies, hbytes, hbad]
  rfl

theorem memUp_up {s : State} {h : Head} (hup : s.memUp h = true) : (s.heads.get h).up = true := (Bool.and_eq_true_iff.mp hup).1

/-- A request that the gate lets through comes while the device runs. -/
theorem memCheck_running {s : State} {h : Head} {hpa dpa : Nat} {f : Access → Bool} (hok : s.memCheck h hpa f = .inr dpa) :
    s.running = true := by
  unfold State.memCheck at hok
  cases hrun : s.running with
  | true => rfl
  | false =>
    rw [hrun] at hok
    simp at hok

theorem running_not_saving {s : State} (hrun : s.running = true) : s.saving = false := by
  unfold State.running at hrun
  unfold State.saving
  cases hst : s.dev.st <;> simp [hst] at hrun ⊢

theorem line_div (dpa : Nat) : dpa / 64 * 64 / 64 = dpa / 64 := Nat.mul_div_cancel _ (by decide)

theorem line_granule (dpa : Nat) : dpa / 64 * 64 / 4096 = dpa / 4096 := by omega

theorem execHostMemRead_passed {s : State} {h : Head} {hpa tag ns dpa : Nat} {r : DramRead} (hup : s.memUp h = true)
    (hok : s.memCheck h hpa (fun a => a ≠ .none) = .inr dpa) : execHostMemRead h hpa tag r ns s = .next (
      if (gateLook (dpa / 4096) r (clearAnswers s)).restoredBit (dpa / 4096) then
        serveRead h (dpa / 64 * 64) tag r (readLatency h (dpa / 64 * 64) ns (gateLook (dpa / 4096) r (clearAnswers s)))
      else fetchJoin { head := h, isWrite := false, dpa := dpa / 64 * 64, data := [], poison := false, tag := tag }
        (gateLook (dpa / 4096) r (clearAnswers s))) := by
  have hok' : (clearAnswers s).memCheck h hpa (fun a => a ≠ .none) = .inr dpa := hok
  unfold execHostMemRead
  rw [if_pos hup]
  dsimp only
  rw [hok']
  exact (apply_ite Host.Outcome.next _ _ _).symm

theorem yields_hostMemRead_refused {s : State} {h : Head} {hpa k : Nat} (tag : Nat) (r : DramRead) (ns : Nat) (hup : s.memUp h = true)
    (hbad : s.memCheck h hpa (fun a => a ≠ .none) = .inl k) (hroom : s.tly.fifo.length < 32) : Yields (.hostMemRead h hpa tag r ns) s fun t =>
      t.replies.mem.get h = [.poison tag] ∧ t = { s with heads := t.heads, tly := t.tly, replies := t.replies } := by
  have hbad' : (clearAnswers s).memCheck h hpa (fun a => a ≠ .none) = .inl k := hbad
  have hnext : execHostMemRead h hpa tag r ns s = .next (violate h k (memAnswer h (.poison tag) (clearAnswers s))) := by
    unfold execHostMemRead
    rw [if_pos hup]
    dsimp only
    rw [hbad']
  refine ⟨_, hnext, ?_⟩
  rw [memAnswer_up (s := clearAnswers s) (memUp_up hup)]
  rw [violate_room h k (by exact hroom)]
  exact ⟨by rw [perHead_get_self, (clearAnswers_looked s h).1]; rfl, rfl⟩

theorem yields_hostMemRead_served {s : State} {h : Head} {hpa dpa : Nat} {r : DramRead} {l : List Posted} (tag ns : Nat)
    (hup : s.memUp h = true) (hok : s.memCheck h hpa (fun a => a ≠ .none) = .inr dpa) (hbit : s.restoredBit (dpa / 4096) = true)
    (hplain : ∀ d, r ≠ .bitmap d) (hl : l = if s.dmc.posted.any (fun p => p.dpa / 64 == dpa / 64) then s.dmc.posted else [])
    (hres : s.residentFor l) (hlost : l = [] ∨ s.fld.lost.contains (dpa / 4096) = false) (h40 : ∀ d, r = .corrected d → s.mild 0x40 = true)
    (h41 : ∀ d, r = .uncorrected d → s.mild 0x41 = true) : Yields (.hostMemRead h hpa tag r ns) s fun t =>
      let failed := (s.dchan (s.site (dpa / 64 * 64)).channel).failed
      let u := s.posting l
      ((∀ a, t.byteAt a = (s.posting l).byteAt a) ∧ (∀ x, t.dirtyBit x = ((l.any fun p => p.dpa / 4096 == x) || s.dirtyBit x)) ∧
        t.map.hmap = s.map.hmap ∧ t.dev = s.dev) ∧ t.dmc.posted = (if l = [] then s.dmc.posted else []) ∧
      t.poison = (if !failed && !u.poison.contains (dpa / 64) && badRead r then setAdd (dpa / 64) u.poison else u.poison) ∧
      t.replies.mem.get h = [if failed || u.poison.contains (dpa / 64) || badRead r || s.fld.lost.contains (dpa / 4096) then .poison tag
        else .data tag (u.bytesAt (dpa / 64 * 64) 64)] := by
  have hgate := gateLook_looked (dpa / 4096) (clearAnswers s) hplain
  have hlook : Looked (clearAnswers s) (readLatency h (dpa / 64 * 64) ns (gateLook (dpa / 4096) r (clearAnswers s))) :=
    hgate.trans (readLatency_looked ..)
  have hbit' : (gateLook (dpa / 4096) r (clearAnswers s)).restoredBit (dpa / 4096) = true := (hgate.restoredBit _).trans hbit
  refine ⟨_, (execHostMemRead_passed hup hok).trans (congrArg Host.Outcome.next (if_pos hbit')), ?_⟩
  generalize readLatency h (dpa / 64 * 64) ns (gateLook (dpa / 4096) r (clearAnswers s)) = v at hlook ⊢
  have hvl : l = if v.dmc.posted.any (fun p => p.dpa / 64 == dpa / 64) then v.dmc.posted else [] := by
    rw [hlook.posted]
    exact hl
  have hcommit := readAhead_committed hvl (hlook.residentFor (s := clearAnswers s) hres)
  have hlooked := hcommit.looked hlook
  generalize hw : v.readAhead (dpa / 64) = w at hcommit hlooked
  obtain ⟨hdram, hpoison, hdirty, hhmap, hfailed, hupw, hdev⟩ := hlooked
  obtain ⟨hanswers, hposting⟩ := clearAnswers_looked s h
  have hquiet : s.saving = false := running_not_saving (memCheck_running hok)
  have hsave : w.saving = false := (saving_congr (s := s) hdev).trans hquiet
  have hwfree : ∀ {β : Type} (π : State → β), CommitFree π → (∀ (s : State) d c, π { s with dmc := d, fld := { s.fld with gateCache := c } } = π s) →
      π w = π (clearAnswers s) := fun π hπ hπ' => (hcommit.free π hπ).trans (hlook.keeps hπ')
  have hflt : w.flt = s.flt := hwfree (fun u => u.flt) (fun _ _ _ _ _ _ _ _ => rfl) fun _ _ _ => rfl
  have htly : w.tly = s.tly := hwfree (fun u => u.tly) (fun _ _ _ _ _ _ _ _ => rfl) fun _ _ _ => rfl
  have hlay : w.lay = s.lay := hwfree (fun u => u.lay) (fun _ _ _ _ _ _ _ _ => rfl) fun _ _ _ => rfl
  have hrep : w.replies = (clearAnswers s).replies := hwfree (fun u => u.replies) (fun _ _ _ _ _ _ _ _ => rfl) fun _ _ _ => rfl
  have hsite : w.site (dpa / 64 * 64) = s.site (dpa / 64 * 64) := congrArg (fun x => ({ s with lay := x } : State).site (dpa / 64 * 64)) hlay
  have hspec := serveRead_spec h (dpa / 64 * 64) tag r (s := v) (w := w) (by rw [line_div]; exact hw.symm) hsave
    (fun d hd => (mild_congr hflt htly).trans (h40 d hd)) (fun d hd => (mild_congr hflt htly).trans (h41 d hd))
    ((hupw h).trans (memUp_up hup))
  rw [line_div, line_granule, hsite, hfailed, hrep, hanswers] at hspec
  obtain ⟨htp, htd, htr, htf⟩ := hspec
  have hwlost : w.fld.lost.contains (dpa / 4096) = s.fld.lost.contains (dpa / 4096) := by
    have hvlost : v.fld.lost = s.fld.lost := hlook.keeps (π := fun u => u.fld.lost) fun _ _ _ => rfl
    rcases hlost with hnil | hno
    · rw [hnil] at hvl
      have hany : v.dmc.posted.any (fun p => p.dpa / 64 == dpa / 64) = false := by
        cases hc : v.dmc.posted.any (fun p => p.dpa / 64 == dpa / 64) with
        | false => rfl
        | true =>
          rw [hc, if_pos rfl] at hvl
          rw [← hvl] at hc
          exact absurd hc (by simp)
      have hsame : w = v := by
        rw [← hw]
        unfold State.readAhead
        rw [hany]
        exact if_neg Bool.false_ne_true
      rw [hsame, hvlost]
    · rw [hno]
      exact hcommit.lost _ (by rw [hvlost]; exact hno)
  have hwp : w.poison = (s.posting l).poison := hpoison.trans (hposting l).2
  have hwb : w.dram = (s.posting l).dram := hdram.trans (hposting l).1
  rw [hwp] at htp htr
  rw [hwlost] at htr
  refine ⟨⟨fun a => ?_, fun x => ?_, ?_, ?_⟩, ?_, htp, htr.trans ?_⟩
  · exact congrArg (fun m => tblGet 0 m a) ((htf (fun u => u.dram) (fun _ _ _ _ _ _ _ => rfl) fun _ _ => rfl).trans hwb)
  · exact (htf (fun u => u.dirtyBit x) (fun _ _ _ _ _ _ _ => rfl) fun _ _ => rfl).trans (hdirty x)
  · exact (htf (fun u => u.map.hmap) (fun _ _ _ _ _ _ _ => rfl) fun _ _ => rfl).trans hhmap
  · exact (htf (fun u => u.dev) (fun _ _ _ _ _ _ _ => rfl) fun _ _ => rfl).trans hdev
  · rw [htd, hcommit.posted, hlook.posted]
    rfl
  · have hbytes : w.bytesAt (dpa / 64 * 64) 64 = (s.posting l).bytesAt (dpa / 64 * 64) 64 := by
      unfold State.bytesAt State.byteAt
      rw [hwb]
    rw [hbytes]
    rfl

/-! ### A request that waits at the fetch table (R175, R179) -/

/-- A request for an unrestored granule joins its fetch, or waits for a place. -/
theorem fetchJoin_waits (q : HostReq) (s : State) :
    q ∈ (fetchJoin q s).fld.admission ∨ ∃ f ∈ (fetchJoin q s).fld.fetches, f.granule = q.dpa / 4096 ∧ q ∈ f.waiting := by
  unfold fetchJoin
  dsimp only
  split
  · rename_i hany
    obtain ⟨f, hf, hg⟩ := List.any_eq_true.mp hany
    have hg : f.granule = q.dpa / granuleBytes := eq_of_beq hg
    refine .inr ⟨_, List.mem_map_of_mem hf, ?_⟩
    rw [if_pos hg]
    exact ⟨hg, List.mem_append_right _ (List.mem_singleton_self q)⟩
  · split
    · exact .inr ⟨_, List.mem_append_right _ (List.mem_singleton_self _), rfl, List.mem_singleton_self q⟩
    · exact .inl (List.mem_append_right _ (List.mem_singleton_self q))

/-- What O24's statement says of a request that waits. -/
def Waits (s t : State) (h : Head) (q : HostReq) : Prop :=
  t.replies.mem.get h = [] ∧ t.map = s.map ∧ t.dram = s.dram ∧ t.poison = s.poison ∧ t.dev = s.dev ∧ t.dmc.posted = s.dmc.posted ∧
    (q ∈ t.fld.admission ∨ ∃ f ∈ t.fld.fetches, f.granule = q.dpa / 4096 ∧ q ∈ f.waiting)

theorem waits_fetchJoin {s v : State} {h : Head} (hlook : Looked (clearAnswers s) v) (q : HostReq) : Waits s (fetchJoin q v) h q := by
  have hfree : ∀ {β : Type} (π : State → β), (∀ s x, π { s with fld := x } = π s) →
      (∀ (s : State) d c, π { s with dmc := d, fld := { s.fld with gateCache := c } } = π s) → π (fetchJoin q v) = π (clearAnswers s) :=
    fun π hπ hπ' => (fetchJoin_only π hπ q v).trans (hlook.keeps hπ')
  refine ⟨?_, hfree (fun u => u.map) (fun _ _ => rfl) fun _ _ _ => rfl, hfree (fun u => u.dram) (fun _ _ => rfl) fun _ _ _ => rfl,
    hfree (fun u => u.poison) (fun _ _ => rfl) fun _ _ _ => rfl, hfree (fun u => u.dev) (fun _ _ => rfl) fun _ _ _ => rfl, ?_,
    fetchJoin_waits q v⟩
  · exact (hfree (fun u => u.replies.mem.get h) (fun _ _ => rfl) fun _ _ _ => rfl).trans (clearAnswers_looked s h).1
  · exact (fetchJoin_only (fun u => u.dmc.posted) (fun _ _ => rfl) q v).trans hlook.posted

theorem yields_hostMemRead_waits {s : State} {h : Head} {hpa dpa : Nat} {r : DramRead} (tag ns : Nat) (hup : s.memUp h = true)
    (hok : s.memCheck h hpa (fun a => a ≠ .none) = .inr dpa) (hbit : s.restoredBit (dpa / 4096) = false) (hplain : ∀ d, r ≠ .bitmap d) :
    Yields (.hostMemRead h hpa tag r ns) s fun t =>
      Waits s t h { head := h, isWrite := false, dpa := dpa / 64 * 64, data := [], poison := false, tag := tag } := by
  have hgate := gateLook_looked (dpa / 4096) (clearAnswers s) hplain
  have hbit' : ¬(gateLook (dpa / 4096) r (clearAnswers s)).restoredBit (dpa / 4096) = true := by
    rw [hgate.restoredBit]
    exact Bool.eq_false_iff.mp hbit
  exact ⟨_, (execHostMemRead_passed hup hok).trans (congrArg Host.Outcome.next (if_neg hbit')), waits_fetchJoin hgate _⟩

/-! ### A write (R18, R84, R132) -/

/-- A write's request, its credit spent and the answers of the last command taken away. -/
def State.spent (s : State) (h : Head) : State := spendCredit h (clearAnswers s)

theorem spent_check (s : State) (h : Head) (hpa : Nat) (f : Access → Bool) : (s.spent h).memCheck h hpa f = s.memCheck h hpa f := by
  have hdecode : (s.spent h).decode h hpa = s.decode h hpa := by cases h <;> rfl
  unfold State.memCheck
  rw [hdecode]
  rfl

theorem spent_up (s : State) (h k : Head) : (((s.spent h).heads.get k).up) = (s.heads.get k).up := get_set_up _ _ _ _ rfl

theorem spent_answers (s : State) (h : Head) : (s.spent h).replies.mem.get h = [] := (clearAnswers_looked s h).1

theorem spent_posting (s : State) (h : Head) (l : List Posted) :
    ((s.spent h).posting l).dram = (s.posting l).dram ∧ ((s.spent h).posting l).poison = (s.posting l).poison :=
  posting_same l s (s.spent h) rfl rfl rfl fun _ => rfl

theorem execHostMemWrite_sent {s : State} {h : Head} (hpa tag : Nat) (data : List Byte) (p c m : Bool) (hup : s.memUp h = true)
    (hcredit : (s.heads.get h).credits ≠ 0) :
    execHostMemWrite h hpa tag data p c m s = .next (creditSync (hostWrite h hpa tag data p c m (s.spent h))) :=
  if_pos (by simp [hup, hcredit])

/-- A write's request at the fetch table or the commit (R179). -/
def writeReq (h : Head) (dpa tag : Nat) (data : List Byte) (p : Bool) : HostReq :=
  { head := h, isWrite := true, dpa := dpa, data := data.take (64 - dpa % 64), poison := p, tag := tag }

theorem hostWrite_passed {s : State} {h : Head} {hpa dpa : Nat} (tag : Nat) (data : List Byte) (p c m : Bool)
    (hok : s.memCheck h hpa (fun a => a = .write) = .inr dpa) : hostWrite h hpa tag data p c m s =
      if (gateLook (dpa / 4096) .clean s).restoredBit (dpa / 4096) then
        serveWrite (writeReq h dpa tag data p) c m (gateLook (dpa / 4096) .clean s)
      else fetchJoin (writeReq h dpa tag data p) (gateLook (dpa / 4096) .clean s) := by
  unfold hostWrite
  rw [hok]
  rfl

theorem hostMemWrite_idle {s : State} {h : Head} (hpa tag : Nat) (data : List Byte) (b c d : Bool)
    (hno : s.memUp h = false ∨ (s.heads.get h).credits = 0) : execHostMemWrite h hpa tag data b c d s = .next s := by
  refine if_neg ?_
  rcases hno with hno | hno <;> simp [hno]

theorem yields_hostMemWrite_refused {s : State} {h : Head} {hpa k : Nat} (tag : Nat) (data : List Byte) (b c d : Bool) (hup : s.memUp h = true)
    (hcredit : (s.heads.get h).credits ≠ 0) (hbad : s.memCheck h hpa (fun a => a = .write) = .inl k) (hroom : s.tly.fifo.length < 32) :
    Yields (.hostMemWrite h hpa tag data b c d) s fun t =>
      t.replies.mem.get h = [.done tag] ∧
      t = { s with heads := t.heads, tly := t.tly, replies := t.replies, gov := { s.gov with backpressure := t.gov.backpressure } } := by
  have hdo : hostWrite h hpa tag data b c d (s.spent h) = violate h k (memAnswer h (.done tag) (s.spent h)) := by
    unfold hostWrite
    rw [(spent_check ..).trans hbad]
  refine ⟨_, (execHostMemWrite_sent hpa tag data b c d hup hcredit).trans (congrArg (fun v => Host.Outcome.next (creditSync v)) hdo), ?_⟩
  rw [memAnswer_up (s := s.spent h) ((spent_up s h h).trans (memUp_up hup)), violate_room h k (by exact hroom)]
  refine ⟨?_, rfl⟩
  show ((s.spent h).replies.mem.set h _).get h = _
  rw [perHead_get_self, spent_answers]
  rfl

theorem yields_hostMemWrite_waits {s : State} {h : Head} {hpa dpa : Nat} (tag : Nat) (data : List Byte) (p c m : Bool) (hup : s.memUp h = true)
    (hcredit : (s.heads.get h).credits ≠ 0) (hok : s.memCheck h hpa (fun a => a = .write) = .inr dpa)
    (hbit : s.restoredBit (dpa / 4096) = false) :
    Yields (.hostMemWrite h hpa tag data p c m) s fun t => Waits s t h (writeReq h dpa tag data p) := by
  have hgate := gateLook_looked (dpa / 4096) (r := .clean) (s.spent h) (fun _ => DramRead.noConfusion)
  have hbit' : ¬(gateLook (dpa / 4096) .clean (s.spent h)).restoredBit (dpa / 4096) = true := by
    rw [hgate.restoredBit]
    exact Bool.eq_false_iff.mp hbit
  have hdo := (hostWrite_passed tag data p c m ((spent_check s h hpa _).trans hok)).trans (if_neg hbit')
  refine ⟨_, (execHostMemWrite_sent hpa tag data p c m hup hcredit).trans (congrArg (fun v => Host.Outcome.next (creditSync v)) hdo), ?_⟩
  generalize gateLook (dpa / 4096) .clean (s.spent h) = v at hgate
  have hfree : ∀ {β : Type} (π : State → β), (∀ s x, π { s with fld := x } = π s) →
      (∀ (s : State) d c, π { s with dmc := d, fld := { s.fld with gateCache := c } } = π s) →
      π (fetchJoin (writeReq h dpa tag data p) v) = π (s.spent h) := fun π hπ hπ' => (fetchJoin_only π hπ _ v).trans (hgate.keeps hπ')
  refine ⟨?_, hfree (fun u => u.map) (fun _ _ => rfl) fun _ _ _ => rfl, hfree (fun u => u.dram) (fun _ _ => rfl) fun _ _ _ => rfl,
    hfree (fun u => u.poison) (fun _ _ => rfl) fun _ _ _ => rfl, hfree (fun u => u.dev) (fun _ _ => rfl) fun _ _ _ => rfl, ?_,
    fetchJoin_waits _ v⟩
  · exact (hfree (fun u => u.replies.mem.get h) (fun _ _ => rfl) fun _ _ _ => rfl).trans (spent_answers s h)
  · exact (fetchJoin_only (fun u => u.dmc.posted) (fun _ _ => rfl) _ v).trans hgate.posted

/-- A write that a head holds in its posted buffer (R132). -/
def heldWrite (h : Head) (dpa : Nat) (data : List Byte) (p m : Bool) (us : Nat) : Posted := ⟨h, dpa, data.take (64 - dpa % 64), p, m, us⟩

theorem serveWrite_commits {v : State} (h : Head) (dpa tag : Nat) (data : List Byte) (p c m : Bool) (hroom : (c && v.postedRoom h) = false) :
    serveWrite (writeReq h dpa tag data p) c m v =
      memAnswer h (.done tag) (commitPosted (heldWrite h dpa data p m v.dev.aonUs) (commitPostedNow none v)) := by
  have hmbox : ¬(writeReq h dpa tag data p).mbox = true := Bool.false_ne_true
  unfold serveWrite
  refine (if_neg hmbox).trans (congrArg (memAnswer h (.done tag)) (if_neg ?_))
  exact Bool.eq_false_iff.mp hroom

theorem serveWrite_holds {v : State} (h : Head) (dpa tag : Nat) (data : List Byte) (p m : Bool) (hroom : v.postedRoom h = true) :
    serveWrite (writeReq h dpa tag data p) true m v = memAnswer h (.done tag) (postedSync { v with
      dmc := { v.dmc with posted := v.dmc.posted ++ [heldWrite h dpa data p m v.dev.aonUs] } }) := by
  have hmbox : ¬(writeReq h dpa tag data p).mbox = true := Bool.false_ne_true
  unfold serveWrite
  exact (if_neg hmbox).trans (congrArg (memAnswer h (.done tag)) (if_pos hroom))

/-- The bytes of one write on a working channel. -/
theorem posting_one {s : State} {p : Posted} (hchan : (s.dchan (s.site p.dpa).channel).failed = false) (a : Nat) :
    (s.posting [p]).byteAt a = if p.dpa ≤ a ∧ a < p.dpa + p.data.length then p.data.getD (a - p.dpa) 0 else s.byteAt a := by
  have hone : (s.posting [p]).dram = (s.putBytes p.dpa p.data).dram := by
    unfold State.posting
    rw [List.foldl_cons, List.foldl_nil, if_neg (by rw [hchan]; exact Bool.false_ne_true)]
  exact (congrArg (fun m => tblGet 0 m a) hone).trans (byteAt_putBytes s p.dpa a p.data)

theorem getD_take (data : List Byte) (n k : Nat) (hk : k < n) : (data.take n).getD k 0 = data.getD k 0 := by
  rw [List.getD_eq_getElem?_getD, List.getD_eq_getElem?_getD, List.getElem?_take, if_pos hk]

theorem yields_hostMemWrite_commits {s : State} {h : Head} {hpa dpa : Nat} {l : List Posted} (tag : Nat) (data : List Byte) (p c m : Bool)
    (hup : s.memUp h = true) (hcredit : (s.heads.get h).credits ≠ 0) (hok : s.memCheck h hpa (fun a => a = .write) = .inr dpa)
    (hbit : s.restoredBit (dpa / 4096) = true) (hroom : (c && s.postedRoom h) = false)
    (hl : l = s.dmc.posted ++ [heldWrite h dpa data p m s.dev.aonUs]) (hres : s.residentFor l) :
    Yields (.hostMemWrite h hpa tag data p c m) s fun t =>
      let n := min (64 - dpa % 64) data.length
      ((∀ a, t.byteAt a = (s.posting l).byteAt a) ∧ (∀ x, t.dirtyBit x = ((l.any fun p => p.dpa / 4096 == x) || s.dirtyBit x)) ∧
        t.map.hmap = s.map.hmap ∧ t.dev = s.dev) ∧
      t.poison = (s.posting l).poison ∧ t.dmc.posted = [] ∧ t.replies.mem.get h = [.done tag] ∧
      ((s.dchan (s.site dpa).channel).failed = false → s.dmc.posted = [] →
        ∀ a, t.byteAt a = if dpa ≤ a ∧ a < dpa + n then data.getD (a - dpa) 0 else s.byteAt a) := by
  have hgate := gateLook_looked (dpa / 4096) (r := .clean) (s.spent h) (fun _ => DramRead.noConfusion)
  have hbit' : (gateLook (dpa / 4096) .clean (s.spent h)).restoredBit (dpa / 4096) = true := (hgate.restoredBit _).trans hbit
  have hdo := (hostWrite_passed tag data p c m ((spent_check s h hpa _).trans hok)).trans (if_pos hbit')
  refine ⟨_, (execHostMemWrite_sent hpa tag data p c m hup hcredit).trans (congrArg (fun v => Host.Outcome.next (creditSync v)) hdo), ?_⟩
  generalize gateLook (dpa / 4096) .clean (s.spent h) = v at hgate
  have hvroom : (c && v.postedRoom h) = false := by
    unfold State.postedRoom at hroom ⊢
    rw [hgate.posted, hgate.limit]
    exact hroom
  have hus : v.dev.aonUs = s.dev.aonUs := hgate.keeps (π := fun u => u.dev.aonUs) fun _ _ _ => rfl
  have hvposted : v.dmc.posted = s.dmc.posted := hgate.posted
  have hvres : v.residentFor l := hgate.residentFor (s := s.spent h) hres
  have hnow : Committed v (commitPostedNow none v) s.dmc.posted [] := by
    obtain ⟨hall, hnone⟩ := postedBy_none v.dmc.posted
    have hcommit := commitPostedNow_committed (only := none) (s := v) (by
      rw [hall, hvposted]
      exact fun q hq => hvres q (by rw [hl]; exact List.mem_append_left _ hq))
    rwa [hall, hnone, hvposted] at hcommit
  have hone := commitPosted_committed (p := heldWrite h dpa data p m s.dev.aonUs) (s := commitPostedNow none v)
    (hnow.residentFor fun q hq => hvres q (by rw [hl]; exact List.mem_append_right _ hq))
  have hcommit := hnow.trans hone
  rw [hnow.posted, ← hl] at hcommit
  obtain ⟨hdram, hpoison, hdirty, hhmap, -, hupw, hdev⟩ := hcommit.looked hgate
  have hserve := serveWrite_commits h dpa tag data p c m hvroom
  rw [hus] at hserve
  rw [hserve]
  have hreplies : (commitPosted (heldWrite h dpa data p m s.dev.aonUs) (commitPostedNow none v)).replies = (s.spent h).replies :=
    (hcommit.free (fun u => u.replies) fun _ _ _ _ _ _ _ _ => rfl).trans (hgate.keeps (π := fun u => u.replies) fun _ _ _ => rfl)
  generalize commitPosted (heldWrite h dpa data p m s.dev.aonUs) (commitPostedNow none v) = w at hcommit hdram hpoison hdirty hhmap hupw hdev hreplies
  have hwup : (w.heads.get h).up = true := (hupw h).trans ((spent_up s h h).trans (memUp_up hup))
  obtain ⟨hsd, hsp⟩ := spent_posting s h l
  have hbytes : ∀ a, (creditSync (memAnswer h (.done tag) w)).byteAt a = (s.posting l).byteAt a := by
    intro a
    have hd : (creditSync (memAnswer h (.done tag) w)).dram = (s.posting l).dram := by
      rw [memAnswer_up hwup]
      exact hdram.trans hsd
    exact congrArg (fun m => tblGet 0 m a) hd
  refine ⟨⟨hbytes, fun x => ?_, ?_, ?_⟩, ?_, ?_, ?_, fun hchan hnone a => ?_⟩
  · rw [memAnswer_up hwup]; exact hdirty x
  · rw [memAnswer_up hwup]; exact hhmap
  · rw [memAnswer_up hwup]; exact hdev
  · rw [memAnswer_up hwup]; exact hpoison.trans hsp
  · rw [memAnswer_up hwup]; exact hcommit.posted
  · rw [memAnswer_up hwup]
    show (w.replies.mem.set h _).get h = _
    rw [perHead_get_self, hreplies, spent_answers]
    rfl
  · have hlen : (heldWrite h dpa data p m s.dev.aonUs).data.length = min (64 - dpa % 64) data.length := List.length_take
    rw [hbytes, hl, hnone, List.nil_append]
    refine (posting_one (p := heldWrite h dpa data p m s.dev.aonUs) hchan a).trans ?_
    by_cases hin : dpa ≤ a ∧ a < dpa + min (64 - dpa % 64) data.length
    · refine (if_pos (by rw [hlen]; exact hin)).trans ((getD_take data _ (a - dpa) ?_).trans (if_pos hin).symm)
      omega
    · exact (if_neg (by rw [hlen]; exact hin)).trans (if_neg hin).symm

theorem yields_hostMemWrite_held {s : State} {h : Head} {hpa dpa : Nat} (tag : Nat) (data : List Byte) (p m : Bool) (hup : s.memUp h = true)
    (hcredit : (s.heads.get h).credits ≠ 0) (hok : s.memCheck h hpa (fun a => a = .write) = .inr dpa)
    (hbit : s.restoredBit (dpa / 4096) = true) (hroom : s.postedRoom h = true) : Yields (.hostMemWrite h hpa tag data p true m) s fun t =>
      t.dmc.posted = s.dmc.posted ++ [heldWrite h dpa data p m s.dev.aonUs] ∧ t.replies.mem.get h = [.done tag] ∧
      t.map = s.map ∧ t.dram = s.dram ∧ t.poison = s.poison ∧ t.dev = s.dev := by
  have hgate := gateLook_looked (dpa / 4096) (r := .clean) (s.spent h) (fun _ => DramRead.noConfusion)
  have hbit' : (gateLook (dpa / 4096) .clean (s.spent h)).restoredBit (dpa / 4096) = true := (hgate.restoredBit _).trans hbit
  have hdo := (hostWrite_passed tag data p true m ((spent_check s h hpa _).trans hok)).trans (if_pos hbit')
  refine ⟨_, (execHostMemWrite_sent hpa tag data p true m hup hcredit).trans (congrArg (fun v => Host.Outcome.next (creditSync v)) hdo), ?_⟩
  generalize gateLook (dpa / 4096) .clean (s.spent h) = v at hgate
  have hvroom : v.postedRoom h = true := by
    unfold State.postedRoom at hroom ⊢
    rw [hgate.posted, hgate.limit]
    exact hroom
  have hserve := serveWrite_holds h dpa tag data p m hvroom
  rw [show v.dev.aonUs = s.dev.aonUs from hgate.keeps (π := fun u => u.dev.aonUs) fun _ _ _ => rfl,
    show v.dmc.posted = s.dmc.posted from hgate.posted] at hserve
  have hvup : (v.heads.get h).up = true :=
    (hgate.keeps (π := fun u => (u.heads.get h).up) fun _ _ _ => rfl).trans ((spent_up s h h).trans (memUp_up hup))
  have hreplies : v.replies = (s.spent h).replies := hgate.keeps (π := fun u => u.replies) fun _ _ _ => rfl
  rw [hserve, memAnswer_up (by exact hvup)]
  refine ⟨rfl, ?_, hgate.keeps (π := fun u => u.map) fun _ _ _ => rfl, hgate.keeps (π := fun u => u.dram) fun _ _ _ => rfl,
    hgate.keeps (π := fun u => u.poison) fun _ _ _ => rfl, hgate.keeps (π := fun u => u.dev) fun _ _ _ => rfl⟩
  show (v.replies.mem.set h _).get h = _
  rw [perHead_get_self]
  show v.replies.mem.get h ++ _ = _
  rw [hreplies, spent_answers]
  rfl

/-! ### A flush (R20) -/

theorem yields_globalPersistentFlush {s : State} {h : Head} (hup : s.memUp h = true) : Yields (.globalPersistentFlush h) s fun t =>
      let mine := s.dmc.posted.filter fun p => decide (p.head = h)
      t.replies.mem.get h = [.flushed] ∧ t.dev = s.dev ∧
      (s.residentFor mine → ((∀ a, t.byteAt a = (s.posting mine).byteAt a) ∧
          (∀ x, t.dirtyBit x = ((mine.any fun p => p.dpa / 4096 == x) || s.dirtyBit x)) ∧ t.map.hmap = s.map.hmap ∧ t.dev = s.dev) ∧
        t.poison = (s.posting mine).poison ∧ t.dmc.posted = s.dmc.posted.filter fun p => !decide (p.head = h)) := by
  refine ⟨_, if_pos hup, ?_⟩
  have hfree : ∀ {β : Type} (π : State → β), CommitFree π → π (commitPostedNow (some h) (clearAnswers s)) = π (clearAnswers s) :=
    fun π hπ => commitPostedNow_only π hπ (some h) (clearAnswers s)
  have hwup : ((commitPostedNow (some h) (clearAnswers s)).heads.get h).up = true :=
    (commits_up h _ (some h) (clearAnswers s)).trans (memUp_up hup)
  have hreplies : (commitPostedNow (some h) (clearAnswers s)).replies = (clearAnswers s).replies :=
    hfree (fun u => u.replies) fun _ _ _ _ _ _ _ _ => rfl
  have hdev : (commitPostedNow (some h) (clearAnswers s)).dev = s.dev := hfree (fun u => u.dev) fun _ _ _ _ _ _ _ _ => rfl
  have hcommits : s.residentFor (s.dmc.posted.filter fun p => decide (p.head = h)) →
      Committed (clearAnswers s) (commitPostedNow (some h) (clearAnswers s)) (s.dmc.posted.filter fun p => decide (p.head = h))
        (s.dmc.posted.filter fun p => !decide (p.head = h)) := fun hres =>
    commitPostedNow_committed (only := some h) (s := clearAnswers s) hres
  generalize commitPostedNow (some h) (clearAnswers s) = w at hwup hreplies hdev hcommits
  obtain ⟨hanswers, hposting⟩ := clearAnswers_looked s h
  rw [memAnswer_up hwup]
  refine ⟨?_, hdev, fun hres => ?_⟩
  · show (w.replies.mem.set h _).get h = _
    rw [perHead_get_self, hreplies, hanswers]
    rfl
  · have hcommit := hcommits hres
    obtain ⟨hsd, hsp⟩ := hposting (s.dmc.posted.filter fun p => decide (p.head = h))
    exact ⟨⟨fun a => congrArg (fun m => tblGet 0 m a) (hcommit.dram.trans hsd), hcommit.dirty, hcommit.hmap, hdev⟩,
      hcommit.poison.trans hsp, hcommit.posted⟩

/-! ### Credits (R28, R132, R303) -/

theorem postedKib_le {s t : State} (h : t.dmc.posted.length ≤ s.dmc.posted.length) : t.postedKib ≤ s.postedKib := by
  unfold State.postedKib ceilDiv
  split
  · exact Nat.le_refl _
  · exact Nat.div_le_div_right (by omega)

theorem drainPosted_keeps {β : Type} {π : State → β} (hπ : CommitFree π) (kib n : Nat) (s : State) : π (drainPosted kib n s) = π s := by
  induction n generalizing s with
  | zero => rfl
  | succ n ih =>
    unfold drainPosted
    split
    · rfl
    · split
      · rfl
      · rename_i p rest _ _
        refine (ih _).trans ((commitPosted_only π (fun v m d f k c b p => hπ v m d f k c b p) p _).trans ?_)
        exact hπ s s.map s.drn s.fld s.heads _ s.dram s.poison

/-- Of the memory controller draining moves no limit, no running set and no withheld credit. -/
theorem drainPosted_dmc (kib n : Nat) (s : State) : (drainPosted kib n s).dmc.current = s.dmc.current ∧
    (drainPosted kib n s).dmc.postedLimitKib = s.dmc.postedLimitKib ∧ (drainPosted kib n s).dmc.postedHeld = s.dmc.postedHeld := by
  induction n generalizing s with
  | zero => exact ⟨rfl, rfl, rfl⟩
  | succ n ih =>
    unfold drainPosted
    split
    · exact ⟨rfl, rfl, rfl⟩
    · split
      · exact ⟨rfl, rfl, rfl⟩
      · rename_i p rest _ _
        obtain ⟨hcur, hlimit, hheld⟩ := ih (commitPosted p { s with dmc := { s.dmc with posted := rest } })
        obtain ⟨-, -, -, -, -, hcur', hlimit', hheld', -⟩ := commitPosted_spec p { s with dmc := { s.dmc with posted := rest } }
        exact ⟨hcur.trans hcur', hlimit.trans hlimit', hheld.trans hheld'⟩

/-- With every line resident the buffer drains, oldest first, until it is below the value. -/
theorem drainPosted_resident {kib : Nat} (hkib : 0 < kib) (n : Nat) {s : State} (hn : s.dmc.posted.length ≤ n) (hres : s.residentFor s.dmc.posted) :
    (drainPosted kib n s).postedKib < kib ∧ ∃ k, Committed s (drainPosted kib n s) (s.dmc.posted.take k) (s.dmc.posted.drop k) := by
  have hempty : ∀ {v : State}, v.dmc.posted = [] → v.postedKib < kib := by
    intro v hv
    unfold State.postedKib
    rw [hv]
    exact hkib
  induction n generalizing s with
  | zero =>
    have hnil : s.dmc.posted = [] := List.eq_nil_of_length_eq_zero (Nat.le_zero.mp hn)
    exact ⟨hempty hnil, 0, Committed.refl s⟩
  | succ n ih =>
    unfold drainPosted
    split
    · rename_i hnil
      exact ⟨hempty hnil, 0, Committed.refl s⟩
    · rename_i p rest hcons
      obtain ⟨hin, hcached⟩ := hres p (by rw [hcons]; exact List.mem_cons_self)
      have hgo : s.stallsCommit p = false := (commitPosted_resident hin hcached).1
      by_cases hlow : s.postedKib < kib
      · rw [if_pos (by simp [hlow])]
        exact ⟨hlow, 0, Committed.refl s⟩
      · rw [if_neg (by simp [hlow, hgo])]
        generalize hv : ({ s with dmc := { s.dmc with posted := rest } } : State) = v
        have hvres : v.residentFor [p] := by
          intro q hq
          rw [List.mem_singleton.mp hq, ← hv]
          exact ⟨hin, hcached⟩
        have hone := commitPosted_committed hvres
        have hvposted : v.dmc.posted = rest := by rw [← hv]
        have hstep : Committed s (commitPosted p v) [p] rest := by
          have hpost := posting_same [p] s v (by rw [← hv]) (by rw [← hv]) (by rw [← hv]) (fun j => by rw [← hv]; rfl)
          have hfree : ∀ {β : Type} (π : State → β), CommitFree π → π v = π s := fun π hπ => by
            rw [← hv]
            exact hπ s s.map s.drn s.fld s.heads _ s.dram s.poison
          rw [hvposted] at hone
          exact ⟨hone.dram.trans hpost.1, hone.poison.trans hpost.2, fun x => (hone.dirty x).trans (by rw [← hv]; rfl),
            hone.hmap.trans (by rw [← hv]), fun r hr => hone.resident r (by rw [← hv]; exact hr),
            fun k => (hone.failed k).trans (by rw [← hv]; rfl), hone.posted, fun k => (hone.up k).trans (by rw [← hv]),
            fun g hg => hone.lost g (by rw [← hv]; exact hg), fun π hπ => (hone.free π hπ).trans (hfree π hπ)⟩
        have hlen : (commitPosted p v).dmc.posted.length ≤ n := by
          rw [hstep.posted]
          rw [hcons, List.length_cons] at hn
          omega
        have hrest : (commitPosted p v).residentFor (commitPosted p v).dmc.posted := by
          rw [hstep.posted]
          exact hstep.residentFor fun q hq => hres q (by rw [hcons]; exact List.mem_cons_of_mem _ hq)
        obtain ⟨hbelow, k, hk⟩ := ih hlen hrest
        rw [hstep.posted] at hk
        exact ⟨hbelow, k + 1, by rw [hcons]; exact hstep.trans hk⟩

theorem postedResume_pos (n : Nat) : 0 < postedResume n ∧ postedResume n ≤ postedLimit n := by
  match n with
  | 0 => decide
  | 1 => decide
  | 2 => decide
  | _ + 3 => exact ⟨(by decide : 0 < 691), (by decide : 691 ≤ 768)⟩

/-- With no backpressure and no withheld posted write every head has its credits again (R28, R29). -/
theorem creditSync_returned {s : State} (hheld : s.dmc.postedHeld = false) (hflow : (creditSync s).gov.backpressure = false) (h : Head) :
    ((creditSync s).heads.get h).credits = headCredits ∧ ((creditSync s).heads.get h).creditsHeld = false := by
  have hbp : backpressureNext (s.dev.st = .armed) s.gov.backpressure (s.gov.bceil - 135168) s.map.total = false := hflow
  unfold creditSync
  rw [hbp, hheld]
  cases h <;> exact ⟨rfl, rfl⟩

theorem yields_postedCreditResume {s : State} (hrun : s.running = true) (hheld : s.dmc.postedHeld = true)
    (hlimit : s.dmc.postedLimitKib = postedLimit s.dmc.current) : Yields .postedCreditResume s fun t => t.dev = s.dev ∧
      t.dmc.postedHeld = decide (postedResume s.dmc.current ≤ t.postedKib) ∧
      (s.residentFor s.dmc.posted → t.dmc.postedHeld = false ∧
        (t.gov.backpressure = false → ∀ h, (t.heads.get h).credits = headCredits ∧ (t.heads.get h).creditsHeld = false) ∧
        ∃ k, t.dmc.posted = s.dmc.posted.drop k ∧ ((∀ a, t.byteAt a = (s.posting (s.dmc.posted.take k)).byteAt a) ∧
            (∀ x, t.dirtyBit x = (((s.dmc.posted.take k).any fun p => p.dpa / 4096 == x) || s.dirtyBit x)) ∧
            t.map.hmap = s.map.hmap ∧ t.dev = s.dev) ∧ t.poison = (s.posting (s.dmc.posted.take k)).poison) := by
  refine ⟨_, if_pos (by rw [hrun, hheld]; rfl), ?_⟩
  obtain ⟨hcur, hlim, hwith⟩ := drainPosted_dmc (postedResume s.dmc.current) s.dmc.posted.length s
  obtain ⟨hpos, hle⟩ := postedResume_pos s.dmc.current
  have hdev : (drainPosted (postedResume s.dmc.current) s.dmc.posted.length s).dev = s.dev :=
    drainPosted_keeps (π := fun u => u.dev) (fun _ _ _ _ _ _ _ _ => rfl) _ _ _
  have hdrain := drainPosted_resident hpos s.dmc.posted.length (s := s) (Nat.le_refl _)
  generalize drainPosted (postedResume s.dmc.current) s.dmc.posted.length s = v at hcur hlim hwith hdev hdrain
  have hnew : (postedSync v).dmc.postedHeld = decide (postedResume s.dmc.current ≤ v.postedKib) := by
    show (decide (v.dmc.postedLimitKib ≤ v.postedKib) || (v.dmc.postedHeld && decide (postedResume v.dmc.current ≤ v.postedKib))) = _
    rw [hlim, hlimit, hwith, hheld, hcur, Bool.true_and]
    by_cases h : postedResume s.dmc.current ≤ v.postedKib
    · simp [h]
    · simp only [h, decide_false, Bool.or_false, decide_eq_false_iff_not]
      omega
  refine ⟨hdev, hnew, fun hres => ?_⟩
  obtain ⟨hbelow, k, hcommit⟩ := hdrain hres
  have hfree : (postedSync v).dmc.postedHeld = false := hnew.trans (decide_eq_false (Nat.not_le.mpr hbelow))
  exact ⟨hfree, fun hflow h => creditSync_returned hfree hflow h, k, hcommit.posted,
    ⟨fun a => congrArg (fun m => tblGet 0 m a) hcommit.dram, hcommit.dirty, hcommit.hmap, hdev⟩, hcommit.poison⟩

/-! ### A bitmap line that cannot be corrected (R174, R184) -/

/-- Granules lost one after another: their entries, their lost and restore bits, and those of no other. -/
theorem loseGranules_spec (l : List Nat) (s : State) :
    (∀ g, (l.foldl (fun s g => loseGranule g s) s).restoredBit g = (l.contains g || s.restoredBit g)) ∧
    (∀ g, (l.foldl (fun s g => loseGranule g s) s).fld.lost.contains g = (l.contains g || s.fld.lost.contains g)) ∧
    (∀ g, (l.foldl (fun s g => loseGranule g s) s).hmOf g = if l.contains g then { state := .lost } else s.hmOf g) ∧
    (l.foldl (fun s g => loseGranule g s) s).dmc.posted = s.dmc.posted ∧
    (∀ k, ((l.foldl (fun s g => loseGranule g s) s).heads.get k).up = (s.heads.get k).up) := by
  induction l generalizing s with
  | nil => exact ⟨fun _ => rfl, fun _ => rfl, fun _ => rfl, rfl, fun _ => rfl⟩
  | cons a l ih =>
    obtain ⟨hbit, hlost, hhm, hposted, hup⟩ := ih (loseGranule a s)
    obtain ⟨hbit1, -, hhm1, hfld1, hposted1, -, hup1⟩ := loseGranule_spec a s
    rw [List.foldl_cons]
    refine ⟨fun g => ?_, fun g => ?_, fun g => ?_, hposted.trans hposted1, fun k => (hup k).trans (hup1 k)⟩
    · rw [hbit, hbit1, List.contains_cons]
      cases l.contains g <;> simp
    · rw [hlost, hfld1, setAdd_contains, List.contains_cons]
      cases l.contains g <;> simp
    · rw [hhm, hhm1, List.contains_cons]
      by_cases hg : g = a
      · simp [hg]
      · simp [hg]

theorem region_contains (r g : Nat) : ((List.range 512).map (r * 512 + ·)).contains g = decide (g / 512 = r) := by
  rw [Bool.eq_iff_iff, List.contains_iff_mem, decide_eq_true_eq, List.mem_map]
  constructor
  · rintro ⟨k, hk, rfl⟩
    have := List.mem_range.mp hk
    omega
  · intro hg
    exact ⟨g % 512, List.mem_range.mpr (Nat.mod_lt _ (by omega)), by omega⟩

/-- What the loss of a region's bitmap line leaves: every granule of the region lost and restored, the others and DRAM as they were. -/
structure RegionLost (r : Nat) (s t : State) : Prop where
  bit : ∀ g, t.restoredBit g = (decide (g / 512 = r) || s.restoredBit g)
  lost : ∀ g, t.fld.lost.contains g = (decide (g / 512 = r) || s.fld.lost.contains g)
  entry : ∀ g, t.hmOf g = if g / 512 = r then { state := .lost } else s.hmOf g
  posted : t.dmc.posted = s.dmc.posted
  up : ∀ k, (t.heads.get k).up = (s.heads.get k).up
  dev : t.dev = s.dev
  dram : t.dram = s.dram
  replies : t.replies = s.replies

theorem gateLook_bitmap {g d : Nat} {s : State} (hsave : s.saving = false) (hbit : (s.rstOf (regionOf g)).restored = false)
    (hon : s.fld.restored ≠ {}) (hmiss : s.fld.gateCache.contains (regionOf g) = false) (hmild : s.mild 0x41 = true) :
    RegionLost (regionOf g) s (gateLook g (.bitmap d) s) := by
  obtain ⟨line, c, hdo⟩ : ∃ line c, gateLook g (.bitmap d) s = ((List.range 512).map (regionOf g * 512 + ·)).foldl (fun s g => loseGranule g s)
      (readUncorrected line d (dchanUpd c (fun x => { x with tickRd := x.tickRd + 64 })
        (wakeChan c { s with fld := { s.fld with gateCache := gateFill (regionOf g) s.fld.gateCache } }))) := by
    refine ⟨(s.reserveBase + s.popGib * 2 ^ 30 / 512 + s.popGib * 2 ^ 30 / 32768) / 64 + regionOf g,
      (s.site (((s.reserveBase + s.popGib * 2 ^ 30 / 512 + s.popGib * 2 ^ 30 / 32768) / 64 + regionOf g) * lineBytes)).channel, ?_⟩
    unfold gateLook
    refine (if_neg ?_).trans (if_neg ?_)
    · simp [hbit, hon]
    · exact Bool.eq_false_iff.mp hmiss
  obtain ⟨⟨x, hx⟩, -, hxp, -⟩ := (wakeChan_step c { s with fld := { s.fld with gateCache := gateFill (regionOf g) s.fld.gateCache } }).trans
    (dchanUpd_step c (fun x => { x with tickRd := x.tickRd + 64 }) (fun _ => rfl) _)
  rw [hdo]
  generalize dchanUpd c (fun x => { x with tickRd := x.tickRd + 64 })
    (wakeChan c { s with fld := { s.fld with gateCache := gateFill (regionOf g) s.fld.gateCache } }) = v at hx hxp
  have hraise : ∀ {β : Type} (π : State → β), EventFree π →
      (∀ (s : State) c y, π (dchanUpd c (fun z => errSite y d true { z with ue := satAdd 16 z.ue 1 }) s) = π s) →
      π (readUncorrected line d v) = π v := by
    intro β π hπ hchan
    unfold readUncorrected
    exact (fltRaise_mild π hπ 0x41 _ (s := s) (by rw [hx]; rfl) (by rw [hx]; rfl) (by rw [hx]; exact hsave) hmild).trans (hchan ..)
  obtain ⟨hb, hl, he, hp, hu⟩ := loseGranules_spec ((List.range 512).map (regionOf g * 512 + ·)) (readUncorrected line d v)
  have hfree : ∀ {β : Type} (π : State → β), (∀ s m d f h c p, π { s with map := m, drn := d, fld := f, heads := h, dmc := c, poison := p } = π s) →
      π (((List.range 512).map (regionOf g * 512 + ·)).foldl (fun s g => loseGranule g s) (readUncorrected line d v)) = π (readUncorrected line d v) :=
    fun π hπ => foldl_same π _ (fun s x => loseGranule_only π hπ x s) _ _
  refine ⟨fun g => ?_, fun g => ?_, fun g => ?_, ?_, fun k => ?_, ?_, ?_, ?_⟩
  · rw [hb, region_contains, hraise (fun u => u.restoredBit g) (fun _ _ _ _ _ _ => rfl) fun _ _ _ => rfl, hx]
    rfl
  · rw [hl, region_contains, hraise (fun u => u.fld.lost.contains g) (fun _ _ _ _ _ _ => rfl) fun _ _ _ => rfl, hx]
  · rw [he, region_contains, hraise (fun u => u.hmOf g) (fun _ _ _ _ _ _ => rfl) fun _ _ _ => rfl, hx]
    simp only [decide_eq_true_eq]
    rfl
  · rw [hp, hraise (fun u => u.dmc.posted) (fun _ _ _ _ _ _ => rfl) fun _ _ _ => rfl]
    exact hxp
  · rw [hu, hraise (fun u => (u.heads.get k).up) (fun _ _ _ _ _ _ => by cases k <;> rfl) fun _ _ _ => rfl, hx]
  · rw [hfree (fun u => u.dev) fun _ _ _ _ _ _ _ => rfl, hraise (fun u => u.dev) (fun _ _ _ _ _ _ => rfl) fun _ _ _ => rfl, hx]
  · rw [hfree (fun u => u.dram) fun _ _ _ _ _ _ _ => rfl, hraise (fun u => u.dram) (fun _ _ _ _ _ _ => rfl) fun _ _ _ => rfl, hx]
  · rw [hfree (fun u => u.replies) fun _ _ _ _ _ _ _ => rfl, hraise (fun u => u.replies) (fun _ _ _ _ _ _ => rfl) fun _ _ _ => rfl, hx]

theorem yields_hostMemRead_bitmap {s : State} {h : Head} {hpa dpa : Nat} (tag d ns : Nat) (hup : s.memUp h = true)
    (hok : s.memCheck h hpa (fun a => a ≠ .none) = .inr dpa) (hbit : (s.rstOf (dpa / 2097152)).restored = false) (hon : s.fld.restored ≠ {})
    (hmiss : s.fld.gateCache.contains (dpa / 2097152) = false) (hmild : s.mild 0x41 = true)
    (hnone : ∀ p ∈ s.dmc.posted, p.dpa / 64 ≠ dpa / 64) : Yields (.hostMemRead h hpa tag (.bitmap d) ns) s fun t =>
      t.replies.mem.get h = [.poison tag] ∧ t.dev = s.dev ∧ t.dram = s.dram ∧ t.dmc.posted = s.dmc.posted ∧
      ∀ g, (g / 512 = dpa / 2097152 → t.restoredBit g = true ∧ t.fld.lost.contains g = true ∧ (t.hmOf g).state = .lost) ∧
        (g / 512 ≠ dpa / 2097152 → t.restoredBit g = s.restoredBit g ∧ t.fld.lost.contains g = s.fld.lost.contains g ∧ t.hmOf g = s.hmOf g) := by
  have hregion : regionOf (dpa / 4096) = dpa / 2097152 := by
    show dpa / 4096 / 512 = _
    rw [Nat.div_div_eq_div_mul]
  have hquiet : s.saving = false := running_not_saving (memCheck_running hok)
  have hlost := gateLook_bitmap (g := dpa / 4096) (d := d) (s := clearAnswers s) hquiet (by rw [hregion]; exact hbit) hon
    (by rw [hregion]; exact hmiss) hmild
  rw [hregion] at hlost
  have hgran : dpa / 4096 / 512 = dpa / 2097152 := by rw [Nat.div_div_eq_div_mul]
  have hbit' : (gateLook (dpa / 4096) (.bitmap d) (clearAnswers s)).restoredBit (dpa / 4096) = true := by
    rw [hlost.bit, hgran]
    simp
  refine ⟨_, (execHostMemRead_passed hup hok).trans (congrArg Host.Outcome.next (if_pos hbit')), ?_⟩
  have hlat := readLatency_looked h (dpa / 64 * 64) ns (gateLook (dpa / 4096) (.bitmap d) (clearAnswers s))
  generalize gateLook (dpa / 4096) (.bitmap d) (clearAnswers s) = v at hlost hlat
  generalize readLatency h (dpa / 64 * 64) ns v = w at hlat
  have hahead : w = w.readAhead (dpa / 64 * 64 / 64) := by
    have hno : w.dmc.posted.any (fun p => p.dpa / 64 == dpa / 64) = false := by
      rw [hlat.posted, hlost.posted, List.any_eq_false]
      intro p hp
      simpa using hnone p hp
    unfold State.readAhead
    rw [line_div, hno]
    rfl
  have hwdev : w.dev = s.dev := (hlat.keeps (π := fun u => u.dev) fun _ _ _ => rfl).trans hlost.dev
  have hwup : (w.heads.get h).up = true :=
    (hlat.keeps (π := fun u => (u.heads.get h).up) fun _ _ _ => rfl).trans ((hlost.up h).trans (memUp_up hup))
  have hwlost : w.fld.lost.contains (dpa / 4096) = true := by
    have hsame : w.fld.lost = v.fld.lost := hlat.keeps (π := fun u => u.fld.lost) fun _ _ _ => rfl
    rw [hsame, hlost.lost, hgran]
    simp
  obtain ⟨-, htd, htr, htf⟩ := serveRead_spec h (dpa / 64 * 64) tag (.bitmap d) hahead ((saving_congr hwdev).trans hquiet)
    (fun _ he => DramRead.noConfusion he) (fun _ he => DramRead.noConfusion he) hwup
  have hwreplies : w.replies = (clearAnswers s).replies := (hlat.keeps (π := fun u => u.replies) fun _ _ _ => rfl).trans hlost.replies
  rw [line_granule, hwlost, hwreplies, (clearAnswers_looked s h).1, Bool.or_true, if_pos rfl] at htr
  refine ⟨htr, ?_, ?_, htd.trans (hlat.posted.trans hlost.posted), fun g => ?_⟩
  · exact (htf (fun u => u.dev) (fun _ _ _ _ _ _ _ => rfl) fun _ _ => rfl).trans hwdev
  · exact (htf (fun u => u.dram) (fun _ _ _ _ _ _ _ => rfl) fun _ _ => rfl).trans
      ((hlat.keeps (π := fun u => u.dram) fun _ _ _ => rfl).trans hlost.dram)
  · rw [htf (fun u => u.restoredBit g) (fun _ _ _ _ _ _ _ => rfl) fun _ _ => rfl,
      htf (fun u => u.fld.lost.contains g) (fun _ _ _ _ _ _ _ => rfl) fun _ _ => rfl,
      htf (fun u => u.hmOf g) (fun _ _ _ _ _ _ _ => rfl) fun _ _ => rfl, hlat.restoredBit,
      hlat.keeps (π := fun u => u.fld.lost.contains g) fun _ _ _ => rfl, hlat.keeps (π := fun u => u.hmOf g) fun _ _ _ => rfl,
      hlost.bit, hlost.lost, hlost.entry]
    refine ⟨fun hg => ?_, fun hg => ?_⟩
    · rw [if_pos hg, decide_eq_true hg]
      exact ⟨rfl, rfl, rfl⟩
    · rw [if_neg hg, decide_eq_false hg]
      exact ⟨rfl, rfl, rfl⟩

/-- Settles O24, by what the gate, a read, a write, a flush and the credits' return each do. -/
theorem hostMemory : Obligations.HostMemory := by
  unfold Obligations.HostMemory
  intro done waits
  refine ⟨fun s h hpa tag r ns hdown => if_neg (by rw [hdown]; decide), fun s h hpa tag data b c d hno => hostMemWrite_idle hpa tag data b c d hno,
    fun s h hpa tag r ns k hup hbad hroom => yields_hostMemRead_refused tag r ns hup hbad hroom,
    fun s h hpa tag data b c d k hup hcredit hbad hroom => yields_hostMemWrite_refused tag data b c d hup hcredit hbad hroom,
    fun s h hpa tag r ns dpa l hup hok hbit hplain hl hres hlost h40 h41 =>
      yields_hostMemRead_served tag ns hup hok hbit hplain hl hres hlost h40 h41,
    fun s h hpa tag d ns dpa hup hok hbit hon hmiss hmild hnone => yields_hostMemRead_bitmap tag d ns hup hok hbit hon hmiss hmild hnone,
    fun s h hpa tag r ns dpa hup hok hbit hplain => yields_hostMemRead_waits tag ns hup hok hbit hplain,
    fun s h hpa tag data p c m dpa hup hcredit hok hbit => yields_hostMemWrite_waits tag data p c m hup hcredit hok hbit,
    fun s h hpa tag data p c m dpa l hup hcredit hok hbit hroom hl hres =>
      yields_hostMemWrite_commits tag data p c m hup hcredit hok hbit hroom hl hres,
    fun s h hpa tag data p m dpa hup hcredit hok hbit hroom => yields_hostMemWrite_held tag data p m hup hcredit hok hbit hroom,
    fun s h hdown => if_neg (by rw [hdown]; decide), fun s h hup => yields_globalPersistentFlush hup, fun s hno => if_neg ?_,
    fun s hrun hheld hlimit => yields_postedCreditResume hrun hheld hlimit⟩
  rcases hno with hno | hno <;> simp [hno]

end Sys2Proof.Machine
end

section
/-!
PROOFS. The store's upkeep (R194, R205, R209, R216 to R226): raking, erases, the patrol, ZQ calibration and a die that answers no reset.
-/
namespace Sys2Proof.Machine

/-! ### What staging a page reaches (R199, R206, R229) -/

/-- What opening a row and staging a page leave alone: of the store they reach rows, blocks and write staging. -/
def StagingFree {β : Type} (π : State → β) : Prop :=
  ∀ (s : State) r b n l c g, π { s with bed := { s.bed with
    rows := r, blocks := b, nextRowSeq := n, nextLane := l, sinceTable := c, staged := g } } = π s

section
variable {β : Type} {π : State → β} (hπ : StagingFree π)
include hπ

theorem StagingFree.rows (s : State) (r : List BedRow) : π { s with bed := { s.bed with rows := r } } = π s :=
  hπ s r s.bed.blocks s.bed.nextRowSeq s.bed.nextLane s.bed.sinceTable s.bed.staged

theorem StagingFree.staged (s : State) (g : List StorePage) : π { s with bed := { s.bed with staged := g } } = π s :=
  hπ s s.bed.rows s.bed.blocks s.bed.nextRowSeq s.bed.nextLane s.bed.sinceTable g

theorem StagingFree.blocks (s : State) (b : Tbl Blk) : π { s with bed := { s.bed with blocks := b } } = π s :=
  hπ s s.bed.rows b s.bed.nextRowSeq s.bed.nextLane s.bed.sinceTable s.bed.staged

theorem eraseBlank_free (lane : Nat) (s : State) : π (eraseBlank lane s) = π s := by
  unfold eraseBlank
  dsimp only
  split
  · refine (foldl_same π _ (fun v p => hπ.blocks v _) _ _).trans ?_
    exact hπ s s.bed.rows s.bed.blocks s.bed.nextRowSeq s.bed.nextLane _ s.bed.staged
  · rfl

theorem openIn_free (cls : RowClass) (lane : Nat) (s : State) : π (openIn cls lane s) = π s := by
  unfold openIn
  dsimp only
  generalize hv : (if s.laneRows lane = 0 && !s.saving then eraseBlank lane s else s) = v
  have hvs : π v = π s := by
    rw [← hv]
    split
    · exact eraseBlank_free hπ lane s
    · rfl
  split
  · exact hvs
  · refine (hπ _ _ _ _ _ _ _).trans ((foldl_same π _ (fun u p => hπ.blocks u _) _ _).trans hvs)

theorem rowFor_free (cls : RowClass) (lane : Nat) (s : State) : π (rowFor cls lane s).1 = π s := by
  unfold rowFor
  split
  · rfl
  · dsimp only
    split
    · exact openIn_free hπ cls lane s
    · exact (openIn_free hπ cls _ _).trans (hπ s s.bed.rows s.bed.blocks s.bed.nextRowSeq _ s.bed.sinceTable s.bed.staged)

theorem newPage_free {cls : RowClass} {lane : Nat} {kind : PageKind} {use : ByteUse} {s : State} {t : State × StorePage}
    (h : newPage cls lane kind use s = some t) : π t.1 = π s := by
  have hfill : π (match s.openRow cls lane with
      | some r => if s.rowPages r ≤ r.cursor then rowUpd r.seq (fun x => { x with state := .full }) s else s
      | none => s) = π s := by
    split
    · split
      · exact hπ.rows s _
      · rfl
    · rfl
  have htake : ∀ v : State, π v = π s → (match (rowFor cls lane v).2 with
      | none => none
      | some r =>
        if v.rowPages r ≤ r.cursor || !(rowFor cls lane v).1.bufferFree then none
        else
          let t := takePage r kind use (rowFor cls lane v).1
          some ({ t.1 with bed := { t.1.bed with staged := t.1.bed.staged ++ [t.2] } }, t.2)) = some t → π t.1 = π s := by
    intro v hv h
    split at h
    · cases h
    · split at h
      · cases h
      · injection h with h
        subst h
        exact (hπ.staged _ _).trans ((hπ.rows _ _).trans ((rowFor_free hπ _ _ _).trans hv))
  exact htake _ hfill h

theorem putRec_free {cls : RowClass} {lane : Nat} {p : StorePage} {x : GranRec} {s t : State} (h : putRec cls lane p x s = some t) :
    π t = π s := by
  unfold putRec at h
  dsimp only at h
  split at h
  · cases h
    exact hπ.staged _ _
  · obtain ⟨u, hu, rfl⟩ := Option.map_eq_some_iff.1 h
    exact (hπ.staged _ _).trans ((newPage_free hπ hu).trans (hπ.staged _ _))

theorem stageIn_free {cls : RowClass} {lane : Nat} {x : GranRec} {s t : State} (h : stageIn cls lane x s = some t) : π t = π s := by
  unfold stageIn at h
  dsimp only at h
  split at h
  · obtain ⟨u, hu, h⟩ := Option.bind_eq_some_iff.1 h
    exact (putRec_free hπ h).trans (newPage_free hπ hu)
  · split at h
    · obtain ⟨u, hu, h⟩ := Option.bind_eq_some_iff.1 h
      exact (putRec_free hπ h).trans ((newPage_free hπ hu).trans (hπ.staged _ _))
    · exact putRec_free hπ h

theorem stageSegment_free (hdrn : ∀ (s : State) d, π { s with drn := d } = π s) {use : ByteUse} {ns : List Nat} {s t : State}
    (h : stageSegment use ns s = some t) : π t = π s := by
  obtain ⟨u, hu, rfl⟩ := Option.map_eq_some_iff.1 h
  exact (hdrn _ _).trans ((hπ.staged _ _).trans (newPage_free hπ hu))

end

/-! ### Raking (R216 to R219) -/

/-- The victim's row is marked before the move. -/
def State.raked (s : State) (v : BedRow) : State :=
  { rowUpd v.seq (fun r => { r with state := .raking }) s with bed := { (rowUpd v.seq (fun r => { r with state := .raking }) s).bed with rakeActive := true } }

theorem raked_row (s : State) (v : BedRow) (n : Nat) :
    (s.raked v).row n = (s.row n).map fun r => if r.seq = v.seq then { r with state := .raking } else r := by
  have hfind : ∀ l : List BedRow, (l.map fun r => if r.seq = v.seq then { r with state := RowState.raking } else r).find? (fun r => r.seq == n) =
      (l.find? fun r => r.seq == n).map fun r => if r.seq = v.seq then { r with state := .raking } else r := by
    intro l
    rw [List.find?_map]
    congr 1
    refine congrArg (fun p => l.find? p) (funext fun r => ?_)
    show ((if r.seq = v.seq then { r with state := RowState.raking } else r).seq == n) = (r.seq == n)
    split <;> rfl
  exact hfind s.bed.rows

/-- Where a record lies does not depend on its row's state. -/
theorem raked_recIn (s : State) (v : BedRow) (l : HmLoc) : (s.raked v).recIn l = s.recIn l := by
  have hloc : ∀ (r : BedRow) p k, (s.raked v).locOf (if r.seq = v.seq then { r with state := .raking } else r) p k = s.locOf r p k := by
    intro r p k
    split <;> rfl
  unfold State.recIn
  refine congrArg (fun f => s.bed.pages.findSome? f) (funext fun p => ?_)
  rw [raked_row]
  cases s.row p.rowSeq with
  | none => rfl
  | some r =>
    dsimp only [Option.map_some]
    refine congrArg (Option.map fun x => (p, x)) (congrArg (fun f => p.recs.find? f) (funext fun x => ?_))
    rw [hloc]

/-- What O26's statement says of a move: the device, JOURNAL and DRAM's bytes. -/
def MoveFree {β : Type} (π : State → β) : Prop :=
  StagingFree π ∧ ∀ (s : State) m d f h c p, π { s with map := m, drn := d, fld := f, heads := h, dmc := c, poison := p } = π s

theorem moveRec_free {β : Type} {π : State → β} (hπ : MoveFree π) (v : BedRow) (g : Nat) (s : State) : π (moveRec v g s) = π s := by
  obtain ⟨hstage, hother⟩ := hπ
  unfold moveRec
  dsimp only
  split
  · rfl
  · split
    · rfl
    · split
      · split
        · exact (fillAll_only π (fun s m d => hother s m d s.fld s.heads s.dmc s.poison) _).trans
            (mapOp_only π (fun s m d => hother s m d s.fld s.heads s.dmc s.poison) _ _)
        · exact loseGranule_only π hother g s
      · split
        · rfl
        · rename_i t ht
          exact (hother t t.map _ t.fld t.heads t.dmc t.poison).trans (stageIn_free hstage ht)

theorem moveLines_free {β : Type} {π : State → β} (hπ : StagingFree π) (hdrn : ∀ (s : State) d, π { s with drn := d } = π s) (v : BedRow) (n : Nat)
    (s : State) : π (moveLines v n s) = π s := by
  unfold moveLines
  dsimp only
  split
  · rfl
  · split
    · rfl
    · rename_i t ht
      exact (hdrn t _).trans (stageSegment_free hπ hdrn ht)

/-- A record that passes its checks is staged again or waits; the map and the media stand. -/
theorem moveRec_good {v : BedRow} {g : Nat} {s : State} {p : StorePage} {x : GranRec} (hrec : s.recIn (s.hmOf g).loc = some (p, x))
    (hchecks : s.recChecks p x g (s.hmOf g) = true) {β : Type} {π : State → β} (hπ : StagingFree π)
    (hdrn : ∀ (s : State) d, π { s with drn := d } = π s) : π (moveRec v g s) = π s := by
  unfold moveRec
  dsimp only
  rw [hrec]
  dsimp only
  split
  · rfl
  · rw [hchecks]
    rw [if_neg (by decide)]
    split
    · rfl
    · rename_i t ht
      exact (hdrn t _).trans (stageIn_free hπ ht)

theorem moveRec_bad {v : BedRow} {g : Nat} {s : State} {p : StorePage} {x : GranRec} (hrec : s.recIn (s.hmOf g).loc = some (p, x))
    (hrow : p.rowSeq = v.seq) (hstored : (s.hmOf g).state = .stored)
    (hstaged : (s.bed.staged.any fun q => q.recs.any fun y => y.src = some (s.hmOf g).loc) = false)
    (hchecks : s.recChecks p x g (s.hmOf g) = false) (hbit : s.restoredBit g = false) : moveRec v g s = loseGranule g s := by
  unfold moveRec
  dsimp only
  rw [hrec]
  dsimp only
  rw [if_neg (by simp [hrow, hstored, hstaged]), hchecks]
  rw [if_pos (by decide), if_neg (by rw [hbit]; decide)]

theorem spendRows_free {β : Type} {π : State → β} (hπ : StagingFree π) (s : State) : π (spendRows s) = π s := hπ.rows s _

theorem rakeMove_nothing {s : State} (i : RakeItem) (hno : s.rakes = false ∨ s.victim = none) : execRakeMove i s = .next s := by
  unfold execRakeMove
  rcases hno with h | h
  · rw [h]
    rfl
  · split
    · rw [h]
    · rfl

theorem execRakeMove_moves {s : State} {v : BedRow} (i : RakeItem) (hrakes : s.rakes = true) (hvictim : s.victim = some v)
    (htable : (s.latestTable.any fun p => p.rowSeq == v.seq) = false) : execRakeMove i s = .next (settle (spendRows (match i with
      | .granule g => moveRec v g (s.raked v)
      | .line n => moveLines v n (s.raked v)))) := by
  have hstay : moveTable v (s.raked v) = s.raked v := by
    unfold moveTable
    exact if_neg (Bool.eq_false_iff.mp htable)
  unfold execRakeMove
  rw [if_pos hrakes, hvictim]
  show Host.Outcome.next (settle (spendRows (match i with
      | .granule g => moveRec v g (moveTable v (s.raked v))
      | .line n => moveLines v n (moveTable v (s.raked v))))) = _
  rw [hstay]

theorem yields_rakeMove {s : State} {v : BedRow} (i : RakeItem) (hrakes : s.rakes = true) (hvictim : s.victim = some v)
    (htable : (s.latestTable.any fun p => p.rowSeq == v.seq) = false) : Yields (.rakeMove i) s fun t =>
      ∃ u, t = settle u ∧ u.bed.rakeActive = true ∧ u.dev = s.dev ∧ u.jrn = s.jrn ∧ (∀ x, u.byteAt x = s.byteAt x) ∧
      (∀ n, i = .line n → u.map = s.map ∧ u.bed.pages = s.bed.pages) ∧
      (∀ g p x, i = .granule g → (s.hmOf g).state = .stored → s.recIn (s.hmOf g).loc = some (p, x) → p.rowSeq = v.seq →
        (s.bed.staged.any fun q => q.recs.any fun y => y.src = some (s.hmOf g).loc) = false →
        (s.recChecks p x g (s.hmOf g) = true → u.map = s.map ∧ u.bed.pages = s.bed.pages) ∧
        (s.recChecks p x g (s.hmOf g) = false → s.restoredBit g = false →
          (u.hmOf g).state = .lost ∧ u.fld.lost = setAdd g s.fld.lost ∧ u.bed.pages = s.bed.pages)) := by
  have hmove : ∀ {β : Type} {π : State → β}, MoveFree π → π (match i with
      | .granule g => moveRec v g (s.raked v)
      | .line n => moveLines v n (s.raked v)) = π (s.raked v) := by
    intro β π hπ
    cases i with
    | granule g => exact moveRec_free hπ v g _
    | line n => exact moveLines_free hπ.1 (fun s d => hπ.2 s s.map d s.fld s.heads s.dmc s.poison) v n _
  refine ⟨_, execRakeMove_moves i hrakes hvictim htable, _, rfl, ?_, ?_, ?_, fun x => ?_, fun n hi => ?_,
    fun g p x hi hstored hrec hrow hstaged => ⟨fun hchecks => ?_, fun hchecks hbit => ?_⟩⟩
  · exact (spendRows_free (π := fun u => u.bed.rakeActive) (fun _ _ _ _ _ _ _ => rfl) _).trans
      (hmove (π := fun u => u.bed.rakeActive) ⟨fun _ _ _ _ _ _ _ => rfl, fun _ _ _ _ _ _ _ => rfl⟩)
  · exact (spendRows_free (π := fun u => u.dev) (fun _ _ _ _ _ _ _ => rfl) _).trans
      (hmove (π := fun u => u.dev) ⟨fun _ _ _ _ _ _ _ => rfl, fun _ _ _ _ _ _ _ => rfl⟩)
  · exact (spendRows_free (π := fun u => u.jrn) (fun _ _ _ _ _ _ _ => rfl) _).trans
      (hmove (π := fun u => u.jrn) ⟨fun _ _ _ _ _ _ _ => rfl, fun _ _ _ _ _ _ _ => rfl⟩)
  · exact (spendRows_free (π := fun u => u.byteAt x) (fun _ _ _ _ _ _ _ => rfl) _).trans
      (hmove (π := fun u => u.byteAt x) ⟨fun _ _ _ _ _ _ _ => rfl, fun _ _ _ _ _ _ _ => rfl⟩)
  · subst hi
    exact ⟨(spendRows_free (π := fun u => u.map) (fun _ _ _ _ _ _ _ => rfl) _).trans
        (moveLines_free (π := fun u => u.map) (fun _ _ _ _ _ _ _ => rfl) (fun _ _ => rfl) v n _),
      (spendRows_free (π := fun u => u.bed.pages) (fun _ _ _ _ _ _ _ => rfl) _).trans
        (moveLines_free (π := fun u => u.bed.pages) (fun _ _ _ _ _ _ _ => rfl) (fun _ _ => rfl) v n _)⟩
  · subst hi
    have hrec' : (s.raked v).recIn ((s.raked v).hmOf g).loc = some (p, x) := (raked_recIn s v _).trans hrec
    exact ⟨(spendRows_free (π := fun u => u.map) (fun _ _ _ _ _ _ _ => rfl) _).trans
        (moveRec_good (π := fun u => u.map) hrec' hchecks (fun _ _ _ _ _ _ _ => rfl) fun _ _ => rfl),
      (spendRows_free (π := fun u => u.bed.pages) (fun _ _ _ _ _ _ _ => rfl) _).trans
        (moveRec_good (π := fun u => u.bed.pages) hrec' hchecks (fun _ _ _ _ _ _ _ => rfl) fun _ _ => rfl)⟩
  · subst hi
    have hrec' : (s.raked v).recIn ((s.raked v).hmOf g).loc = some (p, x) := (raked_recIn s v _).trans hrec
    have hbad : moveRec v g (s.raked v) = loseGranule g (s.raked v) := moveRec_bad hrec' hrow hstored hstaged hchecks hbit
    have hlost := lostAt_loseGranule g (s.raked v)
    dsimp only
    rw [hbad]
    refine ⟨?_, ?_, ?_⟩
    · exact (spendRows_free (π := fun u => (u.hmOf g).state) (fun _ _ _ _ _ _ _ => rfl) _).trans hlost.entry
    · exact (spendRows_free (π := fun u => u.fld.lost) (fun _ _ _ _ _ _ _ => rfl) _).trans hlost.lost
    · exact (spendRows_free (π := fun u => u.bed.pages) (fun _ _ _ _ _ _ _ => rfl) _).trans
        (loseGranule_only (fun u => u.bed.pages) (fun _ _ _ _ _ _ _ => rfl) g _)

/-! ### Erases (R205, R209, R216, R220) -/

theorem blk_blkUpd (c d b : Nat) (f : Blk → Blk) (s : State) (c' d' b' : Nat) :
    (blkUpd c d b f s).blk c' d' b' = if blkKey c' d' b' = blkKey c d b then f (s.blk c d b) else s.blk c' d' b' :=
  tblGet_upd ({} : Blk) _ _ _ _

theorem chan_chanUpd (c : Nat) (f : BedChan → BedChan) (s : State) (k : Nat) :
    (chanUpd c f s).chan k = if k = c then f (s.chan c) else s.chan k := tblGet_upd ({} : BedChan) _ _ _ _

theorem rowErase_waits {s : State} {r : Nat}
    (hno : s.running = false ∨ s.bed.mismatch = true ∨ (∀ w, (spendRows s).row r = some w → w.state ≠ .spent)) :
    execRowErase r s = .next s := by
  unfold execRowErase
  dsimp only
  split
  · rfl
  · rename_i w hw
    refine if_neg ?_
    rcases hno with h | h | h
    · simp [h]
    · simp [h]
    · simp [h w hw]

/-- A row's blocks put into erasure: none of them fails by it, and each stays in erasure. -/
theorem erase_blocks {lane : Nat} (l : List (Nat × Nat)) {s : State} (hgood : ∀ p ∈ l, (s.blk p.1 lane p.2).failed = false) :
    let t := l.foldl (fun s p => if (s.blk p.1 lane p.2).failed then retireBlock p.1 lane p.2 3 s
      else blkUpd p.1 lane p.2 (fun b => { b with state := .spent, erasing := true }) s) s
    t = { s with bed := { s.bed with blocks := t.bed.blocks } } ∧
    (∀ p ∈ l, (t.blk p.1 lane p.2).erasing = true ∧ (t.blk p.1 lane p.2).state = .spent) ∧
    ∀ c b, (s.blk c lane b).erasing = true → (s.blk c lane b).state = .spent → (t.blk c lane b).erasing = true ∧ (t.blk c lane b).state = .spent := by
  induction l generalizing s with
  | nil => exact ⟨rfl, fun p hp => absurd hp List.not_mem_nil, fun c b h k => ⟨h, k⟩⟩
  | cons q l ih =>
    dsimp only
    rw [List.foldl_cons, if_neg (by rw [hgood q List.mem_cons_self]; decide)]
    generalize hv : blkUpd q.1 lane q.2 (fun b => { b with state := .spent, erasing := true }) s = v
    have hblk : ∀ c b, v.blk c lane b = if blkKey c lane b = blkKey q.1 lane q.2 then
        { s.blk q.1 lane q.2 with state := .spent, erasing := true } else s.blk c lane b := fun c b => by rw [← hv]; exact blk_blkUpd ..
    have hvgood : ∀ p ∈ l, (v.blk p.1 lane p.2).failed = false := by
      intro p hp
      rw [hblk]
      split
      · exact hgood q List.mem_cons_self
      · exact hgood p (List.mem_cons_of_mem _ hp)
    obtain ⟨honly, hall, hstay⟩ := ih hvgood
    have hvonly : v = { s with bed := { s.bed with blocks := v.bed.blocks } } := by rw [← hv]; rfl
    refine ⟨by rw [honly, hvonly], fun p hp => ?_, fun c b her hst => ?_⟩
    · rcases List.mem_cons.mp hp with rfl | hp
      · refine hstay p.1 p.2 ?_ ?_
        · rw [hblk, if_pos rfl]
        · rw [hblk, if_pos rfl]
      · exact hall p hp
    · refine hstay c b ?_ ?_
      · rw [hblk]
        split
        · rfl
        · exact her
      · rw [hblk]
        split
        · rfl
        · exact hst

theorem row_seq {s : State} {n : Nat} {r : BedRow} (hrow : s.row n = some r) : r.seq = n := by
  have := List.find?_some hrow
  exact eq_of_beq this

theorem yields_rowErase {s : State} {r : Nat} {w : BedRow} (hrun : s.running = true) (hrow : (spendRows s).row r = some w)
    (hspent : w.state = .spent) (hmatch : s.bed.mismatch = false) :
    (s.readHeld w = true → Yields (.rowErase r) s fun t => t = s) ∧
    (s.readHeld w = false → (∀ p ∈ w.blocks, (s.blk p.1 w.lane p.2).failed = false) → Yields (.rowErase r) s fun t =>
        t = { s with bed := t.bed } ∧ (∀ x ∈ t.bed.rows, x.seq ≠ r) ∧ t.bed.pages = s.bed.pages.filter (fun p => p.rowSeq != r) ∧
        ∀ p ∈ w.blocks, (t.blk p.1 w.lane p.2).erasing = true ∧ (t.blk p.1 w.lane p.2).state = .spent) := by
  have hnext : execRowErase r s = if w.state = .spent && s.running && !s.readHeld w && !s.bed.mismatch then .next (eraseRow w (spendRows s))
      else .next s := by
    unfold execRowErase
    dsimp only
    rw [hrow]
  have hseq := row_seq hrow
  refine ⟨fun hheld => ⟨s, hnext.trans (if_neg (by simp [hheld])), rfl⟩, fun hfree hgood =>
    ⟨_, hnext.trans (if_pos (by simp [hspent, hrun, hfree, hmatch])), ?_⟩⟩
  unfold eraseRow
  dsimp only
  generalize hv : ({ spendRows s with bed := { (spendRows s).bed with
    rows := (spendRows s).bed.rows.filter fun x => x.seq != w.seq
    pages := (spendRows s).bed.pages.filter fun p => p.rowSeq != w.seq
    rakeActive := (spendRows s).bed.rakeActive && w.state ≠ .raking } } : State) = v
  have hvonly : v = { s with bed := v.bed } := by rw [← hv]; rfl
  have hvgood : ∀ p ∈ w.blocks, (v.blk p.1 w.lane p.2).failed = false := by
    intro p hp
    rw [← hv]
    exact hgood p hp
  obtain ⟨honly, hall, -⟩ := erase_blocks w.blocks hvgood
  dsimp only at honly hall
  generalize hu : w.blocks.foldl (fun s p => if (s.blk p.1 w.lane p.2).failed = true then retireBlock p.1 w.lane p.2 3 s
      else blkUpd p.1 w.lane p.2 (fun b => { b with state := .spent, erasing := true }) s) v = u at honly hall
  refine ⟨by rw [honly, hvonly], fun x hx => ?_, ?_, hall⟩
  · rw [honly, ← hv] at hx
    have := (List.mem_filter.mp hx).2
    rw [← hseq]
    simpa using this
  · rw [honly, ← hv, ← hseq]
    rfl

theorem eraseComplete_idle {s : State} {c d b : Nat} (ok : Bool) (hno : (s.blk c d b).erasing = false ∨ s.alive = false ∨ s.saving = true) :
    execEraseComplete c d b ok s = .next s := by
  refine if_neg ?_
  rcases hno with h | h | h <;> simp [h]

/-- What a block's retirement reaches (R225). -/
theorem retireBlock_spec (c d b k : Nat) (s : State) : ((retireBlock c d b k s).blk c d b).state = .retired ∧
    retireBlock c d b k s = { s with bed := (retireBlock c d b k s).bed, jrn := (retireBlock c d b k s).jrn } ∧
    (retireBlock c d b k s).bed.sinceTable = s.bed.sinceTable ∧
    ((retireBlock c d b k s).chan c).dieFails = (s.chan c).dieFails ∧ ((retireBlock c d b k s).chan c).eraseFail = (s.chan c).eraseFail := by
  refine ⟨?_, rfl, rfl, ?_, ?_⟩
  · show ((blkUpd c d b (fun b => { b with state := .retired, erasing := false, failed := false }) s).blk c d b).state = _
    rw [blk_blkUpd, if_pos rfl]
  · show ((chanUpd c (fun c => { c with blocksRetired := satAdd 16 c.blocksRetired 1 }) s).chan c).dieFails = _
    rw [chan_chanUpd, if_pos rfl]
  · show ((chanUpd c (fun c => { c with blocksRetired := satAdd 16 c.blocksRetired 1 }) s).chan c).eraseFail = _
    rw [chan_chanUpd, if_pos rfl]

theorem retireBlock_journal {c d b k : Nat} {s : State} (hsave : s.saving = false) :
    .retirement c d b k (s.blk c d b).erases ∈ (retireBlock c d b k s).jrn ∧
    (s.journalRoom = true → (retireBlock c d b k s).jrn = s.jrn ++ [.retirement c d b k (s.blk c d b).erases]) := by
  have hjrn : (retireBlock c d b k s).jrn = (s.journal (.retirement c d b k (s.blk c d b).erases)).jrn := rfl
  rw [hjrn]
  refine ⟨?_, fun hroom => journal_of_journalRoom _ hroom⟩
  have hlong : (s.journal (.retirement c d b k (s.blk c d b).erases)).jrn = fitJournal (s.jrn ++ [.retirement c d b k (s.blk c d b).erases]) :=
    if_neg (by rw [hsave]; decide)
  rw [hlong]
  exact fitJournal_retirement (List.mem_append_right _ (List.mem_singleton_self _))

theorem eraseComplete_begun {s : State} {c d b : Nat} (her : (s.blk c d b).erasing = true) (hup : s.alive = true) (hsave : s.saving = false) :
    ((s.blk c d b).erasing && s.alive && !s.saving) = true := by rw [her, hup, hsave]; rfl

/-- A block after its erase (R205). -/
def Blk.erased (b : Blk) : Blk :=
  { b with state := if b.state = .ckpt then .ckptErased else .erased, erases := b.erases + 1, erasing := false, holds := 0 }

theorem yields_eraseComplete_ok {s : State} {c d b : Nat} (her : (s.blk c d b).erasing = true) (hup : s.alive = true)
    (hsave : s.saving = false) : Yields (.eraseComplete c d b true) s fun t => ∃ u, t = levelRows (settle u) ∧
      u.bed.sinceTable = s.bed.sinceTable + 1 ∧
      (s.nand.pslcPe = 0 ∨ (s.blk c d b).erases + 1 < s.nand.pslcPe → u = { s with bed := u.bed } ∧ u.blk c d b = (s.blk c d b).erased) ∧
      (s.nand.pslcPe ≠ 0 → s.nand.pslcPe ≤ (s.blk c d b).erases + 1 → u = { s with bed := u.bed, jrn := u.jrn } ∧
        (u.blk c d b).state = .retired ∧ .retirement c d b 2 ((s.blk c d b).erases + 1) ∈ u.jrn ∧
        (s.journalRoom = true → u.jrn = s.jrn ++ [.retirement c d b 2 ((s.blk c d b).erases + 1)])) := by
  generalize hv : blkUpd c d b (fun x => { x with
    state := if (s.blk c d b).state = .ckpt then BlkState.ckptErased else .erased, erases := (s.blk c d b).erases + 1, erasing := false, holds := 0 }) s = v
  have hblk : v.blk c d b = (s.blk c d b).erased := by rw [← hv, blk_blkUpd, if_pos rfl]; rfl
  have hvonly : v = { s with bed := v.bed } := by rw [← hv]; rfl
  have hsince : v.bed.sinceTable = s.bed.sinceTable := by rw [← hv]; rfl
  have hvsave : v.saving = false := by rw [hvonly]; exact hsave
  have hnand : v.nand = s.nand := by rw [hvonly]; rfl
  generalize hw : (if s.nand.pslcPe ≠ 0 && s.nand.pslcPe ≤ (s.blk c d b).erases + 1 then retireBlock c d b 2 v else v) = w
  have hnext : execEraseComplete c d b true s =
      .next (levelRows (settle { w with bed := { w.bed with sinceTable := w.bed.sinceTable + 1 } })) := by
    unfold execEraseComplete
    refine (if_pos (eraseComplete_begun her hup hsave)).trans ((if_pos rfl).trans ?_)
    dsimp only
    rw [hv, hnand, hw]
  have hws : w.bed.sinceTable = s.bed.sinceTable := by
    rw [← hw]
    split
    · exact (retireBlock_spec c d b 2 v).2.2.1.trans hsince
    · exact hsince
  refine ⟨_, hnext, _, rfl, by rw [hws], fun hlow => ?_, fun hpe hle => ?_⟩
  · have hno : ¬(decide (s.nand.pslcPe ≠ 0) && decide (s.nand.pslcPe ≤ (s.blk c d b).erases + 1)) = true := by
      rcases hlow with h | h
      · simp [h]
      · simp [Nat.not_le.mpr h]
    have hsame : w = v := hw.symm.trans (if_neg hno)
    rw [hsame]
    exact ⟨by rw [hvonly], hblk⟩
  · have hyes : (decide (s.nand.pslcPe ≠ 0) && decide (s.nand.pslcPe ≤ (s.blk c d b).erases + 1)) = true := by simp [hpe, hle]
    have hret : w = retireBlock c d b 2 v := hw.symm.trans (if_pos hyes)
    obtain ⟨hstate, honly, -⟩ := retireBlock_spec c d b 2 v
    obtain ⟨hmem, hroom⟩ := retireBlock_journal (c := c) (d := d) (b := b) (k := 2) hvsave
    rw [hblk] at hmem hroom
    have hvj : v.jrn = s.jrn := by rw [hvonly]
    rw [hret]
    refine ⟨?_, hstate, hmem, fun hjroom => ?_⟩
    · rw [honly, hvonly]
    · rw [← hvj]
      exact hroom (by unfold State.journalRoom at hjroom ⊢; rw [hvj]; exact hjroom)

theorem dieFailure_first {c d b : Nat} {s : State} (hnone : (s.chan c).dieFails = []) :
    dieFailure c d b s = chanUpd c (fun x => { x with dieFails := [(d, b, s.aonHour)] }) s := by
  unfold dieFailure
  rw [hnone]
  exact if_neg (by simp)

theorem yields_eraseComplete_failed {s : State} {c d b : Nat} (her : (s.blk c d b).erasing = true) (hup : s.alive = true)
    (hsave : s.saving = false) (hnone : (s.chan c).dieFails = []) (hmild : s.mild 0x52 = true) : Yields (.eraseComplete c d b false) s fun t =>
      (t.blk c d b).state = .retired ∧ .retirement c d b 1 (s.blk c d b).erases ∈ t.jrn ∧
      (s.journalRoom = true → t.jrn = s.jrn ++ [.retirement c d b 1 (s.blk c d b).erases]) ∧
      (t.chan c).eraseFail = satAdd 16 (s.chan c).eraseFail 1 ∧ t.map = s.map ∧ t.dev = s.dev := by
  generalize hv : chanUpd c (fun x => { x with eraseFail := satAdd 16 x.eraseFail 1 }) s = v
  have hvchan : v.chan c = { s.chan c with eraseFail := satAdd 16 (s.chan c).eraseFail 1 } := by rw [← hv, chan_chanUpd, if_pos rfl]
  have hvonly : v = { s with bed := v.bed } := by rw [← hv]; rfl
  have hvsave : v.saving = false := by rw [hvonly]; exact hsave
  have hvblk : v.blk c d b = s.blk c d b := by rw [← hv]; rfl
  have hvj : v.jrn = s.jrn := by rw [hvonly]
  obtain ⟨hstate, honly, -, hfails, herase⟩ := retireBlock_spec c d b 1 v
  obtain ⟨hmem, hroom⟩ := retireBlock_journal (c := c) (d := d) (b := b) (k := 1) hvsave
  rw [hvblk] at hmem
  rw [hvblk, hvj] at hroom
  have hjroom : s.journalRoom = true → v.journalRoom = true := fun h => by unfold State.journalRoom at h ⊢; rw [hvj]; exact h
  generalize hw : retireBlock c d b 1 v = w at hstate honly hfails herase hmem hroom
  have hwflt : w.flt = s.flt := by rw [honly, hvonly]
  have hwtly : w.tly = s.tly := by rw [honly, hvonly]
  have hwsave : w.saving = false := by rw [honly]; exact hvsave
  have hraise : ∀ {β : Type} (π : State → β), EventFree π → π (fltRaise 0x52 c w) = π w := fun π hπ =>
    fltRaise_mild π hπ 0x52 c hwflt hwtly hwsave hmild
  have hxfails : ((fltRaise 0x52 c w).chan c).dieFails = [] := by
    rw [hraise (fun u => (u.chan c).dieFails) fun _ _ _ _ _ _ => rfl, hfails, hvchan]
    exact hnone
  have hnext : execEraseComplete c d b false s = .next (dieFailure c d b (fltRaise 0x52 c w)) := by
    unfold execEraseComplete
    refine (if_pos (eraseComplete_begun her hup hsave)).trans ((if_neg (by decide)).trans ?_)
    dsimp only
    rw [hv, hw]
  rw [dieFailure_first hxfails] at hnext
  refine ⟨_, hnext, ?_, ?_, fun hj => ?_, ?_, ?_, ?_⟩
  · exact (hraise (fun u => (u.blk c d b).state) fun _ _ _ _ _ _ => rfl).trans hstate
  · show _ ∈ (fltRaise 0x52 c w).jrn
    rw [hraise (fun u => u.jrn) fun _ _ _ _ _ _ => rfl]
    exact hmem
  · exact (hraise (fun u => u.jrn) fun _ _ _ _ _ _ => rfl).trans (hroom (hjroom hj))
  · rw [chan_chanUpd, if_pos rfl]
    show ((fltRaise 0x52 c w).chan c).eraseFail = _
    rw [hraise (fun u => (u.chan c).eraseFail) fun _ _ _ _ _ _ => rfl, herase, hvchan]
  · exact (hraise (fun u => u.map) fun _ _ _ _ _ _ => rfl).trans (by rw [honly, hvonly])
  · exact (hraise (fun u => u.dev) fun _ _ _ _ _ _ => rfl).trans (by rw [honly, hvonly])

/-! ### The patrol, ZQ calibration (R194, R223) -/

/-- A row queued for relocation (R219). -/
def BedRow.relocate (r : BedRow) : BedRow := { r with queued := if r.queued = 0 then 2 else min 2 r.queued }

theorem relocate_twice (r : BedRow) : r.relocate.relocate = r.relocate := by
  unfold BedRow.relocate
  dsimp only
  split
  · rfl
  · rw [if_neg (by omega)]
    congr 1
    omega

theorem queueRows_rows (q : NSet) (s : State) : q.foldl (fun s n => queueRow n 2 s) s = { s with bed := { s.bed with
    rows := s.bed.rows.map fun r => if q.contains r.seq then r.relocate else r } } := by
  induction q generalizing s with
  | nil => simp
  | cons n q ih =>
    rw [List.foldl_cons, ih]
    have hone : (queueRow n 2 s) = { s with bed := { s.bed with rows := s.bed.rows.map fun r => if r.seq = n then r.relocate else r } } := rfl
    rw [hone]
    dsimp only
    rw [List.map_map]
    congr 2
    refine List.map_congr_left fun r _ => ?_
    show (if q.contains (if r.seq = n then r.relocate else r).seq = true then (if r.seq = n then r.relocate else r).relocate
      else if r.seq = n then r.relocate else r) = _
    rw [List.contains_cons]
    by_cases hn : r.seq = n
    · rw [if_pos hn, beq_iff_eq.mpr hn, Bool.true_or, if_pos rfl, relocate_twice, ite_self]
    · rw [if_neg hn, beq_eq_false_iff_ne.mpr hn, Bool.false_or]

theorem yields_storePatrol {s : State} (q : NSet) (hrun : s.running = true) (hready : s.bed.storeReady = true) :
    Yields (.storePatrol q) s fun t => t = { s with bed := t.bed } ∧ t.bed.patrolled = s.bed.patrolled + 1 ∧
      t.bed.rows = s.bed.rows.map fun r => if q.contains r.seq then r.relocate else r := by
  refine ⟨_, if_pos (by rw [hrun, hready]; rfl), ?_⟩
  rw [queueRows_rows]
  exact ⟨rfl, rfl, rfl⟩

theorem tblGet_map_default {α : Type} (d : α) (f : α → α) (hd : f d = d) (t : Tbl α) (i : Nat) :
    tblGet d (t.map fun e => (e.1, f e.2)) i = f (tblGet d t i) := by
  induction t with
  | nil => exact hd.symm
  | cons e t ih =>
    obtain ⟨k, v⟩ := e
    simp only [List.map_cons, tblGet]
    split
    · rfl
    · exact ih

theorem yields_zqCalibration {s : State} (hup : s.alive = true) : Yields .zqCalibration s fun t => t = { s with bed := t.bed } ∧
      ∀ c, t.chan c = if (s.chan c).active then { s.chan c with zqCount := (s.chan c).zqCount + 1 } else s.chan c :=
  ⟨_, if_pos hup, rfl, fun c => tblGet_map_default ({} : BedChan) (fun x => if x.active then { x with zqCount := x.zqCount + 1 } else x) rfl _ c⟩

/-! ### A die that answers no reset (R226) -/

/-- What parity pages add to the store: no page leaves it, and no channel changes. -/
def PagesGrow (s t : State) : Prop := t.bed.chans = s.bed.chans ∧ ∀ p ∈ s.bed.pages, p ∈ t.bed.pages

theorem PagesGrow.trans {s t u : State} (h : PagesGrow s t) (k : PagesGrow t u) : PagesGrow s u :=
  ⟨k.1.trans h.1, fun p hp => k.2 p (h.2 p hp)⟩

theorem PagesGrow.foldl {α : Type} {f : State → α → State} (h : ∀ s x, PagesGrow s (f s x)) (l : List α) (s : State) : PagesGrow s (l.foldl f s) := by
  induction l generalizing s with
  | nil => exact ⟨rfl, fun _ hp => hp⟩
  | cons x l ih => exact (h s x).trans (ih _)

theorem parityCheck_grows (seq stripe : Nat) (s : State) : PagesGrow s (parityCheck seq stripe s) := by
  unfold parityCheck
  split
  · exact ⟨rfl, fun _ hp => hp⟩
  · dsimp only
    split
    · have hcount : ∀ (use : ByteUse) n (v : State), (countBytes use n v).bed = v.bed := fun use n v =>
        countBytes_only (fun u => u.bed) (fun _ _ _ => rfl) use n v
      refine ⟨?_, fun p hp => ?_⟩
      · rw [hcount]
        split <;> rfl
      · rw [hcount]
        split <;> exact List.mem_append_left _ hp
    · exact ⟨rfl, fun _ hp => hp⟩

theorem closedParity_grows (s : State) : PagesGrow s (closedParity s) := by
  unfold closedParity
  refine (PagesGrow.foldl (fun v p => parityCheck_grows (StorePage.rowSeq p) p.stripe v) _ s).trans (PagesGrow.foldl (fun v r => ?_) _ _)
  split
  · exact parityCheck_grows _ _ _
  · exact ⟨rfl, fun _ hp => hp⟩

/-- A die with no row on its lane is retired from its channel, and nothing of the store is lost with it. -/
theorem loseDie_bare {c d : Nat} {s : State} (hnone : (s.chan c).retired = []) (hrows : ∀ r ∈ s.bed.rows, r.lane ≠ d) :
    loseDie c d s = excludeIfTwo c (fltRaise 0x51 c (closedParity (narrowRows (chanUpd c (fun x => { x with retired := setAdd d x.retired }) s)))) := by
  have hlane : ∀ f : BedRow → Bool, (s.bed.rows.filter fun r => r.lane == d && f r) = [] := by
    intro f
    refine List.filter_eq_nil_iff.mpr fun r hr => ?_
    rw [beq_eq_false_iff_ne.mpr (hrows r hr)]
    exact Bool.false_ne_true
  have hrowsLost : ∀ v : State, v.bed.rows = s.bed.rows → loseRows c (fun r => r.lane == d) v = v := by
    intro v hv
    unfold loseRows
    rw [hv, hlane]
    rfl
  unfold loseDie
  rw [hnone]
  rw [if_neg (by simp)]
  dsimp only
  generalize hv : chanUpd c (fun x => { x with retired := setAdd d x.retired }) s = v
  have hvrows : v.bed.rows = s.bed.rows := by rw [← hv]; rfl
  have hcut : (v.bed.staged.filter fun p => p.channel == c && ([] : List BedRow).any fun r => r.seq == p.rowSeq) = [] := by
    refine List.filter_eq_nil_iff.mpr fun p _ => ?_
    simp
  rw [hrowsLost v hvrows, hvrows, hlane, hcut]
  rfl

theorem narrowRows_chans (s : State) : (narrowRows s).bed.chans = s.bed.chans ∧ (narrowRows s).bed.pages = s.bed.pages := ⟨rfl, rfl⟩

theorem yields_dieResetTimeout {s : State} {c d : Nat} (hup : s.running = true ∨ s.dev.st = .reflood)
    (hpresent : (s.chan c).present.contains d = true) (hnone : (s.chan c).retired = []) (hrows : ∀ r ∈ s.bed.rows, r.lane ≠ d)
    (hmild : s.mild 0x51 = true) : Yields (.dieResetTimeout c d) s fun t =>
      (t.chan c).retired = [d] ∧ t.map = s.map ∧ t.dev = s.dev ∧ t.jrn = s.jrn ∧ ∀ p ∈ s.bed.pages, p ∈ t.bed.pages := by
  have hsave : s.saving = false := by
    rcases hup with h | h
    · exact running_not_saving h
    · unfold State.saving
      rw [h]
      rfl
  have hyes : ((s.running || s.saving || decide (s.dev.st = .reflood)) && (s.chan c).present.contains d) = true := by
    rcases hup with h | h <;> rw [hpresent, h] <;> simp
  refine ⟨_, if_pos hyes, ?_⟩
  rw [loseDie_bare hnone hrows]
  generalize hv : narrowRows (chanUpd c (fun x => { x with retired := setAdd d x.retired }) s) = v
  have hvchan : (v.chan c).retired = [d] := by
    rw [← hv]
    show ((chanUpd c (fun x => { x with retired := setAdd d x.retired }) s).chan c).retired = [d]
    rw [chan_chanUpd, if_pos rfl]
    show setAdd d (s.chan c).retired = [d]
    rw [hnone]
    rfl
  have hvonly : v = { s with bed := v.bed } := by rw [← hv]; rfl
  have hvpages : v.bed.pages = s.bed.pages := by rw [← hv]; rfl
  have hwork : ∀ {β : Type} {π : State → β}, WorkFree π → π (closedParity v) = π s := fun hπ =>
    (closedParity_work hπ v).trans (by rw [hvonly]; exact hπ.bed s _)
  obtain ⟨hchans, hpages⟩ := closedParity_grows v
  have hmap : (closedParity v).map = s.map := (closedParity_only (fun u => u.map) (fun _ _ _ _ => rfl) v).trans (by rw [hvonly])
  have hwflt : (closedParity v).flt = s.flt := hwork (π := fun u => u.flt) fun _ _ _ _ _ _ _ => rfl
  have hwtly : (closedParity v).tly = s.tly := hwork (π := fun u => u.tly) fun _ _ _ _ _ _ _ => rfl
  have hwdev : (closedParity v).dev = s.dev := hwork (π := fun u => u.dev) fun _ _ _ _ _ _ _ => rfl
  have hwjrn : (closedParity v).jrn = s.jrn := hwork (π := fun u => u.jrn) fun _ _ _ _ _ _ _ => rfl
  have hwchan : ((closedParity v).chan c).retired = [d] := by
    unfold State.chan at hvchan ⊢
    rw [hchans]
    exact hvchan
  generalize closedParity v = w at hpages hmap hwflt hwtly hwdev hwjrn hwchan
  have hraise : ∀ {β : Type} (π : State → β), EventFree π → π (fltRaise 0x51 c w) = π w := fun π hπ =>
    fltRaise_mild π hπ 0x51 c hwflt hwtly ((saving_congr hwdev).trans hsave) hmild
  have hxchan : ((fltRaise 0x51 c w).chan c).retired = [d] := (hraise (fun u => (u.chan c).retired) fun _ _ _ _ _ _ => rfl).trans hwchan
  have hxdev : (fltRaise 0x51 c w).dev = s.dev := (hraise (fun u => u.dev) fun _ _ _ _ _ _ => rfl).trans hwdev
  have hkeep : excludeIfTwo c (fltRaise 0x51 c w) = fltRaise 0x51 c w := by
    unfold excludeIfTwo
    exact if_neg (by simp [hxchan])
  rw [hkeep, endIfDue_unsaving ((saving_congr hxdev).trans hsave)]
  refine ⟨hxchan, (hraise (fun u => u.map) fun _ _ _ _ _ _ => rfl).trans hmap, hxdev,
    (hraise (fun u => u.jrn) fun _ _ _ _ _ _ => rfl).trans hwjrn, fun p hp => ?_⟩
  rw [hraise (fun u => u.bed.pages) fun _ _ _ _ _ _ => rfl]
  exact hpages p (by rw [hvpages]; exact hp)

/-- Settles O26, by what each of the store's own commands reaches. -/
theorem storeUpkeep : Obligations.StoreUpkeep := by
  refine ⟨fun s i hno => rakeMove_nothing i hno, fun s i v hrakes hvictim htable => yields_rakeMove i hrakes hvictim htable,
    fun s r hno => rowErase_waits hno, fun s r w hrun hrow hspent hmatch => yields_rowErase hrun hrow hspent hmatch,
    fun s c d b ok hno => eraseComplete_idle ok hno,
    fun s c d b her hup hsave => ⟨yields_eraseComplete_ok her hup hsave,
      fun hnone hmild => yields_eraseComplete_failed her hup hsave hnone hmild⟩,
    fun s q hno => if_neg ?_, fun s q hrun hready => yields_storePatrol q hrun hready,
    fun s hdown => if_neg (by rw [hdown]; decide), fun s hup => yields_zqCalibration hup, fun s c d hno => if_neg ?_,
    fun s c d hup hpresent hnone hrows hmild => yields_dieResetTimeout hup hpresent hnone hrows hmild⟩
  · rcases hno with h | h <;> simp [h]
  · rcases hno with ⟨hrun, hsave, hst⟩ | h
    · simp [hrun, hsave, hst]
    · rw [h, Bool.and_false]
      exact Bool.false_ne_true

end Sys2Proof.Machine
end

section
/-!
PROOFS. A refutation by one state: a page on the media that spills and still carries a live record of a granule that drain has claimed
again. `Obligations.UnlockAndSanitize` asks that an accepted sanitize leaves the store as it was; the pause of the drain at S1 abandons the
claim (R123), and an abandoned granule's copies, the spilling page's among them, are live no longer (R87).
-/
namespace Sys2Proof.Machine

/-- A drained record of granule 0. -/
def drainedBefore : GranRec := { granule := 0, slot := 17, length := 240, raw := false, fast := false, tag := 0, body := [] }

/-- The page it begins in, which goes on in the next one. -/
def spillingPage : StorePage :=
  { rowSeq := 0, channel := 0, stripe := 0, kind := .data, tag := 0, recs := [drainedBefore], lines := [], used := 18, spills := true
    closed := true }

/-- Head A holds cell 4; granule 0, drained before to a page that spills, is claimed again and not yet read. -/
def claimedAgain : State :=
  { dev := { st := .armed, startDue := false }
    heads := ⟨{ up := true }, {}⟩
    lay := { inForce := some twoChannelLayout }
    sem := { cells := [(4, { state := .heldA })] }
    drn := { path := [⟨0, .claimed, 0⟩] }
    bed := { pages := [spillingPage] } }

theorem claimedAgain_sanitize : ∃ t, exec (.sanitize .a (claimedAgain.cell 4).gen 0x53414E49) claimedAgain = .next t ∧
    (t.bed.pages.any fun p => p.recs.any fun r => r.live) = false :=
  ⟨_, rfl, by decide⟩

/-- Refutes O27: the pause at S1 abandons a claimed granule, and a page of the store that spills no longer counts its record. -/
theorem not_unlockAndSanitize : ¬ Obligations.UnlockAndSanitize := by
  unfold Obligations.UnlockAndSanitize
  intro hall
  obtain ⟨-, -, -, -, -, -, -, -, haccept⟩ := hall.1 claimedAgain .a (by decide)
  obtain ⟨t, hexec, -, -, -, -, -, -, -, -, -, -, hbed, -⟩ := haccept (by decide) (by decide) fun p hp => nomatch hp
  obtain ⟨t', hexec', hdead⟩ := claimedAgain_sanitize
  obtain rfl := Host.Outcome.next.inj (hexec.symm.trans hexec')
  rw [hbed] at hdead
  exact absurd hdead (by decide)

end Sys2Proof.Machine
end

section
/-!
PROOFS. The drain's timers, lost pages, and drain paused and resumed (R105, R109, R123, R203, R204).
-/
namespace Sys2Proof.Machine

/-! ### A stripe filled up with padding pages (R105, R201) -/

theorem row_rowUpd {n : Nat} {f : BedRow → BedRow} (hf : ∀ r, (f r).seq = r.seq) {s : State} {w : BedRow} (hrow : s.row n = some w) :
    (rowUpd n f s).row n = some (f w) := by
  have hkeys : (fun r : BedRow => r.seq == n) ∘ (fun r => if r.seq = n then f r else r) = fun r => r.seq == n := funext fun r => by
    show ((if r.seq = n then f r else r).seq == n) = (r.seq == n)
    split
    · rw [hf]
    · rfl
  show (s.bed.rows.map _).find? _ = _
  rw [List.find?_map, hkeys, show s.bed.rows.find? (fun r => r.seq == n) = some w from hrow]
  exact congrArg some (if_pos (row_seq hrow))

/-- One padding page of a row. -/
def padPage (r : BedRow) (s : State) : State :=
  let t := takePage ((s.row r.seq).getD r) .data (if r.cls = .rake then .rake else .drain) s
  { t.1 with bed := { t.1.bed with staged := t.1.bed.staged ++ [{ t.2 with closed := true, padding := true }] } }

/-- A padding page of row `n` carries no record. -/
def IsPad (n : Nat) (p : StorePage) : Prop := p.rowSeq = n ∧ p.padding = true ∧ p.closed = true ∧ p.recs = []

theorem padPage_spec {r w : BedRow} {s : State} (hrow : s.row r.seq = some w) :
    (padPage r s).row r.seq = some { w with cursor := w.cursor + 1 } ∧ (∃ p, (padPage r s).bed.staged = s.bed.staged ++ [p] ∧ IsPad r.seq p) ∧
    padPage r s = { s with bed := { s.bed with rows := (padPage r s).bed.rows, staged := (padPage r s).bed.staged } } := by
  have hseq : w.seq = r.seq := row_seq hrow
  unfold padPage
  rw [hrow, Option.getD_some]
  refine ⟨?_, ⟨_, rfl, hseq, rfl, rfl, rfl⟩, rfl⟩
  rw [← hseq] at hrow ⊢
  exact row_rowUpd (f := fun x => { x with cursor := x.cursor + 1 }) (fun _ => rfl) hrow

theorem padPages_spec {α : Type} {r : BedRow} (l : List α) {s : State} {w : BedRow} (hrow : s.row r.seq = some w) :
    let u := l.foldl (fun s _ => padPage r s) s
    (∃ x, u.row r.seq = some x ∧ x.cursor = w.cursor + l.length) ∧
    (∃ pads, u.bed.staged = s.bed.staged ++ pads ∧ pads.length = l.length ∧ ∀ p ∈ pads, IsPad r.seq p) ∧
    u = { s with bed := { s.bed with rows := u.bed.rows, staged := u.bed.staged } } := by
  induction l generalizing s w with
  | nil => exact ⟨⟨w, hrow, rfl⟩, ⟨[], (List.append_nil _).symm, rfl, fun p hp => absurd hp List.not_mem_nil⟩, rfl⟩
  | cons a l ih =>
    intro u
    obtain ⟨hnext, ⟨p, hstaged, hpad⟩, honly⟩ := padPage_spec hrow
    obtain ⟨⟨x, hx, hcursor⟩, ⟨pads, hpads, hlen, hall⟩, hrest⟩ := ih hnext
    change u = _ at hrest
    change u.row _ = _ at hx
    change u.bed.staged = _ at hpads
    clear_value u
    generalize padPage r s = v at hstaged honly hpads hrest
    refine ⟨⟨x, hx, ?_⟩, ⟨p :: pads, ?_, congrArg Nat.succ hlen, List.forall_mem_cons.2 ⟨hpad, hall⟩⟩, ?_⟩
    · rw [hcursor, List.length_cons]
      show w.cursor + 1 + l.length = _
      omega
    · rw [hpads, hstaged, List.append_assoc, List.singleton_append]
    · rw [hrest, honly]

theorem padStripe_eq (r : BedRow) (k : Nat) (s : State) :
    padStripe r k s = (List.range ((k + 1) * (r.width - 1) - r.cursor)).foldl (fun s _ => padPage r s) s := rfl

theorem execStripeTimeout_stays {s : State} {r k : Nat} {w : BedRow} (hrow : s.row r = some w)
    (hno : ¬(k * (w.width - 1) < w.cursor ∧ w.cursor < (k + 1) * (w.width - 1))) : execStripeTimeout r k s = .next s := by
  unfold execStripeTimeout
  rw [hrow]
  refine if_neg fun hcond => hno ?_
  simp only [Bool.and_eq_true, decide_eq_true_eq] at hcond
  exact ⟨hcond.1.1.2, hcond.1.2⟩

theorem yields_stripeTimeout {s : State} {r k : Nat} {w : BedRow} (hup : s.running = true ∨ s.saving = true) (hrow : s.row r = some w)
    (hopen : w.state = .opened) (hbegun : k * (w.width - 1) < w.cursor) (hleft : w.cursor < (k + 1) * (w.width - 1)) :
    Yields (.stripeTimeout r k) s fun t => t.dev = s.dev ∧ (∀ x, t.byteAt x = s.byteAt x) ∧ ∃ u, t = settle u ∧
      (∃ x, u.row r = some x ∧ x.cursor = (k + 1) * (w.width - 1)) ∧
      (∃ pads, u.bed.staged = (s.bed.staged ++ pads).map (fun p => if p.rowSeq = r && p.stripe = k then { p with closed := true } else p) ∧
        pads.length = (k + 1) * (w.width - 1) - w.cursor ∧ ∀ p ∈ pads, p.rowSeq = r ∧ p.padding = true ∧ p.closed = true ∧ p.recs = []) ∧
      u.bed.pages = s.bed.pages ∧ u.map = s.map := by
  have hseq : w.seq = r := row_seq hrow
  have hexec : execStripeTimeout r k s = .next (settle { padStripe w k s with bed := { (padStripe w k s).bed with
      staged := (padStripe w k s).bed.staged.map fun p => if p.rowSeq = r && p.stripe = k then { p with closed := true } else p } }) := by
    unfold execStripeTimeout
    rw [hrow]
    refine if_pos ?_
    simp only [hopen, hbegun, hleft, decide_true, Bool.true_and, Bool.or_eq_true]
    exact hup
  have hpad := padPages_spec (List.range ((k + 1) * (w.width - 1) - w.cursor)) (hseq.symm ▸ hrow : s.row w.seq = some w)
  rw [← padStripe_eq, hseq, List.length_range] at hpad
  obtain ⟨⟨x, hx, hcursor⟩, ⟨pads, hstaged, hlen, hall⟩, hrest⟩ := hpad
  generalize padStripe w k s = v at *
  refine ⟨_, hexec, ?_, fun a => ?_, _, rfl, ⟨x, hx, ?_⟩, ⟨pads, ?_, hlen, hall⟩, ?_, ?_⟩
  · rw [(settle_frame _).1, hrest]
  · show tblGet 0 _ a = _
    rw [show (settle _).dram = _ from settle_only (fun u => u.dram) (fun _ _ _ _ _ => rfl) _, hrest]
    rfl
  · rw [hcursor]
    omega
  · rw [← hstaged]
  · rw [hrest]
  · rw [hrest]

/-! ### The map segment timer (R109) -/

theorem newPage_open {cls : RowClass} {lane : Nat} {kind : PageKind} {use : ByteUse} {s : State} {w : BedRow}
    (hopen : s.openRow cls lane = some w) (hroom : w.cursor < s.rowPages w) (hbuf : s.bufferFree = true) :
    newPage cls lane kind use s = some
      ({ (takePage w kind use s).1 with bed := { (takePage w kind use s).1.bed with staged := s.bed.staged ++ [(takePage w kind use s).2] } },
        (takePage w kind use s).2) := by
  unfold newPage rowFor
  simp only [hopen, Nat.not_le.2 hroom, if_false, hbuf]
  rfl

theorem yields_mapSegmentTimeout {s : State} {w : BedRow} (hup : s.running = true ∨ s.saving = true ∧ s.hrv.m3 = false)
    (hdelta : s.drn.delta ≠ []) (hlines : s.segmentLines ≠ 0) (hopen : s.openRow .map 0 = some w) (hroom : w.cursor < s.rowPages w)
    (hbuf : s.bufferFree = true) : Yields .mapSegmentTimeout s fun t =>
      t.dev = s.dev ∧ (∀ x, t.byteAt x = s.byteAt x) ∧ ∃ u, t = settle u ∧
      u.drn.delta = s.drn.delta.filter (fun n => !(s.drn.delta.take s.segmentLines).contains n) ∧
      (∃ p ∈ u.bed.staged, p.kind = .mapSegment ∧ p.rowSeq = w.seq ∧ p.lines = (s.drn.delta.take s.segmentLines).map fun n => s.hmLine n) ∧
      u.map = s.map := by
  generalize hns : s.drn.delta.take s.segmentLines = ns
  generalize hp : (takePage w .mapSegment .drain s).2 = p
  have hkind : p.kind = .mapSegment := by rw [← hp]; rfl
  have hseq : p.rowSeq = w.seq := by rw [← hp]; rfl
  obtain ⟨u, hu, hdelta', hstaged, hrest⟩ : ∃ u, stageSegment .drain ns s = some u ∧ u.drn.delta = s.drn.delta.filter (fun n => !ns.contains n) ∧
      (u.bed.staged = (s.bed.staged ++ [p]).map fun q => if samePage p q then { q with lines := ns.map fun n => s.hmLine n } else q) ∧
      u = { s with drn := u.drn, bed := u.bed } := by
    unfold stageSegment
    rw [newPage_open hopen hroom hbuf, hp]
    exact ⟨_, rfl, rfl, rfl, rfl⟩
  have hexec : execMapSegmentTimeout s = .next (settle u) := by
    have hcond : ((s.running || (s.saving && !s.hrv.m3)) && decide (s.drn.delta ≠ []) && decide (s.segmentLines ≠ 0)) = true := by
      rcases hup with h | ⟨h, k⟩
      · simp [h, hdelta, hlines]
      · simp [h, k, hdelta, hlines]
    unfold execMapSegmentTimeout
    rw [hns, hu]
    exact if_pos hcond
  refine ⟨_, hexec, ?_, fun a => ?_, u, rfl, hdelta', ⟨{ p with lines := ns.map fun n => s.hmLine n }, ?_, hkind, hseq, rfl⟩, ?_⟩
  · rw [(settle_frame _).1, hrest]
  · show tblGet 0 _ a = _
    rw [show (settle _).dram = _ from settle_only (fun u => u.dram) (fun _ _ _ _ _ => rfl) _, hrest]
    rfl
  · rw [hstaged]
    exact List.mem_map.2 ⟨p, List.mem_append_right _ (List.mem_singleton_self p), if_pos (samePage_self p)⟩
  · rw [hrest]

/-! ### A lost page (R203, R204) -/

/-- The store once a page is gone: what it held of the map is to be written again. -/
def State.without (s : State) (r : BedRow) (p : StorePage) : State :=
  { loseSegments r p s with bed := { (loseSegments r p s).bed with
    pages := (loseSegments r p s).bed.pages.filter fun q => !samePage p q, lostPages := satAdd 16 (loseSegments r p s).bed.lostPages 1 } }

theorem without_only {β : Type} (π : State → β) (hπ : ∀ s d b, π { s with drn := d, bed := b } = π s) (r : BedRow) (p : StorePage) (s : State) :
    π (s.without r p) = π s :=
  (hπ _ (loseSegments r p s).drn _).trans (loseSegments_only π hπ r p s)

theorem loseSegments_store (r : BedRow) (p : StorePage) (s : State) :
    (loseSegments r p s).bed.pages = s.bed.pages ∧ (loseSegments r p s).bed.lostPages = s.bed.lostPages := by
  unfold loseSegments
  dsimp only
  split
  · exact ⟨rfl, rfl⟩
  · split
    · exact ⟨rfl, rfl⟩
    · exact ⟨rfl, rfl⟩

theorem without_store (r : BedRow) (p : StorePage) (s : State) : (s.without r p).bed.lostPages = satAdd 16 s.bed.lostPages 1 ∧
    (s.without r p).bed.pages = s.bed.pages.filter fun q => !samePage p q := by
  obtain ⟨hpages, hlost⟩ := loseSegments_store r p s
  exact ⟨by rw [← hlost]; rfl, by rw [← hpages]; rfl⟩

theorem execLostPage_lost {s : State} {r c k : Nat} {w : BedRow} {p : StorePage} (hrun : s.running = true) (hrow : s.row r = some w)
    (hpar : w.parityDone.contains k = false)
    (hpage : (s.bed.pages.find? fun p => p.rowSeq == r && p.channel == c && p.stripe == k) = some p) :
    execLostPage r c k s = .next (settle (lostPage w p s)) := by
  have hmedia : s.mediaPage w k c = some p := by
    unfold State.mediaPage
    rw [row_seq hrow, hpage]
  unfold execLostPage
  rw [hrow]
  dsimp only
  rw [hmedia]
  dsimp only
  rw [hrun, hpar]
  rfl

theorem undoMove_drained {r : BedRow} {p : StorePage} {s : State} (l : List GranRec) (hsrc : ∀ x ∈ l, x.src = none) :
    l.foldl (undoMove r p) s = s := by
  induction l with
  | nil => rfl
  | cons x l ih =>
    have hx : undoMove r p s x = s := by
      unfold undoMove
      rw [hsrc x List.mem_cons_self]
    rw [List.foldl_cons, hx]
    exact ih fun y hy => hsrc y (List.mem_cons_of_mem _ hy)

theorem lostPage_drained {r : BedRow} {p : StorePage} {s : State} (hsrc : ∀ x ∈ p.recs, x.src = none) : lostPage r p s =
    (s.inPage r p).foldl (fun s g => if s.saving || s.restoredBit g then fillAll (mapOp (.mark g) s) else loseGranule g s) (s.without r p) := by
  unfold lostPage
  dsimp only
  rw [undoMove_drained p.recs hsrc]
  rfl

/-- What O20 counts of a lost page. -/
def PageLost (p : StorePage) (s u : State) : Prop :=
  u.bed.lostPages = satAdd 16 s.bed.lostPages 1 ∧ u.bed.pages = s.bed.pages.filter (fun q => !samePage p q) ∧ u.dev = s.dev

theorem pageLost_without (r : BedRow) (p : StorePage) (s : State) : PageLost p s (s.without r p) :=
  ⟨(without_store r p s).1, (without_store r p s).2, without_only (fun u => u.dev) (fun _ _ _ => rfl) r p s⟩

theorem PageLost.after {p : StorePage} {s u v : State} (h : PageLost p s u) (hbed : v.bed = u.bed) (hdev : v.dev = u.dev) : PageLost p s v := by
  obtain ⟨hlost, hpages, hsame⟩ := h
  exact ⟨by rw [hbed, hlost], by rw [hbed, hpages], hdev.trans hsame⟩

theorem noFill_of_any {s : State} (h : (s.map.cache.any fun e => e.filling) = false) : NoFill s := fun e he =>
  Bool.eq_false_iff.2 fun hfill => Bool.false_ne_true (h.symm.trans (List.any_eq_true.2 ⟨e, he, hfill⟩))

theorem mark_noFill {g : Nat} {e : LcEntry} {s : State} (hg : g < s.granules) (he : s.cached (regionOf g) = some e) (h : NoFill s) :
    NoFill (mapOp (.mark g) s) := by
  rw [mapOp_resident (o := .mark g) hg he (h e (List.mem_of_find?_eq_some he))]
  have hlook : NoFill (countLookup (.mark g) s) := fun x hx => h x (by rw [← (countLookup_keeps (.mark g) s).2.1]; exact hx)
  exact rstUpd_noFill _ _ (setBit_noFill g (useLine_noFill _ hlook))

theorem yields_lostPage_restored {s : State} {r c k g : Nat} {w : BedRow} {p : StorePage} {e : LcEntry}
    (hexec : execLostPage r c k s = .next (settle (lostPage w p s))) (hin : s.inPage w p = [g]) (hsrc : ∀ x ∈ p.recs, x.src = none)
    (hbit : s.restoredBit g = true) (hg : g < s.granules) (he : s.cached (regionOf g) = some e)
    (hfill : (s.map.cache.any fun e => e.filling) = false) : Yields (.lostPage r c k) s fun t => t.fld = s.fld ∧ ∃ u, t = settle u ∧
      PageLost p s u ∧ u.dirtyBit g = true ∧ (∀ x, x ≠ g → u.dirtyBit x = s.dirtyBit x) ∧ u.map.hmap = s.map.hmap := by
  have hgone := pageLost_without w p s
  have hmap : (s.without w p).map = s.map := without_only (fun u => u.map) (fun _ _ _ => rfl) w p s
  have hfld : (s.without w p).fld = s.fld := without_only (fun u => u.fld) (fun _ _ _ => rfl) w p s
  have hlay : (s.without w p).lay = s.lay := without_only (fun u => u.lay) (fun _ _ _ => rfl) w p s
  rw [lostPage_drained hsrc, hin, List.foldl_cons, List.foldl_nil] at hexec
  generalize s.without w p = v at hgone hmap hfld hlay hexec
  have hvbit : v.restoredBit g = true := (congrArg (fun f => ({ s with fld := f } : State).restoredBit g) hfld).trans hbit
  have hvg : g < v.granules := by
    rw [show v.granules = s.granules from congrArg (fun l => ({ s with lay := l } : State).granules) hlay]
    exact hg
  have hve : v.cached (regionOf g) = some e := (congrArg (fun m => ({ s with map := m } : State).cached (regionOf g)) hmap).trans he
  have hvfill : NoFill v := noFill_of_any (by rw [hmap]; exact hfill)
  rw [if_pos (by rw [hvbit, Bool.or_true]), fillAll_idle (mark_noFill hvg hve hvfill)] at hexec
  obtain ⟨hset, hothers, -, -, -, -, hhmap⟩ := mark_spec hvg hve (hvfill e (List.mem_of_find?_eq_some hve))
  have hdirty : ∀ x, v.dirtyBit x = s.dirtyBit x := fun x => congrArg (fun m => ({ s with map := m } : State).dirtyBit x) hmap
  refine ⟨_, hexec, ?_, _, rfl, hgone.after ?_ ?_, hset, fun x hx => (hothers x hx).trans (hdirty x), hhmap.trans (by rw [hmap])⟩
  · rw [show (settle _).fld = _ from settle_only (fun u => u.fld) (fun _ _ _ _ _ => rfl) _]
    exact (mapOp_only (fun u => u.fld) (fun _ _ _ => rfl) _ v).trans hfld
  · exact mapOp_only (fun u => u.bed) (fun _ _ _ => rfl) _ v
  · exact mapOp_only (fun u => u.dev) (fun _ _ _ => rfl) _ v

theorem loseGranule_unreadable (g : Nat) (s : State) : (loseGranule g s).fld.unreadable = satAdd 16 s.fld.unreadable 1 := by
  have hrestored : ∀ v, (setRestored g v).fld.unreadable = v.fld.unreadable := fun v => by
    obtain ⟨-, -, -, -, -, h⟩ := setRestored_spec g v
    rw [h]
  obtain ⟨-, -, -, hlost, -⟩ := setLost_spec g (hmPut g { state := .lost } s)
  have hkept : (rstUpd (regionOf g) (fun e => { e with lost := true }) (setLost g (hmPut g { state := .lost } s))).fld.unreadable =
      s.fld.unreadable := (rstUpd_only (fun u => u.fld.unreadable) (fun _ _ => rfl) _ _ _).trans (by rw [hlost]; rfl)
  unfold loseGranule
  dsimp only
  rw [hrestored, hkept]

theorem yields_lostPage_unrestored {s : State} {r c k g : Nat} {w : BedRow} {p : StorePage} (hrun : s.running = true)
    (hexec : execLostPage r c k s = .next (settle (lostPage w p s))) (hin : s.inPage w p = [g]) (hsrc : ∀ x ∈ p.recs, x.src = none)
    (hbit : s.restoredBit g = false) : Yields (.lostPage r c k) s fun t => t.fld.lost = setAdd g s.fld.lost ∧
      t.fld.unreadable = satAdd 16 s.fld.unreadable 1 ∧ t.restoredBit g = true ∧ ∃ u, t = settle u ∧ PageLost p s u ∧
      (u.hmOf g).state = .lost ∧ ∀ x, x ≠ g → u.hmOf x = s.hmOf x := by
  have hgone := pageLost_without w p s
  have hmap : (s.without w p).map = s.map := without_only (fun u => u.map) (fun _ _ _ => rfl) w p s
  have hfld : (s.without w p).fld = s.fld := without_only (fun u => u.fld) (fun _ _ _ => rfl) w p s
  have hsave : (s.without w p).saving = false :=
    (without_only (fun u => u.saving) (fun _ _ _ => rfl) w p s).trans (running_not_saving hrun)
  rw [lostPage_drained hsrc, hin, List.foldl_cons, List.foldl_nil] at hexec
  generalize s.without w p = v at hgone hmap hfld hsave hexec
  have hvbit : v.restoredBit g = false := (congrArg (fun f => ({ s with fld := f } : State).restoredBit g) hfld).trans hbit
  rw [if_neg (by rw [hvbit, hsave]; decide)] at hexec
  have hlost := lostAt_loseGranule g v
  have hcount := loseGranule_unreadable g v
  have hbed : (loseGranule g v).bed = v.bed := loseGranule_only (fun u => u.bed) (fun _ _ _ _ _ _ _ => rfl) g v
  have hset : (settle (loseGranule g v)).fld = (loseGranule g v).fld := settle_only (fun u => u.fld) (fun _ _ _ _ _ => rfl) _
  refine ⟨_, hexec, ?_, ?_, ?_, _, rfl, hgone.after hbed hlost.dev, hlost.entry, fun x hx => (hlost.others x hx).trans ?_⟩
  · rw [hset, hlost.lost, hfld]
  · rw [hset, hcount, hfld]
  · rw [← hlost.bit]
    unfold State.restoredBit
    rw [hset]
  · exact congrArg (fun m => ({ s with map := m } : State).hmOf x) hmap

theorem undoMove_moved {w : BedRow} {p : StorePage} {x y : GranRec} {l : HmLoc} {s : State} (hsrc : x.src = some l)
    (hnames : names (s.hmOf x.granule) (s.locOf w p x.slot) = true) (hrec : s.recAt l = some y) (hsame : y.granule = x.granule) :
    undoMove w p s x = hmPut x.granule { state := .stored, loc := l, length := x.length, raw := x.raw } s := by
  unfold undoMove
  rw [hsrc]
  exact if_pos (by rw [hnames, hrec, Option.any_some, hsame, beq_self_eq_true]; rfl)

theorem pageBefore_none {s : State} (w : BedRow) (p : StorePage) (hspill : ∀ q ∈ s.bed.pages, q.spills = false) : s.pageBefore w p = none :=
  List.find?_eq_none.2 fun q hq => by simp [hspill q hq]

/-- Once the granule points elsewhere no granule's content is lost with its page. -/
theorem inPage_moved {w : BedRow} {p : StorePage} {x : GranRec} {s : State} (hrecs : p.recs = [x])
    (hnot : names (s.hmOf x.granule) (s.locOf w p x.slot) = false) (hspill : ∀ q ∈ s.bed.pages, q.spills = false) : s.inPage w p = [] := by
  unfold State.inPage
  rw [pageBefore_none w p hspill, hrecs]
  simp [hnot]

theorem hmOf_hmPut_self (g : Nat) (e : HmEntry) (s : State) : (hmPut g e s).hmOf g = e :=
  (tblGet_put ({} : HmEntry) g e s.map.hmap g).trans (if_pos rfl)

theorem yields_lostPage_moved {s : State} {r c k : Nat} {w : BedRow} {p : StorePage} {x y : GranRec} {l : HmLoc}
    (hexec : execLostPage r c k s = .next (settle (lostPage w p s))) (hrecs : p.recs = [x]) (hsrc : x.src = some l)
    (hnames : names (s.hmOf x.granule) (s.locOf w p x.slot) = true) (hrec : s.recAt l = some y) (hsame : y.granule = x.granule)
    (hother : s.locOf w p x.slot ≠ l) (hspill : ∀ q ∈ s.bed.pages, q.spills = false) :
    Yields (.lostPage r c k) s fun t => t.fld = s.fld ∧ t.dev = s.dev ∧ ∃ u, t = settle u ∧
      u.bed.lostPages = satAdd 16 s.bed.lostPages 1 ∧ u.bed.pages = s.bed.pages.filter (fun q => !samePage p q) ∧
      u.map = { s.map with hmap := tblPut {} x.granule { state := .stored, loc := l, length := x.length, raw := x.raw } s.map.hmap } := by
  generalize hv : hmPut x.granule { state := .stored, loc := l, length := x.length, raw := x.raw } s = v
  have hvloc : v.locOf w p x.slot = s.locOf w p x.slot := by rw [← hv]; rfl
  have hnot : names (v.hmOf x.granule) (v.locOf w p x.slot) = false := by
    rw [hvloc, ← hv, hmOf_hmPut_self]
    unfold names
    simp [Ne.symm hother]
  have hlost : lostPage w p s = v.without w p := by
    have hundo : p.recs.foldl (undoMove w p) s = v := by
      rw [hrecs, List.foldl_cons, List.foldl_nil, undoMove_moved hsrc hnames hrec hsame, hv]
    unfold lostPage
    dsimp only
    rw [hundo, inPage_moved hrecs hnot (by rw [← hv]; exact hspill)]
    rfl
  obtain ⟨hcount, hpages⟩ := without_store w p v
  have hbed : v.bed = s.bed := by rw [← hv]; rfl
  rw [hlost] at hexec
  refine ⟨_, hexec, ?_, ?_, _, rfl, by rw [hcount, hbed], by rw [hpages, hbed], ?_⟩
  · rw [show (settle _).fld = _ from settle_only (fun u => u.fld) (fun _ _ _ _ _ => rfl) _,
      without_only (fun u => u.fld) (fun _ _ _ => rfl), ← hv]
    rfl
  · rw [(settle_frame _).1, without_only (fun u => u.dev) (fun _ _ _ => rfl), ← hv]
    rfl
  · rw [without_only (fun u => u.map) (fun _ _ _ => rfl), ← hv]
    rfl

/-! ### Drain paused and resumed (R123) -/

theorem drnCtl_holder {s : State} {h : Head} (k : State → State) (hwin : s.windowOpen h.port = true) (hholds : s.holds h 1 = true) :
    (if s.windowOpen h.port then drnCtl h.port k s else s) = k s := by
  rw [if_pos hwin]
  cases h with
  | a => exact if_pos hholds
  | b => exact if_pos hholds

theorem pauseDrain_idle {s : State} (hrun : s.running = true) (hpaused : s.drn.paused = false) (hpath : ∀ i ∈ s.drn.path, i.step ≠ .claimed)
    (hroom : s.tly.fifo.length < 32) (hbelow : s.map.total < s.drn.bwh) : pauseDrain s = { s with
      drn := { s.drn with paused := true }, tly := (pauseDrain s).tly
      map := { s.map with claimWait := [], stalled := s.map.stalled.filter fun o => !o.isClaim
                          cache := s.map.cache.map fun e => { e with waiting := e.waiting.filter fun o => !o.isClaim } } } := by
  have hnone : (s.drn.path.filter fun i => i.step = .claimed) = [] := List.filter_eq_nil_iff.2 fun i hi => by simp [hpath i hi]
  have hdrop : dropClaimed { s with drn := { s.drn with paused := true } } = dropClaims { s with drn := { s.drn with paused := true } } := by
    unfold dropClaimed
    dsimp only
    rw [hnone]
    rfl
  have hpause : pauseDrain s = tlyTrigger 0x10A 0 (dropClaims { s with drn := { s.drn with paused := true } }) := by
    unfold pauseDrain
    rw [hpaused, hrun, hdrop, tlyTrigger_room 0x10A 0 (dropClaims { s with drn := { s.drn with paused := true } }) hroom]
    exact if_neg (Nat.not_le.2 hbelow)
  rw [hpause, tlyTrigger_room 0x10A 0 (dropClaims { s with drn := { s.drn with paused := true } }) hroom]
  rfl

/-- Settles O20, by the timer, by what a lost page held, and by how drain's pause begins and ends. -/
theorem storeTimersAndPause : Obligations.StoreTimersAndPause := by
  unfold Obligations.StoreTimersAndPause
  refine ⟨?stripe, ?segment, ?lost, ?moved, ?pause, ?resume, ?expiry⟩
  case stripe =>
    intro s r k w hup hrow hopen
    exact ⟨fun hno => execStripeTimeout_stays hrow hno, fun hbegun hleft => yields_stripeTimeout hup hrow hopen hbegun hleft⟩
  case segment =>
    intro s w hup hdelta hlines hopen hroom hbuf
    exact yields_mapSegmentTimeout hup hdelta hlines hopen hroom hbuf
  case lost =>
    intro s r c k w p g hrun hrow hpar hpage hin hsrc counted
    have hexec := execLostPage_lost hrun hrow hpar hpage
    exact ⟨fun e hbit hg he hfill => yields_lostPage_restored hexec hin hsrc hbit hg he hfill,
      fun hbit => yields_lostPage_unrestored hrun hexec hin hsrc hbit⟩
  case moved =>
    intro s r c k w p x l y hrun hrow hpar hpage hrecs hsrc hnames hrec hsame hother hspill
    exact yields_lostPage_moved (execLostPage_lost hrun hrow hpar hpage) hrecs hsrc hnames hrec hsame hother hspill
  case pause =>
    intro s h hwin hholds hrun hpaused hpath hroom hbelow
    exact ⟨_, congrArg Host.Outcome.next (drnCtl_holder pauseDrain hwin hholds), pauseDrain_idle hrun hpaused hpath hroom hbelow⟩
  case resume =>
    intro s h hwin hholds hpaused hroom
    exact ⟨_, congrArg Host.Outcome.next (drnCtl_holder (endPause 1) hwin hholds), endPause_of_paused 1 hpaused hroom⟩
  case expiry =>
    intro s hrun hpaused hroom
    exact ⟨_, congrArg Host.Outcome.next (if_pos hrun), endPause_of_paused 3 hpaused hroom⟩

end Sys2Proof.Machine
end

section
/-!
PROOFS. The drain's path of a granule, from its claim to its program (R102 to R107, R188, R203).
-/
namespace Sys2Proof.Machine

/-! ### A slot (R103, R104) -/

/-- Granules join the path as claimed alone. -/
def JoinsClaimed (s t : State) : Prop := ∀ i ∈ t.drn.path, i.step = .reading → i ∈ s.drn.path

theorem JoinsClaimed.of_drn {s t : State} (h : t.drn = s.drn) : JoinsClaimed s t := fun _ hi _ => h ▸ hi

theorem JoinsClaimed.trans {s t u : State} (h : JoinsClaimed s t) (k : JoinsClaimed t u) : JoinsClaimed s u :=
  fun i hi hstep => h i (k i hi hstep) hstep

theorem claimIn_joins (g : Nat) (s : State) : JoinsClaimed s (claimIn g s) := by
  unfold claimIn
  split
  · exact .of_drn rfl
  · split
    · exact .of_drn rfl
    · split
      · exact .of_drn rfl
      · intro i hi hstep
        have hdrn : (clrBit g s).drn = s.drn := clrBit_only (fun u => u.drn) (fun _ _ => rfl) g s
        rcases List.mem_append.1 hi with hi | hi
        · exact hdrn ▸ hi
        · rw [List.mem_singleton.1 hi] at hstep
          cases hstep

theorem admitClaim_joins (g : Nat) (s : State) : JoinsClaimed s (admitOp (.claim g) s) := by
  unfold admitOp
  dsimp only
  split
  · split
    · exact .of_drn (claimWaits_only (fun u => u.drn) (fun _ _ => rfl) _ _)
    · exact (JoinsClaimed.of_drn (useLine_only (fun u => u.drn) (fun _ _ => rfl) _ _)).trans (claimIn_joins g _)
  · split
    · exact .of_drn (markEntry_only (fun u => u.drn) (fun _ _ => rfl) _ _)
    · split
      · exact .of_drn (claimWaits_only (fun u => u.drn) (fun _ _ => rfl) _ _)
      · have hevict : (evictFor (regionOf (MapOp.claim g).granule) s).drn = s.drn := evictFor_only (fun u => u.drn) (fun _ _ => rfl) _ _
        split
        · exact JoinsClaimed.trans (.of_drn hevict) (claimIn_joins g _)
        · exact .of_drn ((claimWaits_only (fun u => u.drn) (fun _ _ => rfl) _ _).trans hevict)

theorem claim_joins (g : Nat) (s : State) : JoinsClaimed s (mapOp (.claim g) s) := by
  unfold mapOp
  split
  · exact .of_drn rfl
  · exact (JoinsClaimed.of_drn (countLookup_only (fun u => u.drn) (fun _ _ => rfl) _ _)).trans (admitClaim_joins g _)

theorem claimRun_joins (quota : Nat) (gs : List Nat) (s : State) : JoinsClaimed s (claimRun quota gs s) := by
  unfold claimRun
  generalize gs.take quota = l
  induction l generalizing s with
  | nil => exact .of_drn rfl
  | cons g l ih => exact (claim_joins g s).trans (ih _)

/-- A granule whose read is issued was on the path. -/
theorem issueReads_path (s : State) : ∀ i ∈ (issueReads s).drn.path, ∃ j ∈ s.drn.path, j.granule = i.granule := by
  intro i hi
  obtain ⟨j, hj, rfl⟩ := List.mem_map.1 hi
  refine ⟨j, hj, ?_⟩
  split <;> rfl

theorem drainSlot_joins (q : Nat) (s : State) : JoinsClaimed (issueReads s) (drainSlot q s) := by
  unfold drainSlot
  dsimp only
  split
  · split
    · exact fun i hi _ => hi
    · exact JoinsClaimed.trans (fun i hi _ => hi) (claimRun_joins _ _ _)
  · exact fun i hi _ => hi

theorem drainSlot_held {q : Nat} {s : State} (h : s.drainsNow = false) : (drainSlot q s).map = s.map ∧ (drainSlot q s).drn.work = none := by
  have hslot : drainSlot q s = { issueReads s with drn := { (issueReads s).drn with work := none } } :=
    if_neg (show ¬ s.drainsNow = true by rw [h]; decide)
  rw [hslot]
  exact ⟨rfl, rfl⟩

theorem yields_drainSlot {s : State} (q : Nat) (hrun : s.running = true) : Yields (.drainSlot q) s fun t =>
    (∀ i ∈ t.drn.path, i.step = .reading → ∃ j ∈ s.drn.path, j.granule = i.granule) ∧
    (s.drainsNow = false → t.map = s.map ∧ t.drn.work = none) ∧ t.jrn = s.jrn ∧ t.dev = s.dev ∧ ∀ x, t.byteAt x = s.byteAt x := by
  have hexec : execDrainSlot q s = .next (drainSlot q s) := by
    unfold execDrainSlot
    rw [running_not_saving hrun, hrun]
    rfl
  exact ⟨_, hexec, fun i hi hstep => issueReads_path s i (drainSlot_joins q s i hi hstep), fun hno => drainSlot_held hno,
    drainSlot_only (fun u => u.jrn) (fun _ _ _ => rfl) q s, drainSlot_only (fun u => u.dev) (fun _ _ _ => rfl) q s,
    fun x => drainSlot_only (fun u => u.byteAt x) (fun _ _ _ => rfl) q s⟩

/-! ### A read that returns (R105, R188) -/

theorem execDrainReadComplete_read {s : State} {g n l : Nat} (hup : s.running = true ∨ s.saving = true)
    (hpath : (s.drn.path.any fun i => i.granule == g && i.step = .reading) = true) :
    ∃ d, (readGranule g [] s).1 = { s with dmc := d } ∧
      execDrainReadComplete g [] n l s = .next (if (readGranule g [] s).2 then poisonedGranule g { s with dmc := d }
        else stageGranule g n l { s with dmc := d }) := by
  obtain ⟨⟨d, hread⟩, -⟩ := readGranule_clean g s
  refine ⟨d, hread, ?_⟩
  have hcond : ((s.running || s.saving) && s.drn.path.any fun i => i.granule == g && i.step = .reading) = true := by
    rw [hpath, Bool.and_true, Bool.or_eq_true]
    exact hup
  unfold execDrainReadComplete
  dsimp only
  rw [if_pos hcond, hread]
  exact if_pos hpath

theorem yields_drainReadComplete_clean {s : State} {g : Nat} (n l : Nat) (hup : s.running = true ∨ s.saving = true)
    (hpath : (s.drn.path.any fun i => i.granule == g && i.step = .reading) = true)
    (hclean : ∀ k, k < 64 → s.poison.contains (g * 64 + k) = false ∧ (s.dchan (s.site ((g * 64 + k) * 64)).channel).failed = false) :
    Yields (.drainReadComplete g [] n l) s fun t => t.dev = s.dev ∧ (∀ x, t.byteAt x = s.byteAt x) ∧ ∃ u, t = settle u ∧ u.map = s.map ∧
      ((u.drn.path = s.drn.path.map (fun i => if i.granule = g then { i with step := .staged } else i) ∧
          u.bed.stageQ = s.bed.stageQ ∧ ∃ q ∈ u.bed.staged, ∃ y ∈ q.recs, y.granule = g) ∨
        (u.drn.path = s.drn.path.map (fun i => if i.granule = g then { i with step := .waiting } else i) ∧
          (u.bed.stageQ.map fun i => i.2.granule) = (s.bed.stageQ.map fun i => i.2.granule) ++ [g])) := by
  have hgood : (readGranule g [] s).2 = false := by
    rw [(readGranule_clean g s).2]
    refine List.any_eq_false.2 fun k hk => ?_
    obtain ⟨hpoison, hfailed⟩ := hclean k (List.mem_range.1 hk)
    rw [show lineBytes = 64 from rfl, hpoison, hfailed]
    decide
  obtain ⟨d, -, hexec⟩ := execDrainReadComplete_read (n := n) (l := l) hup hpath
  rw [hgood, if_neg Bool.false_ne_true] at hexec
  refine ⟨_, hexec, ?_, fun x => ?_, ?_⟩
  · exact stageGranule_only (fun u => u.dev) (fun _ _ _ _ _ _ => rfl) g n l { s with dmc := d }
  · exact stageGranule_only (fun u => u.byteAt x) (fun _ _ _ _ _ _ => rfl) g n l { s with dmc := d }
  · unfold stageGranule
    dsimp only
    generalize hx : ({ granule := g, slot := 0, length := _, raw := _, fast := _, tag := _, body := _ } : GranRec) = x
    have hxg : x.granule = g := by rw [← hx]
    generalize hv : ({ tickUpd _ { s with dmc := d } with pip := _ } : State) = v
    have hvmap : v.map = s.map := by rw [← hv]; rfl
    have hvpath : v.drn.path = s.drn.path := by rw [← hv]; rfl
    have hvbed : v.bed = s.bed := by rw [← hv]; rfl
    refine ⟨_, rfl, (placeRec_only (fun u => u.map) (fun _ _ _ => rfl) l x v).trans hvmap, ?_⟩
    rcases placeRec_staging l x v with ⟨t, hplace, hdrn, hcarries, hqueue⟩ | hplace
    · rw [hxg] at hcarries hplace
      rw [hplace]
      refine .inl ⟨?_, hqueue.trans (by rw [hvbed]), hcarries⟩
      show t.drn.path.map _ = _
      rw [hdrn, hvpath]
    · rw [hxg] at hplace
      rw [hplace]
      refine .inr ⟨?_, ?_⟩
      · show v.drn.path.map _ = _
        rw [hvpath]
      · show ((v.bed.stageQ ++ [(l, x)]).map fun i => i.2.granule) = _
        rw [List.map_append, hvbed, List.map_singleton, hxg]

theorem poisonedGranule_runs {s : State} (g : Nat) (hsave : s.saving = false) (hwait : s.map.claimWait = []) :
    let t := poisonedGranule g s
    (t.hmOf g).state = .lost ∧ (∀ x, x ≠ g → t.hmOf x = s.hmOf x) ∧ t.map.inflight = setDel g s.map.inflight ∧
    ∀ x, t.dirtyBit x = s.dirtyBit x := by
  intro t
  have ht : t = rstUpd (regionOf g) (fun e => { e with lost := true }) (commitOp g (hmPut g { state := .lost } s)) :=
    if_neg (ne_true_of_eq_false hsave)
  obtain ⟨hentry, hothers, hdirty, -, -⟩ := commit_spec (g := g) { state := .lost } hwait
  have hflight : (commitOp g (hmPut g { state := .lost } s)).map.inflight = setDel g s.map.inflight := by
    rw [commitOp_alone (s := hmPut g { state := .lost } s) hwait]
    rfl
  generalize commitOp g (hmPut g { state := .lost } s) = v at *
  obtain ⟨hbits, hhm, -⟩ := rstUpd_keeps (regionOf g) (fun e => { e with lost := true }) v
  rw [ht]
  refine ⟨?_, fun x hx => (hhm x).trans (hothers x hx), ?_, fun x => (hbits x).trans (hdirty x)⟩
  · rw [hhm, hentry]
  · rw [← hflight]
    unfold rstUpd
    split <;> rfl

theorem yields_drainReadComplete_poisoned {s : State} {g k : Nat} (n l : Nat) (hrun : s.running = true)
    (hpath : (s.drn.path.any fun i => i.granule == g && i.step = .reading) = true) (hk : k < 64)
    (hpoison : s.poison.contains (g * 64 + k) = true) (hwait : s.map.claimWait = []) : Yields (.drainReadComplete g [] n l) s fun t =>
      (t.hmOf g).state = .lost ∧ (∀ x, x ≠ g → t.hmOf x = s.hmOf x) ∧ t.map.inflight = setDel g s.map.inflight ∧
      (∀ x, t.dirtyBit x = s.dirtyBit x) := by
  have hbad : (readGranule g [] s).2 = true := by
    rw [(readGranule_clean g s).2]
    exact List.any_eq_true.2 ⟨k, List.mem_range.2 hk, by rw [hpoison, Bool.or_true]⟩
  obtain ⟨d, -, hexec⟩ := execDrainReadComplete_read (n := n) (l := l) (.inl hrun) hpath
  rw [hbad, if_pos rfl] at hexec
  exact ⟨_, hexec, poisonedGranule_runs (s := { s with dmc := d }) g (running_not_saving hrun) hwait⟩

/-! ### A page's end (R105, R107, R203) -/

theorem yields_partialPageTimeout {s : State} {r c f : Nat} {p : StorePage} (hat : s.stagedAt r c f = some p) (hrun : s.running = true) :
    Yields (.partialPageTimeout r c f) s fun t => ∃ u, t = settle u ∧ u = { s with bed := { s.bed with staged := u.bed.staged } } ∧
      u.bed.staged = s.bed.staged.map (fun q => if samePage p q then { q with closed := true } else q) := by
  have hexec : execPartialPageTimeout r c f s = .next (settle (closePage p s)) := by
    unfold execPartialPageTimeout
    rw [hat]
    exact congrArg Host.Outcome.next (if_pos hrun)
  exact ⟨_, hexec, _, rfl, rfl, rfl⟩

theorem stagedAt_row {s : State} {r c f : Nat} {p : StorePage} (hat : s.stagedAt r c f = some p) : p.rowSeq = r := by
  have hkeys := List.find?_some hat
  simp only [Bool.and_eq_true, beq_iff_eq] at hkeys
  exact hkeys.1.1

/-- What parity does not reach. -/
def ParityFree {β : Type} (π : State → β) : Prop :=
  ∀ (s : State) t w o n r p, π { s with
    drn := { s.drn with tick := t, wUsed := w, owedBytes := o }, hrv := { s.hrv with bytes := n }, bed := { s.bed with rows := r, pages := p } } = π s

theorem countBytes_parityFree {β : Type} {π : State → β} (hπ : ParityFree π) (use : ByteUse) (n : Nat) (s : State) :
    π (countBytes use n s) = π s := by
  have hdrn : ∃ t w o, (countBytes use n s).drn = { s.drn with tick := t, wUsed := w, owedBytes := o } := by
    unfold countBytes
    generalize hv : tickUpd _ s = v
    have hvdrn : v.drn = { s.drn with tick := v.drn.tick } := by rw [← hv]; rfl
    dsimp only
    split
    · rw [hvdrn]
      exact ⟨v.drn.tick, s.drn.wUsed, _, rfl⟩
    · rw [hvdrn]
      exact ⟨v.drn.tick, _, s.drn.owedBytes, rfl⟩
  have hhrv : ∃ b, (countBytes use n s).hrv = { s.hrv with bytes := b } := by
    unfold countBytes
    generalize hv : tickUpd _ s = v
    have hvhrv : v.hrv = s.hrv := by rw [← hv]; rfl
    dsimp only
    rw [hvhrv]
    split
    · exact ⟨_, rfl⟩
    · exact ⟨s.hrv.bytes, rfl⟩
  obtain ⟨t, w, o, hdrn⟩ := hdrn
  obtain ⟨b, hhrv⟩ := hhrv
  have hframe : countBytes use n s = { s with drn := (countBytes use n s).drn, hrv := (countBytes use n s).hrv } := rfl
  rw [hframe, hdrn, hhrv]
  exact hπ s t w o b s.bed.rows s.bed.pages

theorem parityCheck_parityFree {β : Type} {π : State → β} (hπ : ParityFree π) (seq stripe : Nat) (s : State) :
    π (parityCheck seq stripe s) = π s := by
  have hrows : ∀ (v : State) r, π { v with bed := { v.bed with rows := r } } = π v := fun v r =>
    hπ v v.drn.tick v.drn.wUsed v.drn.owedBytes v.hrv.bytes r v.bed.pages
  have hpages : ∀ (v : State) p, π { v with bed := { v.bed with pages := p } } = π v := fun v p =>
    hπ v v.drn.tick v.drn.wUsed v.drn.owedBytes v.hrv.bytes v.bed.rows p
  unfold parityCheck
  split
  · rfl
  · dsimp only
    split
    · refine (countBytes_parityFree hπ _ _ _).trans ((hpages _ _).trans ((hrows _ _).trans ?_))
      split
      · exact hπ s _ s.drn.wUsed s.drn.owedBytes s.hrv.bytes s.bed.rows s.bed.pages
      · rfl
    · rfl

/-- A row's lane and blocks stay. -/
theorem parityCheck_row {n : Nat} {s : State} {w : BedRow} (stripe : Nat) (hrow : s.row n = some w) :
    ∃ v, (parityCheck n stripe s).row n = some v ∧ v.lane = w.lane ∧ v.blocks = w.blocks := by
  unfold parityCheck
  rw [hrow]
  dsimp only
  split
  · have hcount : ∀ (c : Prop) [Decidable c] f, (if c then tickUpd f s else s).row n = some w := by
      intro c _ f
      split
      · exact hrow
      · exact hrow
    exact ⟨_, row_rowUpd (f := fun x => { x with
      parityDone := setAdd stripe x.parityDone, accum := x.accum.filter fun q => q.stripe != stripe }) (fun _ => rfl) (hcount _ _), rfl, rfl⟩
  · exact ⟨w, hrow, rfl, rfl⟩

/-- A programmed page stands on the media and its bytes are counted. -/
def State.programmed (s : State) (p : StorePage) : State :=
  countBytes p.use s.storePage { s with bed := { s.bed with
    staged := s.bed.staged.filter fun q => !samePage p q, pages := s.bed.pages ++ [{ p with closed := true, sent := true }] } }

/-- The records that end in the page are committed. -/
def State.committing (s : State) (r : BedRow) (p : StorePage) : State := p.whole.foldl (fun v x => commitRec r p x v) (s.programmed p)

theorem pageDone_whole {s : State} {p : StorePage} {w : BedRow} (hrow : s.row p.rowSeq = some w) (hwhole : p.spills = false)
    (hnone : (s.committing w p).pageBefore w p = none) : pageDone p s = parityCheck w.seq p.stripe (fullRows (s.committing w p)) := by
  have hlast : (if (p.spills && (s.committing w p).nextOn w p) = true then
      p.recs.getLast?.elim (s.committing w p) (fun x => commitRec w p x (s.committing w p)) else s.committing w p) = s.committing w p :=
    if_neg (by simp [hwhole])
  generalize hv : s.committing w p = v at hlast hnone ⊢
  unfold pageDone
  rw [hrow]
  show parityCheck w.seq p.stripe (fullRows (match (if (p.spills && (s.committing w p).nextOn w p) = true then
      p.recs.getLast?.elim (s.committing w p) (fun x => commitRec w p x (s.committing w p)) else s.committing w p).pageBefore w p with
    | none => if (p.spills && (s.committing w p).nextOn w p) = true then
        p.recs.getLast?.elim (s.committing w p) (fun x => commitRec w p x (s.committing w p)) else s.committing w p
    | some q => q.recs.getLast?.elim (if (p.spills && (s.committing w p).nextOn w p) = true then
        p.recs.getLast?.elim (s.committing w p) (fun x => commitRec w p x (s.committing w p)) else s.committing w p)
        fun x => commitRec w q x (if (p.spills && (s.committing w p).nextOn w p) = true then
          p.recs.getLast?.elim (s.committing w p) (fun x => commitRec w p x (s.committing w p)) else s.committing w p))) = _
  rw [hv, hlast, hnone]

theorem pageDone_single {s : State} {p : StorePage} {w : BedRow} {x : GranRec} (hrow : s.row p.rowSeq = some w) (hrecs : p.recs = [x])
    (hwhole : p.spills = false) (hspill : ∀ q ∈ s.bed.pages, q.spills = false) :
    pageDone p s = parityCheck w.seq p.stripe (fullRows (commitRec w p x (s.programmed p))) := by
  have hone : s.committing w p = commitRec w p x (s.programmed p) := by
    unfold State.committing StorePage.whole
    rw [hwhole, hrecs]
    rfl
  have hpages : ∀ q ∈ (commitRec w p x (s.programmed p)).bed.pages, q.spills = false := by
    rw [commitRec_only (fun u => u.bed.pages) (fun _ _ _ _ => rfl)]
    intro q hq
    rcases List.mem_append.1 hq with hq | hq
    · exact hspill q hq
    · rw [List.mem_singleton.1 hq]
      exact hwhole
  rw [← hone] at hpages ⊢
  exact pageDone_whole hrow hwhole (pageBefore_none w p hpages)

theorem commitRec_drained {s : State} {w : BedRow} {p : StorePage} {x : GranRec} (hlive : x.live = true) (hsrc : x.src = none)
    (hflight : s.map.inflight.contains x.granule = true) :
    (commitRec w p x s).map = (commitOp x.granule (hmPut x.granule
      { state := .stored, loc := s.locOf w p x.slot, length := x.length, raw := x.raw } s)).map := by
  unfold commitRec
  rw [hsrc]
  dsimp only
  rw [if_pos (by rw [hlive, hflight]; rfl)]

theorem yields_pageProgramComplete {s : State} {r c f : Nat} (us : Nat) {p : StorePage} {w : BedRow} {x : GranRec}
    (hup : s.running = true ∨ s.saving = true) (hat : s.stagedAt r c f = some p) (hsent : p.sent = true) (hrow : s.row r = some w)
    (hrecs : p.recs = [x]) (hwhole : p.spills = false) (hlive : x.live = true) (hsrc : x.src = none)
    (hflight : s.map.inflight.contains x.granule = true) (hwait : s.map.claimWait = []) (hspill : ∀ q ∈ s.bed.pages, q.spills = false) :
    Yields (.pageProgramComplete r c f us) s fun t => t.dev = s.dev ∧ (∀ y, t.byteAt y = s.byteAt y) ∧ ∃ v, t = settle v ∧
      v.hmOf x.granule = { state := .stored, loc := s.locOf w p x.slot, length := x.length, raw := x.raw } ∧
      (∀ y, y ≠ x.granule → v.hmOf y = s.hmOf y) ∧ v.map.inflight = setDel x.granule s.map.inflight ∧
      ∀ y, v.dirtyBit y = s.dirtyBit y := by
  generalize hu : chanUpd c (fun c => { c with progTimes := (us :: c.progTimes).take 4096 }) s = u
  have huo : u = { s with bed := u.bed } := by rw [← hu]; rfl
  have hurow : u.row p.rowSeq = some w := by rw [stagedAt_row hat, ← hu]; exact hrow
  have huspill : ∀ q ∈ u.bed.pages, q.spills = false := by rw [← hu]; exact hspill
  have humap : u.map = s.map := by rw [huo]
  have hulay : u.lay = s.lay := by rw [huo]
  have hudev : u.dev = s.dev := by rw [huo]
  have hudram : u.dram = s.dram := by rw [huo]
  have hexec : execPageProgramComplete r c f us s = .next (settle (pageDone p u)) := by
    unfold execPageProgramComplete
    rw [hat]
    dsimp only
    rw [hu, hsent, if_pos]
    rw [Bool.and_true, Bool.or_eq_true]
    exact hup
  have hdone := pageDone_single hurow hrecs hwhole huspill
  have hvmap : (u.programmed p).map = u.map := rfl
  have hvlay : (u.programmed p).lay = u.lay := rfl
  generalize u.programmed p = v at hdone hvmap hvlay
  have hloc : v.locOf w p x.slot = s.locOf w p x.slot :=
    congrArg (fun l => ({ s with lay := l } : State).locOf w p x.slot) (hvlay.trans hulay)
  have hmaps : v.map = s.map := hvmap.trans humap
  have hmap : (pageDone p u).map = (commitOp x.granule (hmPut x.granule
      { state := .stored, loc := s.locOf w p x.slot, length := x.length, raw := x.raw } v)).map := by
    rw [hdone, parityCheck_only (fun u => u.map) (fun _ _ _ _ => rfl), fullRows_only (fun u => u.map) (fun _ _ => rfl), ← hloc]
    exact commitRec_drained hlive hsrc (by rw [hmaps]; exact hflight)
  have hvwait : v.map.claimWait = [] := by rw [hmaps]; exact hwait
  obtain ⟨hentry, hothers, hdirty, -, -⟩ := commit_spec (g := x.granule)
    { state := .stored, loc := s.locOf w p x.slot, length := x.length, raw := x.raw } hvwait
  have hgone : (commitOp x.granule (hmPut x.granule
      { state := .stored, loc := s.locOf w p x.slot, length := x.length, raw := x.raw } v)).map.inflight = setDel x.granule v.map.inflight := by
    rw [commitOp_alone (show (hmPut x.granule _ v).map.claimWait = [] from hvwait)]
    rfl
  have hhm : ∀ y, v.hmOf y = s.hmOf y := fun y => congrArg (fun m => ({ s with map := m } : State).hmOf y) hmaps
  have hbit : ∀ y, v.dirtyBit y = s.dirtyBit y := fun y => congrArg (fun m => ({ s with map := m } : State).dirtyBit y) hmaps
  generalize commitOp x.granule _ = z at hmap hentry hothers hdirty hgone
  have hdev : (pageDone p u).dev = u.dev := pageDone_only (fun u => u.dev) (fun _ _ _ _ _ => rfl) p u
  have hdram : (pageDone p u).dram = u.dram := pageDone_only (fun u => u.dram) (fun _ _ _ _ _ => rfl) p u
  generalize pageDone p u = y at hexec hmap hdev hdram
  refine ⟨_, hexec, ?_, fun a => ?_, y, rfl, ?_, fun a ha => ?_, ?_, fun a => ?_⟩
  · rw [(settle_frame _).1, hdev, hudev]
  · exact (settle_only (fun u => u.byteAt a) (fun _ _ _ _ _ => rfl) y).trans (congrArg (fun m => tblGet 0 m a) (hdram.trans hudram))
  · exact (congrArg (fun m : SMap => tblGet ({} : HmEntry) m.hmap x.granule) hmap).trans hentry
  · exact (congrArg (fun m : SMap => tblGet ({} : HmEntry) m.hmap a) hmap).trans ((hothers a ha).trans (hhm a))
  · rw [hmap, hgone, hmaps]
  · exact (congrArg (fun m => ({ s with map := m } : State).dirtyBit a) hmap).trans ((hdirty a).trans (hbit a))

/-- What is left of a page that failed to program, before its granule is abandoned. -/
def State.unstaged (s : State) (p : StorePage) : State := { s with
  bed := { s.bed with staged := s.bed.staged.filter fun q => !samePage p q }
  drn := { s.drn with delta := s.drn.delta ++ (p.lines.map fun m => m.line).filter fun n => !s.drn.delta.contains n } }

theorem granulesOn_single {s : State} {p : StorePage} {x : GranRec} (w : BedRow) (hrecs : p.recs = [x]) (hlive : x.live = true)
    (hsrc : x.src = none) (hspill : ∀ q ∈ s.bed.pages, q.spills = false) : s.granulesOn w p = [x.granule] := by
  unfold State.granulesOn
  rw [pageBefore_none w p hspill, hrecs]
  simp [hlive, hsrc]

theorem losePage_single {s : State} {p : StorePage} {x : GranRec} (w : BedRow) (hsave : s.saving = false) (hrecs : p.recs = [x])
    (hlive : x.live = true) (hsrc : x.src = none) (hspill : ∀ q ∈ s.bed.pages, q.spills = false) :
    losePage true w p s = { abandonOp x.granule (s.unstaged p) with
      drn := { (abandonOp x.granule (s.unstaged p)).drn with abProgram := satAdd 16 (abandonOp x.granule (s.unstaged p)).drn.abProgram 1 } } := by
  have habandon : (abandonOp x.granule (s.unstaged p)).saving = false :=
    (abandonOp_only (fun u => u.saving) (fun _ _ _ _ => rfl) _ _).trans hsave
  unfold losePage
  rw [granulesOn_single w hrecs hlive hsrc hspill]
  show (if (abandonOp x.granule (s.unstaged p)).saving = true then _ else _) = _
  rw [habandon]
  rfl

theorem abandonOp_bed (g : Nat) (s : State) : (abandonOp g s).bed = (dropCopies g s).bed := by
  unfold abandonOp
  exact (retryClaims_only (fun u => u.bed) (fun _ _ _ => rfl) _).trans (mapOp_only (fun u => u.bed) (fun _ _ _ => rfl) _ _)

/-- What a failed program of a page with one drained record leaves, short of the event. -/
structure ProgramFailed (g c lane blk r : Nat) (w : BedRow) (s t : State) : Prop where
  dirty : t.dirtyBit g = true
  others : ∀ y, y ≠ g → t.dirtyBit y = s.dirtyBit y
  inflight : t.map.inflight = setDel g s.map.inflight
  hmap : t.map.hmap = s.map.hmap
  count : t.drn.abProgram = satAdd 16 s.drn.abProgram 1
  failed : (t.blk c lane blk).failed = true
  dieFails : (t.chan c).dieFails = (s.chan c).dieFails
  row : ∃ v, t.row r = some v ∧ v.lane = w.lane ∧ v.blocks = w.blocks

theorem pageFail_failed {s : State} {p : StorePage} {w : BedRow} {x : GranRec} {e : LcEntry} (hsave : s.saving = false)
    (hrow : s.row p.rowSeq = some w) (hrecs : p.recs = [x]) (hlive : x.live = true) (hsrc : x.src = none) (hwait : s.map.claimWait = [])
    (hspill : ∀ q ∈ s.bed.pages, q.spills = false) (hg : x.granule < s.granules) (he : s.cached (regionOf x.granule) = some e)
    (hf : e.filling = false) : ProgramFailed x.granule p.channel w.lane (w.blockOn p.channel) p.rowSeq w s (pageFail p s) := by
  obtain ⟨hdirty, hflight, hhmap, -, hdrn⟩ := abandon_resident (g := x.granule) (s := s.unstaged p) hg he hf hwait
  have hlose := losePage_single w hsave hrecs hlive hsrc hspill
  have hbed := abandonOp_bed x.granule (s.unstaged p)
  have hsaving : (abandonOp x.granule (s.unstaged p)).saving = false :=
    (abandonOp_only (fun u => u.saving) (fun _ _ _ _ => rfl) _ _).trans hsave
  generalize abandonOp x.granule (s.unstaged p) = a at hdirty hflight hhmap hdrn hlose hbed hsaving
  generalize hu : ({ a with drn := { a.drn with abProgram := satAdd 16 a.drn.abProgram 1 } } : State) = u at hlose
  generalize hv : blkUpd p.channel w.lane (w.blockOn p.channel) (fun b => { b with failed := true })
    (chanUpd p.channel (fun c => { c with progFail := satAdd 16 c.progFail 1 }) u) = v
  have hfail : pageFail p s = parityCheck w.seq p.stripe v := by
    have husave : (chanUpd p.channel (fun c => { c with progFail := satAdd 16 c.progFail 1 }) u).saving = false := by
      rw [← hu]
      exact hsaving
    unfold pageFail
    rw [hrow]
    dsimp only
    rw [hlose, husave, ← hv]
    rfl
  have hvmap : v.map = a.map := by rw [← hv, ← hu]; rfl
  have hvbit : ∀ y, v.dirtyBit y = a.dirtyBit y := by rw [← hv, ← hu]; exact fun _ => rfl
  have hmap : (parityCheck w.seq p.stripe v).map = a.map := (parityCheck_only (fun u => u.map) (fun _ _ _ _ => rfl) _ _ v).trans hvmap
  have hbit : ∀ y, (parityCheck w.seq p.stripe v).dirtyBit y = (decide (y = x.granule) || s.dirtyBit y) := fun y =>
    (parityCheck_only (fun u => u.dirtyBit y) (fun _ _ _ _ => rfl) _ _ v).trans ((hvbit y).trans (hdirty y))
  have hvrow : v.row w.seq = some w := by
    rw [row_seq hrow, ← hrow, ← hv, ← hu]
    show a.bed.rows.find? _ = _
    rw [hbed]
    rfl
  rw [hfail]
  refine ⟨?_, fun y hy => ?_, ?_, ?_, ?_, ?_, ?_, ?_⟩
  · rw [hbit]
    simp
  · rw [hbit, decide_eq_false hy, Bool.false_or]
  · rw [hmap, hflight]
    rfl
  · rw [hmap, hhmap]
    rfl
  · refine (parityCheck_parityFree (π := fun u => u.drn.abProgram) (fun _ _ _ _ _ _ _ => rfl) _ _ v).trans ?_
    rw [← hv, ← hu]
    show satAdd 16 a.drn.abProgram 1 = _
    rw [hdrn]
    rfl
  · refine (parityCheck_parityFree (π := fun u => (u.blk p.channel w.lane (w.blockOn p.channel)).failed) (fun _ _ _ _ _ _ _ => rfl) _ _ v).trans ?_
    rw [← hv, blk_blkUpd, if_pos rfl]
  · refine (parityCheck_parityFree (π := fun u => (u.chan p.channel).dieFails) (fun _ _ _ _ _ _ _ => rfl) _ _ v).trans ?_
    rw [← hv, show (blkUpd _ _ _ _ (chanUpd p.channel _ u)).chan p.channel = (chanUpd p.channel _ u).chan p.channel from rfl, chan_chanUpd,
      if_pos rfl, ← hu]
    show (tblGet ({} : BedChan) a.bed.chans p.channel).dieFails = _
    rw [hbed]
    rfl
  · rw [← row_seq hrow]
    exact parityCheck_row p.stripe hvrow

theorem yields_programFail {s : State} {r c f : Nat} {p : StorePage} {w : BedRow} {x : GranRec} {e : LcEntry} (hrun : s.running = true)
    (hat : s.stagedAt r c f = some p) (hsent : p.sent = true) (hrow : s.row r = some w) (hchan : p.channel = c) (hrecs : p.recs = [x])
    (hlive : x.live = true) (hsrc : x.src = none) (hwait : s.map.claimWait = []) (hspill : ∀ q ∈ s.bed.pages, q.spills = false)
    (hfails : (s.chan c).dieFails = []) (hmild : s.mild 0x52 = true) (hg : x.granule < s.granules)
    (he : s.cached (regionOf x.granule) = some e) (hf : e.filling = false) : Yields (.programFail r c f) s fun t => ∃ u, t = settle u ∧
      u.dirtyBit x.granule = true ∧ (∀ y, y ≠ x.granule → u.dirtyBit y = s.dirtyBit y) ∧
      u.map.inflight = setDel x.granule s.map.inflight ∧ u.map.hmap = s.map.hmap ∧
      u.drn.abProgram = satAdd 16 s.drn.abProgram 1 ∧ (u.blk c w.lane (w.blockOn c)).failed = true := by
  have hseq := stagedAt_row hat
  subst hchan
  obtain ⟨hdirty, hothers, hflight, hhmap, hcount, hbad, hdie, v, hvrow, hlane, hblocks⟩ :=
    pageFail_failed (running_not_saving hrun) (hseq.symm ▸ hrow) hrecs hlive hsrc hwait hspill hg he hf
  have hflt : (pageFail p s).flt = s.flt := pageFail_only (fun u => u.flt) (fun _ _ _ _ _ => rfl) p s
  have htly : (pageFail p s).tly = s.tly := pageFail_only (fun u => u.tly) (fun _ _ _ _ _ => rfl) p s
  have hsave : (pageFail p s).saving = false := (pageFail_only (fun u => u.saving) (fun _ _ _ _ _ => rfl) p s).trans (running_not_saving hrun)
  have hevent : ∀ {β : Type} (π : State → β), EventFree π → π (fltRaise 0x52 p.channel (pageFail p s)) = π (pageFail p s) := fun π hπ =>
    fltRaise_mild π hπ 0x52 p.channel hflt htly hsave hmild
  have hexec : ∀ v, (fltRaise 0x52 p.channel (pageFail p s)).row r = some v → execProgramFail r p.channel f s =
      .next (settle (dieFailure p.channel v.lane (v.blockOn p.channel) (fltRaise 0x52 p.channel (pageFail p s)))) := by
    intro v hv
    unfold execProgramFail
    rw [hat]
    dsimp only
    rw [if_pos (by rw [hrun, hsent]; rfl), hv]
  generalize fltRaise 0x52 p.channel (pageFail p s) = z at hevent hexec
  generalize pageFail p s = y at *
  have hzrow : z.row r = some v := (hevent (fun u => u.row r) fun _ _ _ _ _ _ => rfl).trans (hseq ▸ hvrow)
  have hzdie : (z.chan p.channel).dieFails = [] := ((hevent (fun u => (u.chan p.channel).dieFails) fun _ _ _ _ _ _ => rfl).trans hdie).trans hfails
  have hend := hexec v hzrow
  rw [dieFailure_first hzdie] at hend
  refine ⟨_, hend, _, rfl, ?_, fun a ha => ?_, ?_, ?_, ?_, ?_⟩
  · exact (hevent (fun u => u.dirtyBit x.granule) fun _ _ _ _ _ _ => rfl).trans hdirty
  · exact (hevent (fun u => u.dirtyBit a) fun _ _ _ _ _ _ => rfl).trans (hothers a ha)
  · exact (hevent (fun u => u.map.inflight) fun _ _ _ _ _ _ => rfl).trans hflight
  · exact (hevent (fun u => u.map.hmap) fun _ _ _ _ _ _ => rfl).trans hhmap
  · exact (hevent (fun u => u.drn.abProgram) fun _ _ _ _ _ _ => rfl).trans hcount
  · exact (hevent (fun u => (u.blk p.channel w.lane (w.blockOn p.channel)).failed) fun _ _ _ _ _ _ => rfl).trans hbad

theorem yields_drainTimeout {s : State} {g : Nat} {e : LcEntry} (hrun : s.running = true) (hflight : s.map.inflight.contains g = true)
    (hg : g < s.granules) (he : s.cached (regionOf g) = some e) (hf : e.filling = false) (hwait : s.map.claimWait = []) :
    Yields (.drainTimeout g) s fun t => t.dirtyBit g = true ∧ (∀ y, y ≠ g → t.dirtyBit y = s.dirtyBit y) ∧
      t.map.inflight = setDel g s.map.inflight ∧ t.map.hmap = s.map.hmap ∧ t.drn.abOther = satAdd 16 s.drn.abOther 1 := by
  obtain ⟨hdirty, hgone, hhmap, -, hdrn⟩ := abandon_resident hg he hf hwait
  have hsave : (abandonOp g s).saving = false :=
    (abandonOp_only (fun u => u.saving) (fun _ _ _ _ => rfl) g s).trans (running_not_saving hrun)
  have hexec : execDrainTimeout g s = .next (dropDrain g s) := if_pos (by rw [hrun, hflight]; rfl)
  have hdrop : dropDrain g s = { abandonOp g s with drn := { (abandonOp g s).drn with abOther := satAdd 16 (abandonOp g s).drn.abOther 1 } } :=
    if_neg (ne_true_of_eq_false hsave)
  generalize abandonOp g s = a at hdirty hgone hhmap hdrn hdrop
  rw [hdrop] at hexec
  refine ⟨_, hexec, ?_, fun y hy => ?_, hgone, hhmap, ?_⟩
  · show a.dirtyBit g = true
    rw [hdirty]
    simp
  · show a.dirtyBit y = _
    rw [hdirty, decide_eq_false hy, Bool.false_or]
  · show satAdd 16 a.drn.abOther 1 = _
    rw [hdrn]

/-- Settles O19, along the path of a granule: slot, read, staging, program, and the ways it leaves the path without one. -/
theorem drainPath : Obligations.DrainPath := by
  unfold Obligations.DrainPath
  refine ⟨?slot, ?clean, ?poisoned, ?partialPage, ?done, ?failed, ?timeout⟩
  case slot =>
    intro s q hrun
    exact yields_drainSlot q hrun
  case clean =>
    intro s g n l hup hpath hclean
    exact yields_drainReadComplete_clean n l hup hpath hclean
  case poisoned =>
    intro s g k n l hrun hpath hk hpoison hwait
    exact yields_drainReadComplete_poisoned n l hrun hpath hk hpoison hwait
  case partialPage =>
    intro s r c f p hat
    refine ⟨fun hrun => ?_, fun hrun => yields_partialPageTimeout hat hrun⟩
    show execPartialPageTimeout r c f s = _
    unfold execPartialPageTimeout
    rw [hat]
    exact congrArg Host.Outcome.next (if_neg (ne_true_of_eq_false hrun))
  case done =>
    intro s r c f u p w x hup hat hsent hrow hrecs hwhole hlive hsrc hflight hwait hspill
    exact yields_pageProgramComplete u hup hat hsent hrow hrecs hwhole hlive hsrc hflight hwait hspill
  case failed =>
    intro s r c f p w x e hrun hat hsent hrow hchan hrecs hlive hsrc hwait hspill hfails hmild hg he hf
    exact yields_programFail hrun hat hsent hrow hchan hrecs hlive hsrc hwait hspill hfails hmild hg he hf
  case timeout =>
    intro s g e hrun hflight hg he hf hwait
    exact yields_drainTimeout hrun hflight hg he hf hwait

end Sys2Proof.Machine
end

section
/-!
PROOFS. A start that ends in RECOVERY or without a layout, host-ready at the end of a restore, and a trial that is confirmed
(R163, R167, R427 to R460).
-/
namespace Sys2Proof.Machine

/-! ### A start that enters RECOVERY (R427, R460) -/

theorem planeScan_marker {s : State} (hflags : ∀ e ∈ s.cel.sectors, e.2.flag = false) (howed : s.cel.retireOwed = []) :
    (planeScan s).upd.marker = s.upd.marker := by
  unfold planeScan
  split
  · rw [celScan_clean (s := scanSlots s) hflags howed]
    rfl
  · rfl

/-- What O45 asks of a start that ends in RECOVERY. -/
def Recovers (c : Nat) (s t : State) : Prop :=
  t.dev.st = .recovery ∧ t.dev.startDue = false ∧ t.upd.recoveryCause = c ∧ t.upd.marker = s.upd.marker ∧ t.jrn = s.jrn ∧
    t.svc.event = true ∧ t.sal.holdArm = false ∧ ∀ x, t.byteAt x = s.byteAt x

theorem enterRecovery_recovers (c : Nat) {s v : State} (hmarker : v.upd.marker = s.upd.marker) (hjrn : v.jrn = s.jrn)
    (hdram : v.dram = s.dram) : Recovers c s (enterRecovery c v) :=
  ⟨rfl, rfl, rfl, hmarker, hjrn, rfl, rfl, fun x => congrArg (fun m => tblGet 0 m x) hdram⟩

/-- The straps and the trigger ring of a start (B1). -/
def State.strapped (s : State) (env : StartEnv) : State :=
  tallyStart env.tallyOk env.ringTestOk { s with
    dev := { s.dev with startDue := false }, pins := { s.pins with recover := env.recoverLow }
    brl := { s.brl with role := if env.role = 3 then 0 else env.role } }

theorem strapped_only {β : Type} (π : State → β)
    (hπ : ∀ s d f x h p b, π { s with dev := d, flt := f, tly := x, heads := h, pins := p, brl := b } = π s) (env : StartEnv) (s : State) :
    π (s.strapped env) = π s :=
  (tallyStart_only π (fun s f x h => hπ s s.dev f x h s.pins s.brl) _ _ _).trans (hπ s _ s.flt s.tly s.heads _ _)

theorem execStartDevice_due {s : State} (env : StartEnv) (hst : s.dev.st = .boot) (hdue : s.dev.startDue = true) (hup : s.dev.mainUp = true) :
    execStartDevice env s = .next (bootAll env s) := by
  unfold execStartDevice
  rw [hst, hdue, hup]
  rfl

theorem yields_start_strap {s : State} {env : StartEnv} (hst : s.dev.st = .boot) (hdue : s.dev.startDue = true) (hup : s.dev.mainUp = true)
    (hfuse : env.fuseBad = false) (hlow : env.recoverLow = true) (hflags : ∀ e ∈ s.cel.sectors, e.2.flag = false)
    (howed : s.cel.retireOwed = []) : Yields (.startDevice env) s (Recovers 1 s) := by
  have hcel : (s.strapped env).cel = s.cel := strapped_only (fun u => u.cel) (fun _ _ _ _ _ _ _ => rfl) env s
  have hupd : (s.strapped env).upd = s.upd := strapped_only (fun u => u.upd) (fun _ _ _ _ _ _ _ => rfl) env s
  have hjrn : (s.strapped env).jrn = s.jrn := strapped_only (fun u => u.jrn) (fun _ _ _ _ _ _ _ => rfl) env s
  have hdram : (s.strapped env).dram = s.dram := strapped_only (fun u => u.dram) (fun _ _ _ _ _ _ _ => rfl) env s
  have hboot : bootAll env s = enterRecovery 1 (planeScan { s.strapped env with
      cel := { (s.strapped env).cel with headerOk := env.headerOk }, key := { (s.strapped env).key with rbgOk := env.rbgOk } }) := by
    unfold bootAll
    exact (if_neg (by rw [hfuse]; decide)).trans (if_pos hlow)
  generalize s.strapped env = v at *
  have hvflags : ∀ e ∈ ({ v.cel with headerOk := env.headerOk } : Cel).sectors, e.2.flag = false := by rw [hcel]; exact hflags
  have hvowed : ({ v.cel with headerOk := env.headerOk } : Cel).retireOwed = [] := by rw [hcel]; exact howed
  generalize hu : ({ v with cel := { v.cel with headerOk := env.headerOk }, key := { v.key with rbgOk := env.rbgOk } } : State) = u at hboot
  have hclean := planeScan_clean (s := u) (by rw [← hu]; exact hvflags) (by rw [← hu]; exact hvowed)
  have hmarker := planeScan_marker (s := u) (by rw [← hu]; exact hvflags) (by rw [← hu]; exact hvowed)
  refine ⟨_, (execStartDevice_due env hst hdue hup).trans (congrArg Host.Outcome.next hboot), enterRecovery_recovers 1 ?_ ?_ ?_⟩
  · rw [hmarker, ← hu, ← hupd]
  · rw [hclean, ← hu, ← hjrn]
  · rw [hclean, ← hu, ← hdram]

/-! #### Thermal sensing before any conversion (R357) -/

/-- No enabled input shows a reading, and nothing of the thermal levels stands. -/
structure Unread (s : State) : Prop where
  reads : s.thmReads = []
  level : s.thm.level = 0
  step : s.thm.step = 0
  trip : s.thm.trip = false
  shut : s.thm.shut = false

theorem bootShut_unread {s : State} (h : s.thmReads = []) : s.bootShut = none := by
  unfold State.bootShut State.atOrAbove
  rw [h]
  rfl

theorem warnSync_unread {s : State} (h : s.thmReads = []) : warnSync s = { s with thm := { s.thm with warned := [] } } := by
  unfold warnSync State.atOrAbove
  rw [h]
  rfl

theorem levelSync_unread {s : State} (h : Unread s) (hwarned : s.thm.warned = []) : levelSync s = s := by
  have hlevel : s.thmLevel = s.thm.level := by
    unfold State.thmLevel
    rw [h.level, h.trip, h.shut, h.step, hwarned]
    rfl
  unfold levelSync
  exact if_pos hlevel

theorem syncs_unread {s : State} (h : Unread s) : levelSync (warnSync s) = { s with thm := { s.thm with warned := [] } } := by
  rw [warnSync_unread h.reads]
  exact levelSync_unread ⟨h.reads, h.level, h.step, h.trip, h.shut⟩ rfl

theorem thmReads_unconverted {s : State} (h : s.thm.inputs = []) : s.thmReads = [] := by
  unfold State.thmReads State.thmIn
  rw [h]
  exact List.filterMap_eq_nil_iff.2 fun n _ => by
    show (if ({} : ThmInput).broken && _ then none else _) = none
    rfl

/-- The sensors' state at the beginning of a start, over the counts kept and the tables of a calibration set. -/
def State.sensing (s : State) (set : CalibSet) : State :=
  { s with thm := { ({} : Thm) with
    saves := s.thm.saves, halts := s.thm.halts, lastStop := s.thm.lastStop, thermalSave := s.thm.thermalSave
    calibValid := true, calDerated := false, oscTable := set.osc, bgTable := set.bg } }

theorem usedCalib_read {env : StartEnv} (c : Cel) (hcalib : env.calib0Bad = false ∨ env.calib1Bad = false) :
    ∃ set, usedCalib env c = some set := by
  unfold usedCalib
  split
  · exact ⟨_, rfl⟩
  · exact ⟨_, rfl⟩
  · exact ⟨_, rfl⟩
  · rename_i h0 h1
    rcases hcalib with h | h
    · exact absurd (h0.symm.trans h) (by decide)
    · exact absurd (h1.symm.trans h) (by decide)

/-- A calibration copy that reads is used, and the sensors start anew (R357, R439). -/
theorem bootThermal_read {env : StartEnv} (s : State) (hcalib : env.calib0Bad = false ∨ env.calib1Bad = false) :
    ∃ set, bootThermal env s = (env.conversions.take 3).foldl (fun s l => convert l s)
      (putTherm ((s.lay.committed.filter (layoutStands env ((matchCalib env s).sensing set))).elim defaultTherm (·.therm))
        ((matchCalib env s).sensing set)) := by
  obtain ⟨set, hset⟩ := usedCalib_read s.cel hcalib
  have hlay : ((matchCalib env s).sensing set).lay = s.lay := matchCalib_only (fun u => u.lay) (fun _ _ => rfl) env s
  refine ⟨set, ?_⟩
  rw [← hlay]
  unfold bootThermal
  rw [hset]
  rfl

/-- What B1 finds without a conversion: the sensors and the calibration copies are what changes. -/
theorem bootThermal_unread {env : StartEnv} (s : State) (hcalib : env.calib0Bad = false ∨ env.calib1Bad = false) (hconv : env.conversions = []) :
    Unread (bootThermal env s) ∧ ∃ m c, bootThermal env s = { s with thm := m, cel := c } := by
  obtain ⟨set, hboot⟩ := bootThermal_read s hcalib
  have hcel : matchCalib env s = { s with cel := (matchCalib env s).cel } :=
    matchCalib_only (fun u => ({ u with cel := (matchCalib env s).cel } : State)) (fun _ _ => rfl) env s
  rw [hconv, List.take_nil, List.foldl_nil] at hboot
  generalize (Option.elim _ defaultTherm _ : ThermParams) = p at hboot
  rw [hcel] at hboot
  rw [hboot]
  exact ⟨⟨thmReads_unconverted rfl, rfl, rfl, rfl, rfl⟩, _, _, rfl⟩

theorem yields_start_noHeader {s : State} {env : StartEnv} (hst : s.dev.st = .boot) (hdue : s.dev.startDue = true) (hup : s.dev.mainUp = true)
    (hfuse : env.fuseBad = false) (hlow : env.recoverLow = false) (hheader : env.headerOk = false) (hconv : env.conversions = [])
    (hcalib : env.calib0Bad = false ∨ env.calib1Bad = false) : Yields (.startDevice env) s (Recovers 4 s) := by
  have hupd : (s.strapped env).upd = s.upd := strapped_only (fun u => u.upd) (fun _ _ _ _ _ _ _ => rfl) env s
  have hjrn : (s.strapped env).jrn = s.jrn := strapped_only (fun u => u.jrn) (fun _ _ _ _ _ _ _ => rfl) env s
  have hdram : (s.strapped env).dram = s.dram := strapped_only (fun u => u.dram) (fun _ _ _ _ _ _ _ => rfl) env s
  obtain ⟨hunread, m, c, honly⟩ := bootThermal_unread (s.strapped env) hcalib hconv
  have hboot : bootAll env s = enterRecovery 4 { levelSync (warnSync (bootThermal env (s.strapped env))) with
      cel := { (levelSync (warnSync (bootThermal env (s.strapped env)))).cel with headerOk := env.headerOk } } := by
    unfold bootAll
    refine (if_neg (by rw [hfuse]; decide)).trans ((if_neg (by rw [hlow]; decide)).trans ?_)
    show (match (bootThermal env (s.strapped env)).bootShut with
      | some e => thermalHalt 3 e (bootThermal env (s.strapped env))
      | none => _) = _
    rw [bootShut_unread hunread.reads]
    exact if_pos (by rw [hheader]; decide)
  rw [syncs_unread hunread, honly] at hboot
  exact ⟨_, (execStartDevice_due env hst hdue hup).trans (congrArg Host.Outcome.next hboot),
    enterRecovery_recovers 4 (congrArg Upd.marker hupd) hjrn hdram⟩

theorem execStartDevice_notDue {s : State} (env : StartEnv) (hno : s.dev.startDue = false ∨ s.dev.st ≠ .boot ∨ s.dev.mainUp = false) :
    execStartDevice env s = .next s := by
  refine congrArg Host.Outcome.next (if_neg ?_)
  rcases hno with h | h | h
  · simp [h]
  · simp [h]
  · simp [h]

/-! ### A trial confirmed (R456, R457) -/

/-- The update partition and the Salt Cellar's counts are all that changes, and of the partition neither the marker nor a slot. -/
structure AreasOnly (s t : State) : Prop where
  only : t = { s with upd := t.upd, cel := t.cel }
  wear : t.cel = { s.cel with sectors := t.cel.sectors }
  marker : t.upd.marker = s.upd.marker
  slotA : t.upd.slotA = s.upd.slotA
  slotB : t.upd.slotB = s.upd.slotB

theorem AreasOnly.refl (s : State) : AreasOnly s s := ⟨rfl, rfl, rfl, rfl, rfl⟩

theorem AreasOnly.trans {s t u : State} (h : AreasOnly s t) (k : AreasOnly t u) : AreasOnly s u where
  only := by rw [k.only, h.only]
  wear := by rw [k.wear, h.wear]
  marker := k.marker.trans h.marker
  slotA := k.slotA.trans h.slotA
  slotB := k.slotB.trans h.slotB

theorem wearSectors_only (l : List Nat) (f : Nat → Nat) (s : State) :
    ∃ x, l.foldl (fun s k => wearSector (f k) s) s = { s with cel := { s.cel with sectors := x } } := by
  induction l generalizing s with
  | nil => exact ⟨s.cel.sectors, rfl⟩
  | cons k l ih =>
    obtain ⟨x, hx⟩ := ih (wearSector (f k) s)
    exact ⟨x, hx⟩

theorem eraseArea_spec (n : Nat) (s : State) : AreasOnly s (eraseArea n s) ∧ (eraseArea n s).upd.areaCopy n = none ∧
    ∀ m, (m = 0 ↔ ¬ n = 0) → (eraseArea n s).upd.areaCopy m = s.upd.areaCopy m := by
  unfold eraseArea Upd.areaCopy
  dsimp only
  split
  next hnone => exact ⟨.refl s, hnone, fun _ _ => rfl⟩
  next c _ =>
    obtain ⟨x, hx⟩ := wearSectors_only (List.range (ceilDiv c.next 1024 - c.base / 1024))
      (fun k => 1060 + 48 * n + (c.base / 1024 + k) % 48) s
    rw [hx]
    by_cases hn : n = 0
    · rw [if_pos hn, if_pos hn]
      exact ⟨⟨rfl, rfl, rfl, rfl, rfl⟩, rfl, fun m hm => by rw [if_neg (by simpa [hn] using hm), if_neg (by simpa [hn] using hm)]⟩
    · rw [if_neg hn, if_neg hn]
      exact ⟨⟨rfl, rfl, rfl, rfl, rfl⟩, rfl, fun m hm => by rw [if_pos (hm.2 hn), if_pos (hm.2 hn)]⟩

/-- One area's copy is erased where it is the slot's. -/
def eraseCopy (slot : Bool) (n : Nat) (s : State) : State := if (s.upd.areaCopy n).any (fun c => c.slot == slot) then eraseArea n s else s

theorem eraseCopies_eq (slot : Bool) (s : State) : eraseCopies slot s = eraseCopy slot 1 (eraseCopy slot 0 s) := rfl

theorem eraseCopy_spec (slot : Bool) (n : Nat) (s : State) : AreasOnly s (eraseCopy slot n s) ∧
    (eraseCopy slot n s).upd.areaCopy n = (if (s.upd.areaCopy n).any (fun c => c.slot == slot) then none else s.upd.areaCopy n) ∧
    ∀ m, (m = 0 ↔ ¬ n = 0) → (eraseCopy slot n s).upd.areaCopy m = s.upd.areaCopy m := by
  unfold eraseCopy
  split
  · exact eraseArea_spec n s
  · exact ⟨.refl s, rfl, fun _ _ => rfl⟩

theorem eraseCopies_spec (slot : Bool) (s : State) : AreasOnly s (eraseCopies slot s) ∧
    ∀ n < 2, (eraseCopies slot s).upd.areaCopy n = if (s.upd.areaCopy n).any (fun c => c.slot == slot) then none else s.upd.areaCopy n := by
  obtain ⟨hone, hnone, hkept⟩ := eraseCopy_spec slot 0 s
  obtain ⟨htwo, hnone', hkept'⟩ := eraseCopy_spec slot 1 (eraseCopy slot 0 s)
  rw [eraseCopies_eq]
  refine ⟨hone.trans htwo, fun n hn => ?_⟩
  match n, hn with
  | 0, _ => rw [hkept' 0 (by decide), hnone]
  | 1, _ => rw [hnone', hkept 1 (by decide)]

theorem setMarker_spec (f : UpdMarker → UpdMarker) (s : State) : ∃ a b x, setMarker f s = { s with
    upd := { s.upd with marker := { f s.upd.marker with mseq := (s.upd.marker.mseq + 1) % 65536 }, recNext := a, recOld := b }
    cel := { s.cel with sectors := x } } := by
  unfold setMarker appendRec
  dsimp only
  split
  · exact ⟨_, _, _, rfl⟩
  · exact ⟨_, s.upd.recOld, s.cel.sectors, rfl⟩

theorem stepFuses_slot {s : State} {i : Image} (hstate : s.upd.marker.state ≠ .empty) (hslot : s.upd.slot s.upd.marker.cslot = some i) :
    stepFuses s = { s with key := { s.key with antiRollback := max s.key.antiRollback (min 64 i.svn) } } := by
  unfold stepFuses
  rw [if_neg hstate, hslot]

theorem yields_confirmTrial {s : State} {i : Image} (hmay : s.mayConfirm = true) (hslot : s.upd.slot s.upd.marker.tslot = some i) :
    Yields .confirmTrial s fun t => t.upd.marker.state = .confirmed ∧ t.upd.marker.cslot = s.upd.marker.tslot ∧
      t.upd.marker.tslot = s.upd.marker.tslot ∧ t.key.antiRollback = max s.key.antiRollback (min 64 i.svn) ∧
      t.upd.slotA = s.upd.slotA ∧ t.upd.slotB = s.upd.slotB ∧
      (∀ n < 2, t.upd.areaCopy n = if (s.upd.areaCopy n).any (fun c => c.slot == s.upd.marker.cslot) then none else s.upd.areaCopy n) ∧
      t = { s with upd := t.upd, key := t.key, cel := t.cel } ∧ t.cel = { s.cel with sectors := t.cel.sectors } := by
  obtain ⟨a, b, x, hset⟩ := setMarker_spec (fun m => { m with state := .confirmed, cslot := m.tslot }) s
  have hexec : execConfirmTrial s = .next (stepFuses (eraseCopies s.upd.marker.cslot
      (setMarker (fun m => { m with state := .confirmed, cslot := m.tslot }) s))) := if_pos hmay
  rw [hset] at hexec
  obtain ⟨⟨honly, hwear, hmarker, hslotA, hslotB⟩, hcopies⟩ := eraseCopies_spec s.upd.marker.cslot { s with
    upd := { s.upd with
      marker := { s.upd.marker with state := .confirmed, cslot := s.upd.marker.tslot, mseq := (s.upd.marker.mseq + 1) % 65536 }
      recNext := a, recOld := b }
    cel := { s.cel with sectors := x } }
  generalize eraseCopies _ _ = v at honly hwear hmarker hslotA hslotB hcopies hexec
  have hvslot : v.upd.slot v.upd.marker.cslot = some i := by
    rw [← hslot]
    unfold Upd.slot
    rw [hmarker, hslotA, hslotB]
  rw [stepFuses_slot (by rw [hmarker]; exact UpdState.noConfusion) hvslot] at hexec
  refine ⟨_, hexec, ?_, ?_, ?_, ?_, hslotA, hslotB, hcopies, ?_, hwear⟩
  · show v.upd.marker.state = _
    rw [hmarker]
  · show v.upd.marker.cslot = _
    rw [hmarker]
  · show v.upd.marker.tslot = _
    rw [hmarker]
  · show max v.key.antiRollback _ = _
    rw [honly]
  · rw [honly]

/-! ### The end of a start (R15, R34 to R37) -/

/-- JOURNAL has taken up to `n` more records, where it has room for as many. -/
def GrowsBy (n : Nat) (s t : State) : Prop := journalWords s.jrn + 150 * n + 1024 ≤ 262144 →
  (∃ l, t.jrn = s.jrn ++ l) ∧ journalWords t.jrn ≤ journalWords s.jrn + 150 * n

theorem GrowsBy.of_jrn (n : Nat) {s t : State} (h : t.jrn = s.jrn) : GrowsBy n s t := fun _ =>
  ⟨⟨[], by rw [h, List.append_nil]⟩, by rw [h]; omega⟩

theorem GrowsBy.trans {m n : Nat} {s t u : State} (h : GrowsBy m s t) (k : GrowsBy n t u) : GrowsBy (m + n) s u := by
  intro hroom
  obtain ⟨⟨l, hl⟩, hwords⟩ := h (by omega)
  obtain ⟨⟨l', hl'⟩, hwords'⟩ := k (by omega)
  exact ⟨⟨l ++ l', by rw [hl', hl, List.append_assoc]⟩, by omega⟩

theorem journal_grows (r : JRec) (s : State) : GrowsBy 1 s (s.journal r) := by
  intro hroom
  have hwords := JRec.words_le r
  have hjrn := journal_room s r (by omega)
  refine ⟨⟨[r], hjrn⟩, ?_⟩
  rw [hjrn, journalWords_append]
  omega

theorem releaseAccess_grows (s : State) : GrowsBy 1 s (releaseAccess s) := by
  unfold releaseAccess
  split
  · split
    · exact .of_jrn 1 rfl
    · exact journal_grows (.openImage false) s
  · exact .of_jrn 1 rfl

/-- Access released or not: what else of the governor stands, and JOURNAL. -/
theorem openAccess_spec (s : State) : ∃ a, (openAccess s).gov = { s.gov with accessHeld := a } ∧ GrowsBy 1 s (openAccess s) := by
  unfold openAccess
  dsimp only
  split
  · exact ⟨false, (releaseAccess_spec s).1, releaseAccess_grows s⟩
  · exact ⟨s.gov.accessHeld, rfl, .of_jrn 1 rfl⟩

theorem endPause_fifo {c : Nat} {s : State} (hroom : s.tly.fifo.length < 32) : (endPause c s).tly.fifo.length ≤ s.tly.fifo.length + 1 := by
  unfold endPause
  split
  · rw [tlyTell_fifo 0x10A 0 (s := { s with drn := { s.drn with paused := false, lastPauseEnd := c } }) hroom, List.length_append]
    exact Nat.le_refl _
  · omega

theorem enterArmed_spec {s : State} (hroom : s.tly.fifo.length < 31) : (enterArmed s).dev = { s.dev with st := .armed } ∧
    (enterArmed s).gov.pdom = (!(enterArmed s).gov.accessHeld) ∧ (enterArmed s).tly.fifo.length ≤ s.tly.fifo.length + 2 ∧
    GrowsBy 1 s (enterArmed s) ∧ ∀ {β : Type} (π : State → β), ArmFree π → π (enterArmed s) = π s := by
  obtain ⟨hdev, -, hjrn, -, hfree⟩ := armed_before hroom
  have hpause := endPause_fifo (c := 5) (s := s) (by omega)
  have htrigger := tlyTrigger_room 0x102 0 { endPause 5 s with
    dev := { (endPause 5 s).dev with st := .armed }, svc := { (endPause 5 s).svc with event := true }
    gov := { (endPause 5 s).gov with armGen := (endPause 5 s).gov.armGen + 1 } } (endPause_room hroom)
  unfold enterArmed
  dsimp only at hdev hjrn hfree ⊢
  generalize tlyTrigger 0x102 0 _ = z at hdev hjrn hfree htrigger ⊢
  have hfifo : z.tly.fifo.length ≤ s.tly.fifo.length + 2 := by
    rw [htrigger]
    show ((endPause 5 s).tly.fifo ++ _).length ≤ _
    rw [List.length_append, List.length_singleton]
    omega
  have hevent : (chapenEvent .info 0x01 0 0xFF 0 0 0 z.map.total z).tly = z.tly := by rw [chapenEvent_reaches_heads]
  generalize chapenEvent _ _ _ _ _ _ _ _ z = w at hdev hjrn hfree hevent ⊢
  have hrelease : ∃ x, (if w.pip.sanStep = 0 then releaseAccess w else w) = x ∧ x.dev = w.dev ∧ x.tly = w.tly ∧ GrowsBy 1 w x ∧
      ∀ {β : Type} (π : State → β), ArmFree π → π x = π w := by
    refine ⟨_, rfl, ?_⟩
    split
    · exact ⟨by simp, by simp, releaseAccess_grows w, fun π hπ =>
        releaseAccess_only π (fun y _ _ => hπ y y.dev _ y.flt y.tly y.drn y.heads y.svc _ y.sal) w⟩
    · exact ⟨rfl, rfl, .of_jrn 1 rfl, fun _ _ => rfl⟩
  obtain ⟨x, hx, hxdev, hxtly, hxgrows, hxfree⟩ := hrelease
  rw [hx]
  obtain ⟨htdev, -, -, htheld, htpdom, htjrn, htfree⟩ := synced_spec (s := x) (by rw [hxdev, hdev])
  have httly : (creditSync (pdomSync (holdArmSync x))).tly = x.tly := rfl
  generalize creditSync (pdomSync (holdArmSync x)) = t at htdev htheld htpdom htjrn htfree httly ⊢
  refine ⟨by rw [htdev, hxdev, hdev], by rw [htpdom, htheld], ?_, ?_, fun π hπ => (htfree π hπ).trans ((hxfree π hπ).trans (hfree π hπ))⟩
  · rw [httly, hxtly, hevent]
    exact hfifo
  · have hgrows : GrowsBy (0 + (1 + 0)) s t := (GrowsBy.of_jrn 0 hjrn).trans (hxgrows.trans (.of_jrn 0 htjrn))
    exact hgrows

/-- What the end of a start leaves alone. -/
def LeaveFree {β : Type} (π : State → β) : Prop :=
  ∀ (s : State) a b c d e f g h i j, π { s with
    dev := a, gov := b, flt := c, tly := d, drn := e, heads := f, svc := g, jrn := h, sal := i, upd := { s.upd with bootDone := j } } = π s

theorem LeaveFree.arm {β : Type} {π : State → β} (hπ : LeaveFree π) : ArmFree π := fun s a b c d e f g h i =>
  hπ s a b c d e f g h i s.upd.bootDone

theorem leaveStart_spec {s : State} (hroom : s.tly.fifo.length < 31) (hkey : s.pip.keyLoaded = true) :
    let t := leaveStart s
    t.dev.st = (if s.gov.cond.all = true ∧ s.gov.holdoffDone = true then .armed else .unarmed) ∧ t.dev.hostReady = true ∧
    t.upd = { s.upd with bootDone := true } ∧ (t.gov.pdom = true ↔ t.dev.st = .armed ∧ t.gov.accessHeld = false) ∧
    t.tly.fifo.length ≤ s.tly.fifo.length + 2 ∧ GrowsBy 2 s t ∧ ∀ {β : Type} (π : State → β), LeaveFree π → π t = π s := by
  intro t
  generalize hv : ({ s with dev := { s.dev with st := .unarmed, hostReady := true, readyUs := s.dev.aonUs }
                            upd := { s.upd with bootDone := true }, svc := { s.svc with event := true } } : State) = v
  obtain ⟨a, hgov, hgrows⟩ := openAccess_spec v
  have honly : openAccess v = { v with gov := (openAccess v).gov, jrn := (openAccess v).jrn } :=
    openAccess_only (fun u => ({ u with gov := (openAccess v).gov, jrn := (openAccess v).jrn } : State)) (fun _ _ _ => rfl) v
  have ht : t = if (openAccess v).gov.cond.all && (openAccess v).gov.holdoffDone && !((openAccess v).pip.secretSet && !(openAccess v).pip.keyLoaded) then
      enterArmed (holdArmSync (pdomSync (openAccess v))) else holdArmSync (pdomSync (openAccess v)) := by
    rw [← hv]
    rfl
  have hvjrn : v.jrn = s.jrn := by rw [← hv]
  generalize openAccess v = u at hgov hgrows honly ht
  have hpip : u.pip = s.pip := by rw [honly, ← hv]
  have hcond : (u.gov.cond.all && u.gov.holdoffDone && !(u.pip.secretSet && !u.pip.keyLoaded)) = (s.gov.cond.all && s.gov.holdoffDone) := by
    rw [hgov, hpip, hkey, ← hv]
    simp
  rw [hcond] at ht
  have hudev : u.dev = { s.dev with st := .unarmed, hostReady := true, readyUs := s.dev.aonUs } := by rw [honly, ← hv]
  have huupd : u.upd = { s.upd with bootDone := true } := by rw [honly, ← hv]
  have hufree : ∀ {β : Type} (π : State → β), LeaveFree π → π (holdArmSync (pdomSync u)) = π s := fun π hπ => by
    refine (holdArmSync_only π (fun x _ => hπ.arm x x.dev x.gov x.flt x.tly x.drn x.heads x.svc x.jrn _) _).trans ?_
    refine (pdomSync_only π (fun x _ => hπ.arm x x.dev _ x.flt x.tly x.drn x.heads x.svc x.jrn x.sal) u).trans ?_
    rw [honly, ← hv]
    exact hπ s _ _ s.flt s.tly s.drn s.heads _ _ s.sal _
  have hufifo : (holdArmSync (pdomSync u)).tly.fifo.length = s.tly.fifo.length := by
    show u.tly.fifo.length = _
    rw [honly, ← hv]
  have hugrows : GrowsBy 1 s (holdArmSync (pdomSync u)) := (GrowsBy.of_jrn 0 hvjrn).trans (m := 0) hgrows
  by_cases harm : s.gov.cond.all = true ∧ s.gov.holdoffDone = true
  · rw [if_pos (by rw [harm.1, harm.2]; rfl)] at ht
    obtain ⟨hdev, hpdom, hfifo, hagrows, hafree⟩ := enterArmed_spec (s := holdArmSync (pdomSync u)) (by omega)
    have hst : t.dev.st = .armed := by rw [ht, hdev]
    refine ⟨hst.trans (if_pos harm).symm, ?_, ?_, ?_, ?_, ?_, fun π hπ => ?_⟩
    · rw [ht, hdev]
      show u.dev.hostReady = true
      rw [hudev]
    · rw [ht]
      exact (hafree (fun u => u.upd) fun _ _ _ _ _ _ _ _ _ _ => rfl).trans huupd
    · rw [hst]
      rw [ht, hpdom]
      simp
    · rw [ht]
      omega
    · rw [ht]
      exact hugrows.trans hagrows
    · rw [ht]
      exact (hafree π hπ.arm).trans (hufree π hπ)
  · rw [if_neg (by simpa using harm)] at ht
    have hst : t.dev.st = .unarmed := by
      rw [ht]
      show u.dev.st = _
      rw [hudev]
    refine ⟨hst.trans (if_neg harm).symm, ?_, ?_, ?_, ?_, ?_, fun π hπ => ?_⟩
    · rw [ht]
      show u.dev.hostReady = true
      rw [hudev]
    · rw [ht]
      exact huupd
    · rw [hst]
      rw [ht]
      show (decide (u.dev.st = .armed) && !u.gov.accessHeld) = true ↔ _
      rw [hudev]
      simp
    · rw [ht]
      omega
    · rw [ht]
      exact hugrows.trans (n := 1) (.of_jrn 1 rfl)
    · rw [ht]
      exact hufree π hπ

/-! ### Host-ready (R163, R167, R175) -/

/-- An outcome told, or none to tell: Tally, the heads' logs and the debt. -/
theorem tellOutcome_spec {s : State} (hroom : s.tly.fifo.length < 32) : ∃ h x, tellOutcome s = { s with
    heads := h, tly := x, fld := { s.fld with outcomeDue := false } } ∧ x.fifo.length ≤ s.tly.fifo.length + 1 := by
  cases hdue : s.fld.outcomeDue with
  | false =>
    have hfld : s.fld = { s.fld with outcomeDue := false } := by rw [← hdue]
    refine ⟨s.heads, s.tly, ?_, by omega⟩
    rw [tellOutcome_none hdue, ← hfld]
  | true =>
    obtain ⟨-, honly⟩ := tellOutcome_due hdue hroom
    refine ⟨_, _, honly, ?_⟩
    unfold tellOutcome
    rw [if_pos hdue]
    dsimp only
    rw [chapenEvent_reaches_heads, tlyTrigger_room 0x10B 0 { s with fld := { s.fld with outcomeDue := false } } hroom]
    show (s.tly.fifo ++ _).length ≤ _
    rw [List.length_append]
    exact Nat.le_refl _

theorem restoreEnd_restoring {s : State} (hroom : s.tly.fifo.length < 32) : (restoreEnd s).fld.restoring = true ↔ s.fld.restoring = true ∧ s.granulesLeft ≠ 0 := by
  unfold restoreEnd
  split
  next hend =>
    simp only [Bool.and_eq_true, decide_eq_true_eq] at hend
    generalize hv : ({ s with fld := { s.fld with
      restoring := false, step := if s.fld.step = 6 then 7 else s.fld.step, restored := {}
      doneCs := min 65535 ((s.dev.aonUs - s.dev.startUs) / 10000) } } : State) = v
    have hfld : (tlyTrigger 0x10C 0 v).fld = v.fld := by rw [tlyTrigger_room 0x10C 0 v (by rw [← hv]; exact hroom)]
    rw [chapenEvent_reaches_heads, hfld, ← hv]
    simp [hend.2]
  next hnot =>
    constructor
    · intro hon
      refine ⟨hon, fun hleft => hnot ?_⟩
      rw [hon, hleft]
      rfl
    · exact fun h => h.1

/-- The state in which a restore's start is left. -/
def State.restored (s : State) : State :=
  let left := s.bed.mismatch || s.bed.censusFailed
  let v := if left then s else freeCkpts (s.journal (.restore s.fld.closesSeq))
  { v with
    fld := { v.fld with
      step := if left then 0 else 6, restoring := !left, unlockWait := false
      readyMs := min 65535 ((v.dev.aonUs - v.dev.startUs) / 1000) }
    boot := none }

theorem restored_spec (s : State) : ∃ b n m, s.restored = { s with
    bed := b, jrn := s.restored.jrn, boot := none
    fld := { s.fld with step := n, restoring := !(s.bed.mismatch || s.bed.censusFailed), unlockWait := false, readyMs := m } } ∧
    b.rows = s.bed.rows ∧ (s.bed.mismatch = false → s.bed.censusFailed = false → s.journalRoom = true →
      s.restored.jrn = s.jrn ++ [.restore s.fld.closesSeq]) := by
  unfold State.restored
  cases hleft : s.bed.mismatch || s.bed.censusFailed with
  | true => exact ⟨s.bed, _, _, rfl, rfl, fun hm hc => absurd hleft (by rw [hm, hc]; decide)⟩
  | false =>
    have hfree : ∃ x k, freeCkpts (s.journal (.restore s.fld.closesSeq)) = { s.journal (.restore s.fld.closesSeq) with
        bed := { s.bed with blocks := x, ckpts := k } } := by
      unfold freeCkpts
      split
      · exact ⟨s.bed.blocks, s.bed.ckpts, rfl⟩
      · exact ⟨_, _, rfl⟩
    obtain ⟨x, k, hfree⟩ := hfree
    dsimp only
    rw [if_neg Bool.false_ne_true, hfree]
    exact ⟨_, _, _, rfl, rfl, fun _ _ hroom => journal_of_journalRoom _ hroom⟩

theorem copyBundle_none {s : State} (h : s.brl.bundle = none) : copyBundle s = s := by
  unfold copyBundle
  rw [h]

theorem reverify_settled (e : StartEnv) {s : State} (h : s.upd.marker.state ≠ .received) : reverify e s = s := if_neg h

/-- With no bundle for this unit and no image found RECEIVED host-ready ends with the outcome told and restore's end. -/
theorem hostReadyNow_eq {s : State} (hbundle : (tellOutcome (leaveStart s.restored)).brl.bundle = none)
    (hmarker : (tellOutcome (leaveStart s.restored)).upd.marker.state ≠ .received) :
    hostReadyNow s = restoreEnd (tellOutcome (leaveStart s.restored)) := by
  have hsame : ∀ e : Option StartEnv, copyBundle (match e with
      | none => tellOutcome (leaveStart s.restored)
      | some e => reverify e (tellOutcome (leaveStart s.restored))) = tellOutcome (leaveStart s.restored) := by
    intro e
    cases e with
    | none => exact copyBundle_none hbundle
    | some e =>
      dsimp only
      rw [reverify_settled e hmarker, copyBundle_none hbundle]
  exact congrArg restoreEnd (hsame _)

/-- All that O45 asks of host-ready. -/
theorem yields_hostReady {s : State} (hst : s.dev.st = .reflood) (hended : s.fld.f4Ended = true) (hkey : s.pip.keyLoaded = true)
    (hbundle : s.brl.bundle = none) (hmarker : s.upd.marker.state ≠ .received) (hroom : s.tly.fifo.length + 4 ≤ 32) :
    Yields .hostReady s fun t =>
      t.dev.st = (if s.gov.cond.all = true ∧ s.gov.holdoffDone = true then .armed else .unarmed) ∧
      t.dev.hostReady = true ∧ t.upd.bootDone = true ∧ t.boot = none ∧ t.fld.unlockWait = false ∧
      (t.fld.restoring = true ↔ s.bed.mismatch = false ∧ s.bed.censusFailed = false ∧ s.granulesLeft ≠ 0) ∧
      (s.bed.mismatch = false → s.bed.censusFailed = false → s.journalRoom = true → ∃ l, t.jrn = s.jrn ++ .restore s.fld.closesSeq :: l) ∧
      (t.gov.pdom = true ↔ t.dev.st = .armed ∧ t.gov.accessHeld = false) ∧ t.fld.outcomeDue = false ∧
      t.map = s.map ∧ t.bed.rows = s.bed.rows ∧ ∀ x, t.byteAt x = s.byteAt x := by
  obtain ⟨b, n, m, honly, hrows, hjrn⟩ := restored_spec s
  have hexec : execHostReady s = .next (hostReadyNow s) := by
    refine congrArg Host.Outcome.next (if_pos ?_)
    unfold State.readyNow
    rw [hst, hended, hkey]
    rfl
  have heq := hostReadyNow_eq (s := s)
  generalize hv : s.restored = v at honly hjrn heq
  have hvroom : v.tly.fifo.length < 31 := by rw [honly]; show s.tly.fifo.length < 31; omega
  obtain ⟨hdev, hready, hupd, hpdom, hfifo, hgrows, hfree⟩ := leaveStart_spec hvroom (by rw [honly]; exact hkey)
  have hgov : v.gov = s.gov := by rw [honly]
  have hvtly : v.tly = s.tly := by rw [honly]
  have hvupd : v.upd = s.upd := by rw [honly]
  rw [hgov] at hdev
  rw [hvtly] at hfifo
  have hlfld := hfree (fun u => u.fld) fun _ _ _ _ _ _ _ _ _ _ _ => rfl
  have hlmap := hfree (fun u => u.map) fun _ _ _ _ _ _ _ _ _ _ _ => rfl
  have hlbed := hfree (fun u => u.bed) fun _ _ _ _ _ _ _ _ _ _ _ => rfl
  have hldram := hfree (fun u => u.dram) fun _ _ _ _ _ _ _ _ _ _ _ => rfl
  have hlboot := hfree (fun u => u.boot) fun _ _ _ _ _ _ _ _ _ _ _ => rfl
  have hlbrl := hfree (fun u => u.brl) fun _ _ _ _ _ _ _ _ _ _ _ => rfl
  have hllay := hfree (fun u => u.lay) fun _ _ _ _ _ _ _ _ _ _ _ => rfl
  generalize leaveStart v = w at *
  obtain ⟨h, x, htell, hx⟩ := tellOutcome_spec (s := w) (by omega)
  rw [heq (by rw [htell]; show w.brl.bundle = none; rw [hlbrl, honly]; exact hbundle)
    (by rw [htell]; show w.upd.marker.state ≠ _; rw [hupd, hvupd]; exact hmarker)] at hexec
  generalize tellOutcome w = y at htell hexec
  have hyroom : y.tly.fifo.length < 32 := by rw [htell]; show x.fifo.length < 32; omega
  have hrestoring := restoreEnd_restoring hyroom
  obtain ⟨eh, ex, on, en, er, ec, hend, -, -⟩ := restoreEnd_room hyroom
  have hyfld : y.fld = { v.fld with outcomeDue := false } := by rw [htell, hlfld]
  have hleft : y.granulesLeft = s.granulesLeft := by
    have hylay : y.lay = s.lay := by rw [htell]; exact hllay.trans (by rw [honly])
    have hgranules : y.granules = s.granules := congrArg (fun l => ({ s with lay := l } : State).granules) hylay
    have hrestored : y.fld.restored = s.fld.restored := by rw [hyfld, honly]
    unfold State.granulesLeft
    rw [hrestored, hgranules]
  rw [hyfld, hleft, honly] at hrestoring
  refine ⟨_, hexec, ?_⟩
  generalize restoreEnd y = t at hend hrestoring
  refine ⟨?_, ?_, ?_, ?_, ?_, ?_, fun hmis hcensus hjroom => ?_, ?_, ?_, ?_, ?_, fun a => ?_⟩
  · rw [hend, htell]
    exact hdev
  · rw [hend, htell]
    exact hready
  · rw [hend, htell]
    show w.upd.bootDone = true
    rw [hupd]
  · rw [hend, htell]
    show w.boot = none
    rw [hlboot, honly]
  · rw [hend]
    show y.fld.unlockWait = false
    rw [hyfld, honly]
  · rw [hrestoring]
    simp [and_assoc]
  · have hvjrn := hjrn hmis hcensus hjroom
    have hwords := JRec.words_le (.restore s.fld.closesSeq)
    have hwide : journalWords s.jrn + 4096 ≤ 262144 := by simpa [State.journalRoom] using hjroom
    obtain ⟨⟨l, hl⟩, -⟩ := hgrows (by rw [hvjrn, journalWords_append]; omega)
    refine ⟨l, ?_⟩
    rw [hend, htell]
    show w.jrn = _
    rw [hl, hvjrn, List.append_assoc]
    rfl
  · rw [hend, htell]
    exact hpdom
  · rw [hend]
    show y.fld.outcomeDue = false
    rw [hyfld]
  · rw [hend, htell]
    exact hlmap.trans (by rw [honly])
  · rw [hend, htell]
    show w.bed.rows = _
    rw [hlbed, honly]
    exact hrows
  · rw [hend, htell]
    show tblGet 0 w.dram a = _
    rw [hldram, honly]
    rfl

end Sys2Proof.Machine
end

section
/-!
PROOFS. A start from manufacture with an image and no layout (R427, R431), and the statement on starts, host-ready and trials.
-/
namespace Sys2Proof.Machine

/-! ### A machine with no layout (R431) -/

/-- What a start without a layout rests on: nothing in force, nothing in JOURNAL, in DRAM or under way, and access held. -/
structure Blank (i : Image) (s : State) : Prop where
  st : s.dev.st = .boot
  inForce : s.lay.inForce = none
  held : s.gov.accessHeld = true
  jrn : s.jrn = []
  dram : s.dram = []
  marker : s.upd.marker.state = .empty
  running : s.upd.running = false
  runVer : s.upd.runVer = i.version
  bundle : s.brl.bundle = none

theorem layoutOk_blank {i : Image} {s : State} (h : Blank i s) : s.layoutOk = false := by
  unfold State.layoutOk
  rw [h.inForce]
  rfl

theorem countOutcome_stale {s : State} (hlay : s.layoutOk = false) : ∃ a b c o n, countOutcome s = { s with
    gov := { s.gov with dsc := a, lastSave := b, lost := c }, jrn := closeImage s.jrn
    fld := { s.fld with outcomeDue := o }, upd := { s.upd with countedSeq := n } } := by
  unfold countOutcome
  rw [hlay]
  simp only [Bool.and_false, Bool.false_eq_true, if_false]
  exact ⟨_, _, _, _, _, rfl⟩

theorem signOwed_nothing {s : State} (hjrn : s.jrn = []) (howed : s.sal.owed = []) : signOwed s = { s with sal := { s.sal with owed := [] } } := by
  have hlist : s.jrn ++ s.sal.owed.map (fun r => JRec.salRec r) = [] := by rw [hjrn, howed]; rfl
  unfold signOwed
  rw [hlist]
  show ({ s with sal := { s.sal with owed := [] }, jrn := fitJournal [] } : State) = _
  rw [show fitJournal [] = [] from if_pos (by decide), ← hjrn]

theorem bootJournal_blank {i : Image} {s : State} (env : StartEnv) (h : Blank i s) (howed : s.sal.owed = []) (hsan : s.key.sanOpen = false)
    (hckpts : s.bed.ckpts = []) : Blank i (bootJournal env s) := by
  generalize hv : ({ s with
    dev := { s.dev with aonUs := s.dev.aonUs + env.bootUs }
    bed := { s.bed with ckpts := s.bed.ckpts.map fun c => dropBad env.badCopies c }
    pip := { s.pip with sanResumed := s.key.sanOpen } } : State) = v
  have hvsan : v.key.sanOpen = false := by rw [← hv]; exact hsan
  have hvlay : v.lay.inForce = none := by rw [← hv]; exact h.inForce
  have hkind : v.startKind = .none := by
    unfold State.startKind
    rw [hvlay]
  have hok : v.layoutOk = false := by
    unfold State.layoutOk
    rw [hvlay]
    rfl
  have hsigned : signOwed v = { v with sal := { v.sal with owed := [] } } :=
    signOwed_nothing (by rw [← hv]; exact h.jrn) (by rw [← hv]; exact howed)
  have hcounted : ∃ a b c o n, (if (signOwed v).upd.cause = 5 then signOwed v else countOutcome (signOwed v)) = { v with
      sal := { v.sal with owed := [] }, gov := { v.gov with dsc := a, lastSave := b, lost := c }, jrn := []
      fld := { v.fld with outcomeDue := o }, upd := { v.upd with countedSeq := n } } := by
    have hvjrn : v.jrn = [] := by rw [← hv]; exact h.jrn
    rw [hsigned]
    split
    · exact ⟨v.gov.dsc, v.gov.lastSave, v.gov.lost, v.fld.outcomeDue, v.upd.countedSeq, by rw [← hvjrn]⟩
    · obtain ⟨a, b, c, o, n, hcount⟩ := countOutcome_stale (s := { v with sal := { v.sal with owed := [] } }) hok
      exact ⟨a, b, c, o, n, by rw [hcount, show closeImage v.jrn = [] by rw [hvjrn]; rfl]⟩
  obtain ⟨a, b, c, o, n, hcounted⟩ := hcounted
  have hvckpts : v.bed.ckpts = [] := by rw [← hv]; exact congrArg (List.map _) hckpts
  unfold bootJournal
  rw [hv]
  simp only [hvsan, Bool.false_and, Bool.false_eq_true, if_false, hkind, hcounted, hvckpts]
  have hst : v.dev.st = .boot := by rw [← hv]; exact h.st
  refine ⟨hst, hvlay, ?_, rfl, ?_, ?_, ?_, ?_, ?_⟩
  · show v.gov.accessHeld = true
    rw [← hv]
    exact h.held
  · show v.dram = []
    rw [← hv]
    exact h.dram
  · show v.upd.marker.state = .empty
    rw [← hv]
    exact h.marker
  · show v.upd.running = false
    rw [← hv]
    exact h.running
  · show v.upd.runVer = _
    rw [← hv]
    exact h.runVer
  · show v.brl.bundle = none
    rw [← hv]
    exact h.bundle

/-- A start whose order ends without a layout is UNARMED with access held (R15, R431). -/
theorem endBoot_blank {i : Image} {s : State} (env : StartEnv) (h : Blank i s) : let t := endBoot env s
    t.dev.st = .unarmed ∧ t.dev.hostReady = true ∧ t.upd.running = false ∧ t.upd.runVer = i.version ∧ t.upd.bootDone = true ∧
      t.lay.inForce = none ∧ t.gov.accessHeld = true ∧ t.gov.pdom = false ∧ t.jrn = [] ∧ t.heads.a.inReset = false ∧ t.heads.b.inReset = false ∧
      t.svc.event = true ∧ ∀ x, t.byteAt x = 0 := by
  intro t
  generalize hz : bootTick (releaseHeads { s with
    fld := { s.fld with
      f4Ended := true, restoring := s.fld.restored ≠ {}, unlockWait := false
      readyMs := if s.fld.kind = .init then min 65535 ((s.dev.aonUs - s.dev.startUs) / 1000) else s.fld.readyMs
      step := if s.fld.kind = .init && s.fld.restored ≠ {} then 6 else s.fld.step }
    boot := none }) = z
  have hok := layoutOk_blank h
  have hzok : z.layoutOk = false := by
    rw [← hz]
    exact hok
  have hcond : z.gov.cond.all = false := by
    have hlayout : z.gov.cond.layoutOk = false := by
      rw [← hz]
      exact hok
    unfold ArmCond.all
    rw [hlayout]
    rfl
  have hkept : z.dev = s.dev ∧ z.lay = s.lay ∧ z.gov.accessHeld = s.gov.accessHeld ∧ z.jrn = s.jrn ∧ z.dram = s.dram ∧ z.upd = s.upd ∧
      z.brl = s.brl ∧ z.heads.a.inReset = false ∧ z.heads.b.inReset = false := by
    rw [← hz]
    exact ⟨rfl, rfl, rfl, rfl, rfl, rfl, rfl, rfl, rfl⟩
  obtain ⟨hdev, hlay, hheld, hjrn, hdram, hupd, hbrl, ha, hb⟩ := hkept
  have hshut : ∀ d u v, openAccess { z with dev := d, upd := u, svc := v } = { z with dev := d, upd := u, svc := v } := fun d u v => by
    refine if_neg ?_
    rw [show ({ z with dev := d, upd := u, svc := v } : State).layoutOk = false from hzok]
    simp
  have hleave : leaveStart z = holdArmSync (pdomSync { z with
      dev := { z.dev with st := .unarmed, hostReady := true, readyUs := z.dev.aonUs }, upd := { z.upd with bootDone := true }
      svc := { z.svc with event := true } }) := by
    unfold leaveStart
    rw [hshut]
    refine if_neg ?_
    show ¬ (z.gov.cond.all && _ && _) = true
    rw [hcond, Bool.false_and, Bool.false_and]
    exact Bool.false_ne_true
  have ht : t = leaveStart z := by
    have hend : t = copyBundle (reverify env (leaveStart z)) := by
      rw [← hz]
      rfl
    have hmarker : (leaveStart z).upd.marker.state ≠ .received := by
      rw [hleave]
      show z.upd.marker.state ≠ _
      rw [hupd, h.marker]
      exact UpdState.noConfusion
    rw [hend, reverify_settled env hmarker]
    refine copyBundle_none ?_
    rw [hleave]
    show z.brl.bundle = none
    rw [hbrl, h.bundle]
  rw [ht, hleave]
  refine ⟨rfl, rfl, ?_, ?_, rfl, ?_, ?_, rfl, ?_, ha, hb, rfl, fun x => ?_⟩
  · show z.upd.running = false
    rw [hupd, h.running]
  · show z.upd.runVer = _
    rw [hupd, h.runVer]
  · show z.lay.inForce = none
    rw [hlay, h.inForce]
  · show z.gov.accessHeld = true
    rw [hheld, h.held]
  · show z.jrn = []
    rw [hjrn, h.jrn]
  · show tblGet 0 z.dram x = 0
    rw [hdram, h.dram]
    rfl

/-! ### The start of a machine as manufactured (R427 to R435) -/

/-- A machine as it leaves manufacture, with an image in SLOT_A. -/
def freshWith (i : Image) : State := { State.reset with upd := { State.reset.upd with slotA := some i } }

/-- Past B1: what the Fault Collector, Tally, the sensors and the scan of the status planes have left stays open. -/
def freshAwake (i : Image) (cert : Bool) (x : Tly) (m : Thm) (c : Cel) : State :=
  { freshWith i with dev := { startDue := false }, tly := x, thm := m, cel := c, key := { rbgOk := true, certOk := cert } }

/-- Past B3, the image of SLOT_A running. -/
def freshRuns (i : Image) (cert save : Bool) (skipped : Nat) (f : Flt) (x : Tly) (h : PerHead HeadSt) (p : Pins) (m : Thm) (c : Cel) : State :=
  { freshAwake i cert x m c with
    flt := f, heads := h, pins := p
    upd := { slotA := some i, running := false, runVer := i.version, runSvn := i.svn, pendingSave := save, skipped := skipped } }

theorem freshRuns_event (i : Image) (cert save : Bool) (skipped : Nat) (x : Tly) (m : Thm) (c : Cel) (hroom : x.fifo.length < 32) :
    ∃ f y h p, fltRaise 0xB0 0 (freshRuns i cert save skipped {} x ⟨{}, {}⟩ {} m c) = freshRuns i cert save skipped f y h p m c := by
  generalize hs : freshRuns i cert save skipped {} x ⟨{}, {}⟩ {} m c = s
  have hlevel : (fltRecord 0xB0 s).2 ≤ 2 := by
    rw [fltRecord_level 0xB0 State.reset s (by rw [← hs]; rfl)]
    decide
  have hmild : s.mild 0xB0 = true := by
    unfold State.mild
    rw [decide_eq_true hlevel, show s.tly = x by rw [← hs]; rfl, decide_eq_true hroom]
    rfl
  have hframe := fltRaise_mild (fun u => ({ u with
    flt := (fltRaise 0xB0 0 s).flt, tly := (fltRaise 0xB0 0 s).tly, heads := (fltRaise 0xB0 0 s).heads, pins := (fltRaise 0xB0 0 s).pins } : State))
    (fun _ _ _ _ _ _ => rfl) 0xB0 0 (s := s) rfl rfl (by rw [← hs]; rfl) hmild
  refine ⟨(fltRaise 0xB0 0 s).flt, (fltRaise 0xB0 0 s).tly, (fltRaise 0xB0 0 s).heads, (fltRaise 0xB0 0 s).pins, ?_⟩
  generalize fltRaise 0xB0 0 s = z at hframe ⊢
  exact hframe.trans (by rw [← hs]; rfl)

theorem loseFields_noCopy (env : StartEnv) (slot b : Bool) (i : Image) (cert : Bool) (skipped : Nat) (f : Flt) (x : Tly) (h : PerHead HeadSt)
    (p : Pins) (m : Thm) (c : Cel) : loseFields env slot (freshRuns i cert b skipped f x h p m c) = freshRuns i cert b skipped f x h p m c := by
  cases slot <;> rfl

/-- With no copy of the settings a start reads none; a word that reads as READ_FAIL is an event of level 1 (R435). -/
theorem readSettings_fresh (env : StartEnv) (i : Image) (cert save : Bool) (x : Tly) (m : Thm) (c : Cel) (hroom : x.fifo.length < 32) :
    ∃ f y h p, readSettings env (freshRuns i cert save 0 {} x ⟨{}, {}⟩ {} m c) = freshRuns i cert save (min 65535 env.skipped) f y h p m c := by
  have hread : readSettings env (freshRuns i cert save 0 {} x ⟨{}, {}⟩ {} m c) =
      (fun u => loseFields env (if u.onTrial && u.upd.marker.trialBoot = 1 then u.upd.marker.cslot else u.upd.running) u)
        (if env.settingsFail then fltRaise 0xB0 0 (freshRuns i cert save (min 65535 env.skipped) {} x ⟨{}, {}⟩ {} m c)
          else freshRuns i cert save (min 65535 env.skipped) {} x ⟨{}, {}⟩ {} m c) := rfl
  rw [hread]
  split
  · obtain ⟨f, y, h, p, hevent⟩ := freshRuns_event i cert save (min 65535 env.skipped) x m c hroom
    rw [hevent]
    exact ⟨f, y, h, p, loseFields_noCopy ..⟩
  · exact ⟨_, _, _, _, loseFields_noCopy ..⟩

/-- What the journal's part of a start asks beside. -/
def Settled (i : Image) (t : State) : Prop := Blank i t ∧ t.sal.owed = [] ∧ t.key.sanOpen = false ∧ t.bed.ckpts = []

/-- What follows B7's settings: the supply's voltage, pans, marks, the source, k, the day and the bucket. -/
def valuesAfter (env : StartEnv) (s : State) : State :=
  let s := { s with
    dev := { s.dev with loaded := true }
    sal := { s.sal with vbkMv := railMv s.sal.cal.vbk s.sal.cal.ratioVbk env.vbkUv } }
  startPoints (startBucket (newDay (checkK (reanchorStart (sourceCheck (grantPans (checkMarks (firstPans s))))))))

theorem bootValues_eq (env : StartEnv) (s : State) : bootValues env s = valuesAfter env (loadSettings env (bootLayout env s)) := rfl

theorem bootValues_fresh (env : StartEnv) (i : Image) (cert save : Bool) (x : Tly) (m : Thm) (c : Cel) (hroom : x.fifo.length < 32) :
    Settled i (bootValues env (freshRuns i cert save 0 {} x ⟨{}, {}⟩ {} m c)) := by
  obtain ⟨f, y, h, p, hread⟩ := readSettings_fresh env i cert save x m c hroom
  have hload : loadSettings env (bootLayout env (freshRuns i cert save 0 {} x ⟨{}, {}⟩ {} m c)) =
      loadCold (freshRuns i cert save (min 65535 env.skipped) f y h p m c) := by
    rw [show bootLayout env (freshRuns i cert save 0 {} x ⟨{}, {}⟩ {} m c) = freshRuns i cert save 0 {} x ⟨{}, {}⟩ {} m c from rfl]
    unfold loadSettings
    rw [hread]
    rfl
  rw [bootValues_eq, hload]
  exact ⟨⟨rfl, rfl, rfl, rfl, rfl, rfl, rfl, rfl, rfl⟩, rfl, rfl, rfl⟩

theorem putTherm_blank {i : Image} {s : State} (p : ThermParams) (h : Blank i s) : Blank i (putTherm p s) :=
  ⟨h.st, h.inForce, h.held, h.jrn, h.dram, h.marker, h.running, h.runVer, h.bundle⟩

theorem bootSlot_blank {env : StartEnv} {i : Image} {b : Bool} {s : State}
    (h : Blank i (bootJournal env (bootValues env (stepFuses (runSlot b s))))) :
    bootSlot env b s = endBoot env (putTherm defaultTherm (bootJournal env (bootValues env (stepFuses (runSlot b s))))) := by
  unfold bootSlot
  exact if_neg (by rw [layoutOk_blank h]; decide)

/-- B4 to B11 of the fresh machine. -/
theorem bootSlot_fresh (env : StartEnv) (i : Image) (cert save : Bool) (x : Tly) (m : Thm) (c : Cel) (hroom : x.fifo.length < 32) : ∃ s,
    bootSlot env false { freshAwake i cert x m c with upd := { slotA := some i, pendingSave := save } } = endBoot env s ∧ Blank i s := by
  have hruns : stepFuses (runSlot false { freshAwake i cert x m c with upd := { slotA := some i, pendingSave := save } }) =
      freshRuns i cert save 0 {} x ⟨{}, {}⟩ {} m c := rfl
  obtain ⟨hvalues, howed, hsan, hckpts⟩ := bootValues_fresh env i cert save x m c hroom
  have hjournal := bootJournal_blank env hvalues howed hsan hckpts
  rw [← hruns] at hjournal
  exact ⟨_, bootSlot_blank hjournal, putTherm_blank _ hjournal⟩

/-- The image passes every check of R443 against a part as manufactured. -/
theorem slotCode_fresh {env : StartEnv} {i : Image} (cert save : Bool) (x : Tly) (m : Thm) (c : Cel) (hslot : env.slotABad = false)
    (hformat : i.formatOk = true) (hdevice : i.device = 0x4816) (hrev : i.revisions.testBit 1 = true) (hsig : i.sigOk = true)
    (hkey : i.keyOk = true) (htag : i.tagOk = true) :
    slotCode env false { freshAwake i cert x m c with upd := { slotA := some i, pendingSave := save } } = 0 := by
  show imageCode _ env.slotABad i = 0
  unfold imageCode
  rw [hslot, hformat, hdevice, hrev, hsig, hkey, htag]
  show (if i.svn < 0 then 4 else if ([] : NSet).contains i.rootSet then 5 else 0) = 0
  rw [if_neg (Nat.not_lt_zero _)]
  rfl

theorem bootTwo_fresh {env : StartEnv} {i : Image} {cert : Bool} {x : Tly} {m : Thm} {c : Cel}
    (hcode : ∀ save, slotCode env false { freshAwake i cert x m c with upd := { slotA := some i, pendingSave := save } } = 0) :
    ∃ save, bootTwo env .alone (freshAwake i cert x m c) =
      bootSlot env false { freshAwake i cert x m c with upd := { slotA := some i, pendingSave := save } } := by
  have hchoose : ∃ save, chooseSlot env .alone (freshAwake i cert x m c) =
      ({ freshAwake i cert x m c with upd := { slotA := some i, pendingSave := save } }, false) := ⟨_, rfl⟩
  obtain ⟨save, hchoose⟩ := hchoose
  refine ⟨save, ?_⟩
  have hverify : verifySlot env ({ freshAwake i cert x m c with upd := { slotA := some i, pendingSave := save } }, false) =
      ({ freshAwake i cert x m c with upd := { slotA := some i, pendingSave := save } }, some false) := by
    unfold verifySlot
    dsimp only
    rw [hcode save]
    rfl
  unfold bootTwo
  rw [hchoose, hverify]

/-! #### B1 of the fresh machine -/

/-- Every input reads 40 °C or nothing, no sensor is broken, the thresholds are the default ones and no thermal level stands. -/
structure Calm (m : Thm) : Prop where
  whole : ∀ n, (tblGet {} m.inputs n).broken = false
  reads : ∀ n, ∀ v ∈ (tblGet {} m.inputs n).temp, v = 640
  thresh : m.thresh = []
  derated : m.calDerated = false
  level : m.level = 0
  step : m.step = 0
  trip : m.trip = false
  shut : m.shut = false

/-- A reading of 40 °C taken by a whole input leaves it whole, at 40 °C. -/
theorem inputAfter_cool (n : Nat) {x : ThmInput} (h : x.broken = false) :
    (inputAfter n (.measured 640) x).broken = false ∧ (inputAfter n (.measured 640) x).temp = some 640 := by
  have hfloor : goodFloor n ≤ 640 := by
    unfold goodFloor
    split <;> omega
  obtain ⟨htemp, -, -, -, hbroken⟩ := inputAfter_good x hfloor
  refine ⟨?_, htemp⟩
  rw [hbroken, h]
  rfl

theorem tookReadings_calm {l : List (Nat × ThmReading)} (hl : ∀ r ∈ l, r.2 = .measured 640) {s : State} (h : Calm s.thm) (n : Nat) :
    (tblGet {} (s.tookReadings l) n).broken = false ∧ ∀ v ∈ (tblGet {} (s.tookReadings l) n).temp, v = 640 := by
  have htook : ∀ (l : List (Nat × ThmReading)) (t : Tbl ThmInput), (∀ r ∈ l, r.2 = .measured 640) →
      (∀ n, (tblGet {} t n).broken = false ∧ ∀ v ∈ (tblGet {} t n).temp, v = 640) →
      ∀ n, (tblGet {} (l.foldl (fun t r => tblUpd {} r.1 (inputAfter r.1 r.2) t) t) n).broken = false ∧
        ∀ v ∈ (tblGet {} (l.foldl (fun t r => tblUpd {} r.1 (inputAfter r.1 r.2) t) t) n).temp, v = 640 := by
    intro l
    induction l with
    | nil => exact fun t _ ht => ht
    | cons r l ih =>
      intro t hl ht
      rw [List.foldl_cons]
      refine ih _ (fun q hq => hl q (List.mem_cons_of_mem r hq)) fun n => ?_
      rw [hl r (List.mem_cons_self ..), tblGet_upd]
      split
      · obtain ⟨hwhole, htemp⟩ := inputAfter_cool r.1 (ht r.1).1
        exact ⟨hwhole, fun v hv => (Option.some.inj (htemp.symm.trans hv)).symm⟩
      · exact ht n
  exact htook _ _ (fun r hr => hl r (List.mem_filter.1 hr).1) (fun n => ⟨h.whole n, h.reads n⟩) n

theorem newBreaks_calm {l : List (Nat × ThmReading)} (hl : ∀ r ∈ l, r.2 = .measured 640) {s : State} (h : Calm s.thm) :
    s.newBreaks l = [] := by
  refine List.filter_eq_nil_iff.2 fun r _ => ?_
  rw [(tookReadings_calm hl h r.1).1]
  exact Bool.false_ne_true

/-- Calm sensors stay calm through a conversion at 40 °C, which changes the Thermal Guard alone. -/
theorem convert_calm {l : List (Nat × ThmReading)} (hl : ∀ r ∈ l, r.2 = .measured 640) {s : State} (h : Calm s.thm) :
    ∃ m, convert l s = { s with thm := m } ∧ Calm m := by
  obtain ⟨hot, n, hnamed⟩ := named_thm l s
  obtain ⟨a, b, htrim⟩ := trimSync_thm (s.named l)
  have hconvert : convert l s = (s.newBreaks l).foldl (fun v _ => fltRaise 0xA1 0 v) (trimSync (s.named l)) := rfl
  rw [hconvert, newBreaks_calm hl h, List.foldl_nil, htrim, hnamed]
  exact ⟨_, rfl, fun n => (tookReadings_calm hl h n).1, fun n => (tookReadings_calm hl h n).2,
    h.thresh, h.derated, h.level, h.step, h.trip, h.shut⟩

theorem converts_calm {l : List (List (Nat × ThmReading))} (hl : ∀ q ∈ l, ∀ r ∈ q, r.2 = .measured 640) {s : State} (h : Calm s.thm) :
    ∃ m, l.foldl (fun s l => convert l s) s = { s with thm := m } ∧ Calm m := by
  induction l generalizing s with
  | nil => exact ⟨s.thm, rfl, h⟩
  | cons q l ih =>
    obtain ⟨next, hconvert, hnext⟩ := convert_calm (hl q (List.mem_cons_self ..)) h
    obtain ⟨m, hm, hcalm⟩ := ih (fun p hp => hl p (List.mem_cons_of_mem q hp)) (s := convert q s) (by rw [hconvert]; exact hnext)
    refine ⟨m, ?_, hcalm⟩
    rw [List.foldl_cons, hm, hconvert]

theorem thmReads_calm {s : State} (h : Calm s.thm) : ∀ e ∈ s.thmReads, e.2 = 640 := by
  intro e he
  obtain ⟨n, -, hn⟩ := List.mem_filterMap.1 he
  have hwhole : (s.thmIn n).broken = false := h.whole n
  have hshows : (s.thmIn n).shows = (s.thmIn n).temp := by
    unfold ThmInput.shows
    rw [hwhole]
    rfl
  dsimp only at hn
  rw [hwhole, hshows] at hn
  obtain ⟨v, hv, rfl⟩ := Option.map_eq_some_iff.1 (show Option.map (fun t => (n, t)) (s.thmIn n).temp = some e from hn)
  exact h.reads n v hv

/-- No calm input reaches a threshold that lies above 40 °C. -/
theorem atOrAbove_calm {s : State} (h : Calm s.thm) (f : ThmThresh → Nat) (below : Int) (hf : 640 < (f {} : Int) * 16 - below * 16) :
    s.atOrAbove f below s.thmReads = [] := by
  have hlimit : ∀ n, s.limit (f (s.thresh n)) = (f {} : Int) * 16 := by
    intro n
    unfold State.limit State.thresh
    rw [h.thresh, h.derated, if_neg Bool.false_ne_true, Int.sub_zero]
    rfl
  refine List.filter_eq_nil_iff.2 fun e he => ?_
  rw [hlimit, thmReads_calm h e he]
  exact fun hle => absurd (of_decide_eq_true hle) (by omega)

theorem bootShut_calm {s : State} (h : Calm s.thm) : s.bootShut = none := by
  unfold State.bootShut
  rw [atOrAbove_calm h ThmThresh.shut 0 (by decide)]
  rfl

theorem syncs_calm {s : State} (h : Calm s.thm) : levelSync (warnSync s) = { s with thm := { s.thm with warned := [] } } := by
  have hwarn : warnSync s = { s with thm := { s.thm with warned := [] } } := by
    unfold warnSync
    dsimp only
    rw [atOrAbove_calm h ThmThresh.warn 0 (by decide), atOrAbove_calm h ThmThresh.warn 5 (by decide),
      atOrAbove_calm h ThmThresh.throttle 0 (by decide)]
    rfl
  have hlevel : ({ s with thm := { s.thm with warned := [] } } : State).thmLevel = s.thm.level := by
    unfold State.thmLevel
    rw [h.level, h.trip, h.shut, h.step]
    rfl
  rw [hwarn]
  exact if_pos hlevel

/-- The fresh machine before B1's scan. -/
def freshStrapped (i : Image) (x : Tly) (m : Thm) : State :=
  { freshWith i with dev := { startDue := false }, tly := x, thm := m }

theorem strapped_fresh {env : StartEnv} (i : Image) (hlow : env.recoverLow = false) (hrole : env.role = 0) :
    ∃ x, (freshWith i).strapped env = freshStrapped i x {} ∧ x.fifo.length < 32 := by
  have hstart : (freshWith i).strapped env = tallyStart env.tallyOk env.ringTestOk { freshWith i with dev := { startDue := false } } := by
    unfold State.strapped
    rw [hlow, hrole]
    rfl
  have htally : ∃ x, x.fifo = [] ∧ tallyStart env.tallyOk env.ringTestOk { freshWith i with dev := { startDue := false } } =
      tlyTell 0x101 0 (freshStrapped i x {}) := by
    unfold tallyStart
    exact ⟨_, rfl, rfl⟩
  obtain ⟨x, hempty, htally⟩ := htally
  have hstrap := hstart.trans htally
  have hroom : (freshStrapped i x {}).tly.fifo.length < 32 := by
    show x.fifo.length < 32
    rw [hempty]
    decide
  have hfifo := tlyTell_fifo 0x101 0 hroom
  refine ⟨(tlyTell 0x101 0 (freshStrapped i x {})).tly, hstrap.trans (tlyTell_room 0x101 0 _ hroom), ?_⟩
  rw [hfifo, show (freshStrapped i x {}).tly.fifo = [] from hempty]
  exact (by decide : 1 < 32)

theorem bootThermal_fresh {env : StartEnv} (i : Image) (x : Tly) (hcalib : env.calib0Bad = false ∨ env.calib1Bad = false)
    (hcool : ∀ q ∈ env.conversions, ∀ r ∈ q, r.2 = .measured 640) :
    ∃ m, bootThermal env (freshStrapped i x {}) = freshStrapped i x m ∧ Calm m := by
  have hmatch : matchCalib env (freshStrapped i x {}) = freshStrapped i x {} := if_pos (by
    show (_ || _ || decide (({} : CalibSet) = {})) = true
    rw [decide_eq_true rfl, Bool.or_true])
  obtain ⟨set, hboot⟩ := bootThermal_read (freshStrapped i x {}) hcalib
  rw [hmatch] at hboot
  obtain ⟨m, hm, hcalm⟩ := converts_calm (fun q hq => hcool q (List.mem_of_mem_take hq))
    (s := putTherm defaultTherm ((freshStrapped i x {}).sensing set))
    ⟨fun _ => rfl, fun _ _ hv => absurd hv (Option.not_mem_none _), rfl, rfl, rfl, rfl, rfl, rfl⟩
  exact ⟨m, hboot.trans hm, hcalm⟩

theorem bootOne_fresh {env : StartEnv} (i : Image) (x : Tly) (m : Thm) (hrbg : env.rbgOk = true) :
    ∃ c, bootOne env (freshStrapped i x m) = freshAwake i env.certOk x m c := by
  unfold bootOne
  rw [hrbg]
  exact ⟨_, rfl⟩

/-- What a start that does not recover does once no sensor shuts it: the header, the watchdog's count and the role decide. -/
def pastSensors (env : StartEnv) (s : State) : State :=
  if !env.headerOk then enterRecovery 4 s
  else
    let s := bootOne env s
    if 3 ≤ s.upd.wdCount then enterRecovery 3 s
    else if s.brl.role ≠ 0 then waitGroup env s
    else bootTwo env .alone s

theorem bootAll_pastSensors {env : StartEnv} {s : State} (hfuse : env.fuseBad = false) (hlow : env.recoverLow = false)
    (hshut : (bootThermal env (s.strapped env)).bootShut = none) :
    bootAll env s = pastSensors env { levelSync (warnSync (bootThermal env (s.strapped env))) with
      cel := { (levelSync (warnSync (bootThermal env (s.strapped env)))).cel with headerOk := env.headerOk } } := by
  unfold bootAll
  refine (if_neg (by rw [hfuse]; decide)).trans ((if_neg (by rw [hlow]; decide)).trans ?_)
  show (match (bootThermal env (s.strapped env)).bootShut with
    | some e => thermalHalt 3 e (bootThermal env (s.strapped env))
    | none => _) = _
  rw [hshut]
  rfl

theorem pastSensors_running {env : StartEnv} {s v : State} (hheader : env.headerOk = true) (hone : bootOne env s = v)
    (hcount : v.upd.wdCount < 3) (hrole : v.brl.role = 0) : pastSensors env s = bootTwo env .alone v := by
  unfold pastSensors
  dsimp only
  rw [hheader, hone]
  exact (if_neg (Nat.not_le.2 hcount)).trans (if_neg (by rw [hrole]; decide))

/-- A machine as manufactured, with an image that verifies, runs it and ends UNARMED with no layout. -/
theorem yields_start_fresh {env : StartEnv} {i : Image} (hfuse : env.fuseBad = false) (hlow : env.recoverLow = false) (hrole : env.role = 0)
    (hheader : env.headerOk = true) (hcalib : env.calib0Bad = false ∨ env.calib1Bad = false) (hrbg : env.rbgOk = true)
    (hcool : ∀ q ∈ env.conversions, ∀ r ∈ q, r.2 = .measured 640)
    (hcode : ∀ cert save x m c, slotCode env false { freshAwake i cert x m c with upd := { slotA := some i, pendingSave := save } } = 0) :
    Yields (.startDevice env) (freshWith i) fun t =>
      t.dev.st = .unarmed ∧ t.dev.hostReady = true ∧ t.upd.running = false ∧ t.upd.runVer = i.version ∧ t.upd.bootDone = true ∧
      t.lay.inForce = none ∧ t.gov.accessHeld = true ∧ t.gov.pdom = false ∧ t.jrn = [] ∧ t.heads.a.inReset = false ∧ t.heads.b.inReset = false ∧
      t.svc.event = true ∧ ∀ x, t.byteAt x = 0 := by
  obtain ⟨x, hstrap, hroom⟩ := strapped_fresh i hlow hrole
  obtain ⟨m, hthermal, hcalm⟩ := bootThermal_fresh i x hcalib hcool
  obtain ⟨c, hone⟩ := bootOne_fresh i x { m with warned := [] } hrbg
  obtain ⟨save, htwo⟩ := bootTwo_fresh (i := i) (cert := env.certOk) (x := x) (m := { m with warned := [] }) (c := c) fun save => hcode ..
  obtain ⟨s, hslot, hblank⟩ := bootSlot_fresh env i env.certOk save x { m with warned := [] } c hroom
  have hboot : bootAll env (freshWith i) = bootTwo env .alone (freshAwake i env.certOk x { m with warned := [] } c) := by
    have hpast := bootAll_pastSensors (s := freshWith i) hfuse hlow (by
      rw [hstrap, hthermal]
      exact bootShut_calm (s := freshStrapped i x m) hcalm)
    rw [hstrap, hthermal, syncs_calm (s := freshStrapped i x m) hcalm, hheader] at hpast
    exact hpast.trans (pastSensors_running hheader hone (by decide : (0 : Nat) < 3) rfl)
  rw [htwo, hslot] at hboot
  exact ⟨_, (execStartDevice_due env rfl rfl rfl).trans (congrArg Host.Outcome.next hboot), endBoot_blank env hblank⟩

/-- Settles O45: a start that enters RECOVERY, one that is not due, one without a layout, host-ready, the watchdog count, and a trial. -/
theorem startAndConfirm : Obligations.StartAndConfirm := by
  unfold Obligations.StartAndConfirm
  refine ⟨?recovers, ?notDue, ?fresh, ?notReady, ?hostReady, ?watchdog, ?trial⟩
  case recovers =>
    intro s env hst hdue hup recovers hfuse
    exact ⟨fun hlow hflags howed => yields_start_strap hst hdue hup hfuse hlow hflags howed,
      fun hlow hheader hconv hcalib _ _ _ => yields_start_noHeader hst hdue hup hfuse hlow hheader hconv hcalib⟩
  case notDue =>
    intro s env hno
    exact ⟨s, execStartDevice_notDue env hno, rfl⟩
  case fresh =>
    intro env i hfuse hlow hrole hheader hcalib hrbg hslot hconv hformat hdevice hrev hsig hkey htag _
    have hcool : ∀ q ∈ env.conversions, ∀ r ∈ q, r.2 = .measured 640 := by
      rw [hconv]
      intro q hq r hr
      obtain ⟨n, -, rfl⟩ := List.mem_map.1 ((List.mem_replicate.1 hq).2 ▸ hr)
      rfl
    exact yields_start_fresh hfuse hlow hrole hheader hcalib hrbg hcool fun cert save x m c =>
      slotCode_fresh cert save x m c hslot hformat hdevice hrev hsig hkey htag
  case notReady =>
    intro s hno
    refine ⟨s, congrArg Host.Outcome.next (if_neg ?_), rfl⟩
    unfold State.readyNow
    rcases hno with h | h | h
    · simp [h]
    · simp [h]
    · simp [h]
  case hostReady =>
    intro s hst hended hkey hbundle hmarker hroom
    exact yields_hostReady hst hended hkey hbundle hmarker hroom
  case watchdog =>
    intro s hdone hrun
    exact ⟨_, congrArg Host.Outcome.next (if_pos (by rw [hdone, hrun]; rfl)), rfl⟩
  case trial =>
    intro s i hstate hrunning hready hdone hrun hrefuse hfor hslot
    refine yields_confirmTrial ?_ hslot
    unfold State.mayConfirm State.onTrial
    rw [hstate, hready, hdone, hrun, hrefuse, hfor, decide_eq_true hrunning]
    rfl

end Sys2Proof.Machine
end
